-- ==== Sys2Proof/Word.lean ====
section
/-!
DEFINITION. The words of the RSN-8: bytes, registers and stored codewords, and their plainest readings.
-/

namespace Sys2Proof

/-- One byte of a structure, a frame or a message (R7: little-endian where the device defines it). -/
abbrev Byte := BitVec 8

/-- A 32 bit register: FP32 values, loop counters and U32 entries held whole. -/
abbrev Word32 := BitVec 32

/-- A 64 bit register: walker registers, engine control registers and dictionary U64 values. -/
abbrev Word64 := BitVec 64

/-- A stored codeword of the W288 code: 32 data bytes in bits 255..0, 4 check bytes above them. -/
abbrev Code288 := BitVec 288

/-- The 256 data bits of one word. -/
abbrev Word256 := BitVec 256

/-- Errors that a command's words meet: each a word of the run, a symbol position and an error value (R205). -/
abbrev ErrorList := List (Nat × Nat × Nat)

/-- The number whose little-endian bytes are `bs` (R7). -/
def leNat : List Byte → Nat
  | [] => 0
  | b :: bs => b.toNat + 256 * leNat bs

/-- The low `n` bytes of `v`, least significant first (R7). -/
def natLE : Nat → Nat → List Byte
  | 0, _ => []
  | n + 1, v => BitVec.ofNat 8 v :: natLE n (v / 256)

/-- Bits `hi`..`lo` of `v`, both included (R6). -/
def bitsOf (v hi lo : Nat) : Nat := v / 2 ^ lo % 2 ^ (hi + 1 - lo)

/-- Bit `i` of `v` (R6). -/
def bitOf (v i : Nat) : Bool := v / 2 ^ i % 2 == 1

/-- `v` with bit `i` set. -/
def setBit (v i : Nat) : Nat := if bitOf v i then v else v + 2 ^ i

/-- `v` with bit `i` cleared. -/
def clearBit (v i : Nat) : Nat := if bitOf v i then v - 2 ^ i else v

/-- 1 for true and 0 for false. -/
def boolNat (b : Bool) : Nat := if b then 1 else 0

end Sys2Proof
end

