-- ==== Sys2Proof/Syntax.lean ====
section
/-!
DEFINITION. The commands of the RSN-8: one constructor for each row of the opcode table, with what the command carries.
Operands named after a unit number it; bytes and readings that come from outside the device travel in the command.
-/

namespace Sys2Proof

inductive Instr where
  /-- LOADCOL (R40). SCALE slot operation that loads SCALE_COL registers from stockpot source values, converting them exactly to FP32. -/
  | loadcol (sfmt first count src : Nat)
  /-- LOADROW (R40). SCALE slot operation that loads SCALE_ROW registers from stockpot source values. -/
  | loadrow (sfmt first count src : Nat)
  /-- FILLCOL (R38). SCALE slot operation that writes one FP32 value into a range of SCALE_COL registers. -/
  | fillcol (first count : Nat) (value : Word32)
  /-- FILLROW (R38). SCALE slot operation that writes one FP32 value into a range of SCALE_ROW registers. -/
  | fillrow (first count : Nat) (value : Word32)
  /-- SETOUT (R38). SCALE slot operation that sets OUT_SCALE. -/
  | setout (value : Word32)
  /-- SCALE_SLOT_COMPLETE (R42). A SCALE slot finishes loading its registers, releasing any sweep drain held at the scale stage. -/
  | scaleSlotComplete
  /-- MM (R92). GRID slot sweep: streams vectors through the stationary set RSEL and writes rim outputs. -/
  | mm (slot stalled : Nat)
  /-- WLOAD (R66). GRID slot load of a stationary block, group scales and cutter basis into register set RSEL. -/
  | wload (slot : Nat)
  /-- GRID_OP_START (R94). The GSQ starts a held MM injection or WLOAD once the ordering holds of R70 and R94 have cleared. -/
  | gridOpStart (waited : Nat)
  /-- WLOAD_COMPLETE (R69). A WLOAD finishes writing its register set and records its formats. -/
  | wloadComplete
  /-- MM_COMPLETE (R96). A sweep's last output is converted and written; its saturation count becomes final. -/
  | mmComplete
  /-- RERUN_COMPLETE (R97). A wide re-run ends, records WIDE_RERUN and a remapping, and reloads the set held before abandonment. -/
  | rerunComplete
  /-- STACK_ACCESS (R119). A plain read or write run reaches a stack bank through its base die, decoding and encoding words. -/
  | stackAccess (reader tenant addr len : Nat) (data : Option (List Byte)) (hits glitches : ErrorList)
  /-- ADD_BURST_REQUEST (R126). A memory-side add request is read, added and written back burst by burst at the base die. -/
  | addBurstRequest (issuer tenant addr fmt : Nat) (data : List Byte) (fetch : Bool)
  /-- REFRESH (R122). A bank's refresh interval expires and it refreshes the next 3 rows, with absolute priority. -/
  | refresh (st bank : Nat)
  /-- SEG_MODE_CHANGE (R116). A write of SegModeLow or SegModeHigh requests a change of segment modes, checked against protected ranges. -/
  | segModeChange (st : Nat) (high : Bool) (value : Nat)
  /-- SEG_MODE_CHANGE_DONE (R117). Old-mode accesses have completed; valid bits are cleared, the new mode applies and held accesses are released. -/
  | segModeChangeDone (st : Nat)
  /-- STK_RPR_DATA_WRITE (R138). A write of a repair entry through STK_RPR_DATA, accepted only in TEST and within ranges. -/
  | stkRprDataWrite (st value : Nat)
  /-- ROWCOPY (R184). LADLE operation copying rows from ROW0 to DROW0 in each bank. -/
  | rowcopy (st slot : Nat)
  /-- ROWINIT (R184). LADLE operation writing a 32 B pattern into every word of rows. -/
  | rowinit (st slot : Nat)
  /-- ROWLOGIC (R184). LADLE operation combining two row sources word by word with AND, OR, XOR or ANDNOT. -/
  | rowlogic (st slot : Nat)
  /-- GEMV4 (R168). LADLE operation multiplying weight rows by up to four vectors, with k-parts merged in the merge unit. -/
  | gemv4 (st slot : Nat)
  /-- SCORE (R173). LADLE attention operation over key-value pages producing per-page records or scores. -/
  | score (st slot : Nat)
  /-- AXPY (R175). LADLE operation forming weighted sums of value rows. -/
  | axpy (st slot : Nat)
  /-- EWISE (R177). LADLE element operation applying EXP, SILU, GELU, MULV, ADDV or SILUMULV. -/
  | ewise (st slot : Nat)
  /-- NORMSTAT (R179). LADLE operation writing sum, sum of squares, count and maximum records per vector. -/
  | normstat (st slot : Nat)
  /-- NORMAPPLY (R180). LADLE operation applying normalisation with gain and optional offset. -/
  | normapply (st slot : Nat)
  /-- ROPE (R181). LADLE operation applying rotary position rotation, optionally appending keys to KV pages. -/
  | rope (st slot : Nat)
  /-- QUANT (R182). LADLE operation scaling and converting elements, optionally appending values to KV pages. -/
  | quant (st slot : Nat)
  /-- CUTAPPLY (R185). LADLE operation adding cutter basis contributions into destination vectors. -/
  | cutapply (st slot : Nat)
  /-- MERGE (R186). LADLE operation in the merge unit folding GEMV4 partials or attention records. -/
  | merge (st slot : Nat)
  /-- ROW_BOUNDARY (R152). A ladle row operation ends; the bank serves due refresh, waiting accesses and then the next row operation. -/
  | rowBoundary (st bank : Nat)
  /-- VECTOR_SLICE_ARRIVE (R156). A vector slice arrives over the vector bus, releasing a ladle waiting at its first column. -/
  | vectorSliceArrive (st bank waited : Nat)
  /-- LADLE_RESUME (R153). A suspended ladle sequence resumes with a fresh activation once its bank or place is free. -/
  | ladleResume (st bank : Nat)
  /-- LADLE_SLOT_COMPLETE (R192). The merge unit writes a slot's last result, or its last row operation ends; a DIE-scope release. -/
  | ladleSlotComplete (st : Nat)
  /-- FRAME_RETIRE_COMPLETE (R236). Frame migration to its donor ends; the remap entry is written and waiting accesses released. -/
  | frameRetireComplete (st : Nat)
  /-- RETIRE_PENDING_DONOR (R237). A donor frame becomes free for a frame awaiting retirement, and retirement starts. -/
  | retirePendingDonor (st : Nat)
  /-- FIELD_REPAIR_WRITE (R242). The device writes a new signed entry into the field repair record in boot flash. -/
  | fieldRepairWrite
  /-- WHISK_ROW (R224). The whisk reads and scrubs one row of an idle bank at its interval. -/
  | whiskRow (st bank : Nat) (hits : ErrorList)
  /-- WHISK_SLOW (R227). The current whisk lap's elapsed time passes LapLimit and WHISK_SLOW is recorded. -/
  | whiskSlow (st : Nat)
  /-- FRAME_ENTER_TEST (R243). WC_TFRAME ENTER_TEST command places a free frame into checker TEST. -/
  | frameEnterTest (agent tenant st frame : Nat)
  /-- FRAME_TEST_ENTERED (R243). A frame's zero codewords are written and it is in TEST, INTEST reading 1. -/
  | frameTestEntered (st : Nat)
  /-- FRAME_LEAVE_TEST (R246). WC_TFRAME LEAVE_TEST command takes a frame out of TEST, clearing its valid bits. -/
  | frameLeaveTest (agent tenant st frame : Nat)
  /-- WRDATA (R245). Raw write of WC_TDATA as data bits, keeping stored check bits. -/
  | wrdata (agent tenant st : Nat)
  /-- WRCHK (R245). Raw write of WC_TCHK as check bits, keeping stored data bits. -/
  | wrchk (agent tenant st : Nat)
  /-- WRBOTH (R245). Raw write of both data and check bits of a TEST word. -/
  | wrboth (agent tenant st : Nat)
  /-- RDRAW (R245). Raw read of a TEST word's data and check bits into WC_TDATA and WC_TCHK. -/
  | rdraw (agent tenant st : Nat)
  /-- RDDEC (R245). Decoded read of a TEST word, recording class, position and syndromes. -/
  | rddec (agent tenant st : Nat)
  /-- MOVE_COPY (R259). Mover COPY of a region between tensors, with clamp, clip and optional transpose. -/
  | moveCopy (m : Nat) (remote : List Byte) (poisoned : List Nat)
  /-- MOVE_ADD (R263). Mover ADD sending destination bursts to the memory-side adders. -/
  | moveAdd (m : Nat) (remote : List Byte) (poisoned : List Nat)
  /-- MOVE_DISCARD (R221). Mover DISCARD clearing valid bits of a stack range. -/
  | moveDiscard (m : Nat)
  /-- MOVER_DESC_START (R271). A mover takes the next descriptor from its queue and checks it before moving any byte. -/
  | moverDescStart (m : Nat)
  /-- MOVER_DESC_COMPLETE (R275). A descriptor's writes have all completed; completion record written, release made. -/
  | moverDescComplete (m : Nat)
  /-- MOVER_HOST_ERROR (R276). A host request returns an error completion; the mover stops with PARTIAL and MOVE_HOST. -/
  | moverHostError (m done : Nat) (remote : List Byte) (poisoned : List Nat)
  /-- DISCARD_APPLIED (R222). A discard finishes clearing row valid bits in one stack. -/
  | discardApplied (m : Nat)
  /-- SEQ_QUEUE_POST (R339). One aligned 64 B write to a sequencer or walker Q_POST window enqueues an entry or is dropped. -/
  | seqQueuePost (poster tenant : Nat) (priv : Bool) (serving : Option Nat) (addr : Nat) (data : List Byte)
  /-- MOVER_QUEUE_POST (R339). Three 64 B bursts to a mover or pool window assemble and enqueue a descriptor. -/
  | moverQueuePost (poster tenant : Nat) (priv : Bool) (addr : Nat) (data : List Byte)
  /-- QENTRY_STEP (R343). A sequencer takes a STEP entry and issues its word once. -/
  | qentryStep (eng : Nat)
  /-- QENTRY_CALL (R343). A sequencer takes a CALL entry, loads arguments and runs the routine at ENTRY. -/
  | qentryCall (eng : Nat)
  /-- QENTRY_FLIP (R343). A sequencer takes a FLIP entry, performs BANKFLIP and runs the new bank's initial routine. -/
  | qentryFlip (eng : Nat)
  /-- STEP_WORD_ISSUE (R327). A sequencer checks a fetched step word whole and issues its present slots in order. -/
  | stepWordIssue (eng : Nat)
  /-- SYNC_WAIT_END (R330). A SYNC DONE, MEMGE or MEMEQ wait is satisfied; acquire, then the word issues and its signal is written. -/
  | syncWaitEnd (eng : Nat)
  /-- SYNC_MEM_POLL (R358). Every 64 cycles a MEMGE or MEMEQ wait re-reads its location. -/
  | syncMemPoll (eng : Nat)
  /-- MOVE_POST (R334). MOVE slot POST reads a template, patches it and posts the descriptor. -/
  | movePost (eng : Nat)
  /-- SETA (R336). CTRL SETA sets an address register. -/
  | seta (eng rd imm : Nat)
  /-- ADDA (R336). CTRL ADDA adds a signed immediate to an address register. -/
  | adda (eng rd ra imm : Nat)
  /-- SETC (R336). CTRL SETC sets a loop counter. -/
  | setc (eng cn imm : Nat)
  /-- MADDC (R336). CTRL MADDC adds a counter times an immediate to an address register. -/
  | maddc (eng rd ra cn imm : Nat)
  /-- JUMP (R336). CTRL JUMP continues at TARGET. -/
  | jump (eng target : Nat)
  /-- LOOP (R336). CTRL LOOP decrements a counter and branches while it is not zero. -/
  | loop (eng cn target : Nat)
  /-- JCZ (R336). CTRL JCZ branches when a counter is zero. -/
  | jcz (eng cn target : Nat)
  /-- CALL (R336). CTRL CALL pushes the return offset and continues at TARGET. -/
  | call (eng target : Nat)
  /-- RET (R337). CTRL RET pops the return stack, or ends the routine when it is empty. -/
  | ret (eng : Nat)
  /-- BANKFLIP (R337). CTRL BANKFLIP selects the other committed bank and runs its entry point. -/
  | bankflip (eng : Nat)
  /-- CTRL_HALT (R336). CTRL HALT places the engine in HALTED after the word. -/
  | ctrlHalt (eng : Nat)
  /-- CTRL_STOP (R336). CTRL STOP stops the engine as the STOP command does. -/
  | ctrlStop (eng : Nat) (flip : Bool)
  /-- NEST (R347). NEST instruction issuing its body over a multi-level iteration grid in RUN_NEST. -/
  | nest (eng : Nat)
  /-- ENTRY_COMPLETE (R344). All slots of a queue entry have completed and its routine ended; the completion record is written. -/
  | entryComplete (eng : Nat)
  /-- COMMIT (R352). ENG_CMD COMMIT marks a bank committed with length and entry point. -/
  | commit (agent tenant eng : Nat) (bank : Bool) (len entry ctag : Nat)
  /-- SELECT (R352). ENG_CMD SELECT chooses the fetch bank. -/
  | select (agent tenant eng : Nat) (bank : Bool) (ctag : Nat)
  /-- START_SERVICE (R352). ENG_CMD START_SERVICE moves a LOADED engine to RUN_SERVICE. -/
  | startService (agent tenant eng ctag : Nat)
  /-- START_NEST (R352). ENG_CMD START_NEST moves a LOADED sequencer to RUN_NEST. -/
  | startNest (agent tenant eng ctag : Nat)
  /-- ENG_HALT (R354). ENG_CMD HALT stops issue at the next word or iteration boundary. -/
  | engHalt (agent tenant eng ctag : Nat)
  /-- ENG_RESUME (R352). ENG_CMD RESUME returns a HALTED engine to the state it left. -/
  | engResume (agent tenant eng ctag : Nat)
  /-- ENG_STOP (R355). ENG_CMD STOP ends issue at once and drains the engine. -/
  | engStop (agent tenant eng : Nat) (flip : Bool) (ctag : Nat)
  /-- CLEARQ (R355). ENG_CMD CLEARQ discards every queued entry accepted before it. -/
  | clearq (agent tenant eng ctag : Nat)
  /-- ENGINE_DRAIN_END (R355). A stopping or faulting engine's unfinished slots complete and its state changes. -/
  | engineDrainEnd (eng : Nat)
  /-- ENGINE_WATCHDOG (R357). A word stays unissued beyond ENG_WDOG.LIMIT and the engine enters FAULTED. -/
  | engineWatchdog (eng : Nat)
  /-- ALU_ADD (R368). Walker ALU ADD. -/
  | aluAdd (core thread : Nat)
  /-- ALU_SUB (R368). Walker ALU SUB. -/
  | aluSub (core thread : Nat)
  /-- ALU_AND (R368). Walker ALU AND. -/
  | aluAnd (core thread : Nat)
  /-- ALU_OR (R368). Walker ALU OR. -/
  | aluOr (core thread : Nat)
  /-- ALU_XOR (R368). Walker ALU XOR. -/
  | aluXor (core thread : Nat)
  /-- SHL (R368). Walker ALU shift left. -/
  | shl (core thread : Nat)
  /-- SHR (R368). Walker ALU logical shift right. -/
  | shr (core thread : Nat)
  /-- SAR (R368). Walker ALU arithmetic shift right. -/
  | sar (core thread : Nat)
  /-- MUL (R368). Walker ALU low 64-bit product. -/
  | mul (core thread : Nat)
  /-- MULHU (R368). Walker ALU high unsigned 64-bit product. -/
  | mulhu (core thread : Nat)
  /-- MINU (R368). Walker ALU unsigned minimum. -/
  | minu (core thread : Nat)
  /-- MAXU (R368). Walker ALU unsigned maximum. -/
  | maxu (core thread : Nat)
  /-- MINS (R368). Walker ALU signed minimum. -/
  | mins (core thread : Nat)
  /-- MAXS (R368). Walker ALU signed maximum. -/
  | maxs (core thread : Nat)
  /-- SLTU (R368). Walker ALU unsigned set-less-than. -/
  | sltu (core thread : Nat)
  /-- SLT (R368). Walker ALU signed set-less-than. -/
  | slt (core thread : Nat)
  /-- FORD (R368). Walker ALU ordered key of an FP32 value. -/
  | ford (core thread : Nat)
  /-- POPC (R368). Walker ALU population count. -/
  | popc (core thread : Nat)
  /-- CLZ (R368). Walker ALU count of leading zeros. -/
  | clz (core thread : Nat)
  /-- HASH (R369). Walker ALU HASH mixing function. -/
  | hash (core thread : Nat)
  /-- ADDI (R367). Walker add immediate. -/
  | addi (core thread : Nat)
  /-- ANDI (R367). Walker AND with zero-extended immediate. -/
  | andi (core thread : Nat)
  /-- ORI (R367). Walker OR with zero-extended immediate. -/
  | ori (core thread : Nat)
  /-- XORI (R367). Walker XOR with zero-extended immediate. -/
  | xori (core thread : Nat)
  /-- SHLI (R367). Walker shift left by immediate. -/
  | shli (core thread : Nat)
  /-- SHRI (R367). Walker logical shift right by immediate. -/
  | shri (core thread : Nat)
  /-- SARI (R367). Walker arithmetic shift right by immediate. -/
  | sari (core thread : Nat)
  /-- MOVK (R367). Walker insert of a 16-bit immediate into one quarter of a register. -/
  | movk (core thread : Nat)
  /-- LD (R367). Walker load of 1 to 8 bytes. -/
  | ld (core thread : Nat)
  /-- ST (R367). Walker store of 1 to 8 bytes, write-through. -/
  | st (core thread : Nat)
  /-- LDB (R367). Walker burst load into eight registers. -/
  | ldb (core thread : Nat)
  /-- STB (R367). Walker burst store of eight registers. -/
  | stb (core thread : Nat)
  /-- LDCH (R370). Walker chained pointer load following 64 B nodes. -/
  | ldch (core thread : Nat)
  /-- WADD (R371). Walker memory-side add of one burst, optionally fetching old values. -/
  | wadd (core thread : Nat)
  /-- POST (R378). Walker post of one burst to a Q_POST or pool window, returning accepted or dropped. -/
  | post (core thread : Nat)
  /-- BEQ (R367). Walker branch if equal. -/
  | beq (core thread : Nat)
  /-- BNE (R367). Walker branch if not equal. -/
  | bne (core thread : Nat)
  /-- BLT (R367). Walker branch if signed less. -/
  | blt (core thread : Nat)
  /-- BGE (R367). Walker branch if signed greater or equal. -/
  | bge (core thread : Nat)
  /-- BLTU (R367). Walker branch if unsigned less. -/
  | bltu (core thread : Nat)
  /-- BGEU (R367). Walker branch if unsigned greater or equal. -/
  | bgeu (core thread : Nat)
  /-- JAL (R367). Walker jump and link, PC-relative. -/
  | jal (core thread : Nat)
  /-- JALR (R367). Walker jump and link to register plus immediate. -/
  | jalr (core thread : Nat)
  /-- MFS (R367). Walker read of a special value such as thread, core, tenant or PTP time. -/
  | mfs (core thread : Nat)
  /-- TEXIT (R382). Walker task exit with a status, writing the completion record. -/
  | texit (core thread : Nat)
  /-- LDACQ (R296). Walker load with acquire at a scope. -/
  | ldacq (core thread : Nat)
  /-- STREL (R296). Walker store with release at a scope. -/
  | strel (core thread : Nat)
  /-- FENCE (R294). Walker fence with release, acquire or both semantics. -/
  | fence (core thread : Nat)
  /-- AMO64 (R302). Walker 64-bit atomic read-modify-write selected by AOP. -/
  | amo64 (core thread : Nat)
  /-- AMO32 (R302). Walker 32-bit atomic read-modify-write selected by AOP. -/
  | amo32 (core thread : Nat)
  /-- WALKER_DATA_RETURN (R363). A walker load, LDCH hop, atomic or fetch returns data and its thread becomes ready. -/
  | walkerDataReturn (core thread : Nat) (l1err : Bool) (stall : Nat)
  /-- WALKER_STORE_ACK (R286). A home acknowledges a walker store or atomic, retiring its tracker entry. -/
  | walkerStoreAck (core entry : Nat) (waited : Nat × Nat)
  /-- TASK_START (R380). A walker core takes a TASK entry and starts it on its lowest free thread. -/
  | taskStart (core : Nat)
  /-- WALKER_FLIP (R381). All threads have ended after a FLIP entry; the core performs BANKFLIP and runs the entry point on thread 0. -/
  | walkerFlip (core : Nat)
  /-- TASK_WATCHDOG (R383). A task runs beyond ENG_WDOG.LIMIT and its thread stops with ENGINE_WATCHDOG. -/
  | taskWatchdog (core thread : Nat)
  /-- WALKER_CORE_RESTART (R671). A FAULTED walker core is reloaded with the runtime and returned to RUN_SERVICE. -/
  | walkerCoreRestart (core : Nat) (runtime : List Byte) (entry : Nat)
  /-- KV_PAGE_PREPARE (R405). The SVC allocates, copies and rewrites page-list entries that a step's appends will reach. -/
  | kvPagePrepare (req : Nat) (frames : List Nat)
  /-- KV_PREPARE_DONE (R405). A divergence copy completes and the rewritten page list is released. -/
  | kvPrepareDone (req : Nat)
  /-- SUBMIT (R455). Serving command that checks a request descriptor, assigns an entry and starts its prefix match. -/
  | submit
  /-- SUBMIT_MATCH_DONE (R455). A SUBMIT's prefix match ends; the request is QUEUED and its completion written with PUBLEN. -/
  | submitMatchDone (req : Nat) (groupMin : Option Nat)
  /-- CANCEL (R453). Serving command cancelling a request at its next boundary. -/
  | cancel
  /-- PAUSE (R451). Serving command pausing a request at a boundary. -/
  | pause
  /-- REQ_RESUME (R451). Serving command resuming a PAUSED request. -/
  | reqResume
  /-- RELEASE (R429). Serving command returning an ended request to FREE. -/
  | release
  /-- SETPRIO (R451). Serving command changing a request's priority. -/
  | setprio
  /-- SETDEADLINE (R451). Serving command changing a request's deadline and policy. -/
  | setdeadline
  /-- SETSPEC (R451). Serving command changing a request's speculation window. -/
  | setspec
  /-- QUERY (R451). Serving command copying a request-table entry to memory. -/
  | query
  /-- PIN (R456). Serving command pinning the prefix nodes of a prompt. -/
  | pin
  /-- UNPIN (R456). Serving command clearing PINNED in a prompt's prefix nodes. -/
  | unpin
  /-- CUTTER_WRITE (R443). Serving command writing a cutter and raising its generation. -/
  | cutterWrite
  /-- CUTTER_CLEAR (R443). Serving command setting a cutter EMPTY. -/
  | cutterClear
  /-- STEP_START (R434). At a boundary or reservation the SVC selects a batch and starts a step. -/
  | stepStart (slot : Nat)
  /-- DRAFT_PHASE_DONE (R438). A step's draft iterations end and verification programs issue. -/
  | draftPhaseDone (slot : Nat) (logits : List (Nat × List (List Nat))) (poisoned : List Nat)
  /-- STEP_COMMIT (R435). All slots of a step completed; tokens selected, requests updated, records written at once. -/
  | stepCommit (slot : Nat) (outputs : List (Nat × List (List Nat))) (poisoned : List Nat)
  /-- STEP_DISCARD (R434). A step that met an uncorrectable weight word completes and is discarded without delivery. -/
  | stepDiscard (slot : Nat)
  /-- ASSIGN (R463). Tenant command assigning an UNASSIGNED tenant. -/
  | assign (tenant : Nat)
  /-- QUIESCE (R465). Tenant command stopping new ring entries of a tenant. -/
  | quiesce (tenant : Nat)
  /-- TENANT_RESUME (R465). Tenant command returning a QUIESCING tenant to ACTIVE and processing held doorbells. -/
  | tenantResume (tenant : Nat)
  /-- TENANT_RESET (R467). Tenant command resetting a tenant's requests, tasks, descriptors and rings. -/
  | tenantReset (tenant : Nat) (byFault : Bool)
  /-- UNASSIGN (R468). Tenant command resetting a tenant to UNASSIGNED and clearing its resources. -/
  | unassign (tenant : Nat)
  /-- TENANT_RESET_DONE (R467). Every step of a tenant reset has completed and the tenant leaves RESETTING. -/
  | tenantResetDone (tenant : Nat)
  /-- APERTURE_WRITE (R470). Dictionary write of a tenant aperture, checked against ranges and tenant state. -/
  | apertureWrite (tenant n value : Nat)
  /-- SLOT_LOAD (R474). Slot command LOAD starting to copy and check a model slot image. -/
  | slotLoad (slot : Nat) (head : List Byte)
  /-- SLOT_LOAD_DONE (R475). A slot image's copy and checks finish; the slot becomes RESIDENT or EMPTY. -/
  | slotLoadDone (slot status : Nat) (image : List Byte)
  /-- SLOT_UNLOAD (R472). Slot command UNLOAD freeing a slot with no live requests. -/
  | slotUnload (slot : Nat)
  /-- RESTORE_FRAME_DONE (R480). A restored frame arrives whole and is checked against its frame check. -/
  | restoreFrameDone (slot : Nat) (data : List Byte) (bad : Bool)
  /-- RESTORE_TIMEOUT (R480). A restore frame is not delivered within RestoreTimeout and the restore fails. -/
  | restoreTimeout (slot : Nat)
  /-- CONTEXT_SWITCH (R485). At a CONTEXT entry the sequencers stop taking entries and drain for the allowance. -/
  | contextSwitch
  /-- CONTEXT_SWITCH_DONE (R486). Save, restore and register reload end and the incoming context starts taking entries. -/
  | contextSwitchDone
  /-- CADENCE_BOUNDARY (R488). A cadence period boundary is reached or made by the device. -/
  | cadenceBoundary
  /-- CADENCE_IN_EDGE (R490). A filtered rising edge of CADENCE_IN is matched against the predicted boundary. -/
  | cadenceInEdge (stamp : Nat)
  /-- CADENCE_EDGE_MISSED (R490). No EXTERNAL edge arrives by prediction plus tolerance; a boundary is made and a miss counted. -/
  | cadenceEdgeMissed
  /-- FABRIC_CADENCE_TIMEOUT (R490). No fabric cadence announcement for 4 periods; FABRIC source enters HOLDOVER. -/
  | fabricCadenceTimeout
  /-- SCHEDULE_STEP (R502). A STEP reservation's phase instant opens and a slot's step may start. -/
  | scheduleStep
  /-- RESERVATION_LAPSE (R502). A reservation reaches PHASE plus WINDOW without a start and lapses. -/
  | reservationLapse
  /-- SCHEDULE_CONTEXT (R504). A CONTEXT entry's instant arrives and a switch starts or is skipped. -/
  | scheduleContext
  /-- SCHEDULE_ACTIVATE (R501). Write of Activate checks a schedule table and activates it at the next boundary. -/
  | scheduleActivate (table : Nat)
  /-- FREQ_CORRECTION (R496). Every 1 ms the time base frequency is corrected by the temperature model. -/
  | freqCorrection (temp : Nat)
  /-- PPS_IN_PULSE (R497). A PPS_IN pulse is accepted or counted as outlier and time is stepped or steered. -/
  | ppsInPulse (stamp : Nat)
  /-- PPS_MISSING (R497). Expected PPS pulses fail to arrive; after 3 misses TimeQuality becomes HOLDOVER. -/
  | ppsMissing
  /-- PTP_TIME_WRITE (R498). An OWNER write of PtpTime steps time. -/
  | ptpTimeWrite (time : Nat)
  /-- PTP_SYNC_SEND (R494). The grandmaster sends its periodic two-step Sync and Announce messages. -/
  | ptpSyncSend
  /-- PTP_DELAY_REQ (R494). A received PTP delay request or peer-delay request is answered. -/
  | ptpDelayReq (peer : Bool) (seq : Nat)
  /-- PPS_OUT_SECOND (R493). At each whole PTP second PPS_OUT rises for 100 ms. -/
  | ppsOutSecond
  /-- FLIT_RECEIVE (R511). A DATA flit is received, CRC and SEQ checked, accepted or NAKed. -/
  | flitReceive (port : Nat) (crcOk : Bool) (ftype vc seq ackseq cvc credits op dst src tenant : Nat) (priv : Bool) (ord addfmt fidx fcnt tag wmask addr : Nat) (words : List Nat)
  /-- NAK_RECEIVE (R511). A NAK makes the sender replay from ACKSEQ plus one. -/
  | nakReceive (port ackseq : Nat)
  /-- PORT_RETRAIN (R512). A flit replayed 8 times makes the port retrain. -/
  | portRetrain (port : Nat)
  /-- PORT_TRAINED (R514). Port training ends; neighbour and extents are checked and the port is UP or MISWIRED. -/
  | portTrained (port node dx dy dz : Nat) (serial : List Byte) (names : Bool)
  /-- PORT_DOWN_EXPIRE (R512). A port DOWN after three retrains trains again after 1 s. -/
  | portDownExpire (port : Nat)
  /-- FABRIC_WRITE (R518). A received WRITE packet is access-checked and performed, then ACKed. -/
  | fabricWrite
  /-- FABRIC_READ (R518). A received READ packet is answered with RDATA flits. -/
  | fabricRead
  /-- FABRIC_ADD (R518). A received ADD packet is sent to the memory-side adders, then ACKed. -/
  | fabricAdd
  /-- RDATA (R518). Received read data for an outstanding remote read. -/
  | rdata
  /-- ACK (R518). Received acknowledgment of a remote write or add. -/
  | ack
  /-- NACK (R519). Received refusal of a remote access, completing the operation with its code. -/
  | nack
  /-- LINKSTATE (R517). A received newer LINKSTATE updates the fault map and is flooded on. -/
  | linkstate (port node version mask : Nat) (down : Bool)
  /-- FABRIC_REQUEST_TIMEOUT (R520). No answer within RequestTimeout; the operation completes with FABRIC_TIMEOUT. -/
  | fabricRequestTimeout (tag : Nat)
  /-- QUARANTINE_RELEASE (R521). An OPERATOR write of Release ends a port's quarantine. -/
  | quarantineRelease (port : Nat) (value : Bool)
  /-- COLL_POST (R522). A 64 B post to the collective queue. -/
  | collPost (poster tenant : Nat) (priv : Bool) (data : List Byte)
  /-- ALLREDUCE (R526). Collective summing every chunk of the members' contributions. -/
  | allreduce
  /-- ALLGATHER (R526). Collective gathering every member's contribution in rank order. -/
  | allgather
  /-- REDUCESCATTER (R526). Collective giving each member one chunk of the sum. -/
  | reducescatter
  /-- BROADCAST (R526). Collective copying the root's contribution to every member. -/
  | broadcast
  /-- COLL_MESSAGE (R525). A received COLL packet carrying a member's descriptor comparison or data. -/
  | collMessage (rank : Nat) (desc : List Byte) (isData : Bool) (data : List Byte) (bad : List Nat)
  /-- COLL_COMPLETE (R527). A member's DST holds its result; a GROUP release and record follow. -/
  | collComplete
  /-- COLL_TIMEOUT (R525). A member waits beyond CollTimeout and completes with COLL_ABORTED. -/
  | collTimeout
  /-- TANDEM_ENABLE_WRITE (R529). Write of TandemEnable starting or stopping pairing. -/
  | tandemEnableWrite (value : Nat)
  /-- HEART_SEND (R535). Every 10 µs a HEART flit is sent on each UP tandem port. -/
  | heartSend
  /-- HEART (R530). A received heartbeat from the named partner, counted towards SYNCING. -/
  | heart (port seq partner priority applied vmin vmax : Nat)
  /-- HEARTBEAT_TIMEOUT (R535). 30 µs without a heartbeat takes both tandem links down. -/
  | heartbeatTimeout
  /-- TANDEM_LOST (R535). The partner is declared lost and the pair state becomes SOLO. -/
  | tandemLost
  /-- TANDEM_FENCED (R536). Links down while presence continues; both devices enter FENCED. -/
  | tandemFenced
  /-- WITHDRAW (R539). Tandem command handing this device's requests to the twin. -/
  | withdraw
  /-- REJOIN (R529). Tandem command returning a HELD device to SEEKING. -/
  | rejoin
  /-- MIRROR_ADMIT (R532). Received ADMIT message creating a SHADOW entry. -/
  | mirrorAdmit (seq req : Nat) (entry window digest : List Byte) (keys : List Nat)
  /-- MIRROR_COMMAND (R531). Received mirrored serving command. -/
  | mirrorCommand (seq req tenant : Nat) (data : List Byte)
  /-- MIRROR_APPEND (R531). Received append of window elements by lane and position. -/
  | mirrorAppend (seq req draft lane pos kind frame : Nat) (data : List Byte)
  /-- MIRROR_COMMIT (R533). Received COMMIT message, applied and acknowledged PROTECTED or UNPROTECTED. -/
  | mirrorCommit (seq slot step : Nat) (parts : List (List Nat × List Nat))
  /-- MIRROR_CUTTER (R531). Received mirrored cutter write. -/
  | mirrorCutter (seq cutter gen tenant stamp : Nat) (data : List Byte)
  /-- MIRROR_DICT (R531). Received mirrored dictionary write, applied when its stamp is later. -/
  | mirrorDict (seq index sub stamp : Nat) (value : List Byte)
  /-- MIRROR_PREFIX (R531). Received publication, pin or unpin by block key. -/
  | mirrorPrefix (seq what req draft tenant : Nat) (keys : List Nat)
  /-- MIRROR_TIME (R534). Received time and cadence state from the primary. -/
  | mirrorTime (seq quality time freq period boundary : Nat)
  /-- MIRROR_CATCHUP (R532). Received catch-up positions copied from pages. -/
  | mirrorCatchup (seq req draft lane pos kind frame : Nat) (data : List Byte)
  /-- MIRROR_HANDOVER (R539). Received HANDOVER; the slot's requests are promoted at the next boundary. -/
  | mirrorHandover (seq slot : Nat)
  /-- MIRROR_ACK (R533). The twin's acknowledgment arrives and a waiting commit or write continues. -/
  | mirrorAck (seq : Nat) (marks : List (Nat × Bool)) (mapped : List (Nat × Nat))
  /-- PAIR_KEY_AGREE (R598). Signed X25519 shares exchanged over the tandem ports set a new pair key. -/
  | pairKeyAgree (share signature partnerKey : List Byte) (certificateOk : Bool)
  /-- DOORBELL (R556). An 8 B doorbell write advances a ring index or is dropped. -/
  | doorbell (tenant ring value : Nat)
  /-- RING_ENABLE (R553). Writing ENABLE 1 checks a ring's configuration and enables it. -/
  | ringEnable (tenant ring value : Nat)
  /-- RING_DISABLE (R555). Writing ENABLE 0 stops taking entries from a ring. -/
  | ringDisable (tenant ring : Nat)
  /-- RING_DISABLE_DONE (R555). Taken entries complete; BUSY clears and indices become 0. -/
  | ringDisableDone (tenant ring : Nat)
  /-- RING_ENTRY_TAKE (R560). The device takes a ring entry round-robin when completion and queue room allow, and posts it. -/
  | ringEntryTake (host : List Byte)
  /-- RING_ACCESS_FAIL (R562). A ring memory access fails; the ring is disabled and RING_HOST recorded. -/
  | ringAccessFail (tenant ring : Nat)
  /-- IPEND_CLEAR (R564). A W1C write to IPEND or IPENDL clears interrupt bits. -/
  | ipendClear (tenant : Nat) (view : Bool) (index mask : Nat)
  /-- ITARGET_WRITE (R566). A write of an interrupt target through ITARGET or ITARGETL, checked by view and table size. -/
  | itargetWrite (tenant : Nat) (view : Bool) (index value : Nat)
  /-- WIN_WRITE (R549). A write of a BAR2 window slice base. -/
  | winWrite (fn index value : Nat)
  /-- BAR2_ACCESS (R550). A host read or write through BAR2, translated and checked, or refused. -/
  | bar2Access (fn offset len : Nat) (data : Option (List Byte)) (ep : Bool)
  /-- BAR0_BAD_ACCESS (R548). A BAR0 access of wrong size or alignment completes with Completer Abort or is dropped. -/
  | bar0BadAccess (fn : Nat) (write : Bool)
  /-- MSIX_UNMASK (R566). Unmasking an MSI-X vector sends its pending message. -/
  | msixUnmask (fn vec : Nat)
  /-- FLR (R570). A Function Level Reset resets its tenant or, for the physical function, all tenants. -/
  | flr (fn : Nat)
  /-- HOST_LINK_DOWN (R571). The PCI Express link goes down without PERST_N. -/
  | hostLinkDown
  /-- PERST_N_ASSERT (R628). PERST_N assertion resets the controller, the device, or applies the link-loss reset. -/
  | perstNAssert
  /-- L0P_WIDTH_CHANGE (R544). The device asks for a narrower or full link width as traffic rules allow. -/
  | l0pWidthChange (width : Nat) (low high : Bool)
  /-- GPI_EDGE (R567). A filtered GPI edge selected in 0x2051 sets its interrupt source. -/
  | gpiEdge (pin : Nat) (rise : Bool)
  /-- INPUT_GLITCH (R567). A pulse shorter than the filter time is ignored and counted. -/
  | inputGlitch (input : Nat)
  /-- HELLO (R585). Nirnar HELLO starts a handshake, answered with a signed CHALLENGE. -/
  | hello (vlan : Nat) (prp : Option (Nat × Nat)) (net : Nat) (datagram : List Byte)
  /-- PROVE (R585). Nirnar PROVE is verified, tag keys derived and ACCEPT sent. -/
  | prove (vlan : Nat) (prp : Option (Nat × Nat)) (net : Nat) (datagram : List Byte)
  /-- HANDSHAKE_EXPIRE (R586). PROVE not received within 1 s; the provisional session is released. -/
  | handshakeExpire (number : Nat)
  /-- NIRNAR_READ (R590). Nirnar READ of an entry or segment, answered with READ_RESP. -/
  | nirnarRead (vlan : Nat) (prp : Option (Nat × Nat)) (net : Nat) (datagram : List Byte)
  /-- NIRNAR_WRITE (R594). Nirnar WRITE of an entry or segment. -/
  | nirnarWrite (vlan : Nat) (prp : Option (Nat × Nat)) (net : Nat) (datagram host : List Byte) (ok : Bool)
  /-- SUBSCRIBE (R596). Nirnar SUBSCRIBE to an entry, answered with its current value. -/
  | subscribe (vlan : Nat) (prp : Option (Nat × Nat)) (net : Nat) (datagram : List Byte)
  /-- UNSUBSCRIBE (R581). Nirnar UNSUBSCRIBE removing a subscription. -/
  | unsubscribe (vlan : Nat) (prp : Option (Nat × Nat)) (net : Nat) (datagram : List Byte)
  /-- NOTIFY (R596). After a change and its MININT, a NOTIFY carrying the latest value is sent. -/
  | notify (number index sub : Nat)
  /-- NOTIFY_ACK (R597). Nirnar NOTIFY_ACK acknowledging a notification. -/
  | notifyAck (vlan : Nat) (prp : Option (Nat × Nat)) (net : Nat) (datagram : List Byte)
  /-- NOTIFY_RESEND (R597). An unacknowledged NOTIFY is resent after 100 ms or the session ends after 5 sends. -/
  | notifyResend (number nseq : Nat)
  /-- NIRNAR_ABORT (R581). A received ABORT frame. -/
  | nirnarAbort (vlan : Nat) (prp : Option (Nat × Nat)) (net : Nat) (datagram : List Byte)
  /-- CLOSE (R587). Nirnar CLOSE ending a session. -/
  | close (vlan : Nat) (prp : Option (Nat × Nat)) (net : Nat) (datagram : List Byte)
  /-- KEEPALIVE (R587). Nirnar KEEPALIVE, echoed by the device. -/
  | keepalive (vlan : Nat) (prp : Option (Nat × Nat)) (net : Nat) (datagram : List Byte)
  /-- SESSION_IDLE (R587). No valid client frame within IDLE; the session ends. -/
  | sessionIdle (number : Nat)
  /-- SNAPSHOT_EXPIRE (R590). A read snapshot unused for 1 s is dropped. -/
  | snapshotExpire (mailbox : Bool) (who : Nat)
  /-- STAGING_EXPIRE (R590). A write staging buffer abandoned for 1 s is discarded. -/
  | stagingExpire (mailbox : Bool) (who : Nat)
  /-- PRESENCE (R598). A received PRESENCE, LEAVE or FAIL frame from the twin. -/
  | presence (vlan : Nat) (prp : Option (Nat × Nat)) (net : Nat) (datagram : List Byte)
  /-- PRESENCE_SEND (R598). Every 20 µs a tagged PRESENCE frame is sent on both service ports. -/
  | presenceSend
  /-- PRP_SUPERVISION_SEND (R577). Every 2 s a PRP supervision frame is sent on both ports. -/
  | prpSupervisionSend
  /-- ARP_REQUEST (R576). A received ARP request is answered. -/
  | arpRequest (port vlan : Nat) (prp : Option (Nat × Nat)) (target sender : Nat) (senderMac : List Byte)
  /-- NEIGHBOUR_SOLICITATION (R576). A received IPv6 neighbour solicitation is answered. -/
  | neighbourSolicitation (port vlan : Nat) (prp : Option (Nat × Nat)) (target source : List Byte)
  /-- ICMP_ECHO (R576). A received ICMP or ICMPv6 echo request is answered. -/
  | icmpEcho (vlan : Nat) (prp : Option (Nat × Nat)) (net : Nat) (fragment : Bool) (ident seq : Nat) (data : List Byte)
  /-- DICT_CMD_READ (R600). Mailbox DICT_CMD READ placing value bytes in the buffer. -/
  | dictCmdRead (fn index sub offset : Nat)
  /-- DICT_CMD_WRITE (R600). Mailbox DICT_CMD WRITE taking value bytes from the buffer. -/
  | dictCmdWrite (fn : Nat) (final : Bool) (index sub offset : Nat) (host : List Byte) (ok : Bool)
  /-- DICT_WRITE (R593). A dictionary write of an entry without behaviour of its own, checked and applied. -/
  | dictWrite (index sub : Nat) (value : List Byte)
  /-- JOURNAL_WRITE_DONE (R594). A STORED write's journal append ends and it is mirrored, applied and answered. -/
  | journalWriteDone (ok : Bool)
  /-- REG_WRITE (R9). A write to a register field that has no row of its own. -/
  | regWrite (ecs : Bool) (agent fn offset : Nat) (data : List Byte) (ep : Bool) (host : List Byte) (ok : Bool)
  /-- ARBITER_EPOCH (R605). Each 10 µs epoch the arbiter samples demands, computes and applies grants and stack stages. -/
  | arbiterEpoch
  /-- PMBUS_POLL (R607). Every 1 ms the rails are read over PMBus and C is updated. -/
  | pmbusPoll (rails : List (Nat × Nat × Nat × Nat))
  /-- SENSOR_SCAN (R614). Every 10 µs the trip monitor reads and corrects every sensor. -/
  | sensorScan (readings : List (Option Int))
  /-- DIE_CAP_UPDATE (R616). Every 100 µs compute-die caps and stack stage-3 limits are stepped. -/
  | dieCapUpdate
  /-- VREF_CORRECTION (R618). Every 1 ms on-die voltage references are corrected for temperature. -/
  | vrefCorrection
  /-- THERMAL_HOLD_END (R620). All sensors below 65 °C for 30 s; THERMTRIP_N is released and RESET entered. -/
  | thermalHoldEnd
  /-- PWRGD_RISE (R625). PWRGD rises and the device enters RESET. -/
  | pwrgdRise
  /-- PWRGD_FALL (R736). PWRGD low for 1 µs puts the device in OFF. -/
  | pwrgdFall
  /-- RESET_TO_ROM (R625). PWRGD and SYSREF_IN stable for 1 ms; the device enters ROM. -/
  | resetToRom
  /-- ROM_BOOT_DONE (R711). Boot ROM verification of configuration and firmware ends; CONFIG or recovery mode. -/
  | romBootDone (agree : Bool) (trained : List Nat)
  /-- CONFIG_DONE (R634). The CONFIG steps end and the device enters READY or TEST. -/
  | configDone
  /-- SYSREF_LOSS (R738). SYSREF_IN shows no edge for 2 µs and the device enters OFF. -/
  | sysrefLoss
  /-- DEVICE_RESET_CMD (R627). DeviceCommand RESET starts a device reset. -/
  | deviceResetCmd
  /-- DEVICE_ENTER_TEST (R626). DeviceCommand ENTER_TEST. -/
  | deviceEnterTest
  /-- LEAVE_TEST (R626). DeviceCommand LEAVE_TEST. -/
  | leaveTest
  /-- DEVICE_START_SERVICE (R626). DeviceCommand START_SERVICE. -/
  | deviceStartService
  /-- STOP_SERVICE (R626). DeviceCommand STOP_SERVICE. -/
  | stopService
  /-- SELFTEST_UNIT_START (R640). A self-test unit starts once granted by the arbiter. -/
  | selftestUnitStart (mv khz : Nat)
  /-- SELFTEST_UNIT_DONE (R637). A test unit ends; its signature is compared and the block passed or retired. -/
  | selftestUnitDone (kind stack index signature : Nat) (pass : Bool) (badRows : List Nat) (identityOk : Bool)
  /-- SELFTEST_RETRY (R638). A deferred logic test is retried every 100 ms. -/
  | selftestRetry (mv khz : Nat)
  /-- RUN_REQUEST (R646). An OWNER write of RunRequest starts an in-field self-test run. -/
  | runRequest (data : List Byte)
  /-- RUN_DONE (R651). An in-field run completes and LastResult and RunState are written. -/
  | runDone
  /-- CORE_HEARTBEAT_CHECK (R659). Every 100 µs each service core checks the other's heartbeat counter. -/
  | coreHeartbeatCheck (checker : Nat) (changed : Bool)
  /-- SERVICE_CORE_RESTART_DONE (R660). A restarted service core passes its checks and becomes standby. -/
  | serviceCoreRestartDone (core : Nat)
  /-- SERVICE_CORES_DEAD (R661). No heartbeat from either core for 1 ms; the reset controller resets the device. -/
  | serviceCoresDead
  /-- DEVICE_RECOVERY (R670). A DEVICE_RECOVERABLE fault enters RECOVERY and drains the sequencers. -/
  | deviceRecovery
  /-- RECOVERY_DONE (R670). Device recovery completes and SERVICE resumes. -/
  | recoveryDone
  /-- RECOVERY_TIMEOUT (R670). Device recovery exceeds RecoveryLimit and is FATAL. -/
  | recoveryTimeout
  /-- FATAL_RESET (R672). A FATAL fault stores LastFatal and resets the device. -/
  | fatalReset
  /-- RECOVERY_WINDOW_CLOSE (R674). A recovery completes and the next queued fault is recovered. -/
  | recoveryWindowClose
  /-- FAULT_SUMMARY_WRITE (R663). Writing 1s to FaultSummary clears bits. -/
  | faultSummaryWrite (value : Nat)
  /-- RING_CLEAR (R666). Writing RingClear empties the fault ring. -/
  | ringClear (value : Bool)
  /-- HEALTH_HOURLY (R686). Hourly RO, EM, SPARE and RETIRE samples and the health-record write. -/
  | healthHourly (mv : List Nat) (ro em : List (List Nat))
  /-- EYE_SCAN (R691). Every 10 min each UP lane's eye is scanned. -/
  | eyeScan (lanes : List (Nat × Nat × Nat × Nat))
  /-- RETENTION_PROBE (R689). Daily retention probe taking a free frame into TEST. -/
  | retentionProbe (st : Nat)
  /-- RETENTION_HOLD_END (R690). A probe hold period ends and the frame is read back. -/
  | retentionHoldEnd (st : Nat) (valid : Bool)
  /-- DAILY_POINT (R693). At day end each monitor records a point and refits its prediction. -/
  | dailyPoint
  /-- REBASE_LINKS (R692). Write of RebaseLinks discards link baselines and restarts learning. -/
  | rebaseLinks (value : Nat)
  /-- GET_VERSION (R704). SPDM GET_VERSION request. -/
  | getVersion (fn : Nat)
  /-- GET_CAPABILITIES (R704). SPDM GET_CAPABILITIES request. -/
  | getCapabilities (fn : Nat) (request : List Byte)
  /-- NEGOTIATE_ALGORITHMS (R704). SPDM NEGOTIATE_ALGORITHMS request. -/
  | negotiateAlgorithms (fn asym hash dhe aead : Nat) (request : List Byte)
  /-- GET_DIGESTS (R704). SPDM GET_DIGESTS request. -/
  | getDigests (fn : Nat)
  /-- GET_CERTIFICATE (R704). SPDM GET_CERTIFICATE request. -/
  | getCertificate (fn slot offset length : Nat)
  /-- SPDM_CHALLENGE (R704). SPDM CHALLENGE answered with a signed CHALLENGE_AUTH. -/
  | spdmChallenge (fn slot : Nat) (nonce : List Byte)
  /-- GET_MEASUREMENTS (R704). SPDM GET_MEASUREMENTS request. -/
  | getMeasurements (fn operation : Nat) (sign : Bool) (nonce : List Byte)
  /-- KEY_EXCHANGE (R704). SPDM KEY_EXCHANGE starting a secure session. -/
  | keyExchange (fn slot : Nat) (share : List Byte)
  /-- FINISH (R704). SPDM FINISH completing a secure session. -/
  | finish (fn session : Nat) (verify : List Byte)
  /-- KEY_UPDATE (R704). SPDM KEY_UPDATE in a session. -/
  | keyUpdate (fn session operation : Nat)
  /-- SPDM_HEARTBEAT (R704). SPDM HEARTBEAT in a session. -/
  | spdmHeartbeat (fn session : Nat)
  /-- END_SESSION (R704). SPDM END_SESSION. -/
  | endSession (fn session : Nat)
  /-- VENDOR_DEFINED (R704). SPDM VENDOR_DEFINED carrying IDE_KM or TDISP in a secure session. -/
  | vendorDefined (fn session protocol op arg : Nat) (key : List Byte)
  /-- QUOTE_NONCE_WRITE (R705). Write of a 32 B quote nonce for a session or mailbox. -/
  | quoteNonceWrite (mailbox : Bool) (who : Nat) (nonce : List Byte)
  /-- QUOTE_READ (R705). Read of Quote, returning a signed measurement quote. -/
  | quoteRead (mailbox : Bool) (who : Nat)
  /-- STAGE_MANIFEST (R712). Write of StageManifest starting or continuing a download. -/
  | stageManifest (manifest : List Byte)
  /-- CHUNK (R713). Write of a payload chunk, programmed into flash and marked. -/
  | chunk (data : List Byte) (ok : Bool)
  /-- UPDATE_VERIFY_DONE (R712). Verification of a full download ends in STAGED or back to DOWNLOADING. -/
  | updateVerifyDone
  /-- ACTIVATE (R716). UpdateCommand ACTIVATE switching every part to the staged set while serving. -/
  | activate
  /-- UPDATE_CANCEL (R712). UpdateCommand CANCEL erasing the target manifest. -/
  | updateCancel
  /-- ACTIVATION_DONE (R716). Activation reaches step 8; the boot record names the trial set. -/
  | activationDone
  /-- ACTIVATION_FAILED (R717). Activation fails or times out and every switched component returns to the old set. -/
  | activationFailed (started : Bool)
  /-- CONFIRM (R720). Write of Confirm making the trial set permanent. -/
  | confirm (value : Bool)
  /-- RECOVERY_DATA (R721). A recovery package segment written through the mailbox in recovery mode. -/
  | recoveryData (offset : Nat) (data : List Byte) (final : Bool)
  /-- RECOVERY_DATAGRAM (R722). A recovery DATA datagram on UDP port 7403. -/
  | recoveryDatagram (datagram : List Byte)
  /-- RECOVERY_STATUS_REQUEST (R722). A recovery STATUS request answered with RecoveryStatus. -/
  | recoveryStatusRequest
  /-- RECOVERY_PACKAGE_CHECK (R723). A complete recovery package is checked, written to flash and the device reset. -/
  | recoveryPackageCheck
  /-- SLOT_SIGNING_KEY_WRITE (R724). Write of a slot signing key, refused while a slot is LOADING. -/
  | slotSigningKeyWrite (n : Nat) (key : List Byte)
  /-- ENTDAA (R743). The I3C controller assigns the device a dynamic address. -/
  | entdaa (address : Nat)
  /-- PLDM_BASE_DISCOVERY (R743). PLDM Type 0 base discovery request answered. -/
  | pldmBaseDiscovery (ty command arg : Nat)
  /-- PLDM_SENSOR_READ (R744). PLDM Type 2 sensor read request answered. -/
  | pldmSensorRead (command sensor : Nat)
  /-- PLDM_FRU_READ (R744). PLDM Type 4 FRU read request answered. -/
  | pldmFruRead (command : Nat)
  /-- BYPASS (R747). TAP instruction BYPASS. -/
  | bypass
  /-- IDCODE (R747). TAP instruction IDCODE. -/
  | idcode
  /-- SAMPLE_PRELOAD (R747). TAP instruction SAMPLE/PRELOAD. -/
  | samplePreload (levels pattern : List Bool)
  /-- EXTEST (R747). TAP instruction EXTEST, effective only in RESET, ROM and TEST. -/
  | extest
  /-- CLAMP (R747). TAP instruction CLAMP. -/
  | clamp
  /-- HIGHZ (R747). TAP instruction HIGHZ. -/
  | highz
  /-- EXTEST_PULSE (R747). IEEE 1149.6 TAP instruction EXTEST_PULSE. -/
  | extestPulse
  /-- EXTEST_TRAIN (R747). IEEE 1149.6 TAP instruction EXTEST_TRAIN. -/
  | extestTrain
  /-- HOST_LINK_UP (R569). The PCI Express link finishes training and is up, setting LinkSpeed and LinkWidth and letting configuration requests be answered. -/
  | hostLinkUp (speed width : Nat)
  /-- PERST_N_RELEASE (R628). PERST_N is released, taking the PCI Express controller and its functions out of reset so they answer within 100 ms. -/
  | perstNRelease
  /-- PCIE_CONFIG_WRITE (R463). A PCI Express configuration write, such as VF Enable or NumVFs, that can take tenants to UNASSIGNED or be ignored under R545. -/
  | pcieConfigWrite (field fn value : Nat)
  /-- PORT_LOSS_OF_SIGNAL (R517). A fabric or tandem port loses signal and goes DOWN, so the device floods LINKSTATE and updates its fault map. -/
  | portLossOfSignal (port : Nat)
  /-- MIRROR_TIMEOUT (R594). A mirrored STORED dictionary write is not acknowledged by the twin within 10 ms and is answered with 0x0302_0000. -/
  | mirrorTimeout
  /-- SERVICE_CORE_FAULT (R659). The active service core reports a fault of its own, an UNCORRECTABLE word in its SRAM or instruction memory or its watchdog expiring, and the standby takes over. -/
  | serviceCoreFault (core : Nat)
  /-- GRANDMASTER_ANNOUNCE (R489). A received 802.1AS time or cadence announcement from the fabric group's elected grandmaster sets the FABRIC epoch, period and time. -/
  | grandmasterAnnounce (epoch period time : Nat)
  /-- WITHDRAW_WAIT_EXPIRE (R627). The at most 10 ms wait for WITHDRAW before a commanded, PERST_N or link-loss reset runs out and the reset proceeds. -/
  | withdrawWaitExpire
  deriving DecidableEq, Repr

end Sys2Proof
end

