-- ==== Sys2Proof/Decode.lean ====
section
/-!
DEFINITION. Reading a command from the table's bits. No row of the opcode table gives bits: the commands are writes,
packets and events, each with a format of its own that its meaning reads.
-/

namespace Sys2Proof

/-- The command a word of the table's bits spells: none, since no row gives bits. -/
def decodeTableWord (_nbits _w : Nat) : Option Instr := none

end Sys2Proof
end

