-- ==== Sys2Proof/Config.lean ====
section
/-!
DEFINITION. What an implementation or the signed configuration block fixes, and the free values: constants without a
body, so that nothing proved depends on what they are. The assumption log names each.
-/

namespace Sys2Proof.Config

/-- A value the spec leaves open, fresh at each use: applied to the state's counter `free` (log 1). -/
opaque freeWord : Nat → BitVec 64

/-- Errors that R90 and R181 allow and do not fix (log 2): of a rim function (0 exp, 1 SiLU, 2 GELU, 3 reciprocal square root) at an FP32
input, 0 to 4 for −2 to 2 units in the last place; and of cosine or sine at a position and frequency, in steps of 2^−48. -/
opaque rimError : Nat → BitVec 32 → Fin 5
opaque ropeError : Bool → Nat → BitVec 32 → BitVec 27

/-- Results that the spec does not state: SiLU and GELU of −infinity and 1 / sqrt of −0, as FP32 encodings (log 2). -/
opaque rimEdge : Nat → BitVec 32 → BitVec 32

/-- SHA-512 of a byte string (FIPS 180-4, R12, log 3). -/
opaque sha512 : List Byte → List Byte

/-- HMAC-SHA-512 (RFC 2104, R12): key, message (log 3). -/
opaque hmacSha512 : List Byte → List Byte → List Byte

/-- Ed25519 (RFC 8032): signature by a private key of a message, and whether a public key accepts one (log 3). -/
opaque ed25519Sign : List Byte → List Byte → List Byte
opaque ed25519Verify : List Byte → List Byte → List Byte → Bool

/-- X25519 (RFC 7748): the shared secret of a private part and a share, and the public part of a private one (log 3). -/
opaque x25519 : List Byte → List Byte → List Byte
opaque x25519Public : List Byte → List Byte

/-- secp384r1 key agreement (R704): the shared secret of a private part and a share, and the public part of a private one (log 3). -/
opaque secp384 : List Byte → List Byte → List Byte
opaque secp384Public : List Byte → List Byte

/-- The device's random draws, in order (R585, log 3). -/
opaque random : Nat → Nat → List Byte

/-- The device identity key: its private and its public part (R699, log 3). -/
opaque identityPrivate : List Byte
opaque identityPublic : List Byte

/-- What the boot ROM holds (R630, R702, R706): the SHA-512 of the ROM, the vendor configuration key and the two vendor firmware keys
(log 3). -/
opaque romDigest : List Byte
opaque vendorConfigKey : List Byte
opaque vendorFirmwareKey : Nat → List Byte

/-- The identity key's public half that the physically unclonable function gives with the helper data of a configuration copy, and the
subject key of the leaf certificate of an IDENT section (R630, R699, log 3). -/
opaque pufKey : List Byte → List Byte
opaque leafKey : List Byte → List Byte

/-- What the DEFAULTS section of a configuration copy gives, whose layout the spec leaves open: scalar and byte values by dictionary
key (R632, log 4). -/
opaque configScalars : List Byte → List (Nat × Nat)
opaque configBytes : List Byte → List (Nat × List Byte)

/-- What the TRIM and COST sections give: the VID code of a die, the voltage reference of a die at a temperature in quarters of a degree,
and the cost of a self-test unit of a kind (R606, R618, R734, log 4). -/
opaque vidSetpoint : List Byte → Nat → Nat
opaque vrefPolynomial : List Byte → Nat → Int → Nat
opaque testCost : List Byte → Nat → Nat

/-- The fourth root of a count of hours, in units of 2^−32 (R694, log 2). -/
opaque fourthRoot : Nat → Nat

end Sys2Proof.Config
end

