-- ==== Sys2Proof/Machine/Map.lean ====
section
/-!
DEFINITION. Sparse data by key, in one canonical form: a list of pairs with strictly rising keys, none of them
holding the value an unlisted key reads as. Every memory, register array and table of the state is one of these,
so equal contents are equal data.
-/

namespace Sys2Proof.Machine

/-- A table from keys to values; what an unlisted key reads as is an argument of its operations. (DESIGN CHOICE, log 14.) -/
abbrev Map (α : Type) := List (Nat × α)

/-- The value at key `k`; `d` where `k` is not listed. (DEDUCED, log 7.) -/
def mapGet {α : Type} (d : α) : Map α → Nat → α
  | [], _ => d
  | (a, v) :: rest, k => if a = k then v else mapGet d rest k

/-- `m` without key `k`. -/
def mapErase {α : Type} : Map α → Nat → Map α
  | [], _ => []
  | (a, v) :: rest, k => if a = k then mapErase rest k else (a, v) :: mapErase rest k

/-- `m` with `v` listed at `k`. -/
def mapInsert {α : Type} : Map α → Nat → α → Map α
  | [], k, v => [(k, v)]
  | (a, w) :: rest, k, v =>
    if k < a then (k, v) :: (a, w) :: rest
    else if a = k then (k, v) :: rest
    else (a, w) :: mapInsert rest k v

/-- Writing `v` at `k`: the value an unlisted key reads as removes the entry, any other lists it. (DESIGN CHOICE, log 14.) -/
def mapSet {α : Type} [DecidableEq α] (d : α) (m : Map α) (k : Nat) (v : α) : Map α :=
  if v = d then mapErase m k else mapInsert m k v

/-- Applying `f` to the value at `k`. -/
def mapUpd {α : Type} [DecidableEq α] (d : α) (m : Map α) (k : Nat) (f : α → α) : Map α :=
  mapSet d m k (f (mapGet d m k))

/-- Writing the values of `vs` at `k`, `k + 1`, and so on. -/
def mapSetRun {α : Type} [DecidableEq α] (d : α) : Map α → Nat → List α → Map α
  | m, _, [] => m
  | m, k, v :: vs => mapSetRun d (mapSet d m k v) (k + 1) vs

/-- The values at `k`, `k + 1`, …, `n` of them. -/
def mapGetRun {α : Type} (d : α) (m : Map α) (k : Nat) : Nat → List α
  | 0 => []
  | n + 1 => mapGet d m k :: mapGetRun d m (k + 1) n

/-- The canonical form: keys rise strictly, and no entry holds the value an unlisted key reads as. -/
def mapWf {α : Type} [DecidableEq α] (d : α) : Map α → Bool
  | [] => true
  | [(_, v)] => !(decide (v = d))
  | (a, v) :: (b, w) :: rest => decide (a < b) && !(decide (v = d)) && mapWf d ((b, w) :: rest)

/-- `m` without the keys `k` for which `p k` holds. -/
def mapDrop {α : Type} (m : Map α) (p : Nat → Bool) : Map α := m.filter (fun e => !p e.1)

/-- Replacing the `i`-th element of a list by `f` of it; the list unchanged where it has no `i`-th element. -/
def listUpd {α : Type} : List α → Nat → (α → α) → List α
  | [], _, _ => []
  | x :: xs, 0, f => f x :: xs
  | x :: xs, i + 1, f => x :: listUpd xs i f

/-- The last `n` elements of a list. -/
def lastN {α : Type} (n : Nat) (xs : List α) : List α := xs.drop (xs.length - n)

end Sys2Proof.Machine
end

