-- ==== Sys2Proof/Machine/Num.lean ====
section
/-!
DEFINITION. Exact values, the element formats and the conversions of Number Formats and Scaling (R17 to R35, R44,
R752). A value is held exactly; every rounding is one call of `roundFp` or `roundInt`.
-/

namespace Sys2Proof.Machine

/-- A value: a NaN (its sign is kept by R35), an infinity, or the number ±m·2^e. -/
inductive Num where
  | nan (s : Bool)
  | inf (s : Bool)
  | fin (s : Bool) (m : Nat) (e : Int)
  deriving DecidableEq, Repr

/-- The element formats of R23, by their codes 0x0 to 0x9. -/
inductive Fmt where
  | fp32 | bf16 | fp16 | e4m3 | e5m2 | int8 | int4 | fp4e8 | fp4e4 | e8m0
  deriving DecidableEq, Repr

/-- The format a 4 bit code names; codes 0xA to 0xF are reserved (R23). -/
def fmtOf : Nat → Option Fmt
  | 0 => some .fp32
  | 1 => some .bf16
  | 2 => some .fp16
  | 3 => some .e4m3
  | 4 => some .e5m2
  | 5 => some .int8
  | 6 => some .int4
  | 7 => some .fp4e8
  | 8 => some .fp4e4
  | 9 => some .e8m0
  | _ => none

/-- Bits per element (R17). -/
def Fmt.bits : Fmt → Nat
  | .fp32 => 32
  | .bf16 => 16
  | .fp16 => 16
  | .e4m3 => 8
  | .e5m2 => 8
  | .int8 => 8
  | .int4 => 4
  | .fp4e8 => 4
  | .fp4e4 => 4
  | .e8m0 => 8

/-- FP4 in either scale kind (R23). -/
def Fmt.isFp4 : Fmt → Bool
  | .fp4e8 => true
  | .fp4e4 => true
  | _ => false

/-- The shape of a floating point format: exponent bits, mantissa bits, bias, the encoding of its largest finite
magnitude, and whether it has infinities (R17). -/
structure FpShape where
  ebits : Nat
  mbits : Nat
  bias : Int
  maxCode : Nat
  hasInf : Bool
  deriving DecidableEq, Repr

def shapeFp32 : FpShape := { ebits := 8, mbits := 23, bias := 127, maxCode := 0x7F7FFFFF, hasInf := true }
def shapeBf16 : FpShape := { ebits := 8, mbits := 7, bias := 127, maxCode := 0x7F7F, hasInf := true }
def shapeFp16 : FpShape := { ebits := 5, mbits := 10, bias := 15, maxCode := 0x7BFF, hasInf := true }
def shapeE4m3 : FpShape := { ebits := 4, mbits := 3, bias := 7, maxCode := 0x7E, hasInf := false }
def shapeE5m2 : FpShape := { ebits := 5, mbits := 2, bias := 15, maxCode := 0x7B, hasInf := true }
def shapeFp4 : FpShape := { ebits := 2, mbits := 1, bias := 1, maxCode := 0x7, hasInf := false }

/-- The finite value a magnitude code of `f` stands for, subnormals included (R17, R19). -/
def fpMag (f : FpShape) (s : Bool) (c : Nat) : Num :=
  let man := c % 2 ^ f.mbits
  let ex := c / 2 ^ f.mbits
  if ex = 0 then .fin s man (1 - f.bias - f.mbits)
  else .fin s (man + 2 ^ f.mbits) (ex - f.bias - f.mbits)

/-- Reading an encoding of `f` (R17): the codes beyond the largest finite one are infinity and NaN. -/
def fpDecode (f : FpShape) (v : Nat) : Num :=
  let w := f.ebits + f.mbits
  let s := bitOf v w
  let c := v % 2 ^ w
  if c ≤ f.maxCode then fpMag f s c
  else if f.hasInf && c % 2 ^ f.mbits == 0 then .inf s
  else .nan s

/-- A two's complement integer of `w` bits. -/
def intDecode (w v : Nat) : Num :=
  let c := v % 2 ^ w
  if c < 2 ^ (w - 1) then .fin false c 0 else .fin true (2 ^ w - c) 0

/-- The value of an E8M0 scale: 2^(E − 127), or NaN for 0xFF (R21). -/
def e8m0Decode (v : Nat) : Num :=
  if v % 256 = 255 then .nan false else .fin false 1 ((v % 256 : Nat) - 127)

/-- The value of an E4M3 scale; sign 1 and the NaN encodings make the block NaN (R21, R22). -/
def e4m3ScaleDecode (v : Nat) : Num :=
  if bitOf v 7 then .nan false else fpDecode shapeE4m3 v

/-- The value an element code of a format stands for, its block scale aside (R17). -/
def Fmt.decode : Fmt → Nat → Num
  | .fp32, v => fpDecode shapeFp32 v
  | .bf16, v => fpDecode shapeBf16 v
  | .fp16, v => fpDecode shapeFp16 v
  | .e4m3, v => fpDecode shapeE4m3 v
  | .e5m2, v => fpDecode shapeE5m2 v
  | .int8, v => intDecode 8 v
  | .int4, v => intDecode 4 v
  | .fp4e8, v => fpDecode shapeFp4 v
  | .fp4e4, v => fpDecode shapeFp4 v
  | .e8m0, v => e8m0Decode v

/-- The canonical quiet NaN of R28. (DEDUCED, log 22.) -/
def Num.qnan : Num := .nan false

/-- Whether a value is a zero of either sign. -/
def Num.isZero : Num → Bool
  | .fin _ 0 _ => true
  | _ => false

def Num.zero : Num := .fin false 0 0
def Num.one : Num := .fin false 1 0

/-- The exact product (R27): NaN where an operand is NaN or the operation is invalid. -/
def Num.mul : Num → Num → Num
  | .nan _, _ => .qnan
  | _, .nan _ => .qnan
  | .inf s, .inf t => .inf (s != t)
  | .inf s, .fin t m _ => if m = 0 then .qnan else .inf (s != t)
  | .fin s m _, .inf t => if m = 0 then .qnan else .inf (s != t)
  | .fin s m e, .fin t n f => .fin (s != t) (m * n) (e + f)

/-- The signed significand of a finite value at exponent `e`, which is not above its own. -/
def alignTo (s : Bool) (m : Nat) (x e : Int) : Int :=
  let v : Int := (m * 2 ^ (x - e).toNat : Nat)
  if s then -v else v

/-- The exact sum; a zero sum of opposite signs is +0, of equal signs keeps the sign (IEEE 754, R28). -/
def Num.add : Num → Num → Num
  | .nan _, _ => .qnan
  | _, .nan _ => .qnan
  | .inf s, .inf t => if s = t then .inf s else .qnan
  | .inf s, .fin _ _ _ => .inf s
  | .fin _ _ _, .inf t => .inf t
  | .fin s m e, .fin t n f =>
    let x := if e ≤ f then e else f
    let v := alignTo s m e x + alignTo t n f x
    if v = 0 then .fin (s && t) 0 x
    else .fin (decide (v < 0)) v.natAbs x

def Num.neg : Num → Num
  | .nan s => .nan (!s)
  | .inf s => .inf (!s)
  | .fin s m e => .fin (!s) m e

def Num.abs : Num → Num
  | .nan _ => .nan false
  | .inf _ => .inf false
  | .fin _ m e => .fin false m e

/-- Order of two values that are not NaN, with −0 below +0 (R752). -/
def Num.lt : Num → Num → Bool
  | .nan _, _ => false
  | _, .nan _ => false
  | .inf s, .inf t => s && !t
  | .inf s, .fin _ _ _ => s
  | .fin _ _ _, .inf t => !t
  | .fin s m e, .fin t n f =>
    let x := if e ≤ f then e else f
    let a := alignTo s m e x
    let b := alignTo t n f x
    if m = 0 && n = 0 then s && !t else decide (a < b)

/-- The maximum operation of IEEE 754-2019 (R752). -/
def Num.max : Num → Num → Num
  | .nan _, _ => .qnan
  | _, .nan _ => .qnan
  | a, b => if Num.lt a b then b else a

/-- The minimum operation of IEEE 754-2019 (R752). -/
def Num.min : Num → Num → Num
  | .nan _, _ => .qnan
  | _, .nan _ => .qnan
  | a, b => if Num.lt b a then b else a

/-- Nearest integer to `n / d`, ties to even (R33). -/
def rneDiv (n d : Nat) : Nat :=
  let q := n / d
  let r := n % d
  if 2 * r < d then q else if d < 2 * r then q + 1 else if q % 2 = 0 then q else q + 1

/-- Nearest integer to (n / d)·2^e, ties to even. -/
def rneScaled (n d : Nat) (e : Int) : Nat :=
  if 0 ≤ e then rneDiv (n * 2 ^ e.toNat) d else rneDiv n (d * 2 ^ (-e).toNat)

/-- The exponent k with 2^k ≤ n / d < 2^(k+1), for n and d not 0. -/
def ratLog2 (n d : Nat) : Int :=
  let k : Int := (n.log2 : Int) - d.log2
  let below := if 0 ≤ k then decide (n < d * 2 ^ k.toNat) else decide (n * 2 ^ (-k).toNat < d)
  if below then k - 1 else k

/-- What a conversion yields: the code, and whether it counts as a saturation or as non-finite (R34, R35). -/
structure Conv where
  code : Nat
  sat : Bool := false
  nonfinite : Bool := false
  deriving DecidableEq, Repr

/-- The magnitude code of `f` nearest to (n / d)·2^e rounded as though the exponent range were unbounded, and none
where the rounded value lies beyond the largest finite one (R33, R34). (DEDUCED, log 21.) -/
def roundFp (f : FpShape) (n d : Nat) (e : Int) : Option Nat :=
  if n = 0 then some 0
  else
    let emin : Int := 1 - f.bias - f.mbits
    let top : Int := ratLog2 n d + e - f.mbits
    let q := if emin ≤ top then top else emin
    let r := rneScaled n d (e - q)
    -- a significand that rounded up to the next power of two is that power at the next exponent
    let carry := r = 2 ^ (f.mbits + 1)
    let r' := if carry then 2 ^ f.mbits else r
    let q' := if carry then q + 1 else q
    let c := if r' < 2 ^ f.mbits then r' else (q' - emin).toNat * 2 ^ f.mbits + r'
    if c ≤ f.maxCode then some c else none

/-- Sign and magnitude put together. -/
def fpCode (f : FpShape) (s : Bool) (c : Nat) : Nat :=
  (if s then 2 ^ (f.ebits + f.mbits) else 0) + c

/-- Conversion of (n / d)·2^e with its sign to a narrow floating point format: R33, R34. -/
def convFinFp (f : FpShape) (s : Bool) (n d : Nat) (e : Int) : Conv :=
  match roundFp f n d e with
  | some c => { code := fpCode f s c }
  | none => { code := fpCode f s f.maxCode, sat := true }

/-- Conversion to an integer format of `w` bits: R33, R34. -/
def convFinInt (w : Nat) (s : Bool) (n d : Nat) (e : Int) : Conv :=
  let r := rneScaled n d e
  if s then
    if r ≤ 2 ^ (w - 1) then { code := (2 ^ w - r) % 2 ^ w } else { code := 2 ^ (w - 1), sat := true }
  else
    if r < 2 ^ (w - 1) then { code := r } else { code := 2 ^ (w - 1) - 1, sat := true }

/-- The infinity code of a format that has one: all ones exponent, mantissa 0. -/
def infCode (f : FpShape) : Nat := (2 ^ f.ebits - 1) * 2 ^ f.mbits

/-- The canonical quiet NaN code of FP32, BF16 and FP16 (R28). (DEDUCED, log 22.) -/
def qnanCode (f : FpShape) : Nat := infCode f + 2 ^ (f.mbits - 1)

/-- The row "NaN" and the row "±infinity" of R35 for one target. -/
def convNonFinite (t : Fmt) (s : Bool) (isNan : Bool) : Conv :=
  let fl (f : FpShape) : Nat := if isNan then qnanCode f else infCode f
  match t with
  | .fp32 => { code := fpCode shapeFp32 s (fl shapeFp32), nonfinite := true }
  | .bf16 => { code := fpCode shapeBf16 s (fl shapeBf16), nonfinite := true }
  | .fp16 => { code := fpCode shapeFp16 s (fl shapeFp16), nonfinite := true }
  | .e5m2 => { code := fpCode shapeE5m2 s (if isNan then 0x7F else infCode shapeE5m2), nonfinite := true }
  | .e4m3 => { code := fpCode shapeE4m3 s (if isNan then 0x7F else 0x7E), nonfinite := true }
  | .int8 => { code := if isNan then 0 else if s then 128 else 127, nonfinite := true }
  | .int4 => { code := if isNan then 0 else if s then 8 else 7, nonfinite := true }
  | .fp4e8 => { code := if isNan then 0 else fpCode shapeFp4 s 7, nonfinite := true }
  | .fp4e4 => { code := if isNan then 0 else fpCode shapeFp4 s 7, nonfinite := true }
  | .e8m0 => { code := 0xFF, nonfinite := true }

/-- Conversion of ±(n / d)·2^e. FP32 overflow is infinity and is not counted (R28); every other target saturates. -/
def convFin (t : Fmt) (s : Bool) (n d : Nat) (e : Int) : Conv :=
  match t with
  | .fp32 =>
    match roundFp shapeFp32 n d e with
    | some c => { code := fpCode shapeFp32 s c }
    | none => { code := fpCode shapeFp32 s (infCode shapeFp32) }
  | .bf16 => convFinFp shapeBf16 s n d e
  | .fp16 => convFinFp shapeFp16 s n d e
  | .e4m3 => convFinFp shapeE4m3 s n d e
  | .e5m2 => convFinFp shapeE5m2 s n d e
  | .int8 => convFinInt 8 s n d e
  | .int4 => convFinInt 4 s n d e
  | .fp4e8 => convFinFp shapeFp4 s n d e
  | .fp4e4 => convFinFp shapeFp4 s n d e
  | .e8m0 => { code := 0 }

/-- Conversion of a value to a format without block scales (R33 to R35). -/
def convert (t : Fmt) : Num → Conv
  | .nan s => convNonFinite t s true
  | .inf s => convNonFinite t s false
  | .fin s m e => convFin t s m 1 e

/-- One rounding to FP32 (R28): overflow becomes infinity of its sign, a NaN the canonical one. -/
def round32 : Num → Num
  | .nan _ => .qnan
  | .inf s => .inf s
  | .fin s m e =>
    match roundFp shapeFp32 m 1 e with
    | some c => fpMag shapeFp32 s c
    | none => .inf s

/-- FP32 addition (R28). (DEDUCED, log 21.) -/
def add32 (a b : Num) : Num := round32 (a.add b)

/-- FP32 multiplication, one rounding. -/
def mul32 (a b : Num) : Num := round32 (a.mul b)

/-- The value of an FP32 register. -/
def ofFp32 (w : Word32) : Num := fpDecode shapeFp32 w.toNat

/-- The FP32 encoding of a value that FP32 holds or that R28 rounds. -/
def toFp32 (v : Num) : Word32 := BitVec.ofNat 32 (convert .fp32 v).code

/-- The least block scale of R44 that reaches m / 6: its code and value, for a largest magnitude `mag` that is not
zero; the largest scale where none reaches it. -/
def chooseScale (t : Fmt) (mag : Num) : Nat × Num :=
  let six : Num := .fin false 6 0
  let dec : Nat → Num := match t with
    | .fp4e8 => e8m0Decode
    | _ => e4m3ScaleDecode
  let codes := match t with
    | .fp4e8 => List.range 255
    | _ => (List.range 127).filter (fun c => 0 < c)
  match codes.find? (fun c => !(Num.lt ((dec c).mul six) mag)) with
  | some c => (c, dec c)
  | none => match t with
    | .fp4e8 => (254, dec 254)
    | _ => (0x7E, dec 0x7E)

/-- The largest finite magnitude of a block. -/
def blockMag : List Num → Num
  | [] => .zero
  | .fin _ m e :: rest => (Num.fin false m e).max (blockMag rest)
  | _ :: rest => blockMag rest

/-- An element of an FP4 block converted as its value divided by the block scale, rounded once (R44). -/
def convFp4 (t : Fmt) (scale : Num) : Num → Conv
  | .nan s => convNonFinite t s true
  | .inf s => convNonFinite t s false
  | .fin s m e => match scale with
    | .fin _ n f => if n = 0 then { code := fpCode shapeFp4 s 0 } else convFin t s m n (e - f)
    | _ => convNonFinite t s true

/-- A converted block: the scale byte where the format has one, the element codes and the two counts. -/
structure ConvBlock where
  scale : Option Nat
  codes : List Nat
  sats : Nat
  nonfinites : Nat
  deriving DecidableEq, Repr

/-- Conversion of up to 32 consecutive outputs to a format, its block scale formed by R44 when the format is FP4. -/
def convBlock (t : Fmt) (vs : List Num) : ConvBlock :=
  let fin (sc : Option Nat) (cs : List Conv) : ConvBlock :=
    { scale := sc, codes := cs.map (·.code), sats := (cs.filter (·.sat)).length,
      nonfinites := (cs.filter (·.nonfinite)).length }
  if t.isFp4 then
    let mag := blockMag vs
    let sc : Nat × Num :=
      if !(Num.lt .zero mag) then
        (match t with
          | .fp4e8 => (0x7F, .one)
          | _ => (0x38, .one))
      else chooseScale t mag
    fin (some sc.1) (vs.map (convFp4 t sc.2))
  else fin none (vs.map (convert t))

/-- Sums and products in ascending order of R29: psum of one group of products. -/
def sum32 (vs : List Num) : Num := vs.foldl add32 .zero

/-- The products of two operand lists, exact (R27). -/
def products : List Num → List Num → List Num
  | a :: as, b :: bs => a.mul b :: products as bs
  | _, _ => []

/-- A list cut into parts of `n`. -/
def chunksAux {α : Type} (n : Nat) : Nat → List α → List (List α)
  | 0, _ => []
  | fuel + 1, xs => match xs with
    | [] => []
    | _ => xs.take n :: chunksAux n fuel (xs.drop n)

/-- A list cut into parts of `n`, the last possibly shorter. -/
def chunks {α : Type} (n : Nat) (xs : List α) : List (List α) := chunksAux n xs.length xs

end Sys2Proof.Machine
end

