-- ==== Sys2Proof/Machine/Elementary.lean ====
section
/-!
DEFINITION. The elementary functions of the rim (R90) and the rotary sine and cosine of the ladles (R181). Each is worked out to 200
fractional bits, rounded to FP32, and moved by a free error within the bound its rule gives. (DEDUCED, log 2.)
-/

namespace Sys2Proof.Machine

/-- Fractional bits of the fixed point arithmetic below. -/
def fixBits : Nat := 200

/-- One, ln 2, 2π, 2·sqrt(2/π) and 0.044715 in fixed point, rounded down. -/
def fixOne : Nat := 2 ^ fixBits
def fixLn2 : Nat := 0xb17217f7d1cf79abc9e3b39803f2f6af40f343267298b62d8a
def fixTwoPi : Nat := 0x6487ed5110b4611a62633145c06e0e68948127044533e63a010
def fixGeluGain : Nat := 0x19884533d436508d0fcb3c500bab8e2ff4e0a7cc1449c1b6301
def fixGeluCubic : Nat := 0xb727136a400fba8826aa8eb463497b7414a4d2b2bfdb4cc25

/-- m·2^e in fixed point. -/
def fixOf (m : Nat) (e : Int) : Nat :=
  let p : Int := e + fixBits
  if 0 ≤ p then m * 2 ^ p.toNat else m / 2 ^ (-p).toNat

def fixMul (a b : Nat) : Nat := a * b / fixOne

/-- The exponential series of r below 1, from its last term inwards. -/
def expSeries (r : Nat) : Nat → Nat → Nat
  | 0, acc => acc
  | n + 1, acc => expSeries r n (fixOne + fixMul r acc / (n + 1))

/-- exp of a fixed point number as t·2^k with t in fixed point from 1 to 2. -/
def expFix (x : Int) : Nat × Int :=
  let k := x / (fixLn2 : Int)
  (expSeries (x - k * (fixLn2 : Int)).toNat 48 fixOne, k)

/-- The FP32 value at a signed distance in units in the last place from a code of a sign. -/
def ulpsAway (s : Bool) (c : Nat) (d : Int) : Num :=
  let v : Int := c + d
  if v < 0 then fpMag shapeFp32 (!s) v.natAbs
  else if v.toNat ≤ shapeFp32.maxCode then fpMag shapeFp32 s v.toNat else .inf s

/-- A rim function's result: (n / d)·2^e rounded to FP32 and moved by the device's error of at most 2 units (R90). -/
def rimResult (fn : Nat) (x : Word32) (s : Bool) (n d : Nat) (e : Int) : Num :=
  match roundFp shapeFp32 n d e with
  | some c => ulpsAway s c ((Config.rimError fn x).val - 2)
  | none => .inf s

/-- exp (R90). -/
def rimExp (v : Num) : Num :=
  let x := toFp32 v
  match ofFp32 x with
  | .nan _ => .qnan
  | .inf s => if s then .zero else .inf false
  | .fin s m e =>
    let a := fixOf m e
    if 128 * fixOne ≤ a then (if s then rimResult 0 x false 0 1 0 else .inf false)
    else
      let (t, k) := expFix (if s then -(a : Int) else a)
      rimResult 0 x false t 1 (k - fixBits)

/-- x / (1 + exp(−y)) for x = ±m·2^e and y of the same sign with magnitude `y` in fixed point. -/
def timesSigmoid (fn : Nat) (x : Word32) (s : Bool) (m : Nat) (e : Int) (y : Nat) : Num :=
  if 160 * fixOne ≤ y then (if s then rimResult fn x s 0 1 0 else rimResult fn x s m 1 e)
  else
    let (t, k) := expFix (-(y : Int))
    let one := 2 ^ ((fixBits : Int) - k).toNat
    rimResult fn x s (m * (if s then t else one)) (one + t) e

/-- SiLU: x × sigmoid(x) (R90). -/
def rimSilu (v : Num) : Num :=
  let x := toFp32 v
  match ofFp32 x with
  | .nan _ => .qnan
  | .inf s => if s then ofFp32 (Config.rimEdge 1 x) else .inf false
  | .fin s m e => timesSigmoid 1 x s m e (fixOf m e)

/-- GELU in its tanh form, 0.5·x·(1 + tanh(sqrt(2/π)·(x + 0.044715·x³))) (R72, R90). -/
def rimGelu (v : Num) : Num :=
  let x := toFp32 v
  match ofFp32 x with
  | .nan _ => .qnan
  | .inf s => if s then ofFp32 (Config.rimEdge 2 x) else .inf false
  | .fin s m e =>
    let a := fixOf m e
    timesSigmoid 2 x s m e
      (if 16 * fixOne ≤ a then 160 * fixOne else fixMul fixGeluGain (a + fixMul fixGeluCubic (fixMul a (fixMul a a))))

/-- The largest r with r²·m not above n, bit by bit. -/
def rootBits (m n : Nat) : Nat → Nat → Nat
  | 0, r => r
  | i + 1, r => rootBits m n i (if (r + 2 ^ i) * (r + 2 ^ i) * m ≤ n then r + 2 ^ i else r)

/-- 1 / sqrt (R90). -/
def rimRsqrt (v : Num) : Num :=
  let x := toFp32 v
  match ofFp32 x with
  | .nan _ => .qnan
  | .inf s => if s then .qnan else .zero
  | .fin s m e =>
    if m = 0 then (if s then ofFp32 (Config.rimEdge 3 x) else .inf false)
    else if s then .qnan
    else
      let odd := e % 2
      let r := rootBits (m * 2 ^ odd.toNat) (2 ^ 160) 81 0
      rimResult 3 x false (2 * r + 1) 1 (-81 - (e - odd) / 2)

/-! ## Rotary sine and cosine (R181) -/

/-- The fraction of a turn that POS × θ is, in fixed point: the product exact, reduced modulo one turn. -/
def turnOf (pos : Nat) (s : Bool) (m : Nat) (e : Int) : Nat :=
  let f := fixOf (pos * m) e % fixOne
  if s then (fixOne - f) % fixOne else f

/-- The series of cosine (`c` 0) or of sine over its argument (`c` 1) in the argument's square, from its last term inwards. -/
def trigSeries (c x2 : Nat) : Nat → Nat → Nat
  | 0, acc => acc
  | n + 1, acc => trigSeries c x2 n (fixOne - fixMul x2 acc / ((2 * n + 1 + c) * (2 * n + 2 + c)))

/-- Cosine and sine of a turn's fraction in fixed point. -/
def cosSin (turn : Nat) : Int × Int :=
  let quarter := fixOne / 4
  let x := fixMul (turn % quarter) fixTwoPi
  let c : Int := trigSeries 0 (fixMul x x) 32 fixOne
  let s : Int := fixMul x (trigSeries 1 (fixMul x x) 32 fixOne)
  match turn / quarter with
  | 0 => (c, s)
  | 1 => (-s, c)
  | 2 => (-c, -s)
  | _ => (s, -c)

/-- An FP32 value within 2^−22 of a fixed point number: the number with the device's error, rounded; without it, where the rounding
would leave the bound. -/
def nearTrig (v err : Int) : Num :=
  let fin (u : Int) : Num := round32 (.fin (decide (u < 0)) u.natAbs (-fixBits))
  match fin (v + err) with
  | .fin s m e => if (alignTo s m e (-fixBits) - v).natAbs ≤ 2 ^ (fixBits - 22) then .fin s m e else fin v
  | _ => fin v

/-- The device's error at a position and frequency: up to 2^−22 in steps of 2^−48. -/
def ropeErrorFix (sine : Bool) (pos : Nat) (theta : Word32) : Int := (Config.ropeError sine pos theta).toInt * 2 ^ (fixBits - 48)

/-- cos φ and sin φ with φ = frac(POS × θ) turns (R181); the product of a θ that is no number is invalid (R28). -/
def ropeCosSin (pos : Nat) (theta : Word32) : Num × Num :=
  match ofFp32 theta with
  | .fin s m e =>
    let (c, sn) := cosSin (turnOf pos s m e)
    (nearTrig c (ropeErrorFix false pos theta), nearTrig sn (ropeErrorFix true pos theta))
  | _ => (.qnan, .qnan)

end Sys2Proof.Machine
end

