-- ==== Sys2Proof/Machine/DictTable.lean ====
section
/-!
DEFINITION. The object dictionary's tables: one row for each entry the chapters' dictionary tables give (R60, R105,
R144, R200, R248, R278, R360, R391, R424, R458, R459, R505, R542, R574, R603, R622, R653, R682, R698, R725).
-/

namespace Sys2Proof.Machine

/-- Where an entry's default comes from: a stated value, the signed configuration block ("cfg"), or none ("—"). -/
inductive DefaultSource where
  | value | cfg | unset
  deriving DecidableEq, Repr

/-- How a write acts: it stores the value, it clears a counter (R47), or written ones clear bits. -/
inductive WriteKind where
  | plain | counter | clearOnes
  deriving DecidableEq, Repr

/-- One row: indices `base + step·i` for i < `count`, subindices `sub0`, `sub0 + subStep`, … up to `sub1`; the R589 type
code; read and write authority (0 none, 1 OBSERVER, 2 OPERATOR, 3 OWNER, 4 TENANT); the default; STORED or VOLATILE. -/
structure DictRow where
  base : Nat
  count : Nat
  step : Nat
  sub0 : Nat
  sub1 : Nat
  subStep : Nat
  ty : Nat
  rd : Nat
  wr : Nat
  dflt : Nat
  stored : Bool
  source : DefaultSource
  kind : WriteKind
  range : Option (Nat × Nat)
  deriving DecidableEq, Repr

def dRow (base count step sub0 sub1 subStep ty rd wr dflt : Nat) (stored : Bool) (source : DefaultSource)
    (kind : WriteKind) (range : Option (Nat × Nat)) : DictRow :=
  { base := base, count := count, step := step, sub0 := sub0, sub1 := sub1, subStep := subStep, ty := ty, rd := rd,
    wr := wr, dflt := dflt, stored := stored, source := source, kind := kind, range := range }

def dictRows1p0 : List DictRow := [
  dRow 0x1200 1 1 0 0 1 2 1 0 13 false .value .plain none,
  dRow 0x1200 1 1 1 1 1 2 1 2 0 true .value .plain (some (0, 2)),
  dRow 0x1200 1 1 2 2 1 4 1 2 16666667 true .value .plain (some (1000000, 100000000)),
  dRow 0x1200 1 1 3 3 1 17 1 2 0 true .value .plain none,
  dRow 0x1200 1 1 4 4 1 4 1 2 50000 true .value .plain none,
  dRow 0x1200 1 1 5 5 1 2 1 2 8 true .value .plain (some (2, 64)),
  dRow 0x1200 1 1 6 6 1 2 1 2 4 true .value .plain (some (1, 64)),
  dRow 0x1200 1 1 7 7 1 2 1 0 1 false .value .plain none,
  dRow 0x1200 1 1 8 8 1 5 1 0 0 false .value .plain none,
  dRow 0x1200 1 1 9 9 1 4 1 0 0 false .value .plain none,
  dRow 0x1200 1 1 10 10 1 5 1 2 0 false .value .counter none,
  dRow 0x1200 1 1 11 11 1 5 1 2 0 false .value .counter none,
  dRow 0x1200 1 1 12 12 1 4 1 2 10000 true .value .plain (some (100, 1000000)),
  dRow 0x1200 1 1 13 13 1 7 1 2 0 true .value .plain none,
  dRow 0x1201 1 1 0 0 1 2 1 0 13 false .value .plain none,
  dRow 0x1201 1 1 1 1 1 2 1 0 2 false .value .plain none,
  dRow 0x1201 1 1 2 2 1 17 1 3 0 false .unset .plain none,
  dRow 0x1201 1 1 3 3 1 2 1 3 64 true .value .plain none,
  dRow 0x1201 1 1 4 4 1 2 1 3 65 true .value .plain none,
  dRow 0x1201 1 1 5 5 1 2 1 3 0 true .value .plain none,
  dRow 0x1201 1 1 6 6 1 2 1 0 0 false .value .plain none,
  dRow 0x1201 1 1 7 7 1 1 1 2 1 true .value .plain none,
  dRow 0x1201 1 1 8 8 1 3 1 2 100 true .value .plain (some (10, 10000)),
  dRow 0x1201 1 1 9 9 1 7 1 0 0 false .value .plain none,
  dRow 0x1201 1 1 10 10 1 7 1 0 0 false .value .plain none,
  dRow 0x1201 1 1 11 11 1 9 1 0 2143289344 false .unset .plain none,
  dRow 0x1201 1 1 12 12 1 17 1 0 0 false .value .plain none,
  dRow 0x1201 1 1 13 13 1 5 1 2 0 false .value .counter none,
  dRow 0x1202 1 1 1 4 1 9 1 0 0 false .cfg .plain none,
  dRow 0x1210 1 1 1 1 1 16 1 2 0 true .value .plain none,
  dRow 0x1210 1 1 2 2 1 16 1 2 0 true .value .plain none,
  dRow 0x1210 1 1 3 3 1 2 1 0 0 true .value .plain none,
  dRow 0x1210 1 1 4 4 1 2 0 2 0 false .unset .plain none,
  dRow 0x1210 1 1 5 5 1 5 1 2 0 false .value .counter none,
  dRow 0x1210 1 1 6 6 1 5 1 2 0 false .value .counter none,
  dRow 0x1000 1 1 0 0 1 2 1 0 17 false .value .plain none,
  dRow 0x1000 1 1 1 1 1 14 1 0 0 false .value .plain none,
  dRow 0x1000 1 1 2 2 1 14 1 0 0 false .value .plain none,
  dRow 0x1000 1 1 3 3 1 14 1 0 0 false .value .plain none,
  dRow 0x1000 1 1 4 4 1 14 1 0 0 false .value .plain none,
  dRow 0x1000 1 1 5 5 1 14 1 0 0 false .cfg .plain none,
  dRow 0x1000 1 1 6 6 1 3 1 0 7802 false .value .plain none,
  dRow 0x1000 1 1 7 7 1 3 1 0 8 false .value .plain none,
  dRow 0x1000 1 1 8 8 1 3 1 0 9 false .value .plain none,
  dRow 0x1000 1 1 9 9 1 17 1 0 0 false .cfg .plain none,
  dRow 0x1000 1 1 10 10 1 15 1 0 0 false .unset .plain none,
  dRow 0x1000 1 1 11 11 1 16 1 0 0 false .cfg .plain none,
  dRow 0x1000 1 1 12 12 1 4 1 0 0 false .cfg .plain none,
  dRow 0x1000 1 1 13 13 1 14 1 0 0 false .unset .plain none,
  dRow 0x1000 1 1 14 14 1 14 1 0 0 false .value .plain none,
  dRow 0x1000 1 1 15 15 1 2 1 0 1 false .value .plain none,
  dRow 0x1000 1 1 16 16 1 1 1 0 0 false .value .plain none,
  dRow 0x1000 1 1 17 17 1 14 1 2 0 true .value .plain none,
  dRow 0x1100 1 1 0 0 1 2 1 0 20 false .value .plain none,
  dRow 0x1100 1 1 1 1 1 15 1 0 0 false .cfg .plain none,
  dRow 0x1100 1 1 2 2 1 15 1 0 0 false .cfg .plain none,
  dRow 0x1100 1 1 3 3 1 4 1 3 0 true .value .plain none,
  dRow 0x1100 1 1 4 4 1 2 1 3 24 true .value .plain (some (8, 30)),
  dRow 0x1100 1 1 5 5 1 4 1 3 0 true .value .plain none,
  dRow 0x1100 1 1 6 6 1 15 1 3 0 true .value .plain none]

def dictRows1p1 : List DictRow := [
  dRow 0x1100 1 1 7 7 1 2 1 3 64 true .value .plain (some (16, 127)),
  dRow 0x1100 1 1 8 8 1 3 1 3 0 true .value .plain (some (0, 4094)),
  dRow 0x1100 1 1 9 9 1 2 1 3 46 true .value .plain (some (0, 63)),
  dRow 0x1100 1 1 10 10 1 2 1 3 16 true .value .plain (some (1, 16)),
  dRow 0x1100 1 1 11 11 1 4 1 3 10000 true .value .plain (some (1000, 3600000)),
  dRow 0x1100 1 1 12 12 1 4 1 3 1000 true .value .plain (some (100, 10000000)),
  dRow 0x1100 1 1 13 13 1 1 1 3 1 true .value .plain none,
  dRow 0x1100 1 1 14 14 1 15 1 3 0 true .value .plain none,
  dRow 0x1100 1 1 15 15 1 2 1 0 0 false .value .plain none,
  dRow 0x1100 1 1 16 16 1 5 1 2 0 false .value .counter none,
  dRow 0x1100 1 1 17 17 1 5 1 2 0 false .value .counter none,
  dRow 0x1100 1 1 18 18 1 5 1 2 0 false .value .counter none,
  dRow 0x1100 1 1 19 19 1 5 1 2 0 false .value .counter none,
  dRow 0x1100 1 1 20 20 1 5 1 2 0 false .value .counter none,
  dRow 0x1101 1 1 0 0 1 2 1 0 32 false .value .plain none,
  dRow 0x1101 1 1 1 32 1 15 1 3 0 true .cfg .plain none,
  dRow 0x1110 1 1 0 0 1 2 1 0 16 false .value .plain none,
  dRow 0x1110 1 1 1 16 1 5 1 0 0 false .value .plain none]

def dictRows2p0 : List DictRow := [
  dRow 0x2100 1 1 0 0 1 2 1 0 6 false .value .plain none,
  dRow 0x2100 1 1 1 1 1 4 1 2 16 true .value .plain none,
  dRow 0x2100 1 1 2 2 1 4 1 2 64 true .value .plain none,
  dRow 0x2100 1 1 3 3 1 1 1 2 1 true .value .plain none,
  dRow 0x2100 1 1 4 4 1 5 1 3 0 true .value .plain none,
  dRow 0x2100 1 1 5 5 1 5 1 3 0 true .value .plain none,
  dRow 0x2100 1 1 6 6 1 1 1 2 1 true .value .plain none,
  dRow 0x2101 1 1 0 0 1 2 1 0 5 false .value .plain none,
  dRow 0x2101 1 1 1 1 1 5 1 2 0 false .value .counter none,
  dRow 0x2101 1 1 2 2 1 5 1 2 0 false .value .counter none,
  dRow 0x2101 1 1 3 3 1 5 1 2 0 false .value .counter none,
  dRow 0x2101 1 1 4 4 1 5 1 2 0 false .value .counter none,
  dRow 0x2101 1 1 5 5 1 5 1 2 0 false .value .counter none,
  dRow 0x2110 16 1 0 0 1 2 1 0 254 false .value .plain none,
  dRow 0x2110 16 1 1 254 1 4 1 2 0 false .value .counter none,
  dRow 0x2120 16 1 0 0 1 2 1 0 254 false .value .plain none,
  dRow 0x2120 16 1 1 254 1 4 1 2 0 false .value .counter none,
  dRow 0x2130 16 1 0 0 1 2 1 0 3 false .value .plain none,
  dRow 0x2130 16 1 1 1 1 1 1 2 0 true .value .plain none,
  dRow 0x2130 16 1 2 2 1 4 1 2 16 true .value .plain none,
  dRow 0x2130 16 1 3 3 1 4 1 2 64 true .value .plain none,
  dRow 0x2140 1 1 0 0 1 2 1 0 6 false .value .plain none,
  dRow 0x2140 1 1 1 1 1 11 1 0 65535 false .value .plain none,
  dRow 0x2140 1 1 2 2 1 3 1 0 4096 false .value .plain none,
  dRow 0x2140 1 1 3 3 1 9 1 0 1115055718 false .value .plain none,
  dRow 0x2140 1 1 4 4 1 9 1 0 1106667110 false .value .plain none,
  dRow 0x2140 1 1 5 5 1 9 1 0 1089889894 false .value .plain none,
  dRow 0x2140 1 1 6 6 1 5 1 0 0 false .value .plain none,
  dRow 0x2200 1 1 0 0 1 2 1 0 5 false .value .plain none,
  dRow 0x2200 1 1 1 1 1 10 1 0 255 false .value .plain none,
  dRow 0x2200 1 1 2 2 1 5 1 0 687194767360 false .value .plain none,
  dRow 0x2200 1 1 3 3 1 10 1 0 0 false .value .plain none,
  dRow 0x2200 1 1 4 4 1 10 1 0 0 false .value .plain none,
  dRow 0x2200 1 1 5 5 1 10 1 0 0 false .value .plain none,
  dRow 0x2210 8 1 0 0 1 2 1 0 12 false .value .plain none,
  dRow 0x2210 8 1 1 1 1 13 1 3 0 true .value .plain none,
  dRow 0x2210 8 1 2 2 1 11 1 3 0 true .value .plain none,
  dRow 0x2210 8 1 3 3 1 2 1 0 80 false .value .plain none,
  dRow 0x2210 8 1 4 4 1 12 1 0 4294967295 false .value .plain none,
  dRow 0x2210 8 1 5 5 1 2 1 0 32 false .value .plain none,
  dRow 0x2210 8 1 6 6 1 2 1 0 0 false .value .plain none,
  dRow 0x2210 8 1 7 7 1 5 1 2 0 false .value .counter none,
  dRow 0x2210 8 1 8 8 1 5 1 2 0 false .value .counter none,
  dRow 0x2210 8 1 9 9 1 5 1 2 0 false .value .counter none,
  dRow 0x2210 8 1 10 10 1 4 1 0 0 false .cfg .plain none,
  dRow 0x2210 8 1 11 11 1 3 1 0 0 false .cfg .plain none,
  dRow 0x2210 8 1 12 12 1 4 1 2 0 false .value .counter none,
  dRow 0x2300 1 1 0 0 1 2 1 0 7 false .value .plain none,
  dRow 0x2300 1 1 1 1 1 1 1 2 1 true .value .plain none,
  dRow 0x2300 1 1 2 2 1 3 1 0 16384 false .value .plain none,
  dRow 0x2300 1 1 3 3 1 9 1 2 925353388 true .value .plain none,
  dRow 0x2300 1 1 4 4 1 5 1 2 0 false .value .counter none,
  dRow 0x2300 1 1 5 5 1 5 1 2 0 false .value .counter none,
  dRow 0x2300 1 1 6 6 1 5 1 2 0 false .value .counter none,
  dRow 0x2300 1 1 7 7 1 5 1 2 0 false .value .counter none,
  dRow 0x2310 8 1 0 0 1 2 1 0 4 false .value .plain none,
  dRow 0x2310 8 1 1 1 1 3 1 0 2048 false .value .plain none,
  dRow 0x2310 8 1 2 2 1 3 1 0 0 false .value .plain none,
  dRow 0x2310 8 1 3 3 1 5 1 2 0 false .value .counter none,
  dRow 0x2310 8 1 4 4 1 5 1 2 0 false .value .counter none]

def dictRows2p1 : List DictRow := [
  dRow 0x2320 1 1 0 0 1 2 1 0 3 false .value .plain none,
  dRow 0x2320 1 1 1 1 1 16 1 3 0 true .cfg .plain none,
  dRow 0x2320 1 1 2 2 1 16 1 3 0 true .cfg .plain none,
  dRow 0x2320 1 1 3 3 1 16 1 3 0 true .cfg .plain none,
  dRow 0x2201 1 1 0 0 1 2 1 0 4 false .value .plain none,
  dRow 0x2201 1 1 1 1 1 5 1 0 0 false .cfg .plain none,
  dRow 0x2201 1 1 2 2 1 1 1 2 1 true .value .plain none,
  dRow 0x2201 1 1 3 3 1 4 1 3 64 true .value .plain (some (8, 65535)),
  dRow 0x2201 1 1 4 4 1 4 1 0 0 false .value .plain none,
  dRow 0x2220 8 1 0 0 1 2 1 0 10 false .value .plain none,
  dRow 0x2220 8 1 1 1 1 5 1 2 0 false .value .counter none,
  dRow 0x2220 8 1 2 2 1 5 1 2 0 false .value .counter none,
  dRow 0x2220 8 1 3 3 1 5 1 2 0 false .value .counter none,
  dRow 0x2220 8 1 4 4 1 5 1 2 0 false .value .counter none,
  dRow 0x2220 8 1 5 5 1 3 1 0 0 false .cfg .plain none,
  dRow 0x2220 8 1 6 6 1 5 1 0 0 false .cfg .plain none,
  dRow 0x2220 8 1 7 7 1 4 1 0 0 false .value .plain none,
  dRow 0x2220 8 1 8 8 1 4 1 0 0 false .value .plain none,
  dRow 0x2220 8 1 9 9 1 4 1 2 86400000 true .value .plain none,
  dRow 0x2220 8 1 10 10 1 3 1 0 0 false .value .plain none,
  dRow 0x2020 1 1 0 0 1 2 1 0 4 false .value .plain none,
  dRow 0x2020 1 1 1 1 1 3 1 3 192 true .value .plain (some (1, 256)),
  dRow 0x2020 1 1 2 2 1 4 1 3 100000 true .value .plain none,
  dRow 0x2020 1 1 3 3 1 5 1 2 0 false .value .counter none,
  dRow 0x2020 1 1 4 4 1 5 1 2 0 false .value .counter none,
  dRow 0x2021 1 1 0 0 1 2 1 0 9 false .value .plain none,
  dRow 0x2021 1 1 1 9 1 2 1 0 0 false .value .plain none,
  dRow 0x2022 1 1 0 0 1 2 1 0 3 false .value .plain none,
  dRow 0x2022 1 1 1 1 1 13 1 0 18446744073709551615 false .value .plain none,
  dRow 0x2022 1 1 2 2 1 5 1 2 0 false .value .counter none,
  dRow 0x2022 1 1 3 3 1 5 1 2 0 false .value .counter none,
  dRow 0x2330 1 1 0 0 1 2 1 0 10 false .value .plain none,
  dRow 0x2330 1 1 1 1 1 5 1 3 0 true .value .plain none,
  dRow 0x2330 1 1 2 2 1 5 1 3 0 true .value .plain none,
  dRow 0x2330 1 1 3 3 1 2 1 3 20 true .value .plain (some (10, 24)),
  dRow 0x2330 1 1 4 4 1 4 1 2 4096 true .value .plain none,
  dRow 0x2330 1 1 5 5 1 3 1 2 8 true .value .plain none,
  dRow 0x2330 1 1 6 6 1 5 1 2 0 false .value .counter none,
  dRow 0x2330 1 1 7 7 1 5 1 2 0 false .value .counter none,
  dRow 0x2330 1 1 8 8 1 5 1 2 0 false .value .counter none,
  dRow 0x2330 1 1 9 9 1 5 1 2 0 false .value .counter none,
  dRow 0x2330 1 1 10 10 1 5 1 2 0 false .value .counter none,
  dRow 0x2331 1 1 0 0 1 2 1 0 64 false .value .plain none,
  dRow 0x2331 1 1 1 64 1 4 1 3 0 true .value .plain none,
  dRow 0x2340 8 1 0 0 1 2 1 0 5 false .value .plain none,
  dRow 0x2340 8 1 1 1 1 13 1 3 0 true .value .plain none,
  dRow 0x2340 8 1 2 2 1 11 1 3 0 true .value .plain none,
  dRow 0x2340 8 1 3 3 1 4 1 0 0 false .value .plain none,
  dRow 0x2340 8 1 4 4 1 4 1 0 0 false .value .plain none,
  dRow 0x2340 8 1 5 5 1 4 1 0 0 false .value .plain none,
  dRow 0x2030 1 1 1 1 1 4 1 3 33554432 true .value .plain none,
  dRow 0x2030 1 1 2 2 1 5 1 2 0 false .value .counter none,
  dRow 0x2030 1 1 3 3 1 4 1 0 0 false .value .plain none,
  dRow 0x2030 1 1 4 4 1 5 1 2 0 false .value .counter none,
  dRow 0x2080 16 1 1 8 1 5 1 3 0 true .value .plain none,
  dRow 0x2080 16 1 9 16 1 5 1 3 0 true .value .plain none,
  dRow 0x2080 16 1 17 17 1 5 1 3 0 true .value .plain none,
  dRow 0x2080 16 1 18 18 1 5 1 3 0 true .value .plain none,
  dRow 0x2050 1 1 0 0 1 2 1 0 9 false .value .plain none,
  dRow 0x2050 1 1 1 1 1 2 1 0 0 false .value .plain none]

def dictRows2p2 : List DictRow := [
  dRow 0x2050 1 1 2 2 1 2 1 0 0 false .value .plain none,
  dRow 0x2050 1 1 3 3 1 4 1 2 0 false .value .counter none,
  dRow 0x2050 1 1 4 4 1 5 1 2 0 false .value .counter none,
  dRow 0x2050 1 1 5 5 1 2 1 3 8 true .value .plain (some (1, 64)),
  dRow 0x2050 1 1 6 6 1 2 1 3 32 true .value .plain (some (1, 255)),
  dRow 0x2050 1 1 7 7 1 5 1 2 0 false .value .counter none,
  dRow 0x2050 1 1 8 8 1 1 1 3 1 true .value .plain none,
  dRow 0x2050 1 1 9 9 1 1 1 2 1 true .value .plain none,
  dRow 0x2051 1 1 0 0 1 2 1 0 13 false .value .plain none,
  dRow 0x2051 1 1 1 1 1 2 1 2 16 true .value .plain (some (2, 255)),
  dRow 0x2051 1 1 2 2 1 2 1 2 16 true .value .plain (some (2, 255)),
  dRow 0x2051 1 1 3 10 1 2 1 2 16 true .value .plain (some (2, 255)),
  dRow 0x2051 1 1 11 11 1 10 1 0 0 false .value .plain none,
  dRow 0x2051 1 1 12 12 1 10 1 2 0 true .value .plain none,
  dRow 0x2051 1 1 13 13 1 10 1 2 0 true .value .plain none,
  dRow 0x2000 1 1 0 0 1 2 1 0 7 false .value .plain none,
  dRow 0x2000 1 1 1 1 1 2 0 3 0 false .unset .plain none,
  dRow 0x2000 1 1 2 2 1 1 1 3 1 true .value .plain none,
  dRow 0x2000 1 1 3 3 1 1 1 3 0 true .value .plain none,
  dRow 0x2000 1 1 4 4 1 2 1 3 0 true .value .plain (some (0, 1)),
  dRow 0x2000 1 1 5 5 1 2 1 0 0 false .value .plain none,
  dRow 0x2000 1 1 6 6 1 3 1 0 0 false .value .plain none,
  dRow 0x2000 1 1 7 7 1 4 1 0 0 false .value .plain none]

def dictRows3p0 : List DictRow := [
  dRow 0x3000 1 1 0 0 1 2 1 0 14 false .value .plain none,
  dRow 0x3000 1 1 1 1 1 4 1 3 2200 true .value .plain (some (600, 2200)),
  dRow 0x3000 1 1 2 2 1 4 1 3 2600 true .value .plain (some (600, 2600)),
  dRow 0x3000 1 1 3 3 1 4 1 3 5000 true .value .plain (some (0, 5000)),
  dRow 0x3000 1 1 4 4 1 9 1 0 0 false .value .plain none,
  dRow 0x3000 1 1 5 5 1 9 1 2 0 false .value .counter none,
  dRow 0x3000 1 1 6 6 1 9 1 0 0 false .value .plain none,
  dRow 0x3000 1 1 7 7 1 9 1 0 0 false .cfg .plain none,
  dRow 0x3000 1 1 8 8 1 9 1 0 1073741824 false .value .plain none,
  dRow 0x3000 1 1 9 9 1 5 1 0 0 false .value .plain none,
  dRow 0x3000 1 1 10 10 1 5 1 2 0 false .value .counter none,
  dRow 0x3000 1 1 11 11 1 5 1 2 0 false .value .counter none,
  dRow 0x3000 1 1 12 12 1 5 1 2 0 false .value .counter none,
  dRow 0x3000 1 1 13 13 1 11 1 2 0 false .value .clearOnes none,
  dRow 0x3000 1 1 14 14 1 11 1 2 255 true .value .plain none,
  dRow 0x3001 1 1 1 7 1 3 1 0 0 false .cfg .plain none,
  dRow 0x3001 1 1 8 8 1 9 1 0 0 false .cfg .plain none,
  dRow 0x3002 1 1 1 8 1 15 1 3 0 true .value .plain none,
  dRow 0x3003 1 1 1 8 1 9 1 0 0 false .value .plain none,
  dRow 0x3100 1 1 0 0 1 2 1 0 10 false .value .plain none,
  dRow 0x3100 1 1 1 1 1 9 1 0 2143289344 false .unset .plain none,
  dRow 0x3100 1 1 2 2 1 9 1 0 2143289344 false .unset .plain none,
  dRow 0x3100 1 1 3 3 1 9 1 0 2143289344 false .unset .plain none,
  dRow 0x3100 1 1 4 4 1 2 1 0 8 false .value .plain none,
  dRow 0x3100 1 1 5 5 1 2 1 0 8 false .value .plain none,
  dRow 0x3100 1 1 6 6 1 3 1 0 0 false .value .plain none,
  dRow 0x3100 1 1 7 7 1 4 1 2 0 true .value .counter none,
  dRow 0x3100 1 1 8 8 1 5 1 0 0 true .value .plain none,
  dRow 0x3100 1 1 9 9 1 17 1 0 0 true .value .plain none,
  dRow 0x3100 1 1 10 10 1 5 1 2 0 false .value .counter none,
  dRow 0x3101 1 1 1 8 1 9 1 0 2143289344 false .unset .plain none,
  dRow 0x3110 1 1 1 64 1 9 1 0 2143289344 false .unset .plain none,
  dRow 0x3111 1 1 1 64 1 9 1 0 2143289344 false .unset .plain none,
  dRow 0x3112 8 1 1 66 1 9 1 0 2143289344 false .unset .plain none]

def dictRows4p0 : List DictRow := [
  dRow 0x4000 64 64 1 1 1 2 1 0 0 false .value .plain none,
  dRow 0x4000 64 64 2 2 1 2 0 3 0 false .unset .plain none,
  dRow 0x4000 64 64 3 6 1 3 1 3 0 true .value .plain none,
  dRow 0x4000 64 64 7 7 1 1 1 3 1 true .value .plain none,
  dRow 0x4000 64 64 8 8 1 1 1 3 0 true .value .plain none,
  dRow 0x4000 64 64 9 9 1 1 1 3 0 true .value .plain none,
  dRow 0x4000 64 64 10 10 1 1 1 0 0 false .value .plain none,
  dRow 0x4000 64 64 11 11 1 4 1 2 0 false .value .counter none,
  dRow 0x4000 64 64 12 12 1 2 1 0 0 false .value .plain none,
  dRow 0x4001 64 64 1 64 1 5 1 3 0 true .value .plain none,
  dRow 0x4002 64 64 1 4 1 13 1 3 0 true .value .plain none]

def dictRows5p0 : List DictRow := [
  dRow 0x5000 1 1 0 0 1 2 1 0 10 false .value .plain none,
  dRow 0x5000 1 1 1 1 1 3 1 0 16384 false .value .plain none,
  dRow 0x5000 1 1 2 2 1 3 1 0 16384 false .value .plain none,
  dRow 0x5000 1 1 3 3 1 5 1 2 0 false .value .counter none,
  dRow 0x5000 1 1 4 4 1 5 1 2 0 false .value .counter none,
  dRow 0x5000 1 1 5 5 1 5 1 2 0 false .value .counter none,
  dRow 0x5000 1 1 6 6 1 5 1 2 0 false .value .counter none,
  dRow 0x5000 1 1 7 7 1 5 1 2 0 false .value .counter none,
  dRow 0x5000 1 1 8 8 1 5 1 2 0 false .value .counter none,
  dRow 0x5000 1 1 9 9 1 5 1 2 0 false .value .counter none,
  dRow 0x5000 1 1 10 10 1 5 1 2 0 false .value .counter none,
  dRow 0x5001 1 1 0 0 1 2 1 0 64 false .value .plain none,
  dRow 0x5001 1 1 1 64 1 3 1 3 0 true .value .plain none,
  dRow 0x5002 1 1 0 0 1 2 1 0 64 false .value .plain none,
  dRow 0x5002 1 1 1 64 1 3 1 0 0 false .value .plain none,
  dRow 0x5140 16 1 0 0 1 2 1 0 6 false .value .plain none,
  dRow 0x5140 16 1 1 1 1 2 1 2 8 true .value .plain (some (0, 64)),
  dRow 0x5140 16 1 2 2 1 3 1 2 512 true .value .plain (some (1, 4096)),
  dRow 0x5140 16 1 3 3 1 4 1 2 4096 true .value .plain (some (64, 262144)),
  dRow 0x5140 16 1 4 4 1 4 1 0 4294967295 false .value .plain none,
  dRow 0x5140 16 1 5 5 1 5 1 2 0 false .value .counter none,
  dRow 0x5140 16 1 6 6 1 2 1 0 0 false .value .plain none,
  dRow 0x5200 1 1 0 0 1 2 1 0 4 false .value .plain none,
  dRow 0x5200 1 1 1 1 1 5 1 3 0 true .value .plain none,
  dRow 0x5200 1 1 2 2 1 3 1 0 0 false .value .plain none,
  dRow 0x5200 1 1 3 3 1 5 1 2 0 false .value .counter none,
  dRow 0x5200 1 1 4 4 1 5 1 2 0 false .value .counter none,
  dRow 0x5201 1 1 0 0 1 2 1 0 64 false .value .plain none,
  dRow 0x5201 1 1 1 64 1 3 1 3 0 true .value .plain none,
  dRow 0x5100 1 1 1 1 1 5 1 3 0 true .value .plain none,
  dRow 0x5100 1 1 2 2 1 5 1 3 0 true .value .plain none,
  dRow 0x5100 1 1 3 3 1 1 1 3 1 true .value .plain none,
  dRow 0x5100 1 1 4 4 1 4 1 3 10000 true .value .plain none,
  dRow 0x5100 1 1 5 5 1 5 1 2 0 false .value .counter none,
  dRow 0x5100 1 1 6 6 1 5 1 2 0 false .value .counter none,
  dRow 0x5110 16 1 1 1 1 2 1 0 0 false .value .plain none,
  dRow 0x5110 16 1 2 2 1 2 0 3 0 false .unset .plain none,
  dRow 0x5110 16 1 3 3 1 2 1 3 0 false .value .plain (some (0, 1)),
  dRow 0x5110 16 1 4 4 1 5 1 3 0 false .value .plain none,
  dRow 0x5110 16 1 5 5 1 13 1 3 1 true .value .plain none,
  dRow 0x5110 16 1 6 6 1 2 1 3 0 true .value .plain (some (0, 2)),
  dRow 0x5110 16 1 7 7 1 3 1 0 0 false .value .plain none,
  dRow 0x5110 16 1 8 8 1 5 1 0 0 false .value .plain none,
  dRow 0x5110 16 1 9 9 1 3 1 0 0 false .value .plain none,
  dRow 0x5110 16 1 10 10 1 15 1 0 0 false .unset .plain none]

def dictRows6p0 : List DictRow := [
  dRow 0x6000 1 1 0 0 1 2 1 0 9 false .value .plain none,
  dRow 0x6000 1 1 1 1 1 3 1 3 0 true .value .plain none,
  dRow 0x6000 1 1 2 2 1 2 1 3 1 true .value .plain (some (1, 16)),
  dRow 0x6000 1 1 3 3 1 2 1 3 1 true .value .plain (some (1, 64)),
  dRow 0x6000 1 1 4 4 1 2 1 3 1 true .value .plain (some (1, 64)),
  dRow 0x6000 1 1 5 5 1 4 1 2 1000 true .value .plain none,
  dRow 0x6000 1 1 6 6 1 4 1 2 10000 true .value .plain none,
  dRow 0x6000 1 1 7 7 1 3 1 2 16 true .value .plain none,
  dRow 0x6000 1 1 8 8 1 4 1 0 0 false .value .plain none,
  dRow 0x6000 1 1 9 9 1 5 1 2 0 false .value .counter none,
  dRow 0x6010 6 1 0 0 1 2 1 0 10 false .value .plain none,
  dRow 0x6010 6 1 1 1 1 2 1 0 0 false .value .plain none,
  dRow 0x6010 6 1 2 2 1 1 1 2 1 true .value .plain none,
  dRow 0x6010 6 1 3 3 1 3 1 0 0 false .value .plain none,
  dRow 0x6010 6 1 4 4 1 5 1 2 0 false .value .counter none,
  dRow 0x6010 6 1 5 5 1 5 1 2 0 false .value .counter none,
  dRow 0x6010 6 1 6 6 1 5 1 2 0 false .value .counter none,
  dRow 0x6010 6 1 7 7 1 5 1 2 0 false .value .counter none,
  dRow 0x6010 6 1 8 8 1 5 1 2 0 false .value .counter none,
  dRow 0x6010 6 1 9 9 1 4 1 2 0 false .value .counter none,
  dRow 0x6010 6 1 10 10 1 1 0 2 0 false .unset .plain none,
  dRow 0x6100 1 1 0 0 1 2 1 0 15 false .value .plain none,
  dRow 0x6100 1 1 1 1 1 1 1 3 0 true .value .plain none,
  dRow 0x6100 1 1 2 2 1 2 1 3 128 true .value .plain none,
  dRow 0x6100 1 1 3 3 1 14 1 3 0 true .value .plain none,
  dRow 0x6100 1 1 4 4 1 2 1 0 0 false .value .plain none,
  dRow 0x6100 1 1 5 5 1 2 1 0 0 false .value .plain none,
  dRow 0x6100 1 1 6 6 1 5 1 2 0 false .value .counter none,
  dRow 0x6100 1 1 7 7 1 4 1 2 0 false .value .counter none,
  dRow 0x6100 1 1 8 8 1 5 1 2 0 false .value .counter none,
  dRow 0x6100 1 1 9 9 1 4 1 2 0 false .value .counter none,
  dRow 0x6100 1 1 10 10 1 4 1 2 0 false .value .counter none,
  dRow 0x6100 1 1 11 11 1 5 1 2 0 false .value .counter none,
  dRow 0x6100 1 1 12 12 1 3 1 0 0 false .value .plain none,
  dRow 0x6100 1 1 13 13 1 3 1 0 0 false .value .plain none,
  dRow 0x6100 1 1 14 14 1 2 0 3 0 false .unset .plain none,
  dRow 0x6100 1 1 15 15 1 3 1 0 0 false .value .plain none,
  dRow 0x6110 2 1 0 0 1 2 1 0 10 false .value .plain none,
  dRow 0x6110 2 1 1 1 1 2 1 0 0 false .value .plain none,
  dRow 0x6110 2 1 2 2 1 1 1 2 1 true .value .plain none,
  dRow 0x6110 2 1 3 3 1 3 1 0 0 false .value .plain none,
  dRow 0x6110 2 1 4 4 1 5 1 2 0 false .value .counter none,
  dRow 0x6110 2 1 5 5 1 5 1 2 0 false .value .counter none,
  dRow 0x6110 2 1 6 6 1 5 1 2 0 false .value .counter none,
  dRow 0x6110 2 1 7 7 1 5 1 2 0 false .value .counter none,
  dRow 0x6110 2 1 8 8 1 5 1 2 0 false .value .counter none,
  dRow 0x6110 2 1 9 9 1 4 1 2 0 false .value .counter none,
  dRow 0x6110 2 1 10 10 1 1 0 2 0 false .unset .plain none]

def dictRows7p0 : List DictRow := [
  dRow 0x7100 1 1 0 0 1 2 1 0 16 false .value .plain none,
  dRow 0x7100 1 1 1 1 1 2 1 3 1 true .value .plain (some (0, 1)),
  dRow 0x7100 1 1 2 2 1 3 1 0 0 false .value .plain none,
  dRow 0x7100 1 1 3 3 1 17 1 0 0 false .value .plain none,
  dRow 0x7100 1 1 4 4 1 4 1 0 0 false .value .plain none,
  dRow 0x7100 1 1 5 5 1 4 1 0 0 false .value .plain none,
  dRow 0x7100 1 1 6 6 1 11 1 0 0 false .value .plain none,
  dRow 0x7100 1 1 7 7 1 13 1 0 0 false .value .plain none,
  dRow 0x7100 1 1 8 8 1 12 1 0 0 false .value .plain none,
  dRow 0x7100 1 1 9 9 1 3 1 0 0 false .value .plain none,
  dRow 0x7100 1 1 10 10 1 3 1 0 0 false .value .plain none,
  dRow 0x7100 1 1 11 11 1 1 1 0 0 false .value .plain none,
  dRow 0x7100 1 1 12 12 1 15 0 3 0 false .unset .plain none,
  dRow 0x7100 1 1 13 13 1 2 1 0 0 false .value .plain none,
  dRow 0x7100 1 1 14 14 1 5 1 2 0 false .value .counter none,
  dRow 0x7100 1 1 15 15 1 5 1 3 0 true .value .plain none,
  dRow 0x7100 1 1 16 16 1 5 1 3 0 true .value .plain none,
  dRow 0x7000 1 1 0 0 1 2 1 0 12 false .value .plain none,
  dRow 0x7000 1 1 1 1 1 4 1 0 0 false .unset .plain none,
  dRow 0x7000 1 1 2 2 1 2 1 0 100 false .value .plain none,
  dRow 0x7000 1 1 3 3 1 17 1 0 0 false .value .plain none,
  dRow 0x7000 1 1 4 4 1 2 1 2 80 true .value .plain (some (50, 99)),
  dRow 0x7000 1 1 5 5 1 2 1 2 95 true .value .plain (some (51, 100)),
  dRow 0x7000 1 1 6 6 1 3 1 2 90 true .value .plain (some (1, 3650)),
  dRow 0x7000 1 1 7 7 1 3 1 2 180 true .value .plain (some (14, 730)),
  dRow 0x7000 1 1 8 8 1 1 1 2 1 true .value .plain none,
  dRow 0x7000 1 1 9 9 1 2 1 2 8 true .value .plain (some (0, 63)),
  dRow 0x7000 1 1 10 10 1 12 1 0 0 false .value .plain none,
  dRow 0x7000 1 1 11 11 1 5 1 2 0 false .value .counter none,
  dRow 0x7000 1 1 12 12 1 2 0 3 0 false .unset .plain none,
  dRow 0x7001 1 1 1 1 1 16 1 0 0 false .cfg .plain none,
  dRow 0x7001 1 1 2 2 1 16 1 0 0 false .cfg .plain none,
  dRow 0x7001 1 1 3 3 1 16 1 0 0 false .cfg .plain none,
  dRow 0x7001 1 1 4 4 1 16 1 0 0 false .cfg .plain none,
  dRow 0x7010 12 1 0 0 1 2 1 0 4 false .value .plain none,
  dRow 0x7010 12 1 1 1 1 2 1 0 0 false .value .plain none,
  dRow 0x7010 12 1 2 2 1 2 1 0 100 false .value .plain none,
  dRow 0x7010 12 1 3 3 1 17 1 0 0 false .value .plain none,
  dRow 0x7010 12 1 4 4 1 2 1 0 0 false .value .plain none,
  dRow 0x7020 12 1 0 0 1 2 1 0 0 false .value .plain none,
  dRow 0x7020 12 1 1 61 3 9 1 0 0 false .value .plain none,
  dRow 0x7020 12 1 2 62 3 17 1 0 0 false .value .plain none,
  dRow 0x7020 12 1 3 63 3 9 1 0 0 false .value .plain none,
  dRow 0x7030 8 1 1 4 1 9 1 0 2143289344 false .value .plain none,
  dRow 0x7030 8 1 5 8 1 9 1 0 2143289344 false .value .plain none,
  dRow 0x7038 1 1 1 16 1 9 1 0 2143289344 false .value .plain none,
  dRow 0x7038 1 1 17 32 1 9 1 0 2143289344 false .value .plain none]

def dictRows8p0 : List DictRow := [
  dRow 0x8000 1 1 0 0 1 2 1 0 7 false .value .plain none,
  dRow 0x8000 1 1 1 1 1 13 1 2 0 false .value .clearOnes none,
  dRow 0x8000 1 1 2 2 1 4 1 0 0 false .value .plain none,
  dRow 0x8000 1 1 3 3 1 4 1 2 0 false .value .plain none,
  dRow 0x8000 1 1 4 4 1 1 0 2 0 false .unset .plain none,
  dRow 0x8000 1 1 5 5 1 3 1 0 0 false .value .plain none,
  dRow 0x8000 1 1 6 6 1 2 1 0 255 false .value .plain none,
  dRow 0x8000 1 1 7 7 1 4 1 0 0 false .value .plain none,
  dRow 0x8001 1 1 0 0 1 16 1 0 0 false .value .plain none,
  dRow 0x8002 1 1 0 0 1 2 1 0 5 false .value .plain none,
  dRow 0x8002 1 1 1 1 1 4 1 3 50 true .value .plain (some (5, 1000)),
  dRow 0x8002 1 1 2 2 1 4 1 2 0 false .value .counter none,
  dRow 0x8002 1 1 3 3 1 2 1 0 0 false .value .plain none,
  dRow 0x8002 1 1 4 4 1 10 1 0 3 false .value .plain none,
  dRow 0x8002 1 1 5 5 1 4 1 2 0 false .value .counter none,
  dRow 0x8003 1 1 1 64 1 12 1 4 0 false .value .clearOnes none,
  dRow 0x8004 1 1 1 1 1 15 1 2 0 true .value .plain none,
  dRow 0x8005 1 1 1 64 1 16 1 0 0 false .value .plain none]

def dictRows9p0 : List DictRow := [
  dRow 0x9000 1 1 0 0 1 2 1 0 11 false .value .plain none,
  dRow 0x9000 1 1 1 1 1 2 1 0 0 false .value .plain none,
  dRow 0x9000 1 1 2 2 1 2 0 3 0 false .unset .plain none,
  dRow 0x9000 1 1 3 3 1 2 1 0 0 false .value .plain none,
  dRow 0x9000 1 1 4 4 1 2 1 0 255 false .value .plain none,
  dRow 0x9000 1 1 5 5 1 4 1 0 0 false .value .plain none,
  dRow 0x9000 1 1 6 6 1 4 1 0 0 false .value .plain none,
  dRow 0x9000 1 1 7 7 1 4 1 0 0 false .value .plain none,
  dRow 0x9000 1 1 8 8 1 14 1 0 0 false .value .plain none,
  dRow 0x9000 1 1 9 9 1 4 1 3 2000 true .value .plain (some (500, 10000)),
  dRow 0x9000 1 1 10 10 1 3 1 0 0 false .value .plain none,
  dRow 0x9000 1 1 11 11 1 4 1 2 0 false .value .counter none,
  dRow 0x9002 1 1 1 1 1 16 1 3 0 false .value .plain none,
  dRow 0x9002 1 1 2 2 1 15 0 3 0 false .unset .plain none,
  dRow 0x9002 1 1 3 3 1 16 1 0 0 false .value .plain none,
  dRow 0x9003 1 1 1 1 1 16 0 1 0 false .unset .plain none,
  dRow 0x9003 1 1 2 2 1 15 1 0 0 false .unset .plain none,
  dRow 0x9010 1 1 1 1 1 1 0 3 0 false .unset .plain none,
  dRow 0x9010 1 1 2 2 1 3 1 0 0 false .unset .plain none,
  dRow 0x9010 1 1 3 3 1 3 1 0 0 false .value .plain none,
  dRow 0x9020 1 1 1 1 1 15 1 0 0 false .unset .plain none,
  dRow 0x9020 1 1 2 2 1 16 1 0 0 false .value .plain none,
  dRow 0x9020 1 1 3 3 1 15 1 1 0 false .unset .plain none,
  dRow 0x9020 1 1 4 4 1 15 1 0 0 false .unset .plain none,
  dRow 0x9021 1 1 1 34 1 15 1 0 0 false .unset .plain none,
  dRow 0x9030 1 1 1 8 1 15 1 3 0 true .value .plain none]

/-- The rows of the dictionary tables whose indices begin with a hexadecimal digit. -/
def dictRowsOf : Nat → List DictRow
  | 1 => dictRows1p0 ++ dictRows1p1
  | 2 => dictRows2p0 ++ dictRows2p1 ++ dictRows2p2
  | 3 => dictRows3p0
  | 4 => dictRows4p0
  | 5 => dictRows5p0
  | 6 => dictRows6p0
  | 7 => dictRows7p0
  | 8 => dictRows8p0
  | 9 => dictRows9p0
  | _ => []

/-- The key of entry `index`.`sub`. -/
def dk (index sub : Nat) : Nat := index * 256 + sub

/-- Whether a row holds the entry. -/
def DictRow.holds (r : DictRow) (index sub : Nat) : Bool :=
  decide (r.base ≤ index) && (index - r.base) % r.step == 0 && decide ((index - r.base) / r.step < r.count) &&
  decide (r.sub0 ≤ sub) && decide (sub ≤ r.sub1) && (sub - r.sub0) % r.subStep == 0

/-- The row of an entry. -/
def dictRow (index sub : Nat) : Option DictRow := (dictRowsOf (index / 4096)).find? (fun r => r.holds index sub)

/-- Whether the dictionary has an index at all. -/
def dictHasIndex (index : Nat) : Bool :=
  (dictRowsOf (index / 4096)).any (fun r => decide (r.base ≤ index) && (index - r.base) % r.step == 0 && decide ((index - r.base) / r.step < r.count))

/-- Byte-valued defaults other than the empty value: the identity strings and the zero-filled octets of R603 and R682. -/
def dictBytesDefault (index sub : Nat) : List Byte :=
  if index = 0x1000 ∧ sub = 1 then [77, 98, 111, 114, 101, 120]
  else if index = 0x1000 ∧ sub = 2 then [82, 111, 115, 101, 114, 114, 97, 110, 32, 82, 83, 78, 45, 56]
  else if index = 0x1000 ∧ sub = 3 then [82, 83, 78, 56, 45, 50, 52, 48, 48, 45, 76, 81]
  else if index = 0x1000 ∧ sub = 4 then [66, 48]
  else if index = 0x1000 ∧ sub = 14 then [66, 48, 46, 49]
  else if index = 0x1100 ∧ sub = 6 then List.replicate 16 0
  else if index = 0x1100 ∧ sub = 14 then List.replicate 16 0
  else if index = 0x8004 ∧ sub = 1 then List.replicate 32 0
  else []

/-- Scalar default of an entry; 0 where the table gives none. IrqCount of tenant 0 is 16 (R462, R563). -/
def dictDefault (key : Nat) : Nat :=
  if key = dk 0x4000 6 then 16
  else match dictRow (key / 256) (key % 256) with
    | some r => r.dflt
    | none => 0

/-- Bytes of a scalar type of R589; 0 for the types of varying length. -/
def typeBytes (ty : Nat) : Nat :=
  if ty = 1 || ty = 2 || ty = 0xA then 1
  else if ty = 3 || ty = 6 || ty = 0xB then 2
  else if ty = 4 || ty = 7 || ty = 9 || ty = 0xC then 4
  else if ty = 5 || ty = 8 || ty = 0xD || ty = 0x11 then 8
  else 0

end Sys2Proof.Machine
end

