-- ==== Sys2Proof/Machine/W288.lean ====
section
/-!
DEFINITION. The W288 word code of The Word Code and Stored-Data Integrity: R203 to R210.
-/

namespace Sys2Proof.Machine

/-- Multiplication by α in GF(2^8) with the polynomial x^8 + x^4 + x^3 + x^2 + 1 (R204). -/
def gfX (a : Nat) : Nat := if a < 128 then 2 * a else (2 * a) ^^^ 0x11D

/-- Multiplication by α^n. -/
def gfXn : Nat → Nat → Nat
  | 0, a => a
  | n + 1, a => gfXn n (gfX a)

/-- The product of two field elements: `n` bits of `b` are taken from the lowest. -/
def gfMulAux : Nat → Nat → Nat → Nat
  | 0, _, _ => 0
  | n + 1, a, b => (if b % 2 = 1 then a else 0) ^^^ gfMulAux n (gfX a) (b / 2)

/-- The product in GF(2^8). -/
def gfMul (a b : Nat) : Nat := gfMulAux 8 a b

/-- Symbol position s of a codeword: bits [8s + 7:8s] (R205). -/
def symAt (c : Code288) (s : Nat) : Nat := c.toNat / 2 ^ (8 * s) % 256

/-- The codeword with `e` added to symbol position s. -/
def symXor (c : Code288) (s e : Nat) : Code288 := c ^^^ BitVec.ofNat 288 (e * 2 ^ (8 * s))

/-- The exponent of x that symbol position s carries: D_s is at x^(s+4), P_j at x^j (R204). -/
def symDeg (s : Nat) : Nat := if s < 32 then s + 4 else s - 32

/-- The symbol position at a degree. -/
def symOfDeg (d : Nat) : Nat := if d < 4 then d + 32 else d - 4

/-- Horner's evaluation at α^k over degrees `n - 1` down to 0. -/
def synAux (c : Code288) (k : Nat) : Nat → Nat → Nat
  | 0, acc => acc
  | n + 1, acc => synAux c k n (gfXn k acc ^^^ symAt c (symOfDeg n))

/-- Syndrome S_k = c(α^k) (R207). -/
def syndrome (c : Code288) (k : Nat) : Nat := synAux c k 36 0

/-- One step of the division of x^4·D(x) by (x − α^0)(x − α^1)(x − α^2)(x − α^3), whose coefficients below x^4 are
64, 120, 54 and 15: the remainder's four symbols, P_0 first. -/
def checkStep (r : Nat × Nat × Nat × Nat) (d : Nat) : Nat × Nat × Nat × Nat :=
  let f := d ^^^ r.2.2.2
  (gfMul f 64, r.1 ^^^ gfMul f 120, r.2.1 ^^^ gfMul f 54, r.2.2.1 ^^^ gfMul f 15)

/-- The remainder over data symbols `n - 1` down to 0. -/
def checkAux (c : Code288) : Nat → Nat × Nat × Nat × Nat → Nat × Nat × Nat × Nat
  | 0, r => r
  | n + 1, r => checkAux c n (checkStep r (symAt c n))

/-- The codeword of 256 data bits: R204, R205. -/
def encode288 (d : Word256) : Code288 :=
  let c : Code288 := d.zeroExtend 288
  let r := checkAux c 32 (0, 0, 0, 0)
  c ||| BitVec.ofNat 288 ((r.1 + 256 * (r.2.1 + 256 * (r.2.2.1 + 256 * r.2.2.2))) * 2 ^ 256)

/-- The data bits of a codeword as stored. -/
def dataOf (c : Code288) : Word256 := c.truncate 256

/-- The poison word of R210: zero data, check bits 0xFFFF_FFFF. -/
def poisonWord : Code288 := BitVec.ofNat 288 (0xFFFFFFFF * 2 ^ 256)

/-- The classes of R207. -/
inductive WordClass where
  | valid
  | poison
  | corrected
  | uncorrectable
  deriving DecidableEq, Repr

/-- What a decode yields: the class, the data (zero when it is poison), the corrected codeword, and the position and
error value of a corrected symbol. -/
structure Decoded where
  cls : WordClass
  data : Word256
  code : Code288
  pos : Nat := 0
  value : Nat := 0
  deriving DecidableEq, Repr

/-- Symbol positions in which two codewords differ. -/
def symDiff (a b : Code288) : List Nat := (List.range 36).filter (fun s => symAt a s != symAt b s)

/-- The degree at which one symbol in error explains the four syndromes, searched upwards (R207 row 3). -/
def oneError (s0 s1 s2 s3 : Nat) : Option Nat :=
  if s0 = 0 then none
  else (List.range 36).find? (fun d => gfXn d s0 == s1 && gfXn (2 * d) s0 == s2 && gfXn (3 * d) s0 == s3)

/-- The classification of R207, the first row that applies. -/
def decode288 (c : Code288) : Decoded :=
  let s0 := syndrome c 0
  let s1 := syndrome c 1
  let s2 := syndrome c 2
  let s3 := syndrome c 3
  if s0 = 0 ∧ s1 = 0 ∧ s2 = 0 ∧ s3 = 0 then { cls := .valid, data := dataOf c, code := c }
  else if (symDiff c poisonWord).length ≤ 1 then { cls := .poison, data := 0, code := poisonWord }
  else match oneError s0 s1 s2 s3 with
    | some d =>
      let c' := symXor c (symOfDeg d) s0
      { cls := .corrected, data := dataOf c', code := c', pos := symOfDeg d, value := s0 }
    | none => { cls := .uncorrectable, data := 0, code := c }

/-- The four syndromes packed as WC_TSYN holds them: S_k in bits [8k + 7:8k] (R247). -/
def synWord (c : Code288) : Nat :=
  syndrome c 0 + 256 * (syndrome c 1 + 256 * (syndrome c 2 + 256 * syndrome c 3))

/-- The codeword whose 36 symbols, position 0 first, are `bs` (R205, R509). -/
def codeOfSyms (bs : List Byte) : Code288 := BitVec.ofNat 288 (leNat bs)

/-- The 36 symbols of a codeword, position 0 first. -/
def symsOf (c : Code288) : List Byte := natLE 36 c.toNat

/-- The 32 data bytes of a word, lowest address first. -/
def bytesOfWord (d : Word256) : List Byte := natLE 32 d.toNat

/-- The word whose 32 bytes are `bs`. -/
def wordOfBytes (bs : List Byte) : Word256 := BitVec.ofNat 256 (leNat bs)

end Sys2Proof.Machine
end

