-- ==== Sys2Proof/Machine/Types.lean ====
section
/-!
DEFINITION. The parts of the state: what each chapter of the spec gives the machine, as plain data.
-/

namespace Sys2Proof.Machine

/-! ## Device states (R625) -/

inductive DevState where
  | off | reset | rom | config | test | ready | service | thermalHold | recovery | fenced
  deriving DecidableEq, Repr

/-- 0x1000.0F (R603): OFF has no code, since nothing is readable there. -/
def DevState.code : DevState → Nat
  | .off => 0
  | .reset => 1
  | .rom => 2
  | .config => 3
  | .test => 4
  | .ready => 5
  | .service => 6
  | .thermalHold => 7
  | .recovery => 8
  | .fenced => 9

/-! ## Memory stacks and the word code (R107 to R146, R203 to R249) -/

/-- An access held at a base die: who issued it on whose behalf, where, the bytes of a write or an add (none for a read)
with its length, and for an add its ADDFMT and FETCH. -/
structure HeldAccess where
  reader : Nat
  tenant : Nat
  addr : Nat
  len : Nat
  data : Option (List Byte)
  add : Option (Nat × Bool) := none
  /-- Issued before the mode change or the migration that its address waits for (R117, R236). -/
  early : Bool := false
  deriving DecidableEq, Repr

/-- One stack: its DRAM cells as stored, its valid bits, repairs, frames and registers. Bank-row keys are
p·20,544 + row, where rows 20,480 to 20,543 are the 64 spare rows; word keys are 64 per row. (DESIGN CHOICE, log 6.) -/
structure Stack where
  /-- Segment modes, bit j for segment j: 0 STREAM, 1 LADLE (R111). -/
  segMode : Nat := 0
  /-- Modes of an accepted change not yet applied (R117). -/
  modeNext : Option Nat := none
  /-- Usable channels, bit c (R113, R114). -/
  channels : Nat := 0xFFFFFFFF
  /-- Stored codewords. -/
  cells : Map Code288 := []
  /-- Symbols held by the spare column groups, keyed ((p·4 + group)·20,480 + row)·64 + word. -/
  colCells : Map Nat := []
  /-- Valid bit per bank-row (R219). -/
  rowValid : Map Bool := []
  /-- Row repair entries, keyed p·64 + i, and column repair entries, keyed p·4 + i (R136). -/
  rowRepair : Map Nat := []
  colRepair : Map Nat := []
  /-- STK_RPR_SEL and STK_RPR_STATUS.BADWRITE (R143). -/
  rprSpareAcc : Bool := false
  rprColSel : Bool := false
  rprBank : Nat := 0
  rprEntry : Nat := 0
  rprBadWrite : Bool := false
  /-- The 16 most recent corrections of each bank, newest first, as (row, symbol) (R215). -/
  corrections : Map (List (Nat × Nat)) := []
  /-- Rows with a hard fault, keyed (p·10 + section)·36 + symbol (R229). -/
  sections : Map (List Nat) := []
  /-- The remap table, oldest first: (F, D, mode) (R236). -/
  remap : List (Nat × Nat × Bool) := []
  /-- Frames awaiting a donor (R237) and the migrations in progress, (F, D) each (R236). -/
  awaiting : List Nat := []
  migrating : List (Nat × Nat) := []
  /-- Accesses held by a mode change or a migration, oldest first (R117, R236). -/
  heldAccess : List HeldAccess := []
  /-- WC_STATUS sticky bits and the DEGRADED flag (R247). -/
  spareExhausted : Bool := false
  retireFull : Bool := false
  degraded : Bool := false
  remapSel : Nat := 0
  /-- Frames in TEST, those being zeroised on entry, oldest first, and the checker-test registers (R243 to R247). -/
  testFrames : List Nat := []
  testEntering : List Nat := []
  tframe : Nat := 0
  taddr : Nat := 0
  tdata : Word256 := 0
  tchk : Word32 := 0
  tresClass : Nat := 0
  tresPos : Nat := 0
  tresValue : Nat := 0
  tresDone : Bool := false
  tsyn : Nat := 0
  /-- The whisk: the next row of each bank, the time the lap began, the last lap, and whether WHISK_SLOW was recorded
  in this lap (R226, R227, R247). -/
  whiskRow : Map Nat := []
  whiskBanksDone : Nat := 0
  whiskStart : Nat := 0
  whiskLast : Nat := 0
  whiskSlow : Bool := false
  /-- Time of each bank's last access and of its last whisk row operation (R224). -/
  lastAccess : Map Nat := []
  lastWhisk : Map Nat := []
  /-- Refresh: next row of each bank, postponed count, DRAM dies refreshing at 1.95 µs, and since when each such die has
  read 83 °C or less (R121 to R123). -/
  refreshRow : Map Nat := []
  refreshLag : Map Nat := []
  hotDies : Nat := 0
  coolSince : Map Nat := []
  /-- R133, R134: allowance, stage, and the times its conditions began. -/
  allowance : Nat := 32
  stage : Nat := 0
  zeroSince : Option Nat := none
  boostCoolSince : Option Nat := none
  deriving DecidableEq, Repr

/-! ## Faults (R655 to R684) -/

/-- One entry of the fault ring (R664). -/
structure FaultEntry where
  time : Nat
  seq : Nat
  code : Nat
  cls : Nat
  flags : Nat := 0
  kind : Nat
  tenant : Nat
  index : Nat
  detail : Nat := 0
  deriving DecidableEq, Repr

/-- An open recovery window: its class, domain and when it opened (R673). -/
structure Window where
  cls : Nat
  kind : Nat
  index : Nat
  code : Nat
  since : Nat
  /-- The tenant reset of the window has begun. -/
  begun : Bool := false
  deriving DecidableEq, Repr

/-- One service core: up, kept off until reset, checks in a row that saw no change of its heartbeat counter, the times of its losses
within 24 h, whether it restarts, and when its counter was last seen to change (R658 to R661). -/
structure ServiceCore where
  up : Bool := true
  off : Bool := false
  missed : Nat := 0
  losses : List Nat := []
  restarting : Bool := false
  lastBeat : Nat := 0
  deriving DecidableEq, Repr

structure Faults where
  ring : List FaultEntry := []
  seq : Nat := 0
  summary : Nat := 0
  readUpTo : Nat := 0
  /-- TenantFaults, keyed by tenant (R668). -/
  tenantWord : Map Nat := []
  window : Option Window := none
  interrupted : List Window := []
  queue : List FaultEntry := []
  /-- A FATAL fault recorded and not yet acted on (R672). -/
  fatal : Option FaultEntry := none
  /-- Device recovery: when it began, and steps discarded that run again (R670). -/
  recoverySince : Option Nat := none
  activeCore : Nat := 0
  coreA : ServiceCore := {}
  coreB : ServiceCore := {}
  deriving DecidableEq, Repr

/-! ## Interrupts (R563 to R566) -/

structure Irq where
  /-- IPEND, keyed by source. -/
  pend : Map Bool := []
  /-- ITARGET as a 32 bit register, keyed by source. -/
  target : Map Nat := []
  /-- MSI-X table, keyed function·2,048 + vector: message address, message data, and the mask bit (masked after reset). -/
  msiAddr : Map Nat := []
  msiData : Map Nat := []
  msiUnmasked : Map Bool := []
  /-- MSI-X pending bit array. -/
  pba : Map Bool := []
  deriving DecidableEq, Repr

/-! ## What leaves the device -/

/-- What the device sends out of itself; the environment answers with later commands. The list is the model's own
record, not a register of the spec. (DESIGN CHOICE, log 13.) -/
inductive Out where
  /-- A write to host memory by a function: address, bytes, poisoned TLP, relaxed ordering. -/
  | hostWrite (fn addr : Nat) (data : List Byte) (poisoned relaxed : Bool)
  /-- An MSI-X message: address and data. -/
  | msix (fn addr data : Nat)
  /-- A message to a service core. -/
  | coreMessage (core source : Nat)
  /-- A completion of a host read or refused host access: status 0 success, 1 UR, 2 CA; poisoned. -/
  | hostCompletion (fn status : Nat) (data : List Byte) (poisoned : Bool)
  /-- A packet on a fabric port (0–5) or tandem port (6, 7): type code, fields, payload bytes. -/
  | packet (port ty : Nat) (fields : List Nat) (data : List Byte)
  /-- A link-layer reply on a port: ACK or NAK with a sequence number, a replayed flit, or training. -/
  | link (port what arg : Nat)
  /-- A Nirnar frame on both service ports. -/
  | nirnar (session op seq trans : Nat) (body : List Byte)
  /-- Another frame on the service ports: kind and content. -/
  | frame (kind : Nat) (fields : List Nat) (data : List Byte)
  /-- A Nirnar, PTP or presence frame with its VLAN tag, 0 for none, and DSCP value (R578). -/
  | lan (vlan dscp : Nat) (frame : Out)
  /-- The answer to a dictionary access that came as a command: abort code and value. -/
  | dictAnswer (abort : Nat) (value : List Byte)
  /-- A value read from a register, as the reader gets it. -/
  | regValue (value : Nat)
  /-- Data returned to the agent that issued an access, with its status and the words of it that are poison. -/
  | readData (agent status : Nat) (data : List Byte) (poisoned : List Nat)
  /-- An SPDM, PLDM, I3C or TAP answer. -/
  | mgmt (kind : Nat) (fields : List Nat) (data : List Byte)
  /-- A level on a pin of the package, and a high pulse of some ns. -/
  | pin (name : Nat) (level : Bool)
  | pulse (name width : Nat)
  deriving DecidableEq, Repr

/-! ## Requests and model slots (R427, R472, R473) -/

inductive ReqState where
  | free | queued | prefill | decode | paused | done | cancelled | failed
  deriving DecidableEq, Repr

def ReqState.code : ReqState → Nat
  | .free => 0
  | .queued => 1
  | .prefill => 2
  | .decode => 3
  | .paused => 4
  | .done => 5
  | .cancelled => 6
  | .failed => 7

/-- One entry of the request table (R427), with what its table gives the SVC besides. -/
structure Req where
  slot : Nat := 0
  dslot : Nat := 0
  publish : Bool := false
  autofree : Bool := false
  sample : Bool := false
  draft : Bool := false
  prio : Nat := 0
  policy : Nat := 0
  dmode : Nat := 0
  specw : Nat := 0
  cutter : Nat := 0
  outring : Nat := 0
  maxlen : Nat := 0
  plen : Nat := 0
  windowAddr : Nat := 0
  dwindow : Nat := 0
  prompt : Nat := 0
  deadline : Nat := 0
  seed : Nat := 0
  endtok : Nat := 0
  temp : Nat := 0
  topk : Nat := 0
  state : ReqState := .free
  prev : ReqState := .free
  cancelReq : Bool := false
  shadow : Bool := false
  stalled : Bool := false
  tenant : Nat := 0
  status : Nat := 0
  len : Nat := 0
  delivered : Nat := 0
  usertag : Nat := 0
  latesteps : Nat := 0
  tsubmit : Nat := 0
  tcommit : Nat := 0
  pendingTok : Nat := 0
  cgen : Nat := 0
  steps : Nat := 0
  accepted : Nat := 0
  /-- The prefix match of SUBMIT is still running, and where its completion goes (R455). -/
  matching : Bool := false
  /-- Steps in a row in which no page was available, and whether the latest preparation found none (R407). -/
  noPage : Nat := 0
  starved : Bool := false
  /-- A cadence deadline instance as period · 65,536 + phase (R448, R492), and whether the instance in force was applied to the
  request while no step carried it (R450). -/
  instant : Nat := 0
  lateDone : Bool := false
  /-- The twin holds the request fully (R533), and the request was promoted from the twin (R537). -/
  isProtected : Bool := false
  taken : Bool := false
  /-- Tokens of the sequence: the prompt and those generated, the pending one included. -/
  tokens : List Nat := []
  /-- Positions covered by mapped prefix blocks and the deepest node mapped or published, 0 for none: of the window and of the
  draft window (R395, R412). -/
  pubLen : Nat := 0
  lastNode : Nat := 0
  dPubLen : Nat := 0
  dLastNode : Nat := 0
  /-- DIGEST of the owner's slot, for a SHADOW entry (R531). -/
  digest : List Byte := []
  deriving DecidableEq, Repr

inductive SlotState where
  | empty | loading | resident | restoring | offline
  deriving DecidableEq, Repr

def SlotState.code : SlotState → Nat
  | .empty => 0
  | .loading => 1
  | .resident => 2
  | .restoring => 3
  | .offline => 4

/-- One region of a slot: stack, mode, length in frames, first stack offset (R473). -/
structure Region where
  stack : Nat
  mode : Bool
  frames : Nat
  offset : Nat
  srcOff : Nat := 0
  deriving DecidableEq, Repr

/-- One model slot (R472 to R480). -/
structure Slot where
  state : SlotState := .empty
  regions : List Region := []
  layers : Nat := 0
  endTok : Nat := 0xFFFFFFFF
  imageBytes : Nat := 0
  progOff : Nat := 0
  progLen : Nat := 0
  metaLen : Nat := 0
  digest : List Byte := []
  lastStatus : Nat := 0
  residentBytes : Nat := 0
  /-- Program images placed, per engine 0 to 8: offset and length in the serving context's bank (R476). -/
  placed : Map (Nat × Nat) := []
  /-- Frames to fetch in the restore in progress, as device addresses, and when the last fetch began (R678, R480). -/
  restore : List Nat := []
  restoreSince : Nat := 0
  /-- Frame checks of R475, by the device address of the frame. (DESIGN CHOICE, log 147.) -/
  checks : Map (List Byte) := []
  /-- The program directory and images of the resident image (R476), for placing them again. -/
  programs : List (List Byte) := []
  /-- Weight words recorded in the fault in hand: WEIGHT_TRANSIENT only. -/
  transientOnly : Bool := false
  deriving DecidableEq, Repr

/-! ## Engines (R313 to R359) -/

inductive EngState where
  | idle | loaded | runService | runNest | halted | faulted
  deriving DecidableEq, Repr

def EngState.code : EngState → Nat
  | .idle => 0
  | .loaded => 1
  | .runService => 2
  | .runNest => 3
  | .halted => 4
  | .faulted => 5

/-- Where an entry came from, so that its completion can be returned: a ring of a tenant, or an agent's post. -/
structure Origin where
  /-- Poster's engine number of R656; 0xF0 host ring. -/
  poster : Nat := 0
  tenant : Nat := 0
  /-- The serving privilege of R399. -/
  priv : Bool := false
  /-- Local ring the entry was taken from, with its CRING. -/
  ring : Option Nat := none
  ctag : Nat := 0
  /-- A sequencer's MOVE slot: engine and issue number. -/
  slot : Option (Nat × Nat) := none
  /-- The model slot whose serving step the work belongs to (R46, R434). -/
  step : Option Nat := none
  deriving DecidableEq, Repr

/-- An entry of a command queue: its bytes and where it came from (R338, R257, R377). -/
structure QEntry where
  data : List Byte
  origin : Origin := {}
  deriving DecidableEq, Repr

/-- An entry taken and not yet completed (R343 to R345). -/
structure EntryRun where
  id : Nat
  data : List Byte
  origin : Origin := {}
  status : Nat := 0
  rejected : Bool := false
  abandoned : Bool := false
  pc : Nat := 0xFFFFFFFF
  slots : Nat := 0
  outstanding : Nat := 0
  ended : Bool := false
  deriving DecidableEq, Repr

/-- Kinds of slot a DONE wait names (R329). -/
inductive SlotKind where
  | mm | wload | scale | ladle | move
  deriving DecidableEq, Repr

/-- A slot issued by a sequencer: its kind, issue number, entry, its word's offset, and whether it has completed (R330). -/
structure Issued where
  kind : SlotKind
  no : Nat
  entry : Nat
  pc : Nat := 0xFFFFFFFF
  done : Bool := false
  deriving DecidableEq, Repr

/-- A fetched word that has not issued in full: its units, offset, when it was fetched, and how far it has come:
stage 0 waits for its SYNC wait, 1 for room for its slots, 2 for its CTRL slot, 3 for its MOVE slot. `met` tells that the latest
read of a memory wait satisfied it. -/
structure HeldWord where
  units : List Nat
  at_ : Nat
  inline : Bool
  since : Nat
  stage : Nat := 0
  met : Bool := false
  deriving DecidableEq, Repr

/-- A NEST in progress (R347): levels as (COUNTM1, INCA, INCB, INCC), the iteration reached, base values, and the body. -/
structure NestRun where
  levels : List (Nat × Int × Int × Int)
  iter : List Nat
  opa : Nat
  opb : Nat
  opc : Nat
  baseA : Nat
  baseB : Nat
  baseC : Nat
  savedC : List Nat
  bodyPc : Nat
  bodyLeft : Nat
  bodyWords : Nat
  deriving DecidableEq, Repr

/-- Why an engine drains: STOP with FLIP, or a fault with its code (R355, R356). -/
inductive Drain where
  | stop (flip : Bool)
  | fault (code : Nat)
  | recovery
  deriving DecidableEq, Repr

/-- What every programmed engine has (R316, R350 to R359). -/
structure Engine where
  state : EngState := .idle
  haltNest : Bool := false
  bank : Bool := false
  commA : Bool := false
  commB : Bool := false
  lenA : Nat := 0
  entA : Nat := 0
  lenB : Nat := 0
  entB : Nat := 0
  /-- Descriptors that have begun writing a bank and not completed (R319). -/
  loadersA : Nat := 0
  loadersB : Nat := 0
  /-- Instruction memory: bank A's words from key 0, bank B's from key 2,048 (R313, R317). -/
  imem : Map Code288 := []
  pc : Nat := 0
  lastTag : Nat := 0
  a : Map Nat := []
  c : Map Nat := []
  stack : List Nat := []
  cmdStatus : Nat := 0
  cmdState : Nat := 0
  cmdTag : Nat := 0
  cmdBusy : Bool := false
  errValid : Bool := false
  errStatus : Nat := 0
  errPc : Nat := 0
  errTag : Nat := 0
  wdog : Nat := 0
  busyHit : Bool := false
  refused : Nat := 0
  queue : List QEntry := []
  overflow : Bool := false
  badPost : Bool := false
  drops : Nat := 0
  taken : Nat := 0
  /-- Entries taken and not complete; the one whose routine runs is `current`. -/
  runs : List EntryRun := []
  current : Option Nat := none
  nextRun : Nat := 1
  held : Option HeldWord := none
  issued : List Issued := []
  nextIssue : Nat := 1
  nest : Option NestRun := none
  drain : Option Drain := none
  /-- A HALT command waits for the next word or iteration boundary (R354). -/
  haltReq : Bool := false
  deriving DecidableEq, Repr

end Sys2Proof.Machine
end

