-- ==== Sys2Proof/Machine/Types2.lean ====
section
/-!
DEFINITION. The parts of the state of the ladles (R147 to R202).
-/

namespace Sys2Proof.Machine

/-- Where a ladle's sequence stands: it waits for a compute place (R189), for its first vector slice (R156), computes a
row operation, or is suspended (R153, R190). -/
inductive SeqState where
  | waiting | slice | computing | suspended
  deriving DecidableEq, Repr

/-- A ladle's sequence of row operations for one slot in one bank. -/
structure LSeq where
  slot : Nat
  bank : Nat
  /-- Row operations left, and those done. -/
  left : Nat
  done : Nat := 0
  /-- i, the bank's place in the slot's enumeration (R161); of a page, its place in the list. -/
  i : Nat := 0
  /-- The rows it works on, as (first, count). -/
  rows : List (Nat × Nat) := []
  st : SeqState := .waiting
  /-- A suspended sequence keeps its compute place while its bank serves others; a smaller allowance takes the place (R153, R190). -/
  place : Bool := false
  /-- When it started and when it was suspended for want of a place, among the stack's sequences (R190). -/
  started : Nat := 0
  since : Nat := 0
  /-- Its row operations take vector slices; an append's row write takes none (R156, R183). -/
  slices : Bool := true
  /-- The slice of the next row operation has arrived. -/
  ahead : Bool := false
  deriving DecidableEq, Repr

/-- The registers of one ladle (R147), as its last work left them: the slices in the vector latch as element codes, the
accumulator file as FP32 codes, and the words in the row latch. -/
structure LadleRegs where
  latch : List Nat := []
  acc : List Nat := []
  rowLatch : List Nat := []
  deriving DecidableEq, Repr

/-- A LADLE slot issued and not complete: its 96 bits, the register values it read, and what it has met (R187 to R192). -/
structure LSlot where
  no : Nat
  bits : Nat
  avec : Nat
  adst : Nat
  aaux : Nat
  entry : Nat := 0
  tenant : Nat := 0
  priv : Bool := false
  /-- The model slot of the serving step, if it belongs to one (R46). -/
  step : Option Nat := none
  /-- Function tables of its issue that have been written since, by subindex of 0x2320 (R201). -/
  old : Map (List Byte) := []
  performed : Bool := false
  status : Nat := 0
  sats : Nat := 0
  nonfinites : Nat := 0
  deriving DecidableEq, Repr

/-- The ladles, ladle registers and merge unit of one stack. -/
structure Ladles where
  /-- LDL_USABLE as one 2,048 bit map; 0 until self-test writes it (R199). -/
  usable : Nat := 0
  slots : List LSlot := []
  seqs : List LSeq := []
  /-- Starts and suspensions counted: the model's own order of them (R190). -/
  clock : Nat := 0
  /-- The registers of the ladles, by physical bank (R147). -/
  regs : Map LadleRegs := []
  grant : Nat := 0
  boost : Bool := false
  rowOps : Nat := 0
  suspends : Nat := 0
  vstall : Nat := 0
  corrected : Nat := 0
  poisons : Nat := 0
  lastValid : Bool := false
  lastBank : Nat := 0
  lastRow : Nat := 0
  lastWord : Nat := 0
  lastOp : Nat := 0
  deriving DecidableEq, Repr

end Sys2Proof.Machine
end

