-- ==== Sys2Proof/Machine/Types3.lean ====
section
/-!
DEFINITION. The parts of the state of the griddle (R37, R62 to R105).
-/

namespace Sys2Proof.Machine

/-- One stationary register set with its group scales and its cutter basis, and what its load recorded (R64, R66, R97).
Element keys are row·4,096 + column, group-scale keys group·4,096 + column, basis keys j·4,096 + column; marks say that
the register was loaded from poison (R213). -/
structure GridSet where
  ready : Bool := false
  wfmt : Nat := 0
  gsize : Nat := 0
  gsfmt : Nat := 0
  cut : Bool := false
  kt : Nat := 0
  nt : Nat := 0
  aw : Nat := 0
  ags : Nat := 0
  aaux : Nat := 0
  elem : Map Nat := []
  elemBad : Map Bool := []
  gscale : Map Nat := []
  gscaleBad : Map Bool := []
  basis : Map Nat := []
  basisBad : Map Bool := []
  deriving DecidableEq, Repr

/-- The scale registers: values and poison marks (R37, R40). -/
structure Scales where
  col : Map Nat := []
  colBad : Map Bool := []
  row : Map Nat := []
  rowBad : Map Bool := []
  out : Nat := 0x3F800000
  outBad : Bool := false
  deriving DecidableEq, Repr

/-- The scale registers of a discarded context image: every word reads as zeros (R484). -/
def Scales.zero : Scales :=
  { col := (List.range 4096).map (fun i => (i, 0)), row := (List.range 3584).map (fun i => (i, 0)), out := 0 }

/-- A wide copy of a sweep's output (R53, R54): the model slot of the step that made it, the narrow destination's base, and the copy's
address and bytes. -/
structure WideCopy where
  step : Option Nat
  narrow : Nat
  addr : Nat
  bytes : Nat
  deriving DecidableEq, Repr

/-- An MM or WLOAD issued and unfinished (R94, R104): its bits, operand addresses, whose work it is, how far it has come, and
what a wide re-run needs of the sweep: the scales and set it saw, the destination values and records it read. -/
structure GridOp where
  no : Nat
  bits : Nat
  asrc : Nat
  adst : Nat
  aw : Nat
  ags : Nat
  aaux : Nat
  ax2 : Nat
  tenant : Nat := 0
  step : Option Nat := none
  started : Bool := false
  swept : Bool := false
  rerun : Bool := false
  status : Nat := 0
  sats : Nat := 0
  nonfinites : Nat := 0
  /-- The streaming operand read: its base and whether it was the BF16 copy of R54. -/
  src : Nat := 0
  wide : Bool := false
  scales : Scales := {}
  oldDst : List (List (Num × Bool)) := []
  oldRec : List (List Nat × Bool) := []
  /-- Where the re-run writes its BF16 outputs (R53). -/
  wideAddr : Nat := 0
  deriving DecidableEq, Repr

/-- A SCALE slot issued and unfinished, by its bits (R41, R42). -/
structure ScaleOp where
  no : Nat
  bits : Nat
  loaded : Bool := false
  status : Nat := 0
  deriving DecidableEq, Repr

/-- The griddle. -/
structure Grid where
  usable : Nat := 0
  rimEps : Nat := 0x3727C5AC
  set0 : GridSet := {}
  set1 : GridSet := {}
  scales : Scales := {}
  ops : List GridOp := []
  scaleOps : List ScaleOp := []
  sweeps : Nat := 0
  busy : Nat := 0
  stall : Nat := 0
  /-- Copies in the wide area and the remappings they stand for, newest first (R53, R54). -/
  wide : List WideCopy := []
  /-- The arbiter's slab grant of the epoch (R612, R613). -/
  slabs : Nat := 16
  deriving DecidableEq, Repr

end Sys2Proof.Machine
end

