-- ==== Sys2Proof/Machine/Types4.lean ====
section
/-!
DEFINITION. The parts of the state of the movers, the walkers, the rings, the host link and the tenants (R257 to R278,
R362 to R391, R461 to R487, R544 to R574).
-/

namespace Sys2Proof.Machine

/-! ## Movers (R257 to R278) -/

/-- A descriptor in progress: its 192 bytes, whose it is, whether its data moved, and what its record will say. -/
structure MoveRun where
  data : List Byte
  origin : Origin := {}
  status : Nat := 0
  moved : Bool := false
  /-- A discard has been issued to its stack (R222). -/
  issued : Bool := false
  /-- It has begun writing an instruction-memory bank (R319). -/
  loading : Bool := false
  partial_ : Bool := false
  poison : Bool := false
  clipped : Nat := 0
  clamped : Nat := 0
  bytes : Nat := 0
  /-- Bytes that reads of a fabric node returned, by the address of each read, and the 32 B words of them that were poisoned. -/
  got : Map (List Byte) := []
  gotBad : List Nat := []
  deriving DecidableEq, Repr

/-- One mover: its queue, the descriptor in progress, and the registers of R278 and the Q_ registers of R359. -/
structure Mover where
  queue : List QEntry := []
  run : Option MoveRun := none
  overflow : Bool := false
  badPost : Bool := false
  drops : Nat := 0
  taken : Nat := 0
  lastErr : Option (Nat × Nat) := none
  /-- LASTERR's fields are sticky: kept when VALID is cleared. -/
  lastTag : Nat := 0
  lastStatus : Nat := 0
  bytes : Nat := 0
  descs : Nat := 0
  clamped : Nat := 0
  clipped : Nat := 0
  deriving DecidableEq, Repr

/-! ## Walkers (R362 to R391) -/

inductive ThreadState where
  | free | ready | waiting | stopping
  deriving DecidableEq, Repr

def ThreadState.code : ThreadState → Nat
  | .free => 0
  | .ready => 1
  | .waiting => 2
  | .stopping => 3

/-- What a waiting thread waits for: a load into registers, a chain walk, an atomic, an add that returns old values, a
release, a fence, or a post. -/
inductive Wait where
  /-- RD, address, bytes, sign-extend, and the scope of an acquire load. -/
  | load (rd addr n : Nat) (sx : Bool) (acq : Option Nat)
  | burst (rd addr : Nat)
  /-- RD, the current node, RB's value, KOFF, NOFF, hops left. -/
  | chain (rd p rb koff noff left : Nat)
  /-- RD, address, bytes, AOP, operand, ORD. -/
  | atomic (rd addr n aop rb ord : Nat)
  /-- RB, address, ADDFMT, the addends. -/
  | add (rb addr fmt : Nat) (data : List Byte)
  | release
  /-- A FENCE that waits for the stores ahead of it, and whether it is an acquire too at DIE scope or wider. -/
  | fence (ahead : Nat) (acq : Bool)
  /-- Stores ahead, RD, the window's address and the burst. -/
  | post (ahead rd addr : Nat) (data : List Byte)
  deriving DecidableEq, Repr

/-- An outstanding access in a core's address tracker (R286): its thread, range, and the write still to be performed at
its home: none for a load, or an atomic already performed. -/
structure Tracked where
  thread : Nat
  addr : Nat
  len : Nat
  /-- Offset of its instruction. -/
  pc : Nat := 0
  isLoad : Bool := false
  data : Option (List Byte) := none
  /-- ADDFMT of a memory-side add. -/
  add : Option Nat := none
  /-- Scope of a release. -/
  rel : Option Nat := none
  /-- Issued before the mode change or the migration that its address waits for (R117, R236). -/
  early : Bool := false
  deriving DecidableEq, Repr

/-- One thread (R363, R365). -/
structure Thread where
  st : ThreadState := .free
  pc : Nat := 0
  /-- w1 to w31. -/
  regs : Map Nat := []
  origin : Origin := {}
  tag : Nat := 0
  crec : Bool := false
  caddr : Nat := 0
  since : Nat := 0
  retired : Nat := 0
  wait : Option Wait := none
  /-- A FENCE with release semantics makes the next store a release at this scope (R294). -/
  fence : Option Nat := none
  /-- The stop code of a thread that stops, with its instruction's offset, and whether it was abandoned. -/
  status : Nat := 0
  stopPc : Nat := 0xFFFFFFFF
  rejected : Bool := false
  abandoned : Bool := false
  deriving DecidableEq, Repr

/-- One walker core beyond what every programmed engine has. -/
structure Walker where
  threads : Map Thread := []
  tracker : List Tracked := []
  /-- L1 lines, most recently used first: line address and its two codewords (R203, R298, R376). -/
  l1 : List (Nat × List Code288) := []
  /-- The tenants that have run since the invalidation at their last switch or reset (R301). -/
  ran : List Nat := []
  releases : Nat := 0
  acquires : Nat := 0
  l1Inval : Nat := 0
  trackStall : Nat := 0
  relWait : Nat := 0
  issued : Nat := 0
  l1Hit : Nat := 0
  l1Miss : Nat := 0
  l1Err : Nat := 0
  tasks : Nat := 0
  lastValid : Bool := false
  lastStatus : Nat := 0
  lastThread : Nat := 0
  lastPc : Nat := 0
  /-- A FLIP entry taken, which waits for every thread to end (R381). -/
  flip : Option QEntry := none
  deriving DecidableEq, Repr

/-! ## Rings and the host link (R544 to R574) -/

/-- One ring's registers (R572), its binding (R553), and the entries taken from it and not yet completed (R555). -/
structure Ring where
  base : Nat := 0
  enable : Bool := false
  busy : Bool := false
  type : Nat := 0
  log2 : Nat := 0
  loc : Bool := false
  cring : Nat := 0
  isrc : Nat := 0
  ien : Bool := false
  tgt : Nat := 0
  cfgstat : Nat := 0
  qhead : Nat := 0
  qtail : Nat := 0
  wb : Nat := 0
  baddb : Bool := false
  hosterr : Bool := false
  stalled : Bool := false
  rsv : Nat := 0
  /-- TYPE to which a COMPL ring is bound. -/
  bound : Option Nat := none
  /-- Entries taken and not yet completed. -/
  taken : Nat := 0
  /-- The tenant whose function page holds the ring, noted at enable. -/
  owner : Nat := 0
  deriving DecidableEq, Repr

/-- One slice register WIN[i] (R549, R573). -/
structure WinSlice where
  valid : Bool := false
  badbase : Bool := false
  base : Nat := 0
  deriving DecidableEq, Repr

/-- One mailbox (R599): LEN, BUSY, DONE, TYPE, ABORT and TOTAL, its buffer's bytes by offset, the read snapshot of R590 as
(key, value, last use), and the write being staged as (key, bytes, last use). -/
structure Mailbox where
  len : Nat := 0
  busy : Bool := false
  done : Bool := false
  type : Nat := 0
  abort : Nat := 0
  total : Nat := 0
  buffer : Map Byte := []
  snapshot : Option (Nat × List Byte × Nat) := none
  staging : Option (Nat × List Byte × Nat) := none
  deriving DecidableEq, Repr

/-- The PCI Express functions. (PRESUMED, log 84.) -/
structure HostLink where
  up : Bool := false
  /-- PERST_N is asserted. -/
  perst : Bool := true
  /-- The bytes of BAR2 of the physical function and of each virtual function, as powers of two (R546). -/
  bar2Log : Nat := 30
  vfBar2Log : Nat := 30
  vfEnable : Bool := false
  numVfs : Nat := 0
  /-- WIN slices, keyed function·64 + i. -/
  win : Map WinSlice := []
  /-- TDI states, by function: 0 CONFIG_UNLOCKED, 1 CONFIG_LOCKED, 2 RUN, 3 ERROR (R545). -/
  tdi : Map Nat := []
  /-- L0p: the width asked for, 0 for full width (R544). -/
  l0p : Nat := 0
  /-- The device has been READY since RESET (R628). -/
  wasReady : Bool := false
  /-- Pulses shorter than the filter time, by input: 0 CADENCE_IN, 1 PPS_IN, 2 + i GPI[i] (R567). -/
  glitches : Map Nat := []
  /-- Mailboxes, by function: DICT_LEN, DICT_STAT and DICT_TOTAL, and the buffer's bytes (R599). -/
  boxes : Map Mailbox := []
  deriving DecidableEq, Repr

/-! ## Tenants and contexts (R461 to R487) -/

inductive TenantState where
  | unassigned | active | quiescing | resetting | faulted
  deriving DecidableEq, Repr

def TenantState.code : TenantState → Nat
  | .unassigned => 0
  | .active => 1
  | .quiescing => 2
  | .resetting => 3
  | .faulted => 4

structure Tenant where
  state : TenantState := .unassigned
  /-- In RESETTING: whether the reset ends in UNASSIGNED. -/
  toUnassigned : Bool := false
  /-- Slots whose next boundary frees this tenant's requests (R467 step 2). -/
  resetSlots : List Nat := []
  /-- Doorbells accepted and held in QUIESCING: (ring, value), oldest first (R465). -/
  held : List (Nat × Nat) := []
  deriving DecidableEq, Repr

/-- What a context switch saves of one sequencer (R483). -/
structure SeqSave where
  imem : Map Code288 := []
  bank : Bool := false
  commA : Bool := false
  commB : Bool := false
  lenA : Nat := 0
  entA : Nat := 0
  lenB : Nat := 0
  entB : Nat := 0
  a : Map Nat := []
  c : Map Nat := []
  stack : List Nat := []
  queue : List QEntry := []
  deriving DecidableEq, Repr

/-- The saved image of one context: the sequencers, the scale registers with RIM_EPS, and the stockpot words of its
extents by word number. An image that nothing was saved to is zeros (R484). -/
structure CtxSave where
  seqs : Map SeqSave := []
  scales : Scales := Scales.zero
  rimEps : Nat := 0
  pots : Map Code288 := []
  deriving DecidableEq, Repr

/-- A context switch in progress (R485): the incoming context, when it began, and whether the outgoing one is saved. -/
structure CtxSwitch where
  target : Nat
  since : Nat
  save : Bool := true
  deriving DecidableEq, Repr

structure Contexts where
  current : Nat := 0
  switch : Option CtxSwitch := none
  /-- A switch that starts when the one in progress ends (R504). -/
  next : Option Nat := none
  saved : Map CtxSave := []
  deriving DecidableEq, Repr

/-! ## The serving controller (R393 to R459) -/

/-- One request's part in a step: positions appended by prefill, or W and the drafts of a decode request; a code that fails it at
the commit; and whether it takes the wide path of a decode on the griddle. -/
structure StepReq where
  req : Nat
  prefill : Nat := 0
  w : Nat := 0
  drafts : List Nat := []
  failed : Nat := 0
  deriving DecidableEq, Repr

/-- Where a step stands: its draft phase runs, its programs do, or its commit waits for the twin (R434, R435). -/
inductive StepPhase where
  | draft | main | acking
  deriving DecidableEq, Repr

/-- A step of a model slot in progress. While its commit waits for the twin: the stream number awaited, the requests as they
were before it, and the records and completions it will write. -/
structure StepRun where
  batch : List StepReq
  phase : StepPhase := .main
  onGrid : Bool := false
  /-- It started at a reservation of the schedule (R502, R503). -/
  reserved : Bool := false
  /-- Sequencers to which its entries have been posted (R503). -/
  queues : List Nat := []
  /-- It met an uncorrectable weight word and will be discarded (R434). -/
  discard : Bool := false
  since : Nat := 0
  waitSeq : Nat := 0
  saved : Map Req := []
  records : List (Nat × List Byte) := []
  answers : List (Origin × List Byte) := []
  /-- The commands observed at this commit, which a discarded one observes again (R453, R536). -/
  cmds : List QEntry := []
  deriving DecidableEq, Repr

/-- A divergence copy in progress: the request, the entry's address, the new page and the shared one, and the rows to copy
(R405). -/
structure PagePrep where
  req : Nat
  entry : Nat
  frame : Nat
  src : Nat
  rows : Nat
  deriving DecidableEq, Repr

/-- A prefix node (R385), by what its fields say; `frag` names its fragment. (DEDUCED, log 55.) -/
structure PNode where
  key : Nat
  parent : Nat := 0
  tenant : Nat
  refs : Nat := 0
  valid : Bool := true
  pinned : Bool := false
  stamp : Nat := 0
  frag : Nat := 0
  deriving DecidableEq, Repr

/-- A fragment (R410): the nodes that point to it, and each lane's page of one page index. -/
structure Fragment where
  ref : Nat := 0
  frames : List Nat
  deriving DecidableEq, Repr

structure Svc where
  /-- Serving commands taken from rings and not yet received, oldest first (R453, R554). -/
  queue : List QEntry := []
  /-- Commands received that await a boundary of their slot, oldest first. -/
  waiting : List (Nat × QEntry) := []
  /-- SUBMIT commands whose prefix match runs, by request. -/
  submits : Map (List QEntry) := []
  steps : Map StepRun := []
  preps : List PagePrep := []
  /-- REF of each allocated page frame (R404) and, one more, the tenant it is counted against. -/
  refs : Map Nat := []
  owner : Map Nat := []
  /-- The prefix tree: nodes and fragments by number. -/
  nodes : List (Nat × PNode) := []
  frags : List (Nat × Fragment) := []
  nextNode : Nat := 1
  /-- Generations of cutters since reset (R443), and the cutters that are VALID: tenant + 1 and slot (R442). -/
  cgen : Map Nat := []
  cutters : Map (Nat × Nat) := []
  /-- Function tables in force until the next step boundary, by subindex of 0x2320 (R201). -/
  oldTables : Map (List Byte) := []
  /-- The slots' programs are to be placed afresh at the next serving boundary (R476). -/
  place : Bool := false
  deriving DecidableEq, Repr

end Sys2Proof.Machine
end

