-- ==== Sys2Proof/Machine/Types5.lean ====
section
/-!
DEFINITION. The parts of the state of the fabric ports, the collectives and the tandem pair (R507 to R541).
-/

namespace Sys2Proof.Machine

/-- A flit in a sender's replay buffer: its SEQ and how often it was replayed (R511). -/
structure SentFlit where
  seq : Nat
  replays : Nat := 0
  deriving DecidableEq, Repr

/-- A packet (R510): its header and the codewords of its payload, with WMASK bit by bit. -/
structure Packet where
  op : Nat
  dst : Nat
  src : Nat
  tenant : Nat := 0
  priv : Bool := false
  ord : Nat := 0
  addfmt : Nat := 0
  /-- FCNTM1. -/
  fcnt : Nat := 0
  tag : Nat := 0
  addr : Nat := 0
  mask : List Bool := []
  words : List Nat := []
  deriving DecidableEq, Repr

/-- A packet that waits for credits: what leaves, its virtual channel, and its flits not yet sent (R513). -/
structure SendItem where
  op : Nat
  fields : List Nat
  data : List Byte
  vc : Nat
  left : Nat
  deriving DecidableEq, Repr

/-- One fabric or tandem port beyond its dictionary entries. -/
structure Port where
  /-- SEQ of the last flit accepted, and of the next one to send (R511). -/
  rxSeq : Nat := 4095
  txSeq : Nat := 0
  replay : List SentFlit := []
  /-- Packets being received, by virtual channel (R521), packets that wait for credits, and the credits held (R513). -/
  asm : Map Packet := []
  sendq : List SendItem := []
  credits : Map Nat := []
  /-- Times of retrains within the last second, since when the port is DOWN after three, and times of violations (R512,
  R521). -/
  retrains : List Nat := []
  downSince : Option Nat := none
  violations : List Nat := []
  deriving DecidableEq, Repr

/-- A remote operation without an answer yet (R518, R520): its TAG, node, the mover whose it is, 1 a write, 2 a read or 4 an add,
when it was sent, and the packet, which is sent again where a transit device dropped it (R517). -/
structure RemoteOp where
  tag : Nat
  node : Nat
  owner : Nat
  op : Nat
  since : Nat
  packet : Packet
  deriving DecidableEq, Repr

/-- A collective that runs: its descriptor, poster, the ranks whose descriptors agreed, and what members have sent
(R522 to R527). -/
structure CollRun where
  data : List Byte
  origin : Origin := {}
  since : Nat := 0
  agreed : List Nat := []
  mismatch : Bool := false
  /-- Contributions by rank, and the 32 B words of each that are poisoned. -/
  got : Map (List Byte) := []
  gotBad : Map (List Nat) := []
  deriving DecidableEq, Repr

/-- A message of a member: its rank and descriptor, and with the data its contribution and the poisoned words of it. -/
structure CollMsg where
  rank : Nat
  desc : List Byte
  isData : Bool
  data : List Byte := []
  bad : List Nat := []
  deriving DecidableEq, Repr

structure Fabric where
  /-- The node number in force since the latest training (R514, 0x6000.01). -/
  node : Nat := 0
  ports : Map Port := []
  /-- The fault map: failed links as (node, port) and nodes that are DOWN (R516), and the version held per node (R517). -/
  links : List (Nat × Nat) := []
  down : List Nat := []
  versions : Map Nat := []
  /-- Packets addressed to this device and not yet handled, oldest first (R518). -/
  inbox : List Packet := []
  ops : List RemoteOp := []
  nextTag : Nat := 0
  /-- The collective queue of R522 and its Q_ registers, and messages of a collective that has not started here. -/
  collQueue : List QEntry := []
  coll : Option CollRun := none
  collEarly : List CollMsg := []
  collOverflow : Bool := false
  collBadPost : Bool := false
  collDrops : Nat := 0
  collTaken : Nat := 0
  deriving DecidableEq, Repr

structure Tandem where
  /-- Heartbeats in a row with overlapping versions (R529, R530), the latest one's sequence number, when it came, and when the last
  presence frame came. -/
  beats : Nat := 0
  partnerHeart : Nat := 0
  lastBeat : Nat := 0
  lastPresence : Nat := 0
  versionNoted : Bool := false
  /-- Of the partner, as its heartbeats give it: TandemPriority, the last stream sequence it applied, and whether one of those in a
  row came from SOLO. -/
  partnerPriority : Nat := 0
  partnerApplied : Nat := 0
  partnerSolo : Bool := false
  /-- MIRRORMIN and MIRRORMAX of the running manifest (R530). -/
  ownMin : Nat := 0
  ownMax : Nat := 0
  /-- Stream sequence numbers: sent, and applied (R531). -/
  txSeq : Nat := 0
  rxSeq : Nat := 0
  heartSeq : Nat := 0
  /-- SEQ of the presence frames sent, and of the latest one accepted, with the present pair key (R598). -/
  presenceSeq : Nat := 0
  partnerPresence : Nat := 0
  /-- Of each SHADOW entry's windows, the positions held in a row from 0 on, keyed (request·2 + draft)·131,072 + lane·2 + kind
  (R533). -/
  heldPos : Map Nat := []
  /-- Slots whose SHADOW entries are promoted at their next boundary, those of them that were handed over, and the tokens to deliver
  again per request: POS and tokens (R537, R539). -/
  promote : List Nat := []
  handed : List Nat := []
  lastTokens : Map (Nat × List Nat) := []
  /-- Mirrored commands received and not yet applied (R537 step 4). -/
  commands : List QEntry := []
  /-- A WITHDRAW in progress, the slots not yet handed over, and the cause of a reset that waits for it, with the time since when
  (R539, R627). -/
  withdraw : Bool := false
  withdrawSlots : List Nat := []
  resetWait : Option (Nat × Nat) := none
  /-- The pair key (R598). -/
  pairKey : List Byte := []
  /-- Stamps of mirrored values: dictionary entries by key, cutters from 2^32 on (R531). -/
  stamps : Map Nat := []
  /-- A tandem port failed while the other was not UP and a restore from the twin was in hand: a fault of the recovery path if the
  pair outlives it (R675). -/
  pathFault : Bool := false
  /-- The device state before FENCED (R536). -/
  left : DevState := .service
  deriving DecidableEq, Repr

end Sys2Proof.Machine
end

