-- ==== Sys2Proof/Machine/Types6.lean ====
section
/-!
DEFINITION. The parts of the state of the cadence and time (R488 to R504).
-/

namespace Sys2Proof.Machine

/-- The cadence: where the present period began and how long it is, in PTP ns (R488), and what locks it (R490, R491). -/
structure Cadence where
  start : Nat := 0
  length : Nat := 16666667
  /-- The length of the last period measured between two edges; none since reset or since the source became EXTERNAL. -/
  measured : Option Nat := none
  /-- The last edge accepted, consecutive edges within tolerance, and consecutive misses. -/
  lastEdge : Option Nat := none
  hits : Nat := 0
  misses : Nat := 0
  /-- The grandmaster's epoch and period while received, and when the last announcement came (R489, R490). -/
  fabricEpoch : Option Nat := none
  fabricPeriod : Nat := 0
  lastAnnounce : Nat := 0
  /-- The next boundary where a move has set it (R491). -/
  moved : Option Nat := none
  /-- A schedule table to activate at the next boundary (R501). -/
  activate : Option Nat := none
  /-- Entries of the active table already acted on in this period. -/
  entryNext : Nat := 0
  /-- Open reservations: slot and the instant at which each lapses (R502). -/
  open_ : List (Nat × Nat) := []
  /-- Whether the present period began at an edge, and edges ignored while locked (R488, R490). -/
  fromEdge : Bool := false
  ignored : Nat := 0
  deriving DecidableEq, Repr

/-- Time (R494 to R499). -/
structure Clock where
  ppsGood : Nat := 0
  ppsMissing : Nat := 0
  lastPps : Option Nat := none
  /-- TimeQuality was LOCKED_PPS since the last reset or step of time. -/
  wasLocked : Bool := false
  syncSeq : Nat := 0
  announceSeq : Nat := 0
  /-- No more Announce is sent before a deliberate reset (R499). -/
  silent : Bool := false
  lastSecond : Nat := 0
  deriving DecidableEq, Repr

end Sys2Proof.Machine
end

