-- ==== Sys2Proof/Machine/Types7.lean ====
section
/-!
DEFINITION. The parts of the state of power and heat (R605 to R623), boot flash (R633, R709), start-up and self-test (R624 to R654), health
(R685 to R698), identity and update (R699 to R726) and the package (R731 to R747).
-/

namespace Sys2Proof.Machine

/-! ## Power and heat -/

/-- One sensor of R614: its last corrected reading in quarters of a degree, readings missed in a row, whether it has failed (R617),
and whether its last reading was at the trip threshold (R619). -/
structure Sensor where
  last : Option Int := none
  missed : Nat := 0
  failed : Bool := false
  hot : Bool := false
  deriving DecidableEq, Repr

/-- TRIPREC (R620). -/
structure TripRecord where
  valid : Bool := false
  domain : Nat := 0
  sensor : Nat := 0
  temp : Nat := 0
  holdMs : Nat := 0
  deriving DecidableEq, Repr

/-- One regulator rail (R607, R609): cycles without an answer and with a PEC error in a row, whether it is faulty, its last good
reading in µW, and whether STATUS_WORD reported a fault. -/
structure Rail where
  missed : Nat := 0
  pec : Nat := 0
  faulty : Bool := false
  power : Nat := 0
  bad : Bool := false
  deriving DecidableEq, Repr

/-- The grants of one epoch (R605, R612): ladle and boost blocks by stack, movers and walkers of the west and the east die, slabs,
self-test units, and their cost in units with the fixed class, C left out. -/
structure Grants where
  ladles : Map Nat := []
  boost : Map Nat := []
  moversW : Nat := 0
  moversE : Nat := 0
  slabs : Nat := 0
  walkersW : Nat := 0
  walkersE : Nat := 0
  test : Nat := 0
  cost : Nat := 0
  deriving DecidableEq, Repr

structure Power where
  /-- Sensors: WEST 0 to 63, EAST 64 to 127, those of stack s from 128 + 66·s, the base die's last. -/
  sensors : Map Sensor := []
  scans : Nat := 0
  /-- The thresholds of R619 have their trimmed values. -/
  trimmed : Bool := false
  trip : TripRecord := {}
  /-- When THERMAL_HOLD began, and since when every sensor has read below 65 °C in it. -/
  holdSince : Nat := 0
  coolSince : Option Nat := none
  /-- Grants in force, and those computed for the next epoch (R605). -/
  grants : Grants := {}
  next : Grants := {}
  /-- Stack that last received a remainder of ladle blocks, and of boost blocks (R612). -/
  ladleTurn : Nat := 7
  boostTurn : Nat := 7
  /-- Epochs of the run in progress, and the credit, in half watts times epochs (R611). -/
  run : Option Nat := none
  credit : Nat := 400000
  /-- C in µW once telemetry is complete (R608), the cost of the grants in force since the latest cycle with its epochs, and
  whether a run took part of it. -/
  c : Option Int := none
  costSum : Nat := 0
  costEpochs : Nat := 0
  ran : Bool := false
  rails : Map Rail := []
  /-- Eighths of nominal to which stage 3 limits the west and the east die's griddle and movers (R133, R134). -/
  limitW : Nat := 8
  limitE : Nat := 8
  /-- Voltage references as last corrected, by die (R618), and the VID codes with the setpoints they move to (R734). -/
  vref : Map Nat := []
  vidW : Nat := 40
  vidE : Nat := 40
  vidToW : Nat := 40
  vidToE : Nat := 40
  deriving DecidableEq, Repr

/-! ## Boot flash -/

/-- What a boot record page says (R710). -/
structure BootRecord where
  seq : Nat := 0
  run : Nat := 0
  trial : Nat := 0xFF
  floor : Nat := 0
  digest : List Byte := []
  deriving DecidableEq, Repr

/-- A boot record page of R710's MAGIC and VERSION: its record and its signature. -/
structure BootPage where
  record : BootRecord
  sig : List Byte
  deriving DecidableEq, Repr

/-- What learning a lane's baselines has come to (R692): the samples of its first 24 hours UP, as FP32, the time UP that
they stand for, when the last was taken, and H0 and U0. -/
structure LaneBase where
  heights : List Nat := []
  widths : List Nat := []
  up : Nat := 0
  last : Nat := 0
  base : Option (Nat × Nat) := none
  /-- Neighbour node or link width with which it was learnt. -/
  mark : Nat := 0
  deriving DecidableEq, Repr

structure Flash where
  /-- The dictionary journal: the STORED values by key (R594). -/
  journal : Map Nat := []
  journalBytes : Map (List Byte) := []
  /-- Configuration copies A and B (R633). -/
  cfgA : List Byte := []
  cfgB : List Byte := []
  /-- Pages 0 and 1 of the boot record (R709, R710). -/
  boot0 : Option BootPage := none
  boot1 : Option BootPage := none
  manifestA : List Byte := []
  manifestB : List Byte := []
  /-- Received-chunk bitmap of the target set, and payload chunks of 4,096 B keyed set·16,384 + chunk (R709, R713). -/
  bitmap : Map Bool := []
  payload : Map (List Byte) := []
  /-- The health record (R688): operating hours, daily points as (hour, w in FP32) keyed domain·8 + monitor, lane baselines. -/
  hours : Nat := 0
  /-- Days of operating hours whose points are recorded. -/
  days : Nat := 0
  points : Map (List (Nat × Nat)) := []
  lanes : Map LaneBase := []
  /-- The latest start entered recovery mode, or ran the previous set after a trial, and it has not been reported (R720, R723). -/
  recovered : Bool := false
  reverted : Bool := false
  deriving DecidableEq, Repr

/-! ## Self-test -/

/-- A test unit (R640): KIND of R646, or 9 for a ladle buffer or merge memory and 10 for a service core; its stack and index. -/
structure TestUnit where
  kind : Nat
  stack : Nat := 0
  index : Nat
  deriving DecidableEq, Repr

/-- Units of one kind and stack that wait, in ascending index. -/
structure TestRange where
  kind : Nat
  stack : Nat := 0
  first : Nat
  count : Nat
  deriving DecidableEq, Repr

/-- An in-field run (R646): its RunRequest and when it began. -/
structure FieldRun where
  kind : Nat
  stack : Nat
  first : Nat
  count : Nat
  since : Nat
  deriving DecidableEq, Repr

structure SelfTest where
  /-- Units that wait, in order, those that run, and those deferred with the time of the first deferral (R638). -/
  waiting : List TestRange := []
  running : List TestUnit := []
  deferred : List (TestUnit × Nat) := []
  run : Option FieldRun := none
  /-- The first code other than OK that the run met. -/
  result : Nat := 0
  /-- Ladles retired at this start, by stack, as a bit map of physical banks. -/
  ladles : Map Nat := []
  /-- Engines stopped for their test keep their queue (R647): engine numbers of R656. -/
  stopped : List Nat := []
  /-- A unit that is not retirable failed (R635). -/
  failed : Bool := false
  /-- ENTER_TEST received in CONFIG (R626). -/
  enterTest : Bool := false
  deriving DecidableEq, Repr

/-! ## Health -/

/-- A retention probe of a stack (R689, R690): its frame, the hold in progress in ms with its start, and the longest hold passed. -/
structure Probe where
  frame : Nat
  hold : Nat := 64
  since : Nat := 0
  best : Nat := 0
  deriving DecidableEq, Repr

structure Health where
  /-- Samples of the day in progress as FP32, by domain·8 + monitor. -/
  samples : Map (List Nat) := []
  probes : Map Probe := []
  lastProbe : Map Nat := []
  /-- When the hour in progress began. -/
  hourSince : Nat := 0
  deriving DecidableEq, Repr

/-! ## Identity and update -/

/-- One function's SPDM connection (R704): version and algorithms agreed, and the transcript of its messages so far. -/
structure Spdm where
  version : Bool := false
  capabilities : Bool := false
  algorithms : Bool := false
  transcript : List Byte := []
  deriving DecidableEq, Repr

/-- An SPDM secure session: its function, number, keys of the two directions with their count of updates, and whether FINISH passed. -/
structure SpdmSession where
  fn : Nat
  id : Nat
  key : List Byte
  updates : Nat := 0
  established : Bool := false
  lastHeard : Nat := 0
  deriving DecidableEq, Repr

/-- The recovery package as received (R721, R722) and RecoveryStatus (R723). -/
structure Recovery where
  total : Option Nat := none
  bytes : Map Byte := []
  /-- Offset and length of what has come, oldest first. -/
  held : List (Nat × Nat) := []
  /-- STATUS answers of the second in progress, and its start. -/
  answers : Nat := 0
  answersSince : Nat := 0
  state : Nat := 0
  code : Nat := 0
  detail : Nat := 0
  deriving DecidableEq, Repr

/-- An activation in progress (R716): since when, the service core that was active, and the latest fault entry at that time. -/
structure Activation where
  since : Nat
  old : Nat := 0
  seq : Nat := 0
  deriving DecidableEq, Repr

structure Security where
  /-- The identity key is in the key vault (R699, R700). -/
  identity : Bool := false
  /-- IDE keys held, by stream (R639, R704). -/
  ide : Map (List Byte) := []
  mchain : List Byte := List.replicate 64 0
  /-- The measurement log, oldest first: time, block, value (R703), and the blocks' present values (R702). -/
  mlog : List (Nat × Nat × List Byte) := []
  blocks : Map (List Byte) := []
  spdm : Map Spdm := []
  spdmSessions : List SpdmSession := []
  nextSpdm : Nat := 1
  /-- QuoteNonce and Quote, by session number, or 2^32 + function for a mailbox (R705). -/
  nonces : Map (List Byte) := []
  /-- ROM runs in recovery mode, for want of a configuration or of a set, and the package. -/
  recoveryMode : Bool := false
  noConfig : Bool := false
  recovery : Recovery := {}
  /-- Set that the running firmware comes from, and the configuration copy in use. -/
  runSet : Nat := 0
  cfgCopy : Nat := 0
  activation : Option Activation := none
  deriving DecidableEq, Repr

/-! ## The package -/

/-- The board management port and the TAP (R743, R747): the dynamic address, the instruction, the boundary register's preloaded
pattern. (PRESUMED, log 104.) -/
structure Package where
  i3cAddr : Option Nat := none
  tapIr : Nat := 1
  boundary : List Bool := []
  /-- PWRGD's level and when it rose, and whether ALERT_N and THERMTRIP_N are driven low. -/
  pwrgd : Bool := true
  pwrgdSince : Nat := 0
  alertLow : Bool := false
  tripLow : Bool := false
  deriving DecidableEq, Repr

end Sys2Proof.Machine
end

