-- ==== Sys2Proof/Machine/Types8.lean ====
section
/-!
DEFINITION. The parts of the state of the service ports and the dictionary's writes (R576 to R602).
-/

namespace Sys2Proof.Machine

/-- A handshake not yet proved (R585): KEYID and AUTH, H1, this device's private share, and when CHALLENGE was sent. -/
structure Handshake where
  number : Nat
  keyId : Nat
  auth : Nat
  h1 : List Byte
  secret : List Byte
  since : Nat
  net : Nat := 0
  deriving DecidableEq, Repr

/-- A NOTIFY not acknowledged (R597): NSEQ, entry, changes, body, when it was last sent and how often. -/
structure Unacked where
  nseq : Nat
  body : List Byte
  since : Nat
  sends : Nat := 1
  deriving DecidableEq, Repr

/-- A Nirnar session (R582 to R587, R590, R597). -/
structure Session where
  number : Nat
  keyId : Nat
  auth : Nat
  rxKey : List Byte
  txKey : List Byte
  /-- SEQ last accepted and last sent. -/
  rxSeq : Nat := 0
  txSeq : Nat := 0
  lastHeard : Nat := 0
  /-- The idle timeout in ms that ACCEPT carried, and the address the session runs on: 0 IPv6 link-local, 1 IPv4, 2 IPv6 global. -/
  idle : Nat := 10000
  net : Nat := 0
  /-- Answers to the last 16 transactions: TRANS, OP, body. -/
  kept : List (Nat × Nat × List Byte) := []
  /-- Requests taken and not yet answered: TRANS. -/
  open_ : List Nat := []
  snapshot : Option (Nat × List Byte × Nat) := none
  staging : Option (Nat × List Byte × Nat) := none
  nextNotify : Nat := 1
  unacked : List Unacked := []
  deriving DecidableEq, Repr

/-- Who asked for a dictionary write: a session with its TRANS, a function's mailbox, or a command of the environment. -/
inductive Asker where
  | session (number trans : Nat)
  | mailbox (fn : Nat)
  | direct
  deriving DecidableEq, Repr

/-- How far a write has come (R594): it waits its turn, its journal append is in progress, its DICT message awaits acknowledgment, or the
segment modes it changes are being changed (R117). -/
inductive WriteStage where
  | queued | journal | mirror | effect
  deriving DecidableEq, Repr

/-- A dictionary write not yet answered (R593, R594): who asked, the entry, the value, what the environment gives its effect (bytes that a read of host memory
returns, and whether a flash write of a chunk succeeds), its stamp, the stream number of its DICT message, since when it has stood at its stage,
the abort code it will be answered with, and the sessions that end after the answer. -/
structure DictJob where
  asker : Asker
  key : Nat
  value : List Byte
  host : List Byte := []
  ok : Bool := true
  stamp : Nat := 0
  stage : WriteStage := .queued
  mirrorSeq : Nat := 0
  since : Nat := 0
  abort : Nat := 0
  ends : List Nat := []
  deriving DecidableEq, Repr

structure Nirnar where
  handshakes : List Handshake := []
  sessions : List Session := []
  nextNumber : Nat := 1
  /-- Untagged answers of the second in progress, and its start (R584). -/
  untagged : Nat := 0
  untaggedSince : Nat := 0
  /-- PRP: senders and sequence numbers last accepted, newest first, with their times and whether the second copy has come, and this
  device's own sequence number (R577). -/
  prpSeen : List (Nat × Nat × Nat × Bool) := []
  prpSeq : Nat := 0
  /-- Writes accepted and not yet answered, oldest first; the first is being performed (R593). -/
  jobs : List DictJob := []
  deriving DecidableEq, Repr

end Sys2Proof.Machine
end

