-- ==== Sys2Proof/Machine/State.lean ====
section
/-!
DEFINITION. The state of the RSN-8: everything the spec gives the machine, and the queue of commands that wait.
-/

namespace Sys2Proof.Machine

/-- Why the block stops with a fault. -/
inductive Fault where
  /-- Raised by no meaning: a command that is not well-formed (`wellFormed`) names a unit, port, function or entry that the device does not
  have, and nothing happens (log 11). Safe. -/
  | illFormed
  deriving DecidableEq, Repr

/-- Why a command has no meaning here. -/
inductive Refusal where
  /-- Raised by `exec` for a command that has no meaning yet, by its mnemonic: every one has its meaning, so by none. Safe. -/
  | notModelled (mnemonic : String)
  deriving DecidableEq, Repr

/-- One subscription of a Nirnar session (R596). -/
structure Subscription where
  session : Nat
  key : Nat
  minInt : Nat
  changes : Nat := 0
  lastChange : Nat := 0
  lastNotify : Nat := 0
  /-- The value last sent. -/
  last : List Byte := []
  deriving DecidableEq, Repr

structure State where
  /-- Time since power-on in ns: the model's own clock, which an idle step advances. -/
  now : Nat := 0
  /-- PTP time (R5, R494). -/
  ptp : Nat := 0
  /-- The device state (R625). -/
  dev : DevState := .reset
  /-- Scalar dictionary entries whose home is the dictionary, by key (R588 to R595); unlisted entries hold their default. -/
  dict : Map Nat := []
  /-- Byte-valued dictionary entries (STRING, OCTETS, DOMAIN), by key. -/
  blob : Map (List Byte) := []
  /-- What the signed configuration block gives for the entries whose default is "cfg" (R589, R625). -/
  cfg : Map Nat := []
  cfgBlob : Map (List Byte) := []
  /-- Subscriptions to dictionary entries (R596). -/
  subs : List Subscription := []
  /-- The model's own counter of free values drawn. -/
  free : Nat := 0
  /-- The eight memory stacks (R107 to R146, R203 to R249); a stack not listed is at its reset value. -/
  stackMap : Map Stack := []
  /-- Stockpot words: the west die's from key 0, the east die's from key 6,291,456. -/
  pots : Map Code288 := []
  /-- Walker local memory words, 8,192 per core (R364). -/
  locals : Map Code288 := []
  /-- Ladle buffer words, 8,192 per stack (R199). -/
  buffers : Map Code288 := []
  /-- Merge memory words, 32,768 per stack (R147, R203). -/
  merges : Map Code288 := []
  /-- The programmed engines, by the engine numbers of R656. -/
  engines : Map Engine := []
  /-- The stockpot counters of R211 and R214, and the whisk's stockpot lap (R248). -/
  potCorrected : Nat := 0
  potUncorrectable : Nat := 0
  /-- The stockpot whisk, by die: next 2 KiB part, when its lap began, and its last lap in ms (R224, R248). -/
  potWhiskPos : Map Nat := []
  potWhiskStart : Map Nat := []
  potWhiskLast : Map Nat := []
  /-- Entries of the field repair record not yet written to boot flash, oldest first, and the record itself (R241, R242). -/
  repairQueue : List (Nat × Nat) := []
  repairRecord : List Nat := []
  /-- The signatures of the record's 16 pages (R241). -/
  repairSigs : Map (List Byte) := []
  /-- The fault ring, summary, recovery windows and service cores (R655 to R684). -/
  faults : Faults := {}
  /-- Interrupt sources, targets and MSI-X tables (R563 to R566). -/
  irq : Irq := {}
  /-- Model slots (R472 to R480). -/
  slots : Map Slot := []
  /-- The SEQUENCER part of the running set, by engine 0 to 8 (R476, R709). -/
  seqImages : Map (List Byte) := []
  /-- The request table (R427 to R430). -/
  reqs : Map Req := []
  /-- The ladle slots of each stack and their sequences (R187 to R199). -/
  ladles : Map Ladles := []
  /-- The griddle: scale registers, register sets and operations (R37, R64 to R103). -/
  grid : Grid := {}
  /-- Saturations and non-finite conversions of the ladles in the step in progress, keyed slot·256 + layer (R46). -/
  stepSats : Map Nat := []
  stepNonfinite : Map Nat := []
  /-- Key-value pages in which a SCORE or AXPY met poison, until the next step boundary (R420). -/
  kvPoisoned : List Nat := []
  /-- The movers (R269 to R278). -/
  movers : Map Mover := []
  /-- Bursts of mover descriptors not yet complete, keyed poster·64 + target: movers 0 to 31, pools 32 to 34 (R339, R340). -/
  bursts : Map (List Byte) := []
  /-- The walker cores: threads, L1 and counters (R298 to R302, R363 to R390). -/
  walkers : Map Walker := []
  /-- Rings by their device-wide number (R462), and the ring from which an entry was last taken (R560). -/
  rings : Map Ring := []
  ringTurn : Nat := 0
  /-- The host link, windows and mailboxes (R544 to R575). -/
  host : HostLink := {}
  /-- The tenants (R462 to R468). -/
  tenants : Map Tenant := []
  /-- Contexts and their switches (R481 to R487). -/
  ctx : Contexts := {}
  /-- The serving controller: steps, commands, the prefix tree and page counts (R403 to R458). -/
  svc : Svc := {}
  /-- Ports, packets, operations and the collective queue (R508 to R527). -/
  fabric : Fabric := {}
  /-- The tandem pair (R528 to R541). -/
  tandem : Tandem := {}
  /-- Cadence and schedule (R488 to R504). -/
  cad : Cadence := {}
  /-- Time: quality, pulses and grandmaster role (R494 to R499). -/
  clock : Clock := {}
  /-- Arbiter, sensors, stages and trips (R605 to R621). -/
  power : Power := {}
  /-- Boot flash, which survives OFF: sets, boot record, configuration copies, journal, hours (R594, R630, R709 to R712). -/
  flash : Flash := {}
  /-- Self-test units and runs (R636 to R651). -/
  test : SelfTest := {}
  /-- Monitors, samples and probes (R685 to R697). -/
  health : Health := {}
  /-- Identity, SPDM, measurements and quotes (R699 to R708). -/
  sec : Security := {}
  /-- Pins, the TAP, I3C and PLDM (R727 to R750). -/
  pkg : Package := {}
  /-- Nirnar sessions, handshakes, mailboxes and the queue of writes (R577 to R600). -/
  nirnar : Nirnar := {}
  /-- What has left the device, oldest first: the model's own record. -/
  out : List Out := []
  /-- The commands that wait, first in, first out. -/
  pending : List Instr := []
  deriving DecidableEq, Repr

/-- The machine right after reset. (DESIGN CHOICE, log 6.) (DESIGN CHOICE, log 8.) -/
def State.reset : State := {}

end Sys2Proof.Machine
end

