-- ==== Sys2Proof/Machine/Ops.lean ====
section
/-!
DEFINITION. The named operations every family shares: dictionary entries and counters, free values, what leaves the
device, interrupt sources, and the fault record with its recovery window.
-/

namespace Sys2Proof.Machine

/-- The answer of a meaning. -/
abbrev Res := Host.Outcome State Fault Refusal

/-- A command to a unit: one that names none of the device's units reaches nothing. (DESIGN CHOICE, log 11.) -/
def onUnit (ok : Bool) (s : State) (r : Res) : Res := if ok then r else .next s

/-- `d` cut or filled with zero bytes to n bytes. -/
def padTo (n : Nat) (d : List Byte) : List Byte := d.take n ++ List.replicate (n - d.length) 0

/-! ## Field updates -/

def State.stack (s : State) (k : Nat) : Stack := mapGet {} s.stackMap k
def State.setStack (s : State) (k : Nat) (x : Stack) : State := { s with stackMap := mapSet {} s.stackMap k x }
def State.updStack (s : State) (k : Nat) (f : Stack → Stack) : State := s.setStack k (f (s.stack k))
def State.engine (s : State) (k : Nat) : Engine := mapGet {} s.engines k
def State.setEngine (s : State) (k : Nat) (x : Engine) : State := { s with engines := mapSet {} s.engines k x }
def State.updEngine (s : State) (k : Nat) (f : Engine → Engine) : State := s.setEngine k (f (s.engine k))
def State.slot (s : State) (k : Nat) : Slot := mapGet {} s.slots k
def State.setSlot (s : State) (k : Nat) (x : Slot) : State := { s with slots := mapSet {} s.slots k x }
def State.updSlot (s : State) (k : Nat) (f : Slot → Slot) : State := s.setSlot k (f (s.slot k))
def State.req (s : State) (k : Nat) : Req := mapGet {} s.reqs k
def State.setReq (s : State) (k : Nat) (x : Req) : State := { s with reqs := mapSet {} s.reqs k x }
def State.updReq (s : State) (k : Nat) (f : Req → Req) : State := s.setReq k (f (s.req k))

def State.ladle (s : State) (k : Nat) : Ladles := mapGet {} s.ladles k
def State.setLadle (s : State) (k : Nat) (x : Ladles) : State := { s with ladles := mapSet {} s.ladles k x }
def State.updLadle (s : State) (k : Nat) (f : Ladles → Ladles) : State := s.setLadle k (f (s.ladle k))

/-- `o` leaves the device. (DESIGN CHOICE, log 13.) -/
def emit (s : State) (o : Out) : State := { s with out := s.out ++ [o] }

/-- The next free value, of up to 64 bits, and the state whose counter has advanced past it. -/
def freeValue (s : State) : Nat × State := ((Config.freeWord s.free).toNat, { s with free := s.free + 1 })

/-! ## Dictionary entries -/

/-- A change of an entry reaches every subscription of it (R596). (DEDUCED, log 116.) -/
def noteChange (s : State) (key : Nat) : State :=
  if s.subs = [] then s
  else { s with subs := s.subs.map (fun u => if u.key = key then { u with changes := u.changes + 1, lastChange := s.ptp } else u) }

/-- The scalar value of an entry whose home is the dictionary. -/
def dget (s : State) (index sub : Nat) : Nat := mapGet (dictDefault (dk index sub)) s.dict (dk index sub)

/-- Setting a scalar entry. -/
def dset (s : State) (index sub v : Nat) : State :=
  let k := dk index sub
  noteChange { s with dict := mapSet (dictDefault k) s.dict k v } k

/-- Setting a scalar entry to a Boolean. -/
def dsetB (s : State) (index sub : Nat) (b : Bool) : State := dset s index sub (boolNat b)

/-- Whether a BOOL entry is TRUE. -/
def dbool (s : State) (index sub : Nat) : Bool := dget s index sub != 0

/-- Byte value of an entry. -/
def bget (s : State) (index sub : Nat) : List Byte := mapGet (dictBytesDefault index sub) s.blob (dk index sub)

def bset (s : State) (index sub : Nat) (v : List Byte) : State :=
  noteChange { s with blob := mapSet (dictBytesDefault index sub) s.blob (dk index sub) v } (dk index sub)

/-- A STORED entry takes a value that the device itself gives it: in the dictionary and in the journal (R594). -/
def dsetStored (s : State) (index sub v : Nat) : State :=
  let s1 := dset s index sub v
  { s1 with flash := { s1.flash with journal := mapInsert s1.flash.journal (dk index sub) v } }

def bsetStored (s : State) (index sub : Nat) (v : List Byte) : State :=
  let s1 := bset s index sub v
  { s1 with flash := { s1.flash with journalBytes := mapInsert s1.flash.journalBytes (dk index sub) v } }

/-- The largest value of a scalar type (R589). -/
def typeMax (ty : Nat) : Nat := 2 ^ (8 * typeBytes ty) - 1

/-- A counter rises by `n` and saturates at its type's largest value (R47). -/
def bump (s : State) (index sub n : Nat) : State :=
  let ty := match dictRow index sub with
    | some r => r.ty
    | none => 5
  dset s index sub (min (dget s index sub + n) (typeMax ty))

/-- A register counter of 64 bits (R47). -/
def sat64 (v n : Nat) : Nat := min (v + n) (2 ^ 64 - 1)

/-! ## Measurements (R702, R703) -/

/-- The value of a measurement block before anything is measured: 64 zero bytes. -/
def zeroBlock : List Byte := List.replicate 64 0

/-- A measurement block takes a value: a change of one of blocks 1 to 33 is an event, which extends MCHAIN and the log of the latest 256
records. -/
def measure (s : State) (block : Nat) (value : List Byte) : State :=
  let c := s.sec
  if mapGet zeroBlock c.blocks block = value then s
  else
    { s with sec := { c with
      blocks := mapSet zeroBlock c.blocks block value
      mchain := Config.sha512 (c.mchain ++ [BitVec.ofNat 8 block] ++ value)
      mlog := lastN 256 (c.mlog ++ [(s.ptp, block, value)]) } }

/-! ## Interrupt sources (R563 to R566) -/

/-- The tenant whose interrupt range holds a source: IrqFirst is .05 and IrqCount .06 of 0x4000 + 0x40·t (R462). -/
def ownerOfSource (s : State) (n : Nat) : Option Nat :=
  (List.range 64).find? (fun t =>
    let f := dget s (0x4000 + 0x40 * t) 5
    decide (f ≤ n) && decide (n < f + dget s (0x4000 + 0x40 * t) 6))

/-- MSI-X table size of a function (R547). -/
def msixSize (fn : Nat) : Nat := if fn = 0 then 2048 else 256

/-- A message to a vector of a function: sent, or held in the pending bit array while the vector is masked (R566). -/
def sendMsix (s : State) (fn vec : Nat) : State :=
  let k := fn * 2048 + vec
  if mapGet false s.irq.msiUnmasked k then
    emit s (.msix fn (mapGet 0 s.irq.msiAddr k) (mapGet 0 s.irq.msiData k))
  else { s with irq := { s.irq with pba := mapSet false s.irq.pba k true } }

/-- The message of a source that has just become pending (R564, R573). -/
def deliverSource (s : State) (n : Nat) : State :=
  let t := mapGet 0 s.irq.target n
  let target := t % 65536
  match t / 2 ^ 30 % 4 with
  | 1 => match ownerOfSource s n with
    | some fn => if target < msixSize fn then sendMsix s fn target else s
    | none => s
  | 2 => emit s (.coreMessage target n)
  | 3 => if target < 16 then bump s 0x1110 (target + 1) 1 else s
  | _ => s

/-- An event raises source n; a source that is already pending delivers nothing (R564). -/
def raiseSource (s : State) (n : Nat) : State :=
  if mapGet false s.irq.pend n then s
  else deliverSource { s with irq := { s.irq with pend := mapSet false s.irq.pend n true } } n

/-- An event raises local source j of tenant t; one beyond the tenant's IrqCount is never set (R563). (DEDUCED, log 125.) -/
def raiseLocal (s : State) (t j : Nat) : State :=
  if j < dget s (0x4000 + 0x40 * t) 6 then raiseSource s (dget s (0x4000 + 0x40 * t) 5 + j) else s

/-! ## The fault summary and the tenants' fault words (R663, R668) -/

/-- Setting bits of the fault summary: each bit that rises sets source 0 of tenant 0 (R663). -/
def setSummary (s : State) (bits : Nat) : State :=
  let new := s.faults.summary ||| bits
  if new = s.faults.summary then s
  else raiseLocal (noteChange { s with faults := { s.faults with summary := new } } (dk 0x8000 1)) 0 0

/-- CMD_STATE, bit 0: a command legal in itself but not in state, or a write refused by state (R663, R680). (DEDUCED, log 12.) -/
def cmdState (s : State) : State := setSummary s 1

/-- Setting bits of a tenant's fault word: each bit that rises sets the tenant's local source 0 (R668). -/
def setTenantFault (s : State) (t bits : Nat) : State :=
  if t < 64 then
    let old := mapGet 0 s.faults.tenantWord t
    let new := old ||| bits
    if new = old then s
    else raiseLocal (noteChange { s with faults := { s.faults with tenantWord := mapSet 0 s.faults.tenantWord t new } }
      (dk 0x8003 (t + 1))) t 0
  else s

/-! ## Classes, domains and codes (R655, R656, R683) -/

def clsCorrected : Nat := 0
def clsContained : Nat := 1
def clsTenant : Nat := 2
def clsDevice : Nat := 3
def clsFatal : Nat := 4

def kindDevice : Nat := 0
def kindRequest : Nat := 1
def kindSlot : Nat := 2
def kindTenant : Nat := 3
def kindEngine : Nat := 4
def kindStack : Nat := 5
def kindPort : Nat := 6
def kindService : Nat := 7
def kindPower : Nat := 8

/-- The summary bits a code sets (R683, column "Bit"). -/
def codeBits (code : Nat) : Nat :=
  if code = 0x210 ∨ code = 0x216 ∨ code = 0x217 ∨ code = 0x218 then 2 ^ 7
  else if code = 0x240 ∨ code = 0x241 ∨ code = 0x302 ∨ code = 0x303 ∨ code = 0x304 then 2 ^ 5
  else if code = 0x252 ∨ code = 0x253 ∨ code = 0x254 then 2 ^ 10
  else if 0x260 ≤ code ∧ code ≤ 0x266 then 2 ^ 17
  else if code = 0x270 then 2 ^ 15
  else if 0x271 ≤ code ∧ code ≤ 0x275 then 2 ^ 16
  else if code = 0x320 then 2 ^ 4
  else if code = 0x327 then 2 ^ 6
  else if 0x324 ≤ code ∧ code ≤ 0x328 then 2 ^ 2
  else if code = 0x401 ∨ code = 0x402 ∨ code = 0x405 then 2 ^ 1
  else if code = 0x506 then 2 ^ 11
  else if code = 0x510 ∨ code = 0x511 ∨ code = 0x512 ∨ code = 0x515 then 2 ^ 12
  else if code = 0x701 ∨ code = 0x704 ∨ code = 0x705 then 2 ^ 13
  else if code = 0x702 ∨ code = 0x703 ∨ code = 0x706 then 2 ^ 14
  else if 0x601 ≤ code ∧ code ≤ 0x6FF then 2 ^ 18
  else 0

/-- Every summary bit of an entry: its code's, FATAL for class FATAL, TENANT for class TENANT in domain TENANT (R663). -/
def entryBits (e : FaultEntry) : Nat :=
  codeBits e.code ||| (if e.cls = clsFatal then 2 ^ 20 else 0) |||
    (if e.cls = clsTenant ∧ e.kind = kindTenant then 2 ^ 9 else 0)

/-- The bits of a tenant's fault word that an entry sets (R668, rows 1 to 3). -/
def tenantBits (e : FaultEntry) : Nat :=
  (if e.code = 0x320 then 2 else 0) ||| (if e.code = 0x217 ∨ e.code = 0x218 then 4 else 0) |||
    (if e.code = 0x253 ∨ e.code = 0x252 then 8 else 0)

/-- Appending to the fault ring of 512 entries: the oldest gives way, and RING_LOST is set when it was unread (R666). -/
def ringPush (s : State) (e : FaultEntry) : State :=
  let f := s.faults
  if f.ring.length < 512 then { s with faults := { f with ring := f.ring ++ [e] } }
  else
    let s1 : State := { s with faults := { f with ring := f.ring.drop 1 ++ [e] } }
    match f.ring with
    | o :: _ => if f.readUpTo < o.seq then setSummary s1 (2 ^ 19) else s1
    | [] => s1

/-- Writing the entry itself: the ring, its SEQ, the summary bits and the tenant's fault word. -/
def recordEntry (s : State) (e : FaultEntry) : State :=
  let s1 : State := { s with faults := { s.faults with seq := s.faults.seq + 1 } }
  let s2 := ringPush s1 { e with seq := s.faults.seq + 1, time := s.ptp }
  let s3 := setSummary s2 (entryBits e)
  noteChange (setTenantFault s3 e.tenant (tenantBits e)) (dk 0x8001 0)

/-! ## Recovery (R669 to R675) -/

/-- Whether R669 names a recovery for a class in a domain; a device recovery serves every domain but SERVICE and POWER. -/
def hasRecovery (kind index cls : Nat) : Bool :=
  if cls = clsFatal then true
  else if cls = clsDevice then kind != kindPower
  else if cls = clsTenant then kind == kindRequest || kind == kindSlot || kind == kindTenant || kind == kindPort
  else if cls = clsContained then
    kind == kindSlot || (kind == kindEngine && decide (64 ≤ index) && decide (index < 128)) || kind == kindService
  else false

/-- The next higher class that has a recovery (R669, last paragraph). -/
def raiseClass (kind index cls : Nat) : Nat :=
  match [2, 3, 4].find? (fun c => decide (cls < c) && hasRecovery kind index c) with
  | some c => c
  | none => clsFatal

/-- Whether a request uses a slot, as its model or as its draft model. -/
def Req.uses (r : Req) (m : Nat) : Bool := decide (r.slot = m) || (r.draft && decide (r.dslot = m))

/-- STALLED of every request follows the states of its slots (R427, R480). -/
def markStalled (s : State) : State :=
  let bad (m : Nat) : Bool := (s.slot m).state == .restoring
  { s with reqs := s.reqs.map (fun e =>
      if e.2.state = .free then e else (e.1, { e.2 with stalled := bad e.2.slot || (e.2.draft && bad e.2.dslot) })) }

/-- The steps in progress that use a slot will be discarded (R434, R678). -/
def discardSteps (s : State) (m : Nat) : State :=
  { s with svc := { s.svc with steps := s.svc.steps.map (fun e =>
      if e.1 = m ∨ e.2.batch.any (fun b => (s.req b.req).uses m) = true then (e.1, { e.2 with discard := true }) else e) } }

/-- Tenants whose bit is set in a slot's tenant mask get bit 5 of their fault word (R668). -/
def slotTenantFault (s : State) (m : Nat) : State :=
  let mask := dget s (0x5110 + m) 5
  (List.range 64).foldl (fun s t => if bitOf mask t then setTenantFault s t 32 else s) s

/-- A slot enters RESTORING (R677). -/
def slotRestoring (s : State) (m : Nat) : State :=
  let sl := s.slot m
  if sl.state = .resident then
    slotTenantFault (discardSteps (markStalled (noteChange (s.setSlot m { sl with state := .restoring, restoreSince := s.now })
      (dk (0x5110 + m) 1))) m) m
  else s

/-- A slot goes OFFLINE (R669, R677, R678): its requests fail with
WEIGHT_POISON at the slot's next boundary. -/
def slotOffline (s : State) (m : Nat) : State :=
  let sl := s.slot m
  if sl.state = .empty ∨ sl.state = .offline then s
  else slotTenantFault (discardSteps (markStalled (noteChange
    (s.setSlot m { sl with state := .offline, restore := [], lastStatus := 0x302 }) (dk (0x5110 + m) 1))) m) m

/-- The recovery of R669 begins: what the firmware does at once. Tenant resets, core restarts, moves of the service and
device recovery are carried out by their own commands, which the open window calls for. (DEDUCED, log 108.) -/
def beginRecovery (s : State) (e : FaultEntry) (cls : Nat) : State :=
  if cls = clsFatal then { s with faults := { s.faults with fatal := some e } }
  else
    let w : Window := { cls := cls, kind := e.kind, index := e.index, code := e.code, since := s.now }
    let s1 : State := { s with faults := { s.faults with window := some w } }
    if e.kind = kindSlot ∧ cls = clsContained then slotRestoring s1 e.index
    else if e.kind = kindSlot ∧ cls = clsTenant then slotOffline s e.index
    else s1

/-- RECOVERY_RAISED records the class reached, FLAGS.RAISED, and the previous class and raising code (R665, R674). -/
def raisedEntry (e : FaultEntry) (old new : Nat) : FaultEntry :=
  { time := 0, seq := 0, code := 0x271, cls := new, flags := 2, kind := e.kind, tenant := e.tenant, index := e.index,
    detail := old * 65536 + e.code }

/-- A fault of class CONTAINED or above, off the recovery path, against the recovery window (R674). (DEDUCED, log 107.) -/
def windowFault (s : State) (e : FaultEntry) : State :=
  match s.faults.window with
  | none =>
    let s1 := recordEntry s e
    if hasRecovery e.kind e.index e.cls then beginRecovery s1 e e.cls else s1
  | some w =>
    if w.kind = e.kind ∧ w.index = e.index then
      let cls := if w.cls = clsDevice then clsFatal else max (raiseClass e.kind e.index w.cls) e.cls
      let s1 := recordEntry (recordEntry s e) (raisedEntry e w.cls cls)
      beginRecovery s1 e cls
    else if e.cls ≤ w.cls then
      if s.faults.queue.length < 256 then
        let e' : FaultEntry := { e with flags := e.flags ||| 1 }
        let s1 := recordEntry s e'
        let s2 := if e.kind = kindSlot ∧ e.cls = clsContained then slotRestoring s1 e.index else s1
        { s2 with faults := { s2.faults with queue := s2.faults.queue ++ [e'] } }
      else
        let s1 := recordEntry s e
        let p : FaultEntry := { e with code := 0x274, cls := clsFatal, flags := 0, detail := 0 }
        beginRecovery (recordEntry s1 p) p clsFatal
    else
      let s1 := recordEntry s e
      if hasRecovery e.kind e.index e.cls then
        beginRecovery { s1 with faults := { s1.faults with interrupted := w :: s1.faults.interrupted } } e e.cls
      else s1

/-- Recording a fault: the entry, and above class CORRECTED its place against the recovery window (R657, R674). -/
def recordFault (s : State) (e : FaultEntry) : State :=
  if e.cls = clsCorrected then recordEntry s e
  else if e.cls = clsFatal then
    beginRecovery (recordEntry s e) e clsFatal
  else windowFault s e

/-- A fault entry of a code, class and domain; 0xFF names no tenant (R664). -/
def faultOf (code cls kind index tenant detail : Nat) : FaultEntry :=
  { time := 0, seq := 0, code := code, cls := cls, kind := kind, tenant := tenant, index := index, detail := detail }

/-- A fault on the recovery path while a window is open: FATAL, RECOVERY_PATH with FLAGS.PATH (R664, R674, R675). -/
def recoveryPathFault (s : State) (kind index : Nat) : State :=
  let e : FaultEntry := { faultOf 0x272 clsFatal kind index 0xFF 0 with flags := 4 }
  beginRecovery (recordEntry s e) e clsFatal

/-- DETAIL of the memory codes: the reader and the device address (R665). -/
def memDetail (reader addr : Nat) : Nat := reader % 256 * 2 ^ 52 + addr % 2 ^ 52

end Sys2Proof.Machine
end

