-- ==== Sys2Proof/Machine/Memory.lean ====
section
/-!
DEFINITION. Homes, loads and stores: the address map (R109 to R114, R281, R753), the reading and writing of words
(R207 to R220), sparing (R229 to R233) and the choice of a donor (R234 to R238).
-/

namespace Sys2Proof.Machine

/-! ## The stacks' address map -/

/-- C, the number of usable channels. -/
def chanCount (x : Stack) : Nat := ((List.range 32).filter (bitOf x.channels)).length

/-- N, the length of the usable bank list (R114). -/
def bankCount (x : Stack) : Nat := 64 * chanCount x

/-- P_s, the populated segments (R114). -/
def popSegs (x : Stack) : Nat := 5 * chanCount x / 2

/-- The usable channels in ascending order. -/
def chanList (x : Stack) : List Nat := (List.range 32).filter (bitOf x.channels)

/-- L[i]: the i-th usable bank (R113). -/
def bankOfIndex (x : Stack) (i : Nat) : Nat := 64 * (chanList x).getD (i / 64) 0 + i % 64

/-- The place of a physical bank in the usable bank list. -/
def indexOfBank (x : Stack) (p : Nat) : Option Nat :=
  (chanList x).findIdx? (· == p / 64) |>.map (fun c => 64 * c + p % 64)

/-- Slot, row within the slot and byte of a segment offset in a mode (R112): (SLOT, ROW, BYTE). -/
def splitSegment (ladle : Bool) (o : Nat) : Nat × Nat × Nat :=
  if ladle then (bitsOf o 29 25 * 64 + bitsOf o 24 19, bitsOf o 18 11, bitsOf o 10 0)
  else (bitsOf o 15 11 * 64 + bitsOf o 21 16, bitsOf o 29 22, bitsOf o 10 0)

/-- Segment offset of byte 0 of a slot's row in a mode (R112). -/
def joinSegment (ladle : Bool) (slot row : Nat) : Nat :=
  if ladle then slot / 64 * 2 ^ 25 + slot % 64 * 2 ^ 19 + row * 2 ^ 11
  else row * 2 ^ 22 + slot % 64 * 2 ^ 16 + slot / 64 * 2 ^ 11

/-- Physical bank, physical row and byte of a stack offset (R113), with no regard to the remap table. -/
def physOf (x : Stack) (off : Nat) : Nat × Nat × Nat :=
  let seg := off / 2 ^ 30
  let r := splitSegment (bitOf x.segMode seg) (off % 2 ^ 30)
  let q := 2048 * seg + r.1
  (bankOfIndex x (q % bankCount x), 256 * (q / bankCount x) + r.2.1, r.2.2)

/-- Stack offset of byte 0 of a physical row; none for a row of a retired channel or beyond the populated segments. -/
def offsetOfRow (x : Stack) (p row : Nat) : Option Nat :=
  match indexOfBank x p with
  | none => none
  | some i =>
    let q := row / 256 * bankCount x + i
    let seg := q / 2048
    if seg < popSegs x then some (seg * 2 ^ 30 + joinSegment (bitOf x.segMode seg) (q % 2048) (row % 256)) else none

/-- 2 MiB. -/
def frameBytes : Nat := 2 ^ 21

/-- Whether a frame is a donor: its addresses answer FRAME_RETIRED (R236). -/
def isDonor (x : Stack) (f : Nat) : Bool := x.remap.any (fun e => e.2.1 == f)

/-- The frame whose storage serves frame f: the latest entry naming it, or itself (R234). -/
def servedBy (x : Stack) (f : Nat) : Nat :=
  match x.remap.reverse.find? (fun e => e.1 == f) with
  | some e => e.2.1
  | none => f

/-- The frame a donor's storage serves: the entry naming it, if it is the latest of its F. -/
def servesFrame (x : Stack) (d : Nat) : Option Nat :=
  match x.remap.find? (fun e => e.2.1 == d) with
  | some e => if servedBy x e.1 = d then some e.1 else none
  | none => none

/-! ## Homes (R281, R753) -/

/-- Where the word at an address lives. -/
inductive Home where
  | cell (st bank row word : Nat)
  | hole (st : Nat)
  | donor (st : Nat)
  | pot (i : Nat)
  | localMem (i : Nat)
  | buffer (i : Nat)
  | imem (eng i : Nat)
  | control (off : Nat)
  | nowhere
  deriving DecidableEq, Repr

def potWest : Nat := 0x10000000000
def potEast : Nat := 0x10010000000
def potBytes : Nat := 192 * 2 ^ 20
def localBase : Nat := 0x10100000000
def ecsBase : Nat := 0x10200000000

/-- The engine whose block holds an engine-control offset, with the offset in the block (R314). -/
def blockOf (off : Nat) : Option (Nat × Nat) :=
  if off < 0x100000 then some (0, off)
  else if off < 0x900000 then some (1 + (off - 0x100000) / 0x100000, (off - 0x100000) % 0x100000)
  else if 0x1000000 ≤ off ∧ off < 0x1200000 then some (32 + (off - 0x1000000) / 0x10000, (off - 0x1000000) % 0x10000)
  else if 0x2000000 ≤ off ∧ off < 0x6000000 then some (64 + (off - 0x2000000) / 0x100000, (off - 0x2000000) % 0x100000)
  else none

/-- Bank size in bytes of a programmed engine (R313). -/
def bankBytes (eng : Nat) : Nat := if eng = 0 then 0x10000 else 0x8000

/-- The home of the 32 B word that holds byte `a` (R109, R199, R281, R314, R315). (DEDUCED, log 127.) -/
def homeOf (s : State) (a : Nat) : Home :=
  if a < potWest then
    let st := a / 2 ^ 37
    let off := a % 2 ^ 37
    let x := s.stack st
    if popSegs x ≤ off / 2 ^ 30 then .hole st
    else
      let f := off / frameBytes
      if isDonor x f then .donor st
      else
        let place := physOf x (servedBy x f * frameBytes + off % frameBytes)
        .cell st place.1 place.2.1 (place.2.2 / 32)
  else if a < potWest + potBytes then .pot ((a - potWest) / 32)
  else if potEast ≤ a ∧ a < potEast + potBytes then .pot (potBytes / 32 + (a - potEast) / 32)
  else if localBase ≤ a ∧ a < localBase + 64 * 0x40000 then .localMem ((a - localBase) / 32)
  else if ecsBase ≤ a ∧ a < ecsBase + 2 ^ 32 then
    match blockOf (a - ecsBase) with
    | some (e, o) =>
      if 1 ≤ e ∧ e ≤ 8 ∧ 0x40000 ≤ o ∧ o < 0x80000 then .buffer ((e - 1) * 8192 + (o - 0x40000) / 32)
      else if (e = 0 ∨ (1 ≤ e ∧ e ≤ 8) ∨ 64 ≤ e) ∧ 0x80000 ≤ o ∧ o < 0x80000 + 2 * bankBytes e then
        .imem e (if o < 0x80000 + bankBytes e then (o - 0x80000) / 32 else 2048 + (o - 0x80000 - bankBytes e) / 32)
      else .control (a - ecsBase)
    | none => .control (a - ecsBase)
  else .nowhere

/-! ## Rows, repairs and stored codewords -/

def rowKey (p row : Nat) : Nat := p * 20544 + row
def cellKey (p row w : Nat) : Nat := rowKey p row * 64 + w

/-- The row entries of a bank that apply to a row: valid, spare usable, lowest number first (R136, R137). (DEDUCED, log 15.) -/
def rowSpare (x : Stack) (p row : Nat) : Option Nat :=
  (List.range 64).find? (fun i =>
    let e := mapGet 0 x.rowRepair (p * 64 + i)
    bitOf e 31 && !(bitOf e 29) && e % 2 ^ 15 == row)

/-- The column groups in use for a section of a bank, one per symbol, the lowest-numbered where two name it: (group, symbol) (R136, R137).
(DEDUCED, log 15.) -/
def colSpares (x : Stack) (p section_ : Nat) : List (Nat × Nat) :=
  ((List.range 4).filterMap (fun i =>
    let e := mapGet 0 x.colRepair (p * 4 + i)
    if bitOf e 31 && !(bitOf e 29) && bitsOf e 9 6 == section_ then some (i, e % 64) else none)).foldl
      (fun acc gs => if acc.any (fun h => h.2 == gs.2) then acc else acc ++ [gs]) []

/-- The row that storage really uses: the spare under SPAREACC (R140), the spare row of a repair, or the row. -/
def storedRow (x : Stack) (p row : Nat) : Nat :=
  if x.rprSpareAcc && p == x.rprBank && row == 0 then 20480 + x.rprEntry % 64
  else match rowSpare x p row with
    | some i => 20480 + i
    | none => row

def colKey (p g row w : Nat) : Nat := ((p * 4 + g) * 20480 + row) * 64 + w

/-- The symbols of the column spares put in place of the replaced ones. -/
def putSyms (x : Stack) (p row w : Nat) : List (Nat × Nat) → Code288 → Code288
  | [], c => c
  | (g, sym) :: rest, c =>
    let c' := putSyms x p row w rest c
    symXor c' sym (symAt c' sym ^^^ mapGet 0 x.colCells (colKey p g row w))

/-- The codeword a read of a bank's row and word meets. -/
def rawRead (x : Stack) (p row w : Nat) : Code288 :=
  let r := storedRow x p row
  let c := mapGet 0 x.cells (cellKey p r w)
  if r < 20480 then putSyms x p r w (colSpares x p (r / 2048)) c else c

/-- Storing a codeword, in the column spares' symbols too. -/
def rawWrite (x : Stack) (p row w : Nat) (c : Code288) : Stack :=
  let r := storedRow x p row
  let x1 : Stack := { x with cells := mapSet 0 x.cells (cellKey p r w) c }
  if r < 20480 then
    (colSpares x p (r / 2048)).foldl (fun (y : Stack) gs =>
      { y with colCells := mapSet 0 y.colCells (colKey p gs.1 r w) (symAt c gs.2) }) x1
  else x1

def rowIsValid (x : Stack) (p row : Nat) : Bool := mapGet false x.rowValid (rowKey p row)

/-- The first write to an unwritten row puts the encoded zero word, which is 0, into its words and sets the valid bit
(R220); the caller then writes its own words. (DESIGN CHOICE, log 16.) -/
def openRow (x : Stack) (p row : Nat) : Stack :=
  if rowIsValid x p row then x
  else
    let x1 := (List.range 64).foldl (fun y w => rawWrite y p row w 0) x
    { x1 with rowValid := mapSet false x1.rowValid (rowKey p row) true }

/-- Clearing a valid bit discards the row's contents (R219, R221). -/
def clearRow (x : Stack) (p row : Nat) : Stack := { x with rowValid := mapSet false x.rowValid (rowKey p row) false }

/-- Whether a physical row lies in the storage of a frame in TEST (R243). -/
def inTest (x : Stack) (p row : Nat) : Bool :=
  match offsetOfRow x p row with
  | some o => x.testFrames.contains (o / frameBytes)
  | none => false

/-! ## Ranges of slots, tenants and the wide area (R235, R469, R477) -/

/-- Whether two ranges of addresses share a byte. -/
def overlaps (a n b m : Nat) : Bool := decide (0 < n) && decide (0 < m) && decide (a < b + m) && decide (b < a + n)

/-- An aperture's fields: rights, first address, bytes (R469). -/
def apertureOf (s : State) (t i : Nat) : Nat × Nat × Nat :=
  let v := mapGet 0 s.dict (dk (0x4001 + 0x40 * t) (i + 1))
  (v / 2 ^ 62 % 4, bitsOf v 42 12 * frameBytes, (bitsOf v 61 43 + 1) * frameBytes)

/-- The apertures of a tenant that are in use: (writable, base, bytes). -/
def apertures (s : State) (t : Nat) : List (Bool × Nat × Nat) :=
  (List.range 64).filterMap (fun i =>
    let (r, b, n) := apertureOf s t i
    if r = 1 then some (false, b, n) else if r = 3 then some (true, b, n) else none)

/-- Whether a tenant maps a byte of a range. -/
def tenantMaps (s : State) (t a n : Nat) : Bool := (apertures s t).any (fun e => overlaps a n e.2.1 e.2.2)

/-- Whether any tenant maps a byte of a range. -/
def mappedByTenant (s : State) (a n : Nat) : Bool := (List.range 64).any (fun t => tenantMaps s t a n)

/-- Whether any tenant other than tenant 0 maps a byte of a range (R116). -/
def mappedByOther (s : State) (a n : Nat) : Bool := (List.range 63).any (fun t => tenantMaps s (t + 1) a n)

/-- The regions of the slots that are not EMPTY, as (slot, address, bytes) (R477). -/
def slotRegions (s : State) : List (Nat × Nat × Nat) :=
  (List.range 16).flatMap (fun m =>
    let sl := s.slot m
    if sl.state = .empty then [] else sl.regions.map (fun r => (m, r.stack * 2 ^ 37 + r.offset, r.frames * frameBytes)))

/-- The ranges of the model slots: their regions and the slot area (R477). -/
def inSlotRange (s : State) (a n : Nat) : Bool :=
  (slotRegions s).any (fun r => overlaps a n r.2.1 r.2.2) || overlaps a n (dget s 0x5100 1) (dget s 0x5100 2)

/-- The slot whose region holds an address (R676). -/
def weightSlot (s : State) (a : Nat) : Option Nat :=
  ((slotRegions s).find? (fun r => overlaps a 1 r.2.1 r.2.2)).map (·.1)

/-- The wide area of 0x2100.04 and .05. -/
def inWideArea (s : State) (a n : Nat) : Bool :=
  dget s 0x2100 4 != 0 && overlaps a n (dget s 0x2100 4) (dget s 0x2100 5)

/-- Whether frame f of stack st is free to be a donor or a TEST frame, the bar on TEST aside (R235, R243). -/
def frameFree (s : State) (st f : Nat) : Bool :=
  let x := s.stack st
  let a := st * 2 ^ 37 + f * frameBytes
  decide (f < 512 * popSegs x) && !(x.remap.any (fun e => e.1 == f)) && !(isDonor x f) && !(x.awaiting.contains f) &&
  !(x.migrating.any (fun e => e.1 == f || e.2 == f)) &&
  !(mappedByTenant s a frameBytes) && !(inSlotRange s a frameBytes) && !(inWideArea s a frameBytes)

/-- Whether a frame is in TEST or on its way into it. -/
def inTestBar (x : Stack) (f : Nat) : Bool := x.testFrames.contains f || x.testEntering.contains f

/-- The donor for frame F: the highest-numbered free frame of the same mode, other than F, that is not in TEST (R235).
(DEDUCED, log 30.) -/
def donorSearch (s : State) (st F : Nat) (mode : Bool) : Nat → Option Nat
  | 0 => none
  | f + 1 =>
    let x := s.stack st
    if f != F && bitOf x.segMode (f / 512) == mode && !(inTestBar x f) && frameFree s st f then some f
    else donorSearch s st F mode f

def chooseDonor (s : State) (st F : Nat) : Option Nat :=
  let x := s.stack st
  donorSearch s st F (bitOf x.segMode (F / 512)) (512 * popSegs x)

/-- Whether a remap table has no entry left for one more retirement, those in progress counted (R238). -/
def remapFull (x : Stack) : Bool := decide (4096 ≤ x.remap.length + x.migrating.length)

/-! ## Sparing and the start of retirement -/

/-- A field repair entry waits to be written (R241, R242): the entry and the time of the event. -/
def queueRepair (s : State) (e : Nat) : State := { s with repairQueue := s.repairQueue ++ [(e, s.now)] }

def recordStack (s : State) (code st reader addr : Nat) : State :=
  recordFault s (faultOf code clsCorrected kindStack st 0xFF (memDetail reader addr))

/-- A word found UNCORRECTABLE outside the ranges of the model slots: the poison word takes its place, and it is counted and recorded (R211). -/
def poisonCell (s : State) (st p row w reader addr tenant : Nat) : State :=
  let s1 := bump (bump (s.setStack st (rawWrite (s.stack st) p row w poisonWord)) (0x2220 + st) 2 1) (0x2220 + st) 3 1
  recordFault s1 (faultOf 0x320 clsContained kindStack st tenant (memDetail reader addr))

/-- Device address of a word of a physical row. -/
def addrOfWord (x : Stack) (st p row w : Nat) : Nat :=
  match offsetOfRow x p row with
  | some o =>
    let f := o / frameBytes
    st * 2 ^ 37 + (servesFrame x f).getD f * frameBytes + o % frameBytes + 32 * w
  | none => st * 2 ^ 37

/-- The UNCORRECTABLE words of a failing row that stays in place are poisoned (R237, R238). -/
def poisonRow (s : State) (st p row reader : Nat) : State :=
  (List.range 64).foldl (fun s w =>
    if rowIsValid (s.stack st) p row && (decode288 (rawRead (s.stack st) p row w)).cls == .uncorrectable then
      poisonCell s st p row w reader (addrOfWord (s.stack st) st p row w) 0xFF
    else s) s

/-- The accesses under way whose address meets `p` count as issued before what begins now: they complete, and later ones wait (R117,
R236). -/
def markEarly (s : State) (p : Nat → Nat → Bool) : State :=
  { s with
    walkers := s.walkers.map (fun w => (w.1, { w.2 with
      tracker := w.2.tracker.map (fun t => if p t.addr t.len then { t with early := true } else t) }))
    stackMap := s.stackMap.map (fun x => (x.1, { x.2 with
      heldAccess := x.2.heldAccess.map (fun h => if p h.addr h.len then { h with early := true } else h) })) }

/-- Whether an access issued before its address began to wait is still under way. -/
def earlyLeft (s : State) (p : Nat → Nat → Bool) : Bool :=
  s.walkers.any (fun w => w.2.tracker.any (fun t => t.early && p t.addr t.len)) ||
    s.stackMap.any (fun x => x.2.heldAccess.any (fun h => h.early && p h.addr h.len))

/-- Whether a range meets one of two frames of a stack. -/
def inFrames (st F D : Nat) (a n : Nat) : Bool :=
  overlaps a n (st * 2 ^ 37 + F * frameBytes) frameBytes || overlaps a n (st * 2 ^ 37 + D * frameBytes) frameBytes

/-- The migration of frame F to donor D begins: accesses issued to them so far complete, later ones wait (R236 step 1). -/
def beginMigration (s : State) (st F D : Nat) : State :=
  (markEarly s (inFrames st F D)).updStack st (fun x => { x with migrating := x.migrating ++ [(F, D)] })

/-- Retirement of the frame that holds a failing row starts, or waits, or cannot happen (R233, R234, R237, R238). -/
def startRetire (s : State) (st F : Nat) : State :=
  let x := s.stack st
  if x.migrating.any (fun e => e.1 == F) || x.awaiting.contains F then s
  else if remapFull x then s.setStack st { x with retireFull := true }
  else match chooseDonor s st F with
    | some d => beginMigration s st F d
    | none =>
      let s1 := s.setStack st { x with awaiting := x.awaiting ++ [F] }
      recordStack (dset s1 (0x2220 + st) 0xA (min (dget s1 (0x2220 + st) 0xA + 1) 0xFFFF)) 0x326 st 0xFF
        (st * 2 ^ 37 + F * frameBytes)

/-- A row with a hard fault for which no spare is free (R233). A row whose frame cannot migrate now has its uncorrectable words poisoned. -/
def exhaustSpares (s : State) (st p row reader : Nat) : State :=
  let x := s.stack st
  let s1 := setSummary (s.setStack st { x with spareExhausted := true }) 8
  match offsetOfRow x p row with
  | some o =>
    let f := o / frameBytes
    let F := (servesFrame x f).getD f
    let s2 := startRetire s1 st F
    if (s2.stack st).migrating.any (fun e => e.1 == F) then s2 else poisonRow s2 st p row reader
  | none => s1

/-- The codeword that a copy of a word stores: corrected where it can be, poison where it cannot (R230, R236). -/
def copiedWord (c : Code288) : Code288 :=
  let d := decode288 c
  match d.cls with
  | .valid => d.code
  | .corrected => d.code
  | _ => poisonWord

/-- Copying a row, as `src` reads it, into a spare row (R230). -/
def copyRowTo (src x : Stack) (p row spare : Nat) : Stack :=
  (List.range 64).foldl (fun (y : Stack) w =>
    { y with cells := mapSet 0 y.cells (cellKey p (20480 + spare) w) (copiedWord (rawRead src p row w)) }) x

/-- Poison words among those a copy of a row stores (R248). -/
def poisonCopied (src : Stack) (p row : Nat) : Nat :=
  ((List.range 64).filter (fun w => copiedWord (rawRead src p row w) == poisonWord)).length

/-- Whether a repair entry's spare is in the free pool: neither VALID nor SPAREBAD (R136, R232). -/
def spareFree (e : Nat) : Bool := !(bitOf e 31) && !(bitOf e 29)

/-- The lowest-numbered free spare row of a bank (R230). -/
def freeSpareRow (x : Stack) (p : Nat) : Option Nat := (List.range 64).find? (fun i => spareFree (mapGet 0 x.rowRepair (p * 64 + i)))

/-- A spare that itself shows a hard fault: SPAREBAD in its entry (R232). -/
def markSpareBad (x : Stack) (p row : Nat) : Stack :=
  match rowSpare x p row with
  | some i => { x with rowRepair := mapUpd 0 x.rowRepair (p * 64 + i) (fun e => setBit e 29) }
  | none => x

/-- Sparing a row, whose contents are as `src` reads them: R230, and R233 where no spare row is free. A spare in use for the row has
failed and is marked once the new one has its contents (R232). (DEDUCED, log 15.) -/
def spareRow (s : State) (src : Stack) (st p row reader addr : Nat) : State :=
  let x := s.stack st
  match freeSpareRow x p with
  | none => exhaustSpares s st p row reader
  | some i =>
    let e := 2 ^ 31 + 2 ^ 30 + row
    let x1 := markSpareBad (copyRowTo src x p row i) p row
    let s1 := s.setStack st { x1 with rowRepair := mapSet 0 x1.rowRepair (p * 64 + i) e }
    let s2 := bump (bump s1 (0x2210 + st) 0xA 1) (0x2220 + st) 3 (if rowIsValid src p row then poisonCopied src p row else 0)
    recordStack (queueRepair s2 (2 ^ 61 + st * 2 ^ 58 + p * 2 ^ 47 + e + i * 2 ^ 23)) 0x324 st reader addr

/-- Sparing a symbol position of a section, as `src` reads it, into column group g (R231). -/
def spareColumn (s : State) (src : Stack) (st p row sym g reader addr : Nat) : State :=
  let x := s.stack st
  let sec := row / 2048
  let e := 2 ^ 31 + 2 ^ 30 + sec * 64 + sym
  let cells := (List.range 2048).foldl (fun (m : Map Nat) r =>
    (List.range 64).foldl (fun (m : Map Nat) w =>
      mapSet 0 m (colKey p g (sec * 2048 + r) w) (symAt (decode288 (rawRead src p (sec * 2048 + r) w)).code sym)) m) x.colCells
  let s1 := s.setStack st { x with colCells := cells, colRepair := mapSet 0 x.colRepair (p * 4 + g) e }
  let s2 := bump s1 (0x2210 + st) 0xB 1
  recordStack (queueRepair s2 (2 * 2 ^ 61 + st * 2 ^ 58 + p * 2 ^ 47 + e + g * 2 ^ 23)) 0x325 st reader addr

/-- A hard fault of a row, in one symbol position when `sym` names it (R215, R229, R232, R233). -/
def hardFault (s : State) (st p row : Nat) (sym : Option Nat) (reader addr : Nat) : State :=
  let x := s.stack st
  match sym with
  | none => spareRow s x st p row reader addr
  | some k =>
    if (rowSpare x p row).isSome then spareRow s x st p row reader addr
    else
      let key := (p * 10 + row / 2048) * 36 + k
      let rows := mapGet [] x.sections key
      let rows' := if rows.contains row then rows else rows ++ [row]
      let bad := (colSpares x p (row / 2048)).find? (fun gs => gs.2 == k)
      let x1 : Stack := { x with
        sections := mapSet [] x.sections key rows',
        colRepair := match bad with
          | some gs => mapUpd 0 x.colRepair (p * 4 + gs.1) (fun e => setBit e 29)
          | none => x.colRepair }
      let s1 := s.setStack st x1
      match (List.range 4).find? (fun g => spareFree (mapGet 0 x1.colRepair (p * 4 + g))) with
      | some g => if 4 ≤ rows'.length || bad.isSome then spareColumn s1 x st p row k g reader addr
        else spareRow s1 x st p row reader addr
      | none => spareRow s1 x st p row reader addr

/-! ## Loading one word -/

/-- What a load of one word yields: status 0, STACK_HOLE or FRAME_RETIRED or MOVE_REGION for no home; the data; whether
it is poison; and the class code of WC_TRES (4 for an unwritten row). -/
structure Load where
  status : Nat := 0
  data : Word256 := 0
  poison : Bool := false
  cls : Nat := 0
  next : State

def classCode : WordClass → Nat
  | .valid => 0
  | .corrected => 1
  | .uncorrectable => 2
  | .poison => 3

/-- Rank of the classes in R244, UNCORRECTABLE highest. -/
def classRank (c : Nat) : Nat :=
  if c = 2 then 4 else if c = 3 then 3 else if c = 1 then 2 else if c = 0 then 1 else 0

/-- A decode in a TEST frame records its class, position, value and syndromes, when DONE is 0 or its class ranks above
(R244); a raw command always records. -/
def recordTest (x : Stack) (always : Bool) (cls pos value syn : Nat) : Stack :=
  if always || !x.tresDone || decide (classRank x.tresClass < classRank cls) then
    { x with tresClass := cls, tresPos := pos, tresValue := value, tsyn := syn, tresDone := true }
  else x

/-- The word of a slot's region found uncorrectable: the raw codeword is read once more (R676), `again` being what that
second read gives; then R677. (DEDUCED, log 17.) -/
def weightFault (s : State) (m st p row w : Nat) (again : Code288) (reader addr : Nat) : State :=
  let d := decode288 again
  let ok := d.cls = .valid ∨ d.cls = .corrected
  let cls := if dget s (0x5110 + m) 6 = 0 then clsTenant else clsContained
  if ok then
    let s1 := s.setStack st (rawWrite (s.stack st) p row w d.code)
    recordFault s1 (faultOf 0x304 cls kindSlot m 0xFF (memDetail reader addr))
  else
    let s1 := bump (bump (s.setStack st (rawWrite (s.stack st) p row w poisonWord)) (0x2220 + st) 2 1) (0x2220 + st) 3 1
    let s2 := recordEntry s1 (faultOf 0x320 clsContained kindSlot m 0xFF (memDetail reader addr))
    let fr := addr / frameBytes * frameBytes
    let s3 := s2.updSlot m (fun sl => if sl.restore.contains fr then sl else { sl with restore := sl.restore ++ [fr] })
    recordFault s3 (faultOf 0x303 cls kindSlot m 0xFF (memDetail reader addr))

/-- The time of a bank's last access, which the whisk's idle rule reads (R224). -/
def touchCell (s : State) (st p : Nat) : State := s.updStack st (fun x => { x with lastAccess := mapSet 0 x.lastAccess p s.now })

/-- Reading one word of a bank: R207, R211, R214, R215, R219, R244, R676. `seen` is the codeword as the first read met
it; `ta` the tenant of the work, 0xFF for none. (DEDUCED, log 17.) -/
def loadCellSeen (s : State) (st p row w : Nat) (seen : Code288) (reader addr tenant : Nat) : Load :=
  let s := if reader = 0xFF then s else touchCell s st p
  let x := s.stack st
  if !(rowIsValid x p row) then
    { cls := 4, next := if inTest x p row then s.setStack st (recordTest x false 4 0 0 0) else s }
  else
    let d := decode288 seen
    if inTest x p row then
      { data := d.data, poison := d.cls = .poison ∨ d.cls = .uncorrectable, cls := classCode d.cls,
        next := s.setStack st (recordTest x false (classCode d.cls) d.pos d.value (synWord seen)) }
    else match d.cls with
      | .valid => { data := d.data, next := s }
      | .poison => { poison := true, cls := 3, next := s }
      | .corrected =>
        let s1 := bump (s.setStack st (rawWrite x p row w d.code)) (0x2220 + st) 1 1
        let past := mapGet [] x.corrections p
        let hit := past.contains (row, d.pos)
        let s2 := s1.updStack st (fun y => { y with corrections := mapSet [] y.corrections p (((row, d.pos) :: past).take 16) })
        { data := d.data, cls := 1, next := if hit then hardFault s2 st p row (some d.pos) reader addr else s2 }
      | .uncorrectable =>
        let again := rawRead x p row w
        match weightSlot s addr with
        | some m =>
          let s1 := weightFault s m st p row w again reader addr
          { poison := true, cls := 2, next := if (decode288 again).cls = .valid ∨ (decode288 again).cls = .corrected then s1
              else hardFault s1 st p row none reader addr }
        | none =>
          { poison := true, cls := 2, next := hardFault (poisonCell s st p row w reader addr tenant) st p row none reader addr }

/-- Reading one word of a bank as it is stored. (DEDUCED, log 7.) -/
def loadCell (s : State) (st p row w : Nat) (reader addr tenant : Nat) : Load :=
  loadCellSeen s st p row w (rawRead (s.stack st) p row w) reader addr tenant

/-- Reading an SRAM word: corrected words are written back, uncorrectable ones replaced by the poison word (R211, R214). (DEDUCED, log 31.) -/
def loadSram (s : State) (c : Code288) (put : State → Code288 → State) (reader addr tenant : Nat) : Load :=
  let d := decode288 c
  match d.cls with
  | .valid => { data := d.data, next := s }
  | .poison => { poison := true, cls := 3, next := s }
  | .corrected => { data := d.data, cls := 1, next := { put s d.code with potCorrected := s.potCorrected + 1 } }
  | .uncorrectable =>
    { poison := true, cls := 2,
      next := recordFault { put s poisonWord with potUncorrectable := s.potUncorrectable + 1 }
        (faultOf 0x320 clsContained kindDevice 0 tenant (memDetail reader addr)) }

def setPot (s : State) (i : Nat) (c : Code288) : State := { s with pots := mapSet 0 s.pots i c }
def setLocal (s : State) (i : Nat) (c : Code288) : State := { s with locals := mapSet 0 s.locals i c }
def setBuffer (s : State) (i : Nat) (c : Code288) : State := { s with buffers := mapSet 0 s.buffers i c }
def setImem (s : State) (e i : Nat) (c : Code288) : State :=
  s.updEngine e (fun g => { g with imem := mapSet 0 g.imem i c })

/-- An access to the unpopulated part of a stack's stride: STACK_HOLE, counted (R110). -/
def holeAccess (s : State) (st : Nat) : State := bump s (0x2210 + st) 0xC 1

/-- The runs of an access of `n` bytes that are aimed at a hole, counted: one run per 2 KiB row (R110, R119). -/
def countHoles (s : State) (a n : Nat) : State :=
  if a < potWest then
    (List.range ((a % 2048 + n + 2047) / 2048)).foldl (fun s i =>
      match homeOf s (a / 2048 * 2048 + 2048 * i) with
      | .hole st => holeAccess s st
      | _ => s) s
  else s

/-- Reading the word that holds byte `a`, which is part of a counted access, by a reader on behalf of a tenant (R110, R236, R281, R753). -/
def loadPart (s : State) (reader tenant a : Nat) : Load :=
  let a := a / 32 * 32
  match homeOf s a with
  | .cell st p row w => loadCell s st p row w reader a tenant
  | .hole _ => { status := 0x310, next := s }
  | .donor _ => { status := 0x321, next := s }
  | .pot i => loadSram s (mapGet 0 s.pots i) (fun s c => setPot s i c) reader a tenant
  | .localMem i => loadSram s (mapGet 0 s.locals i) (fun s c => setLocal s i c) reader a tenant
  | .buffer i => loadSram s (mapGet 0 s.buffers i) (fun s c => setBuffer s i c) reader a tenant
  | .imem e i => loadSram s (mapGet 0 (s.engine e).imem i) (fun s c => setImem s e i c) reader a tenant
  | .control _ => { next := s }
  | .nowhere => { status := 0x222, next := s }

/-- Reading one word. -/
def loadWord (s : State) (reader tenant a : Nat) : Load := loadPart (countHoles s a 1) reader tenant a

/-- What a load of bytes yields: the first status other than OK, the bytes, one poison flag per byte. -/
structure LoadBytes where
  status : Nat := 0
  bytes : List Byte := []
  marks : List Bool := []
  next : State

/-- Reading `n` words from the one that holds `a`. -/
def loadWords (s : State) (reader tenant a : Nat) : Nat → LoadBytes
  | 0 => { next := s }
  | n + 1 =>
    let l := loadPart s reader tenant a
    let r := loadWords l.next reader tenant (a / 32 * 32 + 32) n
    { status := if l.status = 0 then r.status else l.status, bytes := bytesOfWord l.data ++ r.bytes,
      marks := List.replicate 32 l.poison ++ r.marks, next := r.next }

/-- The words that an access of `n` bytes transfers: the first one's address and their number. A stack transfers whole bursts of 64 B (R119). -/
def spanOf (a n : Nat) : Nat × Nat :=
  if a < potWest then (a / 64 * 64, 2 * ((a % 64 + n + 63) / 64)) else (a / 32 * 32, (a % 32 + n + 31) / 32)

/-- Reading `n` bytes from `a`, with the rest of the bursts they lie in. -/
def loadBytes (s : State) (reader tenant a n : Nat) : LoadBytes :=
  if n = 0 then { next := s }
  else
    let (b, k) := spanOf a n
    let r := loadWords (countHoles s a n) reader tenant b k
    { r with bytes := (r.bytes.drop (a - b)).take n, marks := (r.marks.drop (a - b)).take n }

/-- Whether any byte read was poison. -/
def LoadBytes.poisoned (l : LoadBytes) : Bool := l.marks.any id

/-! ## Storing -/

/-- What a store yields. -/
structure Store where
  status : Nat := 0
  next : State

/-- Writing one whole codeword to a bank's row and word (R212, R220). -/
def storeCell (s : State) (st p row w : Nat) (c : Code288) : State :=
  touchCell (s.setStack st (rawWrite (openRow (s.stack st) p row) p row w c)) st p

/-- Writing a whole codeword at the word that holds byte `a`, part of a counted access, poison included (R206, R213). -/
def storeCodePart (s : State) (a : Nat) (c : Code288) : Store :=
  match homeOf s a with
  | .cell st p row w =>
    let s1 := storeCell s st p row w c
    { next := if c = poisonWord then bump s1 (0x2220 + st) 3 1 else s1 }
  | .hole _ => { status := 0x310, next := s }
  | .donor _ => { status := 0x321, next := s }
  | .pot i => { next := setPot s i c }
  | .localMem i => { next := setLocal s i c }
  | .buffer i => { next := setBuffer s i c }
  | .imem e i => { next := setImem s e i c }
  | .control _ => { next := s }
  | .nowhere => { status := 0x222, next := s }

/-- Writing one whole codeword. -/
def storeCode (s : State) (a : Nat) (c : Code288) : Store := storeCodePart (countHoles s a 1) a c

/-- Bytes `bs` merged into a word from byte `o` of it. -/
def mergeBytes (old : Word256) (o : Nat) (bs : List Byte) : Word256 :=
  let b := bytesOfWord old
  wordOfBytes (b.take o ++ bs ++ b.drop (o + bs.length))

/-- Writing `bs`, which lie within one word from its byte `o`: a whole word without a read, fewer bytes by read, merge
and write (R216, R217, R244). -/
def storePart (s : State) (reader tenant a : Nat) (bs : List Byte) : Store :=
  let o := a % 32
  let w := a / 32 * 32
  if bs.length = 32 then storeCodePart s w (encode288 (wordOfBytes bs))
  else
    let l := loadPart s reader tenant w
    if l.status ≠ 0 then { status := l.status, next := l.next }
    else
      let s1 := match homeOf s w with
        | .cell st _ _ _ => bump l.next (0x2220 + st) 4 1
        | _ => l.next
      let test := match homeOf s w with
        | .cell st p row _ => inTest (s.stack st) p row
        | _ => false
      if l.poison then
        if test then { status := 0x320, next := s1 }
        else { status := 0x320, next := (storeCodePart s1 w poisonWord).next }
      else storeCodePart s1 w (encode288 (mergeBytes l.data o bs))

/-- Writing bytes word by word, `n` words at most. -/
def storeAux (s : State) (reader tenant a : Nat) (bs : List Byte) : Nat → Store
  | 0 => { next := s }
  | n + 1 =>
    let k := 32 - a % 32
    let r := storePart s reader tenant a (bs.take k)
    if bs.length ≤ k then r
    else
      let q := storeAux r.next reader tenant (a + k) (bs.drop k) n
      { status := if r.status = 0 then q.status else r.status, next := q.next }

/-- Writing bytes from address `a`. -/
def storeBytes (s : State) (reader tenant a : Nat) (bs : List Byte) : Store :=
  if bs = [] then { next := s } else storeAux (countHoles s a bs.length) reader tenant a bs (bs.length / 32 + 2)

/-! ## Regions of an address range (R264, R281) -/

/-- Regions that a range of addresses can lie in whole. -/
inductive RegionKind where
  | stack (st : Nat)
  | pot (die : Nat)
  | localMem (core : Nat)
  | buffer (st : Nat)
  | imem (eng : Nat) (b : Bool)
  | control
  | hole (st : Nat)
  | nowhere
  deriving DecidableEq, Repr

def regionAt (s : State) (a : Nat) : RegionKind :=
  match homeOf s a with
  | .cell st _ _ _ => .stack st
  | .donor st => .stack st
  | .hole st => .hole st
  | .pot i => .pot (i / (potBytes / 32))
  | .localMem i => .localMem (i / 8192)
  | .buffer i => .buffer (i / 8192)
  | .imem e i => .imem e (decide (2048 ≤ i))
  | .control _ => .control
  | .nowhere => .nowhere

/-- The region that holds a whole range of `n` bytes; none when it leaves the region of its first byte. A stack's
populated part, each stockpot die, each local memory, ladle buffer and bank are contiguous. (DEDUCED, log 127.) -/
def regionOf (s : State) (a n : Nat) : Option RegionKind :=
  let r := regionAt s a
  if n ≤ 1 ∨ regionAt s (a + n - 1) = r then some r else none

/-- Clearing the valid bits of every row of a stack range, row by row (R221, R222). -/
def discardRows (s : State) (a : Nat) : Nat → State
  | 0 => s
  | n + 1 =>
    let s1 := match homeOf s a with
      | .cell st p row _ => s.setStack st (clearRow (s.stack st) p row)
      | _ => s
    discardRows s1 (a + 2048) n

/-- The discard of R221: its code, and the state after it. -/
def discardRange (s : State) (a n : Nat) : Store :=
  let st := a / 2 ^ 37
  let okRow := a % 2048 = 0 ∧ n % 2048 = 0 ∧ a < potWest ∧ a % 2 ^ 37 / 2 ^ 30 < popSegs (s.stack st)
  if n = 0 then { status := if okRow then 0 else 0x322, next := s }
  else if okRow ∧ (a + n - 1) / 2 ^ 37 = st ∧ (a + n - 1) % 2 ^ 37 / 2 ^ 30 < popSegs (s.stack st) then
    if (s.stack st).remap.any (fun e => overlaps a n (st * 2 ^ 37 + e.2.1 * frameBytes) frameBytes) then
      { status := 0x321, next := s }
    else { next := discardRows s a (n / 2048) }
  else { status := 0x322, next := s }

/-- The codeword stored at an address, as a READ returns it: poison included, zeros for a row not written (R206, R219). -/
def storedCode (s : State) (a : Nat) : Nat × Nat × State :=
  match homeOf s a with
  | .cell st p row w => (0, if rowIsValid (s.stack st) p row then (rawRead (s.stack st) p row w).toNat else (encode288 0).toNat, s)
  | .hole st => (0x310, 0, holeAccess s st)
  | .donor _ => (0x321, 0, s)
  | .pot i => (0, (mapGet 0 s.pots i).toNat, s)
  | .localMem i => (0, (mapGet 0 s.locals i).toNat, s)
  | .buffer i => (0, (mapGet 0 s.buffers i).toNat, s)
  | .imem e i => (0, (mapGet 0 (s.engine e).imem i).toNat, s)
  | _ => (0x504, 0, s)

end Sys2Proof.Machine
end

