-- ==== Sys2Proof/Machine/Operands.lean ====
section
/-!
DEFINITION. The operand forms: tensors in the blocked and the linear layout (R250 to R256), reading and writing their
elements word by word, and the slots of a step word field by field (R38, R72, R160 to R162, R329, R333, R336).
-/

namespace Sys2Proof.Machine

/-! ## Tensors (R250 to R258) -/

/-- A dense tensor: base address, element bits, whether blocks of 32 elements carry a scale byte, the layout, SAXIS and the
six extents. -/
structure Tensor where
  base : Nat
  bits : Nat
  scaled : Bool := false
  blocked : Bool := true
  saxis : Bool := false
  ext : List Nat := []
  deriving DecidableEq, Repr

def Tensor.e (t : Tensor) (k : Nat) : Nat := t.ext.getD k 1

/-- The number `n` rounded up to a multiple of `d`. -/
def roundUp (n d : Nat) : Nat := (n + d - 1) / d * d

/-- ⌈n / d⌉. -/
def ceilDiv (n d : Nat) : Nat := (n + d - 1) / d

/-- A tensor of a format. -/
def tensorOf (base : Nat) (f : Fmt) (blocked saxis : Bool) (ext : List Nat) : Tensor :=
  { base := base, bits := f.bits, scaled := f.isFp4, blocked := blocked, saxis := saxis, ext := ext }

/-- A blocked matrix of `e1` by `e0` elements. -/
def matrix (base : Nat) (f : Fmt) (saxis : Bool) (e0 e1 : Nat) : Tensor := tensorOf base f true saxis [e0, e1]

/-- Bytes of a super-tile of n tiles, its scale block included (R250, R252). -/
def superBytes (bits : Nat) (scaled : Bool) (n : Nat) : Nat :=
  n * (128 * bits) + (if scaled then roundUp (32 * n) 64 else 0)

/-- Bytes of a row of super-tiles that are h tiles high, over T0 tiles (R251). -/
def superRowBytes (t : Tensor) (h T0 : Nat) : Nat :=
  T0 / 8 * superBytes t.bits t.scaled (8 * h) + (if T0 % 8 = 0 then 0 else superBytes t.bits t.scaled (h * (T0 % 8)))

/-- M2, the bytes of one matrix of dimensions 0 and 1 (R253). -/
def matrixBytes (t : Tensor) : Nat :=
  let T0 := ceilDiv (t.e 0) 32
  let T1 := ceilDiv (t.e 1) 32
  T1 / 8 * superRowBytes t 8 T0 + (if T1 % 8 = 0 then 0 else superRowBytes t (T1 % 8) T0)

/-- Bytes of one line of a linear tensor; the vector form for FP4 (R255, R256). -/
def lineBytes (t : Tensor) : Nat := if t.scaled then ceilDiv (t.e 0) 1024 * 544 else t.e 0 * t.bits / 8

/-- Index over dimensions k and above: x_k + E_k (x_{k+1} + …). -/
def upperIndex (t : Tensor) (x : List Nat) (k : Nat) : Nat :=
  (List.range (6 - k)).foldr (fun i acc => x.getD (k + i) 0 + t.e (k + i) * acc) 0

/-- Bytes the whole tensor occupies from its base. -/
def tensorBytes (t : Tensor) : Nat :=
  let upper (k : Nat) := (List.range (6 - k)).foldl (fun n i => n * t.e (k + i)) 1
  if t.blocked then matrixBytes t * upper 2 else lineBytes t * upper 1

/-- Place of the tile that holds (x0, x1): first byte of its super-tile in the matrix, tiles of that super-tile, and the
tile's position in it (R251). -/
def superTileOf (t : Tensor) (x0 x1 : Nat) : Nat × Nat × Nat :=
  let T0 := ceilDiv (t.e 0) 32
  let T1 := ceilDiv (t.e 1) 32
  let t0 := x0 / 32
  let t1 := x1 / 32
  let u0 := t0 / 8
  let u1 := t1 / 8
  let h := min 8 (T1 - 8 * u1)
  let w := min 8 (T0 - 8 * u0)
  (u1 * superRowBytes t 8 T0 + u0 * superBytes t.bits t.scaled (8 * h), h * w, w * (t1 % 8) + t0 % 8)

/-- Bit offset of an element from the base. -/
def elemBit (t : Tensor) (x : List Nat) : Nat :=
  let x0 := x.getD 0 0
  let x1 := x.getD 1 0
  if t.blocked then
    let (st, _, pos) := superTileOf t x0 x1
    8 * (matrixBytes t * upperIndex t x 2 + st + pos * (128 * t.bits)) + (32 * (x1 % 32) + x0 % 32) * t.bits
  else if t.scaled then
    8 * (lineBytes t * upperIndex t x 1 + x0 / 1024 * 544) + (x0 % 1024) * 4
  else 8 * (lineBytes t * upperIndex t x 1) + x0 * t.bits

/-- Byte offset of the scale that governs an element (R252, R256). -/
def scaleByte (t : Tensor) (x : List Nat) : Nat :=
  let x0 := x.getD 0 0
  let x1 := x.getD 1 0
  if t.blocked then
    let (st, n, pos) := superTileOf t x0 x1
    matrixBytes t * upperIndex t x 2 + st + n * (128 * t.bits) + 32 * pos + (if t.saxis then x0 % 32 else x1 % 32)
  else lineBytes t * upperIndex t x 1 + x0 / 1024 * 544 + 512 + x0 / 32 % 32

/-! ## Reading elements -/

/-- A value read: the code, whether its word was poison, the first status other than OK, and the state. -/
structure Rd where
  code : Nat := 0
  bad : Bool := false
  status : Nat := 0
  next : State

/-- The `n` bits at a bit address, which lie in one word. -/
def readBits (s : State) (reader tenant bit n : Nat) : Rd :=
  let l := loadWord s reader tenant (bit / 8)
  { code := l.data.toNat / 2 ^ (bit % 256) % 2 ^ n, bad := l.poison, status := l.status, next := l.next }

/-- Reading a run of `n`-bit values packed from a bit address. -/
def readRunBits (s : State) (reader tenant bit n : Nat) : Nat → List (Nat × Bool) × State
  | 0 => ([], s)
  | k + 1 =>
    let r := readBits s reader tenant bit n
    let t := readRunBits r.next reader tenant (bit + n) n k
    ((r.code, r.bad) :: t.1, t.2)

/-- One element of a tensor: its code. -/
def readElem (s : State) (reader tenant : Nat) (t : Tensor) (x : List Nat) : Rd :=
  readBits s reader tenant (8 * t.base + elemBit t x) t.bits

/-- The scale code that governs an element; its `bad` says that the scale's word was poison. -/
def readScale (s : State) (reader tenant : Nat) (t : Tensor) (x : List Nat) : Rd :=
  if t.scaled then readBits s reader tenant (8 * (t.base + scaleByte t x)) 8 else { next := s }

/-- An element read with its scale: the exact element value without the scale, the scale's value, and poison. -/
structure Elem where
  val : Num
  scale : Num := .one
  bad : Bool := false
  deriving DecidableEq, Repr

/-- The element's value with its block scale (R21, R22). -/
def Elem.value (e : Elem) : Num := e.val.mul e.scale

/-- The value of a block scale code of an FP4 format (R21). -/
def blockScale (f : Fmt) (c : Nat) : Num :=
  match f with
  | .fp4e8 => e8m0Decode c
  | .fp4e4 => e4m3ScaleDecode c
  | _ => .one

/-- Elements (x0, x1) for x0 from `x0` on, `n` of them, of a matrix in format f. -/
def readLine (s : State) (reader tenant : Nat) (t : Tensor) (f : Fmt) (x0 x1 : Nat) : Nat → List Elem × State
  | 0 => ([], s)
  | n + 1 =>
    let r := readElem s reader tenant t [x0, x1]
    let q := readScale r.next reader tenant t [x0, x1]
    let rest := readLine q.next reader tenant t f (x0 + 1) x1 n
    ({ val := f.decode r.code, scale := blockScale f q.code, bad := r.bad || q.bad } :: rest.1, rest.2)

/-! ## Writing words by parts -/

/-- What is to be written in one word: bits under a mask, or poison over the whole word. -/
structure WordEdit where
  val : Nat := 0
  mask : Nat := 0
  poison : Bool := false
  deriving DecidableEq, Repr

/-- Writing `n` bits at a bit address; the value replaces what an earlier edit put there. -/
def editBits (m : Map WordEdit) (bit n v : Nat) (poison : Bool) : Map WordEdit :=
  let o := bit % 256
  let msk := (2 ^ n - 1) * 2 ^ o
  mapUpd {} m (bit / 256) (fun e =>
    { val := e.val - (e.val &&& msk) + v % 2 ^ n * 2 ^ o, mask := e.mask ||| msk, poison := e.poison || poison })

/-- Performing one word's edit: a whole word without a read, part of one by read, merge and write (R212, R216, R217). -/
def applyEdit (s : State) (reader tenant : Nat) (w : Nat) (e : WordEdit) : Store :=
  let a := 32 * w
  if e.poison then storeCode s a poisonWord
  else if e.mask = 2 ^ 256 - 1 then storeCode s a (encode288 (BitVec.ofNat 256 e.val))
  else
    let l := loadWord s reader tenant a
    if l.status ≠ 0 then { status := l.status, next := l.next }
    else
      let inStack := match homeOf s a with
        | .cell st _ _ _ => some st
        | _ => none
      let test := match homeOf s a with
        | .cell st p row _ => inTest (s.stack st) p row
        | _ => false
      let s1 := match inStack with
        | some st => bump l.next (0x2220 + st) 4 1
        | none => l.next
      if l.poison then { status := 0x320, next := if test then s1 else (storeCode s1 a poisonWord).next }
      else
        let old := l.data.toNat
        storeCode s1 a (encode288 (BitVec.ofNat 256 (old - (old &&& e.mask) + e.val)))

/-- Performing edits in ascending address order; the first status other than OK is kept. -/
def applyEdits (s : State) (reader tenant : Nat) : Map WordEdit → Store
  | [] => { next := s }
  | (w, e) :: rest =>
    let r := applyEdit s reader tenant w e
    let t := applyEdits r.next reader tenant rest
    { status := if r.status = 0 then t.status else r.status, next := t.next }

/-! ## The slots of a step word -/

/-- The fields of a GRID slot (R72). -/
structure GridSlot where
  op : Nat
  afmt : Nat
  wfmt : Nat
  ofmt : Nat
  gsize : Nat
  gsfmt : Nat
  rsel : Nat
  axis : Bool
  fold : Nat
  layer : Nat
  m : Nat
  kt : Nat
  nt : Nat
  asrc : Nat
  adst : Nat
  aw : Nat
  ags : Nat
  rfn : Nat
  rnorm : Nat
  acc : Nat
  cut : Bool
  aaux : Nat
  ax2 : Nat
  rsvd : Nat
  deriving DecidableEq, Repr

def gridSlot (v : Nat) : GridSlot :=
  { op := bitsOf v 95 92, afmt := bitsOf v 91 88, wfmt := bitsOf v 87 84, ofmt := bitsOf v 83 80, gsize := bitsOf v 79 78,
    gsfmt := bitsOf v 77 76, rsel := bitsOf v 75 75, axis := bitOf v 74, fold := bitsOf v 73 71, layer := bitsOf v 70 63,
    m := bitsOf v 62 51 + 1, kt := bitsOf v 50 44, nt := bitsOf v 43 37, asrc := bitsOf v 36 33, adst := bitsOf v 32 29,
    aw := bitsOf v 28 25, ags := bitsOf v 24 21, rfn := bitsOf v 20 18, rnorm := bitsOf v 17 16, acc := bitsOf v 15 14,
    cut := bitOf v 13, aaux := bitsOf v 12 9, ax2 := bitsOf v 8 5, rsvd := bitsOf v 4 0 }

/-- Elements of a group named by GSIZE (R23); 0 for none. -/
def groupOf (gsize : Nat) : Nat := if gsize = 0 then 0 else 16 * 2 ^ gsize

/-- The format of a group scale (R23). -/
def groupFmt (gsfmt : Nat) : Fmt := if gsfmt = 0 then .e8m0 else if gsfmt = 1 then .e4m3 else .bf16

/-- The value of a group scale code (R23): E8M0 and E4M3 are read as block scales are, a sign of 1 being NaN, else BF16. (DESIGN CHOICE, log 131.) -/
def groupScale (gsfmt c : Nat) : Num :=
  if gsfmt = 0 then e8m0Decode c else if gsfmt = 1 then e4m3ScaleDecode c else Fmt.bf16.decode c

/-- The fields of a SCALE slot (R38). -/
structure ScaleSlot where
  op : Nat
  sfmt : Nat
  first : Nat
  count : Nat
  src : Nat
  rsvd : Nat
  value : Nat
  deriving DecidableEq, Repr

def scaleSlot (v : Nat) : ScaleSlot :=
  { op := bitsOf v 63 60, sfmt := bitsOf v 59 56, first := bitsOf v 55 44, count := bitsOf v 43 32 + 1,
    src := bitsOf v 28 0, rsvd := bitsOf v 31 29, value := bitsOf v 31 0 }

/-- The fields of a LADLE slot (R160, R162). -/
structure LadleSlot where
  op : Nat
  wfmt : Nat
  vfmt : Nat
  ofmt : Nat
  layer : Nat
  bank0 : Nat
  nbank : Nat
  row0 : Nat
  nrow : Nat
  avec : Nat
  adst : Nat
  aaux : Nat
  mode : Nat
  deriving DecidableEq, Repr

def ladleSlot (v : Nat) : LadleSlot :=
  { op := bitsOf v 95 92, wfmt := bitsOf v 91 88, vfmt := bitsOf v 87 84, ofmt := bitsOf v 83 80, layer := bitsOf v 79 72,
    bank0 := bitsOf v 71 65, nbank := bitsOf v 64 54 + 1, row0 := bitsOf v 53 39, nrow := bitsOf v 38 27 + 1,
    avec := bitsOf v 26 23, adst := bitsOf v 22 19, aaux := bitsOf v 18 15, mode := bitsOf v 14 0 }

/-- Q, OMODE and the other MODE fields (R162). -/
def LadleSlot.q (l : LadleSlot) : Nat := bitsOf l.mode 7 6 + 1
def LadleSlot.omode (l : LadleSlot) : Nat := bitsOf l.mode 1 0
def LadleSlot.gsize (l : LadleSlot) : Nat := bitsOf l.mode 14 13
def LadleSlot.gsfmt (l : LadleSlot) : Nat := bitsOf l.mode 12 11
def LadleSlot.kspl (l : LadleSlot) : Nat := bitsOf l.mode 10 8
def LadleSlot.dsel (l : LadleSlot) : Nat := bitsOf l.mode 14 13
def LadleSlot.chain (l : LadleSlot) : Bool := bitOf l.mode 12
def LadleSlot.lop (l : LadleSlot) : Nat := bitsOf l.mode 9 8
def LadleSlot.fn (l : LadleSlot) : Nat := bitsOf l.mode 14 12
/-- SRCV is a field of EWISE to QUANT alone; elsewhere the bit is reserved and ignored (R9, R162). -/
def LadleSlot.srcv (l : LadleSlot) : Bool := bitOf l.mode 2 && decide (7 ≤ l.op) && decide (l.op ≤ 11)
def LadleSlot.center (l : LadleSlot) : Bool := bitOf l.mode 3
def LadleSlot.half (l : LadleSlot) : Bool := bitOf l.mode 8
def LadleSlot.kvsel (l : LadleSlot) : Bool := bitOf l.mode 3
def LadleSlot.kind (l : LadleSlot) : Bool := bitOf l.mode 8

/-- The head dimension d (R162). -/
def LadleSlot.d (l : LadleSlot) : Nat := 64 * 2 ^ l.dsel

/-- Physical bank i of a LADLE slot (R161). -/
def LadleSlot.bank (l : LadleSlot) (i : Nat) : Nat := 128 * (i % 16) + l.bank0 + i / 16

/-- The fields of a SYNC slot (R329). -/
structure SyncSlot where
  waitk : Nat
  kmask : Nat
  left : Nat
  word : Nat
  sord : Nat
  aw : Nat
  as_ : Nat
  sig : Nat
  value : Nat
  deriving DecidableEq, Repr

def syncSlot (v : Nat) : SyncSlot :=
  { waitk := bitsOf v 63 62, kmask := bitsOf v 61 57, left := bitsOf v 56 52, word := bitsOf v 51 47, sord := bitsOf v 46 42,
    aw := bitsOf v 41 38, as_ := bitsOf v 37 34, sig := bitsOf v 33 32, value := bitsOf v 31 0 }

/-- The fields of a MOVE slot (R333). -/
structure MoveSlot where
  op : Nat
  tgt : Nat
  adesc : Nat
  asrc : Nat
  adst : Nat
  ps : Bool
  pd : Bool
  soff : Nat
  doff : Nat
  tt : Bool
  tag : Nat
  rsvd : Nat
  deriving DecidableEq, Repr

def moveSlot (v : Nat) : MoveSlot :=
  { op := bitsOf v 95 92, tgt := bitsOf v 91 86, adesc := bitsOf v 85 82, asrc := bitsOf v 81 78, adst := bitsOf v 77 74,
    ps := bitOf v 73, pd := bitOf v 72, soff := bitsOf v 71 48, doff := bitsOf v 47 24, tt := bitOf v 23,
    tag := bitsOf v 22 7, rsvd := bitsOf v 6 0 }

/-- The fields of a CTRL slot (R336). -/
structure CtrlSlot where
  op : Nat
  rd : Nat
  ra : Nat
  cn : Nat
  cn2 : Nat
  imm52 : Nat
  imm48 : Nat
  imm32 : Nat
  target : Nat
  deriving DecidableEq, Repr

def ctrlSlot (v : Nat) : CtrlSlot :=
  { op := bitsOf v 63 58, rd := bitsOf v 57 54, ra := bitsOf v 53 50, cn := bitsOf v 57 56, cn2 := bitsOf v 49 48,
    imm52 := bitsOf v 51 0, imm48 := bitsOf v 47 0, imm32 := bitsOf v 31 0, target := bitsOf v 15 0 }

/-- Sign extension of `n` bits. -/
def signExt (n v : Nat) : Int := if v % 2 ^ n < 2 ^ (n - 1) then (v % 2 ^ n : Nat) else (v % 2 ^ n : Nat) - (2 ^ n : Nat)

/-- `v` modulo 2^n as a number of n bits. -/
def wrap (n : Nat) (v : Int) : Nat := (v % (2 ^ n : Nat)).toNat

/-- Scope and semantics of an ORD field (R295). -/
def ordScope (o : Nat) : Nat := o / 4 % 8
def ordSem (o : Nat) : Nat := o % 4

end Sys2Proof.Machine
end

