-- ==== Sys2Proof/Machine/Flags.lean ====
section
/-!
DEFINITION. What is counted and flagged: saturations and non-finite conversions with their thresholds and events (R45 to
R50), the first status an entry keeps (R345), and the completion of a sequencer's slot (R330, R344).
-/

namespace Sys2Proof.Machine

/-- The first of two statuses in time that is not OK (R345). -/
def firstStatus (a b : Nat) : Nat := if a = 0 then b else a

/-! ## Numeric counters and events -/

/-- DETAIL of a numeric event (R665). -/
def numericDetail (m layer count reason : Nat) : Nat :=
  m * 2 ^ 60 + layer * 2 ^ 52 + min count 0xFFFFFFFF * 2 ^ 20 + reason

/-- A numeric event (R49): for work of a serving step in domain SLOT m, otherwise in domain ENGINE of the issuing sequencer
with model-slot field 0 (R46). -/
def recordNumeric (s : State) (code : Nat) (step : Option Nat) (eng tenant layer count reason : Nat) : State :=
  match step with
  | some m => recordFault s (faultOf code clsCorrected kindSlot m tenant (numericDetail m layer count reason))
  | none => recordFault s (faultOf code clsCorrected kindEngine eng tenant (numericDetail 0 layer count reason))

/-- NUMERIC_NONFINITE, when 0x2100.06 is TRUE and anything was counted (R49). -/
def nonfiniteEvent (s : State) (step : Option Nat) (eng tenant layer n : Nat) : State :=
  if n ≠ 0 ∧ dbool s 0x2100 6 then recordNumeric s 0x405 step eng tenant layer n 0 else s

/-- The griddle threshold in force: the slot's override for a serving step (R46, R60). -/
def gridThreshold (s : State) (step : Option Nat) : Nat :=
  match step with
  | some m => if dbool s (0x2130 + m) 1 then dget s (0x2130 + m) 2 else dget s 0x2100 1
  | none => dget s 0x2100 1

/-- The ladle threshold in force. -/
def ladleThreshold (s : State) (step : Option Nat) : Nat :=
  match step with
  | some m => if dbool s (0x2130 + m) 1 then dget s (0x2130 + m) 3 else dget s 0x2100 2
  | none => dget s 0x2100 2

/-- Adding a sweep's counts to the totals and, for a serving step and layers 0 to 253, to its layer (R45, R46). -/
def countGrid (s : State) (step : Option Nat) (layer sats nonf : Nat) : State :=
  let s1 := bump (bump s 0x2101 1 sats) 0x2101 5 nonf
  match step with
  | some m => if layer < 254 then bump s1 (0x2110 + m) (layer + 1) sats else s1
  | none => s1

/-- Adding a ladle layer's counts to the totals and, for a serving step and layers 0 to 253, to its layer (R45, R46). (DESIGN CHOICE, log 24.) -/
def countLadle (s : State) (step : Option Nat) (layer sats nonf : Nat) : State :=
  let s1 := bump (bump s 0x2101 2 sats) 0x2101 5 nonf
  match step with
  | some m => if layer < 254 then bump s1 (0x2120 + m) (layer + 1) sats else s1
  | none => s1

/-- A ladle layer's counts against its threshold: NUMERIC_SATURATION, then NUMERIC_NONFINITE (R48, R49). (DESIGN CHOICE, log 24.) -/
def ladleEvents (s : State) (step : Option Nat) (eng tenant layer sats nonf : Nat) : State :=
  let s1 := if ladleThreshold s step < sats then recordNumeric s 0x401 step eng tenant layer sats 0 else s
  nonfiniteEvent s1 step eng tenant layer nonf

/-! ## Slots of a sequencer and their completion -/

/-- Of completed slots only those among the last 31 issued of their kind are remembered, which is all a DONE wait can
name (R329, R330). -/
def pruneIssued : List Issued → List Issued
  | [] => []
  | i :: rest =>
    if i.done && decide (31 ≤ (rest.filter (fun j => decide (j.kind = i.kind))).length) then pruneIssued rest
    else i :: pruneIssued rest

/-- A slot of a sequencer completes with a status: the slot is marked, and its entry keeps the first status other than OK
with the offset of the word that set it (R344, R345). -/
def slotDone (s : State) (eng no status : Nat) : State :=
  s.updEngine eng (fun e =>
    match e.issued.find? (fun i => i.no == no && !i.done) with
    | none => e
    | some i =>
      { e with
        issued := pruneIssued (e.issued.map (fun j => if j.no = no then { j with done := true } else j))
        runs := e.runs.map (fun r =>
          if r.id = i.entry then
            { r with
              outstanding := r.outstanding - 1
              status := firstStatus r.status status
              pc := if r.status = 0 ∧ status ≠ 0 then i.pc else r.pc }
          else r) })

end Sys2Proof.Machine
end

