-- ==== Sys2Proof/Machine/GridMath.lean ====
section
/-!
DEFINITION. The arithmetic of the griddle: stationary sets and their loads (R66 to R69), sums in the array (R27 to R31, R78
to R82), the rim (R43, R44, R84 to R90), and the checks of GRID and SCALE slots (R25, R39, R71 to R77, R83).
-/

namespace Sys2Proof.Machine

/-! ## Usable groups (R77, R99) -/

/-- Usable physical groups in ascending order: the logical groups. -/
def Grid.groups (g : Grid) : List Nat := (List.range 16).filter (bitOf g.usable)

/-- U. -/
def Grid.u (g : Grid) : Nat := g.groups.length

/-- Logical columns that lie on the west die. -/
def Grid.westCols (g : Grid) : Nat := 256 * (g.groups.filter (· < 8)).length

/-- Columns of each die's share of a block of n columns: west, then east (R66). -/
def Grid.shares (g : Grid) (n : Nat) : List (Nat × Nat × Nat) :=
  let w := min n g.westCols
  [(0, 0, w), (1, w, n - w)].filter (fun e => 0 < e.2.2)

/-- The east stockpot lies this far above the west one. -/
def eastStep : Nat := 0x10000000

/-! ## Shapes -/

/-- K_b, N, F, B and the streaming vector's length of a slot (R77, R78, R81). -/
def GridSlot.kb (f : GridSlot) : Nat := 32 * (f.kt + 1)
def GridSlot.n (f : GridSlot) : Nat := 32 * (f.nt + 1)
def GridSlot.f (f : GridSlot) : Nat := 2 ^ f.fold
def GridSlot.vl (f : GridSlot) : Nat := if f.axis then f.kb else f.f * f.kb
def bandGroups (g : Grid) (f : GridSlot) : Nat := g.u / f.f

/-- A format code read as a format; FP32 for a reserved code, which no accepted slot carries. -/
def fmtD (c : Nat) : Fmt := (fmtOf c).getD .fp32

/-- The operand tensors of a sweep (R80). -/
def streamTensor (f : GridSlot) (base : Nat) (wide : Bool) : Tensor :=
  matrix base (if wide then .bf16 else fmtD f.afmt) false f.vl f.m
def destTensor (f : GridSlot) (base : Nat) : Tensor := matrix base (fmtD f.ofmt) false f.n f.m

/-- Whether the rim reads records, sieve rows or cutter records. -/
def GridSlot.usesRec (f : GridSlot) : Bool := decide (f.acc = 2) || decide (f.rnorm ≠ 0)

/-! ## Checks at issue -/

/-- Whether a range lies wholly within one die's stockpot (R74). -/
def inOneStockpot (a n : Nat) : Bool :=
  (decide (potWest ≤ a) && decide (a + n ≤ potWest + potBytes)) ||
  (decide (potEast ≤ a) && decide (a + n ≤ potEast + potBytes))

/-- Ranges a WLOAD reads: block shares, group scales and the cutter basis (R66 to R68, R94). -/
def wloadRanges (g : Grid) (f : GridSlot) (aw ags aaux : Nat) : List (Nat × Nat) :=
  let fmt := fmtD f.wfmt
  let grp := groupOf f.gsize
  (g.shares f.n).flatMap (fun e =>
    let off := e.1 * eastStep
    (aw + off, matrixBytes (matrix 0 fmt true e.2.2 f.kb)) ::
      ((if grp ≠ 0 ∧ fmt.isFp4 = false then
          [(ags + off, matrixBytes (matrix 0 (groupFmt f.gsfmt) true e.2.2 (ceilDiv f.kb grp)))] else []) ++
       (if f.cut then [(aaux + off, matrixBytes (matrix 0 .e4m3 true e.2.2 64))] else [])))

/-- Ranges a sweep reads apart from its destination: the streaming operand, records, and sieve or cutter rows (R94). -/
def mmReads (f : GridSlot) (src aaux ax2 : Nat) (wide : Bool) : List (Nat × Nat) :=
  (src, tensorBytes (streamTensor f src wide)) ::
    ((if f.usesRec then [(aaux, 16 * f.m)] else []) ++
     (if f.cut then [(ax2, 128 * f.m)] else if f.rnorm = 3 then [(ax2, 512 * f.m)] else []))

/-- Ranges a sweep writes (R94). -/
def mmWrites (f : GridSlot) (adst aaux : Nat) : List (Nat × Nat) :=
  (adst, tensorBytes (destTensor f adst)) :: (if f.rnorm = 1 ∨ f.rnorm = 3 then [(aaux, 16 * f.m)] else [])

/-- The record of a set that an MM's check sees: the latest unfinished WLOAD into it, else the set's own (R71). (DEDUCED, log 19.) -/
def recordedSet (g : Grid) (sel : Nat) : Nat × Nat × Bool :=
  match (g.ops.filter (fun o => (gridSlot o.bits).op == 2 && (gridSlot o.bits).rsel == sel)).getLast? with
  | some o => ((gridSlot o.bits).wfmt, (gridSlot o.bits).gsize, (gridSlot o.bits).cut)
  | none => let x := if sel = 0 then g.set0 else g.set1; (x.wfmt, x.gsize, x.cut)

/-- Reserved encodings of a GRID slot (R10, R23, R72, R73). (DEDUCED, log 23.) -/
def gridReserved (f : GridSlot) : Bool :=
  !(f.op == 1 || f.op == 2) || decide (9 < f.wfmt) || (decide (f.gsfmt = 3) && !(fmtD f.wfmt).isFp4) ||
  (f.op == 1 && (decide (9 < f.afmt) || decide (8 < f.ofmt) || decide (4 < f.fold) || decide (4 < f.rfn) || f.acc == 3))

/-- The shape limits of R77 and R83. -/
def gridShapeBad (g : Grid) (f : GridSlot) : Bool :=
  let east := 256 * g.u - g.westCols
  if f.op = 2 then decide (111 < f.kt) || decide (256 * g.u < f.n)
  else if f.axis then
    decide (256 * g.u < f.kb) || decide (3584 < f.n) || decide (g.westCols < min f.n 1792) || decide (east < f.n - 1792)
  else decide (g.u < f.f) || decide (111 < f.kt) || decide (256 * bandGroups g f < f.n)

/-- The check of a GRID slot, with the register values it reads: 0 when it may issue (R25, R24, R71, R74, R75, R77, R83). (DEDUCED, log 23.) -/
def checkGrid (g : Grid) (f : GridSlot) (asrc adst aw ags aaux ax2 : Nat) : Nat :=
  let wide (c : Nat) : Bool := c == 0 || c == 9
  if gridReserved f then 0x202
  else if wide f.wfmt || (f.op == 1 && wide f.afmt) then 0x403
  else if (fmtD f.wfmt).isFp4 && f.gsize != 1 then 0x403
  else if f.op = 2 then
    let west (a : Nat) : Bool := decide (potWest ≤ a) && decide (a < potEast)
    let grouped : Bool := f.gsize != 0 && !(fmtD f.wfmt).isFp4
    if ((wloadRanges g f aw ags aaux).all (fun r => r.1 % 64 == 0 && inOneStockpot r.1 r.2) && west aw && (!grouped || west ags) &&
        (!f.cut || west aaux)) = false then 0x231
    else if gridShapeBad g f then 0x230 else 0
  else if recordedSet g f.rsel ≠ (f.wfmt, f.gsize, f.cut) then 0x403
  else if ((mmReads f asrc aaux ax2 false).all (fun r => r.1 % 64 == 0 && inOneStockpot r.1 r.2) &&
      (mmWrites f adst aaux).all (fun r => r.1 % 64 == 0 && inOneStockpot r.1 r.2)) = false then 0x231
  else if (f.axis && (f.fold != 0 || f.cut || f.rnorm == 3)) || (f.rnorm == 3 && (f.rfn != 0 || f.acc != 0 || f.cut)) ||
      (f.acc == 2 && f.rnorm == 1) then 0x232
  else if gridShapeBad g f then 0x230
  else 0

/-- Bytes per source element of a SCALE load (R38). -/
def scaleElemBytes (sfmt : Nat) : Nat := if sfmt = 0 then 4 else if sfmt = 9 then 1 else 2

/-- The check of a SCALE slot: 0 when it may issue (R38, R39). -/
def checkScale (f : ScaleSlot) : Nat :=
  let load := f.op = 1 ∨ f.op = 2
  let n := f.count * scaleElemBytes f.sfmt
  if f.op = 0 ∨ 5 < f.op ∨ 9 < f.sfmt then 0x202
  else if f.op = 5 ∧ (f.first ≠ 0 ∨ f.count ≠ 1) then 0x202
  else if load ∧ f.rsvd ≠ 0 then 0x202
  else if load ∧ ¬(f.sfmt = 0 ∨ f.sfmt = 1 ∨ f.sfmt = 2 ∨ f.sfmt = 9) then 0x403
  else if ¬load ∧ f.sfmt ≠ 0 then 0x403
  else if (f.op = 1 ∨ f.op = 3) ∧ 4096 < f.first + f.count then 0x404
  else if (f.op = 2 ∨ f.op = 4) ∧ 3584 < f.first + f.count then 0x404
  else if load ∧ (f.src % 64 ≠ 0 ∨ inOneStockpot (potWest + f.src) n = false) then 0x404
  else 0

/-! ## Loading a stationary set (R66 to R68) -/

/-- The key of an element or a scale in a set. -/
def setKey (r c : Nat) : Nat := r * 4096 + c

/-- A set being loaded, whether poison was read, and the state. -/
structure SetLoad where
  set : GridSet
  bad : Bool := false
  next : State

/-- One stationary element, with its FP4 block scale at the start of each group of 32 rows. -/
def loadElem (tenant : Nat) (fmt : Fmt) (t : Tensor) (c0 : Nat) (l : SetLoad) (k c : Nat) : SetLoad :=
  let r := readElem l.next 0 tenant t [c, k]
  let x := l.set
  let key := setKey k (c0 + c)
  let x1 : GridSet := { x with elem := mapSet 0 x.elem key r.code, elemBad := mapSet false x.elemBad key r.bad }
  if fmt.isFp4 && k % 32 == 0 then
    let q := readScale r.next 0 tenant t [c, k]
    let sk := setKey (k / 32) (c0 + c)
    { set := { x1 with gscale := mapSet 0 x1.gscale sk q.code, gscaleBad := mapSet false x1.gscaleBad sk q.bad },
      bad := l.bad || r.bad || q.bad, next := q.next }
  else { set := x1, bad := l.bad || r.bad, next := r.next }

/-- One group scale of a format that keeps them apart (R67). -/
def loadGroupScale (tenant : Nat) (t : Tensor) (c0 : Nat) (l : SetLoad) (g c : Nat) : SetLoad :=
  let r := readElem l.next 0 tenant t [c, g]
  let sk := setKey g (c0 + c)
  { set := { l.set with gscale := mapSet 0 l.set.gscale sk r.code, gscaleBad := mapSet false l.set.gscaleBad sk r.bad },
    bad := l.bad || r.bad, next := r.next }

/-- One value of the cutter basis (R68). -/
def loadBasis (tenant : Nat) (t : Tensor) (c0 : Nat) (l : SetLoad) (j c : Nat) : SetLoad :=
  let r := readElem l.next 0 tenant t [c, j]
  let k := setKey j (c0 + c)
  { set := { l.set with basis := mapSet 0 l.set.basis k r.code, basisBad := mapSet false l.set.basisBad k r.bad },
    bad := l.bad || r.bad, next := r.next }

/-- Applying `f` to every (row, column) of a block, row by row. -/
def overBlock (rows cols : Nat) (f : SetLoad → Nat → Nat → SetLoad) (l : SetLoad) : SetLoad :=
  (List.range rows).foldl (fun l k => (List.range cols).foldl (fun l c => f l k c) l) l

/-- Loading one die's share of a block: its elements, group scales and basis. -/
def loadShare (f : GridSlot) (aw ags aaux tenant : Nat) (l : SetLoad) (e : Nat × Nat × Nat) : SetLoad :=
  let off := e.1 * eastStep
  let fmt := fmtD f.wfmt
  let grp := groupOf f.gsize
  let l1 := overBlock f.kb e.2.2 (loadElem tenant fmt (matrix (aw + off) fmt true e.2.2 f.kb) e.2.1) l
  let l2 :=
    if grp ≠ 0 ∧ fmt.isFp4 = false then
      let rows := ceilDiv f.kb grp
      overBlock rows e.2.2 (loadGroupScale tenant (matrix (ags + off) (groupFmt f.gsfmt) true e.2.2 rows) e.2.1) l1
    else l1
  if f.cut then overBlock 64 e.2.2 (loadBasis tenant (matrix (aaux + off) .e4m3 true e.2.2 64) e.2.1) l2 else l2

/-- The set a WLOAD leaves: its block from row 0 and column 0, zero in every other register, and its record (R66). -/
def loadSet (s : State) (f : GridSlot) (aw ags aaux tenant : Nat) : SetLoad :=
  let fresh : GridSet :=
    { wfmt := f.wfmt, gsize := f.gsize, gsfmt := f.gsfmt, cut := f.cut, kt := f.kt, nt := f.nt, aw := aw, ags := ags,
      aaux := aaux }
  (s.grid.shares f.n).foldl (loadShare f aw ags aaux tenant) { set := fresh, next := s }

/-- The slot fields a set's reload uses (R97). -/
def setSlot (x : GridSet) (f : GridSlot) : GridSlot :=
  { f with op := 2, wfmt := x.wfmt, gsize := x.gsize, gsfmt := x.gsfmt, cut := x.cut, kt := x.kt, nt := x.nt }

/-! ## Sums in the array -/

/-- The value of a stationary register. -/
def GridSet.weight (x : GridSet) (r c : Nat) : Num := (fmtD x.wfmt).decode (mapGet 0 x.elem (setKey r c))

/-- The value of a group scale of a set: FP4 block scales in the kind WFMT names (R24). -/
def GridSet.group (x : GridSet) (g c : Nat) : Num :=
  let code := mapGet 0 x.gscale (setKey g c)
  if (fmtD x.wfmt).isFp4 then blockScale (fmtD x.wfmt) code else groupScale x.gsfmt code

/-- Whether column c holds a register loaded from poison in its first rows. -/
def GridSet.colBad (x : GridSet) (rows c : Nat) : Bool :=
  x.elemBad.any (fun e => e.1 % 4096 == c && decide (e.1 / 4096 < rows)) ||
  x.gscaleBad.any (fun e => e.1 % 4096 == c && decide (e.1 / 4096 * groupOf x.gsize < rows))

/-- Whether row r holds a register loaded from poison in its first columns. -/
def GridSet.rowBad (x : GridSet) (cols r : Nat) : Bool :=
  x.elemBad.any (fun e => e.1 / 4096 == r && decide (e.1 % 4096 < cols)) ||
  (groupOf x.gsize != 0 && x.gscaleBad.any (fun e => e.1 / 4096 == r / groupOf x.gsize && decide (e.1 % 4096 < cols)))

/-- The exact products of a run of streaming elements, their own scales aside, and stationary values. -/
def pairProducts (ps : List (Elem × Num)) : List Num := ps.map (fun p => p.1.val.mul p.2)

/-- The scale of a run's first element. -/
def runScale : List (Elem × Num) → Num
  | [] => .one
  | p :: _ => p.1.scale

/-- The sum of one group: with FP4 streaming and groups over 32, each 32-product part takes its block scale before it joins
(R29, R30). -/
def groupSum (fp4 : Bool) (g : Nat) (ps : List (Elem × Num)) : Num :=
  if fp4 && decide (32 < g) then
    (chunks 32 ps).foldl (fun acc c => add32 acc (mul32 (runScale c) (sum32 (pairProducts c)))) .zero
  else sum32 (pairProducts ps)

/-- The accumulation of R29 over groups: each group's sum times its exact scale, rounded once, then added. -/
def groupsSum (fp4 : Bool) (g : Nat) (gs : Nat → Num) : Nat → Num → List (List (Elem × Num)) → Num
  | _, acc, [] => acc
  | i, acc, c :: rest =>
    let sc := (gs i).mul (if fp4 && g == 32 then runScale c else .one)
    groupsSum fp4 g gs (i + 1) (add32 acc (mul32 sc (groupSum fp4 g c))) rest

/-- One band's sum for one output (R27 to R30); `g` is the group size, 0 for none. -/
def bandSum (fp4 : Bool) (g : Nat) (gs : Nat → Num) (ps : List (Elem × Num)) : Num :=
  if g = 0 then
    if fp4 then groupsSum fp4 32 (fun _ => .one) 0 .zero (chunks 32 ps) else sum32 (pairProducts ps)
  else groupsSum fp4 g gs 0 .zero (chunks g ps)

/-- The pairwise tree of R79, in ascending band order. (DEDUCED, log 18.) -/
def pairUp : List Num → List Num
  | a :: b :: rest => add32 a b :: pairUp rest
  | xs => xs

/-- Folding the tree's levels; F is at most 16. (DEDUCED, log 18.) -/
def treeSum : Nat → List Num → Num
  | 0, xs => xs.headD .zero
  | n + 1, xs => treeSum n (pairUp xs)

/-- Output n of a normal sweep: each band's sum and their tree (R78, R79). -/
def normalOut (x : GridSet) (f : GridSlot) (fp4 : Bool) (bandCols : Nat) (vec : List Elem) (n : Nat) : Num :=
  treeSum f.fold ((List.range f.f).map (fun b =>
    let c := bandCols * b + n
    bandSum fp4 (groupOf x.gsize) (fun g => x.group g c)
      (((vec.drop (b * f.kb)).take f.kb).zip ((List.range f.kb).map (fun k => x.weight k c)))))

/-- Output m of a transposed sweep: each stationary value times its group scale, the west half-sum, then the east. Sums travel to the bridge
edge of their die, so the east die's run from its last column down to its first (R31, R81, R82). (DEDUCED, log 18.) -/
def transposedOut (x : GridSet) (f : GridSlot) (fp4 : Bool) (west : Nat) (vec : List Elem) (m : Nat) : Num :=
  let grp := groupOf x.gsize
  let ws := (List.range f.kb).map (fun j => if grp = 0 then x.weight m j else (x.weight m j).mul (x.group (m / grp) j))
  let ps := vec.zip ws
  add32 (bandSum fp4 0 (fun _ => .one) (ps.take west)) (bandSum fp4 0 (fun _ => .one) (ps.drop west).reverse)

/-! ## The rim (R43, R84 to R90) -/

/-- Division of two values, rounded once to FP32; used for means, 1 / l and 1 / sqrt arguments. -/
def div32 : Num → Num → Num
  | .nan _, _ => .qnan
  | _, .nan _ => .qnan
  | .inf _, .inf _ => .qnan
  | .inf s, .fin t _ _ => .inf (s != t)
  | .fin s _ _, .inf t => .fin (s != t) 0 0
  | .fin s m e, .fin t n f =>
    if n = 0 then (if m = 0 then .qnan else .inf (s != t))
    else match roundFp shapeFp32 m n (e - f) with
      | some c => fpMag shapeFp32 (s != t) c
      | none => .inf (s != t)

def sub32 (a b : Num) : Num := add32 a b.neg

/-- Substage 4, the activation named by RFN (R72). -/
def activation (rfn : Nat) (v : Num) : Num :=
  match rfn with
  | 0 => v
  | 1 => Num.max v .zero
  | 2 => rimSilu v
  | 3 => rimGelu v
  | _ => rimExp v

def negInf : Num := .inf true

/-- exp(a − m), and 1.0 where m is −infinity (R87, R173). -/
def rescale (exp : Num → Num) (a m : Num) : Num := if m = negInf then .one else exp (sub32 a m)

/-- What the rim reads for one vector: the destination's old values and the record, with their marks, the sieve bits and
the cutter's products. -/
structure RimIn where
  oldDst : List (Num × Bool) := []
  record : List Nat := [0, 0, 0, 0]
  recBad : Bool := false
  sieve : List Bool := []
  sieveBad : Bool := false
  cutter : List Num := []
  cutterBad : Bool := false

/-- What the rim yields for one vector: values before the output conversion, with poison, and the record it leaves. -/
structure RimOut where
  vals : List (Num × Bool)
  record : Option (List Nat × Bool) := none

def recWord (r : List Nat) (i : Nat) : Num := ofFp32 (BitVec.ofNat 32 (r.getD i 0))

/-- The cutter offset of output n: products exact, summed in ascending j (R88). -/
def cutterOffset (x : GridSet) (cs : List Num) (n : Nat) : Num :=
  sum32 ((List.range 64).map (fun j => (cs.getD j .zero).mul (Fmt.e4m3.decode (mapGet 0 x.basis (setKey j n)))))

/-- Substages 1 to 4 for output n, after the column or row scale (R84, R85). -/
def rimValue (x : GridSet) (f : GridSlot) (i : RimIn) (n : Nat) (v : Num) : Num :=
  let v1 :=
    if f.acc = 1 then add32 v (i.oldDst.getD n (.zero, false)).1
    else if f.acc = 2 then add32 v (mul32 (i.oldDst.getD n (.zero, false)).1 (recWord i.record 2))
    else v
  let v2 := if f.cut then add32 v1 (cutterOffset x i.cutter n) else v1
  let v3 := if f.rnorm = 2 then mul32 v2 (recWord i.record 3) else v2
  activation f.rfn v3

/-- STAT: the record it leaves (R86). -/
def statRecord (eps : Num) (rec : List Nat) (vs : List Num) : List Nat :=
  let w0 := add32 (recWord rec 0) (sum32 vs)
  let w1 := add32 (recWord rec 1) (sum32 (vs.map (fun v => mul32 v v)))
  let w2 := add32 (recWord rec 2) (.fin false vs.length 0)
  let w3 := rimRsqrt (add32 (div32 w1 w2) eps)
  [w0, w1, w2, w3].map (fun v => (toFp32 v).toNat)

/-- SOFTMAX: the probabilities and the record it leaves (R87). -/
def softmaxVector (i : RimIn) (vs : List Num) : List Num × List Nat :=
  let sv := (vs.zip (List.range vs.length)).map (fun p => if i.sieve.getD p.2 true then p.1 else negInf)
  let b := sv.foldl Num.max negInf
  let m2 := Num.max (recWord i.record 0) b
  let c := rescale rimExp (recWord i.record 0) m2
  let ps := sv.map (fun v => if v = negInf then .zero else rimExp (sub32 v m2))
  let l2 := add32 (mul32 (recWord i.record 1) c) (sum32 ps)
  let w3 := if l2.isZero then .zero else div32 .one l2
  (ps, [m2, l2, c, w3].map (fun v => (toFp32 v).toNat))

/-- The rim for one vector: `accs` are the array's sums with their poison, `sc` the column or row scales with theirs. -/
def rimVector (x : GridSet) (f : GridSlot) (eps : Num) (sc : Nat → Num × Bool) (out : Num × Bool) (i : RimIn)
    (accs : List (Num × Bool)) : RimOut :=
  let pre := (accs.zip (List.range accs.length)).map (fun p =>
    let n := p.2
    let bad := p.1.2 || (sc n).2 || (f.acc != 0 && (i.oldDst.getD n (.zero, false)).2) ||
      (i.recBad && (f.acc == 2 || f.rnorm == 2)) || (f.cut && (i.cutterBad || x.basisBad.any (fun b => b.1 % 4096 == n)))
    (rimValue x f i n (mul32 p.1.1 (sc n).1), bad))
  let anyBad := pre.any (·.2)
  let fin (vs : List (Num × Bool)) := vs.map (fun v => (mul32 v.1 out.1, v.2 || out.2))
  if f.rnorm = 1 then
    { vals := fin pre, record := some (statRecord eps i.record (pre.map (·.1)), anyBad || i.recBad) }
  else if f.rnorm = 3 then
    let (ps, r) := softmaxVector i (pre.map (·.1))
    let bad := anyBad || i.recBad || i.sieveBad
    { vals := fin (ps.map (fun p => (p, bad))), record := some (r, bad) }
  else { vals := fin pre }

/-! ## Output conversion (R33 to R36, R44) -/

/-- Converted outputs of one vector: codes with poison, FP4 scales with poison, and the counts over outputs that are not
poisoned. -/
structure Converted where
  codes : List (Nat × Bool) := []
  scales : List (Nat × Bool) := []
  sats : Nat := 0
  nonfinites : Nat := 0

/-- Conversion of the outputs of one vector in blocks of 32. -/
def convertVector (t : Fmt) (vs : List (Num × Bool)) : Converted :=
  (chunks 32 vs).foldl (fun (c : Converted) b =>
    let r := convBlock t (b.map (fun v => if v.2 then .zero else v.1))
    { codes := c.codes ++ r.codes.zip (b.map (·.2)),
      scales := c.scales ++ (match r.scale with
        | some x => [(x, b.any (·.2))]
        | none => []),
      sats := c.sats + r.sats, nonfinites := c.nonfinites + r.nonfinites }) {}

/-- The edits that write the codes of one line (x0 from 0, x1 fixed) of a tensor. -/
def editLine (t : Tensor) (x1 : Nat) (c : Converted) (m : Map WordEdit) : Map WordEdit :=
  let m1 := (c.codes.zip (List.range c.codes.length)).foldl (fun m p =>
    editBits m (8 * t.base + elemBit t [p.2, x1]) t.bits p.1.1 p.1.2) m
  (c.scales.zip (List.range c.scales.length)).foldl (fun m p =>
    editBits m (8 * (t.base + scaleByte t [32 * p.2, x1])) 8 p.1.1 p.1.2) m1

end Sys2Proof.Machine
end

