-- ==== Sys2Proof/Machine/LadleMath.lean ====
section
/-!
DEFINITION. What a ladle slot reads, computes and writes (R147 to R186, R196, R197), and the check of a LADLE slot (R164).
-/

namespace Sys2Proof.Machine

/-! ## Rows as ladles name them (R115, R236) -/

/-- The storage that serves a bank's row for the ladles: a retired frame's rows lie in its donor. The third component says
that the row belongs to a donor, which answers FRAME_RETIRED. -/
def ladleTarget (x : Stack) (p row : Nat) : Nat × Nat × Bool :=
  match offsetOfRow x p row with
  | none => (p, row, false)
  | some o =>
    let f := o / frameBytes
    let place := physOf x (servedBy x f * frameBytes + o % frameBytes)
    (place.1, place.2.1, isDonor x f)

/-- Device global address of a bank's row. -/
def rowAddr (s : State) (st p row : Nat) : Nat := st * 2 ^ 37 + (offsetOfRow (s.stack st) p row).getD 0

/-- A ladle slot in execution: counters, status and state. -/
structure LRun where
  st : Nat
  op : Nat
  tenant : Nat
  status : Nat := 0
  sats : Nat := 0
  nonfinites : Nat := 0
  /-- Function tables of the slot's issue that have been written since (R201). -/
  old : Map (List Byte) := []
  /-- Corrected words of each row operation, by bank·2^15 + row (R154). -/
  corr : Map Nat := []
  next : State

/-- What a slot does in one bank: its row operations, and the rows it works on. -/
structure BankWork where
  bank : Nat
  ops : Nat
  i : Nat := 0
  rows : List (Nat × Nat) := []
  slices : Bool := true

def LRun.reader (r : LRun) : Nat := 1 + r.st
def LRun.fail (r : LRun) (code : Nat) : LRun := { r with status := firstStatus r.status code }

/-- A ladle meets a poisoned or uncorrectable word (R196). -/
def notePoison (r : LRun) (p row w : Nat) : LRun :=
  let s1 := r.next.updLadle r.st (fun l =>
    { l with poisons := sat64 l.poisons 1, lastValid := true, lastBank := p, lastRow := row, lastWord := w, lastOp := r.op })
  { r.fail 0x301 with next := bump (bump s1 0x2300 7 1) (0x2310 + r.st) 4 1 }

/-- A ladle reads one word of a row: the bits, and whether it is poison. Outside a TEST frame corrected words are written back
and counted (R154, R214, R244). -/
def readCellWord (r : LRun) (p row w : Nat) : Nat × Bool × LRun :=
  let (q, row', donor) := ladleTarget (r.next.stack r.st) p row
  if donor then (0, false, r.fail 0x321)
  else
    let l := loadCell r.next r.st q row' w r.reader (rowAddr r.next r.st p row + 32 * w) r.tenant
    let r1 := { r with next := l.next }
    if l.poison then (0, true, notePoison r1 p row w)
    else if l.cls = 1 ∧ inTest (r.next.stack r.st) q row' = false then
      (l.data.toNat, false,
        { r1 with
          corr := mapUpd 0 r1.corr (p * 32768 + row) (fun n => n + 1)
          next := bump (r1.next.updLadle r.st (fun x => { x with corrected := sat64 x.corrected 1 })) (0x2310 + r.st) 3 1 })
    else (l.data.toNat, false, r1)

/-- Words of a row from `w`, `n` of them. -/
def readRowWords (r : LRun) (p row w : Nat) : Nat → List (Nat × Bool) × LRun
  | 0 => ([], r)
  | n + 1 =>
    let (v, bad, r1) := readCellWord r p row w
    let (t, r2) := readRowWords r1 p row (w + 1) n
    ((v, bad) :: t, r2)

/-- Rows of a bank from `row`, the first words of each: as many as the list says. -/
def readRows (r : LRun) (p row : Nat) : List Nat → List (List (Nat × Bool)) × LRun
  | [] => ([], r)
  | words :: rest =>
    let (v, r1) := readRowWords r p row 0 words
    let (t, r2) := readRows r1 p (row + 1) rest
    (v :: t, r2)

/-- The rows of a bank whose words a ladle corrected more than two of: each takes one more row operation (R154). -/
def LRun.extraOps (r : LRun) (p : Nat) : Nat := (r.corr.filter (fun e => e.1 / 32768 == p && decide (2 < e.2))).length

/-- What a ladle's registers hold after its work (R147). -/
def setRegs (r : LRun) (p : Nat) (f : LadleRegs → LadleRegs) : LRun :=
  { r with next := r.next.updLadle r.st (fun l => { l with regs := mapUpd {} l.regs p f }) }

/-- A ladle writes one whole re-encoded word (R184, R194), or poison. -/
def writeCellWord (r : LRun) (p row w v : Nat) (bad : Bool) : LRun :=
  let (q, row', donor) := ladleTarget (r.next.stack r.st) p row
  if donor then r.fail 0x321
  else
    let c := if bad then poisonWord else encode288 (BitVec.ofNat 256 v)
    let s1 := storeCell r.next r.st q row' w c
    { r with next := if bad then bump s1 (0x2220 + r.st) 3 1 else s1 }

/-- Element j of a word in a format. -/
def wordElem (f : Fmt) (v j : Nat) : Num := f.decode (v / 2 ^ (j * f.bits) % 2 ^ f.bits)

/-- Element x of a row whose words are given. -/
def rowElem (f : Fmt) (ws : List (Nat × Bool)) (x : Nat) : Num × Bool :=
  let per := 256 / f.bits
  let w := ws.getD (x / per) (0, false)
  (wordElem f w.1 (x % per), w.2)

/-! ## The ladle buffer and global results -/

/-- First address of a stack's ladle buffer (R199). -/
def bufferBase (st : Nat) : Nat := ecsBase + 0x100000 * (1 + st) + 0x40000

/-- Elements of a vector in a format from a byte address; FP4 never occurs in a vector operand (R164). -/
def readVec (r : LRun) (f : Fmt) (a n : Nat) : List (Num × Bool) × LRun :=
  let (vs, s1) := readRunBits r.next r.reader r.tenant (8 * a) f.bits n
  (vs.map (fun v => (f.decode v.1, v.2)), { r with next := s1 })

/-- Bytes of the buffer or of memory, as numbers, with one poison flag. -/
def readMem (r : LRun) (a n : Nat) : List Nat × Bool × LRun :=
  let l := loadBytes r.next r.reader r.tenant a n
  (l.bytes.map (·.toNat), l.poisoned, { r with next := l.next, status := firstStatus r.status l.status })

/-- A little-endian number among bytes. -/
def leAt (bs : List Nat) (o n : Nat) : Nat := (List.range n).foldr (fun k acc => bs.getD (o + k) 0 + 256 * acc) 0

/-- The FP32 value among bytes. -/
def fp32At (bs : List Nat) (o : Nat) : Num := ofFp32 (BitVec.ofNat 32 (leAt bs o 4))

/-- Bytes of the buffer or of memory, each with its poison mark. -/
def readMarked (r : LRun) (a n : Nat) : List (Nat × Bool) × LRun :=
  let l := loadBytes r.next r.reader r.tenant a n
  ((l.bytes.map (·.toNat)).zip l.marks, { r with next := l.next, status := firstStatus r.status l.status })

/-- Partial i of a fold reaches the merge memory as whole words: record after record, the addresses wrapping (R147, R169, R203).
(DESIGN CHOICE, log 134.) -/
def notePartial (r : LRun) (i : Nat) (vs : List (Num × Bool)) : LRun :=
  let n := ceilDiv vs.length 8
  let put (s : State) (k : Nat) : State :=
    let part := (vs.drop (8 * k)).take 8
    let v := part.foldr (fun e acc => (toFp32 e.1).toNat + 2 ^ 32 * acc) 0
    let c := if part.any (·.2) then poisonWord else encode288 (BitVec.ofNat 256 v)
    { s with merges := mapSet 0 s.merges (r.st * 32768 + (i * n + k) % 32768) c }
  { r with next := (List.range n).foldl put r.next }

/-- Applying edits of memory words; poison among them is what the slot met already. -/
def applyMem (r : LRun) (m : Map WordEdit) : LRun :=
  let q := applyEdits r.next r.reader r.tenant m
  { r with next := q.next, status := firstStatus r.status q.status }

/-- A ladle writes part of a word of a row: a narrow write, counted (R217, R218, R244). -/
def mergeCellWord (r : LRun) (p row w : Nat) (e : WordEdit) : LRun :=
  let (q, row', donor) := ladleTarget (r.next.stack r.st) p row
  if donor then r.fail 0x321
  else
    let l := loadCell r.next r.st q row' w r.reader (rowAddr r.next r.st p row + 32 * w) r.tenant
    let r1 := { r with next := bump l.next (0x2220 + r.st) 4 1 }
    if l.poison then
      let r2 := r1.fail 0x320
      if inTest (r.next.stack r.st) q row' then r2 else writeCellWord r2 p row w 0 true
    else writeCellWord r1 p row w (l.data.toNat - (l.data.toNat &&& e.mask) + e.val) false

/-- Applying edits of a bank's words, keyed row·64 + word, as row operations. -/
def applyBank (r : LRun) (p : Nat) : Map WordEdit → LRun
  | [] => r
  | (k, e) :: rest =>
    let row := k / 64
    let w := k % 64
    applyBank (
      if e.poison then writeCellWord r p row w 0 true
      else if e.mask = 2 ^ 256 - 1 then writeCellWord r p row w e.val false
      else mergeCellWord r p row w e) p rest

/-- Bit offset of element x of a dense stream in a format, FP4 in the vector form of R256; and the byte of its scale. -/
def streamBit (f : Fmt) (x : Nat) : Nat := if f.isFp4 then 8 * (x / 1024 * 544) + x % 1024 * 4 else x * f.bits
def streamScaleByte (x : Nat) : Nat := x / 1024 * 544 + 512 + x / 32 % 32

/-- Bytes of a dense stream of n elements. -/
def streamBytes (f : Fmt) (n : Nat) : Nat := if f.isFp4 then ceilDiv n 1024 * 544 else (n * f.bits + 7) / 8

/-- Edits that write converted elements from index x of a stream based at bit `base`. -/
def editStream (f : Fmt) (base x : Nat) (c : Converted) (m : Map WordEdit) : Map WordEdit :=
  let m1 := (c.codes.zip (List.range c.codes.length)).foldl (fun m p =>
    editBits m (base + streamBit f (x + p.2)) f.bits p.1.1 p.1.2) m
  (c.scales.zip (List.range c.scales.length)).foldl (fun m p =>
    editBits m (base + 8 * streamScaleByte (x + 32 * p.2)) 8 p.1.1 p.1.2) m1

/-- Counting what a conversion saturated. -/
def LRun.count (r : LRun) (c : Converted) : LRun :=
  { r with sats := r.sats + c.sats, nonfinites := r.nonfinites + c.nonfinites }

/-- Whether any output is poison: the slot then completes with POISON_READ (R196, R197). -/
def LRun.mark (r : LRun) (bad : Bool) : LRun := if bad then r.fail 0x301 else r

/-- A list of outputs converted and written densely at an address, its counts kept. -/
def writeOut (r : LRun) (f : Fmt) (a x : Nat) (vs : List (Num × Bool)) : LRun :=
  let c := convertVector f vs
  applyMem ((r.count c).mark (vs.any (·.2))) (editStream f (8 * a) x c [])

/-- FP32 values written as they are, never converted: partials and records (R163, R179, R419). -/
def writeRaw (r : LRun) (a x : Nat) (vs : List (Num × Bool)) : LRun :=
  applyMem (r.mark (vs.any (·.2))) ((vs.zip (List.range vs.length)).foldl (fun m p =>
    editBits m (8 * a + 32 * (x + p.2)) 32 (toFp32 p.1.1).toNat p.1.2) [])

/-! ## Functions (R178) -/

/-- ⌊v⌋ of a finite value; 0 for a NaN or an infinity. -/
def floorOf : Num → Int
  | .fin s m e =>
    let v : Int := if s then -(m : Int) else m
    let up : Nat := 2 ^ e.toNat
    let down : Nat := 2 ^ (-e).toNat
    if 0 ≤ e then v * (up : Int) else v.fdiv (down : Int)
  | _ => 0

/-- 2^k as a value. -/
def pow2 (k : Int) : Num := .fin false 1 k
def natNum (n : Nat) : Num := .fin false n 0
def intNum (i : Int) : Num := .fin (decide (i < 0)) i.natAbs 0

/-- Table entry i of a function table: base and slope (R178). -/
def tableEntry (t : List Byte) (i : Nat) : Num × Num :=
  let w (o : Nat) : Num := ofFp32 (BitVec.ofNat 32 (leNat ((t.drop o).take 4)))
  (w (8 * i), w (8 * i + 4))

/-- base + slope × x, each operation rounded once. -/
def tableLine (t : List Byte) (i : Nat) (x : Num) : Num :=
  let e := tableEntry t i
  add32 e.1 (mul32 e.2 x)

/-- x × 1.442695 rounded once to FP32. -/
def timesLog2e : Num → Num
  | .fin s m e => match roundFp shapeFp32 (m * 1442695) 1000000 e with
    | some c => fpMag shapeFp32 s c
    | none => .inf s
  | v => v

/-- EXP of R178 on a table. -/
def tableExp (t : List Byte) (x : Num) : Num :=
  match timesLog2e x with
  | .nan _ => .qnan
  | .inf s => if s then .zero else .inf false
  | y =>
    if Num.lt y (intNum (-150)) then .zero
    else if !(Num.lt y (natNum 128)) then .inf false
    else
      let n := floorOf y
      let f := y.add (intNum n).neg
      let i := (floorOf (f.mul (natNum 256))).toNat
      mul32 (pow2 n) (tableLine t i (f.add ((natNum i).mul (pow2 (-8))).neg))

/-- SILU and GELU of R178 on a table. -/
def tableBump (t : List Byte) (x : Num) : Num :=
  match x with
  | .nan _ => .qnan
  | _ =>
    if Num.lt x (intNum (-8)) then .zero
    else if !(Num.lt x (natNum 8)) then x
    else
      let i := (floorOf ((x.add (natNum 8)).mul (natNum 16))).toNat
      tableLine t i (x.add (((natNum i).mul (pow2 (-4))).add (intNum (-8))).neg)

/-- The function table that slots issued now use: a write applies to slots issued after the next step boundary (R201). -/
def tableOf (s : State) (sub : Nat) : List Byte :=
  match s.svc.oldTables.find? (fun e => e.1 == sub) with
  | some e => e.2
  | none => bget s 0x2320 sub

/-- The function table of a slot: the one in force at its issue. -/
def LRun.table (r : LRun) (sub : Nat) : List Byte :=
  match r.old.find? (fun e => e.1 == sub) with
  | some e => e.2
  | none => tableOf r.next sub
def expTable (r : LRun) : List Byte := r.table 1
def siluTable (r : LRun) : List Byte := r.table 2
def geluTable (r : LRun) : List Byte := r.table 3

/-- Integer square root by bits from the highest, `n` of them. -/
def isqrtAux : Nat → Nat → Nat → Nat
  | 0, _, r => r
  | n + 1, v, r => if (r + 2 ^ n) * (r + 2 ^ n) ≤ v then isqrtAux n v (r + 2 ^ n) else isqrtAux n v r

/-- Square root rounded once to FP32: 64 bits of root and a sticky bit decide the rounding. -/
def sqrt32 : Num → Num
  | .nan _ => .qnan
  | .inf s => if s then .qnan else .inf false
  | .fin s m e =>
    if m = 0 then .fin s 0 0
    else if s then .qnan
    else
      let k : Nat := if e % 2 = 0 then 128 else 129
      let v := m * 2 ^ k
      let r := isqrtAux (v.log2 / 2 + 1) v 0
      round32 (.fin false (2 * r + (if r * r = v then 0 else 1)) ((e - k) / 2 - 1))

/-! ## GEMV4 (R157 to R159, R167 to R169) -/

/-- Nw, outputs per weight row (R157). -/
def outputsPerRow (f : Fmt) : Nat := 256 / f.bits

/-- S, weight rows per run (R158). -/
def rowsPerRun (f : Fmt) (g sb : Nat) : Nat := 32 * g / (outputsPerRow f * sb)

/-- Bytes of a group scale; the block scales of FP4 are one byte. -/
def scaleBytes (f : Fmt) (gsfmt : Nat) : Nat := if f.isFp4 then 1 else if gsfmt = 2 then 2 else 1

/-- W_b, the weight rows among `rows` rows: the number that R167 matches, none where it matches none. -/
def weightRows (f : Fmt) (g gsfmt rows : Nat) : Option Nat :=
  if g = 0 then some rows
  else
    let sr := rowsPerRun f g (scaleBytes f gsfmt)
    (List.range (rows + 1)).find? (fun w => decide (0 < w) && decide (w + ceilDiv w sr = rows) && 64 * w % g == 0)

/-- Physical row offset of weight row `wr`, and of its scale row (R158). (DEDUCED, log 26.) -/
def weightRowAt (sr wr : Nat) : Nat := wr + wr / sr + 1
def scaleRowAt (sr wr : Nat) : Nat := wr / sr * (sr + 1)

/-- The columns read of each row of a bank: 64 of a weight row, of a scale row as many as its run's weight rows need (R159). -/
def gemvColumns (f : LadleSlot) (wb : Nat) : List Nat :=
  let wf := fmtD f.wfmt
  let g := groupOf f.gsize
  let sb := scaleBytes wf f.gsfmt
  let sr := rowsPerRun wf g sb
  (List.range f.nrow).map (fun n =>
    if g = 0 ∨ n % (sr + 1) ≠ 0 then 64
    else min 64 (ceilDiv (ceilDiv (64 * min sr (wb - n / (sr + 1) * sr)) g * outputsPerRow wf * sb) 32))

/-- One bank's part sums for all vectors: for vector q and output j (below Nw), with one poison flag for the whole block. (DEDUCED, log 26.) -/
def gemvBank (f : LadleSlot) (r : LRun) (i : Nat) (vecs : List (List Num)) : List (List Num) × Bool × LRun :=
  let wf := fmtD f.wfmt
  let g := groupOf f.gsize
  let sb := scaleBytes wf f.gsfmt
  let sr := rowsPerRun wf g sb
  let wb := (weightRows wf g f.gsfmt f.nrow).getD 0
  let nw := outputsPerRow wf
  let (rows, r1) := readRows r (f.bank i) f.row0 (gemvColumns f wb)
  let bad := rows.any (fun ws => ws.any (·.2))
  let part := i % 2 ^ f.kspl
  let wval (wr w j : Nat) : Num :=
    wordElem wf ((rows.getD (if g = 0 then wr else weightRowAt sr wr) []).getD w (0, false)).1 j
  let gval (j gi : Nat) : Num :=
    -- group gi of the bank: its run, and its place in the run's scale row
    let wr := gi * g / 64
    let inRun := (gi * g - wr / sr * sr * 64) / g
    let bits := 8 * sb
    let ws := rows.getD (scaleRowAt sr wr) []
    let o := (inRun * nw + j) * sb
    let c := (ws.getD (o / 32) (0, false)).1 / 2 ^ (8 * (o % 32)) % 2 ^ bits
    if wf.isFp4 then blockScale wf c else groupScale f.gsfmt c
  let kb := 64 * wb
  let sums := vecs.map (fun v =>
    (List.range nw).map (fun j =>
      bandSum false g (gval j)
        ((List.range kb).map (fun k => (({ val := v.getD (part * kb + k) .zero } : Elem), wval (k / 64) (k % 64) j)))))
  let scale := if g = 0 then [] else ((rows.getD (scaleRowAt sr (wb - 1)) []).map (·.1))
  (sums, bad, setRegs r1 (f.bank i) (fun _ =>
    { latch := vecs.flatMap (fun v => ((v.drop (part * kb + kb - 64)).take 64).map (fun x => (convert (fmtD f.vfmt) x).code)),
      acc := sums.flatten.map (fun x => (toFp32 x).toNat), rowLatch := scale }))

/-- The finishing of R169: channel scale, conversion and write of output n of vector q. -/
def finishOutputs (r : LRun) (f : LadleSlot) (adst aaux total : Nat) (q n0 : Nat) (vs : List (Num × Bool)) : LRun :=
  if f.omode = 3 then writeRaw r adst (q * total + n0) vs
  else
    let (sc, r1) := if aaux = 0 then ([], r) else readVec r .fp32 (aaux + 4 * n0) vs.length
    let out := (vs.zip (List.range vs.length)).map (fun p =>
      if aaux = 0 then p.1
      else
        let c := sc.getD p.2 (.one, false)
        (mul32 p.1.1 c.1, p.1.2 || c.2))
    writeOut r1 (fmtD f.ofmt) adst (q * total + n0) out

/-- GEMV4 over all banks. -/
def runGemv4 (f : LadleSlot) (avec adst aaux : Nat) (r : LRun) : LRun :=
  let wf := fmtD f.wfmt
  let vf := fmtD f.vfmt
  let p := 2 ^ f.kspl
  let wb := (weightRows wf (groupOf f.gsize) f.gsfmt f.nrow).getD 0
  let k := 64 * wb * p
  let nw := outputsPerRow wf
  let total := nw * (f.nbank / p)
  let (flat, r1) := readVec r vf avec (f.q * k)
  let vbad := flat.any (·.2)
  let vecs := chunks k (flat.map (·.1))
  (List.range (f.nbank / p)).foldl (fun r b =>
    let parts := (List.range p).foldl (fun (acc : List (List (List Num)) × Bool × LRun) i =>
      let (s, bad, r') := gemvBank f acc.2.2 (b * p + i) vecs
      (acc.1 ++ [s], acc.2.1 || bad, notePartial r' (b * p + i) (s.flatten.map (fun v => (v, bad || vbad))))) ([], vbad, r)
    (List.range f.q).foldl (fun r q =>
      let outs := (List.range nw).map (fun j =>
        match parts.1.map (fun s => (s.getD q []).getD j .zero) with
        | [] => (Num.zero, parts.2.1)
        | a :: rest => (rest.foldl add32 a, parts.2.1))
      finishOutputs r f adst aaux total q (b * nw) outs) parts.2.2) r1

/-! ## Attention (R170 to R175, R400, R419) -/

/-- Positions per row (R170). -/
def posPerRow (d : Nat) (f : Fmt) : Nat := 2048 * 8 / (d * f.bits)

/-- A page partial: m, l and acc per query, with poison. -/
structure AttRec where
  m : List Num
  l : List Num
  acc : List (List Num)
  bad : Bool := false

def emptyRec (q d : Nat) : AttRec :=
  { m := List.replicate q negInf, l := List.replicate q .zero, acc := List.replicate q (List.replicate d .zero) }

/-- The fold of R174. (DEDUCED, log 25.) -/
def foldRec (exp : Num → Num) (a b : AttRec) : AttRec :=
  let one (i : Nat) : Num × Num × List Num :=
    let ma := a.m.getD i negInf
    let mb := b.m.getD i negInf
    let m := Num.max ma mb
    -- each factor looks at its own record's maximum
    let ca := if ma = negInf then Num.one else exp (sub32 ma m)
    let cb := if mb = negInf then Num.one else exp (sub32 mb m)
    (m, add32 (mul32 (a.l.getD i .zero) ca) (mul32 (b.l.getD i .zero) cb),
      ((a.acc.getD i []).zip (b.acc.getD i [])).map (fun p => add32 (mul32 p.1 ca) (mul32 p.2 cb)))
  let rs := (List.range a.m.length).map one
  { m := rs.map (·.1), l := rs.map (·.2.1), acc := rs.map (·.2.2), bad := a.bad || b.bad }

/-- Whether a page frame lies in a designated segment (R394, R400). -/
def designated (s : State) (frame : Nat) : Bool :=
  let st := frame / 2 ^ 37
  let seg := frame % 2 ^ 37 / 2 ^ 30
  decide (st < 8) && (if seg < 64 then bitOf (dget s (0x2340 + st) 1) seg else bitOf (dget s (0x2340 + st) 2) (seg - 64))

/-- Whether an address lies in the key-value metadata range (R399). -/
def inMeta (s : State) (a n : Nat) : Bool := overlaps a n (dget s 0x2330 1) (dget s 0x2330 2)

/-- The frame address and RO bit of a page-list entry; none when it is not VALID (R398). -/
def pageOf (e : Nat) : Option (Nat × Bool) := if bitOf e 63 then some (bitsOf e 39 16 * 65536, bitOf e 62) else none

/-- Scores of one key row for one query: R173's first two lines; excluded positions read −infinity. A score is poison where its
sieve bit, its query or, unless the sieve excludes it, its key is. -/
def rowScores (sscale : Num) (qv keys : List (Num × Bool)) (d kpr : Nat) (allowed : Nat → Bool × Bool) : List (Num × Bool) :=
  let qs := qv.map (·.1)
  let qbad := qv.any (·.2)
  (List.range kpr).map (fun j =>
    let key := (keys.drop (j * d)).take d
    let x := allowed j
    if x.2 then (negInf, true)
    else if x.1 then (mul32 sscale (sum32 (products qs (key.map (·.1)))), qbad || key.any (·.2))
    else (negInf, false))

/-- One row pair of R173 for one query: (m, l, acc) before and after. -/
def attendRow (exp : Num → Num) (d : Nat) (scores : List Num) (vals : List (Num × Bool)) (st : Num × Num × List Num) :
    Num × Num × List Num :=
  let m2 := Num.max st.1 (scores.foldl Num.max negInf)
  let c := rescale exp st.1 m2
  let ps := scores.map (fun v => if v = negInf then Num.zero else exp (sub32 v m2))
  let l := add32 (mul32 st.2.1 c) (sum32 ps)
  let acc0 := if Num.lt st.1 m2 then st.2.2.map (fun a => mul32 a c) else st.2.2
  let acc := (ps.zip (List.range ps.length)).foldl (fun acc p =>
    (acc.zip ((vals.drop (p.2 * d)).take d)).map (fun a => add32 a.1 (p.1.mul a.2.1))) acc0
  (m2, l, acc)

/-- Elements of a row of words. -/
def rowElems (f : Fmt) (ws : List (Nat × Bool)) : List (Num × Bool) :=
  (List.range (2048 * 8 / f.bits)).map (rowElem f ws)

/-- What a SCORE slot reads of its attention record (R171). -/
structure ScoreSpec where
  plist : Nat
  pos0 : Nat
  len : Nat
  sscale : Num
  sieve : Nat

def scoreSpec (bs : List Nat) : ScoreSpec :=
  { plist := leAt bs 0 8, pos0 := leAt bs 8 4, len := leAt bs 12 4, sscale := fp32At bs 16, sieve := leAt bs 20 4 }

/-- What a SCORE slot works with: its record, the exponential, its queries, and per position whether its sieve bit is 1 and whether
that bit is poisoned. -/
structure ScoreIn where
  c : ScoreSpec
  exp : Num → Num
  qs : List (List (Num × Bool))
  sieve : Nat → Bool × Bool

/-- Positions of page k of a SCORE slot (R172). -/
def ScoreSpec.inPage (c : ScoreSpec) (ppp k : Nat) : Nat := min ppp (c.len - k * ppp)

/-- The scores of key row j of a page whose first position is POS0 + x0. -/
def keyScores (f : LadleSlot) (i : ScoreIn) (x0 j : Nat) (keys : List (Num × Bool)) : List (List (Num × Bool)) :=
  let kpr := posPerRow f.d (fmtD f.wfmt)
  let allowed (n : Nat) : Bool × Bool :=
    let x := x0 + j * kpr + n
    if x < i.c.len then i.sieve x else (false, false)
  i.qs.map (fun qv => rowScores i.c.sscale qv keys f.d kpr allowed)

/-- One page of a SCORE slot with CHAIN set, in its bank: its partial record (R173). -/
def chainPage (f : LadleSlot) (i : ScoreIn) (bank row x0 rows : Nat) (r : LRun) : AttRec × LRun :=
  let wf := fmtD f.wfmt
  (List.range rows).foldl (fun a j =>
    let (kw, r1) := readRowWords a.2 bank (row + 2 * j) 0 64
    let (vw, r2) := readRowWords r1 bank (row + 2 * j + 1) 0 64
    let vals := rowElems wf vw
    let rs := ((keyScores f i x0 j (rowElems wf kw)).zip (List.range f.q)).map (fun p =>
      attendRow i.exp f.d (p.1.map (·.1)) vals (a.1.m.getD p.2 negInf, a.1.l.getD p.2 .zero, a.1.acc.getD p.2 []))
    ({ m := rs.map (·.1), l := rs.map (·.2.1), acc := rs.map (·.2.2), bad := a.1.bad || kw.any (·.2) || vw.any (·.2) }, r2))
    (emptyRec f.q f.d, r)

/-- One page of a SCORE slot with CHAIN clear: per query the scores of its positions, and whether a key row was poisoned. -/
def scorePage (f : LadleSlot) (i : ScoreIn) (bank row x0 rows : Nat) (r : LRun) : List (List (Num × Bool)) × Bool × LRun :=
  let wf := fmtD f.wfmt
  (List.range rows).foldl (fun a j =>
    let (kw, r1) := readRowWords a.2.2 bank (row + 2 * j) 0 64
    let s := keyScores f i x0 j (rowElems wf kw)
    ((List.range f.q).map (fun q => a.1.getD q [] ++ s.getD q []), a.2.1 || kw.any (·.2), r1)) ([], false, r)

/-- A page in which a ladle met poison is remembered for R420. (DEDUCED, log 27.) -/
def noteKvPoison (r : LRun) (frame : Nat) : LRun :=
  if r.next.kvPoisoned.contains frame then r
  else { r with next := { r.next with kvPoisoned := r.next.kvPoisoned ++ [frame] } }

/-- What a SCORE slot has gathered: the folded record, the pages' work, and the elements it wrote in each bank's rows. -/
structure ScoreRun where
  rec_ : Option AttRec := none
  work : List BankWork := []
  filled : Map Nat := []
  run : LRun

/-- The scores of a page written: to the dense vectors at ADST, or with OMODE 0 to the bank's rows from DROW0, page after page and
query after query (R174, R176). (DESIGN CHOICE, log 135.) -/
def writeScores (f : LadleSlot) (adst x0 len bank : Nat) (scores : List (List (Num × Bool))) (s : ScoreRun) : ScoreRun :=
  let of_ := fmtD f.ofmt
  if f.omode = 0 then
    let flat := scores.flatten
    let c := convertVector of_ flat
    let base := mapGet 0 s.filled bank
    { s with
      filled := mapSet 0 s.filled bank (base + flat.length)
      run := applyBank ((s.run.count c).mark (flat.any (·.2))) bank (editStream of_ (8 * 2048 * (adst % 2 ^ 15)) base c []) }
  else
    { s with run := (scores.zip (List.range scores.length)).foldl (fun r p => writeOut r of_ adst (p.2 * len + x0) p.1) s.run }

/-- One page of a SCORE slot: k its number from POS0, `bs` its page-list entry (R172, R202, R400). -/
def scoreEntry (f : LadleSlot) (i : ScoreIn) (adst k entry : Nat) (s : ScoreRun) : ScoreRun :=
  let r0 := s.run
  let kpr := posPerRow f.d (fmtD f.wfmt)
  let ppp := 16 * kpr
  match pageOf entry with
  | none => { s with run := r0.fail 0x313 }
  | some (frame, _) =>
    if !(designated r0.next frame) then { s with run := r0.fail 0x315 }
    else if frame / 2 ^ 37 ≠ r0.st then s
    else
      let place := physOf (r0.next.stack r0.st) (frame % 2 ^ 37)
      let bank := place.1
      let row := place.2.1
      let n := i.c.inPage ppp k
      let rows := ceilDiv n kpr
      if !(bitOf (r0.next.ladle r0.st).usable bank) then { s with run := r0.fail 0x235 }
      else if f.chain then
        let (pr, r1) := chainPage f i bank row (k * ppp) rows r0
        let r2 := if pr.bad then noteKvPoison r1 frame else r1
        let vs := pr.m ++ pr.l ++ pr.acc.flatten
        let r3 := setRegs (notePartial r2 k (vs.map (fun v => (v, pr.bad)))) bank (fun g =>
          { g with latch := i.qs.flatten.map (fun x => (convert (fmtD f.vfmt) x.1).code), acc := vs.map (fun x => (toFp32 x).toNat) })
        { s with
          rec_ := some (match s.rec_ with
            | some acc => foldRec i.exp acc pr
            | none => pr)
          work := s.work ++ [{ bank := bank, ops := 2 * rows, i := k, rows := [(row, 2 * rows)] }]
          run := r3 }
      else
        let (all, bad, r1) := scorePage f i bank row (k * ppp) rows r0
        let r2 := if bad then noteKvPoison r1 frame else r1
        let scores := all.map (fun l => l.take n)
        let s1 := writeScores f adst (k * ppp) i.c.len bank scores { s with run := r2 }
        let base := mapGet 0 s.filled bank
        let perRow := 2048 * 8 / (fmtD f.ofmt).bits
        let drows := if f.omode = 0 then (base + f.q * n - 1) / perRow + 1 - base / perRow else 0
        let dest := if f.omode = 0 then [(adst % 2 ^ 15 + base / perRow, drows)] else []
        { s1 with work := s1.work ++ [{ bank := bank, ops := rows + drows, i := k, rows := (row, 2 * rows) :: dest }] }

/-- The pages of a SCORE slot in ascending position order: partials folded, scores written (R172 to R174, R400). (DEDUCED, log 25.) -/
def scorePages (f : LadleSlot) (i : ScoreIn) (adst : Nat) (r : LRun) : ScoreRun :=
  let ppp := 16 * posPerRow f.d (fmtD f.wfmt)
  (List.range (ceilDiv i.c.len ppp)).foldl (fun (s : ScoreRun) k =>
    let (bs, pbad, r0) := readMem s.run (i.c.plist + 8 * (i.c.pos0 / ppp + k)) 8
    if pbad then { s with rec_ := some { s.rec_.getD (emptyRec f.q f.d) with bad := true }, run := r0.fail 0x301 }
    else scoreEntry f i adst k (leAt bs 0 8) { s with run := r0 }) { run := r }

/-- Writing the attention record of OMODE 3, padded with zero bytes to 32 B (R419). -/
def writeRec (r : LRun) (adst : Nat) (a : AttRec) : LRun :=
  let vs := (a.m ++ a.l ++ a.acc.flatten).map (fun v => (v, a.bad))
  let pad := (8 - vs.length % 8) % 8
  writeRaw r adst 0 (vs ++ List.replicate pad (.zero, a.bad))

/-- Finishing of R174: acc × (1 / l), or 0 when l is 0. -/
def writeFinished (r : LRun) (f : LadleSlot) (adst : Nat) (a : AttRec) : LRun :=
  (List.range f.q).foldl (fun r q =>
    let l := a.l.getD q .zero
    let inv := div32 .one l
    writeOut r (fmtD f.ofmt) adst (q * f.d)
      ((a.acc.getD q []).map (fun v => (if l.isZero then .zero else mul32 v inv, a.bad)))) r

/-- SCORE: `priv` says that the slot came from the serving controller (R399). -/
def runScore (f : LadleSlot) (avec adst aaux : Nat) (priv : Bool) (r : LRun) : List BankWork × LRun :=
  let m := readMem r aaux 32
  let rbad := m.2.1
  let r0 := m.2.2
  let c := scoreSpec m.1
  if inMeta r0.next c.plist 8 && !priv then ([], r0.fail 0x315)
  else if c.pos0 % (16 * posPerRow f.d (fmtD f.wfmt)) ≠ 0 then ([], r0.fail 0x237)
  else
    let v := readVec r0 (fmtD f.vfmt) avec (f.q * f.d)
    let w := if c.sieve = 0xFFFFFFFF then ([], v.2) else readMarked v.2 (bufferBase r.st + c.sieve) (ceilDiv c.len 8)
    let sieve (x : Nat) : Bool × Bool :=
      if c.sieve = 0xFFFFFFFF then (true, rbad)
      else
        let b := w.1.getD (x / 8) (0, false)
        (bitOf b.1 (x % 8), b.2 || rbad)
    let s := scorePages f { c := c, exp := tableExp (expTable r), qs := chunks f.d v.1, sieve := sieve } adst w.2
    let bad := rbad || w.1.any (·.2) || v.1.any (·.2)
    if f.chain then
      let rec0 := s.rec_.getD (emptyRec f.q f.d)
      let a : AttRec := { rec0 with bad := rec0.bad || bad }
      (s.work, if f.omode = 3 then writeRec s.run adst a else writeFinished s.run f adst a)
    else (s.work, s.run.mark bad)

/-- AXPY: value rows ROW0, ROW0 + 2, … of each bank, since R170 puts a page's value rows in every second row (R175). (DESIGN CHOICE, log 136.) -/
def runAxpy (f : LadleSlot) (avec adst : Nat) (r : LRun) : LRun :=
  let wf := fmtD f.wfmt
  let d := f.d
  let kpr := posPerRow d wf
  let total := f.nbank * f.nrow * kpr
  let (flat, r0) := readVec r (fmtD f.vfmt) avec (f.q * total)
  let zero : List (List (Num × Bool)) := List.replicate f.q (List.replicate d (.zero, false))
  let coef (q x : Nat) : Num × Bool := flat.getD (q * total + x) (.zero, false)
  let bankSum (i : Nat) (r : LRun) : List (List (Num × Bool)) × LRun :=
    (List.range f.nrow).foldl (fun a n =>
      let (ws, r1) := readRowWords a.2 (f.bank i) (f.row0 + 2 * n) 0 64
      let vals := rowElems wf ws
      let r2 := if ws.any (·.2) then noteKvPoison r1 (rowAddr r1.next r1.st (f.bank i) (f.row0 + 2 * n) / 65536 * 65536) else r1
      ((a.1.zip (List.range f.q)).map (fun p =>
        (List.range kpr).foldl (fun acc j =>
          let c := coef p.2 ((i * f.nrow + n) * kpr + j)
          (acc.zip ((vals.drop (j * d)).take d)).map (fun e => (add32 e.1.1 (c.1.mul e.2.1), e.1.2 || e.2.2 || c.2))) p.1), r2))
      (zero, r)
  let last (i : Nat) : List Nat := (List.range f.q).flatMap (fun q => (List.range kpr).map (fun j =>
    (convert (fmtD f.vfmt) (coef q ((i * f.nrow + f.nrow - 1) * kpr + j)).1).code))
  let (sum, r1) := (List.range f.nbank).foldl (fun (a : Option (List (List (Num × Bool))) × LRun) i =>
    let (b, r1) := bankSum i a.2
    let r' := setRegs (notePartial r1 i b.flatten) (f.bank i) (fun g =>
      { g with latch := last i, acc := b.flatten.map (fun x => (toFp32 x.1).toNat) })
    (some (match a.1 with
      | none => b
      | some x => (x.zip b).map (fun p => (p.1.zip p.2).map (fun e => (add32 e.1.1 e.2.1, e.1.2 || e.2.2)))), r')) (none, r0)
  (((sum.getD zero).zip (List.range f.q))).foldl (fun r p =>
    if f.omode = 3 then writeRaw r adst (p.2 * d) p.1 else writeOut r (fmtD f.ofmt) adst (p.2 * d) p.1) r1

/-! ## Element operations (R176 to R183) -/

/-- E, elements per bank (R176). -/
def LadleSlot.elems (f : LadleSlot) : Nat := if f.srcv then 32 * f.nrow else f.nrow * (2048 * 8 / (fmtD f.wfmt).bits)

/-- Elements of one vector over all banks. -/
def LadleSlot.span (f : LadleSlot) : Nat := f.nbank * f.elems

/-- The source elements of bank i, vector by vector: rows are read once and serve every vector. -/
def sourceElems (f : LadleSlot) (avec : Nat) (r : LRun) (i : Nat) : List (List (Num × Bool)) × LRun :=
  if f.srcv then
    (List.range f.q).foldl (fun a q =>
      let (v, r1) := readVec a.2 (fmtD f.vfmt) (avec + (q * f.span + i * f.elems) * (fmtD f.vfmt).bits / 8) f.elems
      (a.1 ++ [v], setRegs r1 (f.bank i) (fun g => { g with latch := v.map (fun x => (convert (fmtD f.vfmt) x.1).code) }))) ([], r)
  else
    let (rows, r1) := readRows r (f.bank i) f.row0 (List.replicate f.nrow 64)
    (List.replicate f.q (rows.flatMap (rowElems (fmtD f.wfmt))), r1)

/-- Where the results of bank i and vector q go: rows from DROW0, vector q from element q·E on, or the dense result vector at
ADST. (DESIGN CHOICE, log 137.) -/
def putElems (f : LadleSlot) (adst : Nat) (r : LRun) (i q : Nat) (vs : List (Num × Bool)) : LRun :=
  let of_ := fmtD f.ofmt
  if f.omode = 0 then
    let c := convertVector of_ vs
    let base := 8 * 2048 * (adst % 2 ^ 15)
    applyBank ((r.count c).mark (vs.any (·.2))) (f.bank i) (editStream of_ base (q * f.elems) c [])
  else writeOut r of_ adst (q * f.span + i * f.elems) vs

/-- An element operation: `g` computes the results of bank i, vector q, from its source elements. -/
def runElements (f : LadleSlot) (avec adst : Nat) (g : LRun → Nat → Nat → List (Num × Bool) → List (Num × Bool) × LRun)
    (r : LRun) : LRun :=
  (List.range f.nbank).foldl (fun r i =>
    let (srcs, r1) := sourceElems f avec r i
    (srcs.zip (List.range f.q)).foldl (fun r p =>
      let (out, r2) := g r i p.2 p.1
      putElems f adst r2 i p.2 out) r1) r

/-- EWISE (R177). -/
def runEwise (f : LadleSlot) (avec adst aaux : Nat) (r : LRun) : LRun :=
  let et := expTable r
  let sl := siluTable r
  let ge := geluTable r
  runElements f avec adst (fun r i q src =>
    let (ys, r1) := if f.fn < 3 then ([], r)
      else readVec r (fmtD f.vfmt) (aaux + (q * f.span + i * f.elems) * (fmtD f.vfmt).bits / 8) f.elems
    ((src.zip (List.range src.length)).map (fun p =>
      let x := p.1.1
      let y := ys.getD p.2 (.zero, false)
      let v :=
        if f.fn = 0 then tableExp et x
        else if f.fn = 1 then tableBump sl x
        else if f.fn = 2 then tableBump ge x
        else if f.fn = 3 then mul32 x y.1
        else if f.fn = 4 then add32 x y.1
        else mul32 (tableBump sl x) y.1
      (v, p.1.2 || y.2)), r1)) r

/-- What NORMSTAT has of one vector: the sum, the sum of squares, the count, the largest element, and poison. -/
structure NormRec where
  sum : Num := .zero
  squares : Num := .zero
  count : Nat := 0
  top : Num := negInf
  bad : Bool := false

/-- The record of one bank's elements (R179). -/
def normOf (src : List (Num × Bool)) : NormRec :=
  let vs := src.map (·.1)
  { sum := sum32 vs, squares := sum32 (vs.map (fun v => mul32 v v)), count := vs.length, top := vs.foldl Num.max negInf,
    bad := src.any (·.2) }

/-- Folding the record of the next bank in. -/
def NormRec.fold (a b : NormRec) : NormRec :=
  { sum := add32 a.sum b.sum, squares := add32 a.squares b.squares, count := a.count + b.count, top := Num.max a.top b.top,
    bad := a.bad || b.bad }

def NormRec.words (a : NormRec) : List (Num × Bool) :=
  [a.sum, a.squares, natNum a.count, a.top].map (fun v => (round32 v, a.bad))

/-- NORMSTAT: one record per vector, folded in ascending bank order (R179). -/
def runNormstat (f : LadleSlot) (avec adst : Nat) (r : LRun) : LRun :=
  let (recs, r1) := (List.range f.nbank).foldl (fun (a : List NormRec × LRun) i =>
    let (srcs, r') := sourceElems f avec a.2 i
    let bs := srcs.map normOf
    let part := bs.flatMap NormRec.words
    (if i = 0 then bs else (a.1.zip bs).map (fun p => p.1.fold p.2),
      setRegs (notePartial r' i part) (f.bank i) (fun g => { g with acc := part.map (fun x => (toFp32 x.1).toNat) }))) ([], r)
  (recs.zip (List.range f.q)).foldl (fun r p => writeRaw r adst (4 * p.2) p.1.words) r1

/-- NORMAPPLY (R180). -/
def runNormapply (f : LadleSlot) (avec adst aaux : Nat) (r : LRun) : LRun :=
  let eps := ofFp32 (BitVec.ofNat 32 (dget r.next 0x2300 3))
  let vb := (fmtD f.vfmt).bits / 8
  let gamma := aaux + 16 * f.q
  let beta := gamma + f.span * vb
  runElements f avec adst (fun r i q src =>
    let (bs, bad, r1) := readMem r (aaux + 16 * q) 16
    let (gs, r2) := readVec r1 (fmtD f.vfmt) (gamma + i * f.elems * vb) f.elems
    let (os, r3) := if f.center then readVec r2 (fmtD f.vfmt) (beta + i * f.elems * vb) f.elems else ([], r2)
    let w0 := fp32At bs 0
    let w1 := fp32At bs 4
    let w2 := fp32At bs 8
    let mean := div32 w0 w2
    let var := div32 w1 w2
    let arg := if f.center then add32 (sub32 var (mul32 mean mean)) eps else add32 var eps
    let rr := div32 .one (sqrt32 arg)
    ((src.zip (List.range src.length)).map (fun p =>
      let g := gs.getD p.2 (.one, false)
      let o := os.getD p.2 (.zero, false)
      let x := if f.center then sub32 p.1.1 mean else p.1.1
      let v := mul32 (mul32 x rr) g.1
      (if f.center then add32 v o.1 else v, p.1.2 || bad || g.2 || o.2)), r3)) r

/-- The rotation of one vector's elements, whole heads of d (R181). -/
def rotate (d : Nat) (half : Bool) (pos : Nat) (thetas : List Nat) (src : List (Num × Bool)) : List (Num × Bool) :=
  (src.zip (List.range src.length)).map (fun p =>
    let h := p.2 / d * d
    let e := p.2 % d
    let (i, first) := if half then (e % (d / 2), decide (e < d / 2)) else (e / 2, e % 2 == 0)
    let mate := if half then h + (if first then e + d / 2 else e - d / 2) else h + (if first then e + 1 else e - 1)
    let t := BitVec.ofNat 32 (thetas.getD i 0)
    let (c, sn) := ropeCosSin pos t
    let o := src.getD mate (.zero, false)
    (if first then sub32 (mul32 p.1.1 c) (mul32 o.1 sn) else add32 (mul32 o.1 sn) (mul32 p.1.1 c), p.1.2 || o.2))

/-- A KV append of one vector's d elements (R183, R202, R397, R400, R402). -/
def kvAppend (f : LadleSlot) (adst : Nat) (priv : Bool) (r : LRun) (q : Nat) (vs : List (Num × Bool)) : Option BankWork × LRun :=
  let of_ := fmtD f.ofmt
  let d := f.d
  let (bs, bbad, r0) := readMem r (adst + 16 * q) 16
  let plist := leAt bs 0 8
  let pos := leAt bs 8 4
  let kpr := posPerRow d of_
  let ppp := 16 * kpr
  if bbad then (none, r0.fail 0x301)
  else if inMeta r0.next plist 8 && !priv then (none, r0.fail 0x315)
  else
    let (es, ebad, r1) := readMem r0 (plist + 8 * (pos / ppp)) 8
    if ebad then (none, r1.fail 0x301)
    else match pageOf (leAt es 0 8) with
    | none => (none, r1.fail 0x313)
    | some (frame, ro) =>
      if !(designated r1.next frame) then (none, r1.fail 0x315)
      else if frame / 2 ^ 37 ≠ r1.st || ro then (none, r1.fail 0x313)
      else
        let place := physOf (r1.next.stack r1.st) (frame % 2 ^ 37)
        let bank := place.1
        let row := place.2.1
        let c := convertVector of_ vs
        let o := pos % ppp / kpr * 2 + boolNat f.kvsel
        if !(bitOf (r1.next.ladle r1.st).usable bank) then (none, r1.fail 0x235)
        else (some { bank := bank, ops := 1, i := q, rows := [(row + o, 1)], slices := false }, applyBank ((r1.count c).mark (vs.any (·.2))) bank
          (editStream of_ (8 * 2048 * (row + o)) (pos % kpr * d) c []))

/-- ROPE and QUANT share their destinations: rows, a vector, or a KV append per vector. -/
def runAppendable (f : LadleSlot) (avec adst : Nat) (priv : Bool)
    (g : LRun → Nat → Nat → List (Num × Bool) → List (Num × Bool) × LRun) (r : LRun) : List BankWork × LRun :=
  if f.omode = 3 then
    let (outs, r1) := (List.range f.nbank).foldl (fun (b : List (List (Num × Bool)) × LRun) i =>
      let (srcs, r') := sourceElems f avec b.2 i
      (srcs.zip (List.range f.q)).foldl (fun (c : List (List (Num × Bool)) × LRun) p =>
        let (out, r'') := g c.2 i p.2 p.1
        (c.1.set p.2 (c.1.getD p.2 [] ++ out), r'')) (b.1, r')) (List.replicate f.q [], r)
    (List.range f.q).foldl (fun (a : List BankWork × LRun) q =>
      let (bank, r2) := kvAppend f adst priv a.2 q (outs.getD q [])
      (a.1 ++ bank.toList, r2)) ([], r1)
  else ([], runElements f avec adst g r)

/-- ROPE (R181). -/
def runRope (f : LadleSlot) (avec adst aaux : Nat) (priv : Bool) (r : LRun) : List BankWork × LRun :=
  runAppendable f avec adst priv (fun r _ q src =>
    let (bs, bad, r1) := readMem r aaux (16 + 2 * f.d)
    ((rotate f.d f.half (leAt bs (4 * q) 4) ((List.range (f.d / 2)).map (fun i => leAt bs (16 + 4 * i) 4)) src).map
      (fun p => (p.1, p.2 || bad)), r1)) r

/-- QUANT (R182). -/
def runQuant (f : LadleSlot) (avec adst aaux : Nat) (priv : Bool) (r : LRun) : List BankWork × LRun :=
  runAppendable f avec adst priv (fun r _ q src =>
    let (bs, bad, r1) := readMem r (aaux + 4 * q) 4
    (src.map (fun p => (mul32 p.1 (fp32At bs 0), p.2 || bad)), r1)) r

/-! ## Row operations, CUTAPPLY and MERGE (R184 to R186) -/

/-- Writing whole rows of words from a row of a bank. -/
def writeRowWords (r : LRun) (p row : Nat) (ws : List (Nat × Bool)) : LRun :=
  (ws.zip (List.range ws.length)).foldl (fun r e => writeCellWord r p row e.2 e.1.1 e.1.2) r

/-- ROWCOPY, ROWINIT and ROWLOGIC: `mk` gives the words of row n of bank i. -/
def runRows (f : LadleSlot) (drow : Nat) (mk : LRun → Nat → Nat → List (Nat × Bool) × LRun) (r : LRun) : LRun :=
  (List.range f.nbank).foldl (fun r i =>
    (List.range f.nrow).foldl (fun r n =>
      let (ws, r1) := mk r i n
      writeRowWords r1 (f.bank i) (drow + n) ws) r) r

/-- A word combined bit by bit: AND, OR, XOR, ANDNOT (R162). -/
def combineBits (lop a b : Nat) : Nat :=
  if lop = 0 then a &&& b else if lop = 1 then a ||| b else if lop = 2 then a ^^^ b else a - (a &&& b)

def runRowcopy (f : LadleSlot) (adst : Nat) (r : LRun) : LRun :=
  runRows f (adst % 2 ^ 15) (fun r i n =>
    let (ws, r1) := readRowWords r (f.bank i) (f.row0 + n) 0 64
    (ws, setRegs r1 (f.bank i) (fun g => { g with rowLatch := ws.map (·.1) }))) r

def runRowinit (f : LadleSlot) (aaux : Nat) (r : LRun) : LRun :=
  runRows f f.row0 (fun r _ _ =>
    let (bs, bad, r1) := readMem r aaux 32
    (List.replicate 64 (leAt bs 0 32, bad), r1.mark bad)) r

def runRowlogic (f : LadleSlot) (adst aaux : Nat) (r : LRun) : LRun :=
  runRows f (adst % 2 ^ 15) (fun r i n =>
    let b := readRowWords r (f.bank i) (aaux % 2 ^ 15 + n) 0 64
    let r1 := setRegs b.2 (f.bank i) (fun g => { g with rowLatch := b.1.map (·.1) })
    let a := readRowWords r1 (f.bank i) (f.row0 + n) 0 64
    ((a.1.zip b.1).map (fun p => (combineBits f.lop p.1.1 p.2.1, p.1.2 || p.2.2)), a.2)) r

/-- CUTAPPLY (R185). -/
def runCutapply (f : LadleSlot) (adst aaux : Nat) (r : LRun) : LRun :=
  let of_ := fmtD f.ofmt
  let total := 32 * f.nbank
  (List.range f.nbank).foldl (fun r i =>
    let (ws, r0) := readRowWords r (f.bank i) f.row0 0 64
    let wbad := ws.any (·.2)
    let (xs0, _, _) := readMem r0 aaux (128 * f.q)
    let r1 := setRegs r0 (f.bank i) (fun g => { g with latch := xs0 })
    (List.range f.q).foldl (fun r q =>
      let (bs, cbad, r2) := readMem r (aaux + 128 * q) 96
      let xs := (List.range 64).map (fun j => (Fmt.e4m3.decode (bs.getD j 0)).mul (e8m0Decode (bs.getD (64 + j / 2) 0)))
      let at_ := adst + (q * total + 32 * i) * of_.bits / 8
      let (old, r3) := readVec r2 of_ at_ 32
      let sums := (List.range 32).map (fun n =>
        (sum32 (products xs ((List.range 64).map (fun j => wordElem .e4m3 (ws.getD j (0, false)).1 n))), wbad || cbad))
      let r4 := setRegs (notePartial r3 (i * f.q + q) sums) (f.bank i) (fun g => { g with acc := sums.map (fun x => (toFp32 x.1).toNat) })
      let out := (old.zip sums).map (fun p => (add32 p.1.1 p.2.1, p.1.2 || p.2.2))
      writeOut r4 of_ adst (q * total + 32 * i) out) r1) r

/-- The attention record read from a buffer record (R419). -/
def recOf (q d : Nat) (vs : List (Num × Bool)) : AttRec :=
  { m := (vs.take q).map (·.1), l := ((vs.drop q).take q).map (·.1),
    acc := (List.range q).map (fun i => ((vs.drop (2 * q + i * d)).take d).map (·.1)), bad := vs.any (·.2) }

/-- MERGE (R186). -/
def runMerge (f : LadleSlot) (avec adst aaux : Nat) (r : LRun) : LRun :=
  let words := 8 * f.nrow
  let (flat, r0) := readVec r .fp32 avec (f.nbank * words)
  let recs := chunks words flat
  if f.kind then
    let exp := tableExp (expTable r0)
    match recs.map (recOf f.q f.d) with
    | [] => r0
    | a :: rest => writeFinished r0 f adst (rest.foldl (foldRec exp) a)
  else
    match recs with
    | [] => r0
    | a :: rest =>
      let sum := rest.foldl (fun x y => (x.zip y).map (fun p => (add32 p.1.1 p.2.1, p.1.2 || p.2.2))) a
      let n := words / f.q
      (List.range f.q).foldl (fun r q => finishOutputs r f adst aaux n q 0 ((sum.drop (q * n)).take n)) r0

end Sys2Proof.Machine
end

