-- ==== Sys2Proof/Machine/Stacks.lean ====
section
/-!
DEFINITION. The commands of Memory Stacks: plain accesses, memory-side adds, refresh, segment modes and repair entries.
-/

namespace Sys2Proof.Machine

/-- Whether a ladle row operation is in progress in a bank (R151). -/
def bankComputing (s : State) (st p : Nat) : Bool :=
  (s.ladle st).seqs.any (fun q => q.bank == p && q.st == .computing)

/-- Whether a ladle's sequence runs in a bank: it computes, or waits at a boundary for a slice (R224). -/
def sequenceRuns (s : State) (st p : Nat) : Bool :=
  (s.ladle st).seqs.any (fun q => q.bank == p && (q.st == .computing || q.st == .slice))

/-- Whether a mode change that waits to apply changes a segment (R117). -/
def modeChanges (x : Stack) (j : Nat) : Bool :=
  match x.modeNext with
  | some m => bitOf m j != bitOf x.segMode j
  | none => false

/-- Whether a range lies in a segment of a stack whose mode changes. -/
def inChanging (s : State) (st a n : Nat) : Bool :=
  decide (0 < n) && (List.range ((a + n - 1) / 2 ^ 30 + 1 - a / 2 ^ 30)).any (fun i =>
    let b := (a / 2 ^ 30 + i) * 2 ^ 30
    b / 2 ^ 37 == st && modeChanges (s.stack st) (b % 2 ^ 37 / 2 ^ 30))

/-- Whether a range touches a stockpot unit that an in-field run is testing (R648). -/
def potTested (s : State) (a n : Nat) : Bool :=
  s.test.run.isSome && s.test.running.any (fun u => u.kind == 6 && overlaps a n (potWest + frameBytes * u.index) frameBytes)

/-- Whether the word at an address waits: its segment is changing mode (R117), its frame migrates (R236), a ladle row
operation runs in its bank (R151), or its stockpot unit is under test (R648). An access issued before the change or the migration waits for
neither. (DEDUCED, log 124.) -/
def runWaits (s : State) (early : Bool) (a : Nat) : Bool :=
  if a < potWest then
    let st := a / 2 ^ 37
    let x := s.stack st
    let off := a % 2 ^ 37
    let changing := modeChanges x (off / 2 ^ 30)
    let f := off / frameBytes
    let moving := x.migrating.any (fun e => e.1 == f || e.2 == f)
    let busy := (s.ladle st).seqs != [] && (match homeOf s a with
      | .cell _ p _ _ => bankComputing s st p
      | _ => false)
    (!early && (changing || moving)) || busy
  else potTested s a 1

/-- The same of an access that is issued now. -/
def accessHeld (s : State) (a : Nat) : Bool := runWaits s false a

/-- Whether anything in a stack makes accesses wait. -/
def stackHolds (s : State) (st : Nat) : Bool :=
  (s.stack st).modeNext.isSome || (s.stack st).migrating != [] || (s.ladle st).seqs != []

/-- Whether a row of a range waits, or the stockpot unit it touches. -/
def rangeHeld (s : State) (a n : Nat) : Bool :=
  potTested s a n || decide (a < potWest) && decide (0 < n) && (List.range ((a + n - 1) / 2 ^ 37 + 1 - a / 2 ^ 37)).any (fun i => stackHolds s (a / 2 ^ 37 + i)) &&
    (List.range ((a % 2048 + n + 2047) / 2048)).any (fun i => accessHeld s (a / 2048 * 2048 + 2048 * i))

/-- Whether no access to some ranges waits. -/
def nothingHeld (s : State) (ranges : List (Nat × Nat)) : Bool := !(ranges.any (fun e => rangeHeld s e.1 e.2))

/-- A command whose accesses to the ranges it names would wait is not begun: the state stays, and the command is given again once the
wait has ended. (DESIGN CHOICE, log 150.) -/
def whenFree (s : State) (ranges : List (Nat × Nat)) (r : Res) : Res :=
  if nothingHeld s ranges then r else .next s

/-- Cells of a run that have changed since they were written, by their word from the run's first burst on: soft errors become part of what is
stored. -/
def upsetCells (s : State) (a : Nat) : ErrorList → State
  | [] => s
  | (w, sym, e) :: rest =>
    let s1 := match homeOf s ((spanOf a 1).1 + 32 * w) with
      | .cell st p row wd =>
        s.setStack st (rawWrite (s.stack st) p row wd (symXor (rawRead (s.stack st) p row wd) (sym % 36) (e % 256)))
      | .pot i => setPot s i (symXor (mapGet 0 s.pots i) (sym % 36) (e % 256))
      | .localMem i => setLocal s i (symXor (mapGet 0 s.locals i) (sym % 36) (e % 256))
      | .buffer i => setBuffer s i (symXor (mapGet 0 s.buffers i) (sym % 36) (e % 256))
      | .imem g i => setImem s g i (symXor (mapGet 0 (s.engine g).imem i) (sym % 36) (e % 256))
      | _ => s
    upsetCells s1 a rest

/-- Errors of one word of the run on the way out only: the first read sees them, the re-read of R676 does not. -/
def glitchWord (c : Code288) (w : Nat) : ErrorList → Code288
  | [] => c
  | (v, sym, e) :: rest => glitchWord (if v = w then symXor c (sym % 36) (e % 256) else c) w rest

/-- Reading the words of a run, `n` of them from word `i` of its first burst. -/
def readRun (s : State) (reader tenant a : Nat) (glitches : ErrorList) (i : Nat) : Nat → LoadBytes
  | 0 => { next := s }
  | n + 1 =>
    let wa := (spanOf a 1).1 + 32 * i
    let l := match homeOf s wa with
      | .cell st p row w => loadCellSeen s st p row w (glitchWord (rawRead (s.stack st) p row w) i glitches) reader wa tenant
      | _ => loadPart s reader tenant wa
    let r := readRun l.next reader tenant a glitches (i + 1) n
    { status := if l.status = 0 then r.status else l.status, bytes := bytesOfWord l.data ++ r.bytes,
      marks := List.replicate 32 l.poison ++ r.marks, next := r.next }

/-! ## Memory-side adders (R125 to R132) -/

/-- Bytes of an ADDFMT element; none for a reserved value (R125). -/
def addBytesOf : Nat → Option Nat
  | 0 => some 4
  | 1 => some 2
  | 2 => some 2
  | 3 => some 4
  | 4 => some 8
  | _ => none

/-- A floating point add rounded once, with IEEE 754 overflow to infinity and the canonical NaN (R127). -/
def fpAdd (f : FpShape) (a b : Nat) : Nat :=
  match (fpDecode f a).add (fpDecode f b) with
  | .nan _ => qnanCode f
  | .inf sgn => fpCode f sgn (infCode f)
  | .fin sgn m e =>
    match roundFp f m 1 e with
    | some c => fpCode f sgn c
    | none => fpCode f sgn (infCode f)

/-- Two's complement reading of `n` bytes. -/
def signedOf (n v : Nat) : Int := if v < 2 ^ (8 * n - 1) then v else (v : Int) - 2 ^ (8 * n)

/-- One element added: its bytes and whether it wrapped (R127). -/
def addElement (fmt a b : Nat) : Nat × Bool :=
  match fmt with
  | 0 => (fpAdd shapeFp32 a b, false)
  | 1 => (fpAdd shapeBf16 a b, false)
  | 2 => (fpAdd shapeFp16 a b, false)
  | 3 => ((a + b) % 2 ^ 32, decide (signedOf 4 a + signedOf 4 b ≠ signedOf 4 ((a + b) % 2 ^ 32)))
  | _ => ((a + b) % 2 ^ 64, decide (signedOf 8 a + signedOf 8 b ≠ signedOf 8 ((a + b) % 2 ^ 64)))

/-- The elements of a word added: the new bytes and the number of wraps. -/
def addWordAux (fmt n : Nat) : Nat → List Byte → List Byte → List Byte × Nat
  | 0, _, _ => ([], 0)
  | k + 1, old, op =>
    let r := addElement fmt (leNat (old.take n)) (leNat (op.take n))
    let t := addWordAux fmt n k (old.drop n) (op.drop n)
    (natLE n r.1 ++ t.1, t.2 + boolNat r.2)

/-- What an add run yields: its status, the values from before it with their marks, and the state. -/
structure AddRes where
  status : Nat := 0
  old : List Byte := []
  marks : List Bool := []
  next : State

/-- The words of an add run, in order (R127, R129, R130). (DEDUCED, log 123.) -/
def addWords (s : State) (reader tenant fmt n a : Nat) (bs : List Byte) : Nat → AddRes
  | 0 => { next := s }
  | k + 1 =>
    let l := loadWord s reader tenant a
    let old := bytesOfWord l.data
    let sum := addWordAux fmt n (32 / n) old (bs.take 32)
    let s1 :=
      if l.poison then l.next
      else bump (storeCode l.next a (encode288 (wordOfBytes sum.1))).next (0x2210 + a / 2 ^ 37) 9 sum.2
    let r := addWords s1 reader tenant fmt n (a + 32) (bs.drop 32) k
    { status := if l.poison then 0x312 else r.status, old := old ++ r.old, marks := List.replicate 32 l.poison ++ r.marks,
      next := r.next }

/-- A memory-side add request: R126 to R130, the code it completes with, and with FETCH the values from before it. A request aimed at a
hole or a donor frame has that code whatever its shape. (DEDUCED, log 123.) -/
def addRun (s : State) (reader tenant addr fmt : Nat) (bs : List Byte) : AddRes :=
  match addBytesOf fmt with
  | none => { status := 0x202, next := s }
  | some n =>
    match homeOf s addr with
    | .hole st => { status := 0x310, next := holeAccess s st }
    | .donor _ => { status := 0x321, next := s }
    | .cell st _ _ _ =>
      if addr % 64 = 0 ∧ bs.length % 64 = 0 ∧ 64 ≤ bs.length ∧ bs.length ≤ 2048 ∧ addr / 2048 = (addr + bs.length - 1) / 2048 then
        let r := addWords s reader tenant fmt n addr bs (bs.length / 32)
        { r with next := bump r.next (0x2210 + st) 8 (bs.length / 64) }
      else { status := 0x311, next := s }
    | _ => { status := 0x311, next := s }

/-! ## Runs at their home -/

/-- The words of an answer that are poison, by their number from the word that holds the first byte: each answers with the poison word of
R210, whose data bits are 0. -/
def poisonedWords (a : Nat) (marks : List Bool) : List Nat :=
  (List.range ((a % 32 + marks.length + 31) / 32)).filter (fun i =>
    ((List.range marks.length).any (fun k => (a % 32 + k) / 32 == i && marks.getD k false)))

/-- A run performed at its home: a read or an add with FETCH returns its data to the issuer, every run its status (R110, R119, R130). -/
def performAccess (s : State) (h : HeldAccess) (glitches : ErrorList) : State :=
  match h.data with
  | none =>
    let (b, k) := spanOf h.addr h.len
    let r := readRun (countHoles s h.addr h.len) h.reader h.tenant h.addr glitches 0 k
    let marks := (r.marks.drop (h.addr - b)).take h.len
    let bytes := (r.bytes.drop (h.addr - b)).take h.len
    emit r.next (.readData h.reader (if r.status = 0 ∧ marks.any id then 0x320 else r.status)
      (if r.status = 0 then bytes else []) (poisonedWords h.addr marks))
  | some bs =>
    match h.add with
    | none =>
      let r := storeBytes s h.reader h.tenant h.addr bs
      emit r.next (.readData h.reader r.status [] [])
    | some (fmt, fetch) =>
      let r := addRun s h.reader h.tenant h.addr fmt bs
      emit r.next (.readData h.reader r.status (if fetch then r.old else []) (if fetch then poisonedWords h.addr r.marks else []))

/-- A run that reaches its base die: it waits where R117, R151 or R236 holds it, and is performed otherwise. -/
def arriveAccess (s : State) (h : HeldAccess) (glitches : ErrorList) : State :=
  if runWaits s h.early h.addr then
    s.updStack (h.addr / 2 ^ 37) (fun x => { x with heldAccess := x.heldAccess ++ [h] })
  else performAccess s h glitches

/-- The runs of an access of `len` bytes: it is split at the 2 KiB rows (R119). -/
def splitRuns (h : HeldAccess) : Nat → Nat → Nat → List HeldAccess
  | 0, _, _ => []
  | n + 1, o, len =>
    if len ≤ o then []
    else
      let k := min (len - o) (2048 - (h.addr + o) % 2048)
      { h with addr := h.addr + o, len := k, data := h.data.map (fun bs => (bs.drop o).take k) } :: splitRuns h n (o + k) len

/-- The errors of the words from the n-th on. -/
def glitchesFrom (n : Nat) (es : ErrorList) : ErrorList := (es.filter (fun e => decide (n ≤ e.1))).map (fun e => (e.1 - n, e.2))

/-- STACK_ACCESS: an access reaches a stack through its base die, one run for each 2 KiB row it touches (R119, R207 to R220). A write's
length is that of its data. `hits` are cells that have changed since they were written, `glitches` errors that only the first read
sees, both by their word from the first burst on. An address beyond the stacks is none of theirs, and nothing happens. (DESIGN CHOICE, log 11.) -/
def execStackAccess (reader tenant addr len : Nat) (data : Option (List Byte)) (hits glitches : ErrorList) (s : State) : Res :=
  let n := match data with
    | some bs => bs.length
    | none => len
  let runs := splitRuns { reader := reader, tenant := tenant, addr := addr, len := n, data := data } (n / 2048 + 2) 0 n
  .next ((runs.filter (fun h => decide (h.addr < potWest))).foldl (fun s h =>
    arriveAccess s h (glitchesFrom ((spanOf h.addr 1).1 / 32 - (spanOf addr 1).1 / 32) glitches)) (upsetCells s addr hits))

/-- ADD_BURST_REQUEST: a memory-side add request at a base die (R125 to R132). -/
def execAddBurstRequest (issuer tenant addr fmt : Nat) (data : List Byte) (fetch : Bool) (s : State) : Res :=
  .next (arriveAccess s
    { reader := issuer, tenant := tenant, addr := addr, len := data.length, data := some data, add := some (fmt, fetch) } [])

/-- Held accesses whose hold has ended are performed in their order (R117 step 5, R152, R236 step 4). -/
def releaseHeldAux (s : State) : List HeldAccess → State
  | [] => s
  | h :: rest => releaseHeldAux (arriveAccess s h []) rest

def releaseHeld (s : State) (st : Nat) : State :=
  let hs := (s.stack st).heldAccess
  releaseHeldAux (s.updStack st (fun x => { x with heldAccess := [] })) hs

/-! ## Refresh (R121 to R123) -/

/-- One refresh command: the next 3 rows of the bank's counter, which wraps after row 20,479 (R122). (DEDUCED, log 29.) -/
def refreshOnce (x : Stack) (p : Nat) : Stack :=
  { x with refreshRow := mapUpd 0 x.refreshRow p (fun r => (r + 3) % 20480) }

/-- Refresh commands of a bank issued back to back. -/
def refreshTimes (x : Stack) (p : Nat) : Nat → Stack
  | 0 => x
  | n + 1 => refreshTimes (refreshOnce x p) p n

/-- REFRESH: a bank's refresh interval expires. While a ladle row operation completes, the refresh is postponed and
counted, by at most 4 intervals (R123); otherwise it is performed with absolute priority (R122). (DEDUCED, log 29.) -/
def execRefresh (st bank : Nat) (s : State) : Res :=
  if st < 8 ∧ bank < 2048 then
    let x := s.stack st
    let lag := mapGet 0 x.refreshLag bank
    if bankComputing s st bank && decide (lag < 4) then
      .next (bump (s.setStack st { x with refreshLag := mapSet 0 x.refreshLag bank (lag + 1) }) (0x2210 + st) 7 1)
    else .next (s.setStack st (refreshOnce x bank))
  else .next s

/-! ## Segment modes (R116, R117) -/

/-- Segments whose bit differs between two mode words. -/
def changedSegments (x : Stack) (new : Nat) : List Nat :=
  (List.range (popSegs x)).filter (fun j => bitOf x.segMode j != bitOf new j)

/-- Whether a segment bars a mode change (R116). (DEDUCED, log 124.) -/
def segmentBarred (s : State) (st j : Nat) : Bool :=
  let x := s.stack st
  let a := st * 2 ^ 37 + j * 2 ^ 30
  let inSeg := fun f => f / 512 == j
  inSlotRange s a (2 ^ 30) || mappedByOther s a (2 ^ 30) || x.testFrames.any inSeg || x.remap.any (fun e => inSeg e.1 || inSeg e.2.1) ||
  x.awaiting.any inSeg || x.migrating.any (fun e => inSeg e.1 || inSeg e.2)

/-- The bits of populated segments (R116, last paragraph). -/
def populatedBits (x : Stack) (v : Nat) : Nat := v % 2 ^ popSegs x

/-- Clearing the valid bits of every row of a segment. -/
def clearSegment (x : Stack) (j : Nat) : Stack :=
  (List.range (2048 * 256)).foldl (fun y i =>
    let place := physOf x (j * 2 ^ 30 + joinSegment (bitOf x.segMode j) (i / 256) (i % 256))
    clearRow y place.1 place.2.1) x

/-- The accepted modes of a stack apply: the valid bits of the changing segments are cleared, and the held accesses are released (R117 steps
3 to 5). -/
def applyNewModes (s : State) (st : Nat) : State :=
  let x := s.stack st
  match x.modeNext with
  | none => s
  | some new =>
    let x1 := (changedSegments x new).foldl clearSegment x
    let s1 := s.setStack st { x1 with segMode := new, modeNext := none }
    releaseHeld (dset (dset s1 (0x2210 + st) 1 (new % 2 ^ 64)) (0x2210 + st) 2 (new / 2 ^ 64)) st

/-! ## Repair entries (R136 to R139, R143) -/

/-- STK_RPR_DATA_WRITE: a write of the selected repair entry (R138, R139, R143). -/
def execStkRprDataWrite (st value : Nat) (s : State) : Res :=
  if st < 8 then
    if s.dev = .test then
      let x := s.stack st
      let v := value % 2 ^ 32
      if x.rprColSel then
        if 9 < bitsOf v 9 6 ∨ 35 < v % 64 then .next (s.setStack st { x with rprBadWrite := true })
        else
          let e := bitsOf v 31 29 * 2 ^ 29 + v % 2 ^ 10
          let s1 := s.setStack st { x with colRepair := mapSet 0 x.colRepair (x.rprBank * 4 + x.rprEntry % 4) e }
          let n := (((s1.stack st).colRepair).filter (fun c => bitOf c.2 31)).length
          .next (dset s1 (0x2210 + st) 0xB n)
      else
        if 20479 < v % 2 ^ 15 then .next (s.setStack st { x with rprBadWrite := true })
        else
          let e := bitsOf v 31 29 * 2 ^ 29 + v % 2 ^ 15
          let s1 := s.setStack st { x with rowRepair := mapSet 0 x.rowRepair (x.rprBank * 64 + x.rprEntry) e }
          let n := (((s1.stack st).rowRepair).filter (fun c => bitOf c.2 31)).length
          .next (dset s1 (0x2210 + st) 0xA n)
    else .next (cmdState s)
  else .next s

end Sys2Proof.Machine
end

