-- ==== Sys2Proof/Machine/Ladles.lean ====
section
/-!
DEFINITION. The commands of Ladles: Computing in the Banks: the thirteen operations, the sequences they run in the banks, and
the completion of a LADLE slot.
-/

namespace Sys2Proof.Machine

/-! ## The check of a LADLE slot (R10, R23, R162 to R164) -/

/-- Operations by their code (R165). -/
def LadleSlot.fromRows (f : LadleSlot) : Bool :=
  f.op == 1 || f.op == 2 || f.op == 3 || f.op == 4 || f.op == 6 || f.op == 12 || (decide (7 ≤ f.op) && decide (f.op ≤ 11) && !f.srcv)

/-- Element operations with the source choice of SRCV. -/
def LadleSlot.isElement (f : LadleSlot) : Bool := decide (7 ≤ f.op) && decide (f.op ≤ 11) && f.op != 8

def LadleSlot.isRowOp (f : LadleSlot) : Bool := decide (1 ≤ f.op) && decide (f.op ≤ 3)

/-- Reserved encodings of a LADLE slot. -/
def ladleReserved (f : LadleSlot) : Bool :=
  decide (f.op = 0) || decide (13 < f.op) || decide (9 < f.wfmt) || decide (9 < f.vfmt) || decide (9 < f.ofmt) ||
  (f.op == 4 && (f.kspl == 7 || (f.gsfmt == 3 && !(fmtD f.wfmt).isFp4))) ||
  ((f.op == 5 || f.op == 6 || f.op == 10 || f.op == 11 || f.op == 13) && f.dsel == 3) || (f.op == 7 && decide (5 < f.fn))

/-- Rows a bank gives or takes: each range as (first, count). -/
def ladleRowRanges (f : LadleSlot) (adst aaux : Nat) : List (Nat × Nat) :=
  (if f.fromRows then [(f.row0, if f.op = 6 then 2 * f.nrow - 1 else f.nrow)] else []) ++
  (if f.op = 1 ∨ f.op = 3 then [(adst % 2 ^ 15, f.nrow)] else []) ++
  (if f.op = 3 then [(aaux % 2 ^ 15, f.nrow)] else []) ++
  (if f.isElement && f.omode == 0 then [(adst % 2 ^ 15, ceilDiv (streamBytes (fmtD f.ofmt) (f.q * f.elems)) 2048)] else [])

/-- K of a GEMV4 slot (R168); 0 where R167 matches no number of weight rows. -/
def gemvK (f : LadleSlot) : Nat :=
  64 * (weightRows (fmtD f.wfmt) (groupOf f.gsize) f.gsfmt f.nrow).getD 0 * 2 ^ f.kspl

/-- Bytes of n elements of a vector format. -/
def vecBytes (c n : Nat) : Nat := n * (fmtD c).bits / 8

/-- Buffer operands of a slot as (address, bytes) (R163, R165). -/
def ladleBufferOps (f : LadleSlot) (avec adst aaux : Nat) : List (Nat × Nat) :=
  let vb := vecBytes f.vfmt
  let src := if f.srcv then [(avec, vb (f.q * f.span))] else []
  match f.op with
  | 2 => [(aaux, 32)]
  | 4 => (avec, vb (f.q * gemvK f)) :: (if aaux = 0 ∨ f.omode = 3 then [] else
      [(aaux, 4 * (outputsPerRow (fmtD f.wfmt) * (f.nbank / 2 ^ f.kspl)))])
  | 5 => [(avec, vb (f.q * f.d)), (aaux, 32)]
  | 6 => [(avec, vb (f.q * f.nbank * f.nrow * posPerRow f.d (fmtD f.wfmt)))]
  | 7 => src ++ (if f.fn < 3 then [] else [(aaux, vb (f.q * f.span))])
  | 8 => src
  | 9 => src ++ [(aaux, 16 * f.q + vb (f.span * (if f.center then 2 else 1)))]
  | 10 => src ++ [(aaux, 16 + 2 * f.d)] ++ (if f.omode = 3 then [(adst, 16 * f.q)] else [])
  | 11 => src ++ [(aaux, 4 * f.q)] ++ (if f.omode = 3 then [(adst, 16 * f.q)] else [])
  | 12 => [(aaux, 128 * f.q)]
  | 13 => (avec, f.nbank * 32 * f.nrow) :: (if f.kind || aaux == 0 then [] else [(aaux, 32 * f.nrow / f.q)])
  | _ => []

/-- Bytes of a slot's result at ADST, 0 where it has none; `len` is the length of its attention record. -/
def ladleOutBytes (f : LadleSlot) (len : Nat) : Nat :=
  let of_ := fmtD f.ofmt
  let fp := if f.omode = 3 then Fmt.fp32 else of_
  match f.op with
  | 4 => streamBytes fp (f.q * (outputsPerRow (fmtD f.wfmt) * (f.nbank / 2 ^ f.kspl)))
  | 5 => if f.chain then (if f.omode = 3 then roundUp (8 * f.q + 4 * f.d * f.q) 32 else streamBytes of_ (f.q * f.d)) else streamBytes of_ (f.q * len)
  | 6 => streamBytes fp (f.q * f.d)
  | 8 => 16 * f.q
  | 12 => streamBytes of_ (f.q * 32 * f.nbank)
  | 13 => if f.kind then streamBytes of_ (f.q * f.d) else streamBytes of_ (8 * f.nrow)
  | _ => if f.isElement then streamBytes of_ (f.q * f.span) else 0

/-- Whether a range is aligned and lies in the stack's own ladle buffer. -/
def inBuffer (st a n : Nat) : Bool := a % 32 == 0 && decide (bufferBase st ≤ a) && decide (a + n ≤ bufferBase st + 0x40000)

/-- Whether a range lies in populated stack segments or in the stockpot (R163). -/
def inGlobalDest (s : State) (a n : Nat) : Bool :=
  match regionOf s a n with
  | some (.stack _) => true
  | some (.pot _) => true
  | _ => false

/-- Bytes as numbers that an issuing slot finds at an address, none where they cannot be read. -/
def issueBytes (s : State) (st a n : Nat) : Option (List Nat) :=
  let l := loadBytes s (1 + st) 0xFF a n
  if l.status = 0 ∧ l.poisoned = false then some (l.bytes.map (·.toNat)) else none

/-- The attention record of a SCORE slot as it issues (R171). -/
def issueRecord (s : State) (st : Nat) (f : LadleSlot) (aaux : Nat) : Option ScoreSpec :=
  if f.op = 5 ∧ inBuffer st aaux 32 = true then (issueBytes s st aaux 32).map scoreSpec else none

/-- The bank of the page that a page-list entry names, where the stack holds it. -/
def entryBank (s : State) (st entry : Nat) : Option Nat :=
  match pageOf entry with
  | some (frame, _) => if designated s frame && frame / 2 ^ 37 == st then some (physOf (s.stack st) (frame % 2 ^ 37)).1 else none
  | none => none

/-- The banks of a SCORE slot's pages with the positions of each (R172). -/
def scoreBanks (s : State) (st : Nat) (f : LadleSlot) (c : ScoreSpec) : List (Nat × Nat) :=
  let ppp := 16 * posPerRow f.d (fmtD f.wfmt)
  (List.range (ceilDiv c.len ppp)).filterMap (fun k =>
    (issueBytes s st (c.plist + 8 * (c.pos0 / ppp + k)) 8).bind (fun bs => (entryBank s st (leAt bs 0 8)).map (fun p => (p, c.inPage ppp k))))

/-- The banks into whose pages a slot appends (R183). -/
def appendBanks (s : State) (st : Nat) (f : LadleSlot) (adst : Nat) : List Nat :=
  if (f.op = 10 ∨ f.op = 11) ∧ f.omode = 3 then
    (List.range f.q).filterMap (fun q =>
      (issueBytes s st (adst + 16 * q) 16).bind (fun d =>
        (issueBytes s st (leAt d 0 8 + 8 * (leAt d 8 4 / (16 * posPerRow f.d (fmtD f.ofmt)))) 8).bind (fun bs => entryBank s st (leAt bs 0 8))))
  else []

/-- The rows that the scores of a SCORE slot fill from DROW0 in the fullest of its banks (R163, R176). -/
def scoreRows (f : LadleSlot) (bs : List (Nat × Nat)) : Nat :=
  (bs.map (fun b => ceilDiv (streamBytes (fmtD f.ofmt) (f.q * ((bs.filter (fun e => e.1 == b.1)).map (·.2)).sum)) 2048)).foldl max 0

/-- LADLE_OPERAND of R164. -/
def ladleOperandBad (s : State) (st : Nat) (f : LadleSlot) (rec_ : Option ScoreSpec) (avec adst aaux : Nat) : Bool :=
  let out := ladleOutBytes f ((rec_.map (·.len)).getD 0)
  let sieve := match rec_ with
    | some c => if c.sieve = 0xFFFFFFFF then [] else [(bufferBase st + c.sieve, ceilDiv c.len 8)]
    | none => []
  !((ladleBufferOps f avec adst aaux ++ sieve).all (fun o => inBuffer st o.1 o.2)) ||
  (if f.isRowOp || ((f.op == 10 || f.op == 11) && f.omode == 3) || f.omode == 0 then false
   else if f.omode = 1 then !(inBuffer st adst out)
   else if f.omode = 2 then !(inGlobalDest s adst out)
   else !(inBuffer st adst out || inGlobalDest s adst out))

/-- LADLE_CONFLICT of R164: combinations and shapes not allowed (R163, R167, R171, R172, R179 to R186). A MERGE of KIND 0 needs
records whose sums are a whole number of outputs for each of the Q vectors. (DESIGN CHOICE, log 138.) -/
def ladleConflict (f : LadleSlot) (rec_ : Option ScoreSpec) : Bool :=
  match f.op with
  | 1 => f.omode != 0 || f.q != 1
  | 2 => f.omode != 0 || f.q != 1
  | 3 => f.omode != 0 || f.q != 1
  | 4 => f.omode == 0 || (weightRows (fmtD f.wfmt) (groupOf f.gsize) f.gsfmt f.nrow).isNone || f.nbank % 2 ^ f.kspl != 0
  | 5 => (f.chain && f.omode == 0) || (!f.chain && f.omode == 3) || decide (512 < f.d * f.q) ||
      (match rec_ with
        | some c => c.pos0 % (16 * posPerRow f.d (fmtD f.wfmt)) != 0
        | none => false)
  | 6 => f.omode == 0
  | 7 => f.omode == 3
  | 8 => !(f.omode == 1 || f.omode == 2)
  | 9 => f.omode == 3
  | 10 => f.elems % f.d != 0 || (f.omode == 3 && f.span != f.d)
  | 11 => f.omode == 3 && f.span != f.d
  | 12 => f.omode != 1 || f.nrow != 1
  | 13 => !(f.omode == 1 || f.omode == 2) || (!f.kind && 8 * f.nrow % f.q != 0) ||
      (f.kind && 32 * f.nrow != roundUp (8 * f.q + 4 * f.d * f.q) 32)
  | _ => false

/-- FORMAT_MISMATCH of R164: WFMT by operation, VFMT of every slot, OFMT of every slot but QUANT, and GSIZE against R24. NORMSTAT,
which R164 names in no list of formats, takes rows in the formats of element operations. (DESIGN CHOICE, log 139.) -/
def ladleFormatBad (f : LadleSlot) : Bool :=
  let w (lo hi : Nat) : Bool := decide (lo ≤ f.wfmt) && decide (f.wfmt ≤ hi)
  let rows :=
    match f.op with
    | 4 => w 1 8 && !((f.wfmt == 7 || f.wfmt == 8) && f.gsize != 1)
    | 5 => w 1 4
    | 6 => w 1 4
    | 12 => f.wfmt == 3
    | _ => !(decide (7 ≤ f.op) && decide (f.op ≤ 11)) || f.srcv || w 1 5
  !rows || !(decide (1 ≤ f.vfmt) && decide (f.vfmt ≤ 5)) || (if f.op = 11 then decide (8 < f.ofmt) else decide (5 < f.ofmt))

/-- Banks in which a slot runs sequences: none named by SCORE and MERGE (R172, R186). -/
def ladleBanks (f : LadleSlot) : List Nat := if f.op = 5 ∨ f.op = 13 then [] else (List.range f.nbank).map f.bank

/-- The check of a LADLE slot: 0 when it may issue (R164). What it says of a SCORE slot's record and of an append's pages it reads as
the slot issues. -/
def checkLadle (s : State) (st : Nat) (f : LadleSlot) (avec adst aaux : Nat) : Nat :=
  let rec_ := issueRecord s st f aaux
  let pages := match rec_ with
    | some c => scoreBanks s st f c
    | none => []
  if ladleReserved f then 0x202
  else if f.op ≠ 5 ∧ f.op ≠ 13 ∧ (127 < f.bank0 + (f.nbank - 1) / 16 ∨
      (ladleRowRanges f adst aaux).any (fun r => decide (20480 < r.1 + r.2))) then 0x234
  else if f.op = 5 ∧ f.omode = 0 ∧ 20480 < adst % 2 ^ 15 + scoreRows f pages then 0x234
  else if (ladleBanks f ++ pages.map (·.1) ++ appendBanks s st f adst).any (fun p => !(bitOf (s.ladle st).usable p)) then 0x235
  else if ladleOperandBad s st f rec_ avec adst aaux then 0x236
  else if ladleConflict f rec_ then 0x237
  else if ladleFormatBad f then 0x403
  else 0

/-! ## Sequences in the banks (R149 to R156, R187 to R190) -/

/-- A, the compute places of DRAM die d (R133, R188). -/
def placesOf (s : State) (st d : Nat) : Nat :=
  let l := s.ladle st
  let tokens := l.grant / 16 + (if d < l.grant % 16 then 1 else 0)
  min (min tokens (s.stack st).allowance) (if l.boost && dbool s 0x2300 1 then 48 else 32)

/-- Whether a sequence holds a compute place: it computes, waits for its slice, or is suspended while its bank serves others. -/
def LSeq.holds (q : LSeq) : Bool := q.st == .computing || q.st == .slice || (q.st == .suspended && q.place)

/-- Sequences of a die that hold a place. -/
def computingOn (qs : List LSeq) (d : Nat) : Nat := (qs.filter (fun q => q.bank / 128 == d && q.holds)).length

/-- Whether an earlier sequence holds the bank: sequences on one bank run in slot issue order (R187). -/
def bankTaken (before : List LSeq) (p : Nat) : Bool := before.any (fun q => q.bank == p)

/-- Rows from DROW0 that one bank of an element operation writes with OMODE 0 (R165, R176). -/
def destRows (f : LadleSlot) : Nat :=
  if f.isElement && f.omode == 0 then ceilDiv (streamBytes (fmtD f.ofmt) (f.q * f.elems)) 2048 else 0

/-- Row operations of one of a slot's own banks: rows read, and rows written (R149, R158, R165). -/
def rowOpsOf (f : LadleSlot) : Nat :=
  match f.op with
  | 1 => 2 * f.nrow
  | 3 => 3 * f.nrow
  | _ => (if f.srcv then 0 else f.nrow) + destRows f

/-- The bytes of the ladle buffer that row operation `n` of a sequence needs as its vector slice, as (address, bytes) of the first
vector's; none where it needs none or has them already (R156). A sequence without row operations takes one slice. -/
def sliceOf (f : LadleSlot) (x : LSlot) (q : LSeq) (n : Nat) : Option (Nat × Nat) :=
  let vb := vecBytes f.vfmt
  let once (a k : Nat) : Option (Nat × Nat) := if n = 0 then some (a, k) else none
  let per := 2048 * 8 / (fmtD f.wfmt).bits
  let src := once (x.avec + vb (q.i * f.elems)) (vb f.elems)
  let second (a : Nat) : Option (Nat × Nat) := if n < f.nrow then some (a + vb (q.i * f.elems + n * per), vb per) else none
  match f.op with
  | 2 => once x.aaux 32
  | 4 =>
    let wf := fmtD f.wfmt
    let g := groupOf f.gsize
    let sr := rowsPerRun wf g (scaleBytes wf f.gsfmt)
    let wb := (weightRows wf g f.gsfmt f.nrow).getD 0
    if g ≠ 0 ∧ n % (sr + 1) = 0 then none
    else some (x.avec + vb (q.i % 2 ^ f.kspl * (64 * wb) + 64 * (if g = 0 then n else n - n / (sr + 1) - 1)), vb 64)
  | 5 => once x.avec (vb (f.q * f.d))
  | 6 =>
    let kpr := posPerRow f.d (fmtD f.wfmt)
    if n < f.nrow then some (x.avec + vb ((q.i * f.nrow + n) * kpr), vb kpr) else none
  | 7 => if f.srcv then src else if f.fn < 3 then none else second x.aaux
  | 8 => if f.srcv then src else none
  | 9 => if f.srcv then src else second (x.aaux + 16 * f.q)
  | 10 => if f.srcv then src else once x.aaux (16 + 2 * f.d)
  | 11 => if f.srcv then src else once x.aaux (4 * f.q)
  | 12 => once x.aaux 128
  | _ => none

/-- The slice that row operation `n` of a stack's sequence needs. -/
def seqSlice (l : Ladles) (q : LSeq) (n : Nat) : Option (Nat × Nat) :=
  match l.slots.find? (fun x => x.no == q.slot) with
  | some x => if q.slices then sliceOf (ladleSlot x.bits) x q n else none
  | none => none

/-- A sequence comes to its next row operation: it computes, or waits for its slice (R156). -/
def LSeq.enter (l : Ladles) (q : LSeq) : LSeq :=
  if q.ahead || (seqSlice l q q.done).isNone then { q with st := .computing, place := true, ahead := false }
  else { q with st := .slice, place := true }

/-- Whether a sequence works on rows of a frame (R236). -/
def LSeq.touches (s : State) (st : Nat) (q : LSeq) (F : Nat) : Bool :=
  q.rows.any (fun e => (List.range e.2).any (fun n =>
    match offsetOfRow (s.stack st) q.bank (e.1 + n) with
    | some o => o / frameBytes == F
    | none => false))

/-- Whether a sequence works on rows of a segment whose mode changes (R117). -/
def LSeq.changes (s : State) (st : Nat) (q : LSeq) : Bool :=
  (s.stack st).modeNext.isSome && q.rows.any (fun e => (List.range e.2).any (fun n => modeChanges (s.stack st) ((e.1 + n) / 256)))

/-- Whether a sequence works on rows of a frame that migrates, or of a segment whose mode changes: it goes no further until that ends (R117,
R236). -/
def LSeq.migrates (s : State) (st : Nat) (q : LSeq) : Bool :=
  q.changes s st || (s.stack st).migrating.any (fun e => q.touches s st e.1)

/-- Whether a row operation under way works on rows of a segment whose mode changes. -/
def modeComputing (s : State) (st : Nat) : Bool := (s.ladle st).seqs.any (fun q => q.st == .computing && q.changes s st)

/-- Whether a sequence computes in rows of frame F (R236). -/
def frameComputing (s : State) (st F : Nat) : Bool :=
  (s.ladle st).seqs.any (fun q => q.st == .computing && q.touches s st F)

/-- Starting what may start: of the waiting sequences in slot issue order and then lowest i, each takes a free place of its
die when no earlier sequence holds its bank (R187, R189); `n` numbers the starts. -/
def startSeqs (s : State) (st : Nat) (done : List LSeq) (n : Nat) : List LSeq → List LSeq × Nat
  | [] => (done, n)
  | q :: rest =>
    let d := q.bank / 128
    if q.st = .waiting ∧ bankTaken done q.bank = false ∧ computingOn (done ++ rest) d < placesOf s st d ∧ q.migrates s st = false then
      startSeqs s st (done ++ [{ q.enter (s.ladle st) with started := n }]) (n + 1) rest
    else startSeqs s st (done ++ [q]) n rest

/-- Places that are free go first to the sequences that gave theirs up, the earliest-suspended first (R190). -/
def givePlaces (s : State) (st : Nat) (qs : List LSeq) : List LSeq :=
  let without (q : LSeq) : Bool := q.st == .suspended && !q.place
  qs.map (fun q =>
    let d := q.bank / 128
    let ahead := (qs.filter (fun x => without x && x.bank / 128 == d && decide (x.since < q.since))).length
    if without q && decide (computingOn qs d + ahead < placesOf s st d) then { q with place := true } else q)

/-- Places that are free are taken: by the sequences that gave theirs up, then by those that wait (R189, R190). -/
def fillPlaces (s : State) (st : Nat) : State :=
  s.updLadle st (fun l =>
    let (qs, n) := startSeqs s st [] l.clock (givePlaces s st l.seqs)
    { l with seqs := qs, clock := n })

/-- Whether a sequence must give up its place at its row boundary: the die's places number fewer than the sequences that hold one,
and it is among the latest-started (R190). -/
def mustYield (s : State) (st : Nat) (q : LSeq) : Bool :=
  decide (placesOf s st (q.bank / 128) ≤
    ((s.ladle st).seqs.filter (fun x => x.bank / 128 == q.bank / 128 && x.holds && decide (x.started < q.started))).length)

/-! ## The operations -/

/-- The oldest slot of a stack that has not done its work. -/
def nextLadleSlot (l : Ladles) : Option LSlot := l.slots.find? (fun x => !x.performed)

/-- What a slot does in its own banks: the rows it reads and writes there. -/
def ownWork (f : LadleSlot) (adst aaux : Nat) (r : LRun) : List BankWork :=
  if f.op = 5 ∨ f.op = 13 then []
  else (List.range f.nbank).map (fun i =>
    ({ bank := f.bank i, ops := rowOpsOf f + r.extraOps (f.bank i), i := i, rows := ladleRowRanges f adst aaux } : BankWork))

/-- A slot does its work: `run` performs it and names the banks it found by itself; its banks then run their sequences of row
operations. -/
def performLadle (s : State) (st op : Nat) (x : LSlot) (run : LadleSlot → LSlot → LRun → List BankWork × LRun) : State :=
  let f := ladleSlot x.bits
  let (found, r) := run f x { st := st, op := op, tenant := x.tenant, old := x.old, next := s }
  let work := ownWork f x.adst x.aaux r ++ found.map (fun w => { w with ops := w.ops + r.extraOps w.bank })
  let seqs := work.map (fun w => ({ slot := x.no, bank := w.bank, left := w.ops, i := w.i, rows := w.rows, slices := w.slices } : LSeq))
  fillPlaces (r.next.updLadle st (fun l =>
    { l with
      slots := l.slots.map (fun y => if y.no = x.no then
        { y with performed := true, status := r.status, sats := r.sats, nonfinites := r.nonfinites } else y)
      seqs := l.seqs ++ seqs })) st

/-- One operation of the oldest slot, which must have these bits and this OP. -/
def ladleOperation (op st slot : Nat) (run : LadleSlot → LSlot → LRun → List BankWork × LRun) (s : State) : Res :=
  if st < 8 then
    match nextLadleSlot (s.ladle st) with
    | none => .next s
    | some x => if x.bits = slot ∧ (ladleSlot slot).op = op then .next (performLadle s st op x run) else .next s
  else .next s

/-- ROWCOPY: rows from ROW0 to DROW0 in each bank (R184). -/
def execRowcopy (st slot : Nat) (s : State) : Res := ladleOperation 1 st slot (fun f x r => ([], runRowcopy f x.adst r)) s

/-- ROWINIT: a 32 B pattern into every word of rows (R184). -/
def execRowinit (st slot : Nat) (s : State) : Res := ladleOperation 2 st slot (fun f x r => ([], runRowinit f x.aaux r)) s

/-- ROWLOGIC: two row sources combined word by word (R184). -/
def execRowlogic (st slot : Nat) (s : State) : Res :=
  ladleOperation 3 st slot (fun f x r => ([], runRowlogic f x.adst x.aaux r)) s

/-- GEMV4: weight rows times up to four vectors, k-parts merged (R167 to R169). -/
def execGemv4 (st slot : Nat) (s : State) : Res :=
  ladleOperation 4 st slot (fun f x r => ([], runGemv4 f x.avec x.adst x.aaux r)) s

/-- SCORE: attention over key-value pages (R170 to R174, R400, R419). -/
def execScore (st slot : Nat) (s : State) : Res :=
  ladleOperation 5 st slot (fun f x r => runScore f x.avec x.adst x.aaux x.priv r) s

/-- AXPY: weighted sums of value rows (R175). -/
def execAxpy (st slot : Nat) (s : State) : Res := ladleOperation 6 st slot (fun f x r => ([], runAxpy f x.avec x.adst r)) s

/-- EWISE: an element function (R177, R178). -/
def execEwise (st slot : Nat) (s : State) : Res :=
  ladleOperation 7 st slot (fun f x r => ([], runEwise f x.avec x.adst x.aaux r)) s

/-- NORMSTAT: a statistics record per vector (R179). -/
def execNormstat (st slot : Nat) (s : State) : Res :=
  ladleOperation 8 st slot (fun f x r => ([], runNormstat f x.avec x.adst r)) s

/-- NORMAPPLY: normalisation with gain and optional offset (R180). -/
def execNormapply (st slot : Nat) (s : State) : Res :=
  ladleOperation 9 st slot (fun f x r => ([], runNormapply f x.avec x.adst x.aaux r)) s

/-- ROPE: rotary rotation, and the append of keys (R181, R183). -/
def execRope (st slot : Nat) (s : State) : Res :=
  ladleOperation 10 st slot (fun f x r => runRope f x.avec x.adst x.aaux x.priv r) s

/-- QUANT: scaling and conversion, and the append of values (R182, R183). -/
def execQuant (st slot : Nat) (s : State) : Res :=
  ladleOperation 11 st slot (fun f x r => runQuant f x.avec x.adst x.aaux x.priv r) s

/-- CUTAPPLY: cutter contributions added into vectors (R185). -/
def runCutapplySlot (st slot : Nat) (s : State) : Res :=
  ladleOperation 12 st slot (fun f x r => ([], runCutapply f x.adst x.aaux r)) s

/-- MERGE: partials or attention records folded and finished (R186). -/
def execMerge (st slot : Nat) (s : State) : Res :=
  ladleOperation 13 st slot (fun f x r => ([], runMerge f x.avec x.adst x.aaux r)) s

/-! ## Row boundaries, slices and completion -/

/-- Whether a held access waits for a bank. -/
def waitsFor (s : State) (st p : Nat) (h : HeldAccess) : Bool :=
  match homeOf s h.addr with
  | .cell k q _ _ => k == st && q == p
  | _ => false

/-- The bank's part of a row boundary: due refreshes, then the accesses that wait; whether anything was served (R152). -/
def serveBank (s : State) (st p : Nat) : State × Bool :=
  let x := s.stack st
  let lag := mapGet 0 x.refreshLag p
  let x1 : Stack := { refreshTimes x p lag with refreshLag := mapSet 0 x.refreshLag p 0 }
  let mine := x1.heldAccess.any (waitsFor s st p)
  let s1 := s.setStack st x1
  (if mine then releaseHeld s1 st else s1, decide (0 < lag) || mine)

/-- The sequences of a bank in a state of their own changed by `f`, or ended where it gives none. -/
def Ladles.updSeq (l : Ladles) (bank : Nat) (st : SeqState) (f : LSeq → Option LSeq) : Ladles :=
  { l with seqs := l.seqs.filterMap (fun q => if q.bank = bank ∧ q.st = st then f q else some q) }

/-- A suspension is counted (R153, R190, R199). -/
def countSuspend (s : State) (st : Nat) : State :=
  bump (s.updLadle st (fun l => { l with suspends := sat64 l.suspends 1 })) 0x2300 5 1

/-- ROW_BOUNDARY: a row operation of the bank's computing sequence ends. The bank serves a due refresh and the accesses that
wait; the sequence ends, is suspended by what was served, by a migration of its rows or by a smaller allowance, or goes on (R152,
R153, R190, R236). (DESIGN CHOICE, log 28.) -/
def execRowBoundary (st bank : Nat) (s : State) : Res :=
  if st < 8 ∧ bank < 2048 then
    match (s.ladle st).seqs.find? (fun q => q.bank == bank && q.st == .computing) with
    | none => .next s
    | some q =>
      -- the row operation has ended: the bank is free while it serves what waits
      let s1 := s.updLadle st (fun l =>
        { l with rowOps := sat64 l.rowOps 1 }.updSeq bank .computing (fun x => some { x with left := x.left - 1, done := x.done + 1, st := .suspended }))
      let (s2, served) := serveBank (touchCell (bump s1 0x2300 4 1) st bank) st bank
      let now (f : LSeq → Option LSeq) : State := s2.updLadle st (fun l => l.updSeq bank .suspended f)
      if q.left ≤ 1 then .next (fillPlaces (now (fun _ => none)) st)
      else if mustYield s2 st q then
        .next (fillPlaces (countSuspend (now (fun x => some { x with place := false, since := (s2.ladle st).clock })) st |>.updLadle st
          (fun l => { l with clock := l.clock + 1 })) st)
      else if served || q.migrates s2 st then .next (countSuspend s2 st)
      else .next (now (fun x => some (x.enter (s2.ladle st))))
  else .next s

/-- A slice reaches a sequence that has asked for the same bytes: one that waits computes, or ends when it has no row operations; one
that computes has the slice of its next row operation ahead (R156). -/
def takeSlice (l : Ladles) (d : Nat) (k : Nat × Nat) (q : LSeq) : Option LSeq :=
  if q.bank / 128 ≠ d then some q
  else if q.st = .slice ∧ seqSlice l q q.done = some k then
    (if q.left = 0 then none else some { q with st := .computing })
  else if q.st = .computing ∧ seqSlice l q (q.done + 1) = some k then some { q with ahead := true }
  else some q

/-- VECTOR_SLICE_ARRIVE: a slice arrives over the vector bus for a bank's sequence, which waited `waited` cycles at its first column,
and for every ladle of the die that waits for the same bytes (R156). -/
def execVectorSliceArrive (st bank waited : Nat) (s : State) : Res :=
  if st < 8 ∧ bank < 2048 then
    let l := s.ladle st
    match l.seqs.find? (fun q => q.bank == bank && (q.st == .slice || q.st == .computing)) with
    | none => .next s
    | some q =>
      match seqSlice l q (if q.st = .slice then q.done else q.done + 1) with
      | none => .next s
      | some k =>
        .next (fillPlaces (bump (s.updLadle st (fun l =>
          { l with
            vstall := sat64 l.vstall waited
            seqs := l.seqs.filterMap (takeSlice l (bank / 128) k) })) 0x2300 6 waited) st)
  else .next s

/-- LADLE_RESUME: the bank's suspended sequence resumes with a fresh activation: its bank is free, its rows do not migrate, and it
holds a compute place, which the earliest-suspended take first (R153, R190, R236). (DESIGN CHOICE, log 28.) -/
def execLadleResume (st bank : Nat) (s : State) : Res :=
  if st < 8 ∧ bank < 2048 then
    let s1 := fillPlaces s st
    match (s1.ladle st).seqs.find? (fun q => q.bank == bank && q.st == .suspended) with
    | none => .next s
    | some q =>
      if mustYield s1 st q && q.place then
        .next (s1.updLadle st (fun l => { l with clock := l.clock + 1 }.updSeq bank .suspended (fun x => some { x with place := false, since := l.clock })))
      else if q.place && !(q.migrates s1 st) then
        .next (s1.updLadle st (fun l => l.updSeq bank .suspended (fun x => some (x.enter l))))
      else .next s1
  else .next s

/-- The counts of a completed slot: kept for the step's layer, or for work outside a step added and compared at once (R46,
R48). -/
def countSlot (s : State) (st : Nat) (x : LSlot) : State :=
  let layer := (ladleSlot x.bits).layer
  match x.step with
  | some m =>
    let k := m * 256 + layer
    { s with
      stepSats := mapUpd 0 s.stepSats k (fun n => n + x.sats)
      stepNonfinite := mapUpd 0 s.stepNonfinite k (fun n => n + x.nonfinites) }
  | none => ladleEvents (countLadle s none layer x.sats x.nonfinites) none (1 + st) x.tenant layer x.sats x.nonfinites

end Sys2Proof.Machine
end

