-- ==== Sys2Proof/Machine/Grid.lean ====
section
/-!
DEFINITION. The commands of Number Formats and Scaling and of The Griddle: SCALE slots, sweeps, loads and wide re-runs.
-/

namespace Sys2Proof.Machine

def State.updGrid (s : State) (f : Grid → Grid) : State := { s with grid := f s.grid }

/-- One of the two register sets. -/
def Grid.set (g : Grid) (sel : Nat) : GridSet := if sel = 0 then g.set0 else g.set1
def Grid.putSet (g : Grid) (sel : Nat) (x : GridSet) : Grid :=
  if sel = 0 then { g with set0 := x } else { g with set1 := x }

/-- 1.0 in FP32, the reset value of every scale register (R37). -/
def oneCode : Nat := 0x3F800000

/-! ## SCALE slots (R37 to R42) -/

/-- Whether every sweep issued before issue number `no` has passed the rim (R41). -/
def earlierSwept (g : Grid) (no : Nat) : Bool :=
  g.ops.all (fun o => decide (no < o.no) || (gridSlot o.bits).op != 1 || o.swept)

/-- The SCALE slot that may take effect next: the oldest one not yet loaded, once R41 allows it. -/
def nextScale (g : Grid) : Option ScaleOp :=
  match g.scaleOps.find? (fun o => !o.loaded) with
  | some o => if earlierSwept g o.no then some o else none
  | none => none

/-- Marking a SCALE slot as loaded, with its status. -/
def scaleLoaded (g : Grid) (no status : Nat) : Grid :=
  { g with scaleOps := g.scaleOps.map (fun o => if o.no = no then { o with loaded := true, status := status } else o) }

/-- The FP32 code of a loaded value: FP32 as it stands, every other format converted exactly (R40). -/
def scaleCode (sfmt c : Nat) : Nat := if sfmt = 0 then c else (toFp32 ((fmtD sfmt).decode c)).toNat

/-- Writing loaded values from register `i` on: a value and its mark each (R40). -/
def writeScales (row : Bool) (sfmt i : Nat) (vs : List (Nat × Bool)) (x : Scales) : Scales :=
  match vs with
  | [] => x
  | (v, bad) :: rest =>
    let c := scaleCode sfmt v
    let x1 : Scales :=
      if row then
        { x with row := if bad then x.row else mapSet oneCode x.row i c, rowBad := mapSet false x.rowBad i bad }
      else { x with col := if bad then x.col else mapSet oneCode x.col i c, colBad := mapSet false x.colBad i bad }
    writeScales row sfmt (i + 1) rest x1

/-- Whose work an unfinished SCALE slot is: the tenant of its entry. -/
def tenantOfSlot (s : State) (eng no : Nat) : Nat :=
  let e := s.engine eng
  match e.issued.find? (fun i => i.no == no) with
  | some i => match e.runs.find? (fun r => r.id == i.entry) with
    | some r => r.origin.tenant
    | none => 0
  | none => 0

/-- A SCALE load of the pending slot with operation `op`. -/
def scaleLoad (op : Nat) (row : Bool) (sfmt first count src : Nat) (s : State) : State :=
  match nextScale s.grid with
  | none => s
  | some o =>
    let f := scaleSlot o.bits
    if f.op = op ∧ f.sfmt = sfmt ∧ f.first = first ∧ f.count = count ∧ f.src = src then
      let r := readRunBits s 0 (tenantOfSlot s 0 o.no) (8 * (potWest + src)) (8 * scaleElemBytes sfmt) count
      let bad := r.1.any (·.2)
      r.2.updGrid (fun g => scaleLoaded { g with scales := writeScales row sfmt first r.1 g.scales } o.no (if bad then 0x320 else 0))
    else s

/-- LOADCOL: the pending SCALE slot loads SCALE_COL registers from the stockpot (R38, R40, R41). -/
def execLoadcol (sfmt first count src : Nat) (s : State) : Res := .next (scaleLoad 1 false sfmt first count src s)

/-- LOADROW: the pending SCALE slot loads SCALE_ROW registers from the stockpot (R38, R40, R41). -/
def execLoadrow (sfmt first count src : Nat) (s : State) : Res := .next (scaleLoad 2 true sfmt first count src s)

/-- A SCALE fill or SETOUT of the pending slot with operation `op`. -/
def scaleFill (op first count : Nat) (value : Word32) (put : Scales → Scales) (s : State) : State :=
  match nextScale s.grid with
  | none => s
  | some o =>
    let f := scaleSlot o.bits
    if f.op = op ∧ f.first = first ∧ f.count = count ∧ f.value = value.toNat then
      s.updGrid (fun g => scaleLoaded { g with scales := put g.scales } o.no 0)
    else s

/-- FILLCOL: one FP32 value into a range of SCALE_COL registers, their marks cleared (R38, R40). -/
def execFillcol (first count : Nat) (value : Word32) (s : State) : Res :=
  .next (scaleFill 3 first count value (writeScales false 0 first (List.replicate count (value.toNat, false))) s)

/-- FILLROW: one FP32 value into a range of SCALE_ROW registers, their marks cleared (R38, R40). -/
def execFillrow (first count : Nat) (value : Word32) (s : State) : Res :=
  .next (scaleFill 4 first count value (writeScales true 0 first (List.replicate count (value.toNat, false))) s)

/-- SETOUT: OUT_SCALE takes the slot's value (R38). -/
def execSetout (value : Word32) (s : State) : Res :=
  .next (scaleFill 5 0 1 value (fun x => { x with out := value.toNat, outBad := false }) s)

/-- SCALE_SLOT_COMPLETE: the oldest SCALE slot, once loaded, completes with its status (R40, R42). -/
def execScaleSlotComplete (s : State) : Res :=
  match s.grid.scaleOps with
  | [] => .next s
  | o :: rest =>
    if o.loaded then .next (slotDone (s.updGrid (fun g => { g with scaleOps := rest })) 0 o.no o.status) else .next s

/-! ## Starting operations (R70, R94) -/

/-- Whether two lists of ranges share a byte. -/
def rangesMeet (xs ys : List (Nat × Nat)) : Bool := xs.any (fun x => ys.any (fun y => overlaps x.1 x.2 y.1 y.2))

/-- Address of an operation's streaming operand as R54 redirects it, and whether it is the BF16 copy of a re-run of its own step. Of two
copies of one narrow base the newer is read. (DESIGN CHOICE, log 20.) -/
def streamSource (g : Grid) (o : GridOp) : Nat × Bool :=
  match g.wide.find? (fun c => c.step == o.step && c.narrow == o.asrc) with
  | some c => (c.addr, true)
  | none => (o.asrc, false)

/-- Ranges an operation reads and writes (R94). -/
def opReads (g : Grid) (o : GridOp) : List (Nat × Nat) :=
  let f := gridSlot o.bits
  if f.op = 2 then wloadRanges g f o.aw o.ags o.aaux
  else
    let (src, wide) := streamSource g o
    mmReads f src o.aaux o.ax2 wide ++ (if f.acc = 0 then [] else [(o.adst, tensorBytes (destTensor f o.adst))])

def opWrites (o : GridOp) : List (Nat × Nat) :=
  let f := gridSlot o.bits
  if f.op = 2 then [] else mmWrites f o.adst o.aaux

/-- Whether an earlier unfinished operation holds a later one: its writes overlap; for an MM also its reads overlap what the
MM writes; a WLOAD waits for the injections of an MM that reads its set (R70, R94). -/
def opHolds (g : Grid) (e o : GridOp) : Bool :=
  let fo := gridSlot o.bits
  let fe := gridSlot e.bits
  rangesMeet (opWrites e) (opReads g o ++ opWrites o) || (fo.op == 1 && !e.swept && rangesMeet (opReads g e) (opWrites o)) ||
    (fo.op == 2 && fe.op == 1 && fe.rsel == fo.rsel && !e.swept)

/-- Starting the first operation that has not begun, in issue order; `waited` is the cycles it was held. (DEDUCED, log 19.) -/
def startNext (g : Grid) (waited : Nat) : List GridOp → List GridOp → Grid
  | _, [] => g
  | before, o :: rest =>
    if o.started then startNext g waited (before ++ [o]) rest
    else if before.any (fun e => e.rerun || opHolds g e o) then g
    else
      { g with
        ops := before ++ { o with started := true } :: rest
        stall := if (gridSlot o.bits).op = 1 then sat64 g.stall waited else g.stall }

/-- GRID_OP_START: the GSQ starts its next operation once R70 and R94 allow it; a held operation holds every later one. (DEDUCED, log 119.) -/
def execGridOpStart (waited : Nat) (s : State) : Res := .next (s.updGrid (fun g => startNext g waited [] g.ops))

/-! ## Sweep rates (R26, R65, R89, R95), in eighths of a vector per cycle -/

/-- The rate of R26 from the widths of the two formats. -/
def baseRate (af wf : Fmt) : Nat :=
  let w := max af.bits wf.bits
  if w = 4 then 16 else if w = 8 then 8 else 2

/-- Bytes per vector that cross the bridge, west to east and east to west (R95). -/
def bridgeBytes (g : Grid) (f : GridSlot) (src dst : Nat) (af : Fmt) : Nat × Nat :=
  let bits := fun (n : Nat) (t : Fmt) => (n * t.bits + 7) / 8
  let of_ := fmtD f.ofmt
  let groups := ceilDiv f.n 256
  let bg := bandGroups g f
  let west := g.westCols / 256
  let bandWest := fun b => decide (bg * b < west)
  let bandEast := fun b => decide (west < bg * b + groups)
  let srcEast := decide (potEast ≤ src)
  let dstEast := decide (potEast ≤ dst)
  let far :=
    if f.axis then (if srcEast then min f.kb g.westCols else f.kb - g.westCols)
    else ((List.range f.f).filter (if srcEast then bandWest else bandEast)).length * f.kb
  let stream := bits far af
  let rimWest := if f.axis then min f.n 1792 else min f.n g.westCols
  let outFar := if dstEast then rimWest else f.n - rimWest
  let outB := bits outFar of_ + (if of_.isFp4 then outFar / 32 else 0)
  let fold := if f.axis then 0 else if 2 ≤ f.f && (List.range f.f).any bandEast then 4 * f.n else 0
  let half := if f.axis then 4 * 1792 else 0
  ((if srcEast then 0 else stream) + (if dstEast then outB else 0) + half,
    (if srcEast then stream else 0) + (if dstEast then 0 else outB) + fold + half)

/-- Halving the rate until the bytes fit 15,238 per cycle (R95). -/
def fitRate (b : Nat) : Nat → Nat → Nat
  | 0, v => v
  | n + 1, v => if 8 * 15238 < b * v then fitRate b n (v / 2) else v

/-- v of a sweep (R65, R89, R95). -/
def sweepRate (g : Grid) (f : GridSlot) (src dst : Nat) (af : Fmt) : Nat :=
  let v := baseRate af (fmtD f.wfmt)
  let v1 := if f.cut then min v 8 else v
  let b := bridgeBytes g f src dst af
  fitRate (max b.1 b.2) 4 v1

/-! ## Sweeps -/

/-- The sums of one vector with their poison. -/
def vectorSums (g : Grid) (x : GridSet) (f : GridSlot) (fp4 : Bool) (vec : List Elem) : List (Num × Bool) :=
  let vbad := vec.any (·.bad)
  (List.range f.n).map (fun n =>
    if f.axis then (transposedOut x f fp4 g.westCols vec n, vbad || x.rowBad f.kb n)
    else
      let cols := 256 * bandGroups g f
      (normalOut x f fp4 cols vec n, vbad || (List.range f.f).any (fun b => x.colBad f.kb (cols * b + n))))

/-- The 128 B of a cutter layer record as the products c_j × 2^(e − 127) (R88). -/
def cutterValues (bs : List Nat) : List Num :=
  (List.range 64).map (fun j => (Fmt.e4m3.decode (bs.getD j 0)).mul (e8m0Decode (bs.getD (64 + j / 2) 0)))

/-- Bytes read from an address with one poison flag for all of them. -/
def readBytes (s : State) (reader tenant a n : Nat) : List Nat × Bool × State :=
  let r := loadBytes s reader tenant a n
  (r.bytes.map (·.toNat), r.poisoned, r.next)

/-- What the rim reads for vector r of an operation, records and old destination values included. -/
def rimInputs (s : State) (f : GridSlot) (o : GridOp) (r : Nat) : RimIn × State :=
  let t := o.tenant
  let (dst, s1) := if f.acc = 0 then ([], s) else readLine s 0 t (destTensor f o.adst) (fmtD f.ofmt) 0 r f.n
  let (rb, rbad, s2) := if f.usesRec then readBytes s1 0 t (o.aaux + 16 * r) 16 else ([], false, s1)
  let (sb, sbad, s3) := if f.rnorm = 3 then readBytes s2 0 t (o.ax2 + 512 * r) (ceilDiv f.n 8) else ([], false, s2)
  let (cb, cbad, s4) := if f.cut then readBytes s3 0 t (o.ax2 + 128 * r) 96 else ([], false, s3)
  let word (i : Nat) : Nat := (List.range 4).foldr (fun k acc => rb.getD (4 * i + k) 0 + 256 * acc) 0
  ({ oldDst := dst.map (fun e => (e.value, e.bad)), record := [word 0, word 1, word 2, word 3], recBad := rbad,
     sieve := (List.range f.n).map (fun n => bitOf (sb.getD (n / 8) 0) (n % 8)), sieveBad := sbad,
     cutter := cutterValues cb, cutterBad := cbad }, s4)

/-- Column or row scale of output n with its mark (R37, R40, R43). -/
def scaleOf (x : Scales) (axis : Bool) (n : Nat) : Num × Bool :=
  if axis then (ofFp32 (BitVec.ofNat 32 (mapGet oneCode x.row n)), mapGet false x.rowBad n)
  else (ofFp32 (BitVec.ofNat 32 (mapGet oneCode x.col n)), mapGet false x.colBad n)

/-- Writing a record, or poison over the 32 B word that holds it (R86). -/
def writeRecord (s : State) (tenant a : Nat) (r : List Nat) (bad : Bool) : State :=
  if bad then (storeCode s a poisonWord).next
  else (storeBytes s 0 tenant a (r.flatMap (fun w => natLE 4 w))).next

/-- A sweep in progress: the edits of its outputs, its counts, whether it met poison, what it read, and the state. -/
structure SweepRun where
  edits : Map WordEdit := []
  sats : Nat := 0
  nonfinites : Nat := 0
  bad : Bool := false
  oldDst : List (List (Num × Bool)) := []
  oldRec : List (List Nat × Bool) := []
  next : State

/-- The streaming vector r, with values widened under R51 when `fold` asks for it: each is the exact stored value, also where BF16 does not
hold it (an FP16 value, an FP4 value times its scale). (DESIGN CHOICE, log 20.) -/
def streamVector (s : State) (f : GridSlot) (src : Nat) (wide fold : Bool) (tenant r : Nat) : List Elem × State :=
  let fm := if wide then Fmt.bf16 else fmtD f.afmt
  let (v, s1) := readLine s 0 tenant (streamTensor f src wide) fm 0 r f.vl
  (if fold then v.map (fun e => { val := e.value, bad := e.bad }) else v, s1)

/-- One vector of a sweep: streamed, summed, finished by the rim and converted. -/
def sweepVector (x : GridSet) (f : GridSlot) (o : GridOp) (src : Nat) (wide : Bool) (w : SweepRun) (r : Nat) : SweepRun :=
  let g := w.next.grid
  let fp4 := !wide && (fmtD f.afmt).isFp4
  let (vec, s1) := streamVector w.next f src wide false o.tenant r
  let (i, s2) := rimInputs s1 f o r
  let eps := ofFp32 (BitVec.ofNat 32 g.rimEps)
  let q := rimVector x f eps (scaleOf g.scales f.axis) (ofFp32 (BitVec.ofNat 32 g.scales.out), g.scales.outBad) i (vectorSums g x f fp4 vec)
  let s3 := match q.record with
    | some (rec, bad) => writeRecord s2 o.tenant (o.aaux + 16 * r) rec bad
    | none => s2
  let c := convertVector (fmtD f.ofmt) q.vals
  { edits := editLine (destTensor f o.adst) r c w.edits, sats := w.sats + c.sats, nonfinites := w.nonfinites + c.nonfinites,
    bad := w.bad || q.vals.any (·.2) || i.recBad, oldDst := w.oldDst ++ [i.oldDst], oldRec := w.oldRec ++ [(i.record, i.recBad)],
    next := s3 }

/-- Whether the oldest unfinished operation may do its work: it has started, has not done it, and no SCALE slot that it must
observe is incomplete (R41, R42). -/
def mayRun (g : Grid) (o : GridOp) : Bool := o.started && !o.swept && g.scaleOps.all (fun c => decide (o.no < c.no))

/-- Replacing the oldest unfinished operation. -/
def putHead (g : Grid) (o : GridOp) : Grid := { g with ops := o :: g.ops.drop 1 }

/-- The work of MM: the oldest unfinished operation, a sweep with these slot bits, streams its vectors and writes its outputs (R78 to
R95). -/
def runSweep (slot stalled : Nat) (s : State) : Res :=
  match s.grid.ops with
  | [] => .next s
  | o :: _ =>
    let f := gridSlot slot
    if o.bits = slot ∧ f.op = 1 ∧ mayRun s.grid o then
      let g := s.grid
      let x := g.set f.rsel
      let (src, wide) := streamSource g o
      let w := (List.range f.m).foldl (sweepVector x f o src wide) { next := s }
      let q := applyEdits w.next 0 o.tenant w.edits
      let v := sweepRate g f src o.adst (if wide then .bf16 else fmtD f.afmt)
      whenFree s (opReads g o ++ opWrites o) (.next (q.next.updGrid (fun g =>
        putHead { g with busy := sat64 g.busy (ceilDiv (8 * f.m) v), stall := sat64 g.stall stalled }
          { o with
            swept := true, status := firstStatus q.status (if w.bad then 0x301 else 0), sats := w.sats,
            nonfinites := w.nonfinites, src := src, wide := wide, scales := g.scales, oldDst := w.oldDst, oldRec := w.oldRec,
            aw := x.aw, ags := x.ags })))
    else .next s

/-- WLOAD: the oldest unfinished operation, a load with these slot bits, writes its register set (R66 to R68). -/
def execWload (slot : Nat) (s : State) : Res :=
  match s.grid.ops with
  | [] => .next s
  | o :: _ =>
    let f := gridSlot slot
    if o.bits = slot ∧ f.op = 2 ∧ mayRun s.grid o then
      let l := loadSet s f o.aw o.ags o.aaux o.tenant
      whenFree s (opReads s.grid o)
        (.next (l.next.updGrid (fun g => putHead (g.putSet f.rsel l.set) { o with swept := true, status := if l.bad then 0x301 else 0 })))
    else .next s

/-- WLOAD_COMPLETE: the load at the head of the GSQ's operations ends; its set is ready (R69, R103). -/
def execWloadComplete (s : State) : Res :=
  match s.grid.ops with
  | [] => .next s
  | o :: rest =>
    let f := gridSlot o.bits
    if o.swept ∧ f.op = 2 then
      .next (slotDone (s.updGrid (fun g =>
        { g.putSet f.rsel { g.set f.rsel with ready := true } with ops := rest })) 0 o.no o.status)
    else .next s

/-! ## Wide re-runs (R50 to R57, R96 to R98) -/

/-- Bytes of the BF16 copy of a sweep's output (R53). -/
def wideBytes (f : GridSlot) : Nat := tensorBytes (matrix 0 .bf16 false f.n f.m)

/-- Bytes of the wide area from its base to the end of the last copy in it: space is allocated in order (R53). -/
def wideTop (g : Grid) (base : Nat) : Nat :=
  g.wide.foldl (fun t c => if base ≤ c.addr then max t (c.addr + c.bytes - base) else t) 0

/-- The reason of R55 that bars a re-run, 0 where none does. (DESIGN CHOICE, log 20.) -/
def rerunBar (s : State) (f : GridSlot) (o : GridOp) : Nat :=
  let g := s.grid
  let isWide (c : Nat) : Bool := c == 1 || c == 2
  let act := o.wide || isWide f.afmt
  if act && isWide f.wfmt && decide (f.ofmt ≤ 2) then 1
  else if !(dbool s 0x2100 3) then 2
  else if dget s 0x2100 4 = 0 ∨ dget s 0x2100 5 < wideTop g (dget s 0x2100 4) + wideBytes f then 3
  else if 16 ≤ (g.wide.filter (fun c => c.step == o.step)).length then 4
  else if overlaps o.adst (tensorBytes (destTensor f o.adst)) o.src (tensorBytes (streamTensor f o.src o.wide)) then 5
  else 0

/-- The head operation leaves the GSQ: its slot completes. -/
def finishHead (s : State) (o : GridOp) : State :=
  slotDone (s.updGrid (fun g => { g with ops := g.ops.drop 1 })) 0 o.no o.status

/-- MM_COMPLETE: the head sweep's count is final. It completes, or R50 calls for a re-run and every later operation that has
begun is abandoned (R96). (DESIGN CHOICE, log 20.) -/
def execMmComplete (s : State) : Res :=
  match s.grid.ops with
  | [] => .next s
  | o :: rest =>
    let f := gridSlot o.bits
    if o.swept ∧ f.op = 1 ∧ o.rerun = false then
      let s1 := s.updGrid (fun g => { g with sweeps := sat64 g.sweeps 1 })
      let s2 := nonfiniteEvent (countGrid s1 o.step f.layer o.sats o.nonfinites) o.step 0 o.tenant f.layer o.nonfinites
      if gridThreshold s o.step < o.sats then
        let why := rerunBar s f o
        if why = 0 then
          .next (s2.updGrid (fun g =>
            { g with
              ops := { o with rerun := true, wideAddr := dget s 0x2100 4 + wideTop g (dget s 0x2100 4) } ::
                rest.map (fun r => { r with started := false }) }))
        else .next (finishHead (recordNumeric (bump s2 0x2101 4 1) 0x401 o.step 0 o.tenant f.layer o.sats why) o)
      else .next (finishHead s2 o)
    else .next s

/-- One vector of a re-run: the activation widened, the destination and records as the sweep read them, BF16 outputs. The record that a
re-run's STAT or SOFTMAX forms is not written: that of the first run stands. (DESIGN CHOICE, log 20.) -/
def rerunVector (x : GridSet) (f : GridSlot) (o : GridOp) (w : SweepRun) (r : Nat) : SweepRun :=
  let g := w.next.grid
  let (vec, s1) := streamVector w.next f o.src o.wide true o.tenant r
  let (i, s2) := rimInputs s1 { f with acc := 0 } o r
  let old := o.oldRec.getD r ([], false)
  let i' : RimIn := { i with oldDst := o.oldDst.getD r [], record := old.1, recBad := old.2 }
  let eps := ofFp32 (BitVec.ofNat 32 g.rimEps)
  let q := rimVector x f eps (scaleOf o.scales f.axis) (ofFp32 (BitVec.ofNat 32 o.scales.out), o.scales.outBad) i' (vectorSums g x f false vec)
  let c := convertVector .bf16 q.vals
  { w with
    edits := editLine (matrix o.wideAddr .bf16 false f.n f.m) r c w.edits, sats := w.sats + c.sats,
    nonfinites := w.nonfinites + c.nonfinites, bad := w.bad || q.vals.any (·.2), next := s2 }

/-- A set's block loaded again into it from addresses (R97); whether poison was read, and the state. -/
def reloadSet (s : State) (f : GridSlot) (aw ags tenant : Nat) : Bool × State :=
  let x := s.grid.set f.rsel
  let l := loadSet s (setSlot x f) aw ags x.aaux tenant
  (l.bad, l.next.updGrid (fun g => g.putSet f.rsel { l.set with ready := x.ready }))

/-- RERUN_COMPLETE: the head sweep's re-run ends: its block is loaded again, its BF16 copy is written, counted and remapped, the set gets
back the block it held, and WIDE_RERUN is recorded (R50 to R56, R97). -/
def execRerunComplete (s : State) : Res :=
  match s.grid.ops with
  | [] => .next s
  | o :: _ =>
    let f := gridSlot o.bits
    if o.rerun then
      let x := s.grid.set f.rsel
      let (bad0, s0) := reloadSet s f o.aw o.ags o.tenant
      let w := (List.range f.m).foldl (rerunVector (s0.grid.set f.rsel) f o) { next := s0 }
      let q := applyEdits w.next 0 o.tenant w.edits
      let (bad1, sq) := reloadSet q.next f x.aw x.ags o.tenant
      let s1 := sq.updGrid (fun g =>
        { g with
          sweeps := sat64 g.sweeps 1, busy := sat64 g.busy (2 * f.m),
          wide := { step := o.step, narrow := o.adst, addr := o.wideAddr, bytes := wideBytes f } :: g.wide })
      let s2 := countGrid (bump s1 0x2101 3 1) o.step f.layer w.sats w.nonfinites
      let s3 := recordNumeric (nonfiniteEvent s2 o.step 0 o.tenant f.layer w.nonfinites) 0x402 o.step 0 o.tenant f.layer o.sats 0
      let s4 := if w.sats = 0 then s3 else recordNumeric s3 0x401 o.step 0 o.tenant f.layer w.sats 6
      .next (finishHead s4 { o with status := firstStatus (firstStatus o.status q.status) (if w.bad || bad0 || bad1 then 0x301 else 0) })
    else .next s

end Sys2Proof.Machine
end

