-- ==== Sys2Proof/Machine/Access.lean ====
section
/-!
DEFINITION. Whose addresses are whose: the reach of a tenant's apertures (R469, R471), of tenant 0 (R755), the resident
area and extents of contexts (R481, R484), and the placement of sources on a die (R270).
-/

namespace Sys2Proof.Machine

/-- The address and length of each extent a context declares (R481): west subindices 1 to 8, east 9 to 16. -/
def contextExtents (s : State) (c : Nat) : List (Nat × Nat) :=
  (List.range 16).filterMap (fun i =>
    let v := dget s (0x2080 + c) (i + 1)
    let n := v % 2 ^ 32
    if n = 0 then none else some ((if i < 8 then potWest else potEast) + v / 2 ^ 32, n))

/-- The save area of a context, in each of the eight stacks (R484). -/
def saveAreas (s : State) (c : Nat) : List (Nat × Nat) :=
  let n := dget s (0x2080 + c) 0x12
  if n = 0 then [] else (List.range 8).map (fun st => (st * 2 ^ 37 + dget s (0x2080 + c) 0x11, n))

def overlapsAny (a n : Nat) (rs : List (Nat × Nat)) : Bool := rs.any (fun r => overlaps a n r.1 r.2)

/-- Whether a range touches the resident area of either stockpot die (R481). -/
def inResident (s : State) (a n : Nat) : Bool :=
  let c := dget s 0x2030 1
  overlaps a n potWest c || overlaps a n potEast c

/-- The key-value metadata range (R399). -/
def inKvMeta (s : State) (a n : Nat) : Bool := overlaps a n (dget s 0x2330 1) (dget s 0x2330 2)

/-- The cutter table: 32,768 cutters of 8 KiB from CutterBase, when there is one (R442, R459). -/
def inCutters (s : State) (a n : Nat) : Bool :=
  dget s 0x5200 1 != 0 && overlaps a n (dget s 0x5200 1) (2 ^ 28)

/-- The slot area (R477). -/
def inSlotArea (s : State) (a n : Nat) : Bool := overlaps a n (dget s 0x5100 1) (dget s 0x5100 2)

/-- Any save area or extent of contexts 1 to 63. -/
def inContexts (s : State) (a n : Nat) : Bool :=
  (List.range 63).any (fun c => overlapsAny a n (saveAreas s (c + 1)) || overlapsAny a n (contextExtents s (c + 1)))

/-- The ranges that bar tenant 0 (R755). -/
def tenant0Barred (s : State) (a n : Nat) : Bool :=
  inResident s a n || inWideArea s a n || inKvMeta s a n || inCutters s a n || inSlotArea s a n || inContexts s a n

/-- What a region is for a tenant's reach. -/
inductive ReachKind where
  | memory | stockpot | localMem | other
  deriving DecidableEq, Repr

def reachKind (s : State) (a n : Nat) : ReachKind :=
  match regionOf s a n with
  | some (.stack _) => .memory
  | some (.pot _) => .stockpot
  | some (.localMem _) => .localMem
  | _ => if localBase ≤ a ∧ a + n ≤ localBase + 64 * 0x40000 then .localMem else .other

/-- Tenant 0's reach (R755). -/
def tenant0Reach (s : State) (write : Bool) (a n : Nat) : Bool :=
  let ok := match reachKind s a n with
    | .memory => true
    | .localMem => true
    | .stockpot => s.ctx.current == 0
    | .other => false
  ok && !(tenant0Barred s a n) && !(write && (slotRegions s).any (fun r => overlaps a n r.2.1 r.2.2))

/-- Whether apertures cover a range, from its first byte on. -/
def apCover (aps : List (Bool × Nat × Nat)) (write : Bool) (a n : Nat) : Nat → Bool
  | 0 => false
  | k + 1 =>
    match aps.find? (fun e => (e.1 || !write) && decide (e.2.1 ≤ a) && decide (a < e.2.1 + e.2.2)) with
    | some e => if a + n ≤ e.2.1 + e.2.2 then true else apCover aps write (e.2.1 + e.2.2) (a + n - (e.2.1 + e.2.2)) k
    | none => false

/-- A range within a tenant's apertures, stockpot only while its context is current (R471). -/
def apertureReach (s : State) (t : Nat) (write : Bool) (a n : Nat) : Bool :=
  apCover (apertures s t) write a (max n 1) 64 && (reachKind s a n != .stockpot || s.ctx.current == t)

/-- The local-memory quarter that holds an address, as its bit number in the mask of 256 (R471). -/
def quarterOf (a : Nat) : Nat := (a - localBase) / 0x10000

/-- Whether a tenant holds every quarter a range touches. -/
def holdsQuarters (s : State) (t a n : Nat) : Bool :=
  decide (localBase ≤ a) && decide (a + n ≤ localBase + 64 * 0x40000) &&
  (List.range (quarterOf (a + max n 1 - 1) + 1 - quarterOf a)).all (fun i =>
    let q := quarterOf a + i
    bitOf (dget s (0x4002 + 0x40 * t) (q / 64 + 1)) (q % 64))

/-- The memory that work of a tenant may reach, with the serving privilege or without (R399, R471, R755). -/
def mayReach (s : State) (t : Nat) (priv write : Bool) (a n : Nat) : Bool :=
  if priv then true
  else if t = 0 then tenant0Reach s write a n
  else apertureReach s t write a n

/-- As `mayReach`, for a walker task: local-memory quarters too. -/
def taskReach (s : State) (t : Nat) (priv write : Bool) (a n : Nat) : Bool :=
  mayReach s t priv write a n || (!priv && t != 0 && holdsQuarters s t a n)

/-! ## Dies (R270) -/

/-- The die nearer an address of the device: false west, true east. -/
def dieOf (a : Nat) : Bool :=
  if a < potWest then decide (4 ≤ a / 2 ^ 37)
  else if a < localBase then decide (potEast ≤ a)
  else if a < ecsBase then decide (32 ≤ (a - localBase) / 0x40000)
  else match blockOf (a - ecsBase) with
    | some (e, _) =>
      if e = 0 then false
      else if e ≤ 8 then decide (5 ≤ e)
      else if e < 64 then decide (16 ≤ e - 32)
      else decide (32 ≤ e - 64)
    | none => false

/-- A mover or core usable: not retired by self-test (R379, R643). -/
def moverUsable (s : State) (m : Nat) : Bool := decide (m < 32) && !(bitOf (dget s 0x7100 8) m)
def coreUsable (s : State) (n : Nat) : Bool := decide (n < 64) && bitOf (dget s 0x2022 1) n

/-- An engine under an in-field test takes no entries (R647). -/
def underTest (s : State) (eng : Nat) : Bool := s.test.stopped.contains eng

/-- The movers and cores of a die among which the pool chooses (R270, R379, R647). -/
def dieMovers (s : State) (east : Bool) : List Nat :=
  ((List.range 16).map (fun i => if east then 16 + i else i)).filter (fun m => moverUsable s m && !(underTest s (32 + m)))

def dieCores (s : State) (east : Bool) : List Nat :=
  ((List.range 32).map (fun i => if east then 32 + i else i)).filter (fun n => coreUsable s n && !(underTest s (64 + n)))

end Sys2Proof.Machine
end

