-- ==== Sys2Proof/Machine/Route.lean ====
section
/-!
DEFINITION. Nodes and routes of a fabric group (R514 to R516), and the sending of packets (R511, R513).
-/

namespace Sys2Proof.Machine

/-- Extents of the group in X, Y and Z. -/
def extents (s : State) : List Nat := [dget s 0x6000 2, dget s 0x6000 3, dget s 0x6000 4]

/-- Coordinates of a node number (R514). -/
def nodeCoords (n : Nat) : List Nat := [n % 16, n / 16 % 64, n / 1024]

def nodeOf (c : List Nat) : Nat := c.getD 2 0 * 1024 + c.getD 1 0 * 16 + c.getD 0 0

def validNode (s : State) (n : Nat) : Bool :=
  ((nodeCoords n).zip (extents s)).all (fun e => decide (e.1 < e.2)) && decide (n / 1024 < 64)

/-- The step of a dimension from coordinate a to b in a ring of d: none when equal; true for the positive direction, the
shorter way, the positive one when both are equally long (R515). -/
def ringStep (a b d : Nat) : Option Bool := if a = b then none else some (decide (2 * ((b + d - a) % d) ≤ d))

/-- The port by which a packet leaves a node towards another, in X, then Y, then Z (R507, R515). -/
def portToward (s : State) (src dst : Nat) : Option Nat :=
  let a := nodeCoords src
  let b := nodeCoords dst
  (List.range 3).findSome? (fun k =>
    (ringStep (a.getD k 0) (b.getD k 0) ((extents s).getD k 1)).map (fun pos => 2 * k + (if pos then 0 else 1)))

/-- The node a port of a node reaches (R514). -/
def neighbourOf (s : State) (n p : Nat) : Nat :=
  let c := nodeCoords n
  let k := p / 2
  let d := (extents s).getD k 1
  let v := c.getD k 0
  nodeOf (listUpd c k (fun _ => if p % 2 = 0 then (v + 1) % d else (v + d - 1) % d))

/-- The dictionary index of a port's entries: 0 to 5 FX0 to FX5, 6 and 7 TD0 and TD1 (R542). -/
def portIdx (p : Nat) : Nat := if p < 6 then 0x6010 + p else 0x610A + p

def portState (s : State) (p : Nat) : Nat := dget s (portIdx p) 1

/-- The port at the other end of a link (R514). -/
def oppositePort (p : Nat) : Nat := if p % 2 = 0 then p + 1 else p - 1

/-- A link failed in the fault map, as either of its ends reported it (R516). -/
def linkFailed (s : State) (n p : Nat) : Bool :=
  s.fabric.links.contains (n, p) || s.fabric.links.contains (neighbourOf s n p, oppositePort p)

/-- A link that carries no packet: one of the fault map, or an own port that is neither UP nor TRAINING. -/
def linkBad (s : State) (n p : Nat) : Bool :=
  linkFailed s n p || (n == s.fabric.node && portState s p != 1 && portState s p != 2)

/-- The ports that a node of the group uses: both of every dimension whose extent is above 1 (R514). -/
def usedPorts (s : State) : List Nat := (List.range 6).filter (fun p => (extents s).getD (p / 2) 1 != 1)

/-- A node is DOWN when all of its ports are down, or by its leave notice (R516). -/
def nodeDown (s : State) (n : Nat) : Bool :=
  s.fabric.down.contains n || (!(usedPorts s).isEmpty && (usedPorts s).all (linkFailed s n))

/-- Whether the dimension-ordered path from a to b avoids every failure of the fault map; at most `fuel` hops. -/
def pathClear (s : State) (a b : Nat) : Nat → Bool
  | 0 => false
  | fuel + 1 =>
    if nodeDown s b then false
    else match portToward s a b with
      | none => true
      | some p =>
        let n := neighbourOf s a p
        !(linkBad s a p) && !(nodeDown s n) && pathClear s n b fuel

/-- The offsets of R516 along a dimension. -/
def detourOffsets : List Int := [1, -1, 2, -2, 3, -3, 4, -4]

/-- The intermediate node of R516: along the dimension after the first one travelled, then along the one after that. (DEDUCED, log 74.) -/
def detour (s : State) (src dst : Nat) : Option Nat :=
  match portToward s src dst with
  | none => none
  | some p =>
    ([1, 2].flatMap (fun j => detourOffsets.map (fun o => ((p / 2 + j) % 3, o)))).findSome? (fun e =>
      let d := (extents s).getD e.1 1
      let c := nodeCoords src
      let v : Int := c.getD e.1 0
      let n := nodeOf (listUpd c e.1 (fun _ => ((v + e.2) % (d : Int)).toNat))
      if n ≠ src ∧ pathClear s src n 200 && pathClear s n dst 200 then some n else none)

/-- How a packet leaves this device for a node: its first port and whether it takes a detour; none when unreachable. (DEDUCED, log 74.) -/
def routeTo (s : State) (dst : Nat) : Option (Nat × Bool) :=
  let me := s.fabric.node
  if pathClear s me dst 200 then (portToward s me dst).map (fun p => (p, false))
  else (detour s me dst).bind (fun n => (portToward s me n).map (fun p => (p, true)))

/-- The die that carries the port on which the route to a node leaves: FX0, FX2 and FX4 are west (R270, R507). -/
def dieOfNode (s : State) (n : Nat) : Bool :=
  match routeTo s n with
  | some (p, _) => p % 2 == 1
  | none => false

/-! ## Sending (R511, R513, R515) -/

def State.port (s : State) (p : Nat) : Port := mapGet {} s.fabric.ports p
def State.setPort (s : State) (p : Nat) (x : Port) : State := { s with fabric := { s.fabric with ports := mapSet {} s.fabric.ports p x } }
def State.updPort (s : State) (p : Nat) (f : Port → Port) : State := s.setPort p (f (s.port p))

/-- `n` flits leave: numbered, kept for replay, counted, and paid for with credits. (DEDUCED, log 72.) -/
def sendFlits (s : State) (p vc n : Nat) : State :=
  if n = 0 then s
  else
    bump (s.updPort p (fun x =>
      { x with
        txSeq := (x.txSeq + n) % 4096, credits := mapUpd 64 x.credits vc (fun c => c - n),
        replay := x.replay ++ (List.range n).map (fun i => { seq := (x.txSeq + i) % 4096 }) })) (portIdx p) 4 n

/-- The packets that wait at a port are sent as far as credits and the replay buffer of 1,024 flits allow, in order on each
virtual channel; a packet leaves with its last flit. -/
def drainItems (s : State) (p : Nat) : List SendItem → List SendItem → State
  | kept, [] => s.updPort p (fun x => { x with sendq := kept })
  | kept, i :: rest =>
    let x := s.port p
    let n := if portState s p ≠ 2 ∨ kept.any (fun k => k.vc == i.vc) = true then 0
      else min i.left (min (mapGet 64 x.credits i.vc) (1024 - x.replay.length))
    let s1 := sendFlits s p i.vc n
    if n = i.left then drainItems (emit s1 (.packet p i.op i.fields i.data)) p kept rest
    else drainItems s1 p (kept ++ [{ i with left := i.left - n }]) rest

def drainPort (s : State) (p : Nat) : State := drainItems s p [] (s.port p).sendq

/-- A packet is given to a port's transmitter. -/
def transmit (s : State) (p op vc flits : Nat) (fields : List Nat) (data : List Byte) : State :=
  drainPort (s.updPort p (fun x => { x with sendq := x.sendq ++ [{ op := op, fields := fields, data := data, vc := vc, left := flits }] })) p

/-- Flits of a packet: a READ is one flit (R510). -/
def Packet.flits (k : Packet) : Nat := if k.op = 2 then 1 else k.fcnt + 1

def Packet.fields (k : Packet) : List Nat :=
  [k.dst, k.src, k.tenant, boolNat k.priv, k.ord, k.addfmt, k.fcnt, k.tag, k.addr] ++ k.mask.map boolNat

/-- The dateline channel: taken on crossing between D − 1 and 0, and kept for the rest of the dimension (R515). -/
def crossesDateline (s : State) (p : Nat) : Bool :=
  let v := (nodeCoords s.fabric.node).getD (p / 2) 0
  if p % 2 = 0 then v + 1 == (extents s).getD (p / 2) 1 else v == 0

/-- A packet leaves by a port on its class, leg and dateline channel. -/
def sendOn (s : State) (p : Nat) (leg dateline : Bool) (k : Packet) : State :=
  let resp := k.op == 3 || k.op == 5 || k.op == 6
  transmit s p k.op (4 * boolNat resp + 2 * boolNat leg + boolNat (dateline || crossesDateline s p)) k.flits k.fields
    (k.words.flatMap (fun w => natLE 36 w))

/-- A packet of this device leaves by its route, with a detour counted; none when its node is unreachable (R516). -/
def sendPacket (s : State) (k : Packet) : Option State :=
  (routeTo s k.dst).map (fun r => sendOn (if r.2 then bump s 0x6000 9 1 else s) r.1 false false k)

/-- The next port of a packet in transit and the leg it then travels (R516): every device finds the intermediate node of the first
leg as the source did; none where the packet cannot go on. -/
def nextHop (s : State) (k : Packet) (leg : Bool) : Option (Nat × Bool) :=
  let me := s.fabric.node
  let via := if leg ∨ pathClear s k.src k.dst 200 = true then some (k.dst, leg)
    else (detour s k.src k.dst).map (fun n => if n = me then (k.dst, true) else (n, false))
  via.bind (fun v => (portToward s me v.1).bind (fun p => if linkBad s me p then none else some (p, v.2)))

/-! ## The tandem stream (R531) -/

def pairState (s : State) : Nat := dget s 0x6100 4

/-- A change of the pair state sets local source 3 of tenant 0 (R563). -/
def setPair (s : State) (st : Nat) : State := if pairState s = st then s else raiseLocal (dset s 0x6100 4 st) 0 3

/-- SYNCING or ACTIVE. -/
def mirroring (s : State) : Bool := pairState s == 2 || pairState s == 3

/-- The codeword of 32 bytes, as a port carries it (R203, R206). -/
def wordCode (bs : List Byte) : Nat := (encode288 (wordOfBytes bs)).toNat

/-- A message of the ordered stream, every word of it as its codeword: its word 0 with KIND, REQ, LENGTH and the sequence number, then the item; `fields` holds the
items whose layout R531 names without placing their bytes. The messages alternate over the two tandem ports. -/
def mirrorCodes (s : State) (kind req len : Nat) (fields codes : List Nat) : State :=
  if mirroring s then
    let n := s.tandem.txSeq + 1
    let word := natLE 1 kind ++ [0] ++ natLE 2 req ++ natLE 4 len ++ natLE 8 n ++ List.replicate 16 0
    let p := if portState s (6 + n % 2) = 2 then 6 + n % 2 else 7 - n % 2
    transmit (bump { s with tandem := { s.tandem with txSeq := n } } 0x6100 6 len) p 8 0 ((len + 287) / 256)
      ([kind, req, n] ++ fields) ((wordCode word :: codes).flatMap (natLE 36))
  else s

/-- A message whose item is plain bytes. -/
def mirror (s : State) (kind req len : Nat) (fields : List Nat) (item : List Byte) : State :=
  mirrorCodes s kind req len fields ((chunks 32 item).map (fun bs => wordCode (padTo 32 bs)))

end Sys2Proof.Machine
end

