-- ==== Sys2Proof/Machine/RingOps.lean ====
section
/-!
DEFINITION. What every command that ends a piece of work uses: fields of byte structures, ring registers and completion
entries (R551 to R565), completion records (R275, R344), and the posting of entries to the engines' queues (R269, R270,
R338 to R342, R377 to R379).
-/

namespace Sys2Proof.Machine

/-! ## Fields of little-endian structures (R7) -/

def field (d : List Byte) (o n : Nat) : Nat := leNat ((d.drop o).take n)
def u8 (d : List Byte) (o : Nat) : Nat := field d o 1
def u16 (d : List Byte) (o : Nat) : Nat := field d o 2
def u32 (d : List Byte) (o : Nat) : Nat := field d o 4
def u64 (d : List Byte) (o : Nat) : Nat := field d o 8

/-- Whether bytes `o` to `o + n − 1` are 0. -/
def zeroBytes (d : List Byte) (o n : Nat) : Bool := ((d.drop o).take n).all (· == 0)

def State.mover (s : State) (k : Nat) : Mover := mapGet {} s.movers k
def State.setMover (s : State) (k : Nat) (x : Mover) : State := { s with movers := mapSet {} s.movers k x }
def State.updMover (s : State) (k : Nat) (f : Mover → Mover) : State := s.setMover k (f (s.mover k))
def State.walker (s : State) (k : Nat) : Walker := mapGet {} s.walkers k
def State.setWalker (s : State) (k : Nat) (x : Walker) : State := { s with walkers := mapSet {} s.walkers k x }
def State.updWalker (s : State) (k : Nat) (f : Walker → Walker) : State := s.setWalker k (f (s.walker k))
def State.ring (s : State) (k : Nat) : Ring := mapGet {} s.rings k
def State.setRing (s : State) (k : Nat) (x : Ring) : State := { s with rings := mapSet {} s.rings k x }
def State.updRing (s : State) (k : Nat) (f : Ring → Ring) : State := s.setRing k (f (s.ring k))
def State.tenant (s : State) (k : Nat) : Tenant := mapGet {} s.tenants k
def State.setTenant (s : State) (k : Nat) (x : Tenant) : State := { s with tenants := mapSet {} s.tenants k x }
def State.updTenant (s : State) (k : Nat) (f : Tenant → Tenant) : State := s.setTenant k (f (s.tenant k))

/-! ## Rings -/

def ringFirst (s : State) (t : Nat) : Nat := dget s (0x4000 + 0x40 * t) 3
def ringCount (s : State) (t : Nat) : Nat := dget s (0x4000 + 0x40 * t) 4
def irqCount (s : State) (t : Nat) : Nat := dget s (0x4000 + 0x40 * t) 6

/-- The device-wide number of a tenant's local ring, where it has that ring (R462). -/
def ringNo (s : State) (t r : Nat) : Option Nat := if r < ringCount s t then some (ringFirst s t + r) else none

def Ring.size (r : Ring) : Nat := 2 ^ r.log2

/-- Entries in a ring (R551). -/
def Ring.held (r : Ring) : Nat := (r.qtail + 2 ^ 32 - r.qhead) % 2 ^ 32

/-- A free unreserved entry (R558). -/
def Ring.room (r : Ring) : Bool := decide (r.held + r.rsv < r.size)

/-- The address of entry index x. -/
def Ring.entryAddr (r : Ring) (x : Nat) : Nat := r.base + 64 * (x % r.size)

/-- The device stops taking entries from a ring and lets those taken complete (R555). -/
def disableRing (s : State) (k : Nat) : State := s.updRing k (fun r => { r with enable := false, busy := true })

/-- A ring access failed (R562). (DEDUCED, log 38.) -/
def failRing (s : State) (k : Nat) : State :=
  let t := (s.ring k).owner
  recordFault (disableRing (s.updRing k (fun r => { r with hosterr := true })) k)
    (faultOf 0x253 clsContained kindTenant t t 0)

/-- Writing one 64 B entry at a ring's tail, the advance of QTAIL, and its write-back (R561). (DEDUCED, log 37.) -/
def writeRingEntry (s : State) (k : Nat) (data : List Byte) : State :=
  let r := s.ring k
  if !r.enable && !r.busy then s
  else
    let a := r.entryAddr r.qtail
    let w : Store := if r.loc then storeBytes s 0xFF r.owner a (padTo 64 data)
      else { next := emit s (.hostWrite r.owner a (padTo 64 data) false false) }
    if w.status ≠ 0 then failRing w.next k
    else
      let s1 := w.next.updRing k (fun r => { r with qtail := (r.qtail + 1) % 2 ^ 32 })
      if r.wb = 0 then s1 else emit s1 (.hostWrite r.owner r.wb (natLE 4 ((r.qtail + 1) % 2 ^ 32)) false false)

/-- Whether a completion says that a ring entry of a TYPE was malformed for its kind: RESERVED_VALUE, ENTRY_FORMAT before any slot or
instruction, or a code of R265 (R554). (DEDUCED, log 148.) -/
def malformedEntry (type : Nat) (record : List Byte) : Bool :=
  if type = 1 then u16 record 4 == 0x202
  else if type = 4 then [0x202, 0x403, 0x221, 0x222, 0x220, 0x330, 0x322].contains (u16 record 2)
  else u32 record 12 == 0 && (u16 record 2 == 0x202 || u16 record 2 == 0x214)

/-- The completion of work taken from a ring: its entry on the CRING, the release of the reservation, the count of malformed entries,
then the ring's source (R554, R558, R561, R565, R568). (DEDUCED, log 37.) -/
def completeEntry (s : State) (o : Origin) (record : List Byte) (irq : Bool) : State :=
  match o.ring with
  | none => s
  | some k =>
    let r := s.ring k
    let c := ringFirst s r.owner + r.cring
    let s1 := writeRingEntry s c record
    let s2 := (s1.updRing c (fun x => { x with rsv := x.rsv - 1 })).updRing k (fun x => { x with taken := x.taken - 1 })
    let s2 := if malformedEntry r.type record then bump s2 0x2050 7 1 else s2
    if r.ien && irq then raiseLocal s2 r.owner r.isrc else s2

/-! ## Completion records -/

/-- Whether a 16 B record may lie at an address of the device (R338, R344). (DEDUCED, log 45.) -/
def recordPlace (s : State) (a : Nat) : Bool :=
  a % 16 == 0 && (match regionOf s a 16 with
    | some (.stack _) => true
    | some (.pot _) => true
    | some (.localMem _) => true
    | _ => false)

/-- The 16 B record of R344. (DEDUCED, log 45.) -/
def entryRecord (tag status engine flags st pc slots : Nat) : List Byte :=
  natLE 2 tag ++ natLE 2 status ++ natLE 1 engine ++ natLE 1 flags ++ natLE 2 st ++ natLE 4 pc ++ natLE 4 (min slots 0xFFFFFFFF)

/-! ## Posting (R339 to R342) -/

/-- The step of a slot; one in progress has a batch. -/
def stepAt (s : State) (m : Nat) : StepRun := mapGet { batch := [] } s.svc.steps m
def stepBusy (s : State) (m : Nat) : Bool := (stepAt s m).batch != []
def setStep (s : State) (m : Nat) (r : StepRun) : State :=
  { s with svc := { s.svc with steps := mapSet { batch := [] } s.svc.steps m r } }

/-- A post dropped because its queue is full (R341): the engine of the queue, the poster and the TAG. -/
def recordOverflow (s : State) (engine poster tenant tag : Nat) : State :=
  let (v, s1) := freeValue (bump s 0x2020 3 1)
  recordFault s1 (faultOf 0x216 clsCorrected kindEngine engine tenant (v % 2 ^ 16 * 2 ^ 32 + tag * 2 ^ 16 + poster))

/-- A 64 B entry reaches a sequencer's or core's queue: 1 accepted, 0 dropped because the queue is full. -/
def enqueue64 (s : State) (eng : Nat) (q : QEntry) : Nat × State :=
  let e := s.engine eng
  if e.queue.length < 256 then (1, s.setEngine eng { e with queue := e.queue ++ [q] })
  else (0, recordOverflow (s.setEngine eng { e with overflow := true, drops := sat64 e.drops 1 }) eng q.origin.poster
    q.origin.tenant (u16 q.data 0))

def badPost64 (s : State) (eng : Nat) : State := s.updEngine eng (fun e => { e with badPost := true })

/-- A 192 B descriptor reaches a mover's queue. -/
def enqueueMove (s : State) (m : Nat) (q : QEntry) : Nat × State :=
  let x := s.mover m
  if x.queue.length < 64 then (1, s.setMover m { x with queue := x.queue ++ [q] })
  else (0, recordOverflow (s.setMover m { x with overflow := true, drops := sat64 x.drops 1 }) (32 + m) q.origin.poster
    q.origin.tenant (u16 q.data 4))

/-- The entry with the least key, the first of equals. -/
def leastBy (key : Nat → Nat) : List Nat → Option Nat
  | [] => none
  | x :: xs => match leastBy key xs with
    | some y => if key y < key x then some y else some x
    | none => some x

def moverIdle (s : State) (m : Nat) : Bool := (s.mover m).run.isNone && (s.mover m).queue.isEmpty

/-- The mover choice of R270 among the movers given. -/
def chooseMover (s : State) (ms : List Nat) : Option Nat :=
  match ms.find? (moverIdle s) with
  | some m => some m
  | none => leastBy (fun m => (s.mover m).queue.length) ms

/-- The die nearer a descriptor's source (R270): SRC.ADDR at byte 16, SPACE and NODE at byte 24. -/
def moveDie (s : State) (d : List Byte) : Bool :=
  let w := u32 d 24
  match bitsOf w 25 24 with
  | 1 => false
  | 2 => dieOfNode s (w % 65536)
  | _ => dieOf (u64 d 16)

/-- BADPOST of a mover, or of the lowest-numbered usable mover of a pool's die (R340). -/
def badPostMove (s : State) (target : Nat) (first : List Byte) : State :=
  let m := if target < 32 then some target
    else (dieMovers s (if target = 34 then moveDie s first else target == 33)).head?
  match m with
  | some m => s.updMover m (fun x => { x with badPost := true })
  | none => s

/-- A descriptor posted to a target: 0 to 31 a mover, 32 the west, 33 the east and 34 the near pool (R340). A full pool's
drop is charged to the lowest-numbered usable mover of its die. -/
def postMove (s : State) (target : Nat) (q : QEntry) : Nat × State :=
  if target < 32 then (if moverUsable s target then enqueueMove s target q else (2, badPostMove s target q.data))
  else
    let east := if target = 34 then moveDie s q.data else target == 33
    let ms := dieMovers s east
    match chooseMover s (ms.filter (fun m => decide ((s.mover m).queue.length < 64))) with
    | some m => enqueueMove s m q
    | none => match ms with
      | m :: _ => enqueueMove s m q
      | [] => (2, s)

/-- Threads of a core free to take a task (R380). -/
def freeThread (s : State) (n : Nat) : Option Nat :=
  (List.range 64).find? (fun t => (mapGet {} (s.walker n).threads t).st == .free)

/-- The core choice of R379 among the cores given. -/
def chooseCore (s : State) (ns : List Nat) : Option Nat :=
  let run := ns.filter (fun n => (s.engine (64 + n)).state == .runService)
  match run.find? (fun n => (freeThread s n).isSome && (s.engine (64 + n)).queue.isEmpty) with
  | some n => some n
  | none => leastBy (fun n => (s.engine (64 + n)).queue.length) run

/-- The die of a near-pool task: ARG[0]'s, west when there is none (R379). -/
def taskDie (d : List Byte) : Bool :=
  let a := u64 d 16
  if bitsOf (u32 d 0) 27 25 = 0 ∨ 2 ^ 52 ≤ a then false else dieOf a

/-- A task posted to a target: 0 to 63 a core, 64 the west, 65 the east and 66 the near pool. 2 tells that R339 drops it. -/
def postTask (s : State) (target : Nat) (q : QEntry) : Nat × State :=
  if target < 64 then (if coreUsable s target then enqueue64 s (64 + target) q else (2, badPost64 s (64 + target)))
  else
    let east := if target = 66 then taskDie q.data else target == 65
    match chooseCore s (dieCores s east) with
    | some n => enqueue64 s (64 + n) q
    | none => (2, s)

/-- The tenant in whose name a sequencer's queue accepts a tenant's walker posts (R471): the tenant of the current context. -/
def ownSequencer (s : State) (tenant : Nat) (priv : Bool) : Bool := priv || (tenant != 0 && s.ctx.current == tenant)

/-- What a posted burst reaches (R339, R340, R379, R522). -/
inductive PostTarget where
  | seq (eng : Nat)
  | core (n : Nat)
  | move (target part : Nat)
  | taskPool (target : Nat)
  | coll
  | none
  deriving DecidableEq, Repr

def postTargetOf (a : Nat) : PostTarget :=
  let off := a - ecsBase
  if a < ecsBase then .none
  else if 0x1200000 ≤ off ∧ off < 0x1201000 then
    let o := off - 0x1200000
    if o % 0x100 < 0xC0 ∧ o < 0x300 then .move (32 + o / 0x100) (o % 0x100 / 64) else .none
  else if off = 0x1202000 then .taskPool 64
  else if off = 0x1202040 then .taskPool 65
  else if off = 0x1202080 then .taskPool 66
  else if off = 0x1210800 then .coll
  else match blockOf off with
    | some (e, o) =>
      if e ≤ 8 then (if o = 0x800 then .seq e else .none)
      else if e < 64 then (if 0x800 ≤ o ∧ o < 0x8C0 then .move (e - 32) ((o - 0x800) / 64) else .none)
      else if o = 0x800 then .core (e - 64) else .none
    | none => .none

/-- One burst of a mover descriptor: bursts of each poster are assembled in ascending offset order, and the third one
enqueues the descriptor (R339). (DESIGN CHOICE, log 39.) -/
def postMoveBurst (s : State) (target part : Nat) (key : Nat) (o : Origin) (burst : List Byte) : Nat × State :=
  let k := key * 64 + target
  let have_ := mapGet [] s.bursts k
  if have_.length ≠ 64 * part then
    (2, badPostMove { s with bursts := mapSet [] s.bursts k [] } target (if have_ = [] then burst else have_))
  else if part < 2 then (1, { s with bursts := mapSet [] s.bursts k (have_ ++ burst) })
  else postMove { s with bursts := mapSet [] s.bursts k [] } target { data := have_ ++ burst, origin := o }

/-- A write to the collective queue's window that is not one whole burst of an agent that may post there is dropped (R339). -/
def badPostColl (s : State) : State := { s with fabric := { s.fabric with collBadPost := true } }

/-- A 64 B burst posted by a poster on behalf of a tenant: 1 accepted, 0 dropped under R341, 2 dropped under R339. `key` tells
posters apart in the assembly of descriptors. (DESIGN CHOICE, log 39.) -/
def postBurst (s : State) (key : Nat) (o : Origin) (addr : Nat) (burst : List Byte) : Nat × State :=
  let may := o.poster == 16 || o.poster == 0xF2 || o.poster == 0xF3 || (decide (64 ≤ o.poster) && decide (o.poster < 128))
  match postTargetOf addr with
  | .seq e =>
    if may && (decide (o.poster < 64) || decide (128 ≤ o.poster) || ownSequencer s o.tenant o.priv) then
      enqueue64 s e { data := burst, origin := o }
    else (2, badPost64 s e)
  | .core n => if may then postTask s n { data := burst, origin := o } else (2, badPost64 s (64 + n))
  | .taskPool t => if may then postTask s t { data := burst, origin := o } else (2, s)
  | .move t p => postMoveBurst s t p key o burst
  | .coll =>
    if may && (o.priv || o.tenant == 0 || dbool s (0x4000 + 0x40 * o.tenant) 8) then
      if s.fabric.collQueue.length < 32 then
        (1, { s with fabric := { s.fabric with collQueue := s.fabric.collQueue ++ [{ data := burst, origin := o }] } })
      else (0, recordOverflow { s with fabric := { s.fabric with collOverflow := true, collDrops := sat64 s.fabric.collDrops 1 } }
        128 o.poster o.tenant (u16 burst 4))
    else (2, badPostColl s)
  | .none => (2, s)

end Sys2Proof.Machine
end

