-- ==== Sys2Proof/Machine/Movers.lean ====
section
/-!
DEFINITION. The commands of Tensor Layouts and Movers: posting, checking, moving and completing descriptors (R221, R257 to
R278, R339 to R341).
-/

namespace Sys2Proof.Machine

/-! ## Descriptors (R257, R258) -/

/-- A tensor specification of 40 bytes. -/
structure TSpec where
  addr : Nat
  fmt : Nat
  linear : Bool
  saxis : Bool
  space : Nat
  node : Nat
  ext : List Nat
  deriving DecidableEq, Repr

def tspec (d : List Byte) (o : Nat) : TSpec :=
  let w := u32 d (o + 8)
  { addr := u64 d o, fmt := bitsOf w 31 28, linear := bitOf w 27, saxis := bitOf w 26, space := bitsOf w 25 24,
    node := w % 65536, ext := (List.range 6).map (fun k => u32 d (o + 16 + 4 * k) + 1) }

/-- The fields of a descriptor (R257). -/
structure Desc where
  op : Nat
  addfmt : Nat
  xpose : Bool
  crec : Bool
  irq : Bool
  chost : Bool
  tag : Nat
  caddr : Nat
  src : TSpec
  dst : TSpec
  cnt : List Nat
  sorg : List Int
  dorg : List Int
  len : Nat
  deriving DecidableEq, Repr

def moveDesc (d : List Byte) : Desc :=
  let c := u64 d 0
  { op := bitsOf c 63 60, addfmt := bitsOf c 59 57, xpose := bitOf c 56, crec := bitOf c 55, irq := bitOf c 54,
    chost := bitOf c 53, tag := bitsOf c 47 32, caddr := u64 d 8, src := tspec d 16, dst := tspec d 56,
    cnt := (List.range 6).map (fun k => u32 d (96 + 4 * k) + 1),
    sorg := (List.range 6).map (fun k => signExt 32 (u32 d (120 + 4 * k))),
    dorg := (List.range 6).map (fun k => signExt 32 (u32 d (144 + 4 * k))), len := u64 d 96 }

/-- The tensor a specification names; integer adds take their element size from ADDFMT (R263). -/
def TSpec.tensor (t : TSpec) (intBytes : Nat) : Tensor :=
  if intBytes ≠ 0 then { base := t.addr, bits := 8 * intBytes, blocked := !t.linear, ext := t.ext }
  else tensorOf t.addr (fmtD t.fmt) (!t.linear) t.saxis t.ext

/-- Element bytes of an integer add: INT32 4, INT64 8, and 0 for every other operation. -/
def Desc.intBytes (d : Desc) : Nat := if d.op = 2 ∧ d.addfmt = 3 then 4 else if d.op = 2 ∧ d.addfmt = 4 then 8 else 0

def Desc.srcT (d : Desc) : Tensor := d.src.tensor d.intBytes
def Desc.dstT (d : Desc) : Tensor := d.dst.tensor d.intBytes

/-! ## The checks of R265 -/

def listProd (xs : List Nat) : Nat := xs.foldl (· * ·) 1

/-- Row 1: reserved encodings; an integer add ignores FMT. (DEDUCED, log 35.) -/
def moveReserved (d : Desc) : Bool :=
  let spec (t : TSpec) : Bool :=
    (d.intBytes == 0 && decide (9 < t.fmt)) || t.space == 3 || (t.space != 2 && t.node != 0) || (t.space != 1 && decide (2 ^ 52 ≤ t.addr)) ||
    t.ext.any (fun e => decide (2 ^ 24 < e))
  d.op == 0 || decide (3 < d.op) || (d.op == 2 && decide (4 < d.addfmt)) || (d.op != 2 && d.addfmt != 0) || spec d.src || spec d.dst

/-- Row 2: the pairing of formats (R263). (DEDUCED, log 35.) -/
def moveFormatBad (d : Desc) : Bool :=
  match d.op with
  | 1 => d.src.fmt != d.dst.fmt
  | 2 => d.intBytes == 0 && !(d.src.fmt == d.addfmt && d.dst.fmt == d.addfmt)
  | _ => false

/-- A linear tensor's line (R255, R256). -/
def lineBad (t : TSpec) (tn : Tensor) : Bool :=
  t.linear && (if tn.scaled then tn.e 0 % 32 != 0 || t.saxis else tn.e 0 * tn.bits % 256 != 0)

/-- R262 along one side: origin and count in the scaled dimension. -/
def scaleSpanBad (tn : Tensor) (org : List Int) (cnt : Nat) : Bool :=
  let k := boolNat tn.saxis
  let o := org.getD k 0
  o % 32 != 0 || cnt % 32 != 0 || decide (o < 0) || decide (((32 * ceilDiv (tn.e k) 32 : Nat) : Int) < o + cnt)

/-- A DISCARD's fields beside CTRL, CADDR, DST.ADDR and LENGTH are 0; reserved fields are ignored (R9, R263). -/
def discardFieldsBad (b : List Byte) (d : Desc) : Bool :=
  let spec (t : TSpec) : Bool := t.fmt != 0 || t.linear || t.saxis || t.space != 0 || t.node != 0 || t.ext.any (fun e => e != 1)
  d.src.addr != 0 || spec d.src || spec d.dst || !(zeroBytes b 104 64)

/-- Row 3 (R255, R256, R262, R263). -/
def moveShapeBad (b : List Byte) (d : Desc) : Bool :=
  (d.crec && d.caddr % 16 != 0) ||
  (if d.op = 3 then discardFieldsBad b d
   else
    let s := d.srcT
    let t := d.dstT
    lineBad d.src s || lineBad d.dst t ||
    (s.scaled &&
      ((if d.xpose then s.saxis == t.saxis else s.saxis != t.saxis) ||
       scaleSpanBad s d.sorg (d.cnt.getD (boolNat s.saxis) 1) ||
       scaleSpanBad t d.dorg (d.cnt.getD (if d.xpose then 1 - boolNat t.saxis else boolNat t.saxis) 1))) ||
    (d.op == 2 && (d.xpose || d.src.linear != d.dst.linear || (d.intBytes != 0 && !d.src.linear) || d.dst.space == 1 ||
      decide (potWest ≤ d.dst.addr))))

/-- Whether a range of the device lies wholly in one region a mover may name (R264). -/
def moveRegionOk (s : State) (a n : Nat) : Bool :=
  match regionOf s a n with
  | some (.stack _) => true
  | some (.pot _) => true
  | some (.buffer _) => true
  | some (.imem _ _) => true
  | some (.localMem _) => true
  | _ => decide (localBase ≤ a) && decide (a + n ≤ localBase + 64 * 0x40000) && (a - localBase) / 0x800000 == (a + n - 1 - localBase) / 0x800000

/-- Whether a range of another node lies in one region: its stacks may be populated otherwise, the rest of its map is the same (R264). -/
def nodeRegionOk (s : State) (a n : Nat) : Bool :=
  if a < potWest then decide (0 < n) && a / 2 ^ 37 == (a + n - 1) / 2 ^ 37 else moveRegionOk s a n

/-- Row 4 for one specification. -/
def specPlaceBad (s : State) (t : TSpec) (tn : Tensor) : Bool :=
  let n := tensorBytes tn
  t.addr % (if t.linear then 32 else 64) != 0 || decide (2 ^ 40 < listProd t.ext) ||
  (match t.space with
   | 0 => !(moveRegionOk s t.addr n)
   | 1 => decide (2 ^ 64 < t.addr + n)
   | _ => !(if t.node = s.fabric.node then moveRegionOk s t.addr n else nodeRegionOk s t.addr n))

/-- Row 4 (R264); a descriptor with neither side in space 0, for which R265 names no code, is among it. (DESIGN CHOICE, log 140.) -/
def movePlaceBad (s : State) (d : Desc) : Bool :=
  (d.crec && !d.chost && !(recordPlace s d.caddr)) ||
  (d.op != 3 && (specPlaceBad s d.src d.srcT || specPlaceBad s d.dst d.dstT || (d.src.space != 0 && d.dst.space != 0)))

/-- Whether the two footprints share a byte. -/
def moveOverlap (d : Desc) : Bool :=
  d.src.space == d.dst.space && (d.src.space != 2 || d.src.node == d.dst.node) &&
  overlaps d.src.addr (tensorBytes d.srcT) d.dst.addr (tensorBytes d.dstT)

/-- R266. -/
def orderPreserving (d : Desc) : Bool :=
  !d.xpose && d.src.linear == d.dst.linear && d.src.fmt == d.dst.fmt && d.src.saxis == d.dst.saxis && d.src.ext == d.dst.ext &&
  [0, 1].all (fun k => d.sorg.getD k 0 == 0 && d.dorg.getD k 0 == 0 && d.cnt.getD k 1 == d.src.ext.getD k 1)

/-- The in-place square transpose of R267. -/
def inPlaceTranspose (d : Desc) : Bool :=
  d.op == 1 && d.xpose && !d.src.linear && !d.dst.linear && d.src.addr == d.dst.addr && d.src.fmt == d.dst.fmt &&
  d.src.ext.getD 0 1 == d.src.ext.getD 1 1 && d.src.ext.getD 0 1 % 32 == 0 && d.src.ext == d.dst.ext &&
  d.sorg.all (· == 0) && d.dorg.all (· == 0) && d.cnt == d.src.ext

/-- Row 6 (R471, R755): the descriptor's reads, writes and record within the issuer's reach. -/
def moveAccessBad (s : State) (o : Origin) (d : Desc) : Bool :=
  let fabric := o.priv || dbool s (0x4000 + 0x40 * o.tenant) 8
  let spec (write : Bool) (t : TSpec) (n : Nat) : Bool :=
    match t.space with
    | 0 => mayReach s o.tenant o.priv write t.addr n
    | 1 => true
    | _ => fabric
  !((if d.op = 3 then mayReach s o.tenant o.priv true d.dst.addr d.len
     else spec false d.src (tensorBytes d.srcT) && spec true d.dst (tensorBytes d.dstT)) &&
    (!d.crec || d.chost || mayReach s o.tenant o.priv true d.caddr 16))

/-- The reach of a fabric access (R519). -/
def fabricReach (s : State) (t : Nat) (priv write : Bool) (a n : Nat) : Bool :=
  priv || (dbool s (0x4000 + 0x40 * t) 8 && mayReach s t false write a n)

/-- A specification in space 2 that names this device's own node is checked as the destination of a packet (R518). -/
def ownNodeBad (s : State) (o : Origin) (d : Desc) : Bool :=
  let spec (write : Bool) (t : TSpec) (n : Nat) : Bool :=
    t.space == 2 && t.node == s.fabric.node && !(fabricReach s o.tenant o.priv write t.addr n)
  d.op != 3 && (spec false d.src (tensorBytes d.srcT) || spec true d.dst (tensorBytes d.dstT))

/-- The first code of R265 that applies, 0 for none. -/
def checkMove (s : State) (o : Origin) (b : List Byte) : Nat :=
  let d := moveDesc b
  if moveReserved d then 0x202
  else if moveFormatBad d then 0x403
  else if moveShapeBad b d then 0x221
  else if movePlaceBad s d then 0x222
  else if d.op ≠ 3 ∧ moveOverlap d ∧ orderPreserving d = false ∧ inPlaceTranspose d = false then 0x220
  else if moveAccessBad s o d then 0x330
  else if ownNodeBad s o d then 0x504
  else if d.op = 3 then (discardRange s d.dst.addr d.len).status
  else 0

/-! ## Moving (R259 to R263) -/

/-- The digits of a region index, dimension 0 fastest. -/
def regionIndex (cnt : List Nat) (n : Nat) : List Nat :=
  match cnt with
  | [] => []
  | c :: rest => n % c :: regionIndex rest (n / c)

/-- A coordinate of the source, clamped to its extent except along the scaled dimension (R260, R262). -/
def clampCoord (scaled : Bool) (e : Nat) (v : Int) : Nat × Bool :=
  if scaled then (v.toNat, false)
  else if v < 0 then (0, true) else if (e : Int) ≤ v then (e - 1, true) else (v.toNat, false)

/-- What a move has gathered: edits of destination words by word number, and its counts. -/
structure MoveAcc where
  edits : Map WordEdit := []
  clamped : Nat := 0
  clipped : Nat := 0
  bad : Bool := false
  status : Nat := 0
  next : State

/-- The source of a move: device memory, the bytes a host returned from the tensor's base, or what reads of a fabric node returned,
by address, with the 32 B words that came poisoned: from the base on, or by word number. -/
structure MoveSource where
  host : Bool := false
  fabric : Bool := false
  data : List Byte := []
  got : Map (List Byte) := []
  poisoned : List Nat := []

/-- `n` bytes at an address among those that reads of a fabric node returned. -/
def gotBytes (got : Map (List Byte)) (a n : Nat) : List Byte :=
  match got.find? (fun e => decide (e.1 ≤ a) && decide (a < e.1 + e.2.length)) with
  | some e => (e.2.drop (a - e.1)).take n
  | none => []

/-- `n` bits at bit offset `bit` from the source's base. -/
def sourceBits (s : State) (m : Nat) (o : Origin) (base : Nat) (src : MoveSource) (bit n : Nat) : Rd :=
  let k := (bit % 8 + n + 7) / 8
  if src.host then
    { code := leNat ((src.data.drop (bit / 8)).take k) / 2 ^ (bit % 8) % 2 ^ n, bad := src.poisoned.contains (bit / 256), next := s }
  else if src.fabric then
    { code := leNat (gotBytes src.got (base + bit / 8) k) / 2 ^ (bit % 8) % 2 ^ n,
      bad := src.poisoned.contains ((base + bit / 8) / 32), next := s }
  else readBits s (32 + m) o.tenant (8 * base + bit) n

/-- Where element k of the region comes from and goes: source coordinates, whether they were clamped, and destination
coordinates unless it is clipped (R259, R260). -/
def elementPlace (d : Desc) (k : Nat) : List Nat × Bool × Option (List Nat) :=
  let i := regionIndex d.cnt k
  let st := d.srcT
  let sc := (List.range 6).map (fun j =>
    clampCoord (st.scaled && j == boolNat st.saxis) (st.e j) (d.sorg.getD j 0 + (i.getD j 0 : Nat)))
  let swap := if d.xpose then [i.getD 1 0, i.getD 0 0] ++ i.drop 2 else i
  let dc := (List.range 6).map (fun j => d.dorg.getD j 0 + ((swap.getD j 0 : Nat) : Int))
  let clipped := (List.range 6).any (fun j => decide (dc.getD j 0 < 0) || decide (((d.dstT.e j : Nat) : Int) ≤ dc.getD j 0))
  (sc.map (·.1), sc.any (·.2), if clipped then none else some (dc.map Int.toNat))

/-- One element of the region: read, clamped, and put at its destination unless that is clipped; an FP4 element's scale
travels with its block. -/
def moveElement (m : Nat) (o : Origin) (d : Desc) (src : MoveSource) (acc : MoveAcc) (k : Nat) : MoveAcc :=
  let st := d.srcT
  let dt := d.dstT
  let e := elementPlace d k
  let x := e.1
  let acc := if e.2.1 then { acc with clamped := acc.clamped + 1 } else acc
  match e.2.2 with
  | none => { acc with clipped := acc.clipped + 1 }
  | some y =>
    let r := sourceBits acc.next m o st.base src (elemBit st x) st.bits
    let q : Rd := if st.scaled then sourceBits r.next m o st.base src (8 * scaleByte st x) 8 else { next := r.next }
    let e1 := editBits acc.edits (8 * dt.base + elemBit dt y) dt.bits r.code (r.bad || q.bad)
    let e2 := if dt.scaled then editBits e1 (8 * (dt.base + scaleByte dt y)) 8 q.code q.bad else e1
    { acc with
      edits := e2, bad := acc.bad || r.bad || q.bad,
      status := firstStatus acc.status (firstStatus r.status q.status), next := q.next }

/-- Parts of one axis of the region that lie in one super-tile each: index values in order, `coord` giving the coordinate of one. -/
def axisGroups (coord : Nat → Int) (n : Nat) : List (List Nat) :=
  (List.range n).foldr (fun i acc =>
    match acc with
    | (j :: g) :: rest => if (coord i) / 256 = (coord j) / 256 then (i :: j :: g) :: rest else [i] :: (j :: g) :: rest
    | _ => [[i]]) []

/-- The order in which the region moves, as runs of element indices: where one side is LINEAR and the other BLOCKED, one super-tile at a
time and in it line by line of the LINEAR side, else as one run (R273). (DESIGN CHOICE, log 33.) -/
def moveRuns (d : Desc) : List (List Nat) :=
  let c0 := d.cnt.getD 0 1
  let c1 := d.cnt.getD 1 1
  if d.src.linear = d.dst.linear then [List.range (listProd d.cnt)]
  else
    -- the blocked side's coordinate along region axis a, and the axes of its dimensions 1 and 0
    let dim (a : Nat) : Nat := if d.src.linear && d.xpose then 1 - a else a
    let coord (a i : Nat) : Int :=
      if d.src.linear then d.dorg.getD (dim a) 0 + (i : Int)
      else (((clampCoord false (d.srcT.e a) (d.sorg.getD a 0 + (i : Int))).1 : Nat) : Int)
    let g0 := axisGroups (coord 0) c0
    let g1 := axisGroups (coord 1) c1
    let tiles : List (List Nat × List Nat) :=
      if dim 0 = 0 then g1.flatMap (fun b => g0.map (fun a => (a, b))) else g0.flatMap (fun a => g1.map (fun b => (a, b)))
    -- the region axis along a line of the linear side
    let along0 := d.src.linear || !d.xpose
    (List.range (listProd d.cnt / (c0 * c1))).flatMap (fun u =>
      tiles.flatMap (fun t =>
        let at_ (i0 i1 : Nat) : Nat := i0 + c0 * (i1 + c1 * u)
        if along0 then t.2.map (fun i1 => t.1.map (fun i0 => at_ i0 i1)) else t.1.map (fun i0 => t.2.map (fun i1 => at_ i0 i1))))

/-- The first n elements of the runs. -/
def takeRuns : Nat → List (List Nat) → List (List Nat)
  | _, [] => []
  | n, r :: rest => r.take n :: takeRuns (n - r.length) rest

/-- Runs of written bytes of a 32 B word: (first byte, bytes), by the mask. (DEDUCED, log 34.) -/
def maskRuns (mask : Nat) : List (Nat × Nat) :=
  (List.range 32).foldr (fun b acc =>
    if bitsOf mask (8 * b + 7) (8 * b) = 0 then acc
    else match acc with
      | (f, n) :: rest => if f = b + 1 then (b, n + 1) :: rest else (b, 1) :: (f, n) :: rest
      | [] => [(b, 1)]) []

/-- Bytes written by a set of edits. -/
def editedBytes (m : Map WordEdit) : Nat := (m.map (fun e => ((maskRuns e.2.mask).map (·.2)).foldl (· + ·) 0)).foldl (· + ·) 0

/-- A remote operation of a mover: its packet leaves with a TAG of its own, unless its node is unreachable (R516, R518). -/
def remoteOp (q : Store) (m : Nat) (o : Origin) (k : Packet) : Store :=
  let s := q.next
  let k := { k with src := s.fabric.node, tenant := o.tenant, priv := o.priv, tag := s.fabric.nextTag }
  match sendPacket s k with
  | some s' =>
    { q with next := { s' with fabric := { s'.fabric with
        nextTag := (k.tag + 1) % 2048,
        ops := s'.fabric.ops ++ [{ tag := k.tag, node := k.dst, owner := m, op := k.op, since := s'.now, packet := k }] } } }
  | none => { q with status := firstStatus q.status 0x501 }

/-- The codeword a fabric WRITE carries for an edited word: its untouched bytes are those read beforehand. -/
def editCode (r : MoveRun) (w : Nat) (e : WordEdit) : Nat :=
  let full := e.mask == 2 ^ 256 - 1
  if e.poison || (!full && r.gotBad.contains w) then poisonWord.toNat
  else
    let old := if full then 0 else leNat (gotBytes r.got (32 * w) 32)
    (encode288 (BitVec.ofNat 256 (old - (old &&& e.mask) + e.val))).toNat

/-- The WRITE packet of the edits in one row: from the first edited word to the last, WMASK marking those edited (R510, R518). -/
def rowPacket (r : MoveRun) (node : Nat) (edits : Map WordEdit) : Packet :=
  let ws := edits.map (·.1)
  let lo := ws.headD 0
  let n := (ws.getLast?.getD 0) - lo + 1
  { op := 1, dst := node, src := 0, fcnt := ceilDiv n 8 - 1, addr := 32 * lo,
    mask := (List.range n).map (fun i => ws.contains (lo + i)),
    words := (List.range n).map (fun i => if ws.contains (lo + i) then editCode r (lo + i) (mapGet {} edits (lo + i)) else 0) }

/-- The 2 KiB rows that word numbers lie in, in the order in which they first occur. -/
def rowsOf (ws : List Nat) : List Nat := (ws.map (fun w => w / 64)).eraseDups

/-- Whether a specification names another node of the fabric (R518). -/
def TSpec.remote (t : TSpec) (s : State) : Bool := t.space == 2 && t.node != s.fabric.node

/-- Bytes of a word's edit from its first byte `f` on, `n` of them: bits it does not reach keep what `old` gives for its bytes. -/
def editedRun (e : WordEdit) (old : List Nat) (f n : Nat) : List Byte :=
  let was := old.foldr (fun b acc => b + 256 * acc) 0
  ((natLE 32 (was - (was &&& e.mask) + e.val)).drop f).take n

/-- Written bytes of words in ascending order joined into runs of one poison mark each: (address, bytes, mark). -/
def joinRuns (rs : List (Nat × List Byte × Bool)) : List (Nat × List Byte × Bool) :=
  rs.foldr (fun r acc =>
    match acc with
    | (a, bs, bad) :: rest => if r.1 + r.2.1.length = a ∧ r.2.2 = bad then (r.1, r.2.1 ++ bs, bad) :: rest else r :: acc
    | [] => [r]) []

/-- The writes to host memory that a run of elements makes. An element that shares its byte with one that is not written leaves that
one as the host's memory has it: `present` is what the host returned from the destination's base (R254). (DEDUCED, log 36.) -/
def hostRuns (base : Nat) (present : List Byte) (edits : Map WordEdit) : List (Nat × List Byte × Bool) :=
  joinRuns (edits.flatMap (fun e =>
    let old := (List.range 32).map (fun b =>
      if base ≤ 32 * e.1 + b then (present.getD (32 * e.1 + b - base) 0).toNat else 0)
    (maskRuns e.2.mask).map (fun q => (32 * e.1 + q.1, editedRun e.2 old q.1 q.2, e.2.poison))))

/-- What the writes of a move yield: their status, the bytes written, and whether a poison word was among them. -/
structure Sent where
  status : Nat := 0
  bytes : Nat := 0
  poison : Bool := false
  next : State

/-- Edits of this device's words, one after another; what a word refuses is not written (R212, R216, R217, R275, R277). -/
def storeEdits (reader tenant : Nat) (edits : Map WordEdit) (q : Sent) : Sent :=
  edits.foldl (fun q e =>
    let r := applyEdit q.next reader tenant e.1 e.2
    let kept := r.status = 0x320 ∧ (match homeOf q.next (32 * e.1) with
      | .cell st p row _ => inTest (q.next.stack st) p row
      | _ => false) = true
    { status := firstStatus q.status r.status
      bytes := q.bytes + (if (r.status = 0 ∨ r.status = 0x320) ∧ ¬ kept then editedBytes [e] else 0)
      poison := q.poison || (r.status == 0 && e.2.poison) || (r.status == 0x320 && !(decide kept))
      next := r.next }) q

/-- Writing the edits of a move to memory of this device, to the host or to a fabric node (R274, R308, R518). (DEDUCED, log 36.) -/
def sendEdits (m : Nat) (r : MoveRun) (d : Desc) (present : List Byte) (edits : Map WordEdit) (q : Sent) : Sent :=
  let bad := edits.any (fun e => e.2.poison)
  if d.dst.space = 1 then
    { q with
      bytes := q.bytes + editedBytes edits, poison := q.poison || bad
      next := (hostRuns d.dst.addr present edits).foldl (fun s w => emit s (.hostWrite r.origin.tenant w.1 w.2.1 w.2.2 true)) q.next }
  else if d.dst.remote q.next then
    let met := edits.any (fun e => e.2.mask != 2 ^ 256 - 1 && r.gotBad.contains e.1)
    let w := (rowsOf (edits.map (·.1))).foldl (fun q row =>
      remoteOp q m r.origin (rowPacket r d.dst.node (edits.filter (fun e => e.1 / 64 == row)))) { next := q.next }
    { status := firstStatus q.status (if w.status ≠ 0 then w.status else if met then 0x320 else 0)
      bytes := q.bytes + (if w.status = 0 then editedBytes edits else 0), poison := q.poison || bad || met, next := w.next }
  else storeEdits (32 + m) r.origin.tenant edits q

/-- The destination words that the region reaches, with the bits of each that it writes. -/
def destEdits (d : Desc) : Map WordEdit :=
  (List.range (listProd d.cnt)).foldl (fun (m : Map WordEdit) k =>
    match (elementPlace d k).2.2 with
    | some y =>
      let e1 := editBits m (8 * d.dstT.base + elemBit d.dstT y) d.dstT.bits 0 false
      if d.dstT.scaled then editBits e1 (8 * (d.dstT.base + scaleByte d.dstT y)) 8 0 false else e1
    | none => m) []
def destWords (d : Desc) : List Nat := (destEdits d).map (·.1)

/-- Destination words that a COPY writes only in part. -/
def partWords (d : Desc) : List Nat := ((destEdits d).filter (fun e => e.2.mask != 2 ^ 256 - 1)).map (·.1)

/-- Source words that the elements of the region lie in. -/
def sourceWords (d : Desc) : List Nat :=
  (List.range (listProd d.cnt)).flatMap (fun k =>
    let e := elementPlace d k
    match e.2.2 with
    | some _ =>
      (d.srcT.base + elemBit d.srcT e.1 / 8) / 32 :: (if d.srcT.scaled then [(d.srcT.base + scaleByte d.srcT e.1) / 32] else [])
    | none => [])

/-- The READ packets of a descriptor: the rows of a remote source that its region touches, or of a remote destination those with
words written only in part, each as far as the tensor reaches into it (R518). (DEDUCED, log 36.) -/
def sendReads (s : State) (m : Nat) (o : Origin) (d : Desc) : Store :=
  let reads (t : TSpec) (tn : Tensor) (ws : List Nat) : Store :=
    (rowsOf ws).foldl (fun q row =>
      let lo := max (2048 * row) (t.addr / 32 * 32)
      let hi := min (2048 * (row + 1)) (ceilDiv (t.addr + tensorBytes tn) 32 * 32)
      remoteOp q m o { op := 2, dst := t.node, src := 0, fcnt := ceilDiv (hi - lo) 256 - 1, addr := lo }) { next := s }
  if d.op ≠ 3 ∧ d.src.remote s = true then reads d.src d.srcT (sourceWords d)
  else if d.op = 1 ∧ d.dst.remote s = true then reads d.dst d.dstT (partWords d)
  else { next := s }

/-- What a move's record will say of it (R275, R276). -/
def movedRun (r : MoveRun) (acc : MoveAcc) (w : Sent) : MoveRun :=
  { r with
    moved := true, clamped := acc.clamped, clipped := acc.clipped, poison := w.poison, bytes := w.bytes
    status := firstStatus r.status (firstStatus acc.status (if acc.bad then 0x320 else w.status)) }

/-- A COPY of the first `n` elements of its region (R259 to R262, R213, R273): the host receives each run as it is gathered. -/
def copyElements (s : State) (m : Nat) (r : MoveRun) (src : MoveSource) (present : List Byte) (n : Nat) : State × MoveRun :=
  let d := moveDesc r.data
  let runs := takeRuns n (moveRuns d)
  if d.dst.space = 1 then
    let (acc, w) := runs.foldl (fun (a : MoveAcc × Sent) run =>
      let acc := run.foldl (moveElement m r.origin d src) { a.1 with edits := [] }
      let w := sendEdits m r d present acc.edits { a.2 with next := acc.next }
      ({ acc with next := w.next }, w)) ({ next := s }, { next := s })
    (w.next, movedRun r acc w)
  else
    let acc := runs.flatten.foldl (moveElement m r.origin d src) { next := s }
    let w := sendEdits m r d present acc.edits { next := acc.next }
    (w.next, movedRun r acc w)

/-- The addend that leaves an element unchanged (R263). -/
def neutralAddend (fmt : Nat) : Nat := if fmt = 0 then 0x80000000 else if fmt ≤ 2 then 0x8000 else 0

/-- The 64 B burst an ADD sends for the edits of its two words: neutral elements where the region does not reach. -/
def addendBurst (fmt n : Nat) (e0 e1 : WordEdit) : List Byte :=
  let word (e : WordEdit) : List Byte :=
    (List.range (32 / n)).flatMap (fun k =>
      natLE n (if bitsOf e.mask (8 * n * k + 7) (8 * n * k) = 0 then neutralAddend fmt else bitsOf e.val (8 * n * (k + 1) - 1) (8 * n * k)))
  word e0 ++ word e1

/-- The bursts an ADD touches, ascending. -/
def addBursts (m : Map WordEdit) : List Nat := (m.map (fun e => e.1 / 2)).foldl (fun acc b => if acc.contains b then acc else acc ++ [b]) []

/-- Sending one burst to the memory-side adders, with words that received poisoned elements poisoned instead (R213, R263). What
the adders refuse, and poisoned words, are not added to (R126, R130, R275). -/
def addBurst (m : Nat) (o : Origin) (d : Desc) (edits : Map WordEdit) (q : Sent) (b : Nat) : Sent :=
  let e0 := mapGet {} edits (2 * b)
  let e1 := mapGet {} edits (2 * b + 1)
  let n := (addBytesOf d.addfmt).getD 4
  let burst := addendBurst d.addfmt n (if e0.poison then {} else e0) (if e1.poison then {} else e1)
  let bytes (e : WordEdit) : Nat := editedBytes [(0, e)]
  let bad := e0.poison || e1.poison
  if d.dst.remote q.next then
    let word (w : WordEdit) (i : Nat) : Nat :=
      if w.poison then poisonWord.toNat else (encode288 (wordOfBytes ((burst.drop (32 * i)).take 32))).toNat
    let w := remoteOp { next := q.next } m o { op := 4, dst := d.dst.node, src := 0, addfmt := d.addfmt, addr := 64 * b, mask := [true, true],
                                               words := [word e0 0, word e1 1] }
    { status := firstStatus q.status w.status, bytes := q.bytes + (if w.status = 0 then bytes e0 + bytes e1 else 0),
      poison := q.poison || bad, next := w.next }
  else
    let r := addRun q.next (32 + m) o.tenant (64 * b) d.addfmt burst
    let done := decide (r.status = 0) || decide (r.status = 0x312)
    let added (i : Nat) (e : WordEdit) : Nat := if done && (e.poison || !(r.marks.getD (32 * i) false)) then bytes e else 0
    let p0 : Store := if done && e0.poison then storeCode r.next (64 * b) poisonWord else { next := r.next }
    let p1 : Store := if done && e1.poison then storeCode p0.next (64 * b + 32) poisonWord else p0
    { status := firstStatus q.status r.status, bytes := q.bytes + added 0 e0 + added 1 e1, poison := q.poison || (done && bad), next := p1.next }

/-- An ADD of the first `n` elements of its region (R263). -/
def addElements (s : State) (m : Nat) (r : MoveRun) (src : MoveSource) (n : Nat) : State × MoveRun :=
  let d := moveDesc r.data
  let acc := (takeRuns n (moveRuns d)).flatten.foldl (moveElement m r.origin d src) { next := s }
  let w := (addBursts acc.edits).foldl (addBurst m r.origin d acc.edits) { next := acc.next }
  (w.next, movedRun r acc w)

/-- Elements of the region. -/
def Desc.elements (d : Desc) : Nat := listProd d.cnt

/-! ## Commands -/

def withMover (s : State) (m : Nat) (f : Mover → Res) : Res := if m < 32 then f (s.mover m) else .next s

/-- MOVER_QUEUE_POST: one 64 B burst of a descriptor reaches a mover's or pool's window (R339 to R341). -/
def execMoverQueuePost (poster tenant : Nat) (priv : Bool) (addr : Nat) (data : List Byte) (s : State) : Res :=
  match postTargetOf addr with
  | .move t p =>
    let o : Origin := { poster := poster, tenant := tenant, priv := priv }
    if data.length = 64 ∧ addr % 64 = 0 then .next (postMoveBurst s t p (poster * 64) o data).2
    else .next (badPostMove s t [])
  | _ => .next s

/-- The bank of an instruction memory that a descriptor writes, in space 0 or as this device's own node. -/
def imemTarget (s : State) (d : Desc) : Option (Nat × Bool) :=
  if d.op = 1 ∧ d.dst.space ≠ 1 ∧ d.dst.remote s = false then
    match regionOf s d.dst.addr (tensorBytes d.dstT) with
    | some (.imem e b) => some (e, b)
    | _ => none
  else none

/-- Whether a load of a bank is refused (R318). -/
def bankBusy (s : State) (e : Nat) (b : Bool) : Bool :=
  let g := s.engine e
  g.bank == b && !(g.state == .idle || g.state == .faulted)

/-- A refused load of the selected bank (R318). -/
def refuseLoad (s : State) (e m tenant tag : Nat) : State :=
  let (v, s1) := freeValue (s.updEngine e (fun g => { g with busyHit := true, refused := min (g.refused + 1) 0xFFFFFFFF }))
  recordFault s1 (faultOf 0x210 clsCorrected kindEngine e tenant (v % 2 ^ 16 * 2 ^ 32 + tag * 2 ^ 16 + (32 + m)))

/-- A descriptor begins writing a bank: its commitment is cleared and it is LOADING (R319). -/
def beginLoad (s : State) (e : Nat) (b : Bool) : State :=
  s.updEngine e (fun g =>
    if b then { g with commB := false, loadersB := g.loadersB + 1 } else { g with commA := false, loadersA := g.loadersA + 1 })

/-- The selected bank's commitment gone, a LOADED engine is IDLE (R350). -/
def settleBank (s : State) (e : Nat) : State :=
  s.updEngine e (fun g =>
    if g.state = .loaded ∧ (if g.bank then g.commB else g.commA) = false then { g with state := .idle } else g)

/-- The descriptor in progress moves nothing and completes with a code. -/
def stopRun (s : State) (m code : Nat) : State :=
  s.updMover m (fun x => { x with run := x.run.map (fun r => { r with status := code, moved := true }) })

/-- MOVER_DESC_START: a mover takes the next descriptor from its queue and checks it (R265, R271, R277). -/
def execMoverDescStart (m : Nat) (s : State) : Res :=
  withMover s m (fun x =>
    match x.run, x.queue with
    | none, q :: rest =>
      if underTest s (32 + m) then .next s
      else
      let d := moveDesc q.data
      let code := checkMove s q.origin q.data
      let s1 := s.setMover m { x with queue := rest, taken := sat64 x.taken 1 }
      let run (s : State) (code : Nat) : State :=
        s.updMover m (fun x => { x with run := some { data := q.data, origin := q.origin, status := code, moved := code != 0 } })
      let loading (s : State) : State :=
        s.updMover m (fun x => { x with run := some { data := q.data, origin := q.origin, loading := true } })
      if code ≠ 0 then .next (run s1 code)
      else match imemTarget s d with
        | some (e, b) =>
          if bankBusy s e b then .next (run (refuseLoad s1 e m q.origin.tenant d.tag) 0x210)
          else
            let w := sendReads (loading (settleBank (beginLoad s1 e b) e)) m q.origin d
            .next (if w.status = 0 then w.next else stopRun w.next m w.status)
        | none =>
          let w := sendReads (run s1 0) m q.origin d
          .next (if w.status = 0 then w.next else stopRun w.next m w.status)
    | _, _ => .next s)

/-- Reads of a fabric node that a mover still waits for. -/
def readsPending (s : State) (m : Nat) : Bool := s.fabric.ops.any (fun o => o.owner == m && o.op == 2)

/-- A mover's descriptor in progress whose data has not moved, if it is of an operation. -/
def movePending (s : State) (m op : Nat) : Option MoveRun :=
  match (s.mover m).run with
  | some r => if r.moved = false ∧ (moveDesc r.data).op = op ∧ readsPending s m = false then some r else none
  | none => none

def putRun (s : State) (m : Nat) (r : MoveRun) : State := s.updMover m (fun x => { x with run := some r })

/-- The source of the descriptor in progress; `data` and `poisoned` are what the host returned from the tensor's base. -/
def moveSource (s : State) (r : MoveRun) (data : List Byte) (poisoned : List Nat) : MoveSource :=
  let d := moveDesc r.data
  if d.src.space = 1 then { host := true, data := data, poisoned := poisoned }
  else if d.src.remote s then { fabric := true, got := r.got, poisoned := r.gotBad }
  else {}


/-- The 32 B words of this device that a move reads and writes, as ranges: an access that must wait keeps the move from beginning
(R117, R151, R236). -/
def moveTouches (s : State) (d : Desc) : List (Nat × Nat) :=
  let words (ws : List Nat) : List (Nat × Nat) := ws.map (fun w => (32 * w, 32))
  (if d.src.space = 1 ∨ d.src.remote s then [] else words (sourceWords d)) ++
  (if d.dst.space = 1 ∨ d.dst.remote s then [] else words (destWords d))

/-- MOVE_COPY: the region is copied (R259 to R262). `remote` is what the host returned from the base of the tensor in space 1. (DESIGN CHOICE, log 33.) -/
def execMoveCopy (m : Nat) (remote : List Byte) (poisoned : List Nat) (s : State) : Res :=
  withMover s m (fun _ =>
    match movePending s m 1 with
    | some r =>
      let d := moveDesc r.data
      let (s1, r1) := copyElements s m r (moveSource s r remote poisoned) remote d.elements
      whenFree s (moveTouches s d) (.next (putRun s1 m r1))
    | none => .next s)

/-- MOVE_ADD: the region is added to its destination (R132, R263). (DESIGN CHOICE, log 33.) -/
def execMoveAdd (m : Nat) (remote : List Byte) (poisoned : List Nat) (s : State) : Res :=
  withMover s m (fun _ =>
    match movePending s m 2 with
    | some r =>
      let d := moveDesc r.data
      let (s1, r1) := addElements s m r (moveSource s r remote poisoned) d.elements
      whenFree s (moveTouches s d) (.next (putRun s1 m r1))
    | none => .next s)

/-- Whether an access issued earlier to a range is still outstanding: at a base die, or in a walker core's address tracker (R222). -/
def outstandingIn (s : State) (a n : Nat) : Bool :=
  s.stackMap.any (fun x => x.2.heldAccess.any (fun h => overlaps a n h.addr h.len)) ||
  s.walkers.any (fun w => w.2.tracker.any (fun t => overlaps a n t.addr t.len))

/-- MOVE_DISCARD: the discard is issued to its stack and clears its valid bits, once every access issued before it has been served:
accesses after it see zeros (R221, R222, R275). (DEDUCED, log 141.) -/
def execMoveDiscard (m : Nat) (s : State) : Res :=
  withMover s m (fun _ =>
    match movePending s m 3 with
    | some r =>
      let d := moveDesc r.data
      if r.issued || outstandingIn s d.dst.addr d.len then .next s
      else
        let q := discardRange s d.dst.addr d.len
        whenFree s [(d.dst.addr, d.len)]
          (.next (putRun q.next m { r with issued := true, status := q.status, bytes := if q.status = 0 then d.len else 0 }))
    | none => .next s)

/-- DISCARD_APPLIED: the last row of an issued discard has lost its valid bit (R222). -/
def execDiscardApplied (m : Nat) (s : State) : Res :=
  withMover s m (fun _ =>
    match movePending s m 3 with
    | some r => if r.issued then .next (putRun s m { r with moved := true }) else .next s
    | none => .next s)

/-- MOVER_HOST_ERROR: a host request of the descriptor returns an error completion after its first `done` elements moved; the
descriptor completes with MOVE_HOST whatever else it met (R276, R568). -/
def execMoverHostError (m done : Nat) (remote : List Byte) (poisoned : List Nat) (s : State) : Res :=
  withMover s m (fun x =>
    match x.run with
    | some r =>
      let d := moveDesc r.data
      if r.moved = false ∧ d.op ≠ 3 ∧ (d.src.space = 1 ∨ d.dst.space = 1) then
        let n := min done d.elements
        let src := moveSource s r remote poisoned
        let (s1, r1) := if d.op = 2 then addElements s m r src n else copyElements s m r src remote n
        .next (putRun (bump s1 0x2050 7 1) m { r1 with status := 0x331, partial_ := true })
      else .next s
    | none => .next s)

/-- The 16 B completion record of R275. -/
def moveRecord (m : Nat) (r : MoveRun) : List Byte :=
  let flags := boolNat (r.clamped != 0) + 2 * boolNat (r.clipped != 0) + 4 * boolNat r.poison + 8 * boolNat r.partial_
  natLE 2 (moveDesc r.data).tag ++ natLE 2 r.status ++ natLE 1 m ++ natLE 1 flags ++ natLE 2 0 ++ natLE 8 r.bytes

/-- The bank a descriptor loaded is no longer LOADING on its account (R319). -/
def endLoad (s : State) (r : MoveRun) : State :=
  match imemTarget s (moveDesc r.data) with
  | some (e, b) =>
    if r.loading = false then s
    else s.updEngine e (fun g => if b then { g with loadersB := g.loadersB - 1 } else { g with loadersA := g.loadersA - 1 })
  | none => s

/-- Whether remote writes or adds of a mover still await their answers (R275, R305). -/
def remotePending (s : State) (m : Nat) : Bool := s.fabric.ops.any (fun o => o.owner == m)

/-- The completion of a descriptor: counters, record, the issuing slot or ring (R275, R278, R565). (DEDUCED, log 34.) -/
def completeMove (s : State) (m : Nat) (r : MoveRun) : State :=
  let d := moveDesc r.data
  let s1 := endLoad s r
  let s2 := s1.updMover m (fun x =>
    { x with
      run := none, bytes := sat64 x.bytes (if d.op = 3 then 0 else r.bytes), descs := sat64 x.descs 1,
      clamped := sat64 x.clamped r.clamped, clipped := sat64 x.clipped r.clipped,
      lastErr := if r.status = 0 then x.lastErr else some (d.tag, r.status),
      lastTag := if r.status = 0 then x.lastTag else d.tag, lastStatus := if r.status = 0 then x.lastStatus else r.status })
  let rec16 := moveRecord m r
  let s3 := if !d.crec || (r.status == 0x221 && d.caddr % 16 != 0) || (!d.chost && !(recordPlace s2 d.caddr)) then s2
    else if d.chost then emit s2 (.hostWrite r.origin.tenant d.caddr rec16 false false)
    else if mayReach s2 r.origin.tenant r.origin.priv true d.caddr 16 then (storeBytes s2 (32 + m) r.origin.tenant d.caddr rec16).next
    else s2
  let s4 := match r.origin.slot with
    | some (e, no) => slotDone s3 e no r.status
    | none => s3
  completeEntry s4 r.origin rec16 d.irq

/-- MOVER_DESC_COMPLETE: every write of the descriptor in progress has completed (R275). -/
def execMoverDescComplete (m : Nat) (s : State) : Res :=
  withMover s m (fun x =>
    match x.run with
    | some r =>
      let d := moveDesc r.data
      if r.moved && !(remotePending s m) then
        whenFree s (if d.crec && !d.chost then [(d.caddr, 16)] else []) (.next (completeMove s m r))
      else .next s
    | none => .next s)

end Sys2Proof.Machine
end

