-- ==== Sys2Proof/Machine/SeqOps.lean ====
section
/-!
DEFINITION. What the sequencers' commands share: fetching and checking a step word, issuing its slots, ending words, entries
and iterations, and engine faults (R316 to R348, R355, R356).
-/

namespace Sys2Proof.Machine

/-! ## Banks and fetching (R317 to R321) -/

def Engine.committed (e : Engine) : Bool := if e.bank then e.commB else e.commA
def Engine.otherCommitted (e : Engine) : Bool := if e.bank then e.commA else e.commB
/-- Committed length in bytes, and entry point, of the selected bank. -/
def Engine.len (e : Engine) : Nat := 4 * (if e.bank then e.lenB else e.lenA)
def Engine.entry (e : Engine) : Nat := if e.bank then e.entB else e.entA

def isSeq (eng : Nat) : Bool := decide (eng ≤ 8)
def isProgrammed (eng : Nat) : Bool := decide (eng ≤ 8) || (decide (64 ≤ eng) && decide (eng < 128))

/-- First byte of an engine's block (R314). -/
def blockBase (eng : Nat) : Nat :=
  if eng < 32 then ecsBase + 0x100000 * eng
  else if eng < 64 then ecsBase + 0x1000000 + 0x10000 * (eng - 32)
  else ecsBase + 0x2000000 + 0x100000 * (eng - 64)

/-- Address of the 32 B word at an offset of a bank (R315). -/
def imemAddr (eng : Nat) (bank : Bool) (off : Nat) : Nat :=
  blockBase eng + 0x80000 + (if bank then bankBytes eng else 0) + off / 32 * 32

/-- A 32-bit unit of the selected bank at a byte offset: its value, whether its word was poison, and the state. -/
def fetchUnit (s : State) (eng off : Nat) : Nat × Bool × State :=
  let e := s.engine eng
  let i := off / 32 + (if e.bank then 2048 else 0)
  let l := loadSram s (mapGet 0 e.imem i) (fun s c => setImem s eng i c) eng (imemAddr eng e.bank off) 0xFF
  (bitsOf l.data.toNat (8 * (off % 32) + 31) (8 * (off % 32)), l.poison, l.next)

/-- `n` units from a byte offset. -/
def fetchUnits (s : State) (eng off : Nat) : Nat → List Nat × Bool × State
  | 0 => ([], false, s)
  | n + 1 =>
    let (v, p, s1) := fetchUnit s eng off
    let (vs, q, s2) := fetchUnits s1 eng (off + 4) n
    (v :: vs, p || q, s2)

/-! ## Words (R323 to R325, R346) -/

/-- Slots of a step word, each as its bits. -/
structure StepWord where
  units : Nat := 1
  tag : Nat := 0
  nest : Bool := false
  pres : Nat := 0
  grid : Option Nat := none
  move : Option Nat := none
  ladle : Option Nat := none
  sync : Option Nat := none
  scale : Option Nat := none
  ctrl : Option Nat := none

/-- The number whose 32-bit units are given, the first one lowest. -/
def unitsNat : List Nat → Nat
  | [] => 0
  | u :: us => u + 2 ^ 32 * unitsNat us

/-- Units of the slot of a PRES bit. -/
def slotUnits (b : Nat) : Nat := if b < 29 then 3 else 2

/-- The units at which a present slot begins (R324). -/
def slotStart (pres b : Nat) : Nat :=
  1 + ((List.range 6).map (fun i => if 26 + i < b ∧ bitOf pres (26 + i) then slotUnits (26 + i) else 0)).foldl (· + ·) 0

def slotOf (us : List Nat) (b : Nat) : Option Nat :=
  if bitOf (us.getD 0 0) b then some (unitsNat ((us.drop (slotStart (us.getD 0 0) b)).take (slotUnits b))) else none

/-- Length in units that the slots present call for (R325). -/
def wordUnits (h : Nat) : Nat :=
  1 + ((List.range 6).map (fun i => if bitOf h (26 + i) then slotUnits (26 + i) else 0)).foldl (· + ·) 0

def stepWord (us : List Nat) : StepWord :=
  let h := us.getD 0 0
  { units := bitsOf h 25 22 + 1, tag := h % 65536, nest := bitOf h 21, pres := bitsOf h 31 26, grid := slotOf us 26,
    move := slotOf us 27, ladle := slotOf us 28, sync := slotOf us 29, scale := slotOf us 30, ctrl := slotOf us 31 }

/-- Slots present. -/
def StepWord.count (w : StepWord) : Nat := ((List.range 6).map (fun i => boolNat (bitOf w.pres i))).foldl (· + ·) 0

/-! ## Whose work it is (R46, R471, R482) -/

def Engine.reg (e : Engine) (i : Nat) : Nat := mapGet 0 e.a i
def Engine.ctr (e : Engine) (i : Nat) : Nat := mapGet 0 e.c i

def Engine.run? (e : Engine) : Option EntryRun := e.current.bind (fun i => e.runs.find? (fun r => r.id == i))

/-- Tenant, serving privilege and step of the work a sequencer issues: the tenant of the current context, or in the serving
context its entry's poster; work without an entry there is the SVC's own. -/
def seqWho (s : State) (eng : Nat) : Nat × Bool × Option Nat :=
  if s.ctx.current ≠ 0 then (s.ctx.current, false, none)
  else match (s.engine eng).run? with
    | some r => (r.origin.tenant, r.origin.priv, r.origin.step)
    | none => (0, true, none)

/-! ## Checks (R326) -/

/-- Ranges of a GRID slot's operands, with whether it writes them. -/
def gridRanges (s : State) (e : Engine) (f : GridSlot) : List (Bool × Nat × Nat) :=
  if f.op = 2 then (wloadRanges s.grid f (e.reg f.aw) (e.reg f.ags) (e.reg f.aaux)).map (fun r => (false, r.1, r.2))
  else (mmReads f (e.reg f.asrc) (e.reg f.aaux) (e.reg f.ax2) false).map (fun r => (false, r.1, r.2)) ++
    (mmWrites f (e.reg f.adst) (e.reg f.aaux)).map (fun r => (true, r.1, r.2))

/-- The page-list entry at an address and the page it names, as ranges. -/
def pageRanges (s : State) (st : Nat) (write : Bool) (a : Nat) : List (Bool × Nat × Nat) :=
  (false, a, 8) :: (match (issueBytes s st a 8).bind (fun bs => pageOf (leAt bs 0 8)) with
    | some (frame, _) => [(write, frame, 65536)]
    | none => [])

/-- What a LADLE slot reaches through its attention record or its append blocks (R171, R183). -/
def pagedRanges (s : State) (st : Nat) (e : Engine) (f : LadleSlot) : List (Bool × Nat × Nat) :=
  match issueRecord s st f (e.reg f.aaux) with
  | some c =>
    let ppp := 16 * posPerRow f.d (fmtD f.wfmt)
    (if c.sieve = 0xFFFFFFFF then [] else [(false, bufferBase st + c.sieve, ceilDiv c.len 8)]) ++
      (List.range (ceilDiv c.len ppp)).flatMap (fun k => pageRanges s st false (c.plist + 8 * (c.pos0 / ppp + k))) ++
      (if f.omode = 0 then (scoreBanks s st f c).flatMap (fun b => (List.range (scoreRows f (scoreBanks s st f c))).map (fun n =>
        (true, rowAddr s st b.1 (e.reg f.adst % 2 ^ 15 + n), 2048))) else [])
  | none =>
    if (f.op = 10 ∨ f.op = 11) ∧ f.omode = 3 then
      (List.range f.q).flatMap (fun q =>
        match issueBytes s st (e.reg f.adst + 16 * q) 16 with
        | some d => pageRanges s st true (leAt d 0 8 + 8 * (leAt d 8 4 / (16 * posPerRow f.d (fmtD f.ofmt))))
        | none => [])
    else []

/-- Ranges of a LADLE slot's vectors and results, and of what its records name. -/
def ladleRanges (s : State) (st : Nat) (e : Engine) (f : LadleSlot) : List (Bool × Nat × Nat) :=
  let out := ladleOutBytes f (((issueRecord s st f (e.reg f.aaux)).map (·.len)).getD 0)
  (ladleBufferOps f (e.reg f.avec) (e.reg f.adst) (e.reg f.aaux)).map (fun r => (false, r.1, r.2)) ++
  (if out = 0 ∨ f.omode = 0 then [] else [(true, e.reg f.adst, out)]) ++ pagedRanges s st e f

/-- Rows a LADLE slot reaches in each of its banks: (written, first, count). -/
def ladleRowUses (f : LadleSlot) (adst aaux : Nat) : List (Bool × Nat × Nat) :=
  (if f.fromRows then [(f.op == 2, f.row0, if f.op = 6 then 2 * f.nrow - 1 else f.nrow)] else []) ++
  (if f.op = 3 then [(false, aaux % 2 ^ 15, f.nrow)] else []) ++
  (if f.op = 1 ∨ f.op = 3 then [(true, adst % 2 ^ 15, f.nrow)] else []) ++
  (if f.isElement && f.omode == 0 then [(true, adst % 2 ^ 15, ceilDiv (streamBytes (fmtD f.ofmt) (f.q * f.elems)) 2048)] else [])

/-- Whether every row of a LADLE slot lies within the issuer's reach. -/
def ladleRowsReach (s : State) (st tenant : Nat) (priv : Bool) (e : Engine) (f : LadleSlot) : Bool :=
  priv || (ladleBanks f).all (fun p =>
    (ladleRowUses f (e.reg f.adst) (e.reg f.aaux)).all (fun r =>
      (List.range r.2.2).all (fun i =>
        match offsetOfRow (s.stack st) p (r.2.1 + i) with
        | some o => mayReach s tenant priv r.1 (st * 2 ^ 37 + o) 2048
        | none => false)))

def rangesReach (s : State) (tenant : Nat) (priv : Bool) (rs : List (Bool × Nat × Nat)) : Bool :=
  priv || rs.all (fun r => mayReach s tenant priv r.1 r.2.1 r.2.2)

/-- Whether a 4 B location may be waited on or signalled (R331). -/
def syncPlace (s : State) (a : Nat) : Bool :=
  a % 4 == 0 && (match regionOf s a 4 with
    | some (.stack _) => true
    | some (.pot _) => true
    | some (.localMem _) => true
    | _ => false)

/-- The check of a SYNC slot (R295, R329, R331). -/
def checkSync (s : State) (e : Engine) (tenant : Nat) (priv : Bool) (f : SyncSlot) : Nat :=
  let wait := decide (2 ≤ f.waitk)
  if f.sig = 3 ∨ 4 < ordScope f.word ∨ 4 < ordScope f.sord ∨ 1 < ordSem f.word ∨ ¬(ordSem f.sord = 0 ∨ ordSem f.sord = 2) then 0x202
  else if (f.waitk = 0 ∧ f.word ≠ 0) ∨ (f.sig = 0 ∧ f.sord ≠ 0) then 0x219
  else if (wait && !(syncPlace s (e.reg f.aw))) || (f.sig != 0 && !(syncPlace s (e.reg f.as_))) then 0x219
  else if (wait && !(mayReach s tenant priv false (e.reg f.aw) 4)) || (f.sig != 0 && !(mayReach s tenant priv true (e.reg f.as_) 4)) then 0x332
  else 0

/-- The check of a MOVE slot (R333, R334). -/
def checkMoveSlot (s : State) (e : Engine) (tenant : Nat) (priv : Bool) (f : MoveSlot) : Nat :=
  let a := e.reg f.adesc
  let ok := a % 64 == 0 && (match regionOf s a 192 with
    | some (.stack _) => true
    | some (.pot _) => true
    | _ => false)
  if f.op ≠ 1 ∨ 32 < f.tgt ∨ (f.ps = false ∧ f.soff ≠ 0) ∨ (f.pd = false ∧ f.doff ≠ 0) then 0x202
  else if !ok then 0x21A
  else if f.tgt < 32 ∧ moverUsable s f.tgt = false then 0x267
  else if !(mayReach s tenant priv false a 192) then 0x332
  else 0

/-- Bits a CTRL operation names beside OP (R336); none for a reserved OP. -/
def ctrlMask (op : Nat) : Option Nat :=
  let fld (hi lo : Nat) : Nat := (2 ^ (hi + 1 - lo) - 1) * 2 ^ lo
  match op with
  | 1 => some (fld 57 54 + fld 51 0)
  | 2 => some (fld 57 54 + fld 53 50 + fld 47 0)
  | 3 => some (fld 57 56 + fld 31 0)
  | 4 => some (fld 57 54 + fld 53 50 + fld 49 48 + fld 31 0)
  | 8 => some (fld 15 0)
  | 9 => some (fld 57 56 + fld 15 0)
  | 10 => some (fld 57 56 + fld 15 0)
  | 11 => some (fld 15 0)
  | 12 => some 0
  | 16 => some 0
  | 17 => some 0
  | 18 => some (fld 0 0)
  | _ => none

/-- The check of a CTRL slot (R336, R337). (DEDUCED, log 46.) -/
def checkCtrl (e : Engine) (v : Nat) : Nat :=
  let f := ctrlSlot v
  match ctrlMask f.op with
  | none => 0x202
  | some m =>
    if (v % 2 ^ 58) ||| m ≠ m then 0x202
    else if 8 ≤ f.op ∧ f.op ≤ 11 ∧ (f.target % 4 ≠ 0 ∨ e.len ≤ f.target) then 0x211
    else if f.op = 16 then (if !e.otherCommitted then 0x212 else if e.stack ≠ [] then 0x201 else 0)
    else 0

/-- The check of a GRID slot and of the issuer's reach (R326, R471). -/
def checkGridSlot (s : State) (e : Engine) (tenant : Nat) (priv : Bool) (v : Nat) : Nat :=
  let f := gridSlot v
  let c := checkGrid s.grid f (e.reg f.asrc) (e.reg f.adst) (e.reg f.aw) (e.reg f.ags) (e.reg f.aaux) (e.reg f.ax2)
  if c ≠ 0 then c else if rangesReach s tenant priv (gridRanges s e f) then 0 else 0x332

def checkLadleSlot (s : State) (eng : Nat) (e : Engine) (tenant : Nat) (priv : Bool) (v : Nat) : Nat :=
  let f := ladleSlot v
  let c := checkLadle s (eng - 1) f (e.reg f.avec) (e.reg f.adst) (e.reg f.aaux)
  if c ≠ 0 then c
  else if rangesReach s tenant priv (ladleRanges s (eng - 1) e f) && ladleRowsReach s (eng - 1) tenant priv e f then 0 else 0x332

def checkScaleSlot (s : State) (tenant : Nat) (priv : Bool) (v : Nat) : Nat :=
  let f := scaleSlot v
  let c := checkScale f
  if c ≠ 0 then c
  else if f.op = 1 ∨ f.op = 2 then
    (if mayReach s tenant priv false (potWest + f.src) (f.count * scaleElemBytes f.sfmt) then 0 else 0x332)
  else 0

def optCheck (o : Option Nat) (f : Nat → Nat) : Nat := match o with
  | some v => f v
  | none => 0

/-- The first code of a whole word, 0 when it may issue (R325, R326). -/
def checkWord (s : State) (eng : Nat) (us : List Nat) : Nat :=
  let w := stepWord us
  let e := s.engine eng
  let (t, p, _) := seqWho s eng
  if w.units ≠ wordUnits (us.getD 0 0) ∨ us.length < w.units then 0x213
  else if (eng = 0 ∧ w.ladle.isSome) ∨ (eng ≠ 0 ∧ (w.grid.isSome ∨ w.scale.isSome)) then 0x213
  else
    let c := [optCheck w.grid (checkGridSlot s e t p), optCheck w.move (fun v => checkMoveSlot s e t p (moveSlot v)),
      optCheck w.ladle (checkLadleSlot s eng e t p), optCheck w.sync (fun v => checkSync s e t p (syncSlot v)),
      optCheck w.scale (checkScaleSlot s t p), optCheck w.ctrl (checkCtrl e)]
    (c.find? (fun x => x != 0)).getD 0

/-! ## The end of words, entries and engines -/

def updRun (e : Engine) (id : Nat) (f : EntryRun → EntryRun) : Engine :=
  { e with runs := e.runs.map (fun r => if r.id = id then f r else r) }

/-- The routine or word of the current entry has ended. -/
def endEntry (s : State) (eng : Nat) : State :=
  s.updEngine eng (fun e =>
    match e.current with
    | some i => { updRun e i (fun r => { r with ended := true }) with current := none, held := none, stack := [] }
    | none => { e with held := none, stack := [] })

/-- The entry in progress takes a code, with the word that set it, unless an earlier status stands (R344, R345, R355, R356). -/
def noteRun (e : Engine) (code pc : Nat) : Engine :=
  match e.current with
  | some i => updRun e i (fun r =>
      { r with abandoned := true, pc := if r.status = 0 then pc else r.pc, status := firstStatus r.status code })
  | none => e

/-- The engine fault of R356 and R357: FAULTED, its drain, the record, and the class of R669. (DEDUCED, log 43.) -/
def faultEngine (s : State) (eng code pc tag : Nat) : State :=
  let cls := if eng = 0 ∨ eng ≤ 8 then (if s.ctx.current = 0 then clsDevice else clsTenant) else clsContained
  let s1 := s.updEngine eng (fun e =>
    { noteRun e code pc with
      state := .faulted, drain := some (.fault code), held := none, haltReq := false, errValid := true, errStatus := code,
      errPc := pc % 65536, errTag := tag })
  let det := pc % 65536 * 2 ^ 32 + tag * 2 ^ 16 + eng
  let s2 := bump s1 0x2020 4 1
  if code = 0x320 then recordFault s2 (faultOf code clsContained kindEngine eng 0xFF det)
  else if eng ≤ 8 ∧ s.ctx.current ≠ 0 then recordFault s2 (faultOf code cls kindTenant s.ctx.current s.ctx.current det)
  else recordFault s2 (faultOf code cls kindEngine eng 0xFF det)

/-- A word is rejected: R345 in RUN_SERVICE, R356 in RUN_NEST. -/
def rejectWord (s : State) (eng code pc tag : Nat) : State :=
  let s := if code = 0x201 then cmdState s else s
  if (s.engine eng).state = .runNest then faultEngine s eng 0x218 pc tag
  else
    let s1 := s.updEngine eng (fun e =>
      let e1 := { e with errValid := true, errStatus := code, errPc := pc % 65536, errTag := tag }
      match e.current with
      | some i => updRun e1 i (fun r =>
          { r with
            rejected := true, abandoned := true, pc := if r.status = 0 then pc else r.pc,
            status := firstStatus r.status code })
      | none => e1)
    endEntry s1 eng

/-- HALTED is reached at a boundary; a HALT command in progress ends (R351, R354). -/
def enterHalted (s : State) (eng : Nat) : State :=
  s.updEngine eng (fun e =>
    { e with
      haltNest := e.state == .runNest, state := .halted, haltReq := false,
      cmdState := if e.cmdBusy then EngState.halted.code else e.cmdState, cmdBusy := false })

/-- Whether an engine stands at a boundary where HALT takes effect: no word has begun to issue and no NEST iteration is under
way (R354). A walker core always does: HALT stops issue at each thread's next instruction (R384). -/
def atBoundary (e : Engine) : Bool :=
  (match e.held with
   | some h => h.stage == 0 || h.stage == 1 || h.stage == 4
   | none => true) &&
  (match e.nest with
   | some n => n.bodyLeft == n.bodyWords
   | none => true)

/-- A word whose wait has not ended goes back to its beginning (R354). -/
def rewindHeld (e : Engine) : Engine :=
  { e with held := e.held.map (fun h => { h with stage := 4, met := false }) }

/-- Halting at once, with HALTNEST noting the state left. -/
def haltNow (e : Engine) : Engine :=
  { rewindHeld e with haltNest := e.state == .runNest, state := .halted, haltReq := false }

/-- HALT of a running engine: at once at a boundary, at the next one otherwise. -/
def haltEngine (e : Engine) : Engine := if atBoundary e then haltNow e else { e with haltReq := true }

/-- Every engine in RUN_NEST halts: the device leaves the states in which it may run (R349, R351). -/
def haltNests (s : State) : State :=
  (List.range 9).foldl (fun s g => if (s.engine g).state = .runNest then s.updEngine g haltEngine else s) s

/-- Operand registers of a NEST at an iteration (R347): base + 256 × Σ i × INC. -/
def nestReg (base : Nat) (ls : List (Nat × Int × Int × Int)) (it : List Nat) (sel : Nat × Int × Int × Int → Int) : Nat :=
  wrap 52 ((base : Int) + 256 * ((ls.zip it).foldl (fun acc e => acc + (e.2 : Int) * sel e.1) 0))

def nestPlace (e : Engine) (n : NestRun) (it : List Nat) : Engine :=
  let put (m : Map Nat) (r base : Nat) (sel : Nat × Int × Int × Int → Int) : Map Nat := mapSet 0 m r (nestReg base n.levels it sel)
  { e with
    a := put (put (put e.a n.opa n.baseA (·.2.1)) n.opb n.baseB (·.2.2.1)) n.opc n.baseC (·.2.2.2)
    c := ((List.range n.levels.length).foldl (fun m l => mapSet 0 m l (it.getD l 0)) e.c) }

/-- The next iteration, level 0 fastest; none after the last (R347). -/
def nestNext : List (Nat × Int × Int × Int) → List Nat → Option (List Nat)
  | [], _ => none
  | (c, _) :: ls, i :: is => if i < c then some ((i + 1) :: is) else (nestNext ls is).map (fun r => 0 :: r)
  | _, [] => none

/-- Registers after the last iteration (R348): those of the iteration that would follow it in the outermost level. -/
def nestEnd (e : Engine) (n : NestRun) : Engine :=
  let k := n.levels.length - 1
  let it := (List.range n.levels.length).map (fun l => if l = k then (n.levels.getD l (0, 0, 0, 0)).1 + 1 else 0)
  let e1 := nestPlace e n it
  { e1 with c := (List.range 4).foldl (fun m l => mapSet 0 m l (n.savedC.getD l 0)) e1.c, nest := none }

/-- A whole word has issued: the position advances, a NEST's iteration with it, and a HALT waiting for the boundary takes
effect (R343, R347, R354). -/
def finishWord (s : State) (eng : Nat) : State :=
  match (s.engine eng).held with
  | none => s
  | some h =>
    if h.inline then
      let s1 := endEntry s eng
      if (s1.engine eng).haltReq then enterHalted s1 eng else s1
    else
      let s1 := s.updEngine eng (fun e => { e with held := none, pc := h.at_ + 4 * h.units.length })
      let e := s1.engine eng
      match e.nest with
      | none => if e.haltReq then enterHalted s1 eng else s1
      | some n =>
        if 1 < n.bodyLeft then s1.setEngine eng { e with nest := some { n with bodyLeft := n.bodyLeft - 1 } }
        else
          let e1 := match nestNext n.levels n.iter with
            | some it => { nestPlace e n it with nest := some { n with iter := it, bodyLeft := n.bodyWords }, pc := n.bodyPc }
            | none => nestEnd e n
          let s2 := s1.setEngine eng e1
          if e1.haltReq then enterHalted s2 eng else s2

/-! ## Issue (R327, R328) -/

/-- A slot issues: its number, and its place among the slots of its entry (R330, R344). -/
def newIssue (s : State) (eng : Nat) (kind : SlotKind) : Nat × State :=
  let e := s.engine eng
  let no := e.nextIssue
  let pc := match e.held with
    | some h => if h.inline then 0xFFFFFFFF else h.at_
    | none => 0xFFFFFFFF
  let e1 : Engine := { e with
    nextIssue := no + 1, issued := e.issued ++ [{ kind := kind, no := no, entry := e.current.getD 0, pc := pc }] }
  (no, s.setEngine eng (match e.current with
    | some i => updRun e1 i (fun r => { r with outstanding := r.outstanding + 1 })
    | none => e1))

def issueScale (s : State) (v : Nat) : State :=
  let (no, s1) := newIssue s 0 .scale
  { s1 with grid := { s1.grid with scaleOps := s1.grid.scaleOps ++ [{ no := no, bits := v }] } }

def issueGrid (s : State) (v : Nat) : State :=
  let f := gridSlot v
  let e := s.engine 0
  let (t, _, st) := seqWho s 0
  let (no, s1) := newIssue s 0 (if f.op = 2 then .wload else .mm)
  { s1 with grid := { s1.grid with ops := s1.grid.ops ++ [{
      no := no, bits := v, asrc := e.reg f.asrc, adst := e.reg f.adst, aw := e.reg f.aw, ags := e.reg f.ags,
      aaux := e.reg f.aaux, ax2 := e.reg f.ax2, tenant := t, step := st }] } }

def issueLadle (s : State) (eng v : Nat) : State :=
  let f := ladleSlot v
  let e := s.engine eng
  let (t, p, st) := seqWho s eng
  let (no, s1) := newIssue s eng .ladle
  s1.updLadle (eng - 1) (fun l => { l with slots := l.slots ++ [{
      no := no, bits := v, avec := e.reg f.avec, adst := e.reg f.adst, aaux := e.reg f.aaux, entry := e.current.getD 0,
      tenant := t, priv := p, step := st }] })

/-- Whether a word's SCALE, GRID and LADLE slots find room (R104, R191). -/
def roomFor (s : State) (eng : Nat) (w : StepWord) : Bool :=
  decide (s.grid.ops.length + s.grid.scaleOps.length + boolNat w.grid.isSome + boolNat w.scale.isSome ≤ 15 ∨ (w.grid.isNone ∧ w.scale.isNone)) &&
  (w.ladle.isNone || decide ((s.ladle (eng - 1)).slots.length < 16))

/-- The signal of a SYNC slot is written (R327, R329). -/
def writeSignal (s : State) (eng : Nat) (v : Nat) : State :=
  let f := syncSlot v
  let e := s.engine eng
  let (t, _, _) := seqWho s eng
  let a := e.reg f.as_
  match f.sig with
  | 1 => (storeBytes s eng t a (natLE 4 f.value)).next
  | 2 =>
    let l := loadBytes s eng t a 4
    if l.poisoned then l.next else (storeBytes l.next eng t a (natLE 4 (leNat l.bytes + f.value))).next
  | _ => s

def setStage (s : State) (eng n : Nat) : State :=
  s.updEngine eng (fun e => { e with held := e.held.map (fun h => { h with stage := n }) })

/-- What follows the MOVE slot: the signal, then the CTRL slot waits to execute or the word is done. -/
def afterMove (s : State) (eng : Nat) (w : StepWord) : State :=
  let s1 := match w.sync with
    | some v => writeSignal s eng v
    | none => s
  if w.ctrl.isSome then setStage s1 eng 2 else finishWord s1 eng

/-- The present slots issue in the order of R327, as far as the MOVE slot. (DEDUCED, log 44.) -/
def issueWord (s : State) (eng : Nat) (w : StepWord) : State :=
  let s0 := s.updEngine eng (fun e =>
    let e1 := { e with lastTag := w.tag }
    match e.current with
    | some i => updRun e1 i (fun r => { r with slots := r.slots + w.count })
    | none => e1)
  let s1 := match w.scale with
    | some v => issueScale s0 v
    | none => s0
  let s2 := match w.grid with
    | some v => issueGrid s1 v
    | none => s1
  let s3 := match w.ladle with
    | some v => issueLadle s2 eng v
    | none => s2
  if w.move.isSome then setStage s3 eng 3 else afterMove s3 eng w

/-- Slot kinds in the order of KMASK's bits (R329). -/
def kindBit : SlotKind → Nat
  | .mm => 0
  | .wload => 1
  | .scale => 2
  | .ladle => 3
  | .move => 4

/-- Whether a DONE wait has ended (R330). -/
def doneWait (e : Engine) (f : SyncSlot) : Bool :=
  let xs := e.issued.filter (fun i => bitOf f.kmask (kindBit i.kind))
  (xs.take (xs.length - f.left)).all (·.done)

/-- Reading a memory wait's location: the state and whether it satisfies the wait. (DEDUCED, log 44.) -/
def memWait (s : State) (eng : Nat) (f : SyncSlot) : State × Bool :=
  let l := loadBytes s eng (seqWho s eng).1 ((s.engine eng).reg f.aw) 4
  let v := leNat l.bytes
  (l.next, l.status == 0 && !l.poisoned && (if f.waitk = 2 then decide (f.value ≤ v) else v == f.value))

/-- A word that has passed its checks: its wait begins, or its slots issue as far as there is room. -/
def admitWord (s : State) (eng : Nat) (w : StepWord) : State :=
  let waitk := match w.sync with
    | some v => (syncSlot v).waitk
    | none => 0
  if waitk = 0 then (if roomFor s eng w then issueWord s eng w else setStage s eng 1)
  else if waitk = 1 then setStage s eng 0
  else match w.sync with
    | some v =>
      let (s1, ok) := memWait s eng (syncSlot v)
      s1.updEngine eng (fun e => { e with held := e.held.map (fun h => { h with stage := 0, met := ok }) })
    | none => s

/-- Ranges of memory that a word's SYNC and MOVE slots touch as it issues. -/
def wordRanges (e : Engine) (us : List Nat) : List (Nat × Nat) :=
  let w := stepWord us
  (match w.sync with
    | some v =>
      let f := syncSlot v
      (if 2 ≤ f.waitk then [(e.reg f.aw, 4)] else []) ++ (if f.sig ≠ 0 then [(e.reg f.as_, 4)] else [])
    | none => []) ++
  (match w.move with
    | some v => [(e.reg (moveSlot v).adesc, 192)]
    | none => [])

/-- The same of the word in hand. -/
def heldRanges (e : Engine) : List (Nat × Nat) :=
  match e.held with
  | some h => wordRanges e h.units
  | none => []

/-- Whether a sequencer runs and is not draining. -/
def seqRuns (e : Engine) : Bool := (e.state == .runService || e.state == .runNest) && e.drain.isNone

end Sys2Proof.Machine
end

