-- ==== Sys2Proof/Machine/Staging.lean ====
section
/-!
DEFINITION. Window headers and page-list entries as the serving controller reads them (R395 to R398), and what it stages for the vectors
of a step: sieves (R415 to R417) and cutter records (R445, R447).
-/

namespace Sys2Proof.Machine

/-! ## Windows (R395 to R398) -/

/-- Bytes as the serving controller finds them, and whether none of them is poison; what the reading itself changes (R214) is left
to the accesses that have a command of their own. (DESIGN CHOICE, log 122.) -/
def peekOk (s : State) (a n : Nat) : Option (List Byte) :=
  let l := loadBytes s 16 0xFF a n
  if l.status = 0 ∧ l.poisoned = false then some l.bytes else none

def peek (s : State) (a n : Nat) : List Byte := (loadBytes s 16 0xFF a n).bytes

/-- What a read of the serving controller does to what it reads: the write-back of a corrected word, the poisoning and recording of an
uncorrectable one (R211, R214). -/
def svcSee (s : State) (a n : Nat) : State := (loadBytes s 16 0xFF a n).next

/-- A write of the serving controller. -/
def svcWrite (s : State) (a : Nat) (bs : List Byte) : State := (storeBytes s 16 0xFF a bs).next

/-- A window header's fields (R395). -/
structure Win where
  addr : Nat
  maxlen : Nat
  nlane : Nat
  kfmt : Nat
  dsel : Nat
  layers : Nat
  heads : Nat
  place : Nat
  tenant : Nat
  lanes : Nat
  sieve : Nat
  deriving DecidableEq, Repr

def winOfBytes (a : Nat) (d : List Byte) : Win :=
  { addr := a, maxlen := u32 d 0, nlane := u16 d 4, kfmt := u8 d 6, dsel := u8 d 7, layers := u16 d 8, heads := u16 d 10,
    place := u8 d 12, tenant := u8 d 13, lanes := u64 d 16, sieve := u64 d 24 }

def winOf (s : State) (a : Nat) : Win := winOfBytes a (peek s a 64)

/-- Positions per row pair and per page (R393). -/
def Win.kpr (w : Win) : Nat := 2048 / (64 * 2 ^ w.dsel * (if w.kfmt = 3 ∨ w.kfmt = 4 then 1 else 2))
def Win.ppp (w : Win) : Nat := 16 * w.kpr

/-- Pages of a lane, and entries of its page list (R396). -/
def Win.npg (w : Win) : Nat := ceilDiv w.maxlen w.ppp
def Win.npgr (w : Win) : Nat := 8 * ceilDiv w.npg 8

def Win.entryAddr (w : Win) (i j : Nat) : Nat := w.lanes + 8 * (i * w.npgr + j)

/-- The stack in which page j of lane i lies (R403). -/
def Win.stackOf (w : Win) (i j : Nat) : Nat := if w.place = 0 then i % 8 else (i + j) % 8

/-! ## Page-list entries (R398) -/

def entryValid (v : Nat) : Bool := bitOf v 63
def entryRo (v : Nat) : Bool := bitOf v 62
def entryFrame (v : Nat) : Nat := bitsOf v 39 16 * 65536
def entryWord (frame : Nat) (ro : Bool) : Nat := 2 ^ 63 + boolNat ro * 2 ^ 62 + bitsOf frame 39 16 * 65536

def readEntry (s : State) (a : Nat) : Nat := leNat (peek s a 8)
def writeEntry (s : State) (a v : Nat) : State := svcWrite s a (natLE 8 v)

/-- The windows of a request: its own, and the draft model's. -/
def reqWindows (s : State) (r : Req) : List Win :=
  winOf s r.windowAddr :: (if r.draft then [winOf s r.dwindow] else [])

/-- The windows of a request with 0 for its own and 1 for the draft model's. -/
def windowsOf (s : State) (r : Req) : List (Nat × Win) :=
  (0, winOf s r.windowAddr) :: (if r.draft then [(1, winOf s r.dwindow)] else [])

/-- The lane whose page list lies at an address, among a step's requests. -/
def laneAt (s : State) (m plist : Nat) : Option (Nat × Nat × Win × Nat) :=
  (stepAt s m).batch.findSome? (fun b => (windowsOf s (s.req b.req)).findSome? (fun w =>
    if w.2.lanes ≤ plist ∧ plist < w.2.lanes + 8 * w.2.npgr * w.2.nlane ∧ (plist - w.2.lanes) % (8 * w.2.npgr) = 0 then
      some (b.req, w.1, w.2, (plist - w.2.lanes) / (8 * w.2.npgr))
    else none))

/-! ## Sieves (R415 to R417) -/

/-- A sieve image header's fields (R416). -/
structure Sieve where
  qbase : Nat
  qn : Nat
  kn : Nat
  bits : Nat
  deriving DecidableEq, Repr

def sieveOfBytes (d : List Byte) : Sieve := { qbase := u32 d 0, qn := u32 d 4, kn := u32 d 8, bits := u64 d 16 }

/-- The image of a window that has a row for query position p. -/
def sieveFor (s : State) (w : Win) (p : Nat) : Option Sieve :=
  if w.sieve = 0 then none
  else
    let i := sieveOfBytes (peek s w.sieve 32)
    if i.qbase ≤ p ∧ p < i.qbase + i.qn then some i else none

/-- Address of the image row of query position p. -/
def Sieve.row (i : Sieve) (p : Nat) : Nat := i.bits + (p - i.qbase) * (i.kn / 8)

/-- Whether query position p may attend to key position x in a window of `len` positions (R415). -/
def allowed (s : State) (w : Win) (len p x : Nat) : Bool :=
  if len ≤ x then false
  else match sieveFor s w p with
    | some i => decide (x < i.kn) && bitOf (leNat (peek s (i.row p + x / 8) 1)) (x % 8)
    | none => decide (x ≤ p)

/-- A prefill sieve row over a key block of `n` positions from k0: 512 bytes whose bit i tells whether p may attend to k0 + i, and 0 beyond
the block (R87, R417). -/
def sieveRow (s : State) (w : Win) (len p k0 n : Nat) : List Byte :=
  (List.range 512).map (fun b => BitVec.ofNat 8 ((List.range 8).foldl (fun v k =>
    v + boolNat (decide (8 * b + k < n) && allowed s w len p (k0 + (8 * b + k))) * 2 ^ k) 0))

/-- Which of a step's requests that satisfy `ok` a vector belongs to: the step's programs lay the vectors out, so it is free where there is
more than one. (DESIGN CHOICE, log 145.) -/
def pickReq (s : State) (m : Nat) (ok : StepReq → Bool) : Option StepReq × State :=
  let c := (stepAt s m).batch.filter ok
  if c.length ≤ 1 then (c.head?, s) else let (v, s1) := freeValue s; ((c.drop (v % c.length)).head?, s1)

/-- A number below n that the serving controller chooses. (DESIGN CHOICE, log 145.) -/
def pickBelow (s : State) (n : Nat) : Nat × State :=
  if n ≤ 1 then (0, s) else let (v, s1) := freeValue s; (v % n, s1)

/-- The sieve rows of a softmax sweep of a step are built at AX2: one per vector of the request's query block, over the key block's N
positions (R417). -/
def stageSieve (s : State) (m : Nat) (f : GridSlot) (ax2 : Nat) : State :=
  match pickReq s m (fun b => b.prefill != 0) with
  | (none, s1) => s1
  | (some b, s1) =>
    let r := s1.req b.req
    let (d, s2) := pickBelow s1 (reqWindows s1 r).length
    let w := (reqWindows s2 r).getD d (winOf s2 r.windowAddr)
    let len := r.len + b.prefill
    let (k0, s3) := pickBelow s2 len
    (List.range f.m).foldl (fun s i =>
      let (p, s1) := pickBelow s b.prefill
      svcWrite s1 (ax2 + 512 * i) (sieveRow s1 w len (r.len + p) k0 f.n)) s3

/-- SIEVE of a decode attention record is set as its slot issues: no sieve where no image row applies to the query position, else the
offset of a copy of the row in the ladle buffer (R417). The position is the last of the record's range. -/
def stageRecord (s : State) (st m aaux : Nat) : State :=
  let c := scoreSpec ((peek s aaux 32).map (·.toNat))
  match laneAt s m c.plist with
  | none => s
  | some (_, _, w, _) =>
    match sieveFor s w (c.pos0 + c.len - 1) with
    | none => svcWrite s (aaux + 20) (natLE 4 0xFFFFFFFF)
    | some i =>
      let n := 32 * ceilDiv (ceilDiv c.len 8) 32
      let (k, s1) := pickBelow s ((0x40000 - n) / 32 + 1)
      let row := peek s1 (i.row (c.pos0 + c.len - 1) + c.pos0 / 8) n
      svcWrite (svcWrite s1 (bufferBase st + 32 * k) row) (aaux + 20) (natLE 4 (32 * k))

/-- What the serving controller stages as a word of a step's programs is admitted: the sieve of its SCORE slot. -/
def stageWord (s : State) (eng : Nat) (w : StepWord) : State :=
  match w.ladle, (seqWho s eng).2.2 with
  | some v, some m =>
    let a := (s.engine eng).reg (ladleSlot v).aaux
    if (ladleSlot v).op = 5 ∧ inBuffer (eng - 1) a 32 = true then stageRecord s (eng - 1) m a else s
  | _, _ => s

/-! ## Cutters (R442 to R447) -/

def cutterAddr (s : State) (n : Nat) : Nat := dget s 0x5200 1 + 8192 * n

/-- Owner and slot of a VALID cutter. -/
def cutterOf (s : State) (n : Nat) : Option (Nat × Nat) :=
  let c := mapGet (0, 0) s.svc.cutters n
  if c.1 = 0 then none else some (c.1 - 1, c.2)

/-- A cutter becomes EMPTY: its STATE is 0. -/
def emptyCutter (s : State) (n : Nat) : State :=
  svcWrite { s with svc := { s.svc with cutters := mapSet (0, 0) s.svc.cutters n (0, 0) } } (cutterAddr s n) [0]

/-- A cutter in which staging read poison: it becomes EMPTY, and the requests of the step that name it fail at the commit (R447). -/
def cutterPoisoned (s : State) (m n : Nat) : State :=
  let s1 := if cutterOf s n = none then s else bump (emptyCutter s n) 0x5200 4 1
  let st := stepAt s1 m
  if st.batch = [] then s1
  else
    setStep s1 m { st with batch := st.batch.map (fun b =>
      if (s1.req b.req).cutter = n ∧ b.failed = 0 then { b with failed := 0x320 } else b) }

/-- The 128 B record of a step's vector in a layer: the layer record of its request's cutter and 32 zero bytes, or zeros where it has no
cutter, in the draft phase, which another slot's model runs, or where the request has failed (R445). (DESIGN CHOICE, log 145.) -/
def cutterRecord (s : State) (m layer : Nat) (b : StepReq) : List Byte × State :=
  let r := s.req b.req
  if r.cutter = 0xFFFF ∨ b.failed ≠ 0 ∨ (stepAt s m).phase = .draft ∨ (s.slot r.slot).layers ≤ layer then (List.replicate 128 0, s)
  else
    let l := loadBytes s 16 r.tenant (cutterAddr s r.cutter + 64 + 96 * layer) 96
    if l.status ≠ 0 ∨ l.poisoned = true then (List.replicate 128 0, cutterPoisoned l.next m r.cutter)
    else (padTo 128 l.bytes, l.next)

/-- Records for `n` vectors of a step's layer are staged from an address on, 128 B each (R445). -/
def stageCutters (s : State) (m layer a n : Nat) : State :=
  (List.range n).foldl (fun s i =>
    match pickReq s m (fun _ => true) with
    | (some b, s1) =>
      let (d, s2) := cutterRecord s1 m layer b
      svcWrite s2 (a + 128 * i) d
    | (none, s1) => s1) s

/-! ## Sweeps and slots that read what is staged -/

/-- The records that the sweep about to run reads at AX2, where it belongs to a step. -/
def stageSweep (s : State) (slot : Nat) : State :=
  match s.grid.ops.head? with
  | some o =>
    let f := gridSlot slot
    match o.step with
    | some m =>
      if o.bits = slot ∧ f.op = 1 ∧ mayRun s.grid o = true then
        (if f.cut then stageCutters s m f.layer o.ax2 f.m else if f.rnorm = 3 then stageSieve s m f o.ax2 else s)
      else s
    | none => s
  | none => s

/-- MM: the oldest unfinished operation, a sweep with these slot bits, streams its vectors and writes its outputs (R78 to
R95). `stalled` is the cycles its vectors waited under R42 or R613. (DEDUCED, log 119.) -/
def execMm (slot stalled : Nat) (s : State) : Res := runSweep slot stalled (stageSweep s slot)

/-- The cutter records that the CUTAPPLY about to run reads at AAUX, where it belongs to a step. -/
def stageSlot (s : State) (st slot : Nat) : State :=
  match nextLadleSlot (s.ladle st) with
  | some x =>
    match x.step with
    | some m =>
      if x.bits = slot ∧ (ladleSlot slot).op = 0xC ∧ st < 8 then stageCutters s m (ladleSlot slot).layer x.aaux (ladleSlot slot).q else s
    | none => s
  | none => s

/-- CUTAPPLY: cutter records applied to basis rows, added at ADST (R185). -/
def execCutapply (st slot : Nat) (s : State) : Res := runCutapplySlot st slot (stageSlot s st slot)

end Sys2Proof.Machine
end

