-- ==== Sys2Proof/Machine/Engines.lean ====
section
/-!
DEFINITION. The commands of the sequencers: queue entries, step words, waits, MOVE and CTRL slots, NEST, and the completion of
entries (R316 to R349).
-/

namespace Sys2Proof.Machine

def withSeq (s : State) (eng : Nat) (f : Engine → Res) : Res := if isSeq eng then f (s.engine eng) else .next s

/-! ## Queue entries (R338, R339, R343) -/

/-- Whether the SVC holds back an entry of a step for a sequencer: its share of the queue is taken (R342), or the step's slot is unscheduled
and a step in progress that a reservation started uses the queue (R503). -/
def svcHoldsBack (s : State) (eng : Nat) (step : Option Nat) : Bool :=
  decide (dget s 0x2020 1 ≤ ((s.engine eng).queue.filter (fun q => q.origin.poster == 16)).length) ||
  (match step with
    | some m => !(stepAt s m).reserved &&
        s.svc.steps.any (fun e => e.1 != m && e.2.batch != [] && e.2.reserved && e.2.queues.contains eng)
    | none => false)

/-- The step of a slot uses a sequencer's queue. -/
def noteQueue (s : State) (eng : Nat) (step : Option Nat) : State :=
  match step with
  | some m =>
    let r := stepAt s m
    if r.batch = [] ∨ r.queues.contains eng = true then s else setStep s m { r with queues := eng :: r.queues }
  | none => s

/-- SEQ_QUEUE_POST: one aligned 64 B write reaches a sequencer's or walker core's Q_POST, or a walker pool window. -/
def execSeqQueuePost (poster tenant : Nat) (priv : Bool) (serving : Option Nat) (addr : Nat) (data : List Byte) (s : State) : Res :=
  let o : Origin := { poster := poster, tenant := tenant, priv := priv, step := serving }
  let whole := data.length = 64 ∧ addr % 64 = 0
  match postTargetOf (addr / 64 * 64) with
  | .seq e =>
    if poster = 16 ∧ whole ∧ svcHoldsBack s e serving = true then .next s
    else .next (if whole then (postBurst (noteQueue s e serving) (poster * 64) o addr data).2 else badPost64 s e)
  | .core n => .next (if whole then (postBurst s (poster * 64) o addr data).2 else badPost64 s (64 + n))
  | .taskPool _ => .next (if whole then (postBurst s (poster * 64) o addr data).2 else s)
  | .move t _ => .next (if whole then (postBurst s (poster * 64) o addr data).2 else badPostMove s t [])
  | .coll => .next (if whole then (postBurst s (poster * 64) o addr data).2 else badPostColl s)
  | .none => .next s

/-- Whether a sequencer takes its next entry now (R343, R485). (DEDUCED, log 40.) -/
def canTake (s : State) (eng : Nat) : Bool :=
  let e := s.engine eng
  e.state == .runService && e.drain.isNone && e.held.isNone && e.current.isNone && !e.haltReq && s.ctx.switch.isNone

/-- The entry at the head of a queue leaves it; its run is recorded under a new number. -/
def takeEntry (s : State) (eng : Nat) (q : QEntry) (status : Nat) (running : Bool) : State :=
  s.updEngine eng (fun e =>
    { e with
      queue := e.queue.drop 1, taken := sat64 e.taken 1, nextRun := e.nextRun + 1,
      runs := e.runs ++ [{ id := e.nextRun, data := q.data, origin := q.origin, status := status, ended := !running }],
      current := if running then some e.nextRun else none })

/-- The first code that keeps an entry from doing anything (R10, R338, R343, R482). -/
def checkEntry (s : State) (e : Engine) (q : QEntry) : Nat :=
  let h := u32 q.data 0
  let kind := bitsOf h 31 28
  let narg := bitsOf h 27 25
  let ent := u16 q.data 4
  if kind = 0 ∨ 3 < kind ∨ narg = 7 ∨ (kind ≠ 2 ∧ (narg ≠ 0 ∨ ent ≠ 0)) ∨ (kind = 3 ∧ zeroBytes q.data 16 48 = false) then 0x202
  else if !(recordPlace s (u64 q.data 8)) || (kind == 1 && decide (12 < bitsOf (u32 q.data 16) 25 22 + 1)) ||
      (kind == 3 && q.origin.ring.isSome && s.ctx.current == 0) then 0x214
  else if kind = 2 ∧ (ent % 4 ≠ 0 ∨ e.len ≤ ent) then 0x211
  else if kind = 3 ∧ e.otherCommitted = false then 0x212
  else 0

/-- QENTRY_STEP: a STEP entry is taken and its word waits to issue; an entry of a reserved KIND is taken and rejected. -/
def execQentryStep (eng : Nat) (s : State) : Res :=
  withSeq s eng (fun e =>
    match e.queue with
    | q :: _ =>
      let kind := bitsOf (u32 q.data 0) 31 28
      if canTake s eng ∧ kind ≠ 2 ∧ kind ≠ 3 then
        let c := checkEntry s e q
        if c ≠ 0 then .next (takeEntry s eng q c false)
        else
          let us := (List.range 12).map (fun i => u32 q.data (16 + 4 * i))
          .next ((takeEntry s eng q 0 true).updEngine eng (fun e =>
            { e with held := some { units := us, at_ := 0, inline := true, since := s.now, stage := 4 } }))
      else .next s
    | [] => .next s)

/-- QENTRY_CALL: a CALL entry is taken, its arguments loaded, and its routine begins at ENTRY. -/
def execQentryCall (eng : Nat) (s : State) : Res :=
  withSeq s eng (fun e =>
    match e.queue with
    | q :: _ =>
      if canTake s eng ∧ bitsOf (u32 q.data 0) 31 28 = 2 then
        let c := checkEntry s e q
        if c ≠ 0 then .next (takeEntry s eng q c false)
        else
          .next ((takeEntry s eng q 0 true).updEngine eng (fun e =>
            { e with
              pc := u16 q.data 4
              a := (List.range (bitsOf (u32 q.data 0) 27 25)).foldl
                (fun m i => mapSet 0 m i (u64 q.data (16 + 8 * i) % 2 ^ 52)) e.a }))
      else .next s
    | [] => .next s)

/-- BANKFLIP: the other bank is selected and its entry point runs as an initial routine (R337). -/
def flipBank (e : Engine) : Engine :=
  let e1 := { e with bank := !e.bank, stack := [], held := none }
  { e1 with pc := e1.entry }

/-- QENTRY_FLIP: a FLIP entry is taken, the banks flip, and the new bank's initial routine runs. -/
def execQentryFlip (eng : Nat) (s : State) : Res :=
  withSeq s eng (fun e =>
    match e.queue with
    | q :: _ =>
      if canTake s eng ∧ bitsOf (u32 q.data 0) 31 28 = 3 then
        let c := checkEntry s e q
        if c ≠ 0 then .next (takeEntry s eng q c false)
        else .next ((takeEntry s eng q 0 true).updEngine eng flipBank)
      else .next s
    | [] => .next s)

/-! ## Step words (R326 to R332) -/

/-- The word at the engine's position, fetched whole: its units, or a fault or rejection. -/
def fetchWord (s : State) (eng : Nat) : State × Option (List Nat) :=
  let e := s.engine eng
  if e.len < e.pc + 4 then (faultEngine s eng 0x218 e.pc e.lastTag, none)
  else
    let (h, p, s1) := fetchUnit s eng e.pc
    let n := if bitOf h 21 then 2 + 4 * (bitsOf h 20 19 + 1) else bitsOf h 25 22 + 1
    let poisoned (s : State) : State :=
      faultEngine (s.updEngine eng (fun e => if e.bank then { e with commB := false } else { e with commA := false })) eng 0x320 e.pc e.lastTag
    if p then (poisoned s1, none)
    else if e.len < e.pc + 4 * n then (faultEngine s1 eng 0x218 e.pc (h % 65536), none)
    else
      let (us, q, s2) := fetchUnits s1 eng e.pc n
      if q then (poisoned s2, none) else (s2, some us)

/-- Checking a held word, whose SCORE record is staged (R417), and admitting it (R326). -/
def tryWord (s : State) (eng : Nat) (h : HeldWord) : State :=
  let pc := if h.inline then 0xFFFFFFFF else h.at_
  let w := stepWord h.units
  if w.nest then
    if (s.engine eng).state = .runService then rejectWord s eng 0x201 pc w.tag
    else rejectWord s eng 0x213 pc w.tag
  else
    let s := stageWord s eng w
    let c := checkWord s eng h.units
    if c ≠ 0 then rejectWord s eng c pc w.tag else admitWord s eng w

/-- STEP_WORD_ISSUE: the next step word is fetched and checked whole; it issues its slots in order, or waits (R321, R326 to
R328, R356). A word that waits for room issues when there is some. A NEST word in RUN_NEST is left to NEST. -/
def execStepWordIssue (eng : Nat) (s : State) : Res :=
  withSeq s eng (fun e =>
    if seqRuns e = false then .next s
    else match e.held with
      | some h =>
        whenFree s (heldRanges e)
          (if h.stage = 4 then .next (tryWord s eng h)
          else if h.stage = 1 ∧ roomFor s eng (stepWord h.units) then .next (issueWord s eng (stepWord h.units))
          else .next s)
      | none =>
        if e.state = .runService ∧ e.current.isNone then .next s
        else match fetchWord s eng with
          | (s1, none) => .next s1
          | (s1, some us) =>
            if bitOf (us.getD 0 0) 21 ∧ e.state = .runNest then .next s
            else
              let h : HeldWord := { units := us, at_ := e.pc, inline := false, since := s.now, stage := 4 }
              whenFree s (wordRanges e us) (.next (tryWord (s1.updEngine eng (fun e => { e with held := some h })) eng h)))

/-- The SYNC wait of a held word, when it waits. -/
def heldWait (e : Engine) : Option (HeldWord × SyncSlot) :=
  match e.held with
  | some h => if h.stage = 0 then (stepWord h.units).sync.map (fun v => (h, syncSlot v)) else none
  | none => none

/-- SYNC_WAIT_END: a wait is satisfied; the word issues when its slots find room (R327, R330, R331). -/
def execSyncWaitEnd (eng : Nat) (s : State) : Res :=
  withSeq s eng (fun e =>
    match heldWait e with
    | some (h, f) =>
      if seqRuns e ∧ (if f.waitk = 1 then doneWait e f else h.met) = true then
        let w := stepWord h.units
        whenFree s (heldRanges e) (.next (if roomFor s eng w then issueWord s eng w else setStage s eng 1))
      else .next s
    | none => .next s)

/-- SYNC_MEM_POLL: a memory wait reads its location again (R331, R358). -/
def execSyncMemPoll (eng : Nat) (s : State) : Res :=
  withSeq s eng (fun e =>
    match heldWait e with
    | some (_, f) =>
      if seqRuns e ∧ 2 ≤ f.waitk then
        let (s1, ok) := memWait s eng f
        whenFree s [(e.reg f.aw, 4)] (.next (s1.updEngine eng (fun e => { e with held := e.held.map (fun h => { h with met := ok }) })))
      else .next s
    | none => .next s)

/-! ## The MOVE slot (R333 to R335) -/

/-- Descriptors a sequencer has posted that are not complete. -/
def movesOut (e : Engine) : Nat := (e.issued.filter (fun i => i.kind == .move && !i.done)).length

/-- A template patched as the slot says (R333). -/
def patchTemplate (e : Engine) (f : MoveSlot) (d : List Byte) : List Byte :=
  let src := natLE 8 (wrap 52 ((e.reg f.asrc : Int) + 64 * signExt 24 f.soff))
  let dst := natLE 8 (wrap 52 ((e.reg f.adst : Int) + 64 * signExt 24 f.doff))
  let d1 := if f.ps then d.take 16 ++ src ++ d.drop 24 else d
  let d2 := if f.pd then d1.take 56 ++ dst ++ d1.drop 64 else d1
  if f.tt then d2.take 4 ++ natLE 2 f.tag ++ d2.drop 6 else d2

/-- Whether the target of a MOVE slot has room (R335). -/
def moveRoom (s : State) (f : MoveSlot) (d : List Byte) : Bool :=
  if f.tgt < 32 then decide ((s.mover f.tgt).queue.length < 64)
  else (dieMovers s (moveDie s d)).any (fun m => decide ((s.mover m).queue.length < 64))

/-- MOVE_POST: the MOVE slot of the word in hand reads its template, patches it and posts the descriptor, then the rest of the
word follows (R334, R335). A template read from poison completes the slot with POISON_READ,
a target retired since the check with BLOCK_RETIRED (R645). -/
def execMovePost (eng : Nat) (s : State) : Res :=
  withSeq s eng (fun e =>
    match e.held with
    | some h =>
      let w := stepWord h.units
      match w.move with
      | some v =>
        if h.stage = 3 ∧ e.drain.isNone ∧ movesOut e < 64 then
          let f := moveSlot v
          let (t, p, st) := seqWho s eng
          let l := loadBytes s eng t (e.reg f.adesc) 192
          let d := patchTemplate e f l.bytes
          if moveRoom s f d then
            let (no, s1) := newIssue l.next eng .move
            let s2 := if l.poisoned then slotDone s1 eng no 0x301
              else if l.status ≠ 0 then slotDone s1 eng no l.status
              else if f.tgt < 32 ∧ moverUsable s f.tgt = false then slotDone s1 eng no 0x267
              else (postMove s1 (if f.tgt = 32 then 34 else f.tgt)
                { data := d, origin := { poster := eng, tenant := t, priv := p, slot := some (eng, no), step := st } }).2
            whenFree s (heldRanges e) (.next (afterMove s2 eng w))
          else .next s
        else .next s
      | none => .next s
    | none => .next s)

/-! ## The CTRL slot (R336, R337) -/

/-- The CTRL slot of the word in hand, when it is that slot's turn and it is the one given. -/
def pendingCtrl (e : Engine) (v : Nat) : Bool :=
  match e.held with
  | some h => h.stage == 2 && e.drain.isNone && (stepWord h.units).ctrl == some v
  | none => false

def withCtrl (s : State) (eng v : Nat) (f : State) : Res :=
  withSeq s eng (fun e => if pendingCtrl e v then .next f else .next s)

/-- The bits of a CTRL slot from its fields. -/
def ctrlBits (op rest : Nat) : Nat := op * 2 ^ 58 + rest

def setA (s : State) (eng rd v : Nat) : State := s.updEngine eng (fun e => { e with a := mapSet 0 e.a rd v })

/-- SETA: a[RD] = IMM. -/
def execSeta (eng rd imm : Nat) (s : State) : Res :=
  withCtrl s eng (ctrlBits 1 (rd % 16 * 2 ^ 54 + imm % 2 ^ 52)) (finishWord (setA s eng (rd % 16) (imm % 2 ^ 52)) eng)

/-- ADDA: a[RD] = a[RA] + IMM, modulo 2^52. -/
def execAdda (eng rd ra imm : Nat) (s : State) : Res :=
  withCtrl s eng (ctrlBits 2 (rd % 16 * 2 ^ 54 + ra % 16 * 2 ^ 50 + imm % 2 ^ 48))
    (finishWord (setA s eng (rd % 16) (wrap 52 (((s.engine eng).reg (ra % 16) : Int) + signExt 48 imm))) eng)

/-- SETC: c[CN] = IMM. -/
def execSetc (eng cn imm : Nat) (s : State) : Res :=
  withCtrl s eng (ctrlBits 3 (cn % 4 * 2 ^ 56 + imm % 2 ^ 32))
    (finishWord (s.updEngine eng (fun e => { e with c := mapSet 0 e.c (cn % 4) (imm % 2 ^ 32) })) eng)

/-- MADDC: a[RD] = a[RA] + c[CN] × IMM, modulo 2^52. -/
def execMaddc (eng rd ra cn imm : Nat) (s : State) : Res :=
  withCtrl s eng (ctrlBits 4 (rd % 16 * 2 ^ 54 + ra % 16 * 2 ^ 50 + cn % 4 * 2 ^ 48 + imm % 2 ^ 32))
    (finishWord (setA s eng (rd % 16)
      (wrap 52 (((s.engine eng).reg (ra % 16) : Int) + ((s.engine eng).ctr (cn % 4) : Int) * signExt 32 imm))) eng)

/-- The word ends and the engine continues at a target; an inline word has nowhere to continue, and its entry ends. (DEDUCED, log 46.) -/
def jumpTo (s : State) (eng target : Nat) : State :=
  let inline := match (s.engine eng).held with
    | some h => h.inline
    | none => false
  let s1 := finishWord s eng
  if inline then s1 else s1.updEngine eng (fun e => { e with pc := target })

/-- JUMP: continue at TARGET. -/
def execJump (eng target : Nat) (s : State) : Res :=
  withCtrl s eng (ctrlBits 8 (target % 2 ^ 16)) (jumpTo s eng (target % 2 ^ 16))

/-- LOOP: when c[CN] is 0, fall through; otherwise decrement it, and continue at TARGET when the result is not 0. -/
def execLoop (eng cn target : Nat) (s : State) : Res :=
  let c := (s.engine eng).ctr (cn % 4)
  let s1 := s.updEngine eng (fun e => { e with c := mapSet 0 e.c (cn % 4) (c - 1) })
  withCtrl s eng (ctrlBits 9 (cn % 4 * 2 ^ 56 + target % 2 ^ 16))
    (if c = 0 then finishWord s eng else if c = 1 then finishWord s1 eng else jumpTo s1 eng (target % 2 ^ 16))

/-- JCZ: continue at TARGET when c[CN] is 0. -/
def execJcz (eng cn target : Nat) (s : State) : Res :=
  withCtrl s eng (ctrlBits 10 (cn % 4 * 2 ^ 56 + target % 2 ^ 16))
    (if (s.engine eng).ctr (cn % 4) = 0 then jumpTo s eng (target % 2 ^ 16) else finishWord s eng)

/-- CALL: push the next word's offset and continue at TARGET; a full return stack faults the engine (R356). -/
def execCall (eng target : Nat) (s : State) : Res :=
  withCtrl s eng (ctrlBits 11 (target % 2 ^ 16))
    (let e := s.engine eng
     match e.held with
     | some h =>
       if h.inline then finishWord s eng
       else if 8 ≤ e.stack.length then faultEngine s eng 0x218 h.at_ e.lastTag
       else jumpTo (s.updEngine eng (fun e => { e with stack := (h.at_ + 4 * h.units.length) :: e.stack })) eng (target % 2 ^ 16)
     | none => s)

/-- STOP of a CTRL slot, or a RET of RUN_NEST with an empty stack: issue ends and the engine drains (R337, R355). (DEDUCED, log 49.) -/
def beginStop (s : State) (eng : Nat) (flip : Bool) : State :=
  s.updEngine eng (fun e => { noteRun e 0x215 0xFFFFFFFF with drain := some (.stop flip), held := none, nest := none, haltReq := false })

/-- RET: pop and continue there; with the stack empty, the routine ends, or in RUN_NEST the engine stops (R337). -/
def execRet (eng : Nat) (s : State) : Res :=
  withCtrl s eng (ctrlBits 12 0)
    (let e := s.engine eng
     match e.stack with
     | t :: rest => jumpTo (s.updEngine eng (fun e => { e with stack := rest })) eng t
     | [] =>
       if e.state = .runNest then beginStop s eng false
       else
         let s1 := endEntry s eng
         if (s1.engine eng).haltReq then enterHalted s1 eng else s1)

/-- BANKFLIP: the other committed bank is selected and its entry point runs (R337). -/
def execBankflip (eng : Nat) (s : State) : Res :=
  withCtrl s eng (ctrlBits 16 0)
    (let s1 := s.updEngine eng flipBank
     if (s1.engine eng).haltReq then enterHalted s1 eng else s1)

/-- CTRL HALT: the engine is HALTED after this word. -/
def execCtrlHalt (eng : Nat) (s : State) : Res :=
  withCtrl s eng (ctrlBits 17 0) (enterHalted (finishWord s eng) eng)

/-- CTRL STOP: as the STOP command does, with FLIP as given. -/
def execCtrlStop (eng : Nat) (flip : Bool) (s : State) : Res :=
  withCtrl s eng (ctrlBits 18 (boolNat flip)) (beginStop s eng flip)

/-! ## Nest mode (R346 to R349) -/

/-- Level l of a NEST: (COUNTM1, INCA, INCB, INCC). -/
def nestLevel (us : List Nat) (l : Nat) : Nat × Int × Int × Int :=
  let v := unitsNat ((us.drop (2 + 4 * l)).take 4)
  (bitsOf v 127 112, signExt 32 (bitsOf v 95 64), signExt 32 (bitsOf v 63 32), signExt 32 (bitsOf v 31 0))

/-- Whether a body of `n` words from an offset holds only plain step words without CTRL within the committed length. -/
def nestBodyOk (s : State) (eng off : Nat) : Nat → Bool
  | 0 => true
  | n + 1 =>
    let (h, _, _) := fetchUnit s eng off
    let k := bitsOf h 25 22 + 1
    decide (off + 4 * k ≤ (s.engine eng).len) && !(bitOf h 21) && !(bitOf h 31) && nestBodyOk s eng (off + 4 * k) n

/-- NEST: the NEST instruction at the engine's position begins its iterations; in RUN_SERVICE it is rejected with
ILLEGAL_IN_STATE (R346, R347, R349). -/
def execNest (eng : Nat) (s : State) : Res :=
  withSeq s eng (fun e =>
    if seqRuns e ∧ e.held.isNone ∧ (e.state = .runNest ∨ e.current.isSome) then
      match fetchWord s eng with
      | (s1, none) => .next s1
      | (s1, some us) =>
        let h := us.getD 0 0
        let u := us.getD 1 0
        let a := bitsOf u 31 28
        let b := bitsOf u 27 24
        let c := bitsOf u 23 20
        let n := bitsOf h 18 16 + 1
        if !(bitOf h 21) then .next s
        else if e.state = .runService then .next (rejectWord s1 eng 0x201 e.pc (h % 65536))
        else if bitsOf h 31 26 ≠ 0 ∨ bitsOf h 25 22 ≠ 0 ∨ a = b ∨ a = c ∨ b = c ∨ nestBodyOk s1 eng (e.pc + 4 * us.length) n = false then
          .next (rejectWord s1 eng 0x213 e.pc (h % 65536))
        else
          let run : NestRun := { levels := (List.range (bitsOf h 20 19 + 1)).map (nestLevel us),
                                 iter := List.replicate (bitsOf h 20 19 + 1) 0, opa := a, opb := b, opc := c, baseA := e.reg a,
                                 baseB := e.reg b, baseC := e.reg c, savedC := (List.range 4).map e.ctr,
                                 bodyPc := e.pc + 4 * us.length, bodyLeft := n, bodyWords := n }
          .next (s1.updEngine eng (fun e =>
            let e1 := nestPlace e run run.iter
            { e1 with nest := some run, pc := run.bodyPc, lastTag := h % 65536 }))
    else .next s)

/-! ## Entry completion (R344, R345) -/

/-- The completion of the first entry whose routine has ended and whose slots have all completed. -/
def completeRun (s : State) (eng : Nat) (r : EntryRun) : State :=
  let h := u32 r.data 0
  let e := s.engine eng
  let rec16 := entryRecord (h % 65536) r.status eng (boolNat r.rejected + 2 * boolNat r.abandoned) e.state.code r.pc r.slots
  let s1 := s.setEngine eng { e with runs := e.runs.filter (fun x => x.id != r.id) }
  let c := u64 r.data 8
  let s2 := if bitOf h 24 ∧ recordPlace s c ∧ mayReach s r.origin.tenant r.origin.priv true c 16 then
      (storeBytes s1 eng r.origin.tenant c rec16).next
    else s1
  completeEntry s2 r.origin rec16 true

/-- ENTRY_COMPLETE: an entry's slots have all completed and its routine has ended; its record is written. -/
def execEntryComplete (eng : Nat) (s : State) : Res :=
  withSeq s eng (fun e =>
    match e.runs.find? (fun r => r.ended && r.outstanding == 0) with
    | some r => whenFree s (if bitOf (u32 r.data 0) 24 then [(u64 r.data 8, 16)] else []) (.next (completeRun s eng r))
    | none => .next s)

end Sys2Proof.Machine
end

