-- ==== Sys2Proof/Machine/Regs.lean ====
section
/-!
DEFINITION. The registers of engine control space as they read and as their fields are written (R9, R37, R103, R143, R199, R247,
R278, R312, R314 to R316, R359, R390). Registers that start a command have rows of their own and are not written here.
-/

namespace Sys2Proof.Machine

/-! ## Reading -/

/-- ENG_ and Q_ registers of a programmed engine's block (R359). -/
def engReg (s : State) (eng o : Nat) : Option Nat :=
  let e := s.engine eng
  let walk := decide (64 ≤ eng)
  match o with
  | 0x100 => some (e.state.code * 2 ^ 61 + boolNat e.bank * 2 ^ 60 + boolNat e.commA * 2 ^ 59 + boolNat e.commB * 2 ^ 58 +
      boolNat (e.loadersA != 0) * 2 ^ 57 + boolNat (e.loadersB != 0) * 2 ^ 56 + e.stack.length * 2 ^ 52 + e.pc % 65536 * 2 ^ 32 +
      e.lastTag * 2 ^ 16 + boolNat (e.haltNest && e.state == .halted) * 2 ^ 15)
  | 0x108 => some 0
  | 0x110 => some (boolNat e.cmdBusy * 2 ^ 63 + e.cmdStatus * 2 ^ 32 + e.cmdState * 2 ^ 29 + e.cmdTag)
  | 0x118 => some (e.lenA * 2 ^ 48 + e.entA * 2 ^ 32 + e.lenB * 2 ^ 16 + e.entB)
  | 0x120 => some (boolNat e.errValid * 2 ^ 63 + e.errStatus * 2 ^ 32 + e.errPc * 2 ^ 16 + e.errTag)
  | 0x128 => some e.wdog
  | 0x130 => some (boolNat e.busyHit * 2 ^ 63 + e.refused)
  | 0x140 => some (boolNat e.overflow * 2 ^ 63 + boolNat e.badPost * 2 ^ 62 + 256 * 2 ^ 32 + e.queue.length)
  | 0x148 => some e.drops
  | 0x150 => some e.taken
  | _ =>
    if 0x200 ≤ o ∧ o < 0x280 then some (if walk then 0 else e.reg ((o - 0x200) / 8))
    else if 0x280 ≤ o ∧ o < 0x2A0 then some (if walk then 0 else e.ctr ((o - 0x280) / 8))
    else none

/-- Registers of a mover's block (R278, R359). -/
def movReg (s : State) (m o : Nat) : Nat :=
  let x := s.mover m
  match o with
  | 0x0000 => boolNat x.run.isSome * 2 ^ 63 + x.queue.length * 2 ^ 56 + (match x.run with
      | some r => (moveDesc r.data).tag * 2 ^ 16
      | none => 0)
  | 0x0008 => boolNat x.lastErr.isSome * 2 ^ 63 + x.lastTag * 2 ^ 32 + x.lastStatus
  | 0x0010 => x.bytes
  | 0x0018 => x.descs
  | 0x0020 => x.clamped
  | 0x0028 => x.clipped
  | 0x0140 => boolNat x.overflow * 2 ^ 63 + boolNat x.badPost * 2 ^ 62 + 64 * 2 ^ 32 + x.queue.length
  | 0x0148 => x.drops
  | 0x0150 => x.taken
  | _ => 0

/-- Registers of a walker's block (R312, R390). -/
def walkReg (s : State) (n o : Nat) : Nat :=
  let x := s.walker n
  let count (p : ThreadState → Bool) : Nat := (x.threads.filter (fun e => p e.2.st)).length
  match o with
  | 0x0300 => count (fun t => t != .free) * 2 ^ 57 + count (fun t => t == .waiting) * 2 ^ 50
  | 0x0308 => x.issued
  | 0x0310 => x.l1Hit
  | 0x0318 => x.l1Miss
  | 0x0320 => x.l1Err
  | 0x0328 => x.tasks
  | 0x0330 => boolNat x.lastValid * 2 ^ 63 + x.lastStatus * 2 ^ 32 + x.lastThread * 2 ^ 26 + x.lastPc
  | 0x0400 => x.releases
  | 0x0408 => x.acquires
  | 0x0410 => x.l1Inval
  | 0x0418 => x.trackStall
  | 0x0420 => x.relWait
  | _ =>
    if 0x1000 ≤ o ∧ o < 0x1200 then
      let t := mapGet ({} : Thread) x.threads ((o - 0x1000) / 8)
      t.st.code * 2 ^ 62 + t.pc % 65536 * 2 ^ 32 + t.tag
    else 0

/-- Free spare rows of a bank (R136, R232), and the fewest of any bank with the lowest-numbered bank that has so few (R143). -/
def rowsFree (x : Stack) (p : Nat) : Nat := ((List.range 64).filter (fun i => spareFree (mapGet 0 x.rowRepair (p * 64 + i)))).length

def minRows (x : Stack) : Nat × Nat :=
  (List.range 2048).foldl (fun acc p => let n := rowsFree x p; if n < acc.1 then (n, p) else acc) (64, 0)

/-- The selected repair entry (R136, R143). -/
def repairSel (x : Stack) : Nat :=
  if x.rprColSel then mapGet 0 x.colRepair (x.rprBank * 4 + x.rprEntry % 4) else mapGet 0 x.rowRepair (x.rprBank * 64 + x.rprEntry)

/-- 32-bit and 64-bit registers of a stack in its SSQ's block, by their 32-bit halves (R143, R199, R247). -/
def stackUnit (s : State) (st o : Nat) : Nat :=
  let x := s.stack st
  let l := s.ladle st
  let half (v : Nat) : Nat := if o % 8 = 4 then v / 2 ^ 32 % 2 ^ 32 else v % 2 ^ 32
  match o with
  | 0x2000 => boolNat x.rprSpareAcc * 2 ^ 31 + boolNat x.rprColSel * 2 ^ 30 + x.rprBank * 2 ^ 6 + x.rprEntry
  | 0x2004 => repairSel x
  | 0x2008 => boolNat (s.dev != .test) * 2 ^ 31 + boolNat x.rprBadWrite * 2 ^ 30 + (minRows x).1 * 2 ^ 16 + (minRows x).2
  | 0x2010 => boolNat x.spareExhausted * 2 ^ 31 + boolNat x.degraded * 2 ^ 30 + boolNat x.retireFull * 2 ^ 29 +
      boolNat (x.awaiting != []) * 2 ^ 28 + x.remap.length
  | 0x2014 => x.remapSel
  | 0x2134 => 0
  | 0x2138 => x.tresClass * 2 ^ 29 + x.tresPos * 2 ^ 16 + x.tresValue * 2 ^ 8 + boolNat x.tresDone
  | 0x213C => x.tsyn
  | 0x2130 => x.tchk.toNat
  | _ =>
    match o / 8 * 8 with
    | 0x2018 => half (match x.remap[x.remapSel]? with
        | some (f, d, m) => 2 ^ 63 + boolNat m * 2 ^ 62 + f * 2 ^ 16 + d
        | none => 0)
    | 0x2020 => half (x.whiskLast % 2 ^ 32 * 2 ^ 32 + (s.now - x.whiskStart) / 1000000 % 2 ^ 32)
    | 0x2100 => half (boolNat (x.testFrames.contains x.tframe) * 2 ^ 61 + x.tframe)
    | 0x2108 => half x.taddr
    | 0x3100 => half ((l.seqs.filter (fun q => q.st == .computing)).length * 2 ^ 44 + l.grant * 2 ^ 34 + x.allowance * 2 ^ 28 +
        boolNat l.boost * 2 ^ 27 + l.slots.length * 2 ^ 22)
    | 0x3108 => half l.rowOps
    | 0x3110 => half l.suspends
    | 0x3118 => half l.vstall
    | 0x3120 => half l.corrected
    | 0x3128 => half l.poisons
    | 0x3130 => half (boolNat l.lastValid * 2 ^ 63 + l.lastBank * 2 ^ 52 + l.lastRow * 2 ^ 37 + l.lastWord * 2 ^ 31 + l.lastOp * 2 ^ 27)
    | _ =>
      if 0x2110 ≤ o ∧ o < 0x2130 then bitsOf x.tdata.toNat (8 * (o - 0x2110) + 31) (8 * (o - 0x2110))
      else if 0x3000 ≤ o ∧ o < 0x3100 then bitsOf l.usable (8 * (o - 0x3000) + 31) (8 * (o - 0x3000))
      else 0

/-- TRIPREC in its register layout (R620). -/
def TripRecord.word (t : TripRecord) : Nat :=
  boolNat t.valid * 2 ^ 63 + t.domain * 2 ^ 52 + t.sensor * 2 ^ 42 + t.temp * 2 ^ 32 + t.holdMs

/-- A scale register as it reads: a marked one as the canonical quiet NaN (R40). -/
def scaleReg (vals : Map Nat) (bad : Map Bool) (i : Nat) : Nat := if mapGet false bad i then 0x7FC00000 else mapGet 0x3F800000 vals i

/-- Registers of the griddle and TRIPREC in the GSQ's block, by 32-bit halves (R37, R103, R315). -/
def gridUnit (s : State) (o : Nat) : Nat :=
  let g := s.grid
  let half (v : Nat) : Nat := if o % 8 = 4 then v / 2 ^ 32 % 2 ^ 32 else v % 2 ^ 32
  match o with
  | 0x1000 => ((List.range 16).filter (bitOf g.usable)).length * 2 ^ 16 + g.usable
  | 0x1004 => g.rimEps
  | 0x1008 => boolNat (g.ops != []) * 2 ^ 31 + boolNat (g.ops.any (·.rerun)) * 2 ^ 30 + boolNat g.set1.ready * 2 ^ 29 +
      boolNat g.set0.ready * 2 ^ 28 + min (g.ops.length + g.scaleOps.length) 15 * 2 ^ 24
  | 0x1030 => if g.scales.outBad then 0x7FC00000 else g.scales.out
  | _ =>
    match o / 8 * 8 with
    | 0x1010 => half g.sweeps
    | 0x1018 => half g.busy
    | 0x1020 => half g.stall
    | 0x1040 => half s.power.trip.word
    | _ =>
      if 0x4000 ≤ o ∧ o < 0x8000 then scaleReg g.scales.col g.scales.colBad ((o - 0x4000) / 4)
      else if 0x8000 ≤ o ∧ o < 0x8000 + 4 * 3584 then scaleReg g.scales.row g.scales.rowBad ((o - 0x8000) / 4)
      else 0

/-- The 32-bit half of engine control space at an offset that is a multiple of 4; unassigned addresses read 0 (R315). -/
def ecsUnit (s : State) (off : Nat) : Nat :=
  let half (v o : Nat) : Nat := if o % 8 = 4 then v / 2 ^ 32 % 2 ^ 32 else v % 2 ^ 32
  match blockOf off with
  | some (e, o) =>
    if 32 ≤ e ∧ e < 64 then half (movReg s (e - 32) (o / 8 * 8)) o
    else match engReg s e (o / 8 * 8) with
      | some v => half v o
      | none => if e = 0 then gridUnit s o else if e ≤ 8 then stackUnit s (e - 1) o else half (walkReg s (e - 64) (o / 8 * 8)) o
  | none =>
    if off / 8 * 8 = 0x1210140 then
      half (boolNat s.fabric.collOverflow * 2 ^ 63 + boolNat s.fabric.collBadPost * 2 ^ 62 + 32 * 2 ^ 32 + s.fabric.collQueue.length) off
    else if off / 8 * 8 = 0x1210148 then half s.fabric.collDrops off
    else if off / 8 * 8 = 0x1210150 then half s.fabric.collTaken off
    else 0

/-- Bytes of engine control space from a byte offset, registers only. -/
def ecsBytes (s : State) (off n : Nat) : List Byte :=
  (List.range n).map (fun i => BitVec.ofNat 8 (ecsUnit s ((off + i) / 4 * 4) / 2 ^ (8 * ((off + i) % 4))))

/-! ## Writing -/

/-- A 32-bit half of a 64-bit value replaced under a mask. (DEDUCED, log 85.) -/
def mergeHalf (old o mask v : Nat) : Nat :=
  let sh := if o % 8 = 4 then 32 else 0
  let m := mask * 2 ^ sh
  old - (old &&& m) + (v &&& mask) * 2 ^ sh

/-- Whether a written half has a 1 in a bit of its 64-bit register. -/
def wroteOne (o mask v bit : Nat) : Bool :=
  let sh := if o % 8 = 4 then 32 else 0
  decide (sh ≤ bit) && decide (bit < sh + 32) && bitOf (v &&& mask) (bit - sh)

/-- Agents that may write the word-code test registers and ENG_CMD: the administrative function, SPA and SPB (R247, R352). -/
def isAdmin (agent tenant : Nat) : Bool := (agent == 0xF0 && tenant == 0) || agent == 0xF2 || agent == 0xF3

/-- A write to a 32-bit half of a programmed engine's ENG_ and Q_ registers (R316, R359). -/
def putEng (s : State) (eng o mask v : Nat) : State :=
  let e := s.engine eng
  let clear (b : Bool) (bit : Nat) : Bool := b && !(wroteOne o mask v bit)
  match o / 8 * 8 with
  | 0x120 => s.setEngine eng { e with errValid := clear e.errValid 63 }
  | 0x128 => s.setEngine eng { e with wdog := mergeHalf e.wdog o mask v % 2 ^ 32 }
  | 0x130 => s.setEngine eng { e with busyHit := clear e.busyHit 63 }
  | 0x140 => s.setEngine eng { e with overflow := clear e.overflow 63, badPost := clear e.badPost 62 }
  | _ =>
    if 0x200 ≤ o ∧ o < 0x2A0 ∧ eng ≤ 8 then
      if e.state = .idle ∨ e.state = .loaded ∨ e.state = .halted ∨ e.state = .faulted then
        if o < 0x280 then
          let i := (o - 0x200) / 8
          s.setEngine eng { e with a := mapSet 0 e.a i (mergeHalf (e.reg i) o mask v % 2 ^ 52) }
        else
          let i := (o - 0x280) / 8
          s.setEngine eng { e with c := mapSet 0 e.c i (mergeHalf (e.ctr i) o mask v % 2 ^ 32) }
      else cmdState s
    else s

/-- A write to a 32-bit half of a stack's registers (R143, R199, R247). -/
def putStack (s : State) (agent tenant st o mask v : Nat) : State :=
  let x := s.stack st
  let one (bit : Nat) : Bool := wroteOne o mask v bit
  let new (old : Nat) : Nat := old - (old &&& mask) + (v &&& mask)
  match o with
  | 0x2000 =>
    let n := new (stackUnit s st 0x2000)
    s.setStack st { x with
      rprSpareAcc := bitOf n 31 && s.dev == .test, rprColSel := bitOf n 30, rprBank := bitsOf n 16 6, rprEntry := bitsOf n 5 0 }
  | 0x2008 => s.setStack st { x with rprBadWrite := x.rprBadWrite && !(bitOf (v &&& mask) 30) }
  | 0x2010 => s.setStack st { x with
      spareExhausted := x.spareExhausted && !(bitOf (v &&& mask) 31), retireFull := x.retireFull && !(bitOf (v &&& mask) 29) }
  | 0x2014 => s.setStack st { x with remapSel := new x.remapSel % 4096 }
  | 0x2130 => if isAdmin agent tenant then s.setStack st { x with tchk := BitVec.ofNat 32 (new x.tchk.toNat) } else s
  | 0x2138 => s.setStack st { x with tresDone := x.tresDone && !(bitOf (v &&& mask) 0) }
  | _ =>
    if o / 8 * 8 = 0x2108 then
      (if isAdmin agent tenant then s.setStack st { x with taddr := mergeHalf x.taddr o mask v % 2 ^ 52 / 32 * 32 } else s)
    else if 0x2110 ≤ o ∧ o < 0x2130 then
      (if isAdmin agent tenant then
        let sh := 8 * (o - 0x2110)
        let d := x.tdata.toNat
        let m := mask * 2 ^ sh
        s.setStack st { x with tdata := BitVec.ofNat 256 (d - (d &&& m) + (v &&& mask) * 2 ^ sh) }
      else s)
    else if o / 8 * 8 = 0x3130 then s.updLadle st (fun l => { l with lastValid := l.lastValid && !(one 63) })
    else s

/-- A write to a 32-bit half of engine control space; what has no writable field there is ignored (R9, R37, R315, R317). -/
def putUnit (s : State) (agent tenant off mask v : Nat) : State :=
  match blockOf off with
  | some (e, o) =>
    if 32 ≤ e ∧ e < 64 then
      match o / 8 * 8 with
      | 0x0008 => s.updMover (e - 32) (fun x => { x with lastErr := if wroteOne o mask v 63 then none else x.lastErr })
      | 0x0140 => s.updMover (e - 32) (fun x =>
          { x with overflow := x.overflow && !(wroteOne o mask v 63), badPost := x.badPost && !(wroteOne o mask v 62) })
      | _ => s
    else if 0x100 ≤ o ∧ o < 0x300 then putEng s e o mask v
    else if e = 0 then
      (if o = 0x1004 then { s with grid := { s.grid with rimEps := s.grid.rimEps - (s.grid.rimEps &&& mask) + (v &&& mask) } }
      else if o / 8 * 8 = 0x1040 then
        { s with power := { s.power with trip := { s.power.trip with valid := s.power.trip.valid && !(wroteOne o mask v 63) } } }
      else s)
    else if e ≤ 8 then putStack s agent tenant (e - 1) o mask v
    else if o / 8 * 8 = 0x330 then s.updWalker (e - 64) (fun x => { x with lastValid := x.lastValid && !(wroteOne o mask v 63) })
    else s
  | none =>
    if off / 8 * 8 = 0x1210140 then
      { s with fabric := { s.fabric with
          collOverflow := s.fabric.collOverflow && !(wroteOne off mask v 63),
          collBadPost := s.fabric.collBadPost && !(wroteOne off mask v 62) } }
    else s

/-- Whether a byte offset lies in the Q_POST window of an engine or in a pool window: a write there that is not one whole
burst is dropped and sets BADPOST (R339). -/
def badPostAt (s : State) (off : Nat) : Option State :=
  match postTargetOf (ecsBase + off / 64 * 64) with
  | .seq e => some (badPost64 s e)
  | .core n => some (badPost64 s (64 + n))
  | .move t _ => some (badPostMove s t [])
  | .coll => some { s with fabric := { s.fabric with collBadPost := true } }
  | .taskPool _ => some s
  | .none => none

/-- The bytes of a register whose writing starts a command: ENG_CMD, WC_TFRAME and WC_TCMD (R751). -/
def commandReg (off : Nat) : Option Nat :=
  match blockOf off with
  | some (e, o) =>
    if isProgrammed e && o / 8 * 8 == 0x108 then some 8
    else if 1 ≤ e ∧ e ≤ 8 ∧ o / 8 * 8 = 0x2100 then some 8
    else if 1 ≤ e ∧ e ≤ 8 ∧ o / 4 * 4 = 0x2134 then some 4
    else none
  | none => none

/-- The 4 B units that a write of `bs` at an offset reaches, each with its written bits and their values. -/
def writeUnits (off : Nat) (bs : List Byte) : List (Nat × Nat × Nat) :=
  (List.range ((off + bs.length - 1) / 4 - off / 4 + 1)).map (fun i =>
    let u := off / 4 * 4 + 4 * i
    let byte (k : Nat) : Option Byte := if u + k < off then none else bs[u + k - off]?
    (u, (List.range 4).foldl (fun m k => if (byte k).isSome then m + 255 * 2 ^ (8 * k) else m) 0,
      (List.range 4).foldl (fun m k => m + ((byte k).getD 0).toNat * 2 ^ (8 * k)) 0))

/-- Whether a write is one naturally aligned access (R751). -/
def naturalAccess (off n : Nat) : Bool := [1, 2, 4, 8, 16, 32, 64].contains n && off % n == 0

end Sys2Proof.Machine
end

