-- ==== Sys2Proof/Machine/WalkOps.lean ====
section
/-!
DEFINITION. What the walkers' commands share: decoding an instruction (R296, R297, R366 to R372), where a thread may reach (R373,
R374), the L1 (R298 to R301, R376), the address tracker (R286), and the end of tasks (R382 to R384).
-/

namespace Sys2Proof.Machine

/-! ## Instructions -/

inductive WalkOp where
  | add | sub | and | or | xor | shl | shr | sar | mul | mulhu | minu | maxu | mins | maxs | sltu | slt | ford | popc | clz | hash
  | addi | andi | ori | xori | shli | shri | sari | movk | ld | st | ldb | stb | ldch | wadd | post
  | beq | bne | blt | bge | bltu | bgeu | jal | jalr | mfs | texit | ldacq | strel | fence | amo64 | amo32
  deriving DecidableEq, Repr

def wMajor (w : Nat) : Nat := bitsOf w 31 26
def wRd (w : Nat) : Nat := bitsOf w 25 21
def wRa (w : Nat) : Nat := bitsOf w 20 16
def wRb (w : Nat) : Nat := bitsOf w 15 11
def wImm (w : Nat) : Nat := w % 65536
/-- Fields of the ordering layout (R296). -/
def oFn (w : Nat) : Nat := bitsOf w 25 23
def oRd (w : Nat) : Nat := bitsOf w 22 18
def oRa (w : Nat) : Nat := bitsOf w 17 13
def oRb (w : Nat) : Nat := bitsOf w 12 8
def oOrd (w : Nat) : Nat := bitsOf w 7 3
def oLow (w : Nat) : Nat := w % 8

/-- The ALU operation of a FUNC code (R368). -/
def aluOf (f : Nat) : Option WalkOp :=
  match f with
  | 0 => some .add
  | 1 => some .sub
  | 2 => some .and
  | 3 => some .or
  | 4 => some .xor
  | 5 => some .shl
  | 6 => some .shr
  | 7 => some .sar
  | 8 => some .mul
  | 9 => some .mulhu
  | 10 => some .minu
  | 11 => some .maxu
  | 12 => some .mins
  | 13 => some .maxs
  | 14 => some .sltu
  | 15 => some .slt
  | 16 => some .ford
  | 17 => some .popc
  | 18 => some .clz
  | 19 => some .hash
  | _ => none

/-- The ordering instruction of a word (R296, R297). -/
def orderOf (w : Nat) : Option WalkOp :=
  let sem := ordSem (oOrd w)
  if 4 < ordScope (oOrd w) then none
  else match oFn w with
    | 0 => if sem = 1 ∧ oLow w < 4 then some .ldacq else none
    | 1 => if sem = 2 ∧ oLow w < 4 then some .strel else none
    | 2 => if sem ≠ 0 ∧ oRd w = 0 ∧ oRa w = 0 ∧ oRb w = 0 ∧ oLow w = 0 then some .fence else none
    | 3 => some .amo64
    | 4 => some .amo32
    | _ => none

/-- The instruction of a word; none for a reserved encoding or a field that must be 0 and is not (R367 to R372). -/
def walkOp (w : Nat) : Option WalkOp :=
  match wMajor w with
  | 0x01 => if w % 32 ≠ 0 ∨ (bitsOf w 10 5 = 16 ∧ wRb w ≠ 0) then none else aluOf (bitsOf w 10 5)
  | 0x02 => some .addi
  | 0x03 => some .andi
  | 0x04 => some .ori
  | 0x05 => some .xori
  | 0x06 => if wImm w < 64 then some .shli else none
  | 0x07 => if wImm w < 64 then some .shri else none
  | 0x08 => if wImm w < 64 then some .sari else none
  | 0x09 => if wRa w < 4 then some .movk else none
  | 0x10 => some .ld
  | 0x11 => some .st
  | 0x12 => if bitsOf w 15 13 = 0 ∧ wRd w % 8 = 0 then some .ldb else none
  | 0x13 => if bitsOf w 15 13 = 0 ∧ wRd w % 8 = 0 then some .stb else none
  | 0x14 => some .ldch
  | 0x15 => if w % 4096 = 0 ∧ wRd w % 8 = 0 ∧ bitsOf w 15 13 < 5 then some .wadd else none
  | 0x16 => if w % 512 = 0 ∧ wRb w % 8 = 0 then some .post else none
  | 0x20 => some .beq
  | 0x21 => some .bne
  | 0x22 => some .blt
  | 0x23 => some .bge
  | 0x24 => some .bltu
  | 0x25 => some .bgeu
  | 0x26 => some .jal
  | 0x27 => some .jalr
  | 0x30 => if wImm w < 7 then some .mfs else none
  | 0x31 => if wRd w = 0 ∧ wImm w = 0 then some .texit else none
  | 0x3A => orderOf w
  | _ => none

/-! ## Threads -/

def Walker.thread (x : Walker) (t : Nat) : Thread := mapGet {} x.threads t
def State.thread (s : State) (n t : Nat) : Thread := (s.walker n).thread t
def State.updThread (s : State) (n t : Nat) (f : Thread → Thread) : State :=
  s.updWalker n (fun x => { x with threads := mapUpd {} x.threads t f })

/-- w_i, of 64 bits; w0 reads 0 (R365). -/
def Thread.reg (t : Thread) (i : Nat) : Nat := if i = 0 then 0 else mapGet 0 t.regs i % 2 ^ 64

/-- Writing w_i; a write to w0 is discarded (R365). -/
def Thread.setReg (t : Thread) (i v : Nat) : Thread := if i = 0 then t else { t with regs := mapSet 0 t.regs i (v % 2 ^ 64) }

/-- The 64 bytes of eight registers from an aligned one (R367). -/
def Thread.burst (t : Thread) (r : Nat) : List Byte := (List.range 8).flatMap (fun j => natLE 8 (t.reg (r + j)))

def Thread.setBurst (t : Thread) (r : Nat) (bs : List Byte) : Thread :=
  (List.range 8).foldl (fun t j => t.setReg (r + j) (leNat ((bs.drop (8 * j)).take 8))) t

/-! ## The L1 (R298 to R301, R376) -/

def cacheable (s : State) (a : Nat) : Bool :=
  match homeOf s a with
  | .cell _ _ _ _ => true
  | .pot _ => true
  | _ => false

def lineOf (a : Nat) : Nat := a / 64 * 64

def l1Find (x : Walker) (a : Nat) : Option (List Code288) := (x.l1.find? (fun e => e.1 == lineOf a)).map (·.2)

/-- The codewords of a line's bytes, the bytes, and whether one is not readable (R203). -/
def l1Line (bs : List Byte) : List Code288 := (chunks 32 bs).map (fun w => encode288 (wordOfBytes w))
def l1Bytes (line : List Code288) : List Byte := line.flatMap (fun c => bytesOfWord (decode288 c).data)
def l1Bad (line : List Code288) : Bool :=
  line.any (fun c => (decode288 c).cls == .poison || (decode288 c).cls == .uncorrectable)

/-- A line becomes the most recently used. (DEDUCED, log 51.) -/
def l1Touch (x : Walker) (a : Nat) : Walker :=
  match x.l1.find? (fun e => e.1 == lineOf a) with
  | some e => { x with l1 := e :: x.l1.filter (fun f => f.1 != e.1) }
  | none => x

/-- A line is filled; the least recently used of its set of 8 ways gives way (R376). (DEDUCED, log 51.) -/
def l1Fill (x : Walker) (a : Nat) (bs : List Byte) : Walker :=
  let rest := x.l1.filter (fun e => e.1 != lineOf a)
  let same := rest.filter (fun e => e.1 / 64 % 64 == lineOf a / 64 % 64)
  let rest' := if same.length < 8 then rest
    else match same.getLast? with
      | some v => rest.filter (fun e => e.1 != v.1)
      | none => rest
  { x with l1 := (lineOf a, l1Line bs) :: rest' }

def l1Drop (x : Walker) (a : Nat) : Walker := { x with l1 := x.l1.filter (fun e => e.1 != lineOf a) }

/-- A store updates the copy of a line that is present (R298). -/
def l1Store (x : Walker) (a : Nat) (bs : List Byte) : Walker :=
  { x with l1 := x.l1.map (fun e =>
      if e.1 = lineOf a then
        let old := l1Bytes e.2
        (e.1, l1Line (old.take (a % 64) ++ bs ++ old.drop (a % 64 + bs.length)))
      else e) }

/-- The whole invalidation of R300 and R301. -/
def l1Invalidate (x : Walker) : Walker := { x with l1 := [], l1Inval := sat64 x.l1Inval 1 }

/-- Every core that ran a tenant has its L1 invalidated (R301). -/
def invalidateTenant (s : State) (t : Nat) : State :=
  { s with walkers := s.walkers.map (fun e => if e.2.ran.contains t then (e.1, l1Invalidate { e.2 with ran := e.2.ran.filter (· != t) }) else e) }

/-! ## Scopes, releases and acquires (R288 to R292, R312) -/

/-- The agents of R280. -/
inductive Agent where
  | core (n : Nat)
  | mover (m : Nat)
  | gsq
  | ssq (st : Nat)
  | svc
  | spa
  | spb
  | host (fn : Nat)
  | peer (node : Nat)
  deriving DecidableEq, Repr

/-- Whether an agent belongs to a compute die: the GSQ to both (R288). -/
def Agent.onDie (d : Nat) : Agent → Bool
  | .core n => n / 32 == d
  | .mover m => m / 16 == d
  | .ssq st => st / 4 == d
  | .gsq => true
  | .svc => d == 0
  | .spa => d == 0
  | .spb => d == 0
  | .host _ => false
  | .peer _ => false

def Agent.isHost : Agent → Bool
  | .host _ => true
  | _ => false

def Agent.isPeer : Agent → Bool
  | .peer _ => true
  | _ => false

/-- Whether the scope with a code, of an order given by `x`, contains `y` (R288). -/
def inScope (scope : Nat) (x y : Agent) : Bool :=
  match scope with
  | 0 => x == y
  | 1 => [0, 1].any (fun d => x.onDie d && y.onDie d)
  | 2 => !y.isHost && !y.isPeer
  | 3 => !y.isHost
  | 4 => true
  | _ => false

/-- Whether the scopes of a release and of the acquire that reads it cover each other's agents, so that they synchronise (R292). Every access
of this model is performed in one order, so a pair that does not cover orders here too. (DESIGN CHOICE, log 143.) -/
def synchronises (relScope : Nat) (releaser : Agent) (acqScope : Nat) (acquirer : Agent) : Bool :=
  inScope relScope releaser acquirer && inScope acqScope acquirer releaser

def countRelease (x : Walker) (ord : Nat) : Walker :=
  if 1 ≤ ordScope ord ∧ 2 ≤ ordSem ord then { x with releases := sat64 x.releases 1 } else x
def countAcquire (x : Walker) (ord : Nat) : Walker :=
  if 1 ≤ ordScope ord ∧ ordSem ord % 2 = 1 then { x with acquires := sat64 x.acquires 1 } else x

/-! ## Reach (R373, R374, R471) -/

inductive WalkKind where
  | plain | burst | chain | add | atomic
  deriving DecidableEq, Repr

/-- Registers of engine control space that a tenant's task may reach: Q_POST, Q_STATUS and Q_TAKEN of movers and cores, and the
pool windows (R471). -/
def tenantRegister (off : Nat) : Bool :=
  match blockOf off with
  | some (e, o) =>
    decide (32 ≤ e) && (o / 8 * 8 == 0x140 || o / 8 * 8 == 0x150 || (decide (0x800 ≤ o) && decide (o < (if e < 64 then 0x8C0 else 0x840))))
  | none => (decide (0x1200000 ≤ off) && decide (off < 0x1201000)) || (decide (0x1202000 ≤ off) && decide (off < 0x12020C0))

/-- Whether an address is a sequencer's Q_POST window: a tenant's burst there that may not be posted is dropped under R339 (R471). -/
def postsToSequencer (a : Nat) : Bool :=
  match postTargetOf a with
  | .seq _ => true
  | _ => false

/-- The code that stops a thread's access, 0 for none (R373, R374). -/
def walkCheck (s : State) (t : Thread) (kind : WalkKind) (write : Bool) (a n : Nat) : Nat :=
  let priv := t.origin.priv
  let ten := t.origin.tenant
  let home := homeOf s a
  let space : Nat := match home with
    | .cell _ _ _ _ => 0
    | .donor _ => 0
    | .hole _ => 0
    | .pot _ => 0
    | .localMem _ => 0
    | .buffer _ => 1
    | .imem _ _ => 2
    | .control _ => 3
    | .nowhere => 4
  if 2 ^ 52 ≤ a ∨ space = 4 then 0x340
  else if (kind = .chain ∨ kind = .add ∨ kind = .atomic) ∧ space ≠ 0 then 0x340
  else if kind = .burst ∧ ¬(space ≤ 1 ∨ (space = 3 ∧ postTargetOf (a / 64 * 64) ≠ .none)) then 0x340
  else if (if space = 0 then taskReach s ten priv write a n
      else priv || (space == 3 && tenantRegister (a - ecsBase)) || (kind == .burst && write && postsToSequencer a)) = false then 0x340
  else if a % n ≠ 0 then 0x341
  else match home with
    | .hole _ => 0x310
    | .donor _ => 0x321
    | _ => 0

/-! ## The address tracker (R286) -/

/-- Whether an access of whole bursts from a to a + n − 1 waits on a tracked range, or on a free entry. -/
def trackerBlocks (x : Walker) (a n : Nat) : Bool :=
  decide (32 ≤ x.tracker.length) ||
  x.tracker.any (fun e => overlaps (lineOf a) (64 * ((a % 64 + n + 63) / 64)) (lineOf e.addr) (64 * ((e.addr % 64 + e.len + 63) / 64)))

/-- Whether stores of the core issued before now await their acknowledgment. -/
def storesOut (x : Walker) : Bool := x.tracker.any (fun e => !e.isLoad)

/-! ## The end of a task (R382 to R384) -/

/-- The record and completion of a thread's task; the thread is free. -/
def endTask (s : State) (n t : Nat) : State :=
  let th := s.thread n t
  let flags := boolNat th.rejected + 2 * boolNat th.abandoned
  let rec16 := entryRecord th.tag th.status (64 + n) flags (s.engine (64 + n)).state.code th.stopPc th.retired
  let s1 := (s.updThread n t (fun _ => {})).updWalker n (fun x => { x with tasks := sat64 x.tasks 1 })
  let s2 := bump s1 0x2022 3 1
  let s3 := if th.crec ∧ recordPlace s2 th.caddr ∧ taskReach s2 th.origin.tenant th.origin.priv true th.caddr 16 then
      (storeBytes s2 (64 + n) th.origin.tenant th.caddr rec16).next
    else s2
  completeEntry s3 th.origin rec16 true

/-- Whether a thread waits on an access of its own in flight, and not on the stores ahead of it. -/
def waitsOnAccess (t : Thread) : Bool :=
  match t.wait with
  | some (.post _ _ _ _) => false
  | some (.fence _ _) => false
  | _ => true

/-- A thread that ends waits for its own accesses in flight, then its task completes. -/
def settleThread (s : State) (n t : Nat) : State :=
  let posting := match (s.thread n t).wait with
    | some (.post _ _ _ _) => true
    | _ => false
  if (s.thread n t).st = .stopping ∧ posting = false ∧ (s.walker n).tracker.all (fun e => e.thread != t) then endTask s n t else s

/-- A thread stops with a code (R383) at the instruction at `pc`: its record in the fault ring with class CONTAINED, in
WK_LASTFAULT, and its end. What it has in flight completes first. (DEDUCED, log 43.) (DEDUCED, log 52.) -/
def stopThreadAt (s : State) (n t code pc : Nat) : State :=
  let th := s.thread n t
  let s1 := s.updThread n t (fun x => { x with st := .stopping, rejected := true, status := code, stopPc := pc % 65536 })
  let s2 := s1.updWalker n (fun x =>
    { x with lastValid := true, lastStatus := code, lastThread := t, lastPc := pc % 65536 })
  let s3 := setTenantFault (setSummary (bump s2 0x2022 2 1) (2 ^ 8)) th.origin.tenant 1
  let s4 := recordFault s3 (faultOf code clsContained kindTenant th.origin.tenant th.origin.tenant
    (pc % 65536 * 2 ^ 32 + th.tag * 2 ^ 16 + (64 + n)))
  settleThread s4 n t

/-- A thread stops at its own instruction, whose access has no further effect. -/
def stopThread (s : State) (n t code : Nat) : State :=
  stopThreadAt (s.updThread n t (fun x => { x with wait := none })) n t code (s.thread n t).pc

/-- Every running thread of a core ends as its in-flight access completes, with ENTRY_ABANDONED (R384). -/
def abandonThreads (s : State) (n : Nat) : State :=
  (List.range 64).foldl (fun s t =>
    let th := s.thread n t
    if th.st = .free ∨ th.st = .stopping then s
    else settleThread (s.updThread n t (fun x =>
      { x with st := .stopping, abandoned := true, status := if x.status = 0 then 0x215 else x.status })) n t) s

/-- Whether every thread of a core is free. -/
def threadsFree (s : State) (n : Nat) : Bool := (s.walker n).threads.all (fun e => e.2.st == .free)

end Sys2Proof.Machine
end

