-- ==== Sys2Proof/Machine/EngineCmds.lean ====
section
/-!
DEFINITION. The commands of ENG_CMD, the end of a drain, and the watchdog of step words (R350 to R357).
-/

namespace Sys2Proof.Machine

def withEngine (s : State) (eng : Nat) (f : Engine → Res) : Res :=
  if isProgrammed eng then f (s.engine eng) else .next s

/-- Agents whose writes of ENG_CMD are taken: the administrative function, SPA, SPB and the SVC (R352). -/
def mayCommand (agent tenant : Nat) : Bool := isAdmin agent tenant || agent == 16

/-- Device states in which RUN_SERVICE, and RUN_NEST, may begin (R349, R352). -/
def devRunsService : DevState → Bool
  | .ready => true
  | .service => true
  | .test => true
  | .recovery => true
  | .fenced => true
  | _ => false

def devRunsNest : DevState → Bool
  | .config => true
  | .ready => true
  | .test => true
  | .recovery => true
  | _ => false

/-- ENG_CMDSTAT after a command: its status, the state, and its CTAG (R359). -/
def noteCmd (s : State) (eng code ctag : Nat) (busy : Bool) : State :=
  s.updEngine eng (fun e =>
    { e with cmdStatus := code, cmdState := e.state.code, cmdTag := ctag % 65536, cmdBusy := busy })

/-- A command written to ENG_CMD: dropped from other agents (R352), ignored while one is in progress, rejected with its code,
or carried out; `busy` tells that it goes on (R353). (DEDUCED, log 47.) -/
def engCommand (s : State) (agent tenant eng ctag code : Nat) (busy : Bool) (act : State) : State :=
  if !(mayCommand agent tenant) then s
  else if (s.engine eng).cmdBusy then cmdState s
  else if code = 0x201 then cmdState (noteCmd s eng code ctag false)
  else if code ≠ 0 then noteCmd s eng code ctag false
  else noteCmd act eng 0 ctag busy

/-! ## COMMIT and SELECT -/

def commitCode (e : Engine) (eng : Nat) (bank : Bool) (len entry : Nat) : Nat :=
  let loading := if bank then e.loadersB else e.loadersA
  if loading ≠ 0 ∨ (bank = e.bank ∧ e.state ≠ .idle ∧ e.state ≠ .faulted) then 0x210
  else if entry % 4 ≠ 0 ∨ 4 * len ≤ entry ∨ bankBytes eng < 4 * len then 0x211
  else 0

def commitBank (e : Engine) (bank : Bool) (len entry : Nat) : Engine :=
  let e1 := if bank then { e with commB := true, lenB := len, entB := entry }
    else { e with commA := true, lenA := len, entA := entry }
  if e1.state = .idle ∧ bank = e1.bank then { e1 with state := .loaded } else e1

/-- COMMIT: a bank is committed with its length and entry point (R319, R351, R352). -/
def execCommit (agent tenant eng : Nat) (bank : Bool) (len entry ctag : Nat) (s : State) : Res :=
  withEngine s eng (fun e =>
    .next (engCommand s agent tenant eng ctag (commitCode e eng bank (len % 65536) (entry % 65536)) false
      (s.updEngine eng (fun e => commitBank e bank (len % 65536) (entry % 65536)))))

/-- LOADED or IDLE by the selected bank's commitment (R350). -/
def restState (e : Engine) : EngState := if e.committed then .loaded else .idle

def selectBank (e : Engine) (bank : Bool) : Engine :=
  let e1 := { e with bank := bank }
  { e1 with state := restState e1 }

/-- SELECT: the bank from which the engine fetches (R351, R352). -/
def execSelect (agent tenant eng : Nat) (bank : Bool) (ctag : Nat) (s : State) : Res :=
  withEngine s eng (fun e =>
    .next (engCommand s agent tenant eng ctag (if e.state = .idle ∨ e.state = .loaded then 0 else 0x201) false
      (s.updEngine eng (fun e => selectBank e bank))))

/-! ## Starting, halting and resuming -/

/-- START_SERVICE: LOADED to RUN_SERVICE (R351, R352). -/
def execStartService (agent tenant eng ctag : Nat) (s : State) : Res :=
  withEngine s eng (fun e =>
    .next (engCommand s agent tenant eng ctag (if e.state = .loaded ∧ devRunsService s.dev then 0 else 0x201) false
      (s.updEngine eng (fun e => { e with state := .runService, stack := [] }))))

/-- START_NEST: LOADED to RUN_NEST, from the selected bank's entry point; on a walker core a reserved encoding (R352). -/
def execStartNest (agent tenant eng ctag : Nat) (s : State) : Res :=
  withEngine s eng (fun e =>
    .next (engCommand s agent tenant eng ctag
      (if !(isSeq eng) then 0x202 else if e.state = .loaded ∧ devRunsNest s.dev then 0 else 0x201) false
      (s.updEngine eng (fun e => { e with state := .runNest, pc := e.entry, stack := [] }))))

/-- ENG_HALT: issue stops at the next word or iteration boundary (R351, R354, R384). -/
def execEngHalt (agent tenant eng ctag : Nat) (s : State) : Res :=
  withEngine s eng (fun e =>
    let ok := (e.state = .runService ∨ e.state = .runNest) ∧ e.drain.isNone
    let now_ := atBoundary e
    .next (engCommand s agent tenant eng ctag (if ok then 0 else 0x201) (!now_)
      (if now_ then s.updEngine eng haltNow else s.updEngine eng (fun e => { e with haltReq := true }))))

/-- ENG_RESUME: HALTED to the state it left, where the device's state allows that one; a wait starts again (R352, R354). -/
def execEngResume (agent tenant eng ctag : Nat) (s : State) : Res :=
  withEngine s eng (fun e =>
    let ok := e.state = .halted ∧ e.drain.isNone ∧ (if e.haltNest then devRunsNest s.dev else devRunsService s.dev) = true
    .next (engCommand s agent tenant eng ctag (if ok then 0 else 0x201) false
      (s.updEngine eng (fun e =>
        { e with
          state := if e.haltNest then .runNest else .runService
          held := e.held.map (fun h => { h with since := s.now }) }))))

/-! ## Stopping -/

/-- Issue ends at once and the engine drains (R355, R384). -/
def stopEngine (s : State) (eng : Nat) (flip : Bool) : State :=
  let s1 := beginStop s eng flip
  if isSeq eng then s1 else abandonThreads s1 (eng - 64)

/-- ENG_STOP: issue ends at once; the command is done when the drain is (R355). -/
def execEngStop (agent tenant eng : Nat) (flip : Bool) (ctag : Nat) (s : State) : Res :=
  withEngine s eng (fun e =>
    .next (engCommand s agent tenant eng ctag (if e.state = .idle then 0x201 else 0) true (stopEngine s eng flip)))

/-- A discarded entry that a ring gave up owes that ring one completion: ENTRY_ABANDONED, without a record at CADDR. (DEDUCED, log 48.) -/
def discardEntry (s : State) (eng : Nat) (q : QEntry) : State :=
  completeEntry s q.origin (entryRecord (u16 q.data 0) 0x215 eng 2 (s.engine eng).state.code 0xFFFFFFFF 0) true

def discardQueue (s : State) (eng : Nat) : State :=
  (s.engine eng).queue.foldl (fun s q => discardEntry s eng q) (s.updEngine eng (fun e => { e with queue := [] }))

/-- CLEARQ: every entry accepted so far is discarded (R355). -/
def execClearq (agent tenant eng ctag : Nat) (s : State) : Res :=
  withEngine s eng (fun e =>
    .next (engCommand s agent tenant eng ctag
      (if e.state = .idle ∨ e.state = .loaded ∨ e.state = .halted ∨ e.state = .faulted then 0 else 0x201) false
      (discardQueue s eng)))

/-- A write of the whole of ENG_CMD, by its OP; reserved operations are rejected with RESERVED_VALUE (R352, R359). (DEDUCED, log 47.) -/
def writeEngCmd (agent tenant eng v : Nat) (s : State) : State :=
  let res : Res := match v / 2 ^ 60 % 16 with
    | 1 => execCommit agent tenant eng (bitOf v 59) (bitsOf v 47 32) (bitsOf v 31 16) (v % 65536) s
    | 2 => execSelect agent tenant eng (bitOf v 59) (v % 65536) s
    | 3 => execStartService agent tenant eng (v % 65536) s
    | 4 => execStartNest agent tenant eng (v % 65536) s
    | 5 => execEngHalt agent tenant eng (v % 65536) s
    | 6 => execEngResume agent tenant eng (v % 65536) s
    | 7 => execEngStop agent tenant eng (bitOf v 58) (v % 65536) s
    | 8 => execClearq agent tenant eng (v % 65536) s
    | _ => .next (engCommand s agent tenant eng (v % 65536) 0x202 false s)
  match res with
  | .next t => t
  | _ => s

/-! ## The end of a drain (R355, R356, R384) -/

/-- Whether every slot of a sequencer, or every thread of a core, has come to its end. -/
def drained (s : State) (eng : Nat) : Bool :=
  if isSeq eng then (s.engine eng).issued.all (·.done) else threadsFree s (eng - 64)

/-- The entry in progress ends with ABANDONED set and a code unless it has one. -/
def abandonCurrent (e : Engine) (code : Nat) : Engine :=
  match e.current with
  | some i =>
    { updRun e i (fun r => { r with status := firstStatus r.status code, abandoned := true, ended := true }) with
      current := none, held := none }
  | none => { e with held := none }

/-- The state that follows a STOP (R351). -/
def stopped (e : Engine) (flip : Bool) : Engine :=
  let e1 := { abandonCurrent e 0x215 with stack := [], nest := none, drain := none, haltReq := false }
  let e2 := { e1 with bank := if flip && e1.otherCommitted then !e1.bank else e1.bank }
  { e2 with state := restState e2 }

/-- The drain's effect when it ends. (DEDUCED, log 49.) -/
def endDrain (s : State) (eng : Nat) (d : Drain) : State :=
  match d with
  | .stop flip =>
    s.updEngine eng (fun e =>
      let e1 := stopped e flip
      { e1 with cmdState := if e1.cmdBusy then e1.state.code else e1.cmdState, cmdBusy := false })
  | .fault code =>
    s.updEngine eng (fun e => { abandonCurrent e code with
      stack := [], nest := none, drain := none, cmdState := if e.cmdBusy then e.state.code else e.cmdState, cmdBusy := false })
  | .recovery => s.updEngine eng (fun e => { abandonCurrent e 0x215 with stack := [], nest := none, drain := none })

/-- ENGINE_DRAIN_END: the unfinished slots of a draining engine have completed. -/
def execEngineDrainEnd (eng : Nat) (s : State) : Res :=
  withEngine s eng (fun e =>
    match e.drain with
    | some d => if drained s eng then .next (endDrain s eng d) else .next s
    | none => .next s)

/-- ENGINE_WATCHDOG: a word stays unissued for longer than ENG_WDOG.LIMIT µs (R357). -/
def execEngineWatchdog (eng : Nat) (s : State) : Res :=
  withSeq s eng (fun e =>
    match e.held with
    | some h =>
      if seqRuns e ∧ e.wdog ≠ 0 ∧ h.since + 1000 * e.wdog < s.now then
        .next (faultEngine s eng 0x217 (if h.inline then 0xFFFFFFFF else h.at_) (stepWord h.units).tag)
      else .next s
    | none => .next s)

end Sys2Proof.Machine
end

