-- ==== Sys2Proof/Machine/WordCode.lean ====
section
/-!
DEFINITION. The commands of The Word Code and Stored-Data Integrity: retirement, the field repair record, the whisk and
checker-test mode.
-/

namespace Sys2Proof.Machine

/-! ## Frame retirement (R234 to R240) -/

/-- Copying one word of F to D's storage: readable words corrected, the rest written as poison (R236 step 2). -/
def migrateWord (s : State) (st F D o : Nat) : State :=
  let x := s.stack st
  let place := physOf x (servedBy x F * frameBytes + o)
  let p := place.1
  let row := place.2.1
  let byte := place.2.2
  let dest := physOf x (D * frameBytes + o)
  let q := dest.1
  let drow := dest.2.1
  let dbyte := dest.2.2
  if rowIsValid x p row then
    let c := copiedWord (rawRead x p row (byte / 32))
    let s1 := storeCell s st q drow (dbyte / 32) c
    if c = poisonWord then bump s1 (0x2220 + st) 3 1 else s1
  else s.setStack st (clearRow x q drow)

/-- All 65,536 words of F copied to D's storage (R236 step 2). (DEDUCED, log 30.) -/
def migrateFrame (s : State) (st F D : Nat) : State := (List.range 65536).foldl (fun (t : State) i => migrateWord t st F D (32 * i)) s

/-- A stack becomes DEGRADED (R239). -/
def degradeStack (s : State) (st : Nat) : State :=
  let s1 := s.updStack st (fun x => { x with degraded := true })
  recordStack (dset (dset s1 0x2200 3 (setBit (dget s1 0x2200 3) st)) 0x1000 0x10 1) 0x327 st 0xFF (st * 2 ^ 37)

/-- The retired count rises by one frame (R236 step 5, R239). -/
def countRetired (s : State) (st : Nat) : State :=
  let n := dget s (0x2220 + st) 5 + 1
  let s1 := dset (dset s (0x2220 + st) 5 n) (0x2220 + st) 6 (dget s (0x2220 + st) 6 - frameBytes)
  let s2 := dset s1 0x2201 1 (dget s1 0x2201 1 + frameBytes)
  let x := s2.stack st
  if 512 * popSegs x < n * 20 ∧ x.degraded = false then degradeStack s2 st else s2

/-- The oldest migration of a stack ends, once no sequence computes in the rows of F: F is copied, the remap table receives (F, D), the
counts change, the entry goes to the field repair record and the waiting accesses are released (R236, R239, R240). -/
def retireFrame (s : State) (st F D : Nat) (rest : List (Nat × Nat)) : State :=
  let s1 := migrateFrame s st F D
  let x := s1.stack st
  let s2 := s1.setStack st { x with migrating := rest, remap := x.remap ++ [(F, D, bitOf x.segMode (F / 512))] }
  let s3 := queueRepair (countRetired s2 st) (3 * 2 ^ 61 + st * 2 ^ 58 + F * 65536 + D)
  releaseHeld (recordStack s3 0x326 st 0xFF (st * 2 ^ 37 + F * frameBytes)) st

/-- RETIRE_PENDING_DONOR: the oldest frame that waits for a donor starts its retirement when one is free and the remap table has room
(R237, R238). -/
def execRetirePendingDonor (st : Nat) (s : State) : Res :=
  let x := s.stack st
  match x.awaiting with
  | [] => .next s
  | F :: rest =>
    if remapFull x then .next (s.setStack st { x with retireFull := true })
    else match chooseDonor s st F with
      | none => .next s
      | some d => .next (dset (beginMigration (s.setStack st { x with awaiting := rest }) st F d)
          (0x2220 + st) 0xA (dget s (0x2220 + st) 0xA - 1))

/-! ## The field repair record (R241, R242) -/

/-- What a page of the record holds before its signature: 503 entries, unused ones all ones, and 8 B of ones to fill the page.
(DESIGN CHOICE, log 133.) -/
def repairPage (record : List Nat) (page : Nat) : List Byte :=
  let es := (record.drop (503 * page)).take 503
  es.flatMap (natLE 8) ++ List.replicate (8 * (504 - es.length)) 0xFF

/-- The signature of a page with the device identity key, over the SHA-512 of its contents (R241). -/
def signPage (record : List Nat) (page : Nat) : List Byte :=
  Config.ed25519Sign Config.identityPrivate (Config.sha512 (repairPage record page))

/-- Whether a page's signature holds (R242). -/
def pageHolds (record : List Nat) (sigs : Map (List Byte)) (page : Nat) : Bool :=
  Config.ed25519Verify Config.identityPublic (Config.sha512 (repairPage record page)) (mapGet [] sigs page)

/-- FIELD_REPAIR_WRITE: the oldest entry that waits is written to the field repair record, and its page is signed anew (R241, R242). Once
the record's 16 pages of 503 entries are full, an entry is dropped. (DESIGN CHOICE, log 133.) -/
def execFieldRepairWrite (s : State) : Res :=
  match s.repairQueue with
  | [] => .next s
  | e :: rest =>
    let n := s.repairRecord.length
    if n < 16 * 503 then
      let r := s.repairRecord ++ [e.1]
      .next { s with repairQueue := rest, repairRecord := r, repairSigs := mapSet [] s.repairSigs (n / 503) (signPage r (n / 503)) }
    else .next { s with repairQueue := rest }

/-! ## The whisk (R224 to R228) -/

/-- Rows the whisk skips: unwritten rows, rows of retired frames and of TEST frames (R226). -/
def whiskSkips (x : Stack) (p row : Nat) : Bool :=
  !(rowIsValid x p row) || inTest x p row ||
  (match offsetOfRow x p row with
    | some o => x.remap.any (fun e => e.1 == o / frameBytes)
    | none => false)

/-- Reading, correcting and poisoning all 64 words of a row (R224). -/
def whiskWords (s : State) (st p row : Nat) : Nat → State
  | 0 => s
  | n + 1 =>
    let w := 63 - n
    let addr := match offsetOfRow (s.stack st) p row with
      | some o => st * 2 ^ 37 + o + 32 * w
      | none => st * 2 ^ 37
    whiskWords (loadCell s st p row w 0xFF addr 0xFF).next st p row n

/-- The next row of a bank from `row` that is not skipped; 20,480 when the lap has none left in this bank. (DEDUCED, log 32.) -/
def whiskNext (x : Stack) (p row : Nat) : Nat → Nat
  | 0 => 20480
  | n + 1 => if 20480 ≤ row then 20480 else if whiskSkips x p row then whiskNext x p (row + 1) n else row

/-- The lap's end: its duration is recorded and the next lap begins (R226). -/
def whiskLapEnd (s : State) (st : Nat) : State :=
  let x := s.stack st
  let ms := (s.now - x.whiskStart) / 1000000
  dset (s.setStack st { x with whiskRow := [], whiskBanksDone := 0, whiskStart := s.now, whiskLast := ms % 2 ^ 32, whiskSlow := false })
    (0x2220 + st) 7 (ms % 2 ^ 32)

/-- One part of 2 KiB of a stockpot scrubbed through its own port, and the lap recorded at its end (R224, R248). -/
def whiskPot (s : State) (die : Nat) : State :=
  let pos := mapGet 0 s.potWhiskPos die
  let base := (if die = 0 then potWest else potEast) + 2048 * pos
  let s1 := (loadWords s 0xFF 0xFF base 64).next
  if pos + 1 < potBytes / 2048 then { s1 with potWhiskPos := mapSet 0 s1.potWhiskPos die (pos + 1) }
  else
    let ms := (s1.now - mapGet 0 s1.potWhiskStart die) / 1000000 % 2 ^ 32
    let s2 : State := { s1 with
      potWhiskPos := mapSet 0 s1.potWhiskPos die 0,
      potWhiskStart := mapSet 0 s1.potWhiskStart die s1.now,
      potWhiskLast := mapSet 0 s1.potWhiskLast die ms }
    dset s2 0x2201 4 (max (mapGet 0 s2.potWhiskLast 0) (mapGet 0 s2.potWhiskLast 1))

/-- Whether a held access waits for a bank (R224). -/
def accessWaits (s : State) (st p : Nat) : Bool :=
  (s.stack st).heldAccess.any (fun h => match homeOf s h.addr with
    | .cell k q _ _ => k == st && q == p
    | _ => false)

/-- WHISK_ROW: the whisk reads and scrubs the next row of an idle bank (R224 to R228). `hits` are cells of that row that
have changed, keyed by their word of the row. It starts nothing while WhiskEnable is FALSE, while the bank is busy or was
accessed in the last 256 ns, or within WhiskRowInterval of its previous row operation. Units 8 and 9 are the stockpots of
the west and the east die. (DEDUCED, log 32.) -/
def execWhiskRow (st bank : Nat) (hits : ErrorList) (s : State) : Res :=
  if st < 8 ∧ bank < 2048 then
    let x := s.stack st
    if !(dbool s 0x2201 2) || sequenceRuns s st bank || accessWaits s st bank || (mapGet 0 x.lastAccess bank != 0 && decide (s.now < mapGet 0 x.lastAccess bank + 256))
        || (mapGet 0 x.lastWhisk bank != 0 && decide (s.now < mapGet 0 x.lastWhisk bank + dget s 0x2201 3 * 1000)) then .next s
    else
      let row := whiskNext x bank (mapGet 0 x.whiskRow bank) 20481
      if 20480 ≤ row then
        -- this bank's part of the lap is complete
        let done := (x.whiskBanksDone ||| 2 ^ bank)
        let s1 := s.setStack st { x with whiskRow := mapSet 0 x.whiskRow bank 20480, whiskBanksDone := done }
        if done = 2 ^ 2048 - 1 then .next (whiskLapEnd s1 st) else .next s1
      else
        let x1 := hits.foldl (fun (y : Stack) h =>
          rawWrite y bank row (h.1 % 64) (symXor (rawRead y bank row (h.1 % 64)) (h.2.1 % 36) (h.2.2 % 256))) x
        let s1 := s.setStack st { x1 with whiskRow := mapSet 0 x1.whiskRow bank (row + 1), lastWhisk := mapSet 0 x1.lastWhisk bank s.now }
        .next (whiskWords s1 st bank row 64)
  else if st = 8 ∨ st = 9 then
    if dbool s 0x2201 2 then .next (whiskPot s (st - 8)) else .next s
  else .next s

/-- WHISK_SLOW: the current lap has run past LapLimit; recorded once per lap (R227). -/
def execWhiskSlow (st : Nat) (s : State) : Res :=
  if st < 8 then
    let x := s.stack st
    if x.whiskSlow = false ∧ dget s (0x2220 + st) 9 < (s.now - x.whiskStart) / 1000000 then
      .next (recordStack (s.setStack st { x with whiskSlow := true }) 0x328 st 0xFF (st * 2 ^ 37))
    else .next s
  else .next s

/-! ## Checker-test mode (R243 to R247) -/

/-- Who may write the checker-test registers: the administrative function (0xF0, tenant 0) and the service cores
(0xF2, 0xF3) (R247). -/
def mayTest (agent tenant : Nat) : Bool := (agent == 0xF0 && tenant == 0) || agent == 0xF2 || agent == 0xF3

/-- FRAME_ENTER_TEST: WC_TFRAME written with ENTER_TEST (R243). A frame that is not free, or beyond the 8 allowed, is
refused in WC_TRES; otherwise its zero codewords begin to be written. -/
def execFrameEnterTest (agent tenant st frame : Nat) (s : State) : Res :=
  if !(decide (st < 8) && mayTest agent tenant) then .next s
  else
    let f := frame % 65536
    let x : Stack := { s.stack st with tframe := f }
    let room := inTestBar x f || decide (x.testFrames.length + x.testEntering.length < 8)
    if frameFree s st f && room then
      .next (s.setStack st { x with testEntering := x.testEntering.filter (· != f) ++ [f], testFrames := x.testFrames.filter (· != f) })
    else .next (s.setStack st { x with tresClass := 7, tresPos := 0, tresValue := 0, tresDone := true })

/-- Writing the zero codeword, which is 0, to every word of a frame and setting its valid bits (R243). -/
def zeroFrame (x : Stack) (f : Nat) : Stack :=
  (List.range 1024).foldl (fun (y : Stack) i =>
    let place := physOf y (f * frameBytes + 2048 * i)
    let p := place.1
    let row := place.2.1
    (List.range 64).foldl (fun (z : Stack) w => rawWrite z p row w 0)
      { y with rowValid := mapSet false y.rowValid (rowKey p row) true }) x

/-- FRAME_TEST_ENTERED: the oldest frame being zeroised is in TEST (R243). -/
def execFrameTestEntered (st : Nat) (s : State) : Res :=
  let x := s.stack st
  match x.testEntering with
  | [] => .next s
  | f :: rest => .next (s.setStack st { zeroFrame x f with testEntering := rest, testFrames := x.testFrames ++ [f] })

/-- Clearing the valid bits of a frame. -/
def clearFrame (x : Stack) (f : Nat) : Stack :=
  (List.range 1024).foldl (fun (y : Stack) i =>
    let place := physOf y (f * frameBytes + 2048 * i)
    clearRow y place.1 place.2.1) x

/-- A frame leaves TEST: its valid bits are cleared (R246). -/
def leaveTestFrame (x : Stack) (f : Nat) : Stack :=
  if x.testFrames.contains f then { clearFrame x f with testFrames := x.testFrames.filter (· != f) } else x

/-- FRAME_LEAVE_TEST: WC_TFRAME written with LEAVE_TEST (R246). -/
def execFrameLeaveTest (agent tenant st frame : Nat) (s : State) : Res :=
  if !(decide (st < 8) && mayTest agent tenant) then .next s
  else .next (s.setStack st { leaveTestFrame (s.stack st) (frame % 65536) with tframe := frame % 65536 })

/-- The stack, bank, row and word that WC_TADDR of stack st names, when it is a word of a TEST frame of any stack (R245). -/
def testWord (s : State) (st : Nat) : Option (Nat × Nat × Nat × Nat) :=
  match homeOf s (s.stack st).taddr with
  | .cell k p row w => if inTest (s.stack k) p row then some (k, p, row, w) else none
  | _ => none

/-- A raw operation on a word outside a TEST frame: REFUSED (R245, R247). -/
def rawRefused (x : Stack) : Stack := { x with tresClass := 7, tresPos := 0, tresValue := 0, tsyn := 0, tresDone := true }

/-- A raw result is recorded in the block of the stack that holds the frame (R244). -/
def recordRaw (s : State) (k cls pos value syn : Nat) : State := s.updStack k (fun x => recordTest x true cls pos value syn)

/-- The stored codeword that a raw operation meets: an unwritten row holds zero codewords, and none of its stored bits are shown (R223). -/
def testStored (x : Stack) (p row w : Nat) : Code288 := if rowIsValid x p row then rawRead x p row w else 0

/-- A raw write: `mk` forms the new codeword from the registers of the block and the stored one; the result's class is recorded (R244,
R245). -/
def rawTestWrite (agent tenant st : Nat) (mk : Stack → Code288 → Code288) (s : State) : Res :=
  if !(decide (st < 8) && mayTest agent tenant) then .next s
  else
    match testWord s st with
    | none => .next (s.updStack st rawRefused)
    | some (k, p, row, w) =>
      let c := mk (s.stack st) (testStored (s.stack k) p row w)
      let d := decode288 c
      .next (recordRaw (s.updStack k (fun x => rawWrite (openRow x p row) p row w c)) k (classCode d.cls) d.pos d.value (synWord c))

def checkMask : Code288 := BitVec.ofNat 288 (0xFFFFFFFF * 2 ^ 256)

/-- WRDATA: WC_TDATA becomes the data bits, the stored check bits are kept (R245). -/
def execWrdata (agent tenant st : Nat) (s : State) : Res :=
  rawTestWrite agent tenant st (fun x c => (c &&& checkMask) ||| x.tdata.zeroExtend 288) s

/-- WRCHK: WC_TCHK becomes the check bits, the stored data bits are kept (R245). -/
def execWrchk (agent tenant st : Nat) (s : State) : Res :=
  rawTestWrite agent tenant st (fun x c => (dataOf c).zeroExtend 288 ||| (x.tchk.zeroExtend 288 <<< 256)) s

/-- WRBOTH: both (R245, R247). -/
def execWrboth (agent tenant st : Nat) (s : State) : Res :=
  rawTestWrite agent tenant st (fun x _ => x.tdata.zeroExtend 288 ||| (x.tchk.zeroExtend 288 <<< 256)) s

/-- A raw read: the registers take the raw bits, or the corrected data (R245). An unwritten row reports UNWRITTEN. -/
def rawTestRead (agent tenant st : Nat) (decoded : Bool) (s : State) : Res :=
  if !(decide (st < 8) && mayTest agent tenant) then .next s
  else
    match testWord s st with
    | none => .next (s.updStack st rawRefused)
    | some (k, p, row, w) =>
      let c := testStored (s.stack k) p row w
      let d := decode288 c
      let s1 := s.updStack st (fun x =>
        if decoded then { x with tdata := d.data } else { x with tdata := dataOf c, tchk := (c >>> 256).truncate 32 })
      .next (if rowIsValid (s.stack k) p row then recordRaw s1 k (classCode d.cls) d.pos d.value (synWord c) else recordRaw s1 k 4 0 0 0)

/-- RDRAW: raw bits into WC_TDATA and WC_TCHK (R247). -/
def execRdraw (agent tenant st : Nat) (s : State) : Res := rawTestRead agent tenant st false s

/-- RDDEC: corrected data into WC_TDATA (R247). -/
def execRddec (agent tenant st : Nat) (s : State) : Res := rawTestRead agent tenant st true s

end Sys2Proof.Machine
end

