-- ==== Sys2Proof/Machine/RegCmds.lean ====
section
/-!
DEFINITION. A whole register write of engine control space, with the registers that start a command (R751).
-/

namespace Sys2Proof.Machine

/-- The state of a meaning that goes on; the state before a command that no sender can give. -/
def afterRes (s : State) : Res → State
  | .next t => t
  | _ => s

/-- A reserved command of WC_TFRAME or WC_TCMD does nothing and reports REFUSED, as the registers report what they turn away (R10,
R247). (DESIGN CHOICE, log 142.) -/
def refuseTest (s : State) (agent tenant st : Nat) : State := if mayTest agent tenant then s.setStack st (rawRefused (s.stack st)) else s

/-- WC_TFRAME written whole (R243, R246, R247). -/
def writeTframe (s : State) (agent tenant st v : Nat) : State :=
  match v / 2 ^ 62 % 4 with
  | 1 => afterRes s (execFrameEnterTest agent tenant st (v % 65536) s)
  | 2 => afterRes s (execFrameLeaveTest agent tenant st (v % 65536) s)
  | 0 => if mayTest agent tenant then s.updStack st (fun x => { x with tframe := v % 65536 }) else s
  | _ => refuseTest s agent tenant st

/-- WC_TCMD written whole, by its OP (R245, R247). -/
def writeTcmd (s : State) (agent tenant st v : Nat) : State :=
  match v % 8 with
  | 0 => s
  | 1 => afterRes s (execWrdata agent tenant st s)
  | 2 => afterRes s (execWrchk agent tenant st s)
  | 3 => afterRes s (execWrboth agent tenant st s)
  | 4 => afterRes s (execRdraw agent tenant st s)
  | 5 => afterRes s (execRddec agent tenant st s)
  | _ => refuseTest s agent tenant st

/-- A register at an offset starts its command with the value written. -/
def startCommand (s : State) (agent tenant off v : Nat) : State :=
  match blockOf off with
  | some (e, o) =>
    if o / 8 * 8 = 0x108 then writeEngCmd agent tenant e v s
    else if o / 8 * 8 = 0x2100 then writeTframe s agent tenant (e - 1) v
    else writeTcmd s agent tenant (e - 1) v
  | none => s

/-- STK_RPR_DATA's bank, where an offset is that register. -/
def repairReg (off : Nat) : Option Nat :=
  match blockOf off with
  | some (e, o) => if 1 ≤ e ∧ e ≤ 8 ∧ o = 0x2004 then some (e - 1) else none
  | none => none

/-- One unit of a write of `bs` at `off`: part of a post window, of a register that starts a command, of STK_RPR_DATA, whose write is a
row of its own, or of another register (R138, R339, R751). -/
def writeUnit (agent tenant off : Nat) (bs : List Byte) (s : State) (e : Nat × Nat × Nat) : State :=
  let u := e.1
  let first (b : Nat) : Bool := u == max b (off / 4 * 4)
  match badPostAt s u with
  | some s' =>
    if first (u / 64 * 64) then
      (if bs.length = 64 ∧ off % 64 = 0 then (postBurst s (agent * 64) { poster := agent, tenant := tenant, priv := agent != 0xF0 } off bs).2 else s')
    else s
  | none =>
    match commandReg u with
    | some n =>
      let b := u / n * n
      if !(first b) then s
      else if naturalAccess off bs.length && decide (off ≤ b) && decide (b + n ≤ off + bs.length) then
        startCommand s agent tenant b (leNat ((bs.drop (b - off)).take n))
      else cmdState s
    | none =>
      match repairReg u with
      | some st => afterRes s (execStkRprDataWrite st (repairSel (s.stack st) - (repairSel (s.stack st) &&& e.2.1) + e.2.2) s)
      | none => putUnit s agent tenant u e.2.1 e.2.2

/-- A write of `bs` to engine control space by an agent on behalf of a tenant. -/
def regWrite (s : State) (agent tenant off : Nat) (bs : List Byte) : State :=
  (writeUnits off bs).foldl (writeUnit agent tenant off bs) s

end Sys2Proof.Machine
end

