-- ==== Sys2Proof/Machine/Walkers.lean ====
section
/-!
DEFINITION. The walkers' instructions, their data returns and store acknowledgments, and their tasks (R286 to R304, R362 to
R384).
-/

namespace Sys2Proof.Machine

/-! ## Issue (R363, R372, R383) -/

/-- The instruction of 4 bytes at an offset of the selected bank. -/
def fetchInstr (s : State) (eng off : Nat) : Nat × Bool × State :=
  let (lo, p, s1) := fetchUnit s eng (off / 4 * 4)
  if off % 4 = 0 then (lo, p, s1)
  else
    let (hi, q, s2) := fetchUnit s1 eng (off / 4 * 4 + 4)
    ((lo + hi * 2 ^ 32) / 2 ^ (8 * (off % 4)) % 2 ^ 32, p || q, s2)

/-- A poisoned fetch places the whole core in FAULTED (R321, R383, R384). -/
def poisonedFetch (s : State) (n t : Nat) : State :=
  let s1 := s.updEngine (64 + n) (fun e => if e.bank then { e with commB := false } else { e with commA := false })
  abandonThreads (faultEngine s1 (64 + n) 0x320 (s.thread n t).pc (s.thread n t).tag) n

/-- An instruction of a ready thread: `f` acts on the fetched word; none where it waits for the address tracker. -/
def walkerOp (s : State) (n t : Nat) (op : WalkOp) (f : Nat → Thread → State → Option State) : Res :=
  if n < 64 ∧ t < 64 then
    let e := s.engine (64 + n)
    let th := s.thread n t
    if e.state = .runService ∧ e.drain.isNone ∧ th.st = .ready then
      if e.len < th.pc + 4 then .next (stopThread s n t 0x218)
      else
        let (w, p, s1) := fetchInstr s (64 + n) th.pc
        let s2 := s1.updWalker n (fun x => { x with issued := sat64 x.issued 1 })
        if p then .next (poisonedFetch s1 n t)
        else match walkOp w with
          | none => .next (stopThread s2 n t 0x202)
          | some o =>
            if o = op then
              match f w th s2 with
              | some s3 => .next s3
              | none => .next s
            else .next s
    else .next s
  else .next s

/-- A ready thread of a running core issues the instruction word `w`, an `op`; `s2` is the state after the fetch. -/
def Issues (s : State) (n t : Nat) (op : WalkOp) (w : Nat) (s2 : State) : Prop :=
  n < 64 ∧ t < 64 ∧ (s.engine (64 + n)).state = .runService ∧ (s.engine (64 + n)).drain.isNone = true ∧ (s.thread n t).st = .ready ∧
    (s.thread n t).pc + 4 ≤ (s.engine (64 + n)).len ∧ walkOp w = some op ∧
    ∃ s1, fetchInstr s (64 + n) (s.thread n t).pc = (w, false, s1) ∧
      s2 = s1.updWalker n (fun x => { x with issued := sat64 x.issued 1 })

/-- An instruction that ends at once: its effect on the thread, and the next offset. -/
def retireTo (s : State) (n t : Nat) (pc : Nat) (g : Thread → Thread) : State :=
  s.updThread n t (fun x => { g x with pc := pc, retired := x.retired + 1 })

def retireNext (s : State) (n t : Nat) (g : Thread → Thread) : State := retireTo s n t ((s.thread n t).pc + 4) g

/-! ## ALU (R367 to R369) -/

def m64 : Nat := 2 ^ 64

def sgn (v : Nat) : Int := signExt 64 v

/-- An ALU instruction with operands RA and RB. -/
def aluOp (s : State) (n t : Nat) (op : WalkOp) (f : Nat → Nat → Nat) : Res :=
  walkerOp s n t op (fun w th s =>
    some (retireNext s n t (fun x => x.setReg (wRd w) (f (th.reg (wRa w)) (th.reg (wRb w))))))

/-- An instruction with RA and the immediate. -/
def immOp (s : State) (n t : Nat) (op : WalkOp) (f : Nat → Nat → Nat) : Res :=
  walkerOp s n t op (fun w th s =>
    some (retireNext s n t (fun x => x.setReg (wRd w) (f (th.reg (wRa w)) (wImm w)))))

/-- Arithmetic shift right of a 64-bit value. -/
def sarOf (a k : Nat) : Nat := wrap 64 (sgn a / (2 ^ k : Nat))

def execAluAdd (core thread : Nat) (s : State) : Res := aluOp s core thread .add (fun a b => a + b)
def execAluSub (core thread : Nat) (s : State) : Res := aluOp s core thread .sub (fun a b => a + m64 - b)
def execAluAnd (core thread : Nat) (s : State) : Res := aluOp s core thread .and (fun a b => a &&& b)
def execAluOr (core thread : Nat) (s : State) : Res := aluOp s core thread .or (fun a b => a ||| b)
def execAluXor (core thread : Nat) (s : State) : Res := aluOp s core thread .xor (fun a b => a ^^^ b)
def execShl (core thread : Nat) (s : State) : Res := aluOp s core thread .shl (fun a b => a * 2 ^ (b % 64))
def execShr (core thread : Nat) (s : State) : Res := aluOp s core thread .shr (fun a b => a / 2 ^ (b % 64))
def execSar (core thread : Nat) (s : State) : Res := aluOp s core thread .sar (fun a b => sarOf a (b % 64))
def execMul (core thread : Nat) (s : State) : Res := aluOp s core thread .mul (fun a b => a * b)
def execMulhu (core thread : Nat) (s : State) : Res := aluOp s core thread .mulhu (fun a b => a * b / m64)
def execMinu (core thread : Nat) (s : State) : Res := aluOp s core thread .minu min
def execMaxu (core thread : Nat) (s : State) : Res := aluOp s core thread .maxu max
def execMins (core thread : Nat) (s : State) : Res := aluOp s core thread .mins (fun a b => if sgn a ≤ sgn b then a else b)
def execMaxs (core thread : Nat) (s : State) : Res := aluOp s core thread .maxs (fun a b => if sgn a ≤ sgn b then b else a)
def execSltu (core thread : Nat) (s : State) : Res := aluOp s core thread .sltu (fun a b => boolNat (decide (a < b)))
def execSlt (core thread : Nat) (s : State) : Res := aluOp s core thread .slt (fun a b => boolNat (decide (sgn a < sgn b)))

/-- The ordered key of an FP32 value (R368). -/
def fordKey (v : Nat) : Nat := let x := v % 2 ^ 32; if bitOf x 31 then 2 ^ 32 - 1 - x else x + 2 ^ 31

def popcount (v : Nat) : Nat := ((List.range 64).filter (bitOf v)).length

/-- Leading zeros of a 64-bit value; 64 for 0. -/
def leadingZeros (v : Nat) : Nat := 64 - ((List.range 64).map (fun i => if bitOf v i then i + 1 else 0)).foldl max 0

/-- HASH (R369). -/
def hashMix (a b : Nat) : Nat :=
  let t0 := a ^^^ (b * 2 ^ 29 % m64 + b / 2 ^ 35)
  let t1 := (t0 ^^^ t0 / 2 ^ 30) * 0xBF58476D1CE4E5B9 % m64
  let t2 := (t1 ^^^ t1 / 2 ^ 27) * 0x94D049BB133111EB % m64
  t2 ^^^ t2 / 2 ^ 31

def execFord (core thread : Nat) (s : State) : Res := aluOp s core thread .ford (fun a _ => fordKey a)
def execPopc (core thread : Nat) (s : State) : Res := aluOp s core thread .popc (fun a _ => popcount a)
def execClz (core thread : Nat) (s : State) : Res := aluOp s core thread .clz (fun a _ => leadingZeros a)
def execHash (core thread : Nat) (s : State) : Res := aluOp s core thread .hash hashMix

def execAddi (core thread : Nat) (s : State) : Res := immOp s core thread .addi (fun a i => wrap 64 ((a : Int) + signExt 16 i))
def execAndi (core thread : Nat) (s : State) : Res := immOp s core thread .andi (fun a i => a &&& i)
def execOri (core thread : Nat) (s : State) : Res := immOp s core thread .ori (fun a i => a ||| i)
def execXori (core thread : Nat) (s : State) : Res := immOp s core thread .xori (fun a i => a ^^^ i)
def execShli (core thread : Nat) (s : State) : Res := immOp s core thread .shli (fun a i => a * 2 ^ i)
def execShri (core thread : Nat) (s : State) : Res := immOp s core thread .shri (fun a i => a / 2 ^ i)
def execSari (core thread : Nat) (s : State) : Res := immOp s core thread .sari (fun a i => sarOf a i)

/-- MOVK: one quarter of RD replaced (R367). -/
def execMovk (core thread : Nat) (s : State) : Res :=
  walkerOp s core thread .movk (fun w th s =>
    let h := 16 * (wRa w % 4)
    let old := th.reg (wRd w)
    some (retireNext s core thread (fun x => x.setReg (wRd w) (old - bitsOf old (h + 15) h * 2 ^ h + wImm w * 2 ^ h))))

/-! ## Branches, MFS and TEXIT (R367) -/

/-- A compare and branch of the B form. -/
def branchOp (s : State) (n t : Nat) (op : WalkOp) (p : Nat → Nat → Bool) : Res :=
  walkerOp s n t op (fun w th s =>
    let taken := p (th.reg (wRd w)) (th.reg (wRa w))
    some (retireTo s n t (if taken then wrap 64 ((th.pc : Int) + 4 * signExt 16 (wImm w)) else th.pc + 4) id))

def execBeq (core thread : Nat) (s : State) : Res := branchOp s core thread .beq (fun a b => a == b)
def execBne (core thread : Nat) (s : State) : Res := branchOp s core thread .bne (fun a b => a != b)
def execBlt (core thread : Nat) (s : State) : Res := branchOp s core thread .blt (fun a b => decide (sgn a < sgn b))
def execBge (core thread : Nat) (s : State) : Res := branchOp s core thread .bge (fun a b => decide (sgn b ≤ sgn a))
def execBltu (core thread : Nat) (s : State) : Res := branchOp s core thread .bltu (fun a b => decide (a < b))
def execBgeu (core thread : Nat) (s : State) : Res := branchOp s core thread .bgeu (fun a b => decide (b ≤ a))

/-- JAL. -/
def execJal (core thread : Nat) (s : State) : Res :=
  walkerOp s core thread .jal (fun w th s =>
    some (retireTo s core thread (wrap 64 ((th.pc : Int) + 4 * signExt 21 (w % 2 ^ 21))) (fun x => x.setReg (wRd w) (th.pc + 4))))

/-- JALR. -/
def execJalr (core thread : Nat) (s : State) : Res :=
  walkerOp s core thread .jalr (fun w th s =>
    some (retireTo s core thread (wrap 64 ((th.reg (wRa w) : Int) + signExt 16 (wImm w))) (fun x => x.setReg (wRd w) (th.pc + 4))))

/-- The special value of an MFS selector; core cycles are counted at 1.05 GHz. -/
def specialValue (s : State) (n t : Nat) (th : Thread) : Nat → Nat
  | 0 => t
  | 1 => n
  | 2 => th.origin.tenant
  | 3 => th.tag
  | 4 => s.now * 21 / 20
  | 5 => s.ptp
  | _ => localBase + n * 0x40000

def execMfs (core thread : Nat) (s : State) : Res :=
  walkerOp s core thread .mfs (fun w th s =>
    some (retireNext s core thread (fun x => x.setReg (wRd w) (specialValue s core thread th (wImm w)))))

/-- TEXIT: the task ends with RA[15:0] when its accesses have completed (R382). -/
def execTexit (core thread : Nat) (s : State) : Res :=
  walkerOp s core thread .texit (fun w th s =>
    some (settleThread (s.updThread core thread (fun x =>
      { x with st := .stopping, retired := x.retired + 1, status := th.reg (wRa w) % 65536 })) core thread))

/-! ## Memory accesses (R286, R298, R370 to R376) -/

/-- The thread stops on an access it may not make; an access to a hole is counted (R110). -/
def stopAccess (s : State) (n t code a : Nat) : State :=
  stopThread (if code = 0x310 then holeAccess s (a / 2 ^ 37) else s) n t code

/-- The thread waits on an access; its range enters the address tracker. -/
def waitOn (s : State) (n t : Nat) (wt : Wait) (a len : Nat) (isLoad : Bool) : State :=
  let pc := (s.thread n t).pc
  (s.updThread n t (fun x => { x with st := .waiting, wait := some wt })).updWalker n (fun x =>
    { x with tracker := x.tracker ++ [{ thread := t, addr := a, len := len, pc := pc, isLoad := isLoad }] })

/-- An access that waits for its data: checked, held back by the tracker, or issued. (DESIGN CHOICE, log 50.) -/
def issueLoad (s : State) (n t : Nat) (kind : WalkKind) (write : Bool) (wt : Wait) (a len : Nat) : Option State :=
  let c := walkCheck s (s.thread n t) kind write a len
  if c ≠ 0 then some (stopAccess s n t c a)
  else if trackerBlocks (s.walker n) a len then none
  else some (waitOn s n t wt a len true)

/-- A store that leaves its thread ready (R363): its bytes wait in the tracker for their home. A FENCE before it made it a
release (R294). (DESIGN CHOICE, log 50.) -/
def issueStore (s : State) (n t : Nat) (kind : WalkKind) (a : Nat) (bs : List Byte) (add : Option Nat) : Option State :=
  let th := s.thread n t
  let c := walkCheck s th kind true a bs.length
  if c ≠ 0 then some (stopAccess s n t c a)
  else if trackerBlocks (s.walker n) a bs.length then none
  else
    some ((retireNext s n t (fun x => { x with fence := none })).updWalker n (fun x =>
      { x with tracker := x.tracker ++ [{ thread := t, addr := a, len := bs.length, pc := th.pc, data := some bs, add := add, rel := th.fence }] }))

/-- The address of an M-form access. -/
def mAddr (th : Thread) (w : Nat) : Nat := wrap 64 ((th.reg (wRa w) : Int) + signExt 13 w)
def mSize (w : Nat) : Nat := 2 ^ bitsOf w 15 14

/-- LD. -/
def execLd (core thread : Nat) (s : State) : Res :=
  walkerOp s core thread .ld (fun w th s =>
    issueLoad s core thread .plain false (.load (wRd w) (mAddr th w) (mSize w) (bitOf w 13) none) (mAddr th w) (mSize w))

/-- ST. -/
def execSt (core thread : Nat) (s : State) : Res :=
  walkerOp s core thread .st (fun w th s => issueStore s core thread .plain (mAddr th w) (natLE (mSize w) (th.reg (wRd w))) none)

/-- LDB. -/
def execLdb (core thread : Nat) (s : State) : Res :=
  walkerOp s core thread .ldb (fun w th s =>
    issueLoad s core thread .burst false (.burst (wRd w) (mAddr th w)) (mAddr th w) 64)

/-- STB. -/
def execStb (core thread : Nat) (s : State) : Res :=
  walkerOp s core thread .stb (fun w th s => issueStore s core thread .burst (mAddr th w) (th.burst (wRd w)) none)

/-- LDCH: the walk begins at RA; an empty chain gives 0 at once (R370). -/
def execLdch (core thread : Nat) (s : State) : Res :=
  walkerOp s core thread .ldch (fun w th s =>
    let p := th.reg (wRa w)
    if p = 0 then some (retireNext s core thread (fun x => x.setReg (wRd w) 0))
    else issueLoad s core thread .chain false
      (.chain (wRd w) p (th.reg (wRb w)) (bitsOf w 10 8) (bitsOf w 7 5) (w % 32)) p 64)

/-- Whether the home of an address has a memory-side adder: the stacks do (R126). -/
def hasAdder (s : State) (a : Nat) : Bool :=
  match homeOf s a with
  | .cell _ _ _ _ => true
  | _ => false

/-- WADD: a memory-side add; lines of its burst leave the L1 (R300, R371). One aimed at the stockpot or a local memory, where
no adder is, is rejected. -/
def execWadd (core thread : Nat) (s : State) : Res :=
  walkerOp s core thread .wadd (fun w th s =>
    let a := th.reg (wRa w)
    let c := walkCheck s th .add true a 64
    if c = 0 ∧ hasAdder s a = false then some (stopThread s core thread 0x311)
    else
      let s1 := s.updWalker core (fun x => l1Drop x a)
      if bitOf w 12 then issueLoad s1 core thread .add true (.add (wRd w) a (bitsOf w 15 13) (th.burst (wRd w))) a 64
      else issueStore s1 core thread .add a (th.burst (wRd w)) (some (bitsOf w 15 13)))

/-! ## Ordering instructions (R290 to R304) -/

/-- The start of an entry: an acquire at DEVICE scope, which invalidates the L1 (R291, R305). -/
def startAcquire (x : Walker) : Walker := countAcquire (l1Invalidate x) 9

/-- Stores of a core that await their acknowledgment. -/
def storesAhead (x : Walker) : Nat := (x.tracker.filter (fun e => !e.isLoad)).length

/-- LDACQ: a load with acquire at a scope (R296). -/
def execLdacq (core thread : Nat) (s : State) : Res :=
  walkerOp s core thread .ldacq (fun w th s =>
    let a := th.reg (oRa w)
    let n := 2 ^ oLow w
    issueLoad s core thread .plain false (.load (oRd w) a n false (some (ordScope (oOrd w)))) a n)

/-- STREL: a store with release at a scope, which completes when its home has it (R290, R296). -/
def execStrel (core thread : Nat) (s : State) : Res :=
  walkerOp s core thread .strel (fun w th s =>
    let a := th.reg (oRa w)
    let bs := natLE (2 ^ oLow w) (th.reg (oRb w))
    let c := walkCheck s th .plain true a bs.length
    if c ≠ 0 then some (stopAccess s core thread c a)
    else if trackerBlocks (s.walker core) a bs.length then none
    else
      some ((s.updThread core thread (fun x => { x with st := .waiting, wait := some .release, fence := none })).updWalker core (fun x =>
        countRelease { x with tracker := x.tracker ++ [{ thread := thread, addr := a, len := bs.length, pc := th.pc, data := some bs,
                                                           rel := some (ordScope (oOrd w)) }] } (oOrd w))))

/-- The end of a FENCE: its acquire side invalidates the L1 (R294, R300). -/
def endFence (s : State) (n t : Nat) (acq : Bool) : State :=
  let s1 := if acq then s.updWalker n l1Invalidate else s
  retireNext s1 n t (fun x => { x with wait := none, st := if x.st = .waiting then .ready else x.st })

/-- FENCE: with release semantics it waits for the stores ahead, and the thread's next store is a release at its scope; with
acquire semantics it invalidates the L1 (R294). -/
def execFence (core thread : Nat) (s : State) : Res :=
  walkerOp s core thread .fence (fun w _ s =>
    let o := oOrd w
    let rel := decide (2 ≤ ordSem o)
    let acq := decide (ordSem o % 2 = 1) && decide (1 ≤ ordScope o)
    let s1 := s.updWalker core (fun x => countAcquire (countRelease x o) o)
    let s2 := if rel then s1.updThread core thread (fun x => { x with fence := some (ordScope o) }) else s1
    let ahead := storesAhead (s.walker core)
    if rel ∧ 1 ≤ ordScope o ∧ 0 < ahead then
      some (s2.updThread core thread (fun x => { x with st := .waiting, wait := some (.fence ahead acq) }))
    else some (endFence s2 core thread acq))

def amoOp (s : State) (n t : Nat) (op : WalkOp) (len : Nat) : Res :=
  walkerOp s n t op (fun w th s =>
    let a := th.reg (oRa w)
    (issueLoad s n t .atomic true (.atomic (oRd w) a len (oLow w) (th.reg (oRb w)) (oOrd w)) a len).map (fun s1 =>
      if (s1.thread n t).st = .waiting then s1.updWalker n (fun x => countAcquire (countRelease x (oOrd w)) (oOrd w)) else s1))

/-- AMO64. -/
def execAmo64 (core thread : Nat) (s : State) : Res := amoOp s core thread .amo64 8
/-- AMO32. -/
def execAmo32 (core thread : Nat) (s : State) : Res := amoOp s core thread .amo32 4

/-! ## Posts (R378) -/

/-- The window a POST names: a pool window's own address, or the Q_POST window of the block in RA. -/
def postAddr (ra part : Nat) : Nat :=
  if ecsBase + 0x1200000 ≤ ra ∧ ra < ecsBase + 0x1210000 then ra + 64 * part else ra + 0x800 + 64 * part

/-- The code that stops a POST, 0 for none: a window that is not there, PART given for a 64 B entry, RA not aligned. -/
def postCode (ra part : Nat) : Nat :=
  match postTargetOf (postAddr ra 0 / 64 * 64) with
  | .none => 0x340
  | .move _ _ => if 2 ^ 52 ≤ ra ∨ 3 ≤ part then 0x340 else if ra % 64 ≠ 0 then 0x341 else 0
  | _ => if 2 ^ 52 ≤ ra then 0x340 else if part ≠ 0 then 0x202 else if ra % 64 ≠ 0 then 0x341 else 0

/-- The post itself: RD receives 1, 0 or 2. -/
def performPost (s : State) (n t rd addr : Nat) (data : List Byte) : State :=
  let o := (s.thread n t).origin
  let (r, s1) := postBurst s ((64 + n) * 64 + t) { poster := 64 + n, tenant := o.tenant, priv := o.priv, step := o.step } addr data
  retireNext s1 n t (fun x => { x.setReg rd r with wait := none, st := if x.st = .waiting then .ready else x.st })

/-- POST: a release at DEVICE scope, then the burst is posted. -/
def execPost (core thread : Nat) (s : State) : Res :=
  walkerOp s core thread .post (fun w th s =>
    let ra := th.reg (wRa w)
    let part := bitsOf w 10 9
    let c := postCode ra part
    if c ≠ 0 then some (stopThread s core thread c)
    else
      let a := postAddr ra part
      let ahead := storesAhead (s.walker core)
      let data := th.burst (wRb w)
      let s1 := s.updWalker core (fun x => { x with releases := sat64 x.releases 1 })
      if ahead = 0 then some (performPost s1 core thread (wRd w) a data)
      else some (s1.updThread core thread (fun x => { x with st := .waiting, wait := some (.post ahead (wRd w) a data) })))

/-! ## Data returns -/

/-- What a walker load meets: a stop code, the bytes, the state. -/
structure WalkLoad where
  code : Nat := 0
  bytes : List Byte := []
  next : State

/-- A load of n bytes within one line, through the L1 where the address is cacheable (R298, R299, R375, R376). -/
def walkLoad (s : State) (n tenant a len : Nat) (l1err : Bool) : WalkLoad :=
  if cacheable s a then
    let x := s.walker n
    match l1Find x a, l1err || ((l1Find x a).map l1Bad).getD false with
    | some line, false =>
      { bytes := ((l1Bytes line).drop (a % 64)).take len, next := s.setWalker n (l1Touch { x with l1Hit := sat64 x.l1Hit 1 } a) }
    | found, _ =>
      let x1 := if found.isSome then l1Drop { x with l1Err := sat64 x.l1Err 1 } a else x
      let s1 := s.setWalker n { x1 with l1Miss := sat64 x1.l1Miss 1 }
      let l := loadBytes s1 (64 + n) tenant (lineOf a) 64
      if l.status ≠ 0 then { code := l.status, next := l.next }
      else if ((l.marks.drop (a % 64)).take len).any id then { code := 0x320, next := l.next }
      else
        { bytes := (l.bytes.drop (a % 64)).take len,
          next := if l.poisoned then l.next else l.next.updWalker n (fun x => l1Fill x a l.bytes) }
  else match homeOf s a with
    | .control off => { bytes := ecsBytes s off len, next := s }
    | _ =>
      let l := loadBytes s (64 + n) tenant a len
      { code := if l.status ≠ 0 then l.status else if l.poisoned then 0x320 else 0, bytes := l.bytes, next := l.next }

/-- The load entry of a thread leaves the tracker. -/
def retireLoad (s : State) (n t : Nat) : State :=
  s.updWalker n (fun x => { x with tracker := x.tracker.filter (fun e => !(e.isLoad && e.thread == t)) })

/-- The thread's access is complete: it goes on, or ends if it was stopping. -/
def finishAccess (s : State) (n t : Nat) (g : Thread → Thread) : State :=
  let s1 := retireNext s n t (fun x => { g x with wait := none, st := if x.st = .waiting then .ready else x.st })
  settleThread s1 n t

/-- A failing access of a thread (R374, R375). -/
def failAccess (s : State) (n t code : Nat) : State :=
  let s1 := retireLoad s n t
  if (s1.thread n t).st = .stopping then settleThread (s1.updThread n t (fun x => { x with wait := none })) n t
  else stopThread s1 n t code

def returnLoad (s : State) (n t : Nat) (a len : Nat) (acq : Option Nat) (l1err : Bool) (g : List Byte → Thread → Thread) : State :=
  let s1 := match acq with
    | some sc => if 1 ≤ sc then s.updWalker n (fun x => countAcquire (l1Invalidate x) (4 * sc + 1)) else s
    | none => s
  let l := walkLoad s1 n (s.thread n t).origin.tenant a len l1err
  if l.code ≠ 0 then failAccess l.next n t l.code else finishAccess (retireLoad l.next n t) n t (g l.bytes)

/-- One hop of LDCH (R370). -/
def returnHop (s : State) (n t rd p rb koff noff left : Nat) (l1err : Bool) : State :=
  let l := walkLoad s n (s.thread n t).origin.tenant p 64 l1err
  let word (j : Nat) : Nat := u64 l.bytes (8 * j)
  let done (v : Nat) : State := finishAccess (retireLoad l.next n t) n t (fun x => x.setReg rd v)
  if l.code ≠ 0 then failAccess l.next n t l.code
  else if koff ≠ noff ∧ word koff = rb then done p
  else
    let q := word noff
    if koff = noff ∧ q = 0 then done p
    else if left = 0 then done (if q % 2 = 0 then q + 1 else q)
    else if q = 0 then done 0
    else
      let s1 := retireLoad l.next n t
      let c := walkCheck s1 (s1.thread n t) .chain false q 64
      if c ≠ 0 then failAccess (if c = 0x310 then holeAccess s1 (q / 2 ^ 37) else s1) n t c
      else
        (s1.updThread n t (fun x => { x with wait := some (.chain rd q rb koff noff (left - 1)) })).updWalker n (fun x =>
          { x with tracker := x.tracker ++ [{ thread := t, addr := q, len := 64, pc := (s1.thread n t).pc, isLoad := true }] })

/-- The result of an atomic's operation on `len` bytes: SWAP, CAS with the expected value, ADD, AND, OR, XOR, SMAX, SMIN. -/
def amoResult (len aop old rb expected : Nat) : Nat :=
  let m := 2 ^ (8 * len)
  let b := rb % m
  let lt := decide (signExt (8 * len) old < signExt (8 * len) b)
  match aop with
  | 0 => b
  | 1 => if old = expected % m then b else old
  | 2 => (old + b) % m
  | 3 => old &&& b
  | 4 => old ||| b
  | 5 => old ^^^ b
  | 6 => if lt then b else old
  | _ => if lt then old else b

/-- An atomic is performed: in the L1 at CORE scope, at its home at wider scopes; the old value returns to RD (R302). -/
def returnAtomic (s : State) (n t rd a len aop rb ord : Nat) (l1err : Bool) : State :=
  let th := s.thread n t
  let ten := th.origin.tenant
  let inL1 := ordScope ord == 0 && cacheable s a
  let l : WalkLoad := if inL1 then walkLoad s n ten a len l1err
    else
      let q := loadBytes s (64 + n) ten a len
      { code := if q.status ≠ 0 then q.status else if q.poisoned then 0x320 else 0, bytes := q.bytes, next := q.next }
  if l.code ≠ 0 then failAccess l.next n t l.code
  else
    let old := leNat l.bytes
    let new := natLE len (amoResult len aop old rb (th.reg rd))
    let s1 := if inL1 then l.next else (storeBytes l.next (64 + n) ten a new).next
    let s2 := s1.updWalker n (fun x =>
      let x1 := l1Store x a new
      let x2 := { x1 with tracker := x1.tracker.map (fun e =>
          if e.isLoad && e.thread == t then { e with isLoad := false, data := if inL1 then some new else none } else e) }
      if 1 ≤ ordScope ord ∧ ordSem ord % 2 = 1 then l1Invalidate x2 else x2)
    finishAccess s2 n t (fun x => x.setReg rd old)

/-- A memory-side add that returns the burst's old values (R371, R375). -/
def returnAdd (s : State) (n t rb a fmt : Nat) (data : List Byte) : State :=
  let r := addRun s (64 + n) (s.thread n t).origin.tenant a fmt data
  if r.marks.any id then failAccess r.next n t 0x320
  else if r.status ≠ 0 then failAccess r.next n t r.status
  else finishAccess (retireLoad r.next n t) n t (fun x => x.setBurst rb r.old)

/-- Whether a store of the core stands in the tracker before the access of a thread, or overlaps an address. -/
def storesBefore (x : Walker) (t : Nat) : Bool := (x.tracker.takeWhile (fun e => e.thread != t || !e.isLoad)).any (fun e => !e.isLoad)
def overlapOther (x : Walker) (t a : Nat) : Bool := x.tracker.any (fun e => e.thread != t && overlaps (lineOf a) 64 (lineOf e.addr) 64)

/-- Whether an address lies in engine control space. -/
def inControlSpace (a : Nat) : Bool := decide (ecsBase ≤ a) && decide (a < ecsBase + 2 ^ 32)

/-- Whether an access to engine control space waits for an earlier one of the core: they are performed in program order (R287). -/
def controlAhead (before : List Tracked) (a : Nat) : Bool := inControlSpace a && before.any (fun e => inControlSpace e.addr)

/-- Whether the access of a thread at an address waits at its home (R117, R151, R236, R287). -/
def loadHeld (s : State) (x : Walker) (t a : Nat) : Bool :=
  runWaits s (x.tracker.any (fun e => e.thread == t && e.isLoad && e.early)) a ||
    controlAhead (x.tracker.takeWhile (fun e => e.thread != t || !e.isLoad)) a

/-- WALKER_DATA_RETURN: the access that a thread waits on returns its data; `l1err` tells that the L1 line was found
uncorrectable, `stall` the cycles the access waited for the tracker (R286, R363, R376). -/
def execWalkerDataReturn (core thread : Nat) (l1err : Bool) (stall : Nat) (s : State) : Res :=
  if core < 64 ∧ thread < 64 then
    let th := s.thread core thread
    let x := s.walker core
    let s1 := s.setWalker core { x with trackStall := sat64 x.trackStall stall }
    if th.st ≠ .waiting ∧ th.st ≠ .stopping then .next s
    else match th.wait with
      | some (.load rd a n sx acq) =>
        if loadHeld s x thread a then .next s
        else .next (returnLoad s1 core thread a n acq l1err (fun bs x =>
          x.setReg rd (if sx then wrap 64 (signExt (8 * n) (leNat bs)) else leNat bs)))
      | some (.burst rd a) =>
        if loadHeld s x thread a then .next s
        else .next (returnLoad s1 core thread a 64 none l1err (fun bs x => x.setBurst rd bs))
      | some (.chain rd p rb koff noff left) =>
        if loadHeld s x thread p || overlapOther x thread p then .next s
        else .next (returnHop s1 core thread rd p rb koff noff left l1err)
      | some (.atomic rd a n aop rb ord) =>
        if loadHeld s x thread a || (decide (2 ≤ ordSem ord ∧ 1 ≤ ordScope ord) && storesBefore x thread) then .next s
        else .next (returnAtomic s1 core thread rd a n aop rb ord l1err)
      | some (.add rb a fmt data) =>
        if loadHeld s x thread a then .next s else .next (returnAdd s1 core thread rb a fmt data)
      | _ => .next s
  else .next s

/-! ## Store acknowledgments -/

/-- A tracked store performed at its home: the state, and the code that stops its thread. -/
def performStore (s : State) (n : Nat) (e : Tracked) : State × Nat :=
  let o := (s.thread n e.thread).origin
  match e.data with
  | none => (s, 0)
  | some bs =>
    match e.add with
    | some fmt =>
      let r := addRun s (64 + n) o.tenant e.addr fmt bs
      (r.next, r.status)
    | none =>
      match homeOf s e.addr with
      | .control off =>
        if bs.length = 64 then
          ((postBurst (s.updWalker n (fun x => { x with releases := sat64 x.releases 1 })) ((64 + n) * 64 + e.thread) { poster := 64 + n, tenant := o.tenant, priv := o.priv, step := o.step } e.addr bs).2, 0)
        else (regWrite s (64 + n) o.tenant off bs, 0)
      | .imem _ _ => (s, 0)
      | _ =>
        let r := storeBytes s (64 + n) o.tenant e.addr bs
        (r.next.updWalker n (fun x => if r.status = 0 then l1Store x e.addr bs else l1Drop x e.addr), 0)

/-- Whether a tracked access orders after every store before it: a release at DIE scope or wider, or a post (R290, R305). -/
def ordersAfter (s : State) (e : Tracked) : Bool :=
  (match e.rel with
   | some sc => decide (1 ≤ sc)
   | none => false) ||
  (match homeOf s e.addr with
   | .control _ => true
   | _ => false)

/-- A thread that waits behind the stores ahead of it comes one store nearer; it completes when none is left. -/
def stepWaiter (s : State) (n t rank : Nat) : State :=
  match (s.thread n t).wait with
  | some (.fence k acq) =>
    if k ≤ rank then s
    else if k = 1 then settleThread (endFence s n t acq) n t
    else s.updThread n t (fun x => { x with wait := some (.fence (k - 1) acq) })
  | some (.post k rd a data) =>
    if k ≤ rank then s
    else if k = 1 then settleThread (performPost s n t rd a data) n t
    else s.updThread n t (fun x => { x with wait := some (.post (k - 1) rd a data) })
  | _ => s

/-- A tracked store performed at its home and retired: a release that waited for it ends, a failing store stops its thread, and
the threads behind it come one store nearer. -/
def ackStore (s : State) (core entry waited stall : Nat) (e : Tracked) : State :=
  let before := ((s.walker core).tracker.take entry).filter (fun f => !f.isLoad)
  let (s1, code) := performStore s core e
  let s2 := s1.updWalker core (fun x => { x with tracker := x.tracker.eraseIdx entry, relWait := sat64 x.relWait waited
                                                 trackStall := sat64 x.trackStall stall })
  let th := s2.thread core e.thread
  let s3 := if th.wait = some .release ∧ e.rel.isSome ∧ th.pc = e.pc then finishAccess s2 core e.thread id else s2
  let s4 := if code ≠ 0 then stopThreadAt s3 core e.thread code e.pc else settleThread s3 core e.thread
  (List.range 64).foldl (fun s t => stepWaiter s core t before.length) s4

/-- WALKER_STORE_ACK: the home of the `entry`-th tracked access acknowledges it: the write is performed and the entry retires;
`waited` are the thread-cycles spent waiting for releases that end with it, and the cycles that its access waited for the tracker (R286,
R290, R312). -/
def execWalkerStoreAck (core entry : Nat) (waited : Nat × Nat) (s : State) : Res :=
  if core < 64 then
    let x := s.walker core
    match x.tracker[entry]? with
    | none => .next s
    | some e =>
      if e.isLoad || runWaits s e.early e.addr || controlAhead (x.tracker.take entry) e.addr || (ordersAfter s e && (x.tracker.take entry).any (fun f => !f.isLoad)) then .next s
      else .next (ackStore s core entry waited.1 waited.2 e)
  else .next s

/-! ## Tasks (R377, R380, R381, R383, R671) -/

/-- The first code that keeps a task entry from starting (R10, R377, R380). -/
def checkTask (s : State) (e : Engine) (q : QEntry) : Nat :=
  let h := u32 q.data 0
  let kind := bitsOf h 31 28
  let narg := bitsOf h 27 25
  if (kind ≠ 1 ∧ kind ≠ 3) ∨ narg = 7 then 0x202
  else if bitOf h 24 ∧ !(recordPlace s (u64 q.data 8)) then 0x214
  else if kind = 1 ∧ u16 q.data 4 % 4 ≠ 0 then 0x211
  else if kind = 1 ∧ e.len ≤ u16 q.data 4 then 0x211
  else 0

/-- A task entry that starts no thread completes with its code. -/
def refuseTask (s : State) (n : Nat) (q : QEntry) (code : Nat) : State :=
  let h := u32 q.data 0
  let rec16 := entryRecord (h % 65536) code (64 + n) 0 (s.engine (64 + n)).state.code 0xFFFFFFFF 0
  let c := u64 q.data 8
  let s1 := if bitOf h 24 ∧ recordPlace s c ∧ taskReach s q.origin.tenant q.origin.priv true c 16 then
      (storeBytes s (64 + n) q.origin.tenant c rec16).next
    else s
  completeEntry s1 q.origin rec16 true

/-- A thread begins a task (R365, R380); the core has run its tenant (R301). -/
def startThread (s : State) (n t pc narg : Nat) (q : QEntry) : State :=
  let h := u32 q.data 0
  let regs := (List.range narg).foldl (fun m i => mapSet 0 m (i + 1) (u64 q.data (16 + 8 * i))) []
  (s.updThread n t (fun _ =>
    { st := .ready, pc := pc, regs := regs, origin := q.origin, tag := h % 65536, crec := bitOf h 24, caddr := u64 q.data 8,
      since := s.now })).updWalker n (fun x =>
    { x with ran := if x.ran.contains q.origin.tenant then x.ran else q.origin.tenant :: x.ran })

/-- TASK_START: a core takes its next entry and starts it on its lowest free thread; a FLIP entry stops the taking (R380,
R381). -/
def execTaskStart (core : Nat) (s : State) : Res :=
  if core < 64 then
    let e := s.engine (64 + core)
    match e.queue, freeThread s core with
    | q :: rest, some t =>
      if e.state = .runService ∧ e.drain.isNone ∧ (s.walker core).flip.isNone ∧ underTest s (64 + core) = false then
        let s1 := (s.setEngine (64 + core) { e with queue := rest, taken := sat64 e.taken 1 }).updWalker core startAcquire
        let c := checkTask s e q
        if c ≠ 0 then .next (refuseTask s1 core q c)
        else if bitsOf (u32 q.data 0) 31 28 = 3 then .next (s1.updWalker core (fun x => { x with flip := some q }))
        else .next (startThread s1 core t (u16 q.data 4) (bitsOf (u32 q.data 0) 27 25) q)
      else .next s
    | _, _ => .next s
  else .next s

/-- WALKER_FLIP: every thread has ended after a FLIP entry; the banks flip and the new bank's entry point runs on thread 0, or
the entry completes with R337's code (R381). -/
def execWalkerFlip (core : Nat) (s : State) : Res :=
  if core < 64 then
    let e := s.engine (64 + core)
    match (s.walker core).flip with
    | some q =>
      if e.state = .runService ∧ e.drain.isNone ∧ threadsFree s core then
        let s1 := s.updWalker core (fun x => { x with flip := none })
        if e.otherCommitted = false then .next (refuseTask s1 core q 0x212)
        else
          let s2 := s1.updEngine (64 + core) flipBank
          .next (startThread s2 core 0 (s2.engine (64 + core)).entry 0 q)
      else .next s
    | none => .next s
  else .next s

/-- TASK_WATCHDOG: a task has run for longer than ENG_WDOG.LIMIT µs (R383). (DEDUCED, log 52.) -/
def execTaskWatchdog (core thread : Nat) (s : State) : Res :=
  if core < 64 ∧ thread < 64 then
    let th := s.thread core thread
    let lim := (s.engine (64 + core)).wdog
    if (th.st = .ready ∨ th.st = .waiting) ∧ lim ≠ 0 ∧ th.since + 1000 * lim < s.now then
      .next (stopThreadAt s core thread 0x217 th.pc)
    else .next s
  else .next s

/-- An image placed in a bank of an engine's instruction memory, from the bank's start. -/
def loadBank (m : Map Code288) (bank : Bool) (image : List Byte) : Map Code288 :=
  mapSetRun 0 m (if bank then 2048 else 0) ((chunks 32 image).map (fun bs => encode288 (wordOfBytes (padTo 32 bs))))

/-- WALKER_CORE_RESTART: a FAULTED core that has drained is loaded again with the walker runtime of the running manifest, which
comes with the command, committed, and returned to RUN_SERVICE; its queue is kept (R671). -/
def execWalkerCoreRestart (core : Nat) (runtime : List Byte) (entry : Nat) (s : State) : Res :=
  if core < 64 then
    let e := s.engine (64 + core)
    let n := ceilDiv runtime.length 4
    if e.state = .faulted ∧ e.drain.isNone ∧ runtime.length ≤ bankBytes (64 + core) then
      .next ((s.setEngine (64 + core)
        { e with
          imem := loadBank (loadBank e.imem false runtime) true runtime
          commA := true, commB := true, lenA := n, lenB := n, entA := entry, entB := entry, state := .runService }).updWalker core (fun x =>
        { x with l1 := [], ran := [] }))
    else .next s
  else .next s

end Sys2Proof.Machine
end

