-- ==== Sys2Proof/Machine/Kv.lean ====
section
/-!
DEFINITION. Key-value windows, their pages and page lists, and the prefix tree (R393 to R425, R385, R386).
-/

namespace Sys2Proof.Machine

/-! ## Windows (R395 to R399) -/

/-- Whether a range lies wholly in the key-value metadata range. -/
def insideKvMeta (s : State) (a n : Nat) : Bool :=
  decide (dget s 0x2330 1 ≤ a) && decide (a + n ≤ dget s 0x2330 1 + dget s 0x2330 2)

/-- The sieve image of a window (R416). -/
def sieveOk (s : State) (t : Nat) (w : Win) : Bool :=
  if w.sieve = 0 then true
  else if w.sieve % 64 ≠ 0 ∨ mayReach s t false false w.sieve 32 = false then false
  else match peekOk s w.sieve 32 with
    | none => false
    | some d =>
      let qbase := u32 d 0
      let qn := u32 d 4
      let kn := u32 d 8
      let bits := u64 d 16
      decide (1 ≤ qn) && decide (qn ≤ w.maxlen) && kn % 512 == 0 && decide (qbase + qn ≤ kn) && decide (kn ≤ w.maxlen) &&
        bits % 64 == 0 && mayReach s t false false bits (qn * (kn / 8))

/-- Whether a window may be admitted for a tenant (R395, R399, R416). -/
def windowOk (s : State) (t a : Nat) : Bool :=
  if a % 64 ≠ 0 ∨ insideKvMeta s a 64 = false then false
  else match peekOk s a 64 with
    | none => false
    | some d =>
      let w := winOfBytes a d
      decide (64 ≤ w.maxlen) && decide (w.maxlen ≤ 262144) && w.maxlen % 64 == 0 && decide (1 ≤ w.nlane) && decide (w.nlane ≤ 8192) &&
        w.nlane == w.layers * w.heads && decide (1 ≤ w.kfmt) && decide (w.kfmt ≤ 4) && decide (w.dsel ≤ 2) && decide (w.place ≤ 1) &&
        w.tenant == t && w.lanes % 64 == 0 && insideKvMeta s w.lanes (8 * w.nlane * w.npgr) && sieveOk s t w

/-! ## Page-list entries and pages (R393, R398, R403, R404) -/

/-- Segments of a stack designated for key-value storage (R394). -/
def kvSegments (s : State) (st : Nat) : Nat := dget s (0x2340 + st) 1 + dget s (0x2340 + st) 2 * 2 ^ 64

/-- Whether a page frame lies in designated, usable storage. -/
def kvUsable (s : State) (f : Nat) : Bool :=
  let st := f / 2 ^ 37
  let o := f % 2 ^ 37
  decide (f < potWest) && f % 65536 == 0 && bitOf (kvSegments s st) (o / 2 ^ 30) && !(isDonor (s.stack st) (o / frameBytes)) &&
    !((s.stack st).testFrames.contains (o / frameBytes))

def refOf (s : State) (f : Nat) : Nat := mapGet 0 s.svc.refs f

def kvFree (s : State) (f : Nat) : Bool := kvUsable s f && refOf s f == 0

/-- Pages of a stack: all of its designated segments, less those in donor and TEST frames; and those not allocated. -/
def kvTotal (s : State) (st : Nat) : Nat :=
  let x := s.stack st
  let segs := ((List.range 80).filter (fun j => bitOf (kvSegments s st) j && decide (j < popSegs x))).length
  let lost (f : Nat) : Bool := bitOf (kvSegments s st) (f / 512)
  16384 * segs - 32 * ((x.remap.filter (fun e => lost e.2.1)).length + (x.testFrames.filter lost).length)

def kvAllocated (s : State) (st : Nat) : Nat := (s.svc.refs.filter (fun e => e.1 / 2 ^ 37 == st)).length

def kvFreePages (s : State) (st : Nat) : Nat := kvTotal s st - kvAllocated s st

/-- Pages counted against a tenant (R407). -/
def kvCharged (s : State) (t : Nat) : Nat := (s.svc.owner.filter (fun e => e.2 == t + 1)).length

def setRef (s : State) (f n : Nat) : State :=
  if n = 0 then
    { (discardRange s f 65536).next with svc := { s.svc with refs := mapSet 0 s.svc.refs f 0, owner := mapSet 0 s.svc.owner f 0 } }
  else { s with svc := { s.svc with refs := mapSet 0 s.svc.refs f n } }

/-- A page is allocated: discarded before use, with REF 1, and charged to a tenant (R404, R405). -/
def allocPage (s : State) (t f : Nat) : State :=
  let s1 := (discardRange s f 65536).next
  { s1 with svc := { s1.svc with refs := mapSet 0 s1.svc.refs f 1, owner := mapSet 0 s1.svc.owner f (t + 1) } }

/-- An entry is released: VALID cleared, and REF of a page it owned falls; at 0 the page is discarded and free (R408). -/
def releaseEntry (s : State) (a : Nat) : State :=
  let s := svcSee s a 8
  let v := readEntry s a
  if entryValid v then
    let s1 := writeEntry s a (clearBit v 63)
    if entryRo v then s1 else setRef s1 (entryFrame v) (refOf s1 (entryFrame v) - 1)
  else s

/-- Every entry of a window at or beyond a length is released (R408). -/
def releaseBeyond (s : State) (w : Win) (len : Nat) : State :=
  (List.range w.nlane).foldl (fun s i =>
    (List.range (w.npg - ceilDiv len w.ppp)).foldl (fun s k => releaseEntry s (w.entryAddr i (ceilDiv len w.ppp + k))) s) s

/-! ## Preparation (R405 to R407) -/

/-- The entries of a window that appends to `n` positions from `len` reach: (lane, page index). -/
def reachedEntries (w : Win) (len n : Nat) : List (Nat × Nat) :=
  if n = 0 then []
  else
    let j0 := len / w.ppp
    (List.range ((len + n - 1) / w.ppp + 1 - j0)).flatMap (fun k => (List.range w.nlane).map (fun i => (i, j0 + k)))

/-- Those among them that lack a page of their own. -/
def lackingEntries (s : State) (w : Win) (len n : Nat) : List (Nat × Nat) :=
  (reachedEntries w len n).filter (fun e =>
    let v := readEntry s (w.entryAddr e.1 e.2)
    !(entryValid v) || entryRo v)

/-- The effective window of a decode request (R433). -/
def Req.window (r : Req) : Nat := if r.draft then min r.specw (r.maxlen - r.len - 1) else 0

/-- The positions that the request's next step may append. -/
def nextPositions (s : State) (r : Req) : Nat :=
  if r.state = .decode then max 1 r.window else min (r.plen - r.len) (dget s (0x5140 + r.slot) 3)

/-- The SVC reads the headers of a request's windows. -/
def seeWindows (s : State) (r : Req) : State :=
  let s1 := svcSee s r.windowAddr 64
  if r.draft then svcSee s1 r.dwindow 64 else s1

/-- The SVC reads the entries that the request's next step reaches. -/
def seeReached (s : State) (r : Req) : State :=
  let s1 := seeWindows s r
  (reqWindows s1 r).foldl (fun s w => (reachedEntries w r.len (nextPositions s1 r)).foldl (fun s e => svcSee s (w.entryAddr e.1 e.2) 8) s) s1

/-- Entries of both windows that lack a page: (window, lane, page index). -/
def lacking (s : State) (r : Req) : List (Win × Nat × Nat) :=
  (reqWindows s r).flatMap (fun w => (lackingEntries s w r.len (nextPositions s r)).map (fun e => (w, e)))

/-- Whether the request's preparation for its next step is complete (R405, R406). -/
def preparedFor (s : State) (k : Nat) (r : Req) : Bool :=
  !(s.svc.preps.any (fun p => p.req == k)) && (lacking s r).isEmpty

/-- Physical bank and row of a page frame. -/
def pageBank (s : State) (f : Nat) : Nat × Nat :=
  let place := physOf (s.stack (f / 2 ^ 37)) (f % 2 ^ 37)
  (place.1, place.2.1)

/-- The stripe rule of R403: pages of one window, page index and stack share a page row, in consecutive slot banks. -/
def stripesOk (s : State) (needs : List (Win × Nat × Nat)) (frames : List Nat) : Bool :=
  let xs := needs.zip frames
  (List.range xs.length).all (fun k =>
    match xs[k]? with
    | none => true
    | some ((w, i, j), f) =>
      let mates := xs.filter (fun e => e.1.1.addr == w.addr && e.1.2.2 == j && w.stackOf e.1.2.1 j == w.stackOf i j)
      match mates.head? with
      | none => true
      | some (_, g) =>
        let (p0, r0) := pageBank s g
        let (p, r) := pageBank s f
        let n := (mates.takeWhile (fun e => e.1.2.1 != i)).length
        r == r0 && p == 128 * ((p0 / 128 + n) % 16) + p0 % 128 + (p0 / 128 + n) / 16)

/-- Whether frames may be given to a request's lacking entries. (DESIGN CHOICE, log 56.) -/
def framesFit (s : State) (t : Nat) (needs : List (Win × Nat × Nat)) (frames : List Nat) : Bool :=
  let quota := dget s 0x2331 (t + 1)
  frames.length == needs.length && decide frames.Nodup && frames.all (kvFree s) &&
    (needs.zip frames).all (fun e => e.2 / 2 ^ 37 == e.1.1.stackOf e.1.2.1 e.1.2.2) && stripesOk s needs frames &&
    (quota == 0 || decide (kvCharged s t + frames.length ≤ quota))

/-- Whether no page can be found: a stack has fewer free than needed, or the quota stands in the way (R407). -/
def pagesShort (s : State) (t : Nat) (needs : List (Win × Nat × Nat)) : Bool :=
  let quota := dget s 0x2331 (t + 1)
  (quota != 0 && decide (quota < kvCharged s t + needs.length)) ||
    (List.range 8).any (fun st =>
      decide (kvFreePages s st < (needs.filter (fun e => e.1.stackOf e.2.1 e.2.2 == st)).length))

/-- One lacking entry receives its page: at once where no page was, after a copy where the page was shared (R405). (DESIGN CHOICE, log 56.) -/
def givePage (s : State) (k t len : Nat) (e : Win × Nat × Nat) (f : Nat) : State :=
  let (w, i, j) := e
  let a := w.entryAddr i j
  let v := readEntry s a
  let s1 := allocPage s t f
  if entryValid v then
    { s1 with svc := { s1.svc with
        preps := s1.svc.preps ++ [{
          req := k, entry := a, frame := f, src := entryFrame v, rows := 2 * ceilDiv (len - j * w.ppp) w.kpr }] } }
  else writeEntry s1 a (entryWord f false)

/-- A live request whose pages the SVC prepares. -/
def Req.active (r : Req) : Bool :=
  !r.matching && (r.state == .queued || r.state == .prefill || r.state == .decode)

/-- Copying `n` words of a page, poison included. -/
def copyPage (s : State) (tenant src dst : Nat) : Nat → State
  | 0 => s
  | n + 1 =>
    let l := loadWord s 16 tenant src
    copyPage (storeCode l.next dst (if l.poison then poisonWord else encode288 l.data)).next tenant (src + 32) (dst + 32) n

/-- KV_PREPARE_DONE: a request's divergence copies have completed, and the rewritten entries are released (R405). -/
def execKvPrepareDone (req : Nat) (s : State) : Res :=
  if req < 16384 then
    let mine := s.svc.preps.filter (fun p => p.req == req)
    if mine = [] then .next s
    else
      let s1 := mine.foldl (fun s p => writeEntry (copyPage s (s.req req).tenant p.src p.frame (64 * p.rows)) p.entry (entryWord p.frame false)) s
      .next (bump { s1 with svc := { s1.svc with preps := s1.svc.preps.filter (fun p => p.req != req) } } 0x2330 7 mine.length)
  else .next s

/-! ## The prefix tree (R385, R386, R409 to R414) -/

/-- The cutter term of the key salt (R444). -/
def cutterTerm (r : Req) : Nat := if r.cutter = 0xFFFF then 0xFFFF else r.cgen * 65536 + r.cutter

def keySalt (tenant slot cutter : Nat) : Nat := (tenant * 2 ^ 56 + slot * 2 ^ 48 + cutter) % 2 ^ 64

/-- The inner hash of a block of 64 tokens (R409). -/
def blockHash (salt : Nat) (toks : List Nat) : Nat :=
  (List.range 32).foldl (fun t i => hashMix t (toks.getD (2 * i) 0 + toks.getD (2 * i + 1) 0 * 2 ^ 32)) salt

def blockKey (salt parent : Nat) (toks : List Nat) : Nat :=
  let k := hashMix parent (blockHash salt toks)
  if k = 0 then 1 else k

/-- Keys of the first `n` whole blocks of a token sequence. -/
def blockKeys (salt parent : Nat) (toks : List Nat) : Nat → List Nat
  | 0 => []
  | n + 1 =>
    let k := blockKey salt parent (toks.take 64)
    k :: blockKeys salt k (toks.drop 64) n

def findNode (s : State) (tenant key : Nat) : Option (Nat × PNode) :=
  s.svc.nodes.find? (fun e => e.2.valid && e.2.tenant == tenant && e.2.key == key)

def nodeAt (s : State) (id : Nat) : Option PNode := (s.svc.nodes.find? (fun e => e.1 == id)).map (·.2)

def updNode (s : State) (id : Nat) (f : PNode → PNode) : State :=
  { s with svc := { s.svc with nodes := s.svc.nodes.map (fun e => if e.1 = id then (e.1, f e.2) else e) } }

def fragAt (s : State) (id : Nat) : Option Fragment := (s.svc.frags.find? (fun e => e.1 == id)).map (·.2)

/-- LEAF: no valid node has this one as its parent (R385, R411). -/
def isLeaf (s : State) (id : Nat) : Bool := !(s.svc.nodes.any (fun e => e.2.parent == id))

/-- The nodes of the leading blocks that are present, in order. -/
def matchNodes (s : State) (tenant : Nat) : List Nat → List Nat
  | [] => []
  | k :: ks => match findNode s tenant k with
    | some (id, _) => id :: matchNodes s tenant ks
    | none => []

/-- Holding nodes under R386: REFS rises, STAMP is the time. -/
def holdNodes (s : State) (ids : List Nat) : State :=
  ids.foldl (fun s id => updNode s id (fun n => { n with refs := n.refs + 1, stamp := s.ptp })) s

/-- REFS of a node and of its ancestors falls, `n` nodes in all (R413). -/
def unholdNodes (s : State) (id : Nat) : Nat → State
  | 0 => s
  | n + 1 => match nodeAt s id with
    | some x => unholdNodes (updNode s id (fun x => { x with refs := x.refs - 1 })) x.parent n
    | none => s

/-- Entries j of every lane receive a fragment's pages, with RO set (R412). -/
def mapFragment (s : State) (w : Win) (j : Nat) (fr : Fragment) : State :=
  (List.range w.nlane).foldl (fun s i => writeEntry s (w.entryAddr i j) (entryWord (fr.frames.getD i 0) true)) s

/-- Mapping matched nodes into a window: for each page index, the fragment of its deepest matched block (R412). -/
def mapMatched (s : State) (w : Win) (ids : List Nat) : State :=
  let perPage := w.ppp / 64
  (List.range (ceilDiv ids.length (max perPage 1))).foldl (fun s j =>
    match (ids.drop (j * perPage)).take perPage |>.getLast? with
    | some id => match (nodeAt s id).bind (fun n => fragAt s n.frag) with
      | some fr => mapFragment s w j fr
      | none => s
    | none => s) s

/-- The header fields that the SVC writes: LASTNODE, whose value the spec leaves open, PUBLEN and SALT (R395, R412). -/
def noteWindow (s : State) (w : Win) (node publen salt : Nat) : State :=
  let (v, s1) := freeValue s
  svcWrite s1 (w.addr + 32) (natLE 8 (if node = 0 then 0 else v) ++ natLE 4 publen ++ natLE 4 0 ++ natLE 8 salt)

/-- The prefix match of one window (R412, R423): the matched length and the deepest node. (DEDUCED, log 55.) -/
def matchPrefix (s : State) (a tenant slot cutter : Nat) (toks : List Nat) (most : Option Nat) : State × Nat × Nat :=
  let s := svcSee s a 64
  let w := winOf s a
  let salt := keySalt tenant slot cutter
  let ids := matchNodes s tenant (blockKeys salt 0 toks ((toks.length - 1) / 64))
  let ids := match most with
    | some k => ids.take k
    | none => ids
  let s1 := bump (mapMatched (holdNodes s ids) w ids) 0x2330 6 ids.length
  let last := ids.getLast?.getD 0
  (noteWindow s1 w last (64 * ids.length) salt, 64 * ids.length, last)

/-- The fragment of a window's page index j: the pages of every lane, each with one more reference (R410, R411). -/
def makeFragment (s : State) (w : Win) (j id : Nat) : State :=
  let s := (List.range w.nlane).foldl (fun s i => svcSee s (w.entryAddr i j) 8) s
  let frames := (List.range w.nlane).map (fun i => entryFrame (readEntry s (w.entryAddr i j)))
  let s1 := frames.foldl (fun s f => setRef s f (refOf s f + 1)) s
  { s1 with svc := { s1.svc with frags := s1.svc.frags ++ [(id, { frames := frames })] } }

/-- Publishing block after block until one is present (R411): keys from block b on, the parent, and the fragment of the page in
hand as (page index, number). -/
def publishBlocks (s : State) (w : Win) (tenant b parent : Nat) (made : Nat × Nat) : List Nat → State
  | [] => s
  | k :: ks =>
    if (findNode s tenant k).isSome then s
    else
      let j := 64 * b / w.ppp
      let fresh := made.2 = 0 ∨ made.1 ≠ j
      let fid := if fresh then s.svc.nextNode else made.2
      let s1 := if fresh then
          let s0 : State := { s with svc := { s.svc with nextNode := s.svc.nextNode + 1 } }
          makeFragment s0 w j fid
        else s
      let id := s1.svc.nextNode
      let node : PNode := { key := k, parent := parent, tenant := tenant, stamp := s.ptp, frag := fid }
      let s2 : State := { s1 with svc := { s1.svc with
        nextNode := id + 1, nodes := s1.svc.nodes ++ [(id, node)],
        frags := s1.svc.frags.map (fun e => if e.1 = fid then (e.1, { e.2 with ref := e.2.ref + 1 }) else e) } }
      publishBlocks s2 w tenant (b + 1) id (j, fid) ks

/-- Publishing a window at the end of its request (R411). -/
def publishWindow (s : State) (a tenant slot cutter len publen last : Nat) (toks : List Nat) : State :=
  let s := svcSee s a 64
  let w := winOf s a
  let salt := keySalt tenant slot cutter
  let ks := blockKeys salt 0 toks (len / 64)
  publishBlocks s w tenant (publen / 64) last (0, 0) (ks.drop (publen / 64))

/-- A fragment with no node left releases each of its pages (R414). -/
def dropFragment (s : State) (id : Nat) : State :=
  match fragAt s id with
  | none => s
  | some fr =>
    if 1 < fr.ref then
      { s with svc := { s.svc with frags := s.svc.frags.map (fun e => if e.1 = id then (e.1, { e.2 with ref := e.2.ref - 1 }) else e) } }
    else
      let s1 := fr.frames.foldl (fun s f => setRef s f (refOf s f - 1)) s
      { s1 with svc := { s1.svc with frags := s1.svc.frags.filter (fun e => e.1 != id) } }

/-- A node leaves the tree (R386). -/
def removeNode (s : State) (id : Nat) : State :=
  match nodeAt s id with
  | some n => dropFragment { s with svc := { s.svc with nodes := s.svc.nodes.filter (fun e => e.1 != id) } } n.frag
  | none => s

/-- The node to evict next: REFS 0, LEAF set, PINNED clear, the oldest STAMP (R414). -/
def evictable (s : State) : Option Nat :=
  let ok := s.svc.nodes.filter (fun e => e.2.refs == 0 && !e.2.pinned && isLeaf s e.1)
  match ok with
  | [] => none
  | e :: es => some (es.foldl (fun a b => if b.2.stamp < a.2.stamp then b else a) e).1

/-- Eviction at a boundary, of at most `n` nodes (R414). A stack without a designated segment has no pages to restore and calls for none.
(DEDUCED, log 146.) -/
def evictPages (s : State) : Nat → State
  | 0 => s
  | n + 1 =>
    if (List.range 8).any (fun st => kvSegments s st != 0 && decide (kvFreePages s st < dget s 0x2330 4)) then
      match evictable s with
      | some id => evictPages (bump (removeNode s id) 0x2330 8 1) n
      | none => s
    else s

/-- What `evictPages` does first where a stack has no free page for a preparation (R407). -/
def evictFor (s : State) (t : Nat) (needs : List (Win × Nat × Nat)) : State :=
  if pagesShort s t needs then evictPages s s.svc.nodes.length else s

/-- KV_PAGE_PREPARE: the SVC gives pages to the entries that a request's next step will append to; `frames` is its choice, in the
order of the window's entries. Without pages the request is left out of steps (R405, R407). -/
def execKvPagePrepare (req : Nat) (frames : List Nat) (s : State) : Res :=
  let r := s.req req
  if req < 16384 then
    if r.active ∧ !(s.svc.preps.any (fun p => p.req == req)) then
      let s := seeReached s r
      let needs := lacking s r
      if needs = [] then .next s
      else
      let s := evictFor s r.tenant needs
      if framesFit s r.tenant needs frames then
        .next (((needs.zip frames).foldl (fun s e => givePage s req r.tenant r.len e.1 e.2) s).updReq req
          (fun r => { r with starved := false, noPage := 0 }))
      else if pagesShort s r.tenant needs then .next (s.setReq req { r with starved := true })
      else .next s
    else .next s
  else .next s

/-- The end of a request's windows: every entry released, and its holds on the prefix tree (R408, R413). -/
def endWindows (s : State) (r : Req) : State :=
  let s := seeWindows s r
  let s1 := unholdNodes (releaseBeyond s (winOf s r.windowAddr) 0) r.lastNode (r.pubLen / 64)
  if r.draft then unholdNodes (releaseBeyond s1 (winOf s1 r.dwindow) 0) r.dLastNode (r.dPubLen / 64) else s1

/-- Publication of a request's windows (R411, R438). -/
def publishReq (s : State) (r : Req) : State :=
  let s1 := publishWindow s r.windowAddr r.tenant r.slot (cutterTerm r) r.len r.pubLen r.lastNode r.tokens
  if r.draft then publishWindow s1 r.dwindow r.tenant r.dslot (cutterTerm r) r.len r.dPubLen r.dLastNode r.tokens else s1

/-- Whether a window maps a page. -/
def windowMaps (s : State) (a page : Nat) : Bool :=
  let w := winOf s a
  (List.range w.nlane).any (fun i => (List.range w.npg).any (fun j =>
    let v := readEntry s (w.entryAddr i j)
    entryValid v && entryFrame v == page))

/-- Whether a request's windows map a page. -/
def reqMaps (s : State) (r : Req) (page : Nat) : Bool :=
  windowMaps s r.windowAddr page || (r.draft && windowMaps s r.dwindow page)

/-- Nodes whose fragment names a poisoned page lose VALID (R420); a node that nothing holds leaves the tree. -/
def invalidatePage (s : State) (page : Nat) : State :=
  let bad := s.svc.nodes.filter (fun e => match fragAt s e.2.frag with
    | some fr => fr.frames.contains page
    | none => false)
  bad.foldl (fun s e => if e.2.refs = 0 then removeNode s e.1 else updNode s e.1 (fun n => { n with valid := false })) s

end Sys2Proof.Machine
end

