-- ==== Sys2Proof/Machine/SvcOps.lean ====
section
/-!
DEFINITION. What the serving commands and steps share: the request-table image (R427), completions and
token records (R452, R457), reservations (R559), deadline instances (R448 to R450), ends (R430), cutters (R442 to R447) and the
selection of tokens (R437).
-/

namespace Sys2Proof.Machine

/-! ## The request table (R427) -/

/-- Bytes 0 to 63. -/
def Req.fields (r : Req) : List Byte :=
  natLE 1 (r.slot + 16 * r.dslot) ++
  natLE 1 (boolNat r.publish + 2 * boolNat r.autofree + 4 * boolNat r.sample + 8 * boolNat r.draft) ++
  natLE 1 (r.prio + 16 * r.policy + 64 * r.dmode) ++ natLE 1 r.specw ++ natLE 2 r.cutter ++ natLE 2 r.outring ++
  natLE 4 r.maxlen ++ natLE 4 r.plen ++ natLE 8 r.windowAddr ++ natLE 8 r.dwindow ++ natLE 8 r.prompt ++ natLE 8 r.deadline ++
  natLE 8 r.seed ++ natLE 4 r.endtok ++ natLE 2 r.temp ++ natLE 1 r.topk ++ [0]

/-- The 128 bytes of an entry. -/
def Req.image (r : Req) : List Byte :=
  r.fields ++ natLE 1 (r.state.code + 16 * r.prev.code) ++
  natLE 1 (boolNat r.cancelReq + 2 * boolNat r.shadow + 4 * boolNat r.stalled) ++ natLE 1 r.tenant ++ [0] ++ natLE 2 r.status ++
  [0, 0] ++ natLE 4 r.len ++ natLE 4 r.delivered ++ natLE 4 r.usertag ++ natLE 4 r.latesteps ++ natLE 8 r.tsubmit ++
  natLE 8 r.tcommit ++ natLE 4 r.pendingTok ++ natLE 4 r.cgen ++ natLE 4 r.steps ++ natLE 4 r.accepted ++ natLE 8 0

/-- The request fields that a 64 B descriptor gives. (DEDUCED, log 58.) -/
def reqOfBytes (d : List Byte) : Req :=
  { slot := u8 d 0 % 16, dslot := u8 d 0 / 16, publish := bitOf (u8 d 1) 0, autofree := bitOf (u8 d 1) 1, sample := bitOf (u8 d 1) 2,
    draft := bitOf (u8 d 1) 3, prio := u8 d 2 % 16, policy := u8 d 2 / 16 % 4, dmode := u8 d 2 / 64, specw := u8 d 3 % 16,
    cutter := u16 d 4, outring := u16 d 6, maxlen := u32 d 8, plen := u32 d 12, windowAddr := u64 d 16, dwindow := u64 d 24,
    prompt := u64 d 32, deadline := u64 d 40, seed := u64 d 48, endtok := u32 d 56, temp := u16 d 60, topk := u8 d 62 }

/-- Reserved encodings of a descriptor (R427, R455 row 2). (DEDUCED, log 58.) -/
def descReserved (d : List Byte) : Bool :=
  let r := reqOfBytes d
  r.policy == 3 || r.dmode == 3 || decide (8 < r.specw) ||
    (decide (32768 ≤ r.cutter) && r.cutter != 0xFFFF) || (r.dmode == 0 && r.deadline != 0) ||
    (r.dmode == 2 && r.deadline / 2 ^ 20 != 0) || (!r.draft && r.dwindow != 0)

def Req.live (r : Req) : Bool := r.state == .queued || r.state == .prefill || r.state == .decode || r.state == .paused
def Req.ended (r : Req) : Bool := r.state == .done || r.state == .cancelled || r.state == .failed

/-- Entries of a tenant that are not FREE (0x5002), SHADOW entries included (R532). -/
def activeRequests (s : State) (t : Nat) : Nat := (s.reqs.filter (fun e => e.2.state != .free && e.2.tenant == t)).length

/-- The lowest FREE entry. -/
def lowestFree (s : State) : Option Nat := (List.range 16384).find? (fun k => (s.req k).state == .free)

/-! ## Completions (R452) and reservations (R558, R559) -/

def serveRecord (ctag status req state op detail : Nat) : List Byte :=
  natLE 4 ctag ++ natLE 2 status ++ natLE 2 req ++ natLE 1 state ++ natLE 1 op ++ [0, 0] ++ natLE 4 detail

/-- The completion of a command, as it will be written. -/
def reply (q : QEntry) (status req state detail : Nat) : Origin × List Byte :=
  (q.origin, serveRecord (u32 q.data 4) status req state (u8 q.data 0) detail)

def sendReply (s : State) (r : Origin × List Byte) : State := completeEntry s r.1 r.2 true

/-- ILLEGAL_IN_STATE sets CMD_STATE (R453, R680). -/
def noteStatus (s : State) (status : Nat) : State := if status = 0x201 then cmdState s else s

/-- A command completes. -/
def answer (s : State) (q : QEntry) (status req state detail : Nat) : State :=
  sendReply (noteStatus s status) (reply q status req state detail)

/-- A free unreserved entry of a tenant's ring is reserved; none where it has none. -/
def reserveRing (s : State) (t r : Nat) : Option State :=
  match ringNo s t r with
  | none => none
  | some k => if (s.ring k).room then some (s.updRing k (fun x => { x with rsv := x.rsv + 1 })) else none

def unreserveRing (s : State) (t r : Nat) : State :=
  match ringNo s t r with
  | none => s
  | some k => s.updRing k (fun x => { x with rsv := x.rsv - 1 })

/-! ## Token records (R436, R457) -/

def lateFlag : Nat := 1
def finalFlag : Nat := 2

/-- A request's token record. -/
def tokenRecord (s : State) (k : Nat) (r : Req) (pos : Nat) (toks : List Nat) (late final : Bool) : List Byte :=
  let flags := lateFlag * boolNat late + finalFlag * boolNat final + 4 * boolNat r.taken
  let status := if final then r.status else if late then 0x106 else 0
  natLE 4 r.usertag ++ natLE 2 k ++ natLE 1 toks.length ++ natLE 1 flags ++ natLE 2 status ++ natLE 1 r.state.code ++ [0] ++
    natLE 4 pos ++ (List.range 8).flatMap (fun i => natLE 4 (toks.getD i 0)) ++ natLE 4 r.len ++ natLE 4 0 ++ natLE 8 s.ptp

/-- The records of one commit on one ring: written from the tail, then the tail advances once (R436); none is written beyond a
failed one (R562). -/
def storeRecords (s : State) (k tail : Nat) : List (List Byte) → State × Bool
  | [] => (s, true)
  | d :: ds =>
    let r := s.ring k
    let a := r.entryAddr tail
    if r.loc then
      let w := storeBytes s 0xFF r.owner a (padTo 64 d)
      if w.status = 0 then storeRecords w.next k (tail + 1) ds else (w.next, false)
    else storeRecords (emit s (.hostWrite r.owner a (padTo 64 d) false false)) k (tail + 1) ds

/-- Records written to one ring, its tail write-back and its source (R561, R565). -/
def writeRecords (s : State) (k : Nat) (ds : List (List Byte)) : State :=
  let r := s.ring k
  if ds = [] ∨ (!r.enable && !r.busy) = true then s
  else
    let (s1, ok) := storeRecords s k r.qtail ds
    if !ok then failRing s1 k
    else
      let tail := (r.qtail + ds.length) % 2 ^ 32
      let s2 := s1.updRing k (fun x => { x with qtail := tail })
      let s3 := if r.wb = 0 then s2 else emit s2 (.hostWrite r.owner r.wb (natLE 4 tail) false false)
      if r.ien then raiseLocal s3 r.owner r.isrc else s3

/-- Token records of a commit, as (ring, record), ring after ring in the order in which they first occur. -/
def writeAllRecords (s : State) (rs : List (Nat × List Byte)) : State :=
  (rs.map (·.1)).eraseDups.foldl (fun s k => writeRecords s k ((rs.filter (fun e => e.1 == k)).map (·.2))) s

/-- The ring of a request's records. -/
def outRing (s : State) (r : Req) : Nat := (ringNo s r.tenant r.outring).getD 0

/-! ## Deadline instances (R448, R488, R492) -/

/-- Period number and phase of the present, packed as period · 65,536 + phase: the last phase whose instant has come. -/
def cadenceNow (s : State) : Nat :=
  let p := max s.cad.length 1
  let e := s.ptp - s.cad.start
  dget s 0x1200 8 * 65536 + min 65535 (ceilDiv ((e + 1) * 65536) p - 1)

/-- The first instant at a phase after the present, `doff` − 1 periods later. -/
def nextInstant (s : State) (phase doff : Nat) : Nat :=
  let n := dget s 0x1200 8
  let here := s.ptp < s.cad.start + phase * s.cad.length / 65536
  ((if here then n else n + 1) + (doff - 1)) * 65536 + phase

/-- A cadence instance found afresh from now (R448, R450). -/
def freshInstant (s : State) (r : Req) : Req :=
  if r.dmode = 2 then { r with instant := nextInstant s (r.deadline % 65536) (r.deadline / 65536 % 16), lateDone := false } else r

/-- The time of a request's instance, for the order of R432; a cadence instance by the period in force. -/
def instanceTime (s : State) (r : Req) : Option Int :=
  if r.dmode = 1 then some r.deadline
  else if r.dmode = 2 then
    some ((s.cad.start : Int) + ((r.instant / 65536 : Nat) - (dget s 0x1200 8 : Nat) : Int) * s.cad.length +
      (r.instant % 65536 * s.cad.length / 65536 : Nat))
  else none

/-- Whether now is after a request's instance (R449, R492). -/
def pastInstance (s : State) (r : Req) : Bool :=
  (r.dmode == 1 && decide (r.deadline < s.ptp)) || (r.dmode == 2 && decide (r.instant < cadenceNow s))

/-! ## Ends (R429, R430) -/

/-- A request enters DONE, CANCELLED or FAILED with its final status. -/
def endReq (s : State) (k : Nat) (st : ReqState) (status : Nat) : State :=
  let s1 := s.updReq k (fun r => { r with state := st, status := status, cancelReq := false, matching := false })
  let s2 := if st = .failed then bump s1 0x5000 0xA 1 else s1
  let s3 := if status = 0x107 then bump s2 0x5000 7 1 else s2
  if status = 0x314 then bump s3 0x2330 9 1 else s3

/-- A request becomes FREE, and nothing of it is left to do. -/
def freeReq (s : State) (k : Nat) : State :=
  { s.setReq k {} with svc := { s.svc with preps := s.svc.preps.filter (fun p => p.req != k), submits := mapSet [] s.svc.submits k [] } }

/-- The PREFIX message of a publication: 2, which window, and the block keys (R531 KIND 7). -/
def mirrorPublish (s : State) (k : Nat) : State :=
  let r := s.req k
  let keys (m : Nat) := blockKeys (keySalt r.tenant m (cutterTerm r)) 0 r.tokens (r.len / 64)
  let s1 := mirror s 7 k (16 * (r.len / 64)) (2 :: 0 :: keys r.slot) []
  if r.draft then mirror s1 7 k (16 * (r.len / 64)) (2 :: 1 :: keys r.dslot) [] else s1

/-- Publication and release of the windows of an ended request, then AUTOFREE (R430, R429). A request taken over whose prompt this
device never held publishes nothing. -/
def closeReq (s : State) (k : Nat) : State :=
  let r := s.req k
  let s1 := if r.state = .done ∧ r.publish ∧ r.len ≤ r.tokens.length then publishReq (mirrorPublish s k) r else s
  let s2 := endWindows s1 r
  if r.autofree then freeReq s2 k else s2

/-- The windows of a request that becomes FREE by a reset, and the reservation of its final record (R467). -/
def dropReq (s : State) (k : Nat) : State :=
  let r := s.req k
  if r.state = .free then s
  else
    let s1 := if r.ended then s else unreserveRing (endWindows s r) r.tenant r.outring
    freeReq s1 k

/-- The SUBMIT of a request whose match runs completes (R455). -/
def answerSubmit (s : State) (k : Nat) : State :=
  match mapGet [] s.svc.submits k with
  | [] => s
  | q :: _ =>
    answer { s with svc := { s.svc with submits := mapSet [] s.svc.submits k [] } } q 0 k (s.req k).state.code (s.req k).pubLen

/-- A SUBMIT whose match is done completes: at once, or on the backup of a mirroring pair when the twin has taken the entry number,
which the acknowledgment of its ADMIT shows (R455, R532). (DEDUCED, log 79.) -/
def settleSubmit (s : State) (k : Nat) : State := if mirroring s ∧ dget s 0x6100 5 = 2 then s else answerSubmit s k

/-- Completions that waited for the twin are written when the pair ends. -/
def answerPending (s : State) : State :=
  s.svc.submits.foldl (fun s e => if (s.req e.1).matching then s else answerSubmit s e.1) s

/-- R430 outside a commit: the windows are closed, then the final record with no tokens is written, its reservation released. -/
def finishReqs (s : State) (ks : List Nat) : State :=
  let s0 := ks.foldl answerSubmit s
  let recs := ks.map (fun k => (outRing s (s.req k), tokenRecord s k (s.req k) (s.req k).len [] false true))
  let s1 := ks.foldl (fun s k => unreserveRing s (s.req k).tenant (s.req k).outring) (writeAllRecords s0 recs)
  ks.foldl closeReq s1

/-- The requests that have ended in `s` and had not in `old`. -/
def newlyEnded (old s : State) : List Nat :=
  (s.reqs.filter (fun e => e.2.ended && !(old.req e.1).ended)).map (·.1)

/-- Everything of `act` that ends requests is followed by R430. -/
def withEnds (s : State) (act : State) : State := finishReqs act (newlyEnded s act)

/-! ## Restores (R480, R675, R678) -/

/-- The recovery window in hand is that of a slot's restore, or a device recovery completes an interrupted one (R674). -/
def restoring (s : State) (m : Nat) : Bool :=
  let mine (w : Window) : Bool := w.kind == kindSlot && w.index == m
  (s.slot m).state == .restoring && (s.faults.window.any mine || (s.faults.recoverySince.isSome && s.faults.interrupted.any mine))

/-- A restore fails: the fault is raised to TENANT, and the slot goes OFFLINE (R480, R678). -/
def failRestore (s : State) (m : Nat) : State :=
  recordFault (bump s 0x5100 6 1) (faultOf 0x302 clsTenant kindSlot m 0xFF 0)

/-- Whether a restore from the twin is in hand (R479, R675). -/
def twinRestoring (s : State) (m : Nat) : Bool :=
  restoring s m && dget s (0x5110 + m) 6 == 1 && !(s.slot m).restore.isEmpty

def anyTwinRestore (s : State) : Bool := (List.range 16).any (twinRestoring s)

/-- Loss or fencing of the twin fails the restores that it serves (R480, R675). -/
def failTwinRestores (s : State) : State :=
  (List.range 16).foldl (fun s m => if twinRestoring s m then failRestore s m else s)
    { s with tandem := { s.tandem with pathFault := false } }

/-! ## Late requests (R449, R450) -/

/-- The policy of a late request. (DEDUCED, log 59.) -/
def latePolicy (s : State) (k : Nat) : State :=
  let r := s.req k
  let s1 :=
    if r.policy = 1 then endReq s k .done 0x107
    else if r.policy = 2 then s.setReq k { r with prio := r.prio - 4 }
    else s
  s1.updReq k (fun r => { r with dmode := if r.dmode = 1 then 0 else r.dmode, lateDone := true })

/-- R450: a request in QUEUED or PREFILL that no step carries and whose instance has passed, unless the rule was applied to this
instance before. Requests of a FAULTED tenant have no deadline evaluated (R466), nor have SHADOW entries. -/
def lateWaiting (s : State) (m : Nat) (carried : List Nat) : State :=
  s.reqs.foldl (fun s e =>
    let r := s.req e.1
    if r.slot = m ∧ !r.shadow ∧ (r.state == .queued || r.state == .prefill) ∧ !(carried.contains e.1) ∧
        (s.tenant r.tenant).state ≠ .faulted ∧ !r.lateDone ∧ pastInstance s r = true then latePolicy s e.1
    else s) s

/-! ## Cutters (R442 to R447) -/

/-- VALID cutters of a tenant. -/
def cuttersHeld (s : State) (t : Nat) : Nat := (s.svc.cutters.filter (fun e => e.2.1 == t + 1)).length

/-- A cutter becomes VALID with contents and a generation. -/
def placeCutter (s : State) (n t slot gen : Nat) (d : List Byte) : State :=
  let img := natLE 1 1 ++ natLE 1 t ++ (d.drop 2).take 2 ++ natLE 4 gen ++ d.drop 8
  svcWrite { s with svc := { s.svc with
    cutters := mapSet (0, 0) s.svc.cutters n (t + 1, slot), cgen := mapSet 0 s.svc.cgen n gen } } (cutterAddr s n) img

/-! ## Selection of tokens (R437) -/

/-- z of one logit: divided by the temperature, rounded once. -/
def scaled (logit temp : Num) : Num :=
  match logit, temp with
  | .fin s m e, .fin _ tm te => fpDecode shapeFp32 (convFin .fp32 s m tm (e - te)).code
  | x, _ => x

/-- A NaN ranks as −infinity. -/
def ranked (x : Num) : Num := match x with
  | .nan _ => .inf true
  | y => y

/-- The lowest index of the largest value among indexed values. -/
def argmax : List (Nat × Num) → Option (Nat × Num)
  | [] => none
  | e :: es => match argmax es with
    | some b => if Num.lt e.2 b.2 then some b else some e
    | none => some e

/-- The `n` largest, ties to the lower index. (DEDUCED, log 54.) -/
def topK : Nat → List (Nat × Num) → List (Nat × Num)
  | 0, _ => []
  | n + 1, xs => match argmax xs with
    | some b => b :: topK n (xs.filter (fun e => e.1 != b.1))
    | none => []

/-- The first kept index whose running sum exceeds u, else the last kept one. -/
def firstBeyond (u : Num) : Num → Nat → List (Nat × Num) → Nat
  | _, last, [] => last
  | run, _, (i, p) :: rest =>
    let run' := add32 run p
    if Num.lt u run' then i else firstBeyond u run' i rest

/-- The default table of EXP: the configuration block's (R178, R437). -/
def defaultExp (s : State) : Num → Num := tableExp (mapGet [] s.cfgBlob (dk 0x2320 1))

/-- The token of one output vector, and whether every logit was NaN. (DEDUCED, log 54.) -/
def selectToken (s : State) (r : Req) (pos : Nat) (logits : List Nat) : Nat × Bool :=
  let raw := logits.map (fun w => fpDecode shapeFp32 w)
  let allNan := raw.all (fun x => match x with
    | .nan _ => true
    | _ => false)
  if allNan then (0, true)
  else
    let v := (List.range raw.length).zip (raw.map ranked)
    if !r.sample then (((argmax v).map (·.1)).getD 0, false)
    else
      let t := fpDecode shapeBf16 r.temp
      let kept := topK r.topk (v.map (fun e => (e.1, scaled e.2 t)))
      let zmax := (kept.map (·.2)).foldl Num.max (.inf true)
      let ps := ((List.range raw.length).filterMap (fun i => kept.find? (fun e => e.1 == i))).map (fun e =>
        (e.1, defaultExp s (add32 e.2 zmax.neg)))
      let total := match ps with
        | [] => .zero
        | e :: es => es.foldl (fun a x => add32 a x.2) e.2
      let u := (Num.fin false (hashMix r.seed pos / 2 ^ 11) (-53)).mul total
      (firstBeyond u .zero ((ps.getLast?.map (·.1)).getD 0) ps, false)

/-! ## Notices and the withdrawal (R499, R539, R541) -/

/-- A frame leaves by both service ports with the VLAN tag of 0x1100.08 and the DSCP value of 0x1100.09 (R577, R578). -/
def emitLan (s : State) (f : Out) : State := emit s (.lan (dget s 0x1100 8) (dget s 0x1100 9) f)

/-- Frames of time on the service ports: 1 Sync, 2 Follow_Up, 3 Announce, 4 Delay_Resp, 5 Pdelay_Resp with its Follow_Up. -/
def timeFrame (s : State) (kind : Nat) (fields : List Nat) : State := emitLan s (.frame kind (dget s 0x1201 5 :: fields) [])

/-- The last Announce before a deliberate reset (R499). -/
def lastAnnounce (s : State) : State :=
  if s.clock.silent then s
  else
    let n := (s.clock.announceSeq + 1) % 65536
    timeFrame { s with clock := { s.clock with announceSeq := n, silent := true } } 3 [n, 255, 255]

/-- A presence frame of a kind, 0 PRESENCE, 1 LEAVE, 2 FAIL, tagged with the pair key while it exists (R598). -/
def presenceFrame (s : State) (kind : Nat) : State :=
  if s.tandem.pairKey = [] then s
  else
    let n := s.tandem.presenceSeq + 1
    let body := padTo 16 (bget s 0x1000 5) ++ natLE 1 kind ++ natLE 1 (pairState s) ++ natLE 2 0 ++ natLE 4 0 ++
      natLE 8 s.tandem.heartSeq ++ natLE 8 s.ptp
    let head := natLE 2 0x524E ++ natLE 1 1 ++ natLE 1 0x40 ++ natLE 4 0xFFFFFFFF ++ natLE 8 n ++ natLE 4 0 ++ natLE 2 40 ++
      natLE 2 1 ++ natLE 8 0
    let tag := (Config.hmacSha512 s.tandem.pairKey (head ++ body)).take 16
    emitLan { s with tandem := { s.tandem with presenceSeq := n } } (.nirnar 0xFFFFFFFF 0x40 n 0 (body ++ tag))

/-- A notice: three consecutive presence frames (R598). -/
def notice (s : State) (kind : Nat) : State := presenceFrame (presenceFrame (presenceFrame s kind) kind) kind

/-- A slot's requests pass to the twin (R539 step 2). -/
def handOver (s : State) (m : Nat) : State := mirror s 10 0 32 [m] []

/-- Steps 4 and 5 of R539, once every slot is handed over. -/
def endWithdraw (s : State) : State :=
  let s1 := s.reqs.foldl (fun s e => dropReq s e.1) s
  let s2 := lastAnnounce (notice s1 1)
  let s3 : State := { s2 with tandem := { s2.tandem with
    withdraw := false, withdrawSlots := [], heldPos := [], commands := [], lastTokens := [], promote := [] } }
  dset (dset (setPair s3 6) 0x6100 5 0) 0x6100 0xF 0

/-- A slot's step has ended while a WITHDRAW is in progress: its HANDOVER is sent. -/
def withdrawSlot (s : State) (m : Nat) : State :=
  if s.tandem.withdraw ∧ s.tandem.withdrawSlots.contains m = true then
    let left := s.tandem.withdrawSlots.filter (· != m)
    let s1 := handOver { s with tandem := { s.tandem with withdrawSlots := left } } m
    if left = [] then endWithdraw s1 else s1
  else s

end Sys2Proof.Machine
end

