-- ==== Sys2Proof/Machine/Appends.lean ====
section
/-!
DEFINITION. Appends to key-value windows as the tandem stream carries them (R531), and the completion of ladle slots (R192).
-/

namespace Sys2Proof.Machine

/-- Bytes of one position's d elements, and where in its page frame they lie: kind 0 a key, 1 a value (R393, R397). -/
def Win.posBytes (w : Win) : Nat := 64 * 2 ^ w.dsel * (if w.kfmt = 3 ∨ w.kfmt = 4 then 1 else 2)
def Win.posOffset (w : Win) (pos kind : Nat) : Nat :=
  2048 * (pos % w.ppp / w.kpr * 2 + kind) + pos % w.kpr * w.posBytes

/-- The address of a position of a lane, where its page is mapped. -/
def posAddr (s : State) (w : Win) (lane pos kind : Nat) : Option Nat :=
  let v := readEntry s (w.entryAddr lane (pos / w.ppp))
  if entryValid v then some (entryFrame v + w.posOffset pos kind) else none

/-- A position of a request's window goes to the twin: draft, lane, position, kind and elements, as their stored codewords (R206, R531 KIND 3
and 9). -/
def mirrorPosition (s : State) (kind k draft : Nat) (w : Win) (lane pos sel : Nat) : State :=
  match posAddr s w lane pos sel with
  | some a => mirrorCodes s kind k w.posBytes [draft, lane, pos, sel]
      ((List.range (w.posBytes / 32)).map (fun i => (storedCode s (a + 32 * i)).2.1))
  | none => s

/-- What an append slot of a step wrote is sent to the twin as it completes (R531). -/
def mirrorAppends (s : State) (x : LSlot) : State :=
  let f := ladleSlot x.bits
  match x.step with
  | some m =>
    if mirroring s ∧ (f.op = 0xA ∨ f.op = 0xB) ∧ f.omode = 3 then
      (List.range f.q).foldl (fun s q =>
        let s := svcSee s (x.adst + 16 * q) 12
        match laneAt s m (leNat (peek s (x.adst + 16 * q) 8)) with
        | some (k, draft, w, lane) => mirrorPosition s 3 k draft w lane (leNat (peek s (x.adst + 16 * q + 8) 4)) (boolNat f.kvsel)
        | none => s) s
    else s
  | none => s

/-- LADLE_SLOT_COMPLETE: the oldest slot whose work is done and whose sequences have ended completes, a release at DIE scope
(R192). -/
def execLadleSlotComplete (st : Nat) (s : State) : Res :=
  if st < 8 then
    let l := s.ladle st
    match l.slots.find? (fun x => x.performed && !(l.seqs.any (fun q => q.slot == x.no))) with
    | none => .next s
    | some x =>
      let s1 := s.updLadle st (fun l => { l with slots := l.slots.filter (fun y => y.no != x.no) })
      .next (slotDone (mirrorAppends (countSlot s1 st x) x) (1 + st) x.no x.status)
  else .next s

end Sys2Proof.Machine
end

