-- ==== Sys2Proof/Machine/Serving.lean ====
section
/-!
DEFINITION. Serving commands (R451 to R456) and cutter writes (R442, R443, R446). RING_ENTRY_TAKE hands the SVC the entries it takes;
each command here is the SVC's receipt of the oldest one.
-/

namespace Sys2Proof.Machine

/-! ## The fields that an operation names (R451) -/

/-- Byte ranges (offset, length) that must be 0, and the masks of partly used bytes. -/
def unnamedZero (d : List Byte) : Bool :=
  let op := u8 d 0
  let tail (o : Nat) : Bool := zeroBytes d o (64 - o)
  (if op = 1 ∨ op = 0xA ∨ op = 0xB ∨ op = 0x10 ∨ op = 0x11 then u16 d 2 == 0 else true) &&
    (if op = 1 ∨ op = 9 then tail 16
     else if op = 6 then u8 d 8 / 16 == 0 && tail 9
     else if op = 7 then u8 d 8 % 16 == 0 && zeroBytes d 9 7 && tail 24
     else if op = 8 then tail 9
     else if op = 0xA ∨ op = 0xB then u8 d 9 == 0 && zeroBytes d 12 4 && tail 28
     else if op = 0x10 then zeroBytes d 10 6 && tail 24
     else if op = 0x11 then tail 10
     else tail 8)

/-- Operation codes that are not reserved. -/
def serveOps : List Nat := [1, 2, 3, 4, 5, 6, 7, 8, 9, 0xA, 0xB, 0x10, 0x11]

/-- The oldest serving command that waits for its receipt, when its OP is the one given. -/
def withServe (s : State) (op : Nat) (act : QEntry → State → State) : Res :=
  match s.svc.queue with
  | q :: rest => if u8 q.data 0 = op then .next (act q { s with svc := { s.svc with queue := rest } }) else .next s
  | [] => .next s

/-! ## Commands that name a request -/

/-- A status that the arguments of SETDEADLINE and SETSPEC give, 0 for none. (DEDUCED, log 57.) -/
def argStatus (r : Req) (d : List Byte) : Nat :=
  let op := u8 d 0
  if op = 7 then
    let a := u8 d 8
    let dl := u64 d 16
    if a / 16 % 4 = 3 ∨ a / 64 = 3 ∨ (a / 64 = 0 ∧ dl ≠ 0) ∨ (a / 64 = 2 ∧ dl / 2 ^ 20 ≠ 0) then 0x202
    else if a / 64 = 2 ∧ dl / 65536 % 16 = 0 then 0x102
    else 0
  else if op = 8 then (if 8 < u8 d 8 then 0x202 else if 2 ≤ u8 d 8 ∧ r.draft = false then 0x102 else 0)
  else 0

/-- Whether a request command is legal in a state (R451). -/
def legalIn (op : Nat) (r : Req) : Bool :=
  if op = 2 ∨ op = 6 ∨ op = 7 ∨ op = 8 then r.live
  else if op = 3 then r.state == .queued || r.state == .prefill || r.state == .decode
  else if op = 4 then r.state == .paused
  else if op = 5 then r.ended
  else r.state != .free

/-- The change a legal boundary command makes. -/
def changeReq (s : State) (k : Nat) (d : List Byte) : State :=
  let op := u8 d 0
  if op = 2 then endReq s k .cancelled 0x101
  else s.updReq k (fun r =>
    if op = 3 then { r with prev := r.state, state := .paused }
    else if op = 4 then freshInstant s { r with state := r.prev, prev := .free }
    else if op = 6 then { r with prio := u8 d 8 % 16 }
    else if op = 7 then
      freshInstant s { r with policy := u8 d 8 / 16 % 4, dmode := u8 d 8 / 64, deadline := u64 d 16, lateDone := false }
    else { r with specw := u8 d 8 })

/-- Whether an entry is one the tenant may name (R454). -/
def ownsReq (s : State) (t k : Nat) : Bool :=
  let r := s.req k
  decide (k < 16384) && r.state != .free && !r.shadow && r.tenant == t

/-- A boundary command is applied; `done` lists the requests that entered DONE at this boundary (R453). -/
def applyReqCmd (s : State) (q : QEntry) (done : List Nat) : State × (Origin × List Byte) :=
  let k := u16 q.data 2
  let op := u8 q.data 0
  let r := s.req k
  if !(ownsReq s q.origin.tenant k) then (s, reply q 0x104 k 0 0)
  else if legalIn op r then
    let s1 := changeReq s k q.data
    (s1, reply q 0 k (s1.req k).state.code 0)
  else if op = 2 ∧ done.contains k then
    (bump (s.updReq k (fun r => { r with cancelReq := false })) 0x5000 6 1, reply q 0x105 k r.state.code 0)
  else (cmdState (s.updReq k (fun r => { r with cancelReq := if op = 2 then false else r.cancelReq })), reply q 0x201 k r.state.code 0)

/-! ## Cutters (R442, R443, R446) -/

/-- The contents that CUTTER_WRITE attached to its entry on receipt. -/
def cutterData (q : QEntry) : List Byte := q.data.drop 64

/-- NLAYER, coefficients and scales of a cutter's contents (R443 row 4). -/
def cutterSound (s : State) (slot : Nat) (d : List Byte) : Bool :=
  let n := u8 d 3
  decide (1 ≤ n) && decide (n ≤ 84) && n == (s.slot slot).layers &&
    (List.range n).all (fun j =>
      ((d.drop (64 + 96 * j)).take 64).all (fun b => b != 0x7F && b != 0xFF) && ((d.drop (128 + 96 * j)).take 32).all (· != 0xFF))

/-- Whether a request that is not FREE names a cutter. -/
def cutterNamed (s : State) (n : Nat) : Bool := s.reqs.any (fun e => e.2.state != .free && e.2.cutter == n)

/-- Rows 1 to 3 of R443: 0 when none refuses. -/
def cutterRows (s : State) (t n slot : Nat) : Nat :=
  let foreign := match cutterOf s n with
    | some (o, _) => o != t
    | none => false
  if foreign = true ∨ 16 ≤ slot ∨ bitOf (dget s (0x5110 + slot) 5) t = false then 0x104
  else if (s.slot slot).state ≠ .resident then 0x201
  else if cutterNamed s n then 0x201
  else 0

/-- A cutter's write is stamped and sent to the twin: number, CGEN, tenant and stamp, with the contents, none for a clear. -/
def mirrorCutter (s : State) (n gen t : Nat) (d : List Byte) : State :=
  mirror { s with tandem := { s.tandem with stamps := mapSet 0 s.tandem.stamps (2 ^ 32 + n) s.ptp } } 5 0 d.length [n, gen, t, s.ptp] d

/-- CUTTER_WRITE or CUTTER_CLEAR takes effect. -/
def applyCutter (s : State) (q : QEntry) : State × (Origin × List Byte) :=
  let t := q.origin.tenant
  let n := u16 q.data 8
  if u8 q.data 0 = 0x10 then
    let d := cutterData q
    let slot := u8 d 2
    let code := cutterRows s t n slot
    let quota := dget s 0x5201 (t + 1)
    if code ≠ 0 then (noteStatus s code, reply q code 0 0 0)
    else if !(cutterSound s slot d) then (s, reply q 0x108 0 0 0)
    else if quota ≠ 0 ∧ cutterOf s n = none ∧ quota ≤ cuttersHeld s t then (s, reply q 0x103 0 0 0)
    else
      let gen := mapGet 0 s.svc.cgen n + 1
      let s1 := bump (placeCutter s n t slot gen d) 0x5200 3 1
      (mirrorCutter s1 n gen t d, reply q 0 0 0 0)
  else
    let code := match cutterOf s n with
      | some (_, slot) => cutterRows s t n slot
      | none => if cutterNamed s n then 0x201 else 0
    if code ≠ 0 then (noteStatus s code, reply q code 0 0 0)
    else (mirrorCutter (emptyCutter s n) n (mapGet 0 s.svc.cgen n) t [], reply q 0 0 0 0)

/-- A command that awaited a boundary is applied at it. -/
def applyWaited (s : State) (q : QEntry) (done : List Nat) : State × (Origin × List Byte) :=
  if u8 q.data 0 = 0x10 ∨ u8 q.data 0 = 0x11 then applyCutter s q else applyReqCmd s q done

/-- The commands observed at a boundary of slot m are applied in acceptance order; with their completions. -/
def applyWaiting (s : State) (m : Nat) (done : List Nat) : State × List (Origin × List Byte) :=
  let mine := (s.svc.waiting.filter (fun e => e.1 == m)).map (·.2)
  let s0 : State := { s with svc := { s.svc with waiting := s.svc.waiting.filter (fun e => e.1 != m) } }
  mine.foldl (fun a q =>
    let (s1, r) := applyWaited a.1 q done
    (s1, a.2 ++ [r])) (s0, [])

/-- A command takes effect at its slot's next boundary, or on receipt when the slot has no step in progress (R446, R451). -/
def atBoundaryOf (s : State) (m : Nat) (q : QEntry) : State :=
  if stepBusy s m then { s with svc := { s.svc with waiting := s.svc.waiting ++ [(m, q)] } }
  else
    let (s1, r) := applyWaited s q []
    sendReply (withEnds s s1) r

/-- Receipt of a command that names a request and takes effect at a boundary. -/
def receiveReqCmd (q : QEntry) (s : State) : State :=
  let k := u16 q.data 2
  let r := s.req k
  let op := u8 q.data 0
  if !(ownsReq s q.origin.tenant k) then answer s q 0x104 k 0 0
  else if !(unnamedZero q.data) then answer s q 0x202 k r.state.code 0
  else if argStatus r q.data ≠ 0 then answer s q (argStatus r q.data) k r.state.code 0
  else
    let s1 := mirror s 2 k 64 [] q.data
    if op = 2 ∧ stepBusy s r.slot then
      if r.cancelReq then answer s q 0x109 k r.state.code 0
      else atBoundaryOf (if r.live then s1.setReq k { r with cancelReq := true } else s1) r.slot q
    else atBoundaryOf s1 r.slot q

def execCancel (s : State) : Res := withServe s 2 receiveReqCmd
def execPause (s : State) : Res := withServe s 3 receiveReqCmd
def execReqResume (s : State) : Res := withServe s 4 receiveReqCmd
def execSetprio (s : State) : Res := withServe s 6 receiveReqCmd
def execSetdeadline (s : State) : Res := withServe s 7 receiveReqCmd
def execSetspec (s : State) : Res := withServe s 8 receiveReqCmd

/-- RELEASE: an ended request becomes FREE. -/
def releaseCmd (q : QEntry) (s : State) : State :=
  let k := u16 q.data 2
  let r := s.req k
  if !(ownsReq s q.origin.tenant k) then answer s q 0x104 k 0 0
  else if !(unnamedZero q.data) then answer s q 0x202 k r.state.code 0
  else if r.ended then answer (freeReq (mirror s 2 k 64 [] q.data) k) q 0 k 0 0
  else answer s q 0x201 k r.state.code 0

def execRelease (s : State) : Res := withServe s 5 releaseCmd

/-- QUERY: the 128 B of an entry are copied to DST. -/
def queryCmd (q : QEntry) (s : State) : State :=
  let k := u16 q.data 2
  let r := s.req k
  let dst := u64 q.data 8
  if !(ownsReq s q.origin.tenant k) then answer s q 0x104 k 0 0
  else if !(unnamedZero q.data) then answer s q 0x202 k r.state.code 0
  else if dst % 64 ≠ 0 then answer s q 0x102 k r.state.code 0
  else if mayReach s q.origin.tenant false true dst 128 = false then answer s q 0x104 k r.state.code 0
  else
    let w := storeBytes s 16 q.origin.tenant dst r.image
    answer w.next q w.status k r.state.code 0

def execQuery (s : State) : Res := withServe s 9 queryCmd

/-! ## SUBMIT (R455) -/

def slotsOf (r : Req) : List Nat := r.slot :: (if r.draft then [r.dslot] else [])

/-- Row 3: the ring, the prompt and the slots are the tenant's. (DEDUCED, log 57.) -/
def submitAccess (s : State) (t : Nat) (r : Req) : Bool :=
  (match ringNo s t r.outring with
    | some k => (s.ring k).enable && (s.ring k).type == 3
    | none => false) &&
    mayReach s t false false r.prompt (4 * r.plen) && (slotsOf r).all (fun m => bitOf (dget s (0x5110 + m) 5) t)

/-- The first slot, in EMPTY, LOADING or OFFLINE, of row 4. -/
def submitSlot (s : State) (r : Req) : Option Nat :=
  (slotsOf r).find? (fun m => (s.slot m).state == .empty || (s.slot m).state == .loading || (s.slot m).state == .offline)

/-- Row 5. -/
def submitCutter (s : State) (t : Nat) (r : Req) : Bool := r.cutter == 0xFFFF || cutterOf s r.cutter == some (t, r.slot)

/-- Whether a BF16 temperature is positive and finite. -/
def tempSound (v : Nat) : Bool :=
  match fpDecode shapeBf16 v with
  | .fin neg m _ => !neg && m != 0
  | _ => false

/-- MAXLEN of the window at an address, when its header can be read. -/
def windowMax (s : State) (a : Nat) : Nat :=
  if a % 64 ≠ 0 ∨ insideKvMeta s a 64 = false then 2 ^ 32
  else match peekOk s a 64 with
    | some d => u32 d 0
    | none => 2 ^ 32

/-- Row 6: fields that agree with each other. -/
def submitSound (s : State) (r : Req) : Bool :=
  r.plen != 0 && decide (r.plen < r.maxlen) && decide (r.maxlen ≤ windowMax s r.windowAddr) && r.prompt % 4 == 0 &&
    (decide (r.specw < 2) || r.draft) && (!r.draft || (r.dwindow != 0 && decide (r.maxlen ≤ windowMax s r.dwindow))) &&
    (if r.sample then tempSound r.temp && decide (1 ≤ r.topk) && decide (r.topk ≤ 64) else r.temp == 0 && r.topk == 0) &&
    (r.dmode != 2 || r.deadline / 65536 % 16 != 0)

/-- The status of a SUBMIT's checks from row 2 on with its DETAIL, 0 for none. -/
def submitStatus (s : State) (t : Nat) (d : List Byte) : Nat × Nat :=
  let r := reqOfBytes d
  let quota := dget s 0x5001 (t + 1)
  if descReserved d then (0x202, 0)
  else if !(submitAccess s t r) then (0x104, 0)
  else match submitSlot s r with
    | some m => (0x201, (s.slot m).state.code)
    | none =>
      if !(submitCutter s t r) then (0x108, 0)
      else if !(submitSound s r) then (0x102, 0)
      else if !(windowOk s t r.windowAddr && (!r.draft || windowOk s t r.dwindow)) then (0x315, 0)
      else if lowestFree s = none ∨ (quota ≠ 0 ∧ quota ≤ activeRequests s t) then (0x103, 0)
      else (0, 0)

/-- An accepted SUBMIT fills its entry, and its prefix match begins. -/
def admitReq (q : QEntry) (s : State) (k : Nat) (d : List Byte) (toks : List Nat) : State :=
  let t := q.origin.tenant
  let r := reqOfBytes d
  let r1 : Req := { r with
    state := .queued, matching := true, tenant := t, usertag := u32 q.data 4, tsubmit := s.ptp, tokens := toks
    cgen := if r.cutter = 0xFFFF then 0 else mapGet 0 s.svc.cgen r.cutter }
  let s1 := s.setReq k (freshInstant s r1)
  markStalled { s1 with svc := { s1.svc with submits := mapSet [] s1.svc.submits k [q] } }

/-- What the checks of SUBMIT read of its windows: headers and sieves (R211, R214). -/
def seeSubmit (s : State) (r : Req) : State :=
  let header (s : State) (a : Nat) : State :=
    if a % 64 ≠ 0 ∨ insideKvMeta s a 64 = false then s
    else
      let s1 := svcSee s a 64
      if (winOf s1 a).sieve = 0 then s1 else svcSee s1 (winOf s1 a).sieve 32
  let s1 := header s r.windowAddr
  if r.draft then header s1 r.dwindow else s1

/-- SUBMIT: the checks in order, then admission. -/
def submitCmd (q : QEntry) (s : State) : State :=
  let t := q.origin.tenant
  let desc := u64 q.data 8
  if !(unnamedZero q.data) then answer s q 0x202 0 0 0
  else if s.dev ≠ .service then answer s q 0x201 0 0 0
  else if mayReach s t false false desc 64 = false then answer s q 0x104 0 0 0
  else
    let l := loadBytes s 16 t desc 64
    if l.status ≠ 0 then answer l.next q 0x104 0 0 0
    else if l.poisoned then answer l.next q 0x320 0 0 0
    else
      let (code, detail) := submitStatus l.next t l.bytes
      let r := reqOfBytes l.bytes
      let seen := if code = 0 ∨ code = 0x102 ∨ code = 0x103 ∨ code = 0x315 then seeSubmit l.next r else l.next
      if code ≠ 0 then answer seen q code 0 0 detail
      else
        let p := loadBytes seen 16 t r.prompt (4 * r.plen)
        if p.status ≠ 0 then answer p.next q 0x104 0 0 0
        else if p.poisoned then answer p.next q 0x320 0 0 0
        else match reserveRing p.next t r.outring, lowestFree p.next with
          | some s1, some k => admitReq q s1 k l.bytes ((List.range r.plen).map (fun i => u32 p.bytes (4 * i)))
          | _, _ => answer p.next q 0x251 0 0 0

def execSubmit (s : State) : Res := withServe s 1 submitCmd

/-- The ADMIT message of a request (R531 KIND 1). -/
def mirrorAdmit (s : State) (k : Nat) : State :=
  let r := s.req k
  let salt := keySalt r.tenant r.slot (cutterTerm r)
  let keys := blockKeys salt 0 r.tokens (r.pubLen / 64)
  let s := svcSee s r.windowAddr 64
  mirror s 1 k (208 + 8 * keys.length) []
    (r.image.take 80 ++ padTo 64 (peek s r.windowAddr 64) ++ padTo 64 (s.slot r.slot).digest ++ keys.flatMap (natLE 8))

/-- A request takes the longest prefix that the tree holds, and so does its draft window (R412, R423). -/
def takePrefix (s : State) (req : Nat) (groupMin : Option Nat) : State :=
  let r := s.req req
  let (s1, len, node) := matchPrefix s r.windowAddr r.tenant r.slot (cutterTerm r) r.tokens groupMin
  let (s2, dlen, dnode) := if r.draft then matchPrefix s1 r.dwindow r.tenant r.dslot (cutterTerm r) r.tokens groupMin else (s1, 0, 0)
  s2.updReq req (fun r => { r with
    matching := false, len := len, pubLen := len, lastNode := node, dPubLen := dlen, dLastNode := dnode })

/-- SUBMIT_MATCH_DONE: the prefix match of a SUBMIT ends and its completion is written, under R532 where this device is a backup; `groupMin` is the smallest block count of a
fabric group's members, where the model is sharded (R412, R423). -/
def execSubmitMatchDone (req : Nat) (groupMin : Option Nat) (s : State) : Res :=
  let r := s.req req
  if r.matching ∧ r.state = .queued then .next (settleSubmit (mirrorAdmit (takePrefix s req groupMin) req) req)
  else .next s

/-! ## PIN and UNPIN (R456) -/

def pinCmd (on : Bool) (q : QEntry) (s : State) : State :=
  let t := q.origin.tenant
  let d := q.data
  let slot := u8 d 8
  let cut := u16 d 10
  let prompt := u64 d 16
  let n := u32 d 24 / 64
  if !(unnamedZero d) ∨ 16 ≤ slot ∨ (32768 ≤ cut ∧ cut ≠ 0xFFFF) then answer s q 0x202 0 0 0
  else if bitOf (dget s (0x5110 + slot) 5) t = false ∨ mayReach s t false false prompt (4 * u32 d 24) = false then
    answer s q 0x104 0 0 0
  else
    let l := loadBytes s 16 t prompt (256 * n)
    if l.status ≠ 0 then answer l.next q 0x104 0 0 0
    else if l.poisoned then answer l.next q 0x320 0 0 0
    else
      let term := if cut = 0xFFFF then 0xFFFF else mapGet 0 s.svc.cgen cut * 65536 + cut
      let keys := blockKeys (keySalt t slot term) 0 ((List.range (64 * n)).map (fun i => u32 l.bytes (4 * i))) n
      let ids := matchNodes l.next t keys
      let s1 := ids.foldl (fun s id => updNode s id (fun x => { x with pinned := on })) l.next
      answer (mirror s1 7 0 (16 * ids.length) (boolNat on :: keys.take ids.length) []) q 0 0 0 ids.length

def execPin (s : State) : Res := withServe s 0xA (pinCmd true)
def execUnpin (s : State) : Res := withServe s 0xB (pinCmd false)

/-! ## Receipt of cutter operations -/

/-- The source of a CUTTER_WRITE: its header, then all of it; a status other than 0 refuses it. -/
def readCutterSource (s : State) (t src : Nat) : State × Nat × List Byte :=
  if mayReach s t false false src 64 = false then (s, 0x104, [])
  else
    let h := loadBytes s 16 t src 64
    if h.status ≠ 0 then (h.next, 0x104, [])
    else if h.poisoned then (h.next, 0x320, [])
    else
      let n := 64 + 96 * u8 h.bytes 3
      if mayReach h.next t false false src n = false then (h.next, 0x104, [])
      else
        let l := loadBytes h.next 16 t src n
        if l.status ≠ 0 then (l.next, 0x104, []) else if l.poisoned then (l.next, 0x320, []) else (l.next, 0, l.bytes)

def cutterWriteCmd (q : QEntry) (s : State) : State :=
  let t := q.origin.tenant
  if !(unnamedZero q.data) ∨ 32768 ≤ u16 q.data 8 then answer s q 0x202 0 0 0
  else if dget s 0x5200 1 = 0 then answer s q 0x108 0 0 0
  else
    let (s1, code, d) := readCutterSource s t (u64 q.data 16)
    if code ≠ 0 then answer s1 q code 0 0 0
    else atBoundaryOf s1 (u8 d 2) { q with data := q.data.take 64 ++ d }

def execCutterWrite (s : State) : Res := withServe s 0x10 cutterWriteCmd

def cutterClearCmd (q : QEntry) (s : State) : State :=
  if !(unnamedZero q.data) ∨ 32768 ≤ u16 q.data 8 then answer s q 0x202 0 0 0
  else if dget s 0x5200 1 = 0 then answer s q 0x108 0 0 0
  else match cutterOf s (u16 q.data 8) with
    | some (_, slot) => atBoundaryOf s slot q
    | none =>
      let (s1, r) := applyCutter s q
      sendReply s1 r

def execCutterClear (s : State) : Res := withServe s 0x11 cutterClearCmd

end Sys2Proof.Machine
end

