-- ==== Sys2Proof/Machine/Programs.lean ====
section
/-!
DEFINITION. Program sections of the model slots and their placement in the serving banks (R476).
-/

namespace Sys2Proof.Machine

/-! ## Programs (R476) -/

/-- The image of engine e in a program section. -/
def sectionImage (prog : List Byte) (e : Nat) : List Byte := (prog.drop (u32 prog (8 * e))).take (u32 prog (8 * e + 4))

/-- Whether the directory's entries are whole words inside the section. -/
def sectionSound (prog : List Byte) : Bool :=
  decide (72 ≤ prog.length) && (List.range 9).all (fun e =>
    u32 prog (8 * e) % 4 == 0 && u32 prog (8 * e + 4) % 4 == 0 && decide (u32 prog (8 * e) + u32 prog (8 * e + 4) ≤ prog.length))

/-- 32 bit units of a byte string. -/
def unitsOf (d : List Byte) : List Nat := (List.range (d.length / 4)).map (fun i => u32 d (4 * i))

/-- The CTRL slot's TARGET moved by the image's position, for the operations that have one. -/
def relocateCtrl (v pos : Nat) : Nat :=
  let op := bitsOf v 61 58
  if 8 ≤ op ∧ op ≤ 11 then v / 2 ^ 16 * 2 ^ 16 + (v % 2 ^ 16 + pos) % 2 ^ 16 else v

/-- One STEP word's units with its TARGET moved. -/
def relocateWord (us : List Nat) (pos : Nat) : List Nat :=
  match slotOf us 31 with
  | some v =>
    let k := slotStart (us.getD 0 0) 31
    let w := relocateCtrl v pos
    us.take k ++ [w % 2 ^ 32, w / 2 ^ 32] ++ us.drop (k + 2)
  | none => us

/-- Every word of an image, at most `fuel` of them. (DEDUCED, log 65.) -/
def relocate (pos : Nat) : Nat → List Nat → List Nat
  | 0, us => us
  | _, [] => []
  | fuel + 1, u :: us =>
    let n := max (wordUnits u) 1
    relocateWord ((u :: us).take n) pos ++ relocate pos fuel ((u :: us).drop n)

/-- An image as it lies in a bank from `pos` on. -/
def placedImage (d : List Byte) (pos : Nat) : List Byte :=
  let us := unitsOf d
  (relocate pos us.length us).flatMap (natLE 4)

/-- A bank's contents: what it holds so far, then an image at the next multiple of 256 B. -/
def appendImage (bank d : List Byte) : List Byte :=
  if d = [] then bank
  else
    let pos := ceilDiv bank.length 256 * 256
    padTo pos bank ++ placedImage d pos

/-- Slots whose programs lie in the banks. -/
def Slot.hasPrograms (x : Slot) : Bool := x.state == .resident || x.state == .restoring

/-- The serving bank of engine e with the programs given for slot m in place of its own. -/
def servingBank (s : State) (e m : Nat) (progs : List (List Byte)) : List Byte :=
  (List.range 16).foldl (fun b k =>
    let x := s.slot k
    let d := if k = m then progs.getD e [] else if x.hasPrograms then x.programs.getD e [] else []
    appendImage b d) (mapGet [] s.seqImages e)

/-- Writing a bank whole. -/
def writeBank (s : State) (e : Nat) (bank : Bool) (d : List Byte) : State :=
  let base := if bank then 2048 else 0
  (List.range (ceilDiv d.length 32)).foldl (fun s i =>
    setImem s e (base + i) (encode288 (BitVec.ofNat 256 (leNat (padTo 32 ((d.drop (32 * i)).take 32)))))) s

/-- The serving banks are placed afresh in each sequencer's unselected bank and committed; the SVC then posts FLIP entries. (DEDUCED, log 65.) -/
def placePrograms (s : State) (m : Nat) (progs : List (List Byte)) : State :=
  (List.range 9).foldl (fun s e =>
    let d := servingBank s e m progs
    if d = [] then s
    else
      let b := !(s.engine e).bank
      (writeBank s e b d).updEngine e (fun g => commitBank g b (ceilDiv d.length 4) 0)) s

/-- Whether every engine's images fit its bank. -/
def programsFit (s : State) (m : Nat) (progs : List (List Byte)) : Bool :=
  (List.range 9).all (fun e => decide ((servingBank s e m progs).length ≤ bankBytes e))

/-- Whether this is a serving boundary of every slot: the serving context is in force and no step is in progress. -/
def servingIdle (s : State) : Bool := s.ctx.current == 0 && s.ctx.switch.isNone && (List.range 16).all (fun m => !(stepBusy s m))

/-- The images that remain are placed afresh at the next serving boundary, at once where that is now (R476). -/
def placeSoon (s : State) : State :=
  if servingIdle s then placePrograms s 16 [] else { s with svc := { s.svc with place := true } }

/-- A serving boundary places what waits to be placed. -/
def placeAtBoundary (s : State) : State :=
  if s.svc.place ∧ s.ctx.current = 0 ∧ s.ctx.switch.isNone = true then
    placePrograms { s with svc := { s.svc with place := false } } 16 []
  else s

end Sys2Proof.Machine
end

