-- ==== Sys2Proof/Machine/Steps.lean ====
section
/-!
DEFINITION. Steps of the model slots: the schedule's reservations (R500, R502), boundaries and selection (R431 to R433), the draft
phase (R438), commits and discards (R434 to R441), the promotion of SHADOW entries (R537).
-/

namespace Sys2Proof.Machine

/-! ## The schedule table (R500) -/

structure SchedEntry where
  phase : Nat
  kind : Nat
  slot : Nat
  ctx : Nat
  window : Nat
  spare : Nat
  deriving DecidableEq, Repr

def schedEntry (v : Nat) : SchedEntry :=
  { phase := bitsOf v 63 48, kind := bitsOf v 47 44, slot := bitsOf v 43 40, ctx := bitsOf v 39 34, window := bitsOf v 31 16,
    spare := bitsOf v 33 32 + bitsOf v 15 0 }

/-- The entries of a table up to its first END. -/
def tableEntries (d : List Byte) : List SchedEntry :=
  ((List.range 256).map (fun i => schedEntry (u64 d (8 * i)))).takeWhile (fun e => e.kind != 0)

def schedule (s : State) : List SchedEntry := tableEntries (bget s 0x1210 (1 + dget s 0x1210 3 % 2))

/-- Whether a slot is scheduled (R502). -/
def scheduled (s : State) (m : Nat) : Bool := (schedule s).any (fun e => e.kind == 1 && e.slot == m)

/-- Whether a step of a slot may start now (R431, R502): at an open reservation, or unscheduled in the serving context. -/
def mayStart (s : State) (m : Nat) : Bool :=
  if scheduled s m then s.cad.open_.any (fun e => e.1 == m && decide (s.ptp ≤ e.2)) else s.ctx.current == 0 && s.ctx.switch.isNone

/-! ## Boundaries -/

/-- Requests of tenants in reset become FREE at their slot's boundary (R467 step 2). -/
def resetAtBoundary (s : State) (m : Nat) : State :=
  s.tenants.foldl (fun s e =>
    if (s.tenant e.1).resetSlots.contains m then
      let s1 := s.reqs.foldl (fun s x => if (s.req x.1).tenant = e.1 ∧ (s.req x.1).slot = m then dropReq s x.1 else s) s
      let s2 : State := { s1 with svc := { s1.svc with
        waiting := s1.svc.waiting.filter (fun w => !(w.1 == m && w.2.origin.tenant == e.1)) } }
      s2.updTenant e.1 (fun t => { t with resetSlots := t.resetSlots.filter (· != m) })
    else s) s

/-- R420 at the boundary of slot m: requests that map a poisoned page fail, those of slots whose steps run at their own boundary;
prefix nodes of the page lose VALID. (DEDUCED, log 27.) -/
def poisonAtBoundary (s : State) (m : Nat) : State :=
  let hits (page : Nat) (r : Req) : Bool := r.live && !r.shadow && reqMaps s r page
  let s1 := s.kvPoisoned.foldl (fun s page =>
    s.reqs.foldl (fun s e =>
      if hits page (s.req e.1) && (e.2.slot == m || !(stepBusy s e.2.slot)) then endReq s e.1 .failed 0x314 else s) s) s
  let s2 := s.kvPoisoned.foldl invalidatePage s1
  { s2 with kvPoisoned := s2.kvPoisoned.filter (fun page => s2.reqs.any (fun e => hits page e.2)) }

/-- Requests that use an OFFLINE slot fail (R472, R669). -/
def offlineAtBoundary (s : State) (m : Nat) : State :=
  if (s.slot m).state = .offline then
    s.reqs.foldl (fun s e =>
      if e.2.uses m && e.2.live && !e.2.shadow && (e.2.slot == m || !(stepBusy s e.2.slot)) then endReq s e.1 .failed 0x302 else s) s
  else s

/-- The token record that delivers a promoted request's tokens of the partner's last committed step again (R537 step 3). -/
def redeliver (s : State) (k : Nat) : List (Nat × List Byte) :=
  let (pos, toks) := mapGet (0, []) s.tandem.lastTokens k
  if toks = [] then [] else [(outRing s (s.req k), tokenRecord s k (s.req k) pos toks false (s.req k).ended)]

/-- A SHADOW entry becomes this device's own; an UNPROTECTED one whose slot differs fails (R537 steps 1 and 2). -/
def promoteReq (s : State) (k : Nat) : State :=
  let r := s.req k
  let s := seeWindows s r
  let s1 := releaseBeyond s (winOf s r.windowAddr) r.len
  let s2 := if r.draft then releaseBeyond s1 (winOf s1 r.dwindow) r.len else s1
  let s3 := s2.setReq k { r with shadow := false, taken := true }
  let s4 := match reserveRing s3 r.tenant r.outring with
    | some x => x
    | none => s3
  if r.isProtected = false ∧ r.live ∧ padTo 64 (s.slot r.slot).digest ≠ padTo 64 r.digest then endReq s4 k .failed 0x514 else s4

/-- The primary of a FENCED pair has promoted every entry: SOLO, and back to the device state it left (R529, R536). -/
def fencedDone (s : State) : State :=
  if s.tandem.promote = [] ∧ pairState s = 5 ∧ dget s 0x6100 5 = 1 then
    dset (setPair { s with dev := s.tandem.left } 4) 0x6100 0xF 0
  else s

/-- Promotion of a slot's SHADOW entries at its boundary (R537, R539). -/
def promoteAtBoundary (s : State) (m : Nat) : State :=
  if s.tandem.promote.contains m then
    let ks := (s.reqs.filter (fun e => e.2.shadow && e.2.slot == m)).map (·.1)
    let s0 : State := { s with tandem := { s.tandem with promote := s.tandem.promote.filter (· != m), handed := s.tandem.handed.filter (· != m) } }
    let s1 := ks.foldl promoteReq s0
    let s2 := if s.tandem.handed.contains m then s1 else writeAllRecords s1 (ks.flatMap (redeliver s1))
    let mine (q : QEntry) : Bool := (s2.req (u16 q.data 2)).slot == m
    let cmds := s2.tandem.commands.filter mine
    let s3 := cmds.foldl (fun s q => (applyReqCmd s q []).1)
      { s2 with tandem := { s2.tandem with commands := s2.tandem.commands.filter (fun q => !(mine q)) } }
    let s4 := fencedDone (bump s3 0x6100 0xB ks.length)
    if ks = [] then s4 else recordFault s4 (faultOf 0x512 clsCorrected kindDevice 0 0xFF ks.length)
  else s

/-- Function tables written since the last boundary apply to the slots issued from here on; those in flight keep theirs (R201). -/
def tablesApply (s : State) : State :=
  let keep (x : LSlot) : LSlot :=
    if x.performed then x
    else { x with old := s.svc.oldTables.foldl (fun m e => if m.any (fun o => o.1 == e.1) then m else mapInsert m e.1 e.2) x.old }
  let s1 := if s.svc.oldTables = [] then s
    else (List.range 8).foldl (fun s st => s.updLadle st (fun l => { l with slots := l.slots.map keep })) s
  { s1 with svc := { s1.svc with oldTables := [] } }

/-- What every boundary of a slot does besides its commit: resets, promotion, poisoned pages, an OFFLINE slot, deadlines of requests
that no step carried, ends and eviction; function tables written since apply from here on (R201), and programs are placed (R476). -/
def boundaryRest (s : State) (m : Nat) (carried : List Nat) : State :=
  let s1 := promoteAtBoundary (resetAtBoundary s m) m
  let s2 := lateWaiting (offlineAtBoundary (poisonAtBoundary s1 m) m) m carried
  let s3 := evictPages (finishReqs s2 (newlyEnded s1 s2)) s2.svc.nodes.length
  placeAtBoundary (tablesApply s3)

/-- The commands observed at a boundary without a commit. -/
def observeCommands (s : State) (m : Nat) : State :=
  let (s1, rs) := applyWaiting s m []
  rs.foldl sendReply (withEnds s s1)

/-! ## Selection (R432, R433) -/

/-- Whether a request precedes another in the order of R432. -/
def precedes (s : State) (a b : Nat) : Bool :=
  let x := s.req a
  let y := s.req b
  if x.prio ≠ y.prio then decide (y.prio < x.prio)
  else
    let later : Bool :=
      if x.tsubmit ≠ y.tsubmit then decide (x.tsubmit < y.tsubmit) else decide (a < b)
    match instanceTime s x, instanceTime s y with
    | some i, some j => if i < j then true else if j < i then false else later
    | some _, none => true
    | none, some _ => false
    | none, none => later

def insertReq (s : State) (k : Nat) : List Nat → List Nat
  | [] => [k]
  | x :: xs => if precedes s k x then k :: x :: xs else x :: insertReq s k xs

/-- The candidates of a slot, in order. -/
def candidates (s : State) (m : Nat) : List Nat :=
  ((s.reqs.filter (fun e =>
    let r := e.2
    r.slot == m && !r.shadow && !r.stalled && !r.matching && (s.tenant r.tenant).state != .faulted &&
      (r.state == .decode || r.state == .prefill || (r.state == .queued && preparedFor s e.1 r)))).map (·.1)).foldr (insertReq s) []

/-- A request left out for want of pages; after the wait limit it ends FAILED (R407). (DEDUCED, log 59.) -/
def skipStarved (s : State) (k : Nat) : State :=
  let r := s.req k
  if r.starved then
    let s1 := bump (s.setReq k { r with noPage := r.noPage + 1 }) 0x2330 0xA 1
    if dget s 0x2330 5 ≤ r.noPage + 1 then endReq s1 k .failed 0x316 else s1
  else s

/-- Requests of a slot still QUEUED whose preparation found no page: the step leaves them out as well (R407, R432). -/
def starvedQueued (s : State) (m : Nat) : List Nat :=
  (s.reqs.filter (fun e => e.2.slot == m && e.2.state == .queued && e.2.starved && !e.2.shadow && !(preparedFor s e.1 e.2))).map (·.1)

/-- Admission of the candidates in order: the state with their reservations, the prefill budget left, and the batch (R432, R559). -/
def admitBatch (s : State) (m : Nat) : List Nat → Nat → List StepReq → State × List StepReq
  | [], _, acc => (s, acc)
  | k :: ks, budget, acc =>
    let r := s.req k
    if dget s (0x5140 + m) 2 ≤ acc.length then (s, acc)
    else
      let n := if r.state = .decode then 0 else min (r.plen - r.len) budget
      if r.state ≠ .decode ∧ n = 0 then admitBatch s m ks budget acc
      else if !(preparedFor s k r) then admitBatch (skipStarved s k) m ks budget acc
      else match reserveRing s r.tenant r.outring with
        | none => admitBatch s m ks budget acc
        | some s1 =>
          let b : StepReq := { req := k, prefill := n, w := if r.state = .decode then r.window else 0 }
          admitBatch s1 m ks (budget - n) (acc ++ [b])

/-- A request's cutter records are staged: a poisoned cutter fails the requests that name it at the commit (R445, R447). -/
def stageCutter (a : State × List StepReq) (b : StepReq) : State × List StepReq :=
  let s := a.1
  let r := s.req b.req
  if r.cutter = 0xFFFF then (s, a.2 ++ [b])
  else
    let l := loadBytes s 16 r.tenant (cutterAddr s r.cutter) (64 + 96 * (s.slot r.slot).layers)
    if l.status ≠ 0 ∨ l.poisoned = true then
      let s1 := if cutterOf l.next r.cutter = none then l.next else bump (emptyCutter l.next r.cutter) 0x5200 4 1
      (s1, a.2 ++ [{ b with failed := 0x320 }])
    else (l.next, a.2 ++ [b])

/-- Vectors that a step's decode requests contribute (R433). (DEDUCED, log 60.) -/
def decodeVectors (batch : List StepReq) : Nat :=
  (batch.map (fun b => if b.prefill = 0 then max 1 b.w else 0)).foldl (· + ·) 0

/-- The requests of a batch enter PREFILL where they were QUEUED, and the step is under way. -/
def beginStep (s : State) (m : Nat) (batch : List StepReq) : State :=
  let v := decodeVectors batch
  let ladle : Bool := decide (0 < v) && decide (v ≤ dget s (0x5140 + m) 1)
  let s1 := batch.foldl (fun s b => s.updReq b.req (fun r => { r with
    state := if r.state = .queued then .prefill else r.state, noPage := 0, starved := false })) s
  let s2 := setStep s1 m {
    batch := batch, phase := if batch.any (fun b => decide (2 ≤ b.w)) then .draft else .main, onGrid := !ladle,
    reserved := scheduled s m, since := s.now }
  dset s2 (0x5140 + m) 6 (if ladle then 1 else 2)

/-- The batch of a slot is admitted, its cutters staged, and its step begins. -/
def startBatch (s : State) (slot : Nat) : State :=
  let (s1, b0) := admitBatch s slot (candidates s slot) (dget s (0x5140 + slot) 3) []
  let s2 := (starvedQueued s slot).foldl skipStarved s1
  let s3 := finishReqs s2 (newlyEnded s s2)
  if b0 = [] then s3
  else
    let (s4, batch) := b0.foldl stageCutter (s3, [])
    let s5 := beginStep s4 slot batch
    { s5 with cad := { s5.cad with open_ := s5.cad.open_.eraseP (fun e => e.1 == slot) } }

/-- STEP_START: at a boundary or reservation of a slot without a step in progress the SVC selects a batch and starts a step. -/
def execStepStart (slot : Nat) (s : State) : Res :=
  if 16 ≤ slot then .next s
  else if stepBusy s slot ∨ (s.dev != .service && !(s.dev == .fenced && s.tandem.promote.contains slot)) = true then .next s
  else
    let s1 := boundaryRest (observeCommands s slot) slot []
    if (s1.slot slot).state ≠ .resident ∨ mayStart s1 slot = false ∨ s1.tandem.withdraw ∨ s1.dev ≠ .service then .next s1
    else .next (startBatch s1 slot)

/-! ## Draft phase (R438) -/

/-- The vectors of logits that the environment gives for a request. (DESIGN CHOICE, log 53.) -/
def logitsOf (outs : List (Nat × List (List Nat))) (k : Nat) : List (List Nat) := ((outs.find? (fun e => e.1 == k)).map (·.2)).getD []

/-- Whether a request has `n` vectors, none empty. (DESIGN CHOICE, log 10.) (DESIGN CHOICE, log 53.) -/
def vectorsFit (outs : List (Nat × List (List Nat))) (k n : Nat) : Bool :=
  (logitsOf outs k).length == n && (logitsOf outs k).all (fun v => v != [])

/-- The drafts of a request are selected from its vectors (R438, R439). -/
def pickDrafts (s : State) (logits : List (Nat × List (List Nat))) (poisoned : List Nat) (b : StepReq) : StepReq :=
  if b.w < 2 then b
  else if poisoned.contains b.req then { b with failed := if b.failed = 0 then 0x320 else b.failed }
  else
    let r := s.req b.req
    let vs := logitsOf logits b.req
    { b with drafts := (List.range b.w).map (fun i => (selectToken s r (r.len + 1 + i) (vs.getD i [])).1) }

/-- DRAFT_PHASE_DONE: the drafts of every request with W ≥ 2 are selected from its W vectors of draft logits; `poisoned` lists the
requests of which a draft logit was poison. -/
def execDraftPhaseDone (slot : Nat) (logits : List (Nat × List (List Nat))) (poisoned : List Nat) (s : State) : Res :=
  let st := stepAt s slot
  if 16 ≤ slot then .next s
  else if st.batch = [] ∨ st.phase ≠ .draft then .next s
  else if st.batch.any (fun b => decide (2 ≤ b.w) && !(poisoned.contains b.req) && !(vectorsFit logits b.req b.w)) then .next s
  else
    .next (setStep s slot { st with phase := .main, batch := st.batch.map (pickDrafts s logits poisoned) })

/-! ## Commit (R435 to R441) -/

/-- Output vectors a request owes at the commit. -/
def vectorsDue (s : State) (b : StepReq) : Nat :=
  let r := s.req b.req
  if b.prefill = 0 then max 1 b.w else if r.len + b.prefill = r.plen then 1 else 0

/-- The tokens of a request's output vectors, from position `pos` on; a vector of nothing but NaN is recorded. -/
def selectAll (s : State) (m : Nat) (r : Req) (pos : Nat) (vs : List (List Nat)) : State × List Nat :=
  (vs.zip (List.range vs.length)).foldl (fun a v =>
    let (t, nan) := selectToken s r (pos + v.2) v.1
    (if nan then nonfiniteEvent a.1 (some m) 0 r.tenant 255 1 else a.1, a.2 ++ [t])) (s, [])

/-- Drafts accepted: the longest agreement of drafts and outputs (R439). -/
def acceptedDrafts : List Nat → List Nat → Nat
  | d :: ds, o :: os => if d = o then acceptedDrafts ds os + 1 else 0
  | _, _ => 0

/-- Committed tokens before they are cut. -/
def committedTokens (w : Nat) (drafts outs : List Nat) : List Nat :=
  let k := acceptedDrafts drafts outs
  if w < 2 then outs.take 1
  else if k < w then drafts.take k ++ (outs.drop k).take 1
  else drafts

/-- Cut after the first end token (R440). -/
def cutAfter (stop : Nat) : List Nat → List Nat
  | [] => []
  | t :: ts => if t = stop then [t] else t :: cutAfter stop ts

/-- The end token of a request (R427). (DEDUCED, log 60.) -/
def endToken (s : State) (r : Req) : Nat := if r.endtok = 0xFFFFFFFF then (s.slot r.slot).endTok else r.endtok

/-- Why a request of the batch fails at the commit, 0 for not at all (R435 step 2). -/
def failureOf (s : State) (b : StepReq) (poisoned : List Nat) : Nat :=
  if b.failed ≠ 0 then b.failed
  else if poisoned.contains b.req then 0x320
  else if s.kvPoisoned.any (reqMaps s (s.req b.req)) then 0x314
  else 0

/-- One request's part of a commit (R435 steps 1 to 3): the state, and its tokens with the position of the first. -/
def commitReq (s : State) (m : Nat) (b : StepReq) (vs : List (List Nat)) (poisoned : List Nat) : State × Option (Nat × List Nat) :=
  let r := s.req b.req
  let code := failureOf s b poisoned
  if code ≠ 0 then (endReq s b.req .failed code, none)
  else
    let prefill := b.prefill ≠ 0
    let len0 := if prefill then r.len + b.prefill else r.len
    let pos := if prefill then r.plen else r.len + 1
    let (s1, outs) := selectAll s m r pos vs
    let raw := if prefill then outs else committedTokens b.w b.drafts outs
    let cut := cutAfter (endToken s r) raw
    let toks := if prefill then cut else cut.take (r.maxlen - 1 - r.len)
    let len := if prefill then len0 else r.len + toks.length
    let k := if b.w < 2 then 0 else acceptedDrafts b.drafts outs
    let s2 := if b.w < 2 then s1 else bump (bump s1 0x5000 8 b.w) 0x5000 9 k
    let r1 : Req := { r with
      len := len, delivered := r.delivered + toks.length, pendingTok := toks.getLast?.getD r.pendingTok
      tokens := r.tokens ++ toks, accepted := r.accepted + k, steps := r.steps + 1, tcommit := s.ptp
      state := if prefill ∧ toks ≠ [] then .decode else r.state }
    let s3 := s2.setReq b.req r1
    let atEnd : Bool := toks != [] && (toks.contains (endToken s r) || decide (r.maxlen ≤ len + 1))
    (if atEnd then endReq s3 b.req .done 0 else s3, some (pos, toks))

/-- What the ladles counted in a step, layer by layer, and the wide copies freed with it (R46, R48, R49, R53). Copies of sweeps outside
every step are freed at the boundary of any. (DESIGN CHOICE, log 20.) -/
def countStep (s : State) (m : Nat) : State :=
  let layers := ((s.stepSats ++ s.stepNonfinite).map (·.1)).eraseDups.filter (fun k => k / 256 == m)
  let s1 := layers.foldl (fun s k =>
    let sats := mapGet 0 s.stepSats k
    let nonf := mapGet 0 s.stepNonfinite k
    ladleEvents (countLadle s (some m) (k % 256) sats nonf) (some m) 0 0xFF (k % 256) sats nonf) s
  let s2 : State := { s1 with stepSats := mapDrop s1.stepSats (fun k => k / 256 == m), stepNonfinite := mapDrop s1.stepNonfinite (fun k => k / 256 == m) }
  { s2 with grid := { s2.grid with wide := s2.grid.wide.filter (fun c => c.step.isSome && c.step != some m) } }

/-- Steps 7 to 9 of R435: reservations are released, records and completions written, ends carried out, excess positions released,
and the boundary reached. -/
def finishCommit (s : State) (m : Nat) : State :=
  let st := stepAt s m
  let ended := (st.saved.filter (fun e => !e.2.ended && (s.req e.1).ended)).map (·.1)
  let s1 := st.batch.foldl (fun s b => unreserveRing s (s.req b.req).tenant (s.req b.req).outring) s
  let s2 := ended.foldl (fun s k => unreserveRing s (s.req k).tenant (s.req k).outring) s1
  let s3 := st.answers.foldl sendReply (ended.foldl answerSubmit (writeAllRecords s2 st.records))
  let count := (st.records.map (fun r => u8 r.2 6)).foldl (· + ·) 0
  let s4 := bump (bump (bump s3 0x5000 3 1) (0x5140 + m) 5 1) 0x5000 4 count
  let s5 := ended.foldl closeReq s4
  let s6 := st.batch.foldl (fun s b =>
    let r := s.req b.req
    let top := (mapGet {} st.saved b.req).len + max 1 b.w
    if r.live ∧ b.prefill = 0 ∧ r.len < top then
      let s := seeWindows s r
      let s1 := releaseBeyond s (winOf s r.windowAddr) r.len
      if r.draft then releaseBeyond s1 (winOf s1 r.dwindow) r.len else s1
    else s) s5
  withdrawSlot (boundaryRest (setStep s6 m { batch := [] }) m (st.batch.map (·.req))) m

/-- The late rules of R449 for a request that the step carried, by its instance before the commit. (DEDUCED, log 61.) -/
def lateCarried (s : State) (k : Nat) (late : Bool) : State :=
  let s1 :=
    if late then
      let s0 := bump (s.updReq k (fun r => { r with latesteps := r.latesteps + 1 })) 0x5000 5 1
      if (s0.req k).live ∧ (s0.req k).state ≠ .paused then latePolicy s0 k else s0
    else s
  s1.updReq k (fun r => if r.live then freshInstant s r else r)

/-- The COMMIT message (R531 KIND 4): slot, step number, and per request LEN, PENDING, state, STATUS, PRIO, DMODE and its tokens. -/
def mirrorCommit (s : State) (m : Nat) (parts : List (Nat × Nat × List Nat)) : State :=
  mirror s 4 0 (32 + 64 * parts.length)
    ([m, dget s (0x5140 + m) 5 + 1, parts.length] ++ parts.flatMap (fun p =>
      let r := s.req p.1
      [p.1, r.len, r.pendingTok, r.state.code, r.status, r.prio, r.dmode, p.2.1, p.2.2.length] ++ p.2.2)) []

/-- Whether step 6 of R435 waits for the twin (R533). (DEDUCED, log 61.) -/
def waitsForTwin (s : State) (m : Nat) : Bool :=
  pairState s == 3 || (pairState s == 2 && (stepAt s m).batch.any (fun b => (s.req b.req).isProtected))

/-- Whether work of a slot's step is still under way: a step commits when every slot of it has completed, re-runs included. -/
def stepWorkLeft (s : State) (m : Nat) : Bool :=
  s.grid.ops.any (fun o => o.step == some m) || s.ladles.any (fun e => e.2.slots.any (fun l => l.step == some m)) ||
    s.movers.any (fun e => e.2.queue.any (fun q => q.origin.step == some m) ||
      (match e.2.run with
        | some r => r.origin.step == some m
        | none => false)) ||
    s.engines.any (fun e => e.2.queue.any (fun q => q.origin.step == some m) || e.2.runs.any (fun r => r.origin.step == some m))

/-- Steps 1 to 6 of R435. -/
def commitStep (s : State) (m : Nat) (outs : List (Nat × List (List Nat))) (poisoned : List Nat) : State :=
  let st := stepAt s m
  let mine := s.reqs.filter (fun e => e.2.slot == m)
  let (s1, parts) := st.batch.foldl (fun (a : State × List (Nat × Nat × List Nat)) b =>
    let (x, p) := commitReq a.1 m b (logitsOf outs b.req) poisoned
    (x, match p with
      | some (pos, toks) => a.2 ++ [(b.req, pos, toks)]
      | none => a.2)) (s, [])
  let done := (mine.filter (fun e => e.2.state != .done && (s1.req e.1).state == .done)).map (·.1)
  let cmds := (s1.svc.waiting.filter (fun e => e.1 == m)).map (·.2)
  let (s2, answers) := applyWaiting s1 m done
  let late (k : Nat) : Bool := pastInstance s (s.req k)
  let s3 := parts.foldl (fun s p => lateCarried s p.1 (late p.1)) s2
  let s4 := lateWaiting s3 m (st.batch.map (·.req))
  let ended := (mine.filter (fun e => !e.2.ended && (s4.req e.1).ended)).map (·.1)
  let others := ended.filter (fun k => !(parts.any (fun p => p.1 == k)))
  let own : List (Nat × List Byte) := parts.filterMap (fun (p : Nat × Nat × List Nat) =>
    let r := s4.req p.1
    if p.2.2 = [] ∧ r.ended = false then none
    else some (outRing s4 r, tokenRecord s4 p.1 r (if p.2.2 = [] then r.len else p.2.1) p.2.2 (late p.1) r.ended))
  let rest := others.map (fun k => (outRing s4 (s4.req k), tokenRecord s4 k (s4.req k) (s4.req k).len [] false true))
  let s5 := mirrorCommit s4 m parts
  setStep s5 m { st with phase := .acking, since := s.now, waitSeq := s5.tandem.txSeq, saved := mine, records := own ++ rest,
                         answers := answers, cmds := cmds }

/-- STEP_COMMIT: every slot of the step has completed; `outputs` gives each request's vectors of logits, `poisoned` the requests of
which a logit was poison. With a twin to wait for, steps 7 to 9 follow its acknowledgment. -/
def execStepCommit (slot : Nat) (outputs : List (Nat × List (List Nat))) (poisoned : List Nat) (s : State) : Res :=
  let st := stepAt s slot
  if 16 ≤ slot then .next s
  else if st.batch = [] ∨ st.phase ≠ .main ∨ st.discard ∨ stepWorkLeft s slot = true then .next s
  else if st.batch.any (fun b => !(poisoned.contains b.req) && b.failed == 0 && !(vectorsFit outputs b.req (vectorsDue s b))) then
    .next s
  else
    let s1 := commitStep (countStep s slot) slot outputs poisoned
    .next (if waitsForTwin s1 slot then s1 else finishCommit s1 slot)

/-- A step is discarded: nothing is delivered, and its boundary observes the commands that wait (R434, R453). -/
def discardStep (s : State) (m : Nat) : State :=
  let st := stepAt s m
  let s1 := st.batch.foldl (fun s b => unreserveRing s (s.req b.req).tenant (s.req b.req).outring) s
  withdrawSlot (boundaryRest (observeCommands (setStep s1 m { batch := [] }) m) m (st.batch.map (·.req))) m

/-- A commit that waits for the twin is undone: requests as before, commands to be observed again (R536). -/
def unwindCommit (s : State) (m : Nat) : State :=
  let st := stepAt s m
  if st.phase = .acking then
    let s1 := st.saved.foldl (fun s e => s.setReq e.1 e.2) s
    discardStep { s1 with svc := { s1.svc with waiting := st.cmds.map (fun q => (m, q)) ++ s1.svc.waiting } } m
  else s

/-- STEP_DISCARD: a step that met an uncorrectable weight word completes. -/
def execStepDiscard (slot : Nat) (s : State) : Res :=
  let st := stepAt s slot
  if 16 ≤ slot then .next s
  else if st.batch = [] ∨ st.phase = .acking ∨ st.discard = false ∨ stepWorkLeft s slot = true then .next s
  else .next (discardStep (countStep s slot) slot)

end Sys2Proof.Machine
end

