-- ==== Sys2Proof/Machine/Tenants.lean ====
section
/-!
DEFINITION. Tenants: their states and commands (R461 to R468), doorbells (R556), aperture checks (R469, R470) and tenant resets.
-/

namespace Sys2Proof.Machine

/-! ## Answers to dictionary writes -/

/-- The answer to a dictionary access: 0 and no value for a write that took effect, or its abort code (R602). (DEDUCED, log 12.) -/
def dictAnswer (s : State) (abort : Nat) : State := emit s (.dictAnswer abort [])

/-- ILLEGAL_IN_STATE with the state of the object concerned (R602, R680). -/
def stateAbort (s : State) (code : Nat) : Nat × State := (0x02010000 + code, cmdState s)

/-- A command that is legal takes effect and is answered; one that is not reports the state. -/
def legalOr (s : State) (ok : Bool) (code : Nat) (act : State) : State :=
  if ok then dictAnswer act 0
  else
    let (a, s1) := stateAbort s code
    dictAnswer s1 a

/-! ## Tenant states (R463) -/

/-- A tenant's state changes; local source 0 of tenants 1 to 63 is raised (R563). -/
def setTenantState (s : State) (t : Nat) (st : TenantState) : State :=
  if (s.tenant t).state = st then s
  else
    let s1 := noteChange (s.updTenant t (fun x => { x with state := st })) (dk (0x4000 + 0x40 * t) 1)
    if t = 0 then s1 else raiseLocal s1 t 0

/-- Virtual function t is enabled. -/
def vfEnabled (s : State) (t : Nat) : Bool := t == 0 || (s.host.vfEnable && decide (t ≤ s.host.numVfs))

def mayAssign (s : State) (t : Nat) : Bool :=
  (s.tenant t).state == .unassigned && (s.dev == .ready || s.dev == .service) && vfEnabled s t

/-! ## Doorbells (R556) -/

/-- A doorbell is dropped: BADDB of the ring it names, the counts, and DOORBELL_DROPPED (R556, R568). -/
def dropDoorbell (s : State) (t r : Nat) : State :=
  let s1 := match ringNo s t r with
    | some k => s.updRing k (fun x => { x with baddb := true })
    | none => s
  recordFault (bump (bump s1 0x2050 4 1) 0x2050 7 1) (faultOf 0x252 clsCorrected kindTenant t t 0)

/-- A doorbell's value against the ring's indices. -/
def doorbellFits (r : Ring) (v : Nat) : Bool :=
  let held := r.held
  if r.type = 2 ∨ r.type = 3 then decide ((v + 2 ^ 32 - r.qhead) % 2 ^ 32 ≤ held)
  else decide ((v + 2 ^ 32 - r.qtail) % 2 ^ 32 ≤ r.size - held)

/-- A doorbell is processed: the index advances, or it is dropped. -/
def applyDoorbell (s : State) (t r v : Nat) : State :=
  match ringNo s t r with
  | none => dropDoorbell s t r
  | some k =>
    let x := s.ring k
    if v < 2 ^ 32 ∧ x.enable ∧ doorbellFits x v then
      s.setRing k (if x.type = 2 ∨ x.type = 3 then { x with qhead := v } else { x with qtail := v })
    else dropDoorbell s t r

/-! ## Work of a tenant (R465) -/

/-- Whether work carries a tenant's identity without the serving privilege. (DEDUCED, log 40.) -/
def Origin.of (o : Origin) (t : Nat) : Bool := o.tenant == t && !o.priv && o.step.isNone

def tenantTasks (s : State) (t : Nat) : Bool :=
  s.engines.any (fun e => e.2.queue.any (fun q => q.origin.of t) || e.2.runs.any (fun r => r.origin.of t)) ||
    s.walkers.any (fun e => e.2.threads.any (fun x => x.2.st != .free && x.2.origin.of t))

/-- Its tasks on the walkers alone, which a reset ends. -/
def walkerTasks (s : State) (t : Nat) : Bool :=
  s.engines.any (fun e => decide (64 ≤ e.1) && e.2.queue.any (fun q => q.origin.of t)) ||
    s.walkers.any (fun e => e.2.threads.any (fun x => x.2.st != .free && x.2.origin.of t))

def tenantMoves (s : State) (t : Nat) : Bool :=
  s.movers.any (fun e => e.2.queue.any (fun q => q.origin.of t) ||
    (match e.2.run with
      | some r => r.origin.of t
      | none => false))

def tenantColl (s : State) (t : Nat) : Bool :=
  s.fabric.collQueue.any (fun q => q.origin.of t) ||
    (match s.fabric.coll with
      | some c => c.origin.of t
      | none => false)

/-- Work of the SVC on behalf of a tenant's requests. -/
def tenantServing (s : State) (t : Nat) : Bool :=
  s.reqs.any (fun e => e.2.tenant == t && e.2.live && !e.2.shadow) || s.svc.preps.any (fun p => (s.req p.req).tenant == t)

/-- Quiet, 0x4000 + 0x40·t .0A. (DEDUCED, log 130.) -/
def tenantQuiet (s : State) (t : Nat) : Bool :=
  (s.tenant t).state == .quiescing && !(tenantServing s t) && !(tenantTasks s t) && !(tenantMoves s t) && !(tenantColl s t)

/-! ## Resets (R466 to R468) -/

/-- Step 3 of R467: queued tasks are discarded, running ones stop, and no record or completion is written. -/
def stopTasks (s : State) (t : Nat) : State :=
  let s1 : State := { s with engines := s.engines.map (fun e =>
    if 64 ≤ e.1 ∧ e.1 < 128 then (e.1, { e.2 with queue := e.2.queue.filter (fun q => !(q.origin.of t)) }) else e) }
  (List.range 64).foldl (fun s n => (List.range 64).foldl (fun s i =>
    let th := s.thread n i
    if th.st ≠ .free ∧ th.origin.of t then
      settleThread (s.updThread n i (fun x =>
        { x with
          st := .stopping, abandoned := true, crec := false, origin := { x.origin with ring := none }
          wait := if waitsOnAccess x then x.wait else none })) n i
    else s) s) s1

/-- Step 4: queued descriptors are discarded, and one in progress stops; no record is written. -/
def stopMoves (s : State) (t : Nat) : State :=
  s.movers.foldl (fun s e =>
    let x := s.mover e.1
    let q := x.queue.filter (fun q => !(q.origin.of t))
    match x.run with
    | some r =>
      if r.origin.of t then endLoad (s.setMover e.1 { x with queue := q, run := none }) r else s.setMover e.1 { x with queue := q }
    | none => s.setMover e.1 { x with queue := q }) s

/-- Entries of a tenant in a ring's registers after its reset: the sticky bits of RING_STAT keep their values (R467 step 6). -/
def resetRing (r : Ring) : Ring := { baddb := r.baddb, hosterr := r.hosterr }

def resetRings (s : State) (t : Nat) : State :=
  (List.range (ringCount s t)).foldl (fun s i => s.updRing (ringFirst s t + i) resetRing) s

def clearSources (s : State) (t : Nat) : State :=
  let f := dget s (0x4000 + 0x40 * t) 5
  let n := irqCount s t
  { s with irq := { s.irq with pend := mapDrop s.irq.pend (fun k => decide (f ≤ k) && decide (k < f + n)) } }

/-- The commands of a tenant that the SVC has not applied are dropped with its rings. -/
def dropCommands (s : State) (t : Nat) : State :=
  { s with svc := { s.svc with
      queue := s.svc.queue.filter (fun q => q.origin.tenant != t), waiting := s.svc.waiting.filter (fun w => w.2.origin.tenant != t) } }

/-- The requests of a tenant become FREE: now where their slot has no step in progress, else at its next boundary. -/
def resetRequests (s : State) (t : Nat) : State :=
  let s1 := s.reqs.foldl (fun s e => if e.2.tenant = t ∧ stepBusy s e.2.slot = false then dropReq s e.1 else s) s
  s1.updTenant t (fun x => { x with resetSlots := (List.range 16).filter (stepBusy s) })

/-- Step 5: the serving context takes over at once, without saving, and the tenant's image is discarded. (DEDUCED, log 62.) -/
def leaveContext (s : State) (t : Nat) : State :=
  if t ≠ 0 ∧ s.ctx.current = t then
    let s := (saveAreas s t).foldl (fun s a => (discardRange s a.1 a.2).next) s
    { s with ctx := { s.ctx with
        switch := some { target := 0, since := s.now, save := false }, next := none, saved := mapSet {} s.ctx.saved t {} } }
  else s

/-- The recovery window of a tenant's domain, open or interrupted, has its reset under way (R673). (DEDUCED, log 63.) -/
def markBegun (s : State) (t : Nat) : State :=
  let mark (w : Window) : Window := if w.kind = kindTenant ∧ w.index = t then { w with begun := true } else w
  { s with faults := { s.faults with window := s.faults.window.map mark, interrupted := s.faults.interrupted.map mark } }

/-- A tenant enters RESETTING (R467); causes 1 command, 2 FLR, 3 fault, 4 unassign. (DEDUCED, log 63.) -/
def beginReset (s : State) (t cause : Nat) (away : Bool) : State :=
  let s1 := setTenantState ((markBegun s t).updTenant t (fun x => { x with toUnassigned := away, held := [] })) t .resetting
  let s2 := stopMoves (stopTasks (resetRequests (dropCommands s1 t) t) t) t
  let s3 := resetRings (clearSources (invalidateTenant (leaveContext s2 t) t) t) t
  dset (bump s3 (0x4000 + 0x40 * t) 0xB 1) (0x4000 + 0x40 * t) 0xC cause

/-- A tenant enters FAULTED: its tasks and descriptors stop (R466). -/
def faultTenant (s : State) (t : Nat) : State :=
  setTenantState (stopMoves (stopTasks ((markBegun s t).updTenant t (fun x => { x with held := [] })) t) t) t .faulted

/-- States from which RESET, UNASSIGN and a Function Level Reset act. -/
def resettable (s : State) (t : Nat) : Bool :=
  let st := (s.tenant t).state
  st == .active || st == .quiescing || st == .faulted

/-- Every cutter of a tenant becomes EMPTY. -/
def emptyCutters (s : State) (t : Nat) : State :=
  s.svc.cutters.foldl (fun s e => if e.2.1 = t + 1 then emptyCutter s e.1 else s) s

/-- Every prefix node of a tenant leaves the tree, PINNED ones included. -/
def removeNodes (s : State) (t : Nat) : State :=
  s.svc.nodes.foldl (fun s e => if e.2.tenant = t then removeNode s e.1 else s) s

/-- The stack ranges of a tenant's apertures are discarded. -/
def discardApertures (s : State) (t : Nat) : State :=
  (apertures s t).foldl (fun s a => if a.2.1 < potWest then (discardRange s a.2.1 a.2.2).next else s) s

/-- A tenant's local-memory quarters are written with zeros. -/
def zeroQuarters (s : State) (t : Nat) : State :=
  (List.range 256).foldl (fun s q =>
    if bitOf (dget s (0x4002 + 0x40 * t) (q / 64 + 1)) (q % 64) then
      { s with locals := mapDrop s.locals (fun k => k / 2048 == q) }
    else s) s

/-- Apertures, quarters and context of a tenant are cleared. -/
def clearAllotments (s : State) (t : Nat) : State :=
  let s1 := (List.range 64).foldl (fun s i => dset s (0x4001 + 0x40 * t) (i + 1) 0) s
  let s2 := (List.range 4).foldl (fun s i => dset s (0x4002 + 0x40 * t) (i + 1) 0) s1
  let s3 := (List.range 18).foldl (fun s i => dset s (0x2080 + t) (i + 1) 0) s2
  let s4 := dset s3 (0x4000 + 0x40 * t) 9 0
  { s4 with ctx := { s4.ctx with saved := mapSet {} s4.ctx.saved t {} } }

/-- A tenant's bit leaves every slot's tenant mask. -/
def clearMasks (s : State) (t : Nat) : State :=
  (List.range 16).foldl (fun s m => dset s (0x5110 + m) 5 (clearBit (dget s (0x5110 + m) 5) t)) s

/-- R468, in its order. -/
def unassignTenant (s : State) (t : Nat) : State :=
  clearMasks (clearAllotments (zeroQuarters (discardApertures (removeNodes (emptyCutters s t) t) t) t) t) t

/-- Whether every step of a tenant reset has completed. -/
def resetComplete (s : State) (t : Nat) : Bool :=
  (s.tenant t).resetSlots.isEmpty && !(walkerTasks s t) && !(tenantMoves s t) && !(t != 0 && s.ctx.current == t)

/-! ## Commands (R463, R465, R467) -/

/-- What becomes of a command to tenant t: one that names no tenant of the device reaches nothing. -/
def withTenant (t : Nat) (s s' : State) : Res := .next (if t < 64 then s' else s)

/-- ASSIGN. -/
def assignTenant (s : State) (t : Nat) : State :=
  legalOr s (mayAssign s t) (s.tenant t).state.code (setTenantState s t .active)

def execAssign (tenant : Nat) (s : State) : Res := withTenant tenant s (assignTenant s tenant)

/-- QUIESCE. -/
def quiesceTenant (s : State) (t : Nat) : State :=
  legalOr s ((s.tenant t).state == .active) (s.tenant t).state.code (setTenantState s t .quiescing)

def execQuiesce (tenant : Nat) (s : State) : Res := withTenant tenant s (quiesceTenant s tenant)

/-- The doorbells held in QUIESCING are processed in arrival order. -/
def releaseDoorbells (s : State) (t : Nat) : State :=
  (s.tenant t).held.foldl (fun s d => applyDoorbell s t d.1 d.2) (s.updTenant t (fun x => { x with held := [] }))

/-- RESUME. -/
def resumeTenant (s : State) (t : Nat) : State :=
  legalOr s ((s.tenant t).state == .quiescing) (s.tenant t).state.code
    (let s1 := setTenantState s t .active
     if s.dev = .recovery then s1 else releaseDoorbells s1 t)

def execTenantResume (tenant : Nat) (s : State) : Res := withTenant tenant s (resumeTenant s tenant)

/-- RESET as a command. -/
def resetTenant (s : State) (t : Nat) : State :=
  legalOr s (resettable s t) (s.tenant t).state.code (beginReset s t 1 false)

/-- The reset or FAULTED state that a fault of class TENANT in the tenant's domain calls for (R463, R669). -/
def faultReset (s : State) (t : Nat) : State :=
  match s.faults.window with
  | some w =>
    if w.kind = kindTenant ∧ w.index = t ∧ w.cls = clsTenant ∧ ((s.tenant t).state = .active ∨ (s.tenant t).state = .quiescing) then
      if t = 0 ∨ dbool s (0x4000 + 0x40 * t) 7 then beginReset s t 3 false else faultTenant s t
    else s
  | none => s

/-- TENANT_RESET: by command, or, with `byFault`, as the recovery of the window that is open. -/
def execTenantReset (tenant : Nat) (byFault : Bool) (s : State) : Res :=
  withTenant tenant s (if byFault then faultReset s tenant else resetTenant s tenant)

/-- UNASSIGN; tenant 0 never becomes UNASSIGNED. -/
def unassignCmd (s : State) (t : Nat) : State :=
  legalOr s (resettable s t && t != 0) (s.tenant t).state.code (beginReset s t 4 true)

def execUnassign (tenant : Nat) (s : State) : Res := withTenant tenant s (unassignCmd s tenant)

/-- TENANT_RESET_DONE: every step of the reset has completed. -/
def execTenantResetDone (tenant : Nat) (s : State) : Res :=
  if tenant < 64 then
    if (s.tenant tenant).state = .resetting ∧ resetComplete s tenant then
      .next (if (s.tenant tenant).toUnassigned then
          setTenantState ((unassignTenant s tenant).updTenant tenant (fun x => { x with toUnassigned := false })) tenant .unassigned
        else setTenantState s tenant .active)
    else .next s
  else .next s

/-! ## Apertures (R469, R470) -/

/-- Whether a range lies wholly in populated segments of one stack, or in the context area of one stockpot die. -/
def apertureRange (s : State) (a n : Nat) : Bool :=
  let area := dget s 0x2030 1
  match regionOf s a n with
  | some (.stack _) => true
  | some (.pot _) =>
    (decide (potWest + area ≤ a) && decide (a + n ≤ potWest + potBytes)) || (decide (potEast + area ≤ a) && decide (a + n ≤ potEast + potBytes))
  | _ => false

/-- Whether a stockpot range lies within the extents of a tenant's enabled context. -/
def inExtents (s : State) (t a n : Nat) : Bool :=
  t != 0 && dbool s (0x4000 + 0x40 * t) 9 && apCover ((contextExtents s t).map (fun e => (true, e.1, e.2))) true a n 16

/-- What bars a range from an aperture (R470): another tenant's aperture, or a protected range. -/
def apertureBarred (s : State) (t a n : Nat) : Bool :=
  (List.range 64).any (fun u => u != t && (apertures s u).any (fun p => overlaps a n p.2.1 p.2.2)) ||
    (slotRegions s).any (fun r => overlaps a n r.2.1 r.2.2) || inWideArea s a n || inKvMeta s a n || inCutters s a n ||
    inSlotArea s a n || (List.range 64).any (fun c => overlapsAny a n (saveAreas s c))

/-- The check of an aperture's value: its abort code, 0 for none. -/
def apertureCheck (s : State) (t v : Nat) : Nat :=
  let st := (s.tenant t).state
  let rights := bitsOf v 63 62
  let a := bitsOf v 42 12 * 2 ^ 21
  let n := (bitsOf v 61 43 + 1) * 2 ^ 21
  if rights = 2 then 0x04050000
  else if ¬(st = .unassigned ∨ tenantQuiet s t) then 0x02010000 + st.code
  else if rights = 0 then 0
  else if apertureRange s a n = false then 0x04010000
  else if potWest ≤ a ∧ inExtents s t a n = false then 0x04010000
  else if apertureBarred s t a n then 0x04060000
  else 0

end Sys2Proof.Machine
end

