-- ==== Sys2Proof/Machine/Slots.lean ====
section
/-!
DEFINITION. Model slots: images, loads and program placement (R472 to R478), restores (R479, R480, R678), and context switches
(R481 to R487).
-/

namespace Sys2Proof.Machine

/-! ## Slot images (R473) -/

/-- The header of a slot image. -/
structure ImageHead where
  nregion : Nat
  nlayer : Nat
  endTok : Nat
  bytes : Nat
  progOff : Nat
  progLen : Nat
  metaLen : Nat
  digest : List Byte
  signature : List Byte
  deriving DecidableEq, Repr

def imageHead (d : List Byte) : ImageHead :=
  { nregion := u8 d 6, nlayer := u16 d 8, endTok := u32 d 12, bytes := u64 d 16, progOff := u64 d 24, progLen := u32 d 32,
    metaLen := u32 d 36, digest := (d.drop 48).take 64, signature := (d.drop 112).take 64 }

/-- Region i of the region table. -/
def imageRegion (d : List Byte) (i : Nat) : Region :=
  let o := 256 + 32 * i
  { stack := u8 d o, mode := u8 d (o + 1) == 1, frames := u32 d (o + 4), offset := u64 d (o + 8), srcOff := u64 d (o + 16) }

def imageRegions (d : List Byte) : List Region := (List.range (imageHead d).nregion).map (imageRegion d)

def Region.bytes (r : Region) : Nat := r.frames * frameBytes
def Region.addr (r : Region) : Nat := r.stack * 2 ^ 37 + r.offset

/-- Bytes of the header and region table. -/
def headBytes (d : List Byte) : Nat := 256 + 32 * u8 d 6

/-- Check 1 of R475: the header, the table and the bounds. -/
def imageSound (d : List Byte) : Bool :=
  let h := imageHead d
  u32 d 0 == 0x4C534E52 && u16 d 4 == 1 && decide (1 ≤ h.nregion) && decide (h.nregion ≤ 64) && u8 d 7 == 0 &&
    decide (1 ≤ h.nlayer) && decide (h.nlayer ≤ 254) && u16 d 10 == 0 && zeroBytes d 40 8 && zeroBytes d 176 80 &&
    decide (headBytes d ≤ d.length) && decide (headBytes d ≤ h.bytes) && decide (h.progLen ≤ 32768) &&
    decide (headBytes d ≤ h.progOff) && decide (h.progOff + h.progLen + h.metaLen ≤ h.bytes) &&
    (List.range h.nregion).all (fun i =>
      let r := imageRegion d i
      decide (r.stack < 8) && decide (u8 d (257 + 32 * i) ≤ 1) && zeroBytes d (258 + 32 * i) 2 && zeroBytes d (280 + 32 * i) 8 &&
        r.offset % frameBytes == 0 && decide (headBytes d ≤ r.srcOff) && decide (r.srcOff + r.bytes ≤ h.bytes))

/-- Check 2: the signature over bytes 0 to 111 by a VALID key of the slot signing set (R724). -/
def imageSigned (s : State) (d : List Byte) : Bool :=
  !(dbool s 0x5100 3) || (List.range 8).any (fun i =>
    let k := bget s 0x9030 (i + 1)
    bitOf (u8 k 32) 0 && Config.ed25519Verify (k.take 32) (d.take 112) (imageHead d).signature)

/-- Check 3 for one region: populated segments of its mode that nothing else holds. -/
def regionFree (s : State) (m : Nat) (r : Region) : Bool :=
  let a := r.addr
  let n := r.bytes
  (match regionOf s a n with
    | some (.stack _) => true
    | _ => false) &&
    (List.range (r.offset % 2 ^ 37 / 2 ^ 30 + 80)).all (fun j =>
      !(overlaps a n (r.stack * 2 ^ 37 + j * 2 ^ 30) (2 ^ 30)) || bitOf (s.stack r.stack).segMode j == r.mode) &&
    !((slotRegions s).any (fun x => x.1 != m && overlaps a n x.2.1 x.2.2)) && !(mappedByTenant s a n) && !(inWideArea s a n) &&
    !(inKvMeta s a n) && !(inCutters s a n) && !(inSlotArea s a n) && !((List.range 64).any (fun c => overlapsAny a n (saveAreas s c)))

/-! ## LOAD and UNLOAD (R472, R474, R475) -/

def slotState (s : State) (m : Nat) (st : SlotState) : State :=
  noteChange (s.updSlot m (fun x => { x with state := st })) (dk (0x5110 + m) 1)

/-- A load ends with a code: the slot is EMPTY, what was written is discarded, and the code is recorded. -/
def failLoad (s : State) (m code : Nat) (written : Bool) : State :=
  let rs := (s.slot m).regions
  let s1 := if written then rs.foldl (fun s r => (discardRange s r.addr r.bytes).next) s else s
  let s2 := noteChange (s1.setSlot m { lastStatus := code }) (dk (0x5110 + m) 1)
  if code = 0x240 ∨ code = 0x241 then recordFault s2 (faultOf code clsCorrected kindSlot m 0xFF 0) else s2

/-- The header and region table of an image in device memory, or as the host delivered them. (DEDUCED, log 64.) -/
def loadHead (s : State) (m : Nat) (head : List Byte) : State × List Byte :=
  if dget s (0x5110 + m) 3 = 0 then
    let a := dget s (0x5110 + m) 4
    let l := loadBytes s 16 0 a 256
    let l2 := loadBytes l.next 16 0 a (headBytes l.bytes)
    (l2.next, if l2.status = 0 ∧ l2.poisoned = false then l2.bytes else [])
  else (s, head)

/-- LOAD's checks of header, signature and regions. -/
def checkHead (s : State) (m : Nat) (d : List Byte) : Nat :=
  if !(imageSound d) then 0x240
  else if !(imageSigned s d) then 0x240
  else if !((imageRegions d).all (regionFree s m)) then 0x241
  else 0

/-- SLOT_LOAD: LOAD is accepted, and the copy and the checks begin; `head` is what the host delivers of an image in its memory. -/
def execSlotLoad (slot : Nat) (head : List Byte) (s : State) : Res :=
  if slot < 16 then
    let st := (s.slot slot).state
    let devOk : Bool := s.dev == .ready || s.dev == .service || s.dev == .recovery
    if (st = .empty ∨ st = .offline) ∧ devOk = true then
      let (s1, d) := loadHead (dictAnswer (slotState s slot .loading) 0) slot head
      let code := checkHead s1 slot d
      if code ≠ 0 then .next (failLoad s1 slot code false)
      else
        let h := imageHead d
        .next (s1.updSlot slot (fun x => { x with
          regions := imageRegions d, layers := h.nlayer, endTok := h.endTok, imageBytes := h.bytes, progOff := h.progOff
          progLen := h.progLen, metaLen := h.metaLen, digest := h.digest, checks := [], programs := [], restore := [] }))
    else .next (legalOr s false (if st = .empty ∨ st = .offline then s.dev.code else st.code) s)
  else .next s

/-- The payload of a region, copied to its place, and its frames' checks. -/
def copyRegion (image : List Byte) (m : Nat) (s : State) (r : Region) : State :=
  let d := (image.drop r.srcOff).take r.bytes
  let s1 := (storeBytes s 16 0 r.addr d).next
  s1.updSlot m (fun x => { x with checks := (List.range r.frames).foldl (fun cs k =>
    mapSet [] cs (r.addr + k * frameBytes) ((Config.sha512 ((d.drop (k * frameBytes)).take frameBytes)).take 8)) x.checks })

/-- The image as read from its source: device memory, or what the host delivered; with the status of the reading. (DEDUCED, log 64.) -/
def loadImage (s : State) (m status : Nat) (image : List Byte) : State × Nat × List Byte :=
  if dget s (0x5110 + m) 3 = 0 then
    let l := loadBytes s 16 0 (dget s (0x5110 + m) 4) (s.slot m).imageBytes
    (l.next, if l.status ≠ 0 then l.status else if l.poisoned then 0x301 else status, l.bytes)
  else (s, status, image)

/-- The last part of a load: the programs are placed, the slot is RESIDENT, and its digest is measured (R476). -/
def finishLoad (s : State) (m : Nat) (progs : List (List Byte)) : State :=
  let x := s.slot m
  let s1 := (placePrograms s m progs).updSlot m (fun y => { y with
    programs := progs, lastStatus := 0, residentBytes := (x.regions.map Region.bytes).foldl (· + ·) 0, transientOnly := false })
  measure (slotState s1 m .resident) (17 + m) (padTo 64 x.digest)

/-- SLOT_LOAD_DONE: the copies have ended with `status`, the first that was not OK; the last checks decide (R475, R476). `image` is
the image as the host delivered it. It waits for the serving context, whose banks receive the programs. -/
def execSlotLoadDone (slot status : Nat) (image : List Byte) (s : State) : Res :=
  if slot < 16 then
    let x := s.slot slot
    let (s0, status, image) := loadImage s slot status image
    if x.state ≠ .loading ∨ s.ctx.current ≠ 0 ∨ s.ctx.switch.isSome then .next s
    else if status ≠ 0 then .next (failLoad s0 slot status true)
    else if image.length ≠ x.imageBytes then .next s
    else
      let prog := (image.drop x.progOff).take x.progLen
      let progs := (List.range 9).map (sectionImage prog)
      if !(sectionSound prog) then .next (failLoad s0 slot 0x240 false)
      else if !(programsFit s0 slot progs) then .next (failLoad s0 slot 0x241 false)
      else
        let s1 := x.regions.foldl (copyRegion image slot) s0
        if Config.sha512 (image.drop 256) ≠ x.digest then .next (failLoad s1 slot 0x240 true)
        else
          .next (finishLoad s1 slot progs)
  else .next s

/-- Whether a request that is not FREE names a slot as SLOT or DSLOT. -/
def slotNamed (s : State) (m : Nat) : Bool := s.reqs.any (fun e => e.2.state != .free && e.2.uses m)

/-- SLOT_UNLOAD: the slot is EMPTY, and the programs of the others are placed afresh. -/
def execSlotUnload (slot : Nat) (s : State) : Res :=
  if slot < 16 then
    let st := (s.slot slot).state
    let ok : Bool := (st == .resident || st == .offline) && !(slotNamed s slot)
    let s1 := measure (noteChange (s.setSlot slot {}) (dk (0x5110 + slot) 1)) (17 + slot) zeroBlock
    .next (legalOr s ok st.code (placeSoon s1))
  else .next s

/-! ## Restores (R480, R678) -/

/-- The slot is RESIDENT again, and STALLED is cleared. -/
def endRestore (s : State) (m : Nat) : State :=
  markStalled (slotState (s.updSlot m (fun x => { x with restore := [], lastStatus := 0 })) m .resident)

/-- RESTORE_FRAME_DONE: the next frame of the restore arrives whole, or its source reports its own copy uncorrectable; with no frame
to fetch, the restore ends. The step that read the word has been discarded before. (DESIGN CHOICE, log 128.) -/
def execRestoreFrameDone (slot : Nat) (data : List Byte) (bad : Bool) (s : State) : Res :=
  if slot < 16 then
    if restoring s slot = false ∨ stepBusy s slot then .next s
    else match (s.slot slot).restore with
      | [] => .next (endRestore s slot)
      | f :: rest =>
        if bad then .next (failRestore s slot)
        else if data.length ≠ frameBytes then .next s
        else
          let s1 := (storeBytes s 16 0 f data).next
          if (Config.sha512 data).take 8 ≠ mapGet [] (s.slot slot).checks f then .next (failRestore s1 slot)
          else
            let s2 := bump (s1.updSlot slot (fun x => { x with restore := rest, restoreSince := s.now })) 0x5100 5 1
            .next (if rest = [] then endRestore s2 slot else s2)
  else .next s

/-- RESTORE_TIMEOUT: the source does not deliver a frame within RestoreTimeout. -/
def execRestoreTimeout (slot : Nat) (s : State) : Res :=
  if slot < 16 then
    if restoring s slot ∧ (s.slot slot).restore ≠ [] ∧ (s.slot slot).restoreSince + 1000 * dget s 0x5100 4 < s.now then
      .next (failRestore s slot)
    else .next s
  else .next s

/-! ## Context switches (R483 to R487) -/

/-- Bytes of the fixed parts that each die saves. -/
def fixedPart : Nat := 417924

/-- Bytes of a context's image on a die. -/
def dieImage (s : State) (c : Nat) (east : Bool) : Nat :=
  (((contextExtents s c).filter (fun e => decide (potEast ≤ e.1) == east)).map (·.2)).foldl (· + ·) 0 + fixedPart

/-- t_switch of R486 in ns; a switch that saves nothing moves the incoming images alone. (DEDUCED, log 66.) -/
def switchTime (s : State) (w : CtxSwitch) : Nat :=
  let l (east : Bool) : Nat := (if w.save then dieImage s s.ctx.current east else 0) + dieImage s w.target east
  9300 + ceilDiv (2 * max (l false) (l true)) 16000

/-- The stockpot words of a context's extents, by word key. -/
def inExtentWords (s : State) (c k : Nat) : Bool :=
  let a := if k < 6291456 then potWest + 32 * k else potEast + 32 * (k - 6291456)
  overlapsAny a 32 (contextExtents s c)

def saveSeq (e : Engine) : SeqSave :=
  { imem := e.imem, bank := e.bank, commA := e.commA, commB := e.commB, lenA := e.lenA, entA := e.entA, lenB := e.lenB,
    entB := e.entB, a := e.a, c := e.c, stack := e.stack, queue := e.queue }

def loadSeq (e : Engine) (v : SeqSave) : Engine :=
  { e with
    imem := v.imem, bank := v.bank, commA := v.commA, commB := v.commB, lenA := v.lenA, entA := v.entA, lenB := v.lenB,
    entB := v.entB, a := v.a, c := v.c, stack := v.stack, queue := v.queue, runs := [], current := none, held := none, nest := none }

/-- Poison marks as an image keeps them: a marked register makes a poison word of the eight registers that share its 32 B (R40). -/
def markWords (bad : Map Bool) : Map Bool :=
  ((bad.filter (·.2)).map (·.1 / 8)).eraseDups.foldl (fun m g => (List.range 8).foldl (fun m i => mapSet false m (8 * g + i) true) m) []

/-- The scale registers as an image keeps them (R40). (DESIGN CHOICE, log 67.) -/
def saveScales (x : Scales) : Scales := { x with colBad := markWords x.colBad, rowBad := markWords x.rowBad }

/-- The image of the context in force (R483). (DESIGN CHOICE, log 67.) -/
def saveContext (s : State) : CtxSave :=
  let c := s.ctx.current
  { seqs := (List.range 9).foldl (fun m e => mapSet {} m e (saveSeq (s.engine e))) [], scales := saveScales s.grid.scales, rimEps := s.grid.rimEps,
    pots := s.pots.filter (fun w => inExtentWords s c w.1) }

/-- A context's image takes its places; both register sets are cleared. (DESIGN CHOICE, log 67.) -/
def loadContext (s : State) (c : Nat) (v : CtxSave) : State :=
  let kept := s.pots.filter (fun w => !(inExtentWords s c w.1))
  let s1 : State := { s with
    pots := v.pots.foldl (fun m w => mapSet 0 m w.1 w.2) kept
    grid := { s.grid with scales := v.scales, rimEps := v.rimEps, set0 := {}, set1 := {} } }
  (List.range 9).foldl (fun s e => s.updEngine e (fun g => loadSeq g (mapGet {} v.seqs e))) s1

/-- Whether every slot that the outgoing context issued has completed, and no routine is under way. -/
def contextDrained (s : State) : Bool :=
  (List.range 9).all (fun e => (s.engine e).issued.all (·.done) && (s.engine e).runs.isEmpty)

/-- Whether a context may take its turn: the serving context, or that of an ACTIVE tenant that is enabled (R504). (DEDUCED, log 66.) -/
def contextReady (s : State) (c : Nat) : Bool := c == 0 || ((s.tenant c).state == .active && dbool s (0x4000 + 0x40 * c) 9)

/-- CONTEXT_SWITCH: the switch that the schedule asked for begins: the sequencers stop taking entries. -/
def execContextSwitch (s : State) : Res :=
  match s.ctx.next, s.ctx.switch with
  | some c, none =>
    if c = s.ctx.current then .next { s with ctx := { s.ctx with next := none } }
    else .next { s with ctx := { s.ctx with switch := some { target := c, since := s.now }, next := none } }
  | _, _ => .next s

/-- The outgoing context is saved where the switch saves, and the incoming one takes its place, counted and timed (R485 to R487). -/
def finishSwitch (s : State) (w : CtxSwitch) : State :=
  let old := s.ctx.current
  let saved := if w.save then mapSet {} s.ctx.saved old (saveContext s) else s.ctx.saved
  let took := s.now - w.since
  let s1 := loadContext s w.target (mapGet {} saved w.target)
  let s2 : State := { invalidateTenant s1 old with
    ctx := { s.ctx with current := w.target, switch := none, saved := mapSet {} saved w.target {} } }
  let s3 := dset (bump s2 0x2030 2 1) 0x2030 3 (min (max took (switchTime s w)) (2 ^ 32 - 1))
  if switchTime s w < took then bump s3 0x2030 4 1 else s3

/-- CONTEXT_SWITCH_DONE: save, restore and reload have ended, no earlier than R486 says, and the incoming context starts taking entries. A
switch that does not save drops what the outgoing context had under way. -/
def execContextSwitchDone (s : State) : Res :=
  match s.ctx.switch with
  | none => .next s
  | some w =>
    if w.save ∧ (contextDrained s = false ∨ s.now < w.since + switchTime s w) then .next s
    else
      .next (finishSwitch s w)

end Sys2Proof.Machine
end

