-- ==== Sys2Proof/Machine/CadenceOps.lean ====
section
/-!
DEFINITION. The cadence (R488 to R493), time (R494 to R499) and the cyclic schedule (R500 to R504).
-/

namespace Sys2Proof.Machine

/-! ## Signed values and pins -/

/-- Two's complement of 32 bits. -/
def ofI32 (v : Nat) : Int := signExt 32 v
def toI32 (v : Int) : Nat := wrap 32 v

def pinCadenceOut : Nat := 0
def pinPpsOut : Nat := 1

/-! ## Period and prediction (R488 to R491) -/

def cadSource (s : State) : Nat := dget s 0x1200 1

/-- The period P in force: the grandmaster's under FABRIC while it is known, else the configured one. -/
def cadPeriod (s : State) : Nat :=
  max 1 (if cadSource s = 2 ∧ s.cad.fabricEpoch.isSome then s.cad.fabricPeriod else dget s 0x1200 2)

def cadEpoch (s : State) : Nat :=
  match s.cad.fabricEpoch with
  | some e => if cadSource s = 2 then e else dget s 0x1200 3
  | none => dget s 0x1200 3

/-- P_N of a period that begins now: under EXTERNAL the last measured length, where there is one. -/
def periodLength (s : State) : Nat := if cadSource s = 1 then s.cad.measured.getD (cadPeriod s) else cadPeriod s

/-- The first epoch + k·P not before an instant. -/
def gridFrom (epoch p t : Nat) : Nat := if t ≤ epoch then epoch - (epoch - t) / p * p else epoch + ceilDiv (t - epoch) p * p

/-- The boundary that ends the present period: under INTERNAL and FABRIC the first of the sequence at which the period has lasted
P / 2 or more (R491), under EXTERNAL one length after its start. -/
def predicted (s : State) : Nat :=
  match s.cad.moved with
  | some b => b
  | none =>
    if cadSource s = 1 then s.cad.start + s.cad.length
    else gridFrom (cadEpoch s) (cadPeriod s) (s.cad.start + ceilDiv (cadPeriod s) 2)

/-- The next boundary after a change that may move it; each move is counted (R491). -/
def rephase (s : State) (before : Nat) : State := if predicted s = before then s else bump s 0x1200 0xA 1

/-- CadenceState under INTERNAL follows TimeQuality (R490). -/
def refreshCadence (s : State) : State :=
  if cadSource s = 0 then dset s 0x1200 7 (if dget s 0x1201 1 = 2 then 2 else 0) else s

/-- TimeQuality changes: 0 LOCKED_PPS, 1 HOLDOVER, 2 FREERUN. -/
def setQuality (s : State) (q : Nat) : State :=
  let s1 := if q = 1 ∧ dget s 0x1201 1 ≠ 1 then dset s 0x1201 0xC s.ptp else s
  refreshCadence (dset s1 0x1201 1 q)

/-- A change of CadenceSource (R489, R490). -/
def changeSource (s : State) (v : Nat) : State :=
  let before := predicted s
  let s1 := dset s 0x1200 1 v
  let s2 : State := { s1 with cad := { s1.cad with
    measured := if v = 1 then none else s1.cad.measured, lastEdge := none, hits := 0, misses := 0, moved := none, fromEdge := false } }
  rephase (if v = 0 then refreshCadence s2 else dset s2 0x1200 7 1) before

/-! ## Boundaries -/

/-- CONTEXT entries of the table not reached when the period ends make one switch to the last of them; STEP entries not reached
lapse (R504). -/
def overrunEntries (s : State) : State :=
  let left := (schedule s).drop s.cad.entryNext
  let lost := (left.filter (fun e => e.kind == 1)).length
  let s1 := if lost = 0 then s else bump s 0x1210 5 lost
  match (left.filter (fun e => e.kind == 2)).getLast? with
  | some e => if contextReady s e.ctx then { s1 with ctx := { s1.ctx with next := some e.ctx } } else bump s1 0x1210 6 1
  | none => s1

/-- A boundary at an instant; `edge` tells that an edge made it. (DEDUCED, log 69.) -/
def makeBoundary (s : State) (at_ : Nat) (edge : Bool) : State :=
  let s1 := overrunEntries s
  let s2 := match s1.cad.activate with
    | some t => dsetStored s1 0x1210 3 t
    | none => s1
  let measured := if edge && s.cad.fromEdge then some (at_ - s.cad.start) else s.cad.measured
  let s3 : State := { s2 with cad := { s2.cad with measured := measured, moved := none, activate := none, entryNext := 0, fromEdge := edge } }
  let s4 : State := { s3 with cad := { s3.cad with start := at_, length := periodLength s3 } }
  let s5 := dset (bump s4 0x1200 8 1) 0x1200 9 (min (at_ - s.cad.start) (2 ^ 32 - 1))
  let s6 := emit (raiseLocal s5 0 2) (.pulse pinCadenceOut (dget s 0x1200 0xC))
  rephase s6 (at_ + s6.cad.length)

/-- CADENCE_BOUNDARY: the predicted boundary is reached in a state in which the device makes boundaries itself (R489, R490). -/
def execCadenceBoundary (s : State) : Res :=
  if (cadSource s = 1 ∧ dget s 0x1200 7 = 0) ∨ s.ptp < predicted s then .next s
  else .next (makeBoundary s (predicted s) false)

/-- An edge within tolerance of the prediction (R490). -/
def nearPrediction (s : State) (pred b : Nat) : Bool :=
  let tol := dget s 0x1200 4
  decide (b ≤ pred + tol) && decide (pred ≤ b + tol)

/-- An edge while LOCKED: it makes the boundary, or is ignored and counted when early. (DEDUCED, log 68.) -/
def lockedEdge (s : State) (b : Nat) : State :=
  if nearPrediction s (predicted s) b then
    makeBoundary { s with cad := { s.cad with lastEdge := some b, misses := 0 } } b true
  else { s with cad := { s.cad with ignored := s.cad.ignored + 1 } }

/-- A new lock: the edge ends the period, or the one after it does (R491). -/
def newLock (s : State) (b : Nat) : State :=
  let s1 := dset s 0x1200 7 0
  if s.cad.start + ceilDiv (cadPeriod s) 2 ≤ b then
    let s2 := if b = predicted s then s1 else bump s1 0x1200 0xA 1
    makeBoundary s2 b true
  else
    let nb := b + periodLength s
    let s2 : State := { s1 with cad := { s1.cad with moved := some nb } }
    if nb = predicted s then s2 else bump s2 0x1200 0xA 1

/-- An edge while ACQUIRING or in HOLDOVER counts towards lock by its distance from the edge before it. -/
def lockingEdge (s : State) (b : Nat) : State :=
  let near : Bool := match s.cad.lastEdge with
    | some e => nearPrediction s (e + periodLength s) b
    | none => false
  let hits := if near then s.cad.hits + 1 else 0
  let meas := match s.cad.lastEdge with
    | some e => if near then some (b - e) else s.cad.measured
    | none => s.cad.measured
  let s1 : State := { s with cad := { s.cad with lastEdge := some b, hits := hits, misses := 0, measured := meas } }
  if dget s 0x1200 5 ≤ hits then newLock { s1 with cad := { s1.cad with hits := 0 } } b else s1

/-- CADENCE_IN_EDGE: a filtered edge, by its time stamp at the pin, moved earlier by ExtEdgeOffset (R489, R490). (DEDUCED, log 68.) -/
def execCadenceInEdge (stamp : Nat) (s : State) : Res :=
  if cadSource s = 1 then
    let b := ((stamp : Int) - ofI32 (dget s 0x1200 0xD)).toNat
    .next (if dget s 0x1200 7 = 0 then lockedEdge s b else lockingEdge s b)
  else .next s

/-- CADENCE_EDGE_MISSED: no edge by the prediction plus the tolerance: the device makes the boundary, and after MaxMissed misses it
is in HOLDOVER (R490). -/
def execCadenceEdgeMissed (s : State) : Res :=
  if cadSource s = 1 ∧ dget s 0x1200 7 = 0 ∧ predicted s + dget s 0x1200 4 < s.ptp then
    let s1 := bump (makeBoundary s (predicted s) false) 0x1200 0xB 1
    let n := s.cad.misses + 1
    let s2 : State := { s1 with cad := { s1.cad with misses := n, hits := 0 } }
    .next (if dget s 0x1200 6 ≤ n then dset s2 0x1200 7 2 else s2)
  else .next s

/-- FABRIC_CADENCE_TIMEOUT: no announcement for 4 periods (R490). -/
def execFabricCadenceTimeout (s : State) : Res :=
  if cadSource s = 2 ∧ s.cad.lastAnnounce + 4 * cadPeriod s < s.now then .next (dset s 0x1200 7 2) else .next s

/-- Time is stepped; INTERNAL boundaries follow the new time (R491, R498). -/
def stepTime (s : State) (t : Nat) : State :=
  let before := predicted s
  rephase { s with ptp := t } before

/-- GRANDMASTER_ANNOUNCE: the elected grandmaster's cadence epoch and period, and its time (R489, R494). -/
def execGrandmasterAnnounce (epoch period time : Nat) (s : State) : Res :=
  let before := predicted s
  let s1 : State := { s with
    ptp := time, cad := { s.cad with fabricEpoch := some epoch, fabricPeriod := period, lastAnnounce := s.now } }
  let s2 := if cadSource s = 2 then dset s1 0x1200 7 0 else s1
  .next (rephase s2 before)

/-! ## The schedule (R501, R502, R504) -/

/-- The instant of a phase of the present period (R488). -/
def phaseInstant (s : State) (phase : Nat) : Nat := s.cad.start + phase * s.cad.length / 65536

/-- The next entry of the active table, when its instant has come. (DEDUCED, log 71.) -/
def dueEntry (s : State) : Option SchedEntry :=
  match (schedule s)[s.cad.entryNext]? with
  | some e => if phaseInstant s e.phase ≤ s.ptp then some e else none
  | none => none

def passEntry (s : State) : State := { s with cad := { s.cad with entryNext := s.cad.entryNext + 1 } }

/-- SCHEDULE_STEP: a STEP entry's instant opens its reservation. -/
def execScheduleStep (s : State) : Res :=
  match dueEntry s with
  | some e =>
    if e.kind = 1 then
      let s1 := passEntry s
      .next { s1 with cad := { s1.cad with open_ := s1.cad.open_ ++ [(e.slot, phaseInstant s (e.phase + e.window))] } }
    else .next s
  | none => .next s

/-- RESERVATION_LAPSE: an open reservation reaches PHASE + WINDOW. -/
def execReservationLapse (s : State) : Res :=
  let gone := s.cad.open_.filter (fun e => decide (e.2 ≤ s.ptp))
  if gone = [] then .next s
  else .next (bump { s with cad := { s.cad with open_ := s.cad.open_.filter (fun e => decide (s.ptp < e.2)) } } 0x1210 5 gone.length)

/-- The context that will be in force once the switches under way have ended. -/
def nextContext (s : State) : Nat :=
  match s.ctx.next, s.ctx.switch with
  | some c, _ => c
  | none, some w => w.target
  | none, none => s.ctx.current

/-- SCHEDULE_CONTEXT: a CONTEXT entry's instant: a switch is asked for, or the entry is skipped. -/
def execScheduleContext (s : State) : Res :=
  match dueEntry s with
  | some e =>
    if e.kind = 2 then
      let s1 := passEntry s
      if e.ctx = nextContext s then .next s1
      else if contextReady s e.ctx then .next { s1 with ctx := { s1.ctx with next := some e.ctx } }
      else .next (bump s1 0x1210 6 1)
    else .next s
  | none => .next s

/-- Unused fields of an entry are 0, and its KIND is not reserved (R500). -/
def entrySound (e : SchedEntry) : Bool :=
  e.spare == 0 && ((e.kind == 1 && e.ctx == 0) || (e.kind == 2 && e.slot == 0 && e.window == 0)) && decide (e.phase + e.window < 65536)

def phasesAscend : List SchedEntry → Bool
  | a :: b :: es => decide (a.phase < b.phase) && phasesAscend (b :: es)
  | _ => true

/-- Whether every STEP falls in the serving context. -/
def stepsInServing : Nat → List SchedEntry → Bool
  | _, [] => true
  | c, e :: es => if e.kind = 2 then stepsInServing e.ctx es else c == 0 && stepsInServing c es

/-- The END entry that closes a table holds nothing else. -/
def endSound (d : List Byte) : Bool :=
  match ((List.range 256).map (fun i => u64 d (8 * i))).find? (fun v => bitsOf v 47 44 == 0) with
  | some v => v == 0
  | none => true

/-- The checks of R501. (DEDUCED, log 71.) -/
def tableSound (d : List Byte) : Bool :=
  let es := tableEntries d
  let last := ((es.filter (fun e => e.kind == 2)).getLast?.map (·.ctx)).getD 0
  es.all entrySound && phasesAscend es && stepsInServing last es && endSound d

/-- A write of Activate: the table is checked and takes effect at the next boundary, or is refused (R501). -/
def activateTable (s : State) (table : Nat) : Nat × State :=
  if 1 < table then (0x04010000, s)
  else if tableSound (bget s 0x1210 (1 + table)) then (0, { s with cad := { s.cad with activate := some table } })
  else (0x04060242, s)

/-- SCHEDULE_ACTIVATE. -/
def execScheduleActivate (table : Nat) (s : State) : Res :=
  let (a, s1) := activateTable s table
  .next (dictAnswer s1 a)

/-! ## Time (R494 to R499) -/

/-- FREQ_CORRECTION: the temperature near the oscillator gives the correction in ppb, rounded to the nearest (R496); one that is no finite number leaves its
value open. (DEDUCED, log 70.) (DESIGN CHOICE, log 149.) -/
def execFreqCorrection (temp : Nat) (s : State) : Res :=
  let dt := (ofFp32 (BitVec.ofNat 32 temp)).add (intNum (-25))
  let c (k : Nat) : Num := ofFp32 (BitVec.ofNat 32 (dget s 0x1202 (k + 1)))
  let y := (c 0).add (((c 1).mul dt).add (((c 2).mul (dt.mul dt)).add ((c 3).mul (dt.mul (dt.mul dt)))))
  match y with
    | .fin neg m e => .next (dset (dset s 0x1201 0xB temp) 0x1201 0xA (convFinInt 32 neg m 1 e).code)
    | _ =>
      let (v, s1) := freeValue s
      .next (dset (dset s1 0x1201 0xB temp) 0x1201 0xA (v % 2 ^ 32))

/-- Distance of a pulse from the nearest whole second, in ns. -/
def ppsOffset (stamp : Nat) : Int :=
  let r := stamp % 1000000000
  if r < 500000000 then (r : Int) else (r : Int) - 1000000000

/-- An accepted pulse (R497). (DEDUCED, log 70.) -/
def acceptPps (s : State) (off : Int) : State :=
  let good := s.clock.ppsGood + 1
  let s1 := dset { s with clock := { s.clock with ppsGood := good, ppsMissing := 0 } } 0x1201 9 (toI32 off)
  if 8 ≤ good ∧ dget s 0x1201 1 ≠ 0 then
    let s2 := setQuality { s1 with clock := { s1.clock with wasLocked := true } } 0
    if !s.clock.wasLocked && decide (1000 < off.natAbs) then stepTime s2 ((s2.ptp : Int) - off).toNat else s2
  else s1

/-- PPS_IN_PULSE: accepted within ±500 µs of the predicted second, else an outlier (R497). -/
def execPpsInPulse (stamp : Nat) (s : State) : Res :=
  if dbool s 0x1201 7 then
    let off := ppsOffset stamp
    if off.natAbs ≤ 500000 then .next (acceptPps { s with clock := { s.clock with lastPps := some stamp } } off)
    else .next (bump { s with clock := { s.clock with ppsGood := 0 } } 0x1201 0xD 1)
  else .next s

/-- PPS_MISSING: an expected pulse did not come; after 3 in a row a locked time base holds over (R497). -/
def execPpsMissing (s : State) : Res :=
  if dbool s 0x1201 7 then
    let n := s.clock.ppsMissing + 1
    let s1 : State := { s with clock := { s.clock with ppsMissing := n, ppsGood := 0 } }
    .next (if 3 ≤ n ∧ dget s 0x1201 1 = 0 then setQuality s1 1 else s1)
  else .next s

/-- A write of PtpTime steps time (R498). -/
def writePtpTime (s : State) (t : Nat) : State :=
  let q := if dget s 0x1201 1 = 0 then 1 else 2
  stepTime (setQuality { s with clock := { s.clock with wasLocked := false, ppsGood := 0 } } q) (t % 2 ^ 64)

/-- PTP_TIME_WRITE. -/
def execPtpTimeWrite (time : Nat) (s : State) : Res := .next (dictAnswer (writePtpTime s time) 0)

/-- priority1 by role, and the clockClass announced (R495). -/
def priority1 (s : State) : Nat := if dget s 0x6100 5 = 2 then dget s 0x1201 4 else dget s 0x1201 3
def clockClass (s : State) : Nat := if dget s 0x1201 1 = 0 then 6 else if dget s 0x1201 1 = 1 then 7 else 248

/-- PTP_SYNC_SEND: the grandmaster's two-step Sync and its Announce, until it has fallen silent (R494, R495, R499). -/
def execPtpSyncSend (s : State) : Res :=
  if s.clock.silent then .next s
  else
    let n := (s.clock.syncSeq + 1) % 65536
    let s1 := timeFrame (timeFrame s 1 [n]) 2 [n, s.ptp]
    let s2 := timeFrame s1 3 [n, priority1 s, clockClass s]
    .next (dset { s2 with clock := { s2.clock with syncSeq := n, announceSeq := n } } 0x1201 6 (if dget s 0x6100 5 = 2 then 2 else 1))

/-- PTP_DELAY_REQ: a delay request, or with `peer` a peer-delay request, is answered with its time of receipt (R494). -/
def execPtpDelayReq (peer : Bool) (seq : Nat) (s : State) : Res :=
  .next (timeFrame s (if peer then 5 else 4) [seq, s.ptp])

/-- PPS_OUT_SECOND: at each whole second PPS_OUT rises for 100 ms (R493). (DEDUCED, log 69.) -/
def execPpsOutSecond (s : State) : Res :=
  let sec := s.ptp / 1000000000
  if sec = s.clock.lastSecond then .next s
  else .next (emit { s with clock := { s.clock with lastSecond := sec } } (.pulse pinPpsOut 100000000))

end Sys2Proof.Machine
end

