-- ==== Sys2Proof/Machine/Fabric.lean ====
section
/-!
DEFINITION. The commands of the fabric ports: links and their retry (R511 to R514), the fault map (R516, R517), remote accesses
(R518 to R520) and quarantine (R521).
-/

namespace Sys2Proof.Machine

/-! ## Links -/

def isPort (p : Nat) : Bool := decide (p < 8)
def isFabricPort (p : Nat) : Bool := decide (p < 6)

/-- Port states of 0x6010 + p .01. -/
def portDown : Nat := 0
def portTraining : Nat := 1
def portUp : Nat := 2
def portQuarantined : Nat := 3
def portMiswired : Nat := 4
def portDisabled : Nat := 5

/-- Links of the fault map: a link is named by the node whose positive port it joins (R514, 0x6000.08). -/
def failedLinks (s : State) : Nat :=
  ((s.fabric.links.map (fun l => if l.2 % 2 = 0 then l else (neighbourOf s l.1 l.2, l.2 - 1))).eraseDups).length

/-- A LINKSTATE packet: node, version, its failed ports and whether it is DOWN, on a port (R517). -/
def sendLinkState (s : State) (p node version mask : Nat) (down : Bool) : State :=
  if portState s p = portUp then transmit s p 0xA 0 1 [node, version, mask, boolNat down] [] else s

/-- Flooding on every other port. -/
def floodLinkState (s : State) (except node version mask : Nat) (down : Bool) : State :=
  (List.range 6).foldl (fun s p => if p = except then s else sendLinkState s p node version mask down) s

/-- The failed ports of a node as a mask. -/
def linkMask (s : State) (node : Nat) : Nat :=
  (List.range 6).foldl (fun m p => if s.fabric.links.contains (node, p) then m + 2 ^ p else m) 0

/-- What the fault map says of one node is replaced. -/
def putLinks (s : State) (node version mask : Nat) (down : Bool) : State :=
  let f := s.fabric
  let s1 : State := { s with fabric := { f with
    links := f.links.filter (fun l => l.1 != node) ++ ((List.range 6).filter (bitOf mask)).map (fun p => (node, p)),
    down := f.down.filter (· != node) ++ (if down then [node] else []),
    versions := mapSet 0 f.versions node version } }
  dset s1 0x6000 8 (failedLinks s1)

/-- This device's own part of the fault map changes: a new version, flooded on every other port (R517). -/
def changeOwnLinks (s : State) (p : Nat) (failed : Bool) : State :=
  let me := s.fabric.node
  let old := linkMask s me
  let mask := if failed then old ||| 2 ^ p else old - (old &&& 2 ^ p)
  if mask = old then s
  else
    let v := mapGet 0 s.fabric.versions me + 1
    floodLinkState (putLinks s me v mask false) p me v mask false

/-- A port enters a state; a fabric port's failures enter the fault map (R516, R517). -/
def setPortState (s : State) (p st : Nat) : State :=
  let s1 := dset s (portIdx p) 1 st
  if p < 6 then
    if st = portUp then changeOwnLinks s1 p false
    else if st = portTraining then s1 else changeOwnLinks s1 p true
  else s1

/-- A retrain, a quarantine or DOWN of a tandem port during a restore from the twin is a fault of the recovery path while the pair
stays SYNCING or ACTIVE; with no other tandem port UP, it is settled by the pair: loss or fencing of the twin is none (R675).
(DEDUCED, log 107.) -/
def tandemPortFault (s : State) (p : Nat) : State :=
  if 6 ≤ p ∧ mirroring s ∧ anyTwinRestore s then
    if portState s (13 - p) = portUp then recoveryPathFault s kindPort p
    else { s with tandem := { s.tandem with pathFault := true } }
  else s

/-- A tandem port is UP again while the pair still stands: what its failure was is settled. -/
def tandemPortBack (s : State) (p : Nat) : State :=
  let s1 : State := { s with tandem := { s.tandem with pathFault := false } }
  if s.tandem.pathFault ∧ mirroring s ∧ anyTwinRestore s then recoveryPathFault s1 kindPort p else s1

/-- R511: the sender's buffer is freed up to an acknowledged SEQ. -/
def ackReplay (s : State) (p ackseq : Nat) : State :=
  s.updPort p (fun x =>
    match x.replay.findIdx? (fun f => f.seq == ackseq) with
    | some i => { x with replay := x.replay.drop (i + 1) }
    | none => x)

/-- The payload of a NACK: its code as a U16, then the TAG and the offending address (R519). -/
def nackWord (code tag addr : Nat) : Nat :=
  (encode288 (wordOfBytes (natLE 2 code ++ natLE 2 tag ++ natLE 4 0 ++ natLE 8 addr ++ List.replicate 16 0))).toNat

/-- A NACK leaves for a node, where it can be reached. -/
def sendNack (s : State) (dst tag addr code : Nat) : State :=
  (sendPacket s { op := 6, dst := dst, src := s.fabric.node, tag := tag, addr := addr, words := [nackWord code tag addr] }).getD s

/-- A port is quarantined (R521). -/
def quarantine (s : State) (p : Nat) : State :=
  tandemPortFault (recordFault (setPortState (s.updPort p (fun x => { x with violations := [] })) p portQuarantined)
    (faultOf 0x506 clsCorrected kindPort p 0xFF 0)) p

/-- A violating flit: counted, dropped and NACKed; more than QuarantineLimit within 1 ms quarantine the port (R521). -/
def violation (s : State) (p src tag addr : Nat) : State :=
  let s1 := (bump s (portIdx p) 8 1).updPort p (fun x =>
    { x with violations := x.violations.filter (fun t => decide (s.now < t + 1000000)) ++ [s.now] })
  let s2 := if p < 6 ∧ validNode s src = true then sendNack s1 src tag addr 0x503 else s1
  if dget s 0x6000 7 < (s1.port p).violations.length then quarantine s2 p else s2

/-- A complete packet arrives: at its destination it waits to be handled, elsewhere it goes on, or is dropped with a NACK to its
source where its next link is down (R517). COLL and LINKSTATE packets reach this device as messages of their own commands. -/
def packetArrives (s : State) (p vc : Nat) (k : Packet) : State :=
  if k.dst = s.fabric.node then
    (if k.op ≤ 6 then { s with fabric := { s.fabric with inbox := s.fabric.inbox ++ [k] } } else s)
  else
    match nextHop s k (bitOf vc 1) with
    | some (q, leg) => sendOn s q leg (bitOf vc 0 && q / 2 == p / 2) k
    | none => if k.op = 6 then s else sendNack s k.src k.tag k.addr 0x501

/-- An accepted flit of a fabric packet: checked against R521 and joined to its packet. (DEDUCED, log 72.) -/
def joinFlit (s : State) (p vc fidx wmask : Nat) (k : Packet) : State :=
  let x := s.port p
  let have_ := mapGet { op := 0, dst := 0, src := 0 } x.asm vc
  let begun := have_.op != 0
  let heads : Packet := { k with mask := have_.mask, words := have_.words }
  let bad := decide (k.op = 0) || decide (0xA < k.op) || !(validNode s k.dst) ||
    (if begun then have_ != heads || fidx != have_.words.length / 8 else fidx != 0)
  let drop (s : State) : State := s.updPort p (fun x => { x with asm := mapErase x.asm vc })
  if bad then violation (drop s) p k.src k.tag k.addr
  else
    let whole : Packet := { k with mask := have_.mask ++ (List.range 8).map (bitOf wmask), words := have_.words ++ padWords k.words }
    if fidx + 1 = k.flits then packetArrives (drop s) p vc whole
    else s.updPort p (fun x => { x with asm := mapInsert x.asm vc whole })
where
  /-- Eight codewords a flit. -/
  padWords (ws : List Nat) : List Nat := ws.take 8 ++ List.replicate (8 - ws.length) 0

/-- FLIT_RECEIVE: a flit arrives with its link header, packet header and payload (R509 to R511, R521). -/
def execFlitReceive (port : Nat) (crcOk : Bool) (ftype vc seq ackseq cvc credits op dst src tenant : Nat) (priv : Bool)
    (ord addfmt fidx fcnt tag wmask addr : Nat) (words : List Nat) (s : State) : Res :=
  if isPort port = false then .next s
  else if portState s port ≠ portUp then .next s
  else if crcOk = false then .next (emit (bump s (portIdx port) 7 1) (.link port 1 (s.port port).rxSeq))
  else
    let s0 := drainPort ((ackReplay s port ackseq).updPort port (fun x => { x with credits := mapUpd 64 x.credits cvc (fun c => min 64 (c + credits)) })) port
    if ftype = 3 then .next (violation s0 port src tag addr)
    else if ftype ≠ 1 then .next s0
    else if seq ≠ ((s.port port).rxSeq + 1) % 4096 then .next (emit s0 (.link port 1 (s.port port).rxSeq))
    else
      let s1 := emit (emit (bump (s0.updPort port (fun x => { x with rxSeq := seq })) (portIdx port) 5 1) (.link port 0 seq)) (.link port 3 vc)
      if port < 6 then
        .next (joinFlit s1 port vc fidx wmask
          { op := op, dst := dst, src := src, tenant := tenant, priv := priv, ord := ord, addfmt := addfmt, fcnt := fcnt, tag := tag,
            addr := addr, words := words })
      else if op = 0 ∨ 0xA < op then .next (violation s1 port src tag addr)
      else .next s1

/-- NAK_RECEIVE: replay from ACKSEQ + 1; every flit replayed is counted (R511). -/
def execNakReceive (port ackseq : Nat) (s : State) : Res :=
  if isPort port = false then .next s
  else if portState s port ≠ portUp then .next s
  else
    let s1 := ackReplay s port ackseq
    let fs := (s1.port port).replay
    let s2 := bump (s1.updPort port (fun x => { x with replay := x.replay.map (fun f => { f with replays := f.replays + 1 }) })) (portIdx port) 6 fs.length
    .next (fs.foldl (fun s f => emit s (.link port 2 f.seq)) s2)

/-- PORT_RETRAIN: a flit has been replayed 8 times; after three retrains within 1 s the port is DOWN for 1 s (R512). -/
def execPortRetrain (port : Nat) (s : State) : Res :=
  if isPort port = false then .next s
  else if portState s port = portUp ∧ (s.port port).replay.any (fun f => decide (8 ≤ f.replays)) = true then
    let s1 := bump s (portIdx port) 9 1
    let times := (s.port port).retrains.filter (fun t => decide (s.now < t + 1000000000)) ++ [s.now]
    let third := decide (3 ≤ times.length)
    let s2 := s1.updPort port (fun x =>
      { x with
        replay := x.replay.map (fun f => { f with replays := 0 }), retrains := if third then [] else times,
        downSince := if third then some s.now else x.downSince })
    .next (tandemPortFault (setPortState s2 port (if third then portDown else portTraining)) port)
  else .next s

/-- The flits kept for replay are sent again after training (R512), and what waited is sent. -/
def resumePort (s : State) (p : Nat) : State :=
  drainPort ((s.port p).replay.foldl (fun s f => emit s (.link p 2 f.seq)) s) p

/-- A fabric port reaches the node R514 names, with equal extents. -/
def rightlyWired (s : State) (p node : Nat) (ext : List Nat) : Bool :=
  node == neighbourOf s s.fabric.node p && ext == extents s

/-- PORT_TRAINED: training ends with what the other end said of itself: its node and extents, or for a tandem port its serial number
and whether it names this device (R512, R514, R528). -/
def execPortTrained (port node dx dy dz : Nat) (serial : List Byte) (names : Bool) (s : State) : Res :=
  if isPort port = false then .next s
  else
    let st := portState s port
    if (st ≠ portDown ∧ st ≠ portTraining) ∨ ((s.port port).downSince).isSome = true then .next s
    else if port < 6 then
      if (extents s).getD (port / 2) 1 = 1 then .next s
      else
        let s1 : State := dset { s with fabric := { s.fabric with node := dget s 0x6000 1 } } (portIdx port) 3 node
        if rightlyWired s1 port node [dx, dy, dz] then .next (resumePort (setPortState s1 port portUp) port)
        else .next (setPortState s1 port portMiswired)
    else if serial = bget s 0x6100 3 ∧ names = true then .next (resumePort (tandemPortBack (setPortState s port portUp) port) port)
    else .next (setPortState s port portMiswired)

/-- PORT_DOWN_EXPIRE: 1 s after the third retrain the port trains again (R512). -/
def execPortDownExpire (port : Nat) (s : State) : Res :=
  if isPort port = false then .next s
  else match (s.port port).downSince with
    | some t =>
      if t + 1000000000 ≤ s.now then
        .next (setPortState (s.updPort port (fun x => { x with downSince := none })) port portTraining)
      else .next s
    | none => .next s

/-- PORT_LOSS_OF_SIGNAL: the port goes DOWN; a fabric port's device floods LINKSTATE (R517). -/
def execPortLossOfSignal (port : Nat) (s : State) : Res :=
  if isPort port = false then .next s
  else if portState s port = portUp ∨ portState s port = portTraining then .next (tandemPortFault (setPortState s port portDown) port)
  else .next s

/-- QUARANTINE_RELEASE: a write of Release; TRUE ends the quarantine and the port trains again (R521). -/
def execQuarantineRelease (port : Nat) (value : Bool) (s : State) : Res :=
  if isPort port = false then .next s
  else
    let s1 := if value && portState s port == portQuarantined then setPortState s port portTraining else s
    .next (emit s1 (.dictAnswer 0 []))

/-- LINKSTATE: a newer version is applied and flooded on (R517). (DESIGN CHOICE, log 73.) -/
def execLinkstate (port node version mask : Nat) (down : Bool) (s : State) : Res :=
  if isFabricPort port = false then .next s
  else if mapGet 0 s.fabric.versions node < version ∧ node ≠ s.fabric.node then
    .next (floodLinkState (putLinks s node version (mask % 64) down) port node version (mask % 64) down)
  else .next s

/-! ## Remote accesses (R518 to R520) -/

/-- The agent number of a fabric peer (R656). -/
def peerAgent : Nat := 0xF1

/-- The next packet addressed to this device, when it is of an operation. -/
def withPacket (s : State) (op : Nat) (f : Packet → State → State) : Res :=
  match s.fabric.inbox with
  | k :: rest => if k.op = op then .next (f k { s with fabric := { s.fabric with inbox := rest } }) else .next s
  | [] => .next s

/-- A response to a packet's source. -/
def respond (s : State) (k : Packet) (op fcnt : Nat) (words : List Nat) : State :=
  (sendPacket s { op := op, dst := k.src, src := s.fabric.node, tenant := k.tenant, tag := k.tag, addr := k.addr, fcnt := fcnt,
                  words := words }).getD s

/-- The words a packet marks, with their addresses. -/
def Packet.marked (k : Packet) : List (Nat × Nat) :=
  ((List.range k.words.length).filter (fun i => k.mask.getD i false)).map (fun i => (k.addr / 32 * 32 + 32 * i, k.words.getD i 0))

/-- A WRITE, READ or ADD addressed to this device is handled once the row it names is free (R117, R132, R151, R236); a reserved SCOPE
in its ORD is refused (R10, R295). (DESIGN CHOICE, log 144.) -/
def withRequest (s : State) (op : Nat) (f : Packet → State → State) : Res :=
  match s.fabric.inbox with
  | k :: _ =>
    whenFree s [(k.addr / 2048 * 2048, 2048)]
      (withPacket s op (fun k s => if 4 < ordScope k.ord then sendNack s k.src k.tag k.addr 0x202 else f k s))
  | [] => .next s

/-- Whether every word of a packet is one a fabric access may reach (R519). (DEDUCED, log 75.) -/
def packetReach (s : State) (k : Packet) (write : Bool) (as : List Nat) : Bool :=
  as.all (fun a => fabricReach s k.tenant k.priv write a 32 && (match regionAt s a with
    | .control => false
    | .nowhere => false
    | _ => true))

/-- The code of the first word that a store refuses, the words before it written. (DEDUCED, log 75.) -/
def storeMarked (s : State) : List (Nat × Nat) → Store
  | [] => { next := s }
  | (a, w) :: rest =>
    let r := storeCode s a (BitVec.ofNat 288 w)
    if r.status ≠ 0 then r else storeMarked r.next rest

/-- The handling of FABRIC_WRITE: the words marked in WMASK are written with the codewords carried, then acknowledged (R206,
R518, R519). -/
def serveFabricWrite (k : Packet) (s : State) : State :=
  let ws := k.marked
  if packetReach s k true (ws.map (·.1)) = false then sendNack s k.src k.tag k.addr 0x504
  else
    let r := storeMarked s ws
    if r.status ≠ 0 then sendNack r.next k.src k.tag k.addr r.status else respond r.next k 5 0 []

def execFabricWrite (s : State) : Res := withRequest s 1 serveFabricWrite

/-- Addresses of the words a READ asks for: its flits' words, none beyond the packet's row (R518). -/
def readAddrs (k : Packet) : List Nat :=
  let a := k.addr / 32 * 32
  ((List.range (8 * (k.fcnt + 1))).map (fun i => a + 32 * i)).filter (fun b => b / 2048 == a / 2048)

def readCodes (s : State) : List Nat → Nat × List Nat × State
  | [] => (0, [], s)
  | a :: rest =>
    let r := storedCode s a
    if r.1 ≠ 0 then (r.1, [], r.2.2)
    else
      let t := readCodes r.2.2 rest
      (t.1, r.2.1 :: t.2.1, t.2.2)

/-- The handling of FABRIC_READ: answered with RDATA flits that carry the codewords as stored (R518, R519). -/
def serveFabricRead (k : Packet) (s : State) : State :=
  let as := readAddrs k
  if packetReach s k false as = false then sendNack s k.src k.tag k.addr 0x504
  else
    let r := readCodes s as
    if r.1 ≠ 0 then sendNack r.2.2 k.src k.tag k.addr r.1 else respond r.2.2 k 3 k.fcnt r.2.1

def execFabricRead (s : State) : Res := withRequest s 2 serveFabricRead

/-- Whether a word that arrived decodes to no data (R207). -/
def badCode (w : Nat) : Bool :=
  let c := (decode288 (BitVec.ofNat 288 w)).cls
  c == .poison || c == .uncorrectable

def codeBytes (w : Nat) : List Byte := bytesOfWord (decode288 (BitVec.ofNat 288 w)).data

/-- The bursts of an ADD packet, by the address of each: sent to the adders; a word whose addends arrived poisoned is poisoned
instead (R213, R518). -/
def addMarked (s : State) (k : Packet) : List Nat → Store
  | [] => { next := s }
  | a :: rest =>
    let w (j : Nat) : Nat := k.words.getD ((a - k.addr / 32 * 32) / 32 + j) 0
    let poisonAt (s : State) (j : Nat) : State := if badCode (w j) then (storeCode s (a + 32 * j) poisonWord).next else s
    let r := addRun s peerAgent k.tenant a k.addfmt (codeBytes (w 0) ++ codeBytes (w 1))
    if r.status ≠ 0 then { status := r.status, next := r.next } else addMarked (poisonAt (poisonAt r.next 0) 1) k rest

/-- The handling of FABRIC_ADD: each burst goes to the memory-side adders, then the packet is acknowledged (R126 to R130, R518). -/
def serveFabricAdd (k : Packet) (s : State) : State :=
  let bursts := ((k.marked.map (·.1)).filter (fun a => a % 64 == 0))
  if packetReach s k true (k.marked.map (·.1)) = false then sendNack s k.src k.tag k.addr 0x504
  else
    let r := addMarked s k bursts
    if r.status ≠ 0 then sendNack r.next k.src k.tag k.addr r.status else respond r.next k 5 0 []

def execFabricAdd (s : State) : Res := withRequest s 4 serveFabricAdd

/-- The outstanding operation that a response answers. -/
def opOf (s : State) (k : Packet) : Option RemoteOp := s.fabric.ops.find? (fun o => o.tag == k.tag && o.node == k.src)

def dropOp (s : State) (o : RemoteOp) : State := { s with fabric := { s.fabric with ops := s.fabric.ops.filter (· != o) } }

/-- The descriptor in progress of a mover is changed. -/
def updMoveRun (s : State) (m : Nat) (f : MoveRun → MoveRun) : State := s.updMover m (fun x => { x with run := x.run.map f })

/-- The handling of RDATA: the data of a remote read, decoded where it is used (R206, R518). -/
def serveRdata (k : Packet) (s : State) : State :=
  match opOf s k with
  | some o =>
    if o.op ≠ 2 then s
    else
      let a := o.packet.addr
      let bad := ((List.range k.words.length).filter (fun i => badCode (k.words.getD i 0))).map (fun i => a / 32 + i)
      updMoveRun (dropOp s o) o.owner (fun r =>
        { r with got := mapInsert r.got a (k.words.flatMap codeBytes), gotBad := r.gotBad ++ bad })
  | none => s

def execRdata (s : State) : Res := withPacket s 3 serveRdata

/-- The handling of ACK: a remote write or add is performed at its home (R518). -/
def serveAck (k : Packet) (s : State) : State :=
  match opOf s k with
  | some o => if o.op = 2 then s else dropOp s o
  | none => s

def execAck (s : State) : Res := withPacket s 5 serveAck

/-- A remote operation completes with a code: the descriptor keeps the first one, and moves no data it has not moved (R519, R520). -/
def failOp (s : State) (o : RemoteOp) (code : Nat) (part : Bool) : State :=
  updMoveRun (dropOp s o) o.owner (fun r => { r with status := firstStatus r.status code, moved := true, partial_ := r.partial_ || part })

/-- The handling of NACK: a refused packet completes its operation with its code; one that a transit device dropped is sent
again (R517, R519). A NACK names the packet it refuses by TAG and address. -/
def serveNack (k : Packet) (s : State) : State :=
  match s.fabric.ops.find? (fun o => o.tag == k.tag && o.packet.addr == k.addr) with
  | some o =>
    let code := u16 (codeBytes (k.words.getD 0 0)) 0
    if code = 0x501 then
      match sendPacket s o.packet with
      | some s' => s'
      | none => failOp s o 0x501 false
    else failOp s o code false
  | none => s

def execNack (s : State) : Res := withPacket s 6 serveNack

/-- FABRIC_REQUEST_TIMEOUT: nothing returned within RequestTimeout; the descriptor sets PARTIAL (R520). -/
def execFabricRequestTimeout (tag : Nat) (s : State) : Res :=
  match s.fabric.ops.find? (fun o => o.tag == tag) with
  | some o => if o.since + 1000 * dget s 0x6000 5 ≤ s.now then .next (failOp s o 0x502 true) else .next s
  | none => .next s

end Sys2Proof.Machine
end

