-- ==== Sys2Proof/Machine/Collectives.lean ====
section
/-!
DEFINITION. The commands of the collective queue (R522 to R527).
-/

namespace Sys2Proof.Machine

/-- The fields of a collective descriptor (R523). -/
structure CollDesc where
  op : Nat
  addfmt : Nat
  plane : Bool
  dimA : Nat
  dimB : Nat
  crec : Bool
  irq : Bool
  tag : Nat
  cid : Nat
  caddr : Nat
  src : Nat
  dst : Nat
  bytes : Nat
  root : Nat
  firstA : Nat
  countA : Nat
  firstB : Nat
  countB : Nat
  deriving DecidableEq, Repr

def collDesc (d : List Byte) : CollDesc :=
  let w := u64 d 0
  { op := bitsOf w 63 60, addfmt := bitsOf w 59 57, plane := bitOf w 56, dimA := bitsOf w 55 54, dimB := bitsOf w 53 52,
    crec := bitOf w 51, irq := bitOf w 50, tag := bitsOf w 47 32, cid := w % 2 ^ 32, caddr := u64 d 8, src := u64 d 16,
    dst := u64 d 24, bytes := u64 d 32, root := u16 d 40, firstA := u16 d 48, countA := u16 d 50, firstB := u16 d 52,
    countB := u16 d 54 }

def opAllreduce : Nat := 1
def opAllgather : Nat := 2
def opReducescatter : Nat := 3
def opBroadcast : Nat := 4

def CollDesc.reduces (d : CollDesc) : Bool := d.op == opAllreduce || d.op == opReducescatter

/-- n (R524). -/
def CollDesc.n (d : CollDesc) : Nat := if d.plane then d.countA * d.countB else d.countA

/-- Reserved encodings of a descriptor (R10, R523). -/
def collReserved (d : CollDesc) : Bool :=
  d.op == 0 || decide (4 < d.op) || decide (4 < d.addfmt) || (!d.reduces && d.addfmt != 0) || d.dimA == 3 || d.dimB == 3 ||
  (!d.plane && d.dimB != 0)

/-- This device's place along a dimension from FIRST. -/
def placeAlong (s : State) (dim first : Nat) : Nat :=
  let e := (extents s).getD dim 1
  ((nodeCoords s.fabric.node).getD dim 0 + e - first % e) % e

/-- The rank of this device; none where it is not a member (R524). -/
def collRank (s : State) (d : CollDesc) : Option Nat :=
  let a := placeAlong s d.dimA d.firstA
  let b := if d.plane then placeAlong s d.dimB d.firstB else 0
  if a < d.countA ∧ (!d.plane || decide (b < d.countB)) = true then some (a + d.countA * b) else none

/-- The node of a rank. -/
def rankNode (s : State) (d : CollDesc) (r : Nat) : Nat :=
  let c := listUpd (nodeCoords s.fabric.node) d.dimA (fun _ => (d.firstA + r % d.countA) % (extents s).getD d.dimA 1)
  nodeOf (if d.plane then listUpd c d.dimB (fun _ => (d.firstB + r / d.countA) % (extents s).getD d.dimB 1) else c)

/-- Bytes that the collective writes at DST (R526). -/
def CollDesc.dstBytes (d : CollDesc) : Nat :=
  if d.op = opAllgather then d.n * d.bytes else if d.op = opReducescatter then d.bytes / max d.n 1 else d.bytes

/-- Whether a range lies in one stack, or also in the stockpot. -/
def collPlace (s : State) (a n : Nat) (pot : Bool) : Bool :=
  match regionOf s a n with
  | some (.stack _) => true
  | some (.pot _) => pot
  | _ => false

/-- COLL_INVALID (R523, R524). (DEDUCED, log 76.) -/
def collInvalid (s : State) (d : CollDesc) : Bool :=
  let extOf (k : Nat) := (extents s).getD k 1
  (collRank s d).isNone || decide (d.countA < 2) || decide (extOf d.dimA < d.countA) ||
  (d.plane && (decide (d.countB < 2) || decide (extOf d.dimB < d.countB) || d.dimA == d.dimB)) ||
  (d.reduces && (d.bytes % (64 * d.n) != 0 || !(collPlace s d.dst d.dstBytes false))) ||
  decide (d.n ≤ d.root) || overlaps d.src d.bytes d.dst d.dstBytes ||
  (List.range d.n).any (fun r => nodeDown s (rankNode s d r)) ||
  d.src % 64 != 0 || d.dst % 64 != 0 || d.bytes % 64 != 0 || decide (2 ^ 30 < d.bytes) || !(collPlace s d.src d.bytes true) ||
  !(collPlace s d.dst d.dstBytes true)

/-- Whether the poster may read SRC and write DST and the record (R471, R755). -/
def collReach (s : State) (o : Origin) (d : CollDesc) : Bool :=
  taskReach s o.tenant o.priv false d.src d.bytes && taskReach s o.tenant o.priv true d.dst d.dstBytes &&
  (!d.crec || taskReach s o.tenant o.priv true d.caddr 16)

/-- The code with which a descriptor is rejected, 0 for none. (DEDUCED, log 76.) -/
def checkColl (s : State) (o : Origin) (b : List Byte) : Nat :=
  let d := collDesc b
  if collReserved d then 0x202
  else if d.crec && !(recordPlace s d.caddr) then 0x214
  else if collInvalid s d then 0x507
  else if !(collReach s o d) then 0x504
  else 0

/-- The record of R523 and R344, with ENGINE 128, written after the result. -/
def completeColl (s : State) (b : List Byte) (o : Origin) (status : Nat) (rejected : Bool) : State :=
  let d := collDesc b
  let rec16 := entryRecord d.tag status 128 (boolNat rejected) 0 0xFFFFFFFF 0
  let s1 := if d.crec && recordPlace s d.caddr && taskReach s o.tenant o.priv true d.caddr 16 then (storeBytes s 128 o.tenant d.caddr rec16).next else s
  completeEntry { s1 with fabric := { s1.fabric with coll := none } } o rec16 d.irq

/-! ## Messages between members (R525) -/

/-- What members compare: every field but SRC, DST, CADDR, CREC, IRQ and TAG. -/
def collCommon (b : List Byte) : List Nat :=
  let d := collDesc b
  [d.op, d.addfmt, boolNat d.plane, d.dimA, d.dimB, d.cid, d.bytes, d.root, d.firstA, d.countA, d.firstB, d.countB]

/-- A message to every other member: the descriptor alone, or data as codewords, at most 2 KiB a packet. -/
def collSend (s : State) (d : CollDesc) (words : List Nat) : State :=
  (List.range d.n).foldl (fun s r =>
    let dst := rankNode s d r
    if dst = s.fabric.node then s
    else (chunks 64 words).foldl (fun s ws =>
      (sendPacket s { op := 7, dst := dst, src := s.fabric.node, tag := d.cid % 2048, fcnt := ceilDiv ws.length 8 - 1, words := ws }).getD s) s) s

def othersAgree (s : State) (d : CollDesc) (r : CollRun) : Bool :=
  (List.range d.n).all (fun k => some k == collRank s d || r.agreed.contains k)

/-- This member's contribution is read and sent (R525, R526). -/
def contribute (s : State) (d : CollDesc) (r : CollRun) : State × CollRun :=
  let l := loadBytes s 128 r.origin.tenant d.src d.bytes
  let k := (collRank s d).getD 0
  let bad := (List.range (d.bytes / 32)).filter (fun i => l.marks.getD (32 * i) false)
  let words := (List.range (d.bytes / 32)).map (fun i =>
    if bad.contains i then poisonWord.toNat else (encode288 (wordOfBytes ((l.bytes.drop (32 * i)).take 32))).toNat)
  let s1 := if d.op = opBroadcast ∧ d.root ≠ k then l.next else collSend l.next d words
  (s1, { r with got := mapInsert r.got k l.bytes, gotBad := mapSet [] r.gotBad k bad })

/-- A message of a member reaches the collective that runs. -/
def collHear (s : State) (r : CollRun) (m : CollMsg) : State × CollRun :=
  let d := collDesc r.data
  if m.isData then (s, { r with got := mapInsert r.got m.rank m.data, gotBad := mapSet [] r.gotBad m.rank m.bad })
  else if collCommon m.desc ≠ collCommon r.data then (s, { r with mismatch := true })
  else
    let r1 := { r with agreed := if r.agreed.contains m.rank then r.agreed else r.agreed ++ [m.rank] }
    if othersAgree s d r1 && !(othersAgree s d r) && !r1.mismatch then contribute s d r1 else (s, r1)

def putColl (x : State × CollRun) : State := { x.1 with fabric := { x.1.fabric with coll := some x.2 } }

/-- Descriptors of one collective instance: those that name the same CID. -/
def sameCid (a b : List Byte) : Bool := u32 a 0 == u32 b 0

/-- A sound descriptor starts: it is sent to the members for comparison, and their early messages are heard. -/
def beginColl (s : State) (q : QEntry) : State :=
  let d := collDesc q.data
  let r : CollRun := { data := q.data, origin := q.origin, since := s.now }
  let word := (encode288 (wordOfBytes (q.data.take 32))).toNat
  let word1 := (encode288 (wordOfBytes ((q.data.drop 32).take 32))).toNat
  let s1 := collSend s d [word, word1]
  let early := s1.fabric.collEarly.filter (fun m => sameCid m.desc q.data)
  let s2 : State := { s1 with fabric := { s1.fabric with collEarly := s1.fabric.collEarly.filter (fun m => !(sameCid m.desc q.data)) } }
  putColl (early.foldl (fun x m => collHear x.1 x.2 m) (s2, r))

/-- The head of the collective queue is taken, checked and started; the collectives run one at a time, in acceptance order (R522,
R524). A reserved OP is rejected whatever collective was to start. -/
def startColl (op : Nat) (s : State) : Res :=
  match s.fabric.coll, s.fabric.collQueue with
  | none, q :: rest =>
    let d := collDesc q.data
    if d.op ≠ op ∧ d.op ≠ 0 ∧ d.op ≤ 4 then .next s
    else
      let code := checkColl s q.origin q.data
      let s1 : State := { s with fabric := { s.fabric with collQueue := rest, collTaken := sat64 s.fabric.collTaken 1 } }
      if code ≠ 0 then .next (completeColl s1 q.data q.origin code true)
      else .next (beginColl s1 q)
  | _, _ => .next s

/-- ALLREDUCE (R526) starts. -/
def execAllreduce (s : State) : Res := startColl opAllreduce s

/-- ALLGATHER (R526) starts. -/
def execAllgather (s : State) : Res := startColl opAllgather s

/-- REDUCESCATTER (R526) starts. -/
def execReducescatter (s : State) : Res := startColl opReducescatter s

/-- BROADCAST (R526) starts. -/
def execBroadcast (s : State) : Res := startColl opBroadcast s

/-- COLL_POST: a 64 B burst reaches the collective queue (R339 to R342, R522). -/
def execCollPost (poster tenant : Nat) (priv : Bool) (data : List Byte) (s : State) : Res :=
  .next (if data.length = 64 then
      (postBurst s (poster * 64) { poster := poster, tenant := tenant, priv := priv } (ecsBase + 0x1210800) data).2
    else badPostColl s)

/-- COLL_MESSAGE: a member's descriptor for comparison, or its contribution; a message of a collective that has not started here
waits for its start (R525). -/
def execCollMessage (rank : Nat) (desc : List Byte) (isData : Bool) (data : List Byte) (bad : List Nat) (s : State) : Res :=
  let m : CollMsg := { rank := rank, desc := desc, isData := isData, data := data, bad := bad }
  match s.fabric.coll with
  | some r =>
    if sameCid desc r.data then .next (putColl (collHear s r m))
    else .next { s with fabric := { s.fabric with collEarly := s.fabric.collEarly ++ [m] } }
  | none => .next { s with fabric := { s.fabric with collEarly := s.fabric.collEarly ++ [m] } }

/-! ## Results (R526) -/

/-- 32 B of a contribution and whether they are poisoned. -/
def contribution (r : CollRun) (j i : Nat) : List Byte × Bool :=
  (((mapGet [] r.got j).drop (32 * i)).take 32, (mapGet [] r.gotBad j).contains i)

/-- Words added left to right, each addition rounding once (R127). -/
def sumTerms (fmt : Nat) : List (List Byte × Bool) → List Byte × Bool
  | [] => (List.replicate 32 0, false)
  | x :: xs =>
    let n := (addBytesOf fmt).getD 4
    xs.foldl (fun acc y => ((addWordAux fmt n (32 / n) acc.1 y.1).1, acc.2 || y.2)) x

/-- k + 1, k + 2, …, k modulo n. -/
def ringOrder (k n : Nat) : List Nat := (List.range n).map (fun i => (k + 1 + i) % n)

/-- Word i of the sum of all contributions, as chunk k is summed: first along DIMA within each line, then along DIMB. -/
def chunkWord (d : CollDesc) (r : CollRun) (k i : Nat) : List Byte × Bool :=
  let line (b : Nat) := sumTerms d.addfmt ((ringOrder (k % d.countA) d.countA).map (fun a => contribution r (a + d.countA * b) i))
  if d.plane then sumTerms d.addfmt ((ringOrder (k / d.countA) d.countB).map line) else line 0

/-- What this member's DST receives, word by word. (DEDUCED, log 77.) -/
def collResult (d : CollDesc) (r : CollRun) (me : Nat) : List (List Byte × Bool) :=
  let w := d.bytes / 32
  let c := w / max d.n 1
  let chunk (k : Nat) := (List.range c).map (fun i => chunkWord d r k (c * k + i))
  if d.op = opAllgather then (List.range d.n).flatMap (fun j => (List.range w).map (contribution r j))
  else if d.op = opBroadcast then (List.range w).map (contribution r d.root)
  else if d.op = opReducescatter then chunk me
  else (List.range d.n).flatMap chunk

/-- Whether every contribution that the result needs is here. -/
def collReady (s : State) (d : CollDesc) (r : CollRun) : Bool :=
  othersAgree s d r && (List.range d.n).all (fun j => (d.op == opBroadcast && j != d.root) || r.got.any (fun e => e.1 == j))

def storeResult (s : State) (a : Nat) : List (List Byte × Bool) → Store
  | [] => { next := s }
  | (bs, bad) :: rest =>
    let r := storeCode s a (if bad then poisonWord else encode288 (wordOfBytes bs))
    let t := storeResult r.next (a + 32) rest
    { status := firstStatus r.status t.status, next := t.next }

/-- COLL_COMPLETE: the result stands at DST and the collective completes, or the members disagreed (R525, R527). -/
def execCollComplete (s : State) : Res :=
  match s.fabric.coll with
  | some r =>
    let d := collDesc r.data
    if r.mismatch then .next (completeColl s r.data r.origin 0x508 false)
    else if collReady s d r then
      let ws := collResult d r ((collRank s d).getD 0)
      let w := storeResult s d.dst ws
      let poison := if ws.any (·.2) then (if d.reduces then 0x312 else 0x320) else 0
      .next (completeColl w.next r.data r.origin (firstStatus poison w.status) false)
    else .next s
  | none => .next s

/-- Undefined bytes at a destination: free values. -/
def freeWords (s : State) (a : Nat) : Nat → State
  | 0 => s
  | n + 1 =>
    let (x0, s0) := freeValue s
    let (x1, s1) := freeValue s0
    let (x2, s2) := freeValue s1
    let (x3, s3) := freeValue s2
    freeWords (storeCode s3 a (encode288 (BitVec.ofNat 256 (x0 + 2 ^ 64 * x1 + 2 ^ 128 * x2 + 2 ^ 192 * x3)))).next (a + 32) n

/-- COLL_TIMEOUT: a member was missing beyond CollTimeout or is lost; DST is undefined (R525). (DEDUCED, log 77.) -/
def execCollTimeout (s : State) : Res :=
  match s.fabric.coll with
  | some r =>
    let d := collDesc r.data
    let lost := (List.range d.n).any (fun k => nodeDown s (rankNode s d k))
    if lost ∨ r.since + 1000 * dget s 0x6000 6 ≤ s.now then
      .next (completeColl (freeWords s d.dst (d.dstBytes / 32)) r.data r.origin 0x509 false)
    else .next s
  | none => .next s

end Sys2Proof.Machine
end

