-- ==== Sys2Proof/Machine/Tandem.lean ====
section
/-!
DEFINITION. The tandem pair (R528 to R541): pair states, heartbeats, the mirrored state and its receipt, takeover and withdrawal.
-/

namespace Sys2Proof.Machine

/-! ## Pair states (R528, R529) -/

def pairDisabled : Nat := 0
def pairSeeking : Nat := 1
def pairSyncing : Nat := 2
def pairActive : Nat := 3
def pairSolo : Nat := 4
def pairFenced : Nat := 5
def pairHeld : Nat := 6

/-- No mirror version is in use, and no rank (R530, 0x6100.05). -/
def unpair (s : State) (st : Nat) : State := dset (dset (setPair s st) 0x6100 5 0) 0x6100 0xF 0

/-- Entry into SEEKING: heartbeats are counted afresh and a new pair key is drawn (R529, R598). (DEDUCED, log 80.) -/
def enterSeeking (s : State) : State :=
  unpair { s with tandem := { s.tandem with
    beats := 0, partnerSolo := false, versionNoted := false, pairKey := [], presenceSeq := 0, partnerPresence := 0 } } pairSeeking

/-- What follows a write of TandemEnable (R529). -/
def applyTandemEnable (s : State) (v : Nat) : State :=
  let s1 := dset s 0x6100 1 v
  let p := pairState s
  if v ≠ 0 then (if p = pairDisabled ∧ (s.dev = .ready ∨ s.dev = .service) then enterSeeking s1 else s1)
  else if p = pairSeeking ∨ p = pairSolo ∨ p = pairHeld then unpair s1 pairDisabled
  else s1

/-- Why a write of TandemEnable is refused, 0 for not at all. -/
def tandemEnableAbort (s : State) (v : Nat) : Nat :=
  let p := pairState s
  if v = 0 ∧ (p = pairSyncing ∨ p = pairActive ∨ p = pairFenced) then 0x02010000 + p else 0

/-- Byte strings compared byte by byte. -/
def bytesBefore : List Byte → List Byte → Bool
  | _, [] => false
  | [], _ :: _ => true
  | a :: as, b :: bs => if a = b then bytesBefore as bs else decide (a.toNat < b.toNat)

/-- Whether this device ranks first (R528). -/
def ranksFirst (s : State) : Bool :=
  let mine := dget s 0x6100 2
  if mine = s.tandem.partnerPriority then bytesBefore (bget s 0x1000 5) (bget s 0x6100 3) else decide (s.tandem.partnerPriority < mine)

/-! ## What the twin must hold -/

/-- Key of the positions held of a lane. -/
def heldKey (k draft lane sel : Nat) : Nat := (2 * k + draft) * 131072 + lane * 2 + sel

/-- Whether this device holds a SHADOW entry fully (R533). (DEDUCED, log 79.) -/
def holdsFully (s : State) (k : Nat) : Bool :=
  let r := s.req k
  padTo 64 (s.slot r.slot).digest == padTo 64 r.digest &&
    (windowsOf s r).all (fun w => (List.range w.2.nlane).all (fun i => (List.range 2).all (fun sel =>
      decide (r.len ≤ mapGet 0 s.tandem.heldPos (heldKey k w.1 i sel)))))

/-- The counts of SHADOW entries and of own requests that the twin does not protect (0x6100.0C, .0D). -/
def countShadows (s : State) : State :=
  let n := (s.reqs.filter (fun e => e.2.shadow)).length
  let u := (s.reqs.filter (fun e => !e.2.shadow && e.2.live && !e.2.isProtected)).length
  dset (dset s 0x6100 0xD n) 0x6100 0xC (if mirroring s then u else 0)

/-- SYNCING ends when every live request of both devices is protected (R529). (DEDUCED, log 79.) -/
def settleActive (s : State) : State :=
  let s1 := countShadows s
  if pairState s = pairSyncing ∧ s.reqs.all (fun e => !e.2.live || e.2.isProtected) = true then setPair s1 pairActive else s1

/-! ## Entering SYNCING (R530, R540) -/

/-- The device that re-enters discards its serving state: requests FREE without records, windows released. -/
def dropServing (s : State) : State :=
  let s1 := (s.svc.steps.map (·.1)).foldl (fun s m => discardStep (countStep s m) m) s
  let s2 := s1.reqs.foldl (fun s e => dropReq s e.1) s1
  { s2 with
    svc := { s2.svc with waiting := [], submits := [] }
    tandem := { s2.tandem with commands := [], lastTokens := [], promote := [] } }

/-- The positions of a request from `pos` on are sent as CATCHUP (R532, R540). -/
def catchUp (s : State) (k pos : Nat) : State :=
  let r := s.req k
  (windowsOf s r).foldl (fun s w => (List.range w.2.nlane).foldl (fun s i => (List.range (r.len - pos)).foldl (fun s j =>
    mirrorPosition (mirrorPosition s 9 k w.1 w.2 i (pos + j) 0) 9 k w.1 w.2 i (pos + j) 1) s) s) s

/-- SYNCING: the rank, the mirror version in use, a fresh stream, and ADMIT for every live request held. (DEDUCED, log 78.) -/
def enterSyncing (s : State) : State :=
  let reenter := (pairState s == pairSeeking && s.tandem.partnerSolo) || pairState s == pairFenced
  let first := ranksFirst s
  let s1 := if reenter then dropServing s else s
  let s2 : State := { s1 with tandem := { s1.tandem with
    txSeq := 0, rxSeq := 0, heldPos := [], commands := [], lastTokens := [], promote := [], handed := [], beats := 0, partnerSolo := false } }
  let s3 := { s2 with reqs := s2.reqs.map (fun e => (e.1, { e.2 with isProtected := false })) }
  let s4 := dset (dset (setPair s3 pairSyncing) 0x6100 5 (if first then 1 else 2)) 0x6100 0xF
    (min s.tandem.ownMax (dget s 0x6100 0xF))
  countShadows (s4.reqs.foldl (fun s e => if e.2.live && !e.2.shadow && !e.2.matching then mirrorAdmit s e.1 else s) s4)

/-! ## Heartbeats (R535) -/

/-- HEART_SEND: a HEART flit on each UP tandem port, and from the primary every 1 ms a TIME message (R531 KIND 8). -/
def execHeartSend (s : State) : Res :=
  let n := s.tandem.heartSeq + 1
  let s0 : State := { s with tandem := { s.tandem with heartSeq := n } }
  let c := cadenceNow s
  let s1 := [6, 7].foldl (fun s p =>
    if portState s p = portUp then
      transmit s p 9 0 1 [n, pairState s, dget s 0x6100 5, dget s 0x6100 2, s.tandem.rxSeq, c / 65536, c % 65536, s.tandem.ownMin, s.tandem.ownMax] []
    else s) s0
  .next (if dget s 0x6100 5 = 1 ∧ n % 100 = 0 then
    mirror s1 8 0 64 [dget s 0x1201 1, s.ptp, dget s 0x1201 0xA, dget s 0x1200 8, s.cad.start] [] else s1)

/-- The partner's heartbeat is noted. -/
def noteHeart (s : State) (seq priority applied : Nat) : State :=
  { s with tandem := { s.tandem with partnerHeart := seq, lastBeat := s.now, partnerPriority := priority, partnerApplied := applied } }

/-- A heartbeat in SEEKING or SOLO counts towards SYNCING when the version ranges overlap (R529, R530). The highest version in both
ranges is kept in 0x6100.0F only from SYNCING on. -/
def countHeart (s : State) (inRow : Bool) (partner vmin vmax : Nat) : State :=
  if vmin ≤ s.tandem.ownMax ∧ s.tandem.ownMin ≤ vmax then
    let n := if inRow then s.tandem.beats + 1 else 1
    let solo := (inRow && s.tandem.partnerSolo) || partner == pairSolo
    let s1 : State := { s with tandem := { s.tandem with beats := n, partnerSolo := solo } }
    if 3 ≤ n then dset (enterSyncing s1) 0x6100 0xF (min s.tandem.ownMax vmax) else s1
  else
    let s1 := dset { s with tandem := { s.tandem with beats := 0 } } 0x6100 0xF 0
    if s.tandem.versionNoted then s1
    else recordFault { s1 with tandem := { s1.tandem with versionNoted := true } } (faultOf 0x515 clsCorrected kindDevice 0 0xFF 0)

/-- HEART: a heartbeat from the named partner, which arrives on an UP tandem port: its sequence number, pair state, TandemPriority,
last stream sequence applied, and mirror version range (R530, R535). Copies that come on the other port are not counted again. (DESIGN CHOICE, log 73.) -/
def execHeart (port seq partner priority applied vmin vmax : Nat) (s : State) : Res :=
  if 2 ≤ port then .next s
  else if portState s (6 + port) ≠ portUp then .next s
  else if seq ≤ s.tandem.partnerHeart ∧ s.tandem.partnerHeart ≠ 0 ∧ s.now < s.tandem.lastBeat + 30000 then
    .next { s with tandem := { s.tandem with lastBeat := s.now } }
  else
    let inRow := seq == s.tandem.partnerHeart + 1
    let s1 := noteHeart s seq priority applied
    let p := pairState s
    if p = pairSeeking ∨ p = pairSolo then .next (countHeart s1 inRow partner vmin vmax)
    else if p = pairFenced ∧ dget s 0x6100 5 = 2 then
      .next (dset (enterSyncing { s1 with dev := s.tandem.left }) 0x6100 0xF (min s.tandem.ownMax vmax))
    else .next (settleActive s1)

/-- HEARTBEAT_TIMEOUT: 30 µs without a heartbeat on any tandem port take both tandem links down (R535). -/
def execHeartbeatTimeout (s : State) : Res :=
  if mirroring s ∧ s.tandem.lastBeat + 30000 ≤ s.now ∧ (portState s 6 = portUp ∨ portState s 7 = portUp) then
    .next (tandemPortFault (bump (setPortState (setPortState s 6 portDown) 7 portDown) 0x6100 8 1) 6)
  else .next s

def tandemLinksDown (s : State) : Bool := portState s 6 != portUp && portState s 7 != portUp

/-! ## Loss, fencing and takeover (R535 to R538) -/

/-- The slots that hold SHADOW entries, whose promotion is due at their next boundaries. -/
def shadowSlots (s : State) : List Nat := (List.range 16).filter (fun m => s.reqs.any (fun e => e.2.shadow && e.2.slot == m))

def startPromotion (s : State) : State :=
  { s with tandem := { s.tandem with promote := shadowSlots s } }

/-- Commits that waited for the twin go on. -/
def releaseCommits (s : State) : State :=
  (List.range 16).foldl (fun s m => if stepBusy s m && (stepAt s m).phase == .acking then finishCommit s m else s) s

/-- The partner is lost: waiting completions are written, SOLO, the SHADOW entries to be promoted (R535, R537). -/
def losePartner (s : State) : State :=
  let s1 := recordFault (failTwinRestores (unpair (answerPending s) pairSolo)) (faultOf 0x510 clsCorrected kindDevice 0 0xFF 0)
  releaseCommits (countShadows (bump (startPromotion { s1 with tandem := { s1.tandem with withdraw := false, withdrawSlots := [] } }) 0x6100 9 1))

/-- A request of the backup becomes a SHADOW entry of the primary's (R536). -/
def shadowReq (s : State) (e : Nat × Req) : State :=
  if e.2.state = .free ∨ e.2.shadow then s
  else
    let s1 := if e.2.live then unreserveRing s e.2.tenant e.2.outring else s
    s1.updReq e.1 (fun r => { r with shadow := true, digest := (s.slot r.slot).digest })

/-- Both devices enter FENCED; a step that waits for the twin is discarded (R536). (DEDUCED, log 80.) -/
def fence (s : State) : State :=
  let s0 := haltNests (failTwinRestores (setPair (answerPending s) pairFenced))
  let s1 := recordFault (bump { s0 with dev := .fenced, tandem := { s0.tandem with left := s.dev } } 0x6100 0xA 1)
    (faultOf 0x511 clsContained kindDevice 0 0xFF 0)
  let s2 := (List.range 16).foldl unwindCommit s1
  if dget s 0x6100 5 = 1 then fencedDone (countShadows (startPromotion s2))
  else
    let s3 := (s2.svc.steps.map (·.1)).foldl (fun s m => setStep s m { stepAt s m with discard := true }) s2
    countShadows (s3.reqs.foldl shadowReq s3)

/-! ## Withdrawal and rejoin (R539) -/

/-- WITHDRAW begins: slots without a step are handed over at once. -/
def startWithdraw (s0 : State) : State :=
  let s := answerPending s0
  let busy := (List.range 16).filter (stepBusy s)
  let s1 := ((List.range 16).filter (fun m => !(stepBusy s m))).foldl handOver
    { s with tandem := { s.tandem with withdraw := true, withdrawSlots := busy } }
  if busy = [] then endWithdraw s1 else s1

/-- WITHDRAW: a write of TandemCommand 1, legal in SYNCING and ACTIVE. -/
def execWithdraw (s : State) : Res :=
  .next (legalOr s (mirroring s && !s.tandem.withdraw) (pairState s) (startWithdraw s))

/-- REJOIN: a write of TandemCommand 2, legal in HELD. -/
def execRejoin (s : State) : Res := .next (legalOr s (pairState s == pairHeld) (pairState s) (enterSeeking s))

/-! ## Receipt of the partner's stream (R531 to R533) -/

/-- An acknowledgment on the tandem ports: the stream sequence it answers, and what it says. -/
def ackMirror (s : State) (seq : Nat) (fields : List Nat) : State :=
  let p := if portState s 6 = portUp then 6 else 7
  transmit s p 5 4 1 (seq :: fields) []

/-- The next message of the partner's stream is applied. (DEDUCED, log 78.) -/
def withMirror (s : State) (seq : Nat) (f : State → State) : Res :=
  if (mirroring s ∨ pairState s = pairFenced ∨ s.tandem.promote ≠ []) ∧ seq = s.tandem.rxSeq + 1 then
    .next (settleActive (f { s with tandem := { s.tandem with rxSeq := seq } }))
  else .next s

/-- The backup's request moves out of the partner's way to its lowest FREE entry, and is admitted anew at the twin under that
number once its match is done (R532). -/
def moveReq (s : State) (k : Nat) : State :=
  match (List.range 16384).find? (fun j => (s.req j).state == .free && j != k) with
  | some j =>
    let s1 := (s.setReq j (s.req k)).setReq k {}
    let s2 : State := { s1 with svc := { s1.svc with
      submits := mapSet [] (mapSet [] s1.svc.submits j (mapGet [] s1.svc.submits k)) k []
      preps := s1.svc.preps.map (fun p => if p.req = k then { p with req := j } else p) } }
    if (s2.req j).live && !(s2.req j).matching then mirrorAdmit s2 j else s2
  | none => s

/-- The effect of MIRROR_ADMIT: a SHADOW entry with the owner's number; the matched blocks are mapped from this device's own
prefix tree, and the acknowledgment says how far (R532). `entry` are bytes 0 to 79 of the entry. -/
def takeMirrorAdmit (seq req : Nat) (entry window digest : List Byte) (keys : List Nat) (s : State) : State :=
  let old := s.req req
  let own := old.state ≠ .free ∧ !old.shadow
  if 16384 ≤ req ∨ (own ∧ dget s 0x6100 5 = 1) then s
  else
    let s0 := if own then moveReq s req else s
    let r0 := reqOfBytes entry
    let st : ReqState := if u8 entry 64 % 16 = 1 then .queued else if u8 entry 64 % 16 = 2 then .prefill
      else if u8 entry 64 % 16 = 3 then .decode else if u8 entry 64 % 16 = 4 then .paused else if u8 entry 64 % 16 = 5 then .done
      else if u8 entry 64 % 16 = 6 then .cancelled else .failed
    let t := u8 entry 66
    let r : Req := { r0 with
      state := st, shadow := true, tenant := t, status := u16 entry 68, len := u32 entry 72, delivered := u32 entry 76, digest := digest
      cgen := if r0.cutter = 0xFFFF then 0 else mapGet 0 s0.svc.cgen r0.cutter, tsubmit := s.ptp }
    let s1 := svcWrite (s0.setReq req (freshInstant s0 r)) r.windowAddr (padTo 64 window)
    let w := winOf s1 r.windowAddr
    let ids := matchNodes s1 t keys
    let s2 := mapMatched (holdNodes s1 ids) w ids
    let n := 64 * ids.length
    let s3 := s2.updReq req (fun r => { r with pubLen := n, lastNode := ids.getLast?.getD 0 })
    let held := (List.range w.nlane).foldl (fun m i => mapSet 0 (mapSet 0 m (heldKey req 0 i 0) n) (heldKey req 0 i 1) n) s3.tandem.heldPos
    ackMirror { s3 with tandem := { s3.tandem with heldPos := held } } seq [req, n]

def execMirrorAdmit (seq req : Nat) (entry window digest : List Byte) (keys : List Nat) (s : State) : Res :=
  withMirror s seq (takeMirrorAdmit seq req entry window digest keys)

/-- The effect of MIRROR_COMMAND: a serving command of the partner's tenant; a RELEASE frees the SHADOW entry, another waits for
a takeover or the COMMIT that shows its effect (R531, R537). -/
def takeMirrorCommand (req tenant : Nat) (data : List Byte) (s : State) : State :=
  if u8 data 0 = 5 then (if (s.req req).shadow then freeReq (endWindows s (s.req req)) req else s)
  else
    let q : QEntry := { data := data, origin := { poster := 16, tenant := tenant } }
    { s with tandem := { s.tandem with commands := s.tandem.commands ++ [q] } }

def execMirrorCommand (seq req tenant : Nat) (data : List Byte) (s : State) : Res :=
  withMirror s seq (takeMirrorCommand req tenant data)

/-- A page for a position: the lane's own, a fresh one, or a private copy of a shared one; `frame` is this device's choice. (DEDUCED, log 81.) -/
def shadowPage (s : State) (r : Req) (w : Win) (lane pos frame : Nat) : Option State :=
  let j := pos / w.ppp
  let a := w.entryAddr lane j
  let s := svcSee s a 8
  let v := readEntry s a
  if entryValid v && !(entryRo v) then some s
  else if kvFree s frame && frame / 2 ^ 37 == w.stackOf lane j then
    let s1 := allocPage s r.tenant frame
    let s2 := if entryValid v then copyPage s1 r.tenant (entryFrame v) frame (128 * ceilDiv (pos - j * w.ppp) w.kpr) else s1
    some (writeEntry s2 a (entryWord frame false))
  else none

/-- A position of a SHADOW entry's window is filled with the codewords that the message carries, 36 bytes each, poison included (R206). -/
def fillPosition (s : State) (req draft lane pos sel frame : Nat) (data : List Byte) : State :=
  let r := s.req req
  match (windowsOf s r).find? (fun w => w.1 == draft) with
  | some (_, w) =>
    if r.shadow && decide (lane < w.nlane) && decide (pos < w.maxlen) && 36 * w.posBytes == 32 * data.length then
      match shadowPage s r w lane pos frame with
      | some s1 =>
        let s2 := match posAddr s1 w lane pos sel with
          | some a => (List.range (w.posBytes / 32)).foldl (fun s i =>
              (storeCode s (a + 32 * i) (BitVec.ofNat 288 (leNat ((data.drop (36 * i)).take 36)))).next) s1
          | none => s1
        let k := heldKey req draft lane sel
        if mapGet 0 s2.tandem.heldPos k = pos ∨ pos < mapGet 0 s2.tandem.heldPos k then
          { s2 with tandem := { s2.tandem with heldPos := mapSet 0 s2.tandem.heldPos k (max (pos + 1) (mapGet 0 s2.tandem.heldPos k)) } }
        else s2
      | none => s
    else s
  | none => s

/-- The effect of MIRROR_APPEND: one position's elements by lane and position; `frame` is the page this device takes where the
lane has none (R531, R532). -/
def takeMirrorAppend (req draft lane pos kind frame : Nat) (data : List Byte) (s : State) : State :=
  fillPosition s req draft lane pos (kind % 2) frame data

def execMirrorAppend (seq req draft lane pos kind frame : Nat) (data : List Byte) (s : State) : Res :=
  withMirror s seq (takeMirrorAppend req draft lane pos kind frame data)

/-- The effect of MIRROR_CATCHUP: a position copied from the owner's pages; one that this device already holds is left alone
(R532, R540). -/
def takeMirrorCatchup (req draft lane pos kind frame : Nat) (data : List Byte) (s : State) : State :=
  if pos < mapGet 0 s.tandem.heldPos (heldKey req draft lane (kind % 2)) then s
  else fillPosition s req draft lane pos (kind % 2) frame data

def execMirrorCatchup (seq req draft lane pos kind frame : Nat) (data : List Byte) (s : State) : Res :=
  withMirror s seq (takeMirrorCatchup req draft lane pos kind frame data)

def reqStateOf (c : Nat) : ReqState :=
  if c = 0 then .free else if c = 1 then .queued else if c = 2 then .prefill else if c = 3 then .decode else if c = 4 then .paused
  else if c = 5 then .done else if c = 6 then .cancelled else .failed

/-- One request of a COMMIT: REQ, LEN, PENDING, state, STATUS, PRIO, DMODE, and POS with the committed tokens. (DEDUCED, log 81.) -/
def commitShadow (s : State) (fields tokens : List Nat) : State :=
  let f (i : Nat) := fields.getD i 0
  let k := f 0
  let r := s.req k
  if !r.shadow then s
  else
    let r1 : Req := { r with
      len := f 1, pendingTok := f 2, state := reqStateOf (f 3), status := f 4, prio := f 5, dmode := f 6
      delivered := r.delivered + tokens.length, tokens := r.tokens ++ tokens, tcommit := s.ptp }
    let s1 := s.setReq k (if r1.live then freshInstant s r1 else r1)
    let s2 : State := { s1 with tandem := { s1.tandem with lastTokens := mapSet (0, []) s1.tandem.lastTokens k (f 7, tokens) } }
    let s3 := s2.updReq k (fun r => { r with isProtected := holdsFully s2 k })
    if r1.ended ∧ (r1.state = .done ∧ r1.publish) = False then
      let s4 := endWindows s3 r1
      if r1.autofree then freeReq s4 k else s4
    else s3

/-- The effect of MIRROR_COMMIT: applied after every earlier message, then acknowledged with each request PROTECTED or
UNPROTECTED (R533). -/
def takeMirrorCommit (seq slot step : Nat) (parts : List (List Nat × List Nat)) (s : State) : State :=
  let s0 : State := { s with tandem := { s.tandem with
    commands := s.tandem.commands.filter (fun q => (s.req (u16 q.data 2)).slot != slot) } }
  let s1 := parts.foldl (fun s p => commitShadow s p.1 p.2) s0
  ackMirror s1 seq (step :: parts.flatMap (fun p => [p.1.getD 0 0, boolNat (s1.req (p.1.getD 0 0)).isProtected]))

def execMirrorCommit (seq slot step : Nat) (parts : List (List Nat × List Nat)) (s : State) : Res :=
  withMirror s seq (takeMirrorCommit seq slot step parts)

/-- Whether a mirrored value is taken: its stamp is later, or equal and the primary's (R531). -/
def stampWins (s : State) (key stamp : Nat) : Bool :=
  let old := mapGet 0 s.tandem.stamps key
  decide (old < stamp) || (old == stamp && dget s 0x6100 5 == 2)

/-- The effect of MIRROR_CUTTER: a cutter's contents, none for a clear, with CGEN taken from the message (R531). -/
def takeMirrorCutter (seq cutter gen tenant stamp : Nat) (data : List Byte) (s : State) : State :=
  if stampWins s (2 ^ 32 + cutter) stamp then
    let s1 : State := { s with tandem := { s.tandem with stamps := mapSet 0 s.tandem.stamps (2 ^ 32 + cutter) stamp } }
    ackMirror (if data = [] then emptyCutter s1 cutter else placeCutter s1 cutter tenant (u8 data 2) gen data) seq []
  else ackMirror s seq []

def execMirrorCutter (seq cutter gen tenant stamp : Nat) (data : List Byte) (s : State) : Res :=
  withMirror s seq (takeMirrorCutter seq cutter gen tenant stamp data)

/-- The effect of MIRROR_PREFIX: what 0 unpins or 1 pins the blocks of a tenant, 2 publishes them from a SHADOW entry's window,
whose pages are then released (R411, R531). -/
def takeMirrorPrefix (what req draft tenant : Nat) (keys : List Nat) (s : State) : State :=
  if what < 2 then (matchNodes s tenant keys).foldl (fun s id => updNode s id (fun x => { x with pinned := what == 1 })) s
  else
    let r := s.req req
    match (windowsOf s r).find? (fun w => w.1 == draft) with
    | some (_, w) =>
      if !r.shadow then s
      else
        let pl := if draft = 0 then r.pubLen else r.dPubLen
        let s1 := if holdsFully s req then
            publishBlocks s w r.tenant (pl / 64) (if draft = 0 then r.lastNode else r.dLastNode) (0, 0) (keys.drop (pl / 64))
          else s
        if draft = boolNat r.draft then
          let s2 := endWindows s1 r
          if r.autofree then freeReq s2 req else s2
        else s1
    | none => s

def execMirrorPrefix (seq what req draft tenant : Nat) (keys : List Nat) (s : State) : Res :=
  withMirror s seq (takeMirrorPrefix what req draft tenant keys)

/-- The effect of MIRROR_TIME: TimeQuality, PTP time, frequency correction, period number and boundary; the backup takes time
and the cadence from the primary (R531, R534). -/
def takeMirrorTime (quality time freq period boundary : Nat) (s : State) : State :=
  if dget s 0x6100 5 = 2 then
    let s1 := dset (setQuality { s with ptp := time } quality) 0x1201 0xA freq
    dset { s1 with cad := { s1.cad with start := boundary } } 0x1200 8 period
  else s

def execMirrorTime (seq quality time freq period boundary : Nat) (s : State) : Res :=
  withMirror s seq (takeMirrorTime quality time freq period boundary)

/-- The effect of MIRROR_HANDOVER: the slot's requests are promoted at its next boundary, with no re-delivery (R539). -/
def takeMirrorHandover (slot : Nat) (s : State) : State :=
  if slot < 16 then
    { s with tandem := { s.tandem with
      promote := s.tandem.promote.filter (· != slot) ++ [slot], handed := s.tandem.handed.filter (· != slot) ++ [slot] } }
  else s

def execMirrorHandover (seq slot : Nat) (s : State) : Res :=
  withMirror s seq (takeMirrorHandover slot)

/-- PAIR_KEY_AGREE: in SEEKING, or after a scan test discarded the key, the partner's share arrives, signed with the identity key that
its certificate gives; this device draws and sends its own, and both derive the pair key (R598, R639). -/
def execPairKeyAgree (share signature partnerKey : List Byte) (certificateOk : Bool) (s : State) : Res :=
  if (pairState s ≠ pairSeeking ∧ ¬(mirroring s = true ∧ s.tandem.pairKey = [])) ∨ certificateOk = false ∨ Config.ed25519Verify partnerKey share signature = false then .next s
  else
    let priv := Config.random s.free 32
    let pub := Config.x25519Public priv
    let z := Config.x25519 priv share
    let mine := bget s 0x1000 5
    let theirs := bget s 0x6100 3
    let k := (Config.sha512 (z ++ (if ranksFirst s then mine ++ theirs else theirs ++ mine))).take 32
    .next (emit { s with free := s.free + 1, tandem := { s.tandem with pairKey := k, presenceSeq := 0, partnerPresence := 0 } }
      (.frame 20 [] (pub ++ Config.ed25519Sign Config.identityPrivate pub)))

end Sys2Proof.Machine
end

