-- ==== Sys2Proof/Machine/Host.lean ====
section
/-!
DEFINITION. The commands of the host interface: doorbells and rings (R551 to R562), interrupts (R563 to R566), the device memory
window (R549, R550), functions and the link (R544, R545, R569 to R571), external inputs (R567) and violations (R568).
-/

namespace Sys2Proof.Machine

/-- TDI states (R545): the functions of CONFIG_LOCKED and RUN are barred from configuration. (DEDUCED, log 82.) -/
def tdiLocked (s : State) (t : Nat) : Bool :=
  let d := mapGet 0 s.host.tdi t
  d == 1 || d == 2

/-- A host protocol violation is counted (R568). -/
def hostViolation (s : State) : State := bump s 0x2050 7 1

/-! ## Doorbells (R556) -/

/-- DOORBELL: held in QUIESCING and while the device is in RECOVERY, dropped in FAULTED and RESETTING, processed otherwise (R465,
R466, R556, R670). (DEDUCED, log 62.) -/
def execDoorbell (tenant ring value : Nat) (s : State) : Res :=
  if 64 ≤ tenant ∨ 1024 ≤ ring then .next s
  else match (s.tenant tenant).state with
    | .quiescing => .next (s.updTenant tenant (fun x => { x with held := x.held ++ [(ring, value)] }))
    | .active =>
      .next (if s.dev = .recovery then s.updTenant tenant (fun x => { x with held := x.held ++ [(ring, value)] })
        else applyDoorbell s tenant ring value)
    | _ => .next (dropDoorbell s tenant ring)

/-! ## Ring configuration (R553, R555, R572) -/

/-- The fields that a write of RING_CTRL sets while the ring is disabled. -/
def ctrlFields (x : Ring) (v : Nat) : Ring :=
  { x with
    type := bitsOf v 61 58, log2 := bitsOf v 57 53, loc := bitOf v 52, cring := bitsOf v 51 42, isrc := bitsOf v 41 31, ien := bitOf v 30,
    tgt := bitsOf v 29 23 }

/-- TGT values of a TYPE. -/
def tgtOk (x : Ring) : Bool :=
  if x.type = 4 then decide (x.tgt ≤ 34) else if x.type = 5 then decide (x.tgt ≤ 66) else if x.type = 6 then decide (x.tgt ≤ 8)
  else x.tgt == 0

def isSubmission (type : Nat) : Bool := type == 1 || decide (4 ≤ type)

/-- Whether a device-memory ring lies wholly in a stack range of one of its tenant's apertures with RIGHTS 0b11. (DEDUCED, log 41.) -/
def ringPlace (s : State) (t : Nat) (x : Ring) : Bool :=
  !x.loc || ((match regionOf s x.base (64 * x.size) with
    | some (.stack _) => true
    | _ => false) && apCover (apertures s t) true x.base (64 * x.size) 64)

/-- CRING of a submission ring: an enabled COMPL ring of the function, bound to no other TYPE. -/
def cringOk (s : State) (t : Nat) (x : Ring) : Bool :=
  !(isSubmission x.type) || (match ringNo s t x.cring with
    | some c =>
      let y := s.ring c
      y.enable && !y.busy && y.type == 2 && (y.bound == none || y.bound == some x.type)
    | none => false)

/-- The first failure of an enable, 0 for none (R553). (DEDUCED, log 42.) -/
def enableStatus (s : State) (t : Nat) (x : Ring) : Nat :=
  if s.dev ≠ .service ∨ (s.tenant t).state ≠ .active then 0x201
  else if x.type = 0 ∨ 6 < x.type ∨ x.log2 < 4 ∨ 16 < x.log2 ∨ tgtOk x = false then 0x202
  else if x.base % 4096 ≠ 0 ∨ ringPlace s t x = false ∨ cringOk s t x = false ∨
      (x.type = 4 ∧ x.tgt < 32 ∧ moverUsable s x.tgt = false) ∨ (x.type = 5 ∧ x.tgt < 64 ∧ coreUsable s x.tgt = false) ∨
      (x.type = 6 ∧ t ≠ 0 ∧ dbool s (0x4000 + 0x40 * t) 9 = false) then 0x250
  else 0

/-- A write of RING_CTRL is barred: the ring is busy or its tenant's TDI is locked. -/
def ctrlBarred (s : State) (t : Nat) (x : Ring) : Bool := x.busy || tdiLocked s t

/-- RING_ENABLE: a write of RING_CTRL with ENABLE 1 and the fields given. A failed enable in a wrong state sets CMD_STATE (R680). (DEDUCED, log 42.) -/
def execRingEnable (tenant ring value : Nat) (s : State) : Res :=
  if 64 ≤ tenant ∨ 1024 ≤ ring then .next s
  else match ringNo s tenant ring with
    | none => .next s
    | some k =>
      let x := s.ring k
      if ctrlBarred s tenant x ∨ x.enable then .next s
      else
        let y := { ctrlFields x value with owner := tenant }
        let code := enableStatus s tenant y
        if code ≠ 0 then .next ((if code = 0x201 then cmdState s else s).setRing k { y with cfgstat := code })
        else
          let s1 := s.setRing k { y with enable := true, cfgstat := 0, qhead := 0, qtail := 0, rsv := 0, taken := 0, bound := none }
          .next (match ringNo s1 tenant y.cring with
            | some c => if isSubmission y.type then s1.updRing c (fun z => { z with bound := some y.type }) else s1
            | none => s1)

/-- Whether a disable is refused (R555). -/
def disableRefused (s : State) (t k : Nat) : Bool :=
  let x := s.ring k
  (x.type == 2 && s.rings.any (fun e => (e.2.enable || e.2.busy) && isSubmission e.2.type && e.2.owner == t && ringNo s t e.2.cring == some k)) ||
    (x.type == 3 && s.reqs.any (fun e => e.2.state != .free && e.2.tenant == t && ringNo s t e.2.outring == some k))

/-- RING_DISABLE: a write of RING_CTRL with ENABLE 0 to an enabled ring. -/
def execRingDisable (tenant ring : Nat) (s : State) : Res :=
  if 64 ≤ tenant ∨ 1024 ≤ ring then .next s
  else match ringNo s tenant ring with
    | none => .next s
    | some k =>
      let x := s.ring k
      if ctrlBarred s tenant x ∨ x.enable = false then .next s
      else if disableRefused s tenant k then .next ((cmdState s).setRing k { x with cfgstat := 0x201 })
      else .next (disableRing (s.setRing k { x with cfgstat := 0 }) k)

/-- RING_DISABLE_DONE: the entries taken have completed, with a submission ring's records; a COMPL ring is empty and unbound. -/
def execRingDisableDone (tenant ring : Nat) (s : State) : Res :=
  if 64 ≤ tenant ∨ 1024 ≤ ring then .next s
  else match ringNo s tenant ring with
    | none => .next s
    | some k =>
      let x := s.ring k
      if x.busy ∧ x.enable = false ∧ x.taken = 0 then
        .next (s.setRing k { x with busy := false, qhead := 0, qtail := 0, bound := none, stalled := false })
      else .next s

/-! ## Taking entries (R554, R558, R560) -/

/-- Entries that a turn of a ring takes. -/
def Ring.turn (x : Ring) : Nat := if x.type = 4 then 3 else 1

/-- Entries of a tenant in a queue, those that carry the serving privilege left out (R482, R560). (DEDUCED, log 148.) -/
def shareOf (q : List QEntry) (t : Nat) : Nat := (q.filter (fun e => e.origin.of t)).length

def moverRoom (s : State) (t m : Nat) : Bool :=
  decide ((s.mover m).queue.length < 64) && decide (shareOf (s.mover m).queue t < dget s 0x2050 5)

/-- Room for an entry of the current context in a sequencer queue: tenant 0 leaves the SVC its share (R482). -/
def seqRoom (s : State) (t e : Nat) : Bool :=
  let q := (s.engine e).queue
  decide (q.length < 256) && (t != 0 || decide (shareOf q 0 < 256 - dget s 0x2020 1))

def coreRoom (s : State) (t n : Nat) : Bool :=
  decide ((s.engine (64 + n)).queue.length < 256) && decide (shareOf (s.engine (64 + n)).queue t < dget s 0x2050 6)

/-- Where an entry of a ring would go: a mover, a core or a sequencer, by engine number; none while there is no room. -/
def placeOf (s : State) (x : Ring) (d : List Byte) : Option Nat :=
  let t := x.owner
  if x.type = 4 then
    if x.tgt < 32 then (if moverRoom s t x.tgt then some (32 + x.tgt) else none)
    else
      let east := if x.tgt = 34 then moveDie s d else x.tgt == 33
      (chooseMover s ((dieMovers s east).filter (moverRoom s t))).map (fun m => 32 + m)
  else if x.type = 5 then
    if x.tgt < 64 then (if coreRoom s t x.tgt then some (64 + x.tgt) else none)
    else
      let east := if x.tgt = 66 then taskDie d else x.tgt == 65
      (chooseCore s ((dieCores s east).filter (coreRoom s t))).map (fun n => 64 + n)
  else if s.ctx.current = t ∧ s.ctx.switch.isNone = true ∧ seqRoom s t x.tgt = true then some x.tgt
  else none

/-- Whether a ring's TGT names a mover or a core that has retired since the enable (R645). -/
def tgtRetired (s : State) (x : Ring) : Bool :=
  (x.type == 4 && decide (x.tgt < 32) && !(moverUsable s x.tgt)) || (x.type == 5 && decide (x.tgt < 64) && !(coreUsable s x.tgt))

/-- The origin of an entry taken from a ring. -/
def ringOrigin (k : Nat) (x : Ring) (d : List Byte) : Origin := { poster := 0xF0, tenant := x.owner, ring := some k, ctag := u32 d 4 }

/-- An entry taken for a retired engine completes with BLOCK_RETIRED (R645). -/
def refuseRetired (s : State) (x : Ring) (q : QEntry) : State :=
  if x.type = 4 then completeMove s x.tgt { data := q.data, origin := q.origin, status := 0x267, moved := true }
  else refuseTask s x.tgt q 0x267

/-- The bytes of the next entry or descriptor of a device-memory ring, entry by entry. -/
def readEntries (s : State) (x : Ring) : LoadBytes :=
  (List.range x.turn).foldl (fun a i =>
    let l := loadBytes a.next 0xFF x.owner (x.entryAddr (x.qhead + i)) 64
    { status := firstStatus a.status l.status, bytes := a.bytes ++ l.bytes, marks := a.marks ++ l.marks, next := l.next }) { next := s }

/-- Whether a ring has an entry and its tenant may have it taken. (DEDUCED, log 38.) -/
def ringReady (s : State) (k : Nat) : Bool :=
  let x := s.ring k
  x.enable && !x.busy && isSubmission x.type && decide (x.turn ≤ x.held) && (s.tenant x.owner).state == .active &&
    !(x.type == 1 && s.tandem.withdraw)

/-- Room on a ring's CRING (R558). -/
def cringRoom (s : State) (k : Nat) : Bool :=
  let x := s.ring k
  match ringNo s x.owner x.cring with
  | some c => (s.ring c).room
  | none => false

/-- An entry is taken: QHEAD moves, the CRING entry is reserved. -/
def takeFrom (s : State) (k : Nat) : State :=
  let x := s.ring k
  let s1 := s.setRing k { x with qhead := (x.qhead + x.turn) % 2 ^ 32, taken := x.taken + 1, stalled := false }
  let s2 := match ringNo s1 x.owner x.cring with
    | some c => s1.updRing c (fun y => { y with rsv := y.rsv + 1 })
    | none => s1
  { s2 with ringTurn := k }

/-- OP values of a serving command (R451). -/
def servingOp (op : Nat) : Bool :=
  (decide (1 ≤ op) && decide (op ≤ 0xB)) || op == 0x10 || op == 0x11

/-- The entry goes to its engine's queue, or to the SVC. -/
def postEntry (s : State) (k : Nat) (x : Ring) (place : Nat) (d : List Byte) : State :=
  let q : QEntry := { data := d, origin := ringOrigin k x d }
  if x.type = 1 then
    if servingOp (u8 d 0) then { s with svc := { s.svc with queue := s.svc.queue ++ [q] } }
    else answer s q 0x202 0 0 0
  else if x.type = 4 then (enqueueMove s (place - 32) q).2
  else (enqueue64 s place q).2

/-- One ring is offered its turn: none when it has no entry or must wait, which marks it STALLED where it waits for room. `host` are
the bytes that a host-memory ring returned. -/
def offerRing (s : State) (k : Nat) (host : List Byte) : Option State × State :=
  let x := s.ring k
  if ringReady s k = false then (none, s)
  else if cringRoom s k = false then (none, s.setRing k { x with stalled := true })
  else
    let l : LoadBytes := if x.loc then readEntries s x else { bytes := padTo (64 * x.turn) host, next := s }
    if l.status ≠ 0 ∨ l.poisoned = true then (some (failRing l.next k), s)
    else if x.type = 1 then (some (postEntry (takeFrom l.next k) k x 0 l.bytes), s)
    else if tgtRetired l.next x then
      (some (refuseRetired (takeFrom l.next k) x { data := l.bytes, origin := ringOrigin k x l.bytes }), s)
    else match placeOf l.next x l.bytes with
      | some p => (some (postEntry (takeFrom l.next k) k x p l.bytes), s)
      | none => (none, s.setRing k { x with stalled := true })

/-- The first ring that can be served, in round-robin order. -/
def serveRings (host : List Byte) : List Nat → State → State
  | [], s => s
  | k :: ks, s =>
    match offerRing s k host with
    | (some s', _) => s'
    | (none, s1) => serveRings host ks s1

/-- RING_ENTRY_TAKE, in SERVICE and FENCED (R670): the next ring in turn gives one entry, or one descriptor; `host` are the bytes read from host memory, where the
ring lies there. (DEDUCED, log 126.) -/
def execRingEntryTake (host : List Byte) (s : State) : Res :=
  if s.dev = .service ∨ s.dev = .fenced then
    let ks := s.rings.map (·.1)
    .next (serveRings host (ks.filter (fun k => decide (s.ringTurn < k)) ++ ks.filter (fun k => decide (k ≤ s.ringTurn))) s)
  else .next s

/-- RING_ACCESS_FAIL: a read of a host-memory ring, a write of a completion or a tail write-back failed (R562); a failed read counts as a
violation (R568). -/
def execRingAccessFail (tenant ring : Nat) (s : State) : Res :=
  if 64 ≤ tenant ∨ 1024 ≤ ring then .next s
  else match ringNo s tenant ring with
    | none => .next s
    | some k =>
      if (s.ring k).enable ∨ (s.ring k).busy then
        .next (failRing (if isSubmission (s.ring k).type then hostViolation s else s) k)
      else .next s

/-! ## Interrupts (R564, R566) -/

/-- A source of a function's local view. -/
def localSource (s : State) (t j : Nat) : Option Nat :=
  if j < irqCount s t then some (dget s (0x4000 + 0x40 * t) 5 + j) else none

/-- IPEND_CLEAR: written 1s clear pending bits, of IPEND in the physical function or of a tenant's IPENDL. -/
def execIpendClear (tenant : Nat) (view : Bool) (index mask : Nat) (s : State) : Res :=
  if 64 ≤ tenant ∨ 32 ≤ index ∨ (view = false ∧ tenant ≠ 0) then .next s
  else
    let ns := ((List.range 64).filter (bitOf mask)).filterMap (fun b =>
      if view then localSource s tenant (64 * index + b) else some (64 * index + b))
    .next { s with irq := { s.irq with pend := ns.foldl (fun m n => mapSet false m n false) s.irq.pend } }

/-- ITARGET_WRITE: through ITARGET in the physical function or through a tenant's ITARGETL; what R566 refuses keeps its value. (DEDUCED, log 125.) -/
def execItargetWrite (tenant : Nat) (view : Bool) (index value : Nat) (s : State) : Res :=
  if 64 ≤ tenant ∨ 2048 ≤ index ∨ (view = false ∧ tenant ≠ 0) then .next s
  else
    let kind := bitsOf value 31 30
    let target := value % 65536
    match if view then localSource s tenant index else some index with
    | none => .next s
    | some n =>
      let vectorBad := kind == 1 && (match ownerOfSource s n with
        | some fn => decide (msixSize fn ≤ target)
        | none => true)
      if (view = true ∧ 2 ≤ kind) ∨ vectorBad = true then .next s
      else .next { s with irq := { s.irq with target := mapSet 0 s.irq.target n (kind * 2 ^ 30 + target) } }

/-- MSIX_UNMASK: the message held for the vector is sent. -/
def execMsixUnmask (fn vec : Nat) (s : State) : Res :=
  if 64 ≤ fn ∨ msixSize fn ≤ vec then .next s
  else
    let k := fn * 2048 + vec
    let s1 : State := { s with irq := { s.irq with msiUnmasked := mapSet false s.irq.msiUnmasked k true } }
    if mapGet false s.irq.pba k then .next (sendMsix { s1 with irq := { s1.irq with pba := mapSet false s1.irq.pba k false } } fn vec)
    else .next s1

/-! ## The device memory window (R549, R550) -/

/-- Z of a function. (PRESUMED, log 84.) -/
def sliceBytes (s : State) (fn : Nat) : Nat := 2 ^ ((if fn = 0 then s.host.bar2Log else s.host.vfBar2Log) - 6)

/-- WIN_WRITE: a whole write of WIN[i]. -/
def execWinWrite (fn index value : Nat) (s : State) : Res :=
  if 64 ≤ fn ∨ 64 ≤ index then .next s
  else
    let k := fn * 64 + index
    let w := mapGet {} s.host.win k
    let base := value % 2 ^ 52
    let w1 : WinSlice := if base % sliceBytes s fn ≠ 0 then { w with badbase := true }
      else { valid := bitOf value 63, badbase := w.badbase && !(bitOf value 62), base := base }
    .next { s with host := { s.host with win := mapSet {} s.host.win k w1 } }

/-- The parts of an access, slice by slice: addresses and lengths; none where a slice is not VALID. -/
def windowParts (s : State) (fn off n : Nat) : Nat → Option (List (Nat × Nat))
  | 0 => if n = 0 then some [] else none
  | fuel + 1 =>
    if n = 0 then some []
    else
      let z := sliceBytes s fn
      let w := mapGet {} s.host.win (fn * 64 + off / z)
      let k := min n (z - off % z)
      if w.valid ∧ off / z < 64 then (windowParts s fn (off + k) (n - k) fuel).map (fun r => (w.base + off % z, k) :: r) else none

/-- Whether a region belongs to engine control space: instruction memories, ladle buffers and registers. -/
def inEcs : RegionKind → Bool
  | .imem _ _ => true
  | .buffer _ => true
  | .control => true
  | _ => false

/-- A region of R281 as a whole: the storage of one stack, stockpot, the local memories, or engine control space. -/
def regionGroup : RegionKind → Nat
  | .stack st => st
  | .pot d => 8 + d
  | .localMem _ => 10
  | .imem _ _ => 11
  | .buffer _ => 11
  | .control => 11
  | .hole st => 16 + st
  | .nowhere => 15

/-- Whether a part may be accessed (R550): a tenant's reach, and for tenant 0 engine control space too. (DEDUCED, log 83.) -/
def partOk (s : State) (fn : Nat) (write : Bool) (p : Nat × Nat) : Bool :=
  let r := regionAt s p.1
  let e := regionAt s (p.1 + p.2 - 1)
  regionGroup r == regionGroup e && decide (regionGroup r ≤ 11) &&
    (match homeOf s p.1, homeOf s (p.1 + p.2 - 1) with
      | .donor _, _ => false
      | _, .donor _ => false
      | _, _ => true) &&
    ((inEcs r && fn == 0) || mayReach s fn false write p.1 p.2)

/-- The translated access, where nothing refuses it. (DEDUCED, log 83.) -/
def windowAccess (s : State) (fn off n : Nat) (write : Bool) : Option (List (Nat × Nat)) :=
  match windowParts s fn off n 65 with
  | some ps =>
    let same := match ps with
      | p :: rest => rest.all (fun q => regionGroup (regionAt s q.1) == regionGroup (regionAt s p.1))
      | [] => true
    if same && ps.all (partOk s fn write) then some ps else none
  | none => none

/-- The poison word in every word that a range touches. -/
def poisonRange (s : State) (a n : Nat) : State :=
  (List.range ((a + n - 1) / 32 - a / 32 + 1)).foldl (fun s i => (storeCode s (a / 32 * 32 + 32 * i) poisonWord).next) s

/-- Whether a region is one of registers. -/
def isControl (s : State) (a : Nat) : Bool :=
  match regionAt s a with
  | .control => true
  | _ => false

/-- Whether an address lies in an instruction-memory window, which only mover writes load (R317). -/
def isImem (s : State) (a : Nat) : Bool :=
  match regionAt s a with
  | .imem _ _ => true
  | _ => false

/-- A host write of one part; EP to engine control space is dropped, and a write to an instruction memory is ignored. -/
def writePart (s : State) (fn : Nat) (ep : Bool) (p : Nat × Nat) (bs : List Byte) : State :=
  if isImem s p.1 && !ep then s
  else if isControl s p.1 then (if ep then hostViolation s else regWrite s 0xF0 fn (p.1 - ecsBase) bs)
  else if ep then (if inEcs (regionAt s p.1) then hostViolation s else hostViolation (poisonRange s p.1 p.2))
  else (storeBytes s 0xF0 fn p.1 bs).next

def writeParts (s : State) (fn : Nat) (ep : Bool) : List (Nat × Nat) → List Byte → State
  | [], _ => s
  | p :: ps, bs => writeParts (writePart s fn ep p (bs.take p.2)) fn ep ps (bs.drop p.2)

def readParts (s : State) (fn : Nat) : List (Nat × Nat) → LoadBytes
  | [] => { next := s }
  | p :: ps =>
    let l : LoadBytes := if isControl s p.1 then { bytes := ecsBytes s (p.1 - ecsBase) p.2, next := s } else loadBytes s 0xF0 fn p.1 p.2
    let r := readParts l.next fn ps
    { status := firstStatus l.status r.status, bytes := l.bytes ++ r.bytes, marks := l.marks ++ r.marks, next := r.next }

/-- States in which BAR2 is served (R629). -/
def bar2Served (d : DevState) : Bool := !(d == .off || d == .reset || d == .rom || d == .config)

/-- BAR2_ACCESS: a read of `len` bytes, or a write of `data`, poisoned or not. -/
def execBar2Access (fn offset len : Nat) (data : Option (List Byte)) (ep : Bool) (s : State) : Res :=
  let n := match data with
    | some d => d.length
    | none => len
  if 64 ≤ fn ∨ n = 0 then .next s
  else
    let parts := if bar2Served s.dev then windowAccess s fn offset n data.isSome else none
    match parts, data with
    | some ps, some d => whenFree s ps (.next (writeParts s fn ep ps d))
    | some ps, none =>
      let l := readParts s fn ps
      whenFree s ps (.next (if l.status ≠ 0 then hostViolation (emit l.next (.hostCompletion fn 1 [] false))
        else emit l.next (.hostCompletion fn 0 l.bytes l.poisoned)))
    | none, some _ => .next (hostViolation s)
    | none, none => .next (hostViolation (emit s (.hostCompletion fn 1 [] false)))

/-- BAR0_BAD_ACCESS: a read completes with Completer Abort, a write is dropped (R548, R568). -/
def execBar0BadAccess (fn : Nat) (write : Bool) (s : State) : Res :=
  if 64 ≤ fn then .next s
  else .next (hostViolation (if write then s else emit s (.hostCompletion fn 2 [] false)))

/-! ## Functions and the link (R544, R545, R570, R571) -/

/-- The registers of a function return to their reset values: its window slices, MSI-X table and TDI. -/
def resetFunction (s : State) (fn : Nat) : State :=
  let inFn (k : Nat) : Bool := k / 2048 == fn
  { s with
    host := { s.host with win := mapDrop s.host.win (fun k => k / 64 == fn), tdi := mapSet 0 s.host.tdi fn 0, boxes := mapSet {} s.host.boxes fn {} }
    irq := { s.irq with
      msiAddr := mapDrop s.irq.msiAddr inFn, msiData := mapDrop s.irq.msiData inFn, msiUnmasked := mapDrop s.irq.msiUnmasked inFn,
      pba := mapDrop s.irq.pba inFn } }

/-- Tenants t with `p t` go to UNASSIGNED (R463). -/
def unassignWhere (s : State) (p : Nat → Bool) : State :=
  (List.range 64).foldl (fun s t => if t ≠ 0 ∧ p t = true ∧ resettable s t = true then beginReset s t 4 true else s) s

def flr (s : State) (fn : Nat) : State :=
  let s1 := resetFunction s fn
  let s2 := if resettable s1 fn then beginReset s1 fn 2 false else s1
  if fn = 0 then
    unassignWhere ((List.range 63).foldl (fun s i => resetFunction s (i + 1)) { s2 with host := { s2.host with vfEnable := false } }) (fun _ => true)
  else s2

/-- FLR: a Function Level Reset (R570). -/
def execFlr (fn : Nat) (s : State) : Res := if 64 ≤ fn then .next s else .next (flr s fn)

/-- Step 2 of R571: every function's configuration returns to its reset value. -/
def linkReset (s : State) : State :=
  let s1 := flr s 0
  { s1 with host := { s1.host with numVfs := 0, l0p := 0, bar2Log := 30, vfBar2Log := 30 } }

/-- Step 3 of R571: transfers with host memory in progress complete with MOVE_HOST, whatever else they met. -/
def failHostMoves (s : State) : State :=
  (List.range 32).foldl (fun s m =>
    match (s.mover m).run with
    | some r =>
      let d := moveDesc r.data
      if d.op ≠ 3 ∧ (d.src.space = 1 ∨ d.dst.space = 1) then
        putRun s m { r with moved := true, partial_ := r.partial_ || !r.moved, status := 0x331 }
      else s
    | none => s) s

/-- Steps 2 and 3 of R571. -/
def linkLoss (s : State) : State := failHostMoves (linkReset s)

/-- A cause of waiting that is no reset: the link loss of R571. -/
def waitLink : Nat := 100

/-- HOST_LINK_DOWN: the link went down without PERST_N; a WITHDRAW comes first where 0x2050.08 asks for it (R571). One that is in progress
is waited for, and a reset that waits for it covers what the link loss resets. (DEDUCED, log 148.) -/
def execHostLinkDown (s : State) : Res :=
  if s.host.up = false then .next s
  else
    let s1 := dset (dset (bump { s with host := { s.host with up := false } } 0x2050 3 1) 0x2050 1 0) 0x2050 2 0
    let s2 := recordFault s1 (faultOf 0x254 clsTenant kindPort 8 0xFF 0)
    if s.tandem.resetWait.isSome then .next s2
    else if s.tandem.withdraw then .next { s2 with tandem := { s2.tandem with resetWait := some (waitLink, s.now) } }
    else if dbool s 0x2050 8 ∧ mirroring s then
      let s3 := startWithdraw { s2 with tandem := { s2.tandem with resetWait := some (waitLink, s.now) } }
      if s3.tandem.withdraw then .next s3
      else .next (linkLoss { s3 with tandem := { s3.tandem with resetWait := none } })
    else .next (linkLoss s2)

/-- HOST_LINK_UP: training ends at a speed and width, coded as 0x2050.01 and .02 (R569). -/
def execHostLinkUp (speed width : Nat) (s : State) : Res :=
  if speed = 0 ∨ 7 < speed ∨ ¬ (width = 1 ∨ width = 2 ∨ width = 4 ∨ width = 8 ∨ width = 16) then .next s
  else if s.host.perst ∨ s.dev = .off ∨ s.dev = .reset then .next s
  else .next (dset (dset { s with host := { s.host with up := true, l0p := 0 } } 0x2050 1 speed) 0x2050 2 width)

/-- PERST_N_RELEASE: the controller and its functions leave reset (R628). -/
def execPerstNRelease (s : State) : Res := .next { s with host := { s.host with perst := false } }

/-- The values a configuration field takes: 0 VF Enable, 1 NumVFs, 2 the size of the physical function's BAR2 and 3 that of every
VF BAR2 as powers of two, 4 a TDI state set over TDISP. -/
def configOk (field fn value : Nat) : Bool :=
  decide (field ≤ 4) && decide (fn < 64) &&
    (if field = 1 then decide (value ≤ 63)
     else if field = 2 then decide (30 ≤ value) && decide (value ≤ 40)
     else if field = 3 then decide (30 ≤ value) && decide (value ≤ 36)
     else if field = 4 then decide (value ≤ 3) && decide (1 ≤ fn)
     else true)

/-- The functions that a configuration write removes. -/
def goneVf (s : State) (field value t : Nat) : Bool :=
  decide (1 ≤ t) && s.host.vfEnable && decide (t ≤ s.host.numVfs) && ((field == 0 && value == 0) || (field == 1 && decide (value < t)))

/-- The effect of a configuration write that nothing bars. -/
def writeFunction (s : State) (field fn value : Nat) : State :=
  let h := s.host
  match field with
  | 0 => unassignWhere { s with host := { h with vfEnable := value != 0 } } (goneVf s field value)
  | 1 => unassignWhere { s with host := { h with numVfs := value } } (goneVf s field value)
  | 2 => { s with host := { h with bar2Log := value } }
  | 3 => { s with host := { h with vfBar2Log := value } }
  | _ => { s with host := { h with tdi := mapSet 0 h.tdi fn value } }

/-- PCIE_CONFIG_WRITE. VFs that lose their function take their tenants to UNASSIGNED (R463); a write that R545 bars is ignored and
counted. (DEDUCED, log 82.) -/
def execPcieConfigWrite (field fn value : Nat) (s : State) : Res :=
  if configOk field fn value = false then .next s
  else if (List.range 64).any (fun t => (goneVf s field value t || (field == 3 && decide (1 ≤ t))) && tdiLocked s t) then
    .next (hostViolation s)
  else .next (writeFunction s field fn value)

/-- L0P_WIDTH_CHANGE: the device asks for a narrower width when traffic stayed below 25 % of it for 1 ms, and for full width as soon
as a direction exceeds 50 % of the present one (R544). -/
def execL0pWidthChange (width : Nat) (low high : Bool) (s : State) : Res :=
  let full := dget s 0x2050 2
  let present := if s.host.l0p = 0 then full else s.host.l0p
  if s.host.up = false then .next s
  else if high then .next { s with host := { s.host with l0p := 0 } }
  else if low ∧ width < present ∧ [1, 2, 4, 8].contains width = true ∧ dbool s 0x2050 9 then .next { s with host := { s.host with l0p := width } }
  else .next s

/-! ## External inputs (R567) -/

/-- GPI_EDGE: a filtered edge of GPI[i] sets its source where 0x2051 selects it (R563, R567). -/
def execGpiEdge (pin : Nat) (rise : Bool) (s : State) : Res :=
  if 8 ≤ pin then .next s
  else
    let l := dget s 0x2051 0xB
    let s1 := dset s 0x2051 0xB (if rise then l ||| 2 ^ pin else clearBit l pin)
    .next (if bitOf (dget s 0x2051 (if rise then 0xC else 0xD)) pin then raiseLocal s1 0 (8 + pin) else s1)

/-- INPUT_GLITCH: a pulse shorter than the filter time is ignored and counted, by input (R567). -/
def execInputGlitch (input : Nat) (s : State) : Res :=
  if 10 ≤ input then .next s
  else .next { s with host := { s.host with glitches := mapUpd 0 s.host.glitches input (fun n => n + 1) } }

end Sys2Proof.Machine
end

