-- ==== Sys2Proof/Machine/Reset.lean ====
section
/-!
DEFINITION. Resets (R8, R619, R625, R627, R736): what survives each, what the device sends before one it starts itself, and entry into READY and
SERVICE.
-/

namespace Sys2Proof.Machine

/-! ## Pins of the package (R731) -/

def pinAlertN : Nat := 2
def pinThermtripN : Nat := 3
def pinXspiResetN : Nat := 4
/-- Lowest pins of the two VID groups. -/
def pinVidW : Nat := 16
def pinVidE : Nat := 32

/-- ALERT_N is driven low while any bit of AlertCause that AlertMask enables is 1, from CONFIG on (R621, R741). -/
def alertPin (s : State) : State :=
  let alive := !(s.dev == .off || s.dev == .reset || s.dev == .rom || s.dev == .thermalHold)
  let low := alive && (dget s 0x3000 0xD &&& dget s 0x3000 0xE) != 0
  if low = s.pkg.alertLow then s else emit { s with pkg := { s.pkg with alertLow := low } } (.pin pinAlertN (!low))

/-- Bits of AlertCause are set; the change from 0 to nonzero sets source 1 of tenant 0 (R621). -/
def setAlert (s : State) (bits : Nat) : State :=
  let old := dget s 0x3000 0xD
  let new := old ||| bits
  if new = old then s
  else
    let s1 := alertPin (dset s 0x3000 0xD new)
    if old = 0 then raiseLocal s1 0 1 else s1

/-- Bits of AlertCause clear. -/
def clearAlert (s : State) (bits : Nat) : State :=
  let old := dget s 0x3000 0xD
  let new := old - (old &&& bits)
  if new = old then s else alertPin (dset s 0x3000 0xD new)

/-! ## What survives a reset (R8) -/

/-- Every value of a map replaced, in canonical form. -/
def mapVals {α : Type} [DecidableEq α] (d : α) (m : Map α) (f : α → α) : Map α :=
  (m.map (fun e => (e.1, f e.2))).filter (fun e => e.2 ≠ d)

/-- The sticky fields of each unit. (DEDUCED, log 87.) -/
def Stack.sticky (x : Stack) : Stack :=
  { rprBadWrite := x.rprBadWrite, spareExhausted := x.spareExhausted, retireFull := x.retireFull }

/-- The stacks as a reset leaves them: sticky fields, and whisk laps that start now, so that CURRENT and CurrentLap read 0 (R247, R248). -/
def resetStacks (s : State) : Map Stack :=
  (List.range 8).foldl (fun m st => mapSet {} m st { (s.stack st).sticky with whiskStart := s.now }) []

def Engine.sticky (e : Engine) : Engine :=
  { errValid := e.errValid, errStatus := e.errStatus, errPc := e.errPc, errTag := e.errTag, busyHit := e.busyHit,
    overflow := e.overflow, badPost := e.badPost }

def Ladles.sticky (l : Ladles) : Ladles :=
  { lastValid := l.lastValid, lastBank := l.lastBank, lastRow := l.lastRow, lastWord := l.lastWord, lastOp := l.lastOp }

def Mover.sticky (m : Mover) : Mover :=
  { overflow := m.overflow, badPost := m.badPost, lastErr := m.lastErr, lastTag := m.lastTag, lastStatus := m.lastStatus }

def Walker.sticky (w : Walker) : Walker :=
  { lastValid := w.lastValid, lastStatus := w.lastStatus, lastThread := w.lastThread, lastPc := w.lastPc }

def Ring.sticky (r : Ring) : Ring := { baddb := r.baddb, hosterr := r.hosterr }

/-- What no reset changes: boot flash, pins, the model's own records. (DEDUCED, log 87.) -/
def carried (s : State) (base : State) : State :=
  { base with
    now := s.now, free := s.free, out := s.out, pending := s.pending, flash := s.flash, repairRecord := s.repairRecord
    repairSigs := s.repairSigs
    host := { base.host with perst := s.host.perst }
    health := { base.health with hourSince := s.health.hourSince }
    pkg := { s.pkg with i3cAddr := none, alertLow := false } }

/-- ALERT_N and THERMTRIP_N are released. (DEDUCED, log 88.) -/
def releasePins (s : State) : State :=
  let s1 := if s.pkg.alertLow then emit s (.pin pinAlertN true) else s
  if s.pkg.tripLow then emit { s1 with pkg := { s1.pkg with tripLow := false } } (.pin pinThermtripN true) else s1

/-- Entry into RESET: every field takes its reset value, sticky fields keep theirs, and 0x2000.05 tells the cause (R8, R627). (DEDUCED, log 88.) -/
def enterReset (s : State) (cause : Nat) : State :=
  let p := releasePins s
  dset (carried p { State.reset with
    stackMap := resetStacks s
    potWhiskStart := mapSet 0 (mapSet 0 [] 0 s.now) 1 s.now
    engines := mapVals {} s.engines Engine.sticky
    ladles := mapVals {} s.ladles Ladles.sticky
    movers := mapVals {} s.movers Mover.sticky
    walkers := mapVals {} s.walkers Walker.sticky
    rings := mapVals {} s.rings Ring.sticky
    fabric := { collOverflow := s.fabric.collOverflow, collBadPost := s.fabric.collBadPost }
    power := { trip := s.power.trip } }) 0x2000 5 cause

/-- Entry into OFF: nothing but boot flash keeps anything (R625, R736). -/
def enterOff (s : State) : State :=
  let p := releasePins s
  carried p { State.reset with dev := .off }

/-! ## Resets that the device starts (R541, R627) -/

/-- The fabric learns that this node is DOWN (R541). -/
def floodDown (s : State) : State :=
  let me := s.fabric.node
  floodLinkState s 8 me (mapGet 0 s.fabric.versions me + 1) (linkMask s me) true

/-- What the service cores send before a reset they start: LEAVE for a deliberate one, else FAIL; LINKSTATE; the last Announce
(R499, R541). -/
def farewell (s : State) (deliberate : Bool) : State := lastAnnounce (floodDown (notice s (if deliberate then 1 else 2)))

/-- A device reset (R627). -/
def startReset (s : State) (cause : Nat) (deliberate : Bool) : State := enterReset (farewell s deliberate) cause

/-- A deliberate reset: in SYNCING and ACTIVE it waits for WITHDRAW (R627). -/
def resetAfterWithdraw (s : State) (cause : Nat) : State :=
  if mirroring s then
    let s1 := if s.tandem.withdraw then s else startWithdraw s
    if s1.tandem.withdraw then { s1 with tandem := { s1.tandem with resetWait := some (cause, s.now) } }
    else startReset s1 cause true
  else startReset s cause true

/-- WITHDRAW_WAIT_EXPIRE: a reset or link loss that waits for WITHDRAW goes on: the withdraw has ended, or 10 ms have passed (R571,
R627). -/
def execWithdrawWaitExpire (s : State) : Res :=
  match s.tandem.resetWait with
  | none => .next s
  | some (cause, since) =>
    if s.tandem.withdraw = false ∨ since + 10000000 ≤ s.now then
      let s1 : State := { s with tandem := { s.tandem with resetWait := none } }
      .next (if cause = waitLink then linkLoss s1 else startReset s1 cause true)
    else .next s

/-! ## READY and SERVICE (R625, R652) -/

/-- Entry into READY: tenant 0 is ACTIVE, and TandemEnable acts (R529). (DEDUCED, log 89.) -/
def enterReady (s : State) : State :=
  let s1 : State := { s with dev := .ready, host := { s.host with wasReady := true } }
  let s2 := if s.host.wasReady then s1 else dset s1 0x2000 7 (min ((s.now - s.pkg.pwrgdSince) / 1000000) (2 ^ 32 - 1))
  let s3 := if (s2.tenant 0).state = .unassigned then setTenantState s2 0 .active else s2
  let s4 := noteChange s3 (dk 0x1000 0xF)
  if dbool s4 0x6100 1 ∧ pairState s4 = pairDisabled then enterSeeking s4 else s4

def enterService (s : State) : State := noteChange { haltNests s with dev := .service } (dk 0x1000 0xF)

/-- Entry into READY from CONFIG or TEST; AutoService leads on to SERVICE unless a restart is required (R625, R650). (DEDUCED, log 89.) -/
def readyThenService (s : State) : State :=
  let s1 := enterReady s
  if dbool s1 0x2000 2 ∧ dbool s1 0x7100 0xB = false then enterService s1 else s1

/-! ## Figures -/

/-- FP32 of a fraction, rounded once. -/
def f32Ratio (neg : Bool) (n d : Nat) : Nat := (convFin .fp32 neg n (max d 1) 0).code

/-- FP32 of a temperature in quarters of a degree, and of a power in µW as watts. -/
def f32Temp (t : Int) : Nat := f32Ratio (decide (t < 0)) t.natAbs 4
def f32Watts (p : Int) : Nat := f32Ratio (decide (p < 0)) p.natAbs 1000000

/-- A fraction's numerator over `scale`, of an FP32 value: the floor of the value times `scale`; 0 of one that is not finite. -/
def ofF32 (w scale : Nat) : Int :=
  match fpDecode shapeFp32 w with
  | .fin neg m e =>
    let v : Int := if 0 ≤ e then (m * scale * 2 ^ e.toNat : Nat) else (m * scale / 2 ^ (-e).toNat : Nat)
    if neg then -v else v
  | _ => 0

end Sys2Proof.Machine
end

