-- ==== Sys2Proof/Machine/Power.lean ====
section
/-!
DEFINITION. Power arbitration and thermal protection (R605 to R623), with the stages of R133 and R134.
-/

namespace Sys2Proof.Machine

/-- States in which the service firmware runs and the fault ring has started (R634). -/
def firmwareUp (s : State) : Bool :=
  !(s.dev == .off || s.dev == .reset || s.dev == .rom || s.dev == .thermalHold)

/-- The configuration copy in use. -/
def configCopy (s : State) : List Byte := if s.sec.cfgCopy = 0 then s.flash.cfgA else s.flash.cfgB

/-! ## Temperatures (R614, R617) -/

def sensorCount : Nat := 656

/-- A temperature in quarters of a degree. -/
def degrees (c : Nat) : Int := 4 * c

/-- Thermal domain and index in it of a sensor: WEST, EAST, STACK0 to STACK7. -/
def sensorPlace (i : Nat) : Nat × Nat :=
  if i < 64 then (0, i) else if i < 128 then (1, i - 64) else (2 + (i - 128) / 66, (i - 128) % 66)

def State.sensor (s : State) (i : Nat) : Sensor := mapGet {} s.power.sensors i

/-- The hottest of readings. -/
def hottest : List Int → Option Int
  | [] => none
  | t :: ts => match hottest ts with
    | some u => some (if u < t then t else u)
    | none => some t

/-- Last readings of `n` sensors from `i` that have not failed, and how many have. -/
def goodReadings (s : State) (i n : Nat) : List Int :=
  (List.range n).filterMap (fun k => if (s.sensor (i + k)).failed then none else (s.sensor (i + k)).last)

def failedIn (s : State) (i n : Nat) : Nat := ((List.range n).filter (fun k => (s.sensor (i + k)).failed)).length

/-- The temperature of a compute die, and of a DRAM die (0 to 15) or base die (16) of a stack, with the substitutions of R617. -/
def computeTemp (s : State) (die : Nat) : Option Int :=
  let t := hottest (goodReadings s (64 * die) 64)
  if 8 < failedIn s (64 * die) 64 then hottest (degrees 95 :: t.toList) else t

def dramTemp (s : State) (st d : Nat) : Option Int :=
  let i := 128 + 66 * st + 4 * d
  let n := if d = 16 then 2 else 4
  if failedIn s i n = n then some (degrees 90) else hottest (goodReadings s i n)

/-- T_s of R133, and the maximum of a stack's domain and of the device. -/
def stackTemp (s : State) (st : Nat) : Option Int := hottest ((List.range 16).filterMap (dramTemp s st))
def stackMax (s : State) (st : Nat) : Option Int := hottest ((List.range 17).filterMap (dramTemp s st))
def deviceMax (s : State) : Option Int :=
  hottest ((List.range 2).filterMap (computeTemp s) ++ (List.range 8).filterMap (stackMax s))

/-- The trip threshold of a sensor's die (R619). -/
def tripAt (s : State) (i : Nat) : Int :=
  if i < 128 then degrees (if s.power.trimmed then 115 else 110) else degrees (if s.power.trimmed then 105 else 100)

/-! ## SENSOR_SCAN (R614, R617, R619) -/

/-- One reading of a sensor, none where it did not answer. (DEDUCED, log 96.) -/
def readSensor (s : State) (i : Nat) (r : Option Int) : State :=
  let x := s.sensor i
  let y : Sensor := match r with
    | none => { x with missed := x.missed + 1, failed := x.failed || decide (3 ≤ x.missed + 1) }
    | some t =>
      let bad := decide (t < -degrees 40) || decide (degrees 150 < t)
      { x with last := some t, missed := 0, failed := x.failed || bad, hot := decide (tripAt s i ≤ t) }
  let s1 : State := { s with power := { s.power with sensors := mapSet {} s.power.sensors i y } }
  if y.failed ∧ x.failed = false ∧ firmwareUp s then
    recordFault (setAlert (bump s1 0x3100 6 1) 64) (faultOf 0x706 clsCorrected kindPower (1 + (sensorPlace i).1) 0xFF 0)
  else s1

def readSensors : State → Nat → List (Option Int) → State
  | s, _, [] => s
  | s, i, r :: rs => readSensors (readSensor s i r) (i + 1) rs

/-- The first sensor of which this reading and the one before were at the threshold: two consecutive readings confirm a trip. (DEDUCED, log 96.) -/
def confirmed (old s : State) : Option Nat :=
  (List.range sensorCount).find? (fun i => (old.sensor i).hot && (s.sensor i).hot && !(s.sensor i).failed)

/-- THERMAL_TRIP: the cause is latched, THERMTRIP_N driven low, everything else stops (R619). (DEDUCED, log 93.) -/
def thermalTrip (s : State) (i : Nat) : State :=
  let (d, k) := sensorPlace i
  let t := ((s.sensor i).last.getD 0).toNat % 1024
  let s1 := enterReset s 0
  let p : Power := { s1.power with
    trip := { valid := true, domain := d, sensor := k, temp := t }, sensors := s.power.sensors, scans := s.power.scans, holdSince := s.now }
  emit { s1 with dev := .thermalHold, power := p, pkg := { s1.pkg with tripLow := true } } (.pin pinThermtripN false)

/-- Refresh of each DRAM die follows its hottest sensor (R121). -/
def hotRefresh (s : State) : State :=
  (List.range 8).foldl (fun s st => (List.range 16).foldl (fun s d =>
    match dramTemp s st d with
    | none => s
    | some t =>
      let x := s.stack st
      let hot := bitOf x.hotDies d
      let since := mapGet 0 x.coolSince d
      let y : Stack :=
        if degrees 85 < t then { x with hotDies := setBit x.hotDies d, coolSince := mapSet 0 x.coolSince d 0 }
        else if hot && decide (t ≤ degrees 83) then
          if since = 0 then { x with coolSince := mapSet 0 x.coolSince d (s.now + 1) }
          else if since + 1000000 ≤ s.now + 1 then { x with hotDies := clearBit x.hotDies d, coolSince := mapSet 0 x.coolSince d 0 }
          else x
        else { x with coolSince := mapSet 0 x.coolSince d 0 }
      if y.hotDies = x.hotDies ∧ y.coolSince = x.coolSince then s
      else
        let s1 := s.setStack st y
        if (y.hotDies == 0) = (x.hotDies == 0) then s1 else noteChange s1 (dk 0x2200 4)) s) s

/-- A temperature entry; one of which nothing is known stays as it is. -/
def putTemp (s : State) (index sub : Nat) (t : Option Int) : State :=
  match t with
  | some v => dset s index sub (f32Temp v)
  | none => s

/-- The maxima published every 1 ms (R614). -/
def publishTemps (s : State) : State :=
  let s1 := putTemp (putTemp (putTemp s 0x3100 1 (deviceMax s)) 0x3100 2 (computeTemp s 0)) 0x3100 3 (computeTemp s 1)
  (List.range 8).foldl (fun s st => putTemp s 0x3101 (st + 1) (stackMax s st)) s1

/-- Whether every sensor has read below 65 °C (R620). -/
def allCool (s : State) : Bool :=
  match deviceMax s with
  | some t => decide (t < degrees 65)
  | none => false

/-- SENSOR_SCAN: one corrected reading of each of the 656 sensors in quarters of a degree, none where it did not answer. -/
def execSensorScan (readings : List (Option Int)) (s : State) : Res :=
  if s.dev = .off then .next s
  else
    let s1 := readSensors s 0 ((readings ++ List.replicate sensorCount none).take sensorCount)
    let s2 : State := { s1 with power := { s1.power with scans := s1.power.scans + 1 } }
    if s.dev = .thermalHold then
      let since := if allCool s2 then some (s2.power.coolSince.getD s.now) else none
      .next { s2 with power := { s2.power with coolSince := since } }
    else match confirmed s s2 with
      | some i => .next (thermalTrip s2 i)
      | none =>
        let s3 := hotRefresh s2
        .next (if s3.power.scans % 100 = 0 then publishTemps s3 else s3)

/-- THERMAL_HOLD_END: below 65 °C for 30 s; HOLDMS is latched, THERMTRIP_N released, and the device enters RESET (R620). (DEDUCED, log 93.) -/
def execThermalHoldEnd (s : State) : Res :=
  match s.dev, s.power.coolSince with
  | .thermalHold, some since =>
    if since + 30000000000 ≤ s.now then
      let ms := min ((s.now - s.power.holdSince) / 1000000) (2 ^ 32 - 1)
      .next (enterReset { s with power := { s.power with trip := { s.power.trip with holdMs := ms } } } 4)
    else .next s
  | _, _ => .next s

/-! ## The stages of a stack (R133, R134) -/

/-- Boost is withheld from a stack above 85 °C until it has read 83 °C or less for 1 ms. -/
def boostGate (s : State) (st : Nat) (t : Int) : State :=
  let held := bitOf (dget s 0x2200 5) st
  let x := s.stack st
  if degrees 85 < t then
    let s1 := s.setStack st { x with boostCoolSince := none }
    if held then s1 else dset s1 0x2200 5 (setBit (dget s 0x2200 5) st)
  else if held then
    if t ≤ degrees 83 then
      match x.boostCoolSince with
      | none => s.setStack st { x with boostCoolSince := some s.now }
      | some since =>
        if since + 1000000 ≤ s.now then dset (s.setStack st { x with boostCoolSince := none }) 0x2200 5 (clearBit (dget s 0x2200 5) st)
        else s
    else s.setStack st { x with boostCoolSince := none }
  else s

/-- The stage of a stack and its falling allowance, at each epoch. -/
def stageStep (now : Nat) (x : Stack) (t : Int) : Stack :=
  if degrees 90 ≤ t then
    let a := min x.allowance 32 - 8
    let since := if a = 0 then some (x.zeroSince.getD now) else none
    let third := match since with
      | some z => decide (z + 100000 ≤ now)
      | none => false
    { x with allowance := a, zeroSince := since, stage := if x.stage = 3 ∨ third = true then 3 else 2 }
  else if t < degrees 88 then
    { x with
      zeroSince := none, allowance := if degrees 85 < t then min x.allowance 32 else x.allowance
      stage := if x.stage = 3 then 2 else if degrees 85 < t then 1 else 0 }
  else { x with stage := if 2 ≤ x.stage then x.stage else 1, allowance := min x.allowance 32 }

/-- Stages of all stacks; AlertCause bit 3 follows (R621). -/
def stageAll (s : State) : State :=
  let s1 := (List.range 8).foldl (fun s st =>
    match stackTemp s st with
    | none => s
    | some t =>
      let s1 := boostGate s st t
      let x := s1.stack st
      let y := stageStep s.now x t
      let s2 := s1.setStack st y
      let s3 := if y.stage = x.stage then s2 else noteChange s2 (dk (0x2210 + st) 6)
      if y.allowance = x.allowance then s3 else noteChange s3 (dk (0x2210 + st) 5)) s
  if (List.range 8).any (fun st => decide (2 ≤ (s1.stack st).stage)) then setAlert s1 8 else clearAlert s1 8

/-! ## DIE_CAP_UPDATE (R134, R616) -/

/-- A cap one step on, by the die's hottest sensor. -/
def capStep (cap : Nat) (t : Option Int) : Nat :=
  match t with
  | some v => if degrees 95 ≤ v then max 2 (cap - 1) else if v < degrees 92 then min 8 (cap + 1) else cap
  | none => cap

/-- The caps of both dies step; the first fall of one records THERMAL_THROTTLE. -/
def capDie (s : State) (die : Nat) : State :=
  let old := dget s 0x3100 (4 + die)
  let new := capStep old (computeTemp s die)
  let s1 := dset s 0x3100 (4 + die) new
  if old = 8 ∧ new < 8 then recordFault s1 (faultOf 0x702 clsCorrected kindPower (1 + die) 0xFF 0) else s1

/-- Eighths to which stage 3 of a stack paired with a die limits it: one lower while there is one, else one higher. -/
def limitStep (s : State) (die limit : Nat) : Nat :=
  if (List.range 4).any (fun i => (s.stack (4 * die + i)).stage == 3) then max 2 (limit - 1) else min 8 (limit + 1)

/-- A stack below 88 °C whose die is back at nominal gets 8 ladles back. -/
def allowanceUp (s : State) (st limit : Nat) : State :=
  let x := s.stack st
  match stackTemp s st with
  | some t => if t < degrees 88 ∧ limit = 8 ∧ x.allowance < 32 then
      fillPlaces (noteChange (s.setStack st { x with allowance := min 32 (x.allowance + 8) }) (dk (0x2210 + st) 5)) st else s
  | none => s

/-- DIE_CAP_UPDATE: every 100 µs. -/
def execDieCapUpdate (s : State) : Res :=
  if !(firmwareUp s) then .next s
  else
    let s1 := capDie (capDie s 0) 1
    let w := limitStep s1 0 s.power.limitW
    let e := limitStep s1 1 s.power.limitE
    let s2 : State := { s1 with power := { s1.power with limitW := w, limitE := e } }
    let s3 := (List.range 8).foldl (fun s' st => allowanceUp s' st (if st < 4 then s.power.limitW else s.power.limitE)) s2
    .next (if dget s3 0x3100 4 < 8 ∨ dget s3 0x3100 5 < 8 then setAlert s3 4 else clearAlert s3 4)

/-! ## Demands (R606) -/

/-- Ladle blocks that a stack's sequences want under a limit of tokens. -/
def blocksFor (n limit : Nat) : Nat := ceilDiv (min n limit) 16

/-- Unfinished sequences of a stack. -/
def seqsOf (s : State) (st : Nat) : Nat := (s.ladle st).seqs.length

def ladleDemand (s : State) (st : Nat) : Nat := min 32 (blocksFor (seqsOf s st) (16 * (s.stack st).allowance))

/-- Boost blocks: only in stage 0, with BoostEnable TRUE and boost not withheld (R133, R612). -/
def boostDemand (s : State) (st : Nat) : Nat :=
  if (s.stack st).stage = 0 ∧ dbool s 0x2300 1 ∧ bitOf (dget s 0x2200 5) st = false then blocksFor (seqsOf s st) 768 - 32 else 0

def moverDemand (s : State) (die : Nat) : Nat := ((List.range 16).filter (fun i => (s.mover (16 * die + i)).run.isSome)).length

def walkerDemand (s : State) (die : Nat) : Nat :=
  ((List.range 32).filter (fun i => (s.walker (32 * die + i)).threads.any (fun t => t.2.st != .free))).length

def slabDemand (s : State) : Nat := if s.grid.ops = [] then 0 else s.grid.groups.length

/-- Caps in force (R615, R616). (DESIGN CHOICE, log 97.) -/
def moverCap (s : State) (die : Nat) : Nat :=
  2 * min (dget s 0x3100 (4 + die)) (if die = 0 then s.power.limitW else s.power.limitE)
def walkerCap (s : State) (die : Nat) : Nat := 4 * dget s 0x3100 (4 + die)
def slabCap (s : State) : Nat :=
  s.grid.groups.length * min (min (dget s 0x3100 4) (dget s 0x3100 5)) (min s.power.limitW s.power.limitE) / 8

/-- Cost of a class: 1 the host at x16, 2 a port, 3 a ladle block, 4 a mover, 5 a slab, 6 a walker core, 7 a boost block. -/
def classCost (s : State) (i : Nat) : Nat := dget s 0x3001 i

/-- The host link at its width, and each port that is UP. -/
def fixedCost (s : State) : Nat :=
  (if s.host.up then ceilDiv (classCost s 1 * dget s 0x2050 2) 16 else 0) +
    ((List.range 8).filter (fun p => portState s p == portUp)).length * classCost s 2

/-- C in units, rounded up (R608). -/
def calibration (s : State) : Int := s.power.c.getD (ofF32 (dget s 0x3001 8) 1000000)
def calibrationUnits (s : State) : Nat := ceilDiv (calibration s).toNat 500000

/-! ## Grants (R610 to R612) -/

/-- As many of a class as a demand asks for and the rest of a budget pays. -/
def afford (left cost demand : Nat) : Nat := if cost = 0 then demand else min demand (left / cost)

/-- Self-test units in order, those that run first: how many of ranges of (cost, count) a budget pays. -/
def affordTests : Nat → List (Nat × Nat) → Nat × Nat
  | _, [] => (0, 0)
  | left, (c, n) :: rest =>
    let k := afford left c n
    if k < n then (k, k * c)
    else
      let (m, cost) := affordTests (left - k * c) rest
      (k + m, k * c + cost)

def testDemand (s : State) : List (Nat × Nat) :=
  s.test.running.map (fun u => (Config.testCost (configCopy s) u.kind, 1)) ++
    s.test.deferred.map (fun u => (Config.testCost (configCopy s) u.1.kind, 1)) ++
    s.test.waiting.map (fun r => (Config.testCost (configCopy s) r.kind, r.count))

/-- Blocks divided among the stacks that demand them: equal shares, the rest one each to those that follow the stack that last
received a remainder; a stack whose demand is met demands no more (R612). (DEDUCED, log 94.) -/
def divideBlocks : Nat → Nat → List (Nat × Nat) → Map Nat → Nat → Map Nat × Nat
  | 0, _, _, acc, turn => (acc, turn)
  | fuel + 1, g, want, acc, turn =>
    let act := want.filter (fun e => decide (mapGet 0 acc e.1 < e.2))
    if act = [] ∨ g = 0 then (acc, turn)
    else if g < act.length then
      let order := act.filter (fun e => decide (turn < e.1)) ++ act.filter (fun e => decide (e.1 ≤ turn))
      let got := order.take g
      (got.foldl (fun m e => mapUpd 0 m e.1 (· + 1)) acc, ((got.getLast?).map (·.1)).getD turn)
    else
      let room := act.map (fun e => e.2 - mapGet 0 acc e.1)
      let k := min (g / act.length) (room.foldl min (g / act.length))
      divideBlocks fuel (g - k * act.length) want (act.foldl (fun m e => mapUpd 0 m e.1 (· + k)) acc) turn

/-- West part of a class's grant, in proportion to the demands, the odd unit west. -/
def westPart (g dw de : Nat) : Nat := ceilDiv (g * dw) (max (dw + de) 1)

def sumNat (xs : List Nat) : Nat := xs.foldl (· + ·) 0

/-- The credit when full, in units times epochs (R611). -/
def fullCredit (s : State) : Nat := (dget s 0x3000 2 - dget s 0x3000 1) * 2 * (dget s 0x3000 3 / 10)

/-- Whether the transient budget holds in the epoch computed: a run goes on within its window and credit, and begins only with full
credit. -/
def transientHolds (s : State) : Bool :=
  match s.power.run with
  | some n => decide (n < dget s 0x3000 3 / 10) && decide (0 < s.power.credit)
  | none => decide (0 < fullCredit s) && decide (fullCredit s ≤ s.power.credit)

/-- The grants for the next epoch, the turns after it, and whether a class received less than its demand. (DEDUCED, log 94.) -/
def computeGrants (s : State) : Grants × Nat × Nat × Bool :=
  let ld := (List.range 8).map (fun st => (st, ladleDemand s st))
  let bd := (List.range 8).map (fun st => (st, boostDemand s st))
  let dL := sumNat (ld.map (·.2))
  let mw := min (moverDemand s 0) (moverCap s 0)
  let me := min (moverDemand s 1) (moverCap s 1)
  let kw := min (walkerDemand s 0) (walkerCap s 0)
  let ke := min (walkerDemand s 1) (walkerCap s 1)
  let sl := min (slabDemand s) (slabCap s)
  let c := classCost s
  let sustained := 2 * dget s 0x3000 1
  let budget := if transientHolds s then 2 * dget s 0x3000 2 else sustained
  let base := calibrationUnits s + fixedCost s
  let fL := afford (sustained - base) (c 3) (sumNat (ld.map (fun e => min 8 e.2)))
  let u1 := base + fL * c 3
  let fM := afford (sustained - u1) (c 4) (min 4 mw + min 4 me)
  let u2 := u1 + fM * c 4
  let fS := afford (sustained - u2) (c 5) (min 4 sl)
  let u3 := u2 + fS * c 5
  let fW := afford (sustained - u3) (c 6) (min 8 kw + min 8 ke)
  let u4 := u3 + fW * c 6
  let gL := fL + afford (budget - u4) (c 3) (dL - fL)
  let u5 := u4 + (gL - fL) * c 3
  let gM := fM + afford (budget - u5) (c 4) (mw + me - fM)
  let u6 := u5 + (gM - fM) * c 4
  let gS := fS + afford (budget - u6) (c 5) (sl - fS)
  let u7 := u6 + (gS - fS) * c 5
  let gW := fW + afford (budget - u7) (c 6) (kw + ke - fW)
  let u8 := u7 + (gW - fW) * c 6
  let (gT, costT) := affordTests (budget - u8) (testDemand s)
  let u9 := u8 + costT
  let dB := sumNat (bd.map (·.2))
  let gB := afford (sustained - u9) (c 7) dB
  let (lm, lt) := divideBlocks 10 gL ld [] s.power.ladleTurn
  let (bm, bt) := divideBlocks 10 gB bd [] s.power.boostTurn
  let gMw := westPart gM mw me
  let gWw := westPart gW kw ke
  let short := decide (gL < dL) || decide (gM < moverDemand s 0 + moverDemand s 1) || decide (gS < slabDemand s) ||
    decide (gW < walkerDemand s 0 + walkerDemand s 1) || decide (gT < sumNat ((testDemand s).map (·.2))) || decide (gB < dB)
  ({ ladles := lm, boost := bm, moversW := gMw, moversE := gM - gMw, slabs := gS, walkersW := gWw, walkersE := gW - gWw, test := gT,
     cost := u9 + gB * c 7 - calibrationUnits s }, lt, bt, short)

/-- Whether a cap of R615 or R616 binds. -/
def capBinds (s : State) : Bool :=
  decide (moverCap s 0 < moverDemand s 0) || decide (moverCap s 1 < moverDemand s 1) || decide (walkerCap s 0 < walkerDemand s 0) ||
    decide (walkerCap s 1 < walkerDemand s 1) || decide (slabCap s < slabDemand s) ||
    (List.range 8).any (fun st => decide ((s.stack st).allowance < 32) && decide (16 * (s.stack st).allowance < seqsOf s st))

/-- The credit as 0x3000.08 shows it, in joules: one unit for one epoch is 5 µJ. -/
def showCredit (s : State) : State := dset s 0x3000 8 (f32Ratio false (s.power.credit * 5) 1000000)

/-- The credit and the run after an epoch whose grants come to `total` units (R611). -/
def chargeCredit (s : State) (total : Nat) : State :=
  let sustained := 2 * dget s 0x3000 1
  let p := s.power
  if sustained < total then
    let s1 : State := { s with power := { p with credit := p.credit - (total - sustained), run := some (p.run.getD 0 + 1), ran := true } }
    if p.run.isNone then bump s1 0x3000 0xC 1 else s1
  else
    let s1 : State := { s with power := { p with credit := min (fullCredit s) (p.credit + (sustained - total)), run := none } }
    match p.run with
    | some n => if dget s 0x3000 3 / 10 ≤ n ∨ p.credit = 0 then setAlert s1 2 else s1
    | none => s1

/-- One step of a VID code towards its setpoint (R734). -/
def vidStep (v goal : Nat) : Nat := if v < goal then v + 1 else if goal < v then v - 1 else v

/-- A VID group drives a code. -/
def driveVid (s : State) (base old new : Nat) : State :=
  (List.range 7).foldl (fun s i => if bitOf old i = bitOf new i then s else emit s (.pin (base + i) (bitOf new i))) s

def vidUpdate (s : State) : State :=
  let p := s.power
  let w := vidStep p.vidW p.vidToW
  let e := vidStep p.vidE p.vidToE
  let s1 := driveVid (driveVid s pinVidW p.vidW w) pinVidE p.vidE e
  { s1 with power := { s1.power with vidW := w, vidE := e } }

/-- The grants computed in the epoch before take effect (R605, R613, R188). (DEDUCED, log 95.) -/
def applyGrants (s : State) : State :=
  let g := s.power.next
  let s1 : State := { s with
    power := { s.power with grants := g, costSum := s.power.costSum + g.cost, costEpochs := s.power.costEpochs + 1 }
    grid := { s.grid with slabs := g.slabs } }
  let s2 := (List.range 8).foldl (fun s st =>
    let b := mapGet 0 g.boost st
    let x := s.stack st
    let a := if 0 < b ∧ x.stage = 0 ∧ 32 ≤ x.allowance then 48 else min x.allowance 32
    fillPlaces ((s.updLadle st (fun l =>
      { l with grant := 16 * (mapGet 0 g.ladles st + b), boost := decide (0 < b) })).setStack st { x with allowance := a }) st) s1
  let blocks := sumNat ((List.range 8).map (fun st => mapGet 0 g.ladles st + mapGet 0 g.boost st))
  let sum := g.slabs * 2 ^ 56 + blocks * 2 ^ 40 + (g.moversW + g.moversE) * 2 ^ 32 + (g.walkersW + g.walkersE) * 2 ^ 24
  dset (dset s2 0x3000 9 sum) 0x3000 6 (f32Ratio false (g.cost + calibrationUnits s2) 2)

/-- ARBITER_EPOCH: every 10 µs. (DEDUCED, log 95.) -/
def execArbiterEpoch (s : State) : Res :=
  if !(firmwareUp s) then .next s
  else
    let s1 := stageAll (vidUpdate (applyGrants s))
    let (g, lt, bt, short) := computeGrants s1
    let s2 : State := { s1 with power := { s1.power with next := g, ladleTurn := lt, boostTurn := bt } }
    let s3 := chargeCredit s2 (g.cost + calibrationUnits s1)
    let s4 := if short then bump s3 0x3000 0xB 1 else s3
    let s5 := if g.boost = [] then s4 else bump s4 0x3000 0xA 1
    let s6 := if capBinds s1 then bump s5 0x3100 0xA 1 else s5
    .next (showCredit s6)

/-! ## Telemetry (R607 to R609) -/

def State.rail (s : State) (i : Nat) : Rail := mapGet {} s.power.rails i

/-- Rails that 0x3002 names. -/
def railsNamed (s : State) : List Nat := (List.range 8).filter (fun i => bget s 0x3002 (i + 1) != [])

/-- The share of WorstCalibration that stands for a faulty rail, in µW. -/
def railShare (s : State) : Nat := (ofF32 (dget s 0x3001 8) 1000000).toNat / max (railsNamed s).length 1

/-- One rail's readings: answer 0 good, 1 none, 2 with a PEC error; mV, mA and STATUS_WORD. -/
def pollRail (s : State) (i : Nat) (r : Nat × Nat × Nat × Nat) : State :=
  let x := s.rail i
  let (what, mv, ma, status) := r
  let miss := if what = 0 ∨ what = 2 then 0 else x.missed + 1
  let pec := if what = 2 then x.pec + 1 else 0
  let faulty := if what = 0 then false else x.faulty || decide (3 ≤ miss) || decide (3 ≤ pec)
  let y : Rail :=
    { missed := miss, pec := pec, faulty := faulty
      power := if what = 0 then mv * ma else x.power
      bad := if what = 0 then status != 0 else x.bad }
  let s1 : State := { s with power := { s.power with rails := mapSet {} s.power.rails i y } }
  let s2 := dset s1 0x3003 (i + 1) (f32Watts (if y.faulty then (railShare s : Nat) else (y.power : Nat)))
  let s3 := if y.faulty ∧ x.faulty = false then
      recordFault (setAlert s2 16) (faultOf 0x704 clsCorrected kindPower 0 0xFF 0) else s2
  if y.bad ∧ x.bad = false then recordFault (setAlert s3 32) (faultOf 0x705 clsCorrected kindPower 0 0xFF 0) else s3

/-- The calibration term after a cycle that measured `power` µW (R608). -/
def calibrate (s : State) (power : Nat) : State :=
  let cost : Int := (s.power.costSum * 500000 / max s.power.costEpochs 1 : Nat)
  let new : Int := power - cost
  let old := calibration s
  let c := if old ≤ new then new else max new (old - 10000000)
  let s1 : State := { s with power := { s.power with c := some c } }
  dset s1 0x3000 7 (f32Watts c)

/-- PMBUS_POLL: every 1 ms, one answer for each of the eight rails; those that 0x3002 does not name are not read, and one that no answer
is given for has not answered. -/
def execPmbusPoll (rails : List (Nat × Nat × Nat × Nat)) (s : State) : Res :=
  if !(firmwareUp s) then .next s
  else
    let named := railsNamed s
    let s1 := named.foldl (fun s i => pollRail s i (rails.getD i (1, 0, 0, 0))) s
    if named = [] then
      .next (dset { s1 with power := { s1.power with c := none, costSum := 0, costEpochs := 0, ran := false } } 0x3000 7 (dget s1 0x3001 8))
    else
      let power := sumNat (named.map (fun i => if (s1.rail i).faulty then railShare s1 else (s1.rail i).power))
      let s2 := dset s1 0x3000 4 (f32Watts (power : Nat))
      let s3 := if ofF32 (dget s2 0x3000 5) 1000000 < power then dset s2 0x3000 5 (f32Watts (power : Nat)) else s2
      let complete := s1.power.c.isSome || named.all (fun i => (rails.getD i (1, 0, 0, 0)).1 == 0)
      let s4 := if complete then calibrate s3 power else s3
      let tooMuch := decide (dget s 0x3000 2 * 1000000 < power) || (decide (dget s 0x3000 1 * 1000000 < power) && !s.power.ran)
      let s5 := if tooMuch ∧ bitOf (dget s 0x3000 0xD) 0 = false then
          recordFault (setAlert s4 1) (faultOf 0x701 clsCorrected kindPower 0 0xFF 0) else s4
      .next { s5 with power := { s5.power with costSum := 0, costEpochs := 0, ran := false } }

/-! ## VREF_CORRECTION (R618) -/

/-- Temperatures of the dies: west, east, then those of each stack, the base die last. -/
def dieTemp (s : State) (d : Nat) : Option Int := if d < 2 then computeTemp s d else dramTemp s ((d - 2) / 17) ((d - 2) % 17)

/-- VREF_CORRECTION: every 1 ms each die's references follow the polynomial of the configuration block. -/
def execVrefCorrection (s : State) : Res :=
  if !(firmwareUp s) then .next s
  else .next ((List.range 138).foldl (fun (s : State) d =>
    match dieTemp s d with
    | some t => { s with power := { s.power with vref := mapSet 0 s.power.vref d (Config.vrefPolynomial (configCopy s) d t) } }
    | none => s) s)

end Sys2Proof.Machine
end

