-- ==== Sys2Proof/Machine/Firmware.lean ====
section
/-!
DEFINITION. What boot flash holds and its checks: configuration copies (R630 to R632), manifests and parts (R706 to R708), the boot record
(R710), and what CONFIG takes from them.
-/

namespace Sys2Proof.Machine

/-- `n` bytes of a string from an offset. -/
def cut (d : List Byte) (off n : Nat) : List Byte := (d.drop off).take n

/-! ## Configuration copies (R630 to R632) -/

/-- Sections of a copy: TYPE, LENGTH and OFFSET. -/
def cfgSections (d : List Byte) : List (Nat × Nat × Nat) :=
  (List.range (u16 d 6)).map (fun i => (u16 d (256 + 16 * i), u32 d (260 + 16 * i), u64 d (264 + 16 * i)))

/-- A section's contents. -/
def cfgSection (d : List Byte) (ty : Nat) : List Byte :=
  match (cfgSections d).find? (fun x => x.1 == ty) with
  | some (_, len, off) => cut d off len
  | none => []

/-- Header and section table as R631 and R632 require. -/
def cfgSound (d : List Byte) : Bool :=
  let len := u32 d 12
  let ss := cfgSections d
  u32 d 0 == 0x46434E52 && u16 d 4 == 1 && decide (1 ≤ u16 d 6) && decide (u16 d 6 ≤ 32) && decide (len ≤ 4 * 2 ^ 20) &&
    decide (256 + 16 * u16 d 6 ≤ len) && decide (len ≤ d.length) && zeroBytes d 36 4 && zeroBytes d 168 88 &&
    cut d 32 4 == [0x42, 0x30, 0, 0] && (ss.map (·.1)).eraseDups.length == ss.length &&
    ss.all (fun x => decide (1 ≤ x.1) && decide (x.1 ≤ 8) && decide (x.2.2 + x.2.1 ≤ len)) &&
    (List.range (u16 d 6)).all (fun i => zeroBytes d (258 + 16 * i) 2)

/-- A configuration copy is valid. -/
def cfgValid (d : List Byte) : Bool :=
  cfgSound d && Config.sha512 (cut d 256 (u32 d 12 - 256)) == cut d 40 64 &&
    Config.ed25519Verify Config.vendorConfigKey (d.take 104) (cut d 104 64) &&
    Config.pufKey (cfgSection d 8) == Config.leafKey (cfgSection d 3)

/-- CONFIGVERSION. -/
def cfgVersion (d : List Byte) : Nat := u32 d 8

/-- The copy used: 0 for A, 1 for B; the higher CONFIGVERSION, A when equal. -/
def chooseCopy (a b : List Byte) : Option Nat :=
  if cfgValid a then (if cfgValid b ∧ cfgVersion a < cfgVersion b then some 1 else some 0)
  else if cfgValid b then some 1 else none

/-- The signature that a test unit of a kind must give at a level (R637). -/
def testSignature (d : List Byte) (kind level : Nat) : Option Nat :=
  let t := cfgSection d 5
  ((List.range (t.length / 16)).find? (fun i => u8 t (16 * i) == kind && u8 t (16 * i + 1) == level)).map (fun i => u64 t (16 * i + 8))

/-! ## Manifests and parts (R706 to R708) -/

def manifestBytes : Nat := 1280
def manVersion (m : List Byte) : List Byte := (cut m 24 16).takeWhile (· != 0)
def manPayload (m : List Byte) : Nat := u32 m 20
def manSec (m : List Byte) : Nat := u32 m 8
def manFormat (m : List Byte) : Nat := u16 m 12

/-- One part of a manifest. -/
structure Part where
  ty : Nat
  index : Nat
  off : Nat
  len : Nat
  digest : List Byte
  deriving DecidableEq, Repr

def manPart (m : List Byte) (i : Nat) : Part :=
  let b := 128 + 96 * i
  { ty := u8 m b, index := u8 m (b + 1), off := u32 m (b + 4), len := u32 m (b + 8), digest := cut m (b + 32) 64 }

def manParts (m : List Byte) : List Part := (List.range 12).map (manPart m)

/-- The most bytes of a part by its type. -/
def partLimit (ty : Nat) : Nat :=
  if ty = 1 then 4 * 2 ^ 20 else if ty = 2 then 320 * 1024 else if ty = 3 then 32 * 1024 else if ty = 4 then 2 * 2 ^ 20
  else if ty = 5 then 4 * 2 ^ 20 else 0

/-- Whether two parts overlap. -/
def partsClash (p q : Part) : Bool := overlaps p.off p.len q.off q.len

/-- No two of a list of parts overlap. -/
def partsApart : List Part → Bool
  | [] => true
  | p :: ps => ps.all (fun q => !(partsClash p q)) && partsApart ps

/-- The fields of a manifest and its part table (R706, R708). -/
def manSound (m : List Byte) : Bool :=
  let ps := manParts m
  decide (manifestBytes ≤ m.length) && u32 m 0 == 0x464D4E52 && u16 m 4 == 1 && u8 m 6 == 12 && decide (u8 m 7 ≤ 1) &&
    decide (u16 m 14 ≤ u16 m 16) && u16 m 18 == 0 && manPayload m % 4096 == 0 && decide (manPayload m ≤ 46 * 2 ^ 20) &&
    cut m 40 4 == [0x42, 0x30, 0, 0] && zeroBytes m 44 20 &&
    (List.range 12).all (fun i =>
      let b := 128 + 96 * i
      let p := manPart m i
      decide (1 ≤ p.ty) && decide (p.ty ≤ 5) && (if p.ty = 5 then decide (p.index < 8) else p.index == 0) && u16 m (b + 2) == 0 &&
        p.off % 4096 == 0 && decide (p.len ≤ partLimit p.ty) && u32 m (b + 12) == 0 && zeroBytes m (b + 20) 12 &&
        decide (p.off + p.len ≤ manPayload m)) &&
    [1, 2, 3, 4].all (fun t => (ps.filter (fun p => p.ty == t)).length == 1) &&
    (List.range 8).all (fun i => (ps.filter (fun p => p.ty == 5 && p.index == i)).length == 1) && partsApart ps

/-- 0 for a valid manifest, else MANIFEST_INVALID or SECVERSION_LOW (R708). -/
def manStatus (m : List Byte) (floor : Nat) : Nat :=
  if !(manSound m && Config.ed25519Verify (Config.vendorFirmwareKey (u8 m 7)) (m.take 64 ++ cut m 128 (96 * 12)) (cut m 64 64)) then 0x601
  else if manSec m < floor then 0x603 else 0

def manifestOf (s : State) (set : Nat) : List Byte := if set = 0 then s.flash.manifestA else s.flash.manifestB

/-- A chunk of a set's payload as flash holds it; erased flash reads as ones. -/
def chunkOf (s : State) (set i : Nat) : List Byte :=
  let d := mapGet [] s.flash.payload (set * 16384 + i)
  d ++ List.replicate (4096 - d.length) 0xFF

/-- Bytes of a set's payload. -/
def payloadBytes (s : State) (set off len : Nat) : List Byte :=
  cut ((List.range (ceilDiv (off + len) 4096 - off / 4096)).flatMap (fun i => chunkOf s set (off / 4096 + i))) (off % 4096) len

def partBytes (s : State) (set : Nat) (p : Part) : List Byte := payloadBytes s set p.off p.len

/-- A SEQUENCER part's directory and images (R707); a WALKER part fills at most a bank. -/
def partSound (p : Part) (d : List Byte) : Bool :=
  if p.ty = 2 then
    sectionSound d && (List.range 9).all (fun e => decide ((sectionImage d e).length ≤ (if e = 0 then 65536 else 32768)))
  else if p.ty = 3 then decide (d.length ≤ 32768)
  else true

/-- A part passes its check. -/
def partOkIn (s : State) (set : Nat) (p : Part) : Bool :=
  let d := partBytes s set p
  Config.sha512 d == p.digest && partSound p d

def setOk (s : State) (set : Nat) : Bool := (manParts (manifestOf s set)).all (partOkIn s set)

/-- The contents of one part of a set. -/
def partOf (s : State) (set ty : Nat) : List Byte :=
  match (manParts (manifestOf s set)).find? (fun p => p.ty == ty) with
  | some p => partBytes s set p
  | none => []

/-! ## The boot record (R710) -/

/-- Bytes 0 to 4,031 of a page. -/
def bootBytes (b : BootRecord) : List Byte :=
  padTo 4032 (natLE 4 0x42524E52 ++ natLE 2 1 ++ natLE 2 0 ++ natLE 8 b.seq ++ natLE 1 b.run ++ natLE 1 b.trial ++ natLE 2 0 ++
    natLE 4 b.floor ++ padTo 64 b.digest)

/-- A page signed with the identity key over the SHA-512 of its bytes. -/
def signBoot (b : BootRecord) : BootPage :=
  { record := b, sig := Config.ed25519Sign Config.identityPrivate (Config.sha512 (bootBytes b)) }

/-- Whether a page is valid: its signature verifies. (DEDUCED, log 91.) -/
def bootValid (p : BootPage) : Bool := Config.ed25519Verify Config.identityPublic (Config.sha512 (bootBytes p.record)) p.sig

/-- The number of the page read: the valid page with the higher SEQ (R710). -/
def bootPage (f : Flash) : Option (Nat × BootRecord) :=
  match f.boot0.filter bootValid, f.boot1.filter bootValid with
  | some a, some b => if a.record.seq < b.record.seq then some (1, b.record) else some (0, a.record)
  | some a, none => some (0, a.record)
  | none, some b => some (1, b.record)
  | none, none => none

/-- The record in force; with no valid page RUN 0, TRIAL none and FLOOR 0. (DEDUCED, log 91.) -/
def bootRecord (s : State) : BootRecord := ((bootPage s.flash).map (·.2)).getD {}

/-- Whether neither page is valid. -/
def noBoot (s : State) : Bool := (bootPage s.flash).isNone

/-- The record is written to the page that is not read, with SEQ one higher, and to the entries that show it (R710). -/
def writeBoot (s : State) (run trial floor : Nat) (digest : List Byte) : State :=
  let b := signBoot { seq := (bootRecord s).seq + 1, run := run, trial := trial, floor := floor, digest := digest }
  let f := match bootPage s.flash with
    | some (0, _) => { s.flash with boot1 := some b }
    | _ => { s.flash with boot0 := some b }
  dset (dset (dset { s with flash := f } 0x9000 3 run) 0x9000 4 trial) 0x9000 5 floor

/-- The target set: the one that is not RUN (R712). -/
def targetSet (s : State) : Nat := 1 - (bootRecord s).run

/-! ## UpdateState (R712) -/

def updIdle : Nat := 0
def updDownloading : Nat := 1
def updVerifying : Nat := 2
def updStaged : Nat := 3
def updActivating : Nat := 4
def updTrial : Nat := 5

def updateState (s : State) : Nat := dget s 0x9000 1
def setUpdate (s : State) (st : Nat) : State := dset s 0x9000 1 st

/-- Chunks of a manifest's payload, and how many are held. -/
def chunksTotal (m : List Byte) : Nat := manPayload m / 4096
def chunksHeld (s : State) (m : List Byte) : Nat := ((List.range (chunksTotal m)).filter (fun i => mapGet false s.flash.bitmap i)).length

/-- The entries that describe the target. -/
def showTarget (s : State) : State :=
  let m := manifestOf s (targetSet s)
  let s1 := dset (dset s 0x9000 6 (chunksTotal m)) 0x9000 7 (chunksHeld s m)
  bset s1 0x9000 8 (manVersion m)

/-- The state found from flash at start (R712). -/
def foundUpdate (s : State) : State :=
  let m := manifestOf s (targetSet s)
  if manStatus m (bootRecord s).floor ≠ 0 then setUpdate s updIdle
  else
    let s1 := showTarget s
    setUpdate s1 (if chunksHeld s m = chunksTotal m then updVerifying else updDownloading)

/-! ## Entry into CONFIG (R634 steps 1 to 3) -/

/-- The first code other than OK met in CONFIG (0x2000.06). -/
def startCode (s : State) (code : Nat) : State := if dget s 0x2000 6 = 0 then dset s 0x2000 6 code else s

/-- A start-up event: recorded, and kept in StartupStatus. -/
def startEvent (s : State) (code kind index : Nat) : State := startCode (recordEntry s (faultOf code clsCorrected kind index 0xFF 0)) code

/-- A latest code of 0x9000.0A. -/
def updateCode (s : State) (code : Nat) : State := dset s 0x9000 0xA code

/-- A valid TRIPREC is copied, recorded and cleared (R620). -/
def copyTrip (s : State) : State :=
  let t := s.power.trip
  if t.valid then
    let s1 := dsetStored (dsetStored (dsetStored s 0x3100 7 (min (dget s 0x3100 7 + 1) (2 ^ 32 - 1))) 0x3100 8 t.word) 0x3100 9 s.ptp
    let s2 := recordEntry s1 (faultOf 0x703 clsFatal kindPower (1 + t.domain) 0xFF 0)
    setAlert { s2 with power := { s2.power with trip := {} } } 0x80
  else s

/-- STORED entries take their journalled values, others of the configuration block theirs (R595). -/
def loadStored (s : State) : State :=
  let s1 : State := { s with
    dict := s.flash.journal.foldl (fun m e => mapSet (dictDefault e.1) m e.1 e.2) s.dict
    blob := s.flash.journalBytes.foldl (fun m e => mapSet (dictBytesDefault (e.1 / 256) (e.1 % 256)) m e.1 e.2) s.blob }
  let at1 (x : Nat) : Bool := s.flash.journal.any (fun e => e.1 == x) || s.flash.journalBytes.any (fun e => e.1 == x)
  { s1 with
    dict := (Config.configScalars (configCopy s)).foldl (fun m e => if at1 e.1 then m else mapSet (dictDefault e.1) m e.1 e.2) s1.dict
    blob := (Config.configBytes (configCopy s)).foldl (fun m e =>
      if at1 e.1 then m else mapSet (dictBytesDefault (e.1 / 256) (e.1 % 256)) m e.1 e.2) s1.blob
    cfg := (Config.configScalars (configCopy s)).foldl (fun m e => mapInsert m e.1 e.2) []
    cfgBlob := (Config.configBytes (configCopy s)).foldl (fun m e => mapInsert m e.1 e.2) [] }

/-- Identity entries from the copy in use (R631, R699). -/
def loadIdentity (s : State) : State :=
  let d := configCopy s
  let s1 := bset (bset s 0x1000 5 (cut d 16 16)) 0x1000 0xB (cfgSection d 3)
  bset (dset s1 0x1000 0xC (cfgVersion d)) 0x1000 0xA (Config.pufKey (cfgSection d 8))

/-- The running set's entries and ranges of mirror versions (R530, R711, R719). -/
def loadRunning (s : State) : State :=
  let run := s.sec.runSet
  let m := manifestOf s run
  let seq := partOf s run 2
  let s1 := dset (bset s 0x1000 0xD (manVersion m)) 0x9010 2 (manFormat m)
  { s1 with
    tandem := { s1.tandem with ownMin := u16 m 14, ownMax := u16 m 16 }
    seqImages := (List.range 9).foldl (fun a e => mapSet [] a e (sectionImage seq e)) [] }

/-- The running set's SEQUENCER and WALKER images take bank A of the engines, committed, after R754's zeros. (DEDUCED, log 90.) -/
def loadEngines (s : State) : State :=
  let walk := partOf s s.sec.runSet 3
  let s1 : State := { s with engines := mapVals {} s.engines (fun g => { g with imem := [] }) }
  let s2 := (List.range 9).foldl (fun s e =>
    let d := mapGet [] s.seqImages e
    if d = [] then s.updEngine e (fun g => { g with wdog := dget s 0x2020 2 })
    else (writeBank s e false d).updEngine e (fun g => { g with
      commA := true, lenA := ceilDiv d.length 4, entA := 0, state := .loaded, wdog := dget s 0x2020 2 })) s1
  (List.range 64).foldl (fun s n => s.updEngine (64 + n) (fun g => { g with
    imem := loadBank g.imem false walk, commA := true, lenA := ceilDiv walk.length 4, entA := 0, state := .loaded, wdog := dget s 0x2020 2 })) s2

/-- The digests of the parts that run: SERVICE, SEQUENCER, WALKER, FABRIC_PHY, then the base dies (R702 blocks 3 to 15). -/
def measureSet (s : State) (set : Nat) : State :=
  let m := manifestOf s set
  let s1 := measure s 3 (padTo 64 (Config.sha512 m))
  (List.range 12).foldl (fun s i =>
    let found := (manParts m).find? (fun p => if i < 4 then p.ty == i + 1 else p.ty == 5 && p.index + 4 == i)
    match found with
    | some p => measure s (4 + i) p.digest
    | none => s) s1

/-- SHA-512 of the slot signing set (R702 block 33). -/
def measureKeys (s : State) : State :=
  measure s 33 (padTo 64 (Config.sha512 ((List.range 8).flatMap (fun i => bget s 0x9030 (i + 1)))))

/-- Block 16: TEST entered, a scan run, and recovery mode entered at this start, as bits. -/
def measureDebug (s : State) (bit : Nat) : State :=
  let old := mapGet zeroBlock s.sec.blocks 16
  measure s 16 (BitVec.ofNat 8 (u8 old 0 ||| 2 ^ bit) :: List.replicate 63 0)

/-- The measurements that a start makes. -/
def measureStart (s : State) : State :=
  let s1 : State := { s with sec := { s.sec with blocks := mapSet zeroBlock s.sec.blocks 1 Config.romDigest } }
  measureKeys (measureSet (measure s1 2 (padTo 64 (Config.sha512 ((configCopy s).take 168)))) s.sec.runSet)

/-! ## Repairs (R240 to R242, R634 step 5) -/

/-- One entry of the factory map or the field repair record. -/
def applyRepair (s : State) (e : Nat) : State :=
  let st := bitsOf e 60 58
  let p := bitsOf e 57 47
  let v := bitsOf e 31 0
  let i := bitsOf v 28 23
  let x := s.stack st
  match bitsOf e 63 61 with
  | 1 => s.setStack st { x with rowRepair := mapSet 0 x.rowRepair (p * 64 + i) (v - i * 2 ^ 23) }
  | 2 => if i < 4 then s.setStack st { x with colRepair := mapSet 0 x.colRepair (p * 4 + i) (v - i * 2 ^ 23) } else s
  | 3 =>
    let f := bitsOf v 31 16
    countRetired (s.setStack st { x with remap := x.remap ++ [(f, bitsOf v 15 0, bitOf x.segMode (f / 512))] }) st
  | _ => s

/-- Entries of the REPAIR section. -/
def factoryRepairs (d : List Byte) : List Nat :=
  let t := cfgSection d 2
  (List.range (t.length / 8)).map (fun i => u64 t (8 * i))

def validEntries (m : Map Nat) : Nat := (m.filter (fun e => bitOf e.2 31)).length

/-- The counts of spares in use (0x2210 + s .0A, .0B). -/
def countSpares (s : State) : State :=
  (List.range 8).foldl (fun s st =>
    dset (dset s (0x2210 + st) 0xA (validEntries (s.stack st).rowRepair)) (0x2210 + st) 0xB (validEntries (s.stack st).colRepair)) s

/-! ## Training (R634 step 4) -/

/-- A stack's channels after training; each that failed records STACK_TRAIN. -/
def trainStack (s : State) (st mask : Nat) : State :=
  let x := s.stack st
  let lost := (List.range 32).filter (fun c => !(bitOf mask c))
  let s1 := s.setStack st { x with channels := x.channels &&& mask % 2 ^ 32 }
  let s2 := lost.foldl (fun s _ => startEvent s 0x266 kindStack st) s1
  if mask % 2 ^ 32 = 0 then dset s2 0x2200 1 (clearBit (dget s2 0x2200 1) st) else s2

/-- Segment modes take effect; bits of unpopulated segments read 0 (R116). -/
def putModes (s : State) (st v : Nat) : State :=
  let m := populatedBits (s.stack st) v
  dset (dset (s.updStack st (fun x => { x with segMode := m })) (0x2210 + st) 1 (m % 2 ^ 64)) (0x2210 + st) 2 (m / 2 ^ 64)

/-- The segment modes that the dictionary gives (R118). -/
def applyModes (s : State) (st : Nat) : State := putModes s st (dget s (0x2210 + st) 1 + dget s (0x2210 + st) 2 * 2 ^ 64)

/-- Pages of the field repair record that hold entries. -/
def repairPages (s : State) : List Nat := List.range (ceilDiv s.repairRecord.length 503)

/-- The entries of the record whose page's signature holds, in record order (R242). -/
def fieldRepairs (s : State) : List Nat :=
  (repairPages s).flatMap (fun p =>
    if pageHolds s.repairRecord s.repairSigs p then (s.repairRecord.drop (503 * p)).take 503 else [])

/-- A page whose signature fails is recorded in the fault ring (R242). (DESIGN CHOICE, log 133.) -/
def recordBadPages (s : State) : State :=
  (repairPages s).foldl (fun x p => if pageHolds s.repairRecord s.repairSigs p then x else startEvent x 0x264 kindDevice p) s

/-- The start-up self-test in the order of R636: groups, walker cores, movers, ladles, channels, the DRAM march at the full level, the
sequencers, SRAM, service cores. What channels that did not train hold is not tested. -/
def startupTests (s : State) (level : Nat) : List TestRange :=
  [{ kind := 1, first := 0, count := 16 }, { kind := 2, first := 0, count := 64 }, { kind := 3, first := 0, count := 32 }] ++
    (List.range 8).flatMap (fun st => (chanList (s.stack st)).map (fun c => { kind := 4, stack := st, first := 64 * c, count := 64 })) ++
    (List.range 8).flatMap (fun st => (chanList (s.stack st)).map (fun c => { kind := 5, stack := st, first := c, count := 1 })) ++
    (if level = 0 then [] else (List.range 8).map (fun st => { kind := 7, stack := st, first := 0, count := 512 * popSegs (s.stack st) })) ++
    [{ kind := 8, first := 0, count := 9 }, { kind := 6, first := 0, count := 96 }, { kind := 6, first := 128, count := 96 },
     { kind := 9, first := 0, count := 16 }, { kind := 10, first := 0, count := 2 }]

/-- Steps 1 to 5 of R634, with the copy and the set that ROM found and the channels that train; step 6 begins. -/
def enterConfig (s : State) (trained : List Nat) : State :=
  let d := configCopy s
  let s1 := noteChange { s with dev := .config } (dk 0x1000 0xF)
  let s2 := loadIdentity (loadStored s1)
  let s3 := copyTrip s2
  let s4 := if cfgValid s.flash.cfgA then s3 else startEvent s3 0x264 kindDevice 0
  let s5 := if cfgValid s.flash.cfgB then s4 else startEvent s4 0x264 kindDevice 0
  let s6 := if s5.flash.recovered then
      measureDebug (updateCode (recordEntry { s5 with flash := { s5.flash with recovered := false } } (faultOf 0x60A clsCorrected kindDevice 0 0xFF 0)) 0x60A) 2
    else s5
  let s7 := if s6.flash.reverted then
      updateCode (recordEntry { s6 with flash := { s6.flash with reverted := false } } (faultOf 0x606 clsCorrected kindDevice 0 0xFF 0)) 0x606
    else s6
  let b := bootRecord s7
  let s8 := if noBoot s7 then writeBoot s7 0 0xFF 0 (Config.sha512 (manifestOf s7 0)) else
    dset (dset (dset s7 0x9000 3 b.run) 0x9000 4 b.trial) 0x9000 5 b.floor
  let s9 := measureStart (loadRunning s8)
  let s10 := foundUpdate (dset s9 0x7000 1 s9.flash.hours)
  let s11 := (List.range 8).foldl (fun s st => applyModes (trainStack s st (trained.getD st 0)) st) s10
  let s12 := (factoryRepairs d ++ fieldRepairs s11).foldl applyRepair (recordBadPages s11)
  { s12 with
    power := { s12.power with
      trimmed := true, vidToW := max 10 (min 60 (Config.vidSetpoint d 0)), vidToE := max 10 (min 60 (Config.vidSetpoint d 1)) }
    test := { waiting := startupTests s12 (dget s12 0x7100 1) } }

end Sys2Proof.Machine
end

