-- ==== Sys2Proof/Machine/StartUp.lean ====
section
/-!
DEFINITION. Start-up and the device commands (R624 to R635, R643, R644): power, the boot ROM, CONFIG, and the states that DeviceCommand
moves between.
-/

namespace Sys2Proof.Machine

/-! ## Power and ROM (R625, R629, R735 to R742) -/

/-- PWRGD_RISE: OFF is left for RESET. -/
def execPwrgdRise (s : State) : Res :=
  if s.dev = .off ∧ s.pkg.pwrgd = false then
    let s1 := enterReset s 0
    .next { s1 with pkg := { s1.pkg with pwrgd := true, pwrgdSince := s.now }, health := { s1.health with hourSince := s.now } }
  else .next s

/-- PWRGD_FALL: PWRGD low for 1 µs (R736). -/
def execPwrgdFall (s : State) : Res :=
  if s.pkg.pwrgd then
    let s1 := enterOff s
    .next { s1 with pkg := { s1.pkg with pwrgd := false } }
  else .next s

/-- SYSREF_LOSS: no edge of SYSREF_IN for 2 µs while PWRGD is high acts as though it had fallen (R738). -/
def execSysrefLoss (s : State) : Res := if s.pkg.pwrgd ∧ s.dev ≠ .off then .next (enterOff s) else .next s

/-- RESET_TO_ROM: both have been stable for 1 ms and no sensor is at its trip threshold; XSPI_RESET_N is asserted for 10 µs (R625,
R742). -/
def execResetToRom (s : State) : Res :=
  if s.dev = .reset ∧ (List.range sensorCount).all (fun i => !(s.sensor i).hot || (s.sensor i).failed) = true then
    .next (emit (noteChange { s with dev := .rom } (dk 0x1000 0xF)) (.pulse pinXspiResetN 10000))
  else .next s

/-- Recovery mode (R711, R721). -/
def enterRecoveryMode (s : State) (noConfig : Bool) : State :=
  { s with sec := { s.sec with recoveryMode := true, noConfig := noConfig }, flash := { s.flash with recovered := true } }

/-- A trial set whose start this is not: the record is written with TRIAL none (R711 step 1, R720). -/
def endTrial (s : State) : State :=
  let b := bootRecord s
  if b.trial = 0xFF then s
  else
    let s1 := writeBoot s b.run 0xFF b.floor b.digest
    { s1 with flash := { s1.flash with reverted := true } }

/-- ROM_BOOT_DONE: both cores have verified what flash holds; `agree` tells that they reached the same result (R630, R711). `trained` has
a bit mask of the channels that train in CONFIG for each stack. (DEDUCED, log 91.) -/
def execRomBootDone (agree : Bool) (trained : List Nat) (s : State) : Res :=
  if s.dev ≠ .rom ∨ s.sec.recoveryMode then .next s
  else match chooseCopy s.flash.cfgA s.flash.cfgB with
    | none => .next (enterRecoveryMode s true)
    | some c =>
      let s1 := loadIdentity (endTrial { s with sec := { s.sec with identity := true, cfgCopy := c } })
      let b := bootRecord s1
      let m := manifestOf s1 b.run
      let named := noBoot s1 || Config.sha512 m == b.digest
      if agree && named && manStatus m b.floor == 0 && setOk s1 b.run then
        .next (enterConfig { s1 with sec := { s1.sec with runSet := b.run } } trained)
      else .next (enterRecoveryMode s1 false)

/-! ## The usable maps (R634 step 7, R643) -/

/-- The usable ladles of a stack, as LDL_USABLE: those of usable channels that self-test did not retire. -/
def usableLadles (s : State) (st : Nat) : Nat :=
  let ch := (s.stack st).channels
  let bad := mapGet 0 s.test.ladles st
  (List.range 32).foldl (fun m c => if bitOf ch c then m + (2 ^ 64 - 1 - bitsOf bad (64 * c + 63) (64 * c)) * 2 ^ (64 * c) else m) 0

def countBits (v n : Nat) : Nat := ((List.range n).filter (bitOf v)).length

/-- Every figure derived from the usable blocks. -/
def deriveFigures (s : State) : State :=
  let groups := 0xFFFF - dget s 0x7100 6
  let u := countBits groups 16
  let s1 : State := { s with grid := { s.grid with usable := groups } }
  let s2 := dset (dset s1 0x2140 1 groups) 0x2140 2 (256 * u)
  let s3 := dset (dset (dset s2 0x2140 3 (f32Ratio false (616 * u) 160)) 0x2140 4 (f32Ratio false (308 * u) 160)) 0x2140 5
    (f32Ratio false (77 * u) 160)
  let s4 := (List.range 8).foldl (fun s st =>
    let m := usableLadles s st
    let x := s.stack st
    let s1 := (s.updLadle st (fun l => { l with usable := m }))
    dset (dset (dset s1 (0x2310 + st) 1 (countBits m 2048)) (0x2210 + st) 3 (popSegs x)) (0x2210 + st) 4 x.channels) s3
  let ladles := sumNat ((List.range 8).map (fun st => dget s4 (0x2310 + st) 1))
  let segs := sumNat ((List.range 8).map (fun st => popSegs (s4.stack st)))
  let bad := sumNat ((List.range 8).map (fun st =>
    ((List.range 2048).filter (fun p => bitOf (s4.stack st).channels (p / 64) && bitOf (mapGet 0 s4.test.ladles st) p)).length))
  dset (dset (dset s4 0x2300 2 ladles) 0x2200 2 (segs * 2 ^ 30)) 0x7100 9 bad

/-! ## The minimum (R635) -/

def minimumMet (s : State) : Bool :=
  (List.range 8).all (fun st => bitOf (dget s 0x2200 1) st && decide (16 ≤ chanCount (s.stack st))) &&
    [0, 1].all (fun die =>
      decide (4 ≤ countBits (s.grid.usable / 2 ^ (8 * die)) 8) &&
      decide (8 ≤ ((List.range 16).filter (fun i => moverUsable s (16 * die + i))).length) &&
      decide (16 ≤ ((List.range 32).filter (fun i => coreUsable s (32 * die + i))).length)) &&
    !s.test.failed

/-! ## CONFIG ends (R634 steps 4, 5, 7, 8) -/

/-- Entry into TEST: the pair state becomes DISABLED (R529, R626). -/
def enterTest (s : State) : State :=
  let s1 := measureDebug (noteChange { s with dev := .test } (dk 0x1000 0xF)) 0
  if pairState s1 = pairDisabled then s1 else unpair s1 pairDisabled

/-- Whether a block is retired at this start (R644). -/
def anyRetired (s : State) : Bool :=
  dget s 0x7100 6 != 0 || dget s 0x7100 7 != 0 || dget s 0x7100 8 != 0 || s.test.ladles != [] ||
    (List.range 8).any (fun st => (s.stack st).channels != 0xFFFFFFFF)

/-- Every row reads as unwritten (R118), and the usable bytes leave retired frames out. -/
def openStack (s : State) (st : Nat) : State :=
  let x := s.stack st
  let s1 := putModes (s.setStack st { x with cells := [], colCells := [], rowValid := [], testFrames := [], testEntering := [] }) st x.segMode
  let n := dget s1 (0x2220 + st) 5
  let s2 := dset s1 (0x2220 + st) 6 (popSegs x * 2 ^ 30 - n * frameBytes)
  if 512 * popSegs x < n * 20 ∧ x.degraded = false then degradeStack s2 st else s2

/-- CONFIG_DONE: self-test has ended; every memory without valid bits is written with zeros (R754), the running set's images are loaded, and
the maps, the figures and the minimum decide where CONFIG leads. (DEDUCED, log 90.) -/
def execConfigDone (s : State) : Res :=
  if s.dev ≠ .config ∨ s.test.waiting ≠ [] ∨ s.test.running ≠ [] ∨ s.test.deferred ≠ [] then .next s
  else
    let s1 := countSpares ((List.range 8).foldl openStack s)
    let s2 := loadEngines (deriveFigures { s1 with pots := [], locals := [], buffers := [], merges := [] })
    let channels := sumNat ((List.range 8).map (fun st => 32 - chanCount (s2.stack st)))
    let s3 := dset s2 0x7100 0xA channels
    let s4 := if anyRetired s3 then dset s3 0x1000 0x10 1 else s3
    let ok := minimumMet s4
    let s5 := if ok then s4 else startEvent s4 0x262 kindDevice 0
    .next (if !ok || dbool s5 0x2000 3 || s5.test.enterTest then enterTest s5 else readyThenService s5)

/-! ## Device commands (R626) -/

/-- Every request is FREE. -/
def noRequests (s : State) : Bool := s.reqs.all (fun e => e.2.state == .free)

/-- A command legal in itself but not in the device's state. -/
def refuseInState (s : State) : State :=
  let (a, s1) := stateAbort s s.dev.code
  dictAnswer s1 a

/-- DEVICE_RESET_CMD: DeviceCommand RESET. (DEDUCED, log 92.) -/
def execDeviceResetCmd (s : State) : Res :=
  if s.dev = .off then .next s
  else if s.dev = .reset ∨ s.dev = .thermalHold then .next (refuseInState s)
  else .next (resetAfterWithdraw (dictAnswer s 0) 1)

/-- DEVICE_ENTER_TEST: held in CONFIG; from READY at once. (DEDUCED, log 92.) -/
def execDeviceEnterTest (s : State) : Res :=
  let p := pairState s
  if s.dev = .off then .next s
  else if s.dev = .config then .next (dictAnswer { s with test := { s.test with enterTest := true } } 0)
  else if s.dev ≠ .ready then .next (refuseInState s)
  else if (p = pairDisabled ∨ p = pairSeeking ∨ p = pairHeld) ∧ noRequests s = true then .next (dictAnswer (enterTest s) 0)
  else .next (dictAnswer s 0x04060201)

/-- Leaving TEST clears SPAREACC, and the frames that self-test tried stay as they are (R140). -/
def leaveTest (s : State) : State :=
  (List.range 8).foldl (fun s st => s.updStack st (fun x => { x with rprSpareAcc := false })) s

/-- LEAVE_TEST: to READY, with the minimum met. -/
def execLeaveTest (s : State) : Res :=
  if s.dev = .off then .next s
  else if s.dev ≠ .test then .next (refuseInState s)
  else if !(minimumMet s) then .next (dictAnswer s 0x04060201)
  else .next (dictAnswer (readyThenService (leaveTest s)) 0)

/-- DEVICE_START_SERVICE: from READY, unless a restart is required. -/
def execDeviceStartService (s : State) : Res :=
  if s.dev = .off then .next s
  else if s.dev ≠ .ready then .next (refuseInState s)
  else if dbool s 0x7100 0xB then .next (dictAnswer s 0x04060263)
  else .next (dictAnswer (enterService s) 0)

/-- Enabled rings of a tenant are disabled (R555, R626). -/
def disableRings (s : State) (t : Nat) : State :=
  (List.range (ringCount s t)).foldl (fun s i => if (s.ring (ringFirst s t + i)).enable then disableRing s (ringFirst s t + i) else s) s

/-- STOP_SERVICE: back to READY, tenant 0's rings disabled. -/
def execStopService (s : State) : Res :=
  let p := pairState s
  if s.dev = .off then .next s
  else if s.dev ≠ .service then .next (refuseInState s)
  else if (List.range 63).all (fun i => (s.tenant (i + 1)).state == .unassigned) && noRequests s &&
      (p == pairDisabled || p == pairSeeking || p == pairSolo || p == pairHeld) then
    .next (dictAnswer (disableRings (enterReady s) 0) 0)
  else .next (dictAnswer s 0x04060201)

/-- PERST_N_ASSERT: asserted for at least 10 µs. Before READY was reached it holds only the PCI Express functions in reset; later it acts as
PerstAction gives; it is ignored in THERMAL_HOLD (R620, R628). -/
def execPerstNAssert (s : State) : Res :=
  if s.dev = .off ∨ s.dev = .thermalHold then .next { s with host := { s.host with perst := true } }
  else
    let s1 : State := { s with host := { s.host with perst := true, up := false } }
    let s2 := dset (dset s1 0x2050 1 0) 0x2050 2 0
    if s.host.wasReady = false then .next (linkReset s2)
    else if dget s 0x2000 4 = 0 then .next (resetAfterWithdraw s2 2)
    else .next (linkLoss s2)

end Sys2Proof.Machine
end

