-- ==== Sys2Proof/Machine/SelfTest.lean ====
section
/-!
DEFINITION. Self-test at start-up and in the field (R636 to R651).
-/

namespace Sys2Proof.Machine

/-! ## Units -/

/-- Kinds whose test is a scan-based logic test (R636, R638). (DEDUCED, log 98.) -/
def isLogic (kind : Nat) : Bool := kind == 1 || kind == 2 || kind == 3 || kind == 8

/-- Whether an in-field run is under way. -/
def inField (s : State) : Bool := s.test.run.isSome

/-- The domain of a unit (R656). -/
def unitDomain (u : TestUnit) : Nat × Nat :=
  match u.kind with
  | 2 => (kindEngine, 64 + u.index)
  | 3 => (kindEngine, 32 + u.index)
  | 8 => (kindEngine, u.index)
  | 4 => (kindStack, u.stack)
  | 5 => (kindStack, u.stack)
  | 7 => (kindStack, u.stack)
  | _ => (kindDevice, 0)

/-- A code that self-test meets: an event, kept in StartupStatus at start-up and in LastResult in a run (R651, R654). -/
def testEvent (s : State) (u : TestUnit) (code : Nat) : State :=
  let (k, i) := unitDomain u
  if inField s then
    let s1 := recordEntry s (faultOf code clsCorrected k i 0xFF 0)
    if s1.test.result = 0 then { s1 with test := { s1.test with result := code } } else s1
  else startEvent s code k i

/-- The first unit that waits, and the ranges after it. -/
def nextUnit : List TestRange → Option (TestUnit × List TestRange)
  | [] => none
  | r :: rest =>
    if r.count = 0 then nextUnit rest
    else some ({ kind := r.kind, stack := r.stack, index := r.first },
      if r.count = 1 then rest else { r with first := r.first + 1, count := r.count - 1 } :: rest)

/-- The engine that a unit stops (R647). -/
def unitEngine (u : TestUnit) : Option Nat := if u.kind = 2 then some (64 + u.index) else if u.kind = 3 then some (32 + u.index) else none

/-- Whether the engine of a unit has ended its running work (R647). -/
def unitIdle (s : State) (u : TestUnit) : Bool :=
  if u.kind = 2 then threadsFree s u.index && (s.walker u.index).flip.isNone
  else if u.kind = 3 then (s.mover u.index).run.isNone
  else true

/-- The die of a logic test unit. -/
def unitEast (u : TestUnit) : Bool :=
  match u.kind with
  | 1 => decide (8 ≤ u.index)
  | 2 => decide (32 ≤ u.index)
  | 3 => decide (16 ≤ u.index)
  | _ => decide (5 ≤ u.index)

/-! ## The save area (R641, R642) -/

/-- Whether a range of a stockpot is kept: the resident area, and the extents of enabled contexts. -/
def potKept (s : State) (a : Nat) : Bool :=
  inResident s a 32 || (List.range 63).any (fun t => dbool s (0x4000 + 0x40 * (t + 1)) 9 && overlapsAny a 32 (contextExtents s (t + 1)))

/-- Whether a local-memory quarter is held by a tenant that is not UNASSIGNED. -/
def quarterKept (s : State) (q : Nat) : Bool :=
  (List.range 64).any (fun t => (s.tenant t).state != .unassigned && bitOf (dget s (0x4002 + 0x40 * t) (q / 64 + 1)) (q % 64))

/-- First address, words and place in the save area of what a unit tests of local memory or stockpot. Cores take the place of their number
mod 16. -/
def unitSpan (u : TestUnit) : Nat × Nat × Nat :=
  if u.kind = 2 then (localBase + 0x40000 * u.index, 8192, 0x40000 * (u.index % 16))
  else if u.kind = 6 then (potWest + frameBytes * u.index, 65536, 0)
  else (0, 0, 0)

def wordKept (s : State) (u : TestUnit) (a : Nat) : Bool :=
  if u.kind = 2 then quarterKept s (quarterOf a) else potKept s a

/-- The kept words of a unit copied between their places and the save area. (DEDUCED, log 99.) -/
def copyKept (s : State) (u : TestUnit) (restore : Bool) : State :=
  let (a, n, at_) := unitSpan u
  let save := dget s 0x7100 0xF + at_
  (List.range n).foldl (fun s i =>
    let w := a + 32 * i
    let v := save + 32 * i
    if !(wordKept s u w) then s else if restore then copyPage s 0xFF v w 1 else copyPage s 0xFF w v 1) s

/-- The tested words that were not kept read as zeros (R641, R754). (DEDUCED, log 98.) -/
def zeroUnit (s : State) (u : TestUnit) : State :=
  let (a, n, _) := unitSpan u
  let s1 := (List.range n).foldl (fun s i =>
    let w := a + 32 * i
    if wordKept s u w then s else (storeCode s w 0).next) s
  if u.kind = 2 then (s1.updEngine (64 + u.index) (fun e => { e with imem := [] })).updWalker u.index (fun x => { x with l1 := [] })
  else if u.kind = 8 then s1.updEngine u.index (fun e => { e with imem := [] })
  else s1

/-! ## The key vault (R639) -/

/-- Nirnar sessions and handshakes end without a word. -/
def endSessions (s : State) : State :=
  { s with subs := [], nirnar := { s.nirnar with handshakes := [], sessions := [] } }

/-- Every key of the vault is cleared. (DEDUCED, log 100.) -/
def zeroiseVault (s : State) : State :=
  let s1 := endSessions s
  measureDebug { s1 with
    sec := { s1.sec with identity := false, ide := [], spdmSessions := [] }
    tandem := { s1.tandem with pairKey := [] } } 1

/-- Scan tests that are still to end. -/
def scanLeft (s : State) : Bool :=
  s.test.waiting.any (fun r => isLogic r.kind && decide (0 < r.count)) || s.test.running.any (fun u => isLogic u.kind) ||
    s.test.deferred.any (fun e => isLogic e.1.kind)

/-- After the last scan test the identity key is derived again, and the setpoints of the regulators return. -/
def afterScan (s : State) (u : TestUnit) (identityOk : Bool) : State :=
  if isLogic u.kind = false ∨ scanLeft s = true then s
  else
    let d := configCopy s
    let s1 : State := { s with
      power := { s.power with vidToW := max 10 (min 60 (Config.vidSetpoint d 0)), vidToE := max 10 (min 60 (Config.vidSetpoint d 1)) } }
    if identityOk then { s1 with sec := { s1.sec with identity := true } }
    else recordFault (updateCode s1 0x607) (faultOf 0x607 clsFatal kindDevice 0 0xFF 0)

/-! ## SELFTEST_UNIT_START (R638, R640) -/

/-- The window in which a logic test may start. -/
def windowMet (mv khz : Nat) : Bool := decide (680 ≤ mv) && decide (mv ≤ 740) && decide (1039500 ≤ khz) && decide (khz ≤ 1060500)

/-- Before a logic test the regulator of its die is asked for 0.70 V. -/
def askVoltage (s : State) (u : TestUnit) : State :=
  if !(isLogic u.kind) then s
  else if unitEast u then { s with power := { s.power with vidToE := 40 } } else { s with power := { s.power with vidToW := 40 } }

/-- A unit begins. (DEDUCED, log 100.) -/
def beginUnit (s : State) (u : TestUnit) : State :=
  let s1 := if isLogic u.kind then zeroiseVault s else s
  let s2 := if inField s1 then copyKept s1 u false else s1
  { s2 with test := { s2.test with running := s2.test.running ++ [u] } }

/-- A stopped engine takes entries again. -/
def resumeEngine (s : State) (u : TestUnit) : State :=
  match unitEngine u with
  | some e => { s with test := { s.test with stopped := s.test.stopped.filter (· != e) } }
  | none => s

/-- Whether places of R641 and R648 let a unit begin beside those that run. -/
def unitRoom (s : State) (u : TestUnit) : Bool :=
  decide (s.test.running.length < s.power.grants.test) &&
    (!(inField s) || s.test.running.all (fun v => v.kind != 6 && !(v.kind == 2 && v.index % 16 == u.index % 16)))

/-- SELFTEST_UNIT_START: the next unit starts where a grant lets it; `mv` and `khz` are its die's monitored supply and core clock. -/
def execSelftestUnitStart (mv khz : Nat) (s : State) : Res :=
  match nextUnit s.test.waiting with
  | none => .next s
  | some (u, rest) =>
    let s0 := askVoltage s u
    let s1 : State := match unitEngine u with
      | some e => if inField s ∧ s.test.stopped.contains e = false then { s0 with test := { s0.test with stopped := e :: s0.test.stopped } } else s0
      | none => s0
    if unitRoom s u = false ∨ (inField s = true ∧ unitIdle s u = false) then .next s1
    else
      let s2 : State := { s1 with test := { s1.test with waiting := rest } }
      if isLogic u.kind = false ∨ windowMet mv khz = true then .next (beginUnit s2 u)
      else
        let s3 := testEvent s2 u 0x260
        if inField s then .next (afterScan (resumeEngine s3 u) u true)
        else .next { s3 with test := { s3.test with deferred := s3.test.deferred ++ [(u, s.now)] } }

/-- SELFTEST_RETRY: the oldest deferred test is tried again; after 2 s it leaves its block usable and untested (R638). -/
def execSelftestRetry (mv khz : Nat) (s : State) : Res :=
  match s.test.deferred with
  | [] => .next s
  | (u, since) :: rest =>
    let s1 : State := { s with test := { s.test with deferred := rest } }
    if windowMet mv khz = true ∧ unitRoom s u = true then .next (beginUnit s1 u)
    else if since + 2000000000 ≤ s.now then .next (afterScan (bump s1 0x7100 5 1) u true)
    else .next { s1 with test := { s1.test with deferred := rest ++ [(u, since)] } }

/-! ## SELFTEST_UNIT_DONE (R636, R637, R647, R650) -/

/-- Whether a unit passes: by its signature, or as the test itself reports where no signature covers it. -/
def unitPasses (s : State) (u : TestUnit) (sig : Nat) (pass : Bool) (badRows : List Nat) : Bool :=
  if u.kind = 7 then badRows == []
  else if 8 < u.kind then pass
  else testSignature (configCopy s) u.kind (if inField s then 1 else min (dget s 0x7100 1) 1) == some sig

/-- Rows of a march that did not read back: hard faults (R215). Of a frame by their number in it, of a channel by bank and row. -/
def marchFaults (s : State) (u : TestUnit) (badRows : List Nat) : State :=
  if u.kind = 7 then
    badRows.foldl (fun s i =>
      let o := u.index * frameBytes + 2048 * (i % 1024)
      let place := physOf (s.stack u.stack) o
      hardFault s u.stack place.1 place.2.1 none 0xFF (u.stack * 2 ^ 37 + o)) s
  else if u.kind = 5 then
    badRows.foldl (fun s i =>
      let p := 64 * u.index + i / 20480 % 64
      let row := i % 20480
      hardFault s u.stack p row none 0xFF (u.stack * 2 ^ 37 + (offsetOfRow (s.stack u.stack) p row).getD 0)) s
  else s

/-- Retirement of a block (R636, R643). -/
def retireUnit (s : State) (u : TestUnit) : State :=
  match u.kind with
  | 1 => dset s 0x7100 6 (setBit (dget s 0x7100 6) u.index)
  | 2 => dset (dset s 0x7100 7 (setBit (dget s 0x7100 7) u.index)) 0x2022 1 (clearBit (dget s 0x2022 1) u.index)
  | 3 => dset s 0x7100 8 (setBit (dget s 0x7100 8) u.index)
  | 4 => { s with test := { s.test with ladles := mapSet 0 s.test.ladles u.stack (setBit (mapGet 0 s.test.ladles u.stack) u.index) } }
  | 5 => s.updStack u.stack (fun x => { x with channels := clearBit x.channels u.index })
  | 7 => s
  | _ => { s with test := { s.test with failed := true } }

/-- Entries that wait at an engine that an in-field run retired complete with BLOCK_RETIRED. -/
def refuseWaiting (s : State) (u : TestUnit) : State :=
  if u.kind = 2 then
    let q := (s.engine (64 + u.index)).queue
    q.foldl (fun s e => refuseTask s u.index e 0x267) (s.updEngine (64 + u.index) (fun e => { e with queue := [] }))
  else if u.kind = 3 then
    let q := (s.mover u.index).queue
    q.foldl (fun s e => completeMove s u.index { data := e.data, origin := e.origin, status := 0x267, moved := true })
      (s.updMover u.index (fun x => { x with queue := [] }))
  else s

/-- What a failing unit leads to: retirement at start-up and, of a core or mover, in the field; else a restart is required. -/
def failUnit (s : State) (u : TestUnit) : State :=
  let s1 := testEvent s u 0x261
  if inField s then
    if u.kind = 2 ∨ u.kind = 3 then refuseWaiting (retireUnit s1 u) u
    else if u.kind = 1 ∨ u.kind = 4 ∨ u.kind = 5 ∨ u.kind = 8 then dset s1 0x7100 0xB 1
    else s1
  else retireUnit s1 u

/-- The rows of a channel that an in-field march covered read as unwritten. -/
def clearChannel (s : State) (u : TestUnit) : State :=
  if u.kind = 5 then
    (List.range 64).foldl (fun s b => s.updStack u.stack (fun x =>
      { x with rowValid := mapDrop x.rowValid (fun k => k / 20544 == 64 * u.index + b) })) s
  else s

/-- SELFTEST_UNIT_DONE: a unit that runs ends with its 64-bit signature. `pass` is the result of a test without a signature entry,
`badRows` the rows of a march that did not read back, `identityOk` whether the identity key derived after the last scan test matches the
leaf certificate. -/
def execSelftestUnitDone (kind stack index signature : Nat) (pass : Bool) (badRows : List Nat) (identityOk : Bool) (s : State) : Res :=
  let u : TestUnit := { kind := kind, stack := stack, index := index }
  if s.test.running.contains u then
    let ok := unitPasses s u signature pass badRows
    let s1 : State := { s with test := { s.test with running := s.test.running.filter (· != u) } }
    let s2 := marchFaults s1 u badRows
    let s3 := if inField s then copyKept (zeroUnit (clearChannel s2 u) u) u true else s2
    let s4 := if ok then s3 else failUnit s3 u
    .next (afterScan (if inField s then resumeEngine s4 u else s4) u identityOk)
  else .next s

/-! ## In-field runs (R646 to R651) -/

/-- Retention probes give way to a run (R689). -/
def abandonProbes (s : State) : State :=
  let s1 := s.health.probes.foldl (fun s e => s.updStack e.1 (fun x => leaveTestFrame x e.2.frame)) s
  { bump s1 0x7000 0xB s.health.probes.length with health := { s.health with probes := [] } }

/-- Whether a range lies within its kind. -/
def runRange (s : State) (kind st first count : Nat) : Bool :=
  match kind with
  | 1 => decide (first + count ≤ 16)
  | 2 => decide (first + count ≤ 64)
  | 3 => decide (first + count ≤ 32)
  | 4 => decide (st < 8) && decide (first + count ≤ 2048)
  | 5 => decide (st < 8) && decide (first + count ≤ 32)
  | 6 => decide (first + count ≤ 96) || (decide (128 ≤ first) && decide (first + count ≤ 224))
  | 7 => decide (st < 8) && decide (first + count ≤ 512 * popSegs (s.stack st))
  | _ => decide (first + count ≤ 9)

/-- Whether a run has contents to save. (DEDUCED, log 99.) -/
def runSaves (s : State) (kind first count : Nat) : Bool :=
  if kind = 2 then (List.range (4 * count)).any (fun i => quarterKept s (4 * first + i))
  else if kind = 6 then
    let a := potWest + frameBytes * first
    let n := frameBytes * count
    inResident s a n || (List.range 63).any (fun t => dbool s (0x4000 + 0x40 * (t + 1)) 9 && overlapsAny a n (contextExtents s (t + 1)))
  else false

/-- The abort code of a RunRequest, 0 when it starts a run. -/
def runAbort (s : State) (d : List Byte) : Nat :=
  let kind := u8 d 0
  let st := u8 d 1
  let first := u32 d 4
  let count := u32 d 8
  let served := s.dev == .ready || s.dev == .test
  if d.length ≠ 16 then 0x04040010
  else if kind = 0 ∨ 8 < kind ∨ u16 d 2 ≠ 0 then 0x04050000
  else if (kind = 1 ∨ kind = 4 ∨ kind = 5 ∨ kind = 8) ∧ served = false then 0x02010000 + s.dev.code
  else if served = false ∧ s.dev ≠ .service then 0x02010000 + s.dev.code
  else if s.test.run.isSome then 0x04060265
  else if isLogic kind && (s.sec.ide != [] || (List.range 64).any (tdiLocked s)) then 0x04060201
  else if runRange s kind st first count = false then 0x04010000
  else if kind = 7 ∧ ((List.range count).all (fun i => frameFree s st (first + i) && !(inTestBar (s.stack st) (first + i))) = false ∨
      8 < (s.stack st).testFrames.length + (s.stack st).testEntering.length + count) then 0x04010000
  else if runSaves s kind first count = true ∧ dget s 0x7100 0x10 < 4 * 2 ^ 20 then 0x04010000
  else 0

/-- The run that a RunRequest begins. -/
def startRun (s : State) (d : List Byte) : State :=
  let kind := u8 d 0
  let st := u8 d 1
  let first := u32 d 4
  let count := u32 d 8
  let s1 := dset s 0x7100 0xD 1
  let s2 := if kind = 7 then
      s1.updStack st (fun x => (List.range count).foldl (fun y i =>
        { zeroFrame y (first + i) with testFrames := y.testFrames ++ [first + i] }) x)
    else s1
  { s2 with test := { s2.test with
    run := some { kind := kind, stack := st, first := first, count := count, since := s.now }, result := 0, running := [], deferred := []
    waiting := if count = 0 then [] else [{ kind := kind, stack := st, first := first, count := count }] } }

/-- RUN_REQUEST: a write of RunRequest; a run that starts abandons retention probes. -/
def execRunRequest (data : List Byte) (s : State) : Res :=
  let s0 := if s.health.probes = [] then s else abandonProbes s
  let c := runAbort s0 data
  if s.dev = .off then .next s
  else if c / 65536 = 0x0201 then .next (dictAnswer (cmdState s) c)
  else if c ≠ 0 then .next (dictAnswer s c)
  else .next (dictAnswer (startRun s0 data) 0)

/-- RUN_DONE: every unit has ended (R651). -/
def execRunDone (s : State) : Res :=
  match s.test.run with
  | some r =>
    if s.test.waiting = [] ∧ s.test.running = [] then
      let s1 := if r.kind = 7 then
          s.updStack r.stack (fun x => (List.range r.count).foldl (fun y i => leaveTestFrame y (r.first + i)) x)
        else s
      let s2 := dset (dset s1 0x7100 2 s.test.result) 0x7100 3 s.ptp
      let s3 := bump (dset s2 0x7100 4 (min ((s.now - r.since) / 1000000) (2 ^ 32 - 1))) 0x7100 0xE 1
      .next (dset { s3 with test := { s3.test with run := none, result := 0, stopped := [] } } 0x7100 0xD 2)
    else .next s
  | none => .next s

end Sys2Proof.Machine
end

