-- ==== Sys2Proof/Machine/Security.lean ====
section
/-!
DEFINITION. Attestation (R699 to R705): the SPDM responder of every function, with what IDE_KM and TDISP change, and quotes. The
formats and error codes of the SPDM 1.3 messages are the standard's.
-/

namespace Sys2Proof.Machine

/-! ## The SPDM responder (R704) -/

/-- SPDM error codes of ERROR. -/
def spdmInvalid : Nat := 1
def spdmBusy : Nat := 3
def spdmUnexpected : Nat := 4
def spdmDecrypt : Nat := 6
def spdmUnsupported : Nat := 7

/-- States in which the functions' DOE mailboxes answer: from ROM on, with the controller out of reset. -/
def doeServed (s : State) : Bool :=
  !(s.dev == .off || s.dev == .reset || s.dev == .thermalHold) && !s.host.perst

/-- An answer: 1 with the response code, the fields and the data. -/
def spdmAnswer (s : State) (fn code : Nat) (fields : List Nat) (data : List Byte) : State := emit s (.mgmt 1 (fn :: code :: fields) data)

/-- ERROR. (PRESUMED, log 101.) -/
def spdmError (s : State) (fn err : Nat) : State := spdmAnswer s fn 0x7F [err] []

def State.spdm (s : State) (fn : Nat) : Spdm := mapGet {} s.sec.spdm fn
def setSpdm (s : State) (fn : Nat) (x : Spdm) : State := { s with sec := { s.sec with spdm := mapSet {} s.sec.spdm fn x } }

/-- A request and its answer join the transcript. -/
def noteSpdm (s : State) (fn : Nat) (bytes : List Byte) : State :=
  setSpdm s fn { s.spdm fn with transcript := (s.spdm fn).transcript ++ bytes }

/-- A message of a function that is answered. (PRESUMED, log 101.) -/
def withSpdm (fn : Nat) (s : State) (f : State → State) : Res :=
  if 64 ≤ fn then .next s else if doeServed s then .next (f s) else .next s

/-- A message that needs the algorithms agreed. -/
def negotiated (fn : Nat) (f : State → State) (s : State) : State :=
  if (s.spdm fn).algorithms then f s else spdmError s fn spdmUnexpected

/-- The identity key's signature over a transcript; none while the vault is empty. -/
def signSpdm (s : State) (context : Nat) (transcript : List Byte) : Option (List Byte) :=
  if s.sec.identity then some (Config.ed25519Sign Config.identityPrivate (natLE 1 context ++ Config.sha512 transcript)) else none

/-- The IDENT certificate chain. -/
def certChain (s : State) : List Byte := bget s 0x1000 0xB

/-- A measurement block's value; block 34 is MCHAIN. -/
def blockValue (s : State) (i : Nat) : List Byte := if i = 34 then s.sec.mchain else mapGet zeroBlock s.sec.blocks i

/-- GET_VERSION: the connection begins anew, and its secure sessions end. -/
def execGetVersion (fn : Nat) (s : State) : Res :=
  withSpdm fn s (fun s =>
    let s1 : State := { s with sec := { s.sec with spdmSessions := s.sec.spdmSessions.filter (fun x => x.fn != fn) } }
    spdmAnswer (setSpdm s1 fn { version := true, transcript := [0x84, 0x04] }) fn 0x04 [0x13] [])

/-- GET_CAPABILITIES. -/
def execGetCapabilities (fn : Nat) (request : List Byte) (s : State) : Res :=
  withSpdm fn s (fun s =>
    if (s.spdm fn).version = false then spdmError s fn spdmUnexpected
    else
      let s1 := setSpdm s fn { s.spdm fn with capabilities := true }
      spdmAnswer (noteSpdm s1 fn (request ++ [0x61])) fn 0x61 [] [])

/-- NEGOTIATE_ALGORITHMS: the requester's masks; bits 9 of BaseAsymAlgo, 2 of BaseHashAlgo, 4 of DHE and 1 of AEAD are the device's. -/
def execNegotiateAlgorithms (fn asym hash dhe aead : Nat) (request : List Byte) (s : State) : Res :=
  withSpdm fn s (fun s =>
    if (s.spdm fn).capabilities = false then spdmError s fn spdmUnexpected
    else if !(bitOf asym 9 && bitOf hash 2) then spdmError s fn spdmInvalid
    else
      let s1 := setSpdm s fn { s.spdm fn with algorithms := true }
      spdmAnswer (noteSpdm s1 fn (request ++ [0x63])) fn 0x63 [2 ^ 9, 2 ^ 2, boolNat (bitOf dhe 4) * 2 ^ 4, boolNat (bitOf aead 1) * 2 ^ 1] [])

/-- GET_DIGESTS: slot 0 alone holds a chain. -/
def execGetDigests (fn : Nat) (s : State) : Res :=
  withSpdm fn s (negotiated fn (fun s =>
    let d := Config.sha512 (certChain s)
    spdmAnswer (noteSpdm s fn (0x81 :: 0x01 :: d)) fn 0x01 [1] d))

/-- GET_CERTIFICATE: a portion of slot 0's chain, and how much follows it. -/
def execGetCertificate (fn slot offset length : Nat) (s : State) : Res :=
  withSpdm fn s (negotiated fn (fun s =>
    let c := certChain s
    if slot ≠ 0 ∨ c.length ≤ offset then spdmError s fn spdmInvalid
    else
      let d := cut c offset length
      spdmAnswer (noteSpdm s fn (0x82 :: 0x02 :: d)) fn 0x02 [slot, d.length, c.length - offset - d.length] d))

/-- CHALLENGE_AUTH or its failure: AUTH_FAILURE is recorded (R704). -/
def authFailure (s : State) : State := updateCode (recordEntry s (faultOf 0x608 clsCorrected kindDevice 0 0xFF 0)) 0x608

/-- SPDM_CHALLENGE: slot 0 is authenticated with the identity key. -/
def execSpdmChallenge (fn slot : Nat) (nonce : List Byte) (s : State) : Res :=
  withSpdm fn s (negotiated fn (fun s =>
    if slot ≠ 0 then spdmError (authFailure s) fn spdmInvalid
    else
      let own := Config.random s.free 32
      let body := Config.sha512 (certChain s) ++ own
      let t := (s.spdm fn).transcript ++ nonce ++ body
      match signSpdm s 1 t with
      | none => spdmError s fn spdmBusy
      | some sig =>
        spdmAnswer { setSpdm s fn { s.spdm fn with transcript := [] } with free := s.free + 1 } fn 0x03 [slot] (body ++ sig)))

/-- GET_MEASUREMENTS: operation 0 asks for the number of blocks, 0xFF for all, and another for one block; `sign` asks for a signature
(R702). -/
def execGetMeasurements (fn operation : Nat) (sign : Bool) (nonce : List Byte) (s : State) : Res :=
  withSpdm fn s (negotiated fn (fun s =>
    if 34 < operation ∧ operation ≠ 0xFF then spdmError s fn spdmInvalid
    else
      let blocks := if operation = 0 then [] else if operation = 0xFF then (List.range 34).map (· + 1) else [operation]
      let values := blocks.flatMap (fun i => natLE 1 i ++ blockValue s i)
      let count := if operation = 0 then 34 else blocks.length
      let own := if sign then Config.random s.free 32 else []
      let t := (s.spdm fn).transcript ++ nonce ++ values ++ own
      if sign then
        match signSpdm s 2 t with
        | none => spdmError s fn spdmBusy
        | some sig => spdmAnswer { s with free := s.free + 1 } fn 0x60 [count] (values ++ own ++ sig)
      else spdmAnswer (noteSpdm s fn (nonce ++ values)) fn 0x60 [count] values))

/-- KEY_EXCHANGE: a secure session of the at most 4 of the device begins. -/
def execKeyExchange (fn slot : Nat) (share : List Byte) (s : State) : Res :=
  withSpdm fn s (negotiated fn (fun s =>
    if slot ≠ 0 then spdmError s fn spdmInvalid
    else if 4 ≤ s.sec.spdmSessions.length then spdmError s fn spdmBusy
    else
      let priv := Config.random s.free 48
      let pub := Config.secp384Public priv
      let t := (s.spdm fn).transcript ++ share ++ pub
      match signSpdm s 3 t with
      | none => spdmError s fn spdmBusy
      | some sig =>
        let key := Config.hmacSha512 (Config.secp384 priv share) (Config.sha512 (t ++ sig))
        let id := s.sec.nextSpdm
        let s1 : State := { s with
          free := s.free + 1
          sec := { s.sec with
            nextSpdm := id + 1
            spdmSessions := s.sec.spdmSessions ++ [{ fn := fn, id := id, key := key, lastHeard := s.now }] } }
        spdmAnswer s1 fn 0x64 [id] (pub ++ sig)))

/-- A session of a function. -/
def spdmSession (s : State) (fn id : Nat) : Option SpdmSession := s.sec.spdmSessions.find? (fun x => x.fn == fn && x.id == id)

def updSession (s : State) (id : Nat) (f : SpdmSession → SpdmSession) : State :=
  { s with sec := { s.sec with spdmSessions := s.sec.spdmSessions.map (fun x => if x.id = id then f x else x) } }

def dropSession (s : State) (id : Nat) : State :=
  { s with sec := { s.sec with spdmSessions := s.sec.spdmSessions.filter (fun x => x.id != id) } }

/-- FINISH: the requester's verification data completes the session, or ends it with AUTH_FAILURE. -/
def execFinish (fn session : Nat) (verify : List Byte) (s : State) : Res :=
  withSpdm fn s (fun s =>
    match spdmSession s fn session with
    | none => spdmError s fn spdmUnexpected
    | some x =>
      if x.established then spdmError s fn spdmUnexpected
      else if verify = Config.hmacSha512 x.key (Config.sha512 (s.spdm fn).transcript) then
        spdmAnswer (updSession s session (fun y => { y with established := true, lastHeard := s.now })) fn 0x65 [session] []
      else spdmError (dropSession (authFailure s) session) fn spdmDecrypt)

/-- A message inside an established session. -/
def inSession (fn session : Nat) (f : State → State) (s : State) : State :=
  if (spdmSession s fn session).any (·.established) then f (updSession s session (fun y => { y with lastHeard := s.now }))
  else spdmError s fn spdmUnexpected

/-- KEY_UPDATE: 1 the requester's key, 2 both keys, 3 verification. -/
def execKeyUpdate (fn session operation : Nat) (s : State) : Res :=
  withSpdm fn s (inSession fn session (fun s =>
    if operation = 0 ∨ 3 < operation then spdmError s fn spdmInvalid
    else
      let s1 := if operation = 3 then s else updSession s session (fun y => { y with updates := y.updates + operation })
      spdmAnswer s1 fn 0x69 [session, operation] []))

/-- SPDM_HEARTBEAT. -/
def execSpdmHeartbeat (fn session : Nat) (s : State) : Res :=
  withSpdm fn s (inSession fn session (fun s => spdmAnswer s fn 0x68 [session] []))

/-- END_SESSION. -/
def execEndSession (fn session : Nat) (s : State) : Res :=
  withSpdm fn s (inSession fn session (fun s => spdmAnswer (dropSession s session) fn 0x6C [session] []))

/-- IDE_KM (protocol 0): 0 a key for a stream, 1 the stream goes on with it, 2 the stream stops and its key goes. (PRESUMED, log 102.) -/
def ideMessage (s : State) (fn op stream : Nat) (key : List Byte) : State :=
  match op with
  | 0 => spdmAnswer { s with sec := { s.sec with ide := mapSet [] s.sec.ide stream key } } fn 0x7E [0, op] []
  | 1 => if mapGet [] s.sec.ide stream = [] then spdmError s fn spdmInvalid else spdmAnswer s fn 0x7E [0, op] []
  | 2 => spdmAnswer { s with sec := { s.sec with ide := mapSet [] s.sec.ide stream [] } } fn 0x7E [0, op] []
  | _ => spdmError s fn spdmUnsupported

/-- TDISP (protocol 1) on the interface of a virtual function: 0 its state, 1 lock, 2 start, 3 stop (R545). (PRESUMED, log 102.) -/
def tdispMessage (s : State) (fn op tdi : Nat) : State :=
  let st := mapGet 0 s.host.tdi tdi
  let put (v : Nat) : State := spdmAnswer { s with host := { s.host with tdi := mapSet 0 s.host.tdi tdi v } } fn 0x7E [1, op, v] []
  if tdi = 0 ∨ 64 ≤ tdi then spdmError s fn spdmInvalid
  else match op with
    | 0 => spdmAnswer s fn 0x7E [1, op, st] []
    | 1 => if st = 0 then put 1 else spdmError s fn spdmUnexpected
    | 2 => if st = 1 then put 2 else spdmError s fn spdmUnexpected
    | 3 => put 0
    | _ => spdmError s fn spdmUnsupported

/-- VENDOR_DEFINED: IDE_KM and TDISP are accepted only inside a secure session. -/
def execVendorDefined (fn session protocol op arg : Nat) (key : List Byte) (s : State) : Res :=
  withSpdm fn s (inSession fn session (fun s =>
    match protocol with
    | 0 => ideMessage s fn op arg key
    | 1 => tdispMessage s fn op arg
    | _ => spdmError s fn spdmUnsupported))

/-! ## Quotes (R705) -/

/-- The place of an asker's nonce, where it may have one: a session in being, or the physical function's mailbox. -/
def quotePlace (s : State) (mailbox : Bool) (who : Nat) : Nat × Nat :=
  if mailbox then (if who = 0 then 0 else 0x06050000, 2 ^ 32 + who)
  else (if s.nirnar.sessions.any (fun x => x.number == who) then 0 else 0x06030000, who)

/-- Writes and reads of the dictionary before TEST and READY (R601). -/
def notReady (s : State) : Option Nat :=
  if s.dev = .off ∨ s.dev = .reset ∨ s.dev = .rom ∨ s.dev = .config ∨ s.dev = .thermalHold then some (0x02020000 + s.dev.code) else none

/-- The abort code of an access to QuoteNonce or Quote. -/
def quoteAbort (s : State) (mailbox : Bool) (who : Nat) : Nat :=
  match notReady s with
  | some c => c
  | none => (quotePlace s mailbox who).1

/-- QUOTE_NONCE_WRITE. -/
def execQuoteNonceWrite (mailbox : Bool) (who : Nat) (nonce : List Byte) (s : State) : Res :=
  let c := quoteAbort s mailbox who
  if s.dev = .off then .next s
  else if c ≠ 0 then .next (dictAnswer s c)
  else if nonce.length ≠ 32 then .next (dictAnswer s 0x04040020)
  else .next (dictAnswer { s with sec := { s.sec with nonces := mapSet [] s.sec.nonces (quotePlace s mailbox who).2 nonce } } 0)

/-- "NIRNARQ1". -/
def quoteLabel : List Byte := [0x4E, 0x49, 0x52, 0x4E, 0x41, 0x52, 0x51, 0x31]

/-- The 184 B of a quote. -/
def quoteOf (s : State) (nonce : List Byte) : List Byte :=
  let d := nonce ++ s.sec.mchain ++ natLE 8 s.ptp ++ padTo 16 (bget s 0x1000 5)
  d ++ Config.ed25519Sign Config.identityPrivate (Config.sha512 (quoteLabel ++ d))

/-- QUOTE_READ. -/
def execQuoteRead (mailbox : Bool) (who : Nat) (s : State) : Res :=
  let c := quoteAbort s mailbox who
  let nonce := mapGet [] s.sec.nonces (quotePlace s mailbox who).2
  if s.dev = .off then .next s
  else if c ≠ 0 then .next (dictAnswer s c)
  else if nonce = [] ∨ s.sec.identity = false then .next (dictAnswer s 0x04070000)
  else .next (emit s (.dictAnswer 0 (quoteOf s nonce)))

end Sys2Proof.Machine
end

