-- ==== Sys2Proof/Machine/Update.lean ====
section
/-!
DEFINITION. Firmware update (R712 to R720) and recovery mode (R721 to R723).
-/

namespace Sys2Proof.Machine

/-- A refused command of the update state. -/
def refuseUpdate (s : State) : State :=
  let (a, s1) := stateAbort s (updateState s)
  dictAnswer s1 a

/-- A dictionary command that the device serves from TEST on (R601), while it has power. -/
def served (s : State) (act : State → State) : Res :=
  if s.dev = .off then .next s
  else match notReady s with
    | some c => .next (dictAnswer s c)
    | none => .next (act s)

/-! ## Download (R712 to R714) -/

/-- The target's manifest takes a value. -/
def setTargetManifest (s : State) (m : List Byte) : State :=
  { s with flash := if targetSet s = 0 then { s.flash with manifestA := m } else { s.flash with manifestB := m } }

/-- A refusal with a code of this chapter: 0x0406_06xx. -/
def refuseCode (s : State) (code : Nat) : State := dictAnswer (updateCode s code) (0x04060000 + code)

/-- Whether a manifest is the target's. -/
def sameManifest (s : State) (m : List Byte) : Bool := Config.sha512 m == Config.sha512 (manifestOf s (targetSet s))

/-- A write of StageManifest. -/
def stageManifest (s : State) (m : List Byte) : State :=
  let st := updateState s
  let bad := manStatus m (bootRecord s).floor
  if 65536 < m.length then dictAnswer s 0x0404FFFF
  else if bad ≠ 0 then refuseCode s bad
  else if st = updDownloading ∧ sameManifest s m = true then dictAnswer s 0
  else if st = updDownloading ∨ ((st = updIdle ∨ st = updStaged) ∧ sameManifest s m = false) then
    let s1 := setTargetManifest { s with flash := { s.flash with bitmap := [] } } m
    dictAnswer (setUpdate (showTarget s1) updDownloading) 0
  else refuseUpdate s

def execStageManifest (manifest : List Byte) (s : State) : Res := served s (fun s => stageManifest s manifest)

/-- The sector of a chunk is erased when none of its 16 chunks is held. -/
def eraseSector (s : State) (set i : Nat) : State :=
  let b := i / 16 * 16
  if (List.range 16).any (fun k => mapGet false s.flash.bitmap (b + k)) then s
  else { s with flash := { s.flash with payload := (List.range 16).foldl (fun m k => mapSet [] m (set * 16384 + b + k) []) s.flash.payload } }

/-- A chunk is programmed and its bit set; the last one leads to VERIFYING. -/
def programChunk (s : State) (i : Nat) (d : List Byte) : State :=
  let set := targetSet s
  let s1 := eraseSector s set i
  let s2 : State := { s1 with flash := { s1.flash with
    payload := mapSet [] s1.flash.payload (set * 16384 + i) d, bitmap := mapSet false s1.flash.bitmap i true } }
  let m := manifestOf s2 set
  let s3 := dset s2 0x9000 7 (chunksHeld s2 m)
  if chunksHeld s3 m = chunksTotal m then setUpdate s3 updVerifying else s3

/-- A write of Chunk; `ok` tells whether the flash write succeeds. (DEDUCED, log 105.) (DESIGN CHOICE, log 128.) -/
def writeChunk (s : State) (d : List Byte) (ok : Bool) : State :=
  let i := u32 d 0
  if d.length ≠ 4104 then dictAnswer s 0x04041008
  else if updateState s ≠ updDownloading then refuseUpdate s
  else if chunksTotal (manifestOf s (targetSet s)) ≤ i then dictAnswer s 0x04010000
  else if zeroBytes d (8 + (manPayload (manifestOf s (targetSet s)) - 4096 * i)) (4096 - (manPayload (manifestOf s (targetSet s)) - 4096 * i)) = false then
    dictAnswer s 0x04050000
  else if mapGet false s.flash.bitmap i then dictAnswer s 0
  else if !ok then dictAnswer s 0x03010000
  else dictAnswer (programChunk s i (d.drop 8)) 0

def execChunk (data : List Byte) (ok : Bool) (s : State) : Res := served s (fun s => writeChunk s data ok)

/-- The chunks of a part lose their bits. -/
def clearPart (s : State) (p : Part) : State :=
  { s with flash := { s.flash with
    bitmap := (List.range (ceilDiv (p.off + p.len) 4096 - p.off / 4096)).foldl (fun m k => mapSet false m (p.off / 4096 + k) false) s.flash.bitmap } }

/-- UPDATE_VERIFY_DONE: the parts of a full download have been checked. -/
def execUpdateVerifyDone (s : State) : Res :=
  if updateState s ≠ updVerifying ∨ firmwareUp s = false then .next s
  else
    let set := targetSet s
    let m := manifestOf s set
    match (manParts m).filter (fun p => !(partOkIn s set p)) with
    | [] => .next (setUpdate s updStaged)
    | bad =>
      let s1 := bad.foldl (fun s p =>
        clearPart (updateCode (recordEntry s (faultOf 0x602 clsCorrected kindDevice 0 0xFF 0)) 0x602) p) s
      .next (setUpdate (dset s1 0x9000 7 (chunksHeld s1 m)) updDownloading)

/-- UPDATE_CANCEL: the target manifest is erased. -/
def cancelUpdate (s : State) : State :=
  if updateState s = updDownloading ∨ updateState s = updStaged then
    let s1 := setTargetManifest s []
    dictAnswer (setUpdate (bset (dset (dset s1 0x9000 6 0) 0x9000 7 0) 0x9000 8 []) updIdle) 0
  else refuseUpdate s

def execUpdateCancel (s : State) : Res := served s cancelUpdate

/-! ## Activation (R715 to R719) -/

/-- The conditions of R715. -/
def mayActivate (s : State) : Bool :=
  let m := manifestOf s (targetSet s)
  let p := pairState s
  let v := dget s 0x6100 0xF
  (s.dev == .ready || s.dev == .service) && s.faults.coreA.up && s.faults.coreB.up && s.faults.window.isNone && s.test.run.isNone &&
    p != pairSyncing && p != pairFenced && (p != pairActive || (decide (u16 m 14 ≤ v) && decide (v ≤ u16 m 16)))

/-- ACTIVATE: UpdateCommand 1. -/
def activate (s : State) : State :=
  if updateState s ≠ updStaged then refuseUpdate s
  else if mayActivate s then
    dictAnswer (setUpdate (bump { s with
      sec := { s.sec with activation := some { since := s.now, old := s.faults.activeCore, seq := s.faults.seq } } } 0x9000 0xB 1) updActivating) 0
  else refuseCode s 0x604

def execActivate (s : State) : Res := served s activate

/-- The other service core restarts as standby. -/
def restartCore (s : State) (core : Nat) : State :=
  let f := s.faults
  let down (c : ServiceCore) : ServiceCore := { c with up := false, restarting := true, missed := 0 }
  { s with faults := if core = 0 then { f with coreA := down f.coreA } else { f with coreB := down f.coreB } }

/-- Activation fails: the old set goes on, and the standby restarts with it when it had started the new part (R717). -/
def failActivation (s : State) (started : Bool) : State :=
  let s1 := updateCode (recordEntry s (faultOf 0x605 clsCorrected kindDevice 0 0xFF 0)) 0x605
  let s2 := setUpdate { s1 with sec := { s1.sec with activation := none } } updStaged
  if started then restartCore s2 (1 - s2.faults.activeCore) else s2

/-- ACTIVATION_FAILED: a check, a switch or the standby's self-check failed, ActivationLimit expired, a fault of class
DEVICE_RECOVERABLE or higher was detected or the new standby was lost; `started` tells whether the standby had started the new part. -/
def execActivationFailed (started : Bool) (s : State) : Res :=
  if s.sec.activation.isSome then .next (failActivation s started) else .next s

/-- The new SEQUENCER part with the resident programs fits the serving banks (R476, R707). -/
def newImages (s : State) (set : Nat) : Map (List Byte) :=
  let seq := partOf s set 2
  (List.range 9).foldl (fun a e => mapSet [] a e (sectionImage seq e)) []

/-- Whether an activation may reach step 8: every part matches, the images fit, the limit has not passed, and no fault of class
DEVICE_RECOVERABLE or higher was recorded since it began but the loss of a service core (R717, R718). -/
def activationHolds (s : State) (a : Activation) : Bool :=
  let set := targetSet s
  let s1 : State := { s with seqImages := newImages s set }
  setOk s set && programsFit s1 16 [] && decide (s.now ≤ a.since + 1000000 * dget s 0x9000 9) &&
    !(s.faults.ring.any (fun e => decide (a.seq < e.seq) && decide (clsDevice ≤ e.cls) && e.kind != kindService))

/-- Whether the queue of every usable walker core takes the FLIP entry of step 5; the activation goes on once it does. -/
def flipRoom (s : State) : Bool :=
  (List.range 64).all (fun n => !(coreUsable s n) || decide ((s.engine (64 + n)).queue.length < 256))

/-- The new walker runtime in a core's unselected bank, committed, with a FLIP entry at the end of its queue (R716 step 5). -/
def newRuntime (s : State) (n : Nat) (image : List Byte) : State :=
  if coreUsable s n then
    let b := !(s.engine (64 + n)).bank
    let s1 := s.updEngine (64 + n) (fun g => commitBank { g with imem := loadBank g.imem b image } b (ceilDiv image.length 4) 0)
    (enqueue64 s1 (64 + n) { data := padTo 64 (natLE 4 (3 * 2 ^ 28)), origin := { poster := 16, tenant := 0, priv := true } }).2
  else s

/-- ACTIVATION_DONE: steps 1 to 8 of R716, and the core that was active at the ACTIVATE restarts as standby; where it was lost, the other
one completes the activation (R718). (DEDUCED, log 105.) -/
def execActivationDone (s : State) : Res :=
  match s.sec.activation with
  | none => .next s
  | some a =>
    if activationHolds s a = false then .next (failActivation s true)
    else if flipRoom s = false then .next s
    else
      let set := targetSet s
      let m := manifestOf s set
      let walk := partOf s set 3
      let b := bootRecord s
      let s1 : State := { s with seqImages := newImages s set, tandem := { s.tandem with ownMin := u16 m 14, ownMax := u16 m 16 } }
      let s2 := (List.range 64).foldl (fun s n => newRuntime s n walk) (placeSoon s1)
      let s3 := dset (dset s2 0x9010 3 (dget s2 0x9010 2)) 0x9010 2 (manFormat m)
      let s4 := bset (writeBoot s3 b.run set b.floor b.digest) 0x1000 0xD (manVersion m)
      let s5 := measureSet { s4 with sec := { s4.sec with activation := none, runSet := set } } set
      let s6 : State := { setUpdate s5 updTrial with faults := { s5.faults with activeCore := 1 - a.old } }
      .next (restartCore s6 a.old)

/-- CONFIRM: TRUE in TRIAL makes the trial set permanent (R720). -/
def confirmSet (s : State) (value : Bool) : State :=
  if updateState s ≠ updTrial then refuseUpdate s
  else if !value then dictAnswer s 0
  else
    let b := bootRecord s
    let m := manifestOf s b.trial
    let s1 := writeBoot s b.trial 0xFF (max b.floor (manSec m)) (Config.sha512 m)
    dictAnswer (setUpdate (showTarget (dset s1 0x9010 3 0)) updIdle) 0

def execConfirm (value : Bool) (s : State) : Res := served s (fun s => confirmSet s value)

/-! ## Recovery mode (R721 to R723) -/

/-- Bytes held from offset 0 on without a gap. -/
def contiguous : Nat → Nat → List (Nat × Nat) → Nat
  | 0, n, _ => n
  | fuel + 1, n, held =>
    match held.find? (fun r => decide (r.1 ≤ n) && decide (n < r.1 + r.2)) with
    | some r => contiguous fuel (r.1 + r.2) held
    | none => n

def receivedBytes (s : State) : Nat := contiguous s.sec.recovery.held.length 0 s.sec.recovery.held

/-- RecoveryStatus (R723). -/
def recoveryStatus (s : State) : List Byte :=
  let r := s.sec.recovery
  natLE 1 r.state ++ natLE 1 0 ++ natLE 2 r.code ++ natLE 4 (receivedBytes s) ++ natLE 4 (receivedBytes s) ++ natLE 4 r.detail

/-- Whether ROM runs in recovery mode. -/
def inRecoveryMode (s : State) : Bool := s.dev == .rom && s.sec.recoveryMode

/-- Bytes of the package arrive; a complete package is checked next. -/
def addPackage (s : State) (total : Option Nat) (off : Nat) (d : List Byte) : State :=
  let r := s.sec.recovery
  let r1 : Recovery := { r with
    total := total, bytes := mapSetRun 0 r.bytes off d, held := r.held ++ [(off, d.length)], code := 0, detail := 0, state := 0 }
  let s1 : State := { s with sec := { s.sec with recovery := r1 } }
  if total = some (receivedBytes s1) then { s1 with sec := { s1.sec with recovery := { r1 with state := 1 } } } else s1

/-- RECOVERY_DATA: a segment of RecoveryData through the physical function's mailbox (R590). -/
def execRecoveryData (offset : Nat) (data : List Byte) (final : Bool) (s : State) : Res :=
  if s.dev = .off then .next s
  else if inRecoveryMode s = false then
    match notReady s with
    | some c => .next (dictAnswer s c)
    | none => .next (refuseInState s)
  else
    let s1 : State := if offset = 0 then { s with sec := { s.sec with recovery := { s.sec.recovery with total := none, bytes := [], held := [] } } } else s
    if receivedBytes s1 ≠ offset ∨ s1.sec.recovery.state = 1 then
      .next (dictAnswer { s1 with sec := { s1.sec with recovery := { s1.sec.recovery with total := none, bytes := [], held := [] } } } 0x01050000)
    else .next (dictAnswer (addPackage s1 (if final then some (offset + data.length) else none) offset data) 0)

/-- RECOVERY_DATAGRAM: a datagram on UDP port 7403 (R722). -/
def execRecoveryDatagram (datagram : List Byte) (s : State) : Res :=
  let total := u32 datagram 4
  let off := u32 datagram 8
  let len := u16 datagram 12
  let r := s.sec.recovery
  if inRecoveryMode s = false ∨ datagram.length ≠ 16 + len ∨ 1024 < len ∨ u16 datagram 0 ≠ 0x5852 ∨ u8 datagram 2 ≠ 1 ∨
      total < off + len ∨ r.state = 1 then .next s
  else
    let s1 : State := if r.total = some total then s
      else { s with sec := { s.sec with recovery := { r with total := some total, bytes := [], held := [] } } }
    .next (addPackage s1 (some total) off (datagram.drop 16))

/-- RECOVERY_STATUS_REQUEST: answered at most 100 times a second. -/
def execRecoveryStatusRequest (s : State) : Res :=
  if inRecoveryMode s = false then .next s
  else
    let r := s.sec.recovery
    let r1 : Recovery := if r.answersSince + 1000000000 ≤ s.now then { r with answers := 0, answersSince := s.now } else r
    if 100 ≤ r1.answers then .next s
    else
      .next (emit { s with sec := { s.sec with recovery := { r1 with answers := r1.answers + 1 } } }
        (.frame 10 [0x5852, 3, 0, r1.total.getD 0, 0, 16, 0] (recoveryStatus s)))

/-- The package's bytes. -/
def packageBytes (s : State) (off n : Nat) : List Byte := (List.range n).map (fun i => mapGet 0 s.sec.recovery.bytes (off + i))

/-- Header, configuration copy, manifest and payload of a package. -/
structure PackageParts where
  hasCfg : Bool
  hasSet : Bool
  cfg : List Byte
  manifest : List Byte
  payload : Nat
  sound : Bool
  deriving DecidableEq, Repr

def packageParts (s : State) : PackageParts :=
  let h := packageBytes s 0 64
  let total := s.sec.recovery.total.getD 0
  let fl := u16 h 6
  let cfg := u32 h 8
  let pad := if bitOf fl 0 then ceilDiv cfg 4096 * 4096 else 0
  let man := packageBytes s (64 + pad) 65536
  let set := if bitOf fl 1 then 65536 + manPayload man else 0
  { hasCfg := bitOf fl 0, hasSet := bitOf fl 1, cfg := packageBytes s 64 cfg, manifest := man.take manifestBytes, payload := 64 + pad + 65536
    sound := u32 h 0 == 0x4B504E52 && u16 h 4 == 1 && (!(bitOf fl 1) || u32 h 12 == set) && total == 64 + pad + set }

/-- The failing check of R723: 1 the header, 2 the configuration copy, 3 its absence, 4 the manifest, 5 a part; 0 when all pass. (DEDUCED, log 106.) -/
def packageCheck (s : State) : Nat :=
  let p := packageParts s
  let part (q : Part) : Bool :=
    let d := packageBytes s (p.payload + q.off) q.len
    Config.sha512 d == q.digest && partSound q d
  if p.sound = false then 1
  else if p.hasCfg ∧ cfgValid p.cfg = false then 2
  else if s.sec.noConfig ∧ p.hasCfg = false then 3
  else if p.hasSet ∧ manStatus p.manifest (bootRecord s).floor ≠ 0 then 4
  else if p.hasSet ∧ (manParts p.manifest).all part = false then 5
  else 0

/-- The configuration copy goes over the invalid copy, or over copy A. -/
def writeConfig (s : State) (d : List Byte) : State :=
  { s with flash := if cfgValid s.flash.cfgA ∧ cfgValid s.flash.cfgB = false then { s.flash with cfgB := d } else { s.flash with cfgA := d } }

/-- The set goes over the one that failed R711, or over set A when the boot record is invalid; the record names it. -/
def writeSet (s : State) (p : PackageParts) : State :=
  let b := bootRecord s
  let set := if noBoot s then 0 else b.run
  let n := chunksTotal p.manifest
  let s1 : State := { s with flash := { s.flash with
    manifestA := if set = 0 then p.manifest else s.flash.manifestA
    manifestB := if set = 0 then s.flash.manifestB else p.manifest
    payload := (List.range n).foldl (fun m i => mapSet [] m (set * 16384 + i) (packageBytes s (p.payload + 4096 * i) 4096)) s.flash.payload } }
  writeBoot s1 set 0xFF b.floor (Config.sha512 p.manifest)

/-- RECOVERY_PACKAGE_CHECK: a complete package is checked, written and followed by a device reset, or discarded. (DEDUCED, log 106.) -/
def execRecoveryPackageCheck (s : State) : Res :=
  if inRecoveryMode s = false ∨ s.sec.recovery.state ≠ 1 then .next s
  else
    let c := packageCheck s
    if c ≠ 0 then
      .next { s with sec := { s.sec with recovery := { s.sec.recovery with
        state := 3, code := 0x609, detail := c, total := none, bytes := [], held := [] } } }
    else
      let p := packageParts s
      let s1 := if p.hasCfg then writeConfig s p.cfg else s
      .next (enterReset (if p.hasSet then writeSet s1 p else s1) 1)

end Sys2Proof.Machine
end

