-- ==== Sys2Proof/Machine/Recovery.lean ====
section
/-!
DEFINITION. The service cores and recovery (R658 to R675), and the fault record's commands (R663, R666).
-/

namespace Sys2Proof.Machine

/-! ## Service cores (R658 to R661) -/

def coreOf (s : State) (core : Nat) : ServiceCore := if core = 0 then s.faults.coreA else s.faults.coreB

def updCore (s : State) (core : Nat) (f : ServiceCore → ServiceCore) : State :=
  { s with faults := if core = 0 then { s.faults with coreA := f s.faults.coreA } else { s.faults with coreB := f s.faults.coreB } }

/-- States in which the two cores guard each other: the service firmware runs. -/
def coresRun (s : State) : Bool := firmwareUp s

/-- A core is down: it restarts, unless it has been lost three times within 24 h (R660). -/
def dropCore (s : State) (core : Nat) : State :=
  updCore s core (fun c =>
    let ls := (c.losses.filter (fun t => decide (s.now < t + 86400000000000))) ++ [s.now]
    let off := decide (3 ≤ ls.length)
    { c with up := false, missed := 0, losses := ls, off := off, restarting := !off })

/-- What was in progress on the lost core ends with SERVICE_MOVED: sessions, mailbox commands and direct requests (R659). -/
def moveService (s : State) : State :=
  let direct := (s.nirnar.jobs.filter (fun j => j.asker == .direct)).length
  let s1 := endSessions s
  let box (b : Mailbox) : Mailbox := if b.busy then { b with busy := false, done := true, abort := 0x02030000 } else b
  let s2 : State := { s1 with
    nirnar := { s1.nirnar with jobs := [] }
    host := { s1.host with boxes := mapVals {} s1.host.boxes box } }
  (List.range direct).foldl (fun s _ => dictAnswer s 0x02030000) s2

/-- The loss of a core: the standby takes over, or the standby is restarted, or, with no standby left, the device resets without a
notice (R659 to R661, R718). (DEDUCED, log 107.) -/
def loseCore (s : State) (core : Nat) : State :=
  let other := 1 - core
  if (coreOf s core).up = false then s
  else if s.faults.activeCore = core then
    if (coreOf s other).up then
      let s1 := dropCore s core
      let s2 := bump { s1 with faults := { s1.faults with activeCore := other } } 0x8002 5 1
      recordFault (moveService s2) (faultOf 0x270 clsDevice kindService core 0xFF 0)
    else enterReset s 5
  else
    let s1 := recordEntry (dropCore s core) (faultOf 0x270 clsCorrected kindService core 0xFF 0)
    if s1.sec.activation.isSome then failActivation s1 false else s1

/-- CORE_HEARTBEAT_CHECK: a core checks whether the other's counter has changed; three checks in a row without a change lose it. -/
def execCoreHeartbeatCheck (checker : Nat) (changed : Bool) (s : State) : Res :=
  if 1 < checker then .next s
  else
    let other := 1 - checker
    let c := coreOf s other
    if coresRun s = false ∨ (coreOf s checker).up = false ∨ c.up = false then .next s
    else if changed then .next (updCore s other (fun c => { c with missed := 0, lastBeat := s.now }))
    else
      let s1 := updCore s other (fun c => { c with missed := c.missed + 1 })
      .next (if 3 ≤ c.missed + 1 then loseCore s1 other else s1)

/-- SERVICE_CORE_FAULT: a core reports an UNCORRECTABLE word of its own SRAM or instruction memory, or its watchdog expires. -/
def execServiceCoreFault (core : Nat) (s : State) : Res :=
  if 1 < core then .next s else if coresRun s then .next (loseCore s core) else .next s

/-- SERVICE_CORE_RESTART_DONE: a restarted core has passed its checks, becomes standby and has the service state. -/
def execServiceCoreRestartDone (core : Nat) (s : State) : Res :=
  if 1 < core then .next s
  else if (coreOf s core).restarting then .next (updCore s core (fun c => { c with up := true, restarting := false, missed := 0, lastBeat := s.now }))
  else .next s

/-- SERVICE_CORES_DEAD: neither core has written a heartbeat for 1 ms (R661). -/
def execServiceCoresDead (s : State) : Res :=
  let dead (c : ServiceCore) : Bool := !c.up || decide (c.lastBeat + 1000000 ≤ s.now)
  if coresRun s ∧ dead s.faults.coreA = true ∧ dead s.faults.coreB = true then .next (enterReset s 5) else .next s

/-! ## Device recovery (R670) -/

/-- The window of a device recovery. -/
def deviceWindow (s : State) : Option Window :=
  s.faults.window.filter (fun w => w.cls == clsDevice && w.kind != kindService)

/-- A sequencer stops and drains (step 2). -/
def drainForRecovery (s : State) (eng : Nat) : State :=
  s.updEngine eng (fun e => { noteRun e 0x215 0xFFFFFFFF with drain := some .recovery, held := none, nest := none, haltReq := false })

/-- A tenant context in force is switched out without saving; its entries complete with ENTRY_ABANDONED (step 3, R668). -/
def abandonContext (s : State) : State :=
  let t := s.ctx.current
  if t = 0 then { s with ctx := { s.ctx with switch := none, next := none } }
  else leaveContext (setTenantFault ((List.range 9).foldl discardQueue s) t 64) t

/-- DEVICE_RECOVERY: steps 1 and 2, and the tenant context of step 3. A step whose COMMIT is mirrored already waits for its
acknowledgment and commits. (DEDUCED, log 107.) -/
def execDeviceRecovery (s : State) : Res :=
  match deviceWindow s, s.faults.recoverySince with
  | some _, none =>
    let s1 : State := { s with
      dev := if s.dev = .service then .recovery else s.dev, faults := { s.faults with recoverySince := some s.now } }
    let s2 := noteChange (bump s1 0x8002 2 1) (dk 0x1000 0xF)
    let s3 := (List.range 9).foldl drainForRecovery s2
    let s4 := (s3.svc.steps.map (·.1)).foldl (fun s m =>
      if (stepAt s m).phase = .acking then s else setStep s m { stepAt s m with discard := true }) s3
    .next (abandonContext s4)
  | _, _ => .next s

/-- Whether steps 2 and 3 have completed: the sequencers have drained, the steps are discarded, the serving context is in force and no
interrupted restore is left. -/
def recoveryReady (s : State) : Bool :=
  (List.range 9).all (fun e => (s.engine e).drain.isNone) && (List.range 16).all (fun m => !(stepAt s m).discard) &&
    s.ctx.current == 0 && s.ctx.switch.isNone &&
    s.faults.interrupted.all (fun w => w.kind != kindSlot || (s.slot w.index).state != .restoring)

/-- The serving context's instruction memories are loaded again, and its engines run (steps 3 and 4). -/
def reloadServing (s : State) (eng : Nat) (faulted : Bool) : State :=
  let s1 := if faulted then discardQueue (s.updEngine eng (fun e => { e with state := .idle })) eng else s
  let d := servingBank s1 eng 16 []
  if d = [] then s1
  else
    let b := (s1.engine eng).bank
    (writeBank s1 eng b d).updEngine eng (fun g => { commitBank g b (ceilDiv d.length 4) 0 with
      state := if faulted ∨ g.state = .runService then .runService else g.state })

/-- The next fault in hand after a window closes: the interrupted recovery, else the oldest that is queued and has a recovery (R674). -/
def nextRecovery : Nat → State → State
  | 0, s => s
  | fuel + 1, s =>
    match s.faults.interrupted, s.faults.queue with
    | w :: ws, _ => { s with faults := { s.faults with window := some w, interrupted := ws } }
    | [], e :: es =>
      let s1 : State := { s with faults := { s.faults with queue := es } }
      if hasRecovery e.kind e.index e.cls then
        let s2 := beginRecovery s1 e e.cls
        if s2.faults.window.isSome ∨ s2.faults.fatal.isSome then s2 else nextRecovery fuel s2
      else nextRecovery fuel s1
    | [], [] => s

/-- The current window closes. -/
def closeWindow (s : State) : State :=
  let s1 : State := { s with faults := { s.faults with window := none } }
  nextRecovery (s1.faults.queue.length + 1) (noteChange (noteChange s1 (dk 0x8000 6)) (dk 0x8000 7))

/-- RECOVERY_DONE: steps 3 to 5; an interrupted slot restore is complete with it. -/
def execRecoveryDone (s : State) : Res :=
  match deviceWindow s, s.faults.recoverySince with
  | some w, some since =>
    if recoveryReady s = false ∨ since + 1000000 * dget s 0x8002 1 < s.now then .next s
    else
      let s1 := (List.range 9).foldl (fun s e => reloadServing s e (decide (w.kind = kindEngine) && decide (w.index = e))) s
      let s2 : State := { s1 with
        dev := if s1.dev = .recovery then .service else s1.dev
        faults := { s1.faults with recoverySince := none, interrupted := s1.faults.interrupted.filter (fun v => v.kind != kindSlot) } }
      let s3 := recordEntry (noteChange s2 (dk 0x1000 0xF)) (faultOf 0x275 clsCorrected w.kind w.index 0xFF ((s.now - since) / 1000))
      let s4 := (List.range 64).foldl (fun s t => if (s.tenant t).state = .active then releaseDoorbells s t else s) s3
      .next (closeWindow s4)
  | _, _ => .next s

/-- RECOVERY_TIMEOUT: step 5 was not reached within RecoveryLimit. -/
def execRecoveryTimeout (s : State) : Res :=
  match deviceWindow s, s.faults.recoverySince with
  | some w, some since =>
    if s.now ≤ since + 1000000 * dget s 0x8002 1 ∨ s.faults.fatal.isSome then .next s
    else .next (recordFault s (faultOf 0x273 clsFatal w.kind w.index 0xFF 0))
  | _, _ => .next s

/-! ## FATAL faults (R667, R672) -/

/-- A ring entry's 32 B (R664). -/
def FaultEntry.bytes (e : FaultEntry) : List Byte :=
  natLE 8 e.time ++ natLE 4 e.seq ++ natLE 2 e.code ++ natLE 1 e.cls ++ natLE 1 e.flags ++ natLE 1 e.kind ++ natLE 1 e.tenant ++
    natLE 2 e.index ++ natLE 4 0 ++ natLE 8 e.detail

/-- FATAL_RESET: the fault's ring entry is stored in LastFatal, and the device resets. (DEDUCED, log 108.) -/
def execFatalReset (s : State) : Res :=
  match s.faults.fatal with
  | some f =>
    let e := (s.faults.ring.reverse.find? (fun e => e.code == f.code)).getD f
    .next (startReset (bsetStored s 0x8004 1 e.bytes) 3 false)
  | none => .next s

/-! ## The recovery window (R673, R674) -/

/-- Whether the recovery of a window has completed. -/
def recovered (s : State) (w : Window) : Bool :=
  if w.cls = clsFatal then false
  else if w.kind = kindService then (coreOf s s.faults.activeCore).up
  else if w.cls = clsDevice then false
  else if w.kind = kindSlot then (s.slot w.index).state != .restoring
  else if w.kind = kindEngine then (s.engine w.index).state != .faulted
  else if w.kind = kindTenant then
    let st := (s.tenant w.index).state
    st == .unassigned || st == .faulted || (w.begun && st != .resetting)
  else true

/-- RECOVERY_WINDOW_CLOSE: the recovery of the current window has completed, and the next fault's turn comes. A device recovery closes its
own window. -/
def execRecoveryWindowClose (s : State) : Res :=
  match s.faults.window with
  | some w => if recovered s w then .next (closeWindow s) else .next s
  | none => .next s

/-! ## The fault record (R663, R666) -/

/-- FAULT_SUMMARY_WRITE: ones clear bits. -/
def clearSummary (s : State) (value : Nat) : State :=
  let f := s.faults
  let new := f.summary - (f.summary &&& value)
  dictAnswer (if new = f.summary then s else noteChange { s with faults := { f with summary := new } } (dk 0x8000 1)) 0

def execFaultSummaryWrite (value : Nat) (s : State) : Res := served s (fun s => clearSummary s value)

/-- RING_CLEAR: TRUE empties the ring; SEQ goes on. -/
def clearRing (s : State) (value : Bool) : State :=
  dictAnswer (if value then noteChange { s with faults := { s.faults with ring := [] } } (dk 0x8001 0) else s) 0

def execRingClear (value : Bool) (s : State) : Res := served s (fun s => clearRing s value)

end Sys2Proof.Machine
end

