-- ==== Sys2Proof/Machine/Health.lean ====
section
/-!
DEFINITION. Health monitors and wear (R685 to R698). Measurements come as FP32 encodings, compensated as R686 says.
-/

namespace Sys2Proof.Machine

/-! ## Fractions -/

/-- The value of an FP32 encoding; 0 of one that is not finite. (DESIGN CHOICE, log 109.) -/
def ratOf (w : Nat) : Rat :=
  match fpDecode shapeFp32 w with
  | .fin neg m e =>
    let v : Rat := if 0 ≤ e then ((m * 2 ^ e.toNat : Nat) : Rat) else ((m : Nat) : Rat) / ((2 ^ (-e).toNat : Nat) : Rat)
    if neg then -v else v
  | _ => 0

/-- FP32 of a fraction, rounded once. (DESIGN CHOICE, log 109.) -/
def f32Of (q : Rat) : Nat := f32Ratio (decide (q < 0)) q.num.natAbs q.den

def ratMax (xs : List Rat) : Option Rat := xs.foldl (fun a x => match a with
  | some m => some (if m < x then x else m)
  | none => some x) none

def ratSum (xs : List Rat) : Rat := xs.foldl (· + ·) 0
def ratMean (xs : List Rat) : Rat := ratSum xs / (xs.length : Rat)

/-! ## Domains and monitors (R685, R686) -/

def monRo : Nat := 1
def monEm : Nat := 2
def monSpare : Nat := 3
def monRetire : Nat := 4
def monRetention : Nat := 5
def monEye : Nat := 6

/-- Monitors of a domain, in R685's order. -/
def monitors (d : Nat) : List Nat := if d < 2 then [1, 2] else if d < 10 then [3, 4, 5] else [6]

def monKey (d m : Nat) : Nat := d * 8 + m

/-- The place of a monitor among its domain's entries. -/
def monPlace (d m : Nat) : Nat := ((monitors d).findIdx? (· == m)).getD 0

/-- Wear, MonitorEndOfLife and Raw of a monitor: 0x7020 + d. -/
def wearSub (d m : Nat) : Nat := 3 * monPlace d m + 1

def latestPoint (s : State) (d m : Nat) : Option (Nat × Nat) := (mapGet [] s.flash.points (monKey d m)).getLast?

/-! ## Trends (R694) -/

/-- h^k, k being 0.25 for RO and 1 otherwise. -/
def hourPower (m h : Nat) : Rat := if m = monRo then ((Config.fourthRoot h : Nat) : Rat) / ((2 ^ 32 : Nat) : Rat) else (h : Rat)

/-- Intercept and slope of the least-squares line through points (x, y). (DESIGN CHOICE, log 109.) -/
def fitLine (ps : List (Rat × Rat)) : Option (Rat × Rat) :=
  let n : Rat := ps.length
  let sx := ratSum (ps.map (·.1))
  let sy := ratSum (ps.map (·.2))
  let sxx := ratSum (ps.map (fun p => p.1 * p.1))
  let sxy := ratSum (ps.map (fun p => p.1 * p.2))
  let den := n * sxx - sx * sx
  if den = 0 then none
  else
    let b := (n * sxy - sx * sy) / den
    some ((sy - b * sx) / n, b)

/-- The end-of-life time that a monitor's points predict, 0 for none. -/
def predict (s : State) (m : Nat) (ps : List (Nat × Nat)) : Nat :=
  let now := s.flash.hours
  let pts := ps.filter (fun p => decide (now < p.1 + 24 * dget s 0x7000 7))
  match fitLine (pts.map (fun p => (hourPower m p.1, ratOf p.2))) with
  | some (a, b) =>
    if pts.length < 14 ∨ b ≤ 0 then 0
    else
      let hour : Rat := 3600000000000
      match pts.getLast?, ps.find? (fun p => decide (1 ≤ ratOf p.2)) with
      | some (_, w), some (h, _) =>
        if 1 ≤ ratOf w then s.ptp - (now - h) * 3600000000000
        else
          let q := (1 - a) / b
          let heol := if m = monRo then q * q * q * q else q
          ((s.ptp : Rat) + (heol - (now : Rat)) * hour).floor.toNat
      | _, _ =>
        let q := (1 - a) / b
        let heol := if m = monRo then q * q * q * q else q
        ((s.ptp : Rat) + (heol - (now : Rat)) * hour).floor.toNat
  | none => 0

/-! ## Levels (R695 to R697) -/

/-- The remaining life of a monitor, in %; 100 while it has no point. -/
def monRemaining (s : State) (d m : Nat) : Nat :=
  match latestPoint s d m with
  | some (_, w) => (100 * max 0 (1 - ratOf w)).floor.toNat
  | none => 100

def monEol (s : State) (d m : Nat) : Nat := dget s (0x7020 + d) (wearSub d m + 1)

/-- The earliest of end-of-life times, with its monitor; 0 where there is none. -/
def earliest (es : List (Nat × Nat)) : Nat × Nat :=
  es.foldl (fun a e => if e.1 = 0 then a else if a.1 = 0 ∨ e.1 < a.1 then e else a) (0, 0)

/-- The monitor of the least remaining life that has a point. -/
def leastLife (s : State) (d : Nat) : Nat :=
  let ms := (monitors d).filter (fun m => (latestPoint s d m).isSome)
  (ms.find? (fun m => ms.all (fun n => decide (monRemaining s d m ≤ monRemaining s d n)))).getD 0

/-- Remaining life, EndOfLife and Limiting of a domain. -/
def showDomain (s : State) (d : Nat) : State :=
  let rem := ((monitors d).map (monRemaining s d)).foldl min 100
  let e := earliest ((monitors d).map (fun m => (monEol s d m, m)))
  dset (dset (dset s (0x7010 + d) 2 rem) (0x7010 + d) 3 e.1) (0x7010 + d) 4 (if e.1 = 0 then leastLife s d else e.2)

/-- The figures of the device. -/
def showDevice (s : State) : State :=
  let ds := List.range 12
  let rem := (ds.map (fun d => dget s (0x7010 + d) 2)).foldl min 100
  dset (dset s 0x7000 2 rem) 0x7000 3 (earliest (ds.map (fun d => (dget s (0x7010 + d) 3, d)))).1

/-- The level of a domain (R696). -/
def levelOf (s : State) (d : Nat) : Nat :=
  let ws := (monitors d).map (fun m => ratOf (dget s (0x7020 + d) (wearSub d m)))
  let eol := dget s (0x7010 + d) 3
  let x := s.stack (d - 2)
  let stack := 2 ≤ d && d < 10
  let alarm := ws.any (fun w => decide ((dget s 0x7000 5 : Rat) ≤ 100 * w)) ||
    (eol != 0 && decide (eol ≤ s.ptp + dget s 0x7000 6 * 86400000000000)) ||
    (stack && (decide ((minRows x).1 ≤ dget s 0x7000 9) || x.degraded))
  if alarm then 2 else if ws.any (fun w => decide ((dget s 0x7000 4 : Rat) ≤ 100 * w)) then 1 else 0

/-- The level of a domain is recomputed (R697). -/
def putLevel (s : State) (d : Nat) : State :=
  let l := levelOf s d
  if dget s (0x7010 + d) 1 = l then s
  else
    let all := dget s 0x7000 0xA
    dset (dset s (0x7010 + d) 1 l) 0x7000 0xA (all - bitsOf all (2 * d + 1) (2 * d) * 4 ^ d + l * 4 ^ d)

/-- The figures of a domain are worked out again from its monitors' points: predictions, remaining life and level (R694 to R697; R236
step 5). (DESIGN CHOICE, log 110.) -/
def updateFigures (s : State) (d : Nat) : State :=
  let s1 := (monitors d).foldl (fun s m =>
    dset s (0x7020 + d) (wearSub d m + 1) (predict s m (mapGet [] s.flash.points (monKey d m)))) s
  showDevice (putLevel (showDomain s1 d) d)

/-- A sample of a monitor with its raw figure, both as FP32. (DESIGN CHOICE, log 110.) -/
def addSample (s : State) (d m w raw : Nat) : State :=
  let k := monKey d m
  let s1 : State := { s with health := { s.health with samples := mapUpd [] s.health.samples k (· ++ [w]) } }
  updateFigures (dset (dset s1 (0x7020 + d) (wearSub d m) w) (0x7020 + d) (wearSub d m + 2) raw) d

/-- The quotient of a wear fraction as FP32; free where it divides by 0. (DESIGN CHOICE, log 109.) -/
def quotient (s : State) (a b : Rat) : Nat × State :=
  if b = 0 then let (v, s1) := freeValue s; (v % 2 ^ 32, s1) else (f32Of (a / b), s)

/-! ## HEALTH_HOURLY (R686 to R688) -/

/-- The F32 value `i` of an entry of 0x7001. -/
def baseline (s : State) (sub i : Nat) : Rat := ratOf (u32 (bget s 0x7001 sub) (4 * i))

/-- The largest change of a die's readings against their baselines: a loss of frequency, or a rise of resistance; free where a baseline
is 0. (DESIGN CHOICE, log 109.) -/
def largestChange (s : State) (sub first : Nat) (loss : Bool) (rs : List Nat) : Option Rat × State :=
  let bs := (List.range rs.length).map (fun i => (ratOf (rs.getD i 0), baseline s sub (first + i)))
  if bs.any (fun e => decide (e.2 = 0)) then let (v, s1) := freeValue s; (some (ratOf (v % 2 ^ 32)), s1)
  else (ratMax (bs.map (fun e => if loss then 1 - e.1 / e.2 else e.1 / e.2 - 1)), s)

/-- The sample that a die's readings give a monitor, its limit being `n` %. -/
def sampleChange (s : State) (die m sub per : Nat) (n : Rat) (rs : List Nat) : State :=
  match largestChange s sub (per * die) (m == monRo) rs with
  | (some x, s1) => addSample s1 die m (f32Of (100 * x / n)) (f32Of (100 * x))
  | (none, s1) => s1

/-- RO and EM of a die, sampled within the voltage window of R638. -/
def sampleDie (s : State) (die mv : Nat) (ro em : List Nat) : State :=
  if mv < 680 ∨ 740 < mv then s
  else sampleChange (sampleChange s die monRo 1 32 4 ro) die monEm 2 16 10 em

/-- SPARE and RETIRE of a stack. -/
def sampleStack (s : State) (st : Nat) : State :=
  let rows := dget s (0x2210 + st) 0xA
  let frames := dget s (0x2220 + st) 5
  let s1 := addSample s (2 + st) monSpare (f32Of ((rows : Rat) / 131072)) (f32Of rows)
  let all := 512 * popSegs (s.stack st)
  if all = 0 then s1 else addSample s1 (2 + st) monRetire (f32Of ((20 * frames : Nat) / (all : Rat))) (f32Of frames)

/-- HEALTH_HOURLY: an operating hour ends. `mv` are the supplies of the two dies, `ro` and `em` their oscillators' frequencies and sense
lines' resistances. -/
def execHealthHourly (mv : List Nat) (ro em : List (List Nat)) (s : State) : Res :=
  if s.pkg.pwrgd = false ∨ s.now < s.health.hourSince + 3600000000000 then .next s
  else
    let s1 : State := { s with
      flash := { s.flash with hours := s.flash.hours + 1 }, health := { s.health with hourSince := s.health.hourSince + 3600000000000 } }
    if firmwareUp s1 = false then .next s1
    else
      let s2 := dset s1 0x7000 1 (min s1.flash.hours (2 ^ 32 - 1))
      let s3 := [0, 1].foldl (fun s die => sampleDie s die (mv.getD die 0) ((ro.getD die []).take 32) ((em.getD die []).take 16)) s2
      .next ((List.range 8).foldl sampleStack s3)

/-! ## The retention probe (R689, R690) -/

/-- The highest-numbered free frame of a stack. -/
def probeFrame (s : State) (st : Nat) : Option Nat :=
  (List.range (512 * popSegs (s.stack st))).reverse.find? (fun f => frameFree s st f && !(inTestBar (s.stack st) f))

/-- 32 free bytes. -/
def freeWord256 (s : State) : Word256 × State :=
  (List.range 4).foldl (fun a _ => let (v, s1) := freeValue a.2; ((a.1 <<< 64) ||| BitVec.ofNat 256 v, s1)) ((0 : Word256), s)

/-- A checker pattern is written to every word of a frame (R690). Which one the spec does not say, so the words are free. (DESIGN CHOICE,
log 110.) -/
def fillChecker (s : State) (st f : Nat) : State :=
  (List.range (frameBytes / 32)).foldl (fun s i =>
    let v := freeWord256 s
    (storeCode v.2 (st * 2 ^ 37 + frameBytes * f + 32 * i) (encode288 v.1)).next) s

/-- RETENTION_PROBE: a day after its last, a stack's probe starts or is skipped. -/
def execRetentionProbe (st : Nat) (s : State) : Res :=
  if 8 ≤ st then .next s
  else
    let due := match s.health.lastProbe.find? (fun e => e.1 == st) with
      | some (_, t) => decide (t + 86400000000000 ≤ s.now)
      | none => true
    if firmwareUp s = false ∨ dbool s 0x7000 8 = false ∨ due = false ∨ s.health.probes.any (fun e => e.1 == st) = true then .next s
    else
      let s1 : State := { s with health := { s.health with lastProbe := mapInsert s.health.lastProbe st s.now } }
      let hot := match stackMax s st with
        | some t => decide (degrees 85 < t)
        | none => false
      match probeFrame s st with
      | some f =>
        if 8 ≤ (s.stack st).testFrames.length + (s.stack st).testEntering.length ∨ s.test.run.isSome ∨ hot = true then .next (bump s1 0x7000 0xB 1)
        else
          let s2 := fillChecker (s1.updStack st (fun x => { zeroFrame x f with testFrames := x.testFrames ++ [f] })) st f
          .next { s2 with health := { s2.health with probes := mapInsert s2.health.probes st { frame := f, since := s.now } } }
      | none => .next (bump s1 0x7000 0xB 1)

/-- A probe ends with the longest hold passed: M in units of 26.63 ms. -/
def endProbe (s : State) (st : Nat) (p : Probe) : State :=
  let s1 := s.updStack st (fun x => leaveTestFrame x p.frame)
  let s2 : State := { s1 with health := { s1.health with probes := s1.health.probes.filter (fun e => e.1 != st) } }
  let m : Rat := (100 * p.best : Nat) / 2663
  let m0 := baseline s 3 st
  let (w, s3) := quotient s2 (m0 - m) (m0 - 2)
  addSample s3 (2 + st) monRetention w (f32Of m)

/-- RETENTION_HOLD_END: a hold has ended and the frame was read; `valid` tells that every word is VALID. -/
def execRetentionHoldEnd (st : Nat) (valid : Bool) (s : State) : Res :=
  if 8 ≤ st then .next s
  else match s.health.probes.find? (fun e => e.1 == st) with
    | none => .next s
    | some (_, p) =>
      if s.now < p.since + 1000000 * p.hold then .next s
      else if valid = false then .next (endProbe s st p)
      else if 1024 ≤ p.hold then .next (endProbe s st { p with best := p.hold })
      else .next { s with health := { s.health with
        probes := mapInsert s.health.probes st { p with best := p.hold, hold := 2 * p.hold, since := s.now } } }

/-! ## Lane eyes (R691, R692) -/

/-- A lane's key; port 8 is the host link. -/
def laneKey (port lane : Nat) : Nat := port * 16 + lane

/-- What a lane's baselines were learnt with. -/
def laneMark (s : State) (port : Nat) : Nat := if port = 8 then dget s 0x2050 2 else dget s (portIdx port) 3

def laneUp (s : State) (port lane : Nat) : Bool :=
  if port = 8 then s.host.up && decide (lane < 16) else decide (port < 8) && decide (lane < 4) && portState s port == portUp

/-- Entries of a lane's eye: index, height, width. -/
def eyeEntry (port lane : Nat) : Nat × Nat × Nat := if port = 8 then (0x7038, lane + 1, lane + 0x11) else (0x7030 + port, lane + 1, lane + 5)

/-- Learning a lane's baselines: the means of its samples over its first 24 hours UP. A sample stands for the time since the one before, for
10 minutes at most. (DESIGN CHOICE, log 110.) -/
def learnLane (s : State) (b : LaneBase) (mark h u : Nat) : LaneBase :=
  let b1 := if b.mark = mark then b else { mark := mark }
  if b1.base.isSome then b1
  else
    let b2 := { b1 with
      heights := b1.heights ++ [h], widths := b1.widths ++ [u], last := s.now
      up := b1.up + (if b1.heights = [] then 0 else min (s.now - b1.last) 600000000000) }
    if 86400000000000 ≤ b2.up then
      { b2 with base := some (f32Of (ratMean (b2.heights.map ratOf)), f32Of (ratMean (b2.widths.map ratOf))), heights := [], widths := [] }
    else b2

/-- One lane's scan. (DESIGN CHOICE, log 110.) -/
def scanLane (s : State) (e : Nat × Nat × Nat × Nat) : State :=
  let (port, lane, h, u) := e
  if laneUp s port lane = false then s
  else
    let (i, a, b) := eyeEntry port lane
    let s1 := dset (dset s i a h) i b u
    let k := laneKey port lane
    { s1 with flash := { s1.flash with lanes := mapInsert s1.flash.lanes k (learnLane s (mapGet {} s.flash.lanes k) (laneMark s port) h u) } }

/-- The wear of a lane's eye as FP32, where it is UP and has baselines (R686). -/
def laneWear (s : State) (e : Nat × Nat × Nat × Nat) : Option Nat × State :=
  let (port, lane, h, u) := e
  let hmin : Rat := if port = 8 then 6 else 8
  let umin : Rat := if port = 8 then 1 / 10 else 12 / 100
  match (mapGet {} s.flash.lanes (laneKey port lane)).base with
  | some (h0, u0) =>
    if laneUp s port lane = false then (none, s)
    else
      let (a, s1) := quotient s (ratOf h0 - ratOf h) (ratOf h0 - hmin)
      let (b, s2) := quotient s1 (ratOf u0 - ratOf u) (ratOf u0 - umin)
      (some (if ratOf a < ratOf b then b else a), s2)
  | none => (none, s)

/-- The sample of a domain from a pass over its lanes; the raw figure is the least eye height. -/
def sampleEyes (s : State) (d : Nat) (es : List (Nat × Nat × Nat × Nat)) : State :=
  let (ws, s1) := es.foldl (fun a e =>
    match laneWear a.2 e with
    | (some w, s) => (a.1 ++ [ratOf w], s)
    | (none, s) => (a.1, s)) (([] : List Rat), s)
  match ratMax ws with
  | some w =>
    let hs := (es.filter (fun e => laneUp s e.1 e.2.1)).map (fun e => -(ratOf e.2.2.1))
    addSample s1 d monEye (f32Of w) (f32Of (-((ratMax hs).getD 0)))
  | none => s1

/-- EYE_SCAN: a pass over lanes: port (8 for the host link), lane, height in mV and width in UI. A lane under PCI Express lane margining is
not among them until the margining ends. -/
def execEyeScan (lanes : List (Nat × Nat × Nat × Nat)) (s : State) : Res :=
  if firmwareUp s = false then .next s
  else
    let s1 := lanes.foldl scanLane s
    .next (sampleEyes (sampleEyes s1 10 (lanes.filter (fun e => e.1 != 8))) 11 (lanes.filter (fun e => e.1 == 8)))

/-- REBASE_LINKS: the baselines and the eye history of domain 10 or 11 are discarded (R692). -/
def rebaseLinks (s : State) (value : Nat) : State :=
  if value ≠ 10 ∧ value ≠ 11 then dictAnswer s 0x04010000
  else
    let k := monKey value monEye
    let s1 : State := { s with
      flash := { s.flash with
        lanes := s.flash.lanes.filter (fun e => (e.1 / 16 == 8) != (value == 11)), points := mapSet [] s.flash.points k [] }
      health := { s.health with samples := mapSet [] s.health.samples k [] } }
    dictAnswer (updateFigures (dset (dset s1 (0x7020 + value) 1 0) (0x7020 + value) 3 0) value) 0

def execRebaseLinks (value : Nat) (s : State) : Res := served s (fun s => rebaseLinks s value)

/-! ## DAILY_POINT (R693, R694) -/

/-- The day's w of a monitor. -/
def dayValue (m : Nat) (ws : List Nat) : Option Nat :=
  if ws = [] then none
  else if m = monRo ∨ m = monEm ∨ m = monEye then some (f32Of (ratMean (ws.map ratOf)))
  else ws.getLast?

/-- A monitor's day ends with its point. -/
def dayMonitor (s : State) (d m : Nat) : State :=
  let k := monKey d m
  let s1 := match dayValue m (mapGet [] s.health.samples k) with
    | some w => { s with flash := { s.flash with points := mapUpd [] s.flash.points k (fun ps => lastN 730 (ps ++ [(s.flash.hours, w)])) } }
    | none => s
  { s1 with health := { s1.health with samples := mapSet [] s1.health.samples k [] } }

/-- DAILY_POINT: a day of operating hours has ended. -/
def execDailyPoint (s : State) : Res :=
  if firmwareUp s = false ∨ s.flash.hours / 24 ≤ s.flash.days then .next s
  else
    let s1 : State := { s with flash := { s.flash with days := s.flash.hours / 24 } }
    .next ((List.range 12).foldl (fun s d => updateFigures ((monitors d).foldl (fun s m => dayMonitor s d m) s) d) s1)

/-! ## Retirement (R236) -/

/-- FRAME_RETIRE_COMPLETE: the oldest migration of a stack ends, once no sequence computes in the rows of its frame and the accesses issued
before it have completed (R236). -/
def execFrameRetireComplete (st : Nat) (s : State) : Res :=
  match (s.stack st).migrating with
  | [] => .next s
  | (F, D) :: rest =>
    if frameComputing s st F || earlyLeft s (inFrames st F D) then .next s else .next (updateFigures (retireFrame s st F D rest) (2 + st))

end Sys2Proof.Machine
end

