-- ==== Sys2Proof/Machine/DictRead.lean ====
section
/-!
DEFINITION. What the entries of the object dictionary read as: those that mirror other state of the device, and those whose home is the
dictionary.
-/

namespace Sys2Proof.Machine

/-- A sensor's entry: its last corrected reading, NaN once it has failed (R614, R617). -/
def sensorF32 (s : State) (i : Nat) : Option Nat :=
  let x := s.sensor i
  if x.failed then some 0x7FC00000 else x.last.map f32Temp

/-- Frames of a stack that fragments name (0x2340 + s .05). -/
def sharedPages (s : State) (st : Nat) : Nat :=
  ((s.svc.frags.flatMap (fun f => f.2.frames)).filter (fun f => f / 2 ^ 37 == st)).eraseDups.length

/-- Scalar entries that mirror other state; none where the entry's home is the dictionary. -/
def mirrorScalar (s : State) (index sub : Nat) : Option (Option Nat) :=
  let w := s.faults.window
  if index = 0x1000 ∧ sub = 0xF then some (some s.dev.code)
  else if index = 0x1100 ∧ sub = 0xF then some (some s.nirnar.sessions.length)
  else if index = 0x1201 ∧ sub = 2 then some (some s.ptp)
  else if index = 0x2021 ∧ 1 ≤ sub then some (some (s.engine (sub - 1)).state.code)
  else if index = 0x2140 ∧ sub = 6 then some (some s.grid.sweeps)
  else if index = 0x2200 ∧ sub = 4 then
    some (some ((List.range 8).foldl (fun v st => if (s.stack st).hotDies = 0 then v else setBit v st) 0))
  else if 0x2210 ≤ index ∧ index < 0x2218 ∧ sub = 5 then some (some (s.stack (index - 0x2210)).allowance)
  else if 0x2210 ≤ index ∧ index < 0x2218 ∧ sub = 6 then some (some (s.stack (index - 0x2210)).stage)
  else if 0x2220 ≤ index ∧ index < 0x2228 ∧ sub = 8 then
    some (some (min ((s.now - (s.stack (index - 0x2220)).whiskStart) / 1000000) (2 ^ 32 - 1)))
  else if 0x2310 ≤ index ∧ index < 0x2318 ∧ sub = 2 then some (some (s.ladle (index - 0x2310)).grant)
  else if 0x2340 ≤ index ∧ index < 0x2348 ∧ sub = 3 then some (some (kvTotal s (index - 0x2340)))
  else if 0x2340 ≤ index ∧ index < 0x2348 ∧ sub = 4 then some (some (kvFreePages s (index - 0x2340)))
  else if 0x2340 ≤ index ∧ index < 0x2348 ∧ sub = 5 then some (some (sharedPages s (index - 0x2340)))
  else if 0x3110 ≤ index ∧ index < 0x3112 ∧ 1 ≤ sub then some (sensorF32 s ((index - 0x3110) * 64 + sub - 1))
  else if 0x3112 ≤ index ∧ index < 0x311A ∧ 1 ≤ sub then some (sensorF32 s (128 + (index - 0x3112) * 66 + sub - 1))
  else if 0x4000 ≤ index ∧ index < 0x5000 ∧ index % 0x40 = 0 ∧ sub = 1 then some (some (s.tenant ((index - 0x4000) / 0x40)).state.code)
  else if 0x4000 ≤ index ∧ index < 0x5000 ∧ index % 0x40 = 0 ∧ sub = 0xA then
    some (some (boolNat (tenantQuiet s ((index - 0x4000) / 0x40))))
  else if index = 0x5000 ∧ sub = 2 then some (some (16384 - (s.reqs.filter (fun e => e.2.state != .free)).length))
  else if index = 0x5002 ∧ 1 ≤ sub then some (some (activeRequests s (sub - 1)))
  else if 0x5110 ≤ index ∧ index < 0x5120 ∧ sub = 1 then some (some (s.slot (index - 0x5110)).state.code)
  else if 0x5110 ≤ index ∧ index < 0x5120 ∧ sub = 7 then some (some (s.slot (index - 0x5110)).layers)
  else if 0x5110 ≤ index ∧ index < 0x5120 ∧ sub = 8 then some (some (s.slot (index - 0x5110)).residentBytes)
  else if 0x5110 ≤ index ∧ index < 0x5120 ∧ sub = 9 then some (some (s.slot (index - 0x5110)).lastStatus)
  else if 0x5140 ≤ index ∧ index < 0x5150 ∧ sub = 4 then some (some (s.slot (index - 0x5140)).endTok)
  else if index = 0x5200 ∧ sub = 2 then some (some s.svc.cutters.length)
  else if index = 0x8000 ∧ sub = 1 then some (some s.faults.summary)
  else if index = 0x8000 ∧ sub = 2 then some (some s.faults.seq)
  else if index = 0x8000 ∧ sub = 3 then some (some s.faults.readUpTo)
  else if index = 0x8000 ∧ sub = 5 then some (some s.faults.queue.length)
  else if index = 0x8000 ∧ sub = 6 then some (some (match w with
    | some w => w.cls
    | none => 0xFF))
  else if index = 0x8000 ∧ sub = 7 then some (some (match w with
    | some w => w.kind * 65536 + w.index
    | none => 0))
  else if index = 0x8002 ∧ sub = 3 then some (some s.faults.activeCore)
  else if index = 0x8002 ∧ sub = 4 then
    some (some (boolNat s.faults.coreA.up + 2 * boolNat s.faults.coreB.up + 4 * boolNat s.faults.coreA.off + 8 * boolNat s.faults.coreB.off))
  else if index = 0x8003 ∧ 1 ≤ sub then some (some (mapGet 0 s.faults.tenantWord (sub - 1)))
  else none

/-- The ring entries of a tenant, the latest 32 (R668). -/
def tenantRing (s : State) (t : Nat) : List FaultEntry := lastN 32 (s.faults.ring.filter (fun e => e.tenant == t))

/-- The chunk bitmap's bytes (0x9002.03). -/
def bitmapBytes (s : State) : List Byte :=
  (List.range (ceilDiv (dget s 0x9000 6) 8)).map (fun i =>
    BitVec.ofNat 8 ((List.range 8).foldl (fun v k => if mapGet false s.flash.bitmap (8 * i + k) then v + 2 ^ k else v) 0))

/-- Byte-valued entries that mirror other state. -/
def mirrorBytes (s : State) (index sub : Nat) : Option (Option (List Byte)) :=
  if 0x5110 ≤ index ∧ index < 0x5120 ∧ sub = 0xA then
    some (if (s.slot (index - 0x5110)).digest = [] then none else some (s.slot (index - 0x5110)).digest)
  else if index = 0x8001 then some (some (s.faults.ring.flatMap FaultEntry.bytes))
  else if index = 0x8005 ∧ 1 ≤ sub then some (some ((tenantRing s (sub - 1)).flatMap FaultEntry.bytes))
  else if index = 0x9002 ∧ sub = 1 then some (some (manifestOf s (targetSet s)))
  else if index = 0x9002 ∧ sub = 3 then some (some (bitmapBytes s))
  else if index = 0x9003 ∧ sub = 2 then some (if inRecoveryMode s then some (recoveryStatus s) else none)
  else if index = 0x9020 ∧ sub = 1 then some (some s.sec.mchain)
  else if index = 0x9020 ∧ sub = 2 then some (some (s.sec.mlog.flatMap (fun e => natLE 8 e.1 ++ natLE 1 e.2.1 ++ natLE 7 0 ++ padTo 64 e.2.2)))
  else if index = 0x9021 ∧ 1 ≤ sub then some (some (blockValue s sub))
  else none

/-- What a scalar entry reads as; none when it has no value yet (R592): a temperature or an eye that nothing has measured. -/
def scalarValue (s : State) (r : DictRow) (index sub : Nat) : Option Nat :=
  match mirrorScalar s index sub with
  | some v => v
  | none =>
    let v := dget s index sub
    if r.source = .unset ∧ r.ty = 9 ∧ v = r.dflt then none else some v

/-- What an entry reads as, byte by byte; none when it has no value yet. -/
def entryBytes (s : State) (r : DictRow) (index sub : Nat) : Option (List Byte) :=
  if typeBytes r.ty ≠ 0 then (scalarValue s r index sub).map (natLE (typeBytes r.ty))
  else match mirrorBytes s index sub with
    | some v => v
    | none =>
      let v := bget s index sub
      if r.source = .unset ∧ v = [] then none else some v

end Sys2Proof.Machine
end

