-- ==== Sys2Proof/Machine/DictCheck.lean ====
section
/-!
DEFINITION. What refuses a dictionary write (R592, R593, R602): the checks of a value by its type and range, and those that a chapter states for
its entries.
-/

namespace Sys2Proof.Machine

/-! ## Abort codes (R602) -/

def abortLength (n : Nat) : Nat := 0x04040000 + min n 0xFFFF
def abortRange : Nat := 0x04010000
def abortAlignment : Nat := 0x04020000
def abortEncoding : Nat := 0x04050000
def abortConflict : Nat := 0x04060000

/-! ## Types (R589) -/

/-- Continuation bytes of a UTF-8 character: as many as its first byte calls for. -/
def utf8Tail (b : Byte) : Option Nat :=
  let v := b.toNat
  if v < 0x80 then some 0 else if 0xC2 ≤ v ∧ v < 0xE0 then some 1 else if 0xE0 ≤ v ∧ v < 0xF0 then some 2
  else if 0xF0 ≤ v ∧ v < 0xF5 then some 3 else none

/-- Whether bytes are UTF-8, with `left` continuation bytes due. -/
def utf8 : Nat → List Byte → Bool
  | left, [] => left == 0
  | 0, b :: bs => match utf8Tail b with
    | some n => utf8 n bs
    | none => false
  | n + 1, b :: bs => b.toNat / 64 == 2 && utf8 n bs

/-- Lengths that a byte-valued entry takes, in bytes: least and greatest; the empty value, where it is the Default, is always among them
(R595). -/
def byteLengths (index sub : Nat) : Nat × Nat :=
  if index = 0x1000 then (0, 32)
  else if index = 0x1100 then (16, 16)
  else if index = 0x1101 ∨ index = 0x9030 then (40, 40)
  else if index = 0x6100 then (0, 16)
  else if index = 0x1210 ∨ index = 0x2320 then (2048, 2048)
  else if index = 0x3002 then (8, 8)
  else if index = 0x7100 then (16, 16)
  else if index = 0x9002 ∧ sub = 1 then (0, 65536)
  else if index = 0x9002 then (4104, 4104)
  else if index = 0x9020 then (32, 32)
  else (0, 0xFFFFFFFF)

/-- Whether a FP32 value is a NaN. -/
def nanF32 (v : Nat) : Bool := decide (v / 2 ^ 23 % 256 = 255) && decide (v % 2 ^ 23 ≠ 0)

/-- A value against its entry's type, range and kind: its abort code, 0 for none (R47, R589). (DEDUCED, log 112.) -/
def valueAbort (r : DictRow) (index sub : Nat) (v : List Byte) : Nat :=
  let n := typeBytes r.ty
  let x := leNat v
  if n ≠ 0 then
    if v.length ≠ n then abortLength n
    else if r.ty = 1 ∧ 1 < x then abortEncoding
    else if r.ty = 9 ∧ nanF32 x then abortEncoding
    else if r.kind = .counter ∧ x ≠ 0 then 0x04030000
    else match r.range with
      | some (lo, hi) => if x < lo ∨ hi < x then abortRange else 0
      | none => 0
  else
    let (lo, hi) := byteLengths index sub
    if v = [] ∧ r.source = .value ∧ dictBytesDefault index sub = [] then 0
    else if v.length < lo then abortLength lo
    else if hi < v.length then abortLength hi
    else if r.ty = 0xE ∧ utf8 0 v = false then abortEncoding
    else 0

/-! ## What chapters state -/

/-- A range wholly in populated stack or stockpot memory. -/
def inMemory (s : State) (a n : Nat) : Bool :=
  match regionOf s a n with
  | some (.stack _) => true
  | some (.pot _) => true
  | _ => false

/-- A range wholly in populated stack memory. -/
def inStack (s : State) (a n : Nat) : Bool :=
  match regionOf s a n with
  | some (.stack _) => true
  | _ => false

/-- Whether every segment a stack range touches is in STREAM mode. -/
def inStream (s : State) (a n : Nat) : Bool :=
  inStack s a n && (List.range 80).all (fun j =>
    !(overlaps a n (a / 2 ^ 37 * 2 ^ 37 + j * 2 ^ 30) (2 ^ 30)) || !(bitOf (s.stack (a / 2 ^ 37)).segMode j))

/-- A base and a size in whole frames; the range is checked where there is one. (DEDUCED, log 114.) -/
def areaAbort (base size : Nat) (none_ ok clear : Bool) : Nat :=
  if base % frameBytes ≠ 0 ∨ size % frameBytes ≠ 0 then abortAlignment
  else if none_ then 0
  else if !ok then abortRange
  else if !clear then abortConflict
  else 0

/-- Whether two runs of numbers meet. -/
def runsMeet (a n b m : Nat) : Bool := overlaps a n b m

/-- A tenant's allotment with one field changed: .03 RingFirst, .04 RingCount, .05 IrqFirst, .06 IrqCount (R462). -/
def allotmentAbort (s : State) (t sub v : Nat) : Nat :=
  let f (u i : Nat) : Nat := if u = t ∧ i = sub then v else dget s (0x4000 + 0x40 * u) i
  let others (i j : Nat) : Bool := (List.range 64).any (fun u => u != t && runsMeet (f t i) (f t j) (f u i) (f u j))
  if t = 0 ∧ s.dev ≠ .config ∧ s.dev ≠ .test then 0x02010000 + s.dev.code
  else if t ≠ 0 ∧ (s.tenant t).state ≠ .unassigned then 0x02010000 + (s.tenant t).state.code
  else if 1024 < f t 4 ∨ 8192 < f t 3 + f t 4 ∨ 2048 < f t 5 + f t 6 ∨ (t = 0 ∧ f t 6 < 16) then abortRange
  else if others 3 4 || others 5 6 then abortConflict
  else 0

/-- SaveSize that a context needs: the image of the larger die in frames over its four stacks (R484). -/
def imageNeed (s : State) (c : Nat) : Nat := frameBytes * ceilDiv (ceilDiv (max (dieImage s c false) (dieImage s c true)) frameBytes) 4

def contextsEnabled (s : State) : Bool := (List.range 63).any (fun i => dbool s (0x4000 + 0x40 * (i + 1)) 9)

/-- Tenant entries (R462, R470, R484). -/
def tenantAbort (s : State) (t index sub v : Nat) : Nat :=
  if index % 0x40 = 0 ∧ 3 ≤ sub ∧ sub ≤ 6 then allotmentAbort s t sub v
  else if index % 0x40 = 0 ∧ sub = 9 ∧ v ≠ 0 then
    if t = 0 then abortRange else if dget s (0x2080 + t) 0x12 < imageNeed s t then abortConflict else 0
  else if index % 0x40 = 1 then apertureCheck s t v
  else 0

/-- Context entries: extents (R481) and the save area (R484). (DEDUCED, log 114.) -/
def contextAbort (s : State) (c sub v : Nat) : Nat :=
  let area := dget s 0x2030 1
  if sub ≤ 0x10 then
    let off := v / 2 ^ 32
    let len := v % 2 ^ 32
    if len = 0 then 0
    else if off % 65536 ≠ 0 ∨ len % 65536 ≠ 0 then abortAlignment
    else if off < area ∨ potBytes < off + len then abortRange
    else 0
  else
    let off := if sub = 0x11 then v else dget s (0x2080 + c) 0x11
    let n := if sub = 0x12 then v else dget s (0x2080 + c) 0x12
    let all (p : Nat → Bool) : Bool := (List.range 8).all (fun st => p (st * 2 ^ 37 + off))
    areaAbort off n (n == 0) (decide (off + n ≤ 2 ^ 37) && all (fun a => inStream s a n)) (all (fun a => !(mappedByTenant s a n)))

/-- Segment designations (R394). -/
def designateAbort (s : State) (st sub v : Nat) : Nat :=
  let old := kvSegments s st
  let new := if sub = 1 then old / 2 ^ 64 * 2 ^ 64 + v else old % 2 ^ 64 + v * 2 ^ 64
  let held (j : Nat) : Bool := s.svc.refs.any (fun e => e.1 / 2 ^ 37 == st && e.1 % 2 ^ 37 / 2 ^ 30 == j)
  if (List.range 80).any (fun j =>
      (bitOf new j && !(bitOf old j) && !(bitOf (s.stack st).segMode j)) || (bitOf old j && !(bitOf new j) && held j)) ||
      decide (2 ^ 80 ≤ new) then abortConflict
  else 0

/-- Segment modes with one word written (R116); bits of unpopulated segments are ignored. -/
def newModes (s : State) (st sub v : Nat) : Nat :=
  let x := s.stack st
  populatedBits x (if sub = 1 then x.segMode / 2 ^ 64 * 2 ^ 64 + v else x.segMode % 2 ^ 64 + v * 2 ^ 64)

def modeAbort (s : State) (st sub v : Nat) : Nat :=
  if (changedSegments (s.stack st) (newModes s st sub v)).any (segmentBarred s st) then abortConflict else 0

/-- Whether any window is admitted (R425). -/
def windowsAdmitted (s : State) : Bool := s.reqs.any (fun e => e.2.live || (e.2.shadow && e.2.state != .free))

/-- A slot's tenant mask (R478). -/
def maskAbort (s : State) (m v : Nat) : Nat :=
  if s.reqs.any (fun e => e.2.state != .free && e.2.uses m && !(bitOf v e.2.tenant)) then abortConflict else 0

/-! ## Authorised keys (R604) -/

/-- An authorised key: its public key, authority, KEYID and whether it is VALID (R603). -/
def keyAuthority (k : List Byte) : Nat := u8 k 32
def keyId (k : List Byte) : Nat := u16 k 33
def keyValid (k : List Byte) : Bool := k.length == 40 && bitOf (u8 k 35) 0

def keyAbort (s : State) (sub : Nat) (v : List Byte) : Nat :=
  let key (i : Nat) : List Byte := if i = sub then v else bget s 0x1101 i
  let subs := (List.range 32).map (· + 1)
  if v ≠ [] ∧ (keyAuthority v = 0 ∨ 3 < keyAuthority v) then abortConflict
  else if v ≠ [] ∧ subs.any (fun i => i != sub && keyValid (key i) && keyId (key i) == keyId v) then abortConflict
  else if subs.all (fun i => !(keyValid (key i) && keyAuthority (key i) == 3)) then abortConflict
  else 0

/-! ## The check of a write -/

/-- Whether an address lies in a region of the device's address space (R281). -/
def inRegion (s : State) (a : Nat) : Bool :=
  match regionAt s a with
  | .nowhere => false
  | _ => true

/-- Whether a scalar's value names a device address (R753): an image's does where its space is the device (R474). -/
def namesAddress (s : State) (index sub : Nat) : Bool :=
  (index == 0x2100 && sub == 4) || (index == 0x2330 && sub == 1) || (index == 0x5100 && sub == 1) || (index == 0x5200 && sub == 1) ||
    (index == 0x7100 && sub == 0xF) || (decide (0x5110 ≤ index) && decide (index < 0x5120) && sub == 4 && dget s index 3 == 0)

/-- A scalar write against what its chapter states: the abort code, 0 for none. (DEDUCED, log 112.) -/
def scalarRule (s : State) (index sub v : Nat) : Nat :=
  let pair (other : Nat) (first : Bool) : Nat × Nat := if first then (v, other) else (other, v)
  if index = 0x2100 ∧ (sub = 4 ∨ sub = 5) then
    let (b, n) := pair (dget s 0x2100 (9 - sub)) (sub == 4)
    areaAbort b n (b == 0 || n == 0) (inMemory s b n) true
  else if 0x2210 ≤ index ∧ index < 0x2218 ∧ (sub = 1 ∨ sub = 2) then modeAbort s (index - 0x2210) sub v
  else if index = 0x2330 ∧ (sub = 1 ∨ sub = 2) then
    let (b, n) := pair (dget s 0x2330 (3 - sub)) (sub == 1)
    if windowsAdmitted s then abortConflict else areaAbort b n (n == 0) (inMemory s b n) (!(mappedByTenant s b n))
  else if 0x2340 ≤ index ∧ index < 0x2348 then designateAbort s (index - 0x2340) sub v
  else if index = 0x2030 ∧ sub = 1 then
    if v % 65536 ≠ 0 then abortAlignment else if potBytes < v then abortRange else if contextsEnabled s then abortConflict else 0
  else if 0x2080 ≤ index ∧ index < 0x20C0 then contextAbort s (index - 0x2080) sub v
  else if 0x4000 ≤ index ∧ index < 0x5000 then tenantAbort s ((index - 0x4000) / 0x40) index sub v
  else if index = 0x5100 ∧ (sub = 1 ∨ sub = 2) then
    let (b, n) := pair (dget s 0x5100 (3 - sub)) (sub == 1)
    areaAbort b n (n == 0) (inRegion s (b + n - 1)) (!(mappedByTenant s b n))
  else if 0x5110 ≤ index ∧ index < 0x5120 ∧ sub = 5 then maskAbort s (index - 0x5110) v
  else if index = 0x5200 ∧ sub = 1 then
    if s.svc.cutters ≠ [] then abortConflict else areaAbort v 0 (v == 0) (inStack s v (2 ^ 28)) (!(mappedByTenant s v (2 ^ 28)))
  else if index = 0x6100 ∧ sub = 1 then tandemEnableAbort s v
  else if index = 0x3000 ∧ sub = 1 then (if dget s 0x3000 2 < v then abortRange else 0)
  else if index = 0x3000 ∧ sub = 2 then (if v < dget s 0x3000 1 then abortRange else 0)
  else if index = 0x3000 ∧ sub = 3 then (if v % 10 ≠ 0 then abortRange else 0)
  else if index = 0x7000 ∧ sub = 4 then (if dget s 0x7000 5 ≤ v then abortRange else 0)
  else if index = 0x7000 ∧ sub = 5 then (if v ≤ dget s 0x7000 4 then abortRange else 0)
  else if index = 0x7100 ∧ (sub = 0xF ∨ sub = 0x10) then
    let (b, n) := pair (dget s 0x7100 (0x1F - sub)) (sub == 0xF)
    if b % frameBytes ≠ 0 then abortRange
    else if n = 0 then 0
    else if n < 4 * 2 ^ 20 ∨ inStream s b n = false ∨ mappedByTenant s b n = true then abortRange
    else 0
  else 0

/-- The same, an address in no region refused first (R753). -/
def scalarAbort (s : State) (index sub v : Nat) : Nat :=
  if namesAddress s index sub = true ∧ inRegion s v = false then abortRange else scalarRule s index sub v

/-- A byte-valued write against what its chapter states. -/
def bytesAbort (s : State) (index sub : Nat) (v : List Byte) : Nat :=
  if index = 0x1101 then keyAbort s sub v
  else if index = 0x3002 ∧ v ≠ [] then (if 127 < u8 v 0 ∨ 1 < u8 v 2 then abortEncoding else 0)
  else if index = 0x9030 then
    if (List.range 16).any (fun m => (s.slot m).state == .loading) then 0x02010001
    else 0
  else 0

/-- Step 1 of R594: the check of a value. -/
def writeAbort (s : State) (r : DictRow) (index sub : Nat) (v : List Byte) : Nat :=
  let c := valueAbort r index sub v
  if c ≠ 0 then c else if typeBytes r.ty ≠ 0 then scalarAbort s index sub (leNat v) else bytesAbort s index sub v

end Sys2Proof.Machine
end

