-- ==== Sys2Proof/Machine/DictApply.lean ====
section
/-!
DEFINITION. What dictionary writes do (R593 to R595): the effect of each entry's value, the entries that are commands, and the one queue in
which the active service core performs them.
-/

namespace Sys2Proof.Machine

/-! ## Effects of values (R594 step 4) -/

/-- What the journal holds of a scalar: bits of unpopulated segments are ignored (R116). -/
def journalScalar (s : State) (index sub v : Nat) : Nat :=
  if 0x2210 ≤ index ∧ index < 0x2218 then
    let new := newModes s (index - 0x2210) sub v
    if sub = 1 then new % 2 ^ 64 else new / 2 ^ 64
  else v

/-- A stored value enters the journal in boot flash (R594 step 2). (DEDUCED, log 129.) -/
def journalValue (s : State) (r : DictRow) (index sub : Nat) (v : List Byte) : State :=
  { s with flash :=
    if typeBytes r.ty ≠ 0 then { s.flash with journal := mapInsert s.flash.journal (dk index sub) (journalScalar s index sub (leNat v)) }
    else { s.flash with journalBytes := mapInsert s.flash.journalBytes (dk index sub) v } }

/-- A write of ContextEnable: an accepted enable discards the save area (R484). -/
def enableContext (s : State) (t v : Nat) : State :=
  let s1 := dset s (0x4000 + 0x40 * t) 9 v
  if v = 0 then s1
  else
    let s2 := (saveAreas s1 t).foldl (fun s a => (discardRange s a.1 a.2).next) s1
    { s2 with ctx := { s2.ctx with saved := mapSet {} s2.ctx.saved t {} } }

/-- A write of PortEnable: FALSE holds the port DISABLED; TRUE lets it train (R509). -/
def enablePort (s : State) (p v : Nat) : State :=
  let s1 := dset s (portIdx p) 2 v
  if v = 0 then setPortState s1 p portDisabled
  else if portState s p = portDisabled then setPortState s1 p portDown
  else s1

/-- A function table is written; slots issued before the next step boundary keep the old one (R201). (DEDUCED, log 113.) -/
def writeTable (s : State) (sub : Nat) (v : List Byte) : State :=
  let old := tableOf s sub
  let s1 := bset s 0x2320 sub v
  { s1 with svc := { s1.svc with oldTables := mapInsert s1.svc.oldTables sub old } }

/-- A write of CadencePeriod takes effect at the next boundary, which stays where it is (R491). (DEDUCED, log 113.) -/
def writePeriod (s : State) (v : Nat) : State :=
  let before := predicted s
  let s1 := dset s 0x1200 2 v
  if cadSource s = 1 then s1 else { s1 with cad := { s1.cad with moved := some before } }

/-- The new modes of a stack are asked for; they apply when SEG_MODE_CHANGE_DONE comes (R117). -/
def askModes (s : State) (st sub v : Nat) : State :=
  let new := newModes s st sub v
  if changedSegments (s.stack st) new = [] then s
  else
    let s1 := s.updStack st (fun x => { x with modeNext := some new })
    markEarly s1 (inChanging s1 st)

/-- A scalar takes its value, with what follows from it. -/
def applyScalar (s : State) (index sub v : Nat) : State :=
  if index = 0x1200 ∧ sub = 1 then changeSource s v
  else if index = 0x1200 ∧ sub = 2 then writePeriod s v
  else if index = 0x1200 ∧ sub = 3 then rephase (dset s 0x1200 3 v) (predicted s)
  else if 0x2210 ≤ index ∧ index < 0x2218 ∧ (sub = 1 ∨ sub = 2) then askModes s (index - 0x2210) sub v
  else if 0x4000 ≤ index ∧ index < 0x5000 ∧ index % 0x40 = 0 ∧ sub = 9 then enableContext s ((index - 0x4000) / 0x40) v
  else if 0x6010 ≤ index ∧ index < 0x6016 ∧ sub = 2 then enablePort s (index - 0x6010) v
  else if 0x6110 ≤ index ∧ index < 0x6112 ∧ sub = 2 then enablePort s (6 + (index - 0x6110)) v
  else if index = 0x6100 ∧ sub = 1 then applyTandemEnable s v
  else if index = 0x8000 ∧ sub = 3 then noteChange { s with faults := { s.faults with readUpTo := v } } (dk 0x8000 3)
  else if index = 0x8003 then
    let t := sub - 1
    let old := mapGet 0 s.faults.tenantWord t
    noteChange { s with faults := { s.faults with tenantWord := mapSet 0 s.faults.tenantWord t (old - (old &&& v)) } } (dk 0x8003 sub)
  else if index = 0x3000 ∧ sub = 0xD then clearAlert s (v - (v &&& 12))
  else if index = 0x3000 ∧ sub = 0xE then alertPin (dset s 0x3000 0xE v)
  else dset s index sub v

/-- A byte value takes effect. -/
def applyBytes (s : State) (index sub : Nat) (v : List Byte) : State :=
  if index = 0x2320 then writeTable s sub v
  else if index = 0x9030 then measureKeys (bset s 0x9030 sub v)
  else bset s index sub v

def applyValue (s : State) (r : DictRow) (index sub : Nat) (v : List Byte) : State :=
  if typeBytes r.ty ≠ 0 then applyScalar s index sub (leNat v) else applyBytes s index sub v

/-! ## Entries that are commands -/

/-- The answer that a command's meaning gave, taken from what left the device. -/
def takeAnswer (old : State) (r : Res) : Nat × State :=
  match r with
  | .next t =>
    let new := t.out.drop old.out.length
    let isAnswer : Out → Bool := fun o => match o with
      | .dictAnswer _ _ => true
      | _ => false
    let code := match new.find? isAnswer with
      | some (.dictAnswer a _) => a
      | _ => 0
    (code, { t with out := t.out.take old.out.length ++ new.eraseP isAnswer })
  | _ => (abortRange, old)

/-- A DeviceCommand other than RESET (R626). -/
def deviceCommand (s : State) (v : Nat) : Option Res :=
  if v = 2 then some (execDeviceEnterTest s) else if v = 3 then some (execLeaveTest s)
  else if v = 4 then some (execDeviceStartService s) else if v = 5 then some (execStopService s) else none

/-- A TenantCommand (R463). -/
def tenantCommand (s : State) (t v : Nat) : Option Res :=
  if v = 1 then some (.next (assignTenant s t)) else if v = 2 then some (.next (quiesceTenant s t))
  else if v = 3 then some (.next (resumeTenant s t)) else if v = 4 then some (.next (resetTenant s t))
  else if v = 5 then some (.next (unassignCmd s t)) else none

/-- The meaning of a write to a command entry; `host` is what a read of host memory returns, `ok` whether the flash takes a chunk. None where the
value is no command of the entry. -/
def commandOf (s : State) (index sub v : Nat) (bytes host : List Byte) (ok : Bool) : Option Res :=
  if index = 0x1201 then some (execPtpTimeWrite v s)
  else if index = 0x1210 then (if v < 2 then some (execScheduleActivate v s) else none)
  else if index = 0x2000 then deviceCommand s v
  else if 0x4000 ≤ index ∧ index < 0x5000 then tenantCommand s ((index - 0x4000) / 0x40) v
  else if 0x5110 ≤ index ∧ index < 0x5120 then
    if v = 1 then some (execSlotLoad (index - 0x5110) host s) else if v = 2 then some (execSlotUnload (index - 0x5110) s) else none
  else if 0x6010 ≤ index ∧ index < 0x6016 then some (execQuarantineRelease (index - 0x6010) (v != 0) s)
  else if 0x6110 ≤ index ∧ index < 0x6112 then some (execQuarantineRelease (6 + (index - 0x6110)) (v != 0) s)
  else if index = 0x6100 then (if v = 1 then some (execWithdraw s) else if v = 2 then some (execRejoin s) else none)
  else if index = 0x7000 then (if v = 10 ∨ v = 11 then some (.next (rebaseLinks s v)) else none)
  else if index = 0x7100 then some (execRunRequest bytes s)
  else if index = 0x8000 ∧ sub = 1 then some (.next (clearSummary s v))
  else if index = 0x8000 then some (.next (clearRing s (v != 0)))
  else if index = 0x9000 then (if v = 1 then some (.next (activate s)) else if v = 2 then some (.next (cancelUpdate s)) else none)
  else if index = 0x9002 ∧ sub = 1 then some (.next (stageManifest s bytes))
  else if index = 0x9002 then some (.next (writeChunk s bytes ok))
  else if index = 0x9010 then some (.next (confirmSet s (v != 0)))
  else none

/-- Whether an entry is a command: it is write-only, or its writing does more than set a value. -/
def isCommand (r : DictRow) (index sub : Nat) : Bool :=
  r.rd == 0 || (index == 0x1201 && sub == 2) || (index == 0x8000 && sub == 1) || (index == 0x9002 && sub == 1)

/-- A write to a command entry, checked and performed: its abort code. -/
def performCommand (s : State) (r : DictRow) (index sub : Nat) (v host : List Byte) (ok : Bool) : Nat × State :=
  let c := valueAbort r index sub v
  if c ≠ 0 then (c, s)
  else match commandOf s index sub (leNat v) v host ok with
    | some r => takeAnswer s r
    | none => (abortRange, s)

/-! ## Answers -/

/-- A Nirnar frame of a session: numbered and tagged under its key (R579, R580, R582). -/
def sendFrame (s : State) (x : Session) (op trans : Nat) (body : List Byte) : State :=
  let n := x.txSeq + 1
  let head := natLE 2 0x524E ++ natLE 1 1 ++ natLE 1 op ++ natLE 4 x.number ++ natLE 8 n ++ natLE 4 trans ++ natLE 2 body.length ++
    natLE 2 1 ++ natLE 8 0
  let tag := (Config.hmacSha512 x.txKey (head ++ body)).take 16
  let s1 : State := { s with nirnar := { s.nirnar with
    sessions := s.nirnar.sessions.map (fun y => if y.number = x.number then { y with txSeq := n } else y) } }
  emitLan s1 (.nirnar x.number op n trans (body ++ tag))

def sessionOf (s : State) (number : Nat) : Option Session := s.nirnar.sessions.find? (fun x => x.number == number)

def updNirnar (s : State) (number : Nat) (f : Session → Session) : State :=
  { s with nirnar := { s.nirnar with sessions := s.nirnar.sessions.map (fun x => if x.number = number then f x else x) } }

/-- The ABORT body of an entry and a code (R581). -/
def abortBody (index sub code : Nat) : List Byte := natLE 2 index ++ natLE 1 sub ++ natLE 1 0 ++ natLE 4 code

/-- An answer to a transaction of a session, kept with those of the last 16 (R583); an ABORT is counted (R584). -/
def answerFrame (s : State) (number op trans : Nat) (body : List Byte) : State :=
  match sessionOf s number with
  | none => s
  | some x =>
    let s1 := updNirnar s number (fun x => { x with
      kept := lastN 16 (x.kept ++ [(trans, op, body)]), open_ := x.open_.filter (· != trans) })
    let s2 := if op = 0x20 then bump s1 0x1100 0x14 1 else s1
    sendFrame s2 x op trans body

/-- A session ends: its subscriptions and nonce go with it (R587). -/
def endSession (s : State) (number : Nat) : State :=
  { s with
    subs := s.subs.filter (fun u => u.session != number)
    sec := { s.sec with nonces := mapSet [] s.sec.nonces number [] }
    nirnar := { s.nirnar with sessions := s.nirnar.sessions.filter (fun x => x.number != number) } }

/-- The end of a mailbox command (R599, R600). -/
def finishBox (s : State) (fn type abort total : Nat) : State :=
  let b := mapGet {} s.host.boxes fn
  if b.busy then
    { s with host := { s.host with boxes := mapSet {} s.host.boxes fn { b with busy := false, done := true, type := type, abort := abort, total := total } } }
  else s

/-- A write's answer (R594 step 5). -/
def answerWrite (s : State) (j : DictJob) (abort : Nat) : State :=
  let index := j.key / 256
  let sub := j.key % 256
  match j.asker with
  | .direct => dictAnswer s abort
  | .mailbox fn =>
    let ty := match dictRow index sub with
      | some r => r.ty
      | none => 0
    finishBox s fn ty abort j.value.length
  | .session n tid =>
    if abort = 0 then answerFrame s n 0x13 tid (natLE 2 index ++ natLE 1 sub ++ natLE 1 0 ++ natLE 8 j.stamp)
    else answerFrame s n 0x20 tid (abortBody index sub abort)

/-! ## The queue of writes (R593, R594) -/

/-- Whether R531 mirrors an entry. -/
def isMirrored (index : Nat) : Bool :=
  !((0x1000 ≤ index && index ≤ 0x11FF) || (0x3100 ≤ index && index ≤ 0x31FF) || (0x6000 ≤ index && index ≤ 0x61FF) ||
    (0x8000 ≤ index && index ≤ 0x80FF) || (0x9000 ≤ index && index ≤ 0x90FF))

/-- The sessions that a write ends once it is answered: those of a key that is written or cleared, and those on a changed address (R604). -/
def sessionsEnded (s : State) (index sub : Nat) (v : List Byte) : List Nat :=
  let which (p : Session → Bool) : List Nat := (s.nirnar.sessions.filter p).map (·.number)
  if index = 0x1101 then
    let old := bget s 0x1101 sub
    if keyValid old then which (fun x => x.keyId == keyId old) else []
  else if index = 0x1100 ∧ sub = 3 ∧ leNat v ≠ dget s 0x1100 3 then which (fun x => x.net == 1)
  else if index = 0x1100 ∧ sub = 6 ∧ v ≠ bget s 0x1100 6 then which (fun x => x.net == 2)
  else []

/-- The first write of the queue has been performed: it is answered and leaves, and what waits for the answer happens. -/
def finishJob (s : State) (j : DictJob) (abort : Nat) : State :=
  let s1 := answerWrite { s with nirnar := { s.nirnar with jobs := s.nirnar.jobs.drop 1 } } j abort
  let s2 := j.ends.foldl endSession s1
  if j.key = dk 0x2000 1 ∧ j.value = [1] ∧ abort = 0 then resetAfterWithdraw s2 1 else s2

def setHead (s : State) (j : DictJob) : State :=
  { s with nirnar := { s.nirnar with jobs := match s.nirnar.jobs with
      | [] => []
      | _ :: js => j :: js } }

/-- A value takes effect and is answered with a code; a change of segment modes is answered when it is done (R117). -/
def effectJob (s : State) (j : DictJob) (code : Nat) : State :=
  let index := j.key / 256
  let sub := j.key % 256
  match dictRow index sub with
  | none => finishJob s j code
  | some r =>
    let ends := sessionsEnded s index sub j.value
    let s1 := applyValue s r index sub j.value
    let j1 : DictJob := { j with abort := code, ends := ends }
    if 0x2210 ≤ index ∧ index < 0x2218 ∧ ((s1.stack (index - 0x2210)).modeNext).isSome = true then
      setHead s1 { j1 with stage := .effect, since := s.now }
    else finishJob s1 j1 code

/-- The write of QuoteNonce is the asker's own (R705). -/
def writeNonce (s : State) (j : DictJob) : Nat × State :=
  match j.asker with
  | .direct => (0x06050000, s)
  | .mailbox fn => if fn = 0 then (0, { s with sec := { s.sec with nonces := mapSet [] s.sec.nonces (2 ^ 32) j.value } }) else (0x06050000, s)
  | .session n _ => (0, { s with sec := { s.sec with nonces := mapSet [] s.sec.nonces n j.value } })

/-- A value without the bits that its layout reserves: they are ignored and read as 0 (R9): of an authorised key (R603), a regulator rail
(R607), a slot signing key (R724) and an aperture (R469). -/
def clearReserved (index : Nat) (v : List Byte) : List Byte :=
  if index = 0x1101 ∧ v.length = 40 then v.take 35 ++ natLE 1 (u8 v 35 % 2) ++ List.replicate 4 0
  else if index = 0x3002 ∧ v.length = 8 then v.take 3 ++ List.replicate 5 0
  else if index = 0x9030 ∧ v.length = 40 then v.take 32 ++ natLE 1 (u8 v 32 % 2) ++ List.replicate 7 0
  else if 0x4000 ≤ index ∧ index < 0x5000 ∧ index % 0x40 = 1 ∧ v.length = 8 then natLE 8 (u64 v 0 / 4096 * 4096)
  else v

/-- The first write of the queue is begun: a VOLATILE entry's is performed and answered at once, a STORED one's goes to the journal. -/
def startJob (s : State) (j0 : DictJob) : State :=
  let j : DictJob := { j0 with stamp := s.ptp, since := s.now, value := clearReserved (j0.key / 256) j0.value }
  let index := j.key / 256
  let sub := j.key % 256
  match dictRow index sub with
  | none => finishJob s j (if dictHasIndex index then 0x05020000 else 0x05010000)
  | some r =>
    if r.wr = 0 then finishJob s j 0x05030000
    else if j.key = dk 0x2000 1 ∧ j.value = [1] then
      if s.dev = .off ∨ s.dev = .reset ∨ s.dev = .thermalHold then finishJob (cmdState s) j (0x02010000 + s.dev.code) else finishJob s j 0
    else if index = 0x9020 then
      let c := valueAbort r index sub j.value
      if c ≠ 0 then finishJob s j c
      else
        let (c1, s1) := writeNonce s j
        finishJob s1 j c1
    else if isCommand r index sub then
      let (c, s1) := performCommand s r index sub j.value j.host j.ok
      finishJob s1 j c
    else
      let c := writeAbort s r index sub j.value
      if c ≠ 0 then finishJob (if c / 65536 = 0x0201 then cmdState s else s) j c
      else if r.stored then setHead s { j with stage := .journal }
      else effectJob s j 0

/-- Writes are performed in order until one waits or none is left. (DEDUCED, log 111.) -/
def pumpJobs : Nat → State → State
  | 0, s => s
  | n + 1, s =>
    match s.nirnar.jobs with
    | [] => s
    | j :: _ => if j.stage = .queued then pumpJobs n (startJob s j) else s

/-- A write is accepted: it takes its place in the queue. (DEDUCED, log 111.) -/
def submitWrite (s : State) (j : DictJob) : State :=
  pumpJobs (s.nirnar.jobs.length + 1) { s with nirnar := { s.nirnar with jobs := s.nirnar.jobs ++ [j] } }

/-- The queue goes on after its first write has ended. -/
def nextJob (s : State) : State := pumpJobs s.nirnar.jobs.length s

/-- A write as a command of its own, served from TEST on (R601). -/
def writeDirect (s : State) (index sub : Nat) (v : List Byte) : Res :=
  served s (fun s => submitWrite s { asker := .direct, key := dk index sub, value := v })

/-! ## The rows of the queue -/

/-- DICT_WRITE: a write of an entry without behaviour of its own. -/
def execDictWrite (index sub : Nat) (value : List Byte) (s : State) : Res :=
  writeDirect s (index % 65536) (sub % 256) value

/-- APERTURE_WRITE: aperture `n` of a tenant (R469, R470). -/
def execApertureWrite (tenant n value : Nat) (s : State) : Res :=
  if 64 ≤ tenant then .next s else writeDirect s (0x4001 + 0x40 * tenant) (n % 256) (natLE 8 value)

/-- TANDEM_ENABLE_WRITE (R529). -/
def execTandemEnableWrite (value : Nat) (s : State) : Res := writeDirect s 0x6100 1 (natLE 1 value)

/-- SLOT_SIGNING_KEY_WRITE: key `n` of the slot signing set (R724). -/
def execSlotSigningKeyWrite (n : Nat) (key : List Byte) (s : State) : Res :=
  writeDirect s 0x9030 (n % 256) key

/-- SEG_MODE_CHANGE: a write of SegModeLow or SegModeHigh (R116, R117). -/
def execSegModeChange (st : Nat) (high : Bool) (value : Nat) (s : State) : Res :=
  if 8 ≤ st then .next s
  else writeDirect s (0x2210 + st) (if high then 2 else 1) (if high then natLE 2 value else natLE 8 value)

/-- SEG_MODE_CHANGE_DONE: once the accesses issued before have completed, the valid bits of the changing segments are cleared, the
new modes apply, the held accesses are released and the dictionary write completes (R117). -/
def execSegModeChangeDone (st : Nat) (s : State) : Res :=
  if 8 ≤ st ∨ earlyLeft s (inChanging s st) = true ∨ modeComputing s st = true then .next s
  else
    let s1 := applyNewModes s st
    match s1.nirnar.jobs with
    | j :: _ =>
      if j.stage = .effect ∧ j.key / 256 = 0x2210 + st then .next (nextJob (finishJob s1 j j.abort)) else .next s1
    | [] => .next s1

/-- JOURNAL_WRITE_DONE: the append of the first write ends. When it fails the old value stays; otherwise the entry is mirrored where R531 says
so, or takes effect. (DEDUCED, log 129.) -/
def execJournalWriteDone (ok : Bool) (s : State) : Res :=
  match s.nirnar.jobs with
  | j :: _ =>
    if j.stage ≠ .journal then .next s
    else if !ok then .next (nextJob (finishJob s j 0x03010000))
    else
      let index := j.key / 256
      let s1 := match dictRow index (j.key % 256) with
        | some r => journalValue s r index (j.key % 256) j.value
        | none => s
      if isMirrored index ∧ mirroring s then
        let s2 := mirror { s1 with tandem := { s1.tandem with stamps := mapSet 0 s1.tandem.stamps j.key j.stamp } } 6 0 (j.value.length + 32)
          [index, j.key % 256, j.stamp] (j.value ++ padTo 16 (bget s 0x1000 5))
        .next (setHead s2 { j with stage := .mirror, mirrorSeq := s2.tandem.txSeq, since := s.now })
      else .next (nextJob (effectJob s1 j 0))
  | [] => .next s

/-- MIRROR_TIMEOUT: the twin has not acknowledged within 10 ms; the value is applied and stored here (R594). -/
def execMirrorTimeout (s : State) : Res :=
  match s.nirnar.jobs with
  | j :: _ => if j.stage = .mirror ∧ j.since + 10000000 ≤ s.now then .next (nextJob (effectJob s j 0x03020000)) else .next s
  | [] => .next s

/-- The effect of MIRROR_DICT: a mirrored entry's value with its stamp; a later stamp wins, and it is stored here too (R531). -/
def takeMirrorDict (seq index sub stamp : Nat) (value : List Byte) (s : State) : State :=
  match dictRow index sub with
  | none => ackMirror s seq []
  | some r =>
    if r.stored ∧ isMirrored index ∧ stampWins s (dk index sub) stamp = true ∧ writeAbort s r index sub value = 0 then
      let s1 : State := { s with tandem := { s.tandem with stamps := mapSet 0 s.tandem.stamps (dk index sub) stamp } }
      ackMirror (applyValue (journalValue s1 r index sub value) r index sub value) seq []
    else ackMirror s seq []

def execMirrorDict (seq index sub stamp : Nat) (value : List Byte) (s : State) : Res :=
  withMirror s seq (takeMirrorDict seq index sub stamp value)

/-! ## Acknowledgments and loss of the twin (R532 to R536) -/

/-- The longest wait of a commit (0x6100.07). -/
def noteWait (s : State) (ns : Nat) : State :=
  let n := min ns (2 ^ 32 - 1)
  if dget s 0x6100 7 < n then dset s 0x6100 7 n else s

/-- The commits whose acknowledgment has come go on (R435 step 6). -/
def endWaits (s : State) (seq : Nat) : State :=
  (List.range 16).foldl (fun s m =>
    let st := stepAt s m
    if stepBusy s m ∧ st.phase = .acking ∧ st.waitSeq ≤ seq then finishCommit (noteWait s (s.now - st.since)) m else s) s

/-- The mirrored write whose acknowledgment has come takes effect. -/
def endMirror (s : State) (seq : Nat) : State :=
  match s.nirnar.jobs with
  | j :: _ => if j.stage = .mirror ∧ j.mirrorSeq ≤ seq then nextJob (effectJob s j 0) else s
  | [] => s

/-- The requests of this device take the twin's marks; the windows of admitted ones are caught up, and their SUBMITs complete where
they waited for the entry number (R532). -/
def takeMarks (s : State) (marks : List (Nat × Bool)) (mapped : List (Nat × Nat)) : State :=
  let own (k : Nat) : Bool := (s.req k).state != .free && !(s.req k).shadow
  let s1 := marks.foldl (fun s m => if own m.1 then s.updReq m.1 (fun r => { r with isProtected := m.2 }) else s) s
  mapped.foldl (fun s m => if own m.1 then answerSubmit (catchUp s m.1 m.2) m.1 else s) s1

/-- MIRROR_ACK: the twin's acknowledgment of the stream up to `seq`: requests it marks PROTECTED or UNPROTECTED (R533), and how far the
windows of admitted ones are mapped; the rest of those is sent as CATCHUP (R532). -/
def execMirrorAck (seq : Nat) (marks : List (Nat × Bool)) (mapped : List (Nat × Nat)) (s : State) : Res :=
  if mirroring s = false ∨ s.tandem.txSeq < seq then .next s
  else .next (settleActive (endMirror (endWaits (takeMarks s marks mapped) seq) seq))

/-- TANDEM_LOST: both tandem links down, no heartbeat for 30 µs and no presence frame for 60 µs (R535). -/
def execTandemLost (s : State) : Res :=
  if mirroring s ∧ tandemLinksDown s ∧ s.tandem.lastBeat + 30000 ≤ s.now ∧ s.tandem.lastPresence + 60000 ≤ s.now then .next (losePartner s)
  else .next s

/-- TANDEM_FENCED: both tandem links down, no heartbeat for 30 µs, and a presence frame since the last heartbeat (R536). -/
def execTandemFenced (s : State) : Res :=
  if mirroring s ∧ tandemLinksDown s ∧ s.tandem.lastBeat + 30000 ≤ s.now ∧ s.tandem.lastBeat < s.tandem.lastPresence then .next (fence s)
  else .next s

end Sys2Proof.Machine
end

