-- ==== Sys2Proof/Machine/Nirnar.lean ====
section
/-!
DEFINITION. The service ports and Nirnar (R576 to R598): what is received on them, sessions, reads and writes, subscriptions, and presence
frames.
-/

namespace Sys2Proof.Machine

/-! ## Access to an entry (R591, R592, R601) -/

/-- Who asks: authority 1 OBSERVER, 2 OPERATOR, 3 OWNER or 4 TENANT of a tenant, and the place of the asker's nonce (R705). -/
structure Accessor where
  auth : Nat
  tenant : Nat := 0
  place : Nat
  deriving DecidableEq, Repr

/-- Records indexed by tenant, whose subindex t + 1 tenant t reads (R591). -/
def tenantRecord (index : Nat) : Bool := [0x2331, 0x5001, 0x5002, 0x5201, 0x8003, 0x8005].contains index

/-- Whether an index lies in a tenant's range. (DEDUCED, log 121.) -/
def inTenantRange (t index : Nat) : Bool := decide (0x4000 + 0x40 * t ≤ index) && decide (index ≤ 0x403F + 0x40 * t)

/-- The tenant whose range holds an index is locked (R545). -/
def lockedIndex (s : State) (index : Nat) : Bool :=
  decide (0x4000 ≤ index) && decide (index < 0x5000) && tdiLocked s ((index - 0x4000) / 0x40)

/-- The refusals of R592 but for NO_DATA: the abort code, 0 for none. (DEDUCED, log 120.) -/
def accessAbort (s : State) (w : Accessor) (write : Bool) (index sub : Nat) : Nat :=
  match dictRow index sub with
  | none => if dictHasIndex index then 0x05020000 else 0x05010000
  | some r =>
    let need := if write then r.wr else r.rd
    let mine := tenantRecord index && sub == w.tenant + 1
    if need = 0 then (if write then 0x05030000 else 0x05040000)
    else if w.auth = 4 ∧ !(mine || inTenantRange w.tenant index) then 0x06050000
    else if w.auth = 4 ∧ write ∧ !(mine && need == 4) then 0x06010000 + need
    else if w.auth ≠ 4 ∧ need = 4 ∧ w.auth < 2 then 0x06010002
    else if w.auth ≠ 4 ∧ need ≠ 4 ∧ w.auth < need then 0x06010000 + need
    else if write && lockedIndex s index then 0x06060000
    else 0

/-- Whether an access is served in the device's state: 0, or NOT_READY (R601). (DEDUCED, log 121.) -/
def gateAbort (s : State) (write : Bool) (index : Nat) : Nat :=
  match notReady s with
  | some c => if !write && index == 0x1000 && (s.dev == .rom || s.dev == .config) then 0 else c
  | none => 0

/-- What an entry reads as to an asker; its nonce and quote are its own (R705). -/
def readValue (s : State) (w : Accessor) (r : DictRow) (index sub : Nat) : Option (List Byte) :=
  if index = 0x9020 ∧ (sub = 3 ∨ sub = 4) then
    let nonce := mapGet [] s.sec.nonces w.place
    if nonce = [] ∨ w.auth = 4 then none
    else if sub = 3 then some nonce
    else if s.sec.identity then some (quoteOf s nonce) else none
  else if r.source = .cfg ∧ s.sec.noConfig then none
  else entryBytes s r index sub

/-! ## Segments (R590) -/

/-- A read: its abort code, the whole value's length, the bytes, and the snapshot that the asker holds afterwards. -/
structure ReadResult where
  abort : Nat
  total : Nat := 0
  bytes : List Byte := []
  snapshot : Option (Nat × List Byte × Nat) := none
  deriving DecidableEq, Repr

def readSegment (s : State) (w : Accessor) (snap : Option (Nat × List Byte × Nat)) (index sub off len : Nat) : ReadResult :=
  let gate := gateAbort s false index
  let c := accessAbort s w false index sub
  if gate ≠ 0 then { abort := gate, snapshot := snap }
  else if c ≠ 0 then { abort := c, snapshot := snap }
  else match dictRow index sub with
    | none => { abort := 0x05020000, snapshot := snap }
    | some r =>
      let n := typeBytes r.ty
      if n ≠ 0 ∧ (off ≠ 0 ∨ len ≠ n) then { abort := abortLength n, snapshot := snap }
      else if off = 0 then
        match readValue s w r index sub with
        | none => { abort := 0x04070000 }
        | some v => { abort := 0, total := v.length, bytes := v.take len, snapshot := if n = 0 then some (dk index sub, v, s.now) else none }
      else match snap with
        | some (k, v, last) =>
          if k = dk index sub ∧ s.now < last + 1000000000 then
            { abort := 0, total := v.length, bytes := (v.drop off).take len, snapshot := some (k, v, s.now) }
          else { abort := 0x01010000, snapshot := snap }
        | none => { abort := 0x01010000 }

/-- What a segment of a write comes to: a refusal, a segment held, or the whole value. -/
inductive Staged where
  | refused (abort : Nat)
  | held (buffer : Nat × List Byte × Nat)
  | whole (value : List Byte)
  deriving DecidableEq, Repr

/-- One segment of a write. A scalar is whole in one; another value is staged until its FINAL segment. -/
def stageSegment (s : State) (staging : Option (Nat × List Byte × Nat)) (key ty : Nat) (final : Bool) (off : Nat) (d : List Byte) : Staged :=
  if typeBytes ty ≠ 0 then (if off = 0 then .whole d else .refused (abortLength (typeBytes ty)))
  else
    let join (b : List Byte) : Staged := if final then .whole (b ++ d) else .held (key, b ++ d, s.now)
    if off = 0 then join []
    else match staging with
      | some (k, b, last) => if k = key ∧ b.length = off ∧ s.now < last + 1000000000 then join b else .refused 0x01050000
      | none => .refused 0x01050000

/-! ## What reaches the service ports (R576 to R578) -/

/-- States in which the service ports have their links (R652). -/
def portsUp (s : State) : Bool := !(s.dev == .off || s.dev == .reset || s.dev == .thermalHold)

/-- An entry of the duplicate window that is still in it. (DESIGN CHOICE, log 117.) -/
def prpLive (s : State) (e : Nat × Nat × Nat × Bool) : Bool := decide (s.now < e.2.2.1 + 400000000)

/-- The window of R577 moves on: 512 sequence numbers of each sender, and 400 ms. A frame that leaves it with one copy seen arrived on one port
only. (DESIGN CHOICE, log 117.) -/
def prunePrp (s : State) (sender : Nat) : State :=
  let live := s.nirnar.prpSeen.filter (prpLive s)
  let own := (live.filter (fun e => e.1 == sender)).take 511
  let kept := own ++ live.filter (fun e => e.1 != sender)
  let gone := s.nirnar.prpSeen.filter (fun e => !(kept.contains e) && !e.2.2.2)
  let s1 : State := { s with nirnar := { s.nirnar with prpSeen := kept } }
  if gone = [] then s1 else bump s1 0x1100 0x11 gone.length

/-- Whether a received frame goes on: the VLAN rule, and the duplicate discard of a frame with a trailer (sender, sequence number). -/
def lanAccept (s : State) (vlan : Nat) (prp : Option (Nat × Nat)) : Bool × State :=
  let want := dget s 0x1100 8
  if !(portsUp s) ∨ (want ≠ 0 ∧ vlan ≠ want) then (false, s)
  else match prp with
    | none => (true, s)
    | some (sender, seq) =>
      if s.nirnar.prpSeen.any (fun e => e.1 == sender && e.2.1 == seq && prpLive s e) then
        (false, bump { s with nirnar := { s.nirnar with
          prpSeen := s.nirnar.prpSeen.map (fun e => if e.1 = sender ∧ e.2.1 = seq then (e.1, e.2.1, e.2.2.1, true) else e) } } 0x1100 0x10 1)
      else
        let s1 := prunePrp s sender
        (true, { s1 with nirnar := { s1.nirnar with prpSeen := (sender, seq, s.now, false) :: s1.nirnar.prpSeen } })

/-- A frame that goes on is handled. (PRESUMED, log 118.) -/
def onLan (s : State) (vlan : Nat) (prp : Option (Nat × Nat)) (f : State → State) : Res :=
  let (ok, s1) := lanAccept s vlan prp
  .next (if ok then f s1 else s1)

/-- Whether the device has the address that a datagram came to: 0 IPv6 link-local, 1 IPv4, 2 IPv6 global. (PRESUMED, log 118.) -/
def hasAddress (s : State) (net : Nat) : Bool :=
  net == 0 || (net == 1 && dget s 0x1100 3 != 0) || (net == 2 && (bget s 0x1100 6).any (· != 0))

/-- The link-local address of a port, from its MAC address. -/
def linkLocal (s : State) (port : Nat) : List Byte :=
  let m := bget s 0x1100 (1 + port % 2)
  [0xFE, 0x80, 0, 0, 0, 0, 0, 0] ++ ((m.take 1).map (· ^^^ 2)) ++ (m.drop 1).take 2 ++ [0xFF, 0xFE] ++ m.drop 3

/-- ARP_REQUEST: a request for the device's IPv4 address is answered with the port's MAC address. -/
def execArpRequest (port vlan : Nat) (prp : Option (Nat × Nat)) (target sender : Nat) (senderMac : List Byte) (s : State) : Res :=
  onLan s vlan prp (fun s =>
    if dget s 0x1100 3 ≠ 0 ∧ target = dget s 0x1100 3 then emit s (.frame 12 [port % 2, target, sender] (bget s 0x1100 (1 + port % 2) ++ senderMac))
    else s)

/-- NEIGHBOUR_SOLICITATION: one for an IPv6 address of the port is answered. -/
def execNeighbourSolicitation (port vlan : Nat) (prp : Option (Nat × Nat)) (target source : List Byte) (s : State) : Res :=
  onLan s vlan prp (fun s =>
    if target = linkLocal s port ∨ (hasAddress s 2 = true ∧ target = bget s 0x1100 6) then
      emit s (.frame 13 [port % 2] (target ++ bget s 0x1100 (1 + port % 2) ++ source))
    else s)

/-- ICMP_ECHO: an echo request to an address of the device is answered; a fragment is discarded. -/
def execIcmpEcho (vlan : Nat) (prp : Option (Nat × Nat)) (net : Nat) (fragment : Bool) (ident seq : Nat) (data : List Byte) (s : State) : Res :=
  onLan s vlan prp (fun s => if !fragment && hasAddress s net then emit s (.frame 14 [net, ident, seq] data) else s)

/-- PRP_SUPERVISION_SEND: every 2 s, on both ports. -/
def execPrpSupervisionSend (s : State) : Res :=
  if portsUp s then
    let n := (s.nirnar.prpSeq + 1) % 65536
    .next (emit { s with nirnar := { s.nirnar with prpSeq := n } } (.frame 11 [n] (bget s 0x1100 1)))
  else .next s

/-! ## Frames (R579 to R584) -/

/-- The parts of a datagram. -/
structure FrameParts where
  op : Nat
  session : Nat
  seq : Nat
  trans : Nat
  blen : Nat
  flags : Nat
  reserved : Nat
  tagged : Bool
  head : List Byte
  body : List Byte
  tag : List Byte
  deriving DecidableEq, Repr

/-- Case 1 of R584: whether a datagram is a frame at all. -/
def isFrame (d : List Byte) : Bool := decide (32 ≤ d.length) && u16 d 0 == 0x524E && u8 d 2 == 1

def frameParts (d : List Byte) : FrameParts :=
  let rest := d.drop 32
  let tagged := bitOf (u16 d 22) 0 && decide (16 ≤ rest.length)
  { op := u8 d 3, session := u32 d 4, seq := u64 d 8, trans := u32 d 16, blen := u16 d 20, flags := u16 d 22, reserved := u64 d 24
    tagged := tagged, head := d.take 32
    body := if tagged then rest.take (rest.length - 16) else rest
    tag := if tagged then rest.drop (rest.length - 16) else [] }

/-- Whether a frame's tag is good under a key (R580). (DEDUCED, log 115.) -/
def tagGood (key : List Byte) (f : FrameParts) : Bool := f.tag == (Config.hmacSha512 key (f.head ++ f.body)).take 16

/-- An untagged ABORT, of which at most 100 leave in a second (R584). -/
def untaggedAbort (s : State) (session trans code : Nat) : State :=
  let n := s.nirnar
  let n1 : Nirnar := if n.untaggedSince + 1000000000 ≤ s.now then { n with untagged := 0, untaggedSince := s.now } else n
  if 100 ≤ n1.untagged then { s with nirnar := n1 }
  else emitLan (bump { s with nirnar := { n1 with untagged := n1.untagged + 1 } } 0x1100 0x14 1) (.nirnar session 0x20 0 trans (abortBody 0 0 code))

/-- A tagged ABORT about a frame. -/
def frameAbort (s : State) (number trans code : Nat) : State :=
  match sessionOf s number with
  | some x => sendFrame (bump s 0x1100 0x14 1) x 0x20 trans (abortBody 0 0 code)
  | none => s

/-- The shortest body of an opcode, and the opcodes that a client sends in a session (R581). -/
def minBody (op : Nat) : Nat :=
  if op = 1 then 36 else if op = 3 then 96 else if op = 0x10 ∨ op = 0x12 then 12 else if op = 0x18 ∨ op = 0x20 then 8
  else if op = 0x19 ∨ op = 0x1B then 4 else 0

def clientOps : List Nat := [0x10, 0x12, 0x18, 0x19, 0x1B, 0x20, 0x21, 0x30]

/-- Whether a reserved field of a frame is not 0. -/
def reservedSet (f : FrameParts) : Bool :=
  f.reserved != 0 || f.flags / 2 != 0 ||
    (if f.op = 0x10 then u8 f.body 3 != 0 || u16 f.body 10 != 0
    else if f.op = 0x12 then 1 < u8 f.body 3 || u16 f.body 10 != 0
    else if f.op = 1 ∨ f.op = 0x18 ∨ f.op = 0x19 ∨ f.op = 0x20 then u8 f.body 3 != 0
    else false)

/-! ## Handshakes (R585, R586) -/

/-- "NIRNAR1". -/
def nirnarLabel : List Byte := [0x4E, 0x49, 0x52, 0x4E, 0x41, 0x52, 0x31]

/-- The authorised key of a KEYID. -/
def keyOf (s : State) (id : Nat) : Option (List Byte) :=
  (((List.range 32).map (fun i => bget s 0x1101 (i + 1))).find? (fun k => keyValid k && keyId k == id))

/-- A provisional session begins, and CHALLENGE is sent. -/
def challenge (s : State) (net : Nat) (f : FrameParts) : State :=
  let id := u16 f.body 0
  let auth := u8 f.body 2
  let number := s.nirnar.nextNumber
  let dnonce := Config.random s.free 32
  let secret := Config.random (s.free + 1) 32
  let share := Config.x25519Public secret
  let h1 := Config.sha512 (nirnarLabel ++ bget s 0x1000 5 ++ natLE 2 id ++ natLE 1 auth ++ (f.body.drop 4).take 32 ++ dnonce ++ share)
  let h : Handshake := { number := number, keyId := id, auth := auth, h1 := h1, secret := secret, since := s.now, net := net }
  emitLan { s with free := s.free + 2, nirnar := { s.nirnar with handshakes := s.nirnar.handshakes ++ [h], nextNumber := number + 1 } }
    (.nirnar number 2 0 f.trans (dnonce ++ share ++ Config.ed25519Sign Config.identityPrivate h1))

/-- HELLO: a provisional session, and CHALLENGE. -/
def helloIn (s : State) (net : Nat) (f : FrameParts) : State :=
  let id := u16 f.body 0
  let auth := u8 f.body 2
  if s.sec.identity = false then s
  else if f.blen ≠ f.body.length ∨ f.body.length < 36 then untaggedAbort s 0 f.trans 0x01020000
  else if reservedSet f then untaggedAbort s 0 f.trans 0x01030000
  else match keyOf s id with
    | none => untaggedAbort s 0 f.trans 0x06020000
    | some k =>
      if auth = 0 ∨ keyAuthority k < auth then untaggedAbort s 0 f.trans 0x06020000
      else if 4 ≤ (s.nirnar.handshakes.filter (fun h => decide (s.now ≤ h.since + 1000000000))).length ∨ dget s 0x1100 0xA ≤ s.nirnar.sessions.length then untaggedAbort s 0 f.trans 0x07010000
      else challenge s net f

def dropHandshake (s : State) (number : Nat) : State :=
  { s with nirnar := { s.nirnar with handshakes := s.nirnar.handshakes.filter (fun h => h.number != number) } }

/-- The session of a proven key: both tag keys, and ACCEPT. -/
def acceptSession (s : State) (h : Handshake) (f : FrameParts) : State :=
  let share := f.body.take 32
  let z := Config.sha512 (Config.x25519 h.secret share ++ Config.sha512 (h.h1 ++ share))
  let idle := dget s 0x1100 0xB
  let x : Session :=
    { number := h.number, keyId := h.keyId, auth := h.auth, rxKey := z.take 32, txKey := (z.drop 32).take 32,
      lastHeard := s.now, idle := idle, net := h.net }
  let s1 := dropHandshake s h.number
  sendFrame { s1 with nirnar := { s1.nirnar with sessions := s1.nirnar.sessions ++ [x] } } x 4 f.trans
    (natLE 1 h.auth ++ natLE 3 0 ++ natLE 4 idle)

/-- PROVE: the key's signature is verified, both tag keys follow, and ACCEPT is the session's first frame. -/
def proveIn (s : State) (h : Handshake) (f : FrameParts) : State :=
  let h2 := Config.sha512 (h.h1 ++ f.body.take 32)
  let s1 := dropHandshake s h.number
  if f.blen ≠ f.body.length ∨ f.body.length < 96 then untaggedAbort s h.number f.trans 0x01020000
  else if reservedSet f then untaggedAbort s h.number f.trans 0x01030000
  else match keyOf s h.keyId with
    | none => untaggedAbort s1 h.number f.trans 0x06020000
    | some k =>
      if h.since + 1000000000 < s.now ∨ Config.ed25519Verify (k.take 32) h2 ((f.body.drop 32).take 64) = false then
        untaggedAbort s1 h.number f.trans 0x06040000
      else if dget s 0x1100 0xA ≤ s.nirnar.sessions.length then untaggedAbort s1 h.number f.trans 0x07010000
      else acceptSession s h f

/-! ## Requests -/

def Session.accessor (x : Session) : Accessor := { auth := x.auth, place := x.number }

/-- The VALUE of R588. -/
def valueBody (index sub ty total off : Nat) (d : List Byte) : List Byte :=
  natLE 2 index ++ natLE 1 sub ++ natLE 1 ty ++ natLE 4 total ++ natLE 4 off ++ natLE 2 d.length ++ natLE 2 0 ++ d

def typeOf (index sub : Nat) : Nat :=
  match dictRow index sub with
  | some r => r.ty
  | none => 0

/-- READ. A frame carries at most 1,376 B of a value. -/
def readIn (s : State) (x : Session) (f : FrameParts) : State :=
  let index := u16 f.body 0
  let sub := u8 f.body 2
  let off := u32 f.body 4
  let r := readSegment s x.accessor x.snapshot index sub off (min (u16 f.body 8) 1376)
  let s1 := updNirnar s x.number (fun x => { x with snapshot := r.snapshot })
  if r.abort ≠ 0 then answerFrame s1 x.number 0x20 f.trans (abortBody index sub r.abort)
  else answerFrame s1 x.number 0x11 f.trans (valueBody index sub (typeOf index sub) r.total off r.bytes)

/-- WRITE: refused, held until its FINAL segment with an empty WRITE_RESP, or accepted. -/
def writeIn (s : State) (x : Session) (host : List Byte) (ok : Bool) (f : FrameParts) : State :=
  let index := u16 f.body 0
  let sub := u8 f.body 2
  let off := u32 f.body 4
  let len := u16 f.body 8
  let refuse (s : State) (code : Nat) : State := answerFrame s x.number 0x20 f.trans (abortBody index sub code)
  let setStaging (b : Option (Nat × List Byte × Nat)) : State := updNirnar s x.number (fun x => { x with staging := b })
  let gate := gateAbort s true index
  let c := accessAbort s x.accessor true index sub
  if f.body.length < 12 + len then frameAbort s x.number f.trans 0x01020000
  else if gate ≠ 0 then refuse s gate
  else if c ≠ 0 then refuse s c
  else match stageSegment s x.staging (dk index sub) (typeOf index sub) (bitOf (u8 f.body 3) 0) off ((f.body.drop 12).take len) with
    | .refused a => refuse (setStaging none) a
    | .held b => answerFrame (setStaging (some b)) x.number 0x13 f.trans []
    | .whole v =>
      let s1 := updNirnar (setStaging none) x.number (fun x => { x with open_ := x.open_ ++ [f.trans] })
      submitWrite s1 { asker := .session x.number f.trans, key := dk index sub, value := v, host := host, ok := ok }

/-! ## Subscriptions (R596, R597) -/

/-- A NOTIFY of an entry's present value. -/
def sendNotify (s : State) (x : Session) (u : Subscription) (trans : Nat) (answer : Bool) : State :=
  let index := u.key / 256
  let sub := u.key % 256
  let v := match dictRow index sub with
    | some r => (readValue s x.accessor r index sub).getD []
    | none => []
  let part := v.take 1360
  let body := natLE 4 x.nextNotify ++ natLE 4 u.changes ++ natLE 8 u.lastChange ++ valueBody index sub (typeOf index sub) v.length 0 part
  let s1 : State := { s with subs := s.subs.map (fun y =>
    if y.session = u.session ∧ y.key = u.key then { y with changes := 0, lastNotify := s.now, last := v } else y) }
  let s2 := updNirnar s1 x.number (fun x => { x with
    nextNotify := x.nextNotify + 1, unacked := x.unacked ++ [{ nseq := x.nextNotify, body := body, since := s.now }] })
  if answer then answerFrame s2 x.number 0x1A trans body
  else match sessionOf s2 x.number with
    | some y => sendFrame s2 y 0x1A trans body
    | none => s2

/-- SUBSCRIBE: MININT is at least 0x1100.0C. -/
def subscribeIn (s : State) (x : Session) (f : FrameParts) : State :=
  let index := u16 f.body 0
  let sub := u8 f.body 2
  let refuse (code : Nat) : State := answerFrame s x.number 0x20 f.trans (abortBody index sub code)
  let others := s.subs.filter (fun u => !(u.session == x.number && u.key == dk index sub))
  let gate := gateAbort s false index
  let c := accessAbort s x.accessor false index sub
  if gate ≠ 0 then refuse gate
  else if c ≠ 0 then refuse c
  else if 64 ≤ (others.filter (fun u => u.session == x.number)).length ∨ 256 ≤ others.length then refuse 0x07020000
  else
    let u : Subscription := { session := x.number, key := dk index sub, minInt := max (u32 f.body 4) (dget s 0x1100 0xC) }
    sendNotify { s with subs := others ++ [u] } x u f.trans true

/-- UNSUBSCRIBE. -/
def unsubscribeIn (s : State) (x : Session) (f : FrameParts) : State :=
  { s with subs := s.subs.filter (fun u => !(u.session == x.number && u.key == dk (u16 f.body 0) (u8 f.body 2))) }

/-- NOTIFY_ACK. -/
def notifyAckIn (s : State) (x : Session) (f : FrameParts) : State :=
  updNirnar s x.number (fun x => { x with unacked := x.unacked.filter (fun n => n.nseq != u32 f.body 0) })

/-- A good frame of a session is acted on. -/
def act (s : State) (x : Session) (host : List Byte) (ok : Bool) (f : FrameParts) : State :=
  let transaction := f.op = 0x10 ∨ f.op = 0x12 ∨ f.op = 0x18
  match x.kept.find? (fun k => k.1 == f.trans) with
  | some k => if transaction then sendFrame (if k.2.1 = 0x20 then bump s 0x1100 0x14 1 else s) x k.2.1 f.trans k.2.2 else
    if f.op = 0x19 then unsubscribeIn s x f else if f.op = 0x1B then notifyAckIn s x f else if f.op = 0x21 then endSession s x.number
    else if f.op = 0x30 then sendFrame s x 0x30 f.trans [] else s
  | none =>
    if transaction ∧ x.open_.contains f.trans then s
    else if f.op = 0x10 then readIn s x f
    else if f.op = 0x12 then writeIn s x host ok f
    else if f.op = 0x18 then subscribeIn s x f
    else if f.op = 0x19 then unsubscribeIn s x f
    else if f.op = 0x1B then notifyAckIn s x f
    else if f.op = 0x21 then endSession s x.number
    else if f.op = 0x30 then sendFrame s x 0x30 f.trans []
    else s

/-- A frame of an established session: R582, then cases 4 to 6 of R584. -/
def sessionIn (s : State) (x : Session) (host : List Byte) (ok : Bool) (f : FrameParts) : State :=
  if !f.tagged then s
  else if !(tagGood x.rxKey f) then bump s 0x1100 0x12 1
  else if f.seq ≤ x.rxSeq then bump s 0x1100 0x13 1
  else
    let y : Session := { x with rxSeq := f.seq, lastHeard := s.now }
    let s1 := updNirnar s x.number (fun _ => y)
    if f.blen ≠ f.body.length ∨ f.body.length < minBody f.op then frameAbort s1 x.number f.trans 0x01020000
    else if !(clientOps.contains f.op) then frameAbort s1 x.number f.trans 0x01040000
    else if reservedSet f then frameAbort s1 x.number f.trans 0x01030000
    else act s1 y host ok f

/-! ## Presence frames (R598) -/

/-- A frame of the twin. -/
def presenceIn (s : State) (f : FrameParts) : State :=
  let good := s.tandem.pairKey != [] && f.tagged && tagGood s.tandem.pairKey f && decide (s.tandem.partnerPresence < f.seq) &&
    f.body.length == 40 && f.body.take 16 == padTo 16 (bget s 0x6100 3)
  if !good then bump s 0x1100 0x12 1
  else
    let s1 : State := { s with tandem := { s.tandem with partnerPresence := f.seq, lastPresence := s.now } }
    if (u8 f.body 16 = 1 ∨ u8 f.body 16 = 2) ∧ mirroring s1 then losePartner s1 else s1

/-- PRESENCE_SEND: every 20 µs while the pair key exists. -/
def execPresenceSend (s : State) : Res := .next (if portsUp s then presenceFrame s 0 else s)

/-! ## The rows of frames -/

/-- A datagram on UDP port 7402. A frame of a provisional session other than PROVE has no tag that could verify, and one that comes after
IDLE names a session that has ended. (DEDUCED, log 115.) -/
def frameIn (s : State) (net : Nat) (host : List Byte) (ok : Bool) (d : List Byte) : State :=
  let f := frameParts d
  if !(isFrame d) ∨ !(hasAddress s net) then s
  else if f.session = 0xFFFFFFFF ∧ f.op = 0x40 then presenceIn s f
  else if f.session = 0 ∧ f.op = 1 then helloIn s net f
  else match s.nirnar.handshakes.find? (fun h => h.number == f.session && f.op == 3) with
    | some h => proveIn s h f
    | none =>
      match sessionOf s f.session with
      | some x =>
        if x.lastHeard + 1000000 * x.idle < s.now then untaggedAbort (endSession s x.number) f.session f.trans 0x06030000
        else sessionIn s x host ok f
      | none =>
        if s.nirnar.handshakes.any (fun h => h.number == f.session) then s else untaggedAbort s f.session f.trans 0x06030000

/-- A row of R581: a datagram, which its own opcode tells what it asks for. -/
def frameRow (s : State) (vlan : Nat) (prp : Option (Nat × Nat)) (net : Nat) (host : List Byte) (ok : Bool) (d : List Byte) : Res :=
  onLan s vlan prp (fun s => frameIn s net host ok d)

/-- HELLO. -/
def execHello (vlan : Nat) (prp : Option (Nat × Nat)) (net : Nat) (datagram : List Byte) (s : State) : Res :=
  frameRow s vlan prp net [] true datagram

/-- PROVE. -/
def execProve (vlan : Nat) (prp : Option (Nat × Nat)) (net : Nat) (datagram : List Byte) (s : State) : Res :=
  frameRow s vlan prp net [] true datagram

/-- NIRNAR_READ. -/
def execNirnarRead (vlan : Nat) (prp : Option (Nat × Nat)) (net : Nat) (datagram : List Byte) (s : State) : Res :=
  frameRow s vlan prp net [] true datagram

/-- NIRNAR_WRITE; `host` and `ok` are what the environment gives the write's effect. -/
def execNirnarWrite (vlan : Nat) (prp : Option (Nat × Nat)) (net : Nat) (datagram host : List Byte) (ok : Bool) (s : State) : Res :=
  frameRow s vlan prp net host ok datagram

/-- SUBSCRIBE. -/
def execSubscribe (vlan : Nat) (prp : Option (Nat × Nat)) (net : Nat) (datagram : List Byte) (s : State) : Res :=
  frameRow s vlan prp net [] true datagram

/-- UNSUBSCRIBE. -/
def execUnsubscribe (vlan : Nat) (prp : Option (Nat × Nat)) (net : Nat) (datagram : List Byte) (s : State) : Res :=
  frameRow s vlan prp net [] true datagram

/-- NOTIFY_ACK. -/
def execNotifyAck (vlan : Nat) (prp : Option (Nat × Nat)) (net : Nat) (datagram : List Byte) (s : State) : Res :=
  frameRow s vlan prp net [] true datagram

/-- NIRNAR_ABORT: nothing but the sign of life. -/
def execNirnarAbort (vlan : Nat) (prp : Option (Nat × Nat)) (net : Nat) (datagram : List Byte) (s : State) : Res :=
  frameRow s vlan prp net [] true datagram

/-- CLOSE. -/
def execClose (vlan : Nat) (prp : Option (Nat × Nat)) (net : Nat) (datagram : List Byte) (s : State) : Res :=
  frameRow s vlan prp net [] true datagram

/-- KEEPALIVE: echoed. -/
def execKeepalive (vlan : Nat) (prp : Option (Nat × Nat)) (net : Nat) (datagram : List Byte) (s : State) : Res :=
  frameRow s vlan prp net [] true datagram

/-- PRESENCE. -/
def execPresence (vlan : Nat) (prp : Option (Nat × Nat)) (net : Nat) (datagram : List Byte) (s : State) : Res :=
  frameRow s vlan prp net [] true datagram

/-! ## Events of sessions -/

/-- HANDSHAKE_EXPIRE: no PROVE within 1 s of CHALLENGE. -/
def execHandshakeExpire (number : Nat) (s : State) : Res :=
  match s.nirnar.handshakes.find? (fun h => h.number == number) with
  | some h => .next (if h.since + 1000000000 < s.now then dropHandshake s number else s)
  | none => .next s

/-- SESSION_IDLE: no valid frame within IDLE. -/
def execSessionIdle (number : Nat) (s : State) : Res :=
  match sessionOf s number with
  | some x => .next (if x.lastHeard + 1000000 * x.idle < s.now then endSession s number else s)
  | none => .next s

/-- NOTIFY: an entry has changed since the last NOTIFY, MININT has passed, and fewer than 4 are unacknowledged. (DEDUCED, log 116.) -/
def execNotify (number index sub : Nat) (s : State) : Res :=
  match sessionOf s number, s.subs.find? (fun u => u.session == number && u.key == dk index sub) with
  | some x, some u =>
    let v := match dictRow index sub with
      | some r => (readValue s x.accessor r index sub).getD []
      | none => []
    if (u.changes = 0 ∧ v = u.last) ∨ s.now < u.lastNotify + 1000 * u.minInt ∨ 4 ≤ x.unacked.length then .next s
    else
      let u1 : Subscription := if u.changes = 0 then { u with changes := 1, lastChange := s.ptp } else u
      .next (sendNotify s x u1 0 false)
  | _, _ => .next s

/-- NOTIFY_RESEND: after 100 ms without an acknowledgment it is sent again; after 5 sends the session ends with NOTIFY_TIMEOUT. -/
def execNotifyResend (number nseq : Nat) (s : State) : Res :=
  match sessionOf s number with
  | none => .next s
  | some x =>
    match x.unacked.find? (fun n => n.nseq == nseq) with
    | none => .next s
    | some n =>
      if s.now < n.since + 100000000 then .next s
      else if 5 ≤ n.sends then .next (endSession (frameAbort s number 0 0x07030000) number)
      else
        let s1 := updNirnar s number (fun x => { x with
          unacked := x.unacked.map (fun m => if m.nseq = nseq then { m with since := s.now, sends := m.sends + 1 } else m) })
        match sessionOf s1 number with
        | some y => .next (sendFrame s1 y 0x1A 0 n.body)
        | none => .next s1

/-- A snapshot or staging buffer unused for 1 s. -/
def stale (s : State) (b : Option (Nat × List Byte × Nat)) : Bool :=
  match b with
  | some (_, _, last) => decide (last + 1000000000 ≤ s.now)
  | none => false

def updBox (s : State) (fn : Nat) (f : Mailbox → Mailbox) : State :=
  { s with host := { s.host with boxes := mapUpd {} s.host.boxes fn f } }

/-- SNAPSHOT_EXPIRE: of a session, or of a function's mailbox. -/
def execSnapshotExpire (mailbox : Bool) (who : Nat) (s : State) : Res :=
  if mailbox then .next (updBox s who (fun b => if stale s b.snapshot then { b with snapshot := none } else b))
  else .next (updNirnar s who (fun x => if stale s x.snapshot then { x with snapshot := none } else x))

/-- STAGING_EXPIRE: as above; the next segment is answered with SEGMENT_ORDER. -/
def execStagingExpire (mailbox : Bool) (who : Nat) (s : State) : Res :=
  if mailbox then .next (updBox s who (fun b => if stale s b.staging then { b with staging := none } else b))
  else .next (updNirnar s who (fun x => if stale s x.staging then { x with staging := none } else x))

/-! ## The in-band mailbox (R599 to R601) -/

/-- States in which the functions' mailboxes answer. (DEDUCED, log 120.) -/
def boxServed (s : State) (fn : Nat) : Bool := doeServed s && vfEnabled s fn

/-- Who a function's mailbox is (R591). -/
def boxAccessor (s : State) (fn : Nat) : Accessor :=
  if fn = 0 then { auth := if dbool s 0x1100 0xD then 3 else 2, place := 2 ^ 32 } else { auth := 4, tenant := fn, place := 2 ^ 32 + fn }

/-- A command begins; one while another is in progress is ignored and sets CMD_STATE. -/
def beginBox (fn : Nat) (s : State) (f : State → State) : Res :=
  if 64 ≤ fn then .next s
  else if boxServed s fn = false then .next s
  else if (mapGet {} s.host.boxes fn).busy then .next (cmdState s)
  else .next (f (updBox s fn (fun b => { b with busy := true, done := false })))

/-- DICT_CMD_READ: LEN bytes of the value from OFFSET come to buffer offset 0. -/
def execDictCmdRead (fn index sub offset : Nat) (s : State) : Res :=
  beginBox fn s (fun s =>
    let b := mapGet {} s.host.boxes fn
    if 65536 < b.len then finishBox s fn 0 abortRange 0
    else if inRecoveryMode s && fn == 0 && index == 0x9003 && sub == 2 then
      let v := recoveryStatus s
      finishBox (updBox s fn (fun b => { b with buffer := mapSetRun 0 b.buffer 0 ((v.drop offset).take b.len) })) fn 0xF 0 v.length
    else
      let r := readSegment s (boxAccessor s fn) b.snapshot index sub offset b.len
      let s1 := updBox s fn (fun b => { b with snapshot := r.snapshot, buffer := mapSetRun 0 b.buffer 0 r.bytes })
      finishBox s1 fn (typeOf index sub) r.abort r.total)

/-- DICT_CMD_WRITE: LEN bytes of the buffer are written; in recovery mode the physical function's mailbox takes RecoveryData without any
authority (R721). -/
def execDictCmdWrite (fn : Nat) (final : Bool) (index sub offset : Nat) (host : List Byte) (ok : Bool) (s : State) : Res :=
  beginBox fn s (fun s =>
    let b := mapGet {} s.host.boxes fn
    let d := mapGetRun 0 b.buffer 0 b.len
    let ty := typeOf index sub
    let gate := gateAbort s true index
    let c := accessAbort s (boxAccessor s fn) true index sub
    if 65536 < b.len then finishBox s fn 0 abortRange 0
    else if inRecoveryMode s && fn == 0 && index == 0x9003 && sub == 1 then
      let (a, s1) := takeAnswer s (execRecoveryData offset d final s)
      finishBox s1 fn ty a b.len
    else if gate ≠ 0 then finishBox s fn ty gate 0
    else if c ≠ 0 then finishBox s fn ty c 0
    else match stageSegment s b.staging (dk index sub) ty final offset d with
      | .refused a => finishBox (updBox s fn (fun b => { b with staging := none })) fn ty a 0
      | .held x => finishBox (updBox s fn (fun b => { b with staging := some x })) fn ty 0 x.2.1.length
      | .whole v =>
        submitWrite (updBox s fn (fun b => { b with staging := none }))
          { asker := .mailbox fn, key := dk index sub, value := v, host := host, ok := ok })

end Sys2Proof.Machine
end

