-- ==== Sys2Proof/Machine/Package.lean ====
section
/-!
DEFINITION. The board management port and the test access port (R743 to R747).
-/

namespace Sys2Proof.Machine

/-! ## The board management port (R741, R743 to R745) -/

/-- The I3C target answers from CONFIG to FENCED. -/
def i3cAnswers (s : State) : Bool := firmwareUp s

/-- ENTDAA: a dynamic address is assigned. -/
def execEntdaa (address : Nat) (s : State) : Res :=
  if 128 ≤ address then .next s
  else if i3cAnswers s ∧ s.pkg.i3cAddr.isNone then .next (emit { s with pkg := { s.pkg with i3cAddr := some address } } (.mgmt 2 [address] []))
  else .next s

/-- A PLDM answer: 3 with the type, the completion code, the fields and the data. -/
def pldmAnswer (s : State) (ty code : Nat) (fields : List Nat) (data : List Byte) : State := emit s (.mgmt 3 (ty :: code :: fields) data)

/-- ERROR_INVALID_DATA (2) or ERROR_UNSUPPORTED_PLDM_CMD (5), counted with the host violations. -/
def pldmError (s : State) (ty code : Nat) : State := pldmAnswer (hostViolation s) ty code [] []

/-- A request that reaches the target. -/
def withPldm (s : State) (f : State → State) : Res := if i3cAnswers s ∧ s.pkg.i3cAddr.isSome then .next (f s) else .next s

/-- PLDM_BASE_DISCOVERY: commands 2 GetTID, 3 GetPLDMVersion, 4 GetPLDMTypes and 5 GetPLDMCommands of type 0, of which the last names a
type; a request of another type or command is unsupported. (PRESUMED, log 103.) -/
def execPldmBaseDiscovery (ty command arg : Nat) (s : State) : Res :=
  withPldm s (fun s =>
    if ty ≠ 0 then pldmError s ty 5
    else match command with
      | 2 => pldmAnswer s 0 0 [0] []
      | 3 => if arg = 0 ∨ arg = 2 ∨ arg = 4 then pldmAnswer s 0 0 [arg, 1] [] else pldmError s 0 2
      | 4 => pldmAnswer s 0 0 [2 ^ 0 + 2 ^ 2 + 2 ^ 4] []
      | 5 =>
        if arg = 0 then pldmAnswer s 0 0 [2 ^ 2 + 2 ^ 3 + 2 ^ 4 + 2 ^ 5] []
        else if arg = 2 then pldmAnswer s 0 0 [2 ^ 0x11 + 2 ^ 0x21] []
        else if arg = 4 then pldmAnswer s 0 0 [2 ^ 1 + 2 ^ 2] []
        else pldmError s 0 2
      | _ => pldmError s 0 5)

/-- An F32 entry as a sensor's value; none while it is not known. -/
def entryF32 (s : State) (index sub : Nat) : Option Nat :=
  let v := dget s index sub
  if v = 0x7FC00000 then none else some v

/-- The value of a sensor (R744); none where it is not known. -/
def sensorValue (s : State) (n : Nat) : Option Nat :=
  if n ≤ 3 then entryF32 s 0x3100 n
  else if n ≤ 11 then entryF32 s 0x3101 (n - 3)
  else if n = 12 then some (dget s 0x3000 4)
  else if n = 13 then some s.dev.code
  else if n ≤ 25 then some (dget s (0x7010 + (n - 14)) 1)
  else some (dget s 0x1000 0x10)

/-- PLDM_SENSOR_READ: GetSensorReading (0x11) of the numeric sensors 1 to 12, GetStateSensorReadings (0x21) of sensors 13 to 26; the
operational state is 0 enabled, or 2 unavailable. (PRESUMED, log 103.) -/
def execPldmSensorRead (command sensor : Nat) (s : State) : Res :=
  withPldm s (fun s =>
    if command ≠ 0x11 ∧ command ≠ 0x21 then pldmError s 2 5
    else if sensor = 0 ∨ 26 < sensor ∨ (command = 0x11) ≠ (sensor ≤ 12) then pldmError s 2 2
    else match sensorValue s sensor with
      | some v => pldmAnswer s 2 0 [sensor, 0, v] []
      | none => pldmAnswer s 2 0 [sensor, 2] [])

/-- The FRU record: 0x1000.01 to .05 and 0x1000.11, each with its length. -/
def fruRecord (s : State) : List Byte :=
  [1, 2, 3, 4, 5, 0x11].flatMap (fun i => let d := bget s 0x1000 i; natLE 1 i ++ natLE 1 d.length ++ d)

/-- PLDM_FRU_READ: GetFRURecordTableMetadata (1) and GetFRURecordTable (2). -/
def execPldmFruRead (command : Nat) (s : State) : Res :=
  withPldm s (fun s =>
    match command with
    | 1 => pldmAnswer s 4 0 [(fruRecord s).length, 1] []
    | 2 => pldmAnswer s 4 0 [] (fruRecord s)
    | _ => pldmError s 4 5)

/-! ## The test access port (R747) -/

def tapBypass : Nat := 0
def tapIdcode : Nat := 1
def tapSample : Nat := 2

/-- The TAP takes an instruction and shows what it selects: 4 with the instruction and a value. (PRESUMED, log 104.) -/
def tapTake (s : State) (ir : Nat) (fields : List Nat) : State := emit { s with pkg := { s.pkg with tapIr := ir } } (.mgmt 4 (ir :: fields) [])

def withTap (s : State) (f : State → State) : Res := if s.dev = .off then .next s else .next (f s)

/-- BYPASS, and every code that is not assigned. -/
def execBypass (s : State) : Res := withTap s (fun s => tapTake s tapBypass [0])

/-- IDCODE. -/
def execIdcode (s : State) : Res := withTap s (fun s => tapTake s tapIdcode [0x100087C5])

/-- SAMPLE_PRELOAD: the lands' levels are sampled, and the boundary register takes a pattern. -/
def execSamplePreload (levels pattern : List Bool) (s : State) : Res :=
  withTap s (fun s => { tapTake s tapSample (levels.map boolNat) with pkg := { s.pkg with tapIr := tapSample, boundary := pattern } })

/-- An instruction that drives or floats the lands: in RESET, ROM and TEST alone; elsewhere it acts as BYPASS. -/
def boundaryOp (s : State) (ir : Nat) (drive : Bool) : Res :=
  withTap s (fun s =>
    if s.dev = .reset ∨ s.dev = .rom ∨ s.dev = .test then tapTake s ir (if drive then s.pkg.boundary.map boolNat else [])
    else tapTake s tapBypass [0])

/-- EXTEST: the outputs take the preloaded pattern. -/
def execExtest (s : State) : Res := boundaryOp s 3 true

/-- CLAMP: the outputs hold the preloaded pattern, with BYPASS between TDI and TDO. -/
def execClamp (s : State) : Res := boundaryOp s 4 true

/-- HIGHZ: every output is high impedance. -/
def execHighz (s : State) : Res := boundaryOp s 5 false

/-- EXTEST_PULSE. -/
def execExtestPulse (s : State) : Res := boundaryOp s 6 true

/-- EXTEST_TRAIN. -/
def execExtestTrain (s : State) : Res := boundaryOp s 7 true

end Sys2Proof.Machine
end

