-- ==== Sys2Proof/Machine/RegWrite.lean ====
section
/-!
DEFINITION. Writes of registers that have no row of their own: BAR0 of a function (R547, R548, R572, R573, R599) and engine control
space (R9, R315). A write that covers a register with a row of its own has that row's effect.
-/

namespace Sys2Proof.Machine

/-! ## Registers of the function page as they read -/

/-- RING_CTRL. -/
def ringCtrl (x : Ring) : Nat :=
  boolNat x.enable * 2 ^ 63 + boolNat x.busy * 2 ^ 62 + x.type * 2 ^ 58 + x.log2 * 2 ^ 53 + boolNat x.loc * 2 ^ 52 + x.cring * 2 ^ 42 +
    x.isrc * 2 ^ 31 + boolNat x.ien * 2 ^ 30 + x.tgt * 2 ^ 23 + x.cfgstat

/-- A register of RING_CFG, by its offset in the ring's 64 B (R572). -/
def ringReg (x : Ring) (o : Nat) : Nat :=
  match o with
  | 0x00 => x.base
  | 0x08 => ringCtrl x
  | 0x10 => x.qtail * 2 ^ 32 + x.qhead
  | 0x18 => x.wb
  | 0x20 => boolNat x.baddb * 2 ^ 63 + boolNat x.hosterr * 2 ^ 62 + boolNat x.stalled * 2 ^ 61 + x.rsv
  | _ => 0

/-- WIN[i]. -/
def winReg (w : WinSlice) : Nat := boolNat w.valid * 2 ^ 63 + boolNat w.badbase * 2 ^ 62 + w.base

/-! ## Writes -/

/-- The value of an 8 B register under a write of 4 or 8 B at an offset `o` of it: the bytes written, and the register with them. (DEDUCED, log 85.) -/
def merged (old o : Nat) (bs : List Byte) : Nat :=
  if 8 ≤ bs.length then leNat bs else mergeHalf old o (2 ^ 32 - 1) (leNat bs)

/-- The written bits alone, those not written as 0. -/
def written (o : Nat) (bs : List Byte) : Nat := merged 0 o bs

/-- RING_CFG (R553, R555, R572): RING_BASE, RING_CTRL and RING_WB keep their values while the ring is busy or its tenant's TDI is
locked (R545). (DEDUCED, log 41.) -/
def writeRingCfg (s : State) (t r o : Nat) (bs : List Byte) : State :=
  match ringNo s t r with
  | none => s
  | some k =>
    let x := s.ring k
    let v := merged (ringReg x (o / 8 * 8)) o bs
    match o / 8 * 8 with
    | 0x00 => if ctrlBarred s t x ∨ x.enable then s else s.setRing k { x with base := v / 4096 * 4096 }
    | 0x08 =>
      if ctrlBarred s t x then s
      else if x.enable then (if bitOf v 63 then s else afterRes s (execRingDisable t r s))
      else if bitOf v 63 then afterRes s (execRingEnable t r v s)
      else s.setRing k (ctrlFields x v)
    | 0x18 => if ctrlBarred s t x then s else s.setRing k { x with wb := v / 4 * 4 }
    | 0x20 =>
      let w := written o bs
      s.setRing k { x with baddb := x.baddb && !(bitOf w 63), hosterr := x.hosterr && !(bitOf w 62) }
    | _ => s

/-- One 4 B unit of the MSI-X table: address, data and the mask bit, whose clearing unmasks the vector. -/
def writeMsix (s : State) (fn o v : Nat) : State :=
  let vec := o / 16
  let k := fn * 2048 + vec
  if msixSize fn ≤ vec then s
  else
    match o % 16 with
    | 0 => { s with irq := { s.irq with msiAddr := mapUpd 0 s.irq.msiAddr k (fun a => a / 2 ^ 32 * 2 ^ 32 + v / 4 * 4) } }
    | 4 => { s with irq := { s.irq with msiAddr := mapUpd 0 s.irq.msiAddr k (fun a => a % 2 ^ 32 + v * 2 ^ 32) } }
    | 8 => { s with irq := { s.irq with msiData := mapSet 0 s.irq.msiData k v } }
    | _ =>
      if bitOf v 0 then { s with irq := { s.irq with msiUnmasked := mapSet false s.irq.msiUnmasked k false } }
      else afterRes s (execMsixUnmask fn vec s)

/-- WIN[i] under a write; a half that is not written clears nothing (R549). -/
def writeWin (s : State) (fn i o : Nat) (bs : List Byte) : State :=
  let old := winReg (mapGet {} s.host.win (fn * 64 + i))
  let v := merged old o bs
  let keep := if bitOf (written o bs) 62 then v else clearBit v 62
  afterRes s (execWinWrite fn i keep s)

/-- One command of DICT_CMD, written whole (R600); a reserved OP completes with BAD_OPCODE (R10). (DESIGN CHOICE, log 132.) -/
def writeDictCmd (s : State) (fn v : Nat) (host : List Byte) (ok : Bool) : State :=
  let index := bitsOf v 55 40
  let sub := bitsOf v 39 32
  let off := v % 2 ^ 32
  match v / 2 ^ 60 % 16 with
  | 1 => afterRes s (execDictCmdRead fn index sub off s)
  | 2 => afterRes s (execDictCmdWrite fn (bitOf v 59) index sub off host ok s)
  | _ => afterRes s (beginBox fn s (fun (s : State) => finishBox s fn 0 0x01040000 0))

/-- The mailbox's registers and buffer (R599, R600, R751). -/
def writeBox (s : State) (fn o : Nat) (bs host : List Byte) (ok : Bool) : State :=
  let b := mapGet {} s.host.boxes fn
  if boxServed s fn = false then s
  else if 0x10000 ≤ o ∧ o < 0x20000 then
    (if b.busy then s else updBox s fn (fun (b : Mailbox) => { b with buffer := mapSetRun 0 b.buffer (o - 0x10000) bs }))
  else
    match o / 8 * 8 with
    | 0x00 => if b.busy ∨ bs.length < 8 then cmdState s else writeDictCmd s fn (leNat bs) host ok
    | 0x08 => updBox s fn (fun (b : Mailbox) => { b with len := merged b.len o bs % 2 ^ 17 })
    | 0x10 => updBox s fn (fun (b : Mailbox) => { b with done := b.done && !(bitOf (written o bs) 62) })
    | _ => s

/-- A 4 B unit of the registers whose halves are independent: IPENDL, ITARGETL, the MSI-X table, IPEND and ITARGET. -/
def writePageUnit (s : State) (fn o v : Nat) : State :=
  let sh := if o % 8 = 4 then 2 ^ 32 else 1
  if 0x20000 ≤ o ∧ o < 0x20100 then afterRes s (execIpendClear fn true ((o - 0x20000) / 8) (v * sh) s)
  else if 0x30000 ≤ o ∧ o < 0x32000 then afterRes s (execItargetWrite fn true ((o - 0x30000) / 4) v s)
  else if 0x40000 ≤ o ∧ o < 0x48000 then writeMsix s fn (o - 0x40000) v
  else if fn = 0 ∧ 0x200000 ≤ o ∧ o < 0x200100 then afterRes s (execIpendClear 0 false ((o - 0x200000) / 8) (v * sh) s)
  else if fn = 0 ∧ 0x210000 ≤ o ∧ o < 0x212000 then afterRes s (execItargetWrite 0 false ((o - 0x210000) / 4) v s)
  else s

/-- BAR0's size (R546). -/
def bar0Size (fn : Nat) : Nat := if fn = 0 then 0x4000000 else 0x200000

/-- A host write to BAR0: aligned, of 4 or 8 B (R548); a poisoned write is dropped (R568). -/
def writeBar0 (s : State) (fn o : Nat) (bs : List Byte) (ep : Bool) (host : List Byte) (ok : Bool) : State :=
  if ep then hostViolation s
  else if 0x100000 ≤ o ∧ o < 0x100008 ∧ bs.length < 4 ∧ boxServed s fn = true then cmdState (afterRes s (execBar0BadAccess fn true s))
  else if ¬ (bs.length = 4 ∨ bs.length = 8) ∨ o % bs.length ≠ 0 then afterRes s (execBar0BadAccess fn true s)
  else if doeServed s = false ∨ vfEnabled s fn = false then s
  else if o < 0x2000 then
    (if bs.length = 8 then afterRes s (execDoorbell fn (o / 8) (leNat bs) s) else afterRes s (execBar0BadAccess fn true s))
  else if 0x10000 ≤ o ∧ o < 0x20000 then writeRingCfg s fn ((o - 0x10000) / 64) (o % 64) bs
  else if 0x50000 ≤ o ∧ o < 0x50400 then (if o % 16 < 8 then writeWin s fn ((o - 0x50000) / 16) (o % 16) bs else s)
  else if 0x100000 ≤ o ∧ o < 0x200000 then writeBox s fn (o - 0x100000) bs host ok
  else
    let s1 := writePageUnit s fn o (leNat (bs.take 4))
    if bs.length = 8 then writePageUnit s1 fn (o + 4) (leNat (bs.drop 4)) else s1

/-- Agents that write engine control space by themselves: SPA, SPB, the SVC and the administrative function. (DEDUCED, log 86.) -/
def writesEcs (agent fn : Nat) : Bool := (agent == 0xF0 || agent == 0xF2 || agent == 0xF3 || agent == 16) && fn == 0

/-- REG_WRITE: `data` written to BAR0 of function `fn` at an offset, or (`ecs`) to engine control space at an offset by an agent. (DEDUCED, log 86.) -/
def execRegWrite (ecs : Bool) (agent fn offset : Nat) (data : List Byte) (ep : Bool) (host : List Byte) (ok : Bool) (s : State) : Res :=
  if 64 ≤ fn ∨ data.length = 0 then .next s
  else if ecs then
    (if writesEcs agent fn = false ∨ 2 ^ 32 < offset + data.length ∨ 64 < data.length then .next s
    else if ep then .next (hostViolation s)
    else .next (regWrite s agent fn offset data))
  else if bar0Size fn < offset + data.length then .next s
  else .next (writeBar0 s fn offset data ep host ok)

end Sys2Proof.Machine
end

