-- ==== Sys2Proof/Machine/Dispatch.lean ====
section
/-!
DEFINITION. One arm for each command: its meaning, or a rejection by name.
-/

namespace Sys2Proof.Machine

def exec (i : Instr) (s : State) : Host.Outcome State Fault Refusal :=
  match i with
  | .loadcol sfmt first count src => Sys2Proof.Machine.execLoadcol sfmt first count src s
  | .loadrow sfmt first count src => Sys2Proof.Machine.execLoadrow sfmt first count src s
  | .fillcol first count value => Sys2Proof.Machine.execFillcol first count value s
  | .fillrow first count value => Sys2Proof.Machine.execFillrow first count value s
  | .setout value => Sys2Proof.Machine.execSetout value s
  | .scaleSlotComplete => Sys2Proof.Machine.execScaleSlotComplete s
  | .mm slot stalled => Sys2Proof.Machine.execMm slot stalled s
  | .wload slot => Sys2Proof.Machine.execWload slot s
  | .gridOpStart waited => Sys2Proof.Machine.execGridOpStart waited s
  | .wloadComplete => Sys2Proof.Machine.execWloadComplete s
  | .mmComplete => Sys2Proof.Machine.execMmComplete s
  | .rerunComplete => Sys2Proof.Machine.execRerunComplete s
  | .stackAccess reader tenant addr len data hits glitches => Sys2Proof.Machine.execStackAccess reader tenant addr len data hits glitches s
  | .addBurstRequest issuer tenant addr fmt data fetch => Sys2Proof.Machine.execAddBurstRequest issuer tenant addr fmt data fetch s
  | .refresh st bank => Sys2Proof.Machine.execRefresh st bank s
  | .segModeChange st high value => Sys2Proof.Machine.execSegModeChange st high value s
  | .segModeChangeDone st => Sys2Proof.Machine.execSegModeChangeDone st s
  | .stkRprDataWrite st value => Sys2Proof.Machine.execStkRprDataWrite st value s
  | .rowcopy st slot => Sys2Proof.Machine.execRowcopy st slot s
  | .rowinit st slot => Sys2Proof.Machine.execRowinit st slot s
  | .rowlogic st slot => Sys2Proof.Machine.execRowlogic st slot s
  | .gemv4 st slot => Sys2Proof.Machine.execGemv4 st slot s
  | .score st slot => Sys2Proof.Machine.execScore st slot s
  | .axpy st slot => Sys2Proof.Machine.execAxpy st slot s
  | .ewise st slot => Sys2Proof.Machine.execEwise st slot s
  | .normstat st slot => Sys2Proof.Machine.execNormstat st slot s
  | .normapply st slot => Sys2Proof.Machine.execNormapply st slot s
  | .rope st slot => Sys2Proof.Machine.execRope st slot s
  | .quant st slot => Sys2Proof.Machine.execQuant st slot s
  | .cutapply st slot => Sys2Proof.Machine.execCutapply st slot s
  | .merge st slot => Sys2Proof.Machine.execMerge st slot s
  | .rowBoundary st bank => Sys2Proof.Machine.execRowBoundary st bank s
  | .vectorSliceArrive st bank waited => Sys2Proof.Machine.execVectorSliceArrive st bank waited s
  | .ladleResume st bank => Sys2Proof.Machine.execLadleResume st bank s
  | .ladleSlotComplete st => Sys2Proof.Machine.execLadleSlotComplete st s
  | .frameRetireComplete st => Sys2Proof.Machine.execFrameRetireComplete st s
  | .retirePendingDonor st => Sys2Proof.Machine.execRetirePendingDonor st s
  | .fieldRepairWrite => Sys2Proof.Machine.execFieldRepairWrite s
  | .whiskRow st bank hits => Sys2Proof.Machine.execWhiskRow st bank hits s
  | .whiskSlow st => Sys2Proof.Machine.execWhiskSlow st s
  | .frameEnterTest agent tenant st frame => Sys2Proof.Machine.execFrameEnterTest agent tenant st frame s
  | .frameTestEntered st => Sys2Proof.Machine.execFrameTestEntered st s
  | .frameLeaveTest agent tenant st frame => Sys2Proof.Machine.execFrameLeaveTest agent tenant st frame s
  | .wrdata agent tenant st => Sys2Proof.Machine.execWrdata agent tenant st s
  | .wrchk agent tenant st => Sys2Proof.Machine.execWrchk agent tenant st s
  | .wrboth agent tenant st => Sys2Proof.Machine.execWrboth agent tenant st s
  | .rdraw agent tenant st => Sys2Proof.Machine.execRdraw agent tenant st s
  | .rddec agent tenant st => Sys2Proof.Machine.execRddec agent tenant st s
  | .moveCopy m remote poisoned => Sys2Proof.Machine.execMoveCopy m remote poisoned s
  | .moveAdd m remote poisoned => Sys2Proof.Machine.execMoveAdd m remote poisoned s
  | .moveDiscard m => Sys2Proof.Machine.execMoveDiscard m s
  | .moverDescStart m => Sys2Proof.Machine.execMoverDescStart m s
  | .moverDescComplete m => Sys2Proof.Machine.execMoverDescComplete m s
  | .moverHostError m done remote poisoned => Sys2Proof.Machine.execMoverHostError m done remote poisoned s
  | .discardApplied m => Sys2Proof.Machine.execDiscardApplied m s
  | .seqQueuePost poster tenant priv serving addr data => Sys2Proof.Machine.execSeqQueuePost poster tenant priv serving addr data s
  | .moverQueuePost poster tenant priv addr data => Sys2Proof.Machine.execMoverQueuePost poster tenant priv addr data s
  | .qentryStep eng => Sys2Proof.Machine.execQentryStep eng s
  | .qentryCall eng => Sys2Proof.Machine.execQentryCall eng s
  | .qentryFlip eng => Sys2Proof.Machine.execQentryFlip eng s
  | .stepWordIssue eng => Sys2Proof.Machine.execStepWordIssue eng s
  | .syncWaitEnd eng => Sys2Proof.Machine.execSyncWaitEnd eng s
  | .syncMemPoll eng => Sys2Proof.Machine.execSyncMemPoll eng s
  | .movePost eng => Sys2Proof.Machine.execMovePost eng s
  | .seta eng rd imm => Sys2Proof.Machine.execSeta eng rd imm s
  | .adda eng rd ra imm => Sys2Proof.Machine.execAdda eng rd ra imm s
  | .setc eng cn imm => Sys2Proof.Machine.execSetc eng cn imm s
  | .maddc eng rd ra cn imm => Sys2Proof.Machine.execMaddc eng rd ra cn imm s
  | .jump eng target => Sys2Proof.Machine.execJump eng target s
  | .loop eng cn target => Sys2Proof.Machine.execLoop eng cn target s
  | .jcz eng cn target => Sys2Proof.Machine.execJcz eng cn target s
  | .call eng target => Sys2Proof.Machine.execCall eng target s
  | .ret eng => Sys2Proof.Machine.execRet eng s
  | .bankflip eng => Sys2Proof.Machine.execBankflip eng s
  | .ctrlHalt eng => Sys2Proof.Machine.execCtrlHalt eng s
  | .ctrlStop eng flip => Sys2Proof.Machine.execCtrlStop eng flip s
  | .nest eng => Sys2Proof.Machine.execNest eng s
  | .entryComplete eng => Sys2Proof.Machine.execEntryComplete eng s
  | .commit agent tenant eng bank len entry ctag => Sys2Proof.Machine.execCommit agent tenant eng bank len entry ctag s
  | .select agent tenant eng bank ctag => Sys2Proof.Machine.execSelect agent tenant eng bank ctag s
  | .startService agent tenant eng ctag => Sys2Proof.Machine.execStartService agent tenant eng ctag s
  | .startNest agent tenant eng ctag => Sys2Proof.Machine.execStartNest agent tenant eng ctag s
  | .engHalt agent tenant eng ctag => Sys2Proof.Machine.execEngHalt agent tenant eng ctag s
  | .engResume agent tenant eng ctag => Sys2Proof.Machine.execEngResume agent tenant eng ctag s
  | .engStop agent tenant eng flip ctag => Sys2Proof.Machine.execEngStop agent tenant eng flip ctag s
  | .clearq agent tenant eng ctag => Sys2Proof.Machine.execClearq agent tenant eng ctag s
  | .engineDrainEnd eng => Sys2Proof.Machine.execEngineDrainEnd eng s
  | .engineWatchdog eng => Sys2Proof.Machine.execEngineWatchdog eng s
  | .aluAdd core thread => Sys2Proof.Machine.execAluAdd core thread s
  | .aluSub core thread => Sys2Proof.Machine.execAluSub core thread s
  | .aluAnd core thread => Sys2Proof.Machine.execAluAnd core thread s
  | .aluOr core thread => Sys2Proof.Machine.execAluOr core thread s
  | .aluXor core thread => Sys2Proof.Machine.execAluXor core thread s
  | .shl core thread => Sys2Proof.Machine.execShl core thread s
  | .shr core thread => Sys2Proof.Machine.execShr core thread s
  | .sar core thread => Sys2Proof.Machine.execSar core thread s
  | .mul core thread => Sys2Proof.Machine.execMul core thread s
  | .mulhu core thread => Sys2Proof.Machine.execMulhu core thread s
  | .minu core thread => Sys2Proof.Machine.execMinu core thread s
  | .maxu core thread => Sys2Proof.Machine.execMaxu core thread s
  | .mins core thread => Sys2Proof.Machine.execMins core thread s
  | .maxs core thread => Sys2Proof.Machine.execMaxs core thread s
  | .sltu core thread => Sys2Proof.Machine.execSltu core thread s
  | .slt core thread => Sys2Proof.Machine.execSlt core thread s
  | .ford core thread => Sys2Proof.Machine.execFord core thread s
  | .popc core thread => Sys2Proof.Machine.execPopc core thread s
  | .clz core thread => Sys2Proof.Machine.execClz core thread s
  | .hash core thread => Sys2Proof.Machine.execHash core thread s
  | .addi core thread => Sys2Proof.Machine.execAddi core thread s
  | .andi core thread => Sys2Proof.Machine.execAndi core thread s
  | .ori core thread => Sys2Proof.Machine.execOri core thread s
  | .xori core thread => Sys2Proof.Machine.execXori core thread s
  | .shli core thread => Sys2Proof.Machine.execShli core thread s
  | .shri core thread => Sys2Proof.Machine.execShri core thread s
  | .sari core thread => Sys2Proof.Machine.execSari core thread s
  | .movk core thread => Sys2Proof.Machine.execMovk core thread s
  | .ld core thread => Sys2Proof.Machine.execLd core thread s
  | .st core thread => Sys2Proof.Machine.execSt core thread s
  | .ldb core thread => Sys2Proof.Machine.execLdb core thread s
  | .stb core thread => Sys2Proof.Machine.execStb core thread s
  | .ldch core thread => Sys2Proof.Machine.execLdch core thread s
  | .wadd core thread => Sys2Proof.Machine.execWadd core thread s
  | .post core thread => Sys2Proof.Machine.execPost core thread s
  | .beq core thread => Sys2Proof.Machine.execBeq core thread s
  | .bne core thread => Sys2Proof.Machine.execBne core thread s
  | .blt core thread => Sys2Proof.Machine.execBlt core thread s
  | .bge core thread => Sys2Proof.Machine.execBge core thread s
  | .bltu core thread => Sys2Proof.Machine.execBltu core thread s
  | .bgeu core thread => Sys2Proof.Machine.execBgeu core thread s
  | .jal core thread => Sys2Proof.Machine.execJal core thread s
  | .jalr core thread => Sys2Proof.Machine.execJalr core thread s
  | .mfs core thread => Sys2Proof.Machine.execMfs core thread s
  | .texit core thread => Sys2Proof.Machine.execTexit core thread s
  | .ldacq core thread => Sys2Proof.Machine.execLdacq core thread s
  | .strel core thread => Sys2Proof.Machine.execStrel core thread s
  | .fence core thread => Sys2Proof.Machine.execFence core thread s
  | .amo64 core thread => Sys2Proof.Machine.execAmo64 core thread s
  | .amo32 core thread => Sys2Proof.Machine.execAmo32 core thread s
  | .walkerDataReturn core thread l1err stall => Sys2Proof.Machine.execWalkerDataReturn core thread l1err stall s
  | .walkerStoreAck core entry waited => Sys2Proof.Machine.execWalkerStoreAck core entry waited s
  | .taskStart core => Sys2Proof.Machine.execTaskStart core s
  | .walkerFlip core => Sys2Proof.Machine.execWalkerFlip core s
  | .taskWatchdog core thread => Sys2Proof.Machine.execTaskWatchdog core thread s
  | .walkerCoreRestart core runtime entry => Sys2Proof.Machine.execWalkerCoreRestart core runtime entry s
  | .kvPagePrepare req frames => Sys2Proof.Machine.execKvPagePrepare req frames s
  | .kvPrepareDone req => Sys2Proof.Machine.execKvPrepareDone req s
  | .submit => Sys2Proof.Machine.execSubmit s
  | .submitMatchDone req groupMin => Sys2Proof.Machine.execSubmitMatchDone req groupMin s
  | .cancel => Sys2Proof.Machine.execCancel s
  | .pause => Sys2Proof.Machine.execPause s
  | .reqResume => Sys2Proof.Machine.execReqResume s
  | .release => Sys2Proof.Machine.execRelease s
  | .setprio => Sys2Proof.Machine.execSetprio s
  | .setdeadline => Sys2Proof.Machine.execSetdeadline s
  | .setspec => Sys2Proof.Machine.execSetspec s
  | .query => Sys2Proof.Machine.execQuery s
  | .pin => Sys2Proof.Machine.execPin s
  | .unpin => Sys2Proof.Machine.execUnpin s
  | .cutterWrite => Sys2Proof.Machine.execCutterWrite s
  | .cutterClear => Sys2Proof.Machine.execCutterClear s
  | .stepStart slot => Sys2Proof.Machine.execStepStart slot s
  | .draftPhaseDone slot logits poisoned => Sys2Proof.Machine.execDraftPhaseDone slot logits poisoned s
  | .stepCommit slot outputs poisoned => Sys2Proof.Machine.execStepCommit slot outputs poisoned s
  | .stepDiscard slot => Sys2Proof.Machine.execStepDiscard slot s
  | .assign tenant => Sys2Proof.Machine.execAssign tenant s
  | .quiesce tenant => Sys2Proof.Machine.execQuiesce tenant s
  | .tenantResume tenant => Sys2Proof.Machine.execTenantResume tenant s
  | .tenantReset tenant byFault => Sys2Proof.Machine.execTenantReset tenant byFault s
  | .unassign tenant => Sys2Proof.Machine.execUnassign tenant s
  | .tenantResetDone tenant => Sys2Proof.Machine.execTenantResetDone tenant s
  | .apertureWrite tenant n value => Sys2Proof.Machine.execApertureWrite tenant n value s
  | .slotLoad slot head => Sys2Proof.Machine.execSlotLoad slot head s
  | .slotLoadDone slot status image => Sys2Proof.Machine.execSlotLoadDone slot status image s
  | .slotUnload slot => Sys2Proof.Machine.execSlotUnload slot s
  | .restoreFrameDone slot data bad => Sys2Proof.Machine.execRestoreFrameDone slot data bad s
  | .restoreTimeout slot => Sys2Proof.Machine.execRestoreTimeout slot s
  | .contextSwitch => Sys2Proof.Machine.execContextSwitch s
  | .contextSwitchDone => Sys2Proof.Machine.execContextSwitchDone s
  | .cadenceBoundary => Sys2Proof.Machine.execCadenceBoundary s
  | .cadenceInEdge stamp => Sys2Proof.Machine.execCadenceInEdge stamp s
  | .cadenceEdgeMissed => Sys2Proof.Machine.execCadenceEdgeMissed s
  | .fabricCadenceTimeout => Sys2Proof.Machine.execFabricCadenceTimeout s
  | .scheduleStep => Sys2Proof.Machine.execScheduleStep s
  | .reservationLapse => Sys2Proof.Machine.execReservationLapse s
  | .scheduleContext => Sys2Proof.Machine.execScheduleContext s
  | .scheduleActivate table => Sys2Proof.Machine.execScheduleActivate table s
  | .freqCorrection temp => Sys2Proof.Machine.execFreqCorrection temp s
  | .ppsInPulse stamp => Sys2Proof.Machine.execPpsInPulse stamp s
  | .ppsMissing => Sys2Proof.Machine.execPpsMissing s
  | .ptpTimeWrite time => Sys2Proof.Machine.execPtpTimeWrite time s
  | .ptpSyncSend => Sys2Proof.Machine.execPtpSyncSend s
  | .ptpDelayReq peer seq => Sys2Proof.Machine.execPtpDelayReq peer seq s
  | .ppsOutSecond => Sys2Proof.Machine.execPpsOutSecond s
  | .flitReceive port crcOk ftype vc seq ackseq cvc credits op dst src tenant priv ord addfmt fidx fcnt tag wmask addr words => Sys2Proof.Machine.execFlitReceive port crcOk ftype vc seq ackseq cvc credits op dst src tenant priv ord addfmt fidx fcnt tag wmask addr words s
  | .nakReceive port ackseq => Sys2Proof.Machine.execNakReceive port ackseq s
  | .portRetrain port => Sys2Proof.Machine.execPortRetrain port s
  | .portTrained port node dx dy dz serial names => Sys2Proof.Machine.execPortTrained port node dx dy dz serial names s
  | .portDownExpire port => Sys2Proof.Machine.execPortDownExpire port s
  | .fabricWrite => Sys2Proof.Machine.execFabricWrite s
  | .fabricRead => Sys2Proof.Machine.execFabricRead s
  | .fabricAdd => Sys2Proof.Machine.execFabricAdd s
  | .rdata => Sys2Proof.Machine.execRdata s
  | .ack => Sys2Proof.Machine.execAck s
  | .nack => Sys2Proof.Machine.execNack s
  | .linkstate port node version mask down => Sys2Proof.Machine.execLinkstate port node version mask down s
  | .fabricRequestTimeout tag => Sys2Proof.Machine.execFabricRequestTimeout tag s
  | .quarantineRelease port value => Sys2Proof.Machine.execQuarantineRelease port value s
  | .collPost poster tenant priv data => Sys2Proof.Machine.execCollPost poster tenant priv data s
  | .allreduce => Sys2Proof.Machine.execAllreduce s
  | .allgather => Sys2Proof.Machine.execAllgather s
  | .reducescatter => Sys2Proof.Machine.execReducescatter s
  | .broadcast => Sys2Proof.Machine.execBroadcast s
  | .collMessage rank desc isData data bad => Sys2Proof.Machine.execCollMessage rank desc isData data bad s
  | .collComplete => Sys2Proof.Machine.execCollComplete s
  | .collTimeout => Sys2Proof.Machine.execCollTimeout s
  | .tandemEnableWrite value => Sys2Proof.Machine.execTandemEnableWrite value s
  | .heartSend => Sys2Proof.Machine.execHeartSend s
  | .heart port seq partner priority applied vmin vmax => Sys2Proof.Machine.execHeart port seq partner priority applied vmin vmax s
  | .heartbeatTimeout => Sys2Proof.Machine.execHeartbeatTimeout s
  | .tandemLost => Sys2Proof.Machine.execTandemLost s
  | .tandemFenced => Sys2Proof.Machine.execTandemFenced s
  | .withdraw => Sys2Proof.Machine.execWithdraw s
  | .rejoin => Sys2Proof.Machine.execRejoin s
  | .mirrorAdmit seq req entry window digest keys => Sys2Proof.Machine.execMirrorAdmit seq req entry window digest keys s
  | .mirrorCommand seq req tenant data => Sys2Proof.Machine.execMirrorCommand seq req tenant data s
  | .mirrorAppend seq req draft lane pos kind frame data => Sys2Proof.Machine.execMirrorAppend seq req draft lane pos kind frame data s
  | .mirrorCommit seq slot step parts => Sys2Proof.Machine.execMirrorCommit seq slot step parts s
  | .mirrorCutter seq cutter gen tenant stamp data => Sys2Proof.Machine.execMirrorCutter seq cutter gen tenant stamp data s
  | .mirrorDict seq index sub stamp value => Sys2Proof.Machine.execMirrorDict seq index sub stamp value s
  | .mirrorPrefix seq what req draft tenant keys => Sys2Proof.Machine.execMirrorPrefix seq what req draft tenant keys s
  | .mirrorTime seq quality time freq period boundary => Sys2Proof.Machine.execMirrorTime seq quality time freq period boundary s
  | .mirrorCatchup seq req draft lane pos kind frame data => Sys2Proof.Machine.execMirrorCatchup seq req draft lane pos kind frame data s
  | .mirrorHandover seq slot => Sys2Proof.Machine.execMirrorHandover seq slot s
  | .mirrorAck seq marks mapped => Sys2Proof.Machine.execMirrorAck seq marks mapped s
  | .pairKeyAgree share signature partnerKey certificateOk => Sys2Proof.Machine.execPairKeyAgree share signature partnerKey certificateOk s
  | .doorbell tenant ring value => Sys2Proof.Machine.execDoorbell tenant ring value s
  | .ringEnable tenant ring value => Sys2Proof.Machine.execRingEnable tenant ring value s
  | .ringDisable tenant ring => Sys2Proof.Machine.execRingDisable tenant ring s
  | .ringDisableDone tenant ring => Sys2Proof.Machine.execRingDisableDone tenant ring s
  | .ringEntryTake host => Sys2Proof.Machine.execRingEntryTake host s
  | .ringAccessFail tenant ring => Sys2Proof.Machine.execRingAccessFail tenant ring s
  | .ipendClear tenant view index mask => Sys2Proof.Machine.execIpendClear tenant view index mask s
  | .itargetWrite tenant view index value => Sys2Proof.Machine.execItargetWrite tenant view index value s
  | .winWrite fn index value => Sys2Proof.Machine.execWinWrite fn index value s
  | .bar2Access fn offset len data ep => Sys2Proof.Machine.execBar2Access fn offset len data ep s
  | .bar0BadAccess fn write => Sys2Proof.Machine.execBar0BadAccess fn write s
  | .msixUnmask fn vec => Sys2Proof.Machine.execMsixUnmask fn vec s
  | .flr fn => Sys2Proof.Machine.execFlr fn s
  | .hostLinkDown => Sys2Proof.Machine.execHostLinkDown s
  | .perstNAssert => Sys2Proof.Machine.execPerstNAssert s
  | .l0pWidthChange width low high => Sys2Proof.Machine.execL0pWidthChange width low high s
  | .gpiEdge pin rise => Sys2Proof.Machine.execGpiEdge pin rise s
  | .inputGlitch input => Sys2Proof.Machine.execInputGlitch input s
  | .hello vlan prp net datagram => Sys2Proof.Machine.execHello vlan prp net datagram s
  | .prove vlan prp net datagram => Sys2Proof.Machine.execProve vlan prp net datagram s
  | .handshakeExpire number => Sys2Proof.Machine.execHandshakeExpire number s
  | .nirnarRead vlan prp net datagram => Sys2Proof.Machine.execNirnarRead vlan prp net datagram s
  | .nirnarWrite vlan prp net datagram host ok => Sys2Proof.Machine.execNirnarWrite vlan prp net datagram host ok s
  | .subscribe vlan prp net datagram => Sys2Proof.Machine.execSubscribe vlan prp net datagram s
  | .unsubscribe vlan prp net datagram => Sys2Proof.Machine.execUnsubscribe vlan prp net datagram s
  | .notify number index sub => Sys2Proof.Machine.execNotify number index sub s
  | .notifyAck vlan prp net datagram => Sys2Proof.Machine.execNotifyAck vlan prp net datagram s
  | .notifyResend number nseq => Sys2Proof.Machine.execNotifyResend number nseq s
  | .nirnarAbort vlan prp net datagram => Sys2Proof.Machine.execNirnarAbort vlan prp net datagram s
  | .close vlan prp net datagram => Sys2Proof.Machine.execClose vlan prp net datagram s
  | .keepalive vlan prp net datagram => Sys2Proof.Machine.execKeepalive vlan prp net datagram s
  | .sessionIdle number => Sys2Proof.Machine.execSessionIdle number s
  | .snapshotExpire mailbox who => Sys2Proof.Machine.execSnapshotExpire mailbox who s
  | .stagingExpire mailbox who => Sys2Proof.Machine.execStagingExpire mailbox who s
  | .presence vlan prp net datagram => Sys2Proof.Machine.execPresence vlan prp net datagram s
  | .presenceSend => Sys2Proof.Machine.execPresenceSend s
  | .prpSupervisionSend => Sys2Proof.Machine.execPrpSupervisionSend s
  | .arpRequest port vlan prp target sender senderMac => Sys2Proof.Machine.execArpRequest port vlan prp target sender senderMac s
  | .neighbourSolicitation port vlan prp target source => Sys2Proof.Machine.execNeighbourSolicitation port vlan prp target source s
  | .icmpEcho vlan prp net fragment ident seq data => Sys2Proof.Machine.execIcmpEcho vlan prp net fragment ident seq data s
  | .dictCmdRead fn index sub offset => Sys2Proof.Machine.execDictCmdRead fn index sub offset s
  | .dictCmdWrite fn final index sub offset host ok => Sys2Proof.Machine.execDictCmdWrite fn final index sub offset host ok s
  | .dictWrite index sub value => Sys2Proof.Machine.execDictWrite index sub value s
  | .journalWriteDone ok => Sys2Proof.Machine.execJournalWriteDone ok s
  | .regWrite ecs agent fn offset data ep host ok => Sys2Proof.Machine.execRegWrite ecs agent fn offset data ep host ok s
  | .arbiterEpoch => Sys2Proof.Machine.execArbiterEpoch s
  | .pmbusPoll rails => Sys2Proof.Machine.execPmbusPoll rails s
  | .sensorScan readings => Sys2Proof.Machine.execSensorScan readings s
  | .dieCapUpdate => Sys2Proof.Machine.execDieCapUpdate s
  | .vrefCorrection => Sys2Proof.Machine.execVrefCorrection s
  | .thermalHoldEnd => Sys2Proof.Machine.execThermalHoldEnd s
  | .pwrgdRise => Sys2Proof.Machine.execPwrgdRise s
  | .pwrgdFall => Sys2Proof.Machine.execPwrgdFall s
  | .resetToRom => Sys2Proof.Machine.execResetToRom s
  | .romBootDone agree trained => Sys2Proof.Machine.execRomBootDone agree trained s
  | .configDone => Sys2Proof.Machine.execConfigDone s
  | .sysrefLoss => Sys2Proof.Machine.execSysrefLoss s
  | .deviceResetCmd => Sys2Proof.Machine.execDeviceResetCmd s
  | .deviceEnterTest => Sys2Proof.Machine.execDeviceEnterTest s
  | .leaveTest => Sys2Proof.Machine.execLeaveTest s
  | .deviceStartService => Sys2Proof.Machine.execDeviceStartService s
  | .stopService => Sys2Proof.Machine.execStopService s
  | .selftestUnitStart mv khz => Sys2Proof.Machine.execSelftestUnitStart mv khz s
  | .selftestUnitDone kind stack index signature pass badRows identityOk => Sys2Proof.Machine.execSelftestUnitDone kind stack index signature pass badRows identityOk s
  | .selftestRetry mv khz => Sys2Proof.Machine.execSelftestRetry mv khz s
  | .runRequest data => Sys2Proof.Machine.execRunRequest data s
  | .runDone => Sys2Proof.Machine.execRunDone s
  | .coreHeartbeatCheck checker changed => Sys2Proof.Machine.execCoreHeartbeatCheck checker changed s
  | .serviceCoreRestartDone core => Sys2Proof.Machine.execServiceCoreRestartDone core s
  | .serviceCoresDead => Sys2Proof.Machine.execServiceCoresDead s
  | .deviceRecovery => Sys2Proof.Machine.execDeviceRecovery s
  | .recoveryDone => Sys2Proof.Machine.execRecoveryDone s
  | .recoveryTimeout => Sys2Proof.Machine.execRecoveryTimeout s
  | .fatalReset => Sys2Proof.Machine.execFatalReset s
  | .recoveryWindowClose => Sys2Proof.Machine.execRecoveryWindowClose s
  | .faultSummaryWrite value => Sys2Proof.Machine.execFaultSummaryWrite value s
  | .ringClear value => Sys2Proof.Machine.execRingClear value s
  | .healthHourly mv ro em => Sys2Proof.Machine.execHealthHourly mv ro em s
  | .eyeScan lanes => Sys2Proof.Machine.execEyeScan lanes s
  | .retentionProbe st => Sys2Proof.Machine.execRetentionProbe st s
  | .retentionHoldEnd st valid => Sys2Proof.Machine.execRetentionHoldEnd st valid s
  | .dailyPoint => Sys2Proof.Machine.execDailyPoint s
  | .rebaseLinks value => Sys2Proof.Machine.execRebaseLinks value s
  | .getVersion fn => Sys2Proof.Machine.execGetVersion fn s
  | .getCapabilities fn request => Sys2Proof.Machine.execGetCapabilities fn request s
  | .negotiateAlgorithms fn asym hash dhe aead request => Sys2Proof.Machine.execNegotiateAlgorithms fn asym hash dhe aead request s
  | .getDigests fn => Sys2Proof.Machine.execGetDigests fn s
  | .getCertificate fn slot offset length => Sys2Proof.Machine.execGetCertificate fn slot offset length s
  | .spdmChallenge fn slot nonce => Sys2Proof.Machine.execSpdmChallenge fn slot nonce s
  | .getMeasurements fn operation sign nonce => Sys2Proof.Machine.execGetMeasurements fn operation sign nonce s
  | .keyExchange fn slot share => Sys2Proof.Machine.execKeyExchange fn slot share s
  | .finish fn session verify => Sys2Proof.Machine.execFinish fn session verify s
  | .keyUpdate fn session operation => Sys2Proof.Machine.execKeyUpdate fn session operation s
  | .spdmHeartbeat fn session => Sys2Proof.Machine.execSpdmHeartbeat fn session s
  | .endSession fn session => Sys2Proof.Machine.execEndSession fn session s
  | .vendorDefined fn session protocol op arg key => Sys2Proof.Machine.execVendorDefined fn session protocol op arg key s
  | .quoteNonceWrite mailbox who nonce => Sys2Proof.Machine.execQuoteNonceWrite mailbox who nonce s
  | .quoteRead mailbox who => Sys2Proof.Machine.execQuoteRead mailbox who s
  | .stageManifest manifest => Sys2Proof.Machine.execStageManifest manifest s
  | .chunk data ok => Sys2Proof.Machine.execChunk data ok s
  | .updateVerifyDone => Sys2Proof.Machine.execUpdateVerifyDone s
  | .activate => Sys2Proof.Machine.execActivate s
  | .updateCancel => Sys2Proof.Machine.execUpdateCancel s
  | .activationDone => Sys2Proof.Machine.execActivationDone s
  | .activationFailed started => Sys2Proof.Machine.execActivationFailed started s
  | .confirm value => Sys2Proof.Machine.execConfirm value s
  | .recoveryData offset data final => Sys2Proof.Machine.execRecoveryData offset data final s
  | .recoveryDatagram datagram => Sys2Proof.Machine.execRecoveryDatagram datagram s
  | .recoveryStatusRequest => Sys2Proof.Machine.execRecoveryStatusRequest s
  | .recoveryPackageCheck => Sys2Proof.Machine.execRecoveryPackageCheck s
  | .slotSigningKeyWrite n key => Sys2Proof.Machine.execSlotSigningKeyWrite n key s
  | .entdaa address => Sys2Proof.Machine.execEntdaa address s
  | .pldmBaseDiscovery ty command arg => Sys2Proof.Machine.execPldmBaseDiscovery ty command arg s
  | .pldmSensorRead command sensor => Sys2Proof.Machine.execPldmSensorRead command sensor s
  | .pldmFruRead command => Sys2Proof.Machine.execPldmFruRead command s
  | .bypass => Sys2Proof.Machine.execBypass s
  | .idcode => Sys2Proof.Machine.execIdcode s
  | .samplePreload levels pattern => Sys2Proof.Machine.execSamplePreload levels pattern s
  | .extest => Sys2Proof.Machine.execExtest s
  | .clamp => Sys2Proof.Machine.execClamp s
  | .highz => Sys2Proof.Machine.execHighz s
  | .extestPulse => Sys2Proof.Machine.execExtestPulse s
  | .extestTrain => Sys2Proof.Machine.execExtestTrain s
  | .hostLinkUp speed width => Sys2Proof.Machine.execHostLinkUp speed width s
  | .perstNRelease => Sys2Proof.Machine.execPerstNRelease s
  | .pcieConfigWrite field fn value => Sys2Proof.Machine.execPcieConfigWrite field fn value s
  | .portLossOfSignal port => Sys2Proof.Machine.execPortLossOfSignal port s
  | .mirrorTimeout => Sys2Proof.Machine.execMirrorTimeout s
  | .serviceCoreFault core => Sys2Proof.Machine.execServiceCoreFault core s
  | .grandmasterAnnounce epoch period time => Sys2Proof.Machine.execGrandmasterAnnounce epoch period time s
  | .withdrawWaitExpire => Sys2Proof.Machine.execWithdrawWaitExpire s

end Sys2Proof.Machine
end

