-- ==== Sys2Proof/Machine/Step.lean ====
section
/-!
DEFINITION. One step: the command at the front of the queue runs; on an empty queue one nanosecond passes.
-/

namespace Sys2Proof.Machine

/-- The state with the queue's first command taken. -/
def State.withPending (s : State) (q : List Instr) : State := { s with pending := q }

/-- An idle nanosecond: the device's clock and its PTP time advance (log 5). -/
def idle (s : State) : State := { s with now := s.now + 1, ptp := s.ptp + 1 }

/-- One step. -/
def step (s : State) : Host.Outcome State Fault Refusal :=
  match s.pending with
  | [] => .next (idle s)
  | c :: rest => exec c (s.withPending rest)

/-- `s` with the command that a table word spells put at the front of the queue; no row of the table gives bits, so no
word spells a command. (DESIGN CHOICE, log 8.) -/
def State.withFetchWord (s : State) (nbits w : Nat) : State :=
  match Sys2Proof.decodeTableWord nbits w with
  | some c => { s with pending := c :: s.pending }
  | none => s

end Sys2Proof.Machine
end

