-- ==== Sys2Proof/Safety.lean ====
section
/-!
DEFINITION. What a safe run is: every step answers a next state. The form of memory that every run keeps.
-/

namespace Sys2Proof

/-- The machine takes its next step without a fault or a refusal. -/
def safeStep (s : Machine.State) : Prop := ∃ t, Machine.step s = .next t

/-- The memories of a stack are in canonical form: its cells, its spare columns and its valid bits. -/
def Machine.Stack.wf (x : Machine.Stack) : Bool :=
  Machine.mapWf 0 x.cells && Machine.mapWf 0 x.colCells && Machine.mapWf false x.rowValid

/-- Every memory is in canonical form: the stacks, the stockpots, the walkers' local memories, the ladle buffers and the merge memories. -/
def Machine.Memory.wf (s : Machine.State) : Bool :=
  Machine.mapWf {} s.stackMap && s.stackMap.all (fun e => e.2.wf) && Machine.mapWf 0 s.pots && Machine.mapWf 0 s.locals &&
    Machine.mapWf 0 s.buffers && Machine.mapWf 0 s.merges

end Sys2Proof
end

