-- ==== Sys2Proof/WellFormed.lean ====
section
/-!
DEFINITION. Which commands are well-formed: those that name units the device has and carry data of the form their row gives. A command that
names none changes nothing.
-/

namespace Sys2Proof

open Sys2Proof.Machine

/-- Places where a queue entry of 64 B is posted (R338). -/
def postsEntry : PostTarget → Bool
  | .seq _ => true
  | .core _ => true
  | .taskPool _ => true
  | _ => false

/-- Places where a move is posted (R339). -/
def postsMove : PostTarget → Bool
  | .move _ _ => true
  | _ => false

/-- Bytes of a BAR2 access: those written, or the length read. -/
def accessLength (data : Option (List Byte)) (len : Nat) : Nat :=
  match data with
  | some d => d.length
  | none => len

/-- A datagram of a row of R581: one with the row's opcode, or one that no row has an opcode for. -/
def frameFits (op : Nat) (d : List Byte) : Bool :=
  !(isFrame d) || u8 d 3 == op || !(u8 d 3 == 1 || u8 d 3 == 3 || u8 d 3 == 0x40 || clientOps.contains (u8 d 3))

/-- A register write: to engine control space by an agent that writes it, of at most 64 B within it, or within the function's BAR0. -/
def regWriteFits (ecs : Bool) (agent fn offset : Nat) (data : List Byte) : Bool :=
  decide (fn < 64) && decide (0 < data.length) &&
    (if ecs then writesEcs agent fn && decide (offset + data.length ≤ 2 ^ 32) && decide (data.length ≤ 64)
    else decide (offset + data.length ≤ bar0Size fn))

/-- Whether a command is well-formed. (DESIGN CHOICE, log 11.) -/
def wellFormed : Instr → Bool
  | .loadcol _ _ _ _ => true
  | .loadrow _ _ _ _ => true
  | .fillcol _ _ _ => true
  | .fillrow _ _ _ => true
  | .setout _ => true
  | .scaleSlotComplete => true
  | .mm _ _ => true
  | .wload _ => true
  | .gridOpStart _ => true
  | .wloadComplete => true
  | .mmComplete => true
  | .rerunComplete => true
  | .stackAccess _ _ addr len data _ _ => decide (0 < len) && decide (addr < potWest) && addr / 2048 == (addr + len - 1) / 2048 && data.all (fun bs => bs.length == len)
  | .addBurstRequest _ _ _ _ _ _ => true
  | .refresh st bank => decide (st < 8) && decide (bank < 2048)
  | .segModeChange st _ _ => decide (st < 8)
  | .segModeChangeDone st => decide (st < 8)
  | .stkRprDataWrite st _ => decide (st < 8)
  | .rowcopy st _ => decide (st < 8)
  | .rowinit st _ => decide (st < 8)
  | .rowlogic st _ => decide (st < 8)
  | .gemv4 st _ => decide (st < 8)
  | .score st _ => decide (st < 8)
  | .axpy st _ => decide (st < 8)
  | .ewise st _ => decide (st < 8)
  | .normstat st _ => decide (st < 8)
  | .normapply st _ => decide (st < 8)
  | .rope st _ => decide (st < 8)
  | .quant st _ => decide (st < 8)
  | .cutapply st _ => decide (st < 8)
  | .merge st _ => decide (st < 8)
  | .rowBoundary st bank => decide (st < 8) && decide (bank < 2048)
  | .vectorSliceArrive st bank _ => decide (st < 8) && decide (bank < 2048)
  | .ladleResume st bank => decide (st < 8) && decide (bank < 2048)
  | .ladleSlotComplete st => decide (st < 8)
  | .frameRetireComplete st => decide (st < 8)
  | .retirePendingDonor st => decide (st < 8)
  | .fieldRepairWrite => true
  | .whiskRow st bank _ => (decide (st < 8) && decide (bank < 2048)) || st == 8 || st == 9
  | .whiskSlow st => decide (st < 8)
  | .frameEnterTest _ _ st _ => decide (st < 8)
  | .frameTestEntered st => decide (st < 8)
  | .frameLeaveTest _ _ st _ => decide (st < 8)
  | .wrdata _ _ st => decide (st < 8)
  | .wrchk _ _ st => decide (st < 8)
  | .wrboth _ _ st => decide (st < 8)
  | .rdraw _ _ st => decide (st < 8)
  | .rddec _ _ st => decide (st < 8)
  | .moveCopy m _ _ => decide (m < 32)
  | .moveAdd m _ _ => decide (m < 32)
  | .moveDiscard m => decide (m < 32)
  | .moverDescStart m => decide (m < 32)
  | .moverDescComplete m => decide (m < 32)
  | .moverHostError m _ _ _ => decide (m < 32)
  | .discardApplied m => decide (m < 32)
  | .seqQueuePost _ _ _ _ addr _ => postsEntry (postTargetOf (addr / 64 * 64))
  | .moverQueuePost _ _ _ addr _ => postsMove (postTargetOf addr)
  | .qentryStep eng => isSeq eng
  | .qentryCall eng => isSeq eng
  | .qentryFlip eng => isSeq eng
  | .stepWordIssue eng => isSeq eng
  | .syncWaitEnd eng => isSeq eng
  | .syncMemPoll eng => isSeq eng
  | .movePost eng => isSeq eng
  | .seta eng _ _ => isSeq eng
  | .adda eng _ _ _ => isSeq eng
  | .setc eng _ _ => isSeq eng
  | .maddc eng _ _ _ _ => isSeq eng
  | .jump eng _ => isSeq eng
  | .loop eng _ _ => isSeq eng
  | .jcz eng _ _ => isSeq eng
  | .call eng _ => isSeq eng
  | .ret eng => isSeq eng
  | .bankflip eng => isSeq eng
  | .ctrlHalt eng => isSeq eng
  | .ctrlStop eng _ => isSeq eng
  | .nest eng => isSeq eng
  | .entryComplete eng => isSeq eng
  | .commit _ _ eng _ _ _ _ => isProgrammed eng
  | .select _ _ eng _ _ => isProgrammed eng
  | .startService _ _ eng _ => isProgrammed eng
  | .startNest _ _ eng _ => isProgrammed eng
  | .engHalt _ _ eng _ => isProgrammed eng
  | .engResume _ _ eng _ => isProgrammed eng
  | .engStop _ _ eng _ _ => isProgrammed eng
  | .clearq _ _ eng _ => isProgrammed eng
  | .engineDrainEnd eng => isProgrammed eng
  | .engineWatchdog eng => isSeq eng
  | .aluAdd core thread => decide (core < 64) && decide (thread < 64)
  | .aluSub core thread => decide (core < 64) && decide (thread < 64)
  | .aluAnd core thread => decide (core < 64) && decide (thread < 64)
  | .aluOr core thread => decide (core < 64) && decide (thread < 64)
  | .aluXor core thread => decide (core < 64) && decide (thread < 64)
  | .shl core thread => decide (core < 64) && decide (thread < 64)
  | .shr core thread => decide (core < 64) && decide (thread < 64)
  | .sar core thread => decide (core < 64) && decide (thread < 64)
  | .mul core thread => decide (core < 64) && decide (thread < 64)
  | .mulhu core thread => decide (core < 64) && decide (thread < 64)
  | .minu core thread => decide (core < 64) && decide (thread < 64)
  | .maxu core thread => decide (core < 64) && decide (thread < 64)
  | .mins core thread => decide (core < 64) && decide (thread < 64)
  | .maxs core thread => decide (core < 64) && decide (thread < 64)
  | .sltu core thread => decide (core < 64) && decide (thread < 64)
  | .slt core thread => decide (core < 64) && decide (thread < 64)
  | .ford core thread => decide (core < 64) && decide (thread < 64)
  | .popc core thread => decide (core < 64) && decide (thread < 64)
  | .clz core thread => decide (core < 64) && decide (thread < 64)
  | .hash core thread => decide (core < 64) && decide (thread < 64)
  | .addi core thread => decide (core < 64) && decide (thread < 64)
  | .andi core thread => decide (core < 64) && decide (thread < 64)
  | .ori core thread => decide (core < 64) && decide (thread < 64)
  | .xori core thread => decide (core < 64) && decide (thread < 64)
  | .shli core thread => decide (core < 64) && decide (thread < 64)
  | .shri core thread => decide (core < 64) && decide (thread < 64)
  | .sari core thread => decide (core < 64) && decide (thread < 64)
  | .movk core thread => decide (core < 64) && decide (thread < 64)
  | .ld core thread => decide (core < 64) && decide (thread < 64)
  | .st core thread => decide (core < 64) && decide (thread < 64)
  | .ldb core thread => decide (core < 64) && decide (thread < 64)
  | .stb core thread => decide (core < 64) && decide (thread < 64)
  | .ldch core thread => decide (core < 64) && decide (thread < 64)
  | .wadd core thread => decide (core < 64) && decide (thread < 64)
  | .post core thread => decide (core < 64) && decide (thread < 64)
  | .beq core thread => decide (core < 64) && decide (thread < 64)
  | .bne core thread => decide (core < 64) && decide (thread < 64)
  | .blt core thread => decide (core < 64) && decide (thread < 64)
  | .bge core thread => decide (core < 64) && decide (thread < 64)
  | .bltu core thread => decide (core < 64) && decide (thread < 64)
  | .bgeu core thread => decide (core < 64) && decide (thread < 64)
  | .jal core thread => decide (core < 64) && decide (thread < 64)
  | .jalr core thread => decide (core < 64) && decide (thread < 64)
  | .mfs core thread => decide (core < 64) && decide (thread < 64)
  | .texit core thread => decide (core < 64) && decide (thread < 64)
  | .ldacq core thread => decide (core < 64) && decide (thread < 64)
  | .strel core thread => decide (core < 64) && decide (thread < 64)
  | .fence core thread => decide (core < 64) && decide (thread < 64)
  | .amo64 core thread => decide (core < 64) && decide (thread < 64)
  | .amo32 core thread => decide (core < 64) && decide (thread < 64)
  | .walkerDataReturn core thread _ _ => decide (core < 64) && decide (thread < 64)
  | .walkerStoreAck core _ _ => decide (core < 64)
  | .taskStart core => decide (core < 64)
  | .walkerFlip core => decide (core < 64)
  | .taskWatchdog core thread => decide (core < 64) && decide (thread < 64)
  | .walkerCoreRestart core _ _ => decide (core < 64)
  | .kvPagePrepare req _ => decide (req < 16384)
  | .kvPrepareDone req => decide (req < 16384)
  | .submit => true
  | .submitMatchDone _ _ => true
  | .cancel => true
  | .pause => true
  | .reqResume => true
  | .release => true
  | .setprio => true
  | .setdeadline => true
  | .setspec => true
  | .query => true
  | .pin => true
  | .unpin => true
  | .cutterWrite => true
  | .cutterClear => true
  | .stepStart slot => decide (slot < 16)
  | .draftPhaseDone slot _ _ => decide (slot < 16)
  | .stepCommit slot _ _ => decide (slot < 16)
  | .stepDiscard slot => decide (slot < 16)
  | .assign tenant => decide (tenant < 64)
  | .quiesce tenant => decide (tenant < 64)
  | .tenantResume tenant => decide (tenant < 64)
  | .tenantReset tenant _ => decide (tenant < 64)
  | .unassign tenant => decide (tenant < 64)
  | .tenantResetDone tenant => decide (tenant < 64)
  | .apertureWrite tenant n _ => decide (tenant < 64) && decide (1 ≤ n) && decide (n ≤ 64)
  | .slotLoad slot _ => decide (slot < 16)
  | .slotLoadDone slot _ _ => decide (slot < 16)
  | .slotUnload slot => decide (slot < 16)
  | .restoreFrameDone slot _ _ => decide (slot < 16)
  | .restoreTimeout slot => decide (slot < 16)
  | .contextSwitch => true
  | .contextSwitchDone => true
  | .cadenceBoundary => true
  | .cadenceInEdge _ => true
  | .cadenceEdgeMissed => true
  | .fabricCadenceTimeout => true
  | .scheduleStep => true
  | .reservationLapse => true
  | .scheduleContext => true
  | .scheduleActivate _ => true
  | .freqCorrection _ => true
  | .ppsInPulse _ => true
  | .ppsMissing => true
  | .ptpTimeWrite _ => true
  | .ptpSyncSend => true
  | .ptpDelayReq _ _ => true
  | .ppsOutSecond => true
  | .flitReceive port _ _ _ _ _ _ _ _ _ _ _ _ _ _ _ _ _ _ _ _ => isPort port
  | .nakReceive port _ => isPort port
  | .portRetrain port => isPort port
  | .portTrained port _ _ _ _ _ _ => isPort port
  | .portDownExpire port => isPort port
  | .fabricWrite => true
  | .fabricRead => true
  | .fabricAdd => true
  | .rdata => true
  | .ack => true
  | .nack => true
  | .linkstate port _ _ _ _ => isFabricPort port
  | .fabricRequestTimeout _ => true
  | .quarantineRelease port _ => isPort port
  | .collPost _ _ _ data => data.length == 64
  | .allreduce => true
  | .allgather => true
  | .reducescatter => true
  | .broadcast => true
  | .collMessage _ _ _ _ _ => true
  | .collComplete => true
  | .collTimeout => true
  | .tandemEnableWrite _ => true
  | .heartSend => true
  | .heart port _ _ _ _ _ _ => decide (port < 2)
  | .heartbeatTimeout => true
  | .tandemLost => true
  | .tandemFenced => true
  | .withdraw => true
  | .rejoin => true
  | .mirrorAdmit _ _ _ _ _ _ => true
  | .mirrorCommand _ _ _ _ => true
  | .mirrorAppend _ _ _ _ _ _ _ _ => true
  | .mirrorCommit _ _ _ _ => true
  | .mirrorCutter _ _ _ _ _ _ => true
  | .mirrorDict _ _ _ _ _ => true
  | .mirrorPrefix _ _ _ _ _ _ => true
  | .mirrorTime _ _ _ _ _ _ => true
  | .mirrorCatchup _ _ _ _ _ _ _ _ => true
  | .mirrorHandover _ _ => true
  | .mirrorAck _ _ _ => true
  | .pairKeyAgree _ _ _ _ => true
  | .doorbell tenant ring _ => decide (tenant < 64) && decide (ring < 1024)
  | .ringEnable tenant ring _ => decide (tenant < 64) && decide (ring < 1024)
  | .ringDisable tenant ring => decide (tenant < 64) && decide (ring < 1024)
  | .ringDisableDone tenant ring => decide (tenant < 64) && decide (ring < 1024)
  | .ringEntryTake _ => true
  | .ringAccessFail tenant ring => decide (tenant < 64) && decide (ring < 1024)
  | .ipendClear tenant view index _ => decide (tenant < 64) && decide (index < 32) && (view || tenant == 0)
  | .itargetWrite tenant view index _ => decide (tenant < 64) && decide (index < 2048) && (view || tenant == 0)
  | .winWrite fn index _ => decide (fn < 64) && decide (index < 64)
  | .bar2Access fn _ len data _ => decide (fn < 64) && decide (0 < accessLength data len)
  | .bar0BadAccess fn _ => decide (fn < 64)
  | .msixUnmask fn vec => decide (fn < 64) && decide (vec < msixSize fn)
  | .flr fn => decide (fn < 64)
  | .hostLinkDown => true
  | .perstNAssert => true
  | .l0pWidthChange _ _ _ => true
  | .gpiEdge pin _ => decide (pin < 8)
  | .inputGlitch input => decide (input < 10)
  | .hello _ _ _ datagram => frameFits 1 datagram
  | .prove _ _ _ datagram => frameFits 3 datagram
  | .handshakeExpire _ => true
  | .nirnarRead _ _ _ datagram => frameFits 0x10 datagram
  | .nirnarWrite _ _ _ datagram _ _ => frameFits 0x12 datagram
  | .subscribe _ _ _ datagram => frameFits 0x18 datagram
  | .unsubscribe _ _ _ datagram => frameFits 0x19 datagram
  | .notify _ _ _ => true
  | .notifyAck _ _ _ datagram => frameFits 0x1B datagram
  | .notifyResend _ _ => true
  | .nirnarAbort _ _ _ datagram => frameFits 0x20 datagram
  | .close _ _ _ datagram => frameFits 0x21 datagram
  | .keepalive _ _ _ datagram => frameFits 0x30 datagram
  | .sessionIdle _ => true
  | .snapshotExpire _ _ => true
  | .stagingExpire _ _ => true
  | .presence _ _ _ datagram => frameFits 0x40 datagram
  | .presenceSend => true
  | .prpSupervisionSend => true
  | .arpRequest _ _ _ _ _ _ => true
  | .neighbourSolicitation _ _ _ _ _ => true
  | .icmpEcho _ _ _ _ _ _ _ => true
  | .dictCmdRead fn _ _ _ => decide (fn < 64)
  | .dictCmdWrite fn _ _ _ _ _ _ => decide (fn < 64)
  | .dictWrite index sub _ => decide (index < 65536) && decide (sub < 256)
  | .journalWriteDone _ => true
  | .regWrite ecs agent fn offset data _ _ _ => regWriteFits ecs agent fn offset data
  | .arbiterEpoch => true
  | .pmbusPoll rails => rails.length == 8 && rails.all (fun r => decide (r.1 ≤ 2))
  | .sensorScan readings => readings.length == 656
  | .dieCapUpdate => true
  | .vrefCorrection => true
  | .thermalHoldEnd => true
  | .pwrgdRise => true
  | .pwrgdFall => true
  | .resetToRom => true
  | .romBootDone _ trained => trained.length == 8
  | .configDone => true
  | .sysrefLoss => true
  | .deviceResetCmd => true
  | .deviceEnterTest => true
  | .leaveTest => true
  | .deviceStartService => true
  | .stopService => true
  | .selftestUnitStart _ _ => true
  | .selftestUnitDone _ _ _ _ _ _ _ => true
  | .selftestRetry _ _ => true
  | .runRequest _ => true
  | .runDone => true
  | .coreHeartbeatCheck checker _ => decide (checker ≤ 1)
  | .serviceCoreRestartDone core => decide (core ≤ 1)
  | .serviceCoresDead => true
  | .deviceRecovery => true
  | .recoveryDone => true
  | .recoveryTimeout => true
  | .fatalReset => true
  | .recoveryWindowClose => true
  | .faultSummaryWrite _ => true
  | .ringClear _ => true
  | .healthHourly _ _ _ => true
  | .eyeScan _ => true
  | .retentionProbe st => decide (st < 8)
  | .retentionHoldEnd st _ => decide (st < 8)
  | .dailyPoint => true
  | .rebaseLinks _ => true
  | .getVersion fn => decide (fn < 64)
  | .getCapabilities fn _ => decide (fn < 64)
  | .negotiateAlgorithms fn _ _ _ _ _ => decide (fn < 64)
  | .getDigests fn => decide (fn < 64)
  | .getCertificate fn _ _ _ => decide (fn < 64)
  | .spdmChallenge fn _ _ => decide (fn < 64)
  | .getMeasurements fn _ _ _ => decide (fn < 64)
  | .keyExchange fn _ _ => decide (fn < 64)
  | .finish fn _ _ => decide (fn < 64)
  | .keyUpdate fn _ _ => decide (fn < 64)
  | .spdmHeartbeat fn _ => decide (fn < 64)
  | .endSession fn _ => decide (fn < 64)
  | .vendorDefined fn _ _ _ _ _ => decide (fn < 64)
  | .quoteNonceWrite _ _ _ => true
  | .quoteRead _ _ => true
  | .stageManifest _ => true
  | .chunk _ _ => true
  | .updateVerifyDone => true
  | .activate => true
  | .updateCancel => true
  | .activationDone => true
  | .activationFailed _ => true
  | .confirm _ => true
  | .recoveryData _ _ _ => true
  | .recoveryDatagram _ => true
  | .recoveryStatusRequest => true
  | .recoveryPackageCheck => true
  | .slotSigningKeyWrite n _ => decide (1 ≤ n) && decide (n ≤ 8)
  | .entdaa address => decide (address < 128)
  | .pldmBaseDiscovery _ _ _ => true
  | .pldmSensorRead _ _ => true
  | .pldmFruRead _ => true
  | .bypass => true
  | .idcode => true
  | .samplePreload _ _ => true
  | .extest => true
  | .clamp => true
  | .highz => true
  | .extestPulse => true
  | .extestTrain => true
  | .hostLinkUp speed width => decide (1 ≤ speed) && decide (speed ≤ 7) && [1, 2, 4, 8, 16].contains width
  | .perstNRelease => true
  | .pcieConfigWrite field fn value => configOk field fn value
  | .portLossOfSignal port => isPort port
  | .mirrorTimeout => true
  | .serviceCoreFault core => decide (core ≤ 1)
  | .grandmasterAnnounce _ _ _ => true
  | .withdrawWaitExpire => true

end Sys2Proof
end

