-- ==== Sys2Proof/Certificates/Slice0/Obligations.lean ====
section
/-!
DEFINITION. The statements for the provers.
-/

open Sys2Proof Sys2Proof.Machine

/-- A step runs the command at the front of the queue; with none waiting one nanosecond passes (the model's choice, log 5) (95_what_each_step_holds.md; 16_dictionary.md R593) -/
def Obligations.FrontCommandRuns : Prop :=
  (∀ (c : Instr) (rest : List Instr) (s : State), s.pending = c :: rest → step s = exec c (s.withPending rest)) ∧
    ∀ s : State, s.pending = [] → step s = .next { s with now := s.now + 1, ptp := s.ptp + 1 }

/-- The machine right after reset, every memory in canonical form (18_start_up.md R624, R625, R667; 19_faults.md R663, R666; 17_power_thermal.md; 16_dictionary.md R589) -/
def Obligations.ResetState : Prop :=
  State.reset.dev = .reset ∧ State.reset.pending = [] ∧ State.reset.stackMap = [] ∧ State.reset.pots = [] ∧ State.reset.locals = [] ∧
    State.reset.buffers = [] ∧ State.reset.faults.summary = 0 ∧ State.reset.faults.ring = [] ∧ State.reset.faults.seq = 0 ∧
    State.reset.faults.window = none ∧ State.reset.faults.activeCore = 0 ∧ State.reset.irq.pend = [] ∧ State.reset.engines = [] ∧
    State.reset.walkers = [] ∧ State.reset.movers = [] ∧ State.reset.slots = [] ∧ State.reset.reqs = [] ∧ State.reset.rings = [] ∧
    State.reset.tenants = [] ∧ Memory.wf State.reset = true ∧
    ∀ index sub : Nat, dget State.reset index sub = dictDefault (dk index sub)

/-- Every command is answered by a next state, in every state (95_what_each_step_holds.md; 15_host_interface.md R548; 16_dictionary.md R602) -/
def Obligations.EveryCommandAnswers : Prop :=
  (∀ (c : Instr) (s : State), ∃ t, exec c s = .next t) ∧ ∀ s : State, ∃ t, step s = .next t

/-- No command touches the queue of the commands that wait (95_what_each_step_holds.md) -/
def Obligations.QueueIsLeftAlone : Prop :=
  ∀ (c : Instr) (s t : State), exec c s = .next t → t.pending = s.pending

/-- Every step keeps every memory in its canonical form (08_memory_model.md; 04_stacks.md R219 to R221; 06_word_code.md) -/
def Obligations.MemoryStaysCanonical : Prop :=
  ∀ s t : State, Memory.wf s = true → step s = .next t → Memory.wf t = true

/-- SCALE slots take effect and complete (02_numbers.md R37 to R42) -/
def Obligations.ScaleSlotsComplete : Prop :=
  (∀ (s : State) (o : ScaleOp), nextScale s.grid = some o → (scaleSlot o.bits).op = 1 →
    let f := scaleSlot o.bits
    let r := readRunBits s 0 (tenantOfSlot s 0 o.no) (8 * (potWest + f.src)) (8 * scaleElemBytes f.sfmt) f.count
    exec (.loadcol f.sfmt f.first f.count f.src) s = .next (r.2.updGrid (fun g =>
      scaleLoaded { g with scales := writeScales false f.sfmt f.first r.1 g.scales } o.no (if r.1.any (·.2) then 0x320 else 0)))) ∧
  (∀ (s : State) (o : ScaleOp), nextScale s.grid = some o → (scaleSlot o.bits).op = 2 →
    let f := scaleSlot o.bits
    let r := readRunBits s 0 (tenantOfSlot s 0 o.no) (8 * (potWest + f.src)) (8 * scaleElemBytes f.sfmt) f.count
    exec (.loadrow f.sfmt f.first f.count f.src) s = .next (r.2.updGrid (fun g =>
      scaleLoaded { g with scales := writeScales true f.sfmt f.first r.1 g.scales } o.no (if r.1.any (·.2) then 0x320 else 0)))) ∧
  (∀ (s : State) (o : ScaleOp) (v : Word32), nextScale s.grid = some o → (scaleSlot o.bits).op = 3 →
    v.toNat = (scaleSlot o.bits).value →
    let f := scaleSlot o.bits
    exec (.fillcol f.first f.count v) s = .next (s.updGrid (fun g => scaleLoaded
      { g with scales := writeScales false 0 f.first (List.replicate f.count (v.toNat, false)) g.scales } o.no 0))) ∧
  (∀ (s : State) (o : ScaleOp) (v : Word32), nextScale s.grid = some o → (scaleSlot o.bits).op = 4 →
    v.toNat = (scaleSlot o.bits).value →
    let f := scaleSlot o.bits
    exec (.fillrow f.first f.count v) s = .next (s.updGrid (fun g => scaleLoaded
      { g with scales := writeScales true 0 f.first (List.replicate f.count (v.toNat, false)) g.scales } o.no 0))) ∧
  (∀ (s : State) (o : ScaleOp) (v : Word32), nextScale s.grid = some o → (scaleSlot o.bits).op = 5 →
    (scaleSlot o.bits).first = 0 → (scaleSlot o.bits).count = 1 → v.toNat = (scaleSlot o.bits).value →
    exec (.setout v) s = .next (s.updGrid (fun g => scaleLoaded
      { g with scales := { g.scales with out := v.toNat, outBad := false } } o.no 0))) ∧
  (∀ (s : State) (o : ScaleOp) (rest : List ScaleOp), s.grid.scaleOps = o :: rest → o.loaded = true →
    exec .scaleSlotComplete s = .next (slotDone (s.updGrid (fun g => { g with scaleOps := rest })) 0 o.no o.status))

/-- Grid operations start, do their work and complete (02_numbers.md R50 to R56; 03_griddle.md R66 to R70, R78 to R98) -/
def Obligations.GridOperationsComplete : Prop :=
  (∀ (s : State) (waited : Nat),
    exec (.gridOpStart waited) s = .next (s.updGrid (fun g => startNext g waited [] g.ops))) ∧
  (∀ (s : State) (o : GridOp) (rest : List GridOp) (stalled : Nat), s.grid.ops = o :: rest → (gridSlot o.bits).op = 1 →
    mayRun s.grid o = true → nothingHeld (stageSweep s o.bits) (opReads (stageSweep s o.bits).grid o ++ opWrites o) = true →
    let f := gridSlot o.bits
    let s1 := stageSweep s o.bits
    let w := (List.range f.m).foldl (sweepVector (s1.grid.set f.rsel) f o (streamSource s1.grid o).1 (streamSource s1.grid o).2) { next := s1 }
    let q := applyEdits w.next 0 o.tenant w.edits
    ∃ t o', exec (.mm o.bits stalled) s = .next t ∧ t.grid.ops.head? = some o' ∧ o'.no = o.no ∧ o'.swept = true ∧ o'.sats = w.sats ∧
      o'.nonfinites = w.nonfinites ∧ t.pots = q.next.pots ∧ t.stackMap = q.next.stackMap) ∧
  (∀ (s : State) (o : GridOp) (rest : List GridOp), s.grid.ops = o :: rest → (gridSlot o.bits).op = 2 → mayRun s.grid o = true →
    nothingHeld s (opReads s.grid o) = true →
    let f := gridSlot o.bits
    let l := loadSet s f o.aw o.ags o.aaux o.tenant
    exec (.wload o.bits) s = .next (l.next.updGrid (fun g =>
      putHead (g.putSet f.rsel l.set) { o with swept := true, status := if l.bad then 0x301 else 0 }))) ∧
  (∀ (s : State) (o : GridOp) (rest : List GridOp), s.grid.ops = o :: rest → (gridSlot o.bits).op = 2 → o.swept = true →
    let f := gridSlot o.bits
    exec .wloadComplete s = .next (slotDone (s.updGrid (fun g =>
      { g.putSet f.rsel { g.set f.rsel with ready := true } with ops := rest })) 0 o.no o.status)) ∧
  (∀ (s : State) (o : GridOp) (rest : List GridOp), s.grid.ops = o :: rest → (gridSlot o.bits).op = 1 → o.swept = true →
    o.rerun = false → o.sats ≤ gridThreshold s o.step →
    let f := gridSlot o.bits
    let s1 := countGrid (s.updGrid (fun g => { g with sweeps := sat64 g.sweeps 1 })) o.step f.layer o.sats o.nonfinites
    exec .mmComplete s = .next (finishHead (nonfiniteEvent s1 o.step 0 o.tenant f.layer o.nonfinites) o)) ∧
  (∀ (s : State) (o : GridOp) (rest : List GridOp), s.grid.ops = o :: rest → (gridSlot o.bits).op = 1 → o.swept = true →
    o.rerun = false → gridThreshold s o.step < o.sats → rerunBar s (gridSlot o.bits) o = 0 →
    ∃ t o' later, exec .mmComplete s = .next t ∧ t.grid.ops = o' :: later ∧ o'.no = o.no ∧ o'.rerun = true ∧
      later.length = rest.length ∧ ∀ r ∈ later, r.started = false) ∧
  (∀ (s : State) (o : GridOp) (rest : List GridOp), s.grid.ops = o :: rest → (gridSlot o.bits).op = 1 → o.swept = true →
    o.rerun = false → gridThreshold s o.step < o.sats → rerunBar s (gridSlot o.bits) o ≠ 0 →
    let f := gridSlot o.bits
    let s1 := countGrid (s.updGrid (fun g => { g with sweeps := sat64 g.sweeps 1 })) o.step f.layer o.sats o.nonfinites
    let s2 := bump (nonfiniteEvent s1 o.step 0 o.tenant f.layer o.nonfinites) 0x2101 4 1
    exec .mmComplete s = .next (finishHead (recordNumeric s2 0x401 o.step 0 o.tenant f.layer o.sats (rerunBar s f o)) o)) ∧
  (∀ (s : State) (o : GridOp) (rest : List GridOp), s.grid.ops = o :: rest → o.rerun = true →
    let f := gridSlot o.bits
    let x := s.grid.set f.rsel
    let a := reloadSet s f o.aw o.ags o.tenant
    let w := (List.range f.m).foldl (rerunVector (a.2.grid.set f.rsel) f o) { next := a.2 }
    let q := applyEdits w.next 0 o.tenant w.edits
    let b := reloadSet q.next f x.aw x.ags o.tenant
    let s1 := b.2.updGrid (fun g => { g with
      sweeps := sat64 g.sweeps 1, busy := sat64 g.busy (2 * f.m)
      wide := { step := o.step, narrow := o.adst, addr := o.wideAddr, bytes := wideBytes f } :: g.wide })
    let s2 := countGrid (bump s1 0x2101 3 1) o.step f.layer w.sats w.nonfinites
    let s3 := recordNumeric (nonfiniteEvent s2 o.step 0 o.tenant f.layer w.nonfinites) 0x402 o.step 0 o.tenant f.layer o.sats 0
    let s4 := if w.sats = 0 then s3 else recordNumeric s3 0x401 o.step 0 o.tenant f.layer w.sats 6
    exec .rerunComplete s =
      .next (finishHead s4 { o with status := firstStatus (firstStatus o.status q.status) (if w.bad || a.1 || b.1 then 0x301 else 0) }))

/-- Accesses, adds, refresh, repair entries and mode changes of a stack complete (04_stacks.md R116 to R143; 05_ladles.md R151; 06_word_code.md R207 to R220) -/
def Obligations.StackCommandsComplete : Prop :=
  (∀ (s : State) (reader tenant addr len : Nat) (hits glitches : ErrorList), 0 < len → addr + len ≤ potWest →
    exec (.stackAccess reader tenant addr len none hits glitches) s = .next
      ((splitRuns { reader := reader, tenant := tenant, addr := addr, len := len, data := none } (len / 2048 + 2) 0 len).foldl
        (fun s h => arriveAccess s h (glitchesFrom ((spanOf h.addr 1).1 / 32 - (spanOf addr 1).1 / 32) glitches)) (upsetCells s addr hits))) ∧
  (∀ (s : State) (reader tenant addr len : Nat) (hits glitches : ErrorList), 0 < len → addr < potWest →
    addr / 2048 = (addr + len - 1) / 2048 → accessHeld (upsetCells s addr hits) addr = false →
    exec (.stackAccess reader tenant addr len none hits glitches) s = .next (performAccess (upsetCells s addr hits)
      { reader := reader, tenant := tenant, addr := addr, len := len, data := none } glitches)) ∧
  (∀ (s : State) (reader tenant addr : Nat) (bs : List Byte) (hits glitches : ErrorList), bs ≠ [] → addr < potWest →
    addr / 2048 = (addr + bs.length - 1) / 2048 → accessHeld (upsetCells s addr hits) addr = false →
    let r := storeBytes (upsetCells s addr hits) reader tenant addr bs
    exec (.stackAccess reader tenant addr bs.length (some bs) hits glitches) s = .next (emit r.next (.readData reader r.status [] []))) ∧
  (∀ (s : State) (reader tenant addr : Nat) (bs : List Byte) (hits glitches : ErrorList), bs ≠ [] → addr < potWest →
    addr / 2048 = (addr + bs.length - 1) / 2048 → accessHeld (upsetCells s addr hits) addr = true →
    exec (.stackAccess reader tenant addr bs.length (some bs) hits glitches) s = .next ((upsetCells s addr hits).updStack (addr / 2 ^ 37)
      (fun x => { x with heldAccess := x.heldAccess ++
        [{ reader := reader, tenant := tenant, addr := addr, len := bs.length, data := some bs }] }))) ∧
  (∀ (s : State) (issuer tenant addr fmt : Nat) (data : List Byte) (fetch : Bool), accessHeld s addr = false →
    let r := addRun s issuer tenant addr fmt data
    exec (.addBurstRequest issuer tenant addr fmt data fetch) s = .next (emit r.next (.readData issuer r.status (if fetch then r.old else [])
      (if fetch then poisonedWords addr r.marks else [])))) ∧
  (∀ (s : State) (issuer tenant addr fmt : Nat) (data : List Byte) (fetch : Bool), accessHeld s addr = true →
    exec (.addBurstRequest issuer tenant addr fmt data fetch) s = .next (s.updStack (addr / 2 ^ 37) (fun x => { x with
      heldAccess := x.heldAccess ++ [{ reader := issuer, tenant := tenant, addr := addr, len := data.length, data := some data,
                                       add := some (fmt, fetch) }] }))) ∧
  (∀ (s : State) (st bank : Nat), st < 8 → bank < 2048 →
    (bankComputing s st bank = false ∨ 4 ≤ mapGet 0 (s.stack st).refreshLag bank) →
    exec (.refresh st bank) s = .next (s.setStack st { s.stack st with
      refreshRow := mapUpd 0 (s.stack st).refreshRow bank (fun r => (r + 3) % 20480) })) ∧
  (∀ (s : State) (st bank : Nat), st < 8 → bank < 2048 → bankComputing s st bank = true →
    mapGet 0 (s.stack st).refreshLag bank < 4 →
    exec (.refresh st bank) s = .next (bump (s.setStack st { s.stack st with
      refreshLag := mapSet 0 (s.stack st).refreshLag bank (mapGet 0 (s.stack st).refreshLag bank + 1) }) (0x2210 + st) 7 1)) ∧
  (∀ (s : State) (st value : Nat), st < 8 → s.dev = .test → (s.stack st).rprColSel = false → value < 2 ^ 32 → value % 2 ^ 15 ≤ 20479 →
    let x := s.stack st
    let s1 := s.setStack st { x with
      rowRepair := mapSet 0 x.rowRepair (x.rprBank * 64 + x.rprEntry) (bitsOf value 31 29 * 2 ^ 29 + value % 2 ^ 15) }
    exec (.stkRprDataWrite st value) s =
      .next (dset s1 (0x2210 + st) 0xA (((s1.stack st).rowRepair).filter (fun c => bitOf c.2 31)).length)) ∧
  (∀ (s : State) (st value : Nat), st < 8 → s.dev ≠ .test → exec (.stkRprDataWrite st value) s = .next (cmdState s)) ∧
  (∀ (s : State) (st value : Nat), st < 8 → notReady s = none →
    exec (.segModeChange st false value) s =
      .next (submitWrite s { asker := .direct, key := dk (0x2210 + st) 1, value := natLE 8 value })) ∧
  (∀ (s : State) (st value : Nat), st < 8 → notReady s = none →
    exec (.segModeChange st true value) s =
      .next (submitWrite s { asker := .direct, key := dk (0x2210 + st) 2, value := natLE 2 value })) ∧
  (∀ (s : State) (st value code : Nat) (high : Bool), st < 8 → s.dev ≠ .off → notReady s = some code →
    exec (.segModeChange st high value) s = .next (dictAnswer s code)) ∧
  (∀ (s : State) (st new : Nat) (j : DictJob) (rest : List DictJob), st < 8 → (s.stack st).modeNext = some new →
    earlyLeft s (inChanging s st) = false → modeComputing s st = false →
    let x := (changedSegments (s.stack st) new).foldl clearSegment (s.stack st)
    let s0 := s.setStack st { x with segMode := new, modeNext := none }
    let s1 := releaseHeld (dset (dset s0 (0x2210 + st) 1 (new % 2 ^ 64)) (0x2210 + st) 2 (new / 2 ^ 64)) st
    s1.nirnar.jobs = j :: rest → j.stage = .effect → j.key / 256 = 0x2210 + st →
    exec (.segModeChangeDone st) s = .next (nextJob (finishJob s1 j j.abort)))

/-- Retirement, repair record and whisk commands complete (06_word_code.md R224 to R242; 20_health.md R693 to R696) -/
def Obligations.IntegrityCommandsComplete : Prop :=
  (∀ (s : State) (st F D : Nat) (rest : List (Nat × Nat)), (s.stack st).migrating = (F, D) :: rest → frameComputing s st F = false →
    earlyLeft s (inFrames st F D) = false →
    let s1 := migrateFrame s st F D
    let x := s1.stack st
    let s2 := s1.setStack st { x with migrating := rest, remap := x.remap ++ [(F, D, bitOf x.segMode (F / 512))] }
    let s3 := queueRepair (countRetired s2 st) (3 * 2 ^ 61 + st * 2 ^ 58 + F * 65536 + D)
    let s4 := releaseHeld (recordStack s3 0x326 st 0xFF (st * 2 ^ 37 + F * frameBytes)) st
    exec (.frameRetireComplete st) s = .next (updateFigures s4 (2 + st))) ∧
  (∀ (s : State) (st F d : Nat) (rest : List Nat), (s.stack st).awaiting = F :: rest → remapFull (s.stack st) = false →
    chooseDonor s st F = some d →
    exec (.retirePendingDonor st) s = .next (dset (beginMigration (s.setStack st { s.stack st with awaiting := rest }) st F d)
      (0x2220 + st) 0xA (dget s (0x2220 + st) 0xA - 1))) ∧
  (∀ (s : State) (e : Nat × Nat) (rest : List (Nat × Nat)), s.repairQueue = e :: rest → s.repairRecord.length < 16 * 503 →
    let r := s.repairRecord ++ [e.1]
    let page := s.repairRecord.length / 503
    exec .fieldRepairWrite s = .next { s with
      repairQueue := rest, repairRecord := r, repairSigs := mapSet [] s.repairSigs page (signPage r page) }) ∧
  (∀ (s : State) (st bank : Nat), st < 8 → bank < 2048 → dbool s 0x2201 2 = true → sequenceRuns s st bank = false →
    accessWaits s st bank = false → mapGet 0 (s.stack st).lastAccess bank + 256 ≤ s.now →
    mapGet 0 (s.stack st).lastWhisk bank + dget s 0x2201 3 * 1000 ≤ s.now →
    whiskNext (s.stack st) bank (mapGet 0 (s.stack st).whiskRow bank) 20481 < 20480 →
    let x := s.stack st
    let row := whiskNext x bank (mapGet 0 x.whiskRow bank) 20481
    exec (.whiskRow st bank []) s = .next (whiskWords (s.setStack st { x with
      whiskRow := mapSet 0 x.whiskRow bank (row + 1), lastWhisk := mapSet 0 x.lastWhisk bank s.now }) st bank row 64)) ∧
  (∀ (s : State) (st bank : Nat) (hits : ErrorList), st < 8 → bank < 2048 → dbool s 0x2201 2 = true → sequenceRuns s st bank = false →
    accessWaits s st bank = false → mapGet 0 (s.stack st).lastAccess bank + 256 ≤ s.now →
    mapGet 0 (s.stack st).lastWhisk bank + dget s 0x2201 3 * 1000 ≤ s.now →
    20480 ≤ whiskNext (s.stack st) bank (mapGet 0 (s.stack st).whiskRow bank) 20481 →
    (s.stack st).whiskBanksDone ||| 2 ^ bank ≠ 2 ^ 2048 - 1 →
    let x := s.stack st
    exec (.whiskRow st bank hits) s = .next (s.setStack st { x with
      whiskRow := mapSet 0 x.whiskRow bank 20480, whiskBanksDone := x.whiskBanksDone ||| 2 ^ bank })) ∧
  (∀ (s : State) (bank : Nat), dbool s 0x2201 2 = true →
    exec (.whiskRow 8 bank []) s = .next (whiskPot s 0) ∧ exec (.whiskRow 9 bank []) s = .next (whiskPot s 1)) ∧
  (∀ (s : State) (st : Nat), st < 8 → (s.stack st).whiskSlow = false →
    dget s (0x2220 + st) 9 < (s.now - (s.stack st).whiskStart) / 1000000 →
    exec (.whiskSlow st) s = .next (recordStack (s.setStack st { s.stack st with whiskSlow := true }) 0x328 st 0xFF (st * 2 ^ 37)))

/-- Checker-test commands complete (06_word_code.md R243 to R247) -/
def Obligations.CheckerTestCommandsComplete : Prop :=
  (∀ (s : State) (agent tenant st f : Nat), st < 8 → mayTest agent tenant = true → f < 65536 → frameFree s st f = true →
    (inTestBar (s.stack st) f = true ∨ (s.stack st).testFrames.length + (s.stack st).testEntering.length < 8) →
    exec (.frameEnterTest agent tenant st f) s = .next (s.setStack st { s.stack st with
      tframe := f, testEntering := (s.stack st).testEntering.filter (· != f) ++ [f]
      testFrames := (s.stack st).testFrames.filter (· != f) })) ∧
  (∀ (s : State) (agent tenant st f : Nat), st < 8 → mayTest agent tenant = true → f < 65536 → frameFree s st f = false →
    exec (.frameEnterTest agent tenant st f) s = .next (s.setStack st { s.stack st with
      tframe := f, tresClass := 7, tresPos := 0, tresValue := 0, tresDone := true })) ∧
  (∀ (s : State) (st f : Nat) (rest : List Nat), (s.stack st).testEntering = f :: rest →
    exec (.frameTestEntered st) s = .next (s.setStack st { zeroFrame (s.stack st) f with
      testEntering := rest, testFrames := (s.stack st).testFrames ++ [f] })) ∧
  (∀ (s : State) (agent tenant st f : Nat), st < 8 → mayTest agent tenant = true → f < 65536 → (s.stack st).testFrames.contains f = true →
    exec (.frameLeaveTest agent tenant st f) s = .next (s.setStack st { clearFrame (s.stack st) f with
      testFrames := (s.stack st).testFrames.filter (· != f), tframe := f })) ∧
  (∀ (s : State) (agent tenant st k p row w : Nat) (i : Instr) (c : Code288), st < 8 → mayTest agent tenant = true →
    testWord s st = some (k, p, row, w) →
    let x := s.stack st
    let old := if rowIsValid (s.stack k) p row then rawRead (s.stack k) p row w else 0
    (i = .wrdata agent tenant st ∧ c = (old &&& checkMask) ||| x.tdata.zeroExtend 288) ∨
    (i = .wrchk agent tenant st ∧ c = (dataOf old).zeroExtend 288 ||| (x.tchk.zeroExtend 288 <<< 256)) ∨
    (i = .wrboth agent tenant st ∧ c = x.tdata.zeroExtend 288 ||| (x.tchk.zeroExtend 288 <<< 256)) →
    exec i s = .next ((s.updStack k (fun y => rawWrite (openRow y p row) p row w c)).updStack k (fun y => recordTest y true
      (classCode (decode288 c).cls) (decode288 c).pos (decode288 c).value (synWord c)))) ∧
  (∀ (s : State) (agent tenant st k p row w : Nat), st < 8 → mayTest agent tenant = true → testWord s st = some (k, p, row, w) →
    let c := if rowIsValid (s.stack k) p row then rawRead (s.stack k) p row w else 0
    let d := decode288 c
    let note (t : State) : State := t.updStack k (fun y =>
      if rowIsValid (s.stack k) p row then recordTest y true (classCode d.cls) d.pos d.value (synWord c) else recordTest y true 4 0 0 0)
    exec (.rdraw agent tenant st) s = .next (note (s.updStack st (fun x => { x with tdata := dataOf c, tchk := (c >>> 256).truncate 32 }))) ∧
    exec (.rddec agent tenant st) s = .next (note (s.updStack st (fun x => { x with tdata := d.data })))) ∧
  (∀ (s : State) (agent tenant st : Nat) (i : Instr), st < 8 → mayTest agent tenant = true → testWord s st = none →
    i ∈ [.wrdata agent tenant st, .wrchk agent tenant st, .wrboth agent tenant st, .rdraw agent tenant st, .rddec agent tenant st] →
    exec i s = .next (s.setStack st (rawRefused (s.stack st))))

/-- Every ladle operation of the oldest slot is performed (05_ladles.md R156 to R189; 12_serving.md R445) -/
def Obligations.LadleOperationsComplete : Prop :=
  (∀ e ∈ ([(1, Instr.rowcopy, fun f x r => ([], runRowcopy f x.adst r)), (2, Instr.rowinit, fun f x r => ([], runRowinit f x.aaux r)),
      (3, Instr.rowlogic, fun f x r => ([], runRowlogic f x.adst x.aaux r)),
      (4, Instr.gemv4, fun f x r => ([], runGemv4 f x.avec x.adst x.aaux r)),
      (5, Instr.score, fun f x r => runScore f x.avec x.adst x.aaux x.priv r),
      (6, Instr.axpy, fun f x r => ([], runAxpy f x.avec x.adst r)), (7, Instr.ewise, fun f x r => ([], runEwise f x.avec x.adst x.aaux r)),
      (8, Instr.normstat, fun f x r => ([], runNormstat f x.avec x.adst r)),
      (9, Instr.normapply, fun f x r => ([], runNormapply f x.avec x.adst x.aaux r)),
      (10, Instr.rope, fun f x r => runRope f x.avec x.adst x.aaux x.priv r),
      (11, Instr.quant, fun f x r => runQuant f x.avec x.adst x.aaux x.priv r),
      (13, Instr.merge, fun f x r => ([], runMerge f x.avec x.adst x.aaux r))] :
      List (Nat × (Nat → Nat → Instr) × (LadleSlot → LSlot → LRun → List BankWork × LRun))),
    ∀ (s : State) (st : Nat) (x : LSlot), st < 8 → nextLadleSlot (s.ladle st) = some x → (ladleSlot x.bits).op = e.1 →
      exec (e.2.1 st x.bits) s = .next (performLadle s st e.1 x e.2.2)) ∧
  (∀ (s : State) (st : Nat) (x : LSlot), st < 8 → nextLadleSlot (s.ladle st) = some x → (ladleSlot x.bits).op = 12 →
    exec (.cutapply st x.bits) s =
      .next (performLadle (stageSlot s st x.bits) st 12 x (fun f x r => ([], runCutapply f x.adst x.aaux r))))

/-- Row boundaries, slices, resumption, slot completion and key-value pages (05_ladles.md R152 to R156, R190 to R192; 11_attention_kv.md R405 to R407) -/
def Obligations.LadleEventsComplete : Prop :=
  (∀ (s : State) (st bank : Nat) (q : LSeq), st < 8 → bank < 2048 →
    (s.ladle st).seqs.find? (fun q => q.bank == bank && q.st == .computing) = some q →
    let s1 := s.updLadle st (fun l => { l with rowOps := sat64 l.rowOps 1 }.updSeq bank .computing
      (fun x => some { x with left := x.left - 1, done := x.done + 1, st := .suspended }))
    let r := serveBank (touchCell (bump s1 0x2300 4 1) st bank) st bank
    (q.left ≤ 1 → exec (.rowBoundary st bank) s = .next (fillPlaces (r.1.updLadle st (fun l => l.updSeq bank .suspended (fun _ => none))) st)) ∧
    (1 < q.left → mustYield r.1 st q = true → ∃ t, exec (.rowBoundary st bank) s = .next (fillPlaces t st) ∧
      (t.ladle st).suspends = sat64 (r.1.ladle st).suspends 1 ∧
      (t.ladle st).seqs = ((r.1.ladle st).updSeq bank .suspended (fun x => some { x with place := false, since := (r.1.ladle st).clock })).seqs) ∧
    (1 < q.left → mustYield r.1 st q = false → (r.2 || q.migrates r.1 st) = true → exec (.rowBoundary st bank) s = .next (countSuspend r.1 st)) ∧
    (1 < q.left → mustYield r.1 st q = false → (r.2 || q.migrates r.1 st) = false →
      exec (.rowBoundary st bank) s = .next (r.1.updLadle st (fun l => l.updSeq bank .suspended (fun x => some (x.enter (r.1.ladle st))))))) ∧
  (∀ (s : State) (st bank waited : Nat) (q : LSeq) (k : Nat × Nat), st < 8 → bank < 2048 →
    (s.ladle st).seqs.find? (fun q => q.bank == bank && (q.st == .slice || q.st == .computing)) = some q →
    seqSlice (s.ladle st) q (if q.st = .slice then q.done else q.done + 1) = some k →
    exec (.vectorSliceArrive st bank waited) s = .next (fillPlaces (bump (s.updLadle st (fun l => { l with
      vstall := sat64 l.vstall waited, seqs := l.seqs.filterMap (takeSlice l (bank / 128) k) })) 0x2300 6 waited) st)) ∧
  (∀ (s : State) (st bank : Nat) (q : LSeq), st < 8 → bank < 2048 →
    let s1 := fillPlaces s st
    (s1.ladle st).seqs.find? (fun q => q.bank == bank && q.st == .suspended) = some q → q.place = true →
    mustYield s1 st q = false → q.migrates s1 st = false →
    exec (.ladleResume st bank) s = .next (s1.updLadle st (fun l => l.updSeq bank .suspended (fun x => some (x.enter l))))) ∧
  (∀ (s : State) (st : Nat) (x : LSlot), st < 8 →
    (s.ladle st).slots.find? (fun x => x.performed && !((s.ladle st).seqs.any (fun q => q.slot == x.no))) = some x →
    exec (.ladleSlotComplete st) s = .next (slotDone (mirrorAppends (countSlot
      (s.updLadle st (fun l => { l with slots := l.slots.filter (fun y => y.no != x.no) })) st x) x) (1 + st) x.no x.status)) ∧
  (∀ (s : State) (req : Nat) (frames : List Nat), req < 16384 → (s.req req).active = true →
    s.svc.preps.any (fun p => p.req == req) = false →
    let r := s.req req
    let s0 := seeReached s r
    let needs := lacking s0 r
    let s1 := evictFor s0 r.tenant needs
    needs ≠ [] →
    (framesFit s1 r.tenant needs frames = true →
      exec (.kvPagePrepare req frames) s = .next (((needs.zip frames).foldl
        (fun s' e => givePage s' req r.tenant r.len e.1 e.2) s1).updReq req (fun r => { r with starved := false, noPage := 0 }))) ∧
    (framesFit s1 r.tenant needs frames = false → pagesShort s1 r.tenant needs = true →
      exec (.kvPagePrepare req frames) s = .next (s1.setReq req { r with starved := true }))) ∧
  (∀ (s : State) (req : Nat), req < 16384 → s.svc.preps.filter (fun p => p.req == req) ≠ [] →
    let mine := s.svc.preps.filter (fun p => p.req == req)
    let s1 := mine.foldl (fun (s : State) (p : PagePrep) =>
      writeEntry (copyPage s (s.req req).tenant p.src p.frame (64 * p.rows)) p.entry (entryWord p.frame false)) s
    exec (.kvPrepareDone req) s = .next (bump { s1 with svc := { s1.svc with
      preps := s1.svc.preps.filter (fun p => p.req != req) } } 0x2330 7 mine.length))

/-- Mover commands complete (07_layouts_movers.md R221, R222, R259 to R278; 09_engines_programs.md R318, R319, R339 to R341) -/
def Obligations.MoverCommandsComplete : Prop :=
  (∀ (s : State) (poster tenant t p addr : Nat) (priv : Bool) (data : List Byte), postTargetOf addr = .move t p → data.length = 64 → addr % 64 = 0 →
    exec (.moverQueuePost poster tenant priv addr data) s =
      .next (postMoveBurst s t p (poster * 64) { poster := poster, tenant := tenant, priv := priv } data).2) ∧
  (∀ (s : State) (m : Nat) (q : QEntry) (rest : List QEntry), m < 32 → (s.mover m).run = none → (s.mover m).queue = q :: rest →
    underTest s (32 + m) = false → checkMove s q.origin q.data = 0 → imemTarget s (moveDesc q.data) = none →
    let s1 := s.setMover m { s.mover m with queue := rest, taken := sat64 (s.mover m).taken 1 }
    let s2 := s1.updMover m (fun x => { x with run := some { data := q.data, origin := q.origin, status := 0, moved := false } })
    (sendReads s2 m q.origin (moveDesc q.data)).status = 0 →
    exec (.moverDescStart m) s = .next (sendReads s2 m q.origin (moveDesc q.data)).next) ∧
  (∀ (s : State) (m : Nat) (q : QEntry) (rest : List QEntry), m < 32 → (s.mover m).run = none → (s.mover m).queue = q :: rest →
    underTest s (32 + m) = false → checkMove s q.origin q.data ≠ 0 →
    exec (.moverDescStart m) s = .next ((s.setMover m { s.mover m with queue := rest, taken := sat64 (s.mover m).taken 1 }).updMover m
      (fun x => { x with run := some { data := q.data, origin := q.origin, status := checkMove s q.origin q.data, moved := true } }))) ∧
  (∀ (s : State) (m e : Nat) (b : Bool) (q : QEntry) (rest : List QEntry), m < 32 → (s.mover m).run = none → (s.mover m).queue = q :: rest →
    underTest s (32 + m) = false → checkMove s q.origin q.data = 0 → imemTarget s (moveDesc q.data) = some (e, b) → bankBusy s e b = false →
    let s1 := settleBank (beginLoad (s.setMover m { s.mover m with queue := rest, taken := sat64 (s.mover m).taken 1 }) e b) e
    let w := sendReads (s1.updMover m (fun x => { x with run := some { data := q.data, origin := q.origin, loading := true } })) m q.origin
      (moveDesc q.data)
    w.status = 0 → exec (.moverDescStart m) s = .next w.next) ∧
  (∀ (s : State) (m e : Nat) (b : Bool) (q : QEntry) (rest : List QEntry), m < 32 → (s.mover m).run = none → (s.mover m).queue = q :: rest →
    underTest s (32 + m) = false → checkMove s q.origin q.data = 0 → imemTarget s (moveDesc q.data) = some (e, b) → bankBusy s e b = true →
    let s1 := s.setMover m { s.mover m with queue := rest, taken := sat64 (s.mover m).taken 1 }
    exec (.moverDescStart m) s = .next ((refuseLoad s1 e m q.origin.tenant (moveDesc q.data).tag).updMover m (fun x => { x with
      run := some { data := q.data, origin := q.origin, status := 0x210, moved := true } }))) ∧
  (∀ (s : State) (m : Nat) (r : MoveRun) (remote : List Byte) (poisoned : List Nat), m < 32 → movePending s m 1 = some r →
    nothingHeld s (moveTouches s (moveDesc r.data)) = true →
    let c := copyElements s m r (moveSource s r remote poisoned) remote (moveDesc r.data).elements
    exec (.moveCopy m remote poisoned) s = .next (putRun c.1 m c.2)) ∧
  (∀ (s : State) (m : Nat) (r : MoveRun) (remote : List Byte) (poisoned : List Nat), m < 32 → movePending s m 2 = some r →
    nothingHeld s (moveTouches s (moveDesc r.data)) = true →
    let c := addElements s m r (moveSource s r remote poisoned) (moveDesc r.data).elements
    exec (.moveAdd m remote poisoned) s = .next (putRun c.1 m c.2)) ∧
  (∀ (s : State) (m : Nat) (r : MoveRun), m < 32 → movePending s m 3 = some r → r.issued = false →
    let d := moveDesc r.data
    outstandingIn s d.dst.addr d.len = false → nothingHeld s [(d.dst.addr, d.len)] = true →
    let q := discardRange s d.dst.addr d.len
    exec (.moveDiscard m) s =
      .next (putRun q.next m { r with issued := true, status := q.status, bytes := if q.status = 0 then d.len else 0 })) ∧
  (∀ (s : State) (m : Nat) (r : MoveRun), m < 32 → movePending s m 3 = some r → r.issued = true →
    exec (.discardApplied m) s = .next (putRun s m { r with moved := true })) ∧
  (∀ (s : State) (m n : Nat) (r : MoveRun) (remote : List Byte) (poisoned : List Nat), m < 32 → (s.mover m).run = some r → r.moved = false →
    (moveDesc r.data).op ≠ 3 → (moveDesc r.data).src.space = 1 ∨ (moveDesc r.data).dst.space = 1 →
    let k := min n (moveDesc r.data).elements
    let c := if (moveDesc r.data).op = 2 then addElements s m r (moveSource s r remote poisoned) k
      else copyElements s m r (moveSource s r remote poisoned) remote k
    exec (.moverHostError m n remote poisoned) s = .next (putRun (bump c.1 0x2050 7 1) m { c.2 with status := 0x331, partial_ := true })) ∧
  (∀ (s : State) (m : Nat) (r : MoveRun), m < 32 → (s.mover m).run = some r → r.moved = true → remotePending s m = false →
    nothingHeld s (if (moveDesc r.data).crec && !(moveDesc r.data).chost then [((moveDesc r.data).caddr, 16)] else []) = true →
    exec (.moverDescComplete m) s = .next (completeMove s m r))

/-- ENG_CMD commands are carried out (09_engines_programs.md R319, R350 to R355, R384) -/
def Obligations.EngineCommandsComplete : Prop :=
  (∀ (s : State) (agent tenant eng ctag : Nat), isProgrammed eng = true → mayCommand agent tenant = true → (s.engine eng).cmdBusy = false →
    let e := s.engine eng
    (∀ (bank : Bool) (len entry : Nat), len < 65536 → entry < 65536 → commitCode e eng bank len entry = 0 →
      exec (.commit agent tenant eng bank len entry ctag) s =
        .next (noteCmd (s.updEngine eng (fun e => commitBank e bank len entry)) eng 0 ctag false)) ∧
    (∀ bank : Bool, e.state = .idle ∨ e.state = .loaded →
      exec (.select agent tenant eng bank ctag) s = .next (noteCmd (s.updEngine eng (fun e => selectBank e bank)) eng 0 ctag false)) ∧
    (e.state = .loaded → devRunsService s.dev = true →
      exec (.startService agent tenant eng ctag) s =
        .next (noteCmd (s.updEngine eng (fun e => { e with state := .runService, stack := [] })) eng 0 ctag false)) ∧
    (isSeq eng = true → e.state = .loaded → devRunsNest s.dev = true →
      exec (.startNest agent tenant eng ctag) s =
        .next (noteCmd (s.updEngine eng (fun e => { e with state := .runNest, pc := e.entry, stack := [] })) eng 0 ctag false)) ∧
    (e.state = .runService ∨ e.state = .runNest → e.drain = none → atBoundary e = true →
      exec (.engHalt agent tenant eng ctag) s = .next (noteCmd (s.updEngine eng haltNow) eng 0 ctag false)) ∧
    (e.state = .runService ∨ e.state = .runNest → e.drain = none → atBoundary e = false →
      exec (.engHalt agent tenant eng ctag) s = .next (noteCmd (s.updEngine eng (fun e => { e with haltReq := true })) eng 0 ctag true)) ∧
    (e.state = .halted → e.drain = none → (if e.haltNest then devRunsNest s.dev else devRunsService s.dev) = true →
      exec (.engResume agent tenant eng ctag) s = .next (noteCmd (s.updEngine eng (fun e => { e with
        state := if e.haltNest then .runNest else .runService
        held := e.held.map (fun h => { h with since := s.now }) })) eng 0 ctag false)) ∧
    (∀ flip : Bool, e.state ≠ .idle →
      exec (.engStop agent tenant eng flip ctag) s = .next (noteCmd (stopEngine s eng flip) eng 0 ctag true)) ∧
    (e.state = .idle ∨ e.state = .loaded ∨ e.state = .halted ∨ e.state = .faulted →
      exec (.clearq agent tenant eng ctag) s = .next (noteCmd (discardQueue s eng) eng 0 ctag false)) ∧
    (isSeq eng = false → exec (.startNest agent tenant eng ctag) s = .next (noteCmd s eng 0x202 ctag false)) ∧
    (∀ flip : Bool, e.state = .idle →
      exec (.engStop agent tenant eng flip ctag) s = .next (cmdState (noteCmd s eng 0x201 ctag false)) ∧
      exec (.startService agent tenant eng ctag) s = .next (cmdState (noteCmd s eng 0x201 ctag false)))) ∧
  (∀ (s : State) (agent tenant eng ctag len entry : Nat) (bank flip : Bool) (i : Instr), mayCommand agent tenant = false →
    i ∈ [.commit agent tenant eng bank len entry ctag, .select agent tenant eng bank ctag, .startService agent tenant eng ctag,
      .startNest agent tenant eng ctag, .engHalt agent tenant eng ctag, .engResume agent tenant eng ctag, .engStop agent tenant eng flip ctag,
      .clearq agent tenant eng ctag] → exec i s = .next s)

/-- Queue entries are taken, words issue and waits end (09_engines_programs.md R316, R321, R326 to R335, R338 to R345, R355 to R358) -/
def Obligations.SequencerEventsComplete : Prop :=
  (∀ (s : State) (poster tenant e addr : Nat) (priv : Bool) (serving : Option Nat) (data : List Byte), postTargetOf addr = .seq e →
    data.length = 64 → addr % 64 = 0 →
    (poster ≠ 16 ∨ svcHoldsBack s e serving = false →
      exec (.seqQueuePost poster tenant priv serving addr data) s = .next (postBurst (noteQueue s e serving) (poster * 64)
        { poster := poster, tenant := tenant, priv := priv, step := serving } addr data).2) ∧
    (poster = 16 → svcHoldsBack s e serving = true → exec (.seqQueuePost poster tenant priv serving addr data) s = .next s)) ∧
  (∀ (s : State) (poster tenant n addr : Nat) (priv : Bool) (serving : Option Nat) (data : List Byte),
    postTargetOf addr = .core n ∨ postTargetOf addr = .taskPool n → data.length = 64 → addr % 64 = 0 →
    exec (.seqQueuePost poster tenant priv serving addr data) s =
      .next (postBurst s (poster * 64) { poster := poster, tenant := tenant, priv := priv, step := serving } addr data).2) ∧
  (∀ (s : State) (eng : Nat) (q : QEntry) (rest : List QEntry), isSeq eng = true → (s.engine eng).queue = q :: rest → canTake s eng = true →
    checkEntry s (s.engine eng) q = 0 →
    (bitsOf (u32 q.data 0) 31 28 = 1 → exec (.qentryStep eng) s = .next ((takeEntry s eng q 0 true).updEngine eng (fun e => { e with
      held := some { units := (List.range 12).map (fun i => u32 q.data (16 + 4 * i)), at_ := 0, inline := true, since := s.now, stage := 4 } }))) ∧
    (bitsOf (u32 q.data 0) 31 28 = 2 → exec (.qentryCall eng) s = .next ((takeEntry s eng q 0 true).updEngine eng (fun e => { e with
      pc := u16 q.data 4
      a := (List.range (bitsOf (u32 q.data 0) 27 25)).foldl (fun m i => mapSet 0 m i (u64 q.data (16 + 8 * i) % 2 ^ 52)) e.a }))) ∧
    (bitsOf (u32 q.data 0) 31 28 = 3 → exec (.qentryFlip eng) s = .next ((takeEntry s eng q 0 true).updEngine eng flipBank))) ∧
  (∀ (s : State) (eng : Nat) (h : HeldWord), isSeq eng = true → seqRuns (s.engine eng) = true → (s.engine eng).held = some h →
    nothingHeld s (heldRanges (s.engine eng)) = true →
    (h.stage = 4 → exec (.stepWordIssue eng) s = .next (tryWord s eng h)) ∧
    (h.stage = 1 → roomFor s eng (stepWord h.units) = true → exec (.stepWordIssue eng) s = .next (issueWord s eng (stepWord h.units)))) ∧
  (∀ (s s1 : State) (eng : Nat) (us : List Nat), isSeq eng = true → seqRuns (s.engine eng) = true → (s.engine eng).held = none →
    ((s.engine eng).state = .runNest ∨ (s.engine eng).current.isSome = true) → fetchWord s eng = (s1, some us) →
    (bitOf (us.getD 0 0) 21 = false ∨ (s.engine eng).state ≠ .runNest) → nothingHeld s (wordRanges (s.engine eng) us) = true →
    let h : HeldWord := { units := us, at_ := (s.engine eng).pc, inline := false, since := s.now, stage := 4 }
    exec (.stepWordIssue eng) s = .next (tryWord (s1.updEngine eng (fun e => { e with held := some h })) eng h)) ∧
  (∀ (s : State) (eng : Nat) (h : HeldWord) (f : SyncSlot), isSeq eng = true → heldWait (s.engine eng) = some (h, f) →
    nothingHeld s (heldRanges (s.engine eng)) = true → seqRuns (s.engine eng) = true → (if f.waitk = 1 then doneWait (s.engine eng) f else h.met) = true →
    exec (.syncWaitEnd eng) s = .next (if roomFor s eng (stepWord h.units) then issueWord s eng (stepWord h.units) else setStage s eng 1)) ∧
  (∀ (s : State) (eng : Nat) (h : HeldWord) (f : SyncSlot), isSeq eng = true → heldWait (s.engine eng) = some (h, f) →
    seqRuns (s.engine eng) = true → 2 ≤ f.waitk → nothingHeld s [((s.engine eng).reg f.aw, 4)] = true →
    exec (.syncMemPoll eng) s = .next ((memWait s eng f).1.updEngine eng (fun e => { e with
      held := e.held.map (fun h => { h with met := (memWait s eng f).2 }) }))) ∧
  (∀ (s : State) (eng v : Nat) (h : HeldWord), isSeq eng = true → (s.engine eng).held = some h → (stepWord h.units).move = some v →
    h.stage = 3 → (s.engine eng).drain = none → movesOut (s.engine eng) < 64 → nothingHeld s (heldRanges (s.engine eng)) = true →
    let f := moveSlot v
    let w := seqWho s eng
    let l := loadBytes s eng w.1 ((s.engine eng).reg f.adesc) 192
    let d := patchTemplate (s.engine eng) f l.bytes
    moveRoom s f d = true → l.poisoned = false → l.status = 0 → (32 ≤ f.tgt ∨ moverUsable s f.tgt = true) →
    let n := newIssue l.next eng .move
    exec (.movePost eng) s = .next (afterMove (postMove n.2 (if f.tgt = 32 then 34 else f.tgt)
      { data := d, origin := { poster := eng, tenant := w.1, priv := w.2.1, slot := some (eng, n.1), step := w.2.2 } }).2 eng (stepWord h.units))) ∧
  (∀ (s : State) (eng : Nat) (d : Drain), isProgrammed eng = true → (s.engine eng).drain = some d → drained s eng = true →
    exec (.engineDrainEnd eng) s = .next (endDrain s eng d)) ∧
  (∀ (s : State) (eng : Nat) (h : HeldWord), isSeq eng = true → (s.engine eng).held = some h → seqRuns (s.engine eng) = true →
    (s.engine eng).wdog ≠ 0 → h.since + 1000 * (s.engine eng).wdog < s.now →
    exec (.engineWatchdog eng) s = .next (faultEngine s eng 0x217 (if h.inline then 0xFFFFFFFF else h.at_) (stepWord h.units).tag)) ∧
  (∀ (s : State) (eng : Nat) (r : EntryRun), isSeq eng = true → (s.engine eng).runs.find? (fun r => r.ended && r.outstanding == 0) = some r →
    nothingHeld s (if bitOf (u32 r.data 0) 24 then [(u64 r.data 8, 16)] else []) = true → exec (.entryComplete eng) s = .next (completeRun s eng r))

/-- Every CTRL slot and NEST takes effect (09_engines_programs.md R336, R337, R346 to R349) -/
def Obligations.ControlSlotsComplete : Prop :=
  (∀ (s : State) (eng : Nat), isSeq eng = true →
    let e := s.engine eng
    (∀ rd imm, rd < 16 → imm < 2 ^ 52 → pendingCtrl e (ctrlBits 1 (rd * 2 ^ 54 + imm)) = true →
      exec (.seta eng rd imm) s = .next (finishWord (setA s eng rd imm) eng)) ∧
    (∀ rd ra imm, rd < 16 → ra < 16 → imm < 2 ^ 48 → pendingCtrl e (ctrlBits 2 (rd * 2 ^ 54 + ra * 2 ^ 50 + imm)) = true →
      exec (.adda eng rd ra imm) s = .next (finishWord (setA s eng rd (wrap 52 ((e.reg ra : Int) + signExt 48 imm))) eng)) ∧
    (∀ cn imm, cn < 4 → imm < 2 ^ 32 → pendingCtrl e (ctrlBits 3 (cn * 2 ^ 56 + imm)) = true →
      exec (.setc eng cn imm) s = .next (finishWord (s.updEngine eng (fun e => { e with c := mapSet 0 e.c cn imm })) eng)) ∧
    (∀ rd ra cn imm, rd < 16 → ra < 16 → cn < 4 → imm < 2 ^ 32 →
      pendingCtrl e (ctrlBits 4 (rd * 2 ^ 54 + ra * 2 ^ 50 + cn * 2 ^ 48 + imm)) = true →
      exec (.maddc eng rd ra cn imm) s =
        .next (finishWord (setA s eng rd (wrap 52 ((e.reg ra : Int) + (e.ctr cn : Int) * signExt 32 imm))) eng)) ∧
    (∀ target, target < 2 ^ 16 → pendingCtrl e (ctrlBits 8 target) = true → exec (.jump eng target) s = .next (jumpTo s eng target)) ∧
    (∀ cn target, cn < 4 → target < 2 ^ 16 → pendingCtrl e (ctrlBits 9 (cn * 2 ^ 56 + target)) = true →
      let s1 := s.updEngine eng (fun x => { x with c := mapSet 0 x.c cn (e.ctr cn - 1) })
      exec (.loop eng cn target) s =
        .next (if e.ctr cn = 0 then finishWord s eng else if e.ctr cn = 1 then finishWord s1 eng else jumpTo s1 eng target)) ∧
    (∀ cn target, cn < 4 → target < 2 ^ 16 → pendingCtrl e (ctrlBits 10 (cn * 2 ^ 56 + target)) = true →
      exec (.jcz eng cn target) s = .next (if e.ctr cn = 0 then jumpTo s eng target else finishWord s eng)) ∧
    (∀ target (h : HeldWord), target < 2 ^ 16 → pendingCtrl e (ctrlBits 11 target) = true → e.held = some h → h.inline = false →
      e.stack.length < 8 → exec (.call eng target) s =
        .next (jumpTo (s.updEngine eng (fun e => { e with stack := (h.at_ + 4 * h.units.length) :: e.stack })) eng target)) ∧
    (∀ target (h : HeldWord), target < 2 ^ 16 → pendingCtrl e (ctrlBits 11 target) = true → e.held = some h → h.inline = false →
      8 ≤ e.stack.length → exec (.call eng target) s = .next (faultEngine s eng 0x218 h.at_ e.lastTag)) ∧
    (∀ t rest, pendingCtrl e (ctrlBits 12 0) = true → e.stack = t :: rest →
      exec (.ret eng) s = .next (jumpTo (s.updEngine eng (fun e => { e with stack := rest })) eng t)) ∧
    (pendingCtrl e (ctrlBits 12 0) = true → e.stack = [] → e.state = .runNest → exec (.ret eng) s = .next (beginStop s eng false)) ∧
    (pendingCtrl e (ctrlBits 12 0) = true → e.stack = [] → e.state ≠ .runNest →
      exec (.ret eng) s = .next (if ((endEntry s eng).engine eng).haltReq then enterHalted (endEntry s eng) eng else endEntry s eng)) ∧
    (pendingCtrl e (ctrlBits 16 0) = true →
      let s1 := s.updEngine eng flipBank
      exec (.bankflip eng) s = .next (if (s1.engine eng).haltReq then enterHalted s1 eng else s1)) ∧
    (pendingCtrl e (ctrlBits 17 0) = true → exec (.ctrlHalt eng) s = .next (enterHalted (finishWord s eng) eng)) ∧
    (∀ flip, pendingCtrl e (ctrlBits 18 (boolNat flip)) = true → exec (.ctrlStop eng flip) s = .next (beginStop s eng flip))) ∧
  (∀ (s s1 : State) (eng : Nat) (us : List Nat), isSeq eng = true → seqRuns (s.engine eng) = true → (s.engine eng).held = none →
    (s.engine eng).state = .runService → (s.engine eng).current.isSome = true → fetchWord s eng = (s1, some us) → bitOf (us.getD 0 0) 21 = true →
    exec (.nest eng) s = .next (rejectWord s1 eng 0x201 (s.engine eng).pc (us.getD 0 0 % 65536))) ∧
  (∀ (s s1 : State) (eng : Nat) (us : List Nat), isSeq eng = true → seqRuns (s.engine eng) = true → (s.engine eng).held = none →
    (s.engine eng).state = .runNest → fetchWord s eng = (s1, some us) →
    let e := s.engine eng
    let h := us.getD 0 0
    let a := bitsOf (us.getD 1 0) 31 28
    let b := bitsOf (us.getD 1 0) 27 24
    let c := bitsOf (us.getD 1 0) 23 20
    let n := bitsOf h 18 16 + 1
    bitOf h 21 = true → bitsOf h 31 26 = 0 → bitsOf h 25 22 = 0 → a ≠ b → a ≠ c → b ≠ c → nestBodyOk s1 eng (e.pc + 4 * us.length) n = true →
    let run : NestRun :=
      { levels := (List.range (bitsOf h 20 19 + 1)).map (nestLevel us), iter := List.replicate (bitsOf h 20 19 + 1) 0,
        opa := a, opb := b, opc := c, baseA := e.reg a, baseB := e.reg b, baseC := e.reg c, savedC := (List.range 4).map e.ctr,
        bodyPc := e.pc + 4 * us.length, bodyLeft := n, bodyWords := n }
    exec (.nest eng) s = .next (s1.updEngine eng (fun e => { nestPlace e run run.iter with
      nest := some run, pc := run.bodyPc, lastTag := h % 65536 })))

/-- ALU instructions of the walkers compute what R367 to R369 give, and retire (10_walkers.md R363, R365, R366, R367, R368, R369) -/
def Obligations.AluInstructionsCompute : Prop :=
  ∀ (s s2 : State) (n t w : Nat),
    let a := BitVec.ofNat 64 ((s.thread n t).reg (wRa w))
    let b := BitVec.ofNat 64 ((s.thread n t).reg (wRb w))
    let d := BitVec.ofNat 64 ((s.thread n t).reg (wRd w))
    let i := BitVec.ofNat 16 (wImm w)
    let h := 16 * (wRa w % 4)
    let fordSpec (v : BitVec 64) : BitVec 64 :=
      let x := v.setWidth 32
      (if x.getLsbD 31 then ~~~x else x ||| 0x80000000#32).setWidth 64
    let hashSpec (a b : BitVec 64) : BitVec 64 :=
      let t0 := a ^^^ b.rotateLeft 29
      let t1 := (t0 ^^^ (t0 >>> 30)) * 0xBF58476D1CE4E5B9#64
      let t2 := (t1 ^^^ (t1 >>> 27)) * 0x94D049BB133111EB#64
      t2 ^^^ (t2 >>> 31)
    (Issues s n t .add w s2 → exec (.aluAdd n t) s = .next (retireNext s2 n t (fun x => x.setReg (wRd w) (a + b).toNat))) ∧
    (Issues s n t .sub w s2 → exec (.aluSub n t) s = .next (retireNext s2 n t (fun x => x.setReg (wRd w) (a - b).toNat))) ∧
    (Issues s n t .and w s2 → exec (.aluAnd n t) s = .next (retireNext s2 n t (fun x => x.setReg (wRd w) (a &&& b).toNat))) ∧
    (Issues s n t .or w s2 → exec (.aluOr n t) s = .next (retireNext s2 n t (fun x => x.setReg (wRd w) (a ||| b).toNat))) ∧
    (Issues s n t .xor w s2 → exec (.aluXor n t) s = .next (retireNext s2 n t (fun x => x.setReg (wRd w) (a ^^^ b).toNat))) ∧
    (Issues s n t .shl w s2 → exec (.shl n t) s = .next (retireNext s2 n t (fun x => x.setReg (wRd w) (a <<< (b % 64)).toNat))) ∧
    (Issues s n t .shr w s2 → exec (.shr n t) s = .next (retireNext s2 n t (fun x => x.setReg (wRd w) (a >>> (b % 64)).toNat))) ∧
    (Issues s n t .sar w s2 → exec (.sar n t) s = .next (retireNext s2 n t (fun x => x.setReg (wRd w) (a.sshiftRight (b.toNat % 64)).toNat))) ∧
    (Issues s n t .mul w s2 → exec (.mul n t) s = .next (retireNext s2 n t (fun x => x.setReg (wRd w) (a * b).toNat))) ∧
    (Issues s n t .mulhu w s2 → exec (.mulhu n t) s = .next (retireNext s2 n t (fun x => x.setReg (wRd w) (((a.setWidth 128 * b.setWidth 128) >>> 64).setWidth 64).toNat))) ∧
    (Issues s n t .minu w s2 → exec (.minu n t) s = .next (retireNext s2 n t (fun x => x.setReg (wRd w) (if a ≤ b then a else b).toNat))) ∧
    (Issues s n t .maxu w s2 → exec (.maxu n t) s = .next (retireNext s2 n t (fun x => x.setReg (wRd w) (if a ≤ b then b else a).toNat))) ∧
    (Issues s n t .mins w s2 → exec (.mins n t) s = .next (retireNext s2 n t (fun x => x.setReg (wRd w) (if a.toInt ≤ b.toInt then a else b).toNat))) ∧
    (Issues s n t .maxs w s2 → exec (.maxs n t) s = .next (retireNext s2 n t (fun x => x.setReg (wRd w) (if a.toInt ≤ b.toInt then b else a).toNat))) ∧
    (Issues s n t .sltu w s2 → exec (.sltu n t) s = .next (retireNext s2 n t (fun x => x.setReg (wRd w) (if a < b then 1#64 else 0#64).toNat))) ∧
    (Issues s n t .slt w s2 → exec (.slt n t) s = .next (retireNext s2 n t (fun x => x.setReg (wRd w) (if a.toInt < b.toInt then 1#64 else 0#64).toNat))) ∧
    (Issues s n t .ford w s2 → exec (.ford n t) s = .next (retireNext s2 n t (fun x => x.setReg (wRd w) (fordSpec a).toNat))) ∧
    (Issues s n t .popc w s2 → exec (.popc n t) s = .next (retireNext s2 n t (fun x => x.setReg (wRd w) (BitVec.ofNat 64 ((List.range 64).countP a.getLsbD)).toNat))) ∧
    (Issues s n t .clz w s2 → exec (.clz n t) s = .next (retireNext s2 n t (fun x => x.setReg (wRd w) (a.clz).toNat))) ∧
    (Issues s n t .hash w s2 → exec (.hash n t) s = .next (retireNext s2 n t (fun x => x.setReg (wRd w) (hashSpec a b).toNat))) ∧
    (Issues s n t .addi w s2 → exec (.addi n t) s = .next (retireNext s2 n t (fun x => x.setReg (wRd w) (a + i.signExtend 64).toNat))) ∧
    (Issues s n t .andi w s2 → exec (.andi n t) s = .next (retireNext s2 n t (fun x => x.setReg (wRd w) (a &&& i.setWidth 64).toNat))) ∧
    (Issues s n t .ori w s2 → exec (.ori n t) s = .next (retireNext s2 n t (fun x => x.setReg (wRd w) (a ||| i.setWidth 64).toNat))) ∧
    (Issues s n t .xori w s2 → exec (.xori n t) s = .next (retireNext s2 n t (fun x => x.setReg (wRd w) (a ^^^ i.setWidth 64).toNat))) ∧
    (Issues s n t .shli w s2 → exec (.shli n t) s = .next (retireNext s2 n t (fun x => x.setReg (wRd w) (a <<< i.toNat).toNat))) ∧
    (Issues s n t .shri w s2 → exec (.shri n t) s = .next (retireNext s2 n t (fun x => x.setReg (wRd w) (a >>> i.toNat).toNat))) ∧
    (Issues s n t .sari w s2 → exec (.sari n t) s = .next (retireNext s2 n t (fun x => x.setReg (wRd w) (a.sshiftRight i.toNat).toNat))) ∧
    (Issues s n t .movk w s2 → exec (.movk n t) s = .next (retireNext s2 n t (fun x => x.setReg (wRd w) ((d &&& ~~~(0xFFFF#64 <<< h)) ||| (i.setWidth 64 <<< h)).toNat)))

/-- Branches, MFS and TEXIT of the walkers act as R367 gives (10_walkers.md R363, R366, R367, R382) -/
def Obligations.BranchInstructionsGoOn : Prop :=
  ∀ (s s2 : State) (n t w : Nat),
    let th := s.thread n t
    let l := BitVec.ofNat 64 (th.reg (wRd w))
    let r := BitVec.ofNat 64 (th.reg (wRa w))
    let off := 4#64 * (BitVec.ofNat 16 (wImm w)).signExtend 64
    let goTo (p : Bool) : State := retireTo s2 n t (if p then (BitVec.ofNat 64 th.pc + off).toNat else th.pc + 4) id
    (Issues s n t .beq w s2 → exec (.beq n t) s = .next (goTo (l == r))) ∧
    (Issues s n t .bne w s2 → exec (.bne n t) s = .next (goTo (l != r))) ∧
    (Issues s n t .blt w s2 → exec (.blt n t) s = .next (goTo (l.slt r))) ∧
    (Issues s n t .bge w s2 → exec (.bge n t) s = .next (goTo (r.sle l))) ∧
    (Issues s n t .bltu w s2 → exec (.bltu n t) s = .next (goTo (l.ult r))) ∧
    (Issues s n t .bgeu w s2 → exec (.bgeu n t) s = .next (goTo (r.ule l))) ∧
    (Issues s n t .jal w s2 → exec (.jal n t) s =
      .next (retireTo s2 n t (BitVec.ofNat 64 th.pc + 4#64 * (BitVec.ofNat 21 w).signExtend 64).toNat
        (fun x => x.setReg (wRd w) (th.pc + 4)))) ∧
    (Issues s n t .jalr w s2 → exec (.jalr n t) s =
      .next (retireTo s2 n t (r + (BitVec.ofNat 16 (wImm w)).signExtend 64).toNat (fun x => x.setReg (wRd w) (th.pc + 4)))) ∧
    (Issues s n t .mfs w s2 → exec (.mfs n t) s =
      .next (retireNext s2 n t (fun x => x.setReg (wRd w)
        ([t, n, th.origin.tenant, th.tag, s2.now * 21 / 20, s2.ptp, localBase + n * 0x40000].getD (wImm w) 0)))) ∧
    (Issues s n t .texit w s2 → exec (.texit n t) s =
      .next (settleThread (s2.updThread n t (fun x =>
        { x with st := .stopping, retired := x.retired + 1, status := th.reg (wRa w) % 65536 })) n t))

/-- Memory and ordering instructions of the walkers issue their accesses (10_walkers.md R363, R367, R370, R371, R373, R374, R378; 08_memory_model.md R286, R290, R294, R296, R302) -/
def Obligations.MemoryInstructionsIssue : Prop :=
  ∀ (s s2 : State) (n t w : Nat),
    let th := s.thread n t
    let may (kind : WalkKind) (write : Bool) (a len : Nat) : Prop :=
      walkCheck s2 (s2.thread n t) kind write a len = 0 ∧ trackerBlocks (s2.walker n) a len = false
    let stored (st : State) (a : Nat) (bs : List Byte) (add : Option Nat) : State :=
      (retireNext st n t (fun x => { x with fence := none })).updWalker n (fun x => { x with tracker := x.tracker ++
        [{ thread := t, addr := a, len := bs.length, pc := (st.thread n t).pc, data := some bs, add := add, rel := (st.thread n t).fence }] })
    let a := mAddr th w
    (Issues s n t .ld w s2 → may .plain false a (mSize w) →
      exec (.ld n t) s = .next (waitOn s2 n t (.load (wRd w) a (mSize w) (bitOf w 13) none) a (mSize w) true)) ∧
    (let bs := natLE (mSize w) (th.reg (wRd w))
     Issues s n t .st w s2 → may .plain true a bs.length → exec (.st n t) s = .next (stored s2 a bs none)) ∧
    (Issues s n t .ldb w s2 → may .burst false a 64 → exec (.ldb n t) s = .next (waitOn s2 n t (.burst (wRd w) a) a 64 true)) ∧
    (Issues s n t .stb w s2 → may .burst true a (th.burst (wRd w)).length →
      exec (.stb n t) s = .next (stored s2 a (th.burst (wRd w)) none)) ∧
    (let p := th.reg (wRa w)
     Issues s n t .ldch w s2 →
      (p = 0 → exec (.ldch n t) s = .next (retireNext s2 n t (fun x => x.setReg (wRd w) 0))) ∧
      (p ≠ 0 → may .chain false p 64 → exec (.ldch n t) s =
        .next (waitOn s2 n t (.chain (wRd w) p (th.reg (wRb w)) (bitsOf w 10 8) (bitsOf w 7 5) (w % 32)) p 64 true))) ∧
    (let p := th.reg (wRa w)
     let bs := th.burst (wRd w)
     let s3 := s2.updWalker n (fun x => l1Drop x p)
     Issues s n t .wadd w s2 → walkCheck s2 th .add true p 64 = 0 →
      hasAdder s2 p = true → trackerBlocks (s3.walker n) p 64 = false →
      (bitOf w 12 = true → walkCheck s3 (s3.thread n t) .add true p 64 = 0 →
        exec (.wadd n t) s = .next (waitOn s3 n t (.add (wRd w) p (bitsOf w 15 13) bs) p 64 true)) ∧
      (bitOf w 12 = false → bs.length = 64 → walkCheck s3 (s3.thread n t) .add true p 64 = 0 →
        exec (.wadd n t) s = .next (stored s3 p bs (some (bitsOf w 15 13))))) ∧
    (let p := th.reg (oRa w)
     Issues s n t .ldacq w s2 → may .plain false p (2 ^ oLow w) →
      exec (.ldacq n t) s = .next (waitOn s2 n t (.load (oRd w) p (2 ^ oLow w) false (some (ordScope (oOrd w)))) p (2 ^ oLow w) true)) ∧
    (let p := th.reg (oRa w)
     let bs := natLE (2 ^ oLow w) (th.reg (oRb w))
     Issues s n t .strel w s2 → walkCheck s2 th .plain true p bs.length = 0 → trackerBlocks (s2.walker n) p bs.length = false →
      exec (.strel n t) s = .next ((s2.updThread n t (fun x => { x with st := .waiting, wait := some .release, fence := none })).updWalker n (fun x =>
        countRelease { x with tracker := x.tracker ++ [{ thread := t, addr := p, len := bs.length, pc := th.pc, data := some bs,
                                                           rel := some (ordScope (oOrd w)) }] } (oOrd w)))) ∧
    (let o := oOrd w
     let acq := decide (ordSem o % 2 = 1 ∧ 1 ≤ ordScope o)
     let s3 := s2.updWalker n (fun x => countAcquire (countRelease x o) o)
     let s4 := if 2 ≤ ordSem o then s3.updThread n t (fun x => { x with fence := some (ordScope o) }) else s3
     let ahead := storesAhead (s2.walker n)
     Issues s n t .fence w s2 →
      (2 ≤ ordSem o → 1 ≤ ordScope o → 0 < ahead → exec (.fence n t) s =
        .next (s4.updThread n t (fun x => { x with st := .waiting, wait := some (.fence ahead acq) }))) ∧
      (¬(2 ≤ ordSem o ∧ 1 ≤ ordScope o ∧ 0 < ahead) → exec (.fence n t) s = .next (endFence s4 n t acq))) ∧
    (∀ (c : Instr) (op : WalkOp) (len : Nat), (c, op, len) ∈ [(Instr.amo64 n t, WalkOp.amo64, 8), (.amo32 n t, .amo32, 4)] →
      let p := th.reg (oRa w)
      Issues s n t op w s2 → may .atomic true p len →
      exec c s = .next ((waitOn s2 n t (.atomic (oRd w) p len (oLow w) (th.reg (oRb w)) (oOrd w)) p len true).updWalker n
        (fun x => countAcquire (countRelease x (oOrd w)) (oOrd w)))) ∧
    (let ra := th.reg (wRa w)
     let part := bitsOf w 10 9
     let p := postAddr ra part
     let ahead := storesAhead (s2.walker n)
     let data := th.burst (wRb w)
     let s3 := s2.updWalker n (fun x => { x with releases := sat64 x.releases 1 })
     Issues s n t .post w s2 → postCode ra part = 0 →
      (ahead = 0 → exec (.post n t) s = .next (performPost s3 n t (wRd w) p data)) ∧
      (ahead ≠ 0 → exec (.post n t) s =
        .next (s3.updThread n t (fun x => { x with st := .waiting, wait := some (.post ahead (wRd w) p data) }))))

/-- Accesses return, stores are acknowledged, and tasks start, flip, time out and restart (10_walkers.md R363, R370, R371, R375 to R377, R380 to R384; 08_memory_model.md R286, R287, R290, R302, R305; 09_engines_programs.md R337; 19_faults.md R671) -/
def Obligations.WalkerEventsComplete : Prop :=
  (∀ (s : State) (n t : Nat) (l1err : Bool) (stall : Nat), n < 64 → t < 64 →
    (s.thread n t).st = .waiting ∨ (s.thread n t).st = .stopping →
    let x := s.walker n
    let s1 := s.setWalker n { x with trackStall := sat64 x.trackStall stall }
    (∀ (rd a len : Nat) (sx : Bool) (acq : Option Nat), (s.thread n t).wait = some (.load rd a len sx acq) → loadHeld s x t a = false →
      exec (.walkerDataReturn n t l1err stall) s = .next (returnLoad s1 n t a len acq l1err (fun bs x =>
        x.setReg rd (if sx then wrap 64 (signExt (8 * len) (leNat bs)) else leNat bs)))) ∧
    (∀ rd a : Nat, (s.thread n t).wait = some (.burst rd a) → loadHeld s x t a = false →
      exec (.walkerDataReturn n t l1err stall) s = .next (returnLoad s1 n t a 64 none l1err (fun bs x => x.setBurst rd bs))) ∧
    (∀ rd p rb koff noff left : Nat, (s.thread n t).wait = some (.chain rd p rb koff noff left) → loadHeld s x t p = false →
      overlapOther x t p = false →
      exec (.walkerDataReturn n t l1err stall) s = .next (returnHop s1 n t rd p rb koff noff left l1err)) ∧
    (∀ rd a len aop rb ord : Nat, (s.thread n t).wait = some (.atomic rd a len aop rb ord) → loadHeld s x t a = false →
      (2 ≤ ordSem ord → 1 ≤ ordScope ord → storesBefore x t = false) →
      exec (.walkerDataReturn n t l1err stall) s = .next (returnAtomic s1 n t rd a len aop rb ord l1err)) ∧
    (∀ (rb a fmt : Nat) (data : List Byte), (s.thread n t).wait = some (.add rb a fmt data) → loadHeld s x t a = false →
      exec (.walkerDataReturn n t l1err stall) s = .next (returnAdd s1 n t rb a fmt data))) ∧
  (∀ (s : State) (n entry : Nat) (waited : Nat × Nat) (e : Tracked), n < 64 → (s.walker n).tracker[entry]? = some e → e.isLoad = false →
    let before := (s.walker n).tracker.take entry
    runWaits s e.early e.addr = false → controlAhead before e.addr = false →
    (ordersAfter s e = true → ∀ f ∈ before, f.isLoad = true) →
    exec (.walkerStoreAck n entry waited) s = .next (ackStore s n entry waited.1 waited.2 e)) ∧
  (∀ (s : State) (n t : Nat) (q : QEntry) (rest : List QEntry), n < 64 → (s.engine (64 + n)).queue = q :: rest → freeThread s n = some t →
    (s.engine (64 + n)).state = .runService → (s.engine (64 + n)).drain = none → (s.walker n).flip = none → underTest s (64 + n) = false →
    checkTask s (s.engine (64 + n)) q = 0 →
    let e := s.engine (64 + n)
    let s1 := (s.setEngine (64 + n) { e with queue := rest, taken := sat64 e.taken 1 }).updWalker n startAcquire
    exec (.taskStart n) s = .next (if bitsOf (u32 q.data 0) 31 28 = 3 then s1.updWalker n (fun x => { x with flip := some q })
      else startThread s1 n t (u16 q.data 4) (bitsOf (u32 q.data 0) 27 25) q)) ∧
  (∀ (s : State) (n : Nat) (q : QEntry), n < 64 → (s.walker n).flip = some q → (s.engine (64 + n)).state = .runService →
    (s.engine (64 + n)).drain = none → threadsFree s n = true → (s.engine (64 + n)).otherCommitted = true →
    let s2 := (s.updWalker n (fun x => { x with flip := none })).updEngine (64 + n) flipBank
    exec (.walkerFlip n) s = .next (startThread s2 n 0 (s2.engine (64 + n)).entry 0 q)) ∧
  (∀ (s : State) (n t : Nat), n < 64 → t < 64 → (s.thread n t).st = .ready ∨ (s.thread n t).st = .waiting → (s.engine (64 + n)).wdog ≠ 0 →
    (s.thread n t).since + 1000 * (s.engine (64 + n)).wdog < s.now →
    exec (.taskWatchdog n t) s = .next (stopThreadAt s n t 0x217 (s.thread n t).pc)) ∧
  (∀ (s : State) (n entry : Nat) (runtime : List Byte), n < 64 → (s.engine (64 + n)).state = .faulted → (s.engine (64 + n)).drain = none →
    runtime.length ≤ 32768 →
    let e := s.engine (64 + n)
    let len := ceilDiv runtime.length 4
    exec (.walkerCoreRestart n runtime entry) s = .next ((s.setEngine (64 + n)
        { e with
          imem := loadBank (loadBank e.imem false runtime) true runtime
          commA := true, commB := true, lenA := len, lenB := len, entA := entry, entB := entry, state := .runService }).updWalker n (fun x =>
        { x with l1 := [], ran := [] })))

/-- Serving commands are carried out on receipt (12_serving.md R443, R446, R451 to R456) -/
def Obligations.ServingCommandsComplete : Prop :=
  ∀ (s : State) (q : QEntry) (rest : List QEntry), s.svc.queue = q :: rest →
    let s0 : State := { s with svc := { s.svc with queue := rest } }
    let t := q.origin.tenant
    let d := q.data
    let k := u16 d 2
    let r := s0.req k
    (∀ (c : Instr) (op : Nat), (c, op) ∈ [(Instr.cancel, 2), (.pause, 3), (.reqResume, 4), (.setprio, 6), (.setdeadline, 7), (.setspec, 8)] →
      u8 d 0 = op → ownsReq s0 t k = true → unnamedZero d = true → argStatus r d = 0 → legalIn op r = true →
      let s1 := mirror s0 2 k 64 [] d
      (stepBusy s0 r.slot = false →
        exec c s = .next (sendReply (withEnds s1 (changeReq s1 k d)) (reply q 0 k ((changeReq s1 k d).req k).state.code 0))) ∧
      (stepBusy s0 r.slot = true → op ≠ 2 →
        exec c s = .next { s1 with svc := { s1.svc with waiting := s1.svc.waiting ++ [(r.slot, q)] } }) ∧
      (stepBusy s0 r.slot = true → op = 2 → r.cancelReq = false →
        let s2 := s1.setReq k { r with cancelReq := true }
        exec c s = .next { s2 with svc := { s2.svc with waiting := s2.svc.waiting ++ [(r.slot, q)] } })) ∧
    (u8 d 0 = 5 → ownsReq s0 t k = true → unnamedZero d = true → r.ended = true →
      exec .release s = .next (answer (freeReq (mirror s0 2 k 64 [] d) k) q 0 k 0 0)) ∧
    (u8 d 0 = 9 → ownsReq s0 t k = true → unnamedZero d = true → u64 d 8 % 64 = 0 → mayReach s0 t false true (u64 d 8) 128 = true →
      let w := storeBytes s0 16 t (u64 d 8) r.image
      exec .query s = .next (answer w.next q w.status k r.state.code 0)) ∧
    (∀ (s1 : State) (e : Nat),
      let l := loadBytes s0 16 t (u64 d 8) 64
      let x := reqOfBytes l.bytes
      let p := loadBytes (seeSubmit l.next x) 16 t x.prompt (4 * x.plen)
      u8 d 0 = 1 → unnamedZero d = true → s0.dev = .service → mayReach s0 t false false (u64 d 8) 64 = true → l.status = 0 → l.poisoned = false →
      submitStatus l.next t l.bytes = (0, 0) → p.status = 0 → p.poisoned = false → reserveRing p.next t x.outring = some s1 →
      lowestFree p.next = some e →
      exec .submit s = .next (admitReq q s1 e l.bytes ((List.range x.plen).map (fun i => u32 p.bytes (4 * i))))) ∧
    (∀ (c : Instr) (op : Nat) (on : Bool), (c, op, on) ∈ [(Instr.pin, 0xA, true), (.unpin, 0xB, false)] →
      let n := u32 d 24 / 64
      let l := loadBytes s0 16 t (u64 d 16) (256 * n)
      let cut := u16 d 10
      let term := if cut = 0xFFFF then 0xFFFF else mapGet 0 s0.svc.cgen cut * 65536 + cut
      let keys := blockKeys (keySalt t (u8 d 8) term) 0 ((List.range (64 * n)).map (fun i => u32 l.bytes (4 * i))) n
      let ids := matchNodes l.next t keys
      u8 d 0 = op → unnamedZero d = true → u8 d 8 < 16 → (cut < 32768 ∨ cut = 0xFFFF) → bitOf (dget s0 (0x5110 + u8 d 8) 5) t = true →
      mayReach s0 t false false (u64 d 16) (4 * u32 d 24) = true → l.status = 0 → l.poisoned = false →
      exec c s = .next (answer (mirror (ids.foldl (fun s id => updNode s id (fun x => { x with pinned := on })) l.next) 7 0 (16 * ids.length)
        (boolNat on :: keys.take ids.length) []) q 0 0 0 ids.length)) ∧
    (∀ (s1 : State) (bytes : List Byte),
      let n := u16 d 8
      let slot := u8 bytes 2
      let q1 : QEntry := { q with data := d ++ bytes }
      u8 d 0 = 0x10 → d.length = 64 → unnamedZero d = true → n < 32768 → dget s0 0x5200 1 ≠ 0 →
      readCutterSource s0 t (u64 d 16) = (s1, 0, bytes) → stepBusy s1 slot = false → cutterRows s1 t n slot = 0 → cutterSound s1 slot bytes = true →
      dget s1 0x5201 (t + 1) = 0 →
      let s2 := bump (placeCutter s1 n t slot (mapGet 0 s1.svc.cgen n + 1) bytes) 0x5200 3 1
      exec .cutterWrite s = .next (sendReply (withEnds s1 (mirrorCutter s2 n (mapGet 0 s1.svc.cgen n + 1) t bytes)) (reply q1 0 0 0 0))) ∧
    (∀ slot : Nat,
      let n := u16 d 8
      u8 d 0 = 0x11 → unnamedZero d = true → n < 32768 → dget s0 0x5200 1 ≠ 0 → cutterOf s0 n = some (t, slot) → stepBusy s0 slot = false →
      cutterRows s0 t n slot = 0 →
      exec .cutterClear s = .next (sendReply (withEnds s0 (mirrorCutter (emptyCutter s0 n) n (mapGet 0 (emptyCutter s0 n).svc.cgen n) t []))
        (reply q 0 0 0 0)))

/-- Steps start, draft, commit and are discarded (12_serving.md R432 to R441, R449, R453; 14_fabric_tandem.md R533) -/
def Obligations.StepCommandsComplete : Prop :=
  (∀ (s : State) (m : Nat), m < 16 → stepBusy s m = false → s.dev = .service →
    let s1 := boundaryRest (observeCommands s m) m []
    (s1.slot m).state = .resident → mayStart s1 m = true → s1.tandem.withdraw = false → s1.dev = .service →
    exec (.stepStart m) s = .next (startBatch s1 m)) ∧
  (∀ (s : State) (m : Nat) (logits : List (Nat × List (List Nat))) (poisoned : List Nat), m < 16 →
    let st := stepAt s m
    st.batch ≠ [] → st.phase = .draft →
    (∀ b ∈ st.batch, 2 ≤ b.w → poisoned.contains b.req = true ∨ vectorsFit logits b.req b.w = true) →
    exec (.draftPhaseDone m logits poisoned) s =
      .next (setStep s m { st with phase := .main, batch := st.batch.map (pickDrafts s logits poisoned) })) ∧
  (∀ (s : State) (m : Nat) (outs : List (Nat × List (List Nat))) (poisoned : List Nat), m < 16 →
    let st := stepAt s m
    st.batch ≠ [] → st.phase = .main → st.discard = false → stepWorkLeft s m = false →
    (∀ b ∈ st.batch, poisoned.contains b.req = true ∨ b.failed ≠ 0 ∨ vectorsFit outs b.req (vectorsDue s b) = true) →
    let s1 := commitStep (countStep s m) m outs poisoned
    exec (.stepCommit m outs poisoned) s = .next (if waitsForTwin s1 m then s1 else finishCommit s1 m)) ∧
  (∀ (s : State) (m : Nat), m < 16 → (stepAt s m).batch ≠ [] → (stepAt s m).phase ≠ .acking → (stepAt s m).discard = true →
    stepWorkLeft s m = false → exec (.stepDiscard m) s = .next (discardStep (countStep s m) m))

/-- Tenant commands act in the states R463 to R468 give (13_tenants_cadence.md R463, R465 to R468; 19_faults.md R669, R673) -/
def Obligations.TenantCommandsComplete : Prop :=
  ∀ (s : State) (t : Nat), t < 64 →
    (mayAssign s t = true → exec (.assign t) s = .next (dictAnswer (setTenantState s t .active) 0)) ∧
    ((s.tenant t).state = .active → exec (.quiesce t) s = .next (dictAnswer (setTenantState s t .quiescing) 0)) ∧
    ((s.tenant t).state = .quiescing → exec (.tenantResume t) s =
      .next (dictAnswer (if s.dev = .recovery then setTenantState s t .active else releaseDoorbells (setTenantState s t .active) t) 0)) ∧
    ((s.tenant t).state = .active ∨ (s.tenant t).state = .quiescing ∨ (s.tenant t).state = .faulted →
      exec (.tenantReset t false) s = .next (dictAnswer (beginReset s t 1 false) 0) ∧
      (t ≠ 0 → exec (.unassign t) s = .next (dictAnswer (beginReset s t 4 true) 0))) ∧
    (∀ w : Window, s.faults.window = some w → w.kind = kindTenant → w.index = t → w.cls = clsTenant → (s.tenant t).state = .active →
      exec (.tenantReset t true) s = .next (if t = 0 ∨ dbool s (0x4000 + 0x40 * t) 7 then beginReset s t 3 false else faultTenant s t)) ∧
    ((s.tenant t).state = .resetting → resetComplete s t = true →
      ((s.tenant t).toUnassigned = false → exec (.tenantResetDone t) s = .next (setTenantState s t .active)) ∧
      ((s.tenant t).toUnassigned = true → exec (.tenantResetDone t) s =
        .next (setTenantState ((unassignTenant s t).updTenant t (fun x => { x with toUnassigned := false })) t .unassigned)))

/-- Slots are loaded, unloaded and restored, and contexts are switched (13_tenants_cadence.md R473 to R480, R483 to R487; 19_faults.md R674, R678) -/
def Obligations.SlotCommandsComplete : Prop :=
  (∀ (s : State) (m : Nat) (head : List Byte), m < 16 → (s.slot m).state = .empty ∨ (s.slot m).state = .offline →
    s.dev = .ready ∨ s.dev = .service ∨ s.dev = .recovery →
    let p := loadHead (dictAnswer (slotState s m .loading) 0) m head
    let h := imageHead p.2
    checkHead p.1 m p.2 = 0 →
    exec (.slotLoad m head) s = .next (p.1.updSlot m (fun x => { x with
      regions := imageRegions p.2, layers := h.nlayer, endTok := h.endTok, imageBytes := h.bytes, progOff := h.progOff
      progLen := h.progLen, metaLen := h.metaLen, digest := h.digest, checks := [], programs := [], restore := [] }))) ∧
  (∀ (s s0 : State) (m status : Nat) (given image : List Byte), m < 16 → (s.slot m).state = .loading → s.ctx.current = 0 → s.ctx.switch = none →
    loadImage s m status given = (s0, 0, image) → image.length = (s.slot m).imageBytes →
    let x := s.slot m
    let prog := (image.drop x.progOff).take x.progLen
    let progs := (List.range 9).map (sectionImage prog)
    sectionSound prog = true → programsFit s0 m progs = true → Config.sha512 (image.drop 256) = x.digest →
    exec (.slotLoadDone m status given) s = .next (finishLoad (x.regions.foldl (copyRegion image m) s0) m progs)) ∧
  (∀ (s : State) (m : Nat), m < 16 → (s.slot m).state = .resident ∨ (s.slot m).state = .offline → slotNamed s m = false →
    let s1 := measure (noteChange (s.setSlot m {}) (dk (0x5110 + m) 1)) (17 + m) zeroBlock
    exec (.slotUnload m) s = .next (dictAnswer (placeSoon s1) 0)) ∧
  (∀ (s : State) (m : Nat) (data : List Byte), m < 16 → restoring s m = true → stepBusy s m = false →
    ((s.slot m).restore = [] → exec (.restoreFrameDone m data false) s = .next (endRestore s m)) ∧
    (∀ (f : Nat) (rest : List Nat), (s.slot m).restore = f :: rest → data.length = frameBytes →
      (Config.sha512 data).take 8 = mapGet [] (s.slot m).checks f →
      let s2 := bump ((storeBytes s 16 0 f data).next.updSlot m (fun x => { x with restore := rest, restoreSince := s.now })) 0x5100 5 1
      exec (.restoreFrameDone m data false) s = .next (if rest = [] then endRestore s2 m else s2))) ∧
  (∀ (s : State) (m : Nat), m < 16 → restoring s m = true → (s.slot m).restore ≠ [] →
    (s.slot m).restoreSince + 1000 * dget s 0x5100 4 < s.now → exec (.restoreTimeout m) s = .next (failRestore s m)) ∧
  (∀ (s : State) (c : Nat), s.ctx.next = some c → s.ctx.switch = none → c ≠ s.ctx.current →
    exec .contextSwitch s = .next { s with ctx := { s.ctx with switch := some { target := c, since := s.now }, next := none } }) ∧
  (∀ (s : State) (w : CtxSwitch), s.ctx.switch = some w → (w.save = true → contextDrained s = true ∧ w.since + switchTime s w ≤ s.now) →
    exec .contextSwitchDone s = .next (finishSwitch s w))

/-- Cadence boundaries, edges, announcements and schedule entries take effect (13_tenants_cadence.md R488 to R493, R500 to R504) -/
def Obligations.CadenceEventsComplete : Prop :=
  ∀ s : State,
    ((cadSource s ≠ 1 ∨ dget s 0x1200 7 ≠ 0) → predicted s ≤ s.ptp → exec .cadenceBoundary s = .next (makeBoundary s (predicted s) false)) ∧
    (∀ stamp : Nat, cadSource s = 1 →
      let b := ((stamp : Int) - (BitVec.ofNat 32 (dget s 0x1200 0xD)).toInt).toNat
      (dget s 0x1200 7 = 0 → nearPrediction s (predicted s) b = true → exec (.cadenceInEdge stamp) s =
        .next (makeBoundary { s with cad := { s.cad with lastEdge := some b, misses := 0 } } b true)) ∧
      (dget s 0x1200 7 = 0 → nearPrediction s (predicted s) b = false → exec (.cadenceInEdge stamp) s =
        .next { s with cad := { s.cad with ignored := s.cad.ignored + 1 } }) ∧
      (dget s 0x1200 7 ≠ 0 → exec (.cadenceInEdge stamp) s = .next (lockingEdge s b))) ∧
    (cadSource s = 1 → dget s 0x1200 7 = 0 → predicted s + dget s 0x1200 4 < s.ptp →
      let s1 := bump (makeBoundary s (predicted s) false) 0x1200 0xB 1
      let s2 : State := { s1 with cad := { s1.cad with misses := s.cad.misses + 1, hits := 0 } }
      exec .cadenceEdgeMissed s = .next (if dget s 0x1200 6 ≤ s.cad.misses + 1 then dset s2 0x1200 7 2 else s2)) ∧
    (cadSource s = 2 → s.cad.lastAnnounce + 4 * cadPeriod s < s.now → exec .fabricCadenceTimeout s = .next (dset s 0x1200 7 2)) ∧
    (∀ epoch period time : Nat,
      let s1 : State := { s with
        ptp := time, cad := { s.cad with fabricEpoch := some epoch, fabricPeriod := period, lastAnnounce := s.now } }
      exec (.grandmasterAnnounce epoch period time) s =
        .next (rephase (if cadSource s = 2 then dset s1 0x1200 7 0 else s1) (predicted s))) ∧
    (∀ e : SchedEntry, dueEntry s = some e →
      (e.kind = 1 → exec .scheduleStep s = .next { passEntry s with
        cad := { (passEntry s).cad with open_ := s.cad.open_ ++ [(e.slot, phaseInstant s (e.phase + e.window))] } }) ∧
      (e.kind = 2 → exec .scheduleContext s = .next (
        if e.ctx = nextContext s then passEntry s
        else if contextReady s e.ctx then { passEntry s with ctx := { s.ctx with next := some e.ctx } }
        else bump (passEntry s) 0x1210 6 1))) ∧
    (let gone := s.cad.open_.filter (fun e => decide (e.2 ≤ s.ptp))
     gone ≠ [] → exec .reservationLapse s =
      .next (bump { s with cad := { s.cad with open_ := s.cad.open_.filter (fun e => decide (s.ptp < e.2)) } } 0x1210 5 gone.length)) ∧
    (∀ table : Nat, table ≤ 1 → tableSound (bget s 0x1210 (1 + table)) = true →
      exec (.scheduleActivate table) s = .next (dictAnswer { s with cad := { s.cad with activate := some table } } 0))

/-- Time is kept, corrected, stepped and announced (13_tenants_cadence.md R493 to R499) -/
def Obligations.TimeEventsComplete : Prop :=
  ∀ s : State,
    (∀ (temp : Nat) (neg : Bool) (m : Nat) (e : Int),
      let dt := (ofFp32 (BitVec.ofNat 32 temp)).add (intNum (-25))
      let c (k : Nat) : Machine.Num := ofFp32 (BitVec.ofNat 32 (dget s 0x1202 (k + 1)))
      (c 0).add (((c 1).mul dt).add (((c 2).mul (dt.mul dt)).add ((c 3).mul (dt.mul (dt.mul dt))))) = .fin neg m e →
      exec (.freqCorrection temp) s = .next (dset (dset s 0x1201 0xB temp) 0x1201 0xA (convFinInt 32 neg m 1 e).code)) ∧
    (∀ stamp : Nat, dbool s 0x1201 7 = true →
      ((ppsOffset stamp).natAbs ≤ 500000 → exec (.ppsInPulse stamp) s =
        .next (acceptPps { s with clock := { s.clock with lastPps := some stamp } } (ppsOffset stamp))) ∧
      (500000 < (ppsOffset stamp).natAbs → exec (.ppsInPulse stamp) s =
        .next (bump { s with clock := { s.clock with ppsGood := 0 } } 0x1201 0xD 1))) ∧
    (dbool s 0x1201 7 = true →
      let s1 : State := { s with clock := { s.clock with ppsMissing := s.clock.ppsMissing + 1, ppsGood := 0 } }
      exec .ppsMissing s = .next (if 2 ≤ s.clock.ppsMissing ∧ dget s 0x1201 1 = 0 then setQuality s1 1 else s1)) ∧
    (∀ time : Nat, exec (.ptpTimeWrite time) s = .next (dictAnswer (writePtpTime s time) 0)) ∧
    (s.clock.silent = false →
      let n := (s.clock.syncSeq + 1) % 65536
      let s1 := timeFrame (timeFrame (timeFrame s 1 [n]) 2 [n, s.ptp]) 3 [n, priority1 s, clockClass s]
      exec .ptpSyncSend s =
        .next (dset { s1 with clock := { s1.clock with syncSeq := n, announceSeq := n } } 0x1201 6 (if dget s 0x6100 5 = 2 then 2 else 1))) ∧
    (∀ (peer : Bool) (seq : Nat), exec (.ptpDelayReq peer seq) s = .next (timeFrame s (if peer then 5 else 4) [seq, s.ptp])) ∧
    (s.ptp / 1000000000 ≠ s.clock.lastSecond → exec .ppsOutSecond s =
      .next (emit { s with clock := { s.clock with lastSecond := s.ptp / 1000000000 } } (.pulse pinPpsOut 100000000)))

/-- Flits are taken, ports change state and links are learned (14_fabric_tandem.md R509 to R514, R517, R521; 19_faults.md R675) -/
def Obligations.PortEventsComplete : Prop :=
  ∀ (s : State) (p : Nat), isPort p = true →
    (∀ (ftype vc seq ackseq cvc credits op dst src tenant : Nat) (priv : Bool) (ord addfmt fidx fcnt tag wmask addr : Nat) (words : List Nat),
      portState s p = portUp →
      (exec (.flitReceive p false ftype vc seq ackseq cvc credits op dst src tenant priv ord addfmt fidx fcnt tag wmask addr words) s =
        .next (emit (bump s (portIdx p) 7 1) (.link p 1 (s.port p).rxSeq))) ∧
      (p < 6 → ftype = 1 → seq = ((s.port p).rxSeq + 1) % 4096 →
        let s0 := drainPort ((ackReplay s p ackseq).updPort p (fun x => { x with credits := mapUpd 64 x.credits cvc (fun c => min 64 (c + credits)) })) p
        let s1 := emit (emit (bump (s0.updPort p (fun x => { x with rxSeq := seq })) (portIdx p) 5 1) (.link p 0 seq)) (.link p 3 vc)
        exec (.flitReceive p true ftype vc seq ackseq cvc credits op dst src tenant priv ord addfmt fidx fcnt tag wmask addr words) s =
          .next (joinFlit s1 p vc fidx wmask { op := op, dst := dst, src := src, tenant := tenant, priv := priv, ord := ord, addfmt := addfmt,
                                               fcnt := fcnt, tag := tag, addr := addr, words := words }))) ∧
    (∀ ackseq : Nat, portState s p = portUp →
      let s1 := ackReplay s p ackseq
      let fs := (s1.port p).replay
      exec (.nakReceive p ackseq) s = .next (fs.foldl (fun s f => emit s (.link p 2 f.seq))
        (bump (s1.updPort p (fun x => { x with replay := x.replay.map (fun f => { f with replays := f.replays + 1 }) })) (portIdx p) 6 fs.length))) ∧
    (portState s p = portUp → (s.port p).replay.any (fun f => decide (8 ≤ f.replays)) = true →
      let times := (s.port p).retrains.filter (fun t => decide (s.now < t + 1000000000)) ++ [s.now]
      let third := decide (3 ≤ times.length)
      exec (.portRetrain p) s = .next (tandemPortFault (setPortState ((bump s (portIdx p) 9 1).updPort p (fun x =>
        { x with
          replay := x.replay.map (fun f => { f with replays := 0 }), retrains := if third then [] else times,
          downSince := if third then some s.now else x.downSince })) p (if third then portDown else portTraining)) p)) ∧
    (∀ (node dx dy dz : Nat) (serial : List Byte) (names : Bool), portState s p = portDown ∨ portState s p = portTraining →
      (s.port p).downSince = none →
      (6 ≤ p → serial = bget s 0x6100 3 → exec (.portTrained p node dx dy dz serial true) s = .next (resumePort (tandemPortBack (setPortState s p portUp) p) p)) ∧
      (p < 6 → (extents s).getD (p / 2) 1 ≠ 1 →
        let s1 : State := dset { s with fabric := { s.fabric with node := dget s 0x6000 1 } } (portIdx p) 3 node
        exec (.portTrained p node dx dy dz serial names) s = .next (if rightlyWired s1 p node [dx, dy, dz]
          then resumePort (setPortState s1 p portUp) p else setPortState s1 p portMiswired))) ∧
    (∀ t : Nat, (s.port p).downSince = some t → t + 1000000000 ≤ s.now →
      exec (.portDownExpire p) s = .next (setPortState (s.updPort p (fun x => { x with downSince := none })) p portTraining)) ∧
    (portState s p = portUp ∨ portState s p = portTraining → exec (.portLossOfSignal p) s = .next (tandemPortFault (setPortState s p portDown) p)) ∧
    (portState s p = portQuarantined → exec (.quarantineRelease p true) s = .next (emit (setPortState s p portTraining) (.dictAnswer 0 []))) ∧
    (∀ (node version mask : Nat) (down : Bool), isFabricPort p = true → mapGet 0 s.fabric.versions node < version → node ≠ s.fabric.node →
      exec (.linkstate p node version mask down) s =
        .next (floodLinkState (putLinks s node version (mask % 64) down) p node version (mask % 64) down))

/-- Remote packets are served, their answers taken, and collectives run (14_fabric_tandem.md R517 to R520, R522 to R527) -/
def Obligations.FabricTrafficCompletes : Prop :=
  (∀ (s : State) (k : Packet) (rest : List Packet), s.fabric.inbox = k :: rest →
    let s0 : State := { s with fabric := { s.fabric with inbox := rest } }
    let free : Prop := nothingHeld s [(k.addr / 2048 * 2048, 2048)] = true ∧ ordScope k.ord ≤ 4
    (k.op = 1 → free → packetReach s0 k true (k.marked.map (·.1)) = true → (storeMarked s0 k.marked).status = 0 →
      exec .fabricWrite s = .next (respond (storeMarked s0 k.marked).next k 5 0 [])) ∧
    (k.op = 2 → free → packetReach s0 k false (readAddrs k) = true → (readCodes s0 (readAddrs k)).1 = 0 →
      exec .fabricRead s = .next (respond (readCodes s0 (readAddrs k)).2.2 k 3 k.fcnt (readCodes s0 (readAddrs k)).2.1)) ∧
    (k.op = 4 → free → packetReach s0 k true (k.marked.map (·.1)) = true →
      let r := addMarked s0 k ((k.marked.map (·.1)).filter (fun a => a % 64 == 0))
      r.status = 0 → exec .fabricAdd s = .next (respond r.next k 5 0 [])) ∧
    (k.op = 3 → exec .rdata s = .next (serveRdata k s0)) ∧
    (∀ o : RemoteOp, opOf s0 k = some o → o.op ≠ 2 → k.op = 5 → exec .ack s = .next (dropOp s0 o)) ∧
    (k.op = 6 → exec .nack s = .next (serveNack k s0))) ∧
  (∀ (s : State) (tag : Nat) (o : RemoteOp), s.fabric.ops.find? (fun o => o.tag == tag) = some o → o.since + 1000 * dget s 0x6000 5 ≤ s.now →
    exec (.fabricRequestTimeout tag) s = .next (failOp s o 0x502 true)) ∧
  (∀ (s : State) (poster tenant : Nat) (priv : Bool) (data : List Byte), data.length = 64 →
    exec (.collPost poster tenant priv data) s =
      .next (postBurst s (poster * 64) { poster := poster, tenant := tenant, priv := priv } (ecsBase + 0x1210800) data).2) ∧
  (∀ (s : State) (q : QEntry) (rest : List QEntry) (c : Instr) (op : Nat),
    (c, op) ∈ [(Instr.allreduce, opAllreduce), (.allgather, opAllgather), (.reducescatter, opReducescatter), (.broadcast, opBroadcast)] →
    s.fabric.coll = none → s.fabric.collQueue = q :: rest → (collDesc q.data).op = op → checkColl s q.origin q.data = 0 →
    exec c s = .next (beginColl { s with fabric := { s.fabric with collQueue := rest, collTaken := sat64 s.fabric.collTaken 1 } } q)) ∧
  (∀ (s : State) (rank : Nat) (desc data : List Byte) (isData : Bool) (bad : List Nat),
    let m : CollMsg := { rank := rank, desc := desc, isData := isData, data := data, bad := bad }
    (∀ r : CollRun, s.fabric.coll = some r → sameCid desc r.data = true →
      exec (.collMessage rank desc isData data bad) s = .next (putColl (collHear s r m))) ∧
    (s.fabric.coll = none →
      exec (.collMessage rank desc isData data bad) s = .next { s with fabric := { s.fabric with collEarly := s.fabric.collEarly ++ [m] } })) ∧
  (∀ (s : State) (r : CollRun), s.fabric.coll = some r →
    let d := collDesc r.data
    (r.mismatch = false → collReady s d r = true →
      let ws := collResult d r ((collRank s d).getD 0)
      let w := storeResult s d.dst ws
      exec .collComplete s = .next (completeColl w.next r.data r.origin
        (firstStatus (if ws.any (·.2) then (if d.reduces then 0x312 else 0x320) else 0) w.status) false)) ∧
    (r.since + 1000 * dget s 0x6000 6 ≤ s.now →
      exec .collTimeout s = .next (completeColl (freeWords s d.dst (d.dstBytes / 32)) r.data r.origin 0x509 false)))

/-- The tandem pair sends, hears, loses, withdraws and mirrors (14_fabric_tandem.md R528 to R539; 21_security_update.md R639) -/
def Obligations.TandemEventsComplete : Prop :=
  (∀ s : State,
    let n := s.tandem.heartSeq + 1
    let c := cadenceNow s
    let beat (x : State) (p : Nat) : State := if portState x p = portUp then
        transmit x p 9 0 1 [n, pairState x, dget x 0x6100 5, dget x 0x6100 2, x.tandem.rxSeq, c / 65536, c % 65536, x.tandem.ownMin, x.tandem.ownMax] []
      else x
    let s1 := beat (beat { s with tandem := { s.tandem with heartSeq := n } } 6) 7
    exec .heartSend s = .next (if dget s 0x6100 5 = 1 ∧ n % 100 = 0 then
      mirror s1 8 0 64 [dget s 0x1201 1, s.ptp, dget s 0x1201 0xA, dget s 0x1200 8, s.cad.start] [] else s1)) ∧
  (∀ (s : State) (port seq partner priority applied vmin vmax : Nat), port < 2 → portState s (6 + port) = portUp → s.tandem.partnerHeart < seq →
    let s1 := noteHeart s seq priority applied
    (pairState s = pairSeeking ∨ pairState s = pairSolo → exec (.heart port seq partner priority applied vmin vmax) s =
      .next (countHeart s1 (seq == s.tandem.partnerHeart + 1) partner vmin vmax)) ∧
    (pairState s = pairFenced → dget s 0x6100 5 = 2 → exec (.heart port seq partner priority applied vmin vmax) s =
      .next (dset (enterSyncing { s1 with dev := s.tandem.left }) 0x6100 0xF (min s.tandem.ownMax vmax))) ∧
    (pairState s = pairActive ∨ pairState s = pairSyncing → exec (.heart port seq partner priority applied vmin vmax) s = .next (settleActive s1))) ∧
  (∀ s : State, mirroring s = true → s.tandem.lastBeat + 30000 ≤ s.now →
    (portState s 6 = portUp ∨ portState s 7 = portUp →
      exec .heartbeatTimeout s = .next (tandemPortFault (bump (setPortState (setPortState s 6 portDown) 7 portDown) 0x6100 8 1) 6)) ∧
    (tandemLinksDown s = true → s.tandem.lastPresence + 60000 ≤ s.now → exec .tandemLost s = .next (losePartner s)) ∧
    (tandemLinksDown s = true → s.tandem.lastBeat < s.tandem.lastPresence → exec .tandemFenced s = .next (fence s))) ∧
  (∀ s : State, (mirroring s = true → s.tandem.withdraw = false → exec .withdraw s = .next (dictAnswer (startWithdraw s) 0)) ∧
    (pairState s = pairHeld → exec .rejoin s = .next (dictAnswer (enterSeeking s) 0))) ∧
  (∀ (s : State) (seq : Nat), mirroring s = true ∨ pairState s = pairFenced ∨ s.tandem.promote ≠ [] → seq = s.tandem.rxSeq + 1 →
    let took (f : State → State) : Res := .next (settleActive (f { s with tandem := { s.tandem with rxSeq := seq } }))
    (∀ (req : Nat) (entry window digest : List Byte) (keys : List Nat),
      exec (.mirrorAdmit seq req entry window digest keys) s = took (takeMirrorAdmit seq req entry window digest keys)) ∧
    (∀ (req tenant : Nat) (data : List Byte), exec (.mirrorCommand seq req tenant data) s = took (takeMirrorCommand req tenant data)) ∧
    (∀ (req draft lane pos kind frame : Nat) (data : List Byte),
      exec (.mirrorAppend seq req draft lane pos kind frame data) s = took (fun s => fillPosition s req draft lane pos (kind % 2) frame data) ∧
      exec (.mirrorCatchup seq req draft lane pos kind frame data) s = took (fun s =>
        if pos < mapGet 0 s.tandem.heldPos (heldKey req draft lane (kind % 2)) then s else fillPosition s req draft lane pos (kind % 2) frame data)) ∧
    (∀ (slot step : Nat) (parts : List (List Nat × List Nat)),
      exec (.mirrorCommit seq slot step parts) s = took (takeMirrorCommit seq slot step parts)) ∧
    (∀ (cutter gen tenant stamp : Nat) (data : List Byte),
      exec (.mirrorCutter seq cutter gen tenant stamp data) s = took (takeMirrorCutter seq cutter gen tenant stamp data)) ∧
    (∀ (what req draft tenant : Nat) (keys : List Nat),
      exec (.mirrorPrefix seq what req draft tenant keys) s = took (takeMirrorPrefix what req draft tenant keys)) ∧
    (∀ quality time freq period boundary : Nat,
      exec (.mirrorTime seq quality time freq period boundary) s = took (takeMirrorTime quality time freq period boundary)) ∧
    (∀ slot : Nat, exec (.mirrorHandover seq slot) s = took (takeMirrorHandover slot)) ∧
    (∀ (index sub stamp : Nat) (value : List Byte),
      exec (.mirrorDict seq index sub stamp value) s = took (takeMirrorDict seq index sub stamp value))) ∧
  (∀ (s : State) (seq : Nat) (marks : List (Nat × Bool)) (mapped : List (Nat × Nat)), mirroring s = true → seq ≤ s.tandem.txSeq →
    exec (.mirrorAck seq marks mapped) s = .next (settleActive (endMirror (endWaits (takeMarks s marks mapped) seq) seq))) ∧
  (∀ (s : State) (share signature partnerKey : List Byte), (pairState s = pairSeeking ∨ (mirroring s = true ∧ s.tandem.pairKey = [])) →
    let priv := Config.random s.free 32
    let pub := Config.x25519Public priv
    let ids := if ranksFirst s then bget s 0x1000 5 ++ bget s 0x6100 3 else bget s 0x6100 3 ++ bget s 0x1000 5
    exec (.pairKeyAgree share signature partnerKey true) s = .next (if Config.ed25519Verify partnerKey share signature = false then s
      else emit { s with free := s.free + 1, tandem := { s.tandem with
        pairKey := (Config.sha512 (Config.x25519 priv share ++ ids)).take 32, presenceSeq := 0, partnerPresence := 0 } }
      (.frame 20 [] (pub ++ Config.ed25519Sign Config.identityPrivate pub))))

/-- Writes of dictionary entries are checked, journalled, mirrored and take effect (16_dictionary.md R591 to R594, R601; 14_fabric_tandem.md R529, R531; 13_tenants_cadence.md R469, R470; 21_security_update.md R724) -/
def Obligations.DictionaryWritesComplete : Prop :=
  (∀ (s : State) (index sub : Nat) (v : List Byte) (r : DictRow), s.nirnar.jobs = [] → s.dev ≠ .off → notReady s = none →
    dictRow index sub = some r → isCommand r index sub = false → index ≠ 0x9020 → dk index sub ≠ dk 0x2000 1 →
    let j : DictJob := { asker := .direct, key := dk index sub, value := v }
    let s1 : State := { s with nirnar := { s.nirnar with jobs := [j] } }
    let v1 := clearReserved index v
    let j1 : DictJob := { j with stamp := s.ptp, since := s.now, value := v1 }
    let written : State := if r.stored then setHead s1 { j1 with stage := .journal } else effectJob s1 j1 0
    r.wr ≠ 0 → writeAbort s1 r index sub v1 = 0 →
    (index < 65536 → sub < 256 → exec (.dictWrite index sub v) s = .next written) ∧
    (∀ t n a : Nat, t < 64 → 1 ≤ n → n ≤ 64 → index = 0x4001 + 0x40 * t → sub = n → v = natLE 8 a → exec (.apertureWrite t n a) s = .next written) ∧
    (∀ x : Nat, index = 0x6100 → sub = 1 → v = natLE 1 x → exec (.tandemEnableWrite x) s = .next written) ∧
    (∀ n : Nat, 1 ≤ n → n ≤ 8 → index = 0x9030 → sub = n → exec (.slotSigningKeyWrite n v) s = .next written)) ∧
  (∀ (s : State) (j : DictJob) (rest : List DictJob), s.nirnar.jobs = j :: rest → j.stage = .journal →
    (exec (.journalWriteDone false) s = .next (nextJob (finishJob s j 0x03010000))) ∧
    (∀ r : DictRow, dictRow (j.key / 256) (j.key % 256) = some r →
      let s1 := journalValue s r (j.key / 256) (j.key % 256) j.value
      (isMirrored (j.key / 256) = false ∨ mirroring s = false → exec (.journalWriteDone true) s = .next (nextJob (effectJob s1 j 0))) ∧
      (isMirrored (j.key / 256) = true → mirroring s = true →
        let s2 := mirror { s1 with tandem := { s1.tandem with stamps := mapSet 0 s1.tandem.stamps j.key j.stamp } } 6 0 (j.value.length + 32)
          [j.key / 256, j.key % 256, j.stamp] (j.value ++ padTo 16 (bget s 0x1000 5))
        exec (.journalWriteDone true) s = .next (setHead s2 { j with stage := .mirror, mirrorSeq := s2.tandem.txSeq, since := s.now })))) ∧
  (∀ (s : State) (j : DictJob) (rest : List DictJob), s.nirnar.jobs = j :: rest → j.stage = .mirror → j.since + 10000000 ≤ s.now →
    exec .mirrorTimeout s = .next (nextJob (effectJob s j 0x03020000)))

/-- Rings are enabled, disabled, served and failed, and doorbells processed (15_host_interface.md R551 to R562; 13_tenants_cadence.md R465, R466; 19_faults.md R670) -/
def Obligations.RingCommandsComplete : Prop :=
  ∀ (s : State) (t r : Nat), t < 64 → r < 1024 →
    (∀ v : Nat, (s.tenant t).state = .active → s.dev ≠ .recovery → exec (.doorbell t r v) s = .next (applyDoorbell s t r v)) ∧
    (∀ v : Nat, (s.tenant t).state = .quiescing →
      exec (.doorbell t r v) s = .next (s.updTenant t (fun x => { x with held := x.held ++ [(r, v)] }))) ∧
    (∀ k : Nat, ringNo s t r = some k →
      let x := s.ring k
      (∀ v : Nat, x.busy = false → tdiLocked s t = false → x.enable = false →
        let y : Ring := { ctrlFields x v with owner := t }
        enableStatus s t y = 0 →
        let s1 := s.setRing k { y with enable := true, cfgstat := 0, qhead := 0, qtail := 0, rsv := 0, taken := 0, bound := none }
        (isSubmission y.type = false → exec (.ringEnable t r v) s = .next s1) ∧
        (∀ c : Nat, isSubmission y.type = true → ringNo s1 t y.cring = some c →
          exec (.ringEnable t r v) s = .next (s1.updRing c (fun z => { z with bound := some y.type })))) ∧
      (x.busy = false → tdiLocked s t = false → x.enable = true → disableRefused s t k = false →
        exec (.ringDisable t r) s = .next (disableRing (s.setRing k { x with cfgstat := 0 }) k)) ∧
      (x.busy = true → x.enable = false → x.taken = 0 → exec (.ringDisableDone t r) s =
        .next (s.setRing k { x with busy := false, qhead := 0, qtail := 0, bound := none, stalled := false })) ∧
      (x.enable = true ∨ x.busy = true → exec (.ringAccessFail t r) s =
        .next (failRing (if isSubmission x.type then hostViolation s else s) k))) ∧
    (∀ (host : List Byte) (k : Nat) (ks : List Nat), s.dev = .service ∨ s.dev = .fenced →
      (s.rings.map (·.1)).filter (fun k => decide (s.ringTurn < k)) ++ (s.rings.map (·.1)).filter (fun k => decide (k ≤ s.ringTurn)) = k :: ks →
      (∀ (x y : State), offerRing s k host = (some x, y) → exec (.ringEntryTake host) s = .next x) ∧
      (∀ y : State, offerRing s k host = (none, y) → exec (.ringEntryTake host) s = .next (serveRings host ks y)))

/-- Host accesses, interrupts, functions, the link and external inputs act as the rules give (15_host_interface.md R544, R545, R548 to R550, R564, R566 to R571; 18_start_up.md R628) -/
def Obligations.HostEventsComplete : Prop :=
  ∀ s : State,
    (∀ t index mask : Nat, t < 64 → index < 32 →
      let ns := ((List.range 64).filter (bitOf mask)).filterMap (fun b => localSource s t (64 * index + b))
      exec (.ipendClear t true index mask) s =
        .next { s with irq := { s.irq with pend := ns.foldl (fun m n => mapSet false m n false) s.irq.pend } }) ∧
    (∀ index mask : Nat, index < 32 →
      let ns := ((List.range 64).filter (bitOf mask)).map (fun b => 64 * index + b)
      exec (.ipendClear 0 false index mask) s =
        .next { s with irq := { s.irq with pend := ns.foldl (fun m n => mapSet false m n false) s.irq.pend } }) ∧
    (∀ (index value n fn : Nat) (t : Nat) (view : Bool), t < 64 → index < 2048 → (view = true ∨ t = 0) →
      (if view then localSource s t index else some index) = some n → bitsOf value 31 30 ≤ (if view then 1 else 3) →
      ownerOfSource s n = some fn → (bitsOf value 31 30 = 1 → value % 65536 < msixSize fn) →
      exec (.itargetWrite t view index value) s =
        .next { s with irq := { s.irq with target := mapSet 0 s.irq.target n (bitsOf value 31 30 * 2 ^ 30 + value % 65536) } }) ∧
    (∀ fn vec : Nat, fn < 64 → vec < msixSize fn →
      let k := fn * 2048 + vec
      let s1 : State := { s with irq := { s.irq with msiUnmasked := mapSet false s.irq.msiUnmasked k true } }
      exec (.msixUnmask fn vec) s = .next (if mapGet false s.irq.pba k
        then sendMsix { s1 with irq := { s1.irq with pba := mapSet false s1.irq.pba k false } } fn vec else s1)) ∧
    (∀ fn index value : Nat, fn < 64 → index < 64 →
      let w := mapGet {} s.host.win (fn * 64 + index)
      let base := value % 2 ^ 52
      let w1 : WinSlice := if base % sliceBytes s fn ≠ 0 then { w with badbase := true }
        else { valid := bitOf value 63, badbase := w.badbase && !(bitOf value 62), base := base }
      exec (.winWrite fn index value) s = .next { s with host := { s.host with win := mapSet {} s.host.win (fn * 64 + index) w1 } }) ∧
    (∀ (fn offset n : Nat) (ps : List (Nat × Nat)) (ep : Bool), fn < 64 → bar2Served s.dev = true →
      (n ≠ 0 → windowAccess s fn offset n false = some ps → nothingHeld s ps = true → (readParts s fn ps).status = 0 →
        exec (.bar2Access fn offset n none ep) s = .next (emit (readParts s fn ps).next
          (.hostCompletion fn 0 (readParts s fn ps).bytes (readParts s fn ps).poisoned))) ∧
      (∀ d : List Byte, d ≠ [] → windowAccess s fn offset d.length true = some ps → nothingHeld s ps = true →
        exec (.bar2Access fn offset n (some d) ep) s = .next (writeParts s fn ep ps d))) ∧
    (∀ (fn : Nat) (write : Bool), fn < 64 →
      exec (.bar0BadAccess fn write) s = .next (hostViolation (if write then s else emit s (.hostCompletion fn 2 [] false))) ∧
      exec (.flr fn) s = .next (flr s fn)) ∧
    (s.host.up = true → s.tandem.resetWait = none → s.tandem.withdraw = false → (dbool s 0x2050 8 = false ∨ mirroring s = false) →
      let s1 := dset (dset (bump { s with host := { s.host with up := false } } 0x2050 3 1) 0x2050 1 0) 0x2050 2 0
      exec .hostLinkDown s = .next (linkLoss (recordFault s1 (faultOf 0x254 clsTenant kindPort 8 0xFF 0)))) ∧
    (∀ speed width : Nat, 1 ≤ speed → speed ≤ 7 → width ∈ [1, 2, 4, 8, 16] → s.host.perst = false → s.dev ≠ .off → s.dev ≠ .reset →
      exec (.hostLinkUp speed width) s =
        .next (dset (dset { s with host := { s.host with up := true, l0p := 0 } } 0x2050 1 speed) 0x2050 2 width)) ∧
    (exec .perstNRelease s = .next { s with host := { s.host with perst := false } }) ∧
    (∀ field fn value : Nat, configOk field fn value = true →
      (∀ t < 64, goneVf s field value t = true ∨ (field = 3 ∧ 1 ≤ t) → tdiLocked s t = false) →
      exec (.pcieConfigWrite field fn value) s = .next (writeFunction s field fn value)) ∧
    (∀ width : Nat, s.host.up = true →
      (exec (.l0pWidthChange width false true) s = .next { s with host := { s.host with l0p := 0 } }) ∧
      (width ∈ [1, 2, 4, 8] → width < (if s.host.l0p = 0 then dget s 0x2050 2 else s.host.l0p) → dbool s 0x2050 9 = true →
        exec (.l0pWidthChange width true false) s = .next { s with host := { s.host with l0p := width } })) ∧
    (∀ (pin : Nat) (rise : Bool), pin < 8 →
      let l := dget s 0x2051 0xB
      let s1 := dset s 0x2051 0xB (if rise then l ||| 2 ^ pin else clearBit l pin)
      exec (.gpiEdge pin rise) s = .next (if bitOf (dget s 0x2051 (if rise then 0xC else 0xD)) pin then raiseLocal s1 0 (8 + pin) else s1)) ∧
    (∀ input : Nat, input < 10 →
      exec (.inputGlitch input) s = .next { s with host := { s.host with glitches := mapUpd 0 s.host.glitches input (fun n => n + 1) } })

/-- Frames of a session are acted on by their opcode (16_dictionary.md R577, R579 to R590, R596, R598) -/
def Obligations.NirnarFramesActed : Prop :=
  ∀ (s s1 : State) (vlan net : Nat) (prp : Option (Nat × Nat)) (d : List Byte), lanAccept s vlan prp = (true, s1) → isFrame d = true →
    hasAddress s1 net = true →
    let f := frameParts d
    (∀ (x : Session) (c : Instr) (op : Nat) (f1 : State → Session → State) (host : List Byte) (ok : Bool),
      (c, op, f1) ∈ [(Instr.nirnarRead vlan prp net d, 0x10, fun s x => readIn s x f),
        (.nirnarWrite vlan prp net d host ok, 0x12, fun s x => writeIn s x host ok f), (.subscribe vlan prp net d, 0x18, fun s x => subscribeIn s x f),
        (.unsubscribe vlan prp net d, 0x19, fun s x => unsubscribeIn s x f), (.notifyAck vlan prp net d, 0x1B, fun s x => notifyAckIn s x f),
        (.nirnarAbort vlan prp net d, 0x20, fun s _ => s), (.close vlan prp net d, 0x21, fun s x => endSession s x.number),
        (.keepalive vlan prp net d, 0x30, fun s x => sendFrame s x 0x30 f.trans [])] →
      f.op = op → f.session ≠ 0 → f.session ≠ 0xFFFFFFFF → sessionOf s1 f.session = some x → f.tagged = true → x.rxSeq < f.seq →
      f.blen = f.body.length → minBody op ≤ f.body.length → reservedSet f = false → x.kept.find? (fun k => k.1 == f.trans) = none →
      x.open_.contains f.trans = false → s1.now ≤ x.lastHeard + 1000000 * x.idle →
      let y : Session := { x with rxSeq := f.seq, lastHeard := s1.now }
      exec c s = .next (if tagGood x.rxKey f then f1 (updNirnar s1 x.number (fun _ => y)) y else bump s1 0x1100 0x12 1)) ∧
    (∀ k : List Byte, f.op = 1 → f.session = 0 → s1.sec.identity = true → f.blen = f.body.length → 36 ≤ f.body.length → reservedSet f = false →
      keyOf s1 (u16 f.body 0) = some k → 1 ≤ u8 f.body 2 → u8 f.body 2 ≤ keyAuthority k → (s1.nirnar.handshakes.filter (fun h => decide (s1.now ≤ h.since + 1000000000))).length < 4 →
      s1.nirnar.sessions.length < dget s1 0x1100 0xA →
      exec (.hello vlan prp net d) s = .next (challenge s1 net f)) ∧
    (∀ (h : Handshake) (k : List Byte), f.op = 3 → f.session ≠ 0 → s1.nirnar.handshakes.find? (fun h => h.number == f.session && f.op == 3) = some h →
      f.blen = f.body.length → 96 ≤ f.body.length → reservedSet f = false → keyOf s1 h.keyId = some k → s1.now ≤ h.since + 1000000000 →
      s1.nirnar.sessions.length < dget s1 0x1100 0xA →
      exec (.prove vlan prp net d) s = .next (
        if Config.ed25519Verify (k.take 32) (Config.sha512 (h.h1 ++ f.body.take 32)) ((f.body.drop 32).take 64) then acceptSession s1 h f
        else untaggedAbort (dropHandshake s1 h.number) h.number f.trans 0x06040000)) ∧
    (f.op = 0x40 → f.session = 0xFFFFFFFF → s1.tandem.pairKey ≠ [] → f.tagged = true → s1.tandem.partnerPresence < f.seq → f.body.length = 40 →
      f.body.take 16 = padTo 16 (bget s1 0x6100 3) →
      let s2 : State := { s1 with tandem := { s1.tandem with partnerPresence := f.seq, lastPresence := s1.now } }
      exec (.presence vlan prp net d) s = .next (
        if tagGood s1.tandem.pairKey f = false then bump s1 0x1100 0x12 1
        else if (u8 f.body 16 = 1 ∨ u8 f.body 16 = 2) ∧ mirroring s2 = true then losePartner s2 else s2))

/-- The service ports answer, sessions expire and notify, and mailboxes read and write (16_dictionary.md R576 to R578, R585, R587, R590, R594, R596 to R601) -/
def Obligations.ServicePortEventsComplete : Prop :=
  (∀ (s s1 : State) (vlan : Nat) (prp : Option (Nat × Nat)), lanAccept s vlan prp = (true, s1) →
    (∀ (port target sender : Nat) (mac : List Byte), dget s1 0x1100 3 ≠ 0 → target = dget s1 0x1100 3 →
      exec (.arpRequest port vlan prp target sender mac) s =
        .next (emit s1 (.frame 12 [port % 2, target, sender] (bget s1 0x1100 (1 + port % 2) ++ mac)))) ∧
    (∀ (port : Nat) (source : List Byte), exec (.neighbourSolicitation port vlan prp (linkLocal s1 port) source) s =
      .next (emit s1 (.frame 13 [port % 2] (linkLocal s1 port ++ bget s1 0x1100 (1 + port % 2) ++ source)))) ∧
    (∀ (net ident seq : Nat) (data : List Byte), hasAddress s1 net = true →
      exec (.icmpEcho vlan prp net false ident seq data) s = .next (emit s1 (.frame 14 [net, ident, seq] data)))) ∧
  (∀ s : State, portsUp s = true →
    (let n := (s.nirnar.prpSeq + 1) % 65536
     exec .prpSupervisionSend s = .next (emit { s with nirnar := { s.nirnar with prpSeq := n } } (.frame 11 [n] (bget s 0x1100 1)))) ∧
    (exec .presenceSend s = .next (presenceFrame s 0))) ∧
  (∀ (s : State) (n : Nat) (h : Handshake), s.nirnar.handshakes.find? (fun h => h.number == n) = some h → h.since + 1000000000 < s.now →
    exec (.handshakeExpire n) s = .next (dropHandshake s n)) ∧
  (∀ (s : State) (n : Nat) (x : Session), sessionOf s n = some x →
    (x.lastHeard + 1000000 * x.idle < s.now → exec (.sessionIdle n) s = .next (endSession s n)) ∧
    (∀ (index sub : Nat) (u : Subscription), s.subs.find? (fun u => u.session == n && u.key == dk index sub) = some u → u.changes ≠ 0 →
      u.lastNotify + 1000 * u.minInt ≤ s.now → x.unacked.length < 4 → exec (.notify n index sub) s = .next (sendNotify s x u 0 false)) ∧
    (∀ (nseq : Nat) (m : Unacked) (y : Session), x.unacked.find? (fun n => n.nseq == nseq) = some m → m.since + 100000000 ≤ s.now → m.sends < 5 →
      let s1 := updNirnar s n (fun x => { x with
        unacked := x.unacked.map (fun m => if m.nseq = nseq then { m with since := s.now, sends := m.sends + 1 } else m) })
      sessionOf s1 n = some y → exec (.notifyResend n nseq) s = .next (sendFrame s1 y 0x1A 0 m.body))) ∧
  (∀ (s : State) (who : Nat),
    (exec (.snapshotExpire true who) s = .next (updBox s who (fun b => if stale s b.snapshot then { b with snapshot := none } else b))) ∧
    (exec (.snapshotExpire false who) s = .next (updNirnar s who (fun x => if stale s x.snapshot then { x with snapshot := none } else x))) ∧
    (exec (.stagingExpire true who) s = .next (updBox s who (fun b => if stale s b.staging then { b with staging := none } else b))) ∧
    (exec (.stagingExpire false who) s = .next (updNirnar s who (fun x => if stale s x.staging then { x with staging := none } else x)))) ∧
  (∀ (s : State) (fn index sub offset : Nat), fn < 64 → boxServed s fn = true → (mapGet {} s.host.boxes fn).busy = false →
    let s1 := updBox s fn (fun b => { b with busy := true, done := false })
    let b := mapGet {} s1.host.boxes fn
    inRecoveryMode s1 = false → b.len ≤ 65536 →
    (let r := readSegment s1 (boxAccessor s1 fn) b.snapshot index sub offset b.len
     exec (.dictCmdRead fn index sub offset) s = .next (finishBox
      (updBox s1 fn (fun b => { b with snapshot := r.snapshot, buffer := mapSetRun 0 b.buffer 0 r.bytes })) fn (typeOf index sub) r.abort r.total)) ∧
    (∀ (final ok : Bool) (host v : List Byte), gateAbort s1 true index = 0 → accessAbort s1 (boxAccessor s1 fn) true index sub = 0 →
      stageSegment s1 b.staging (dk index sub) (typeOf index sub) final offset (mapGetRun 0 b.buffer 0 b.len) = .whole v →
      exec (.dictCmdWrite fn final index sub offset host ok) s = .next (submitWrite (updBox s1 fn (fun b => { b with staging := none }))
        { asker := .mailbox fn, key := dk index sub, value := v, host := host, ok := ok })))

/-- The board management port and the test access port answer (22_package.md R741, R743 to R747) -/
def Obligations.PackagePortsAnswer : Prop :=
  (∀ (s : State) (a : Nat), a < 128 → i3cAnswers s = true → s.pkg.i3cAddr = none →
    exec (.entdaa a) s = .next (emit { s with pkg := { s.pkg with i3cAddr := some a } } (.mgmt 2 [a] []))) ∧
  (∀ (s : State) (a : Nat), i3cAnswers s = true → s.pkg.i3cAddr = some a →
    (∀ arg : Nat, exec (.pldmBaseDiscovery 0 2 arg) s = .next (pldmAnswer s 0 0 [0] []) ∧
      exec (.pldmBaseDiscovery 0 4 arg) s = .next (pldmAnswer s 0 0 [21] [])) ∧
    (∀ arg ∈ [0, 2, 4], exec (.pldmBaseDiscovery 0 3 arg) s = .next (pldmAnswer s 0 0 [arg, 1] [])) ∧
    (∀ e ∈ [(0, 60), (2, 2 ^ 0x11 + 2 ^ 0x21), (4, 6)], exec (.pldmBaseDiscovery 0 5 e.1) s = .next (pldmAnswer s 0 0 [e.2] [])) ∧
    (∀ ty command arg : Nat, ty ≠ 0 ∨ command ∉ [2, 3, 4, 5] → exec (.pldmBaseDiscovery ty command arg) s = .next (pldmError s ty 5)) ∧
    (∀ n command : Nat, 1 ≤ n → n ≤ 26 → command = (if n ≤ 12 then 0x11 else 0x21) → exec (.pldmSensorRead command n) s =
      .next (pldmAnswer s 2 0 (match sensorValue s n with
        | some v => [n, 0, v]
        | none => [n, 2]) [])) ∧
    (exec (.pldmFruRead 1) s = .next (pldmAnswer s 4 0 [(fruRecord s).length, 1] [])) ∧
    (exec (.pldmFruRead 2) s = .next (pldmAnswer s 4 0 [] (fruRecord s))) ∧
    (∀ command : Nat, command ∉ [1, 2] → exec (.pldmFruRead command) s = .next (pldmError s 4 5))) ∧
  (∀ s : State, s.dev ≠ .off →
    (exec .bypass s = .next (tapTake s 0 [0])) ∧ (exec .idcode s = .next (tapTake s 1 [0x100087C5])) ∧
    (∀ levels pattern : List Bool, exec (.samplePreload levels pattern) s =
      .next { tapTake s 2 (levels.map boolNat) with pkg := { s.pkg with tapIr := 2, boundary := pattern } }) ∧
    (∀ (c : Instr) (ir : Nat) (drive : Bool),
      (c, ir, drive) ∈ [(Instr.extest, 3, true), (.clamp, 4, true), (.highz, 5, false), (.extestPulse, 6, true), (.extestTrain, 7, true)] →
      exec c s = .next (if s.dev = .reset ∨ s.dev = .rom ∨ s.dev = .test then tapTake s ir (if drive then s.pkg.boundary.map boolNat else [])
        else tapTake s 0 [0])))

/-- Temperatures are watched, power is arbitrated and the regulators are polled (17_power_thermal.md R605 to R623) -/
def Obligations.PowerEventsComplete : Prop :=
  (∀ (s : State) (readings : List (Option Int)), s.dev ≠ .off →
    let r := readSensors s 0 ((readings ++ List.replicate 656 none).take 656)
    let s2 : State := { r with power := { r.power with scans := r.power.scans + 1 } }
    (s.dev = .thermalHold → exec (.sensorScan readings) s = .next { s2 with power := { s2.power with
      coolSince := if allCool s2 then some (s2.power.coolSince.getD s.now) else none } }) ∧
    (s.dev ≠ .thermalHold → ∀ i, confirmed s s2 = some i → ∃ t, exec (.sensorScan readings) s = .next t ∧ t.dev = .thermalHold ∧
      t.power.trip.valid = true ∧ t.power.trip.domain = (sensorPlace i).1 ∧ t.power.trip.sensor = (sensorPlace i).2 ∧
      t.pkg.tripLow = true ∧ t.out.getLast? = some (.pin pinThermtripN false)) ∧
    (s.dev ≠ .thermalHold → confirmed s s2 = none → exec (.sensorScan readings) s =
      .next (if (hotRefresh s2).power.scans % 100 = 0 then publishTemps (hotRefresh s2) else hotRefresh s2))) ∧
  (∀ (s : State) (since : Nat), s.dev = .thermalHold → s.power.coolSince = some since → since + 30000000000 ≤ s.now →
    ∃ t, exec .thermalHoldEnd s = .next t ∧ t.dev = .reset ∧ dget t 0x2000 5 = 4 ∧ t.pkg.tripLow = false ∧
      t.power.trip = { s.power.trip with holdMs := min ((s.now - s.power.holdSince) / 1000000) (2 ^ 32 - 1) }) ∧
  (∀ s : State, firmwareUp s = true →
    let s1 := stageAll (vidUpdate (applyGrants s))
    let (g, lt, bt, short) := computeGrants s1
    let s3 := chargeCredit { s1 with power := { s1.power with next := g, ladleTurn := lt, boostTurn := bt } } (g.cost + calibrationUnits s1)
    let s4 := if short then bump s3 0x3000 0xB 1 else s3
    let s5 := if g.boost = [] then s4 else bump s4 0x3000 0xA 1
    exec .arbiterEpoch s = .next (showCredit (if capBinds s1 then bump s5 0x3100 0xA 1 else s5))) ∧
  (∀ s : State, firmwareUp s = true →
    let s1 := capDie (capDie s 0) 1
    let s2 : State := { s1 with power := { s1.power with
      limitW := limitStep s1 0 s.power.limitW, limitE := limitStep s1 1 s.power.limitE } }
    let s3 := (List.range 8).foldl (fun s' st => allowanceUp s' st (if st < 4 then s.power.limitW else s.power.limitE)) s2
    exec .dieCapUpdate s = .next (if dget s3 0x3100 4 < 8 ∨ dget s3 0x3100 5 < 8 then setAlert s3 4 else clearAlert s3 4)) ∧
  (∀ (s : State) (rails : List (Nat × Nat × Nat × Nat)), firmwareUp s = true →
    let ended (t : State) : State := { t with power := { t.power with costSum := 0, costEpochs := 0, ran := false } }
    (railsNamed s = [] → exec (.pmbusPoll rails) s =
      .next (dset { ended s with power := { (ended s).power with c := none } } 0x3000 7 (dget s 0x3001 8))) ∧
    (railsNamed s ≠ [] →
      let s1 := (railsNamed s).foldl (fun s i => pollRail s i (rails.getD i (1, 0, 0, 0))) s
      let power := sumNat ((railsNamed s).map (fun i => if (s1.rail i).faulty then railShare s1 else (s1.rail i).power))
      let s2 := dset s1 0x3000 4 (f32Watts power)
      let s3 := if ofF32 (dget s2 0x3000 5) 1000000 < power then dset s2 0x3000 5 (f32Watts power) else s2
      let s4 := if s1.power.c.isSome ∨ ∀ i ∈ railsNamed s, (rails.getD i (1, 0, 0, 0)).1 = 0 then calibrate s3 power else s3
      let exceeded := dget s 0x3000 2 * 1000000 < power ∨ (dget s 0x3000 1 * 1000000 < power ∧ s.power.ran = false)
      exec (.pmbusPoll rails) s = .next (ended (if exceeded ∧ bitOf (dget s 0x3000 0xD) 0 = false then
        recordFault (setAlert s4 1) (faultOf 0x701 clsCorrected kindPower 0 0xFF 0) else s4)))) ∧
  (∀ s : State, firmwareUp s = true → mapWf 0 s.power.vref = true → ∃ t, exec .vrefCorrection s = .next t ∧
    ∀ d < 138, mapGet 0 t.power.vref d = (match dieTemp s d with
      | some c => Config.vrefPolynomial (configCopy s) d c
      | none => mapGet 0 s.power.vref d))

/-- Power, the pins, the boot ROM and the device commands move the device between its states (18_start_up.md R624 to R635, R643, R644; 22_package.md R735 to R742; 17_power_thermal.md R620) -/
def Obligations.StartUpEventsComplete : Prop :=
  (∀ s : State, (s.dev = .off → s.pkg.pwrgd = false →
      ∃ t, exec .pwrgdRise s = .next t ∧ t.dev = .reset ∧ t.pkg.pwrgd = true ∧ t.pkg.pwrgdSince = s.now ∧ t.flash = s.flash ∧ dget t 0x2000 5 = 0) ∧
    (s.pkg.pwrgd = true →
      ∃ t, exec .pwrgdFall s = .next t ∧ t.dev = .off ∧ t.pkg.pwrgd = false ∧ t.flash = s.flash ∧ t.dict = [] ∧ t.stackMap = []) ∧
    (s.pkg.pwrgd = true → s.dev ≠ .off →
      ∃ t, exec .sysrefLoss s = .next t ∧ t.dev = .off ∧ t.flash = s.flash ∧ t.dict = [] ∧ t.stackMap = [])) ∧
  (∀ s : State, s.dev = .reset → (∀ i < 656, (s.sensor i).hot = false ∨ (s.sensor i).failed = true) →
    ∃ t, exec .resetToRom s = .next t ∧ t.dev = .rom ∧ t.out = s.out ++ [.pulse pinXspiResetN 10000]) ∧
  (∀ (s : State) (agree : Bool) (trained : List Nat), s.dev = .rom → s.sec.recoveryMode = false →
    (chooseCopy s.flash.cfgA s.flash.cfgB = none → exec (.romBootDone agree trained) s = .next (enterRecoveryMode s true)) ∧
    (∀ c, chooseCopy s.flash.cfgA s.flash.cfgB = some c →
      let s1 := loadIdentity (endTrial { s with sec := { s.sec with identity := true, cfgCopy := c } })
      let b := bootRecord s1
      let m := manifestOf s1 b.run
      exec (.romBootDone agree trained) s = .next (
        if agree = true ∧ (noBoot s1 = true ∨ Config.sha512 m = b.digest) ∧ manStatus m b.floor = 0 ∧ setOk s1 b.run = true
        then enterConfig { s1 with sec := { s1.sec with runSet := b.run } } trained else enterRecoveryMode s1 false))) ∧
  (∀ s : State, s.dev = .config → s.test.waiting = [] → s.test.running = [] → s.test.deferred = [] →
    let s1 := countSpares ((List.range 8).foldl openStack s)
    let s2 := loadEngines (deriveFigures { s1 with pots := [], locals := [], buffers := [], merges := [] })
    let s3 := dset s2 0x7100 0xA (sumNat ((List.range 8).map (fun st => 32 - chanCount (s2.stack st))))
    let s4 := if anyRetired s3 then dset s3 0x1000 0x10 1 else s3
    let s5 := if minimumMet s4 then s4 else startEvent s4 0x262 kindDevice 0
    exec .configDone s = .next (if minimumMet s4 = true ∧ dbool s5 0x2000 3 = false ∧ s5.test.enterTest = false then readyThenService s5
      else enterTest s5)) ∧
  (∀ s : State, s.dev ≠ .off →
    let refused : Res := .next (refuseInState s)
    (exec .deviceResetCmd s = if s.dev = .reset ∨ s.dev = .thermalHold then refused else .next (resetAfterWithdraw (dictAnswer s 0) 1)) ∧
    (s.dev = .config → exec .deviceEnterTest s = .next (dictAnswer { s with test := { s.test with enterTest := true } } 0)) ∧
    (s.dev = .ready → exec .deviceEnterTest s = .next (
      if (pairState s = pairDisabled ∨ pairState s = pairSeeking ∨ pairState s = pairHeld) ∧ noRequests s = true
      then dictAnswer (enterTest s) 0 else dictAnswer s 0x04060201)) ∧
    (s.dev ≠ .config → s.dev ≠ .ready → exec .deviceEnterTest s = refused) ∧
    (exec .leaveTest s = if s.dev ≠ .test then refused
      else if minimumMet s then .next (dictAnswer (readyThenService (leaveTest s)) 0) else .next (dictAnswer s 0x04060201)) ∧
    (exec .deviceStartService s = if s.dev ≠ .ready then refused
      else if dbool s 0x7100 0xB then .next (dictAnswer s 0x04060263) else .next (dictAnswer (enterService s) 0)) ∧
    (exec .stopService s = if s.dev ≠ .service then refused
      else if (List.range 63).all (fun t => (s.tenant (t + 1)).state == .unassigned) = true ∧ noRequests s = true ∧
          (pairState s = pairDisabled ∨ pairState s = pairSeeking ∨ pairState s = pairSolo ∨ pairState s = pairHeld)
      then .next (dictAnswer (disableRings (enterReady s) 0) 0) else .next (dictAnswer s 0x04060201))) ∧
  (∀ s : State,
    (s.dev = .off ∨ s.dev = .thermalHold → exec .perstNAssert s = .next { s with host := { s.host with perst := true } }) ∧
    (s.dev ≠ .off → s.dev ≠ .thermalHold →
      let s2 := dset (dset { s with host := { s.host with perst := true, up := false } } 0x2050 1 0) 0x2050 2 0
      exec .perstNAssert s = .next (if s.host.wasReady = false then linkReset s2
        else if dget s 0x2000 4 = 0 then resetAfterWithdraw s2 2 else linkLoss s2))) ∧
  (∀ (s : State) (cause since : Nat), s.tandem.resetWait = some (cause, since) → s.tandem.withdraw = false ∨ since + 10000000 ≤ s.now →
    let s1 : State := { s with tandem := { s.tandem with resetWait := none } }
    exec .withdrawWaitExpire s = .next (if cause = waitLink then linkLoss s1 else startReset s1 cause true))

/-- Self-test units start, are retried, end and fail, and in-field runs are requested and end (18_start_up.md R636 to R651) -/
def Obligations.SelfTestEventsComplete : Prop :=
  (∀ (s : State) (mv khz : Nat) (u : TestUnit) (rest : List TestRange), nextUnit s.test.waiting = some (u, rest) → inField s = false →
    let s1 := askVoltage s u
    (unitRoom s u = false → exec (.selftestUnitStart mv khz) s = .next s1) ∧
    (unitRoom s u = true →
      let s2 : State := { s1 with test := { s1.test with waiting := rest } }
      (isLogic u.kind = false ∨ windowMet mv khz = true → exec (.selftestUnitStart mv khz) s = .next (beginUnit s2 u)) ∧
      (isLogic u.kind = true → windowMet mv khz = false →
        let s3 := testEvent s2 u 0x260
        exec (.selftestUnitStart mv khz) s = .next { s3 with test := { s3.test with deferred := s3.test.deferred ++ [(u, s.now)] } }))) ∧
  (∀ (s : State) (mv khz : Nat) (u : TestUnit) (rest : List TestRange), nextUnit s.test.waiting = some (u, rest) → inField s = true →
    let s0 := askVoltage s u
    let s1 : State := match unitEngine u with
      | some e => if s.test.stopped.contains e = false then { s0 with test := { s0.test with stopped := e :: s0.test.stopped } } else s0
      | none => s0
    ((unitRoom s u = false ∨ unitIdle s u = false) → exec (.selftestUnitStart mv khz) s = .next s1) ∧
    (unitRoom s u = true → unitIdle s u = true →
      let s2 : State := { s1 with test := { s1.test with waiting := rest } }
      exec (.selftestUnitStart mv khz) s = .next (if isLogic u.kind = false ∨ windowMet mv khz = true then beginUnit s2 u
        else afterScan (resumeEngine (testEvent s2 u 0x260) u) u true))) ∧
  (∀ (s : State) (mv khz since : Nat) (u : TestUnit) (rest : List (TestUnit × Nat)), s.test.deferred = (u, since) :: rest →
    let s1 : State := { s with test := { s.test with deferred := rest } }
    exec (.selftestRetry mv khz) s = .next (if windowMet mv khz = true ∧ unitRoom s u = true then beginUnit s1 u
      else if since + 2000000000 ≤ s.now then afterScan (bump s1 0x7100 5 1) u true
      else { s1 with test := { s1.test with deferred := rest ++ [(u, since)] } })) ∧
  (∀ (s : State) (u : TestUnit) (signature : Nat) (pass identityOk : Bool) (badRows : List Nat), u ∈ s.test.running →
    let s1 : State := { s with test := { s.test with running := s.test.running.filter (· != u) } }
    let s2 := marchFaults s1 u badRows
    let s3 := if inField s then copyKept (zeroUnit (clearChannel s2 u) u) u true else s2
    let s4 := if unitPasses s u signature pass badRows then s3 else failUnit s3 u
    exec (.selftestUnitDone u.kind u.stack u.index signature pass badRows identityOk) s =
      .next (afterScan (if inField s then resumeEngine s4 u else s4) u identityOk)) ∧
  (∀ (s : State) (data : List Byte), s.dev ≠ .off →
    let s0 := if s.health.probes = [] then s else abandonProbes s
    (runAbort s0 data = 0 → exec (.runRequest data) s = .next (dictAnswer (startRun s0 data) 0)) ∧
    (runAbort s0 data ≠ 0 → exec (.runRequest data) s =
      .next (dictAnswer (if runAbort s0 data / 65536 = 0x0201 then cmdState s else s) (runAbort s0 data)))) ∧
  (∀ (s : State) (r : FieldRun), s.test.run = some r → s.test.waiting = [] → s.test.running = [] →
    let s1 := if r.kind = 7 then
        s.updStack r.stack (fun x => (List.range r.count).foldl (fun y i => leaveTestFrame y (r.first + i)) x) else s
    let s2 := dset (dset s1 0x7100 2 s.test.result) 0x7100 3 s.ptp
    let s3 := bump (dset s2 0x7100 4 (min ((s.now - r.since) / 1000000) (2 ^ 32 - 1))) 0x7100 0xE 1
    exec .runDone s = .next (dset { s3 with test := { s3.test with run := none, result := 0, stopped := [] } } 0x7100 0xD 2))

/-- The SPDM responder of each function and the quotes answer (21_security_update.md R699 to R705; 15_host_interface.md R545) -/
def Obligations.AttestationCommandsComplete : Prop :=
  (∀ (s : State) (fn : Nat), fn < 64 → doeServed s = true →
    let unexpected : Res := .next (spdmError s fn spdmUnexpected)
    (∃ t, exec (.getVersion fn) s = .next t ∧ (∀ x ∈ t.sec.spdmSessions, x.fn ≠ fn) ∧ t.out = s.out ++ [.mgmt 1 [fn, 0x04, 0x13] []]) ∧
    (∀ request : List Byte, exec (.getCapabilities fn request) s = if (s.spdm fn).version = false then unexpected else
      .next (spdmAnswer (noteSpdm (setSpdm s fn { s.spdm fn with capabilities := true }) fn (request ++ [0x61])) fn 0x61 [] [])) ∧
    (∀ (asym hash dhe aead : Nat) (request : List Byte), exec (.negotiateAlgorithms fn asym hash dhe aead request) s =
      if (s.spdm fn).capabilities = false then unexpected
      else if bitOf asym 9 = false ∨ bitOf hash 2 = false then .next (spdmError s fn spdmInvalid)
      else .next (spdmAnswer (noteSpdm (setSpdm s fn { s.spdm fn with algorithms := true }) fn (request ++ [0x63])) fn 0x63
        [512, 4, if bitOf dhe 4 then 16 else 0, if bitOf aead 1 then 2 else 0] [])) ∧
    ((s.spdm fn).algorithms = false → exec (.getDigests fn) s = unexpected ∧
      ∀ (slot offset length operation : Nat) (sign : Bool) (nonce : List Byte),
        exec (.getCertificate fn slot offset length) s = unexpected ∧ exec (.spdmChallenge fn slot nonce) s = unexpected ∧
        exec (.getMeasurements fn operation sign nonce) s = unexpected ∧ exec (.keyExchange fn slot nonce) s = unexpected) ∧
    ((s.spdm fn).algorithms = true →
      let c := certChain s
      (exec (.getDigests fn) s =
        .next (spdmAnswer (noteSpdm s fn (0x81 :: 0x01 :: Config.sha512 c)) fn 0x01 [1] (Config.sha512 c))) ∧
      (∀ slot offset length : Nat, exec (.getCertificate fn slot offset length) s =
        if slot = 0 ∧ offset < c.length then
          let d := cut c offset length
          .next (spdmAnswer (noteSpdm s fn (0x82 :: 0x02 :: d)) fn 0x02 [slot, d.length, c.length - offset - d.length] d)
        else .next (spdmError s fn spdmInvalid)) ∧
      (∀ (slot : Nat) (nonce : List Byte),
        let body := Config.sha512 c ++ Config.random s.free 32
        let t := (s.spdm fn).transcript ++ nonce ++ body
        exec (.spdmChallenge fn slot nonce) s = if slot ≠ 0 then .next (spdmError (authFailure s) fn spdmInvalid)
          else if s.sec.identity = false then .next (spdmError s fn spdmBusy)
          else .next (spdmAnswer { setSpdm s fn { s.spdm fn with transcript := [] } with free := s.free + 1 } fn 0x03 [0]
            (body ++ Config.ed25519Sign Config.identityPrivate (natLE 1 1 ++ Config.sha512 t)))) ∧
      (∀ (operation : Nat) (nonce : List Byte), operation ≤ 34 ∨ operation = 0xFF →
        let blocks := if operation = 0 then [] else if operation = 0xFF then (List.range 34).map (· + 1) else [operation]
        let count := if operation = 0 then 34 else blocks.length
        let v := blocks.flatMap (fun i => natLE 1 i ++ blockValue s i)
        let own := Config.random s.free 32
        exec (.getMeasurements fn operation false nonce) s = .next (spdmAnswer (noteSpdm s fn (nonce ++ v)) fn 0x60 [count] v) ∧
        exec (.getMeasurements fn operation true nonce) s = if s.sec.identity = false then .next (spdmError s fn spdmBusy)
          else .next (spdmAnswer { s with free := s.free + 1 } fn 0x60 [count] (v ++ own ++
            Config.ed25519Sign Config.identityPrivate (natLE 1 2 ++ Config.sha512 ((s.spdm fn).transcript ++ nonce ++ v ++ own))))) ∧
      (∀ share : List Byte,
        (4 ≤ s.sec.spdmSessions.length ∨ s.sec.identity = false → exec (.keyExchange fn 0 share) s = .next (spdmError s fn spdmBusy)) ∧
        (s.sec.spdmSessions.length < 4 → s.sec.identity = true → ∃ t key answer, exec (.keyExchange fn 0 share) s = .next t ∧
          t.sec.spdmSessions = s.sec.spdmSessions ++ [{ fn := fn, id := s.sec.nextSpdm, key := key, lastHeard := s.now }] ∧
          t.sec.nextSpdm = s.sec.nextSpdm + 1 ∧ t.out = s.out ++ [.mgmt 1 [fn, 0x64, s.sec.nextSpdm] answer])))) ∧
  (∀ (s : State) (fn id : Nat) (x : SpdmSession), fn < 64 → doeServed s = true → spdmSession s fn id = some x →
    (x.established = false → ∀ verify : List Byte, exec (.finish fn id verify) s =
      .next (if verify = Config.hmacSha512 x.key (Config.sha512 (s.spdm fn).transcript)
        then spdmAnswer (updSession s id (fun y => { y with established := true, lastHeard := s.now })) fn 0x65 [id] []
        else spdmError (dropSession (authFailure s) id) fn spdmDecrypt)) ∧
    (x.established = true →
      let s1 := updSession s id (fun y => { y with lastHeard := s.now })
      (∀ operation : Nat, 1 ≤ operation → operation ≤ 3 → exec (.keyUpdate fn id operation) s = .next (spdmAnswer
        (if operation = 3 then s1 else updSession s1 id (fun y => { y with updates := y.updates + operation })) fn 0x69 [id, operation] [])) ∧
      (exec (.spdmHeartbeat fn id) s = .next (spdmAnswer s1 fn 0x68 [id] [])) ∧
      (exec (.endSession fn id) s = .next (spdmAnswer (dropSession s1 id) fn 0x6C [id] [])) ∧
      (∀ (op arg : Nat) (key : List Byte), exec (.vendorDefined fn id 0 op arg key) s = .next (ideMessage s1 fn op arg key) ∧
        exec (.vendorDefined fn id 1 op arg key) s = .next (tdispMessage s1 fn op arg)))) ∧
  (∀ (s : State) (mailbox : Bool) (who : Nat), s.dev ≠ .off →
    let place := (quotePlace s mailbox who).2
    (quoteAbort s mailbox who ≠ 0 → ∀ nonce : List Byte,
      exec (.quoteNonceWrite mailbox who nonce) s = .next (dictAnswer s (quoteAbort s mailbox who)) ∧
      exec (.quoteRead mailbox who) s = .next (dictAnswer s (quoteAbort s mailbox who))) ∧
    (quoteAbort s mailbox who = 0 →
      (∀ nonce : List Byte, nonce.length = 32 → exec (.quoteNonceWrite mailbox who nonce) s =
        .next (dictAnswer { s with sec := { s.sec with nonces := mapSet [] s.sec.nonces place nonce } } 0)) ∧
      (mapGet [] s.sec.nonces place ≠ [] → s.sec.identity = true → exec (.quoteRead mailbox who) s =
        .next (emit s (.dictAnswer 0 (quoteOf s (mapGet [] s.sec.nonces place))))) ∧
      (mapGet [] s.sec.nonces place = [] ∨ s.sec.identity = false → exec (.quoteRead mailbox who) s = .next (dictAnswer s 0x04070000))))

/-- Firmware is staged, verified, activated, confirmed or cancelled (21_security_update.md R710 to R720) -/
def Obligations.UpdateCommandsComplete : Prop :=
  (∀ s : State, s.dev ≠ .off → notReady s = none →
    let refused : Res := .next (refuseUpdate s)
    (∀ m : List Byte, m.length ≤ 65536 →
      let bad := manStatus m (bootRecord s).floor
      let st := updateState s
      exec (.stageManifest m) s = if bad ≠ 0 then .next (refuseCode s bad)
        else if st = updDownloading ∧ sameManifest s m = true then .next (dictAnswer s 0)
        else if st = updDownloading ∨ ((st = updIdle ∨ st = updStaged) ∧ sameManifest s m = false) then
          .next (dictAnswer (setUpdate (showTarget (setTargetManifest { s with flash := { s.flash with bitmap := [] } } m)) updDownloading) 0)
        else refused) ∧
    (∀ (d : List Byte) (ok : Bool), d.length = 4104 →
      (updateState s ≠ updDownloading → exec (.chunk d ok) s = refused) ∧
      (updateState s = updDownloading → u32 d 0 < chunksTotal (manifestOf s (targetSet s)) →
        let inside := manPayload (manifestOf s (targetSet s)) - 4096 * u32 d 0
        zeroBytes d (8 + inside) (4096 - inside) = true → exec (.chunk d ok) s = .next (if mapGet false s.flash.bitmap (u32 d 0) = true then dictAnswer s 0
          else if ok then dictAnswer (programChunk s (u32 d 0) (d.drop 8)) 0 else dictAnswer s 0x03010000))) ∧
    (updateState s ≠ updDownloading → updateState s ≠ updStaged → exec .updateCancel s = refused) ∧
    (updateState s = updDownloading ∨ updateState s = updStaged → exec .updateCancel s = .next (dictAnswer (setUpdate
      (bset (dset (dset (setTargetManifest s []) 0x9000 6 0) 0x9000 7 0) 0x9000 8 []) updIdle) 0)) ∧
    (exec .activate s = if updateState s ≠ updStaged then refused
      else if mayActivate s then .next (dictAnswer (setUpdate (bump { s with sec := { s.sec with activation := some { since := s.now, old := s.faults.activeCore, seq := s.faults.seq } } }
        0x9000 0xB 1) updActivating) 0)
      else .next (refuseCode s 0x604)) ∧
    (updateState s ≠ updTrial → ∀ v : Bool, exec (.confirm v) s = refused) ∧
    (updateState s = updTrial → exec (.confirm false) s = .next (dictAnswer s 0) ∧
      let b := bootRecord s
      let m := manifestOf s b.trial
      exec (.confirm true) s = .next (dictAnswer (setUpdate (showTarget (dset
        (writeBoot s b.trial 0xFF (max b.floor (manSec m)) (Config.sha512 m)) 0x9010 3 0)) updIdle) 0))) ∧
  (∀ s : State, updateState s = updVerifying → firmwareUp s = true →
    let bad := (manParts (manifestOf s (targetSet s))).filter (fun p => !(partOkIn s (targetSet s) p))
    let s1 := bad.foldl (fun s p => clearPart (updateCode (recordEntry s (faultOf 0x602 clsCorrected kindDevice 0 0xFF 0)) 0x602) p) s
    exec .updateVerifyDone s = .next (if bad = [] then setUpdate s updStaged
      else setUpdate (dset s1 0x9000 7 (chunksHeld s1 (manifestOf s (targetSet s)))) updDownloading)) ∧
  (∀ (s : State) (a : Activation), s.sec.activation = some a →
    (∀ started : Bool, exec (.activationFailed started) s = .next (failActivation s started)) ∧
    (activationHolds s a = false → exec .activationDone s = .next (failActivation s true)) ∧
    (activationHolds s a = true → flipRoom s = true → ∃ t, exec .activationDone s = .next t ∧
      t.sec.activation = none ∧ t.sec.runSet = targetSet s ∧ t.faults.activeCore = 1 - a.old ∧
        (if a.old = 0 then t.faults.coreA else t.faults.coreB).restarting = true))

/-- Service cores are watched and lost, and device faults are recovered from in turn (19_faults.md R658 to R675) -/
def Obligations.RecoveryEventsComplete : Prop :=
  (∀ (s : State) (checker : Nat), checker ≤ 1 → firmwareUp s = true → (coreOf s checker).up = true → (coreOf s (1 - checker)).up = true →
    let other := 1 - checker
    (exec (.coreHeartbeatCheck checker true) s = .next (updCore s other (fun c => { c with missed := 0, lastBeat := s.now }))) ∧
    ((coreOf s other).missed < 2 →
      exec (.coreHeartbeatCheck checker false) s = .next (updCore s other (fun c => { c with missed := c.missed + 1 }))) ∧
    (2 ≤ (coreOf s other).missed →
      exec (.coreHeartbeatCheck checker false) s = .next (loseCore (updCore s other (fun c => { c with missed := c.missed + 1 })) other))) ∧
  (∀ (s : State) (core : Nat), core ≤ 1 →
    (firmwareUp s = true → exec (.serviceCoreFault core) s = .next (loseCore s core)) ∧
    ((coreOf s core).restarting = true → ∃ t, exec (.serviceCoreRestartDone core) s = .next t ∧ (coreOf t core).up = true ∧
      (coreOf t core).restarting = false ∧ (coreOf t core).missed = 0 ∧ coreOf t (1 - core) = coreOf s (1 - core))) ∧
  (∀ s : State, firmwareUp s = true → s.faults.coreA.up = false → s.faults.coreB.up = true → s.faults.coreB.lastBeat + 1000000 ≤ s.now →
    ∃ t, exec .serviceCoresDead s = .next t ∧ t.dev = .reset ∧ dget t 0x2000 5 = 5 ∧ t.flash = s.flash) ∧
  (∀ (s : State) (w : Window), deviceWindow s = some w → s.faults.recoverySince = none →
    let s1 : State := { s with
      dev := if s.dev = .service then .recovery else s.dev, faults := { s.faults with recoverySince := some s.now } }
    let s3 := (List.range 9).foldl drainForRecovery (noteChange (bump s1 0x8002 2 1) (dk 0x1000 0xF))
    exec .deviceRecovery s = .next (abandonContext ((s3.svc.steps.map (·.1)).foldl
      (fun s m => if (stepAt s m).phase = .acking then s else setStep s m { stepAt s m with discard := true }) s3))) ∧
  (∀ (s : State) (w : Window) (since : Nat), deviceWindow s = some w → s.faults.recoverySince = some since →
    (s.now ≤ since + 1000000 * dget s 0x8002 1 → recoveryReady s = true →
      let s1 := (List.range 9).foldl (fun s e => reloadServing s e (decide (w.kind = kindEngine) && decide (w.index = e))) s
      let s2 : State := { s1 with
        dev := if s1.dev = .recovery then .service else s1.dev
        faults := { s1.faults with recoverySince := none, interrupted := s1.faults.interrupted.filter (fun v => v.kind != kindSlot) } }
      let s3 := recordEntry (noteChange s2 (dk 0x1000 0xF)) (faultOf 0x275 clsCorrected w.kind w.index 0xFF ((s.now - since) / 1000))
      exec .recoveryDone s = .next (closeWindow
        ((List.range 64).foldl (fun s t => if (s.tenant t).state = .active then releaseDoorbells s t else s) s3))) ∧
    (since + 1000000 * dget s 0x8002 1 < s.now → s.faults.fatal = none →
      exec .recoveryTimeout s = .next (recordFault s (faultOf 0x273 clsFatal w.kind w.index 0xFF 0)))) ∧
  (∀ (s : State) (f : FaultEntry), s.faults.fatal = some f → ∃ t, exec .fatalReset s = .next t ∧ t.dev = .reset ∧ dget t 0x2000 5 = 3 ∧
    t.faults.ring = []) ∧
  (∀ (s : State) (w : Window), s.faults.window = some w → recovered s w = true → exec .recoveryWindowClose s = .next (closeWindow s)) ∧
  (∀ s : State, s.dev ≠ .off → notReady s = none →
    (∀ value : Nat, ∃ t, exec (.faultSummaryWrite value) s = .next t ∧ t.faults.summary = s.faults.summary - (s.faults.summary &&& value) ∧
      t.faults.ring = s.faults.ring) ∧
    (∃ t, exec (.ringClear true) s = .next t ∧ t.faults.ring = [] ∧ t.faults.seq = s.faults.seq ∧ t.faults.summary = s.faults.summary) ∧
    (exec (.ringClear false) s = .next (dictAnswer s 0)))

/-- Recovery mode takes a package and answers its status (21_security_update.md R721 to R723; 16_dictionary.md R590) -/
def Obligations.RecoveryModeCompletes : Prop :=
  (∀ (s : State) (data : List Byte) (final : Bool), inRecoveryMode s = true → s.sec.recovery.state = 0 →
    (exec (.recoveryData 0 data final) s = .next (dictAnswer (addPackage
      { s with sec := { s.sec with recovery := { s.sec.recovery with total := none, bytes := [], held := [] } } }
      (if final then some data.length else none) 0 data) 0)) ∧
    (receivedBytes s ≠ 0 → exec (.recoveryData (receivedBytes s) data final) s = .next (dictAnswer (addPackage s
      (if final then some (receivedBytes s + data.length) else none) (receivedBytes s) data) 0))) ∧
  (∀ (s : State) (total off : Nat) (d : List Byte), inRecoveryMode s = true → s.sec.recovery.state ≠ 1 → d.length ≤ 1024 →
    off + d.length ≤ total → total < 2 ^ 32 →
    let s1 : State := if s.sec.recovery.total = some total then s
      else { s with sec := { s.sec with recovery := { s.sec.recovery with total := some total, bytes := [], held := [] } } }
    exec (.recoveryDatagram ([0x52, 0x58, 1, 0] ++ natLE 4 total ++ natLE 4 off ++ natLE 2 d.length ++ [0, 0] ++ d)) s =
      .next (addPackage s1 (some total) off d)) ∧
  (∀ s : State, inRecoveryMode s = true →
    (s.sec.recovery.answersSince + 1000000000 ≤ s.now ∨ s.sec.recovery.answers < 100 → ∃ t, exec .recoveryStatusRequest s = .next t ∧
      t.out = s.out ++ [.frame 10 [0x5852, 3, 0, s.sec.recovery.total.getD 0, 0, 16, 0] (recoveryStatus s)])) ∧
  (∀ s : State, inRecoveryMode s = true → s.sec.recovery.state = 1 →
    exec .recoveryPackageCheck s = .next (if packageCheck s ≠ 0 then
        { s with sec := { s.sec with recovery := { s.sec.recovery with
          state := 3, code := 0x609, detail := packageCheck s, total := none, bytes := [], held := [] } } }
      else
        let p := packageParts s
        let s1 := if p.hasCfg then writeConfig s p.cfg else s
        enterReset (if p.hasSet then writeSet s1 p else s1) 1))

/-- Wear is sampled by the hour and by probes and eye scans, and judged by the day (20_health.md R685 to R698) -/
def Obligations.HealthEventsComplete : Prop :=
  (∀ (s : State) (mv : List Nat) (ro em : List (List Nat)), s.pkg.pwrgd = true → s.health.hourSince + 3600000000000 ≤ s.now →
    let s1 : State := { s with
      flash := { s.flash with hours := s.flash.hours + 1 }, health := { s.health with hourSince := s.health.hourSince + 3600000000000 } }
    let s2 := dset s1 0x7000 1 (min s1.flash.hours (2 ^ 32 - 1))
    let s3 := sampleDie (sampleDie s2 0 (mv.getD 0 0) ((ro.getD 0 []).take 32) ((em.getD 0 []).take 16))
      1 (mv.getD 1 0) ((ro.getD 1 []).take 32) ((em.getD 1 []).take 16)
    (firmwareUp s = false → exec (.healthHourly mv ro em) s = .next s1) ∧
    (firmwareUp s = true → exec (.healthHourly mv ro em) s = .next ((List.range 8).foldl sampleStack s3))) ∧
  (∀ (s : State) (st : Nat), st < 8 → firmwareUp s = true → dbool s 0x7000 8 = true → s.health.probes.any (fun e => e.1 == st) = false →
    (∀ t, (st, t) ∈ s.health.lastProbe → t + 86400000000000 ≤ s.now) →
    let s1 : State := { s with health := { s.health with lastProbe := mapInsert s.health.lastProbe st s.now } }
    (probeFrame s st = none → exec (.retentionProbe st) s = .next (bump s1 0x7000 0xB 1)) ∧
    (∀ f, probeFrame s st = some f → (s.stack st).testFrames.length + (s.stack st).testEntering.length < 8 → s.test.run = none →
      exec (.retentionProbe st) s = if (stackMax s st).any (fun t => decide (degrees 85 < t)) then .next (bump s1 0x7000 0xB 1)
        else
          let s2 := fillChecker (s1.updStack st (fun x => { zeroFrame x f with testFrames := x.testFrames ++ [f] })) st f
          .next { s2 with health := { s2.health with probes := mapInsert s2.health.probes st { frame := f, since := s.now } } })) ∧
  (∀ (s : State) (st : Nat) (p : Probe), st < 8 → s.health.probes.find? (fun e => e.1 == st) = some (st, p) →
    p.since + 1000000 * p.hold ≤ s.now →
    exec (.retentionHoldEnd st false) s = .next (endProbe s st p) ∧
    exec (.retentionHoldEnd st true) s = .next (if 1024 ≤ p.hold then endProbe s st { p with best := p.hold }
      else { s with health := { s.health with
        probes := mapInsert s.health.probes st { p with best := p.hold, hold := 2 * p.hold, since := s.now } } })) ∧
  (∀ (s : State) (lanes : List (Nat × Nat × Nat × Nat)), firmwareUp s = true → exec (.eyeScan lanes) s = .next (sampleEyes
    (sampleEyes (lanes.foldl scanLane s) 10 (lanes.filter (fun e => e.1 != 8))) 11 (lanes.filter (fun e => e.1 == 8)))) ∧
  (∀ s : State, firmwareUp s = true → s.flash.days < s.flash.hours / 24 →
    let s1 : State := { s with flash := { s.flash with days := s.flash.hours / 24 } }
    exec .dailyPoint s = .next ((List.range 12).foldl (fun s d =>
      updateFigures ((monitors d).foldl (fun s m => dayMonitor s d m) s) d) s1)) ∧
  (∀ (s : State) (v : Nat), s.dev ≠ .off → notReady s = none →
    let s1 : State := { s with
      flash := { s.flash with lanes := s.flash.lanes.filter (fun e => (e.1 / 16 == 8) != (v == 11))
                              points := mapSet [] s.flash.points (monKey v monEye) [] }
      health := { s.health with samples := mapSet [] s.health.samples (monKey v monEye) [] } }
    exec (.rebaseLinks v) s = if v = 10 ∨ v = 11 then
        .next (dictAnswer (updateFigures (dset (dset s1 (0x7020 + v) 1 0) (0x7020 + v) 3 0) v) 0)
      else .next (dictAnswer s 0x04010000))

/-- Register writes reach the registers of a function's page and of engine control space (15_host_interface.md R545 to R549, R572, R573; 08_memory_model.md R9; 12_serving.md R412, R423) -/
def Obligations.RegisterWritesComplete : Prop :=
  (∀ (s : State) (fn offset : Nat) (data host : List Byte) (ep ok : Bool), fn < 64 → 1 ≤ data.length →
    (offset + data.length ≤ bar0Size fn → exec (.regWrite false 0xF0 fn offset data ep host ok) s = .next (writeBar0 s fn offset data ep host ok)) ∧
    (∀ agent ∈ [0xF0, 0xF2, 0xF3, 16], offset + data.length ≤ 2 ^ 32 → data.length ≤ 64 →
      exec (.regWrite true agent 0 offset data ep host ok) s = .next (if ep then hostViolation s else regWrite s agent 0 offset data))) ∧
  (∀ (s : State) (req : Nat) (groupMin : Option Nat), (s.req req).matching = true → (s.req req).state = .queued →
    exec (.submitMatchDone req groupMin) s = .next (settleSubmit (mirrorAdmit (takePrefix s req groupMin) req) req))

/-- Check symbols make the codeword polynomial vanish at four powers of alpha (06_word_code.md R204) -/
def Obligations.CheckSymbols : Prop :=
  gfXn 8 1 = 2 ^ 4 + 2 ^ 3 + 2 ^ 2 + 1 ∧ (∀ i < 32, symDeg i = i + 4) ∧ (∀ j < 4, symDeg (32 + j) = j) ∧
    (∀ (c : Code288) (k : Nat), syndrome c k = (List.range 36).foldl (fun a s => a ^^^ gfXn (k * symDeg s) (symAt c s)) 0) ∧
    ∀ d : Word256, dataOf (encode288 d) = d ∧ (∀ i < 32, symAt (encode288 d) i = d.toNat / 2 ^ (8 * i) % 256) ∧
      ∀ k < 4, syndrome (encode288 d) k = 0

/-- One symbol in error is corrected, two and three are never taken for data, four never for a valid word (06_word_code.md R208) -/
def Obligations.CodeGuarantees : Prop :=
  ∀ (d : Word256) (c : Code288),
    let e := symDiff (encode288 d) c
    (e.length = 0 → decode288 c = { cls := .valid, data := d, code := encode288 d }) ∧
    (e.length = 1 → if (symDiff c poisonWord).length ≤ 1 then decode288 c = { cls := .poison, data := 0, code := poisonWord }
      else (decode288 c).cls = .corrected ∧ (decode288 c).data = d ∧ (decode288 c).code = encode288 d ∧ e = [(decode288 c).pos]) ∧
    (e.length = 2 ∨ e.length = 3 → (decode288 c).cls = .uncorrectable ∨ (decode288 c).cls = .poison) ∧
    (e.length = 4 → (decode288 c).cls ≠ .valid)

/-- The poison word is never a valid codeword (06_word_code.md R210) -/
def Obligations.PoisonWord : Prop :=
  dataOf poisonWord = 0 ∧ poisonWord.toNat / 2 ^ 256 = 0xFFFFFFFF ∧ symDiff poisonWord (encode288 0) = [32, 33, 34, 35] ∧
    (∀ d : Word256, encode288 d ≠ poisonWord) ∧ (decode288 poisonWord).cls = .poison

/-- A stored word is read back, and no other stored word changes (04_stacks.md R134 to R140; 06_word_code.md R205, R230, R231) -/
def Obligations.StoredWordFrame : Prop :=
  ∀ (x : Machine.Stack) (p row w : Nat) (c : Code288), row < 20480 → w < 64 →
    rawRead (rawWrite x p row w c) p row w = c ∧
    ∀ p' row' w' : Nat, row' < 20480 → w' < 64 → (p', storedRow x p' row', w') ≠ (p, storedRow x p row, w) →
      rawRead (rawWrite x p row w c) p' row' w' = rawRead x p' row' w'

/-- An unwritten row reads as zero data without an error, and the first write makes the rest of it zero (06_word_code.md R219, R220; 04_stacks.md R113) -/
def Obligations.UnwrittenRows : Prop :=
  (∀ (s : State) (st p row w reader addr tenant : Nat) (seen : Code288), rowIsValid (s.stack st) p row = false →
    let l := loadCellSeen s st p row w seen reader addr tenant
    l.status = 0 ∧ l.data = 0 ∧ l.poison = false ∧ (inTest (s.stack st) p row = false → l.next = if reader = 0xFF then s else touchCell s st p) ∧
    touchCell s st p = s.setStack st { s.stack st with lastAccess := mapSet 0 (s.stack st).lastAccess p s.now }) ∧
  (∀ (x : Machine.Stack) (p row : Nat), rowIsValid x p row = false → row < 20480 →
    rowIsValid (openRow x p row) p row = true ∧ (∀ w < 64, rawRead (openRow x p row) p row w = encode288 0) ∧
    ∀ p' row' : Nat, row' < 20480 → (p', storedRow x p' row') ≠ (p, storedRow x p row) →
      rowIsValid (openRow x p row) p' row' = rowIsValid x p' row' ∧ ∀ w < 64, rawRead (openRow x p row) p' row' w = rawRead x p' row' w)

/-- Counters saturate, clear on a write of 0 and refuse any other value (02_numbers.md R47; 16_dictionary.md R589, R595) -/
def Obligations.CountersSaturateAndClear : Prop :=
  (∀ (s : State) (index sub n : Nat) (r : DictRow), dictRow index sub = some r → r.kind = .counter →
    dget (bump s index sub n) index sub = min (dget s index sub + n) (2 ^ (8 * typeBytes r.ty) - 1) ∧
    ∀ i j : Nat, dk i j ≠ dk index sub → dget (bump s index sub n) i j = dget s i j) ∧
  (∀ v n : Nat, sat64 v n = min (v + n) (2 ^ 64 - 1)) ∧
  (∀ (index sub : Nat) (r : DictRow) (v : List Byte), dictRow index sub = some r → r.kind = .counter → r.ty ≠ 9 →
    v.length = typeBytes r.ty → valueAbort r index sub v = if leNat v = 0 then 0 else 0x04030000) ∧
  (∀ (s : State) (index sub : Nat) (r : DictRow), dictRow index sub = some r → r.kind = .counter →
    dget (applyScalar s index sub 0) index sub = 0)

/-- A BAR2 offset reaches the device address of its slice (15_host_interface.md R549) -/
def Obligations.WindowSlices : Prop :=
  (∀ (s : State) (fn o n : Nat), fn < 64 → 6 ≤ s.host.bar2Log → 6 ≤ s.host.vfBar2Log →
    let z := sliceBytes s fn
    let win (i : Nat) : WinSlice := mapGet {} s.host.win (fn * 64 + i)
    64 * z = 2 ^ (if fn = 0 then s.host.bar2Log else s.host.vfBar2Log) ∧
    ((∀ j < n, (o + j) / z < 64 ∧ (win ((o + j) / z)).valid = true) → (windowParts s fn o n 65).isSome = true) ∧
    ∀ ps, windowParts s fn o n 65 = some ps → ∀ j < n,
      (ps.flatMap (fun p => (List.range p.2).map (p.1 + ·)))[j]? = some ((win ((o + j) / z)).base + (o + j) % z)) ∧
  (∀ (s : State) (fn i v : Nat), fn < 64 → i < 64 →
    let w := mapGet {} s.host.win (fn * 64 + i)
    ∃ t, exec (.winWrite fn i v) s = .next t ∧ t = { s with host := { s.host with win := t.host.win } } ∧
      (∀ k, k ≠ fn * 64 + i → mapGet {} t.host.win k = mapGet {} s.host.win k) ∧
      mapGet {} t.host.win (fn * 64 + i) = if v % 2 ^ 52 % sliceBytes s fn ≠ 0 then { w with badbase := true }
        else { valid := bitOf v 63, badbase := w.badbase && !(bitOf v 62), base := v % 2 ^ 52 })

/-- A doorbell moves its ring's index or is dropped (15_host_interface.md R556; 13_tenants_cadence.md R465) -/
def Obligations.DoorbellMovesIndex : Prop :=
  ∀ (s : State) (t r v : Nat), t < 64 → r < 1024 → (s.tenant t).state = .active → s.dev ≠ .recovery →
    (ringCount s t ≤ r → exec (.doorbell t r v) s = .next (recordFault (bump s 0x2050 4 1) (faultOf 0x252 clsCorrected kindTenant t t 0))) ∧
    (r < ringCount s t →
      let k := ringFirst s t + r
      let x := s.ring k
      let held := (x.qtail + 2 ^ 32 - x.qhead) % 2 ^ 32
      let out := x.type = 2 ∨ x.type = 3
      (x.enable = true → v < 2 ^ 32 → ¬ out → (v + 2 ^ 32 - x.qtail) % 2 ^ 32 ≤ 2 ^ x.log2 - held →
        exec (.doorbell t r v) s = .next (s.setRing k { x with qtail := v })) ∧
      (x.enable = true → v < 2 ^ 32 → out → (v + 2 ^ 32 - x.qhead) % 2 ^ 32 ≤ held →
        exec (.doorbell t r v) s = .next (s.setRing k { x with qhead := v })) ∧
      ((x.enable = false ∨ 2 ^ 32 ≤ v ∨ (¬ out ∧ 2 ^ x.log2 - held < (v + 2 ^ 32 - x.qtail) % 2 ^ 32) ∨
          (out ∧ held < (v + 2 ^ 32 - x.qhead) % 2 ^ 32)) →
        exec (.doorbell t r v) s =
          .next (recordFault (bump (s.setRing k { x with baddb := true }) 0x2050 4 1) (faultOf 0x252 clsCorrected kindTenant t t 0))))

/-- A source delivers one message when it becomes pending and none while it stays so (15_host_interface.md R564, R566) -/
def Obligations.SourcesDeliverOnce : Prop :=
  (∀ (s : State) (n : Nat), mapGet false s.irq.pend n = true → raiseSource s n = s) ∧
  (∀ (s : State) (n : Nat), mapGet false s.irq.pend n = false →
    (∀ k, mapGet false (raiseSource s n).irq.pend k = (k == n || mapGet false s.irq.pend k)) ∧
    (mapGet 0 s.irq.target n / 2 ^ 30 % 4 = 0 → (raiseSource s n).out = s.out) ∧
    (mapGet 0 s.irq.target n / 2 ^ 30 % 4 = 2 → (raiseSource s n).out = s.out ++ [.coreMessage (mapGet 0 s.irq.target n % 65536) n]) ∧
    (∀ fn, mapGet 0 s.irq.target n / 2 ^ 30 % 4 = 1 → ownerOfSource s n = some fn → mapGet 0 s.irq.target n % 65536 < msixSize fn →
      let k := fn * 2048 + mapGet 0 s.irq.target n % 65536
      (mapGet false s.irq.msiUnmasked k = true → (raiseSource s n).out = s.out ++ [.msix fn (mapGet 0 s.irq.msiAddr k) (mapGet 0 s.irq.msiData k)]) ∧
      (mapGet false s.irq.msiUnmasked k = false → (raiseSource s n).out = s.out ∧ mapGet false (raiseSource s n).irq.pba k = true))) ∧
  (∀ (s : State) (index mask : Nat), index < 32 →
    ∃ t, exec (.ipendClear 0 false index mask) s = .next t ∧ t = { s with irq := { s.irq with pend := t.irq.pend } } ∧
      ∀ k, mapGet false t.irq.pend k = (mapGet false s.irq.pend k && !(k / 64 == index && bitOf mask (k % 64))))

/-- A full fault ring gives up its oldest entry, and says so when it was unread (19_faults.md R666) -/
def Obligations.FaultRingKeepsLatest : Prop :=
  (∀ (s : State) (e : FaultEntry), s.faults.ring.length ≤ 512 →
    let t := recordEntry s e
    let e1 : FaultEntry := { e with seq := s.faults.seq + 1, time := s.ptp }
    t.faults.seq = s.faults.seq + 1 ∧ t.faults.ring.length ≤ 512 ∧
    (s.faults.ring.length < 512 → t.faults.ring = s.faults.ring ++ [e1] ∧ t.faults.summary = s.faults.summary ||| entryBits e1) ∧
    (∀ o rest, s.faults.ring = o :: rest → s.faults.ring.length = 512 → t.faults.ring = rest ++ [e1] ∧
      t.faults.summary = s.faults.summary ||| (if s.faults.readUpTo < o.seq then 2 ^ 19 else 0) ||| entryBits e1)) ∧
  (∀ s : State, s.dev ≠ .off → notReady s = none →
    ∃ t, exec (.ringClear true) s = .next t ∧ t.faults.ring = [] ∧ t.faults.seq = s.faults.seq)

/-- A thread's registers: w0 reads 0, and a task starts with its arguments (10_walkers.md R365) -/
def Obligations.ThreadRegisters : Prop :=
  (∀ x : Thread, x.reg 0 = 0 ∧ (∀ i, x.reg i < 2 ^ 64) ∧ (∀ v, x.setReg 0 v = x) ∧
    ∀ i j v : Nat, i ≠ 0 → (x.setReg i v).reg j = if j = i then v % 2 ^ 64 else x.reg j) ∧
  (∀ (s : State) (n t pc narg : Nat) (q : QEntry) (i : Nat),
    ((startThread s n t pc narg q).thread n t).reg i = if 1 ≤ i ∧ i ≤ narg then u64 q.data (8 + 8 * i) else 0)

/-- Sieve rows say which positions a query may attend to, and cutter records are staged as 128 bytes (11_attention_kv.md R415 to R417; 12_serving.md R445; 03_griddle.md R87) -/
def Obligations.SieveRows : Prop :=
  (∀ (s : State) (w : Win) (len p x : Nat),
    (len ≤ x → allowed s w len p x = false) ∧
    (x < len → sieveFor s w p = none → allowed s w len p x = decide (x ≤ p)) ∧
    (∀ i, x < len → sieveFor s w p = some i → w.sieve ≠ 0 ∧ i.qbase ≤ p ∧ p < i.qbase + i.qn ∧
      allowed s w len p x = (decide (x < i.kn) && bitOf (leNat (peek s (i.bits + (p - i.qbase) * (i.kn / 8) + x / 8) 1)) (x % 8)))) ∧
  (∀ (s : State) (w : Win) (len p k0 n : Nat), (sieveRow s w len p k0 n).length = 512 ∧
    ∀ j < 4096, bitOf ((sieveRow s w len p k0 n).getD (j / 8) 0).toNat (j % 8) = (decide (j < n) && allowed s w len p (k0 + j))) ∧
  (∀ (s : State) (m layer : Nat) (b : StepReq),
    (cutterRecord s m layer b).1.length = 128 ∧ (cutterRecord s m layer b).1.drop 96 = List.replicate 32 0 ∧
    ((s.req b.req).cutter = 0xFFFF ∨ b.failed ≠ 0 ∨ (stepAt s m).phase = .draft ∨ (s.slot (s.req b.req).slot).layers ≤ layer →
      cutterRecord s m layer b = (List.replicate 128 0, s)))

/-- What cadence and time commands leave unchanged (13_tenants_cadence.md R485 to R502; 01_device.md) -/
def Obligations.CadenceCommandsFrame : Prop :=
  ∀ (c : Instr) (s t : State), (match c with
    | .cadenceBoundary | .cadenceInEdge .. | .cadenceEdgeMissed | .fabricCadenceTimeout | .scheduleStep | .reservationLapse
    | .scheduleContext | .scheduleActivate .. | .freqCorrection .. | .ppsInPulse .. | .ppsMissing | .ptpTimeWrite .. | .ptpSyncSend
    | .ptpDelayReq .. | .ppsOutSecond | .grandmasterAnnounce .. => true
    | _ => false) = true →
    exec c s = .next t → t = { s with
      ptp := t.ptp, dict := t.dict, subs := t.subs, free := t.free, faults := t.faults, irq := t.irq, ctx := t.ctx, cad := t.cad, clock := t.clock,
      flash := t.flash, sec := t.sec, out := t.out }

/-- What doorbells, ring, window and interrupt commands leave unchanged (15_host_interface.md R549 to R572) -/
def Obligations.HostCommandsFrame : Prop :=
  ∀ (c : Instr) (s t : State), (match c with
    | .doorbell .. | .ringEnable .. | .ringDisable .. | .ringDisableDone .. | .ringAccessFail .. | .ipendClear .. | .itargetWrite ..
    | .winWrite .. | .bar0BadAccess .. | .msixUnmask .. | .l0pWidthChange .. | .gpiEdge .. | .inputGlitch .. | .hostLinkUp ..
    | .perstNRelease => true
    | _ => false) = true →
    exec c s = .next t → t = { s with
      dict := t.dict, subs := t.subs, faults := t.faults, irq := t.irq, slots := t.slots, reqs := t.reqs, rings := t.rings,
      host := t.host, tenants := t.tenants, svc := t.svc, out := t.out }

/-- What attestation, security and package commands leave unchanged (21_security_update.md R699 to R710; 22_package.md R731 to R745) -/
def Obligations.SecurityPackageFrame : Prop :=
  ∀ (c : Instr) (s t : State), (match c with
    | .getVersion .. | .getCapabilities .. | .negotiateAlgorithms .. | .getDigests .. | .getCertificate .. | .spdmChallenge ..
    | .getMeasurements .. | .keyExchange .. | .finish .. | .keyUpdate .. | .spdmHeartbeat .. | .endSession .. | .vendorDefined ..
    | .quoteNonceWrite .. | .quoteRead .. | .entdaa .. | .pldmBaseDiscovery .. | .pldmSensorRead .. | .pldmFruRead .. | .bypass | .idcode
    | .samplePreload .. | .extest | .clamp | .highz | .extestPulse | .extestTrain => true
    | _ => false) = true →
    exec c s = .next t → t = { s with
      dict := t.dict, subs := t.subs, free := t.free, faults := t.faults, irq := t.irq, host := t.host, sec := t.sec, pkg := t.pkg,
      out := t.out }

/-- What grid set-up, control slots and queue entries of the sequencers leave unchanged (03_griddle.md; 09_engines_programs.md R313 to R360) -/
def Obligations.ControlCommandsFrame : Prop :=
  ∀ (c : Instr) (s t : State), (match c with
    | .fillcol .. | .fillrow .. | .setout .. | .scaleSlotComplete | .gridOpStart .. | .wloadComplete | .mmComplete | .seqQueuePost ..
    | .qentryStep .. | .qentryCall .. | .qentryFlip .. | .seta .. | .adda .. | .setc .. | .maddc .. | .jump .. | .loop .. | .jcz ..
    | .call .. | .ret .. | .bankflip .. | .ctrlHalt .. | .ctrlStop .. | .nest .. | .engineDrainEnd .. | .engineWatchdog .. => true
    | _ => false) = true →
    exec c s = .next t → t = { s with
      dict := t.dict, subs := t.subs, free := t.free, engines := t.engines, potCorrected := t.potCorrected,
      potUncorrectable := t.potUncorrectable, faults := t.faults, irq := t.irq, slots := t.slots, reqs := t.reqs, grid := t.grid,
      movers := t.movers, bursts := t.bursts, svc := t.svc, fabric := t.fabric, out := t.out }
end

