-- ==== Sys2Proof/Laws/Map.lean ====
section
/-!
SUPPORT. Sparse data: reading after a write, and every operation keeps the canonical form.
-/

namespace Sys2Proof.Laws

open Sys2Proof Sys2Proof.Machine

variable {α : Type}

/-- Keys rise strictly from above `b` on, and no entry holds `d`: the canonical form, read from the front. -/
def risesFrom (d : α) : Nat → Map α → Prop
  | _, [] => True
  | b, (a, v) :: rest => b ≤ a ∧ v ≠ d ∧ risesFrom d (a + 1) rest

theorem risesFrom_mono {d : α} {b c : Nat} {m : Map α} (h : risesFrom d b m) (hc : c ≤ b) : risesFrom d c m := by
  cases m with
  | nil => trivial
  | cons e rest => exact ⟨Nat.le_trans hc h.1, h.2⟩

theorem mapWf_iff [DecidableEq α] (d : α) (m : Map α) : mapWf d m = true ↔ risesFrom d 0 m := by
  have key : ∀ (m : Map α) (b : Nat), risesFrom d b m ↔ (mapWf d m = true ∧ ∀ e ∈ m.head?, b ≤ e.1) := by
    intro m
    induction m with
    | nil => intro b; simp [risesFrom, mapWf]
    | cons e rest ih =>
      intro b
      obtain ⟨a, v⟩ := e
      cases rest with
      | nil => simp [risesFrom, mapWf, and_comm]
      | cons f rest =>
        obtain ⟨c, w⟩ := f
        have h1 := ih (a + 1)
        rw [risesFrom, h1]
        simp only [mapWf, Bool.and_eq_true, decide_eq_true_eq, Bool.not_eq_true', decide_eq_false_iff_not, List.head?_cons, Option.mem_def,
          Option.some.injEq, forall_eq', Nat.succ_le_iff]
        constructor
        · rintro ⟨p, q, r, t⟩; exact ⟨⟨⟨t, q⟩, r⟩, p⟩
        · rintro ⟨⟨⟨t, q⟩, r⟩, p⟩; exact ⟨p, q, r, t⟩
  rw [key m 0]
  simp

/-! ## Reading -/

theorem mapGet_low {d : α} {b k : Nat} {m : Map α} (h : risesFrom d b m) (hk : k < b) : mapGet d m k = d := by
  induction m generalizing b with
  | nil => rfl
  | cons e rest ih =>
    obtain ⟨a, v⟩ := e
    have hb := h.1
    rw [mapGet, if_neg (by omega)]
    exact ih h.2.2 (by omega)

@[simp] theorem mapGet_mapInsert (d : α) (m : Map α) (k j : Nat) (v : α) :
    mapGet d (mapInsert m k v) j = if j = k then v else mapGet d m j := by
  induction m with
  | nil => simp only [mapInsert, mapGet, eq_comm]
  | cons e rest ih =>
    obtain ⟨a, w⟩ := e
    rw [mapInsert]
    split
    · by_cases h : j = k
      · simp [mapGet, h]
      · simp [mapGet, h, Ne.symm h]
    · split
      · rename_i h; subst h
        by_cases h : j = a
        · simp [mapGet, h]
        · simp [mapGet, h, Ne.symm h]
      · rw [mapGet, ih, mapGet]
        by_cases h : a = j
        · have : j ≠ k := by omega
          simp [h, this]
        · simp [h]

@[simp] theorem mapGet_mapErase (d : α) (m : Map α) (k j : Nat) :
    mapGet d (mapErase m k) j = if j = k then d else mapGet d m j := by
  induction m with
  | nil => simp [mapErase, mapGet]
  | cons e rest ih =>
    obtain ⟨a, v⟩ := e
    rw [mapErase]
    split
    · rename_i ha; subst ha
      rw [ih, mapGet]
      by_cases hj : j = a
      · simp [hj]
      · simp [hj, Ne.symm hj]
    · rw [mapGet, ih, mapGet]
      by_cases hj : a = j
      · have : j ≠ k := by omega
        simp [hj, this]
      · simp [hj]

/-- A read after a write gives the value written, and every other key reads as before. -/
@[simp] theorem mapGet_mapSet [DecidableEq α] (d : α) (m : Map α) (k j : Nat) (v : α) :
    mapGet d (mapSet d m k v) j = if j = k then v else mapGet d m j := by
  rw [mapSet]
  split
  · rename_i hv; subst hv; exact mapGet_mapErase v m k j
  · exact mapGet_mapInsert d m k j v

/-- Every key but the one written reads as before, whatever an unlisted key reads as. -/
theorem mapGet_mapSet_other [DecidableEq α] (d e : α) (m : Map α) {k j : Nat} (hj : j ≠ k) (v : α) :
    mapGet d (mapSet e m k v) j = mapGet d m j := by
  rw [mapSet]
  split
  · rw [mapGet_mapErase, if_neg hj]
  · rw [mapGet_mapInsert, if_neg hj]

/-! ## The canonical form is kept -/

theorem risesFrom_insert {d : α} {b k : Nat} {v : α} {m : Map α} (h : risesFrom d b m) (hk : b ≤ k) (hv : v ≠ d) :
    risesFrom d b (mapInsert m k v) := by
  induction m generalizing b with
  | nil => exact ⟨hk, hv, trivial⟩
  | cons e rest ih =>
    obtain ⟨a, w⟩ := e
    rw [mapInsert]
    split
    · rename_i ha; exact ⟨hk, hv, ha, h.2⟩
    · split
      · rename_i ha; subst ha; exact ⟨hk, hv, h.2.2⟩
      · exact ⟨h.1, h.2.1, ih h.2.2 (by omega)⟩

theorem risesFrom_erase {d : α} {b k : Nat} {m : Map α} (h : risesFrom d b m) : risesFrom d b (mapErase m k) := by
  induction m generalizing b with
  | nil => trivial
  | cons e rest ih =>
    obtain ⟨a, w⟩ := e
    rw [mapErase]
    split
    · have ha := h.1; exact risesFrom_mono (ih h.2.2) (by omega)
    · exact ⟨h.1, h.2.1, ih h.2.2⟩

theorem risesFrom_filter {d : α} {b : Nat} {m : Map α} (p : Nat × α → Bool) (h : risesFrom d b m) : risesFrom d b (m.filter p) := by
  induction m generalizing b with
  | nil => trivial
  | cons e rest ih =>
    obtain ⟨a, w⟩ := e
    have ha := h.1
    rw [List.filter_cons]
    split
    · exact ⟨h.1, h.2.1, ih h.2.2⟩
    · exact risesFrom_mono (ih h.2.2) (by omega)

variable [DecidableEq α]

/-- A write keeps the canonical form. -/
theorem mapWf_mapSet {d : α} {m : Map α} (h : mapWf d m = true) (k : Nat) (v : α) : mapWf d (mapSet d m k v) = true := by
  rw [mapWf_iff] at *
  rw [mapSet]
  split
  · exact risesFrom_erase h
  · rename_i hv; exact risesFrom_insert h (Nat.zero_le _) hv

theorem mapWf_mapUpd {d : α} {m : Map α} (h : mapWf d m = true) (k : Nat) (f : α → α) : mapWf d (mapUpd d m k f) = true :=
  mapWf_mapSet h _ _

theorem mapWf_mapErase {d : α} {m : Map α} (h : mapWf d m = true) (k : Nat) : mapWf d (mapErase m k) = true := by
  rw [mapWf_iff] at *; exact risesFrom_erase h

theorem mapWf_mapInsert {d : α} {m : Map α} (h : mapWf d m = true) (k : Nat) {v : α} (hv : v ≠ d) : mapWf d (mapInsert m k v) = true := by
  rw [mapWf_iff] at *; exact risesFrom_insert h (Nat.zero_le _) hv

theorem mapWf_filter {d : α} {m : Map α} (h : mapWf d m = true) (p : Nat × α → Bool) : mapWf d (m.filter p) = true := by
  rw [mapWf_iff] at *; exact risesFrom_filter p h

theorem mapWf_mapDrop {d : α} {m : Map α} (h : mapWf d m = true) (p : Nat → Bool) : mapWf d (mapDrop m p) = true := mapWf_filter h _

/-- A run of writes keeps the canonical form. -/
theorem mapWf_mapSetRun {d : α} (vs : List α) {m : Map α} (h : mapWf d m = true) (k : Nat) : mapWf d (mapSetRun d m k vs) = true := by
  induction vs generalizing m k with
  | nil => exact h
  | cons v vs ih => exact ih (mapWf_mapSet h k v) (k + 1)

end Sys2Proof.Laws
end

