-- ==== Sys2Proof/Laws/Canonical.lean ====
section
/-!
SUPPORT. What every operation keeps: the queue of commands that wait, and the canonical form of every memory.
-/

namespace Sys2Proof.Laws

open Sys2Proof Sys2Proof.Machine

/-- The queue is `q`, and every memory is in canonical form. -/
def Keeps (q : List Instr) (s : State) : Prop := s.pending = q ∧ Memory.wf s = true

/-- What an outcome's next state keeps. -/
def KeepsRes (q : List Instr) : Res → Prop
  | .next t => Keeps q t
  | _ => True

def KeepsOpt (q : List Instr) : Option State → Prop
  | some t => Keeps q t
  | none => True

def KeepsOptRes (q : List Instr) : Option Res → Prop
  | some t => KeepsRes q t
  | none => True

variable {q : List Instr} {s : State} {x : Stack}

theorem keeps_mk (now ptp dev dict blob cfg cfgBlob subs free engines potCorrected potUncorrectable potWhiskPos potWhiskStart potWhiskLast repairQueue repairRecord repairSigs faults irq slots seqImages reqs ladles grid stepSats stepNonfinite kvPoisoned movers bursts walkers rings ringTurn host tenants ctx svc fabric tandem cad clock power flash test health sec pkg nirnar out) (h : Keeps q s) : Keeps q ⟨now, ptp, dev, dict, blob, cfg, cfgBlob, subs, free, s.stackMap, s.pots, s.locals, s.buffers, s.merges, engines, potCorrected, potUncorrectable, potWhiskPos, potWhiskStart, potWhiskLast, repairQueue, repairRecord, repairSigs, faults, irq, slots, seqImages, reqs, ladles, grid, stepSats, stepNonfinite, kvPoisoned, movers, bursts, walkers, rings, ringTurn, host, tenants, ctx, svc, fabric, tandem, cad, clock, power, flash, test, health, sec, pkg, nirnar, out, s.pending⟩ := h

theorem wf_mk (segMode modeNext channels rowRepair colRepair rprSpareAcc rprColSel rprBank rprEntry rprBadWrite corrections sections remap awaiting migrating heldAccess spareExhausted retireFull degraded remapSel testFrames testEntering tframe taddr tdata tchk tresClass tresPos tresValue tresDone tsyn whiskRow whiskBanksDone whiskStart whiskLast whiskSlow lastAccess lastWhisk refreshRow refreshLag hotDies coolSince allowance stage zeroSince boostCoolSince) (h : x.wf = true) : (Stack.mk segMode modeNext channels x.cells x.colCells x.rowValid rowRepair colRepair rprSpareAcc rprColSel rprBank rprEntry rprBadWrite corrections sections remap awaiting migrating heldAccess spareExhausted retireFull degraded remapSel testFrames testEntering tframe taddr tdata tchk tresClass tresPos tresValue tresDone tsyn whiskRow whiskBanksDone whiskStart whiskLast whiskSlow lastAccess lastWhisk refreshRow refreshLag hotDies coolSince allowance stage zeroSince boostCoolSince).wf = true := h

theorem keeps_iff : Keeps q s ↔ s.pending = q ∧ mapWf {} s.stackMap = true ∧ (∀ e ∈ s.stackMap, e.2.wf = true) ∧ mapWf 0 s.pots = true ∧
    mapWf 0 s.locals = true ∧ mapWf 0 s.buffers = true ∧ mapWf 0 s.merges = true := by
  simp [Keeps, Memory.wf, and_assoc]

theorem mem_mapInsert {α : Type} {m : Map α} {k : Nat} {v : α} {e : Nat × α} (h : e ∈ mapInsert m k v) : e = (k, v) ∨ e ∈ m := by
  induction m with
  | nil => simp [mapInsert] at h; exact .inl h
  | cons a rest ih =>
    rw [mapInsert] at h
    split at h
    · simpa using h
    · split at h
      · rename_i ha; subst ha
        rcases List.mem_cons.1 h with h | h
        · exact .inl h
        · exact .inr (List.mem_cons_of_mem _ h)
      · rcases List.mem_cons.1 h with h | h
        · subst h; exact .inr List.mem_cons_self
        · rcases ih h with h | h
          · exact .inl h
          · exact .inr (List.mem_cons_of_mem _ h)

theorem mem_mapErase {α : Type} {m : Map α} {k : Nat} {e : Nat × α} (h : e ∈ mapErase m k) : e ∈ m := by
  induction m with
  | nil => simp [mapErase] at h
  | cons a rest ih =>
    rw [mapErase] at h
    split at h
    · exact List.mem_cons_of_mem _ (ih h)
    · rcases List.mem_cons.1 h with h | h
      · subst h; exact List.mem_cons_self
      · exact List.mem_cons_of_mem _ (ih h)

theorem mem_mapSet {α : Type} [DecidableEq α] {d : α} {m : Map α} {k : Nat} {v : α} {e : Nat × α} (h : e ∈ mapSet d m k v) :
    e = (k, v) ∨ e ∈ m := by
  rw [mapSet] at h
  split at h
  · exact .inr (mem_mapErase h)
  · exact mem_mapInsert h

theorem mapGet_of_all {α : Type} {p : α → Prop} {d : α} (hd : p d) {m : Map α} (h : ∀ e ∈ m, p e.2) (k : Nat) : p (mapGet d m k) := by
  induction m with
  | nil => exact hd
  | cons a rest ih =>
    obtain ⟨i, v⟩ := a
    rw [mapGet]
    split
    · exact h _ List.mem_cons_self
    · exact ih (fun e he => h e (List.mem_cons_of_mem _ he))

theorem wf_stack (h : Keeps q s) (k : Nat) : (s.stack k).wf = true :=
  mapGet_of_all (p := fun (x : Stack) => x.wf = true) rfl (keeps_iff.1 h).2.2.1 k

theorem keeps_setStack (k : Nat) (h : Keeps q s) (hx : x.wf = true) : Keeps q (s.setStack k x) := by
  rw [keeps_iff] at *
  refine ⟨h.1, mapWf_mapSet h.2.1 k x, ?_, h.2.2.2⟩
  intro e he
  rcases mem_mapSet he with he | he
  · subst he; exact hx
  · exact h.2.2.1 e he

theorem keeps_updStack (k : Nat) (f : Stack → Stack) (h : Keeps q s) (hf : ∀ x : Stack, x.wf = true → (f x).wf = true) :
    Keeps q (s.updStack k f) := keeps_setStack k h (hf _ (wf_stack h k))

theorem keeps_ite {c : Prop} [Decidable c] {a b : State} (ha : c → Keeps q a) (hb : ¬c → Keeps q b) : Keeps q (if c then a else b) := by
  split
  · exact ha (by assumption)
  · exact hb (by assumption)

theorem keepsRes_ite {c : Prop} [Decidable c] {a b : Res} (ha : c → KeepsRes q a) (hb : ¬c → KeepsRes q b) :
    KeepsRes q (if c then a else b) := by
  split
  · exact ha (by assumption)
  · exact hb (by assumption)

theorem keepsOpt_ite {c : Prop} [Decidable c] {a b : Option State} (ha : c → KeepsOpt q a) (hb : ¬c → KeepsOpt q b) :
    KeepsOpt q (if c then a else b) := by
  split
  · exact ha (by assumption)
  · exact hb (by assumption)

theorem keepsOptRes_ite {c : Prop} [Decidable c] {a b : Option Res} (ha : c → KeepsOptRes q a) (hb : ¬c → KeepsOptRes q b) :
    KeepsOptRes q (if c then a else b) := by
  split
  · exact ha ‹_›
  · exact hb ‹_›

theorem wf_ite {c : Prop} [Decidable c] {a b : Stack} (ha : c → a.wf = true) (hb : ¬c → b.wf = true) :
    (if c then a else b).wf = true := by
  split
  · exact ha (by assumption)
  · exact hb (by assumption)

theorem keeps_foldl {β : Type} (f : State → β → State) (l : List β) (h : Keeps q s) (hf : ∀ t b, Keeps q t → Keeps q (f t b)) :
    Keeps q (l.foldl f s) := by
  induction l generalizing s with
  | nil => exact h
  | cons b l ih => exact ih (hf s b h)

/-- A fold over pairs whose one part is the state. -/
theorem keeps_foldl_fst {β γ : Type} (f : State × γ → β → State × γ) (l : List β) {p : State × γ} (h : Keeps q p.1)
    (hf : ∀ t b, Keeps q t.1 → Keeps q (f t b).1) : Keeps q (l.foldl f p).1 := by
  induction l generalizing p with
  | nil => exact h
  | cons b l ih => exact ih (hf p b h)

theorem keeps_foldl_snd {β γ : Type} (f : γ × State → β → γ × State) (l : List β) {p : γ × State} (h : Keeps q p.2)
    (hf : ∀ t b, Keeps q t.2 → Keeps q (f t b).2) : Keeps q (l.foldl f p).2 := by
  induction l generalizing p with
  | nil => exact h
  | cons b l ih => exact ih (hf p b h)

theorem wf_foldl {β : Type} (f : Stack → β → Stack) (l : List β) (h : x.wf = true) (hf : ∀ t b, t.wf = true → (f t b).wf = true) :
    (l.foldl f x).wf = true := by
  induction l generalizing x with
  | nil => exact h
  | cons b l ih => exact ih (hf x b h)

theorem keepsRes_next (h : Keeps q s) : KeepsRes q (.next s) := h
theorem keepsRes_fault (f : Fault) : KeepsRes q (.fault f) := trivial
theorem keepsRes_refused (r : Refusal) : KeepsRes q (.refused r) := trivial
theorem keepsOpt_some (h : Keeps q s) : KeepsOpt q (some s) := h
theorem keepsOpt_none : KeepsOpt q none := trivial
theorem keepsOptRes_some {r : Res} (h : KeepsRes q r) : KeepsOptRes q (some r) := h
theorem keepsOptRes_none : KeepsOptRes q none := trivial
theorem keeps_of_some {o : Option State} (h : KeepsOpt q o) (e : o = some s) : Keeps q s := by subst e; exact h
theorem keeps_of_next {r : Res} (h : KeepsRes q r) (e : r = .next s) : Keeps q s := by subst e; exact h
theorem keeps_of_fst {γ : Type} {p : State × γ} {c : γ} (h : Keeps q p.1) (e : p = (s, c)) : Keeps q s := by subst e; exact h
theorem keeps_of_snd {γ : Type} {p : γ × State} {c : γ} (h : Keeps q p.2) (e : p = (c, s)) : Keeps q s := by subst e; exact h

theorem keeps_of_snd2 {γ δ : Type} {p : γ × δ × State} {c : γ} {d : δ} (h : Keeps q p.2.2) (e : p = (c, d, s)) : Keeps q s := by subst e; exact h

theorem keeps_ite_keep {c : Prop} [Decidable c] {a b : State} (hb : Keeps q b) (ha : Keeps q b → Keeps q a) : Keeps q (if c then a else b) := by
  split
  · exact ha hb
  · exact hb

theorem keepsOpt_map {γ : Type} {f : γ → State} {o : Option γ} (h : ∀ r, Keeps q (f r)) : KeepsOpt q (o.map f) := by
  cases o with
  | none => trivial
  | some r => exact h r

theorem keeps_getD {o : Option State} {a : State} (h : KeepsOpt q o) (ha : Keeps q a) : Keeps q (o.getD a) := by
  cases o with
  | none => exact ha
  | some r => exact h

theorem keeps_foldl_SweepRun {β : Type} (f : SweepRun → β → SweepRun) (l : List β) {p : SweepRun} (h : Keeps q p.next)
    (hf : ∀ t b, Keeps q t.next → Keeps q (f t b).next) : Keeps q (l.foldl f p).next := by
  induction l generalizing p with
  | nil => exact h
  | cons b l ih => exact ih (hf p b h)

theorem keeps_foldl_SetLoad {β : Type} (f : SetLoad → β → SetLoad) (l : List β) {p : SetLoad} (h : Keeps q p.next)
    (hf : ∀ t b, Keeps q t.next → Keeps q (f t b).next) : Keeps q (l.foldl f p).next := by
  induction l generalizing p with
  | nil => exact h
  | cons b l ih => exact ih (hf p b h)

theorem keeps_foldl_LRun {β : Type} (f : LRun → β → LRun) (l : List β) {p : LRun} (h : Keeps q p.next)
    (hf : ∀ t b, Keeps q t.next → Keeps q (f t b).next) : Keeps q (l.foldl f p).next := by
  induction l generalizing p with
  | nil => exact h
  | cons b l ih => exact ih (hf p b h)

theorem keeps_foldl_Load {β : Type} (f : Load → β → Load) (l : List β) {p : Load} (h : Keeps q p.next)
    (hf : ∀ t b, Keeps q t.next → Keeps q (f t b).next) : Keeps q (l.foldl f p).next := by
  induction l generalizing p with
  | nil => exact h
  | cons b l ih => exact ih (hf p b h)

theorem keeps_foldl_LoadBytes {β : Type} (f : LoadBytes → β → LoadBytes) (l : List β) {p : LoadBytes} (h : Keeps q p.next)
    (hf : ∀ t b, Keeps q t.next → Keeps q (f t b).next) : Keeps q (l.foldl f p).next := by
  induction l generalizing p with
  | nil => exact h
  | cons b l ih => exact ih (hf p b h)

theorem keeps_foldl_Store {β : Type} (f : Store → β → Store) (l : List β) {p : Store} (h : Keeps q p.next)
    (hf : ∀ t b, Keeps q t.next → Keeps q (f t b).next) : Keeps q (l.foldl f p).next := by
  induction l generalizing p with
  | nil => exact h
  | cons b l ih => exact ih (hf p b h)

theorem keeps_foldl_MoveAcc {β : Type} (f : MoveAcc → β → MoveAcc) (l : List β) {p : MoveAcc} (h : Keeps q p.next)
    (hf : ∀ t b, Keeps q t.next → Keeps q (f t b).next) : Keeps q (l.foldl f p).next := by
  induction l generalizing p with
  | nil => exact h
  | cons b l ih => exact ih (hf p b h)

theorem keeps_foldl_Sent {β : Type} (f : Sent → β → Sent) (l : List β) {p : Sent} (h : Keeps q p.next)
    (hf : ∀ t b, Keeps q t.next → Keeps q (f t b).next) : Keeps q (l.foldl f p).next := by
  induction l generalizing p with
  | nil => exact h
  | cons b l ih => exact ih (hf p b h)

theorem keeps_foldl_Rd {β : Type} (f : Rd → β → Rd) (l : List β) {p : Rd} (h : Keeps q p.next)
    (hf : ∀ t b, Keeps q t.next → Keeps q (f t b).next) : Keeps q (l.foldl f p).next := by
  induction l generalizing p with
  | nil => exact h
  | cons b l ih => exact ih (hf p b h)

theorem keeps_foldl_AddRes {β : Type} (f : AddRes → β → AddRes) (l : List β) {p : AddRes} (h : Keeps q p.next)
    (hf : ∀ t b, Keeps q t.next → Keeps q (f t b).next) : Keeps q (l.foldl f p).next := by
  induction l generalizing p with
  | nil => exact h
  | cons b l ih => exact ih (hf p b h)

theorem keeps_foldl_WalkLoad {β : Type} (f : WalkLoad → β → WalkLoad) (l : List β) {p : WalkLoad} (h : Keeps q p.next)
    (hf : ∀ t b, Keeps q t.next → Keeps q (f t b).next) : Keeps q (l.foldl f p).next := by
  induction l generalizing p with
  | nil => exact h
  | cons b l ih => exact ih (hf p b h)

theorem keeps_foldl_snd_LRun {β γ : Type} (f : γ × LRun → β → γ × LRun) (l : List β) {p : γ × LRun} (h : Keeps q p.2.next)
    (hf : ∀ t b, Keeps q t.2.next → Keeps q (f t b).2.next) : Keeps q (l.foldl f p).2.next := by
  induction l generalizing p with
  | nil => exact h
  | cons b l ih => exact ih (hf p b h)

theorem keeps_foldl_snd2_LRun {β γ δ : Type} (f : γ × δ × LRun → β → γ × δ × LRun) (l : List β) {p : γ × δ × LRun} (h : Keeps q p.2.2.next)
    (hf : ∀ t b, Keeps q t.2.2.next → Keeps q (f t b).2.2.next) : Keeps q (l.foldl f p).2.2.next := by
  induction l generalizing p with
  | nil => exact h
  | cons b l ih => exact ih (hf p b h)

theorem keeps_foldl_snd2 {β γ δ : Type} (f : γ × δ × State → β → γ × δ × State) (l : List β) {p : γ × δ × State} (h : Keeps q p.2.2)
    (hf : ∀ t b, Keeps q t.2.2 → Keeps q (f t b).2.2) : Keeps q (l.foldl f p).2.2 := by
  induction l generalizing p with
  | nil => exact h
  | cons b l ih => exact ih (hf p b h)

theorem keeps_of_snd_LRun {γ : Type} {p : γ × LRun} {c : γ} {r : LRun} (h : Keeps q p.2.next) (e : p = (c, r)) : Keeps q r.next := by
  subst e; exact h

theorem keeps_of_snd2_LRun {γ δ : Type} {p : γ × δ × LRun} {c : γ} {d : δ} {r : LRun} (h : Keeps q p.2.2.next) (e : p = (c, d, r)) :
    Keeps q r.next := by subst e; exact h

theorem keeps_of_fst_LRun {γ : Type} {p : LRun × γ} {c : γ} {r : LRun} (h : Keeps q p.1.next) (e : p = (r, c)) : Keeps q r.next := by
  subst e; exact h

/-! ## Writing a memory -/

theorem wf_iff : x.wf = true ↔ mapWf 0 x.cells = true ∧ mapWf 0 x.colCells = true ∧ mapWf false x.rowValid = true := by
  simp [Stack.wf, and_assoc]

theorem wf_cells {m : Map Code288} (h : x.wf = true) (hm : mapWf 0 m = true) : Stack.wf { x with cells := m } = true :=
  wf_iff.2 ⟨hm, (wf_iff.1 h).2⟩

theorem wf_colCells {m : Map Nat} (h : x.wf = true) (hm : mapWf 0 m = true) : Stack.wf { x with colCells := m } = true :=
  wf_iff.2 ⟨(wf_iff.1 h).1, hm, (wf_iff.1 h).2.2⟩

theorem wf_rowValid {m : Map Bool} (h : x.wf = true) (hm : mapWf false m = true) : Stack.wf { x with rowValid := m } = true :=
  wf_iff.2 ⟨(wf_iff.1 h).1, (wf_iff.1 h).2.1, hm⟩

theorem keeps_pots {m : Map Code288} (h : Keeps q s) (hm : mapWf 0 m = true) : Keeps q { s with pots := m } :=
  let h := keeps_iff.1 h
  keeps_iff.2 ⟨h.1, h.2.1, h.2.2.1, hm, h.2.2.2.2⟩

theorem keeps_locals {m : Map Code288} (h : Keeps q s) (hm : mapWf 0 m = true) : Keeps q { s with locals := m } :=
  let h := keeps_iff.1 h
  keeps_iff.2 ⟨h.1, h.2.1, h.2.2.1, h.2.2.2.1, hm, h.2.2.2.2.2⟩

theorem keeps_buffers {m : Map Code288} (h : Keeps q s) (hm : mapWf 0 m = true) : Keeps q { s with buffers := m } :=
  let h := keeps_iff.1 h
  keeps_iff.2 ⟨h.1, h.2.1, h.2.2.1, h.2.2.2.1, h.2.2.2.2.1, hm, h.2.2.2.2.2.2⟩

theorem keeps_merges {m : Map Code288} (h : Keeps q s) (hm : mapWf 0 m = true) : Keeps q { s with merges := m } :=
  let h := keeps_iff.1 h
  keeps_iff.2 ⟨h.1, h.2.1, h.2.2.1, h.2.2.2.1, h.2.2.2.2.1, h.2.2.2.2.2.1, hm⟩

theorem mapWf_foldl {α β : Type} [DecidableEq α] (d : α) (f : Map α → β → Map α) (l : List β) {m : Map α} (h : mapWf d m = true)
    (hf : ∀ m b, mapWf d m = true → mapWf d (f m b) = true) : mapWf d (l.foldl f m) = true := by
  induction l generalizing m with
  | nil => exact h
  | cons b l ih => exact ih (hf m b h)

theorem mapWf_mapVals {α : Type} [DecidableEq α] (d : α) {m : Map α} (f : α → α) (h : mapWf d m = true) : mapWf d (Sys2Proof.Machine.mapVals d m f) = true := by
  rw [mapWf_iff] at *
  unfold Sys2Proof.Machine.mapVals
  generalize 0 = b at h ⊢
  induction m generalizing b with
  | nil => trivial
  | cons e rest ih =>
    have hb := h.1
    simp only [List.map_cons, List.filter_cons]
    split
    · rename_i hv; exact ⟨h.1, by simpa using hv, ih _ h.2.2⟩
    · exact risesFrom_mono (ih _ h.2.2) (by omega)

theorem mapWf_map {α : Type} [DecidableEq α] {d : α} {m : Map α} (f : α → α) (h : mapWf d m = true) (hf : ∀ v, f v = d → v = d) :
    mapWf d (m.map (fun e => (e.1, f e.2))) = true := by
  rw [mapWf_iff] at *
  generalize 0 = b at h ⊢
  induction m generalizing b with
  | nil => trivial
  | cons e rest ih => exact ⟨h.1, fun hv => h.2.1 (hf _ hv), ih _ h.2.2⟩

theorem foldl_keeps {α β : Type} {p : α → Prop} (f : α → β → α) (l : List β) {a : α} (h : p a) (hf : ∀ a b, p a → p (f a b)) :
    p (l.foldl f a) := by
  induction l generalizing a with
  | nil => exact h
  | cons b l ih => exact ih (hf a b h)

/-- The stacks that a reset leaves are in canonical form. -/
theorem resetStacks_wf (s : State) : mapWf {} (resetStacks s) = true ∧ ∀ e ∈ resetStacks s, e.2.wf = true := by
  unfold resetStacks
  suffices h : ∀ (l : List Nat) (m : Map Machine.Stack), (mapWf {} m = true ∧ ∀ e ∈ m, e.2.wf = true) →
      mapWf {} (l.foldl (fun m st => mapSet {} m st { (s.stack st).sticky with whiskStart := s.now }) m) = true ∧
        ∀ e ∈ l.foldl (fun m st => mapSet {} m st { (s.stack st).sticky with whiskStart := s.now }) m, e.2.wf = true from
    h _ [] ⟨rfl, fun _ h => nomatch h⟩
  intro l
  induction l with
  | nil => exact fun _ h => h
  | cons k l ih =>
    intro m hm
    refine ih _ ⟨mapWf_mapSet hm.1 _ _, fun e he => ?_⟩
    rcases mem_mapSet he with rfl | he
    · rfl
    · exact hm.2 e he

theorem keeps_reset : Keeps [] State.reset := ⟨rfl, rfl⟩

theorem keeps_pending (h : Keeps q s) (p : List Instr) : Keeps p { s with pending := p } := ⟨rfl, h.2⟩

end Sys2Proof.Laws
end

