-- ==== Sys2Proof/Laws/Dispatch.lean ====
section
/-!
SUPPORT. What exec answers for each command: its meaning, one lemma per constructor.
-/

namespace Sys2Proof.Laws

open Sys2Proof.Machine

theorem exec_loadcol {s : State} {sfmt first count src} : exec (.loadcol sfmt first count src) s = execLoadcol sfmt first count src s := rfl
theorem exec_loadrow {s : State} {sfmt first count src} : exec (.loadrow sfmt first count src) s = execLoadrow sfmt first count src s := rfl
theorem exec_fillcol {s : State} {first count value} : exec (.fillcol first count value) s = execFillcol first count value s := rfl
theorem exec_fillrow {s : State} {first count value} : exec (.fillrow first count value) s = execFillrow first count value s := rfl
theorem exec_setout {s : State} {value} : exec (.setout value) s = execSetout value s := rfl
theorem exec_scaleSlotComplete {s : State} : exec (.scaleSlotComplete) s = execScaleSlotComplete s := rfl
theorem exec_mm {s : State} {slot stalled} : exec (.mm slot stalled) s = execMm slot stalled s := rfl
theorem exec_wload {s : State} {slot} : exec (.wload slot) s = execWload slot s := rfl
theorem exec_gridOpStart {s : State} {waited} : exec (.gridOpStart waited) s = execGridOpStart waited s := rfl
theorem exec_wloadComplete {s : State} : exec (.wloadComplete) s = execWloadComplete s := rfl
theorem exec_mmComplete {s : State} : exec (.mmComplete) s = execMmComplete s := rfl
theorem exec_rerunComplete {s : State} : exec (.rerunComplete) s = execRerunComplete s := rfl
theorem exec_stackAccess {s : State} {reader tenant addr len data hits glitches} : exec (.stackAccess reader tenant addr len data hits glitches) s = execStackAccess reader tenant addr len data hits glitches s := rfl
theorem exec_addBurstRequest {s : State} {issuer tenant addr fmt data fetch} : exec (.addBurstRequest issuer tenant addr fmt data fetch) s = execAddBurstRequest issuer tenant addr fmt data fetch s := rfl
theorem exec_refresh {s : State} {st bank} : exec (.refresh st bank) s = execRefresh st bank s := rfl
theorem exec_segModeChange {s : State} {st high value} : exec (.segModeChange st high value) s = execSegModeChange st high value s := rfl
theorem exec_segModeChangeDone {s : State} {st} : exec (.segModeChangeDone st) s = execSegModeChangeDone st s := rfl
theorem exec_stkRprDataWrite {s : State} {st value} : exec (.stkRprDataWrite st value) s = execStkRprDataWrite st value s := rfl
theorem exec_rowcopy {s : State} {st slot} : exec (.rowcopy st slot) s = execRowcopy st slot s := rfl
theorem exec_rowinit {s : State} {st slot} : exec (.rowinit st slot) s = execRowinit st slot s := rfl
theorem exec_rowlogic {s : State} {st slot} : exec (.rowlogic st slot) s = execRowlogic st slot s := rfl
theorem exec_gemv4 {s : State} {st slot} : exec (.gemv4 st slot) s = execGemv4 st slot s := rfl
theorem exec_score {s : State} {st slot} : exec (.score st slot) s = execScore st slot s := rfl
theorem exec_axpy {s : State} {st slot} : exec (.axpy st slot) s = execAxpy st slot s := rfl
theorem exec_ewise {s : State} {st slot} : exec (.ewise st slot) s = execEwise st slot s := rfl
theorem exec_normstat {s : State} {st slot} : exec (.normstat st slot) s = execNormstat st slot s := rfl
theorem exec_normapply {s : State} {st slot} : exec (.normapply st slot) s = execNormapply st slot s := rfl
theorem exec_rope {s : State} {st slot} : exec (.rope st slot) s = execRope st slot s := rfl
theorem exec_quant {s : State} {st slot} : exec (.quant st slot) s = execQuant st slot s := rfl
theorem exec_cutapply {s : State} {st slot} : exec (.cutapply st slot) s = execCutapply st slot s := rfl
theorem exec_merge {s : State} {st slot} : exec (.merge st slot) s = execMerge st slot s := rfl
theorem exec_rowBoundary {s : State} {st bank} : exec (.rowBoundary st bank) s = execRowBoundary st bank s := rfl
theorem exec_vectorSliceArrive {s : State} {st bank waited} : exec (.vectorSliceArrive st bank waited) s = execVectorSliceArrive st bank waited s := rfl
theorem exec_ladleResume {s : State} {st bank} : exec (.ladleResume st bank) s = execLadleResume st bank s := rfl
theorem exec_ladleSlotComplete {s : State} {st} : exec (.ladleSlotComplete st) s = execLadleSlotComplete st s := rfl
theorem exec_frameRetireComplete {s : State} {st} : exec (.frameRetireComplete st) s = execFrameRetireComplete st s := rfl
theorem exec_retirePendingDonor {s : State} {st} : exec (.retirePendingDonor st) s = execRetirePendingDonor st s := rfl
theorem exec_fieldRepairWrite {s : State} : exec (.fieldRepairWrite) s = execFieldRepairWrite s := rfl
theorem exec_whiskRow {s : State} {st bank hits} : exec (.whiskRow st bank hits) s = execWhiskRow st bank hits s := rfl
theorem exec_whiskSlow {s : State} {st} : exec (.whiskSlow st) s = execWhiskSlow st s := rfl
theorem exec_frameEnterTest {s : State} {agent tenant st frame} : exec (.frameEnterTest agent tenant st frame) s = execFrameEnterTest agent tenant st frame s := rfl
theorem exec_frameTestEntered {s : State} {st} : exec (.frameTestEntered st) s = execFrameTestEntered st s := rfl
theorem exec_frameLeaveTest {s : State} {agent tenant st frame} : exec (.frameLeaveTest agent tenant st frame) s = execFrameLeaveTest agent tenant st frame s := rfl
theorem exec_wrdata {s : State} {agent tenant st} : exec (.wrdata agent tenant st) s = execWrdata agent tenant st s := rfl
theorem exec_wrchk {s : State} {agent tenant st} : exec (.wrchk agent tenant st) s = execWrchk agent tenant st s := rfl
theorem exec_wrboth {s : State} {agent tenant st} : exec (.wrboth agent tenant st) s = execWrboth agent tenant st s := rfl
theorem exec_rdraw {s : State} {agent tenant st} : exec (.rdraw agent tenant st) s = execRdraw agent tenant st s := rfl
theorem exec_rddec {s : State} {agent tenant st} : exec (.rddec agent tenant st) s = execRddec agent tenant st s := rfl
theorem exec_moveCopy {s : State} {m remote poisoned} : exec (.moveCopy m remote poisoned) s = execMoveCopy m remote poisoned s := rfl
theorem exec_moveAdd {s : State} {m remote poisoned} : exec (.moveAdd m remote poisoned) s = execMoveAdd m remote poisoned s := rfl
theorem exec_moveDiscard {s : State} {m} : exec (.moveDiscard m) s = execMoveDiscard m s := rfl
theorem exec_moverDescStart {s : State} {m} : exec (.moverDescStart m) s = execMoverDescStart m s := rfl
theorem exec_moverDescComplete {s : State} {m} : exec (.moverDescComplete m) s = execMoverDescComplete m s := rfl
theorem exec_moverHostError {s : State} {m done remote poisoned} : exec (.moverHostError m done remote poisoned) s = execMoverHostError m done remote poisoned s := rfl
theorem exec_discardApplied {s : State} {m} : exec (.discardApplied m) s = execDiscardApplied m s := rfl
theorem exec_seqQueuePost {s : State} {poster tenant priv serving addr data} : exec (.seqQueuePost poster tenant priv serving addr data) s = execSeqQueuePost poster tenant priv serving addr data s := rfl
theorem exec_moverQueuePost {s : State} {poster tenant priv addr data} : exec (.moverQueuePost poster tenant priv addr data) s = execMoverQueuePost poster tenant priv addr data s := rfl
theorem exec_qentryStep {s : State} {eng} : exec (.qentryStep eng) s = execQentryStep eng s := rfl
theorem exec_qentryCall {s : State} {eng} : exec (.qentryCall eng) s = execQentryCall eng s := rfl
theorem exec_qentryFlip {s : State} {eng} : exec (.qentryFlip eng) s = execQentryFlip eng s := rfl
theorem exec_stepWordIssue {s : State} {eng} : exec (.stepWordIssue eng) s = execStepWordIssue eng s := rfl
theorem exec_syncWaitEnd {s : State} {eng} : exec (.syncWaitEnd eng) s = execSyncWaitEnd eng s := rfl
theorem exec_syncMemPoll {s : State} {eng} : exec (.syncMemPoll eng) s = execSyncMemPoll eng s := rfl
theorem exec_movePost {s : State} {eng} : exec (.movePost eng) s = execMovePost eng s := rfl
theorem exec_seta {s : State} {eng rd imm} : exec (.seta eng rd imm) s = execSeta eng rd imm s := rfl
theorem exec_adda {s : State} {eng rd ra imm} : exec (.adda eng rd ra imm) s = execAdda eng rd ra imm s := rfl
theorem exec_setc {s : State} {eng cn imm} : exec (.setc eng cn imm) s = execSetc eng cn imm s := rfl
theorem exec_maddc {s : State} {eng rd ra cn imm} : exec (.maddc eng rd ra cn imm) s = execMaddc eng rd ra cn imm s := rfl
theorem exec_jump {s : State} {eng target} : exec (.jump eng target) s = execJump eng target s := rfl
theorem exec_loop {s : State} {eng cn target} : exec (.loop eng cn target) s = execLoop eng cn target s := rfl
theorem exec_jcz {s : State} {eng cn target} : exec (.jcz eng cn target) s = execJcz eng cn target s := rfl
theorem exec_call {s : State} {eng target} : exec (.call eng target) s = execCall eng target s := rfl
theorem exec_ret {s : State} {eng} : exec (.ret eng) s = execRet eng s := rfl
theorem exec_bankflip {s : State} {eng} : exec (.bankflip eng) s = execBankflip eng s := rfl
theorem exec_ctrlHalt {s : State} {eng} : exec (.ctrlHalt eng) s = execCtrlHalt eng s := rfl
theorem exec_ctrlStop {s : State} {eng flip} : exec (.ctrlStop eng flip) s = execCtrlStop eng flip s := rfl
theorem exec_nest {s : State} {eng} : exec (.nest eng) s = execNest eng s := rfl
theorem exec_entryComplete {s : State} {eng} : exec (.entryComplete eng) s = execEntryComplete eng s := rfl
theorem exec_commit {s : State} {agent tenant eng bank len entry ctag} : exec (.commit agent tenant eng bank len entry ctag) s = execCommit agent tenant eng bank len entry ctag s := rfl
theorem exec_select {s : State} {agent tenant eng bank ctag} : exec (.select agent tenant eng bank ctag) s = execSelect agent tenant eng bank ctag s := rfl
theorem exec_startService {s : State} {agent tenant eng ctag} : exec (.startService agent tenant eng ctag) s = execStartService agent tenant eng ctag s := rfl
theorem exec_startNest {s : State} {agent tenant eng ctag} : exec (.startNest agent tenant eng ctag) s = execStartNest agent tenant eng ctag s := rfl
theorem exec_engHalt {s : State} {agent tenant eng ctag} : exec (.engHalt agent tenant eng ctag) s = execEngHalt agent tenant eng ctag s := rfl
theorem exec_engResume {s : State} {agent tenant eng ctag} : exec (.engResume agent tenant eng ctag) s = execEngResume agent tenant eng ctag s := rfl
theorem exec_engStop {s : State} {agent tenant eng flip ctag} : exec (.engStop agent tenant eng flip ctag) s = execEngStop agent tenant eng flip ctag s := rfl
theorem exec_clearq {s : State} {agent tenant eng ctag} : exec (.clearq agent tenant eng ctag) s = execClearq agent tenant eng ctag s := rfl
theorem exec_engineDrainEnd {s : State} {eng} : exec (.engineDrainEnd eng) s = execEngineDrainEnd eng s := rfl
theorem exec_engineWatchdog {s : State} {eng} : exec (.engineWatchdog eng) s = execEngineWatchdog eng s := rfl
theorem exec_aluAdd {s : State} {core thread} : exec (.aluAdd core thread) s = execAluAdd core thread s := rfl
theorem exec_aluSub {s : State} {core thread} : exec (.aluSub core thread) s = execAluSub core thread s := rfl
theorem exec_aluAnd {s : State} {core thread} : exec (.aluAnd core thread) s = execAluAnd core thread s := rfl
theorem exec_aluOr {s : State} {core thread} : exec (.aluOr core thread) s = execAluOr core thread s := rfl
theorem exec_aluXor {s : State} {core thread} : exec (.aluXor core thread) s = execAluXor core thread s := rfl
theorem exec_shl {s : State} {core thread} : exec (.shl core thread) s = execShl core thread s := rfl
theorem exec_shr {s : State} {core thread} : exec (.shr core thread) s = execShr core thread s := rfl
theorem exec_sar {s : State} {core thread} : exec (.sar core thread) s = execSar core thread s := rfl
theorem exec_mul {s : State} {core thread} : exec (.mul core thread) s = execMul core thread s := rfl
theorem exec_mulhu {s : State} {core thread} : exec (.mulhu core thread) s = execMulhu core thread s := rfl
theorem exec_minu {s : State} {core thread} : exec (.minu core thread) s = execMinu core thread s := rfl
theorem exec_maxu {s : State} {core thread} : exec (.maxu core thread) s = execMaxu core thread s := rfl
theorem exec_mins {s : State} {core thread} : exec (.mins core thread) s = execMins core thread s := rfl
theorem exec_maxs {s : State} {core thread} : exec (.maxs core thread) s = execMaxs core thread s := rfl
theorem exec_sltu {s : State} {core thread} : exec (.sltu core thread) s = execSltu core thread s := rfl
theorem exec_slt {s : State} {core thread} : exec (.slt core thread) s = execSlt core thread s := rfl
theorem exec_ford {s : State} {core thread} : exec (.ford core thread) s = execFord core thread s := rfl
theorem exec_popc {s : State} {core thread} : exec (.popc core thread) s = execPopc core thread s := rfl
theorem exec_clz {s : State} {core thread} : exec (.clz core thread) s = execClz core thread s := rfl
theorem exec_hash {s : State} {core thread} : exec (.hash core thread) s = execHash core thread s := rfl
theorem exec_addi {s : State} {core thread} : exec (.addi core thread) s = execAddi core thread s := rfl
theorem exec_andi {s : State} {core thread} : exec (.andi core thread) s = execAndi core thread s := rfl
theorem exec_ori {s : State} {core thread} : exec (.ori core thread) s = execOri core thread s := rfl
theorem exec_xori {s : State} {core thread} : exec (.xori core thread) s = execXori core thread s := rfl
theorem exec_shli {s : State} {core thread} : exec (.shli core thread) s = execShli core thread s := rfl
theorem exec_shri {s : State} {core thread} : exec (.shri core thread) s = execShri core thread s := rfl
theorem exec_sari {s : State} {core thread} : exec (.sari core thread) s = execSari core thread s := rfl
theorem exec_movk {s : State} {core thread} : exec (.movk core thread) s = execMovk core thread s := rfl
theorem exec_ld {s : State} {core thread} : exec (.ld core thread) s = execLd core thread s := rfl
theorem exec_st {s : State} {core thread} : exec (.st core thread) s = execSt core thread s := rfl
theorem exec_ldb {s : State} {core thread} : exec (.ldb core thread) s = execLdb core thread s := rfl
theorem exec_stb {s : State} {core thread} : exec (.stb core thread) s = execStb core thread s := rfl
theorem exec_ldch {s : State} {core thread} : exec (.ldch core thread) s = execLdch core thread s := rfl
theorem exec_wadd {s : State} {core thread} : exec (.wadd core thread) s = execWadd core thread s := rfl
theorem exec_post {s : State} {core thread} : exec (.post core thread) s = execPost core thread s := rfl
theorem exec_beq {s : State} {core thread} : exec (.beq core thread) s = execBeq core thread s := rfl
theorem exec_bne {s : State} {core thread} : exec (.bne core thread) s = execBne core thread s := rfl
theorem exec_blt {s : State} {core thread} : exec (.blt core thread) s = execBlt core thread s := rfl
theorem exec_bge {s : State} {core thread} : exec (.bge core thread) s = execBge core thread s := rfl
theorem exec_bltu {s : State} {core thread} : exec (.bltu core thread) s = execBltu core thread s := rfl
theorem exec_bgeu {s : State} {core thread} : exec (.bgeu core thread) s = execBgeu core thread s := rfl
theorem exec_jal {s : State} {core thread} : exec (.jal core thread) s = execJal core thread s := rfl
theorem exec_jalr {s : State} {core thread} : exec (.jalr core thread) s = execJalr core thread s := rfl
theorem exec_mfs {s : State} {core thread} : exec (.mfs core thread) s = execMfs core thread s := rfl
theorem exec_texit {s : State} {core thread} : exec (.texit core thread) s = execTexit core thread s := rfl
theorem exec_ldacq {s : State} {core thread} : exec (.ldacq core thread) s = execLdacq core thread s := rfl
theorem exec_strel {s : State} {core thread} : exec (.strel core thread) s = execStrel core thread s := rfl
theorem exec_fence {s : State} {core thread} : exec (.fence core thread) s = execFence core thread s := rfl
theorem exec_amo64 {s : State} {core thread} : exec (.amo64 core thread) s = execAmo64 core thread s := rfl
theorem exec_amo32 {s : State} {core thread} : exec (.amo32 core thread) s = execAmo32 core thread s := rfl
theorem exec_walkerDataReturn {s : State} {core thread l1err stall} : exec (.walkerDataReturn core thread l1err stall) s = execWalkerDataReturn core thread l1err stall s := rfl
theorem exec_walkerStoreAck {s : State} {core entry waited} : exec (.walkerStoreAck core entry waited) s = execWalkerStoreAck core entry waited s := rfl
theorem exec_taskStart {s : State} {core} : exec (.taskStart core) s = execTaskStart core s := rfl
theorem exec_walkerFlip {s : State} {core} : exec (.walkerFlip core) s = execWalkerFlip core s := rfl
theorem exec_taskWatchdog {s : State} {core thread} : exec (.taskWatchdog core thread) s = execTaskWatchdog core thread s := rfl
theorem exec_walkerCoreRestart {s : State} {core runtime entry} : exec (.walkerCoreRestart core runtime entry) s = execWalkerCoreRestart core runtime entry s := rfl
theorem exec_kvPagePrepare {s : State} {req frames} : exec (.kvPagePrepare req frames) s = execKvPagePrepare req frames s := rfl
theorem exec_kvPrepareDone {s : State} {req} : exec (.kvPrepareDone req) s = execKvPrepareDone req s := rfl
theorem exec_submit {s : State} : exec (.submit) s = execSubmit s := rfl
theorem exec_submitMatchDone {s : State} {req groupMin} : exec (.submitMatchDone req groupMin) s = execSubmitMatchDone req groupMin s := rfl
theorem exec_cancel {s : State} : exec (.cancel) s = execCancel s := rfl
theorem exec_pause {s : State} : exec (.pause) s = execPause s := rfl
theorem exec_reqResume {s : State} : exec (.reqResume) s = execReqResume s := rfl
theorem exec_release {s : State} : exec (.release) s = execRelease s := rfl
theorem exec_setprio {s : State} : exec (.setprio) s = execSetprio s := rfl
theorem exec_setdeadline {s : State} : exec (.setdeadline) s = execSetdeadline s := rfl
theorem exec_setspec {s : State} : exec (.setspec) s = execSetspec s := rfl
theorem exec_query {s : State} : exec (.query) s = execQuery s := rfl
theorem exec_pin {s : State} : exec (.pin) s = execPin s := rfl
theorem exec_unpin {s : State} : exec (.unpin) s = execUnpin s := rfl
theorem exec_cutterWrite {s : State} : exec (.cutterWrite) s = execCutterWrite s := rfl
theorem exec_cutterClear {s : State} : exec (.cutterClear) s = execCutterClear s := rfl
theorem exec_stepStart {s : State} {slot} : exec (.stepStart slot) s = execStepStart slot s := rfl
theorem exec_draftPhaseDone {s : State} {slot logits poisoned} : exec (.draftPhaseDone slot logits poisoned) s = execDraftPhaseDone slot logits poisoned s := rfl
theorem exec_stepCommit {s : State} {slot outputs poisoned} : exec (.stepCommit slot outputs poisoned) s = execStepCommit slot outputs poisoned s := rfl
theorem exec_stepDiscard {s : State} {slot} : exec (.stepDiscard slot) s = execStepDiscard slot s := rfl
theorem exec_assign {s : State} {tenant} : exec (.assign tenant) s = execAssign tenant s := rfl
theorem exec_quiesce {s : State} {tenant} : exec (.quiesce tenant) s = execQuiesce tenant s := rfl
theorem exec_tenantResume {s : State} {tenant} : exec (.tenantResume tenant) s = execTenantResume tenant s := rfl
theorem exec_tenantReset {s : State} {tenant byFault} : exec (.tenantReset tenant byFault) s = execTenantReset tenant byFault s := rfl
theorem exec_unassign {s : State} {tenant} : exec (.unassign tenant) s = execUnassign tenant s := rfl
theorem exec_tenantResetDone {s : State} {tenant} : exec (.tenantResetDone tenant) s = execTenantResetDone tenant s := rfl
theorem exec_apertureWrite {s : State} {tenant n value} : exec (.apertureWrite tenant n value) s = execApertureWrite tenant n value s := rfl
theorem exec_slotLoad {s : State} {slot head} : exec (.slotLoad slot head) s = execSlotLoad slot head s := rfl
theorem exec_slotLoadDone {s : State} {slot status image} : exec (.slotLoadDone slot status image) s = execSlotLoadDone slot status image s := rfl
theorem exec_slotUnload {s : State} {slot} : exec (.slotUnload slot) s = execSlotUnload slot s := rfl
theorem exec_restoreFrameDone {s : State} {slot data bad} : exec (.restoreFrameDone slot data bad) s = execRestoreFrameDone slot data bad s := rfl
theorem exec_restoreTimeout {s : State} {slot} : exec (.restoreTimeout slot) s = execRestoreTimeout slot s := rfl
theorem exec_contextSwitch {s : State} : exec (.contextSwitch) s = execContextSwitch s := rfl
theorem exec_contextSwitchDone {s : State} : exec (.contextSwitchDone) s = execContextSwitchDone s := rfl
theorem exec_cadenceBoundary {s : State} : exec (.cadenceBoundary) s = execCadenceBoundary s := rfl
theorem exec_cadenceInEdge {s : State} {stamp} : exec (.cadenceInEdge stamp) s = execCadenceInEdge stamp s := rfl
theorem exec_cadenceEdgeMissed {s : State} : exec (.cadenceEdgeMissed) s = execCadenceEdgeMissed s := rfl
theorem exec_fabricCadenceTimeout {s : State} : exec (.fabricCadenceTimeout) s = execFabricCadenceTimeout s := rfl
theorem exec_scheduleStep {s : State} : exec (.scheduleStep) s = execScheduleStep s := rfl
theorem exec_reservationLapse {s : State} : exec (.reservationLapse) s = execReservationLapse s := rfl
theorem exec_scheduleContext {s : State} : exec (.scheduleContext) s = execScheduleContext s := rfl
theorem exec_scheduleActivate {s : State} {table} : exec (.scheduleActivate table) s = execScheduleActivate table s := rfl
theorem exec_freqCorrection {s : State} {temp} : exec (.freqCorrection temp) s = execFreqCorrection temp s := rfl
theorem exec_ppsInPulse {s : State} {stamp} : exec (.ppsInPulse stamp) s = execPpsInPulse stamp s := rfl
theorem exec_ppsMissing {s : State} : exec (.ppsMissing) s = execPpsMissing s := rfl
theorem exec_ptpTimeWrite {s : State} {time} : exec (.ptpTimeWrite time) s = execPtpTimeWrite time s := rfl
theorem exec_ptpSyncSend {s : State} : exec (.ptpSyncSend) s = execPtpSyncSend s := rfl
theorem exec_ptpDelayReq {s : State} {peer seq} : exec (.ptpDelayReq peer seq) s = execPtpDelayReq peer seq s := rfl
theorem exec_ppsOutSecond {s : State} : exec (.ppsOutSecond) s = execPpsOutSecond s := rfl
theorem exec_flitReceive {s : State} {port crcOk ftype vc seq ackseq cvc credits op dst src tenant priv ord addfmt fidx fcnt tag wmask addr words} : exec (.flitReceive port crcOk ftype vc seq ackseq cvc credits op dst src tenant priv ord addfmt fidx fcnt tag wmask addr words) s = execFlitReceive port crcOk ftype vc seq ackseq cvc credits op dst src tenant priv ord addfmt fidx fcnt tag wmask addr words s := rfl
theorem exec_nakReceive {s : State} {port ackseq} : exec (.nakReceive port ackseq) s = execNakReceive port ackseq s := rfl
theorem exec_portRetrain {s : State} {port} : exec (.portRetrain port) s = execPortRetrain port s := rfl
theorem exec_portTrained {s : State} {port node dx dy dz serial names} : exec (.portTrained port node dx dy dz serial names) s = execPortTrained port node dx dy dz serial names s := rfl
theorem exec_portDownExpire {s : State} {port} : exec (.portDownExpire port) s = execPortDownExpire port s := rfl
theorem exec_fabricWrite {s : State} : exec (.fabricWrite) s = execFabricWrite s := rfl
theorem exec_fabricRead {s : State} : exec (.fabricRead) s = execFabricRead s := rfl
theorem exec_fabricAdd {s : State} : exec (.fabricAdd) s = execFabricAdd s := rfl
theorem exec_rdata {s : State} : exec (.rdata) s = execRdata s := rfl
theorem exec_ack {s : State} : exec (.ack) s = execAck s := rfl
theorem exec_nack {s : State} : exec (.nack) s = execNack s := rfl
theorem exec_linkstate {s : State} {port node version mask down} : exec (.linkstate port node version mask down) s = execLinkstate port node version mask down s := rfl
theorem exec_fabricRequestTimeout {s : State} {tag} : exec (.fabricRequestTimeout tag) s = execFabricRequestTimeout tag s := rfl
theorem exec_quarantineRelease {s : State} {port value} : exec (.quarantineRelease port value) s = execQuarantineRelease port value s := rfl
theorem exec_collPost {s : State} {poster tenant priv data} : exec (.collPost poster tenant priv data) s = execCollPost poster tenant priv data s := rfl
theorem exec_allreduce {s : State} : exec (.allreduce) s = execAllreduce s := rfl
theorem exec_allgather {s : State} : exec (.allgather) s = execAllgather s := rfl
theorem exec_reducescatter {s : State} : exec (.reducescatter) s = execReducescatter s := rfl
theorem exec_broadcast {s : State} : exec (.broadcast) s = execBroadcast s := rfl
theorem exec_collMessage {s : State} {rank desc isData data bad} : exec (.collMessage rank desc isData data bad) s = execCollMessage rank desc isData data bad s := rfl
theorem exec_collComplete {s : State} : exec (.collComplete) s = execCollComplete s := rfl
theorem exec_collTimeout {s : State} : exec (.collTimeout) s = execCollTimeout s := rfl
theorem exec_tandemEnableWrite {s : State} {value} : exec (.tandemEnableWrite value) s = execTandemEnableWrite value s := rfl
theorem exec_heartSend {s : State} : exec (.heartSend) s = execHeartSend s := rfl
theorem exec_heart {s : State} {port seq partner priority applied vmin vmax} : exec (.heart port seq partner priority applied vmin vmax) s = execHeart port seq partner priority applied vmin vmax s := rfl
theorem exec_heartbeatTimeout {s : State} : exec (.heartbeatTimeout) s = execHeartbeatTimeout s := rfl
theorem exec_tandemLost {s : State} : exec (.tandemLost) s = execTandemLost s := rfl
theorem exec_tandemFenced {s : State} : exec (.tandemFenced) s = execTandemFenced s := rfl
theorem exec_withdraw {s : State} : exec (.withdraw) s = execWithdraw s := rfl
theorem exec_rejoin {s : State} : exec (.rejoin) s = execRejoin s := rfl
theorem exec_mirrorAdmit {s : State} {seq req entry window digest keys} : exec (.mirrorAdmit seq req entry window digest keys) s = execMirrorAdmit seq req entry window digest keys s := rfl
theorem exec_mirrorCommand {s : State} {seq req tenant data} : exec (.mirrorCommand seq req tenant data) s = execMirrorCommand seq req tenant data s := rfl
theorem exec_mirrorAppend {s : State} {seq req draft lane pos kind frame data} : exec (.mirrorAppend seq req draft lane pos kind frame data) s = execMirrorAppend seq req draft lane pos kind frame data s := rfl
theorem exec_mirrorCommit {s : State} {seq slot step parts} : exec (.mirrorCommit seq slot step parts) s = execMirrorCommit seq slot step parts s := rfl
theorem exec_mirrorCutter {s : State} {seq cutter gen tenant stamp data} : exec (.mirrorCutter seq cutter gen tenant stamp data) s = execMirrorCutter seq cutter gen tenant stamp data s := rfl
theorem exec_mirrorDict {s : State} {seq index sub stamp value} : exec (.mirrorDict seq index sub stamp value) s = execMirrorDict seq index sub stamp value s := rfl
theorem exec_mirrorPrefix {s : State} {seq what req draft tenant keys} : exec (.mirrorPrefix seq what req draft tenant keys) s = execMirrorPrefix seq what req draft tenant keys s := rfl
theorem exec_mirrorTime {s : State} {seq quality time freq period boundary} : exec (.mirrorTime seq quality time freq period boundary) s = execMirrorTime seq quality time freq period boundary s := rfl
theorem exec_mirrorCatchup {s : State} {seq req draft lane pos kind frame data} : exec (.mirrorCatchup seq req draft lane pos kind frame data) s = execMirrorCatchup seq req draft lane pos kind frame data s := rfl
theorem exec_mirrorHandover {s : State} {seq slot} : exec (.mirrorHandover seq slot) s = execMirrorHandover seq slot s := rfl
theorem exec_mirrorAck {s : State} {seq marks mapped} : exec (.mirrorAck seq marks mapped) s = execMirrorAck seq marks mapped s := rfl
theorem exec_pairKeyAgree {s : State} {share signature partnerKey certificateOk} : exec (.pairKeyAgree share signature partnerKey certificateOk) s = execPairKeyAgree share signature partnerKey certificateOk s := rfl
theorem exec_doorbell {s : State} {tenant ring value} : exec (.doorbell tenant ring value) s = execDoorbell tenant ring value s := rfl
theorem exec_ringEnable {s : State} {tenant ring value} : exec (.ringEnable tenant ring value) s = execRingEnable tenant ring value s := rfl
theorem exec_ringDisable {s : State} {tenant ring} : exec (.ringDisable tenant ring) s = execRingDisable tenant ring s := rfl
theorem exec_ringDisableDone {s : State} {tenant ring} : exec (.ringDisableDone tenant ring) s = execRingDisableDone tenant ring s := rfl
theorem exec_ringEntryTake {s : State} {host} : exec (.ringEntryTake host) s = execRingEntryTake host s := rfl
theorem exec_ringAccessFail {s : State} {tenant ring} : exec (.ringAccessFail tenant ring) s = execRingAccessFail tenant ring s := rfl
theorem exec_ipendClear {s : State} {tenant view index mask} : exec (.ipendClear tenant view index mask) s = execIpendClear tenant view index mask s := rfl
theorem exec_itargetWrite {s : State} {tenant view index value} : exec (.itargetWrite tenant view index value) s = execItargetWrite tenant view index value s := rfl
theorem exec_winWrite {s : State} {fn index value} : exec (.winWrite fn index value) s = execWinWrite fn index value s := rfl
theorem exec_bar2Access {s : State} {fn offset len data ep} : exec (.bar2Access fn offset len data ep) s = execBar2Access fn offset len data ep s := rfl
theorem exec_bar0BadAccess {s : State} {fn write} : exec (.bar0BadAccess fn write) s = execBar0BadAccess fn write s := rfl
theorem exec_msixUnmask {s : State} {fn vec} : exec (.msixUnmask fn vec) s = execMsixUnmask fn vec s := rfl
theorem exec_flr {s : State} {fn} : exec (.flr fn) s = execFlr fn s := rfl
theorem exec_hostLinkDown {s : State} : exec (.hostLinkDown) s = execHostLinkDown s := rfl
theorem exec_perstNAssert {s : State} : exec (.perstNAssert) s = execPerstNAssert s := rfl
theorem exec_l0pWidthChange {s : State} {width low high} : exec (.l0pWidthChange width low high) s = execL0pWidthChange width low high s := rfl
theorem exec_gpiEdge {s : State} {pin rise} : exec (.gpiEdge pin rise) s = execGpiEdge pin rise s := rfl
theorem exec_inputGlitch {s : State} {input} : exec (.inputGlitch input) s = execInputGlitch input s := rfl
theorem exec_hello {s : State} {vlan prp net datagram} : exec (.hello vlan prp net datagram) s = execHello vlan prp net datagram s := rfl
theorem exec_prove {s : State} {vlan prp net datagram} : exec (.prove vlan prp net datagram) s = execProve vlan prp net datagram s := rfl
theorem exec_handshakeExpire {s : State} {number} : exec (.handshakeExpire number) s = execHandshakeExpire number s := rfl
theorem exec_nirnarRead {s : State} {vlan prp net datagram} : exec (.nirnarRead vlan prp net datagram) s = execNirnarRead vlan prp net datagram s := rfl
theorem exec_nirnarWrite {s : State} {vlan prp net datagram host ok} : exec (.nirnarWrite vlan prp net datagram host ok) s = execNirnarWrite vlan prp net datagram host ok s := rfl
theorem exec_subscribe {s : State} {vlan prp net datagram} : exec (.subscribe vlan prp net datagram) s = execSubscribe vlan prp net datagram s := rfl
theorem exec_unsubscribe {s : State} {vlan prp net datagram} : exec (.unsubscribe vlan prp net datagram) s = execUnsubscribe vlan prp net datagram s := rfl
theorem exec_notify {s : State} {number index sub} : exec (.notify number index sub) s = execNotify number index sub s := rfl
theorem exec_notifyAck {s : State} {vlan prp net datagram} : exec (.notifyAck vlan prp net datagram) s = execNotifyAck vlan prp net datagram s := rfl
theorem exec_notifyResend {s : State} {number nseq} : exec (.notifyResend number nseq) s = execNotifyResend number nseq s := rfl
theorem exec_nirnarAbort {s : State} {vlan prp net datagram} : exec (.nirnarAbort vlan prp net datagram) s = execNirnarAbort vlan prp net datagram s := rfl
theorem exec_close {s : State} {vlan prp net datagram} : exec (.close vlan prp net datagram) s = execClose vlan prp net datagram s := rfl
theorem exec_keepalive {s : State} {vlan prp net datagram} : exec (.keepalive vlan prp net datagram) s = execKeepalive vlan prp net datagram s := rfl
theorem exec_sessionIdle {s : State} {number} : exec (.sessionIdle number) s = execSessionIdle number s := rfl
theorem exec_snapshotExpire {s : State} {mailbox who} : exec (.snapshotExpire mailbox who) s = execSnapshotExpire mailbox who s := rfl
theorem exec_stagingExpire {s : State} {mailbox who} : exec (.stagingExpire mailbox who) s = execStagingExpire mailbox who s := rfl
theorem exec_presence {s : State} {vlan prp net datagram} : exec (.presence vlan prp net datagram) s = execPresence vlan prp net datagram s := rfl
theorem exec_presenceSend {s : State} : exec (.presenceSend) s = execPresenceSend s := rfl
theorem exec_prpSupervisionSend {s : State} : exec (.prpSupervisionSend) s = execPrpSupervisionSend s := rfl
theorem exec_arpRequest {s : State} {port vlan prp target sender senderMac} : exec (.arpRequest port vlan prp target sender senderMac) s = execArpRequest port vlan prp target sender senderMac s := rfl
theorem exec_neighbourSolicitation {s : State} {port vlan prp target source} : exec (.neighbourSolicitation port vlan prp target source) s = execNeighbourSolicitation port vlan prp target source s := rfl
theorem exec_icmpEcho {s : State} {vlan prp net fragment ident seq data} : exec (.icmpEcho vlan prp net fragment ident seq data) s = execIcmpEcho vlan prp net fragment ident seq data s := rfl
theorem exec_dictCmdRead {s : State} {fn index sub offset} : exec (.dictCmdRead fn index sub offset) s = execDictCmdRead fn index sub offset s := rfl
theorem exec_dictCmdWrite {s : State} {fn final index sub offset host ok} : exec (.dictCmdWrite fn final index sub offset host ok) s = execDictCmdWrite fn final index sub offset host ok s := rfl
theorem exec_dictWrite {s : State} {index sub value} : exec (.dictWrite index sub value) s = execDictWrite index sub value s := rfl
theorem exec_journalWriteDone {s : State} {ok} : exec (.journalWriteDone ok) s = execJournalWriteDone ok s := rfl
theorem exec_regWrite {s : State} {ecs agent fn offset data ep host ok} : exec (.regWrite ecs agent fn offset data ep host ok) s = execRegWrite ecs agent fn offset data ep host ok s := rfl
theorem exec_arbiterEpoch {s : State} : exec (.arbiterEpoch) s = execArbiterEpoch s := rfl
theorem exec_pmbusPoll {s : State} {rails} : exec (.pmbusPoll rails) s = execPmbusPoll rails s := rfl
theorem exec_sensorScan {s : State} {readings} : exec (.sensorScan readings) s = execSensorScan readings s := rfl
theorem exec_dieCapUpdate {s : State} : exec (.dieCapUpdate) s = execDieCapUpdate s := rfl
theorem exec_vrefCorrection {s : State} : exec (.vrefCorrection) s = execVrefCorrection s := rfl
theorem exec_thermalHoldEnd {s : State} : exec (.thermalHoldEnd) s = execThermalHoldEnd s := rfl
theorem exec_pwrgdRise {s : State} : exec (.pwrgdRise) s = execPwrgdRise s := rfl
theorem exec_pwrgdFall {s : State} : exec (.pwrgdFall) s = execPwrgdFall s := rfl
theorem exec_resetToRom {s : State} : exec (.resetToRom) s = execResetToRom s := rfl
theorem exec_romBootDone {s : State} {agree trained} : exec (.romBootDone agree trained) s = execRomBootDone agree trained s := rfl
theorem exec_configDone {s : State} : exec (.configDone) s = execConfigDone s := rfl
theorem exec_sysrefLoss {s : State} : exec (.sysrefLoss) s = execSysrefLoss s := rfl
theorem exec_deviceResetCmd {s : State} : exec (.deviceResetCmd) s = execDeviceResetCmd s := rfl
theorem exec_deviceEnterTest {s : State} : exec (.deviceEnterTest) s = execDeviceEnterTest s := rfl
theorem exec_leaveTest {s : State} : exec (.leaveTest) s = execLeaveTest s := rfl
theorem exec_deviceStartService {s : State} : exec (.deviceStartService) s = execDeviceStartService s := rfl
theorem exec_stopService {s : State} : exec (.stopService) s = execStopService s := rfl
theorem exec_selftestUnitStart {s : State} {mv khz} : exec (.selftestUnitStart mv khz) s = execSelftestUnitStart mv khz s := rfl
theorem exec_selftestUnitDone {s : State} {kind stack index signature pass badRows identityOk} : exec (.selftestUnitDone kind stack index signature pass badRows identityOk) s = execSelftestUnitDone kind stack index signature pass badRows identityOk s := rfl
theorem exec_selftestRetry {s : State} {mv khz} : exec (.selftestRetry mv khz) s = execSelftestRetry mv khz s := rfl
theorem exec_runRequest {s : State} {data} : exec (.runRequest data) s = execRunRequest data s := rfl
theorem exec_runDone {s : State} : exec (.runDone) s = execRunDone s := rfl
theorem exec_coreHeartbeatCheck {s : State} {checker changed} : exec (.coreHeartbeatCheck checker changed) s = execCoreHeartbeatCheck checker changed s := rfl
theorem exec_serviceCoreRestartDone {s : State} {core} : exec (.serviceCoreRestartDone core) s = execServiceCoreRestartDone core s := rfl
theorem exec_serviceCoresDead {s : State} : exec (.serviceCoresDead) s = execServiceCoresDead s := rfl
theorem exec_deviceRecovery {s : State} : exec (.deviceRecovery) s = execDeviceRecovery s := rfl
theorem exec_recoveryDone {s : State} : exec (.recoveryDone) s = execRecoveryDone s := rfl
theorem exec_recoveryTimeout {s : State} : exec (.recoveryTimeout) s = execRecoveryTimeout s := rfl
theorem exec_fatalReset {s : State} : exec (.fatalReset) s = execFatalReset s := rfl
theorem exec_recoveryWindowClose {s : State} : exec (.recoveryWindowClose) s = execRecoveryWindowClose s := rfl
theorem exec_faultSummaryWrite {s : State} {value} : exec (.faultSummaryWrite value) s = execFaultSummaryWrite value s := rfl
theorem exec_ringClear {s : State} {value} : exec (.ringClear value) s = execRingClear value s := rfl
theorem exec_healthHourly {s : State} {mv ro em} : exec (.healthHourly mv ro em) s = execHealthHourly mv ro em s := rfl
theorem exec_eyeScan {s : State} {lanes} : exec (.eyeScan lanes) s = execEyeScan lanes s := rfl
theorem exec_retentionProbe {s : State} {st} : exec (.retentionProbe st) s = execRetentionProbe st s := rfl
theorem exec_retentionHoldEnd {s : State} {st valid} : exec (.retentionHoldEnd st valid) s = execRetentionHoldEnd st valid s := rfl
theorem exec_dailyPoint {s : State} : exec (.dailyPoint) s = execDailyPoint s := rfl
theorem exec_rebaseLinks {s : State} {value} : exec (.rebaseLinks value) s = execRebaseLinks value s := rfl
theorem exec_getVersion {s : State} {fn} : exec (.getVersion fn) s = execGetVersion fn s := rfl
theorem exec_getCapabilities {s : State} {fn request} : exec (.getCapabilities fn request) s = execGetCapabilities fn request s := rfl
theorem exec_negotiateAlgorithms {s : State} {fn asym hash dhe aead request} : exec (.negotiateAlgorithms fn asym hash dhe aead request) s = execNegotiateAlgorithms fn asym hash dhe aead request s := rfl
theorem exec_getDigests {s : State} {fn} : exec (.getDigests fn) s = execGetDigests fn s := rfl
theorem exec_getCertificate {s : State} {fn slot offset length} : exec (.getCertificate fn slot offset length) s = execGetCertificate fn slot offset length s := rfl
theorem exec_spdmChallenge {s : State} {fn slot nonce} : exec (.spdmChallenge fn slot nonce) s = execSpdmChallenge fn slot nonce s := rfl
theorem exec_getMeasurements {s : State} {fn operation sign nonce} : exec (.getMeasurements fn operation sign nonce) s = execGetMeasurements fn operation sign nonce s := rfl
theorem exec_keyExchange {s : State} {fn slot share} : exec (.keyExchange fn slot share) s = execKeyExchange fn slot share s := rfl
theorem exec_finish {s : State} {fn session verify} : exec (.finish fn session verify) s = execFinish fn session verify s := rfl
theorem exec_keyUpdate {s : State} {fn session operation} : exec (.keyUpdate fn session operation) s = execKeyUpdate fn session operation s := rfl
theorem exec_spdmHeartbeat {s : State} {fn session} : exec (.spdmHeartbeat fn session) s = execSpdmHeartbeat fn session s := rfl
theorem exec_endSession {s : State} {fn session} : exec (.endSession fn session) s = execEndSession fn session s := rfl
theorem exec_vendorDefined {s : State} {fn session protocol op arg key} : exec (.vendorDefined fn session protocol op arg key) s = execVendorDefined fn session protocol op arg key s := rfl
theorem exec_quoteNonceWrite {s : State} {mailbox who nonce} : exec (.quoteNonceWrite mailbox who nonce) s = execQuoteNonceWrite mailbox who nonce s := rfl
theorem exec_quoteRead {s : State} {mailbox who} : exec (.quoteRead mailbox who) s = execQuoteRead mailbox who s := rfl
theorem exec_stageManifest {s : State} {manifest} : exec (.stageManifest manifest) s = execStageManifest manifest s := rfl
theorem exec_chunk {s : State} {data ok} : exec (.chunk data ok) s = execChunk data ok s := rfl
theorem exec_updateVerifyDone {s : State} : exec (.updateVerifyDone) s = execUpdateVerifyDone s := rfl
theorem exec_activate {s : State} : exec (.activate) s = execActivate s := rfl
theorem exec_updateCancel {s : State} : exec (.updateCancel) s = execUpdateCancel s := rfl
theorem exec_activationDone {s : State} : exec (.activationDone) s = execActivationDone s := rfl
theorem exec_activationFailed {s : State} {started} : exec (.activationFailed started) s = execActivationFailed started s := rfl
theorem exec_confirm {s : State} {value} : exec (.confirm value) s = execConfirm value s := rfl
theorem exec_recoveryData {s : State} {offset data final} : exec (.recoveryData offset data final) s = execRecoveryData offset data final s := rfl
theorem exec_recoveryDatagram {s : State} {datagram} : exec (.recoveryDatagram datagram) s = execRecoveryDatagram datagram s := rfl
theorem exec_recoveryStatusRequest {s : State} : exec (.recoveryStatusRequest) s = execRecoveryStatusRequest s := rfl
theorem exec_recoveryPackageCheck {s : State} : exec (.recoveryPackageCheck) s = execRecoveryPackageCheck s := rfl
theorem exec_slotSigningKeyWrite {s : State} {n key} : exec (.slotSigningKeyWrite n key) s = execSlotSigningKeyWrite n key s := rfl
theorem exec_entdaa {s : State} {address} : exec (.entdaa address) s = execEntdaa address s := rfl
theorem exec_pldmBaseDiscovery {s : State} {ty command arg} : exec (.pldmBaseDiscovery ty command arg) s = execPldmBaseDiscovery ty command arg s := rfl
theorem exec_pldmSensorRead {s : State} {command sensor} : exec (.pldmSensorRead command sensor) s = execPldmSensorRead command sensor s := rfl
theorem exec_pldmFruRead {s : State} {command} : exec (.pldmFruRead command) s = execPldmFruRead command s := rfl
theorem exec_bypass {s : State} : exec (.bypass) s = execBypass s := rfl
theorem exec_idcode {s : State} : exec (.idcode) s = execIdcode s := rfl
theorem exec_samplePreload {s : State} {levels pattern} : exec (.samplePreload levels pattern) s = execSamplePreload levels pattern s := rfl
theorem exec_extest {s : State} : exec (.extest) s = execExtest s := rfl
theorem exec_clamp {s : State} : exec (.clamp) s = execClamp s := rfl
theorem exec_highz {s : State} : exec (.highz) s = execHighz s := rfl
theorem exec_extestPulse {s : State} : exec (.extestPulse) s = execExtestPulse s := rfl
theorem exec_extestTrain {s : State} : exec (.extestTrain) s = execExtestTrain s := rfl
theorem exec_hostLinkUp {s : State} {speed width} : exec (.hostLinkUp speed width) s = execHostLinkUp speed width s := rfl
theorem exec_perstNRelease {s : State} : exec (.perstNRelease) s = execPerstNRelease s := rfl
theorem exec_pcieConfigWrite {s : State} {field fn value} : exec (.pcieConfigWrite field fn value) s = execPcieConfigWrite field fn value s := rfl
theorem exec_portLossOfSignal {s : State} {port} : exec (.portLossOfSignal port) s = execPortLossOfSignal port s := rfl
theorem exec_mirrorTimeout {s : State} : exec (.mirrorTimeout) s = execMirrorTimeout s := rfl
theorem exec_serviceCoreFault {s : State} {core} : exec (.serviceCoreFault core) s = execServiceCoreFault core s := rfl
theorem exec_grandmasterAnnounce {s : State} {epoch period time} : exec (.grandmasterAnnounce epoch period time) s = execGrandmasterAnnounce epoch period time s := rfl
theorem exec_withdrawWaitExpire {s : State} : exec (.withdrawWaitExpire) s = execWithdrawWaitExpire s := rfl

end Sys2Proof.Laws
end

