-- ==== Sys2Proof/Laws/KeepsStacks.lean ====
section
/-!
SUPPORT. What each operation keeps, over the memories, the operands, the ladle transforms, the stacks, the ladles, the grid and the routes: the queue of waiting commands and the canonical form of every memory.
-/

set_option linter.all false
set_option Elab.async false
set_option maxRecDepth 4000

namespace Sys2Proof.Laws

open Sys2Proof Sys2Proof.Machine

variable {q : List Instr}

/-! ## Ops -/

theorem keeps_emit (a0) (a1) (h0 : Keeps q a0) : Keeps q (Sys2Proof.Machine.emit a0 a1) := by
  unfold Sys2Proof.Machine.emit
  repeat' first | with_reducible assumption | intro _ | dsimp only | (fail_if_no_progress with_reducible apply keeps_mk)

theorem keeps_noteChange (a0) (a1) (h0 : Keeps q a0) : Keeps q (Sys2Proof.Machine.noteChange a0 a1) := by
  unfold Sys2Proof.Machine.noteChange
  repeat'
      first
      | with_reducible assumption | with_reducible refine keepsOpt_map (fun _ => ?_) | with_reducible apply keeps_ite_keep | intro _
      | split | dsimp only | (fail_if_no_progress with_reducible apply keeps_mk)

theorem keeps_State_setLadle (a0) (a1) (a2) (h0 : Keeps q a0) : Keeps q (Sys2Proof.Machine.State.setLadle a0 a1 a2) := by
  unfold Sys2Proof.Machine.State.setLadle
  repeat' first | with_reducible assumption | intro _ | dsimp only | (fail_if_no_progress with_reducible apply keeps_mk)

theorem keeps_State_setEngine (a0) (a1) (a2) (h0 : Keeps q a0) : Keeps q (Sys2Proof.Machine.State.setEngine a0 a1 a2) := by
  unfold Sys2Proof.Machine.State.setEngine
  repeat' first | with_reducible assumption | intro _ | dsimp only | (fail_if_no_progress with_reducible apply keeps_mk)

theorem keeps_discardSteps (a0) (a1) (h0 : Keeps q a0) : Keeps q (Sys2Proof.Machine.discardSteps a0 a1) := by
  unfold Sys2Proof.Machine.discardSteps
  repeat'
      first
      | with_reducible assumption | with_reducible refine keepsOpt_map (fun _ => ?_) | with_reducible apply keeps_ite_keep | intro _
      | split | dsimp only | (fail_if_no_progress with_reducible apply keeps_mk)

theorem keeps_State_setSlot (a0) (a1) (a2) (h0 : Keeps q a0) : Keeps q (Sys2Proof.Machine.State.setSlot a0 a1 a2) := by
  unfold Sys2Proof.Machine.State.setSlot
  repeat' first | with_reducible assumption | intro _ | dsimp only | (fail_if_no_progress with_reducible apply keeps_mk)

theorem keeps_markStalled (a0) (h0 : Keeps q a0) : Keeps q (Sys2Proof.Machine.markStalled a0) := by
  unfold Sys2Proof.Machine.markStalled
  repeat'
      first
      | with_reducible assumption | with_reducible refine keepsOpt_map (fun _ => ?_) | with_reducible apply keeps_ite_keep | intro _
      | split | dsimp only | (fail_if_no_progress with_reducible apply keeps_mk)

theorem keeps_freeValue (a0) (h0 : Keeps q a0) : Keeps q (Sys2Proof.Machine.freeValue a0).2 := by
  unfold Sys2Proof.Machine.freeValue
  repeat' first | with_reducible assumption | intro _ | dsimp only | (fail_if_no_progress with_reducible apply keeps_mk)

theorem keeps_State_setReq (a0) (a1) (a2) (h0 : Keeps q a0) : Keeps q (Sys2Proof.Machine.State.setReq a0 a1 a2) := by
  unfold Sys2Proof.Machine.State.setReq
  repeat' first | with_reducible assumption | intro _ | dsimp only | (fail_if_no_progress with_reducible apply keeps_mk)

theorem keeps_measure (a0) (a1) (a2) (h0 : Keeps q a0) : Keeps q (Sys2Proof.Machine.measure a0 a1 a2) := by
  unfold Sys2Proof.Machine.measure
  repeat'
      first
      | with_reducible assumption | with_reducible apply keeps_ite_keep | intro _ | split | dsimp only
      | (fail_if_no_progress with_reducible apply keeps_mk)

theorem keeps_onUnit (a0) (a1) (a2) (h1 : Keeps q a1) (h2 : KeepsRes q a2) : KeepsRes q (Sys2Proof.Machine.onUnit a0 a1 a2) := by
  unfold Sys2Proof.Machine.onUnit
  repeat'
      first
      | with_reducible assumption | with_reducible apply keepsRes_next | with_reducible exact keepsRes_fault _
      | with_reducible exact keepsRes_refused _ | with_reducible apply keepsRes_ite | with_reducible apply keeps_ite_keep | intro _ | split
      | dsimp only

theorem keeps_dset (a0) (a1) (a2) (a3) (h0 : Keeps q a0) : Keeps q (Sys2Proof.Machine.dset a0 a1 a2 a3) := by
  unfold Sys2Proof.Machine.dset
  repeat'
      first
      | with_reducible assumption | with_reducible apply keeps_noteChange | intro _ | dsimp only
      | (fail_if_no_progress with_reducible apply keeps_mk)

theorem keeps_sendMsix (a0) (a1) (a2) (h0 : Keeps q a0) : Keeps q (Sys2Proof.Machine.sendMsix a0 a1 a2) := by
  unfold Sys2Proof.Machine.sendMsix
  repeat'
      first
      | with_reducible assumption | with_reducible apply keeps_emit | with_reducible apply keeps_ite_keep | intro _ | split | dsimp only
      | (fail_if_no_progress with_reducible apply keeps_mk)

theorem keeps_State_updEngine (a0) (a1) (a2) (h0 : Keeps q a0) : Keeps q (Sys2Proof.Machine.State.updEngine a0 a1 a2) := by
  unfold Sys2Proof.Machine.State.updEngine
  repeat' first | with_reducible assumption | with_reducible apply keeps_State_setEngine | intro _ | dsimp only

theorem keeps_State_updSlot (a0) (a1) (a2) (h0 : Keeps q a0) : Keeps q (Sys2Proof.Machine.State.updSlot a0 a1 a2) := by
  unfold Sys2Proof.Machine.State.updSlot
  repeat' first | with_reducible assumption | with_reducible apply keeps_State_setSlot | intro _ | dsimp only

theorem keeps_bset (a0) (a1) (a2) (a3) (h0 : Keeps q a0) : Keeps q (Sys2Proof.Machine.bset a0 a1 a2 a3) := by
  unfold Sys2Proof.Machine.bset
  repeat'
      first
      | with_reducible assumption | with_reducible apply keeps_noteChange | intro _ | dsimp only
      | (fail_if_no_progress with_reducible apply keeps_mk)

theorem keeps_State_updReq (a0) (a1) (a2) (h0 : Keeps q a0) : Keeps q (Sys2Proof.Machine.State.updReq a0 a1 a2) := by
  unfold Sys2Proof.Machine.State.updReq
  repeat' first | with_reducible assumption | with_reducible apply keeps_State_setReq | intro _ | dsimp only

theorem keeps_State_updLadle (a0) (a1) (a2) (h0 : Keeps q a0) : Keeps q (Sys2Proof.Machine.State.updLadle a0 a1 a2) := by
  unfold Sys2Proof.Machine.State.updLadle
  repeat' first | with_reducible assumption | with_reducible apply keeps_State_setLadle | intro _ | dsimp only

theorem keeps_bump (a0) (a1) (a2) (a3) (h0 : Keeps q a0) : Keeps q (Sys2Proof.Machine.bump a0 a1 a2 a3) := by
  unfold Sys2Proof.Machine.bump
  repeat'
      first
      | with_reducible assumption | with_reducible apply keeps_dset | intro _ | split | dsimp only
      | (fail_if_no_progress with_reducible apply keeps_mk) | with_reducible refine keeps_of_fst ?_ (by assumption)
      | with_reducible refine keeps_of_snd ?_ (by assumption) | with_reducible refine keeps_of_snd2 ?_ (by assumption)
      | with_reducible refine keeps_of_some ?_ (by assumption) | with_reducible refine keeps_of_next ?_ (by assumption)

theorem keeps_dsetStored (a0) (a1) (a2) (a3) (h0 : Keeps q a0) : Keeps q (Sys2Proof.Machine.dsetStored a0 a1 a2 a3) := by
  unfold Sys2Proof.Machine.dsetStored
  repeat'
      first
      | with_reducible assumption | with_reducible apply keeps_dset | intro _ | dsimp only
      | (fail_if_no_progress with_reducible apply keeps_mk)

theorem keeps_bsetStored (a0) (a1) (a2) (a3) (h0 : Keeps q a0) : Keeps q (Sys2Proof.Machine.bsetStored a0 a1 a2 a3) := by
  unfold Sys2Proof.Machine.bsetStored
  repeat'
      first
      | with_reducible assumption | with_reducible apply keeps_bset | intro _ | dsimp only
      | (fail_if_no_progress with_reducible apply keeps_mk)

theorem keeps_dsetB (a0) (a1) (a2) (a3) (h0 : Keeps q a0) : Keeps q (Sys2Proof.Machine.dsetB a0 a1 a2 a3) := by
  unfold Sys2Proof.Machine.dsetB
  repeat' first | with_reducible assumption | with_reducible apply keeps_dset | intro _ | dsimp only

theorem keeps_deliverSource (a0) (a1) (h0 : Keeps q a0) : Keeps q (Sys2Proof.Machine.deliverSource a0 a1) := by
  unfold Sys2Proof.Machine.deliverSource
  repeat'
      first
      | with_reducible assumption | with_reducible apply keeps_emit | with_reducible apply keeps_sendMsix
      | with_reducible apply keeps_bump | with_reducible apply keeps_ite_keep | intro _ | split | dsimp only
      | (fail_if_no_progress with_reducible apply keeps_mk) | with_reducible refine keeps_of_fst ?_ (by assumption)
      | with_reducible refine keeps_of_snd ?_ (by assumption) | with_reducible refine keeps_of_snd2 ?_ (by assumption)
      | with_reducible refine keeps_of_some ?_ (by assumption) | with_reducible refine keeps_of_next ?_ (by assumption)

theorem keeps_raiseSource (a0) (a1) (h0 : Keeps q a0) : Keeps q (Sys2Proof.Machine.raiseSource a0 a1) := by
  unfold Sys2Proof.Machine.raiseSource
  repeat'
      first
      | with_reducible assumption | with_reducible apply keeps_deliverSource | with_reducible apply keeps_ite_keep | intro _ | split
      | dsimp only | (fail_if_no_progress with_reducible apply keeps_mk)

theorem keeps_raiseLocal (a0) (a1) (a2) (h0 : Keeps q a0) : Keeps q (Sys2Proof.Machine.raiseLocal a0 a1 a2) := by
  unfold Sys2Proof.Machine.raiseLocal
  repeat'
      first
      | with_reducible assumption | with_reducible apply keeps_raiseSource | with_reducible apply keeps_ite_keep | intro _ | split
      | dsimp only

theorem keeps_setTenantFault (a0) (a1) (a2) (h0 : Keeps q a0) : Keeps q (Sys2Proof.Machine.setTenantFault a0 a1 a2) := by
  unfold Sys2Proof.Machine.setTenantFault
  repeat'
      first
      | with_reducible assumption | with_reducible apply keeps_raiseLocal | with_reducible apply keeps_noteChange
      | with_reducible apply keeps_ite_keep | intro _ | split | dsimp only | (fail_if_no_progress with_reducible apply keeps_mk)

theorem keeps_setSummary (a0) (a1) (h0 : Keeps q a0) : Keeps q (Sys2Proof.Machine.setSummary a0 a1) := by
  unfold Sys2Proof.Machine.setSummary
  repeat'
      first
      | with_reducible assumption | with_reducible apply keeps_raiseLocal | with_reducible apply keeps_noteChange
      | with_reducible apply keeps_ite_keep | intro _ | split | dsimp only | (fail_if_no_progress with_reducible apply keeps_mk)

theorem keeps_slotTenantFault (a0) (a1) (h0 : Keeps q a0) : Keeps q (Sys2Proof.Machine.slotTenantFault a0 a1) := by
  unfold Sys2Proof.Machine.slotTenantFault
  repeat'
      first
      | with_reducible assumption | with_reducible apply keeps_setTenantFault | with_reducible apply keeps_foldl
      | with_reducible apply keeps_foldl_fst | with_reducible apply keeps_foldl_snd | with_reducible apply keeps_foldl_snd2
      | with_reducible apply keeps_ite_keep | intro _ | split | dsimp only

theorem keeps_ringPush (a0) (a1) (h0 : Keeps q a0) : Keeps q (Sys2Proof.Machine.ringPush a0 a1) := by
  unfold Sys2Proof.Machine.ringPush
  repeat'
      first
      | with_reducible assumption | with_reducible apply keeps_setSummary | with_reducible apply keeps_ite_keep | intro _ | split
      | dsimp only | (fail_if_no_progress with_reducible apply keeps_mk) | with_reducible refine keeps_of_fst ?_ (by assumption)
      | with_reducible refine keeps_of_snd ?_ (by assumption) | with_reducible refine keeps_of_snd2 ?_ (by assumption)
      | with_reducible refine keeps_of_some ?_ (by assumption) | with_reducible refine keeps_of_next ?_ (by assumption)

theorem keeps_cmdState (a0) (h0 : Keeps q a0) : Keeps q (Sys2Proof.Machine.cmdState a0) := by
  unfold Sys2Proof.Machine.cmdState
  repeat' first | with_reducible assumption | with_reducible apply keeps_setSummary | intro _ | dsimp only

theorem keeps_slotRestoring (a0) (a1) (h0 : Keeps q a0) : Keeps q (Sys2Proof.Machine.slotRestoring a0 a1) := by
  unfold Sys2Proof.Machine.slotRestoring
  repeat'
      first
      | with_reducible assumption | with_reducible apply keeps_slotTenantFault | with_reducible apply keeps_discardSteps
      | with_reducible apply keeps_State_setSlot | with_reducible apply keeps_noteChange | with_reducible apply keeps_markStalled
      | with_reducible apply keeps_ite_keep | intro _ | split | dsimp only | (fail_if_no_progress with_reducible apply keeps_mk)

theorem keeps_slotOffline (a0) (a1) (h0 : Keeps q a0) : Keeps q (Sys2Proof.Machine.slotOffline a0 a1) := by
  unfold Sys2Proof.Machine.slotOffline
  repeat'
      first
      | with_reducible assumption | with_reducible apply keeps_slotTenantFault | with_reducible apply keeps_discardSteps
      | with_reducible apply keeps_State_setSlot | with_reducible apply keeps_noteChange | with_reducible apply keeps_markStalled
      | with_reducible apply keeps_ite_keep | intro _ | split | dsimp only | (fail_if_no_progress with_reducible apply keeps_mk)

theorem keeps_recordEntry (a0) (a1) (h0 : Keeps q a0) : Keeps q (Sys2Proof.Machine.recordEntry a0 a1) := by
  unfold Sys2Proof.Machine.recordEntry
  repeat'
      first
      | with_reducible assumption | with_reducible apply keeps_setSummary | with_reducible apply keeps_setTenantFault
      | with_reducible apply keeps_ringPush | with_reducible apply keeps_noteChange | intro _ | dsimp only
      | (fail_if_no_progress with_reducible apply keeps_mk)

theorem keeps_beginRecovery (a0) (a1) (a2) (h0 : Keeps q a0) : Keeps q (Sys2Proof.Machine.beginRecovery a0 a1 a2) := by
  unfold Sys2Proof.Machine.beginRecovery
  repeat'
      first
      | with_reducible assumption | with_reducible apply keeps_slotRestoring | with_reducible apply keeps_slotOffline
      | with_reducible apply keeps_ite_keep | intro _ | split | dsimp only | (fail_if_no_progress with_reducible apply keeps_mk)

theorem keeps_windowFault (a0) (a1) (h0 : Keeps q a0) : Keeps q (Sys2Proof.Machine.windowFault a0 a1) := by
  unfold Sys2Proof.Machine.windowFault
  repeat'
      first
      | with_reducible assumption | with_reducible apply keeps_recordEntry | with_reducible apply keeps_slotRestoring
      | with_reducible apply keeps_beginRecovery | with_reducible apply keeps_ite_keep | intro _ | split | dsimp only
      | (fail_if_no_progress with_reducible apply keeps_mk) | with_reducible refine keeps_of_fst ?_ (by assumption)
      | with_reducible refine keeps_of_snd ?_ (by assumption) | with_reducible refine keeps_of_snd2 ?_ (by assumption)
      | with_reducible refine keeps_of_some ?_ (by assumption) | with_reducible refine keeps_of_next ?_ (by assumption)

theorem keeps_recoveryPathFault (a0) (a1) (a2) (h0 : Keeps q a0) : Keeps q (Sys2Proof.Machine.recoveryPathFault a0 a1 a2) := by
  unfold Sys2Proof.Machine.recoveryPathFault
  repeat'
      first
      | with_reducible assumption | with_reducible apply keeps_beginRecovery | with_reducible apply keeps_recordEntry | intro _
      | dsimp only | (fail_if_no_progress with_reducible apply keeps_mk)

theorem keeps_recordFault (a0) (a1) (h0 : Keeps q a0) : Keeps q (Sys2Proof.Machine.recordFault a0 a1) := by
  unfold Sys2Proof.Machine.recordFault
  repeat'
      first
      | with_reducible assumption | with_reducible apply keeps_beginRecovery | with_reducible apply keeps_recordEntry
      | with_reducible apply keeps_windowFault | with_reducible apply keeps_ite_keep | intro _ | split | dsimp only


/-! ## Memory -/

theorem keeps_setPot (a0) (a1) (a2) (h0 : Keeps q a0) : Keeps q (Sys2Proof.Machine.setPot a0 a1 a2) :=
  keeps_pots h0 (mapWf_mapSet (keeps_iff.1 h0).2.2.2.1 _ _)

theorem keeps_setBuffer (a0) (a1) (a2) (h0 : Keeps q a0) : Keeps q (Sys2Proof.Machine.setBuffer a0 a1 a2) :=
  keeps_buffers h0 (mapWf_mapSet (keeps_iff.1 h0).2.2.2.2.2.1 _ _)

theorem keeps_setLocal (a0) (a1) (a2) (h0 : Keeps q a0) : Keeps q (Sys2Proof.Machine.setLocal a0 a1 a2) :=
  keeps_locals h0 (mapWf_mapSet (keeps_iff.1 h0).2.2.2.2.1 _ _)

theorem keeps_markSpareBad (a0) (a1) (a2) (h0 : a0.wf = true) : (Sys2Proof.Machine.markSpareBad a0 a1 a2).wf = true := by
  unfold Sys2Proof.Machine.markSpareBad
  repeat'
      first
      | with_reducible assumption | with_reducible refine wf_stack (q := q) ?_ _ | intro _ | split | dsimp only
      | (fail_if_no_progress with_reducible apply keeps_mk) | (fail_if_no_progress with_reducible apply wf_mk)
      | with_reducible refine keeps_of_fst ?_ (by assumption) | with_reducible refine keeps_of_snd ?_ (by assumption)
      | with_reducible refine keeps_of_snd2 ?_ (by assumption) | with_reducible refine keeps_of_some ?_ (by assumption)
      | with_reducible refine keeps_of_next ?_ (by assumption)

theorem keeps_queueRepair (a0) (a1) (h0 : Keeps q a0) : Keeps q (Sys2Proof.Machine.queueRepair a0 a1) := by
  unfold Sys2Proof.Machine.queueRepair
  repeat' first | with_reducible assumption | intro _ | dsimp only | (fail_if_no_progress with_reducible apply keeps_mk)

theorem keeps_rawWrite (a0) (a1) (a2) (a3) (a4) (h0 : a0.wf = true) : (Sys2Proof.Machine.rawWrite a0 a1 a2 a3 a4).wf = true := by
  have h1 := wf_cells h0 (mapWf_mapSet (wf_iff.1 h0).1 (cellKey a1 (storedRow a0 a1 a2) a3) a4)
  unfold Sys2Proof.Machine.rawWrite
  exact wf_ite (fun _ => wf_foldl _ _ h1 (fun _ _ ht => wf_colCells ht (mapWf_mapSet (wf_iff.1 ht).2.1 _ _))) (fun _ => h1)

theorem keeps_markEarly (a0) (a1) (h0 : Keeps q a0) : Keeps q (Sys2Proof.Machine.markEarly a0 a1) := by
  unfold Sys2Proof.Machine.markEarly
  have h := keeps_iff.1 h0
  refine keeps_iff.2 ⟨h.1, mapWf_map (fun x : Machine.Stack => { x with
    heldAccess := x.heldAccess.map (fun h => if a1 h.addr h.len then { h with early := true } else h) }) h.2.1 ?_, ?_, h.2.2.2⟩
  · intro x hx
    have hl : x.heldAccess = [] := by simpa using congrArg Machine.Stack.heldAccess hx
    simp only [hl, List.map_nil] at hx
    cases x; cases hl; exact hx
  · intro e he
    obtain ⟨a, ha, rfl⟩ := List.mem_map.1 he
    exact h.2.2.1 a ha

theorem keeps_copyRowTo (a0) (a1) (a2) (a3) (a4) (h0 : a0.wf = true) (h1 : a1.wf = true) : (Sys2Proof.Machine.copyRowTo a0 a1 a2 a3 a4).wf = true := by
  unfold Sys2Proof.Machine.copyRowTo
  apply wf_foldl _ _ h1
  intro t b ht
  exact wf_cells ht (mapWf_mapSet (wf_iff.1 ht).1 _ _)

theorem keeps_touchCell (a0) (a1) (a2) (h0 : Keeps q a0) : Keeps q (Sys2Proof.Machine.touchCell a0 a1 a2) := by
  unfold Sys2Proof.Machine.touchCell
  repeat'
      first
      | with_reducible assumption | with_reducible apply keeps_updStack | with_reducible refine wf_stack (q := q) ?_ _ | intro _
      | dsimp only | (fail_if_no_progress with_reducible apply keeps_mk) | (fail_if_no_progress with_reducible apply wf_mk)

theorem keeps_recordTest (a0) (a1) (a2) (a3) (a4) (a5) (h0 : a0.wf = true) : (Sys2Proof.Machine.recordTest a0 a1 a2 a3 a4 a5).wf = true := by
  unfold Sys2Proof.Machine.recordTest
  repeat'
      first
      | with_reducible assumption | with_reducible refine wf_stack (q := q) ?_ _ | with_reducible apply keeps_ite_keep
      | with_reducible apply wf_ite | intro _ | split | dsimp only | (fail_if_no_progress with_reducible apply keeps_mk)
      | (fail_if_no_progress with_reducible apply wf_mk)

theorem keeps_clearRow (a0) (a1) (a2) (h0 : a0.wf = true) : (Sys2Proof.Machine.clearRow a0 a1 a2).wf = true :=
  wf_rowValid h0 (mapWf_mapSet (wf_iff.1 h0).2.2 _ _)

theorem keeps_beginMigration (a0) (a1) (a2) (a3) (h0 : Keeps q a0) : Keeps q (Sys2Proof.Machine.beginMigration a0 a1 a2 a3) := by
  unfold Sys2Proof.Machine.beginMigration
  repeat'
      first
      | with_reducible assumption | with_reducible apply keeps_markEarly | with_reducible apply keeps_updStack
      | with_reducible refine wf_stack (q := q) ?_ _ | intro _ | dsimp only | (fail_if_no_progress with_reducible apply keeps_mk)
      | (fail_if_no_progress with_reducible apply wf_mk)

theorem keeps_openRow (a0) (a1) (a2) (h0 : a0.wf = true) : (Sys2Proof.Machine.openRow a0 a1 a2).wf = true := by
  unfold Sys2Proof.Machine.openRow
  refine wf_ite (fun _ => h0) (fun _ => ?_)
  have h1 := wf_foldl (fun y w => Sys2Proof.Machine.rawWrite y a1 a2 w 0) (List.range 64) h0 (fun t b ht => keeps_rawWrite t a1 a2 b 0 ht)
  exact wf_rowValid h1 (mapWf_mapSet (wf_iff.1 h1).2.2 _ _)

theorem keeps_discardRows (a0) (a1) (a2) (h0 : Keeps q a0) : Keeps q (Sys2Proof.Machine.discardRows a0 a1 a2) := by
  induction a2 generalizing a0 a1 with
  | zero => exact h0
  | succ n ih =>
    rw [Sys2Proof.Machine.discardRows]
    apply ih
    split
    · exact keeps_setStack _ h0 (keeps_clearRow _ _ _ (wf_stack h0 _))
    · exact h0

theorem keeps_setImem (a0) (a1) (a2) (a3) (h0 : Keeps q a0) : Keeps q (Sys2Proof.Machine.setImem a0 a1 a2 a3) := by
  unfold Sys2Proof.Machine.setImem
  repeat'
      first
      | with_reducible assumption | with_reducible apply keeps_State_updEngine | intro _ | dsimp only
      | (fail_if_no_progress with_reducible apply keeps_mk)

theorem keeps_storeCell (a0) (a1) (a2) (a3) (a4) (a5) (h0 : Keeps q a0) : Keeps q (Sys2Proof.Machine.storeCell a0 a1 a2 a3 a4 a5) := by
  unfold Sys2Proof.Machine.storeCell
  repeat'
      first
      | with_reducible assumption | with_reducible apply keeps_touchCell | with_reducible apply keeps_openRow
      | with_reducible apply keeps_rawWrite | with_reducible apply keeps_setStack | with_reducible refine wf_stack (q := q) ?_ _ | intro _
      | dsimp only

theorem keeps_discardRange (a0) (a1) (a2) (h0 : Keeps q a0) : Keeps q (Sys2Proof.Machine.discardRange a0 a1 a2).next := by
  unfold Sys2Proof.Machine.discardRange
  repeat'
      first
      | with_reducible assumption | with_reducible apply keeps_discardRows | with_reducible refine wf_stack (q := q) ?_ _
      | with_reducible apply keeps_ite_keep | with_reducible apply wf_ite | intro _ | split | dsimp only
      | (fail_if_no_progress with_reducible apply keeps_mk) | (fail_if_no_progress with_reducible apply wf_mk)

theorem keeps_holeAccess (a0) (a1) (h0 : Keeps q a0) : Keeps q (Sys2Proof.Machine.holeAccess a0 a1) := by
  unfold Sys2Proof.Machine.holeAccess
  repeat' first | with_reducible assumption | with_reducible apply keeps_bump | intro _ | dsimp only

theorem keeps_storeCodePart (a0) (a1) (a2) (h0 : Keeps q a0) : Keeps q (Sys2Proof.Machine.storeCodePart a0 a1 a2).next := by
  unfold Sys2Proof.Machine.storeCodePart
  repeat'
      first
      | with_reducible assumption | with_reducible apply keeps_setImem | with_reducible apply keeps_setPot
      | with_reducible apply keeps_setBuffer | with_reducible apply keeps_setLocal | with_reducible apply keeps_bump
      | with_reducible apply keeps_storeCell | with_reducible apply keeps_ite_keep | intro _ | split | dsimp only
      | (fail_if_no_progress with_reducible apply keeps_mk) | with_reducible refine keeps_of_fst ?_ (by assumption)
      | with_reducible refine keeps_of_snd ?_ (by assumption) | with_reducible refine keeps_of_snd2 ?_ (by assumption)
      | with_reducible refine keeps_of_some ?_ (by assumption) | with_reducible refine keeps_of_next ?_ (by assumption)

theorem keeps_countHoles (a0) (a1) (a2) (h0 : Keeps q a0) : Keeps q (Sys2Proof.Machine.countHoles a0 a1 a2) := by
  unfold Sys2Proof.Machine.countHoles
  repeat'
      first
      | with_reducible assumption | with_reducible apply keeps_holeAccess | with_reducible apply keeps_foldl
      | with_reducible apply keeps_foldl_fst | with_reducible apply keeps_foldl_snd | with_reducible apply keeps_foldl_snd2
      | with_reducible apply keeps_ite_keep | intro _ | split | dsimp only | (fail_if_no_progress with_reducible apply keeps_mk)
      | with_reducible refine keeps_of_fst ?_ (by assumption) | with_reducible refine keeps_of_snd ?_ (by assumption)
      | with_reducible refine keeps_of_snd2 ?_ (by assumption) | with_reducible refine keeps_of_some ?_ (by assumption)
      | with_reducible refine keeps_of_next ?_ (by assumption)

theorem keeps_storedCode (a0) (a1) (h0 : Keeps q a0) : Keeps q (Sys2Proof.Machine.storedCode a0 a1).2.2 := by
  unfold Sys2Proof.Machine.storedCode
  repeat'
      first
      | with_reducible assumption | with_reducible apply keeps_holeAccess | with_reducible refine wf_stack (q := q) ?_ _
      | with_reducible apply keeps_ite_keep | with_reducible apply wf_ite | intro _ | split | dsimp only
      | (fail_if_no_progress with_reducible apply keeps_mk) | (fail_if_no_progress with_reducible apply wf_mk)
      | with_reducible refine keeps_of_fst ?_ (by assumption) | with_reducible refine keeps_of_snd ?_ (by assumption)
      | with_reducible refine keeps_of_snd2 ?_ (by assumption) | with_reducible refine keeps_of_some ?_ (by assumption)
      | with_reducible refine keeps_of_next ?_ (by assumption)

theorem keeps_storeCode (a0) (a1) (a2) (h0 : Keeps q a0) : Keeps q (Sys2Proof.Machine.storeCode a0 a1 a2).next := by
  unfold Sys2Proof.Machine.storeCode
  repeat' first | with_reducible assumption | with_reducible apply keeps_storeCodePart | with_reducible apply keeps_countHoles | intro _ | dsimp only

theorem keeps_recordStack (a0) (a1) (a2) (a3) (a4) (h0 : Keeps q a0) : Keeps q (Sys2Proof.Machine.recordStack a0 a1 a2 a3 a4) := by
  unfold Sys2Proof.Machine.recordStack
  repeat'
      first
      | with_reducible assumption | with_reducible apply keeps_recordFault | with_reducible refine wf_stack (q := q) ?_ _ | intro _
      | dsimp only

theorem keeps_poisonCell (a0) (a1) (a2) (a3) (a4) (a5) (a6) (a7) (h0 : Keeps q a0) : Keeps q (Sys2Proof.Machine.poisonCell a0 a1 a2 a3 a4 a5 a6 a7) := by
  unfold Sys2Proof.Machine.poisonCell
  repeat'
      first
      | with_reducible assumption | with_reducible apply keeps_recordFault | with_reducible apply keeps_rawWrite
      | with_reducible apply keeps_bump | with_reducible apply keeps_setStack | with_reducible refine wf_stack (q := q) ?_ _ | intro _
      | dsimp only

theorem keeps_weightFault (a0) (a1) (a2) (a3) (a4) (a5) (a6) (a7) (a8) (h0 : Keeps q a0) : Keeps q (Sys2Proof.Machine.weightFault a0 a1 a2 a3 a4 a5 a6 a7 a8) := by
  unfold Sys2Proof.Machine.weightFault
  repeat'
      first
      | with_reducible assumption | with_reducible apply keeps_recordEntry | with_reducible apply keeps_State_updSlot
      | with_reducible apply keeps_recordFault | with_reducible apply keeps_rawWrite | with_reducible apply keeps_bump
      | with_reducible apply keeps_setStack | with_reducible refine wf_stack (q := q) ?_ _ | with_reducible apply keeps_ite_keep
      | with_reducible apply wf_ite | intro _ | split | dsimp only | (fail_if_no_progress with_reducible apply keeps_mk)
      | (fail_if_no_progress with_reducible apply wf_mk)

theorem keeps_loadSram (a0) (a1) (a2) (a3) (a4) (a5) (h0 : Keeps q a0) (h2 : ∀ x0 x1, Keeps q x0 → Keeps q (a2 x0 x1)) : Keeps q (Sys2Proof.Machine.loadSram a0 a1 a2 a3 a4 a5).next := by
  unfold Sys2Proof.Machine.loadSram
  repeat'
      first
      | with_reducible assumption | with_reducible apply keeps_recordFault | with_reducible apply h2 | intro _ | split | dsimp only
      | (fail_if_no_progress with_reducible apply keeps_mk) | with_reducible refine keeps_of_fst ?_ (by assumption)
      | with_reducible refine keeps_of_snd ?_ (by assumption) | with_reducible refine keeps_of_snd2 ?_ (by assumption)
      | with_reducible refine keeps_of_some ?_ (by assumption) | with_reducible refine keeps_of_next ?_ (by assumption)

theorem keeps_poisonRow (a0) (a1) (a2) (a3) (a4) (h0 : Keeps q a0) : Keeps q (Sys2Proof.Machine.poisonRow a0 a1 a2 a3 a4) := by
  unfold Sys2Proof.Machine.poisonRow
  repeat'
      first
      | with_reducible assumption | with_reducible apply keeps_poisonCell | with_reducible apply keeps_foldl
      | with_reducible apply keeps_foldl_fst | with_reducible apply keeps_foldl_snd | with_reducible apply keeps_foldl_snd2
      | with_reducible apply wf_foldl | with_reducible refine wf_stack (q := q) ?_ _ | with_reducible apply keeps_ite_keep
      | with_reducible apply wf_ite | intro _ | split | dsimp only

theorem keeps_startRetire (a0) (a1) (a2) (h0 : Keeps q a0) : Keeps q (Sys2Proof.Machine.startRetire a0 a1 a2) := by
  unfold Sys2Proof.Machine.startRetire
  repeat'
      first
      | with_reducible assumption | with_reducible apply keeps_recordStack | with_reducible apply keeps_beginMigration
      | with_reducible apply keeps_dset | with_reducible apply keeps_setStack | with_reducible refine wf_stack (q := q) ?_ _
      | with_reducible apply keeps_ite_keep | with_reducible apply wf_ite | intro _ | split | dsimp only
      | (fail_if_no_progress with_reducible apply keeps_mk) | (fail_if_no_progress with_reducible apply wf_mk)
      | with_reducible refine keeps_of_fst ?_ (by assumption) | with_reducible refine keeps_of_snd ?_ (by assumption)
      | with_reducible refine keeps_of_snd2 ?_ (by assumption) | with_reducible refine keeps_of_some ?_ (by assumption)
      | with_reducible refine keeps_of_next ?_ (by assumption)

theorem keeps_spareColumn (a0) (a1) (a2) (a3) (a4) (a5) (a6) (a7) (a8) (h0 : Keeps q a0) (h1 : a1.wf = true) : Keeps q (Sys2Proof.Machine.spareColumn a0 a1 a2 a3 a4 a5 a6 a7 a8) := by
  have hx := wf_stack h0 a2
  unfold Sys2Proof.Machine.spareColumn
  generalize List.range 2048 = l
  generalize List.range 64 = l
  refine keeps_recordStack _ _ _ _ _ (keeps_queueRepair _ _ (keeps_bump _ _ _ _ (keeps_setStack _ h0 ?_)))
  refine wf_iff.2 ⟨(wf_iff.1 hx).1, ?_, (wf_iff.1 hx).2.2⟩
  exact mapWf_foldl _ _ _ (wf_iff.1 hx).2.1 (fun _ _ hm => mapWf_foldl _ _ _ hm (fun _ _ hm => mapWf_mapSet hm _ _))

theorem keeps_exhaustSpares (a0) (a1) (a2) (a3) (a4) (h0 : Keeps q a0) : Keeps q (Sys2Proof.Machine.exhaustSpares a0 a1 a2 a3 a4) := by
  unfold Sys2Proof.Machine.exhaustSpares
  repeat'
      first
      | with_reducible assumption | with_reducible apply keeps_setSummary | with_reducible apply keeps_poisonRow
      | with_reducible apply keeps_startRetire | with_reducible apply keeps_getD | with_reducible apply keeps_setStack
      | with_reducible refine wf_stack (q := q) ?_ _ | with_reducible apply keeps_ite_keep | with_reducible apply wf_ite | intro _ | split
      | dsimp only | (fail_if_no_progress with_reducible apply keeps_mk) | (fail_if_no_progress with_reducible apply wf_mk)
      | with_reducible refine keeps_of_fst ?_ (by assumption) | with_reducible refine keeps_of_snd ?_ (by assumption)
      | with_reducible refine keeps_of_snd2 ?_ (by assumption) | with_reducible refine keeps_of_some ?_ (by assumption)
      | with_reducible refine keeps_of_next ?_ (by assumption)

theorem keeps_spareRow (a0) (a1) (a2) (a3) (a4) (a5) (a6) (h0 : Keeps q a0) (h1 : a1.wf = true) : Keeps q (Sys2Proof.Machine.spareRow a0 a1 a2 a3 a4 a5 a6) := by
  unfold Sys2Proof.Machine.spareRow
  dsimp only
  split
  · exact keeps_exhaustSpares _ _ _ _ _ h0
  · exact keeps_recordStack _ _ _ _ _ (keeps_queueRepair _ _ (keeps_bump _ _ _ _ (keeps_bump _ _ _ _ (keeps_setStack _ h0
      (keeps_markSpareBad _ _ _ (keeps_copyRowTo _ _ _ _ _ h1 (wf_stack h0 a2)))))))

theorem keeps_hardFault (a0) (a1) (a2) (a3) (a4) (a5) (a6) (h0 : Keeps q a0) : Keeps q (Sys2Proof.Machine.hardFault a0 a1 a2 a3 a4 a5 a6) := by
  have hx := wf_stack h0 a1
  have row := fun s (h : Keeps q s) => keeps_spareRow s _ a1 a2 a3 a5 a6 h hx
  unfold Sys2Proof.Machine.hardFault
  cases a4 with
  | none => exact row _ h0
  | some k =>
    dsimp only
    refine keeps_ite (fun _ => row _ h0) (fun _ => ?_)
    generalize hS : State.setStack a0 a1 _ = s1
    have h1 : Keeps q s1 := hS ▸ keeps_setStack _ h0 hx
    split
    · exact keeps_ite (fun _ => keeps_spareColumn _ _ _ _ _ _ _ _ _ h1 hx) (fun _ => row _ h1)
    · exact row _ h1

theorem keeps_loadCellSeen (a0) (a1) (a2) (a3) (a4) (a5) (a6) (a7) (a8) (h0 : Keeps q a0) : Keeps q (Sys2Proof.Machine.loadCellSeen a0 a1 a2 a3 a4 a5 a6 a7 a8).next := by
  unfold Sys2Proof.Machine.loadCellSeen
  repeat'
      first
      | with_reducible assumption | with_reducible apply keeps_hardFault | with_reducible apply keeps_bump
      | with_reducible apply keeps_touchCell | with_reducible apply keeps_rawWrite | with_reducible apply keeps_weightFault
      | with_reducible apply keeps_recordTest | with_reducible apply keeps_poisonCell | with_reducible apply keeps_updStack
      | with_reducible apply keeps_setStack | with_reducible refine wf_stack (q := q) ?_ _ | with_reducible apply keeps_ite_keep
      | with_reducible apply wf_ite | intro _ | split | dsimp only | (fail_if_no_progress with_reducible apply keeps_mk)
      | (fail_if_no_progress with_reducible apply wf_mk) | with_reducible refine keeps_of_fst ?_ (by assumption)
      | with_reducible refine keeps_of_snd ?_ (by assumption) | with_reducible refine keeps_of_snd2 ?_ (by assumption)
      | with_reducible refine keeps_of_some ?_ (by assumption) | with_reducible refine keeps_of_next ?_ (by assumption)

theorem keeps_loadCell (a0) (a1) (a2) (a3) (a4) (a5) (a6) (a7) (h0 : Keeps q a0) : Keeps q (Sys2Proof.Machine.loadCell a0 a1 a2 a3 a4 a5 a6 a7).next := by
  unfold Sys2Proof.Machine.loadCell
  repeat'
      first
      | with_reducible assumption | with_reducible apply keeps_loadCellSeen | with_reducible refine wf_stack (q := q) ?_ _ | intro _
      | dsimp only

theorem keeps_loadPart (a0) (a1) (a2) (a3) (h0 : Keeps q a0) : Keeps q (Sys2Proof.Machine.loadPart a0 a1 a2 a3).next := by
  unfold Sys2Proof.Machine.loadPart
  repeat'
      first
      | with_reducible assumption | with_reducible apply keeps_setImem | with_reducible apply keeps_setPot
      | with_reducible apply keeps_setBuffer | with_reducible apply keeps_setLocal | with_reducible apply keeps_loadCell
      | with_reducible apply keeps_loadSram | intro _ | split | dsimp only | (fail_if_no_progress with_reducible apply keeps_mk)
      | with_reducible refine keeps_of_fst ?_ (by assumption) | with_reducible refine keeps_of_snd ?_ (by assumption)
      | with_reducible refine keeps_of_snd2 ?_ (by assumption) | with_reducible refine keeps_of_some ?_ (by assumption)
      | with_reducible refine keeps_of_next ?_ (by assumption)

theorem keeps_storePart (a0) (a1) (a2) (a3) (a4) (h0 : Keeps q a0) : Keeps q (Sys2Proof.Machine.storePart a0 a1 a2 a3 a4).next := by
  unfold Sys2Proof.Machine.storePart
  repeat'
      first
      | with_reducible assumption | with_reducible apply keeps_loadPart | with_reducible apply keeps_storeCodePart
      | with_reducible apply keeps_bump | with_reducible refine wf_stack (q := q) ?_ _ | with_reducible apply keeps_ite_keep
      | with_reducible apply wf_ite | intro _ | split | dsimp only | (fail_if_no_progress with_reducible apply keeps_mk)
      | (fail_if_no_progress with_reducible apply wf_mk) | with_reducible refine keeps_of_fst ?_ (by assumption)
      | with_reducible refine keeps_of_snd ?_ (by assumption) | with_reducible refine keeps_of_snd2 ?_ (by assumption)
      | with_reducible refine keeps_of_some ?_ (by assumption) | with_reducible refine keeps_of_next ?_ (by assumption)

theorem keeps_loadWords (a0) (a1) (a2) (a3) (a4) (h0 : Keeps q a0) : Keeps q (Sys2Proof.Machine.loadWords a0 a1 a2 a3 a4).next := by
  revert h0
  fun_induction Sys2Proof.Machine.loadWords a0 a1 a2 a3 a4 <;> intros
  all_goals repeat'
      first
      | with_reducible assumption | with_reducible apply keeps_loadPart | with_reducible apply keeps_ite_keep | intro _ | split
      | dsimp only | (fail_if_no_progress with_reducible apply keeps_mk) | with_reducible refine keeps_of_fst ?_ (by assumption)
      | with_reducible refine keeps_of_snd ?_ (by assumption) | with_reducible refine keeps_of_snd2 ?_ (by assumption)
      | with_reducible refine keeps_of_some ?_ (by assumption) | with_reducible refine keeps_of_next ?_ (by assumption) | apply_assumption

theorem keeps_loadWord (a0) (a1) (a2) (a3) (h0 : Keeps q a0) : Keeps q (Sys2Proof.Machine.loadWord a0 a1 a2 a3).next := by
  unfold Sys2Proof.Machine.loadWord
  repeat' first | with_reducible assumption | with_reducible apply keeps_countHoles | with_reducible apply keeps_loadPart | intro _ | dsimp only

theorem keeps_storeAux (a0) (a1) (a2) (a3) (a4) (a5) (h0 : Keeps q a0) : Keeps q (Sys2Proof.Machine.storeAux a0 a1 a2 a3 a4 a5).next := by
  revert h0
  fun_induction Sys2Proof.Machine.storeAux a0 a1 a2 a3 a4 a5 <;> intros
  all_goals repeat'
      first
      | with_reducible assumption | with_reducible apply keeps_storePart | with_reducible apply keeps_ite_keep | intro _ | split
      | dsimp only | (fail_if_no_progress with_reducible apply keeps_mk) | with_reducible refine keeps_of_fst ?_ (by assumption)
      | with_reducible refine keeps_of_snd ?_ (by assumption) | with_reducible refine keeps_of_snd2 ?_ (by assumption)
      | with_reducible refine keeps_of_some ?_ (by assumption) | with_reducible refine keeps_of_next ?_ (by assumption) | apply_assumption

theorem keeps_loadBytes (a0) (a1) (a2) (a3) (a4) (h0 : Keeps q a0) : Keeps q (Sys2Proof.Machine.loadBytes a0 a1 a2 a3 a4).next := by
  unfold Sys2Proof.Machine.loadBytes
  repeat'
      first
      | with_reducible assumption | with_reducible apply keeps_countHoles | with_reducible apply keeps_loadWords
      | with_reducible apply keeps_ite_keep | intro _ | split | dsimp only | (fail_if_no_progress with_reducible apply keeps_mk)
      | with_reducible refine keeps_of_fst ?_ (by assumption) | with_reducible refine keeps_of_snd ?_ (by assumption)
      | with_reducible refine keeps_of_snd2 ?_ (by assumption) | with_reducible refine keeps_of_some ?_ (by assumption)
      | with_reducible refine keeps_of_next ?_ (by assumption)

theorem keeps_storeBytes (a0) (a1) (a2) (a3) (a4) (h0 : Keeps q a0) : Keeps q (Sys2Proof.Machine.storeBytes a0 a1 a2 a3 a4).next := by
  unfold Sys2Proof.Machine.storeBytes
  repeat'
      first
      | with_reducible assumption | with_reducible apply keeps_countHoles | with_reducible apply keeps_storeAux
      | with_reducible apply keeps_ite_keep | intro _ | split | dsimp only | (fail_if_no_progress with_reducible apply keeps_mk)


/-! ## Operands -/

theorem keeps_applyEdit (a0) (a1) (a2) (a3) (a4) (h0 : Keeps q a0) : Keeps q (Sys2Proof.Machine.applyEdit a0 a1 a2 a3 a4).next := by
  unfold Sys2Proof.Machine.applyEdit
  repeat'
      first
      | with_reducible assumption | with_reducible apply keeps_loadWord | with_reducible apply keeps_storeCode
      | with_reducible apply keeps_bump | with_reducible refine wf_stack (q := q) ?_ _ | with_reducible apply keeps_ite_keep
      | with_reducible apply wf_ite | intro _ | split | dsimp only | (fail_if_no_progress with_reducible apply keeps_mk)
      | (fail_if_no_progress with_reducible apply wf_mk) | with_reducible refine keeps_of_fst ?_ (by assumption)
      | with_reducible refine keeps_of_snd ?_ (by assumption) | with_reducible refine keeps_of_snd2 ?_ (by assumption)
      | with_reducible refine keeps_of_some ?_ (by assumption) | with_reducible refine keeps_of_next ?_ (by assumption)

theorem keeps_readBits (a0) (a1) (a2) (a3) (a4) (h0 : Keeps q a0) : Keeps q (Sys2Proof.Machine.readBits a0 a1 a2 a3 a4).next := by
  unfold Sys2Proof.Machine.readBits
  repeat'
      first
      | with_reducible assumption | with_reducible apply keeps_loadWord | intro _ | dsimp only
      | (fail_if_no_progress with_reducible apply keeps_mk)

theorem keeps_applyEdits (a0) (a1) (a2) (a3) (h0 : Keeps q a0) : Keeps q (Sys2Proof.Machine.applyEdits a0 a1 a2 a3).next := by
  revert h0
  fun_induction Sys2Proof.Machine.applyEdits a0 a1 a2 a3 <;> intros
  all_goals repeat'
      first
      | with_reducible assumption | with_reducible apply keeps_applyEdit | with_reducible apply keeps_ite_keep | intro _ | split
      | dsimp only | (fail_if_no_progress with_reducible apply keeps_mk) | with_reducible refine keeps_of_fst ?_ (by assumption)
      | with_reducible refine keeps_of_snd ?_ (by assumption) | with_reducible refine keeps_of_snd2 ?_ (by assumption)
      | with_reducible refine keeps_of_some ?_ (by assumption) | with_reducible refine keeps_of_next ?_ (by assumption) | apply_assumption

theorem keeps_readRunBits (a0) (a1) (a2) (a3) (a4) (a5) (h0 : Keeps q a0) : Keeps q (Sys2Proof.Machine.readRunBits a0 a1 a2 a3 a4 a5).2 := by
  revert h0
  fun_induction Sys2Proof.Machine.readRunBits a0 a1 a2 a3 a4 a5 <;> intros
  all_goals repeat'
      first
      | with_reducible assumption | with_reducible apply keeps_readBits | intro _ | split | dsimp only
      | with_reducible refine keeps_of_fst ?_ (by assumption) | with_reducible refine keeps_of_snd ?_ (by assumption)
      | with_reducible refine keeps_of_snd2 ?_ (by assumption) | with_reducible refine keeps_of_some ?_ (by assumption)
      | with_reducible refine keeps_of_next ?_ (by assumption) | apply_assumption

theorem keeps_readScale (a0) (a1) (a2) (a3) (a4) (h0 : Keeps q a0) : Keeps q (Sys2Proof.Machine.readScale a0 a1 a2 a3 a4).next := by
  unfold Sys2Proof.Machine.readScale
  repeat'
      first
      | with_reducible assumption | with_reducible apply keeps_readBits | with_reducible apply keeps_ite_keep | intro _ | split
      | dsimp only | (fail_if_no_progress with_reducible apply keeps_mk)

theorem keeps_readElem (a0) (a1) (a2) (a3) (a4) (h0 : Keeps q a0) : Keeps q (Sys2Proof.Machine.readElem a0 a1 a2 a3 a4).next := by
  unfold Sys2Proof.Machine.readElem
  repeat' first | with_reducible assumption | with_reducible apply keeps_readBits | intro _ | dsimp only

theorem keeps_readLine (a0) (a1) (a2) (a3) (a4) (a5) (a6) (a7) (h0 : Keeps q a0) : Keeps q (Sys2Proof.Machine.readLine a0 a1 a2 a3 a4 a5 a6 a7).2 := by
  revert h0
  fun_induction Sys2Proof.Machine.readLine a0 a1 a2 a3 a4 a5 a6 a7 <;> intros
  all_goals repeat'
      first
      | with_reducible assumption | with_reducible apply keeps_readScale | with_reducible apply keeps_readElem | intro _ | split
      | dsimp only | (fail_if_no_progress with_reducible apply keeps_mk) | with_reducible refine keeps_of_fst ?_ (by assumption)
      | with_reducible refine keeps_of_snd ?_ (by assumption) | with_reducible refine keeps_of_snd2 ?_ (by assumption)
      | with_reducible refine keeps_of_some ?_ (by assumption) | with_reducible refine keeps_of_next ?_ (by assumption) | apply_assumption


/-! ## Flags -/

theorem keeps_slotDone (a0) (a1) (a2) (a3) (h0 : Keeps q a0) : Keeps q (Sys2Proof.Machine.slotDone a0 a1 a2 a3) := by
  unfold Sys2Proof.Machine.slotDone
  repeat'
      first
      | with_reducible assumption | with_reducible apply keeps_State_updEngine | with_reducible refine keepsOpt_map (fun _ => ?_)
      | with_reducible apply keeps_ite_keep | intro _ | split | dsimp only | (fail_if_no_progress with_reducible apply keeps_mk)
      | with_reducible refine keeps_of_fst ?_ (by assumption) | with_reducible refine keeps_of_snd ?_ (by assumption)
      | with_reducible refine keeps_of_snd2 ?_ (by assumption) | with_reducible refine keeps_of_some ?_ (by assumption)
      | with_reducible refine keeps_of_next ?_ (by assumption)

theorem keeps_countLadle (a0) (a1) (a2) (a3) (a4) (h0 : Keeps q a0) : Keeps q (Sys2Proof.Machine.countLadle a0 a1 a2 a3 a4) := by
  unfold Sys2Proof.Machine.countLadle
  repeat'
      first
      | with_reducible assumption | with_reducible apply keeps_bump | with_reducible apply keeps_ite_keep | intro _ | split | dsimp only
      | (fail_if_no_progress with_reducible apply keeps_mk) | with_reducible refine keeps_of_fst ?_ (by assumption)
      | with_reducible refine keeps_of_snd ?_ (by assumption) | with_reducible refine keeps_of_snd2 ?_ (by assumption)
      | with_reducible refine keeps_of_some ?_ (by assumption) | with_reducible refine keeps_of_next ?_ (by assumption)

theorem keeps_countGrid (a0) (a1) (a2) (a3) (a4) (h0 : Keeps q a0) : Keeps q (Sys2Proof.Machine.countGrid a0 a1 a2 a3 a4) := by
  unfold Sys2Proof.Machine.countGrid
  repeat'
      first
      | with_reducible assumption | with_reducible apply keeps_bump | with_reducible apply keeps_ite_keep | intro _ | split | dsimp only
      | (fail_if_no_progress with_reducible apply keeps_mk) | with_reducible refine keeps_of_fst ?_ (by assumption)
      | with_reducible refine keeps_of_snd ?_ (by assumption) | with_reducible refine keeps_of_snd2 ?_ (by assumption)
      | with_reducible refine keeps_of_some ?_ (by assumption) | with_reducible refine keeps_of_next ?_ (by assumption)

theorem keeps_recordNumeric (a0) (a1) (a2) (a3) (a4) (a5) (a6) (a7) (h0 : Keeps q a0) : Keeps q (Sys2Proof.Machine.recordNumeric a0 a1 a2 a3 a4 a5 a6 a7) := by
  unfold Sys2Proof.Machine.recordNumeric
  repeat'
      first
      | with_reducible assumption | with_reducible apply keeps_recordFault | intro _ | split | dsimp only
      | (fail_if_no_progress with_reducible apply keeps_mk) | with_reducible refine keeps_of_fst ?_ (by assumption)
      | with_reducible refine keeps_of_snd ?_ (by assumption) | with_reducible refine keeps_of_snd2 ?_ (by assumption)
      | with_reducible refine keeps_of_some ?_ (by assumption) | with_reducible refine keeps_of_next ?_ (by assumption)

theorem keeps_nonfiniteEvent (a0) (a1) (a2) (a3) (a4) (a5) (h0 : Keeps q a0) : Keeps q (Sys2Proof.Machine.nonfiniteEvent a0 a1 a2 a3 a4 a5) := by
  unfold Sys2Proof.Machine.nonfiniteEvent
  repeat'
      first
      | with_reducible assumption | with_reducible apply keeps_recordNumeric | with_reducible apply keeps_ite_keep | intro _ | split
      | dsimp only

theorem keeps_ladleEvents (a0) (a1) (a2) (a3) (a4) (a5) (a6) (h0 : Keeps q a0) : Keeps q (Sys2Proof.Machine.ladleEvents a0 a1 a2 a3 a4 a5 a6) := by
  unfold Sys2Proof.Machine.ladleEvents
  repeat'
      first
      | with_reducible assumption | with_reducible apply keeps_nonfiniteEvent | with_reducible apply keeps_recordNumeric
      | with_reducible apply keeps_ite_keep | intro _ | split | dsimp only


/-! ## GridMath -/

theorem keeps_overBlock (a0) (a1) (a2) (a3) (h2 : ∀ x0 x1 x2, Keeps q x0.next → Keeps q (a2 x0 x1 x2).next) (h3 : Keeps q a3.next) : Keeps q (Sys2Proof.Machine.overBlock a0 a1 a2 a3).next := by
  unfold Sys2Proof.Machine.overBlock
  repeat'
      first
      | with_reducible assumption | with_reducible apply h2 | with_reducible apply keeps_foldl | with_reducible apply keeps_foldl_fst
      | with_reducible apply keeps_foldl_snd | with_reducible apply keeps_foldl_snd2 | with_reducible apply keeps_foldl_SetLoad | intro _
      | dsimp only

theorem keeps_loadElem (a0) (a1) (a2) (a3) (a4) (a5) (a6) (h4 : Keeps q a4.next) : Keeps q (Sys2Proof.Machine.loadElem a0 a1 a2 a3 a4 a5 a6).next := by
  unfold Sys2Proof.Machine.loadElem
  repeat'
      first
      | with_reducible assumption | with_reducible apply keeps_readElem | with_reducible apply keeps_readScale
      | with_reducible apply keeps_ite_keep | intro _ | split | dsimp only | (fail_if_no_progress with_reducible apply keeps_mk)

theorem keeps_loadGroupScale (a0) (a1) (a2) (a3) (a4) (a5) (h3 : Keeps q a3.next) : Keeps q (Sys2Proof.Machine.loadGroupScale a0 a1 a2 a3 a4 a5).next := by
  unfold Sys2Proof.Machine.loadGroupScale
  repeat'
      first
      | with_reducible assumption | with_reducible apply keeps_readElem | intro _ | dsimp only
      | (fail_if_no_progress with_reducible apply keeps_mk)

theorem keeps_loadBasis (a0) (a1) (a2) (a3) (a4) (a5) (h3 : Keeps q a3.next) : Keeps q (Sys2Proof.Machine.loadBasis a0 a1 a2 a3 a4 a5).next := by
  unfold Sys2Proof.Machine.loadBasis
  repeat'
      first
      | with_reducible assumption | with_reducible apply keeps_readElem | intro _ | dsimp only
      | (fail_if_no_progress with_reducible apply keeps_mk)

theorem keeps_loadShare (a0) (a1) (a2) (a3) (a4) (a5) (a6) (h5 : Keeps q a5.next) : Keeps q (Sys2Proof.Machine.loadShare a0 a1 a2 a3 a4 a5 a6).next := by
  unfold Sys2Proof.Machine.loadShare
  repeat'
      first
      | with_reducible assumption | with_reducible apply keeps_overBlock | with_reducible apply keeps_loadElem
      | with_reducible apply keeps_loadGroupScale | with_reducible apply keeps_loadBasis | with_reducible apply keeps_ite_keep | intro _
      | split | dsimp only

theorem keeps_loadSet (a0) (a1) (a2) (a3) (a4) (a5) (h0 : Keeps q a0) : Keeps q (Sys2Proof.Machine.loadSet a0 a1 a2 a3 a4 a5).next := by
  unfold Sys2Proof.Machine.loadSet
  repeat'
      first
      | with_reducible assumption | with_reducible apply keeps_loadShare | with_reducible apply keeps_foldl
      | with_reducible apply keeps_foldl_fst | with_reducible apply keeps_foldl_snd | with_reducible apply keeps_foldl_snd2
      | with_reducible apply keeps_foldl_SetLoad | intro _ | dsimp only | (fail_if_no_progress with_reducible apply keeps_mk)


/-! ## LadleMath -/

theorem keeps_LRun_fail (a0) (a1) (h0 : Keeps q a0.next) : Keeps q (Sys2Proof.Machine.LRun.fail a0 a1).next := by
  unfold Sys2Proof.Machine.LRun.fail
  repeat' first | with_reducible assumption | intro _ | dsimp only | (fail_if_no_progress with_reducible apply keeps_mk)

theorem keeps_LRun_count (a0) (a1) (h0 : Keeps q a0.next) : Keeps q (Sys2Proof.Machine.LRun.count a0 a1).next := by
  unfold Sys2Proof.Machine.LRun.count
  repeat' first | with_reducible assumption | intro _ | dsimp only | (fail_if_no_progress with_reducible apply keeps_mk)

theorem keeps_notePartial (a0) (a1) (a2) (h0 : Keeps q a0.next) : Keeps q (Sys2Proof.Machine.notePartial a0 a1 a2).next := by
  unfold Sys2Proof.Machine.notePartial
  exact keeps_foldl _ _ h0 (fun t b ht => keeps_merges ht (mapWf_mapSet (keeps_iff.1 ht).2.2.2.2.2.2 _ _))

theorem keeps_noteKvPoison (a0) (a1) (h0 : Keeps q a0.next) : Keeps q (Sys2Proof.Machine.noteKvPoison a0 a1).next := by
  unfold Sys2Proof.Machine.noteKvPoison
  repeat'
      first
      | with_reducible assumption | with_reducible apply keeps_ite_keep | intro _ | split | dsimp only
      | (fail_if_no_progress with_reducible apply keeps_mk)

theorem keeps_LRun_mark (a0) (a1) (h0 : Keeps q a0.next) : Keeps q (Sys2Proof.Machine.LRun.mark a0 a1).next := by
  unfold Sys2Proof.Machine.LRun.mark
  repeat'
      first
      | with_reducible assumption | with_reducible apply keeps_LRun_fail | with_reducible apply keeps_ite_keep | intro _ | split
      | dsimp only

theorem keeps_setRegs (a0) (a1) (a2) (h0 : Keeps q a0.next) : Keeps q (Sys2Proof.Machine.setRegs a0 a1 a2).next := by
  unfold Sys2Proof.Machine.setRegs
  repeat'
      first
      | with_reducible assumption | with_reducible apply keeps_State_updLadle | intro _ | dsimp only
      | (fail_if_no_progress with_reducible apply keeps_mk)

theorem keeps_writeCellWord (a0) (a1) (a2) (a3) (a4) (a5) (h0 : Keeps q a0.next) : Keeps q (Sys2Proof.Machine.writeCellWord a0 a1 a2 a3 a4 a5).next := by
  unfold Sys2Proof.Machine.writeCellWord
  repeat'
      first
      | with_reducible assumption | with_reducible apply keeps_LRun_fail | with_reducible apply keeps_bump
      | with_reducible apply keeps_storeCell | with_reducible refine wf_stack (q := q) ?_ _ | with_reducible apply keeps_ite_keep
      | with_reducible apply wf_ite | intro _ | split | dsimp only | (fail_if_no_progress with_reducible apply keeps_mk)
      | (fail_if_no_progress with_reducible apply wf_mk) | with_reducible refine keeps_of_fst ?_ (by assumption)
      | with_reducible refine keeps_of_snd ?_ (by assumption) | with_reducible refine keeps_of_snd2 ?_ (by assumption)
      | with_reducible refine keeps_of_some ?_ (by assumption) | with_reducible refine keeps_of_next ?_ (by assumption)
      | with_reducible refine keeps_of_snd_LRun ?_ (by assumption) | with_reducible refine keeps_of_snd2_LRun ?_ (by assumption)
      | with_reducible refine keeps_of_fst_LRun ?_ (by assumption)

theorem keeps_notePoison (a0) (a1) (a2) (a3) (h0 : Keeps q a0.next) : Keeps q (Sys2Proof.Machine.notePoison a0 a1 a2 a3).next := by
  unfold Sys2Proof.Machine.notePoison
  repeat'
      first
      | with_reducible assumption | with_reducible apply keeps_LRun_fail | with_reducible apply keeps_State_updLadle
      | with_reducible apply keeps_bump | intro _ | dsimp only | (fail_if_no_progress with_reducible apply keeps_mk)

theorem keeps_writeRowWords (a0) (a1) (a2) (a3) (h0 : Keeps q a0.next) : Keeps q (Sys2Proof.Machine.writeRowWords a0 a1 a2 a3).next := by
  unfold Sys2Proof.Machine.writeRowWords
  repeat'
      first
      | with_reducible assumption | with_reducible apply keeps_writeCellWord | with_reducible apply keeps_foldl
      | with_reducible apply keeps_foldl_fst | with_reducible apply keeps_foldl_snd | with_reducible apply keeps_foldl_snd2
      | with_reducible apply keeps_foldl_snd_LRun | with_reducible apply keeps_foldl_snd2_LRun | with_reducible apply keeps_foldl_LRun
      | intro _ | dsimp only

theorem keeps_runRows (a0) (a1) (a2) (a3) (h2 : ∀ x0 x1 x2, Keeps q x0.next → Keeps q (a2 x0 x1 x2).2.next) (h3 : Keeps q a3.next) : Keeps q (Sys2Proof.Machine.runRows a0 a1 a2 a3).next := by
  unfold Sys2Proof.Machine.runRows
  repeat'
      first
      | with_reducible assumption | with_reducible apply keeps_writeRowWords | with_reducible apply h2 | with_reducible apply keeps_foldl
      | with_reducible apply keeps_foldl_fst | with_reducible apply keeps_foldl_snd | with_reducible apply keeps_foldl_snd2
      | with_reducible apply keeps_foldl_snd_LRun | with_reducible apply keeps_foldl_snd2_LRun | with_reducible apply keeps_foldl_LRun
      | intro _ | split | dsimp only | with_reducible refine keeps_of_fst ?_ (by assumption)
      | with_reducible refine keeps_of_snd ?_ (by assumption) | with_reducible refine keeps_of_snd2 ?_ (by assumption)
      | with_reducible refine keeps_of_some ?_ (by assumption) | with_reducible refine keeps_of_next ?_ (by assumption)
      | with_reducible refine keeps_of_snd_LRun ?_ (by assumption) | with_reducible refine keeps_of_snd2_LRun ?_ (by assumption)
      | with_reducible refine keeps_of_fst_LRun ?_ (by assumption)

theorem keeps_mergeCellWord (a0) (a1) (a2) (a3) (a4) (h0 : Keeps q a0.next) : Keeps q (Sys2Proof.Machine.mergeCellWord a0 a1 a2 a3 a4).next := by
  unfold Sys2Proof.Machine.mergeCellWord
  repeat'
      first
      | with_reducible assumption | with_reducible apply keeps_writeCellWord | with_reducible apply keeps_LRun_fail
      | with_reducible apply keeps_loadCell | with_reducible apply keeps_bump | with_reducible refine wf_stack (q := q) ?_ _
      | with_reducible apply keeps_ite_keep | with_reducible apply wf_ite | intro _ | split | dsimp only
      | (fail_if_no_progress with_reducible apply keeps_mk) | (fail_if_no_progress with_reducible apply wf_mk)
      | with_reducible refine keeps_of_fst ?_ (by assumption) | with_reducible refine keeps_of_snd ?_ (by assumption)
      | with_reducible refine keeps_of_snd2 ?_ (by assumption) | with_reducible refine keeps_of_some ?_ (by assumption)
      | with_reducible refine keeps_of_next ?_ (by assumption) | with_reducible refine keeps_of_snd_LRun ?_ (by assumption)
      | with_reducible refine keeps_of_snd2_LRun ?_ (by assumption) | with_reducible refine keeps_of_fst_LRun ?_ (by assumption)

theorem keeps_readCellWord (a0) (a1) (a2) (a3) (h0 : Keeps q a0.next) : Keeps q (Sys2Proof.Machine.readCellWord a0 a1 a2 a3).2.2.next := by
  unfold Sys2Proof.Machine.readCellWord
  repeat'
      first
      | with_reducible assumption | with_reducible apply keeps_LRun_fail | with_reducible apply keeps_loadCell
      | with_reducible apply keeps_bump | with_reducible apply keeps_State_updLadle | with_reducible apply keeps_notePoison
      | with_reducible refine wf_stack (q := q) ?_ _ | with_reducible apply keeps_ite_keep | with_reducible apply wf_ite | intro _ | split
      | dsimp only | (fail_if_no_progress with_reducible apply keeps_mk) | (fail_if_no_progress with_reducible apply wf_mk)
      | with_reducible refine keeps_of_fst ?_ (by assumption) | with_reducible refine keeps_of_snd ?_ (by assumption)
      | with_reducible refine keeps_of_snd2 ?_ (by assumption) | with_reducible refine keeps_of_some ?_ (by assumption)
      | with_reducible refine keeps_of_next ?_ (by assumption) | with_reducible refine keeps_of_snd_LRun ?_ (by assumption)
      | with_reducible refine keeps_of_snd2_LRun ?_ (by assumption) | with_reducible refine keeps_of_fst_LRun ?_ (by assumption)

theorem keeps_applyBank (a0) (a1) (a2) (h0 : Keeps q a0.next) : Keeps q (Sys2Proof.Machine.applyBank a0 a1 a2).next := by
  induction a2 generalizing a0 with
  | nil => exact h0
  | cons e rest ih =>
    rw [Sys2Proof.Machine.applyBank]
    apply ih
    split
    · exact keeps_writeCellWord _ _ _ _ _ _ h0
    · split
      · exact keeps_writeCellWord _ _ _ _ _ _ h0
      · exact keeps_mergeCellWord _ _ _ _ _ h0

theorem keeps_readRowWords (a0) (a1) (a2) (a3) (a4) (h0 : Keeps q a0.next) : Keeps q (Sys2Proof.Machine.readRowWords a0 a1 a2 a3 a4).2.next := by
  revert h0
  fun_induction Sys2Proof.Machine.readRowWords a0 a1 a2 a3 a4 <;> intros
  all_goals repeat'
      first
      | with_reducible assumption | with_reducible apply keeps_readCellWord | intro _ | split | dsimp only
      | with_reducible refine keeps_of_fst ?_ (by assumption) | with_reducible refine keeps_of_snd ?_ (by assumption)
      | with_reducible refine keeps_of_snd2 ?_ (by assumption) | with_reducible refine keeps_of_some ?_ (by assumption)
      | with_reducible refine keeps_of_next ?_ (by assumption) | with_reducible refine keeps_of_snd_LRun ?_ (by assumption)
      | with_reducible refine keeps_of_snd2_LRun ?_ (by assumption) | with_reducible refine keeps_of_fst_LRun ?_ (by assumption)
      | apply_assumption

theorem keeps_readRows (a0) (a1) (a2) (a3) (h0 : Keeps q a0.next) : Keeps q (Sys2Proof.Machine.readRows a0 a1 a2 a3).2.next := by
  revert h0
  fun_induction Sys2Proof.Machine.readRows a0 a1 a2 a3 <;> intros
  all_goals repeat'
      first
      | with_reducible assumption | with_reducible apply keeps_readRowWords | intro _ | split | dsimp only
      | with_reducible refine keeps_of_fst ?_ (by assumption) | with_reducible refine keeps_of_snd ?_ (by assumption)
      | with_reducible refine keeps_of_snd2 ?_ (by assumption) | with_reducible refine keeps_of_some ?_ (by assumption)
      | with_reducible refine keeps_of_next ?_ (by assumption) | with_reducible refine keeps_of_snd_LRun ?_ (by assumption)
      | with_reducible refine keeps_of_snd2_LRun ?_ (by assumption) | with_reducible refine keeps_of_fst_LRun ?_ (by assumption)
      | apply_assumption

theorem keeps_runRowcopy (a0) (a1) (a2) (h2 : Keeps q a2.next) : Keeps q (Sys2Proof.Machine.runRowcopy a0 a1 a2).next := by
  unfold Sys2Proof.Machine.runRowcopy
  repeat'
      first
      | with_reducible assumption | with_reducible apply keeps_runRows | with_reducible apply keeps_setRegs
      | with_reducible apply keeps_readRowWords | with_reducible refine keepsOpt_map (fun _ => ?_) | intro _ | split | dsimp only
      | (fail_if_no_progress with_reducible apply keeps_mk) | with_reducible refine keeps_of_fst ?_ (by assumption)
      | with_reducible refine keeps_of_snd ?_ (by assumption) | with_reducible refine keeps_of_snd2 ?_ (by assumption)
      | with_reducible refine keeps_of_some ?_ (by assumption) | with_reducible refine keeps_of_next ?_ (by assumption)
      | with_reducible refine keeps_of_snd_LRun ?_ (by assumption) | with_reducible refine keeps_of_snd2_LRun ?_ (by assumption)
      | with_reducible refine keeps_of_fst_LRun ?_ (by assumption)

theorem keeps_chainPage (a0) (a1) (a2) (a3) (a4) (a5) (a6) (h6 : Keeps q a6.next) : Keeps q (Sys2Proof.Machine.chainPage a0 a1 a2 a3 a4 a5 a6).2.next := by
  unfold Sys2Proof.Machine.chainPage
  repeat'
      first
      | with_reducible assumption | with_reducible apply keeps_readRowWords | with_reducible refine keepsOpt_map (fun _ => ?_)
      | with_reducible apply keeps_getD | with_reducible apply keeps_foldl | with_reducible apply keeps_foldl_fst
      | with_reducible apply keeps_foldl_snd | with_reducible apply keeps_foldl_snd2 | with_reducible apply keeps_foldl_snd_LRun
      | with_reducible apply keeps_foldl_snd2_LRun | with_reducible apply keeps_foldl_LRun | intro _ | split | dsimp only
      | (fail_if_no_progress with_reducible apply keeps_mk) | with_reducible refine keeps_of_fst ?_ (by assumption)
      | with_reducible refine keeps_of_snd ?_ (by assumption) | with_reducible refine keeps_of_snd2 ?_ (by assumption)
      | with_reducible refine keeps_of_some ?_ (by assumption) | with_reducible refine keeps_of_next ?_ (by assumption)
      | with_reducible refine keeps_of_snd_LRun ?_ (by assumption) | with_reducible refine keeps_of_snd2_LRun ?_ (by assumption)
      | with_reducible refine keeps_of_fst_LRun ?_ (by assumption)

theorem keeps_scorePage (a0) (a1) (a2) (a3) (a4) (a5) (a6) (h6 : Keeps q a6.next) : Keeps q (Sys2Proof.Machine.scorePage a0 a1 a2 a3 a4 a5 a6).2.2.next := by
  unfold Sys2Proof.Machine.scorePage
  repeat'
      first
      | with_reducible assumption | with_reducible apply keeps_readRowWords | with_reducible refine keepsOpt_map (fun _ => ?_)
      | with_reducible apply keeps_getD | with_reducible apply keeps_foldl | with_reducible apply keeps_foldl_fst
      | with_reducible apply keeps_foldl_snd | with_reducible apply keeps_foldl_snd2 | with_reducible apply keeps_foldl_snd_LRun
      | with_reducible apply keeps_foldl_snd2_LRun | with_reducible apply keeps_foldl_LRun | intro _ | split | dsimp only
      | with_reducible refine keeps_of_fst ?_ (by assumption) | with_reducible refine keeps_of_snd ?_ (by assumption)
      | with_reducible refine keeps_of_snd2 ?_ (by assumption) | with_reducible refine keeps_of_some ?_ (by assumption)
      | with_reducible refine keeps_of_next ?_ (by assumption) | with_reducible refine keeps_of_snd_LRun ?_ (by assumption)
      | with_reducible refine keeps_of_snd2_LRun ?_ (by assumption) | with_reducible refine keeps_of_fst_LRun ?_ (by assumption)

theorem keeps_runRowlogic (a0) (a1) (a2) (a3) (h3 : Keeps q a3.next) : Keeps q (Sys2Proof.Machine.runRowlogic a0 a1 a2 a3).next := by
  unfold Sys2Proof.Machine.runRowlogic
  exact keeps_runRows _ _ _ _ (fun r i n hr => keeps_readRowWords _ _ _ 0 64 (keeps_setRegs _ _ _ (keeps_readRowWords r _ _ 0 64 hr))) h3

theorem keeps_readMem (a0) (a1) (a2) (h0 : Keeps q a0.next) : Keeps q (Sys2Proof.Machine.readMem a0 a1 a2).2.2.next := by
  unfold Sys2Proof.Machine.readMem
  repeat'
      first
      | with_reducible assumption | with_reducible apply keeps_loadBytes | with_reducible refine keepsOpt_map (fun _ => ?_) | intro _
      | dsimp only | (fail_if_no_progress with_reducible apply keeps_mk)

theorem keeps_readMarked (a0) (a1) (a2) (h0 : Keeps q a0.next) : Keeps q (Sys2Proof.Machine.readMarked a0 a1 a2).2.next := by
  unfold Sys2Proof.Machine.readMarked
  repeat'
      first
      | with_reducible assumption | with_reducible apply keeps_loadBytes | with_reducible refine keepsOpt_map (fun _ => ?_) | intro _
      | dsimp only | (fail_if_no_progress with_reducible apply keeps_mk)

theorem keeps_gemvBank (a0) (a1) (a2) (a3) (h1 : Keeps q a1.next) : Keeps q (Sys2Proof.Machine.gemvBank a0 a1 a2 a3).2.2.next := by
  unfold Sys2Proof.Machine.gemvBank
  repeat'
      first
      | with_reducible assumption | with_reducible apply keeps_setRegs | with_reducible apply keeps_readRows
      | with_reducible refine keepsOpt_map (fun _ => ?_) | with_reducible apply keeps_getD | with_reducible apply keeps_ite_keep | intro _
      | split | dsimp only | (fail_if_no_progress with_reducible apply keeps_mk) | with_reducible refine keeps_of_fst ?_ (by assumption)
      | with_reducible refine keeps_of_snd ?_ (by assumption) | with_reducible refine keeps_of_snd2 ?_ (by assumption)
      | with_reducible refine keeps_of_some ?_ (by assumption) | with_reducible refine keeps_of_next ?_ (by assumption)
      | with_reducible refine keeps_of_snd_LRun ?_ (by assumption) | with_reducible refine keeps_of_snd2_LRun ?_ (by assumption)
      | with_reducible refine keeps_of_fst_LRun ?_ (by assumption)

theorem keeps_applyMem (a0) (a1) (h0 : Keeps q a0.next) : Keeps q (Sys2Proof.Machine.applyMem a0 a1).next := by
  unfold Sys2Proof.Machine.applyMem
  repeat'
      first
      | with_reducible assumption | with_reducible apply keeps_applyEdits | intro _ | dsimp only
      | (fail_if_no_progress with_reducible apply keeps_mk)

theorem keeps_kvAppend (a0) (a1) (a2) (a3) (a4) (a5) (h3 : Keeps q a3.next) : Keeps q (Sys2Proof.Machine.kvAppend a0 a1 a2 a3 a4 a5).2.next := by
  unfold Sys2Proof.Machine.kvAppend
  repeat'
      first
      | with_reducible assumption | with_reducible apply keeps_applyBank | with_reducible apply keeps_LRun_mark
      | with_reducible apply keeps_LRun_fail | with_reducible apply keeps_LRun_count | with_reducible apply keeps_readMem
      | with_reducible refine wf_stack (q := q) ?_ _ | with_reducible apply keeps_ite_keep | with_reducible apply wf_ite | intro _ | split
      | dsimp only | (fail_if_no_progress with_reducible apply keeps_mk) | (fail_if_no_progress with_reducible apply wf_mk)
      | with_reducible refine keeps_of_fst ?_ (by assumption) | with_reducible refine keeps_of_snd ?_ (by assumption)
      | with_reducible refine keeps_of_snd2 ?_ (by assumption) | with_reducible refine keeps_of_some ?_ (by assumption)
      | with_reducible refine keeps_of_next ?_ (by assumption) | with_reducible refine keeps_of_snd_LRun ?_ (by assumption)
      | with_reducible refine keeps_of_snd2_LRun ?_ (by assumption) | with_reducible refine keeps_of_fst_LRun ?_ (by assumption)

theorem keeps_readVec (a0) (a1) (a2) (a3) (h0 : Keeps q a0.next) : Keeps q (Sys2Proof.Machine.readVec a0 a1 a2 a3).2.next := by
  unfold Sys2Proof.Machine.readVec
  repeat'
      first
      | with_reducible assumption | with_reducible apply keeps_readRunBits | with_reducible refine keepsOpt_map (fun _ => ?_) | intro _
      | split | dsimp only | (fail_if_no_progress with_reducible apply keeps_mk) | with_reducible refine keeps_of_fst ?_ (by assumption)
      | with_reducible refine keeps_of_snd ?_ (by assumption) | with_reducible refine keeps_of_snd2 ?_ (by assumption)
      | with_reducible refine keeps_of_some ?_ (by assumption) | with_reducible refine keeps_of_next ?_ (by assumption)
      | with_reducible refine keeps_of_snd_LRun ?_ (by assumption) | with_reducible refine keeps_of_snd2_LRun ?_ (by assumption)
      | with_reducible refine keeps_of_fst_LRun ?_ (by assumption)

theorem keeps_runRowinit (a0) (a1) (a2) (h2 : Keeps q a2.next) : Keeps q (Sys2Proof.Machine.runRowinit a0 a1 a2).next := by
  unfold Sys2Proof.Machine.runRowinit
  repeat'
      first
      | with_reducible assumption | with_reducible apply keeps_runRows | with_reducible apply keeps_readMem
      | with_reducible apply keeps_LRun_mark | intro _ | split | dsimp only | with_reducible refine keeps_of_fst ?_ (by assumption)
      | with_reducible refine keeps_of_snd ?_ (by assumption) | with_reducible refine keeps_of_snd2 ?_ (by assumption)
      | with_reducible refine keeps_of_some ?_ (by assumption) | with_reducible refine keeps_of_next ?_ (by assumption)
      | with_reducible refine keeps_of_snd_LRun ?_ (by assumption) | with_reducible refine keeps_of_snd2_LRun ?_ (by assumption)
      | with_reducible refine keeps_of_fst_LRun ?_ (by assumption)

theorem keeps_writeRaw (a0) (a1) (a2) (a3) (h0 : Keeps q a0.next) : Keeps q (Sys2Proof.Machine.writeRaw a0 a1 a2 a3).next := by
  unfold Sys2Proof.Machine.writeRaw
  repeat'
      first
      | with_reducible assumption | with_reducible apply keeps_applyMem | with_reducible apply keeps_LRun_mark
      | with_reducible apply keeps_foldl | with_reducible apply keeps_foldl_fst | with_reducible apply keeps_foldl_snd
      | with_reducible apply keeps_foldl_snd2 | with_reducible apply keeps_foldl_snd_LRun | with_reducible apply keeps_foldl_snd2_LRun
      | with_reducible apply keeps_foldl_LRun | intro _ | dsimp only

theorem keeps_writeOut (a0) (a1) (a2) (a3) (a4) (h0 : Keeps q a0.next) : Keeps q (Sys2Proof.Machine.writeOut a0 a1 a2 a3 a4).next := by
  unfold Sys2Proof.Machine.writeOut
  repeat'
      first
      | with_reducible assumption | with_reducible apply keeps_LRun_count | with_reducible apply keeps_applyMem
      | with_reducible apply keeps_LRun_mark | intro _ | dsimp only

theorem keeps_sourceElems (a0) (a1) (a2) (a3) (h2 : Keeps q a2.next) : Keeps q (Sys2Proof.Machine.sourceElems a0 a1 a2 a3).2.next := by
  unfold Sys2Proof.Machine.sourceElems
  repeat'
      first
      | with_reducible assumption | with_reducible apply keeps_setRegs | with_reducible apply keeps_readRows
      | with_reducible apply keeps_readVec | with_reducible refine keepsOpt_map (fun _ => ?_) | with_reducible apply keeps_foldl
      | with_reducible apply keeps_foldl_fst | with_reducible apply keeps_foldl_snd | with_reducible apply keeps_foldl_snd2
      | with_reducible apply keeps_foldl_snd_LRun | with_reducible apply keeps_foldl_snd2_LRun | with_reducible apply keeps_foldl_LRun
      | with_reducible apply keeps_ite_keep | intro _ | split | dsimp only | (fail_if_no_progress with_reducible apply keeps_mk)
      | with_reducible refine keeps_of_fst ?_ (by assumption) | with_reducible refine keeps_of_snd ?_ (by assumption)
      | with_reducible refine keeps_of_snd2 ?_ (by assumption) | with_reducible refine keeps_of_some ?_ (by assumption)
      | with_reducible refine keeps_of_next ?_ (by assumption) | with_reducible refine keeps_of_snd_LRun ?_ (by assumption)
      | with_reducible refine keeps_of_snd2_LRun ?_ (by assumption) | with_reducible refine keeps_of_fst_LRun ?_ (by assumption)

theorem keeps_putElems (a0) (a1) (a2) (a3) (a4) (a5) (h2 : Keeps q a2.next) : Keeps q (Sys2Proof.Machine.putElems a0 a1 a2 a3 a4 a5).next := by
  unfold Sys2Proof.Machine.putElems
  repeat'
      first
      | with_reducible assumption | with_reducible apply keeps_applyBank | with_reducible apply keeps_writeOut
      | with_reducible apply keeps_LRun_count | with_reducible apply keeps_LRun_mark | with_reducible apply keeps_ite_keep | intro _ | split
      | dsimp only

theorem keeps_runNormstat (a0) (a1) (a2) (a3) (h3 : Keeps q a3.next) : Keeps q (Sys2Proof.Machine.runNormstat a0 a1 a2 a3).next := by
  unfold Sys2Proof.Machine.runNormstat
  repeat'
      first
      | with_reducible assumption | with_reducible apply keeps_setRegs | with_reducible apply keeps_notePartial
      | with_reducible apply keeps_sourceElems | with_reducible apply keeps_writeRaw | with_reducible refine keepsOpt_map (fun _ => ?_)
      | with_reducible apply keeps_foldl | with_reducible apply keeps_foldl_fst | with_reducible apply keeps_foldl_snd
      | with_reducible apply keeps_foldl_snd2 | with_reducible apply keeps_foldl_snd_LRun | with_reducible apply keeps_foldl_snd2_LRun
      | with_reducible apply keeps_foldl_LRun | with_reducible apply keeps_ite_keep | intro _ | split | dsimp only
      | (fail_if_no_progress with_reducible apply keeps_mk) | with_reducible refine keeps_of_fst ?_ (by assumption)
      | with_reducible refine keeps_of_snd ?_ (by assumption) | with_reducible refine keeps_of_snd2 ?_ (by assumption)
      | with_reducible refine keeps_of_some ?_ (by assumption) | with_reducible refine keeps_of_next ?_ (by assumption)
      | with_reducible refine keeps_of_snd_LRun ?_ (by assumption) | with_reducible refine keeps_of_snd2_LRun ?_ (by assumption)
      | with_reducible refine keeps_of_fst_LRun ?_ (by assumption)

theorem keeps_runAxpy (a0) (a1) (a2) (a3) (h3 : Keeps q a3.next) : Keeps q (Sys2Proof.Machine.runAxpy a0 a1 a2 a3).next := by
  unfold Sys2Proof.Machine.runAxpy
  repeat'
      first
      | with_reducible assumption | with_reducible apply keeps_writeOut | with_reducible apply keeps_setRegs
      | with_reducible apply keeps_readVec | with_reducible apply keeps_notePartial | with_reducible apply keeps_readRowWords
      | with_reducible apply keeps_noteKvPoison | with_reducible apply keeps_writeRaw | with_reducible refine keepsOpt_map (fun _ => ?_)
      | with_reducible apply keeps_getD | with_reducible apply keeps_foldl | with_reducible apply keeps_foldl_fst
      | with_reducible apply keeps_foldl_snd | with_reducible apply keeps_foldl_snd2 | with_reducible apply keeps_foldl_snd_LRun
      | with_reducible apply keeps_foldl_snd2_LRun | with_reducible apply keeps_foldl_LRun | with_reducible apply keeps_ite_keep | intro _
      | split | dsimp only | (fail_if_no_progress with_reducible apply keeps_mk) | with_reducible refine keeps_of_fst ?_ (by assumption)
      | with_reducible refine keeps_of_snd ?_ (by assumption) | with_reducible refine keeps_of_snd2 ?_ (by assumption)
      | with_reducible refine keeps_of_some ?_ (by assumption) | with_reducible refine keeps_of_next ?_ (by assumption)
      | with_reducible refine keeps_of_snd_LRun ?_ (by assumption) | with_reducible refine keeps_of_snd2_LRun ?_ (by assumption)
      | with_reducible refine keeps_of_fst_LRun ?_ (by assumption)

theorem keeps_writeFinished (a0) (a1) (a2) (a3) (h0 : Keeps q a0.next) : Keeps q (Sys2Proof.Machine.writeFinished a0 a1 a2 a3).next := by
  unfold Sys2Proof.Machine.writeFinished
  repeat'
      first
      | with_reducible assumption | with_reducible apply keeps_writeOut | with_reducible refine keepsOpt_map (fun _ => ?_)
      | with_reducible apply keeps_getD | with_reducible apply keeps_foldl | with_reducible apply keeps_foldl_fst
      | with_reducible apply keeps_foldl_snd | with_reducible apply keeps_foldl_snd2 | with_reducible apply keeps_foldl_snd_LRun
      | with_reducible apply keeps_foldl_snd2_LRun | with_reducible apply keeps_foldl_LRun | with_reducible apply keeps_ite_keep | intro _
      | split | dsimp only

theorem keeps_writeRec (a0) (a1) (a2) (h0 : Keeps q a0.next) : Keeps q (Sys2Proof.Machine.writeRec a0 a1 a2).next := by
  unfold Sys2Proof.Machine.writeRec
  repeat'
      first
      | with_reducible assumption | with_reducible apply keeps_writeRaw | with_reducible refine keepsOpt_map (fun _ => ?_) | intro _
      | dsimp only

theorem keeps_writeScores (a0) (a1) (a2) (a3) (a4) (a5) (a6) (h6 : Keeps q a6.run.next) : Keeps q (Sys2Proof.Machine.writeScores a0 a1 a2 a3 a4 a5 a6).run.next := by
  unfold Sys2Proof.Machine.writeScores
  repeat'
      first
      | with_reducible assumption | with_reducible apply keeps_applyBank | with_reducible apply keeps_writeOut
      | with_reducible apply keeps_LRun_mark | with_reducible apply keeps_LRun_count | with_reducible apply keeps_foldl
      | with_reducible apply keeps_foldl_fst | with_reducible apply keeps_foldl_snd | with_reducible apply keeps_foldl_snd2
      | with_reducible apply keeps_foldl_snd_LRun | with_reducible apply keeps_foldl_snd2_LRun | with_reducible apply keeps_foldl_LRun
      | with_reducible apply keeps_ite_keep | intro _ | split | dsimp only | (fail_if_no_progress with_reducible apply keeps_mk)

theorem keeps_runCutapply (a0) (a1) (a2) (a3) (h3 : Keeps q a3.next) : Keeps q (Sys2Proof.Machine.runCutapply a0 a1 a2 a3).next := by
  unfold Sys2Proof.Machine.runCutapply
  repeat'
      first
      | with_reducible assumption | with_reducible apply keeps_writeOut | with_reducible apply keeps_setRegs
      | with_reducible apply keeps_readVec | with_reducible apply keeps_notePartial | with_reducible apply keeps_readRowWords
      | with_reducible apply keeps_readMem | with_reducible refine keepsOpt_map (fun _ => ?_) | with_reducible apply keeps_getD
      | with_reducible apply keeps_foldl | with_reducible apply keeps_foldl_fst | with_reducible apply keeps_foldl_snd
      | with_reducible apply keeps_foldl_snd2 | with_reducible apply keeps_foldl_snd_LRun | with_reducible apply keeps_foldl_snd2_LRun
      | with_reducible apply keeps_foldl_LRun | intro _ | split | dsimp only | (fail_if_no_progress with_reducible apply keeps_mk)
      | with_reducible refine keeps_of_fst ?_ (by assumption) | with_reducible refine keeps_of_snd ?_ (by assumption)
      | with_reducible refine keeps_of_snd2 ?_ (by assumption) | with_reducible refine keeps_of_some ?_ (by assumption)
      | with_reducible refine keeps_of_next ?_ (by assumption) | with_reducible refine keeps_of_snd_LRun ?_ (by assumption)
      | with_reducible refine keeps_of_snd2_LRun ?_ (by assumption) | with_reducible refine keeps_of_fst_LRun ?_ (by assumption)

theorem keeps_finishOutputs (a0) (a1) (a2) (a3) (a4) (a5) (a6) (a7) (h0 : Keeps q a0.next) : Keeps q (Sys2Proof.Machine.finishOutputs a0 a1 a2 a3 a4 a5 a6 a7).next := by
  unfold Sys2Proof.Machine.finishOutputs
  repeat'
      first
      | with_reducible assumption | with_reducible apply keeps_readVec | with_reducible apply keeps_writeOut
      | with_reducible apply keeps_writeRaw | with_reducible refine keepsOpt_map (fun _ => ?_) | with_reducible apply keeps_getD
      | with_reducible apply keeps_ite_keep | intro _ | split | dsimp only | with_reducible refine keeps_of_fst ?_ (by assumption)
      | with_reducible refine keeps_of_snd ?_ (by assumption) | with_reducible refine keeps_of_snd2 ?_ (by assumption)
      | with_reducible refine keeps_of_some ?_ (by assumption) | with_reducible refine keeps_of_next ?_ (by assumption)
      | with_reducible refine keeps_of_snd_LRun ?_ (by assumption) | with_reducible refine keeps_of_snd2_LRun ?_ (by assumption)
      | with_reducible refine keeps_of_fst_LRun ?_ (by assumption)

theorem keeps_runElements (a0) (a1) (a2) (a3) (a4) (h3 : ∀ x0 x1 x2 x3, Keeps q x0.next → Keeps q (a3 x0 x1 x2 x3).2.next) (h4 : Keeps q a4.next) : Keeps q (Sys2Proof.Machine.runElements a0 a1 a2 a3 a4).next := by
  unfold Sys2Proof.Machine.runElements
  repeat'
      first
      | with_reducible assumption | with_reducible apply keeps_putElems | with_reducible apply keeps_sourceElems
      | with_reducible apply h3 | with_reducible apply keeps_foldl | with_reducible apply keeps_foldl_fst
      | with_reducible apply keeps_foldl_snd | with_reducible apply keeps_foldl_snd2 | with_reducible apply keeps_foldl_snd_LRun
      | with_reducible apply keeps_foldl_snd2_LRun | with_reducible apply keeps_foldl_LRun | intro _ | split | dsimp only
      | with_reducible refine keeps_of_fst ?_ (by assumption) | with_reducible refine keeps_of_snd ?_ (by assumption)
      | with_reducible refine keeps_of_snd2 ?_ (by assumption) | with_reducible refine keeps_of_some ?_ (by assumption)
      | with_reducible refine keeps_of_next ?_ (by assumption) | with_reducible refine keeps_of_snd_LRun ?_ (by assumption)
      | with_reducible refine keeps_of_snd2_LRun ?_ (by assumption) | with_reducible refine keeps_of_fst_LRun ?_ (by assumption)

theorem keeps_scoreEntry (a0) (a1) (a2) (a3) (a4) (a5) (h5 : Keeps q a5.run.next) : Keeps q (Sys2Proof.Machine.scoreEntry a0 a1 a2 a3 a4 a5).run.next := by
  unfold Sys2Proof.Machine.scoreEntry
  repeat'
      first
      | with_reducible assumption | with_reducible apply keeps_setRegs | with_reducible apply keeps_writeScores
      | with_reducible apply keeps_LRun_fail | with_reducible apply keeps_notePartial | with_reducible apply keeps_chainPage
      | with_reducible apply keeps_noteKvPoison | with_reducible apply keeps_scorePage | with_reducible refine keepsOpt_map (fun _ => ?_)
      | with_reducible refine wf_stack (q := q) ?_ _ | with_reducible apply keeps_ite_keep | with_reducible apply wf_ite | intro _ | split
      | dsimp only | (fail_if_no_progress with_reducible apply keeps_mk) | (fail_if_no_progress with_reducible apply wf_mk)
      | with_reducible refine keeps_of_fst ?_ (by assumption) | with_reducible refine keeps_of_snd ?_ (by assumption)
      | with_reducible refine keeps_of_snd2 ?_ (by assumption) | with_reducible refine keeps_of_some ?_ (by assumption)
      | with_reducible refine keeps_of_next ?_ (by assumption)

theorem keeps_runMerge (a0) (a1) (a2) (a3) (a4) (h4 : Keeps q a4.next) : Keeps q (Sys2Proof.Machine.runMerge a0 a1 a2 a3 a4).next := by
  unfold Sys2Proof.Machine.runMerge
  repeat'
      first
      | with_reducible assumption | with_reducible apply keeps_finishOutputs | with_reducible apply keeps_readVec
      | with_reducible apply keeps_writeFinished | with_reducible refine keepsOpt_map (fun _ => ?_) | with_reducible apply keeps_foldl
      | with_reducible apply keeps_foldl_fst | with_reducible apply keeps_foldl_snd | with_reducible apply keeps_foldl_snd2
      | with_reducible apply keeps_foldl_snd_LRun | with_reducible apply keeps_foldl_snd2_LRun | with_reducible apply keeps_foldl_LRun
      | with_reducible apply keeps_ite_keep | intro _ | split | dsimp only | (fail_if_no_progress with_reducible apply keeps_mk)
      | with_reducible refine keeps_of_fst ?_ (by assumption) | with_reducible refine keeps_of_snd ?_ (by assumption)
      | with_reducible refine keeps_of_snd2 ?_ (by assumption) | with_reducible refine keeps_of_some ?_ (by assumption)
      | with_reducible refine keeps_of_next ?_ (by assumption) | with_reducible refine keeps_of_snd_LRun ?_ (by assumption)
      | with_reducible refine keeps_of_snd2_LRun ?_ (by assumption) | with_reducible refine keeps_of_fst_LRun ?_ (by assumption)

theorem keeps_runGemv4 (a0) (a1) (a2) (a3) (a4) (h4 : Keeps q a4.next) : Keeps q (Sys2Proof.Machine.runGemv4 a0 a1 a2 a3 a4).next := by
  unfold Sys2Proof.Machine.runGemv4
  repeat'
      first
      | with_reducible assumption | with_reducible apply keeps_finishOutputs | with_reducible apply keeps_gemvBank
      | with_reducible apply keeps_readVec | with_reducible apply keeps_notePartial | with_reducible refine keepsOpt_map (fun _ => ?_)
      | with_reducible apply keeps_getD | with_reducible apply keeps_foldl | with_reducible apply keeps_foldl_fst
      | with_reducible apply keeps_foldl_snd | with_reducible apply keeps_foldl_snd2 | with_reducible apply keeps_foldl_snd_LRun
      | with_reducible apply keeps_foldl_snd2_LRun | with_reducible apply keeps_foldl_LRun | intro _ | split | dsimp only
      | (fail_if_no_progress with_reducible apply keeps_mk) | with_reducible refine keeps_of_fst ?_ (by assumption)
      | with_reducible refine keeps_of_snd ?_ (by assumption) | with_reducible refine keeps_of_snd2 ?_ (by assumption)
      | with_reducible refine keeps_of_some ?_ (by assumption) | with_reducible refine keeps_of_next ?_ (by assumption)
      | with_reducible refine keeps_of_snd_LRun ?_ (by assumption) | with_reducible refine keeps_of_snd2_LRun ?_ (by assumption)
      | with_reducible refine keeps_of_fst_LRun ?_ (by assumption)

theorem keeps_runAppendable (a0) (a1) (a2) (a3) (a4) (a5) (h4 : ∀ x0 x1 x2 x3, Keeps q x0.next → Keeps q (a4 x0 x1 x2 x3).2.next) (h5 : Keeps q a5.next) : Keeps q (Sys2Proof.Machine.runAppendable a0 a1 a2 a3 a4 a5).2.next := by
  unfold Sys2Proof.Machine.runAppendable
  repeat'
      first
      | with_reducible assumption | with_reducible apply keeps_kvAppend | with_reducible apply keeps_runElements
      | with_reducible apply keeps_sourceElems | with_reducible apply h4 | with_reducible apply keeps_getD
      | with_reducible apply keeps_foldl | with_reducible apply keeps_foldl_fst | with_reducible apply keeps_foldl_snd
      | with_reducible apply keeps_foldl_snd2 | with_reducible apply keeps_foldl_snd_LRun | with_reducible apply keeps_foldl_snd2_LRun
      | with_reducible apply keeps_foldl_LRun | with_reducible apply keeps_ite_keep | intro _ | split | dsimp only
      | with_reducible refine keeps_of_fst ?_ (by assumption) | with_reducible refine keeps_of_snd ?_ (by assumption)
      | with_reducible refine keeps_of_snd2 ?_ (by assumption) | with_reducible refine keeps_of_some ?_ (by assumption)
      | with_reducible refine keeps_of_next ?_ (by assumption) | with_reducible refine keeps_of_snd_LRun ?_ (by assumption)
      | with_reducible refine keeps_of_snd2_LRun ?_ (by assumption) | with_reducible refine keeps_of_fst_LRun ?_ (by assumption)

theorem keeps_runEwise (a0) (a1) (a2) (a3) (a4) (h4 : Keeps q a4.next) : Keeps q (Sys2Proof.Machine.runEwise a0 a1 a2 a3 a4).next := by
  unfold Sys2Proof.Machine.runEwise
  repeat'
      first
      | with_reducible assumption | with_reducible apply keeps_readVec | with_reducible apply keeps_runElements
      | with_reducible refine keepsOpt_map (fun _ => ?_) | with_reducible apply keeps_getD | with_reducible apply keeps_ite_keep | intro _
      | split | dsimp only | with_reducible refine keeps_of_fst ?_ (by assumption) | with_reducible refine keeps_of_snd ?_ (by assumption)
      | with_reducible refine keeps_of_snd2 ?_ (by assumption) | with_reducible refine keeps_of_some ?_ (by assumption)
      | with_reducible refine keeps_of_next ?_ (by assumption) | with_reducible refine keeps_of_snd_LRun ?_ (by assumption)
      | with_reducible refine keeps_of_snd2_LRun ?_ (by assumption) | with_reducible refine keeps_of_fst_LRun ?_ (by assumption)

theorem keeps_scorePages (a0) (a1) (a2) (a3) (h3 : Keeps q a3.next) : Keeps q (Sys2Proof.Machine.scorePages a0 a1 a2 a3).run.next := by
  unfold Sys2Proof.Machine.scorePages
  refine foldl_keeps (p := fun s : ScoreRun => Keeps q s.run.next) _ _ h3 (fun s k h => ?_)
  have h1 : ∀ a n, Keeps q (readMem s.run a n).2.2.next := fun a n => keeps_readMem s.run a n h
  dsimp only
  split
  · exact h1 _ _
  · exact keeps_scoreEntry _ _ _ _ _ _ (h1 _ _)

theorem keeps_runNormapply (a0) (a1) (a2) (a3) (a4) (h4 : Keeps q a4.next) : Keeps q (Sys2Proof.Machine.runNormapply a0 a1 a2 a3 a4).next := by
  unfold Sys2Proof.Machine.runNormapply
  repeat'
      first
      | with_reducible assumption | with_reducible apply keeps_readVec | with_reducible apply keeps_readMem
      | with_reducible apply keeps_runElements | with_reducible refine keepsOpt_map (fun _ => ?_) | with_reducible apply keeps_getD
      | with_reducible apply keeps_ite_keep | intro _ | split | dsimp only | with_reducible refine keeps_of_fst ?_ (by assumption)
      | with_reducible refine keeps_of_snd ?_ (by assumption) | with_reducible refine keeps_of_snd2 ?_ (by assumption)
      | with_reducible refine keeps_of_some ?_ (by assumption) | with_reducible refine keeps_of_next ?_ (by assumption)
      | with_reducible refine keeps_of_snd_LRun ?_ (by assumption) | with_reducible refine keeps_of_snd2_LRun ?_ (by assumption)
      | with_reducible refine keeps_of_fst_LRun ?_ (by assumption)

theorem keeps_runQuant (a0) (a1) (a2) (a3) (a4) (a5) (h5 : Keeps q a5.next) : Keeps q (Sys2Proof.Machine.runQuant a0 a1 a2 a3 a4 a5).2.next := by
  unfold Sys2Proof.Machine.runQuant
  repeat'
      first
      | with_reducible assumption | with_reducible apply keeps_readMem | with_reducible apply keeps_runAppendable
      | with_reducible refine keepsOpt_map (fun _ => ?_) | intro _ | split | dsimp only
      | with_reducible refine keeps_of_fst ?_ (by assumption) | with_reducible refine keeps_of_snd ?_ (by assumption)
      | with_reducible refine keeps_of_snd2 ?_ (by assumption) | with_reducible refine keeps_of_some ?_ (by assumption)
      | with_reducible refine keeps_of_next ?_ (by assumption) | with_reducible refine keeps_of_snd_LRun ?_ (by assumption)
      | with_reducible refine keeps_of_snd2_LRun ?_ (by assumption) | with_reducible refine keeps_of_fst_LRun ?_ (by assumption)

theorem keeps_runScore (a0) (a1) (a2) (a3) (a4) (a5) (h5 : Keeps q a5.next) : Keeps q (Sys2Proof.Machine.runScore a0 a1 a2 a3 a4 a5).2.next := by
  unfold Sys2Proof.Machine.runScore
  repeat'
      first
      | with_reducible assumption | with_reducible apply keeps_LRun_mark | with_reducible apply keeps_readVec
      | with_reducible apply keeps_readMarked | with_reducible apply keeps_writeFinished | with_reducible apply keeps_LRun_fail
      | with_reducible apply keeps_writeRec | with_reducible apply keeps_scorePages | with_reducible apply keeps_readMem
      | with_reducible apply keeps_getD | with_reducible apply keeps_ite_keep | intro _ | split | dsimp only
      | (fail_if_no_progress with_reducible apply keeps_mk)

theorem keeps_runRope (a0) (a1) (a2) (a3) (a4) (a5) (h5 : Keeps q a5.next) : Keeps q (Sys2Proof.Machine.runRope a0 a1 a2 a3 a4 a5).2.next := by
  unfold Sys2Proof.Machine.runRope
  repeat'
      first
      | with_reducible assumption | with_reducible apply keeps_readMem | with_reducible apply keeps_runAppendable
      | with_reducible refine keepsOpt_map (fun _ => ?_) | intro _ | split | dsimp only
      | with_reducible refine keeps_of_fst ?_ (by assumption) | with_reducible refine keeps_of_snd ?_ (by assumption)
      | with_reducible refine keeps_of_snd2 ?_ (by assumption) | with_reducible refine keeps_of_some ?_ (by assumption)
      | with_reducible refine keeps_of_next ?_ (by assumption) | with_reducible refine keeps_of_snd_LRun ?_ (by assumption)
      | with_reducible refine keeps_of_snd2_LRun ?_ (by assumption) | with_reducible refine keeps_of_fst_LRun ?_ (by assumption)


/-! ## Stacks -/

theorem keeps_refreshOnce (a0) (a1) (h0 : a0.wf = true) : (Sys2Proof.Machine.refreshOnce a0 a1).wf = true := by
  unfold Sys2Proof.Machine.refreshOnce
  repeat'
      first
      | with_reducible assumption | with_reducible refine wf_stack (q := q) ?_ _ | intro _ | dsimp only
      | (fail_if_no_progress with_reducible apply keeps_mk) | (fail_if_no_progress with_reducible apply wf_mk)

theorem keeps_whenFree (a0) (a1) (a2) (h0 : Keeps q a0) (h2 : KeepsRes q a2) : KeepsRes q (Sys2Proof.Machine.whenFree a0 a1 a2) := by
  unfold Sys2Proof.Machine.whenFree
  repeat'
      first
      | with_reducible assumption | with_reducible apply keepsRes_next | with_reducible exact keepsRes_fault _
      | with_reducible exact keepsRes_refused _ | with_reducible apply keepsRes_ite | with_reducible apply keeps_ite_keep | intro _ | split
      | dsimp only

theorem keeps_refreshTimes (a0) (a1) (a2) (h0 : a0.wf = true) : (Sys2Proof.Machine.refreshTimes a0 a1 a2).wf = true := by
  revert h0
  fun_induction Sys2Proof.Machine.refreshTimes a0 a1 a2 <;> intros
  all_goals repeat'
      first
      | with_reducible assumption | with_reducible apply keeps_refreshOnce | with_reducible refine wf_stack (q := q) ?_ _ | intro _
      | split | dsimp only | with_reducible refine keeps_of_fst ?_ (by assumption) | with_reducible refine keeps_of_snd ?_ (by assumption)
      | with_reducible refine keeps_of_snd2 ?_ (by assumption) | with_reducible refine keeps_of_some ?_ (by assumption)
      | with_reducible refine keeps_of_next ?_ (by assumption) | apply_assumption

theorem keeps_clearSegment (a0) (a1) (h0 : a0.wf = true) : (Sys2Proof.Machine.clearSegment a0 a1).wf = true := by
  unfold Sys2Proof.Machine.clearSegment
  generalize List.range (2048 * 256) = l
  apply wf_foldl _ _ h0
  intro t b ht
  exact keeps_clearRow t _ _ ht

theorem keeps_upsetCells (a0) (a1) (a2) (h0 : Keeps q a0) : Keeps q (Sys2Proof.Machine.upsetCells a0 a1 a2) := by
  induction a2 generalizing a0 with
  | nil => exact h0
  | cons e rest ih =>
    rw [Sys2Proof.Machine.upsetCells]
    apply ih
    split
    · exact keeps_setStack _ h0 (keeps_rawWrite _ _ _ _ _ (wf_stack h0 _))
    · exact keeps_setPot _ _ _ h0
    · exact keeps_setLocal _ _ _ h0
    · exact keeps_setBuffer _ _ _ h0
    · exact keeps_setImem _ _ _ _ h0
    · exact h0

theorem keeps_execRefresh (a0) (a1) (a2) (h2 : Keeps q a2) : KeepsRes q (Sys2Proof.Machine.execRefresh a0 a1 a2) := by
  unfold Sys2Proof.Machine.execRefresh
  repeat'
      first
      | with_reducible assumption | with_reducible apply keeps_refreshOnce | with_reducible apply keeps_bump
      | with_reducible apply keepsRes_next | with_reducible exact keepsRes_fault _ | with_reducible exact keepsRes_refused _
      | with_reducible apply keeps_setStack | with_reducible refine wf_stack (q := q) ?_ _ | with_reducible apply keepsRes_ite
      | with_reducible apply keeps_ite_keep | with_reducible apply wf_ite | intro _ | split | dsimp only
      | (fail_if_no_progress with_reducible apply keeps_mk) | (fail_if_no_progress with_reducible apply wf_mk)

theorem keeps_execStkRprDataWrite (a0) (a1) (a2) (h2 : Keeps q a2) : KeepsRes q (Sys2Proof.Machine.execStkRprDataWrite a0 a1 a2) := by
  unfold Sys2Proof.Machine.execStkRprDataWrite
  repeat'
      first
      | with_reducible assumption | with_reducible apply keeps_cmdState | with_reducible apply keeps_dset
      | with_reducible apply keepsRes_next | with_reducible exact keepsRes_fault _ | with_reducible exact keepsRes_refused _
      | with_reducible apply keeps_setStack | with_reducible refine wf_stack (q := q) ?_ _ | with_reducible apply keepsRes_ite
      | with_reducible apply keeps_ite_keep | with_reducible apply wf_ite | intro _ | split | dsimp only
      | (fail_if_no_progress with_reducible apply keeps_mk) | (fail_if_no_progress with_reducible apply wf_mk)

theorem keeps_readRun (a0) (a1) (a2) (a3) (a4) (a5) (a6) (h0 : Keeps q a0) : Keeps q (Sys2Proof.Machine.readRun a0 a1 a2 a3 a4 a5 a6).next := by
  induction a6 generalizing a0 a5 with
  | zero => exact h0
  | succ n ih =>
    rw [Sys2Proof.Machine.readRun]
    apply ih
    split
    · exact keeps_loadCellSeen _ _ _ _ _ _ _ _ _ h0
    · exact keeps_loadPart _ _ _ _ h0

theorem keeps_addWords (a0) (a1) (a2) (a3) (a4) (a5) (a6) (a7) (h0 : Keeps q a0) : Keeps q (Sys2Proof.Machine.addWords a0 a1 a2 a3 a4 a5 a6 a7).next := by
  revert h0
  fun_induction Sys2Proof.Machine.addWords a0 a1 a2 a3 a4 a5 a6 a7 <;> intros
  all_goals repeat'
      first
      | with_reducible assumption | with_reducible apply keeps_loadWord | with_reducible apply keeps_storeCode
      | with_reducible apply keeps_bump | with_reducible apply keeps_ite_keep | intro _ | split | dsimp only
      | (fail_if_no_progress with_reducible apply keeps_mk) | with_reducible refine keeps_of_fst ?_ (by assumption)
      | with_reducible refine keeps_of_snd ?_ (by assumption) | with_reducible refine keeps_of_snd2 ?_ (by assumption)
      | with_reducible refine keeps_of_some ?_ (by assumption) | with_reducible refine keeps_of_next ?_ (by assumption) | apply_assumption

theorem keeps_addRun (a0) (a1) (a2) (a3) (a4) (a5) (h0 : Keeps q a0) : Keeps q (Sys2Proof.Machine.addRun a0 a1 a2 a3 a4 a5).next := by
  unfold Sys2Proof.Machine.addRun
  repeat'
      first
      | with_reducible assumption | with_reducible apply keeps_addWords | with_reducible apply keeps_holeAccess
      | with_reducible apply keeps_bump | with_reducible apply keeps_ite_keep | intro _ | split | dsimp only
      | (fail_if_no_progress with_reducible apply keeps_mk) | with_reducible refine keeps_of_fst ?_ (by assumption)
      | with_reducible refine keeps_of_snd ?_ (by assumption) | with_reducible refine keeps_of_snd2 ?_ (by assumption)
      | with_reducible refine keeps_of_some ?_ (by assumption) | with_reducible refine keeps_of_next ?_ (by assumption)

theorem keeps_performAccess (a0) (a1) (a2) (h0 : Keeps q a0) : Keeps q (Sys2Proof.Machine.performAccess a0 a1 a2) := by
  unfold Sys2Proof.Machine.performAccess
  repeat'
      first
      | with_reducible assumption | with_reducible apply keeps_readRun | with_reducible apply keeps_countHoles
      | with_reducible apply keeps_storeBytes | with_reducible apply keeps_emit | with_reducible apply keeps_addRun
      | with_reducible apply keeps_ite_keep | intro _ | split | dsimp only | (fail_if_no_progress with_reducible apply keeps_mk)
      | with_reducible refine keeps_of_fst ?_ (by assumption) | with_reducible refine keeps_of_snd ?_ (by assumption)
      | with_reducible refine keeps_of_snd2 ?_ (by assumption) | with_reducible refine keeps_of_some ?_ (by assumption)
      | with_reducible refine keeps_of_next ?_ (by assumption)

theorem keeps_arriveAccess (a0) (a1) (a2) (h0 : Keeps q a0) : Keeps q (Sys2Proof.Machine.arriveAccess a0 a1 a2) := by
  unfold Sys2Proof.Machine.arriveAccess
  repeat'
      first
      | with_reducible assumption | with_reducible apply keeps_performAccess | with_reducible apply keeps_updStack
      | with_reducible refine wf_stack (q := q) ?_ _ | with_reducible apply keeps_ite_keep | with_reducible apply wf_ite | intro _ | split
      | dsimp only | (fail_if_no_progress with_reducible apply keeps_mk) | (fail_if_no_progress with_reducible apply wf_mk)

theorem keeps_releaseHeldAux (a0) (a1) (h0 : Keeps q a0) : Keeps q (Sys2Proof.Machine.releaseHeldAux a0 a1) := by
  revert h0
  fun_induction Sys2Proof.Machine.releaseHeldAux a0 a1 <;> intros
  all_goals repeat'
      first
      | with_reducible assumption | with_reducible apply keeps_arriveAccess | intro _ | split | dsimp only
      | with_reducible refine keeps_of_fst ?_ (by assumption) | with_reducible refine keeps_of_snd ?_ (by assumption)
      | with_reducible refine keeps_of_snd2 ?_ (by assumption) | with_reducible refine keeps_of_some ?_ (by assumption)
      | with_reducible refine keeps_of_next ?_ (by assumption) | apply_assumption

theorem keeps_execStackAccess (a0) (a1) (a2) (a3) (a4) (a5) (a6) (a7) (h7 : Keeps q a7) : KeepsRes q (Sys2Proof.Machine.execStackAccess a0 a1 a2 a3 a4 a5 a6 a7) := by
  unfold Sys2Proof.Machine.execStackAccess
  repeat'
      first
      | with_reducible assumption | with_reducible apply keeps_arriveAccess | with_reducible apply keeps_upsetCells
      | with_reducible apply keepsRes_next | with_reducible exact keepsRes_fault _ | with_reducible exact keepsRes_refused _
      | with_reducible apply keepsOpt_some | with_reducible exact keepsOpt_none | with_reducible apply keeps_foldl
      | with_reducible apply keeps_foldl_fst | with_reducible apply keeps_foldl_snd | with_reducible apply keeps_foldl_snd2
      | with_reducible apply wf_foldl | with_reducible refine wf_stack (q := q) ?_ _ | intro _ | split | dsimp only
      | (fail_if_no_progress with_reducible apply keeps_mk) | (fail_if_no_progress with_reducible apply wf_mk)
      | with_reducible refine keeps_of_fst ?_ (by assumption) | with_reducible refine keeps_of_snd ?_ (by assumption)
      | with_reducible refine keeps_of_snd2 ?_ (by assumption) | with_reducible refine keeps_of_some ?_ (by assumption)
      | with_reducible refine keeps_of_next ?_ (by assumption)

theorem keeps_execAddBurstRequest (a0) (a1) (a2) (a3) (a4) (a5) (a6) (h6 : Keeps q a6) : KeepsRes q (Sys2Proof.Machine.execAddBurstRequest a0 a1 a2 a3 a4 a5 a6) := by
  unfold Sys2Proof.Machine.execAddBurstRequest
  repeat'
      first
      | with_reducible assumption | with_reducible apply keeps_arriveAccess | with_reducible apply keepsRes_next
      | with_reducible exact keepsRes_fault _ | with_reducible exact keepsRes_refused _ | with_reducible apply keepsOpt_some
      | with_reducible exact keepsOpt_none | intro _ | dsimp only | (fail_if_no_progress with_reducible apply keeps_mk)

theorem keeps_releaseHeld (a0) (a1) (h0 : Keeps q a0) : Keeps q (Sys2Proof.Machine.releaseHeld a0 a1) := by
  unfold Sys2Proof.Machine.releaseHeld
  repeat'
      first
      | with_reducible assumption | with_reducible apply keeps_releaseHeldAux | with_reducible apply keeps_updStack
      | with_reducible refine wf_stack (q := q) ?_ _ | intro _ | dsimp only | (fail_if_no_progress with_reducible apply keeps_mk)
      | (fail_if_no_progress with_reducible apply wf_mk)

theorem keeps_applyNewModes (a0) (a1) (h0 : Keeps q a0) : Keeps q (Sys2Proof.Machine.applyNewModes a0 a1) := by
  unfold Sys2Proof.Machine.applyNewModes
  repeat'
      first
      | with_reducible assumption | with_reducible apply keeps_releaseHeld | with_reducible apply keeps_clearSegment
      | with_reducible apply keeps_dset | with_reducible apply keeps_foldl | with_reducible apply keeps_foldl_fst
      | with_reducible apply keeps_foldl_snd | with_reducible apply keeps_foldl_snd2 | with_reducible apply wf_foldl
      | with_reducible apply keeps_setStack | with_reducible refine wf_stack (q := q) ?_ _ | intro _ | split | dsimp only
      | (fail_if_no_progress with_reducible apply keeps_mk) | (fail_if_no_progress with_reducible apply wf_mk)
      | with_reducible refine keeps_of_fst ?_ (by assumption) | with_reducible refine keeps_of_snd ?_ (by assumption)
      | with_reducible refine keeps_of_snd2 ?_ (by assumption) | with_reducible refine keeps_of_some ?_ (by assumption)
      | with_reducible refine keeps_of_next ?_ (by assumption)


/-! ## Ladles -/

theorem keeps_fillPlaces (a0) (a1) (h0 : Keeps q a0) : Keeps q (Sys2Proof.Machine.fillPlaces a0 a1) := by
  unfold Sys2Proof.Machine.fillPlaces
  repeat'
      first
      | with_reducible assumption | with_reducible apply keeps_State_updLadle | intro _ | split | dsimp only
      | (fail_if_no_progress with_reducible apply keeps_mk) | with_reducible refine keeps_of_fst ?_ (by assumption)
      | with_reducible refine keeps_of_snd ?_ (by assumption) | with_reducible refine keeps_of_snd2 ?_ (by assumption)
      | with_reducible refine keeps_of_some ?_ (by assumption) | with_reducible refine keeps_of_next ?_ (by assumption)

theorem keeps_performLadle (a0) (a1) (a2) (a3) (a4) (h0 : Keeps q a0) (h4 : ∀ x0 x1 x2, Keeps q x2.next → Keeps q (a4 x0 x1 x2).2.next) : Keeps q (Sys2Proof.Machine.performLadle a0 a1 a2 a3 a4) := by
  unfold Sys2Proof.Machine.performLadle
  repeat'
      first
      | with_reducible assumption | with_reducible apply keeps_fillPlaces | with_reducible apply keeps_State_updLadle
      | with_reducible apply h4 | with_reducible refine keepsOpt_map (fun _ => ?_) | with_reducible apply keeps_ite_keep | intro _ | split
      | dsimp only | (fail_if_no_progress with_reducible apply keeps_mk) | with_reducible refine keeps_of_fst ?_ (by assumption)
      | with_reducible refine keeps_of_snd ?_ (by assumption) | with_reducible refine keeps_of_snd2 ?_ (by assumption)
      | with_reducible refine keeps_of_some ?_ (by assumption) | with_reducible refine keeps_of_next ?_ (by assumption)
      | with_reducible refine keeps_of_snd_LRun ?_ (by assumption) | with_reducible refine keeps_of_snd2_LRun ?_ (by assumption)
      | with_reducible refine keeps_of_fst_LRun ?_ (by assumption)

theorem keeps_execLadleResume (a0) (a1) (a2) (h2 : Keeps q a2) : KeepsRes q (Sys2Proof.Machine.execLadleResume a0 a1 a2) := by
  unfold Sys2Proof.Machine.execLadleResume
  repeat'
      first
      | with_reducible assumption | with_reducible apply keeps_fillPlaces | with_reducible apply keeps_State_updLadle
      | with_reducible apply keepsRes_next | with_reducible exact keepsRes_fault _ | with_reducible exact keepsRes_refused _
      | with_reducible apply keepsOpt_some | with_reducible exact keepsOpt_none | with_reducible apply keepsRes_ite
      | with_reducible apply keeps_ite_keep | intro _ | split | dsimp only | (fail_if_no_progress with_reducible apply keeps_mk)
      | with_reducible refine keeps_of_fst ?_ (by assumption) | with_reducible refine keeps_of_snd ?_ (by assumption)
      | with_reducible refine keeps_of_snd2 ?_ (by assumption) | with_reducible refine keeps_of_some ?_ (by assumption)
      | with_reducible refine keeps_of_next ?_ (by assumption)

theorem keeps_countSuspend (a0) (a1) (h0 : Keeps q a0) : Keeps q (Sys2Proof.Machine.countSuspend a0 a1) := by
  unfold Sys2Proof.Machine.countSuspend
  repeat'
      first
      | with_reducible assumption | with_reducible apply keeps_bump | with_reducible apply keeps_State_updLadle | intro _ | dsimp only
      | (fail_if_no_progress with_reducible apply keeps_mk)

theorem keeps_execVectorSliceArrive (a0) (a1) (a2) (a3) (h3 : Keeps q a3) : KeepsRes q (Sys2Proof.Machine.execVectorSliceArrive a0 a1 a2 a3) := by
  unfold Sys2Proof.Machine.execVectorSliceArrive
  repeat'
      first
      | with_reducible assumption | with_reducible apply keeps_fillPlaces | with_reducible apply keeps_State_updLadle
      | with_reducible apply keeps_bump | with_reducible apply keepsRes_next | with_reducible exact keepsRes_fault _
      | with_reducible exact keepsRes_refused _ | with_reducible apply keepsOpt_some | with_reducible exact keepsOpt_none
      | with_reducible apply keepsRes_ite | with_reducible apply keeps_ite_keep | intro _ | split | dsimp only
      | (fail_if_no_progress with_reducible apply keeps_mk) | with_reducible refine keeps_of_fst ?_ (by assumption)
      | with_reducible refine keeps_of_snd ?_ (by assumption) | with_reducible refine keeps_of_snd2 ?_ (by assumption)
      | with_reducible refine keeps_of_some ?_ (by assumption) | with_reducible refine keeps_of_next ?_ (by assumption)

theorem keeps_ladleOperation (a0) (a1) (a2) (a3) (a4) (h3 : ∀ x0 x1 x2, Keeps q x2.next → Keeps q (a3 x0 x1 x2).2.next) (h4 : Keeps q a4) : KeepsRes q (Sys2Proof.Machine.ladleOperation a0 a1 a2 a3 a4) := by
  unfold Sys2Proof.Machine.ladleOperation
  repeat'
      first
      | with_reducible assumption | with_reducible apply keeps_performLadle | with_reducible apply h3
      | with_reducible apply keepsRes_next | with_reducible exact keepsRes_fault _ | with_reducible exact keepsRes_refused _
      | with_reducible apply keepsOpt_some | with_reducible exact keepsOpt_none | with_reducible apply keepsRes_ite
      | with_reducible apply keeps_ite_keep | intro _ | split | dsimp only | (fail_if_no_progress with_reducible apply keeps_mk)
      | with_reducible refine keeps_of_fst ?_ (by assumption) | with_reducible refine keeps_of_snd ?_ (by assumption)
      | with_reducible refine keeps_of_snd2 ?_ (by assumption) | with_reducible refine keeps_of_some ?_ (by assumption)
      | with_reducible refine keeps_of_next ?_ (by assumption) | with_reducible refine keeps_of_snd_LRun ?_ (by assumption)
      | with_reducible refine keeps_of_snd2_LRun ?_ (by assumption) | with_reducible refine keeps_of_fst_LRun ?_ (by assumption)

theorem keeps_countSlot (a0) (a1) (a2) (h0 : Keeps q a0) : Keeps q (Sys2Proof.Machine.countSlot a0 a1 a2) := by
  unfold Sys2Proof.Machine.countSlot
  repeat'
      first
      | with_reducible assumption | with_reducible apply keeps_ladleEvents | with_reducible apply keeps_countLadle | intro _ | split
      | dsimp only | (fail_if_no_progress with_reducible apply keeps_mk) | with_reducible refine keeps_of_fst ?_ (by assumption)
      | with_reducible refine keeps_of_snd ?_ (by assumption) | with_reducible refine keeps_of_snd2 ?_ (by assumption)
      | with_reducible refine keeps_of_some ?_ (by assumption) | with_reducible refine keeps_of_next ?_ (by assumption)

theorem keeps_execRowlogic (a0) (a1) (a2) (h2 : Keeps q a2) : KeepsRes q (Sys2Proof.Machine.execRowlogic a0 a1 a2) := by
  unfold Sys2Proof.Machine.execRowlogic
  repeat'
      first
      | with_reducible assumption | with_reducible apply keeps_runRowlogic | with_reducible apply keeps_ladleOperation
      | with_reducible apply keepsRes_next | with_reducible exact keepsRes_fault _ | with_reducible exact keepsRes_refused _ | intro _
      | dsimp only

theorem keeps_execRowcopy (a0) (a1) (a2) (h2 : Keeps q a2) : KeepsRes q (Sys2Proof.Machine.execRowcopy a0 a1 a2) := by
  unfold Sys2Proof.Machine.execRowcopy
  repeat'
      first
      | with_reducible assumption | with_reducible apply keeps_runRowcopy | with_reducible apply keeps_ladleOperation
      | with_reducible apply keepsRes_next | with_reducible exact keepsRes_fault _ | with_reducible exact keepsRes_refused _ | intro _
      | dsimp only

theorem keeps_execRowinit (a0) (a1) (a2) (h2 : Keeps q a2) : KeepsRes q (Sys2Proof.Machine.execRowinit a0 a1 a2) := by
  unfold Sys2Proof.Machine.execRowinit
  repeat'
      first
      | with_reducible assumption | with_reducible apply keeps_ladleOperation | with_reducible apply keeps_runRowinit
      | with_reducible apply keepsRes_next | with_reducible exact keepsRes_fault _ | with_reducible exact keepsRes_refused _ | intro _
      | dsimp only

theorem keeps_execAxpy (a0) (a1) (a2) (h2 : Keeps q a2) : KeepsRes q (Sys2Proof.Machine.execAxpy a0 a1 a2) := by
  unfold Sys2Proof.Machine.execAxpy
  repeat'
      first
      | with_reducible assumption | with_reducible apply keeps_ladleOperation | with_reducible apply keeps_runAxpy
      | with_reducible apply keepsRes_next | with_reducible exact keepsRes_fault _ | with_reducible exact keepsRes_refused _ | intro _
      | dsimp only

theorem keeps_runCutapplySlot (a0) (a1) (a2) (h2 : Keeps q a2) : KeepsRes q (Sys2Proof.Machine.runCutapplySlot a0 a1 a2) := by
  unfold Sys2Proof.Machine.runCutapplySlot
  repeat'
      first
      | with_reducible assumption | with_reducible apply keeps_runCutapply | with_reducible apply keeps_ladleOperation
      | with_reducible apply keepsRes_next | with_reducible exact keepsRes_fault _ | with_reducible exact keepsRes_refused _ | intro _
      | dsimp only

theorem keeps_execNormstat (a0) (a1) (a2) (h2 : Keeps q a2) : KeepsRes q (Sys2Proof.Machine.execNormstat a0 a1 a2) := by
  unfold Sys2Proof.Machine.execNormstat
  repeat'
      first
      | with_reducible assumption | with_reducible apply keeps_runNormstat | with_reducible apply keeps_ladleOperation
      | with_reducible apply keepsRes_next | with_reducible exact keepsRes_fault _ | with_reducible exact keepsRes_refused _ | intro _
      | dsimp only

theorem keeps_serveBank (a0) (a1) (a2) (h0 : Keeps q a0) : Keeps q (Sys2Proof.Machine.serveBank a0 a1 a2).1 := by
  unfold Sys2Proof.Machine.serveBank
  repeat'
      first
      | with_reducible assumption | with_reducible apply keeps_releaseHeld | with_reducible apply keeps_refreshTimes
      | with_reducible apply keeps_setStack | with_reducible refine wf_stack (q := q) ?_ _ | with_reducible apply keeps_ite_keep
      | with_reducible apply wf_ite | intro _ | split | dsimp only | (fail_if_no_progress with_reducible apply keeps_mk)
      | (fail_if_no_progress with_reducible apply wf_mk)

theorem keeps_execMerge (a0) (a1) (a2) (h2 : Keeps q a2) : KeepsRes q (Sys2Proof.Machine.execMerge a0 a1 a2) := by
  unfold Sys2Proof.Machine.execMerge
  repeat'
      first
      | with_reducible assumption | with_reducible apply keeps_runMerge | with_reducible apply keeps_ladleOperation
      | with_reducible apply keepsRes_next | with_reducible exact keepsRes_fault _ | with_reducible exact keepsRes_refused _ | intro _
      | dsimp only

theorem keeps_execGemv4 (a0) (a1) (a2) (h2 : Keeps q a2) : KeepsRes q (Sys2Proof.Machine.execGemv4 a0 a1 a2) := by
  unfold Sys2Proof.Machine.execGemv4
  repeat'
      first
      | with_reducible assumption | with_reducible apply keeps_runGemv4 | with_reducible apply keeps_ladleOperation
      | with_reducible apply keepsRes_next | with_reducible exact keepsRes_fault _ | with_reducible exact keepsRes_refused _ | intro _
      | dsimp only

theorem keeps_execEwise (a0) (a1) (a2) (h2 : Keeps q a2) : KeepsRes q (Sys2Proof.Machine.execEwise a0 a1 a2) := by
  unfold Sys2Proof.Machine.execEwise
  repeat'
      first
      | with_reducible assumption | with_reducible apply keeps_ladleOperation | with_reducible apply keeps_runEwise
      | with_reducible apply keepsRes_next | with_reducible exact keepsRes_fault _ | with_reducible exact keepsRes_refused _ | intro _
      | dsimp only

theorem keeps_execNormapply (a0) (a1) (a2) (h2 : Keeps q a2) : KeepsRes q (Sys2Proof.Machine.execNormapply a0 a1 a2) := by
  unfold Sys2Proof.Machine.execNormapply
  repeat'
      first
      | with_reducible assumption | with_reducible apply keeps_runNormapply | with_reducible apply keeps_ladleOperation
      | with_reducible apply keepsRes_next | with_reducible exact keepsRes_fault _ | with_reducible exact keepsRes_refused _ | intro _
      | dsimp only

theorem keeps_execQuant (a0) (a1) (a2) (h2 : Keeps q a2) : KeepsRes q (Sys2Proof.Machine.execQuant a0 a1 a2) := by
  unfold Sys2Proof.Machine.execQuant
  repeat'
      first
      | with_reducible assumption | with_reducible apply keeps_runQuant | with_reducible apply keeps_ladleOperation
      | with_reducible apply keepsRes_next | with_reducible exact keepsRes_fault _ | with_reducible exact keepsRes_refused _ | intro _
      | dsimp only

theorem keeps_execScore (a0) (a1) (a2) (h2 : Keeps q a2) : KeepsRes q (Sys2Proof.Machine.execScore a0 a1 a2) := by
  unfold Sys2Proof.Machine.execScore
  repeat'
      first
      | with_reducible assumption | with_reducible apply keeps_runScore | with_reducible apply keeps_ladleOperation
      | with_reducible apply keepsRes_next | with_reducible exact keepsRes_fault _ | with_reducible exact keepsRes_refused _ | intro _
      | dsimp only

theorem keeps_execRope (a0) (a1) (a2) (h2 : Keeps q a2) : KeepsRes q (Sys2Proof.Machine.execRope a0 a1 a2) := by
  unfold Sys2Proof.Machine.execRope
  repeat'
      first
      | with_reducible assumption | with_reducible apply keeps_ladleOperation | with_reducible apply keeps_runRope
      | with_reducible apply keepsRes_next | with_reducible exact keepsRes_fault _ | with_reducible exact keepsRes_refused _ | intro _
      | dsimp only

theorem keeps_execRowBoundary (a0) (a1) (a2) (h2 : Keeps q a2) : KeepsRes q (Sys2Proof.Machine.execRowBoundary a0 a1 a2) := by
  unfold Sys2Proof.Machine.execRowBoundary
  refine keepsRes_ite (fun _ => ?_) (fun _ => h2)
  split
  · exact h2
  · rename_i x _
    dsimp only
    generalize hs : serveBank _ a0 a1 = v
    have h3 : Keeps q v.1 := hs ▸ keeps_serveBank _ _ _ (keeps_touchCell _ _ _ (keeps_bump _ _ _ _ (keeps_State_updLadle _ _ _ h2)))
    have hu : ∀ f, Keeps q (v.1.updLadle a0 f) := fun f => keeps_State_updLadle _ _ _ h3
    refine keepsRes_ite (fun _ => keeps_fillPlaces _ _ (hu _)) (fun _ => keepsRes_ite (fun _ => ?_) (fun _ => keepsRes_ite (fun _ => ?_) (fun _ => hu _)))
    · exact keeps_fillPlaces _ _ (keeps_State_updLadle _ _ _ (keeps_countSuspend _ _ (hu _)))
    · exact keeps_countSuspend _ _ h3


/-! ## Grid -/

theorem keeps_State_updGrid (a0) (a1) (h0 : Keeps q a0) : Keeps q (Sys2Proof.Machine.State.updGrid a0 a1) := by
  unfold Sys2Proof.Machine.State.updGrid
  repeat' first | with_reducible assumption | intro _ | dsimp only | (fail_if_no_progress with_reducible apply keeps_mk)

theorem keeps_scaleFill (a0) (a1) (a2) (a3) (a4) (a5) (h5 : Keeps q a5) : Keeps q (Sys2Proof.Machine.scaleFill a0 a1 a2 a3 a4 a5) := by
  unfold Sys2Proof.Machine.scaleFill
  repeat'
      first
      | with_reducible assumption | with_reducible apply keeps_State_updGrid | with_reducible apply keeps_ite_keep | intro _ | split
      | dsimp only | (fail_if_no_progress with_reducible apply keeps_mk) | with_reducible refine keeps_of_fst ?_ (by assumption)
      | with_reducible refine keeps_of_snd ?_ (by assumption) | with_reducible refine keeps_of_snd2 ?_ (by assumption)
      | with_reducible refine keeps_of_some ?_ (by assumption) | with_reducible refine keeps_of_next ?_ (by assumption)

theorem keeps_execGridOpStart (a0) (a1) (h1 : Keeps q a1) : KeepsRes q (Sys2Proof.Machine.execGridOpStart a0 a1) := by
  unfold Sys2Proof.Machine.execGridOpStart
  repeat'
      first
      | with_reducible assumption | with_reducible apply keeps_State_updGrid | with_reducible apply keepsRes_next
      | with_reducible exact keepsRes_fault _ | with_reducible exact keepsRes_refused _ | intro _ | dsimp only

theorem keeps_execSetout (a0) (a1) (h1 : Keeps q a1) : KeepsRes q (Sys2Proof.Machine.execSetout a0 a1) := by
  unfold Sys2Proof.Machine.execSetout
  repeat'
      first
      | with_reducible assumption | with_reducible apply keeps_scaleFill | with_reducible apply keepsRes_next
      | with_reducible exact keepsRes_fault _ | with_reducible exact keepsRes_refused _ | intro _ | dsimp only
      | (fail_if_no_progress with_reducible apply keeps_mk)

theorem keeps_execFillrow (a0) (a1) (a2) (a3) (h3 : Keeps q a3) : KeepsRes q (Sys2Proof.Machine.execFillrow a0 a1 a2 a3) := by
  unfold Sys2Proof.Machine.execFillrow
  repeat'
      first
      | with_reducible assumption | with_reducible apply keeps_scaleFill | with_reducible apply keepsRes_next
      | with_reducible exact keepsRes_fault _ | with_reducible exact keepsRes_refused _ | intro _ | dsimp only

theorem keeps_execFillcol (a0) (a1) (a2) (a3) (h3 : Keeps q a3) : KeepsRes q (Sys2Proof.Machine.execFillcol a0 a1 a2 a3) := by
  unfold Sys2Proof.Machine.execFillcol
  repeat'
      first
      | with_reducible assumption | with_reducible apply keeps_scaleFill | with_reducible apply keepsRes_next
      | with_reducible exact keepsRes_fault _ | with_reducible exact keepsRes_refused _ | intro _ | dsimp only

theorem keeps_execWloadComplete (a0) (h0 : Keeps q a0) : KeepsRes q (Sys2Proof.Machine.execWloadComplete a0) := by
  unfold Sys2Proof.Machine.execWloadComplete
  repeat'
      first
      | with_reducible assumption | with_reducible apply keeps_State_updGrid | with_reducible apply keeps_slotDone
      | with_reducible apply keepsRes_next | with_reducible exact keepsRes_fault _ | with_reducible exact keepsRes_refused _
      | with_reducible apply keepsRes_ite | with_reducible apply keeps_ite_keep | intro _ | split | dsimp only
      | (fail_if_no_progress with_reducible apply keeps_mk) | with_reducible refine keeps_of_fst ?_ (by assumption)
      | with_reducible refine keeps_of_snd ?_ (by assumption) | with_reducible refine keeps_of_snd2 ?_ (by assumption)
      | with_reducible refine keeps_of_some ?_ (by assumption) | with_reducible refine keeps_of_next ?_ (by assumption)

theorem keeps_finishHead (a0) (a1) (h0 : Keeps q a0) : Keeps q (Sys2Proof.Machine.finishHead a0 a1) := by
  unfold Sys2Proof.Machine.finishHead
  repeat'
      first
      | with_reducible assumption | with_reducible apply keeps_State_updGrid | with_reducible apply keeps_slotDone | intro _ | dsimp only
      | (fail_if_no_progress with_reducible apply keeps_mk)

theorem keeps_execScaleSlotComplete (a0) (h0 : Keeps q a0) : KeepsRes q (Sys2Proof.Machine.execScaleSlotComplete a0) := by
  unfold Sys2Proof.Machine.execScaleSlotComplete
  repeat'
      first
      | with_reducible assumption | with_reducible apply keeps_State_updGrid | with_reducible apply keeps_slotDone
      | with_reducible apply keepsRes_next | with_reducible exact keepsRes_fault _ | with_reducible exact keepsRes_refused _
      | with_reducible apply keepsRes_ite | with_reducible apply keeps_ite_keep | intro _ | split | dsimp only
      | (fail_if_no_progress with_reducible apply keeps_mk) | with_reducible refine keeps_of_fst ?_ (by assumption)
      | with_reducible refine keeps_of_snd ?_ (by assumption) | with_reducible refine keeps_of_snd2 ?_ (by assumption)
      | with_reducible refine keeps_of_some ?_ (by assumption) | with_reducible refine keeps_of_next ?_ (by assumption)

theorem keeps_execMmComplete (a0) (h0 : Keeps q a0) : KeepsRes q (Sys2Proof.Machine.execMmComplete a0) := by
  unfold Sys2Proof.Machine.execMmComplete
  repeat'
      first
      | with_reducible assumption | with_reducible apply keeps_countGrid | with_reducible apply keeps_recordNumeric
      | with_reducible apply keeps_State_updGrid | with_reducible apply keeps_nonfiniteEvent | with_reducible apply keeps_finishHead
      | with_reducible apply keeps_bump | with_reducible apply keepsRes_next | with_reducible exact keepsRes_fault _
      | with_reducible exact keepsRes_refused _ | with_reducible refine keepsOpt_map (fun _ => ?_) | with_reducible apply keepsRes_ite
      | with_reducible apply keeps_ite_keep | intro _ | split | dsimp only | (fail_if_no_progress with_reducible apply keeps_mk)
      | with_reducible refine keeps_of_fst ?_ (by assumption) | with_reducible refine keeps_of_snd ?_ (by assumption)
      | with_reducible refine keeps_of_snd2 ?_ (by assumption) | with_reducible refine keeps_of_some ?_ (by assumption)
      | with_reducible refine keeps_of_next ?_ (by assumption)

theorem keeps_readBytes (a0) (a1) (a2) (a3) (a4) (h0 : Keeps q a0) : Keeps q (Sys2Proof.Machine.readBytes a0 a1 a2 a3 a4).2.2 := by
  unfold Sys2Proof.Machine.readBytes
  repeat'
      first
      | with_reducible assumption | with_reducible apply keeps_loadBytes | with_reducible refine keepsOpt_map (fun _ => ?_) | intro _
      | dsimp only

theorem keeps_scaleLoad (a0) (a1) (a2) (a3) (a4) (a5) (a6) (h6 : Keeps q a6) : Keeps q (Sys2Proof.Machine.scaleLoad a0 a1 a2 a3 a4 a5 a6) := by
  unfold Sys2Proof.Machine.scaleLoad
  repeat'
      first
      | with_reducible assumption | with_reducible apply keeps_State_updGrid | with_reducible apply keeps_readRunBits
      | with_reducible apply keeps_ite_keep | intro _ | split | dsimp only | (fail_if_no_progress with_reducible apply keeps_mk)
      | with_reducible refine keeps_of_fst ?_ (by assumption) | with_reducible refine keeps_of_snd ?_ (by assumption)
      | with_reducible refine keeps_of_snd2 ?_ (by assumption) | with_reducible refine keeps_of_some ?_ (by assumption)
      | with_reducible refine keeps_of_next ?_ (by assumption)

theorem keeps_writeRecord (a0) (a1) (a2) (a3) (a4) (h0 : Keeps q a0) : Keeps q (Sys2Proof.Machine.writeRecord a0 a1 a2 a3 a4) := by
  unfold Sys2Proof.Machine.writeRecord
  repeat'
      first
      | with_reducible assumption | with_reducible apply keeps_storeBytes | with_reducible apply keeps_storeCode
      | with_reducible apply keeps_ite_keep | intro _ | split | dsimp only

theorem keeps_streamVector (a0) (a1) (a2) (a3) (a4) (a5) (a6) (h0 : Keeps q a0) : Keeps q (Sys2Proof.Machine.streamVector a0 a1 a2 a3 a4 a5 a6).2 := by
  unfold Sys2Proof.Machine.streamVector
  repeat'
      first
      | with_reducible assumption | with_reducible apply keeps_readLine | with_reducible refine keepsOpt_map (fun _ => ?_)
      | with_reducible apply keeps_ite_keep | intro _ | split | dsimp only | (fail_if_no_progress with_reducible apply keeps_mk)
      | with_reducible refine keeps_of_fst ?_ (by assumption) | with_reducible refine keeps_of_snd ?_ (by assumption)
      | with_reducible refine keeps_of_snd2 ?_ (by assumption) | with_reducible refine keeps_of_some ?_ (by assumption)
      | with_reducible refine keeps_of_next ?_ (by assumption)

theorem keeps_execLoadrow (a0) (a1) (a2) (a3) (a4) (h4 : Keeps q a4) : KeepsRes q (Sys2Proof.Machine.execLoadrow a0 a1 a2 a3 a4) := by
  unfold Sys2Proof.Machine.execLoadrow
  repeat'
      first
      | with_reducible assumption | with_reducible apply keeps_scaleLoad | with_reducible apply keepsRes_next
      | with_reducible exact keepsRes_fault _ | with_reducible exact keepsRes_refused _ | intro _ | dsimp only

theorem keeps_rimInputs (a0) (a1) (a2) (a3) (h0 : Keeps q a0) : Keeps q (Sys2Proof.Machine.rimInputs a0 a1 a2 a3).2 := by
  unfold Sys2Proof.Machine.rimInputs
  repeat'
      first
      | with_reducible assumption | with_reducible apply keeps_readBytes | with_reducible apply keeps_readLine
      | with_reducible refine keepsOpt_map (fun _ => ?_) | with_reducible apply keeps_getD | with_reducible apply keeps_ite_keep | intro _
      | split | dsimp only | (fail_if_no_progress with_reducible apply keeps_mk) | with_reducible refine keeps_of_fst ?_ (by assumption)
      | with_reducible refine keeps_of_snd ?_ (by assumption) | with_reducible refine keeps_of_snd2 ?_ (by assumption)
      | with_reducible refine keeps_of_some ?_ (by assumption) | with_reducible refine keeps_of_next ?_ (by assumption)

theorem keeps_execLoadcol (a0) (a1) (a2) (a3) (a4) (h4 : Keeps q a4) : KeepsRes q (Sys2Proof.Machine.execLoadcol a0 a1 a2 a3 a4) := by
  unfold Sys2Proof.Machine.execLoadcol
  repeat'
      first
      | with_reducible assumption | with_reducible apply keeps_scaleLoad | with_reducible apply keepsRes_next
      | with_reducible exact keepsRes_fault _ | with_reducible exact keepsRes_refused _ | intro _ | dsimp only

theorem keeps_rerunVector (a0) (a1) (a2) (a3) (a4) (h3 : Keeps q a3.next) : Keeps q (Sys2Proof.Machine.rerunVector a0 a1 a2 a3 a4).next := by
  unfold Sys2Proof.Machine.rerunVector
  repeat'
      first
      | with_reducible assumption | with_reducible apply keeps_streamVector | with_reducible apply keeps_rimInputs
      | with_reducible apply keeps_getD | intro _ | split | dsimp only | (fail_if_no_progress with_reducible apply keeps_mk)
      | with_reducible refine keeps_of_fst ?_ (by assumption) | with_reducible refine keeps_of_snd ?_ (by assumption)
      | with_reducible refine keeps_of_snd2 ?_ (by assumption) | with_reducible refine keeps_of_some ?_ (by assumption)
      | with_reducible refine keeps_of_next ?_ (by assumption)

theorem keeps_sweepVector (a0) (a1) (a2) (a3) (a4) (a5) (a6) (h5 : Keeps q a5.next) : Keeps q (Sys2Proof.Machine.sweepVector a0 a1 a2 a3 a4 a5 a6).next := by
  unfold Sys2Proof.Machine.sweepVector
  repeat'
      first
      | with_reducible assumption | with_reducible apply keeps_writeRecord | with_reducible apply keeps_streamVector
      | with_reducible apply keeps_rimInputs | intro _ | split | dsimp only | (fail_if_no_progress with_reducible apply keeps_mk)
      | with_reducible refine keeps_of_fst ?_ (by assumption) | with_reducible refine keeps_of_snd ?_ (by assumption)
      | with_reducible refine keeps_of_snd2 ?_ (by assumption) | with_reducible refine keeps_of_some ?_ (by assumption)
      | with_reducible refine keeps_of_next ?_ (by assumption)

theorem keeps_execWload (a0) (a1) (h1 : Keeps q a1) : KeepsRes q (Sys2Proof.Machine.execWload a0 a1) := by
  unfold Sys2Proof.Machine.execWload
  repeat'
      first
      | with_reducible assumption | with_reducible apply keeps_loadSet | with_reducible apply keeps_State_updGrid
      | with_reducible apply keeps_whenFree | with_reducible apply keepsRes_next | with_reducible exact keepsRes_fault _
      | with_reducible exact keepsRes_refused _ | with_reducible apply keepsRes_ite | with_reducible apply keeps_ite_keep | intro _ | split
      | dsimp only | (fail_if_no_progress with_reducible apply keeps_mk) | with_reducible refine keeps_of_fst ?_ (by assumption)
      | with_reducible refine keeps_of_snd ?_ (by assumption) | with_reducible refine keeps_of_snd2 ?_ (by assumption)
      | with_reducible refine keeps_of_some ?_ (by assumption) | with_reducible refine keeps_of_next ?_ (by assumption)

theorem keeps_reloadSet (a0) (a1) (a2) (a3) (a4) (h0 : Keeps q a0) : Keeps q (Sys2Proof.Machine.reloadSet a0 a1 a2 a3 a4).2 := by
  unfold Sys2Proof.Machine.reloadSet
  repeat'
      first
      | with_reducible assumption | with_reducible apply keeps_loadSet | with_reducible apply keeps_State_updGrid | intro _ | dsimp only
      | (fail_if_no_progress with_reducible apply keeps_mk)

theorem keeps_runSweep (a0) (a1) (a2) (h2 : Keeps q a2) : KeepsRes q (Sys2Proof.Machine.runSweep a0 a1 a2) := by
  unfold Sys2Proof.Machine.runSweep
  repeat'
      first
      | with_reducible assumption | with_reducible apply keeps_State_updGrid | with_reducible apply keeps_whenFree
      | with_reducible apply keeps_applyEdits | with_reducible apply keeps_sweepVector | with_reducible apply keepsRes_next
      | with_reducible exact keepsRes_fault _ | with_reducible exact keepsRes_refused _ | with_reducible apply keeps_foldl
      | with_reducible apply keeps_foldl_fst | with_reducible apply keeps_foldl_snd | with_reducible apply keeps_foldl_snd2
      | with_reducible apply keeps_foldl_SweepRun | with_reducible apply keeps_foldl_Store | with_reducible apply keepsRes_ite
      | with_reducible apply keeps_ite_keep | intro _ | split | dsimp only | (fail_if_no_progress with_reducible apply keeps_mk)
      | with_reducible refine keeps_of_fst ?_ (by assumption) | with_reducible refine keeps_of_snd ?_ (by assumption)
      | with_reducible refine keeps_of_snd2 ?_ (by assumption) | with_reducible refine keeps_of_some ?_ (by assumption)
      | with_reducible refine keeps_of_next ?_ (by assumption)

theorem keeps_execRerunComplete (a0) (h0 : Keeps q a0) : KeepsRes q (Sys2Proof.Machine.execRerunComplete a0) := by
  unfold Sys2Proof.Machine.execRerunComplete
  repeat'
      first
      | with_reducible assumption | with_reducible apply keeps_finishHead | with_reducible apply keeps_countGrid
      | with_reducible apply keeps_recordNumeric | with_reducible apply keeps_State_updGrid | with_reducible apply keeps_rerunVector
      | with_reducible apply keeps_reloadSet | with_reducible apply keeps_bump | with_reducible apply keeps_nonfiniteEvent
      | with_reducible apply keeps_applyEdits | with_reducible apply keepsRes_next | with_reducible exact keepsRes_fault _
      | with_reducible exact keepsRes_refused _ | with_reducible apply keeps_foldl | with_reducible apply keeps_foldl_fst
      | with_reducible apply keeps_foldl_snd | with_reducible apply keeps_foldl_snd2 | with_reducible apply keeps_foldl_SweepRun
      | with_reducible apply keeps_foldl_Store | with_reducible apply keepsRes_ite | with_reducible apply keeps_ite_keep | intro _ | split
      | dsimp only | (fail_if_no_progress with_reducible apply keeps_mk) | with_reducible refine keeps_of_fst ?_ (by assumption)
      | with_reducible refine keeps_of_snd ?_ (by assumption) | with_reducible refine keeps_of_snd2 ?_ (by assumption)
      | with_reducible refine keeps_of_some ?_ (by assumption) | with_reducible refine keeps_of_next ?_ (by assumption)


/-! ## Route -/

theorem keeps_State_setPort (a0) (a1) (a2) (h0 : Keeps q a0) : Keeps q (Sys2Proof.Machine.State.setPort a0 a1 a2) := by
  unfold Sys2Proof.Machine.State.setPort
  repeat' first | with_reducible assumption | intro _ | dsimp only | (fail_if_no_progress with_reducible apply keeps_mk)

theorem keeps_State_updPort (a0) (a1) (a2) (h0 : Keeps q a0) : Keeps q (Sys2Proof.Machine.State.updPort a0 a1 a2) := by
  unfold Sys2Proof.Machine.State.updPort
  repeat' first | with_reducible assumption | with_reducible apply keeps_State_setPort | intro _ | dsimp only

theorem keeps_sendFlits (a0) (a1) (a2) (a3) (h0 : Keeps q a0) : Keeps q (Sys2Proof.Machine.sendFlits a0 a1 a2 a3) := by
  unfold Sys2Proof.Machine.sendFlits
  repeat'
      first
      | with_reducible assumption | with_reducible apply keeps_State_updPort | with_reducible apply keeps_bump
      | with_reducible refine keepsOpt_map (fun _ => ?_) | with_reducible apply keeps_ite_keep | intro _ | split | dsimp only
      | (fail_if_no_progress with_reducible apply keeps_mk)

theorem keeps_drainItems (a0) (a1) (a2) (a3) (h0 : Keeps q a0) : Keeps q (Sys2Proof.Machine.drainItems a0 a1 a2 a3) := by
  revert h0
  fun_induction Sys2Proof.Machine.drainItems a0 a1 a2 a3 <;> intros
  all_goals repeat'
      first
      | with_reducible assumption | with_reducible apply keeps_sendFlits | with_reducible apply keeps_emit
      | with_reducible apply keeps_ite_keep | intro _ | split | dsimp only | (fail_if_no_progress with_reducible apply keeps_mk)
      | with_reducible refine keeps_of_fst ?_ (by assumption) | with_reducible refine keeps_of_snd ?_ (by assumption)
      | with_reducible refine keeps_of_snd2 ?_ (by assumption) | with_reducible refine keeps_of_some ?_ (by assumption)
      | with_reducible refine keeps_of_next ?_ (by assumption) | apply_assumption

theorem keeps_drainPort (a0) (a1) (h0 : Keeps q a0) : Keeps q (Sys2Proof.Machine.drainPort a0 a1) := by
  unfold Sys2Proof.Machine.drainPort
  repeat' first | with_reducible assumption | with_reducible apply keeps_drainItems | intro _ | dsimp only

theorem keeps_setPair (a0) (a1) (h0 : Keeps q a0) : Keeps q (Sys2Proof.Machine.setPair a0 a1) := by
  unfold Sys2Proof.Machine.setPair
  repeat'
      first
      | with_reducible assumption | with_reducible apply keeps_dset | with_reducible apply keeps_raiseLocal
      | with_reducible apply keeps_ite_keep | intro _ | split | dsimp only

theorem keeps_transmit (a0) (a1) (a2) (a3) (a4) (a5) (a6) (h0 : Keeps q a0) : Keeps q (Sys2Proof.Machine.transmit a0 a1 a2 a3 a4 a5 a6) := by
  unfold Sys2Proof.Machine.transmit
  repeat'
      first
      | with_reducible assumption | with_reducible apply keeps_State_updPort | with_reducible apply keeps_drainPort | intro _
      | dsimp only | (fail_if_no_progress with_reducible apply keeps_mk)

theorem keeps_mirrorCodes (a0) (a1) (a2) (a3) (a4) (a5) (h0 : Keeps q a0) : Keeps q (Sys2Proof.Machine.mirrorCodes a0 a1 a2 a3 a4 a5) := by
  unfold Sys2Proof.Machine.mirrorCodes
  repeat'
      first
      | with_reducible assumption | with_reducible apply keeps_bump | with_reducible apply keeps_transmit
      | with_reducible apply keeps_ite_keep | intro _ | split | dsimp only | (fail_if_no_progress with_reducible apply keeps_mk)

theorem keeps_sendOn (a0) (a1) (a2) (a3) (a4) (h0 : Keeps q a0) : Keeps q (Sys2Proof.Machine.sendOn a0 a1 a2 a3 a4) := by
  unfold Sys2Proof.Machine.sendOn
  repeat' first | with_reducible assumption | with_reducible apply keeps_transmit | intro _ | dsimp only

theorem keeps_mirror (a0) (a1) (a2) (a3) (a4) (a5) (h0 : Keeps q a0) : Keeps q (Sys2Proof.Machine.mirror a0 a1 a2 a3 a4 a5) := by
  unfold Sys2Proof.Machine.mirror
  repeat'
      first
      | with_reducible assumption | with_reducible apply keeps_mirrorCodes | with_reducible refine keepsOpt_map (fun _ => ?_) | intro _
      | dsimp only

theorem keeps_sendPacket (a0) (a1) (h0 : Keeps q a0) : KeepsOpt q (Sys2Proof.Machine.sendPacket a0 a1) := by
  unfold Sys2Proof.Machine.sendPacket
  repeat'
      first
      | with_reducible assumption | with_reducible apply keeps_sendOn | with_reducible apply keeps_bump
      | with_reducible apply keepsOpt_some | with_reducible exact keepsOpt_none | with_reducible refine keepsOpt_map (fun _ => ?_)
      | with_reducible apply keepsOpt_ite | with_reducible apply keeps_ite_keep | intro _ | split | dsimp only

end Sys2Proof.Laws
end

