-- ==== Sys2Proof/Laws/KeepsEngines.lean ====
section
/-!
SUPPORT. What each operation keeps, over the rings, the movers, the sequencers and the engines: the queue of waiting commands and the canonical form of every memory.
-/

set_option linter.all false
set_option Elab.async false
set_option maxRecDepth 4000

namespace Sys2Proof.Laws

open Sys2Proof Sys2Proof.Machine

variable {q : List Instr}

/-! ## RingOps -/

theorem keeps_State_setRing (a0) (a1) (a2) (h0 : Keeps q a0) : Keeps q (Sys2Proof.Machine.State.setRing a0 a1 a2) := by
  unfold Sys2Proof.Machine.State.setRing
  repeat' first | with_reducible assumption | intro _ | dsimp only | (fail_if_no_progress with_reducible apply keeps_mk)

theorem keeps_State_setTenant (a0) (a1) (a2) (h0 : Keeps q a0) : Keeps q (Sys2Proof.Machine.State.setTenant a0 a1 a2) := by
  unfold Sys2Proof.Machine.State.setTenant
  repeat' first | with_reducible assumption | intro _ | dsimp only | (fail_if_no_progress with_reducible apply keeps_mk)

theorem keeps_State_setWalker (a0) (a1) (a2) (h0 : Keeps q a0) : Keeps q (Sys2Proof.Machine.State.setWalker a0 a1 a2) := by
  unfold Sys2Proof.Machine.State.setWalker
  repeat' first | with_reducible assumption | intro _ | dsimp only | (fail_if_no_progress with_reducible apply keeps_mk)

theorem keeps_State_setMover (a0) (a1) (a2) (h0 : Keeps q a0) : Keeps q (Sys2Proof.Machine.State.setMover a0 a1 a2) := by
  unfold Sys2Proof.Machine.State.setMover
  repeat' first | with_reducible assumption | intro _ | dsimp only | (fail_if_no_progress with_reducible apply keeps_mk)

theorem keeps_setStep (a0) (a1) (a2) (h0 : Keeps q a0) : Keeps q (Sys2Proof.Machine.setStep a0 a1 a2) := by
  unfold Sys2Proof.Machine.setStep
  repeat' first | with_reducible assumption | intro _ | dsimp only | (fail_if_no_progress with_reducible apply keeps_mk)

theorem keeps_badPostColl (a0) (h0 : Keeps q a0) : Keeps q (Sys2Proof.Machine.badPostColl a0) := by
  unfold Sys2Proof.Machine.badPostColl
  repeat' first | with_reducible assumption | intro _ | dsimp only | (fail_if_no_progress with_reducible apply keeps_mk)

theorem keeps_State_updRing (a0) (a1) (a2) (h0 : Keeps q a0) : Keeps q (Sys2Proof.Machine.State.updRing a0 a1 a2) := by
  unfold Sys2Proof.Machine.State.updRing
  repeat' first | with_reducible assumption | with_reducible apply keeps_State_setRing | intro _ | dsimp only

theorem keeps_State_updTenant (a0) (a1) (a2) (h0 : Keeps q a0) : Keeps q (Sys2Proof.Machine.State.updTenant a0 a1 a2) := by
  unfold Sys2Proof.Machine.State.updTenant
  repeat' first | with_reducible assumption | with_reducible apply keeps_State_setTenant | intro _ | dsimp only

theorem keeps_State_updWalker (a0) (a1) (a2) (h0 : Keeps q a0) : Keeps q (Sys2Proof.Machine.State.updWalker a0 a1 a2) := by
  unfold Sys2Proof.Machine.State.updWalker
  repeat' first | with_reducible assumption | with_reducible apply keeps_State_setWalker | intro _ | dsimp only

theorem keeps_State_updMover (a0) (a1) (a2) (h0 : Keeps q a0) : Keeps q (Sys2Proof.Machine.State.updMover a0 a1 a2) := by
  unfold Sys2Proof.Machine.State.updMover
  repeat' first | with_reducible assumption | with_reducible apply keeps_State_setMover | intro _ | dsimp only

theorem keeps_disableRing (a0) (a1) (h0 : Keeps q a0) : Keeps q (Sys2Proof.Machine.disableRing a0 a1) := by
  unfold Sys2Proof.Machine.disableRing
  repeat'
      first
      | with_reducible assumption | with_reducible apply keeps_State_updRing | intro _ | dsimp only
      | (fail_if_no_progress with_reducible apply keeps_mk)

theorem keeps_badPostMove (a0) (a1) (a2) (h0 : Keeps q a0) : Keeps q (Sys2Proof.Machine.badPostMove a0 a1 a2) := by
  unfold Sys2Proof.Machine.badPostMove
  repeat'
      first
      | with_reducible assumption | with_reducible apply keeps_State_updMover | with_reducible apply keeps_ite_keep | intro _ | split
      | dsimp only | (fail_if_no_progress with_reducible apply keeps_mk) | with_reducible refine keeps_of_fst ?_ (by assumption)
      | with_reducible refine keeps_of_snd ?_ (by assumption) | with_reducible refine keeps_of_snd2 ?_ (by assumption)
      | with_reducible refine keeps_of_some ?_ (by assumption) | with_reducible refine keeps_of_next ?_ (by assumption)

theorem keeps_badPost64 (a0) (a1) (h0 : Keeps q a0) : Keeps q (Sys2Proof.Machine.badPost64 a0 a1) := by
  unfold Sys2Proof.Machine.badPost64
  repeat'
      first
      | with_reducible assumption | with_reducible apply keeps_State_updEngine | intro _ | dsimp only
      | (fail_if_no_progress with_reducible apply keeps_mk)

theorem keeps_failRing (a0) (a1) (h0 : Keeps q a0) : Keeps q (Sys2Proof.Machine.failRing a0 a1) := by
  unfold Sys2Proof.Machine.failRing
  repeat'
      first
      | with_reducible assumption | with_reducible apply keeps_State_updRing | with_reducible apply keeps_disableRing
      | with_reducible apply keeps_recordFault | intro _ | dsimp only | (fail_if_no_progress with_reducible apply keeps_mk)

theorem keeps_recordOverflow (a0) (a1) (a2) (a3) (a4) (h0 : Keeps q a0) : Keeps q (Sys2Proof.Machine.recordOverflow a0 a1 a2 a3 a4) := by
  unfold Sys2Proof.Machine.recordOverflow
  repeat'
      first
      | with_reducible assumption | with_reducible apply keeps_freeValue | with_reducible apply keeps_recordFault
      | with_reducible apply keeps_bump | intro _ | split | dsimp only | with_reducible refine keeps_of_fst ?_ (by assumption)
      | with_reducible refine keeps_of_snd ?_ (by assumption) | with_reducible refine keeps_of_snd2 ?_ (by assumption)
      | with_reducible refine keeps_of_some ?_ (by assumption) | with_reducible refine keeps_of_next ?_ (by assumption)

theorem keeps_enqueueMove (a0) (a1) (a2) (h0 : Keeps q a0) : Keeps q (Sys2Proof.Machine.enqueueMove a0 a1 a2).2 := by
  unfold Sys2Proof.Machine.enqueueMove
  repeat'
      first
      | with_reducible assumption | with_reducible apply keeps_recordOverflow | with_reducible apply keeps_State_setMover
      | with_reducible apply keeps_ite_keep | intro _ | split | dsimp only | (fail_if_no_progress with_reducible apply keeps_mk)

theorem keeps_enqueue64 (a0) (a1) (a2) (h0 : Keeps q a0) : Keeps q (Sys2Proof.Machine.enqueue64 a0 a1 a2).2 := by
  unfold Sys2Proof.Machine.enqueue64
  repeat'
      first
      | with_reducible assumption | with_reducible apply keeps_recordOverflow | with_reducible apply keeps_State_setEngine
      | with_reducible apply keeps_ite_keep | intro _ | split | dsimp only | (fail_if_no_progress with_reducible apply keeps_mk)

theorem keeps_postMove (a0) (a1) (a2) (h0 : Keeps q a0) : Keeps q (Sys2Proof.Machine.postMove a0 a1 a2).2 := by
  unfold Sys2Proof.Machine.postMove
  repeat'
      first
      | with_reducible assumption | with_reducible apply keeps_enqueueMove | with_reducible apply keeps_badPostMove
      | with_reducible apply keeps_ite_keep | intro _ | split | dsimp only | (fail_if_no_progress with_reducible apply keeps_mk)
      | with_reducible refine keeps_of_fst ?_ (by assumption) | with_reducible refine keeps_of_snd ?_ (by assumption)
      | with_reducible refine keeps_of_snd2 ?_ (by assumption) | with_reducible refine keeps_of_some ?_ (by assumption)
      | with_reducible refine keeps_of_next ?_ (by assumption)

theorem keeps_postTask (a0) (a1) (a2) (h0 : Keeps q a0) : Keeps q (Sys2Proof.Machine.postTask a0 a1 a2).2 := by
  unfold Sys2Proof.Machine.postTask
  repeat'
      first
      | with_reducible assumption | with_reducible apply keeps_badPost64 | with_reducible apply keeps_enqueue64
      | with_reducible apply keeps_ite_keep | intro _ | split | dsimp only | (fail_if_no_progress with_reducible apply keeps_mk)
      | with_reducible refine keeps_of_fst ?_ (by assumption) | with_reducible refine keeps_of_snd ?_ (by assumption)
      | with_reducible refine keeps_of_snd2 ?_ (by assumption) | with_reducible refine keeps_of_some ?_ (by assumption)
      | with_reducible refine keeps_of_next ?_ (by assumption)

theorem keeps_postMoveBurst (a0) (a1) (a2) (a3) (a4) (a5) (h0 : Keeps q a0) : Keeps q (Sys2Proof.Machine.postMoveBurst a0 a1 a2 a3 a4 a5).2 := by
  unfold Sys2Proof.Machine.postMoveBurst
  repeat'
      first
      | with_reducible assumption | with_reducible apply keeps_badPostMove | with_reducible apply keeps_postMove
      | with_reducible apply keeps_ite_keep | intro _ | split | dsimp only | (fail_if_no_progress with_reducible apply keeps_mk)

theorem keeps_postBurst (a0) (a1) (a2) (a3) (a4) (h0 : Keeps q a0) : Keeps q (Sys2Proof.Machine.postBurst a0 a1 a2 a3 a4).2 := by
  unfold Sys2Proof.Machine.postBurst
  repeat'
      first
      | with_reducible assumption | with_reducible apply keeps_recordOverflow | with_reducible apply keeps_postMoveBurst
      | with_reducible apply keeps_enqueue64 | with_reducible apply keeps_badPostColl | with_reducible apply keeps_postTask
      | with_reducible apply keeps_badPost64 | with_reducible apply keeps_ite_keep | intro _ | split | dsimp only
      | (fail_if_no_progress with_reducible apply keeps_mk) | with_reducible refine keeps_of_fst ?_ (by assumption)
      | with_reducible refine keeps_of_snd ?_ (by assumption) | with_reducible refine keeps_of_snd2 ?_ (by assumption)
      | with_reducible refine keeps_of_some ?_ (by assumption) | with_reducible refine keeps_of_next ?_ (by assumption)

theorem keeps_writeRingEntry (a0) (a1) (a2) (h0 : Keeps q a0) : Keeps q (Sys2Proof.Machine.writeRingEntry a0 a1 a2) := by
  unfold Sys2Proof.Machine.writeRingEntry
  repeat'
      first
      | with_reducible assumption | with_reducible apply keeps_State_updRing | with_reducible apply keeps_storeBytes
      | with_reducible apply keeps_failRing | with_reducible apply keeps_emit | with_reducible apply keeps_ite_keep | intro _ | split
      | dsimp only | (fail_if_no_progress with_reducible apply keeps_mk)

theorem keeps_completeEntry (a0) (a1) (a2) (a3) (h0 : Keeps q a0) : Keeps q (Sys2Proof.Machine.completeEntry a0 a1 a2 a3) := by
  unfold Sys2Proof.Machine.completeEntry
  repeat'
      first
      | with_reducible assumption | with_reducible apply keeps_raiseLocal | with_reducible apply keeps_writeRingEntry
      | with_reducible apply keeps_State_updRing | with_reducible apply keeps_bump | with_reducible apply keeps_ite_keep | intro _ | split
      | dsimp only | (fail_if_no_progress with_reducible apply keeps_mk) | with_reducible refine keeps_of_fst ?_ (by assumption)
      | with_reducible refine keeps_of_snd ?_ (by assumption) | with_reducible refine keeps_of_snd2 ?_ (by assumption)
      | with_reducible refine keeps_of_some ?_ (by assumption) | with_reducible refine keeps_of_next ?_ (by assumption)


/-! ## Movers -/

theorem keeps_withMover (a0) (a1) (a2) (h0 : Keeps q a0) (h2 : ∀ x0, KeepsRes q (a2 x0)) : KeepsRes q (Sys2Proof.Machine.withMover a0 a1 a2) := by
  unfold Sys2Proof.Machine.withMover
  repeat'
      first
      | with_reducible assumption | with_reducible apply h2 | with_reducible apply keepsRes_next | with_reducible exact keepsRes_fault _
      | with_reducible exact keepsRes_refused _ | with_reducible apply keepsRes_ite | with_reducible apply keeps_ite_keep | intro _ | split
      | dsimp only

theorem keeps_endLoad (a0) (a1) (h0 : Keeps q a0) : Keeps q (Sys2Proof.Machine.endLoad a0 a1) := by
  unfold Sys2Proof.Machine.endLoad
  repeat'
      first
      | with_reducible assumption | with_reducible apply keeps_State_updEngine | with_reducible apply keeps_ite_keep | intro _ | split
      | dsimp only | (fail_if_no_progress with_reducible apply keeps_mk) | with_reducible refine keeps_of_fst ?_ (by assumption)
      | with_reducible refine keeps_of_snd ?_ (by assumption) | with_reducible refine keeps_of_snd2 ?_ (by assumption)
      | with_reducible refine keeps_of_some ?_ (by assumption) | with_reducible refine keeps_of_next ?_ (by assumption)

theorem keeps_putRun (a0) (a1) (a2) (h0 : Keeps q a0) : Keeps q (Sys2Proof.Machine.putRun a0 a1 a2) := by
  unfold Sys2Proof.Machine.putRun
  repeat'
      first
      | with_reducible assumption | with_reducible apply keeps_State_updMover | intro _ | dsimp only
      | (fail_if_no_progress with_reducible apply keeps_mk)

theorem keeps_beginLoad (a0) (a1) (a2) (h0 : Keeps q a0) : Keeps q (Sys2Proof.Machine.beginLoad a0 a1 a2) := by
  unfold Sys2Proof.Machine.beginLoad
  repeat'
      first
      | with_reducible assumption | with_reducible apply keeps_State_updEngine | with_reducible apply keeps_ite_keep | intro _ | split
      | dsimp only | (fail_if_no_progress with_reducible apply keeps_mk)

theorem keeps_settleBank (a0) (a1) (h0 : Keeps q a0) : Keeps q (Sys2Proof.Machine.settleBank a0 a1) := by
  unfold Sys2Proof.Machine.settleBank
  repeat'
      first
      | with_reducible assumption | with_reducible apply keeps_State_updEngine | with_reducible apply keeps_ite_keep | intro _ | split
      | dsimp only | (fail_if_no_progress with_reducible apply keeps_mk)

theorem keeps_stopRun (a0) (a1) (a2) (h0 : Keeps q a0) : Keeps q (Sys2Proof.Machine.stopRun a0 a1 a2) := by
  unfold Sys2Proof.Machine.stopRun
  repeat'
      first
      | with_reducible assumption | with_reducible apply keeps_State_updMover | with_reducible refine keepsOpt_map (fun _ => ?_)
      | intro _ | dsimp only | (fail_if_no_progress with_reducible apply keeps_mk)

theorem keeps_execMoveDiscard (a0) (a1) (h1 : Keeps q a1) : KeepsRes q (Sys2Proof.Machine.execMoveDiscard a0 a1) := by
  unfold Sys2Proof.Machine.execMoveDiscard
  repeat'
      first
      | with_reducible assumption | with_reducible apply keeps_withMover | with_reducible apply keeps_whenFree
      | with_reducible apply keeps_putRun | with_reducible apply keeps_discardRange | with_reducible apply keepsRes_next
      | with_reducible exact keepsRes_fault _ | with_reducible exact keepsRes_refused _ | with_reducible apply keepsOpt_some
      | with_reducible exact keepsOpt_none | with_reducible apply keepsRes_ite | with_reducible apply keeps_ite_keep | intro _ | split
      | dsimp only | (fail_if_no_progress with_reducible apply keeps_mk) | with_reducible refine keeps_of_fst ?_ (by assumption)
      | with_reducible refine keeps_of_snd ?_ (by assumption) | with_reducible refine keeps_of_snd2 ?_ (by assumption)
      | with_reducible refine keeps_of_some ?_ (by assumption) | with_reducible refine keeps_of_next ?_ (by assumption)

theorem keeps_execDiscardApplied (a0) (a1) (h1 : Keeps q a1) : KeepsRes q (Sys2Proof.Machine.execDiscardApplied a0 a1) := by
  unfold Sys2Proof.Machine.execDiscardApplied
  repeat'
      first
      | with_reducible assumption | with_reducible apply keeps_withMover | with_reducible apply keeps_putRun
      | with_reducible apply keepsRes_next | with_reducible exact keepsRes_fault _ | with_reducible exact keepsRes_refused _
      | with_reducible apply keepsOpt_some | with_reducible exact keepsOpt_none | with_reducible apply keepsRes_ite
      | with_reducible apply keeps_ite_keep | intro _ | split | dsimp only | (fail_if_no_progress with_reducible apply keeps_mk)
      | with_reducible refine keeps_of_fst ?_ (by assumption) | with_reducible refine keeps_of_snd ?_ (by assumption)
      | with_reducible refine keeps_of_snd2 ?_ (by assumption) | with_reducible refine keeps_of_some ?_ (by assumption)
      | with_reducible refine keeps_of_next ?_ (by assumption)

theorem keeps_remoteOp (a0) (a1) (a2) (a3) (h0 : Keeps q a0.next) : Keeps q (Sys2Proof.Machine.remoteOp a0 a1 a2 a3).next := by
  unfold Sys2Proof.Machine.remoteOp
  repeat'
      first
      | with_reducible assumption | with_reducible apply keeps_sendPacket | intro _ | split | dsimp only
      | (fail_if_no_progress with_reducible apply keeps_mk) | with_reducible refine keeps_of_fst ?_ (by assumption)
      | with_reducible refine keeps_of_snd ?_ (by assumption) | with_reducible refine keeps_of_snd2 ?_ (by assumption)
      | with_reducible refine keeps_of_some ?_ (by assumption) | with_reducible refine keeps_of_next ?_ (by assumption)

theorem keeps_sendReads (a0) (a1) (a2) (a3) (h0 : Keeps q a0) : Keeps q (Sys2Proof.Machine.sendReads a0 a1 a2 a3).next := by
  unfold Sys2Proof.Machine.sendReads
  repeat'
      first
      | with_reducible assumption | with_reducible apply keeps_remoteOp | with_reducible apply keeps_foldl
      | with_reducible apply keeps_foldl_fst | with_reducible apply keeps_foldl_snd | with_reducible apply keeps_foldl_snd2
      | with_reducible apply keeps_foldl_Store | with_reducible apply keeps_ite_keep | intro _ | split | dsimp only
      | (fail_if_no_progress with_reducible apply keeps_mk)

theorem keeps_refuseLoad (a0) (a1) (a2) (a3) (a4) (h0 : Keeps q a0) : Keeps q (Sys2Proof.Machine.refuseLoad a0 a1 a2 a3 a4) := by
  unfold Sys2Proof.Machine.refuseLoad
  repeat'
      first
      | with_reducible assumption | with_reducible apply keeps_recordFault | with_reducible apply keeps_freeValue
      | with_reducible apply keeps_State_updEngine | intro _ | split | dsimp only | (fail_if_no_progress with_reducible apply keeps_mk)
      | with_reducible refine keeps_of_fst ?_ (by assumption) | with_reducible refine keeps_of_snd ?_ (by assumption)
      | with_reducible refine keeps_of_snd2 ?_ (by assumption) | with_reducible refine keeps_of_some ?_ (by assumption)
      | with_reducible refine keeps_of_next ?_ (by assumption)

theorem keeps_execMoverDescStart (a0) (a1) (h1 : Keeps q a1) : KeepsRes q (Sys2Proof.Machine.execMoverDescStart a0 a1) := by
  unfold Sys2Proof.Machine.execMoverDescStart
  repeat'
      first
      | with_reducible assumption | with_reducible apply keeps_withMover | with_reducible apply keeps_State_updMover
      | with_reducible apply keeps_refuseLoad | with_reducible apply keeps_beginLoad | with_reducible apply keeps_settleBank
      | with_reducible apply keeps_State_setMover | with_reducible apply keeps_sendReads | with_reducible apply keeps_stopRun
      | with_reducible apply keepsRes_next | with_reducible exact keepsRes_fault _ | with_reducible exact keepsRes_refused _
      | with_reducible apply keepsOpt_some | with_reducible exact keepsOpt_none | with_reducible apply keepsRes_ite
      | with_reducible apply keeps_ite_keep | intro _ | split | dsimp only | (fail_if_no_progress with_reducible apply keeps_mk)
      | with_reducible refine keeps_of_fst ?_ (by assumption) | with_reducible refine keeps_of_snd ?_ (by assumption)
      | with_reducible refine keeps_of_snd2 ?_ (by assumption) | with_reducible refine keeps_of_some ?_ (by assumption)
      | with_reducible refine keeps_of_next ?_ (by assumption)

theorem keeps_execMoverQueuePost (a0) (a1) (a2) (a3) (a4) (a5) (h5 : Keeps q a5) : KeepsRes q (Sys2Proof.Machine.execMoverQueuePost a0 a1 a2 a3 a4 a5) := by
  unfold Sys2Proof.Machine.execMoverQueuePost
  repeat'
      first
      | with_reducible assumption | with_reducible apply keeps_badPostMove | with_reducible apply keeps_postMoveBurst
      | with_reducible apply keepsRes_next | with_reducible exact keepsRes_fault _ | with_reducible exact keepsRes_refused _
      | with_reducible apply keepsRes_ite | with_reducible apply keeps_ite_keep | intro _ | split | dsimp only
      | (fail_if_no_progress with_reducible apply keeps_mk) | with_reducible refine keeps_of_fst ?_ (by assumption)
      | with_reducible refine keeps_of_snd ?_ (by assumption) | with_reducible refine keeps_of_snd2 ?_ (by assumption)
      | with_reducible refine keeps_of_some ?_ (by assumption) | with_reducible refine keeps_of_next ?_ (by assumption)

theorem keeps_sourceBits (a0) (a1) (a2) (a3) (a4) (a5) (a6) (h0 : Keeps q a0) : Keeps q (Sys2Proof.Machine.sourceBits a0 a1 a2 a3 a4 a5 a6).next := by
  unfold Sys2Proof.Machine.sourceBits
  repeat'
      first
      | with_reducible assumption | with_reducible apply keeps_readBits | with_reducible apply keeps_ite_keep | intro _ | split
      | dsimp only | (fail_if_no_progress with_reducible apply keeps_mk)

theorem keeps_storeEdits (a0) (a1) (a2) (a3) (h3 : Keeps q a3.next) : Keeps q (Sys2Proof.Machine.storeEdits a0 a1 a2 a3).next := by
  unfold Sys2Proof.Machine.storeEdits
  repeat'
      first
      | with_reducible assumption | with_reducible apply keeps_applyEdit | with_reducible apply keeps_foldl
      | with_reducible apply keeps_foldl_fst | with_reducible apply keeps_foldl_snd | with_reducible apply keeps_foldl_snd2
      | with_reducible apply keeps_foldl_Sent | with_reducible apply keeps_foldl_Store | with_reducible apply wf_foldl
      | with_reducible refine wf_stack (q := q) ?_ _ | with_reducible apply keeps_ite_keep | with_reducible apply wf_ite | intro _ | split
      | dsimp only | (fail_if_no_progress with_reducible apply keeps_mk) | (fail_if_no_progress with_reducible apply wf_mk)
      | with_reducible refine keeps_of_fst ?_ (by assumption) | with_reducible refine keeps_of_snd ?_ (by assumption)
      | with_reducible refine keeps_of_snd2 ?_ (by assumption) | with_reducible refine keeps_of_some ?_ (by assumption)
      | with_reducible refine keeps_of_next ?_ (by assumption)

theorem keeps_addBurst (a0) (a1) (a2) (a3) (a4) (a5) (h4 : Keeps q a4.next) : Keeps q (Sys2Proof.Machine.addBurst a0 a1 a2 a3 a4 a5).next := by
  unfold Sys2Proof.Machine.addBurst
  repeat'
      first
      | with_reducible assumption | with_reducible apply keeps_addRun | with_reducible apply keeps_storeCode
      | with_reducible apply keeps_remoteOp | with_reducible apply keeps_getD | with_reducible apply keeps_ite_keep | intro _ | split
      | dsimp only | (fail_if_no_progress with_reducible apply keeps_mk)

theorem keeps_moveElement (a0) (a1) (a2) (a3) (a4) (a5) (h4 : Keeps q a4.next) : Keeps q (Sys2Proof.Machine.moveElement a0 a1 a2 a3 a4 a5).next := by
  unfold Sys2Proof.Machine.moveElement
  repeat'
      first
      | with_reducible assumption | with_reducible apply keeps_sourceBits | with_reducible apply keeps_ite_keep | intro _ | split
      | dsimp only | (fail_if_no_progress with_reducible apply keeps_mk) | with_reducible refine keeps_of_fst ?_ (by assumption)
      | with_reducible refine keeps_of_snd ?_ (by assumption) | with_reducible refine keeps_of_snd2 ?_ (by assumption)
      | with_reducible refine keeps_of_some ?_ (by assumption) | with_reducible refine keeps_of_next ?_ (by assumption)

theorem keeps_sendEdits (a0) (a1) (a2) (a3) (a4) (a5) (h5 : Keeps q a5.next) : Keeps q (Sys2Proof.Machine.sendEdits a0 a1 a2 a3 a4 a5).next := by
  unfold Sys2Proof.Machine.sendEdits
  repeat'
      first
      | with_reducible assumption | with_reducible apply keeps_remoteOp | with_reducible apply keeps_storeEdits
      | with_reducible apply keeps_emit | with_reducible refine keepsOpt_map (fun _ => ?_) | with_reducible apply keeps_foldl
      | with_reducible apply keeps_foldl_fst | with_reducible apply keeps_foldl_snd | with_reducible apply keeps_foldl_snd2
      | with_reducible apply keeps_foldl_Sent | with_reducible apply keeps_foldl_Store | with_reducible apply keeps_ite_keep | intro _
      | split | dsimp only | (fail_if_no_progress with_reducible apply keeps_mk)

theorem keeps_addElements (a0) (a1) (a2) (a3) (a4) (h0 : Keeps q a0) : Keeps q (Sys2Proof.Machine.addElements a0 a1 a2 a3 a4).1 := by
  unfold Sys2Proof.Machine.addElements
  repeat'
      first
      | with_reducible assumption | with_reducible apply keeps_addBurst | with_reducible apply keeps_moveElement
      | with_reducible apply keeps_foldl | with_reducible apply keeps_foldl_fst | with_reducible apply keeps_foldl_snd
      | with_reducible apply keeps_foldl_snd2 | with_reducible apply keeps_foldl_Sent | with_reducible apply keeps_foldl_MoveAcc | intro _
      | dsimp only | (fail_if_no_progress with_reducible apply keeps_mk)

theorem keeps_copyElements (a0) (a1) (a2) (a3) (a4) (a5) (h0 : Keeps q a0) : Keeps q (Sys2Proof.Machine.copyElements a0 a1 a2 a3 a4 a5).1 := by
  have elem (acc : MoveAcc) (l : List Nat) (h : Keeps q acc.next) : Keeps q (l.foldl (moveElement a1 a2.origin (moveDesc a2.data) a3) acc).next :=
    keeps_foldl_MoveAcc _ _ h (fun _ _ ht => keeps_moveElement _ _ _ _ _ _ ht)
  have send (e w) (h : Keeps q w.next) := keeps_sendEdits a1 a2 (moveDesc a2.data) a4 e w h
  unfold Sys2Proof.Machine.copyElements
  dsimp only
  split
  · refine (foldl_keeps (p := fun p : MoveAcc × Sent => Keeps q p.1.next ∧ Keeps q p.2.next) _ _ ⟨h0, h0⟩ (fun a b h => ?_)).2
    have e := elem { a.1 with edits := [] } b h.1
    exact ⟨send _ { a.2 with next := _ } e, send _ { a.2 with next := _ } e⟩
  · exact send _ { next := _ } (elem { next := a0 } _ h0)

theorem keeps_execMoveAdd (a0) (a1) (a2) (a3) (h3 : Keeps q a3) : KeepsRes q (Sys2Proof.Machine.execMoveAdd a0 a1 a2 a3) := by
  unfold Sys2Proof.Machine.execMoveAdd
  repeat'
      first
      | with_reducible assumption | with_reducible apply keeps_withMover | with_reducible apply keeps_whenFree
      | with_reducible apply keeps_putRun | with_reducible apply keeps_addElements | with_reducible apply keepsRes_next
      | with_reducible exact keepsRes_fault _ | with_reducible exact keepsRes_refused _ | with_reducible apply keepsOpt_some
      | with_reducible exact keepsOpt_none | intro _ | split | dsimp only | (fail_if_no_progress with_reducible apply keeps_mk)
      | with_reducible refine keeps_of_fst ?_ (by assumption) | with_reducible refine keeps_of_snd ?_ (by assumption)
      | with_reducible refine keeps_of_snd2 ?_ (by assumption) | with_reducible refine keeps_of_some ?_ (by assumption)
      | with_reducible refine keeps_of_next ?_ (by assumption)

theorem keeps_completeMove (a0) (a1) (a2) (h0 : Keeps q a0) : Keeps q (Sys2Proof.Machine.completeMove a0 a1 a2) := by
  unfold Sys2Proof.Machine.completeMove
  repeat'
      first
      | with_reducible assumption | with_reducible apply keeps_endLoad | with_reducible apply keeps_State_updMover
      | with_reducible apply keeps_completeEntry | with_reducible apply keeps_slotDone | with_reducible apply keeps_emit
      | with_reducible apply keeps_storeBytes | with_reducible apply keeps_ite_keep | intro _ | split | dsimp only
      | (fail_if_no_progress with_reducible apply keeps_mk) | with_reducible refine keeps_of_fst ?_ (by assumption)
      | with_reducible refine keeps_of_snd ?_ (by assumption) | with_reducible refine keeps_of_snd2 ?_ (by assumption)
      | with_reducible refine keeps_of_some ?_ (by assumption) | with_reducible refine keeps_of_next ?_ (by assumption)

theorem keeps_execMoverHostError (a0) (a1) (a2) (a3) (a4) (h4 : Keeps q a4) : KeepsRes q (Sys2Proof.Machine.execMoverHostError a0 a1 a2 a3 a4) := by
  unfold Sys2Proof.Machine.execMoverHostError
  repeat'
      first
      | with_reducible assumption | with_reducible apply keeps_withMover | with_reducible apply keeps_putRun
      | with_reducible apply keeps_addElements | with_reducible apply keeps_copyElements | with_reducible apply keeps_bump
      | with_reducible apply keepsRes_next | with_reducible exact keepsRes_fault _ | with_reducible exact keepsRes_refused _
      | with_reducible apply keepsOpt_some | with_reducible exact keepsOpt_none | with_reducible apply keepsRes_ite
      | with_reducible apply keeps_ite_keep | intro _ | split | dsimp only | (fail_if_no_progress with_reducible apply keeps_mk)
      | with_reducible refine keeps_of_fst ?_ (by assumption) | with_reducible refine keeps_of_snd ?_ (by assumption)
      | with_reducible refine keeps_of_snd2 ?_ (by assumption) | with_reducible refine keeps_of_some ?_ (by assumption)
      | with_reducible refine keeps_of_next ?_ (by assumption)

theorem keeps_execMoveCopy (a0) (a1) (a2) (a3) (h3 : Keeps q a3) : KeepsRes q (Sys2Proof.Machine.execMoveCopy a0 a1 a2 a3) := by
  unfold Sys2Proof.Machine.execMoveCopy
  repeat'
      first
      | with_reducible assumption | with_reducible apply keeps_withMover | with_reducible apply keeps_whenFree
      | with_reducible apply keeps_putRun | with_reducible apply keeps_copyElements | with_reducible apply keepsRes_next
      | with_reducible exact keepsRes_fault _ | with_reducible exact keepsRes_refused _ | with_reducible apply keepsOpt_some
      | with_reducible exact keepsOpt_none | intro _ | split | dsimp only | (fail_if_no_progress with_reducible apply keeps_mk)
      | with_reducible refine keeps_of_fst ?_ (by assumption) | with_reducible refine keeps_of_snd ?_ (by assumption)
      | with_reducible refine keeps_of_snd2 ?_ (by assumption) | with_reducible refine keeps_of_some ?_ (by assumption)
      | with_reducible refine keeps_of_next ?_ (by assumption)

theorem keeps_execMoverDescComplete (a0) (a1) (h1 : Keeps q a1) : KeepsRes q (Sys2Proof.Machine.execMoverDescComplete a0 a1) := by
  unfold Sys2Proof.Machine.execMoverDescComplete
  repeat'
      first
      | with_reducible assumption | with_reducible apply keeps_withMover | with_reducible apply keeps_whenFree
      | with_reducible apply keeps_completeMove | with_reducible apply keepsRes_next | with_reducible exact keepsRes_fault _
      | with_reducible exact keepsRes_refused _ | with_reducible apply keepsOpt_some | with_reducible exact keepsOpt_none
      | with_reducible apply keepsRes_ite | with_reducible apply keeps_ite_keep | intro _ | split | dsimp only
      | (fail_if_no_progress with_reducible apply keeps_mk) | with_reducible refine keeps_of_fst ?_ (by assumption)
      | with_reducible refine keeps_of_snd ?_ (by assumption) | with_reducible refine keeps_of_snd2 ?_ (by assumption)
      | with_reducible refine keeps_of_some ?_ (by assumption) | with_reducible refine keeps_of_next ?_ (by assumption)


/-! ## SeqOps -/

theorem keeps_newIssue (a0) (a1) (a2) (h0 : Keeps q a0) : Keeps q (Sys2Proof.Machine.newIssue a0 a1 a2).2 := by
  unfold Sys2Proof.Machine.newIssue
  repeat'
      first
      | with_reducible assumption | with_reducible apply keeps_State_setEngine | with_reducible apply keeps_getD
      | with_reducible apply keeps_ite_keep | intro _ | split | dsimp only | (fail_if_no_progress with_reducible apply keeps_mk)
      | with_reducible refine keeps_of_fst ?_ (by assumption) | with_reducible refine keeps_of_snd ?_ (by assumption)
      | with_reducible refine keeps_of_snd2 ?_ (by assumption) | with_reducible refine keeps_of_some ?_ (by assumption)
      | with_reducible refine keeps_of_next ?_ (by assumption)

theorem keeps_haltNests (a0) (h0 : Keeps q a0) : Keeps q (Sys2Proof.Machine.haltNests a0) := by
  unfold Sys2Proof.Machine.haltNests
  repeat'
      first
      | with_reducible assumption | with_reducible apply keeps_State_updEngine | with_reducible apply keeps_foldl
      | with_reducible apply keeps_foldl_fst | with_reducible apply keeps_foldl_snd | with_reducible apply keeps_foldl_snd2
      | with_reducible apply keeps_ite_keep | intro _ | split | dsimp only

theorem keeps_setStage (a0) (a1) (a2) (h0 : Keeps q a0) : Keeps q (Sys2Proof.Machine.setStage a0 a1 a2) := by
  unfold Sys2Proof.Machine.setStage
  repeat'
      first
      | with_reducible assumption | with_reducible apply keeps_State_updEngine | with_reducible refine keepsOpt_map (fun _ => ?_)
      | intro _ | dsimp only | (fail_if_no_progress with_reducible apply keeps_mk)

theorem keeps_endEntry (a0) (a1) (h0 : Keeps q a0) : Keeps q (Sys2Proof.Machine.endEntry a0 a1) := by
  unfold Sys2Proof.Machine.endEntry
  repeat'
      first
      | with_reducible assumption | with_reducible apply keeps_State_updEngine | with_reducible refine wf_stack (q := q) ?_ _ | intro _
      | split | dsimp only | (fail_if_no_progress with_reducible apply keeps_mk) | (fail_if_no_progress with_reducible apply wf_mk)
      | with_reducible refine keeps_of_fst ?_ (by assumption) | with_reducible refine keeps_of_snd ?_ (by assumption)
      | with_reducible refine keeps_of_snd2 ?_ (by assumption) | with_reducible refine keeps_of_some ?_ (by assumption)
      | with_reducible refine keeps_of_next ?_ (by assumption)

theorem keeps_issueLadle (a0) (a1) (a2) (h0 : Keeps q a0) : Keeps q (Sys2Proof.Machine.issueLadle a0 a1 a2) := by
  unfold Sys2Proof.Machine.issueLadle
  repeat'
      first
      | with_reducible assumption | with_reducible apply keeps_newIssue | with_reducible apply keeps_State_updLadle
      | with_reducible apply keeps_getD | intro _ | split | dsimp only | (fail_if_no_progress with_reducible apply keeps_mk)
      | with_reducible refine keeps_of_fst ?_ (by assumption) | with_reducible refine keeps_of_snd ?_ (by assumption)
      | with_reducible refine keeps_of_snd2 ?_ (by assumption) | with_reducible refine keeps_of_some ?_ (by assumption)
      | with_reducible refine keeps_of_next ?_ (by assumption)

theorem keeps_issueScale (a0) (a1) (h0 : Keeps q a0) : Keeps q (Sys2Proof.Machine.issueScale a0 a1) := by
  unfold Sys2Proof.Machine.issueScale
  repeat'
      first
      | with_reducible assumption | with_reducible apply keeps_newIssue | intro _ | split | dsimp only
      | (fail_if_no_progress with_reducible apply keeps_mk) | with_reducible refine keeps_of_fst ?_ (by assumption)
      | with_reducible refine keeps_of_snd ?_ (by assumption) | with_reducible refine keeps_of_snd2 ?_ (by assumption)
      | with_reducible refine keeps_of_some ?_ (by assumption) | with_reducible refine keeps_of_next ?_ (by assumption)

theorem keeps_issueGrid (a0) (a1) (h0 : Keeps q a0) : Keeps q (Sys2Proof.Machine.issueGrid a0 a1) := by
  unfold Sys2Proof.Machine.issueGrid
  repeat'
      first
      | with_reducible assumption | with_reducible apply keeps_newIssue | with_reducible apply keeps_ite_keep | intro _ | split
      | dsimp only | (fail_if_no_progress with_reducible apply keeps_mk) | with_reducible refine keeps_of_fst ?_ (by assumption)
      | with_reducible refine keeps_of_snd ?_ (by assumption) | with_reducible refine keeps_of_snd2 ?_ (by assumption)
      | with_reducible refine keeps_of_some ?_ (by assumption) | with_reducible refine keeps_of_next ?_ (by assumption)

theorem keeps_enterHalted (a0) (a1) (h0 : Keeps q a0) : Keeps q (Sys2Proof.Machine.enterHalted a0 a1) := by
  unfold Sys2Proof.Machine.enterHalted
  repeat'
      first
      | with_reducible assumption | with_reducible apply keeps_cmdState | with_reducible apply keeps_State_updEngine
      | with_reducible apply keeps_ite_keep | intro _ | split | dsimp only | (fail_if_no_progress with_reducible apply keeps_mk)

theorem keeps_finishWord (a0) (a1) (h0 : Keeps q a0) : Keeps q (Sys2Proof.Machine.finishWord a0 a1) := by
  unfold Sys2Proof.Machine.finishWord
  repeat'
      first
      | with_reducible assumption | with_reducible apply keeps_enterHalted | with_reducible apply keeps_endEntry
      | with_reducible apply keeps_State_setEngine | with_reducible apply keeps_State_updEngine | with_reducible apply keeps_ite_keep
      | intro _ | split | dsimp only | (fail_if_no_progress with_reducible apply keeps_mk)
      | with_reducible refine keeps_of_fst ?_ (by assumption) | with_reducible refine keeps_of_snd ?_ (by assumption)
      | with_reducible refine keeps_of_snd2 ?_ (by assumption) | with_reducible refine keeps_of_some ?_ (by assumption)
      | with_reducible refine keeps_of_next ?_ (by assumption)

theorem keeps_faultEngine (a0) (a1) (a2) (a3) (a4) (h0 : Keeps q a0) : Keeps q (Sys2Proof.Machine.faultEngine a0 a1 a2 a3 a4) := by
  unfold Sys2Proof.Machine.faultEngine
  repeat'
      first
      | with_reducible assumption | with_reducible apply keeps_recordFault | with_reducible apply keeps_bump
      | with_reducible apply keeps_State_updEngine | with_reducible apply keeps_ite_keep | intro _ | split | dsimp only
      | (fail_if_no_progress with_reducible apply keeps_mk)

theorem keeps_fetchUnit (a0) (a1) (a2) (h0 : Keeps q a0) : Keeps q (Sys2Proof.Machine.fetchUnit a0 a1 a2).2.2 := by
  unfold Sys2Proof.Machine.fetchUnit
  repeat'
      first
      | with_reducible assumption | with_reducible apply keeps_setImem | with_reducible apply keeps_loadSram
      | with_reducible apply keeps_ite_keep | intro _ | split | dsimp only

theorem keeps_rejectWord (a0) (a1) (a2) (a3) (a4) (h0 : Keeps q a0) : Keeps q (Sys2Proof.Machine.rejectWord a0 a1 a2 a3 a4) := by
  unfold Sys2Proof.Machine.rejectWord
  repeat'
      first
      | with_reducible assumption | with_reducible apply keeps_endEntry | with_reducible apply keeps_cmdState
      | with_reducible apply keeps_State_updEngine | with_reducible apply keeps_faultEngine | with_reducible apply keeps_ite_keep | intro _
      | split | dsimp only | (fail_if_no_progress with_reducible apply keeps_mk) | with_reducible refine keeps_of_fst ?_ (by assumption)
      | with_reducible refine keeps_of_snd ?_ (by assumption) | with_reducible refine keeps_of_snd2 ?_ (by assumption)
      | with_reducible refine keeps_of_some ?_ (by assumption) | with_reducible refine keeps_of_next ?_ (by assumption)

theorem keeps_fetchUnits (a0) (a1) (a2) (a3) (h0 : Keeps q a0) : Keeps q (Sys2Proof.Machine.fetchUnits a0 a1 a2 a3).2.2 := by
  revert h0
  fun_induction Sys2Proof.Machine.fetchUnits a0 a1 a2 a3 <;> intros
  all_goals repeat'
      first
      | with_reducible assumption | with_reducible apply keeps_fetchUnit | intro _ | split | dsimp only
      | with_reducible refine keeps_of_fst ?_ (by assumption) | with_reducible refine keeps_of_snd ?_ (by assumption)
      | with_reducible refine keeps_of_snd2 ?_ (by assumption) | with_reducible refine keeps_of_some ?_ (by assumption)
      | with_reducible refine keeps_of_next ?_ (by assumption) | apply_assumption

theorem keeps_memWait (a0) (a1) (a2) (h0 : Keeps q a0) : Keeps q (Sys2Proof.Machine.memWait a0 a1 a2).1 := by
  unfold Sys2Proof.Machine.memWait
  repeat'
      first
      | with_reducible assumption | with_reducible apply keeps_loadBytes | with_reducible apply keeps_ite_keep | intro _ | split
      | dsimp only

theorem keeps_writeSignal (a0) (a1) (a2) (h0 : Keeps q a0) : Keeps q (Sys2Proof.Machine.writeSignal a0 a1 a2) := by
  unfold Sys2Proof.Machine.writeSignal
  repeat'
      first
      | with_reducible assumption | with_reducible apply keeps_loadBytes | with_reducible apply keeps_storeBytes
      | with_reducible apply keeps_ite_keep | intro _ | split | dsimp only | (fail_if_no_progress with_reducible apply keeps_mk)
      | with_reducible refine keeps_of_fst ?_ (by assumption) | with_reducible refine keeps_of_snd ?_ (by assumption)
      | with_reducible refine keeps_of_snd2 ?_ (by assumption) | with_reducible refine keeps_of_some ?_ (by assumption)
      | with_reducible refine keeps_of_next ?_ (by assumption)

theorem keeps_afterMove (a0) (a1) (a2) (h0 : Keeps q a0) : Keeps q (Sys2Proof.Machine.afterMove a0 a1 a2) := by
  unfold Sys2Proof.Machine.afterMove
  repeat'
      first
      | with_reducible assumption | with_reducible apply keeps_setStage | with_reducible apply keeps_finishWord
      | with_reducible apply keeps_writeSignal | with_reducible apply keeps_ite_keep | intro _ | split | dsimp only
      | (fail_if_no_progress with_reducible apply keeps_mk) | with_reducible refine keeps_of_fst ?_ (by assumption)
      | with_reducible refine keeps_of_snd ?_ (by assumption) | with_reducible refine keeps_of_snd2 ?_ (by assumption)
      | with_reducible refine keeps_of_some ?_ (by assumption) | with_reducible refine keeps_of_next ?_ (by assumption)

theorem keeps_issueWord (a0) (a1) (a2) (h0 : Keeps q a0) : Keeps q (Sys2Proof.Machine.issueWord a0 a1 a2) := by
  unfold Sys2Proof.Machine.issueWord
  repeat'
      first
      | with_reducible assumption | with_reducible apply keeps_issueLadle | with_reducible apply keeps_issueScale
      | with_reducible apply keeps_issueGrid | with_reducible apply keeps_setStage | with_reducible apply keeps_afterMove
      | with_reducible apply keeps_State_updEngine | with_reducible apply keeps_ite_keep | intro _ | split | dsimp only
      | (fail_if_no_progress with_reducible apply keeps_mk) | with_reducible refine keeps_of_fst ?_ (by assumption)
      | with_reducible refine keeps_of_snd ?_ (by assumption) | with_reducible refine keeps_of_snd2 ?_ (by assumption)
      | with_reducible refine keeps_of_some ?_ (by assumption) | with_reducible refine keeps_of_next ?_ (by assumption)

theorem keeps_admitWord (a0) (a1) (a2) (h0 : Keeps q a0) : Keeps q (Sys2Proof.Machine.admitWord a0 a1 a2) := by
  unfold Sys2Proof.Machine.admitWord
  repeat'
      first
      | with_reducible assumption | with_reducible apply keeps_memWait | with_reducible apply keeps_setStage
      | with_reducible apply keeps_State_updEngine | with_reducible apply keeps_issueWord | with_reducible refine keepsOpt_map (fun _ => ?_)
      | with_reducible apply keeps_ite_keep | intro _ | split | dsimp only | (fail_if_no_progress with_reducible apply keeps_mk)
      | with_reducible refine keeps_of_fst ?_ (by assumption) | with_reducible refine keeps_of_snd ?_ (by assumption)
      | with_reducible refine keeps_of_snd2 ?_ (by assumption) | with_reducible refine keeps_of_some ?_ (by assumption)
      | with_reducible refine keeps_of_next ?_ (by assumption)


/-! ## Staging -/

theorem keeps_pickReq (a0) (a1) (a2) (h0 : Keeps q a0) : Keeps q (Sys2Proof.Machine.pickReq a0 a1 a2).2 := by
  unfold Sys2Proof.Machine.pickReq
  repeat'
      first
      | with_reducible assumption | with_reducible apply keeps_freeValue | with_reducible apply keeps_ite_keep | intro _ | split
      | dsimp only | with_reducible refine keeps_of_fst ?_ (by assumption) | with_reducible refine keeps_of_snd ?_ (by assumption)
      | with_reducible refine keeps_of_snd2 ?_ (by assumption) | with_reducible refine keeps_of_some ?_ (by assumption)
      | with_reducible refine keeps_of_next ?_ (by assumption)

theorem keeps_pickBelow (a0) (a1) (h0 : Keeps q a0) : Keeps q (Sys2Proof.Machine.pickBelow a0 a1).2 := by
  unfold Sys2Proof.Machine.pickBelow
  repeat'
      first
      | with_reducible assumption | with_reducible apply keeps_freeValue | with_reducible apply keeps_ite_keep | intro _ | split
      | dsimp only | with_reducible refine keeps_of_fst ?_ (by assumption) | with_reducible refine keeps_of_snd ?_ (by assumption)
      | with_reducible refine keeps_of_snd2 ?_ (by assumption) | with_reducible refine keeps_of_some ?_ (by assumption)
      | with_reducible refine keeps_of_next ?_ (by assumption)

theorem keeps_svcSee (a0) (a1) (a2) (h0 : Keeps q a0) : Keeps q (Sys2Proof.Machine.svcSee a0 a1 a2) := by
  unfold Sys2Proof.Machine.svcSee
  repeat' first | with_reducible assumption | with_reducible apply keeps_loadBytes | intro _ | dsimp only

theorem keeps_svcWrite (a0) (a1) (a2) (h0 : Keeps q a0) : Keeps q (Sys2Proof.Machine.svcWrite a0 a1 a2) := by
  unfold Sys2Proof.Machine.svcWrite
  repeat' first | with_reducible assumption | with_reducible apply keeps_storeBytes | intro _ | dsimp only

theorem keeps_writeEntry (a0) (a1) (a2) (h0 : Keeps q a0) : Keeps q (Sys2Proof.Machine.writeEntry a0 a1 a2) := by
  unfold Sys2Proof.Machine.writeEntry
  repeat' first | with_reducible assumption | with_reducible apply keeps_svcWrite | intro _ | dsimp only

theorem keeps_emptyCutter (a0) (a1) (h0 : Keeps q a0) : Keeps q (Sys2Proof.Machine.emptyCutter a0 a1) := by
  unfold Sys2Proof.Machine.emptyCutter
  repeat'
      first
      | with_reducible assumption | with_reducible apply keeps_svcWrite | intro _ | dsimp only
      | (fail_if_no_progress with_reducible apply keeps_mk)

theorem keeps_stageRecord (a0) (a1) (a2) (a3) (h0 : Keeps q a0) : Keeps q (Sys2Proof.Machine.stageRecord a0 a1 a2 a3) := by
  unfold Sys2Proof.Machine.stageRecord
  repeat'
      first
      | with_reducible assumption | with_reducible apply keeps_pickBelow | with_reducible apply keeps_svcWrite
      | with_reducible refine keepsOpt_map (fun _ => ?_) | intro _ | split | dsimp only
      | (fail_if_no_progress with_reducible apply keeps_mk) | with_reducible refine keeps_of_fst ?_ (by assumption)
      | with_reducible refine keeps_of_snd ?_ (by assumption) | with_reducible refine keeps_of_snd2 ?_ (by assumption)
      | with_reducible refine keeps_of_some ?_ (by assumption) | with_reducible refine keeps_of_next ?_ (by assumption)

theorem keeps_stageSieve (a0) (a1) (a2) (a3) (h0 : Keeps q a0) : Keeps q (Sys2Proof.Machine.stageSieve a0 a1 a2 a3) := by
  unfold Sys2Proof.Machine.stageSieve
  repeat'
      first
      | with_reducible assumption | with_reducible apply keeps_pickReq | with_reducible apply keeps_pickBelow
      | with_reducible apply keeps_svcWrite | with_reducible apply keeps_getD | with_reducible apply keeps_foldl
      | with_reducible apply keeps_foldl_fst | with_reducible apply keeps_foldl_snd | with_reducible apply keeps_foldl_snd2 | intro _
      | split | dsimp only | (fail_if_no_progress with_reducible apply keeps_mk) | with_reducible refine keeps_of_fst ?_ (by assumption)
      | with_reducible refine keeps_of_snd ?_ (by assumption) | with_reducible refine keeps_of_snd2 ?_ (by assumption)
      | with_reducible refine keeps_of_some ?_ (by assumption) | with_reducible refine keeps_of_next ?_ (by assumption)

theorem keeps_cutterPoisoned (a0) (a1) (a2) (h0 : Keeps q a0) : Keeps q (Sys2Proof.Machine.cutterPoisoned a0 a1 a2) := by
  unfold Sys2Proof.Machine.cutterPoisoned
  repeat'
      first
      | with_reducible assumption | with_reducible apply keeps_emptyCutter | with_reducible apply keeps_setStep
      | with_reducible apply keeps_bump | with_reducible refine keepsOpt_map (fun _ => ?_) | with_reducible apply keeps_ite_keep | intro _
      | split | dsimp only | (fail_if_no_progress with_reducible apply keeps_mk)

theorem keeps_stageWord (a0) (a1) (a2) (h0 : Keeps q a0) : Keeps q (Sys2Proof.Machine.stageWord a0 a1 a2) := by
  unfold Sys2Proof.Machine.stageWord
  repeat'
      first
      | with_reducible assumption | with_reducible apply keeps_stageRecord | with_reducible apply keeps_ite_keep | intro _ | split
      | dsimp only | (fail_if_no_progress with_reducible apply keeps_mk) | with_reducible refine keeps_of_fst ?_ (by assumption)
      | with_reducible refine keeps_of_snd ?_ (by assumption) | with_reducible refine keeps_of_snd2 ?_ (by assumption)
      | with_reducible refine keeps_of_some ?_ (by assumption) | with_reducible refine keeps_of_next ?_ (by assumption)

theorem keeps_cutterRecord (a0) (a1) (a2) (a3) (h0 : Keeps q a0) : Keeps q (Sys2Proof.Machine.cutterRecord a0 a1 a2 a3).2 := by
  unfold Sys2Proof.Machine.cutterRecord
  repeat'
      first
      | with_reducible assumption | with_reducible apply keeps_loadBytes | with_reducible apply keeps_cutterPoisoned
      | with_reducible apply keeps_ite_keep | intro _ | split | dsimp only

theorem keeps_stageCutters (a0) (a1) (a2) (a3) (a4) (h0 : Keeps q a0) : Keeps q (Sys2Proof.Machine.stageCutters a0 a1 a2 a3 a4) := by
  unfold Sys2Proof.Machine.stageCutters
  repeat'
      first
      | with_reducible assumption | with_reducible apply keeps_pickReq | with_reducible apply keeps_cutterRecord
      | with_reducible apply keeps_svcWrite | with_reducible apply keeps_foldl | with_reducible apply keeps_foldl_fst
      | with_reducible apply keeps_foldl_snd | with_reducible apply keeps_foldl_snd2 | intro _ | split | dsimp only
      | (fail_if_no_progress with_reducible apply keeps_mk) | with_reducible refine keeps_of_fst ?_ (by assumption)
      | with_reducible refine keeps_of_snd ?_ (by assumption) | with_reducible refine keeps_of_snd2 ?_ (by assumption)
      | with_reducible refine keeps_of_some ?_ (by assumption) | with_reducible refine keeps_of_next ?_ (by assumption)

theorem keeps_stageSlot (a0) (a1) (a2) (h0 : Keeps q a0) : Keeps q (Sys2Proof.Machine.stageSlot a0 a1 a2) := by
  unfold Sys2Proof.Machine.stageSlot
  repeat'
      first
      | with_reducible assumption | with_reducible apply keeps_stageCutters | with_reducible apply keeps_ite_keep | intro _ | split
      | dsimp only | (fail_if_no_progress with_reducible apply keeps_mk) | with_reducible refine keeps_of_fst ?_ (by assumption)
      | with_reducible refine keeps_of_snd ?_ (by assumption) | with_reducible refine keeps_of_snd2 ?_ (by assumption)
      | with_reducible refine keeps_of_some ?_ (by assumption) | with_reducible refine keeps_of_next ?_ (by assumption)

theorem keeps_stageSweep (a0) (a1) (h0 : Keeps q a0) : Keeps q (Sys2Proof.Machine.stageSweep a0 a1) := by
  unfold Sys2Proof.Machine.stageSweep
  repeat'
      first
      | with_reducible assumption | with_reducible apply keeps_stageSieve | with_reducible apply keeps_stageCutters
      | with_reducible apply keeps_ite_keep | intro _ | split | dsimp only | (fail_if_no_progress with_reducible apply keeps_mk)
      | with_reducible refine keeps_of_fst ?_ (by assumption) | with_reducible refine keeps_of_snd ?_ (by assumption)
      | with_reducible refine keeps_of_snd2 ?_ (by assumption) | with_reducible refine keeps_of_some ?_ (by assumption)
      | with_reducible refine keeps_of_next ?_ (by assumption)

theorem keeps_execCutapply (a0) (a1) (a2) (h2 : Keeps q a2) : KeepsRes q (Sys2Proof.Machine.execCutapply a0 a1 a2) := by
  unfold Sys2Proof.Machine.execCutapply
  repeat'
      first
      | with_reducible assumption | with_reducible apply keeps_runCutapplySlot | with_reducible apply keeps_stageSlot
      | with_reducible apply keepsRes_next | with_reducible exact keepsRes_fault _ | with_reducible exact keepsRes_refused _ | intro _
      | dsimp only

theorem keeps_execMm (a0) (a1) (a2) (h2 : Keeps q a2) : KeepsRes q (Sys2Proof.Machine.execMm a0 a1 a2) := by
  unfold Sys2Proof.Machine.execMm
  repeat'
      first
      | with_reducible assumption | with_reducible apply keeps_stageSweep | with_reducible apply keeps_runSweep
      | with_reducible apply keepsRes_next | with_reducible exact keepsRes_fault _ | with_reducible exact keepsRes_refused _ | intro _
      | dsimp only


/-! ## Engines -/

theorem keeps_withSeq (a0) (a1) (a2) (h0 : Keeps q a0) (h2 : ∀ x0, KeepsRes q (a2 x0)) : KeepsRes q (Sys2Proof.Machine.withSeq a0 a1 a2) := by
  unfold Sys2Proof.Machine.withSeq
  repeat'
      first
      | with_reducible assumption | with_reducible apply h2 | with_reducible apply keepsRes_next | with_reducible exact keepsRes_fault _
      | with_reducible exact keepsRes_refused _ | with_reducible apply keepsRes_ite | with_reducible apply keeps_ite_keep | intro _ | split
      | dsimp only

theorem keeps_withCtrl (a0) (a1) (a2) (a3) (h0 : Keeps q a0) (h3 : Keeps q a3) : KeepsRes q (Sys2Proof.Machine.withCtrl a0 a1 a2 a3) := by
  unfold Sys2Proof.Machine.withCtrl
  repeat'
      first
      | with_reducible assumption | with_reducible apply keeps_withSeq | with_reducible apply keepsRes_next
      | with_reducible exact keepsRes_fault _ | with_reducible exact keepsRes_refused _ | with_reducible apply keepsRes_ite
      | with_reducible apply keeps_ite_keep | intro _ | split | dsimp only

theorem keeps_noteQueue (a0) (a1) (a2) (h0 : Keeps q a0) : Keeps q (Sys2Proof.Machine.noteQueue a0 a1 a2) := by
  unfold Sys2Proof.Machine.noteQueue
  repeat'
      first
      | with_reducible assumption | with_reducible apply keeps_setStep | with_reducible apply keeps_ite_keep | intro _ | split
      | dsimp only | (fail_if_no_progress with_reducible apply keeps_mk) | with_reducible refine keeps_of_fst ?_ (by assumption)
      | with_reducible refine keeps_of_snd ?_ (by assumption) | with_reducible refine keeps_of_snd2 ?_ (by assumption)
      | with_reducible refine keeps_of_some ?_ (by assumption) | with_reducible refine keeps_of_next ?_ (by assumption)

theorem keeps_beginStop (a0) (a1) (a2) (h0 : Keeps q a0) : Keeps q (Sys2Proof.Machine.beginStop a0 a1 a2) := by
  unfold Sys2Proof.Machine.beginStop
  repeat'
      first
      | with_reducible assumption | with_reducible apply keeps_State_updEngine | intro _ | dsimp only
      | (fail_if_no_progress with_reducible apply keeps_mk)

theorem keeps_takeEntry (a0) (a1) (a2) (a3) (a4) (h0 : Keeps q a0) : Keeps q (Sys2Proof.Machine.takeEntry a0 a1 a2 a3 a4) := by
  unfold Sys2Proof.Machine.takeEntry
  repeat'
      first
      | with_reducible assumption | with_reducible apply keeps_State_updEngine | with_reducible apply keeps_ite_keep | intro _ | split
      | dsimp only | (fail_if_no_progress with_reducible apply keeps_mk)

theorem keeps_setA (a0) (a1) (a2) (a3) (h0 : Keeps q a0) : Keeps q (Sys2Proof.Machine.setA a0 a1 a2 a3) := by
  unfold Sys2Proof.Machine.setA
  repeat'
      first
      | with_reducible assumption | with_reducible apply keeps_State_updEngine | intro _ | dsimp only
      | (fail_if_no_progress with_reducible apply keeps_mk)

theorem keeps_execQentryStep (a0) (a1) (h1 : Keeps q a1) : KeepsRes q (Sys2Proof.Machine.execQentryStep a0 a1) := by
  unfold Sys2Proof.Machine.execQentryStep
  repeat'
      first
      | with_reducible assumption | with_reducible apply keeps_takeEntry | with_reducible apply keeps_withSeq
      | with_reducible apply keeps_State_updEngine | with_reducible apply keepsRes_next | with_reducible exact keepsRes_fault _
      | with_reducible exact keepsRes_refused _ | with_reducible apply keepsOpt_some | with_reducible exact keepsOpt_none
      | with_reducible refine keepsOpt_map (fun _ => ?_) | with_reducible apply keepsRes_ite | with_reducible apply keeps_ite_keep | intro _
      | split | dsimp only | (fail_if_no_progress with_reducible apply keeps_mk) | with_reducible refine keeps_of_fst ?_ (by assumption)
      | with_reducible refine keeps_of_snd ?_ (by assumption) | with_reducible refine keeps_of_snd2 ?_ (by assumption)
      | with_reducible refine keeps_of_some ?_ (by assumption) | with_reducible refine keeps_of_next ?_ (by assumption)

theorem keeps_execQentryCall (a0) (a1) (h1 : Keeps q a1) : KeepsRes q (Sys2Proof.Machine.execQentryCall a0 a1) := by
  unfold Sys2Proof.Machine.execQentryCall
  repeat'
      first
      | with_reducible assumption | with_reducible apply keeps_takeEntry | with_reducible apply keeps_withSeq
      | with_reducible apply keeps_State_updEngine | with_reducible apply keepsRes_next | with_reducible exact keepsRes_fault _
      | with_reducible exact keepsRes_refused _ | with_reducible apply keeps_foldl | with_reducible apply keeps_foldl_fst
      | with_reducible apply keeps_foldl_snd | with_reducible apply keeps_foldl_snd2 | with_reducible apply keepsRes_ite
      | with_reducible apply keeps_ite_keep | intro _ | split | dsimp only | (fail_if_no_progress with_reducible apply keeps_mk)
      | with_reducible refine keeps_of_fst ?_ (by assumption) | with_reducible refine keeps_of_snd ?_ (by assumption)
      | with_reducible refine keeps_of_snd2 ?_ (by assumption) | with_reducible refine keeps_of_some ?_ (by assumption)
      | with_reducible refine keeps_of_next ?_ (by assumption)

theorem keeps_execQentryFlip (a0) (a1) (h1 : Keeps q a1) : KeepsRes q (Sys2Proof.Machine.execQentryFlip a0 a1) := by
  unfold Sys2Proof.Machine.execQentryFlip
  repeat'
      first
      | with_reducible assumption | with_reducible apply keeps_State_updEngine | with_reducible apply keeps_takeEntry
      | with_reducible apply keeps_withSeq | with_reducible apply keepsRes_next | with_reducible exact keepsRes_fault _
      | with_reducible exact keepsRes_refused _ | with_reducible apply keepsRes_ite | with_reducible apply keeps_ite_keep | intro _ | split
      | dsimp only | (fail_if_no_progress with_reducible apply keeps_mk) | with_reducible refine keeps_of_fst ?_ (by assumption)
      | with_reducible refine keeps_of_snd ?_ (by assumption) | with_reducible refine keeps_of_snd2 ?_ (by assumption)
      | with_reducible refine keeps_of_some ?_ (by assumption) | with_reducible refine keeps_of_next ?_ (by assumption)

theorem keeps_execCtrlStop (a0) (a1) (a2) (h2 : Keeps q a2) : KeepsRes q (Sys2Proof.Machine.execCtrlStop a0 a1 a2) := by
  unfold Sys2Proof.Machine.execCtrlStop
  repeat'
      first
      | with_reducible assumption | with_reducible apply keeps_withCtrl | with_reducible apply keeps_beginStop
      | with_reducible apply keepsRes_next | with_reducible exact keepsRes_fault _ | with_reducible exact keepsRes_refused _ | intro _
      | dsimp only

theorem keeps_execBankflip (a0) (a1) (h1 : Keeps q a1) : KeepsRes q (Sys2Proof.Machine.execBankflip a0 a1) := by
  unfold Sys2Proof.Machine.execBankflip
  repeat'
      first
      | with_reducible assumption | with_reducible apply keeps_State_updEngine | with_reducible apply keeps_withCtrl
      | with_reducible apply keeps_enterHalted | with_reducible apply keepsRes_next | with_reducible exact keepsRes_fault _
      | with_reducible exact keepsRes_refused _ | with_reducible apply keepsRes_ite | with_reducible apply keeps_ite_keep | intro _ | split
      | dsimp only

theorem keeps_jumpTo (a0) (a1) (a2) (h0 : Keeps q a0) : Keeps q (Sys2Proof.Machine.jumpTo a0 a1 a2) := by
  unfold Sys2Proof.Machine.jumpTo
  repeat'
      first
      | with_reducible assumption | with_reducible apply keeps_finishWord | with_reducible apply keeps_State_updEngine
      | with_reducible apply keeps_ite_keep | intro _ | split | dsimp only | (fail_if_no_progress with_reducible apply keeps_mk)
      | with_reducible refine keeps_of_fst ?_ (by assumption) | with_reducible refine keeps_of_snd ?_ (by assumption)
      | with_reducible refine keeps_of_snd2 ?_ (by assumption) | with_reducible refine keeps_of_some ?_ (by assumption)
      | with_reducible refine keeps_of_next ?_ (by assumption)

theorem keeps_execCtrlHalt (a0) (a1) (h1 : Keeps q a1) : KeepsRes q (Sys2Proof.Machine.execCtrlHalt a0 a1) := by
  unfold Sys2Proof.Machine.execCtrlHalt
  repeat'
      first
      | with_reducible assumption | with_reducible apply keeps_withCtrl | with_reducible apply keeps_finishWord
      | with_reducible apply keeps_enterHalted | with_reducible apply keepsRes_next | with_reducible exact keepsRes_fault _
      | with_reducible exact keepsRes_refused _ | intro _ | dsimp only

theorem keeps_execAdda (a0) (a1) (a2) (a3) (a4) (h4 : Keeps q a4) : KeepsRes q (Sys2Proof.Machine.execAdda a0 a1 a2 a3 a4) := by
  unfold Sys2Proof.Machine.execAdda
  repeat'
      first
      | with_reducible assumption | with_reducible apply keeps_withCtrl | with_reducible apply keeps_finishWord
      | with_reducible apply keeps_setA | with_reducible apply keepsRes_next | with_reducible exact keepsRes_fault _
      | with_reducible exact keepsRes_refused _ | intro _ | dsimp only

theorem keeps_execSeta (a0) (a1) (a2) (a3) (h3 : Keeps q a3) : KeepsRes q (Sys2Proof.Machine.execSeta a0 a1 a2 a3) := by
  unfold Sys2Proof.Machine.execSeta
  repeat'
      first
      | with_reducible assumption | with_reducible apply keeps_withCtrl | with_reducible apply keeps_finishWord
      | with_reducible apply keeps_setA | with_reducible apply keepsRes_next | with_reducible exact keepsRes_fault _
      | with_reducible exact keepsRes_refused _ | intro _ | dsimp only

theorem keeps_execMaddc (a0) (a1) (a2) (a3) (a4) (a5) (h5 : Keeps q a5) : KeepsRes q (Sys2Proof.Machine.execMaddc a0 a1 a2 a3 a4 a5) := by
  unfold Sys2Proof.Machine.execMaddc
  repeat'
      first
      | with_reducible assumption | with_reducible apply keeps_withCtrl | with_reducible apply keeps_finishWord
      | with_reducible apply keeps_setA | with_reducible apply keepsRes_next | with_reducible exact keepsRes_fault _
      | with_reducible exact keepsRes_refused _ | intro _ | dsimp only

theorem keeps_execSetc (a0) (a1) (a2) (a3) (h3 : Keeps q a3) : KeepsRes q (Sys2Proof.Machine.execSetc a0 a1 a2 a3) := by
  unfold Sys2Proof.Machine.execSetc
  repeat'
      first
      | with_reducible assumption | with_reducible apply keeps_withCtrl | with_reducible apply keeps_finishWord
      | with_reducible apply keeps_State_updEngine | with_reducible apply keepsRes_next | with_reducible exact keepsRes_fault _
      | with_reducible exact keepsRes_refused _ | intro _ | dsimp only | (fail_if_no_progress with_reducible apply keeps_mk)

theorem keeps_execLoop (a0) (a1) (a2) (a3) (h3 : Keeps q a3) : KeepsRes q (Sys2Proof.Machine.execLoop a0 a1 a2 a3) := by
  unfold Sys2Proof.Machine.execLoop
  repeat'
      first
      | with_reducible assumption | with_reducible apply keeps_jumpTo | with_reducible apply keeps_withCtrl
      | with_reducible apply keeps_finishWord | with_reducible apply keeps_State_updEngine | with_reducible apply keepsRes_next
      | with_reducible exact keepsRes_fault _ | with_reducible exact keepsRes_refused _ | with_reducible apply keepsRes_ite
      | with_reducible apply keeps_ite_keep | intro _ | split | dsimp only | (fail_if_no_progress with_reducible apply keeps_mk)

theorem keeps_execJcz (a0) (a1) (a2) (a3) (h3 : Keeps q a3) : KeepsRes q (Sys2Proof.Machine.execJcz a0 a1 a2 a3) := by
  unfold Sys2Proof.Machine.execJcz
  repeat'
      first
      | with_reducible assumption | with_reducible apply keeps_jumpTo | with_reducible apply keeps_withCtrl
      | with_reducible apply keeps_finishWord | with_reducible apply keepsRes_next | with_reducible exact keepsRes_fault _
      | with_reducible exact keepsRes_refused _ | with_reducible apply keepsRes_ite | with_reducible apply keeps_ite_keep | intro _ | split
      | dsimp only

theorem keeps_execJump (a0) (a1) (a2) (h2 : Keeps q a2) : KeepsRes q (Sys2Proof.Machine.execJump a0 a1 a2) := by
  unfold Sys2Proof.Machine.execJump
  repeat'
      first
      | with_reducible assumption | with_reducible apply keeps_withCtrl | with_reducible apply keeps_jumpTo
      | with_reducible apply keepsRes_next | with_reducible exact keepsRes_fault _ | with_reducible exact keepsRes_refused _ | intro _
      | dsimp only

theorem keeps_execRet (a0) (a1) (h1 : Keeps q a1) : KeepsRes q (Sys2Proof.Machine.execRet a0 a1) := by
  unfold Sys2Proof.Machine.execRet
  repeat'
      first
      | with_reducible assumption | with_reducible apply keeps_beginStop | with_reducible apply keeps_enterHalted
      | with_reducible apply keeps_jumpTo | with_reducible apply keeps_endEntry | with_reducible apply keeps_withCtrl
      | with_reducible apply keeps_State_updEngine | with_reducible apply keepsRes_next | with_reducible exact keepsRes_fault _
      | with_reducible exact keepsRes_refused _ | with_reducible refine wf_stack (q := q) ?_ _ | with_reducible apply keepsRes_ite
      | with_reducible apply keeps_ite_keep | with_reducible apply wf_ite | intro _ | split | dsimp only
      | (fail_if_no_progress with_reducible apply keeps_mk) | (fail_if_no_progress with_reducible apply wf_mk)
      | with_reducible refine keeps_of_fst ?_ (by assumption) | with_reducible refine keeps_of_snd ?_ (by assumption)
      | with_reducible refine keeps_of_snd2 ?_ (by assumption) | with_reducible refine keeps_of_some ?_ (by assumption)
      | with_reducible refine keeps_of_next ?_ (by assumption)

theorem keeps_execCall (a0) (a1) (a2) (h2 : Keeps q a2) : KeepsRes q (Sys2Proof.Machine.execCall a0 a1 a2) := by
  unfold Sys2Proof.Machine.execCall
  repeat'
      first
      | with_reducible assumption | with_reducible apply keeps_jumpTo | with_reducible apply keeps_withCtrl
      | with_reducible apply keeps_finishWord | with_reducible apply keeps_State_updEngine | with_reducible apply keeps_faultEngine
      | with_reducible apply keepsRes_next | with_reducible exact keepsRes_fault _ | with_reducible exact keepsRes_refused _
      | with_reducible apply keepsOpt_some | with_reducible exact keepsOpt_none | with_reducible refine wf_stack (q := q) ?_ _
      | with_reducible apply keepsRes_ite | with_reducible apply keeps_ite_keep | with_reducible apply wf_ite | intro _ | split | dsimp only
      | (fail_if_no_progress with_reducible apply keeps_mk) | (fail_if_no_progress with_reducible apply wf_mk)
      | with_reducible refine keeps_of_fst ?_ (by assumption) | with_reducible refine keeps_of_snd ?_ (by assumption)
      | with_reducible refine keeps_of_snd2 ?_ (by assumption) | with_reducible refine keeps_of_some ?_ (by assumption)
      | with_reducible refine keeps_of_next ?_ (by assumption)

theorem keeps_fetchWord (a0) (a1) (h0 : Keeps q a0) : Keeps q (Sys2Proof.Machine.fetchWord a0 a1).1 := by
  unfold Sys2Proof.Machine.fetchWord
  repeat'
      first
      | with_reducible assumption | with_reducible apply keeps_fetchUnit | with_reducible apply keeps_State_updEngine
      | with_reducible apply keeps_faultEngine | with_reducible apply keeps_fetchUnits | with_reducible apply keeps_ite_keep | intro _
      | split | dsimp only | (fail_if_no_progress with_reducible apply keeps_mk) | with_reducible refine keeps_of_fst ?_ (by assumption)
      | with_reducible refine keeps_of_snd ?_ (by assumption) | with_reducible refine keeps_of_snd2 ?_ (by assumption)
      | with_reducible refine keeps_of_some ?_ (by assumption) | with_reducible refine keeps_of_next ?_ (by assumption)

theorem keeps_execNest (a0) (a1) (h1 : Keeps q a1) : KeepsRes q (Sys2Proof.Machine.execNest a0 a1) := by
  unfold Sys2Proof.Machine.execNest
  repeat'
      first
      | with_reducible assumption | with_reducible apply keeps_withSeq | with_reducible apply keeps_rejectWord
      | with_reducible apply keeps_State_updEngine | with_reducible apply keeps_fetchWord | with_reducible apply keepsRes_next
      | with_reducible exact keepsRes_fault _ | with_reducible exact keepsRes_refused _ | with_reducible apply keepsOpt_some
      | with_reducible exact keepsOpt_none | with_reducible refine keepsOpt_map (fun _ => ?_) | with_reducible apply keeps_getD
      | with_reducible apply keepsRes_ite | with_reducible apply keeps_ite_keep | intro _ | split | dsimp only
      | (fail_if_no_progress with_reducible apply keeps_mk) | with_reducible refine keeps_of_fst ?_ (by assumption)
      | with_reducible refine keeps_of_snd ?_ (by assumption) | with_reducible refine keeps_of_snd2 ?_ (by assumption)
      | with_reducible refine keeps_of_some ?_ (by assumption) | with_reducible refine keeps_of_next ?_ (by assumption)

theorem keeps_execSeqQueuePost (a0) (a1) (a2) (a3) (a4) (a5) (a6) (h6 : Keeps q a6) : KeepsRes q (Sys2Proof.Machine.execSeqQueuePost a0 a1 a2 a3 a4 a5 a6) := by
  unfold Sys2Proof.Machine.execSeqQueuePost
  generalize postTargetOf _ = p
  have post (s o) (h : Keeps q s) : Keeps q (postBurst s (a0 * 64) o a4 a5).2 := keeps_postBurst _ _ _ _ _ h
  generalize a0 * 64 = k at post ⊢
  dsimp only
  cases p with
  | seq e =>
    dsimp only
    split
    · exact keepsRes_next h6
    · exact keepsRes_next (keeps_ite (fun _ => post _ _ (keeps_noteQueue _ _ _ h6)) (fun _ => keeps_badPost64 _ _ h6))
  | core n => exact keepsRes_next (keeps_ite (fun _ => post _ _ h6) (fun _ => keeps_badPost64 _ _ h6))
  | taskPool n => exact keepsRes_next (keeps_ite (fun _ => post _ _ h6) (fun _ => h6))
  | move t n => exact keepsRes_next (keeps_ite (fun _ => post _ _ h6) (fun _ => keeps_badPostMove _ _ _ h6))
  | coll => exact keepsRes_next (keeps_ite (fun _ => post _ _ h6) (fun _ => keeps_badPostColl _ h6))
  | none => exact keepsRes_next h6

theorem keeps_execSyncMemPoll (a0) (a1) (h1 : Keeps q a1) : KeepsRes q (Sys2Proof.Machine.execSyncMemPoll a0 a1) := by
  unfold Sys2Proof.Machine.execSyncMemPoll
  repeat'
      first
      | with_reducible assumption | with_reducible apply keeps_whenFree | with_reducible apply keeps_withSeq
      | with_reducible apply keeps_memWait | with_reducible apply keeps_State_updEngine | with_reducible apply keepsRes_next
      | with_reducible exact keepsRes_fault _ | with_reducible exact keepsRes_refused _ | with_reducible apply keepsOpt_some
      | with_reducible exact keepsOpt_none | with_reducible refine keepsOpt_map (fun _ => ?_) | with_reducible apply keepsRes_ite
      | with_reducible apply keeps_ite_keep | intro _ | split | dsimp only | (fail_if_no_progress with_reducible apply keeps_mk)
      | with_reducible refine keeps_of_fst ?_ (by assumption) | with_reducible refine keeps_of_snd ?_ (by assumption)
      | with_reducible refine keeps_of_snd2 ?_ (by assumption) | with_reducible refine keeps_of_some ?_ (by assumption)
      | with_reducible refine keeps_of_next ?_ (by assumption)

theorem keeps_completeRun (a0) (a1) (a2) (h0 : Keeps q a0) : Keeps q (Sys2Proof.Machine.completeRun a0 a1 a2) := by
  unfold Sys2Proof.Machine.completeRun
  repeat'
      first
      | with_reducible assumption | with_reducible apply keeps_completeEntry | with_reducible apply keeps_State_setEngine
      | with_reducible apply keeps_storeBytes | with_reducible apply keeps_ite_keep | intro _ | split | dsimp only
      | (fail_if_no_progress with_reducible apply keeps_mk)

theorem keeps_execMovePost (a0) (a1) (h1 : Keeps q a1) : KeepsRes q (Sys2Proof.Machine.execMovePost a0 a1) := by
  unfold Sys2Proof.Machine.execMovePost
  repeat'
      first
      | with_reducible assumption | with_reducible apply keeps_newIssue | with_reducible apply keeps_loadBytes
      | with_reducible apply keeps_whenFree | with_reducible apply keeps_withSeq | with_reducible apply keeps_slotDone
      | with_reducible apply keeps_afterMove | with_reducible apply keeps_postMove | with_reducible apply keepsRes_next
      | with_reducible exact keepsRes_fault _ | with_reducible exact keepsRes_refused _ | with_reducible apply keepsOpt_some
      | with_reducible exact keepsOpt_none | with_reducible apply keepsRes_ite | with_reducible apply keeps_ite_keep | intro _ | split
      | dsimp only | (fail_if_no_progress with_reducible apply keeps_mk) | with_reducible refine keeps_of_fst ?_ (by assumption)
      | with_reducible refine keeps_of_snd ?_ (by assumption) | with_reducible refine keeps_of_snd2 ?_ (by assumption)
      | with_reducible refine keeps_of_some ?_ (by assumption) | with_reducible refine keeps_of_next ?_ (by assumption)

theorem keeps_execSyncWaitEnd (a0) (a1) (h1 : Keeps q a1) : KeepsRes q (Sys2Proof.Machine.execSyncWaitEnd a0 a1) := by
  unfold Sys2Proof.Machine.execSyncWaitEnd
  repeat'
      first
      | with_reducible assumption | with_reducible apply keeps_whenFree | with_reducible apply keeps_withSeq
      | with_reducible apply keeps_setStage | with_reducible apply keeps_issueWord | with_reducible apply keepsRes_next
      | with_reducible exact keepsRes_fault _ | with_reducible exact keepsRes_refused _ | with_reducible apply keepsOpt_some
      | with_reducible exact keepsOpt_none | with_reducible apply keepsRes_ite | with_reducible apply keeps_ite_keep | intro _ | split
      | dsimp only | (fail_if_no_progress with_reducible apply keeps_mk) | with_reducible refine keeps_of_fst ?_ (by assumption)
      | with_reducible refine keeps_of_snd ?_ (by assumption) | with_reducible refine keeps_of_snd2 ?_ (by assumption)
      | with_reducible refine keeps_of_some ?_ (by assumption) | with_reducible refine keeps_of_next ?_ (by assumption)

theorem keeps_execEntryComplete (a0) (a1) (h1 : Keeps q a1) : KeepsRes q (Sys2Proof.Machine.execEntryComplete a0 a1) := by
  unfold Sys2Proof.Machine.execEntryComplete
  repeat'
      first
      | with_reducible assumption | with_reducible apply keeps_whenFree | with_reducible apply keeps_withSeq
      | with_reducible apply keeps_completeRun | with_reducible apply keepsRes_next | with_reducible exact keepsRes_fault _
      | with_reducible exact keepsRes_refused _ | with_reducible apply keepsOpt_some | with_reducible exact keepsOpt_none
      | with_reducible apply keepsRes_ite | with_reducible apply keeps_ite_keep | intro _ | split | dsimp only
      | (fail_if_no_progress with_reducible apply keeps_mk) | with_reducible refine keeps_of_fst ?_ (by assumption)
      | with_reducible refine keeps_of_snd ?_ (by assumption) | with_reducible refine keeps_of_snd2 ?_ (by assumption)
      | with_reducible refine keeps_of_some ?_ (by assumption) | with_reducible refine keeps_of_next ?_ (by assumption)

theorem keeps_tryWord (a0) (a1) (a2) (h0 : Keeps q a0) : Keeps q (Sys2Proof.Machine.tryWord a0 a1 a2) := by
  unfold Sys2Proof.Machine.tryWord
  repeat'
      first
      | with_reducible assumption | with_reducible apply keeps_stageWord | with_reducible apply keeps_rejectWord
      | with_reducible apply keeps_admitWord | with_reducible apply keeps_ite_keep | intro _ | split | dsimp only

theorem keeps_execStepWordIssue (a0) (a1) (h1 : Keeps q a1) : KeepsRes q (Sys2Proof.Machine.execStepWordIssue a0 a1) := by
  unfold Sys2Proof.Machine.execStepWordIssue
  repeat'
      first
      | with_reducible assumption | with_reducible apply keeps_tryWord | with_reducible apply keeps_whenFree
      | with_reducible apply keeps_withSeq | with_reducible apply keeps_State_updEngine | with_reducible apply keeps_fetchWord
      | with_reducible apply keeps_issueWord | with_reducible apply keepsRes_next | with_reducible exact keepsRes_fault _
      | with_reducible exact keepsRes_refused _ | with_reducible apply keepsOpt_some | with_reducible exact keepsOpt_none
      | with_reducible apply keeps_getD | with_reducible apply keepsRes_ite | with_reducible apply keeps_ite_keep | intro _ | split
      | dsimp only | (fail_if_no_progress with_reducible apply keeps_mk) | with_reducible refine keeps_of_fst ?_ (by assumption)
      | with_reducible refine keeps_of_snd ?_ (by assumption) | with_reducible refine keeps_of_snd2 ?_ (by assumption)
      | with_reducible refine keeps_of_some ?_ (by assumption) | with_reducible refine keeps_of_next ?_ (by assumption)


/-! ## Regs -/

theorem keeps_putStack (a0) (a1) (a2) (a3) (a4) (a5) (a6) (h0 : Keeps q a0) : Keeps q (Sys2Proof.Machine.putStack a0 a1 a2 a3 a4 a5 a6) := by
  unfold Sys2Proof.Machine.putStack
  repeat'
      first
      | with_reducible assumption | with_reducible apply keeps_State_updLadle | with_reducible apply keeps_setStack
      | with_reducible refine wf_stack (q := q) ?_ _ | with_reducible apply keeps_ite_keep | with_reducible apply wf_ite | intro _ | split
      | dsimp only | (fail_if_no_progress with_reducible apply keeps_mk) | (fail_if_no_progress with_reducible apply wf_mk)
      | with_reducible refine keeps_of_fst ?_ (by assumption) | with_reducible refine keeps_of_snd ?_ (by assumption)
      | with_reducible refine keeps_of_snd2 ?_ (by assumption) | with_reducible refine keeps_of_some ?_ (by assumption)
      | with_reducible refine keeps_of_next ?_ (by assumption)

theorem keeps_badPostAt (a0) (a1) (h0 : Keeps q a0) : KeepsOpt q (Sys2Proof.Machine.badPostAt a0 a1) := by
  unfold Sys2Proof.Machine.badPostAt
  repeat'
      first
      | with_reducible assumption | with_reducible apply keeps_badPostMove | with_reducible apply keeps_badPost64
      | with_reducible apply keepsOpt_some | with_reducible exact keepsOpt_none | intro _ | split | dsimp only
      | (fail_if_no_progress with_reducible apply keeps_mk) | with_reducible refine keeps_of_fst ?_ (by assumption)
      | with_reducible refine keeps_of_snd ?_ (by assumption) | with_reducible refine keeps_of_snd2 ?_ (by assumption)
      | with_reducible refine keeps_of_some ?_ (by assumption) | with_reducible refine keeps_of_next ?_ (by assumption)

theorem keeps_putEng (a0) (a1) (a2) (a3) (a4) (h0 : Keeps q a0) : Keeps q (Sys2Proof.Machine.putEng a0 a1 a2 a3 a4) := by
  unfold Sys2Proof.Machine.putEng
  repeat'
      first
      | with_reducible assumption | with_reducible apply keeps_cmdState | with_reducible apply keeps_State_setEngine
      | with_reducible apply keeps_ite_keep | intro _ | split | dsimp only | (fail_if_no_progress with_reducible apply keeps_mk)
      | with_reducible refine keeps_of_fst ?_ (by assumption) | with_reducible refine keeps_of_snd ?_ (by assumption)
      | with_reducible refine keeps_of_snd2 ?_ (by assumption) | with_reducible refine keeps_of_some ?_ (by assumption)
      | with_reducible refine keeps_of_next ?_ (by assumption)

theorem keeps_putUnit (a0) (a1) (a2) (a3) (a4) (a5) (h0 : Keeps q a0) : Keeps q (Sys2Proof.Machine.putUnit a0 a1 a2 a3 a4 a5) := by
  unfold Sys2Proof.Machine.putUnit
  repeat'
      first
      | with_reducible assumption | with_reducible apply keeps_State_updWalker | with_reducible apply keeps_State_updMover
      | with_reducible apply keeps_putEng | with_reducible apply keeps_putStack | with_reducible refine wf_stack (q := q) ?_ _
      | with_reducible apply keeps_ite_keep | with_reducible apply wf_ite | intro _ | split | dsimp only
      | (fail_if_no_progress with_reducible apply keeps_mk) | (fail_if_no_progress with_reducible apply wf_mk)
      | with_reducible refine keeps_of_fst ?_ (by assumption) | with_reducible refine keeps_of_snd ?_ (by assumption)
      | with_reducible refine keeps_of_snd2 ?_ (by assumption) | with_reducible refine keeps_of_some ?_ (by assumption)
      | with_reducible refine keeps_of_next ?_ (by assumption)


/-! ## WalkOps -/

theorem keeps_invalidateTenant (a0) (a1) (h0 : Keeps q a0) : Keeps q (Sys2Proof.Machine.invalidateTenant a0 a1) := by
  unfold Sys2Proof.Machine.invalidateTenant
  repeat'
      first
      | with_reducible assumption | with_reducible refine keepsOpt_map (fun _ => ?_) | with_reducible apply keeps_ite_keep | intro _
      | split | dsimp only | (fail_if_no_progress with_reducible apply keeps_mk)

theorem keeps_State_updThread (a0) (a1) (a2) (a3) (h0 : Keeps q a0) : Keeps q (Sys2Proof.Machine.State.updThread a0 a1 a2 a3) := by
  unfold Sys2Proof.Machine.State.updThread
  repeat'
      first
      | with_reducible assumption | with_reducible apply keeps_State_updWalker | intro _ | dsimp only
      | (fail_if_no_progress with_reducible apply keeps_mk)

theorem keeps_endTask (a0) (a1) (a2) (h0 : Keeps q a0) : Keeps q (Sys2Proof.Machine.endTask a0 a1 a2) := by
  unfold Sys2Proof.Machine.endTask
  repeat'
      first
      | with_reducible assumption | with_reducible apply keeps_State_updWalker | with_reducible apply keeps_State_updThread
      | with_reducible apply keeps_completeEntry | with_reducible apply keeps_storeBytes | with_reducible apply keeps_bump
      | with_reducible apply keeps_ite_keep | intro _ | split | dsimp only | (fail_if_no_progress with_reducible apply keeps_mk)

theorem keeps_settleThread (a0) (a1) (a2) (h0 : Keeps q a0) : Keeps q (Sys2Proof.Machine.settleThread a0 a1 a2) := by
  unfold Sys2Proof.Machine.settleThread
  repeat'
      first
      | with_reducible assumption | with_reducible apply keeps_endTask | with_reducible apply keeps_ite_keep | intro _ | split
      | dsimp only | (fail_if_no_progress with_reducible apply keeps_mk) | with_reducible refine keeps_of_fst ?_ (by assumption)
      | with_reducible refine keeps_of_snd ?_ (by assumption) | with_reducible refine keeps_of_snd2 ?_ (by assumption)
      | with_reducible refine keeps_of_some ?_ (by assumption) | with_reducible refine keeps_of_next ?_ (by assumption)

theorem keeps_stopThreadAt (a0) (a1) (a2) (a3) (a4) (h0 : Keeps q a0) : Keeps q (Sys2Proof.Machine.stopThreadAt a0 a1 a2 a3 a4) := by
  unfold Sys2Proof.Machine.stopThreadAt
  repeat'
      first
      | with_reducible assumption | with_reducible apply keeps_setSummary | with_reducible apply keeps_State_updWalker
      | with_reducible apply keeps_setTenantFault | with_reducible apply keeps_State_updThread | with_reducible apply keeps_settleThread
      | with_reducible apply keeps_recordFault | with_reducible apply keeps_bump | intro _ | dsimp only
      | (fail_if_no_progress with_reducible apply keeps_mk)

theorem keeps_abandonThreads (a0) (a1) (h0 : Keeps q a0) : Keeps q (Sys2Proof.Machine.abandonThreads a0 a1) := by
  unfold Sys2Proof.Machine.abandonThreads
  repeat'
      first
      | with_reducible assumption | with_reducible apply keeps_State_updThread | with_reducible apply keeps_settleThread
      | with_reducible apply keeps_foldl | with_reducible apply keeps_foldl_fst | with_reducible apply keeps_foldl_snd
      | with_reducible apply keeps_foldl_snd2 | with_reducible apply keeps_ite_keep | intro _ | split | dsimp only
      | (fail_if_no_progress with_reducible apply keeps_mk)

theorem keeps_stopThread (a0) (a1) (a2) (a3) (h0 : Keeps q a0) : Keeps q (Sys2Proof.Machine.stopThread a0 a1 a2 a3) := by
  unfold Sys2Proof.Machine.stopThread
  repeat'
      first
      | with_reducible assumption | with_reducible apply keeps_State_updThread | with_reducible apply keeps_stopThreadAt | intro _
      | dsimp only | (fail_if_no_progress with_reducible apply keeps_mk)


/-! ## EngineCmds -/

theorem keeps_withEngine (a0) (a1) (a2) (h0 : Keeps q a0) (h2 : ∀ x0, KeepsRes q (a2 x0)) : KeepsRes q (Sys2Proof.Machine.withEngine a0 a1 a2) := by
  unfold Sys2Proof.Machine.withEngine
  repeat'
      first
      | with_reducible assumption | with_reducible apply h2 | with_reducible apply keepsRes_next | with_reducible exact keepsRes_fault _
      | with_reducible exact keepsRes_refused _ | with_reducible apply keepsRes_ite | with_reducible apply keeps_ite_keep | intro _ | split
      | dsimp only

theorem keeps_noteCmd (a0) (a1) (a2) (a3) (a4) (h0 : Keeps q a0) : Keeps q (Sys2Proof.Machine.noteCmd a0 a1 a2 a3 a4) := by
  unfold Sys2Proof.Machine.noteCmd
  repeat'
      first
      | with_reducible assumption | with_reducible apply keeps_cmdState | with_reducible apply keeps_State_updEngine | intro _
      | dsimp only | (fail_if_no_progress with_reducible apply keeps_mk)

theorem keeps_endDrain (a0) (a1) (a2) (h0 : Keeps q a0) : Keeps q (Sys2Proof.Machine.endDrain a0 a1 a2) := by
  unfold Sys2Proof.Machine.endDrain
  repeat'
      first
      | with_reducible assumption | with_reducible apply keeps_cmdState | with_reducible apply keeps_State_updEngine
      | with_reducible refine wf_stack (q := q) ?_ _ | with_reducible apply keeps_ite_keep | with_reducible apply wf_ite | intro _ | split
      | dsimp only | (fail_if_no_progress with_reducible apply keeps_mk) | (fail_if_no_progress with_reducible apply wf_mk)
      | with_reducible refine keeps_of_fst ?_ (by assumption) | with_reducible refine keeps_of_snd ?_ (by assumption)
      | with_reducible refine keeps_of_snd2 ?_ (by assumption) | with_reducible refine keeps_of_some ?_ (by assumption)
      | with_reducible refine keeps_of_next ?_ (by assumption)

theorem keeps_execEngineDrainEnd (a0) (a1) (h1 : Keeps q a1) : KeepsRes q (Sys2Proof.Machine.execEngineDrainEnd a0 a1) := by
  unfold Sys2Proof.Machine.execEngineDrainEnd
  repeat'
      first
      | with_reducible assumption | with_reducible apply keeps_withEngine | with_reducible apply keeps_endDrain
      | with_reducible apply keepsRes_next | with_reducible exact keepsRes_fault _ | with_reducible exact keepsRes_refused _
      | with_reducible apply keepsOpt_some | with_reducible exact keepsOpt_none | with_reducible apply keepsRes_ite
      | with_reducible apply keeps_ite_keep | intro _ | split | dsimp only | (fail_if_no_progress with_reducible apply keeps_mk)
      | with_reducible refine keeps_of_fst ?_ (by assumption) | with_reducible refine keeps_of_snd ?_ (by assumption)
      | with_reducible refine keeps_of_snd2 ?_ (by assumption) | with_reducible refine keeps_of_some ?_ (by assumption)
      | with_reducible refine keeps_of_next ?_ (by assumption)

theorem keeps_execEngineWatchdog (a0) (a1) (h1 : Keeps q a1) : KeepsRes q (Sys2Proof.Machine.execEngineWatchdog a0 a1) := by
  unfold Sys2Proof.Machine.execEngineWatchdog
  repeat'
      first
      | with_reducible assumption | with_reducible apply keeps_withSeq | with_reducible apply keeps_faultEngine
      | with_reducible apply keepsRes_next | with_reducible exact keepsRes_fault _ | with_reducible exact keepsRes_refused _
      | with_reducible apply keepsOpt_some | with_reducible exact keepsOpt_none | with_reducible apply keepsRes_ite
      | with_reducible apply keeps_ite_keep | intro _ | split | dsimp only | (fail_if_no_progress with_reducible apply keeps_mk)
      | with_reducible refine keeps_of_fst ?_ (by assumption) | with_reducible refine keeps_of_snd ?_ (by assumption)
      | with_reducible refine keeps_of_snd2 ?_ (by assumption) | with_reducible refine keeps_of_some ?_ (by assumption)
      | with_reducible refine keeps_of_next ?_ (by assumption)

theorem keeps_discardEntry (a0) (a1) (a2) (h0 : Keeps q a0) : Keeps q (Sys2Proof.Machine.discardEntry a0 a1 a2) := by
  unfold Sys2Proof.Machine.discardEntry
  repeat' first | with_reducible assumption | with_reducible apply keeps_completeEntry | intro _ | dsimp only

theorem keeps_discardQueue (a0) (a1) (h0 : Keeps q a0) : Keeps q (Sys2Proof.Machine.discardQueue a0 a1) := by
  unfold Sys2Proof.Machine.discardQueue
  repeat'
      first
      | with_reducible assumption | with_reducible apply keeps_discardEntry | with_reducible apply keeps_State_updEngine
      | with_reducible apply keeps_foldl | with_reducible apply keeps_foldl_fst | with_reducible apply keeps_foldl_snd
      | with_reducible apply keeps_foldl_snd2 | intro _ | dsimp only | (fail_if_no_progress with_reducible apply keeps_mk)

theorem keeps_stopEngine (a0) (a1) (a2) (h0 : Keeps q a0) : Keeps q (Sys2Proof.Machine.stopEngine a0 a1 a2) := by
  unfold Sys2Proof.Machine.stopEngine
  repeat'
      first
      | with_reducible assumption | with_reducible apply keeps_beginStop | with_reducible apply keeps_abandonThreads
      | with_reducible apply keeps_ite_keep | intro _ | split | dsimp only

theorem keeps_engCommand (a0) (a1) (a2) (a3) (a4) (a5) (a6) (a7) (h0 : Keeps q a0) (h7 : Keeps q a7) : Keeps q (Sys2Proof.Machine.engCommand a0 a1 a2 a3 a4 a5 a6 a7) := by
  unfold Sys2Proof.Machine.engCommand
  repeat'
      first
      | with_reducible assumption | with_reducible apply keeps_cmdState | with_reducible apply keeps_noteCmd
      | with_reducible apply keeps_ite_keep | intro _ | split | dsimp only

theorem keeps_execStartService (a0) (a1) (a2) (a3) (a4) (h4 : Keeps q a4) : KeepsRes q (Sys2Proof.Machine.execStartService a0 a1 a2 a3 a4) := by
  unfold Sys2Proof.Machine.execStartService
  repeat'
      first
      | with_reducible assumption | with_reducible apply keeps_engCommand | with_reducible apply keeps_withEngine
      | with_reducible apply keeps_State_updEngine | with_reducible apply keepsRes_next | with_reducible exact keepsRes_fault _
      | with_reducible exact keepsRes_refused _ | with_reducible refine wf_stack (q := q) ?_ _ | with_reducible apply keepsRes_ite
      | with_reducible apply keeps_ite_keep | with_reducible apply wf_ite | intro _ | split | dsimp only
      | (fail_if_no_progress with_reducible apply keeps_mk) | (fail_if_no_progress with_reducible apply wf_mk)

theorem keeps_execEngHalt (a0) (a1) (a2) (a3) (a4) (h4 : Keeps q a4) : KeepsRes q (Sys2Proof.Machine.execEngHalt a0 a1 a2 a3 a4) := by
  unfold Sys2Proof.Machine.execEngHalt
  repeat'
      first
      | with_reducible assumption | with_reducible apply keeps_engCommand | with_reducible apply keeps_withEngine
      | with_reducible apply keeps_State_updEngine | with_reducible apply keepsRes_next | with_reducible exact keepsRes_fault _
      | with_reducible exact keepsRes_refused _ | with_reducible apply keepsRes_ite | with_reducible apply keeps_ite_keep | intro _ | split
      | dsimp only | (fail_if_no_progress with_reducible apply keeps_mk)

theorem keeps_execEngResume (a0) (a1) (a2) (a3) (a4) (h4 : Keeps q a4) : KeepsRes q (Sys2Proof.Machine.execEngResume a0 a1 a2 a3 a4) := by
  unfold Sys2Proof.Machine.execEngResume
  repeat'
      first
      | with_reducible assumption | with_reducible apply keeps_engCommand | with_reducible apply keeps_withEngine
      | with_reducible apply keeps_State_updEngine | with_reducible apply keepsRes_next | with_reducible exact keepsRes_fault _
      | with_reducible exact keepsRes_refused _ | with_reducible refine keepsOpt_map (fun _ => ?_) | with_reducible apply keepsRes_ite
      | with_reducible apply keeps_ite_keep | intro _ | split | dsimp only | (fail_if_no_progress with_reducible apply keeps_mk)

theorem keeps_execSelect (a0) (a1) (a2) (a3) (a4) (a5) (h5 : Keeps q a5) : KeepsRes q (Sys2Proof.Machine.execSelect a0 a1 a2 a3 a4 a5) := by
  unfold Sys2Proof.Machine.execSelect
  repeat'
      first
      | with_reducible assumption | with_reducible apply keeps_State_updEngine | with_reducible apply keeps_engCommand
      | with_reducible apply keeps_withEngine | with_reducible apply keepsRes_next | with_reducible exact keepsRes_fault _
      | with_reducible exact keepsRes_refused _ | with_reducible apply keepsRes_ite | with_reducible apply keeps_ite_keep | intro _ | split
      | dsimp only

theorem keeps_execClearq (a0) (a1) (a2) (a3) (a4) (h4 : Keeps q a4) : KeepsRes q (Sys2Proof.Machine.execClearq a0 a1 a2 a3 a4) := by
  unfold Sys2Proof.Machine.execClearq
  repeat'
      first
      | with_reducible assumption | with_reducible apply keeps_discardQueue | with_reducible apply keeps_engCommand
      | with_reducible apply keeps_withEngine | with_reducible apply keepsRes_next | with_reducible exact keepsRes_fault _
      | with_reducible exact keepsRes_refused _ | with_reducible apply keepsRes_ite | with_reducible apply keeps_ite_keep | intro _ | split
      | dsimp only

theorem keeps_execEngStop (a0) (a1) (a2) (a3) (a4) (a5) (h5 : Keeps q a5) : KeepsRes q (Sys2Proof.Machine.execEngStop a0 a1 a2 a3 a4 a5) := by
  unfold Sys2Proof.Machine.execEngStop
  repeat'
      first
      | with_reducible assumption | with_reducible apply keeps_stopEngine | with_reducible apply keeps_engCommand
      | with_reducible apply keeps_withEngine | with_reducible apply keepsRes_next | with_reducible exact keepsRes_fault _
      | with_reducible exact keepsRes_refused _ | with_reducible apply keepsRes_ite | with_reducible apply keeps_ite_keep | intro _ | split
      | dsimp only

theorem keeps_execStartNest (a0) (a1) (a2) (a3) (a4) (h4 : Keeps q a4) : KeepsRes q (Sys2Proof.Machine.execStartNest a0 a1 a2 a3 a4) := by
  unfold Sys2Proof.Machine.execStartNest
  repeat'
      first
      | with_reducible assumption | with_reducible apply keeps_engCommand | with_reducible apply keeps_withEngine
      | with_reducible apply keeps_State_updEngine | with_reducible apply keepsRes_next | with_reducible exact keepsRes_fault _
      | with_reducible exact keepsRes_refused _ | with_reducible refine wf_stack (q := q) ?_ _ | with_reducible apply keepsRes_ite
      | with_reducible apply keeps_ite_keep | with_reducible apply wf_ite | intro _ | split | dsimp only
      | (fail_if_no_progress with_reducible apply keeps_mk) | (fail_if_no_progress with_reducible apply wf_mk)

theorem keeps_execCommit (a0) (a1) (a2) (a3) (a4) (a5) (a6) (a7) (h7 : Keeps q a7) : KeepsRes q (Sys2Proof.Machine.execCommit a0 a1 a2 a3 a4 a5 a6 a7) := by
  unfold Sys2Proof.Machine.execCommit
  repeat'
      first
      | with_reducible assumption | with_reducible apply keeps_State_updEngine | with_reducible apply keeps_engCommand
      | with_reducible apply keeps_withEngine | with_reducible apply keepsRes_next | with_reducible exact keepsRes_fault _
      | with_reducible exact keepsRes_refused _ | intro _ | dsimp only

theorem keeps_writeEngCmd (a0) (a1) (a2) (a3) (a4) (h4 : Keeps q a4) : Keeps q (Sys2Proof.Machine.writeEngCmd a0 a1 a2 a3 a4) := by
  unfold Sys2Proof.Machine.writeEngCmd
  repeat'
      first
      | with_reducible assumption | with_reducible apply keeps_execStartService | with_reducible apply keeps_execEngResume
      | with_reducible apply keeps_execSelect | with_reducible apply keeps_execClearq | with_reducible apply keeps_execEngStop
      | with_reducible apply keeps_engCommand | with_reducible apply keeps_execEngHalt | with_reducible apply keeps_execStartNest
      | with_reducible apply keeps_execCommit | intro _ | split | dsimp only | (fail_if_no_progress with_reducible apply keeps_mk)
      | with_reducible refine keeps_of_fst ?_ (by assumption) | with_reducible refine keeps_of_snd ?_ (by assumption)
      | with_reducible refine keeps_of_snd2 ?_ (by assumption) | with_reducible refine keeps_of_some ?_ (by assumption)
      | with_reducible refine keeps_of_next ?_ (by assumption)


/-! ## WordCode -/

theorem keeps_execFrameEnterTest (a0) (a1) (a2) (a3) (a4) (h4 : Keeps q a4) : KeepsRes q (Sys2Proof.Machine.execFrameEnterTest a0 a1 a2 a3 a4) := by
  unfold Sys2Proof.Machine.execFrameEnterTest
  repeat'
      first
      | with_reducible assumption | with_reducible apply keepsRes_next | with_reducible exact keepsRes_fault _
      | with_reducible exact keepsRes_refused _ | with_reducible apply keeps_setStack | with_reducible refine wf_stack (q := q) ?_ _
      | with_reducible apply keepsRes_ite | with_reducible apply keeps_ite_keep | with_reducible apply wf_ite | intro _ | split | dsimp only
      | (fail_if_no_progress with_reducible apply keeps_mk) | (fail_if_no_progress with_reducible apply wf_mk)

theorem keeps_rawRefused (a0) (h0 : a0.wf = true) : (Sys2Proof.Machine.rawRefused a0).wf = true := by
  unfold Sys2Proof.Machine.rawRefused
  repeat'
      first
      | with_reducible assumption | with_reducible refine wf_stack (q := q) ?_ _ | intro _ | dsimp only
      | (fail_if_no_progress with_reducible apply keeps_mk) | (fail_if_no_progress with_reducible apply wf_mk)

theorem keeps_execFieldRepairWrite (a0) (h0 : Keeps q a0) : KeepsRes q (Sys2Proof.Machine.execFieldRepairWrite a0) := by
  unfold Sys2Proof.Machine.execFieldRepairWrite
  repeat'
      first
      | with_reducible assumption | with_reducible apply keepsRes_next | with_reducible exact keepsRes_fault _
      | with_reducible exact keepsRes_refused _ | with_reducible apply keepsRes_ite | with_reducible apply keeps_ite_keep | intro _ | split
      | dsimp only | (fail_if_no_progress with_reducible apply keeps_mk) | with_reducible refine keeps_of_fst ?_ (by assumption)
      | with_reducible refine keeps_of_snd ?_ (by assumption) | with_reducible refine keeps_of_snd2 ?_ (by assumption)
      | with_reducible refine keeps_of_some ?_ (by assumption) | with_reducible refine keeps_of_next ?_ (by assumption)

theorem keeps_clearFrame (a0) (a1) (h0 : a0.wf = true) : (Sys2Proof.Machine.clearFrame a0 a1).wf = true := by
  unfold Sys2Proof.Machine.clearFrame
  apply wf_foldl _ _ h0
  intro t b ht
  exact keeps_clearRow t _ _ ht

theorem keeps_zeroFrame (a0) (a1) (h0 : a0.wf = true) : (Sys2Proof.Machine.zeroFrame a0 a1).wf = true := by
  unfold Sys2Proof.Machine.zeroFrame
  apply wf_foldl _ _ h0
  intro t b ht
  refine wf_foldl (fun z w => Sys2Proof.Machine.rawWrite z _ _ w 0) (List.range 64) (wf_rowValid ht (mapWf_mapSet (wf_iff.1 ht).2.2 _ _)) ?_
  intro t b ht
  exact keeps_rawWrite t _ _ b 0 ht

theorem keeps_recordRaw (a0) (a1) (a2) (a3) (a4) (a5) (h0 : Keeps q a0) : Keeps q (Sys2Proof.Machine.recordRaw a0 a1 a2 a3 a4 a5) := by
  unfold Sys2Proof.Machine.recordRaw
  repeat'
      first
      | with_reducible assumption | with_reducible apply keeps_recordTest | with_reducible apply keeps_updStack
      | with_reducible refine wf_stack (q := q) ?_ _ | intro _ | dsimp only

theorem keeps_leaveTestFrame (a0) (a1) (h0 : a0.wf = true) : (Sys2Proof.Machine.leaveTestFrame a0 a1).wf = true := by
  unfold Sys2Proof.Machine.leaveTestFrame
  repeat'
      first
      | with_reducible assumption | with_reducible apply keeps_clearFrame | with_reducible refine wf_stack (q := q) ?_ _
      | with_reducible apply keeps_ite_keep | with_reducible apply wf_ite | intro _ | split | dsimp only
      | (fail_if_no_progress with_reducible apply keeps_mk) | (fail_if_no_progress with_reducible apply wf_mk)

theorem keeps_rawTestWrite (a0) (a1) (a2) (a3) (a4) (h4 : Keeps q a4) : KeepsRes q (Sys2Proof.Machine.rawTestWrite a0 a1 a2 a3 a4) := by
  unfold Sys2Proof.Machine.rawTestWrite
  repeat'
      first
      | with_reducible assumption | with_reducible apply keeps_openRow | with_reducible apply keeps_rawRefused
      | with_reducible apply keeps_recordRaw | with_reducible apply keeps_rawWrite | with_reducible apply keepsRes_next
      | with_reducible exact keepsRes_fault _ | with_reducible exact keepsRes_refused _ | with_reducible apply keepsOpt_some
      | with_reducible exact keepsOpt_none | with_reducible apply keeps_updStack | with_reducible refine wf_stack (q := q) ?_ _
      | with_reducible apply keepsRes_ite | with_reducible apply keeps_ite_keep | with_reducible apply wf_ite | intro _ | split | dsimp only
      | (fail_if_no_progress with_reducible apply keeps_mk) | (fail_if_no_progress with_reducible apply wf_mk)
      | with_reducible refine keeps_of_fst ?_ (by assumption) | with_reducible refine keeps_of_snd ?_ (by assumption)
      | with_reducible refine keeps_of_snd2 ?_ (by assumption) | with_reducible refine keeps_of_some ?_ (by assumption)
      | with_reducible refine keeps_of_next ?_ (by assumption)

theorem keeps_rawTestRead (a0) (a1) (a2) (a3) (a4) (h4 : Keeps q a4) : KeepsRes q (Sys2Proof.Machine.rawTestRead a0 a1 a2 a3 a4) := by
  unfold Sys2Proof.Machine.rawTestRead
  repeat'
      first
      | with_reducible assumption | with_reducible apply keeps_rawRefused | with_reducible apply keeps_recordRaw
      | with_reducible apply keepsRes_next | with_reducible exact keepsRes_fault _ | with_reducible exact keepsRes_refused _
      | with_reducible apply keepsOpt_some | with_reducible exact keepsOpt_none | with_reducible apply keeps_updStack
      | with_reducible refine wf_stack (q := q) ?_ _ | with_reducible apply keepsRes_ite | with_reducible apply keeps_ite_keep
      | with_reducible apply wf_ite | intro _ | split | dsimp only | (fail_if_no_progress with_reducible apply keeps_mk)
      | (fail_if_no_progress with_reducible apply wf_mk) | with_reducible refine keeps_of_fst ?_ (by assumption)
      | with_reducible refine keeps_of_snd ?_ (by assumption) | with_reducible refine keeps_of_snd2 ?_ (by assumption)
      | with_reducible refine keeps_of_some ?_ (by assumption) | with_reducible refine keeps_of_next ?_ (by assumption)

theorem keeps_execFrameTestEntered (a0) (a1) (h1 : Keeps q a1) : KeepsRes q (Sys2Proof.Machine.execFrameTestEntered a0 a1) := by
  unfold Sys2Proof.Machine.execFrameTestEntered
  repeat'
      first
      | with_reducible assumption | with_reducible apply keeps_zeroFrame | with_reducible apply keepsRes_next
      | with_reducible exact keepsRes_fault _ | with_reducible exact keepsRes_refused _ | with_reducible apply keeps_setStack
      | with_reducible refine wf_stack (q := q) ?_ _ | intro _ | split | dsimp only | (fail_if_no_progress with_reducible apply keeps_mk)
      | (fail_if_no_progress with_reducible apply wf_mk) | with_reducible refine keeps_of_fst ?_ (by assumption)
      | with_reducible refine keeps_of_snd ?_ (by assumption) | with_reducible refine keeps_of_snd2 ?_ (by assumption)
      | with_reducible refine keeps_of_some ?_ (by assumption) | with_reducible refine keeps_of_next ?_ (by assumption)

theorem keeps_whiskLapEnd (a0) (a1) (h0 : Keeps q a0) : Keeps q (Sys2Proof.Machine.whiskLapEnd a0 a1) := by
  unfold Sys2Proof.Machine.whiskLapEnd
  repeat'
      first
      | with_reducible assumption | with_reducible apply keeps_dset | with_reducible apply keeps_setStack
      | with_reducible refine wf_stack (q := q) ?_ _ | intro _ | dsimp only | (fail_if_no_progress with_reducible apply keeps_mk)
      | (fail_if_no_progress with_reducible apply wf_mk)

theorem keeps_execRetirePendingDonor (a0) (a1) (h1 : Keeps q a1) : KeepsRes q (Sys2Proof.Machine.execRetirePendingDonor a0 a1) := by
  unfold Sys2Proof.Machine.execRetirePendingDonor
  repeat'
      first
      | with_reducible assumption | with_reducible apply keeps_beginMigration | with_reducible apply keeps_dset
      | with_reducible apply keepsRes_next | with_reducible exact keepsRes_fault _ | with_reducible exact keepsRes_refused _
      | with_reducible apply keepsOpt_some | with_reducible exact keepsOpt_none | with_reducible apply keeps_setStack
      | with_reducible refine wf_stack (q := q) ?_ _ | with_reducible apply keepsRes_ite | with_reducible apply keeps_ite_keep
      | with_reducible apply wf_ite | intro _ | split | dsimp only | (fail_if_no_progress with_reducible apply keeps_mk)
      | (fail_if_no_progress with_reducible apply wf_mk) | with_reducible refine keeps_of_fst ?_ (by assumption)
      | with_reducible refine keeps_of_snd ?_ (by assumption) | with_reducible refine keeps_of_snd2 ?_ (by assumption)
      | with_reducible refine keeps_of_some ?_ (by assumption) | with_reducible refine keeps_of_next ?_ (by assumption)

theorem keeps_execFrameLeaveTest (a0) (a1) (a2) (a3) (a4) (h4 : Keeps q a4) : KeepsRes q (Sys2Proof.Machine.execFrameLeaveTest a0 a1 a2 a3 a4) := by
  unfold Sys2Proof.Machine.execFrameLeaveTest
  repeat'
      first
      | with_reducible assumption | with_reducible apply keeps_leaveTestFrame | with_reducible apply keepsRes_next
      | with_reducible exact keepsRes_fault _ | with_reducible exact keepsRes_refused _ | with_reducible apply keeps_setStack
      | with_reducible refine wf_stack (q := q) ?_ _ | with_reducible apply keepsRes_ite | with_reducible apply keeps_ite_keep
      | with_reducible apply wf_ite | intro _ | split | dsimp only | (fail_if_no_progress with_reducible apply keeps_mk)
      | (fail_if_no_progress with_reducible apply wf_mk)

theorem keeps_execWrdata (a0) (a1) (a2) (a3) (h3 : Keeps q a3) : KeepsRes q (Sys2Proof.Machine.execWrdata a0 a1 a2 a3) := by
  unfold Sys2Proof.Machine.execWrdata
  repeat'
      first
      | with_reducible assumption | with_reducible apply keeps_rawTestWrite | with_reducible apply keepsRes_next
      | with_reducible exact keepsRes_fault _ | with_reducible exact keepsRes_refused _ | intro _ | dsimp only

theorem keeps_execRdraw (a0) (a1) (a2) (a3) (h3 : Keeps q a3) : KeepsRes q (Sys2Proof.Machine.execRdraw a0 a1 a2 a3) := by
  unfold Sys2Proof.Machine.execRdraw
  repeat'
      first
      | with_reducible assumption | with_reducible apply keeps_rawTestRead | with_reducible apply keepsRes_next
      | with_reducible exact keepsRes_fault _ | with_reducible exact keepsRes_refused _ | intro _ | dsimp only

theorem keeps_execWrchk (a0) (a1) (a2) (a3) (h3 : Keeps q a3) : KeepsRes q (Sys2Proof.Machine.execWrchk a0 a1 a2 a3) := by
  unfold Sys2Proof.Machine.execWrchk
  repeat'
      first
      | with_reducible assumption | with_reducible apply keeps_rawTestWrite | with_reducible apply keepsRes_next
      | with_reducible exact keepsRes_fault _ | with_reducible exact keepsRes_refused _ | intro _ | dsimp only

theorem keeps_execRddec (a0) (a1) (a2) (a3) (h3 : Keeps q a3) : KeepsRes q (Sys2Proof.Machine.execRddec a0 a1 a2 a3) := by
  unfold Sys2Proof.Machine.execRddec
  repeat'
      first
      | with_reducible assumption | with_reducible apply keeps_rawTestRead | with_reducible apply keepsRes_next
      | with_reducible exact keepsRes_fault _ | with_reducible exact keepsRes_refused _ | intro _ | dsimp only

theorem keeps_execWrboth (a0) (a1) (a2) (a3) (h3 : Keeps q a3) : KeepsRes q (Sys2Proof.Machine.execWrboth a0 a1 a2 a3) := by
  unfold Sys2Proof.Machine.execWrboth
  repeat'
      first
      | with_reducible assumption | with_reducible apply keeps_rawTestWrite | with_reducible apply keepsRes_next
      | with_reducible exact keepsRes_fault _ | with_reducible exact keepsRes_refused _ | intro _ | dsimp only

theorem keeps_migrateWord (a0) (a1) (a2) (a3) (a4) (h0 : Keeps q a0) : Keeps q (Sys2Proof.Machine.migrateWord a0 a1 a2 a3 a4) := by
  unfold Sys2Proof.Machine.migrateWord
  exact keeps_ite (fun _ => keeps_ite (fun _ => keeps_bump _ _ _ _ (keeps_storeCell _ _ _ _ _ _ h0)) (fun _ => keeps_storeCell _ _ _ _ _ _ h0))
    (fun _ => keeps_setStack _ h0 (keeps_clearRow _ _ _ (wf_stack h0 _)))

theorem keeps_migrateFrame (a0) (a1) (a2) (a3) (h0 : Keeps q a0) : Keeps q (Sys2Proof.Machine.migrateFrame a0 a1 a2 a3) := by
  unfold Sys2Proof.Machine.migrateFrame
  repeat'
      first
      | with_reducible assumption | with_reducible apply keeps_migrateWord | with_reducible apply keeps_foldl
      | with_reducible apply keeps_foldl_fst | with_reducible apply keeps_foldl_snd | with_reducible apply keeps_foldl_snd2 | intro _
      | split | dsimp only

theorem keeps_degradeStack (a0) (a1) (h0 : Keeps q a0) : Keeps q (Sys2Proof.Machine.degradeStack a0 a1) := by
  unfold Sys2Proof.Machine.degradeStack
  repeat'
      first
      | with_reducible assumption | with_reducible apply keeps_recordStack | with_reducible apply keeps_dset
      | with_reducible apply keeps_updStack | with_reducible refine wf_stack (q := q) ?_ _ | intro _ | dsimp only
      | (fail_if_no_progress with_reducible apply keeps_mk) | (fail_if_no_progress with_reducible apply wf_mk)

theorem keeps_execWhiskSlow (a0) (a1) (h1 : Keeps q a1) : KeepsRes q (Sys2Proof.Machine.execWhiskSlow a0 a1) := by
  unfold Sys2Proof.Machine.execWhiskSlow
  repeat'
      first
      | with_reducible assumption | with_reducible apply keeps_recordStack | with_reducible apply keepsRes_next
      | with_reducible exact keepsRes_fault _ | with_reducible exact keepsRes_refused _ | with_reducible apply keeps_setStack
      | with_reducible refine wf_stack (q := q) ?_ _ | with_reducible apply keepsRes_ite | with_reducible apply keeps_ite_keep
      | with_reducible apply wf_ite | intro _ | split | dsimp only | (fail_if_no_progress with_reducible apply keeps_mk)
      | (fail_if_no_progress with_reducible apply wf_mk)

theorem keeps_countRetired (a0) (a1) (h0 : Keeps q a0) : Keeps q (Sys2Proof.Machine.countRetired a0 a1) := by
  unfold Sys2Proof.Machine.countRetired
  repeat'
      first
      | with_reducible assumption | with_reducible apply keeps_dset | with_reducible apply keeps_degradeStack
      | with_reducible refine wf_stack (q := q) ?_ _ | with_reducible apply keeps_ite_keep | with_reducible apply wf_ite | intro _ | split
      | dsimp only

theorem keeps_whiskWords (a0) (a1) (a2) (a3) (a4) (h0 : Keeps q a0) : Keeps q (Sys2Proof.Machine.whiskWords a0 a1 a2 a3 a4) := by
  revert h0
  fun_induction Sys2Proof.Machine.whiskWords a0 a1 a2 a3 a4 <;> intros
  all_goals repeat'
      first
      | with_reducible assumption | with_reducible apply keeps_loadCell | with_reducible refine wf_stack (q := q) ?_ _ | intro _ | split
      | dsimp only | (fail_if_no_progress with_reducible apply keeps_mk) | (fail_if_no_progress with_reducible apply wf_mk)
      | with_reducible refine keeps_of_fst ?_ (by assumption) | with_reducible refine keeps_of_snd ?_ (by assumption)
      | with_reducible refine keeps_of_snd2 ?_ (by assumption) | with_reducible refine keeps_of_some ?_ (by assumption)
      | with_reducible refine keeps_of_next ?_ (by assumption) | apply_assumption

theorem keeps_whiskPot (a0) (a1) (h0 : Keeps q a0) : Keeps q (Sys2Proof.Machine.whiskPot a0 a1) := by
  unfold Sys2Proof.Machine.whiskPot
  repeat'
      first
      | with_reducible assumption | with_reducible apply keeps_loadWords | with_reducible apply keeps_dset
      | with_reducible apply keeps_ite_keep | intro _ | split | dsimp only | (fail_if_no_progress with_reducible apply keeps_mk)

theorem keeps_execWhiskRow (a0) (a1) (a2) (a3) (h3 : Keeps q a3) : KeepsRes q (Sys2Proof.Machine.execWhiskRow a0 a1 a2 a3) := by
  unfold Sys2Proof.Machine.execWhiskRow
  repeat'
      first
      | with_reducible assumption | with_reducible apply keeps_whiskWords | with_reducible apply keeps_whiskLapEnd
      | with_reducible apply keeps_whiskPot | with_reducible apply keeps_rawWrite | with_reducible apply keepsRes_next
      | with_reducible exact keepsRes_fault _ | with_reducible exact keepsRes_refused _ | with_reducible apply keeps_foldl
      | with_reducible apply keeps_foldl_fst | with_reducible apply keeps_foldl_snd | with_reducible apply keeps_foldl_snd2
      | with_reducible apply wf_foldl | with_reducible apply keeps_setStack | with_reducible refine wf_stack (q := q) ?_ _
      | with_reducible apply keepsRes_ite | with_reducible apply keeps_ite_keep | with_reducible apply wf_ite | intro _ | split | dsimp only
      | (fail_if_no_progress with_reducible apply keeps_mk) | (fail_if_no_progress with_reducible apply wf_mk)
      | with_reducible refine keeps_of_fst ?_ (by assumption) | with_reducible refine keeps_of_snd ?_ (by assumption)
      | with_reducible refine keeps_of_snd2 ?_ (by assumption) | with_reducible refine keeps_of_some ?_ (by assumption)
      | with_reducible refine keeps_of_next ?_ (by assumption)

theorem keeps_retireFrame (a0) (a1) (a2) (a3) (a4) (h0 : Keeps q a0) : Keeps q (Sys2Proof.Machine.retireFrame a0 a1 a2 a3 a4) := by
  unfold Sys2Proof.Machine.retireFrame
  repeat'
      first
      | with_reducible assumption | with_reducible apply keeps_migrateFrame | with_reducible apply keeps_recordStack
      | with_reducible apply keeps_releaseHeld | with_reducible apply keeps_queueRepair | with_reducible apply keeps_countRetired
      | with_reducible apply keeps_setStack | with_reducible refine wf_stack (q := q) ?_ _ | intro _ | dsimp only
      | (fail_if_no_progress with_reducible apply keeps_mk) | (fail_if_no_progress with_reducible apply wf_mk)


/-! ## RegCmds -/

theorem keeps_afterRes (a0) (a1) (h0 : Keeps q a0) (h1 : KeepsRes q a1) : Keeps q (Sys2Proof.Machine.afterRes a0 a1) := by
  unfold Sys2Proof.Machine.afterRes
  cases a1 <;> first | exact h1 | exact h0

theorem keeps_refuseTest (a0) (a1) (a2) (a3) (h0 : Keeps q a0) : Keeps q (Sys2Proof.Machine.refuseTest a0 a1 a2 a3) := by
  unfold Sys2Proof.Machine.refuseTest
  repeat'
      first
      | with_reducible assumption | with_reducible apply keeps_rawRefused | with_reducible apply keeps_setStack
      | with_reducible refine wf_stack (q := q) ?_ _ | with_reducible apply keeps_ite_keep | with_reducible apply wf_ite | intro _ | split
      | dsimp only

theorem keeps_writeTframe (a0) (a1) (a2) (a3) (a4) (h0 : Keeps q a0) : Keeps q (Sys2Proof.Machine.writeTframe a0 a1 a2 a3 a4) := by
  unfold Sys2Proof.Machine.writeTframe
  repeat'
      first
      | with_reducible assumption | with_reducible apply keeps_execFrameEnterTest | with_reducible apply keeps_afterRes
      | with_reducible apply keeps_refuseTest | with_reducible apply keeps_execFrameLeaveTest | with_reducible apply keeps_updStack
      | with_reducible refine wf_stack (q := q) ?_ _ | with_reducible apply keeps_ite_keep | with_reducible apply wf_ite | intro _ | split
      | dsimp only | (fail_if_no_progress with_reducible apply keeps_mk) | (fail_if_no_progress with_reducible apply wf_mk)
      | with_reducible refine keeps_of_fst ?_ (by assumption) | with_reducible refine keeps_of_snd ?_ (by assumption)
      | with_reducible refine keeps_of_snd2 ?_ (by assumption) | with_reducible refine keeps_of_some ?_ (by assumption)
      | with_reducible refine keeps_of_next ?_ (by assumption)

theorem keeps_writeTcmd (a0) (a1) (a2) (a3) (a4) (h0 : Keeps q a0) : Keeps q (Sys2Proof.Machine.writeTcmd a0 a1 a2 a3 a4) := by
  unfold Sys2Proof.Machine.writeTcmd
  repeat'
      first
      | with_reducible assumption | with_reducible apply keeps_execWrdata | with_reducible apply keeps_execRdraw
      | with_reducible apply keeps_execWrchk | with_reducible apply keeps_afterRes | with_reducible apply keeps_refuseTest
      | with_reducible apply keeps_execRddec | with_reducible apply keeps_execWrboth | intro _ | split | dsimp only
      | (fail_if_no_progress with_reducible apply keeps_mk) | with_reducible refine keeps_of_fst ?_ (by assumption)
      | with_reducible refine keeps_of_snd ?_ (by assumption) | with_reducible refine keeps_of_snd2 ?_ (by assumption)
      | with_reducible refine keeps_of_some ?_ (by assumption) | with_reducible refine keeps_of_next ?_ (by assumption)

theorem keeps_startCommand (a0) (a1) (a2) (a3) (a4) (h0 : Keeps q a0) : Keeps q (Sys2Proof.Machine.startCommand a0 a1 a2 a3 a4) := by
  unfold Sys2Proof.Machine.startCommand
  repeat'
      first
      | with_reducible assumption | with_reducible apply keeps_writeTframe | with_reducible apply keeps_writeTcmd
      | with_reducible apply keeps_writeEngCmd | with_reducible apply keeps_ite_keep | intro _ | split | dsimp only
      | (fail_if_no_progress with_reducible apply keeps_mk) | with_reducible refine keeps_of_fst ?_ (by assumption)
      | with_reducible refine keeps_of_snd ?_ (by assumption) | with_reducible refine keeps_of_snd2 ?_ (by assumption)
      | with_reducible refine keeps_of_some ?_ (by assumption) | with_reducible refine keeps_of_next ?_ (by assumption)

theorem keeps_writeUnit (a0) (a1) (a2) (a3) (a4) (a5) (h4 : Keeps q a4) : Keeps q (Sys2Proof.Machine.writeUnit a0 a1 a2 a3 a4 a5) := by
  unfold Sys2Proof.Machine.writeUnit
  repeat'
      first
      | with_reducible assumption | with_reducible apply keeps_cmdState | with_reducible apply keeps_postBurst
      | with_reducible apply keeps_startCommand | with_reducible apply keeps_badPostAt | with_reducible apply keeps_execStkRprDataWrite
      | with_reducible apply keeps_afterRes | with_reducible apply keeps_putUnit | with_reducible refine wf_stack (q := q) ?_ _
      | with_reducible apply keeps_ite_keep | with_reducible apply wf_ite | intro _ | split | dsimp only
      | (fail_if_no_progress with_reducible apply keeps_mk) | (fail_if_no_progress with_reducible apply wf_mk)
      | with_reducible refine keeps_of_fst ?_ (by assumption) | with_reducible refine keeps_of_snd ?_ (by assumption)
      | with_reducible refine keeps_of_snd2 ?_ (by assumption) | with_reducible refine keeps_of_some ?_ (by assumption)
      | with_reducible refine keeps_of_next ?_ (by assumption)

theorem keeps_regWrite (a0) (a1) (a2) (a3) (a4) (h0 : Keeps q a0) : Keeps q (Sys2Proof.Machine.regWrite a0 a1 a2 a3 a4) := by
  unfold Sys2Proof.Machine.regWrite
  repeat'
      first
      | with_reducible assumption | with_reducible apply keeps_writeUnit | with_reducible apply keeps_foldl
      | with_reducible apply keeps_foldl_fst | with_reducible apply keeps_foldl_snd | with_reducible apply keeps_foldl_snd2 | intro _
      | dsimp only

end Sys2Proof.Laws
end

