-- ==== Sys2Proof/Laws/KeepsWalkers.lean ====
section
/-!
SUPPORT. What each operation keeps, over the walkers, the key and value store, the services and the serving of steps: the queue of waiting commands and the canonical form of every memory.
-/

set_option linter.all false
set_option Elab.async false
set_option maxRecDepth 4000

namespace Sys2Proof.Laws

open Sys2Proof Sys2Proof.Machine

variable {q : List Instr}

/-! ## Walkers -/

theorem keeps_retireLoad (a0) (a1) (a2) (h0 : Keeps q a0) : Keeps q (Sys2Proof.Machine.retireLoad a0 a1 a2) := by
  unfold Sys2Proof.Machine.retireLoad
  repeat'
      first
      | with_reducible assumption | with_reducible apply keeps_State_updWalker | intro _ | dsimp only
      | (fail_if_no_progress with_reducible apply keeps_mk)

theorem keeps_execWalkerCoreRestart (a0) (a1) (a2) (a3) (h3 : Keeps q a3) : KeepsRes q (Sys2Proof.Machine.execWalkerCoreRestart a0 a1 a2 a3) := by
  unfold Sys2Proof.Machine.execWalkerCoreRestart
  repeat'
      first
      | with_reducible assumption | with_reducible apply keeps_State_updWalker | with_reducible apply keeps_State_setEngine
      | with_reducible apply keepsRes_next | with_reducible exact keepsRes_fault _ | with_reducible exact keepsRes_refused _
      | with_reducible apply keepsRes_ite | with_reducible apply keeps_ite_keep | intro _ | split | dsimp only
      | (fail_if_no_progress with_reducible apply keeps_mk)

theorem keeps_retireTo (a0) (a1) (a2) (a3) (a4) (h0 : Keeps q a0) : Keeps q (Sys2Proof.Machine.retireTo a0 a1 a2 a3 a4) := by
  unfold Sys2Proof.Machine.retireTo
  repeat'
      first
      | with_reducible assumption | with_reducible apply keeps_State_updThread | intro _ | dsimp only
      | (fail_if_no_progress with_reducible apply keeps_mk)

theorem keeps_waitOn (a0) (a1) (a2) (a3) (a4) (a5) (a6) (h0 : Keeps q a0) : Keeps q (Sys2Proof.Machine.waitOn a0 a1 a2 a3 a4 a5 a6) := by
  unfold Sys2Proof.Machine.waitOn
  repeat'
      first
      | with_reducible assumption | with_reducible apply keeps_State_updWalker | with_reducible apply keeps_State_updThread | intro _
      | dsimp only | (fail_if_no_progress with_reducible apply keeps_mk)

theorem keeps_startThread (a0) (a1) (a2) (a3) (a4) (a5) (h0 : Keeps q a0) : Keeps q (Sys2Proof.Machine.startThread a0 a1 a2 a3 a4 a5) := by
  unfold Sys2Proof.Machine.startThread
  repeat'
      first
      | with_reducible assumption | with_reducible apply keeps_State_updWalker | with_reducible apply keeps_State_updThread
      | with_reducible apply keeps_foldl | with_reducible apply keeps_foldl_fst | with_reducible apply keeps_foldl_snd
      | with_reducible apply keeps_foldl_snd2 | with_reducible apply keeps_ite_keep | intro _ | split | dsimp only
      | (fail_if_no_progress with_reducible apply keeps_mk)

theorem keeps_retireNext (a0) (a1) (a2) (a3) (h0 : Keeps q a0) : Keeps q (Sys2Proof.Machine.retireNext a0 a1 a2 a3) := by
  unfold Sys2Proof.Machine.retireNext
  repeat' first | with_reducible assumption | with_reducible apply keeps_retireTo | intro _ | dsimp only

theorem keeps_endFence (a0) (a1) (a2) (a3) (h0 : Keeps q a0) : Keeps q (Sys2Proof.Machine.endFence a0 a1 a2 a3) := by
  unfold Sys2Proof.Machine.endFence
  repeat'
      first
      | with_reducible assumption | with_reducible apply keeps_retireNext | with_reducible apply keeps_State_updWalker
      | with_reducible apply keeps_ite_keep | intro _ | split | dsimp only | (fail_if_no_progress with_reducible apply keeps_mk)

theorem keeps_fetchInstr (a0) (a1) (a2) (h0 : Keeps q a0) : Keeps q (Sys2Proof.Machine.fetchInstr a0 a1 a2).2.2 := by
  unfold Sys2Proof.Machine.fetchInstr
  repeat'
      first
      | with_reducible assumption | with_reducible apply keeps_fetchUnit | with_reducible apply keeps_ite_keep | intro _ | split
      | dsimp only | with_reducible refine keeps_of_fst ?_ (by assumption) | with_reducible refine keeps_of_snd ?_ (by assumption)
      | with_reducible refine keeps_of_snd2 ?_ (by assumption) | with_reducible refine keeps_of_some ?_ (by assumption)
      | with_reducible refine keeps_of_next ?_ (by assumption)

theorem keeps_performPost (a0) (a1) (a2) (a3) (a4) (a5) (h0 : Keeps q a0) : Keeps q (Sys2Proof.Machine.performPost a0 a1 a2 a3 a4 a5) := by
  unfold Sys2Proof.Machine.performPost
  repeat'
      first
      | with_reducible assumption | with_reducible apply keeps_retireNext | with_reducible apply keeps_postBurst
      | with_reducible apply keeps_ite_keep | intro _ | split | dsimp only | (fail_if_no_progress with_reducible apply keeps_mk)
      | with_reducible refine keeps_of_fst ?_ (by assumption) | with_reducible refine keeps_of_snd ?_ (by assumption)
      | with_reducible refine keeps_of_snd2 ?_ (by assumption) | with_reducible refine keeps_of_some ?_ (by assumption)
      | with_reducible refine keeps_of_next ?_ (by assumption)

theorem keeps_walkLoad (a0) (a1) (a2) (a3) (a4) (a5) (h0 : Keeps q a0) : Keeps q (Sys2Proof.Machine.walkLoad a0 a1 a2 a3 a4 a5).next := by
  unfold Sys2Proof.Machine.walkLoad
  repeat'
      first
      | with_reducible assumption | with_reducible apply keeps_State_setWalker | with_reducible apply keeps_State_updWalker
      | with_reducible apply keeps_loadBytes | with_reducible refine keepsOpt_map (fun _ => ?_) | with_reducible apply keeps_getD
      | with_reducible apply keeps_ite_keep | intro _ | split | dsimp only | (fail_if_no_progress with_reducible apply keeps_mk)
      | with_reducible refine keeps_of_fst ?_ (by assumption) | with_reducible refine keeps_of_snd ?_ (by assumption)
      | with_reducible refine keeps_of_snd2 ?_ (by assumption) | with_reducible refine keeps_of_some ?_ (by assumption)
      | with_reducible refine keeps_of_next ?_ (by assumption)

theorem keeps_refuseTask (a0) (a1) (a2) (a3) (h0 : Keeps q a0) : Keeps q (Sys2Proof.Machine.refuseTask a0 a1 a2 a3) := by
  unfold Sys2Proof.Machine.refuseTask
  repeat'
      first
      | with_reducible assumption | with_reducible apply keeps_completeEntry | with_reducible apply keeps_storeBytes
      | with_reducible apply keeps_ite_keep | intro _ | split | dsimp only

theorem keeps_execWalkerFlip (a0) (a1) (h1 : Keeps q a1) : KeepsRes q (Sys2Proof.Machine.execWalkerFlip a0 a1) := by
  unfold Sys2Proof.Machine.execWalkerFlip
  repeat'
      first
      | with_reducible assumption | with_reducible apply keeps_State_updWalker | with_reducible apply keeps_startThread
      | with_reducible apply keeps_State_updEngine | with_reducible apply keeps_refuseTask | with_reducible apply keepsRes_next
      | with_reducible exact keepsRes_fault _ | with_reducible exact keepsRes_refused _ | with_reducible apply keepsOpt_some
      | with_reducible exact keepsOpt_none | with_reducible apply keepsRes_ite | with_reducible apply keeps_ite_keep | intro _ | split
      | dsimp only | (fail_if_no_progress with_reducible apply keeps_mk) | with_reducible refine keeps_of_fst ?_ (by assumption)
      | with_reducible refine keeps_of_snd ?_ (by assumption) | with_reducible refine keeps_of_snd2 ?_ (by assumption)
      | with_reducible refine keeps_of_some ?_ (by assumption) | with_reducible refine keeps_of_next ?_ (by assumption)

theorem keeps_execTaskStart (a0) (a1) (h1 : Keeps q a1) : KeepsRes q (Sys2Proof.Machine.execTaskStart a0 a1) := by
  unfold Sys2Proof.Machine.execTaskStart
  repeat'
      first
      | with_reducible assumption | with_reducible apply keeps_State_updWalker | with_reducible apply keeps_startThread
      | with_reducible apply keeps_State_setEngine | with_reducible apply keeps_refuseTask | with_reducible apply keepsRes_next
      | with_reducible exact keepsRes_fault _ | with_reducible exact keepsRes_refused _ | with_reducible apply keepsOpt_some
      | with_reducible exact keepsOpt_none | with_reducible apply keepsRes_ite | with_reducible apply keeps_ite_keep | intro _ | split
      | dsimp only | (fail_if_no_progress with_reducible apply keeps_mk) | with_reducible refine keeps_of_fst ?_ (by assumption)
      | with_reducible refine keeps_of_snd ?_ (by assumption) | with_reducible refine keeps_of_snd2 ?_ (by assumption)
      | with_reducible refine keeps_of_some ?_ (by assumption) | with_reducible refine keeps_of_next ?_ (by assumption)

theorem keeps_finishAccess (a0) (a1) (a2) (a3) (h0 : Keeps q a0) : Keeps q (Sys2Proof.Machine.finishAccess a0 a1 a2 a3) := by
  unfold Sys2Proof.Machine.finishAccess
  repeat'
      first
      | with_reducible assumption | with_reducible apply keeps_retireNext | with_reducible apply keeps_settleThread
      | with_reducible apply keeps_ite_keep | intro _ | split | dsimp only | (fail_if_no_progress with_reducible apply keeps_mk)

theorem keeps_execTaskWatchdog (a0) (a1) (a2) (h2 : Keeps q a2) : KeepsRes q (Sys2Proof.Machine.execTaskWatchdog a0 a1 a2) := by
  unfold Sys2Proof.Machine.execTaskWatchdog
  repeat'
      first
      | with_reducible assumption | with_reducible apply keeps_stopThreadAt | with_reducible apply keepsRes_next
      | with_reducible exact keepsRes_fault _ | with_reducible exact keepsRes_refused _ | with_reducible apply keepsRes_ite
      | with_reducible apply keeps_ite_keep | intro _ | split | dsimp only

theorem keeps_poisonedFetch (a0) (a1) (a2) (h0 : Keeps q a0) : Keeps q (Sys2Proof.Machine.poisonedFetch a0 a1 a2) := by
  unfold Sys2Proof.Machine.poisonedFetch
  repeat'
      first
      | with_reducible assumption | with_reducible apply keeps_State_updEngine | with_reducible apply keeps_abandonThreads
      | with_reducible apply keeps_faultEngine | with_reducible apply keeps_ite_keep | intro _ | split | dsimp only
      | (fail_if_no_progress with_reducible apply keeps_mk)

theorem keeps_failAccess (a0) (a1) (a2) (a3) (h0 : Keeps q a0) : Keeps q (Sys2Proof.Machine.failAccess a0 a1 a2 a3) := by
  unfold Sys2Proof.Machine.failAccess
  repeat'
      first
      | with_reducible assumption | with_reducible apply keeps_retireLoad | with_reducible apply keeps_stopThread
      | with_reducible apply keeps_State_updThread | with_reducible apply keeps_settleThread | with_reducible apply keeps_ite_keep | intro _
      | split | dsimp only | (fail_if_no_progress with_reducible apply keeps_mk)

theorem keeps_walkerOp (a0) (a1) (a2) (a3) (a4) (h0 : Keeps q a0) (h4 : ∀ x0 x1 x2, Keeps q x2 → KeepsOpt q (a4 x0 x1 x2)) : KeepsRes q (Sys2Proof.Machine.walkerOp a0 a1 a2 a3 a4) := by
  unfold Sys2Proof.Machine.walkerOp
  repeat'
      first
      | with_reducible assumption | with_reducible apply keeps_State_updWalker | with_reducible apply keeps_stopThread
      | with_reducible apply keeps_fetchInstr | with_reducible apply keeps_poisonedFetch | with_reducible apply h4
      | with_reducible apply keepsRes_next | with_reducible exact keepsRes_fault _ | with_reducible exact keepsRes_refused _
      | with_reducible apply keepsOpt_some | with_reducible exact keepsOpt_none | with_reducible apply keepsRes_ite
      | with_reducible apply keeps_ite_keep | intro _ | split | dsimp only | (fail_if_no_progress with_reducible apply keeps_mk)
      | with_reducible refine keeps_of_fst ?_ (by assumption) | with_reducible refine keeps_of_snd ?_ (by assumption)
      | with_reducible refine keeps_of_snd2 ?_ (by assumption) | with_reducible refine keeps_of_some ?_ (by assumption)
      | with_reducible refine keeps_of_next ?_ (by assumption)

theorem keeps_stopAccess (a0) (a1) (a2) (a3) (a4) (h0 : Keeps q a0) : Keeps q (Sys2Proof.Machine.stopAccess a0 a1 a2 a3 a4) := by
  unfold Sys2Proof.Machine.stopAccess
  repeat'
      first
      | with_reducible assumption | with_reducible apply keeps_stopThread | with_reducible apply keeps_holeAccess
      | with_reducible apply keeps_ite_keep | intro _ | split | dsimp only

theorem keeps_returnAtomic (a0) (a1) (a2) (a3) (a4) (a5) (a6) (a7) (a8) (a9) (h0 : Keeps q a0) : Keeps q (Sys2Proof.Machine.returnAtomic a0 a1 a2 a3 a4 a5 a6 a7 a8 a9) := by
  unfold Sys2Proof.Machine.returnAtomic
  repeat'
      first
      | with_reducible assumption | with_reducible apply keeps_State_updWalker | with_reducible apply keeps_loadBytes
      | with_reducible apply keeps_failAccess | with_reducible apply keeps_storeBytes | with_reducible apply keeps_walkLoad
      | with_reducible apply keeps_finishAccess | with_reducible refine keepsOpt_map (fun _ => ?_) | with_reducible apply keeps_ite_keep
      | intro _ | split | dsimp only | (fail_if_no_progress with_reducible apply keeps_mk)

theorem keeps_immOp (a0) (a1) (a2) (a3) (a4) (h0 : Keeps q a0) : KeepsRes q (Sys2Proof.Machine.immOp a0 a1 a2 a3 a4) := by
  unfold Sys2Proof.Machine.immOp
  repeat'
      first
      | with_reducible assumption | with_reducible apply keeps_retireNext | with_reducible apply keeps_walkerOp
      | with_reducible apply keepsRes_next | with_reducible exact keepsRes_fault _ | with_reducible exact keepsRes_refused _
      | with_reducible apply keepsOpt_some | with_reducible exact keepsOpt_none | intro _ | dsimp only

theorem keeps_aluOp (a0) (a1) (a2) (a3) (a4) (h0 : Keeps q a0) : KeepsRes q (Sys2Proof.Machine.aluOp a0 a1 a2 a3 a4) := by
  unfold Sys2Proof.Machine.aluOp
  repeat'
      first
      | with_reducible assumption | with_reducible apply keeps_retireNext | with_reducible apply keeps_walkerOp
      | with_reducible apply keepsRes_next | with_reducible exact keepsRes_fault _ | with_reducible exact keepsRes_refused _
      | with_reducible apply keepsOpt_some | with_reducible exact keepsOpt_none | intro _ | dsimp only

theorem keeps_branchOp (a0) (a1) (a2) (a3) (a4) (h0 : Keeps q a0) : KeepsRes q (Sys2Proof.Machine.branchOp a0 a1 a2 a3 a4) := by
  unfold Sys2Proof.Machine.branchOp
  repeat'
      first
      | with_reducible assumption | with_reducible apply keeps_retireTo | with_reducible apply keeps_walkerOp
      | with_reducible apply keepsRes_next | with_reducible exact keepsRes_fault _ | with_reducible exact keepsRes_refused _
      | with_reducible apply keepsOpt_some | with_reducible exact keepsOpt_none | with_reducible apply keepsRes_ite
      | with_reducible apply keeps_ite_keep | intro _ | split | dsimp only

theorem keeps_execJalr (a0) (a1) (a2) (h2 : Keeps q a2) : KeepsRes q (Sys2Proof.Machine.execJalr a0 a1 a2) := by
  unfold Sys2Proof.Machine.execJalr
  repeat'
      first
      | with_reducible assumption | with_reducible apply keeps_retireTo | with_reducible apply keeps_walkerOp
      | with_reducible apply keepsRes_next | with_reducible exact keepsRes_fault _ | with_reducible exact keepsRes_refused _
      | with_reducible apply keepsOpt_some | with_reducible exact keepsOpt_none | intro _ | dsimp only

theorem keeps_execTexit (a0) (a1) (a2) (h2 : Keeps q a2) : KeepsRes q (Sys2Proof.Machine.execTexit a0 a1 a2) := by
  unfold Sys2Proof.Machine.execTexit
  repeat'
      first
      | with_reducible assumption | with_reducible apply keeps_walkerOp | with_reducible apply keeps_State_updThread
      | with_reducible apply keeps_settleThread | with_reducible apply keepsRes_next | with_reducible exact keepsRes_fault _
      | with_reducible exact keepsRes_refused _ | with_reducible apply keepsOpt_some | with_reducible exact keepsOpt_none | intro _
      | dsimp only | (fail_if_no_progress with_reducible apply keeps_mk)

theorem keeps_issueLoad (a0) (a1) (a2) (a3) (a4) (a5) (a6) (a7) (h0 : Keeps q a0) : KeepsOpt q (Sys2Proof.Machine.issueLoad a0 a1 a2 a3 a4 a5 a6 a7) := by
  unfold Sys2Proof.Machine.issueLoad
  repeat'
      first
      | with_reducible assumption | with_reducible apply keeps_waitOn | with_reducible apply keeps_stopAccess
      | with_reducible apply keepsOpt_some | with_reducible exact keepsOpt_none | with_reducible apply keepsOpt_ite
      | with_reducible apply keeps_ite_keep | intro _ | split | dsimp only

theorem keeps_execPost (a0) (a1) (a2) (h2 : Keeps q a2) : KeepsRes q (Sys2Proof.Machine.execPost a0 a1 a2) := by
  unfold Sys2Proof.Machine.execPost
  repeat'
      first
      | with_reducible assumption | with_reducible apply keeps_State_updWalker | with_reducible apply keeps_stopThread
      | with_reducible apply keeps_walkerOp | with_reducible apply keeps_performPost | with_reducible apply keeps_State_updThread
      | with_reducible apply keepsRes_next | with_reducible exact keepsRes_fault _ | with_reducible exact keepsRes_refused _
      | with_reducible apply keepsOpt_some | with_reducible exact keepsOpt_none | with_reducible apply keepsRes_ite
      | with_reducible apply keeps_ite_keep | intro _ | split | dsimp only | (fail_if_no_progress with_reducible apply keeps_mk)

theorem keeps_execMovk (a0) (a1) (a2) (h2 : Keeps q a2) : KeepsRes q (Sys2Proof.Machine.execMovk a0 a1 a2) := by
  unfold Sys2Proof.Machine.execMovk
  repeat'
      first
      | with_reducible assumption | with_reducible apply keeps_retireNext | with_reducible apply keeps_walkerOp
      | with_reducible apply keepsRes_next | with_reducible exact keepsRes_fault _ | with_reducible exact keepsRes_refused _
      | with_reducible apply keepsOpt_some | with_reducible exact keepsOpt_none | intro _ | dsimp only

theorem keeps_returnAdd (a0) (a1) (a2) (a3) (a4) (a5) (a6) (h0 : Keeps q a0) : Keeps q (Sys2Proof.Machine.returnAdd a0 a1 a2 a3 a4 a5 a6) := by
  unfold Sys2Proof.Machine.returnAdd
  repeat'
      first
      | with_reducible assumption | with_reducible apply keeps_retireLoad | with_reducible apply keeps_finishAccess
      | with_reducible apply keeps_failAccess | with_reducible apply keeps_addRun | with_reducible apply keeps_ite_keep | intro _ | split
      | dsimp only

theorem keeps_returnLoad (a0) (a1) (a2) (a3) (a4) (a5) (a6) (a7) (h0 : Keeps q a0) : Keeps q (Sys2Proof.Machine.returnLoad a0 a1 a2 a3 a4 a5 a6 a7) := by
  unfold Sys2Proof.Machine.returnLoad
  repeat'
      first
      | with_reducible assumption | with_reducible apply keeps_retireLoad | with_reducible apply keeps_walkLoad
      | with_reducible apply keeps_finishAccess | with_reducible apply keeps_failAccess | with_reducible apply keeps_State_updWalker
      | with_reducible apply keeps_ite_keep | intro _ | split | dsimp only | (fail_if_no_progress with_reducible apply keeps_mk)
      | with_reducible refine keeps_of_fst ?_ (by assumption) | with_reducible refine keeps_of_snd ?_ (by assumption)
      | with_reducible refine keeps_of_snd2 ?_ (by assumption) | with_reducible refine keeps_of_some ?_ (by assumption)
      | with_reducible refine keeps_of_next ?_ (by assumption)

theorem keeps_returnHop (a0) (a1) (a2) (a3) (a4) (a5) (a6) (a7) (a8) (a9) (h0 : Keeps q a0) : Keeps q (Sys2Proof.Machine.returnHop a0 a1 a2 a3 a4 a5 a6 a7 a8 a9) := by
  unfold Sys2Proof.Machine.returnHop
  repeat'
      first
      | with_reducible assumption | with_reducible apply keeps_retireLoad | with_reducible apply keeps_holeAccess
      | with_reducible apply keeps_State_updWalker | with_reducible apply keeps_State_updThread | with_reducible apply keeps_failAccess
      | with_reducible apply keeps_walkLoad | with_reducible apply keeps_finishAccess | with_reducible apply keeps_ite_keep | intro _
      | split | dsimp only | (fail_if_no_progress with_reducible apply keeps_mk)

theorem keeps_execJal (a0) (a1) (a2) (h2 : Keeps q a2) : KeepsRes q (Sys2Proof.Machine.execJal a0 a1 a2) := by
  unfold Sys2Proof.Machine.execJal
  repeat'
      first
      | with_reducible assumption | with_reducible apply keeps_retireTo | with_reducible apply keeps_walkerOp
      | with_reducible apply keepsRes_next | with_reducible exact keepsRes_fault _ | with_reducible exact keepsRes_refused _
      | with_reducible apply keepsOpt_some | with_reducible exact keepsOpt_none | intro _ | dsimp only

theorem keeps_execMfs (a0) (a1) (a2) (h2 : Keeps q a2) : KeepsRes q (Sys2Proof.Machine.execMfs a0 a1 a2) := by
  unfold Sys2Proof.Machine.execMfs
  repeat'
      first
      | with_reducible assumption | with_reducible apply keeps_retireNext | with_reducible apply keeps_walkerOp
      | with_reducible apply keepsRes_next | with_reducible exact keepsRes_fault _ | with_reducible exact keepsRes_refused _
      | with_reducible apply keepsOpt_some | with_reducible exact keepsOpt_none | intro _ | dsimp only

theorem keeps_execShri (a0) (a1) (a2) (h2 : Keeps q a2) : KeepsRes q (Sys2Proof.Machine.execShri a0 a1 a2) := by
  unfold Sys2Proof.Machine.execShri
  repeat'
      first
      | with_reducible assumption | with_reducible apply keeps_immOp | with_reducible apply keepsRes_next
      | with_reducible exact keepsRes_fault _ | with_reducible exact keepsRes_refused _ | intro _ | dsimp only

theorem keeps_execShli (a0) (a1) (a2) (h2 : Keeps q a2) : KeepsRes q (Sys2Proof.Machine.execShli a0 a1 a2) := by
  unfold Sys2Proof.Machine.execShli
  repeat'
      first
      | with_reducible assumption | with_reducible apply keeps_immOp | with_reducible apply keepsRes_next
      | with_reducible exact keepsRes_fault _ | with_reducible exact keepsRes_refused _ | intro _ | dsimp only

theorem keeps_execSltu (a0) (a1) (a2) (h2 : Keeps q a2) : KeepsRes q (Sys2Proof.Machine.execSltu a0 a1 a2) := by
  unfold Sys2Proof.Machine.execSltu
  repeat'
      first
      | with_reducible assumption | with_reducible apply keeps_aluOp | with_reducible apply keepsRes_next
      | with_reducible exact keepsRes_fault _ | with_reducible exact keepsRes_refused _ | intro _ | dsimp only

theorem keeps_execClz (a0) (a1) (a2) (h2 : Keeps q a2) : KeepsRes q (Sys2Proof.Machine.execClz a0 a1 a2) := by
  unfold Sys2Proof.Machine.execClz
  repeat'
      first
      | with_reducible assumption | with_reducible apply keeps_aluOp | with_reducible apply keepsRes_next
      | with_reducible exact keepsRes_fault _ | with_reducible exact keepsRes_refused _ | intro _ | dsimp only

theorem keeps_execMinu (a0) (a1) (a2) (h2 : Keeps q a2) : KeepsRes q (Sys2Proof.Machine.execMinu a0 a1 a2) := by
  unfold Sys2Proof.Machine.execMinu
  repeat'
      first
      | with_reducible assumption | with_reducible apply keeps_aluOp | with_reducible apply keepsRes_next
      | with_reducible exact keepsRes_fault _ | with_reducible exact keepsRes_refused _ | intro _ | dsimp only

theorem keeps_execMul (a0) (a1) (a2) (h2 : Keeps q a2) : KeepsRes q (Sys2Proof.Machine.execMul a0 a1 a2) := by
  unfold Sys2Proof.Machine.execMul
  repeat'
      first
      | with_reducible assumption | with_reducible apply keeps_aluOp | with_reducible apply keepsRes_next
      | with_reducible exact keepsRes_fault _ | with_reducible exact keepsRes_refused _ | intro _ | dsimp only

theorem keeps_execAndi (a0) (a1) (a2) (h2 : Keeps q a2) : KeepsRes q (Sys2Proof.Machine.execAndi a0 a1 a2) := by
  unfold Sys2Proof.Machine.execAndi
  repeat'
      first
      | with_reducible assumption | with_reducible apply keeps_immOp | with_reducible apply keepsRes_next
      | with_reducible exact keepsRes_fault _ | with_reducible exact keepsRes_refused _ | intro _ | dsimp only

theorem keeps_execAluAdd (a0) (a1) (a2) (h2 : Keeps q a2) : KeepsRes q (Sys2Proof.Machine.execAluAdd a0 a1 a2) := by
  unfold Sys2Proof.Machine.execAluAdd
  repeat'
      first
      | with_reducible assumption | with_reducible apply keeps_aluOp | with_reducible apply keepsRes_next
      | with_reducible exact keepsRes_fault _ | with_reducible exact keepsRes_refused _ | intro _ | dsimp only

theorem keeps_execShr (a0) (a1) (a2) (h2 : Keeps q a2) : KeepsRes q (Sys2Proof.Machine.execShr a0 a1 a2) := by
  unfold Sys2Proof.Machine.execShr
  repeat'
      first
      | with_reducible assumption | with_reducible apply keeps_aluOp | with_reducible apply keepsRes_next
      | with_reducible exact keepsRes_fault _ | with_reducible exact keepsRes_refused _ | intro _ | dsimp only

theorem keeps_execSar (a0) (a1) (a2) (h2 : Keeps q a2) : KeepsRes q (Sys2Proof.Machine.execSar a0 a1 a2) := by
  unfold Sys2Proof.Machine.execSar
  repeat'
      first
      | with_reducible assumption | with_reducible apply keeps_aluOp | with_reducible apply keepsRes_next
      | with_reducible exact keepsRes_fault _ | with_reducible exact keepsRes_refused _ | intro _ | dsimp only

theorem keeps_execBne (a0) (a1) (a2) (h2 : Keeps q a2) : KeepsRes q (Sys2Proof.Machine.execBne a0 a1 a2) := by
  unfold Sys2Proof.Machine.execBne
  repeat'
      first
      | with_reducible assumption | with_reducible apply keeps_branchOp | with_reducible apply keepsRes_next
      | with_reducible exact keepsRes_fault _ | with_reducible exact keepsRes_refused _ | intro _ | dsimp only

theorem keeps_execBge (a0) (a1) (a2) (h2 : Keeps q a2) : KeepsRes q (Sys2Proof.Machine.execBge a0 a1 a2) := by
  unfold Sys2Proof.Machine.execBge
  repeat'
      first
      | with_reducible assumption | with_reducible apply keeps_branchOp | with_reducible apply keepsRes_next
      | with_reducible exact keepsRes_fault _ | with_reducible exact keepsRes_refused _ | intro _ | dsimp only

theorem keeps_execXori (a0) (a1) (a2) (h2 : Keeps q a2) : KeepsRes q (Sys2Proof.Machine.execXori a0 a1 a2) := by
  unfold Sys2Proof.Machine.execXori
  repeat'
      first
      | with_reducible assumption | with_reducible apply keeps_immOp | with_reducible apply keepsRes_next
      | with_reducible exact keepsRes_fault _ | with_reducible exact keepsRes_refused _ | intro _ | dsimp only

theorem keeps_execMaxs (a0) (a1) (a2) (h2 : Keeps q a2) : KeepsRes q (Sys2Proof.Machine.execMaxs a0 a1 a2) := by
  unfold Sys2Proof.Machine.execMaxs
  repeat'
      first
      | with_reducible assumption | with_reducible apply keeps_aluOp | with_reducible apply keepsRes_next
      | with_reducible exact keepsRes_fault _ | with_reducible exact keepsRes_refused _ | with_reducible apply keepsRes_ite
      | with_reducible apply keeps_ite_keep | intro _ | split | dsimp only

theorem keeps_execHash (a0) (a1) (a2) (h2 : Keeps q a2) : KeepsRes q (Sys2Proof.Machine.execHash a0 a1 a2) := by
  unfold Sys2Proof.Machine.execHash
  repeat'
      first
      | with_reducible assumption | with_reducible apply keeps_aluOp | with_reducible apply keepsRes_next
      | with_reducible exact keepsRes_fault _ | with_reducible exact keepsRes_refused _ | intro _ | dsimp only

theorem keeps_amoOp (a0) (a1) (a2) (a3) (a4) (h0 : Keeps q a0) : KeepsRes q (Sys2Proof.Machine.amoOp a0 a1 a2 a3 a4) := by
  unfold Sys2Proof.Machine.amoOp
  refine keeps_walkerOp _ _ _ _ _ h0 (fun w th s hs => ?_)
  dsimp only
  generalize hg : issueLoad s _ _ _ _ _ _ _ = o
  have ho : KeepsOpt q o := hg ▸ keeps_issueLoad _ _ _ _ _ _ _ _ hs
  cases o with
  | none => exact keepsOpt_none
  | some s1 => exact keepsOpt_some (keeps_ite (fun _ => keeps_State_updWalker _ _ _ ho) (fun _ => ho))

theorem keeps_execAluOr (a0) (a1) (a2) (h2 : Keeps q a2) : KeepsRes q (Sys2Proof.Machine.execAluOr a0 a1 a2) := by
  unfold Sys2Proof.Machine.execAluOr
  repeat'
      first
      | with_reducible assumption | with_reducible apply keeps_aluOp | with_reducible apply keepsRes_next
      | with_reducible exact keepsRes_fault _ | with_reducible exact keepsRes_refused _ | intro _ | dsimp only

theorem keeps_execWalkerDataReturn (a0) (a1) (a2) (a3) (a4) (h4 : Keeps q a4) : KeepsRes q (Sys2Proof.Machine.execWalkerDataReturn a0 a1 a2 a3 a4) := by
  unfold Sys2Proof.Machine.execWalkerDataReturn
  repeat'
      first
      | with_reducible assumption | with_reducible apply keeps_returnLoad | with_reducible apply keeps_State_setWalker
      | with_reducible apply keeps_returnAdd | with_reducible apply keeps_returnHop | with_reducible apply keeps_returnAtomic
      | with_reducible apply keepsRes_next | with_reducible exact keepsRes_fault _ | with_reducible exact keepsRes_refused _
      | with_reducible apply keepsOpt_some | with_reducible exact keepsOpt_none | with_reducible apply keepsRes_ite
      | with_reducible apply keeps_ite_keep | intro _ | split | dsimp only | (fail_if_no_progress with_reducible apply keeps_mk)
      | with_reducible refine keeps_of_fst ?_ (by assumption) | with_reducible refine keeps_of_snd ?_ (by assumption)
      | with_reducible refine keeps_of_snd2 ?_ (by assumption) | with_reducible refine keeps_of_some ?_ (by assumption)
      | with_reducible refine keeps_of_next ?_ (by assumption)

theorem keeps_execLd (a0) (a1) (a2) (h2 : Keeps q a2) : KeepsRes q (Sys2Proof.Machine.execLd a0 a1 a2) := by
  unfold Sys2Proof.Machine.execLd
  repeat'
      first
      | with_reducible assumption | with_reducible apply keeps_walkerOp | with_reducible apply keeps_issueLoad
      | with_reducible apply keepsRes_next | with_reducible exact keepsRes_fault _ | with_reducible exact keepsRes_refused _
      | with_reducible apply keepsOpt_some | with_reducible exact keepsOpt_none | intro _ | dsimp only

theorem keeps_execBlt (a0) (a1) (a2) (h2 : Keeps q a2) : KeepsRes q (Sys2Proof.Machine.execBlt a0 a1 a2) := by
  unfold Sys2Proof.Machine.execBlt
  repeat'
      first
      | with_reducible assumption | with_reducible apply keeps_branchOp | with_reducible apply keepsRes_next
      | with_reducible exact keepsRes_fault _ | with_reducible exact keepsRes_refused _ | intro _ | dsimp only

theorem keeps_execOri (a0) (a1) (a2) (h2 : Keeps q a2) : KeepsRes q (Sys2Proof.Machine.execOri a0 a1 a2) := by
  unfold Sys2Proof.Machine.execOri
  repeat'
      first
      | with_reducible assumption | with_reducible apply keeps_immOp | with_reducible apply keepsRes_next
      | with_reducible exact keepsRes_fault _ | with_reducible exact keepsRes_refused _ | intro _ | dsimp only

theorem keeps_execShl (a0) (a1) (a2) (h2 : Keeps q a2) : KeepsRes q (Sys2Proof.Machine.execShl a0 a1 a2) := by
  unfold Sys2Proof.Machine.execShl
  repeat'
      first
      | with_reducible assumption | with_reducible apply keeps_aluOp | with_reducible apply keepsRes_next
      | with_reducible exact keepsRes_fault _ | with_reducible exact keepsRes_refused _ | intro _ | dsimp only

theorem keeps_execAddi (a0) (a1) (a2) (h2 : Keeps q a2) : KeepsRes q (Sys2Proof.Machine.execAddi a0 a1 a2) := by
  unfold Sys2Proof.Machine.execAddi
  repeat'
      first
      | with_reducible assumption | with_reducible apply keeps_immOp | with_reducible apply keepsRes_next
      | with_reducible exact keepsRes_fault _ | with_reducible exact keepsRes_refused _ | intro _ | dsimp only

theorem keeps_execMulhu (a0) (a1) (a2) (h2 : Keeps q a2) : KeepsRes q (Sys2Proof.Machine.execMulhu a0 a1 a2) := by
  unfold Sys2Proof.Machine.execMulhu
  repeat'
      first
      | with_reducible assumption | with_reducible apply keeps_aluOp | with_reducible apply keepsRes_next
      | with_reducible exact keepsRes_fault _ | with_reducible exact keepsRes_refused _ | intro _ | dsimp only

theorem keeps_execBgeu (a0) (a1) (a2) (h2 : Keeps q a2) : KeepsRes q (Sys2Proof.Machine.execBgeu a0 a1 a2) := by
  unfold Sys2Proof.Machine.execBgeu
  repeat'
      first
      | with_reducible assumption | with_reducible apply keeps_branchOp | with_reducible apply keepsRes_next
      | with_reducible exact keepsRes_fault _ | with_reducible exact keepsRes_refused _ | intro _ | dsimp only

theorem keeps_execAluSub (a0) (a1) (a2) (h2 : Keeps q a2) : KeepsRes q (Sys2Proof.Machine.execAluSub a0 a1 a2) := by
  unfold Sys2Proof.Machine.execAluSub
  repeat'
      first
      | with_reducible assumption | with_reducible apply keeps_aluOp | with_reducible apply keepsRes_next
      | with_reducible exact keepsRes_fault _ | with_reducible exact keepsRes_refused _ | intro _ | dsimp only

theorem keeps_execPopc (a0) (a1) (a2) (h2 : Keeps q a2) : KeepsRes q (Sys2Proof.Machine.execPopc a0 a1 a2) := by
  unfold Sys2Proof.Machine.execPopc
  repeat'
      first
      | with_reducible assumption | with_reducible apply keeps_aluOp | with_reducible apply keepsRes_next
      | with_reducible exact keepsRes_fault _ | with_reducible exact keepsRes_refused _ | intro _ | dsimp only

theorem keeps_execSari (a0) (a1) (a2) (h2 : Keeps q a2) : KeepsRes q (Sys2Proof.Machine.execSari a0 a1 a2) := by
  unfold Sys2Proof.Machine.execSari
  repeat'
      first
      | with_reducible assumption | with_reducible apply keeps_immOp | with_reducible apply keepsRes_next
      | with_reducible exact keepsRes_fault _ | with_reducible exact keepsRes_refused _ | intro _ | dsimp only

theorem keeps_execFord (a0) (a1) (a2) (h2 : Keeps q a2) : KeepsRes q (Sys2Proof.Machine.execFord a0 a1 a2) := by
  unfold Sys2Proof.Machine.execFord
  repeat'
      first
      | with_reducible assumption | with_reducible apply keeps_aluOp | with_reducible apply keepsRes_next
      | with_reducible exact keepsRes_fault _ | with_reducible exact keepsRes_refused _ | intro _ | dsimp only

theorem keeps_execLdch (a0) (a1) (a2) (h2 : Keeps q a2) : KeepsRes q (Sys2Proof.Machine.execLdch a0 a1 a2) := by
  unfold Sys2Proof.Machine.execLdch
  repeat'
      first
      | with_reducible assumption | with_reducible apply keeps_retireNext | with_reducible apply keeps_walkerOp
      | with_reducible apply keeps_issueLoad | with_reducible apply keepsRes_next | with_reducible exact keepsRes_fault _
      | with_reducible exact keepsRes_refused _ | with_reducible apply keepsOpt_some | with_reducible exact keepsOpt_none
      | with_reducible apply keepsRes_ite | with_reducible apply keeps_ite_keep | intro _ | split | dsimp only

theorem keeps_execBeq (a0) (a1) (a2) (h2 : Keeps q a2) : KeepsRes q (Sys2Proof.Machine.execBeq a0 a1 a2) := by
  unfold Sys2Proof.Machine.execBeq
  repeat'
      first
      | with_reducible assumption | with_reducible apply keeps_branchOp | with_reducible apply keepsRes_next
      | with_reducible exact keepsRes_fault _ | with_reducible exact keepsRes_refused _ | intro _ | dsimp only

theorem keeps_execMaxu (a0) (a1) (a2) (h2 : Keeps q a2) : KeepsRes q (Sys2Proof.Machine.execMaxu a0 a1 a2) := by
  unfold Sys2Proof.Machine.execMaxu
  repeat'
      first
      | with_reducible assumption | with_reducible apply keeps_aluOp | with_reducible apply keepsRes_next
      | with_reducible exact keepsRes_fault _ | with_reducible exact keepsRes_refused _ | intro _ | dsimp only

theorem keeps_execMins (a0) (a1) (a2) (h2 : Keeps q a2) : KeepsRes q (Sys2Proof.Machine.execMins a0 a1 a2) := by
  unfold Sys2Proof.Machine.execMins
  repeat'
      first
      | with_reducible assumption | with_reducible apply keeps_aluOp | with_reducible apply keepsRes_next
      | with_reducible exact keepsRes_fault _ | with_reducible exact keepsRes_refused _ | with_reducible apply keepsRes_ite
      | with_reducible apply keeps_ite_keep | intro _ | split | dsimp only

theorem keeps_execLdacq (a0) (a1) (a2) (h2 : Keeps q a2) : KeepsRes q (Sys2Proof.Machine.execLdacq a0 a1 a2) := by
  unfold Sys2Proof.Machine.execLdacq
  repeat'
      first
      | with_reducible assumption | with_reducible apply keeps_issueLoad | with_reducible apply keeps_walkerOp
      | with_reducible apply keepsRes_next | with_reducible exact keepsRes_fault _ | with_reducible exact keepsRes_refused _
      | with_reducible apply keepsOpt_some | with_reducible exact keepsOpt_none | intro _ | dsimp only

theorem keeps_execSlt (a0) (a1) (a2) (h2 : Keeps q a2) : KeepsRes q (Sys2Proof.Machine.execSlt a0 a1 a2) := by
  unfold Sys2Proof.Machine.execSlt
  repeat'
      first
      | with_reducible assumption | with_reducible apply keeps_aluOp | with_reducible apply keepsRes_next
      | with_reducible exact keepsRes_fault _ | with_reducible exact keepsRes_refused _ | intro _ | dsimp only

theorem keeps_execAluAnd (a0) (a1) (a2) (h2 : Keeps q a2) : KeepsRes q (Sys2Proof.Machine.execAluAnd a0 a1 a2) := by
  unfold Sys2Proof.Machine.execAluAnd
  repeat'
      first
      | with_reducible assumption | with_reducible apply keeps_aluOp | with_reducible apply keepsRes_next
      | with_reducible exact keepsRes_fault _ | with_reducible exact keepsRes_refused _ | intro _ | dsimp only

theorem keeps_execAluXor (a0) (a1) (a2) (h2 : Keeps q a2) : KeepsRes q (Sys2Proof.Machine.execAluXor a0 a1 a2) := by
  unfold Sys2Proof.Machine.execAluXor
  repeat'
      first
      | with_reducible assumption | with_reducible apply keeps_aluOp | with_reducible apply keepsRes_next
      | with_reducible exact keepsRes_fault _ | with_reducible exact keepsRes_refused _ | intro _ | dsimp only

theorem keeps_execLdb (a0) (a1) (a2) (h2 : Keeps q a2) : KeepsRes q (Sys2Proof.Machine.execLdb a0 a1 a2) := by
  unfold Sys2Proof.Machine.execLdb
  repeat'
      first
      | with_reducible assumption | with_reducible apply keeps_walkerOp | with_reducible apply keeps_issueLoad
      | with_reducible apply keepsRes_next | with_reducible exact keepsRes_fault _ | with_reducible exact keepsRes_refused _ | intro _
      | dsimp only

theorem keeps_execBltu (a0) (a1) (a2) (h2 : Keeps q a2) : KeepsRes q (Sys2Proof.Machine.execBltu a0 a1 a2) := by
  unfold Sys2Proof.Machine.execBltu
  repeat'
      first
      | with_reducible assumption | with_reducible apply keeps_branchOp | with_reducible apply keepsRes_next
      | with_reducible exact keepsRes_fault _ | with_reducible exact keepsRes_refused _ | intro _ | dsimp only

theorem keeps_execAmo32 (a0) (a1) (a2) (h2 : Keeps q a2) : KeepsRes q (Sys2Proof.Machine.execAmo32 a0 a1 a2) := by
  unfold Sys2Proof.Machine.execAmo32
  repeat'
      first
      | with_reducible assumption | with_reducible apply keeps_amoOp | with_reducible apply keepsRes_next
      | with_reducible exact keepsRes_fault _ | with_reducible exact keepsRes_refused _ | intro _ | dsimp only

theorem keeps_execAmo64 (a0) (a1) (a2) (h2 : Keeps q a2) : KeepsRes q (Sys2Proof.Machine.execAmo64 a0 a1 a2) := by
  unfold Sys2Proof.Machine.execAmo64
  repeat'
      first
      | with_reducible assumption | with_reducible apply keeps_amoOp | with_reducible apply keepsRes_next
      | with_reducible exact keepsRes_fault _ | with_reducible exact keepsRes_refused _ | intro _ | dsimp only

theorem keeps_stepWaiter (a0) (a1) (a2) (a3) (h0 : Keeps q a0) : Keeps q (Sys2Proof.Machine.stepWaiter a0 a1 a2 a3) := by
  unfold Sys2Proof.Machine.stepWaiter
  repeat'
      first
      | with_reducible assumption | with_reducible apply keeps_State_updThread | with_reducible apply keeps_performPost
      | with_reducible apply keeps_settleThread | with_reducible apply keeps_endFence | with_reducible apply keeps_ite_keep | intro _
      | split | dsimp only | (fail_if_no_progress with_reducible apply keeps_mk) | with_reducible refine keeps_of_fst ?_ (by assumption)
      | with_reducible refine keeps_of_snd ?_ (by assumption) | with_reducible refine keeps_of_snd2 ?_ (by assumption)
      | with_reducible refine keeps_of_some ?_ (by assumption) | with_reducible refine keeps_of_next ?_ (by assumption)

theorem keeps_execFence (a0) (a1) (a2) (h2 : Keeps q a2) : KeepsRes q (Sys2Proof.Machine.execFence a0 a1 a2) := by
  unfold Sys2Proof.Machine.execFence
  repeat'
      first
      | with_reducible assumption | with_reducible apply keeps_State_updWalker | with_reducible apply keeps_walkerOp
      | with_reducible apply keeps_State_updThread | with_reducible apply keeps_endFence | with_reducible apply keepsRes_next
      | with_reducible exact keepsRes_fault _ | with_reducible exact keepsRes_refused _ | with_reducible apply keepsOpt_some
      | with_reducible exact keepsOpt_none | with_reducible apply keepsRes_ite | with_reducible apply keeps_ite_keep | intro _ | split
      | dsimp only | (fail_if_no_progress with_reducible apply keeps_mk)

theorem keeps_execStrel (a0) (a1) (a2) (h2 : Keeps q a2) : KeepsRes q (Sys2Proof.Machine.execStrel a0 a1 a2) := by
  unfold Sys2Proof.Machine.execStrel
  repeat'
      first
      | with_reducible assumption | with_reducible apply keeps_State_updWalker | with_reducible apply keeps_walkerOp
      | with_reducible apply keeps_State_updThread | with_reducible apply keeps_stopAccess | with_reducible apply keepsRes_next
      | with_reducible exact keepsRes_fault _ | with_reducible exact keepsRes_refused _ | with_reducible apply keepsOpt_some
      | with_reducible exact keepsOpt_none | with_reducible apply keepsRes_ite | with_reducible apply keeps_ite_keep | intro _ | split
      | dsimp only | (fail_if_no_progress with_reducible apply keeps_mk)

theorem keeps_issueStore (a0) (a1) (a2) (a3) (a4) (a5) (a6) (h0 : Keeps q a0) : KeepsOpt q (Sys2Proof.Machine.issueStore a0 a1 a2 a3 a4 a5 a6) := by
  unfold Sys2Proof.Machine.issueStore
  repeat'
      first
      | with_reducible assumption | with_reducible apply keeps_retireNext | with_reducible apply keeps_State_updWalker
      | with_reducible apply keeps_stopAccess | with_reducible apply keepsOpt_some | with_reducible exact keepsOpt_none
      | with_reducible apply keepsOpt_ite | with_reducible apply keeps_ite_keep | intro _ | split | dsimp only
      | (fail_if_no_progress with_reducible apply keeps_mk)

theorem keeps_performStore (a0) (a1) (a2) (h0 : Keeps q a0) : Keeps q (Sys2Proof.Machine.performStore a0 a1 a2).1 := by
  unfold Sys2Proof.Machine.performStore
  repeat'
      first
      | with_reducible assumption | with_reducible apply keeps_State_updWalker | with_reducible apply keeps_regWrite
      | with_reducible apply keeps_postBurst | with_reducible apply keeps_storeBytes | with_reducible apply keeps_addRun
      | with_reducible apply keeps_ite_keep | intro _ | split | dsimp only | (fail_if_no_progress with_reducible apply keeps_mk)
      | with_reducible refine keeps_of_fst ?_ (by assumption) | with_reducible refine keeps_of_snd ?_ (by assumption)
      | with_reducible refine keeps_of_snd2 ?_ (by assumption) | with_reducible refine keeps_of_some ?_ (by assumption)
      | with_reducible refine keeps_of_next ?_ (by assumption)

theorem keeps_execWadd (a0) (a1) (a2) (h2 : Keeps q a2) : KeepsRes q (Sys2Proof.Machine.execWadd a0 a1 a2) := by
  unfold Sys2Proof.Machine.execWadd
  repeat'
      first
      | with_reducible assumption | with_reducible apply keeps_stopThread | with_reducible apply keeps_walkerOp
      | with_reducible apply keeps_issueStore | with_reducible apply keeps_issueLoad | with_reducible apply keeps_State_updWalker
      | with_reducible apply keepsRes_next | with_reducible exact keepsRes_fault _ | with_reducible exact keepsRes_refused _
      | with_reducible apply keepsOpt_some | with_reducible exact keepsOpt_none | with_reducible apply keepsRes_ite
      | with_reducible apply keeps_ite_keep | intro _ | split | dsimp only

theorem keeps_execStb (a0) (a1) (a2) (h2 : Keeps q a2) : KeepsRes q (Sys2Proof.Machine.execStb a0 a1 a2) := by
  unfold Sys2Proof.Machine.execStb
  repeat'
      first
      | with_reducible assumption | with_reducible apply keeps_walkerOp | with_reducible apply keeps_issueStore
      | with_reducible apply keepsRes_next | with_reducible exact keepsRes_fault _ | with_reducible exact keepsRes_refused _
      | with_reducible apply keepsOpt_some | with_reducible exact keepsOpt_none | intro _ | dsimp only

theorem keeps_execSt (a0) (a1) (a2) (h2 : Keeps q a2) : KeepsRes q (Sys2Proof.Machine.execSt a0 a1 a2) := by
  unfold Sys2Proof.Machine.execSt
  repeat'
      first
      | with_reducible assumption | with_reducible apply keeps_walkerOp | with_reducible apply keeps_issueStore
      | with_reducible apply keepsRes_next | with_reducible exact keepsRes_fault _ | with_reducible exact keepsRes_refused _
      | with_reducible apply keepsOpt_some | with_reducible exact keepsOpt_none | intro _ | dsimp only

theorem keeps_ackStore (a0) (a1) (a2) (a3) (a4) (a5) (h0 : Keeps q a0) : Keeps q (Sys2Proof.Machine.ackStore a0 a1 a2 a3 a4 a5) := by
  unfold Sys2Proof.Machine.ackStore
  repeat'
      first
      | with_reducible assumption | with_reducible apply keeps_State_updWalker | with_reducible apply keeps_stopThreadAt
      | with_reducible apply keeps_settleThread | with_reducible apply keeps_finishAccess | with_reducible apply keeps_stepWaiter
      | with_reducible apply keeps_performStore | with_reducible apply keeps_foldl | with_reducible apply keeps_foldl_fst
      | with_reducible apply keeps_foldl_snd | with_reducible apply keeps_foldl_snd2 | with_reducible apply keeps_ite_keep | intro _ | split
      | dsimp only | (fail_if_no_progress with_reducible apply keeps_mk) | with_reducible refine keeps_of_fst ?_ (by assumption)
      | with_reducible refine keeps_of_snd ?_ (by assumption) | with_reducible refine keeps_of_snd2 ?_ (by assumption)
      | with_reducible refine keeps_of_some ?_ (by assumption) | with_reducible refine keeps_of_next ?_ (by assumption)

theorem keeps_execWalkerStoreAck (a0) (a1) (a2) (a3) (h3 : Keeps q a3) : KeepsRes q (Sys2Proof.Machine.execWalkerStoreAck a0 a1 a2 a3) := by
  unfold Sys2Proof.Machine.execWalkerStoreAck
  repeat'
      first
      | with_reducible assumption | with_reducible apply keeps_ackStore | with_reducible apply keepsRes_next
      | with_reducible exact keepsRes_fault _ | with_reducible exact keepsRes_refused _ | with_reducible apply keepsOpt_some
      | with_reducible exact keepsOpt_none | with_reducible apply keepsRes_ite | with_reducible apply keeps_ite_keep | intro _ | split
      | dsimp only | (fail_if_no_progress with_reducible apply keeps_mk) | with_reducible refine keeps_of_fst ?_ (by assumption)
      | with_reducible refine keeps_of_snd ?_ (by assumption) | with_reducible refine keeps_of_snd2 ?_ (by assumption)
      | with_reducible refine keeps_of_some ?_ (by assumption) | with_reducible refine keeps_of_next ?_ (by assumption)


/-! ## Kv -/

theorem keeps_updNode (a0) (a1) (a2) (h0 : Keeps q a0) : Keeps q (Sys2Proof.Machine.updNode a0 a1 a2) := by
  unfold Sys2Proof.Machine.updNode
  repeat'
      first
      | with_reducible assumption | with_reducible refine keepsOpt_map (fun _ => ?_) | with_reducible apply keeps_ite_keep | intro _
      | split | dsimp only | (fail_if_no_progress with_reducible apply keeps_mk)

theorem keeps_unholdNodes (a0) (a1) (a2) (h0 : Keeps q a0) : Keeps q (Sys2Proof.Machine.unholdNodes a0 a1 a2) := by
  revert h0
  fun_induction Sys2Proof.Machine.unholdNodes a0 a1 a2 <;> intros
  all_goals repeat'
      first
      | with_reducible assumption | with_reducible apply keeps_updNode | intro _ | split | dsimp only
      | (fail_if_no_progress with_reducible apply keeps_mk) | with_reducible refine keeps_of_fst ?_ (by assumption)
      | with_reducible refine keeps_of_snd ?_ (by assumption) | with_reducible refine keeps_of_snd2 ?_ (by assumption)
      | with_reducible refine keeps_of_some ?_ (by assumption) | with_reducible refine keeps_of_next ?_ (by assumption) | apply_assumption

theorem keeps_holdNodes (a0) (a1) (h0 : Keeps q a0) : Keeps q (Sys2Proof.Machine.holdNodes a0 a1) := by
  unfold Sys2Proof.Machine.holdNodes
  repeat'
      first
      | with_reducible assumption | with_reducible apply keeps_updNode | with_reducible apply keeps_foldl
      | with_reducible apply keeps_foldl_fst | with_reducible apply keeps_foldl_snd | with_reducible apply keeps_foldl_snd2 | intro _
      | dsimp only | (fail_if_no_progress with_reducible apply keeps_mk)

theorem keeps_allocPage (a0) (a1) (a2) (h0 : Keeps q a0) : Keeps q (Sys2Proof.Machine.allocPage a0 a1 a2) := by
  unfold Sys2Proof.Machine.allocPage
  repeat'
      first
      | with_reducible assumption | with_reducible apply keeps_discardRange | intro _ | dsimp only
      | (fail_if_no_progress with_reducible apply keeps_mk)

theorem keeps_setRef (a0) (a1) (a2) (h0 : Keeps q a0) : Keeps q (Sys2Proof.Machine.setRef a0 a1 a2) := by
  unfold Sys2Proof.Machine.setRef
  repeat'
      first
      | with_reducible assumption | with_reducible apply keeps_discardRange | with_reducible apply keeps_ite_keep | intro _ | split
      | dsimp only | (fail_if_no_progress with_reducible apply keeps_mk)

theorem keeps_dropFragment (a0) (a1) (h0 : Keeps q a0) : Keeps q (Sys2Proof.Machine.dropFragment a0 a1) := by
  unfold Sys2Proof.Machine.dropFragment
  repeat'
      first
      | with_reducible assumption | with_reducible apply keeps_setRef | with_reducible refine keepsOpt_map (fun _ => ?_)
      | with_reducible apply keeps_foldl | with_reducible apply keeps_foldl_fst | with_reducible apply keeps_foldl_snd
      | with_reducible apply keeps_foldl_snd2 | with_reducible apply keeps_ite_keep | intro _ | split | dsimp only
      | (fail_if_no_progress with_reducible apply keeps_mk) | with_reducible refine keeps_of_fst ?_ (by assumption)
      | with_reducible refine keeps_of_snd ?_ (by assumption) | with_reducible refine keeps_of_snd2 ?_ (by assumption)
      | with_reducible refine keeps_of_some ?_ (by assumption) | with_reducible refine keeps_of_next ?_ (by assumption)

theorem keeps_removeNode (a0) (a1) (h0 : Keeps q a0) : Keeps q (Sys2Proof.Machine.removeNode a0 a1) := by
  unfold Sys2Proof.Machine.removeNode
  repeat'
      first
      | with_reducible assumption | with_reducible apply keeps_dropFragment | intro _ | split | dsimp only
      | (fail_if_no_progress with_reducible apply keeps_mk) | with_reducible refine keeps_of_fst ?_ (by assumption)
      | with_reducible refine keeps_of_snd ?_ (by assumption) | with_reducible refine keeps_of_snd2 ?_ (by assumption)
      | with_reducible refine keeps_of_some ?_ (by assumption) | with_reducible refine keeps_of_next ?_ (by assumption)

theorem keeps_invalidatePage (a0) (a1) (h0 : Keeps q a0) : Keeps q (Sys2Proof.Machine.invalidatePage a0 a1) := by
  unfold Sys2Proof.Machine.invalidatePage
  repeat'
      first
      | with_reducible assumption | with_reducible apply keeps_updNode | with_reducible apply keeps_removeNode
      | with_reducible apply keeps_foldl | with_reducible apply keeps_foldl_fst | with_reducible apply keeps_foldl_snd
      | with_reducible apply keeps_foldl_snd2 | with_reducible apply keeps_ite_keep | intro _ | split | dsimp only
      | (fail_if_no_progress with_reducible apply keeps_mk) | with_reducible refine keeps_of_fst ?_ (by assumption)
      | with_reducible refine keeps_of_snd ?_ (by assumption) | with_reducible refine keeps_of_snd2 ?_ (by assumption)
      | with_reducible refine keeps_of_some ?_ (by assumption) | with_reducible refine keeps_of_next ?_ (by assumption)

theorem keeps_evictPages (a0) (a1) (h0 : Keeps q a0) : Keeps q (Sys2Proof.Machine.evictPages a0 a1) := by
  revert h0
  fun_induction Sys2Proof.Machine.evictPages a0 a1 <;> intros
  all_goals repeat'
      first
      | with_reducible assumption | with_reducible apply keeps_removeNode | with_reducible apply keeps_bump
      | with_reducible apply keeps_ite_keep | intro _ | split | dsimp only | (fail_if_no_progress with_reducible apply keeps_mk)
      | with_reducible refine keeps_of_fst ?_ (by assumption) | with_reducible refine keeps_of_snd ?_ (by assumption)
      | with_reducible refine keeps_of_snd2 ?_ (by assumption) | with_reducible refine keeps_of_some ?_ (by assumption)
      | with_reducible refine keeps_of_next ?_ (by assumption) | apply_assumption

theorem keeps_evictFor (a0) (a1) (a2) (h0 : Keeps q a0) : Keeps q (Sys2Proof.Machine.evictFor a0 a1 a2) := by
  unfold Sys2Proof.Machine.evictFor
  repeat'
      first
      | with_reducible assumption | with_reducible apply keeps_evictPages | with_reducible apply keeps_ite_keep | intro _ | split
      | dsimp only

theorem keeps_copyPage (a0) (a1) (a2) (a3) (a4) (h0 : Keeps q a0) : Keeps q (Sys2Proof.Machine.copyPage a0 a1 a2 a3 a4) := by
  induction a4 generalizing a0 a2 a3 with
  | zero => exact h0
  | succ n ih =>
    rw [Sys2Proof.Machine.copyPage]
    exact ih _ _ _ (keeps_storeCode _ _ _ (keeps_loadWord _ _ _ _ h0))

theorem keeps_seeWindows (a0) (a1) (h0 : Keeps q a0) : Keeps q (Sys2Proof.Machine.seeWindows a0 a1) := by
  unfold Sys2Proof.Machine.seeWindows
  repeat' first | with_reducible assumption | with_reducible apply keeps_svcSee | with_reducible apply keeps_ite_keep | intro _ | split | dsimp only

theorem keeps_makeFragment (a0) (a1) (a2) (a3) (h0 : Keeps q a0) : Keeps q (Sys2Proof.Machine.makeFragment a0 a1 a2 a3) := by
  unfold Sys2Proof.Machine.makeFragment
  repeat'
      first
      | with_reducible assumption | with_reducible apply keeps_setRef | with_reducible apply keeps_svcSee
      | with_reducible refine keepsOpt_map (fun _ => ?_) | with_reducible apply keeps_foldl | with_reducible apply keeps_foldl_fst
      | with_reducible apply keeps_foldl_snd | with_reducible apply keeps_foldl_snd2 | intro _ | dsimp only
      | (fail_if_no_progress with_reducible apply keeps_mk)

theorem keeps_publishBlocks (a0) (a1) (a2) (a3) (a4) (a5) (a6) (h0 : Keeps q a0) : Keeps q (Sys2Proof.Machine.publishBlocks a0 a1 a2 a3 a4 a5 a6) := by
  revert h0
  fun_induction Sys2Proof.Machine.publishBlocks a0 a1 a2 a3 a4 a5 a6 <;> intros
  all_goals repeat'
      first
      | with_reducible assumption | with_reducible apply keeps_makeFragment | with_reducible refine keepsOpt_map (fun _ => ?_)
      | with_reducible apply keeps_ite_keep | intro _ | split | dsimp only | (fail_if_no_progress with_reducible apply keeps_mk)
      | with_reducible refine keeps_of_fst ?_ (by assumption) | with_reducible refine keeps_of_snd ?_ (by assumption)
      | with_reducible refine keeps_of_snd2 ?_ (by assumption) | with_reducible refine keeps_of_some ?_ (by assumption)
      | with_reducible refine keeps_of_next ?_ (by assumption) | apply_assumption

theorem keeps_noteWindow (a0) (a1) (a2) (a3) (a4) (h0 : Keeps q a0) : Keeps q (Sys2Proof.Machine.noteWindow a0 a1 a2 a3 a4) := by
  unfold Sys2Proof.Machine.noteWindow
  repeat'
      first
      | with_reducible assumption | with_reducible apply keeps_freeValue | with_reducible apply keeps_svcWrite
      | with_reducible apply keeps_ite_keep | intro _ | split | dsimp only | with_reducible refine keeps_of_fst ?_ (by assumption)
      | with_reducible refine keeps_of_snd ?_ (by assumption) | with_reducible refine keeps_of_snd2 ?_ (by assumption)
      | with_reducible refine keeps_of_some ?_ (by assumption) | with_reducible refine keeps_of_next ?_ (by assumption)

theorem keeps_seeReached (a0) (a1) (h0 : Keeps q a0) : Keeps q (Sys2Proof.Machine.seeReached a0 a1) := by
  unfold Sys2Proof.Machine.seeReached
  repeat'
      first
      | with_reducible assumption | with_reducible apply keeps_svcSee | with_reducible apply keeps_seeWindows
      | with_reducible apply keeps_foldl | with_reducible apply keeps_foldl_fst | with_reducible apply keeps_foldl_snd
      | with_reducible apply keeps_foldl_snd2 | intro _ | dsimp only

theorem keeps_givePage (a0) (a1) (a2) (a3) (a4) (a5) (h0 : Keeps q a0) : Keeps q (Sys2Proof.Machine.givePage a0 a1 a2 a3 a4 a5) := by
  unfold Sys2Proof.Machine.givePage
  repeat'
      first
      | with_reducible assumption | with_reducible apply keeps_allocPage | with_reducible apply keeps_writeEntry
      | with_reducible apply keeps_ite_keep | intro _ | split | dsimp only | (fail_if_no_progress with_reducible apply keeps_mk)
      | with_reducible refine keeps_of_fst ?_ (by assumption) | with_reducible refine keeps_of_snd ?_ (by assumption)
      | with_reducible refine keeps_of_snd2 ?_ (by assumption) | with_reducible refine keeps_of_some ?_ (by assumption)
      | with_reducible refine keeps_of_next ?_ (by assumption)

theorem keeps_releaseEntry (a0) (a1) (h0 : Keeps q a0) : Keeps q (Sys2Proof.Machine.releaseEntry a0 a1) := by
  unfold Sys2Proof.Machine.releaseEntry
  repeat'
      first
      | with_reducible assumption | with_reducible apply keeps_svcSee | with_reducible apply keeps_setRef
      | with_reducible apply keeps_writeEntry | with_reducible apply keeps_ite_keep | intro _ | split | dsimp only

theorem keeps_publishWindow (a0) (a1) (a2) (a3) (a4) (a5) (a6) (a7) (a8) (h0 : Keeps q a0) : Keeps q (Sys2Proof.Machine.publishWindow a0 a1 a2 a3 a4 a5 a6 a7 a8) := by
  unfold Sys2Proof.Machine.publishWindow
  repeat' first | with_reducible assumption | with_reducible apply keeps_publishBlocks | with_reducible apply keeps_svcSee | intro _ | dsimp only

theorem keeps_mapFragment (a0) (a1) (a2) (a3) (h0 : Keeps q a0) : Keeps q (Sys2Proof.Machine.mapFragment a0 a1 a2 a3) := by
  unfold Sys2Proof.Machine.mapFragment
  repeat'
      first
      | with_reducible assumption | with_reducible apply keeps_writeEntry | with_reducible apply keeps_getD
      | with_reducible apply keeps_foldl | with_reducible apply keeps_foldl_fst | with_reducible apply keeps_foldl_snd
      | with_reducible apply keeps_foldl_snd2 | intro _ | dsimp only

theorem keeps_execKvPrepareDone (a0) (a1) (h1 : Keeps q a1) : KeepsRes q (Sys2Proof.Machine.execKvPrepareDone a0 a1) := by
  unfold Sys2Proof.Machine.execKvPrepareDone
  repeat'
      first
      | with_reducible assumption | with_reducible apply keeps_copyPage | with_reducible apply keeps_writeEntry
      | with_reducible apply keeps_bump | with_reducible apply keepsRes_next | with_reducible exact keepsRes_fault _
      | with_reducible exact keepsRes_refused _ | with_reducible apply keeps_foldl | with_reducible apply keeps_foldl_fst
      | with_reducible apply keeps_foldl_snd | with_reducible apply keeps_foldl_snd2 | with_reducible apply keepsRes_ite
      | with_reducible apply keeps_ite_keep | intro _ | split | dsimp only | (fail_if_no_progress with_reducible apply keeps_mk)

theorem keeps_releaseBeyond (a0) (a1) (a2) (h0 : Keeps q a0) : Keeps q (Sys2Proof.Machine.releaseBeyond a0 a1 a2) := by
  unfold Sys2Proof.Machine.releaseBeyond
  repeat'
      first
      | with_reducible assumption | with_reducible apply keeps_releaseEntry | with_reducible apply keeps_foldl
      | with_reducible apply keeps_foldl_fst | with_reducible apply keeps_foldl_snd | with_reducible apply keeps_foldl_snd2 | intro _
      | dsimp only

theorem keeps_publishReq (a0) (a1) (h0 : Keeps q a0) : Keeps q (Sys2Proof.Machine.publishReq a0 a1) := by
  unfold Sys2Proof.Machine.publishReq
  repeat'
      first
      | with_reducible assumption | with_reducible apply keeps_publishWindow | with_reducible apply keeps_ite_keep | intro _ | split
      | dsimp only

theorem keeps_mapMatched (a0) (a1) (a2) (h0 : Keeps q a0) : Keeps q (Sys2Proof.Machine.mapMatched a0 a1 a2) := by
  unfold Sys2Proof.Machine.mapMatched
  repeat'
      first
      | with_reducible assumption | with_reducible apply keeps_mapFragment | with_reducible apply keeps_foldl
      | with_reducible apply keeps_foldl_fst | with_reducible apply keeps_foldl_snd | with_reducible apply keeps_foldl_snd2 | intro _
      | split | dsimp only | (fail_if_no_progress with_reducible apply keeps_mk) | with_reducible refine keeps_of_fst ?_ (by assumption)
      | with_reducible refine keeps_of_snd ?_ (by assumption) | with_reducible refine keeps_of_snd2 ?_ (by assumption)
      | with_reducible refine keeps_of_some ?_ (by assumption) | with_reducible refine keeps_of_next ?_ (by assumption)

theorem keeps_execKvPagePrepare (a0) (a1) (a2) (h2 : Keeps q a2) : KeepsRes q (Sys2Proof.Machine.execKvPagePrepare a0 a1 a2) := by
  unfold Sys2Proof.Machine.execKvPagePrepare
  repeat'
      first
      | with_reducible assumption | with_reducible apply keeps_evictFor | with_reducible apply keeps_seeReached
      | with_reducible apply keeps_State_updReq | with_reducible apply keeps_givePage | with_reducible apply keeps_State_setReq
      | with_reducible apply keepsRes_next | with_reducible exact keepsRes_fault _ | with_reducible exact keepsRes_refused _
      | with_reducible apply keeps_foldl | with_reducible apply keeps_foldl_fst | with_reducible apply keeps_foldl_snd
      | with_reducible apply keeps_foldl_snd2 | with_reducible apply keepsRes_ite | with_reducible apply keeps_ite_keep | intro _ | split
      | dsimp only | (fail_if_no_progress with_reducible apply keeps_mk)

theorem keeps_endWindows (a0) (a1) (h0 : Keeps q a0) : Keeps q (Sys2Proof.Machine.endWindows a0 a1) := by
  unfold Sys2Proof.Machine.endWindows
  repeat'
      first
      | with_reducible assumption | with_reducible apply keeps_seeWindows | with_reducible apply keeps_releaseBeyond
      | with_reducible apply keeps_unholdNodes | with_reducible apply keeps_ite_keep | intro _ | split | dsimp only

theorem keeps_matchPrefix (a0) (a1) (a2) (a3) (a4) (a5) (a6) (h0 : Keeps q a0) : Keeps q (Sys2Proof.Machine.matchPrefix a0 a1 a2 a3 a4 a5 a6).1 := by
  unfold Sys2Proof.Machine.matchPrefix
  repeat'
      first
      | with_reducible assumption | with_reducible apply keeps_holdNodes | with_reducible apply keeps_svcSee
      | with_reducible apply keeps_mapMatched | with_reducible apply keeps_noteWindow | with_reducible apply keeps_bump
      | with_reducible apply keeps_getD | intro _ | split | dsimp only | (fail_if_no_progress with_reducible apply keeps_mk)
      | with_reducible refine keeps_of_fst ?_ (by assumption) | with_reducible refine keeps_of_snd ?_ (by assumption)
      | with_reducible refine keeps_of_snd2 ?_ (by assumption) | with_reducible refine keeps_of_some ?_ (by assumption)
      | with_reducible refine keeps_of_next ?_ (by assumption)


/-! ## SvcOps -/

theorem keeps_emitLan (a0) (a1) (h0 : Keeps q a0) : Keeps q (Sys2Proof.Machine.emitLan a0 a1) := by
  unfold Sys2Proof.Machine.emitLan
  repeat' first | with_reducible assumption | with_reducible apply keeps_emit | intro _ | dsimp only

theorem keeps_freeReq (a0) (a1) (h0 : Keeps q a0) : Keeps q (Sys2Proof.Machine.freeReq a0 a1) := by
  unfold Sys2Proof.Machine.freeReq
  repeat'
      first
      | with_reducible assumption | with_reducible apply keeps_State_setReq | intro _ | dsimp only
      | (fail_if_no_progress with_reducible apply keeps_mk)

theorem keeps_presenceFrame (a0) (a1) (h0 : Keeps q a0) : Keeps q (Sys2Proof.Machine.presenceFrame a0 a1) := by
  unfold Sys2Proof.Machine.presenceFrame
  repeat'
      first
      | with_reducible assumption | with_reducible apply keeps_emitLan | with_reducible apply keeps_ite_keep | intro _ | split
      | dsimp only | (fail_if_no_progress with_reducible apply keeps_mk)

theorem keeps_reserveRing (a0) (a1) (a2) (h0 : Keeps q a0) : KeepsOpt q (Sys2Proof.Machine.reserveRing a0 a1 a2) := by
  unfold Sys2Proof.Machine.reserveRing
  repeat'
      first
      | with_reducible assumption | with_reducible apply keeps_State_updRing | with_reducible apply keepsOpt_some
      | with_reducible exact keepsOpt_none | with_reducible apply keepsOpt_ite | with_reducible apply keeps_ite_keep | intro _ | split
      | dsimp only | (fail_if_no_progress with_reducible apply keeps_mk) | with_reducible refine keeps_of_fst ?_ (by assumption)
      | with_reducible refine keeps_of_snd ?_ (by assumption) | with_reducible refine keeps_of_snd2 ?_ (by assumption)
      | with_reducible refine keeps_of_some ?_ (by assumption) | with_reducible refine keeps_of_next ?_ (by assumption)

theorem keeps_unreserveRing (a0) (a1) (a2) (h0 : Keeps q a0) : Keeps q (Sys2Proof.Machine.unreserveRing a0 a1 a2) := by
  unfold Sys2Proof.Machine.unreserveRing
  repeat'
      first
      | with_reducible assumption | with_reducible apply keeps_State_updRing | intro _ | split | dsimp only
      | (fail_if_no_progress with_reducible apply keeps_mk) | with_reducible refine keeps_of_fst ?_ (by assumption)
      | with_reducible refine keeps_of_snd ?_ (by assumption) | with_reducible refine keeps_of_snd2 ?_ (by assumption)
      | with_reducible refine keeps_of_some ?_ (by assumption) | with_reducible refine keeps_of_next ?_ (by assumption)

theorem keeps_timeFrame (a0) (a1) (a2) (h0 : Keeps q a0) : Keeps q (Sys2Proof.Machine.timeFrame a0 a1 a2) := by
  unfold Sys2Proof.Machine.timeFrame
  repeat' first | with_reducible assumption | with_reducible apply keeps_emitLan | intro _ | dsimp only

theorem keeps_notice (a0) (a1) (h0 : Keeps q a0) : Keeps q (Sys2Proof.Machine.notice a0 a1) := by
  unfold Sys2Proof.Machine.notice
  repeat' first | with_reducible assumption | with_reducible apply keeps_presenceFrame | intro _ | dsimp only

theorem keeps_lastAnnounce (a0) (h0 : Keeps q a0) : Keeps q (Sys2Proof.Machine.lastAnnounce a0) := by
  unfold Sys2Proof.Machine.lastAnnounce
  repeat'
      first
      | with_reducible assumption | with_reducible apply keeps_timeFrame | with_reducible apply keeps_ite_keep | intro _ | split
      | dsimp only | (fail_if_no_progress with_reducible apply keeps_mk)

theorem keeps_endReq (a0) (a1) (a2) (a3) (h0 : Keeps q a0) : Keeps q (Sys2Proof.Machine.endReq a0 a1 a2 a3) := by
  unfold Sys2Proof.Machine.endReq
  repeat'
      first
      | with_reducible assumption | with_reducible apply keeps_State_updReq | with_reducible apply keeps_bump
      | with_reducible apply keeps_ite_keep | intro _ | split | dsimp only | (fail_if_no_progress with_reducible apply keeps_mk)
      | with_reducible refine keeps_of_fst ?_ (by assumption) | with_reducible refine keeps_of_snd ?_ (by assumption)
      | with_reducible refine keeps_of_snd2 ?_ (by assumption) | with_reducible refine keeps_of_some ?_ (by assumption)
      | with_reducible refine keeps_of_next ?_ (by assumption)

theorem keeps_latePolicy (a0) (a1) (h0 : Keeps q a0) : Keeps q (Sys2Proof.Machine.latePolicy a0 a1) := by
  unfold Sys2Proof.Machine.latePolicy
  repeat'
      first
      | with_reducible assumption | with_reducible apply keeps_State_updReq | with_reducible apply keeps_endReq
      | with_reducible apply keeps_State_setReq | with_reducible apply keeps_ite_keep | intro _ | split | dsimp only
      | (fail_if_no_progress with_reducible apply keeps_mk)

theorem keeps_lateWaiting (a0) (a1) (a2) (h0 : Keeps q a0) : Keeps q (Sys2Proof.Machine.lateWaiting a0 a1 a2) := by
  unfold Sys2Proof.Machine.lateWaiting
  repeat'
      first
      | with_reducible assumption | with_reducible apply keeps_latePolicy | with_reducible apply keeps_foldl
      | with_reducible apply keeps_foldl_fst | with_reducible apply keeps_foldl_snd | with_reducible apply keeps_foldl_snd2
      | with_reducible apply keeps_ite_keep | intro _ | split | dsimp only

theorem keeps_noteStatus (a0) (a1) (h0 : Keeps q a0) : Keeps q (Sys2Proof.Machine.noteStatus a0 a1) := by
  unfold Sys2Proof.Machine.noteStatus
  repeat' first | with_reducible assumption | with_reducible apply keeps_cmdState | with_reducible apply keeps_ite_keep | intro _ | split | dsimp only

theorem keeps_handOver (a0) (a1) (h0 : Keeps q a0) : Keeps q (Sys2Proof.Machine.handOver a0 a1) := by
  unfold Sys2Proof.Machine.handOver
  repeat' first | with_reducible assumption | with_reducible apply keeps_mirror | intro _ | dsimp only

theorem keeps_mirrorPublish (a0) (a1) (h0 : Keeps q a0) : Keeps q (Sys2Proof.Machine.mirrorPublish a0 a1) := by
  unfold Sys2Proof.Machine.mirrorPublish
  repeat' first | with_reducible assumption | with_reducible apply keeps_mirror | with_reducible apply keeps_ite_keep | intro _ | split | dsimp only

theorem keeps_failRestore (a0) (a1) (h0 : Keeps q a0) : Keeps q (Sys2Proof.Machine.failRestore a0 a1) := by
  unfold Sys2Proof.Machine.failRestore
  repeat' first | with_reducible assumption | with_reducible apply keeps_recordFault | with_reducible apply keeps_bump | intro _ | dsimp only

theorem keeps_failTwinRestores (a0) (h0 : Keeps q a0) : Keeps q (Sys2Proof.Machine.failTwinRestores a0) := by
  unfold Sys2Proof.Machine.failTwinRestores
  repeat'
      first
      | with_reducible assumption | with_reducible apply keeps_failRestore | with_reducible apply keeps_foldl
      | with_reducible apply keeps_foldl_fst | with_reducible apply keeps_foldl_snd | with_reducible apply keeps_foldl_snd2
      | with_reducible apply keeps_ite_keep | intro _ | split | dsimp only | (fail_if_no_progress with_reducible apply keeps_mk)

theorem keeps_storeRecords (a0) (a1) (a2) (a3) (h0 : Keeps q a0) : Keeps q (Sys2Proof.Machine.storeRecords a0 a1 a2 a3).1 := by
  revert h0
  fun_induction Sys2Proof.Machine.storeRecords a0 a1 a2 a3 <;> intros
  all_goals repeat'
      first
      | with_reducible assumption | with_reducible apply keeps_emit | with_reducible apply keeps_storeBytes
      | with_reducible apply keeps_ite_keep | intro _ | split | dsimp only | with_reducible refine keeps_of_fst ?_ (by assumption)
      | with_reducible refine keeps_of_snd ?_ (by assumption) | with_reducible refine keeps_of_snd2 ?_ (by assumption)
      | with_reducible refine keeps_of_some ?_ (by assumption) | with_reducible refine keeps_of_next ?_ (by assumption) | apply_assumption

theorem keeps_writeRecords (a0) (a1) (a2) (h0 : Keeps q a0) : Keeps q (Sys2Proof.Machine.writeRecords a0 a1 a2) := by
  unfold Sys2Proof.Machine.writeRecords
  repeat'
      first
      | with_reducible assumption | with_reducible apply keeps_raiseLocal | with_reducible apply keeps_State_updRing
      | with_reducible apply keeps_storeRecords | with_reducible apply keeps_failRing | with_reducible apply keeps_emit
      | with_reducible apply keeps_ite_keep | intro _ | split | dsimp only | (fail_if_no_progress with_reducible apply keeps_mk)
      | with_reducible refine keeps_of_fst ?_ (by assumption) | with_reducible refine keeps_of_snd ?_ (by assumption)
      | with_reducible refine keeps_of_snd2 ?_ (by assumption) | with_reducible refine keeps_of_some ?_ (by assumption)
      | with_reducible refine keeps_of_next ?_ (by assumption)

theorem keeps_placeCutter (a0) (a1) (a2) (a3) (a4) (a5) (h0 : Keeps q a0) : Keeps q (Sys2Proof.Machine.placeCutter a0 a1 a2 a3 a4 a5) := by
  unfold Sys2Proof.Machine.placeCutter
  repeat'
      first
      | with_reducible assumption | with_reducible apply keeps_svcWrite | intro _ | dsimp only
      | (fail_if_no_progress with_reducible apply keeps_mk)

theorem keeps_sendReply (a0) (a1) (h0 : Keeps q a0) : Keeps q (Sys2Proof.Machine.sendReply a0 a1) := by
  unfold Sys2Proof.Machine.sendReply
  repeat' first | with_reducible assumption | with_reducible apply keeps_completeEntry | intro _ | dsimp only

theorem keeps_writeAllRecords (a0) (a1) (h0 : Keeps q a0) : Keeps q (Sys2Proof.Machine.writeAllRecords a0 a1) := by
  unfold Sys2Proof.Machine.writeAllRecords
  repeat'
      first
      | with_reducible assumption | with_reducible apply keeps_writeRecords | with_reducible refine keepsOpt_map (fun _ => ?_)
      | with_reducible apply keeps_foldl | with_reducible apply keeps_foldl_fst | with_reducible apply keeps_foldl_snd
      | with_reducible apply keeps_foldl_snd2 | intro _ | dsimp only

theorem keeps_answer (a0) (a1) (a2) (a3) (a4) (a5) (h0 : Keeps q a0) : Keeps q (Sys2Proof.Machine.answer a0 a1 a2 a3 a4 a5) := by
  unfold Sys2Proof.Machine.answer
  repeat' first | with_reducible assumption | with_reducible apply keeps_sendReply | with_reducible apply keeps_noteStatus | intro _ | dsimp only

theorem keeps_answerSubmit (a0) (a1) (h0 : Keeps q a0) : Keeps q (Sys2Proof.Machine.answerSubmit a0 a1) := by
  unfold Sys2Proof.Machine.answerSubmit
  repeat'
      first
      | with_reducible assumption | with_reducible apply keeps_answer | intro _ | split | dsimp only
      | (fail_if_no_progress with_reducible apply keeps_mk) | with_reducible refine keeps_of_fst ?_ (by assumption)
      | with_reducible refine keeps_of_snd ?_ (by assumption) | with_reducible refine keeps_of_snd2 ?_ (by assumption)
      | with_reducible refine keeps_of_some ?_ (by assumption) | with_reducible refine keeps_of_next ?_ (by assumption)

theorem keeps_answerPending (a0) (h0 : Keeps q a0) : Keeps q (Sys2Proof.Machine.answerPending a0) := by
  unfold Sys2Proof.Machine.answerPending
  repeat'
      first
      | with_reducible assumption | with_reducible apply keeps_answerSubmit | with_reducible apply keeps_foldl
      | with_reducible apply keeps_foldl_fst | with_reducible apply keeps_foldl_snd | with_reducible apply keeps_foldl_snd2
      | with_reducible apply keeps_ite_keep | intro _ | split | dsimp only | with_reducible refine keeps_of_fst ?_ (by assumption)
      | with_reducible refine keeps_of_snd ?_ (by assumption) | with_reducible refine keeps_of_snd2 ?_ (by assumption)
      | with_reducible refine keeps_of_some ?_ (by assumption) | with_reducible refine keeps_of_next ?_ (by assumption)

theorem keeps_dropReq (a0) (a1) (h0 : Keeps q a0) : Keeps q (Sys2Proof.Machine.dropReq a0 a1) := by
  unfold Sys2Proof.Machine.dropReq
  repeat'
      first
      | with_reducible assumption | with_reducible apply keeps_unreserveRing | with_reducible apply keeps_endWindows
      | with_reducible apply keeps_freeReq | with_reducible apply keeps_ite_keep | intro _ | split | dsimp only

theorem keeps_closeReq (a0) (a1) (h0 : Keeps q a0) : Keeps q (Sys2Proof.Machine.closeReq a0 a1) := by
  unfold Sys2Proof.Machine.closeReq
  repeat'
      first
      | with_reducible assumption | with_reducible apply keeps_publishReq | with_reducible apply keeps_endWindows
      | with_reducible apply keeps_freeReq | with_reducible apply keeps_mirrorPublish | with_reducible apply keeps_ite_keep | intro _
      | split | dsimp only

theorem keeps_settleSubmit (a0) (a1) (h0 : Keeps q a0) : Keeps q (Sys2Proof.Machine.settleSubmit a0 a1) := by
  unfold Sys2Proof.Machine.settleSubmit
  repeat'
      first
      | with_reducible assumption | with_reducible apply keeps_answerSubmit | with_reducible apply keeps_ite_keep | intro _ | split
      | dsimp only

theorem keeps_endWithdraw (a0) (h0 : Keeps q a0) : Keeps q (Sys2Proof.Machine.endWithdraw a0) := by
  unfold Sys2Proof.Machine.endWithdraw
  repeat'
      first
      | with_reducible assumption | with_reducible apply keeps_setPair | with_reducible apply keeps_notice
      | with_reducible apply keeps_dropReq | with_reducible apply keeps_lastAnnounce | with_reducible apply keeps_dset
      | with_reducible apply keeps_foldl | with_reducible apply keeps_foldl_fst | with_reducible apply keeps_foldl_snd
      | with_reducible apply keeps_foldl_snd2 | intro _ | dsimp only | (fail_if_no_progress with_reducible apply keeps_mk)

theorem keeps_finishReqs (a0) (a1) (h0 : Keeps q a0) : Keeps q (Sys2Proof.Machine.finishReqs a0 a1) := by
  unfold Sys2Proof.Machine.finishReqs
  repeat'
      first
      | with_reducible assumption | with_reducible apply keeps_writeAllRecords | with_reducible apply keeps_unreserveRing
      | with_reducible apply keeps_closeReq | with_reducible apply keeps_answerSubmit | with_reducible refine keepsOpt_map (fun _ => ?_)
      | with_reducible apply keeps_foldl | with_reducible apply keeps_foldl_fst | with_reducible apply keeps_foldl_snd
      | with_reducible apply keeps_foldl_snd2 | intro _ | dsimp only

theorem keeps_withdrawSlot (a0) (a1) (h0 : Keeps q a0) : Keeps q (Sys2Proof.Machine.withdrawSlot a0 a1) := by
  unfold Sys2Proof.Machine.withdrawSlot
  repeat'
      first
      | with_reducible assumption | with_reducible apply keeps_handOver | with_reducible apply keeps_endWithdraw
      | with_reducible apply keeps_ite_keep | intro _ | split | dsimp only | (fail_if_no_progress with_reducible apply keeps_mk)

theorem keeps_withEnds (a0) (a1) (h0 : Keeps q a0) (h1 : Keeps q a1) : Keeps q (Sys2Proof.Machine.withEnds a0 a1) := by
  unfold Sys2Proof.Machine.withEnds
  repeat' first | with_reducible assumption | with_reducible apply keeps_finishReqs | intro _ | dsimp only


/-! ## Appends -/

theorem keeps_mirrorPosition (a0) (a1) (a2) (a3) (a4) (a5) (a6) (a7) (h0 : Keeps q a0) : Keeps q (Sys2Proof.Machine.mirrorPosition a0 a1 a2 a3 a4 a5 a6 a7) := by
  unfold Sys2Proof.Machine.mirrorPosition
  repeat'
      first
      | with_reducible assumption | with_reducible apply keeps_storedCode | with_reducible apply keeps_mirrorCodes
      | with_reducible refine keepsOpt_map (fun _ => ?_) | intro _ | split | dsimp only
      | (fail_if_no_progress with_reducible apply keeps_mk) | with_reducible refine keeps_of_fst ?_ (by assumption)
      | with_reducible refine keeps_of_snd ?_ (by assumption) | with_reducible refine keeps_of_snd2 ?_ (by assumption)
      | with_reducible refine keeps_of_some ?_ (by assumption) | with_reducible refine keeps_of_next ?_ (by assumption)

theorem keeps_mirrorAppends (a0) (a1) (h0 : Keeps q a0) : Keeps q (Sys2Proof.Machine.mirrorAppends a0 a1) := by
  unfold Sys2Proof.Machine.mirrorAppends
  repeat'
      first
      | with_reducible assumption | with_reducible apply keeps_mirrorPosition | with_reducible apply keeps_svcSee
      | with_reducible apply keeps_foldl | with_reducible apply keeps_foldl_fst | with_reducible apply keeps_foldl_snd
      | with_reducible apply keeps_foldl_snd2 | with_reducible apply keeps_ite_keep | intro _ | split | dsimp only
      | (fail_if_no_progress with_reducible apply keeps_mk) | with_reducible refine keeps_of_fst ?_ (by assumption)
      | with_reducible refine keeps_of_snd ?_ (by assumption) | with_reducible refine keeps_of_snd2 ?_ (by assumption)
      | with_reducible refine keeps_of_some ?_ (by assumption) | with_reducible refine keeps_of_next ?_ (by assumption)

theorem keeps_execLadleSlotComplete (a0) (a1) (h1 : Keeps q a1) : KeepsRes q (Sys2Proof.Machine.execLadleSlotComplete a0 a1) := by
  unfold Sys2Proof.Machine.execLadleSlotComplete
  repeat'
      first
      | with_reducible assumption | with_reducible apply keeps_countSlot | with_reducible apply keeps_mirrorAppends
      | with_reducible apply keeps_slotDone | with_reducible apply keeps_State_updLadle | with_reducible apply keepsRes_next
      | with_reducible exact keepsRes_fault _ | with_reducible exact keepsRes_refused _ | with_reducible apply keepsOpt_some
      | with_reducible exact keepsOpt_none | with_reducible apply keepsRes_ite | with_reducible apply keeps_ite_keep | intro _ | split
      | dsimp only | (fail_if_no_progress with_reducible apply keeps_mk) | with_reducible refine keeps_of_fst ?_ (by assumption)
      | with_reducible refine keeps_of_snd ?_ (by assumption) | with_reducible refine keeps_of_snd2 ?_ (by assumption)
      | with_reducible refine keeps_of_some ?_ (by assumption) | with_reducible refine keeps_of_next ?_ (by assumption)


/-! ## Serving -/

theorem keeps_admitReq (a0) (a1) (a2) (a3) (a4) (h1 : Keeps q a1) : Keeps q (Sys2Proof.Machine.admitReq a0 a1 a2 a3 a4) := by
  unfold Sys2Proof.Machine.admitReq
  repeat'
      first
      | with_reducible assumption | with_reducible apply keeps_State_setReq | with_reducible apply keeps_markStalled
      | with_reducible apply keeps_ite_keep | intro _ | split | dsimp only | (fail_if_no_progress with_reducible apply keeps_mk)
      | with_reducible refine keeps_of_fst ?_ (by assumption) | with_reducible refine keeps_of_snd ?_ (by assumption)
      | with_reducible refine keeps_of_snd2 ?_ (by assumption) | with_reducible refine keeps_of_some ?_ (by assumption)
      | with_reducible refine keeps_of_next ?_ (by assumption)

theorem keeps_changeReq (a0) (a1) (a2) (h0 : Keeps q a0) : Keeps q (Sys2Proof.Machine.changeReq a0 a1 a2) := by
  unfold Sys2Proof.Machine.changeReq
  repeat'
      first
      | with_reducible assumption | with_reducible apply keeps_State_updReq | with_reducible apply keeps_endReq
      | with_reducible apply keeps_ite_keep | intro _ | split | dsimp only | (fail_if_no_progress with_reducible apply keeps_mk)

theorem keeps_applyReqCmd (a0) (a1) (a2) (h0 : Keeps q a0) : Keeps q (Sys2Proof.Machine.applyReqCmd a0 a1 a2).1 := by
  unfold Sys2Proof.Machine.applyReqCmd
  repeat'
      first
      | with_reducible assumption | with_reducible apply keeps_changeReq | with_reducible apply keeps_State_updReq
      | with_reducible apply keeps_cmdState | with_reducible apply keeps_bump | with_reducible apply keeps_ite_keep | intro _ | split
      | dsimp only | (fail_if_no_progress with_reducible apply keeps_mk)

theorem keeps_mirrorCutter (a0) (a1) (a2) (a3) (a4) (h0 : Keeps q a0) : Keeps q (Sys2Proof.Machine.mirrorCutter a0 a1 a2 a3 a4) := by
  unfold Sys2Proof.Machine.mirrorCutter
  repeat'
      first
      | with_reducible assumption | with_reducible apply keeps_mirror | intro _ | dsimp only
      | (fail_if_no_progress with_reducible apply keeps_mk)

theorem keeps_readCutterSource (a0) (a1) (a2) (h0 : Keeps q a0) : Keeps q (Sys2Proof.Machine.readCutterSource a0 a1 a2).1 := by
  unfold Sys2Proof.Machine.readCutterSource
  repeat'
      first
      | with_reducible assumption | with_reducible apply keeps_loadBytes | with_reducible apply keeps_ite_keep | intro _ | split
      | dsimp only

theorem keeps_seeSubmit (a0) (a1) (h0 : Keeps q a0) : Keeps q (Sys2Proof.Machine.seeSubmit a0 a1) := by
  unfold Sys2Proof.Machine.seeSubmit
  repeat' first | with_reducible assumption | with_reducible apply keeps_svcSee | with_reducible apply keeps_ite_keep | intro _ | split | dsimp only

theorem keeps_mirrorAdmit (a0) (a1) (h0 : Keeps q a0) : Keeps q (Sys2Proof.Machine.mirrorAdmit a0 a1) := by
  unfold Sys2Proof.Machine.mirrorAdmit
  repeat' first | with_reducible assumption | with_reducible apply keeps_svcSee | with_reducible apply keeps_mirror | intro _ | dsimp only

theorem keeps_applyCutter (a0) (a1) (h0 : Keeps q a0) : Keeps q (Sys2Proof.Machine.applyCutter a0 a1).1 := by
  unfold Sys2Proof.Machine.applyCutter
  repeat'
      first
      | with_reducible assumption | with_reducible apply keeps_emptyCutter | with_reducible apply keeps_placeCutter
      | with_reducible apply keeps_bump | with_reducible apply keeps_mirrorCutter | with_reducible apply keeps_noteStatus
      | with_reducible apply keeps_ite_keep | intro _ | split | dsimp only | (fail_if_no_progress with_reducible apply keeps_mk)
      | with_reducible refine keeps_of_fst ?_ (by assumption) | with_reducible refine keeps_of_snd ?_ (by assumption)
      | with_reducible refine keeps_of_snd2 ?_ (by assumption) | with_reducible refine keeps_of_some ?_ (by assumption)
      | with_reducible refine keeps_of_next ?_ (by assumption)

theorem keeps_applyWaited (a0) (a1) (a2) (h0 : Keeps q a0) : Keeps q (Sys2Proof.Machine.applyWaited a0 a1 a2).1 := by
  unfold Sys2Proof.Machine.applyWaited
  repeat'
      first
      | with_reducible assumption | with_reducible apply keeps_applyReqCmd | with_reducible apply keeps_applyCutter
      | with_reducible apply keeps_ite_keep | intro _ | split | dsimp only

theorem keeps_submitCmd (a0) (a1) (h1 : Keeps q a1) : Keeps q (Sys2Proof.Machine.submitCmd a0 a1) := by
  unfold Sys2Proof.Machine.submitCmd
  repeat'
      first
      | with_reducible assumption | with_reducible apply keeps_loadBytes | with_reducible apply keeps_answer
      | with_reducible apply keeps_seeSubmit | with_reducible apply keeps_reserveRing | with_reducible apply keeps_admitReq
      | with_reducible refine keepsOpt_map (fun _ => ?_) | with_reducible apply keeps_ite_keep | intro _ | split | dsimp only
      | (fail_if_no_progress with_reducible apply keeps_mk) | with_reducible refine keeps_of_fst ?_ (by assumption)
      | with_reducible refine keeps_of_snd ?_ (by assumption) | with_reducible refine keeps_of_snd2 ?_ (by assumption)
      | with_reducible refine keeps_of_some ?_ (by assumption) | with_reducible refine keeps_of_next ?_ (by assumption)

theorem keeps_applyWaiting (a0) (a1) (a2) (h0 : Keeps q a0) : Keeps q (Sys2Proof.Machine.applyWaiting a0 a1 a2).1 := by
  unfold Sys2Proof.Machine.applyWaiting
  repeat'
      first
      | with_reducible assumption | with_reducible apply keeps_applyWaited | with_reducible refine keepsOpt_map (fun _ => ?_)
      | with_reducible apply keeps_foldl | with_reducible apply keeps_foldl_fst | with_reducible apply keeps_foldl_snd
      | with_reducible apply keeps_foldl_snd2 | intro _ | split | dsimp only | (fail_if_no_progress with_reducible apply keeps_mk)
      | with_reducible refine keeps_of_fst ?_ (by assumption) | with_reducible refine keeps_of_snd ?_ (by assumption)
      | with_reducible refine keeps_of_snd2 ?_ (by assumption) | with_reducible refine keeps_of_some ?_ (by assumption)
      | with_reducible refine keeps_of_next ?_ (by assumption)

theorem keeps_queryCmd (a0) (a1) (h1 : Keeps q a1) : Keeps q (Sys2Proof.Machine.queryCmd a0 a1) := by
  unfold Sys2Proof.Machine.queryCmd
  repeat'
      first
      | with_reducible assumption | with_reducible apply keeps_answer | with_reducible apply keeps_storeBytes
      | with_reducible apply keeps_ite_keep | intro _ | split | dsimp only

theorem keeps_pinCmd (a0) (a1) (a2) (h2 : Keeps q a2) : Keeps q (Sys2Proof.Machine.pinCmd a0 a1 a2) := by
  unfold Sys2Proof.Machine.pinCmd
  repeat'
      first
      | with_reducible assumption | with_reducible apply keeps_mirror | with_reducible apply keeps_loadBytes
      | with_reducible apply keeps_answer | with_reducible apply keeps_updNode | with_reducible refine keepsOpt_map (fun _ => ?_)
      | with_reducible apply keeps_foldl | with_reducible apply keeps_foldl_fst | with_reducible apply keeps_foldl_snd
      | with_reducible apply keeps_foldl_snd2 | with_reducible apply keeps_foldl_LoadBytes | with_reducible apply keeps_ite_keep | intro _
      | split | dsimp only | (fail_if_no_progress with_reducible apply keeps_mk) | with_reducible refine keeps_of_fst ?_ (by assumption)
      | with_reducible refine keeps_of_snd ?_ (by assumption) | with_reducible refine keeps_of_snd2 ?_ (by assumption)
      | with_reducible refine keeps_of_some ?_ (by assumption) | with_reducible refine keeps_of_next ?_ (by assumption)

theorem keeps_releaseCmd (a0) (a1) (h1 : Keeps q a1) : Keeps q (Sys2Proof.Machine.releaseCmd a0 a1) := by
  unfold Sys2Proof.Machine.releaseCmd
  repeat'
      first
      | with_reducible assumption | with_reducible apply keeps_freeReq | with_reducible apply keeps_mirror
      | with_reducible apply keeps_answer | with_reducible apply keeps_ite_keep | intro _ | split | dsimp only

theorem keeps_takePrefix (a0) (a1) (a2) (h0 : Keeps q a0) : Keeps q (Sys2Proof.Machine.takePrefix a0 a1 a2) := by
  unfold Sys2Proof.Machine.takePrefix
  repeat'
      first
      | with_reducible assumption | with_reducible apply keeps_matchPrefix | with_reducible apply keeps_State_updReq
      | with_reducible apply keeps_ite_keep | intro _ | split | dsimp only | (fail_if_no_progress with_reducible apply keeps_mk)
      | with_reducible refine keeps_of_fst ?_ (by assumption) | with_reducible refine keeps_of_snd ?_ (by assumption)
      | with_reducible refine keeps_of_snd2 ?_ (by assumption) | with_reducible refine keeps_of_some ?_ (by assumption)
      | with_reducible refine keeps_of_next ?_ (by assumption)

theorem keeps_execSubmitMatchDone (a0) (a1) (a2) (h2 : Keeps q a2) : KeepsRes q (Sys2Proof.Machine.execSubmitMatchDone a0 a1 a2) := by
  unfold Sys2Proof.Machine.execSubmitMatchDone
  repeat'
      first
      | with_reducible assumption | with_reducible apply keeps_settleSubmit | with_reducible apply keeps_mirrorAdmit
      | with_reducible apply keeps_takePrefix | with_reducible apply keepsRes_next | with_reducible exact keepsRes_fault _
      | with_reducible exact keepsRes_refused _ | with_reducible apply keepsRes_ite | with_reducible apply keeps_ite_keep | intro _ | split
      | dsimp only | with_reducible refine keeps_of_fst ?_ (by assumption) | with_reducible refine keeps_of_snd ?_ (by assumption)
      | with_reducible refine keeps_of_snd2 ?_ (by assumption) | with_reducible refine keeps_of_some ?_ (by assumption)
      | with_reducible refine keeps_of_next ?_ (by assumption)

theorem keeps_withServe (a0) (a1) (a2) (h0 : Keeps q a0) (h2 : ∀ x0 x1, Keeps q x1 → Keeps q (a2 x0 x1)) : KeepsRes q (Sys2Proof.Machine.withServe a0 a1 a2) := by
  unfold Sys2Proof.Machine.withServe
  repeat'
      first
      | with_reducible assumption | with_reducible apply h2 | with_reducible apply keepsRes_next | with_reducible exact keepsRes_fault _
      | with_reducible exact keepsRes_refused _ | with_reducible apply keepsRes_ite | with_reducible apply keeps_ite_keep | intro _ | split
      | dsimp only | (fail_if_no_progress with_reducible apply keeps_mk) | with_reducible refine keeps_of_fst ?_ (by assumption)
      | with_reducible refine keeps_of_snd ?_ (by assumption) | with_reducible refine keeps_of_snd2 ?_ (by assumption)
      | with_reducible refine keeps_of_some ?_ (by assumption) | with_reducible refine keeps_of_next ?_ (by assumption)

theorem keeps_execSubmit (a0) (h0 : Keeps q a0) : KeepsRes q (Sys2Proof.Machine.execSubmit a0) := by
  unfold Sys2Proof.Machine.execSubmit
  repeat'
      first
      | with_reducible assumption | with_reducible apply keeps_submitCmd | with_reducible apply keeps_withServe
      | with_reducible apply keepsRes_next | with_reducible exact keepsRes_fault _ | with_reducible exact keepsRes_refused _ | intro _
      | dsimp only

theorem keeps_atBoundaryOf (a0) (a1) (a2) (h0 : Keeps q a0) : Keeps q (Sys2Proof.Machine.atBoundaryOf a0 a1 a2) := by
  unfold Sys2Proof.Machine.atBoundaryOf
  repeat'
      first
      | with_reducible assumption | with_reducible apply keeps_withEnds | with_reducible apply keeps_applyWaited
      | with_reducible apply keeps_sendReply | with_reducible apply keeps_ite_keep | intro _ | split | dsimp only
      | (fail_if_no_progress with_reducible apply keeps_mk) | with_reducible refine keeps_of_fst ?_ (by assumption)
      | with_reducible refine keeps_of_snd ?_ (by assumption) | with_reducible refine keeps_of_snd2 ?_ (by assumption)
      | with_reducible refine keeps_of_some ?_ (by assumption) | with_reducible refine keeps_of_next ?_ (by assumption)

theorem keeps_execQuery (a0) (h0 : Keeps q a0) : KeepsRes q (Sys2Proof.Machine.execQuery a0) := by
  unfold Sys2Proof.Machine.execQuery
  repeat'
      first
      | with_reducible assumption | with_reducible apply keeps_queryCmd | with_reducible apply keeps_withServe
      | with_reducible apply keepsRes_next | with_reducible exact keepsRes_fault _ | with_reducible exact keepsRes_refused _ | intro _
      | dsimp only

theorem keeps_execUnpin (a0) (h0 : Keeps q a0) : KeepsRes q (Sys2Proof.Machine.execUnpin a0) := by
  unfold Sys2Proof.Machine.execUnpin
  repeat'
      first
      | with_reducible assumption | with_reducible apply keeps_pinCmd | with_reducible apply keeps_withServe
      | with_reducible apply keepsRes_next | with_reducible exact keepsRes_fault _ | with_reducible exact keepsRes_refused _ | intro _
      | dsimp only

theorem keeps_execRelease (a0) (h0 : Keeps q a0) : KeepsRes q (Sys2Proof.Machine.execRelease a0) := by
  unfold Sys2Proof.Machine.execRelease
  repeat'
      first
      | with_reducible assumption | with_reducible apply keeps_withServe | with_reducible apply keeps_releaseCmd
      | with_reducible apply keepsRes_next | with_reducible exact keepsRes_fault _ | with_reducible exact keepsRes_refused _ | intro _
      | dsimp only

theorem keeps_execPin (a0) (h0 : Keeps q a0) : KeepsRes q (Sys2Proof.Machine.execPin a0) := by
  unfold Sys2Proof.Machine.execPin
  repeat'
      first
      | with_reducible assumption | with_reducible apply keeps_pinCmd | with_reducible apply keeps_withServe
      | with_reducible apply keepsRes_next | with_reducible exact keepsRes_fault _ | with_reducible exact keepsRes_refused _ | intro _
      | dsimp only

theorem keeps_receiveReqCmd (a0) (a1) (h1 : Keeps q a1) : Keeps q (Sys2Proof.Machine.receiveReqCmd a0 a1) := by
  unfold Sys2Proof.Machine.receiveReqCmd
  repeat'
      first
      | with_reducible assumption | with_reducible apply keeps_mirror | with_reducible apply keeps_answer
      | with_reducible apply keeps_atBoundaryOf | with_reducible apply keeps_State_setReq | with_reducible apply keeps_ite_keep | intro _
      | split | dsimp only | (fail_if_no_progress with_reducible apply keeps_mk)

theorem keeps_cutterClearCmd (a0) (a1) (h1 : Keeps q a1) : Keeps q (Sys2Proof.Machine.cutterClearCmd a0 a1) := by
  unfold Sys2Proof.Machine.cutterClearCmd
  repeat'
      first
      | with_reducible assumption | with_reducible apply keeps_sendReply | with_reducible apply keeps_atBoundaryOf
      | with_reducible apply keeps_applyCutter | with_reducible apply keeps_answer | with_reducible apply keeps_ite_keep | intro _ | split
      | dsimp only | (fail_if_no_progress with_reducible apply keeps_mk) | with_reducible refine keeps_of_fst ?_ (by assumption)
      | with_reducible refine keeps_of_snd ?_ (by assumption) | with_reducible refine keeps_of_snd2 ?_ (by assumption)
      | with_reducible refine keeps_of_some ?_ (by assumption) | with_reducible refine keeps_of_next ?_ (by assumption)

theorem keeps_cutterWriteCmd (a0) (a1) (h1 : Keeps q a1) : Keeps q (Sys2Proof.Machine.cutterWriteCmd a0 a1) := by
  unfold Sys2Proof.Machine.cutterWriteCmd
  repeat'
      first
      | with_reducible assumption | with_reducible apply keeps_atBoundaryOf | with_reducible apply keeps_readCutterSource
      | with_reducible apply keeps_answer | with_reducible apply keeps_ite_keep | intro _ | split | dsimp only
      | (fail_if_no_progress with_reducible apply keeps_mk) | with_reducible refine keeps_of_fst ?_ (by assumption)
      | with_reducible refine keeps_of_snd ?_ (by assumption) | with_reducible refine keeps_of_snd2 ?_ (by assumption)
      | with_reducible refine keeps_of_some ?_ (by assumption) | with_reducible refine keeps_of_next ?_ (by assumption)

theorem keeps_execSetprio (a0) (h0 : Keeps q a0) : KeepsRes q (Sys2Proof.Machine.execSetprio a0) := by
  unfold Sys2Proof.Machine.execSetprio
  repeat'
      first
      | with_reducible assumption | with_reducible apply keeps_receiveReqCmd | with_reducible apply keeps_withServe
      | with_reducible apply keepsRes_next | with_reducible exact keepsRes_fault _ | with_reducible exact keepsRes_refused _ | intro _
      | dsimp only

theorem keeps_execSetdeadline (a0) (h0 : Keeps q a0) : KeepsRes q (Sys2Proof.Machine.execSetdeadline a0) := by
  unfold Sys2Proof.Machine.execSetdeadline
  repeat'
      first
      | with_reducible assumption | with_reducible apply keeps_receiveReqCmd | with_reducible apply keeps_withServe
      | with_reducible apply keepsRes_next | with_reducible exact keepsRes_fault _ | with_reducible exact keepsRes_refused _ | intro _
      | dsimp only

theorem keeps_execSetspec (a0) (h0 : Keeps q a0) : KeepsRes q (Sys2Proof.Machine.execSetspec a0) := by
  unfold Sys2Proof.Machine.execSetspec
  repeat'
      first
      | with_reducible assumption | with_reducible apply keeps_receiveReqCmd | with_reducible apply keeps_withServe
      | with_reducible apply keepsRes_next | with_reducible exact keepsRes_fault _ | with_reducible exact keepsRes_refused _ | intro _
      | dsimp only

theorem keeps_execCutterClear (a0) (h0 : Keeps q a0) : KeepsRes q (Sys2Proof.Machine.execCutterClear a0) := by
  unfold Sys2Proof.Machine.execCutterClear
  repeat'
      first
      | with_reducible assumption | with_reducible apply keeps_cutterClearCmd | with_reducible apply keeps_withServe
      | with_reducible apply keepsRes_next | with_reducible exact keepsRes_fault _ | with_reducible exact keepsRes_refused _ | intro _
      | dsimp only

theorem keeps_execPause (a0) (h0 : Keeps q a0) : KeepsRes q (Sys2Proof.Machine.execPause a0) := by
  unfold Sys2Proof.Machine.execPause
  repeat'
      first
      | with_reducible assumption | with_reducible apply keeps_receiveReqCmd | with_reducible apply keeps_withServe
      | with_reducible apply keepsRes_next | with_reducible exact keepsRes_fault _ | with_reducible exact keepsRes_refused _ | intro _
      | dsimp only

theorem keeps_execReqResume (a0) (h0 : Keeps q a0) : KeepsRes q (Sys2Proof.Machine.execReqResume a0) := by
  unfold Sys2Proof.Machine.execReqResume
  repeat'
      first
      | with_reducible assumption | with_reducible apply keeps_receiveReqCmd | with_reducible apply keeps_withServe
      | with_reducible apply keepsRes_next | with_reducible exact keepsRes_fault _ | with_reducible exact keepsRes_refused _ | intro _
      | dsimp only

theorem keeps_execCutterWrite (a0) (h0 : Keeps q a0) : KeepsRes q (Sys2Proof.Machine.execCutterWrite a0) := by
  unfold Sys2Proof.Machine.execCutterWrite
  repeat'
      first
      | with_reducible assumption | with_reducible apply keeps_withServe | with_reducible apply keeps_cutterWriteCmd
      | with_reducible apply keepsRes_next | with_reducible exact keepsRes_fault _ | with_reducible exact keepsRes_refused _ | intro _
      | dsimp only

theorem keeps_execCancel (a0) (h0 : Keeps q a0) : KeepsRes q (Sys2Proof.Machine.execCancel a0) := by
  unfold Sys2Proof.Machine.execCancel
  repeat'
      first
      | with_reducible assumption | with_reducible apply keeps_receiveReqCmd | with_reducible apply keeps_withServe
      | with_reducible apply keepsRes_next | with_reducible exact keepsRes_fault _ | with_reducible exact keepsRes_refused _ | intro _
      | dsimp only


/-! ## Programs -/

theorem keeps_writeBank (a0) (a1) (a2) (a3) (h0 : Keeps q a0) : Keeps q (Sys2Proof.Machine.writeBank a0 a1 a2 a3) := by
  unfold Sys2Proof.Machine.writeBank
  repeat'
      first
      | with_reducible assumption | with_reducible apply keeps_setImem | with_reducible apply keeps_foldl
      | with_reducible apply keeps_foldl_fst | with_reducible apply keeps_foldl_snd | with_reducible apply keeps_foldl_snd2
      | with_reducible apply keeps_ite_keep | intro _ | split | dsimp only

theorem keeps_placePrograms (a0) (a1) (a2) (h0 : Keeps q a0) : Keeps q (Sys2Proof.Machine.placePrograms a0 a1 a2) := by
  unfold Sys2Proof.Machine.placePrograms
  repeat'
      first
      | with_reducible assumption | with_reducible apply keeps_writeBank | with_reducible apply keeps_State_updEngine
      | with_reducible apply keeps_foldl | with_reducible apply keeps_foldl_fst | with_reducible apply keeps_foldl_snd
      | with_reducible apply keeps_foldl_snd2 | with_reducible apply keeps_ite_keep | intro _ | split | dsimp only

theorem keeps_placeSoon (a0) (h0 : Keeps q a0) : Keeps q (Sys2Proof.Machine.placeSoon a0) := by
  unfold Sys2Proof.Machine.placeSoon
  repeat'
      first
      | with_reducible assumption | with_reducible apply keeps_placePrograms | with_reducible apply keeps_ite_keep | intro _ | split
      | dsimp only | (fail_if_no_progress with_reducible apply keeps_mk)

theorem keeps_placeAtBoundary (a0) (h0 : Keeps q a0) : Keeps q (Sys2Proof.Machine.placeAtBoundary a0) := by
  unfold Sys2Proof.Machine.placeAtBoundary
  repeat'
      first
      | with_reducible assumption | with_reducible apply keeps_placePrograms | with_reducible apply keeps_ite_keep | intro _ | split
      | dsimp only | (fail_if_no_progress with_reducible apply keeps_mk)


/-! ## Steps -/

theorem keeps_execDraftPhaseDone (a0) (a1) (a2) (a3) (h3 : Keeps q a3) : KeepsRes q (Sys2Proof.Machine.execDraftPhaseDone a0 a1 a2 a3) := by
  unfold Sys2Proof.Machine.execDraftPhaseDone
  repeat'
      first
      | with_reducible assumption | with_reducible apply keeps_setStep | with_reducible apply keepsRes_next
      | with_reducible exact keepsRes_fault _ | with_reducible exact keepsRes_refused _ | with_reducible refine keepsOpt_map (fun _ => ?_)
      | with_reducible apply keepsRes_ite | with_reducible apply keeps_ite_keep | intro _ | split | dsimp only
      | (fail_if_no_progress with_reducible apply keeps_mk)

theorem keeps_tablesApply (a0) (h0 : Keeps q a0) : Keeps q (Sys2Proof.Machine.tablesApply a0) := by
  unfold Sys2Proof.Machine.tablesApply
  repeat'
      first
      | with_reducible assumption | with_reducible apply keeps_State_updLadle | with_reducible refine keepsOpt_map (fun _ => ?_)
      | with_reducible apply keeps_foldl | with_reducible apply keeps_foldl_fst | with_reducible apply keeps_foldl_snd
      | with_reducible apply keeps_foldl_snd2 | with_reducible apply keeps_ite_keep | intro _ | split | dsimp only
      | (fail_if_no_progress with_reducible apply keeps_mk)

theorem keeps_beginStep (a0) (a1) (a2) (h0 : Keeps q a0) : Keeps q (Sys2Proof.Machine.beginStep a0 a1 a2) := by
  unfold Sys2Proof.Machine.beginStep
  repeat'
      first
      | with_reducible assumption | with_reducible apply keeps_State_updReq | with_reducible apply keeps_dset
      | with_reducible apply keeps_setStep | with_reducible apply keeps_foldl | with_reducible apply keeps_foldl_fst
      | with_reducible apply keeps_foldl_snd | with_reducible apply keeps_foldl_snd2 | with_reducible apply keeps_ite_keep | intro _ | split
      | dsimp only | (fail_if_no_progress with_reducible apply keeps_mk)

theorem keeps_offlineAtBoundary (a0) (a1) (h0 : Keeps q a0) : Keeps q (Sys2Proof.Machine.offlineAtBoundary a0 a1) := by
  unfold Sys2Proof.Machine.offlineAtBoundary
  repeat'
      first
      | with_reducible assumption | with_reducible apply keeps_endReq | with_reducible apply keeps_foldl
      | with_reducible apply keeps_foldl_fst | with_reducible apply keeps_foldl_snd | with_reducible apply keeps_foldl_snd2
      | with_reducible apply keeps_ite_keep | intro _ | split | dsimp only

theorem keeps_skipStarved (a0) (a1) (h0 : Keeps q a0) : Keeps q (Sys2Proof.Machine.skipStarved a0 a1) := by
  unfold Sys2Proof.Machine.skipStarved
  repeat'
      first
      | with_reducible assumption | with_reducible apply keeps_endReq | with_reducible apply keeps_bump
      | with_reducible apply keeps_State_setReq | with_reducible apply keeps_ite_keep | intro _ | split | dsimp only
      | (fail_if_no_progress with_reducible apply keeps_mk)

theorem keeps_lateCarried (a0) (a1) (a2) (h0 : Keeps q a0) : Keeps q (Sys2Proof.Machine.lateCarried a0 a1 a2) := by
  unfold Sys2Proof.Machine.lateCarried
  repeat'
      first
      | with_reducible assumption | with_reducible apply keeps_latePolicy | with_reducible apply keeps_State_updReq
      | with_reducible apply keeps_bump | with_reducible apply keeps_ite_keep | intro _ | split | dsimp only
      | (fail_if_no_progress with_reducible apply keeps_mk)

theorem keeps_admitBatch (a0) (a1) (a2) (a3) (a4) (h0 : Keeps q a0) : Keeps q (Sys2Proof.Machine.admitBatch a0 a1 a2 a3 a4).1 := by
  revert h0
  fun_induction Sys2Proof.Machine.admitBatch a0 a1 a2 a3 a4 <;> intros
  all_goals repeat'
      first
      | with_reducible assumption | with_reducible apply keeps_reserveRing | with_reducible apply keeps_skipStarved
      | with_reducible apply keeps_ite_keep | intro _ | split | dsimp only | (fail_if_no_progress with_reducible apply keeps_mk)
      | with_reducible refine keeps_of_fst ?_ (by assumption) | with_reducible refine keeps_of_snd ?_ (by assumption)
      | with_reducible refine keeps_of_snd2 ?_ (by assumption) | with_reducible refine keeps_of_some ?_ (by assumption)
      | with_reducible refine keeps_of_next ?_ (by assumption) | apply_assumption

theorem keeps_poisonAtBoundary (a0) (a1) (h0 : Keeps q a0) : Keeps q (Sys2Proof.Machine.poisonAtBoundary a0 a1) := by
  unfold Sys2Proof.Machine.poisonAtBoundary
  repeat'
      first
      | with_reducible assumption | with_reducible apply keeps_endReq | with_reducible apply keeps_invalidatePage
      | with_reducible apply keeps_foldl | with_reducible apply keeps_foldl_fst | with_reducible apply keeps_foldl_snd
      | with_reducible apply keeps_foldl_snd2 | with_reducible apply keeps_ite_keep | intro _ | split | dsimp only
      | (fail_if_no_progress with_reducible apply keeps_mk)

theorem keeps_fencedDone (a0) (h0 : Keeps q a0) : Keeps q (Sys2Proof.Machine.fencedDone a0) := by
  unfold Sys2Proof.Machine.fencedDone
  repeat'
      first
      | with_reducible assumption | with_reducible apply keeps_setPair | with_reducible apply keeps_dset
      | with_reducible apply keeps_ite_keep | intro _ | split | dsimp only | (fail_if_no_progress with_reducible apply keeps_mk)

theorem keeps_mirrorCommit (a0) (a1) (a2) (h0 : Keeps q a0) : Keeps q (Sys2Proof.Machine.mirrorCommit a0 a1 a2) := by
  unfold Sys2Proof.Machine.mirrorCommit
  repeat' first | with_reducible assumption | with_reducible apply keeps_mirror | intro _ | dsimp only

theorem keeps_selectAll (a0) (a1) (a2) (a3) (a4) (h0 : Keeps q a0) : Keeps q (Sys2Proof.Machine.selectAll a0 a1 a2 a3 a4).1 := by
  unfold Sys2Proof.Machine.selectAll
  repeat'
      first
      | with_reducible assumption | with_reducible apply keeps_nonfiniteEvent | with_reducible apply keeps_foldl
      | with_reducible apply keeps_foldl_fst | with_reducible apply keeps_foldl_snd | with_reducible apply keeps_foldl_snd2
      | with_reducible apply keeps_ite_keep | intro _ | split | dsimp only | with_reducible refine keeps_of_fst ?_ (by assumption)
      | with_reducible refine keeps_of_snd ?_ (by assumption) | with_reducible refine keeps_of_snd2 ?_ (by assumption)
      | with_reducible refine keeps_of_some ?_ (by assumption) | with_reducible refine keeps_of_next ?_ (by assumption)

theorem keeps_commitReq (a0) (a1) (a2) (a3) (a4) (h0 : Keeps q a0) : Keeps q (Sys2Proof.Machine.commitReq a0 a1 a2 a3 a4).1 := by
  unfold Sys2Proof.Machine.commitReq
  repeat'
      first
      | with_reducible assumption | with_reducible apply keeps_selectAll | with_reducible apply keeps_endReq
      | with_reducible apply keeps_State_setReq | with_reducible apply keeps_bump | with_reducible apply keeps_getD
      | with_reducible apply keeps_ite_keep | intro _ | split | dsimp only | (fail_if_no_progress with_reducible apply keeps_mk)
      | with_reducible refine keeps_of_fst ?_ (by assumption) | with_reducible refine keeps_of_snd ?_ (by assumption)
      | with_reducible refine keeps_of_snd2 ?_ (by assumption) | with_reducible refine keeps_of_some ?_ (by assumption)
      | with_reducible refine keeps_of_next ?_ (by assumption)

theorem keeps_countStep (a0) (a1) (h0 : Keeps q a0) : Keeps q (Sys2Proof.Machine.countStep a0 a1) := by
  unfold Sys2Proof.Machine.countStep
  repeat'
      first
      | with_reducible assumption | with_reducible apply keeps_ladleEvents | with_reducible apply keeps_countLadle
      | with_reducible refine keepsOpt_map (fun _ => ?_) | with_reducible apply keeps_foldl | with_reducible apply keeps_foldl_fst
      | with_reducible apply keeps_foldl_snd | with_reducible apply keeps_foldl_snd2 | intro _ | dsimp only
      | (fail_if_no_progress with_reducible apply keeps_mk)

theorem keeps_stageCutter (a0) (a1) (h0 : Keeps q a0.1) : Keeps q (Sys2Proof.Machine.stageCutter a0 a1).1 := by
  unfold Sys2Proof.Machine.stageCutter
  repeat'
      first
      | with_reducible assumption | with_reducible apply keeps_loadBytes | with_reducible apply keeps_emptyCutter
      | with_reducible apply keeps_bump | with_reducible apply keeps_ite_keep | intro _ | split | dsimp only
      | (fail_if_no_progress with_reducible apply keeps_mk)

theorem keeps_promoteReq (a0) (a1) (h0 : Keeps q a0) : Keeps q (Sys2Proof.Machine.promoteReq a0 a1) := by
  unfold Sys2Proof.Machine.promoteReq
  repeat'
      first
      | with_reducible assumption | with_reducible apply keeps_reserveRing | with_reducible apply keeps_seeWindows
      | with_reducible apply keeps_releaseBeyond | with_reducible apply keeps_endReq | with_reducible apply keeps_State_setReq
      | with_reducible apply keeps_ite_keep | intro _ | split | dsimp only | (fail_if_no_progress with_reducible apply keeps_mk)
      | with_reducible refine keeps_of_fst ?_ (by assumption) | with_reducible refine keeps_of_snd ?_ (by assumption)
      | with_reducible refine keeps_of_snd2 ?_ (by assumption) | with_reducible refine keeps_of_some ?_ (by assumption)
      | with_reducible refine keeps_of_next ?_ (by assumption)

theorem keeps_promoteAtBoundary (a0) (a1) (h0 : Keeps q a0) : Keeps q (Sys2Proof.Machine.promoteAtBoundary a0 a1) := by
  unfold Sys2Proof.Machine.promoteAtBoundary
  repeat'
      first
      | with_reducible assumption | with_reducible apply keeps_applyReqCmd | with_reducible apply keeps_recordFault
      | with_reducible apply keeps_bump | with_reducible apply keeps_promoteReq | with_reducible apply keeps_writeAllRecords
      | with_reducible apply keeps_fencedDone | with_reducible refine keepsOpt_map (fun _ => ?_) | with_reducible apply keeps_foldl
      | with_reducible apply keeps_foldl_fst | with_reducible apply keeps_foldl_snd | with_reducible apply keeps_foldl_snd2
      | with_reducible apply keeps_ite_keep | intro _ | split | dsimp only | (fail_if_no_progress with_reducible apply keeps_mk)

theorem keeps_commitStep (a0) (a1) (a2) (a3) (h0 : Keeps q a0) : Keeps q (Sys2Proof.Machine.commitStep a0 a1 a2 a3) := by
  unfold Sys2Proof.Machine.commitStep
  repeat'
      first
      | with_reducible assumption | with_reducible apply keeps_lateCarried | with_reducible apply keeps_commitReq
      | with_reducible apply keeps_applyWaiting | with_reducible apply keeps_lateWaiting | with_reducible apply keeps_setStep
      | with_reducible apply keeps_mirrorCommit | with_reducible refine keepsOpt_map (fun _ => ?_) | with_reducible apply keeps_foldl
      | with_reducible apply keeps_foldl_fst | with_reducible apply keeps_foldl_snd | with_reducible apply keeps_foldl_snd2
      | with_reducible apply keeps_ite_keep | intro _ | split | dsimp only | (fail_if_no_progress with_reducible apply keeps_mk)
      | with_reducible refine keeps_of_fst ?_ (by assumption) | with_reducible refine keeps_of_snd ?_ (by assumption)
      | with_reducible refine keeps_of_snd2 ?_ (by assumption) | with_reducible refine keeps_of_some ?_ (by assumption)
      | with_reducible refine keeps_of_next ?_ (by assumption)

theorem keeps_resetAtBoundary (a0) (a1) (h0 : Keeps q a0) : Keeps q (Sys2Proof.Machine.resetAtBoundary a0 a1) := by
  unfold Sys2Proof.Machine.resetAtBoundary
  repeat'
      first
      | with_reducible assumption | with_reducible apply keeps_dropReq | with_reducible apply keeps_State_updTenant
      | with_reducible apply keeps_foldl | with_reducible apply keeps_foldl_fst | with_reducible apply keeps_foldl_snd
      | with_reducible apply keeps_foldl_snd2 | with_reducible apply keeps_ite_keep | intro _ | split | dsimp only
      | (fail_if_no_progress with_reducible apply keeps_mk)

theorem keeps_boundaryRest (a0) (a1) (a2) (h0 : Keeps q a0) : Keeps q (Sys2Proof.Machine.boundaryRest a0 a1 a2) := by
  unfold Sys2Proof.Machine.boundaryRest
  repeat'
      first
      | with_reducible assumption | with_reducible apply keeps_offlineAtBoundary | with_reducible apply keeps_resetAtBoundary
      | with_reducible apply keeps_poisonAtBoundary | with_reducible apply keeps_placeAtBoundary | with_reducible apply keeps_finishReqs
      | with_reducible apply keeps_promoteAtBoundary | with_reducible apply keeps_evictPages | with_reducible apply keeps_tablesApply
      | with_reducible apply keeps_lateWaiting | intro _ | dsimp only

theorem keeps_startBatch (a0) (a1) (h0 : Keeps q a0) : Keeps q (Sys2Proof.Machine.startBatch a0 a1) := by
  unfold Sys2Proof.Machine.startBatch
  repeat'
      first
      | with_reducible assumption | with_reducible apply keeps_stageCutter | with_reducible apply keeps_admitBatch
      | with_reducible apply keeps_finishReqs | with_reducible apply keeps_skipStarved | with_reducible apply keeps_beginStep
      | with_reducible apply keeps_foldl | with_reducible apply keeps_foldl_fst | with_reducible apply keeps_foldl_snd
      | with_reducible apply keeps_foldl_snd2 | with_reducible apply keeps_ite_keep | intro _ | split | dsimp only
      | (fail_if_no_progress with_reducible apply keeps_mk) | with_reducible refine keeps_of_fst ?_ (by assumption)
      | with_reducible refine keeps_of_snd ?_ (by assumption) | with_reducible refine keeps_of_snd2 ?_ (by assumption)
      | with_reducible refine keeps_of_some ?_ (by assumption) | with_reducible refine keeps_of_next ?_ (by assumption)

theorem keeps_finishCommit (a0) (a1) (h0 : Keeps q a0) : Keeps q (Sys2Proof.Machine.finishCommit a0 a1) := by
  unfold Sys2Proof.Machine.finishCommit
  repeat'
      first
      | with_reducible assumption | with_reducible apply keeps_writeAllRecords | with_reducible apply keeps_answerSubmit
      | with_reducible apply keeps_withdrawSlot | with_reducible apply keeps_seeWindows | with_reducible apply keeps_releaseBeyond
      | with_reducible apply keeps_boundaryRest | with_reducible apply keeps_unreserveRing | with_reducible apply keeps_sendReply
      | with_reducible apply keeps_setStep | with_reducible apply keeps_closeReq | with_reducible apply keeps_bump
      | with_reducible refine keepsOpt_map (fun _ => ?_) | with_reducible apply keeps_foldl | with_reducible apply keeps_foldl_fst
      | with_reducible apply keeps_foldl_snd | with_reducible apply keeps_foldl_snd2 | with_reducible apply keeps_ite_keep | intro _ | split
      | dsimp only | (fail_if_no_progress with_reducible apply keeps_mk)

theorem keeps_execStepCommit (a0) (a1) (a2) (a3) (h3 : Keeps q a3) : KeepsRes q (Sys2Proof.Machine.execStepCommit a0 a1 a2 a3) := by
  unfold Sys2Proof.Machine.execStepCommit
  repeat'
      first
      | with_reducible assumption | with_reducible apply keeps_countStep | with_reducible apply keeps_finishCommit
      | with_reducible apply keeps_commitStep | with_reducible apply keepsRes_next | with_reducible exact keepsRes_fault _
      | with_reducible exact keepsRes_refused _ | with_reducible apply keepsRes_ite | with_reducible apply keeps_ite_keep | intro _ | split
      | dsimp only

theorem keeps_observeCommands (a0) (a1) (h0 : Keeps q a0) : Keeps q (Sys2Proof.Machine.observeCommands a0 a1) := by
  unfold Sys2Proof.Machine.observeCommands
  repeat'
      first
      | with_reducible assumption | with_reducible apply keeps_sendReply | with_reducible apply keeps_withEnds
      | with_reducible apply keeps_applyWaiting | with_reducible apply keeps_foldl | with_reducible apply keeps_foldl_fst
      | with_reducible apply keeps_foldl_snd | with_reducible apply keeps_foldl_snd2 | intro _ | split | dsimp only
      | with_reducible refine keeps_of_fst ?_ (by assumption) | with_reducible refine keeps_of_snd ?_ (by assumption)
      | with_reducible refine keeps_of_snd2 ?_ (by assumption) | with_reducible refine keeps_of_some ?_ (by assumption)
      | with_reducible refine keeps_of_next ?_ (by assumption)

theorem keeps_discardStep (a0) (a1) (h0 : Keeps q a0) : Keeps q (Sys2Proof.Machine.discardStep a0 a1) := by
  unfold Sys2Proof.Machine.discardStep
  repeat'
      first
      | with_reducible assumption | with_reducible apply keeps_withdrawSlot | with_reducible apply keeps_boundaryRest
      | with_reducible apply keeps_unreserveRing | with_reducible apply keeps_setStep | with_reducible apply keeps_observeCommands
      | with_reducible refine keepsOpt_map (fun _ => ?_) | with_reducible apply keeps_foldl | with_reducible apply keeps_foldl_fst
      | with_reducible apply keeps_foldl_snd | with_reducible apply keeps_foldl_snd2 | intro _ | dsimp only
      | (fail_if_no_progress with_reducible apply keeps_mk)

theorem keeps_execStepStart (a0) (a1) (h1 : Keeps q a1) : KeepsRes q (Sys2Proof.Machine.execStepStart a0 a1) := by
  unfold Sys2Proof.Machine.execStepStart
  refine keepsRes_ite (fun _ => h1) (fun _ => keepsRes_ite (fun _ => h1) (fun _ => ?_))
  have h2 := keeps_boundaryRest _ a0 [] (keeps_observeCommands _ a0 h1)
  generalize boundaryRest (observeCommands a1 a0) a0 [] = s1 at h2 ⊢
  exact keepsRes_ite (fun _ => h2) (fun _ => keeps_startBatch _ _ h2)

theorem keeps_unwindCommit (a0) (a1) (h0 : Keeps q a0) : Keeps q (Sys2Proof.Machine.unwindCommit a0 a1) := by
  unfold Sys2Proof.Machine.unwindCommit
  repeat'
      first
      | with_reducible assumption | with_reducible apply keeps_State_setReq | with_reducible apply keeps_discardStep
      | with_reducible refine keepsOpt_map (fun _ => ?_) | with_reducible apply keeps_foldl | with_reducible apply keeps_foldl_fst
      | with_reducible apply keeps_foldl_snd | with_reducible apply keeps_foldl_snd2 | with_reducible apply keeps_ite_keep | intro _ | split
      | dsimp only | (fail_if_no_progress with_reducible apply keeps_mk)

theorem keeps_execStepDiscard (a0) (a1) (h1 : Keeps q a1) : KeepsRes q (Sys2Proof.Machine.execStepDiscard a0 a1) := by
  unfold Sys2Proof.Machine.execStepDiscard
  repeat'
      first
      | with_reducible assumption | with_reducible apply keeps_countStep | with_reducible apply keeps_discardStep
      | with_reducible apply keepsRes_next | with_reducible exact keepsRes_fault _ | with_reducible exact keepsRes_refused _
      | with_reducible apply keepsRes_ite | with_reducible apply keeps_ite_keep | intro _ | split | dsimp only

end Sys2Proof.Laws
end

