-- ==== Sys2Proof/Laws/KeepsTenants.lean ====
section
/-!
SUPPORT. What each operation keeps, over the tenants, the slots and the cadence: the queue of waiting commands and the canonical form of every memory.
-/

set_option linter.all false
set_option Elab.async false
set_option maxRecDepth 4000

namespace Sys2Proof.Laws

open Sys2Proof Sys2Proof.Machine

variable {q : List Instr}

/-! ## Tenants -/

theorem keeps_clearSources (a0) (a1) (h0 : Keeps q a0) : Keeps q (Sys2Proof.Machine.clearSources a0 a1) := by
  unfold Sys2Proof.Machine.clearSources
  repeat' first | with_reducible assumption | intro _ | dsimp only | (fail_if_no_progress with_reducible apply keeps_mk)

theorem keeps_markBegun (a0) (a1) (h0 : Keeps q a0) : Keeps q (Sys2Proof.Machine.markBegun a0 a1) := by
  unfold Sys2Proof.Machine.markBegun
  repeat'
      first
      | with_reducible assumption | with_reducible refine keepsOpt_map (fun _ => ?_) | with_reducible apply keeps_ite_keep | intro _
      | split | dsimp only | (fail_if_no_progress with_reducible apply keeps_mk)

theorem keeps_dropCommands (a0) (a1) (h0 : Keeps q a0) : Keeps q (Sys2Proof.Machine.dropCommands a0 a1) := by
  unfold Sys2Proof.Machine.dropCommands
  repeat' first | with_reducible assumption | intro _ | dsimp only | (fail_if_no_progress with_reducible apply keeps_mk)

theorem keeps_zeroQuarters (a0) (a1) (h0 : Keeps q a0) : Keeps q (Sys2Proof.Machine.zeroQuarters a0 a1) :=
  keeps_foldl _ _ h0 (fun _ _ ht => keeps_ite (fun _ => keeps_locals ht (mapWf_mapDrop (keeps_iff.1 ht).2.2.2.2.1 _)) (fun _ => ht))

theorem keeps_withTenant (a0) (a1) (a2) (h1 : Keeps q a1) (h2 : Keeps q a2) : KeepsRes q (Sys2Proof.Machine.withTenant a0 a1 a2) := by
  unfold Sys2Proof.Machine.withTenant
  repeat'
      first
      | with_reducible assumption | with_reducible apply keepsRes_next | with_reducible exact keepsRes_fault _
      | with_reducible exact keepsRes_refused _ | with_reducible apply keepsRes_ite | with_reducible apply keeps_ite_keep | intro _ | split
      | dsimp only

theorem keeps_dictAnswer (a0) (a1) (h0 : Keeps q a0) : Keeps q (Sys2Proof.Machine.dictAnswer a0 a1) := by
  unfold Sys2Proof.Machine.dictAnswer
  repeat' first | with_reducible assumption | with_reducible apply keeps_emit | intro _ | dsimp only

theorem keeps_resetRings (a0) (a1) (h0 : Keeps q a0) : Keeps q (Sys2Proof.Machine.resetRings a0 a1) := by
  unfold Sys2Proof.Machine.resetRings
  repeat'
      first
      | with_reducible assumption | with_reducible apply keeps_State_updRing | with_reducible apply keeps_foldl
      | with_reducible apply keeps_foldl_fst | with_reducible apply keeps_foldl_snd | with_reducible apply keeps_foldl_snd2 | intro _
      | dsimp only

theorem keeps_clearMasks (a0) (a1) (h0 : Keeps q a0) : Keeps q (Sys2Proof.Machine.clearMasks a0 a1) := by
  unfold Sys2Proof.Machine.clearMasks
  repeat'
      first
      | with_reducible assumption | with_reducible apply keeps_dset | with_reducible apply keeps_foldl
      | with_reducible apply keeps_foldl_fst | with_reducible apply keeps_foldl_snd | with_reducible apply keeps_foldl_snd2 | intro _
      | dsimp only

theorem keeps_clearAllotments (a0) (a1) (h0 : Keeps q a0) : Keeps q (Sys2Proof.Machine.clearAllotments a0 a1) := by
  unfold Sys2Proof.Machine.clearAllotments
  repeat'
      first
      | with_reducible assumption | with_reducible apply keeps_dset | with_reducible apply keeps_foldl
      | with_reducible apply keeps_foldl_fst | with_reducible apply keeps_foldl_snd | with_reducible apply keeps_foldl_snd2 | intro _
      | dsimp only | (fail_if_no_progress with_reducible apply keeps_mk)

theorem keeps_stopMoves (a0) (a1) (h0 : Keeps q a0) : Keeps q (Sys2Proof.Machine.stopMoves a0 a1) := by
  unfold Sys2Proof.Machine.stopMoves
  repeat'
      first
      | with_reducible assumption | with_reducible apply keeps_endLoad | with_reducible apply keeps_State_setMover
      | with_reducible apply keeps_foldl | with_reducible apply keeps_foldl_fst | with_reducible apply keeps_foldl_snd
      | with_reducible apply keeps_foldl_snd2 | with_reducible apply keeps_ite_keep | intro _ | split | dsimp only
      | (fail_if_no_progress with_reducible apply keeps_mk) | with_reducible refine keeps_of_fst ?_ (by assumption)
      | with_reducible refine keeps_of_snd ?_ (by assumption) | with_reducible refine keeps_of_snd2 ?_ (by assumption)
      | with_reducible refine keeps_of_some ?_ (by assumption) | with_reducible refine keeps_of_next ?_ (by assumption)

theorem keeps_leaveContext (a0) (a1) (h0 : Keeps q a0) : Keeps q (Sys2Proof.Machine.leaveContext a0 a1) := by
  unfold Sys2Proof.Machine.leaveContext
  repeat'
      first
      | with_reducible assumption | with_reducible apply keeps_discardRange | with_reducible apply keeps_foldl
      | with_reducible apply keeps_foldl_fst | with_reducible apply keeps_foldl_snd | with_reducible apply keeps_foldl_snd2
      | with_reducible apply keeps_foldl_Store | with_reducible apply keeps_ite_keep | intro _ | split | dsimp only
      | (fail_if_no_progress with_reducible apply keeps_mk)

theorem keeps_discardApertures (a0) (a1) (h0 : Keeps q a0) : Keeps q (Sys2Proof.Machine.discardApertures a0 a1) := by
  unfold Sys2Proof.Machine.discardApertures
  repeat'
      first
      | with_reducible assumption | with_reducible apply keeps_discardRange | with_reducible apply keeps_foldl
      | with_reducible apply keeps_foldl_fst | with_reducible apply keeps_foldl_snd | with_reducible apply keeps_foldl_snd2
      | with_reducible apply keeps_foldl_Store | with_reducible apply keeps_ite_keep | intro _ | split | dsimp only

theorem keeps_setTenantState (a0) (a1) (a2) (h0 : Keeps q a0) : Keeps q (Sys2Proof.Machine.setTenantState a0 a1 a2) := by
  unfold Sys2Proof.Machine.setTenantState
  repeat'
      first
      | with_reducible assumption | with_reducible apply keeps_State_updTenant | with_reducible apply keeps_noteChange
      | with_reducible apply keeps_raiseLocal | with_reducible apply keeps_ite_keep | intro _ | split | dsimp only
      | (fail_if_no_progress with_reducible apply keeps_mk)

theorem keeps_removeNodes (a0) (a1) (h0 : Keeps q a0) : Keeps q (Sys2Proof.Machine.removeNodes a0 a1) := by
  unfold Sys2Proof.Machine.removeNodes
  repeat'
      first
      | with_reducible assumption | with_reducible apply keeps_removeNode | with_reducible apply keeps_foldl
      | with_reducible apply keeps_foldl_fst | with_reducible apply keeps_foldl_snd | with_reducible apply keeps_foldl_snd2
      | with_reducible apply keeps_ite_keep | intro _ | split | dsimp only

theorem keeps_stateAbort (a0) (a1) (h0 : Keeps q a0) : Keeps q (Sys2Proof.Machine.stateAbort a0 a1).2 := by
  unfold Sys2Proof.Machine.stateAbort
  repeat' first | with_reducible assumption | with_reducible apply keeps_cmdState | intro _ | dsimp only

theorem keeps_legalOr (a0) (a1) (a2) (a3) (h0 : Keeps q a0) (h3 : Keeps q a3) : Keeps q (Sys2Proof.Machine.legalOr a0 a1 a2 a3) := by
  unfold Sys2Proof.Machine.legalOr
  repeat'
      first
      | with_reducible assumption | with_reducible apply keeps_stateAbort | with_reducible apply keeps_dictAnswer
      | with_reducible apply keeps_ite_keep | intro _ | split | dsimp only | with_reducible refine keeps_of_fst ?_ (by assumption)
      | with_reducible refine keeps_of_snd ?_ (by assumption) | with_reducible refine keeps_of_snd2 ?_ (by assumption)
      | with_reducible refine keeps_of_some ?_ (by assumption) | with_reducible refine keeps_of_next ?_ (by assumption)

theorem keeps_quiesceTenant (a0) (a1) (h0 : Keeps q a0) : Keeps q (Sys2Proof.Machine.quiesceTenant a0 a1) := by
  unfold Sys2Proof.Machine.quiesceTenant
  repeat' first | with_reducible assumption | with_reducible apply keeps_setTenantState | with_reducible apply keeps_legalOr | intro _ | dsimp only

theorem keeps_assignTenant (a0) (a1) (h0 : Keeps q a0) : Keeps q (Sys2Proof.Machine.assignTenant a0 a1) := by
  unfold Sys2Proof.Machine.assignTenant
  repeat' first | with_reducible assumption | with_reducible apply keeps_setTenantState | with_reducible apply keeps_legalOr | intro _ | dsimp only

theorem keeps_execQuiesce (a0) (a1) (h1 : Keeps q a1) : KeepsRes q (Sys2Proof.Machine.execQuiesce a0 a1) := by
  unfold Sys2Proof.Machine.execQuiesce
  repeat'
      first
      | with_reducible assumption | with_reducible apply keeps_quiesceTenant | with_reducible apply keeps_withTenant
      | with_reducible apply keepsRes_next | with_reducible exact keepsRes_fault _ | with_reducible exact keepsRes_refused _ | intro _
      | dsimp only

theorem keeps_execAssign (a0) (a1) (h1 : Keeps q a1) : KeepsRes q (Sys2Proof.Machine.execAssign a0 a1) := by
  unfold Sys2Proof.Machine.execAssign
  repeat'
      first
      | with_reducible assumption | with_reducible apply keeps_assignTenant | with_reducible apply keeps_withTenant
      | with_reducible apply keepsRes_next | with_reducible exact keepsRes_fault _ | with_reducible exact keepsRes_refused _ | intro _
      | dsimp only

theorem keeps_dropDoorbell (a0) (a1) (a2) (h0 : Keeps q a0) : Keeps q (Sys2Proof.Machine.dropDoorbell a0 a1 a2) := by
  unfold Sys2Proof.Machine.dropDoorbell
  repeat'
      first
      | with_reducible assumption | with_reducible apply keeps_State_updRing | with_reducible apply keeps_recordFault
      | with_reducible apply keeps_bump | intro _ | split | dsimp only | (fail_if_no_progress with_reducible apply keeps_mk)
      | with_reducible refine keeps_of_fst ?_ (by assumption) | with_reducible refine keeps_of_snd ?_ (by assumption)
      | with_reducible refine keeps_of_snd2 ?_ (by assumption) | with_reducible refine keeps_of_some ?_ (by assumption)
      | with_reducible refine keeps_of_next ?_ (by assumption)

theorem keeps_applyDoorbell (a0) (a1) (a2) (a3) (h0 : Keeps q a0) : Keeps q (Sys2Proof.Machine.applyDoorbell a0 a1 a2 a3) := by
  unfold Sys2Proof.Machine.applyDoorbell
  repeat'
      first
      | with_reducible assumption | with_reducible apply keeps_dropDoorbell | with_reducible apply keeps_State_setRing
      | with_reducible apply keeps_ite_keep | intro _ | split | dsimp only | (fail_if_no_progress with_reducible apply keeps_mk)
      | with_reducible refine keeps_of_fst ?_ (by assumption) | with_reducible refine keeps_of_snd ?_ (by assumption)
      | with_reducible refine keeps_of_snd2 ?_ (by assumption) | with_reducible refine keeps_of_some ?_ (by assumption)
      | with_reducible refine keeps_of_next ?_ (by assumption)

theorem keeps_releaseDoorbells (a0) (a1) (h0 : Keeps q a0) : Keeps q (Sys2Proof.Machine.releaseDoorbells a0 a1) := by
  unfold Sys2Proof.Machine.releaseDoorbells
  repeat'
      first
      | with_reducible assumption | with_reducible apply keeps_State_updTenant | with_reducible apply keeps_applyDoorbell
      | with_reducible apply keeps_foldl | with_reducible apply keeps_foldl_fst | with_reducible apply keeps_foldl_snd
      | with_reducible apply keeps_foldl_snd2 | intro _ | dsimp only | (fail_if_no_progress with_reducible apply keeps_mk)

theorem keeps_resumeTenant (a0) (a1) (h0 : Keeps q a0) : Keeps q (Sys2Proof.Machine.resumeTenant a0 a1) := by
  unfold Sys2Proof.Machine.resumeTenant
  repeat'
      first
      | with_reducible assumption | with_reducible apply keeps_releaseDoorbells | with_reducible apply keeps_setTenantState
      | with_reducible apply keeps_legalOr | with_reducible apply keeps_ite_keep | intro _ | split | dsimp only

theorem keeps_execTenantResume (a0) (a1) (h1 : Keeps q a1) : KeepsRes q (Sys2Proof.Machine.execTenantResume a0 a1) := by
  unfold Sys2Proof.Machine.execTenantResume
  repeat'
      first
      | with_reducible assumption | with_reducible apply keeps_resumeTenant | with_reducible apply keeps_withTenant
      | with_reducible apply keepsRes_next | with_reducible exact keepsRes_fault _ | with_reducible exact keepsRes_refused _ | intro _
      | dsimp only

theorem keeps_emptyCutters (a0) (a1) (h0 : Keeps q a0) : Keeps q (Sys2Proof.Machine.emptyCutters a0 a1) := by
  unfold Sys2Proof.Machine.emptyCutters
  repeat'
      first
      | with_reducible assumption | with_reducible apply keeps_emptyCutter | with_reducible apply keeps_foldl
      | with_reducible apply keeps_foldl_fst | with_reducible apply keeps_foldl_snd | with_reducible apply keeps_foldl_snd2
      | with_reducible apply keeps_ite_keep | intro _ | split | dsimp only

theorem keeps_unassignTenant (a0) (a1) (h0 : Keeps q a0) : Keeps q (Sys2Proof.Machine.unassignTenant a0 a1) := by
  unfold Sys2Proof.Machine.unassignTenant
  repeat'
      first
      | with_reducible assumption | with_reducible apply keeps_removeNodes | with_reducible apply keeps_zeroQuarters
      | with_reducible apply keeps_discardApertures | with_reducible apply keeps_emptyCutters | with_reducible apply keeps_clearAllotments
      | with_reducible apply keeps_clearMasks | intro _ | dsimp only

theorem keeps_stopTasks (a0) (a1) (h0 : Keeps q a0) : Keeps q (Sys2Proof.Machine.stopTasks a0 a1) := by
  unfold Sys2Proof.Machine.stopTasks
  repeat'
      first
      | with_reducible assumption | with_reducible apply keeps_State_updThread | with_reducible apply keeps_settleThread
      | with_reducible refine keepsOpt_map (fun _ => ?_) | with_reducible apply keeps_foldl | with_reducible apply keeps_foldl_fst
      | with_reducible apply keeps_foldl_snd | with_reducible apply keeps_foldl_snd2 | with_reducible apply keeps_ite_keep | intro _ | split
      | dsimp only | (fail_if_no_progress with_reducible apply keeps_mk)

theorem keeps_execTenantResetDone (a0) (a1) (h1 : Keeps q a1) : KeepsRes q (Sys2Proof.Machine.execTenantResetDone a0 a1) := by
  unfold Sys2Proof.Machine.execTenantResetDone
  repeat'
      first
      | with_reducible assumption | with_reducible apply keeps_State_updTenant | with_reducible apply keeps_unassignTenant
      | with_reducible apply keeps_setTenantState | with_reducible apply keepsRes_next | with_reducible exact keepsRes_fault _
      | with_reducible exact keepsRes_refused _ | with_reducible apply keepsRes_ite | with_reducible apply keeps_ite_keep | intro _ | split
      | dsimp only | (fail_if_no_progress with_reducible apply keeps_mk)

theorem keeps_faultTenant (a0) (a1) (h0 : Keeps q a0) : Keeps q (Sys2Proof.Machine.faultTenant a0 a1) := by
  unfold Sys2Proof.Machine.faultTenant
  repeat'
      first
      | with_reducible assumption | with_reducible apply keeps_State_updTenant | with_reducible apply keeps_stopTasks
      | with_reducible apply keeps_markBegun | with_reducible apply keeps_stopMoves | with_reducible apply keeps_setTenantState | intro _
      | dsimp only | (fail_if_no_progress with_reducible apply keeps_mk)

theorem keeps_resetRequests (a0) (a1) (h0 : Keeps q a0) : Keeps q (Sys2Proof.Machine.resetRequests a0 a1) := by
  unfold Sys2Proof.Machine.resetRequests
  repeat'
      first
      | with_reducible assumption | with_reducible apply keeps_State_updTenant | with_reducible apply keeps_dropReq
      | with_reducible apply keeps_foldl | with_reducible apply keeps_foldl_fst | with_reducible apply keeps_foldl_snd
      | with_reducible apply keeps_foldl_snd2 | with_reducible apply keeps_ite_keep | intro _ | split | dsimp only
      | (fail_if_no_progress with_reducible apply keeps_mk)

theorem keeps_beginReset (a0) (a1) (a2) (a3) (h0 : Keeps q a0) : Keeps q (Sys2Proof.Machine.beginReset a0 a1 a2 a3) := by
  unfold Sys2Proof.Machine.beginReset
  repeat'
      first
      | with_reducible assumption | with_reducible apply keeps_stopTasks | with_reducible apply keeps_stopMoves
      | with_reducible apply keeps_State_updTenant | with_reducible apply keeps_clearSources | with_reducible apply keeps_leaveContext
      | with_reducible apply keeps_resetRings | with_reducible apply keeps_markBegun | with_reducible apply keeps_invalidateTenant
      | with_reducible apply keeps_dropCommands | with_reducible apply keeps_dset | with_reducible apply keeps_setTenantState
      | with_reducible apply keeps_bump | with_reducible apply keeps_resetRequests | intro _ | dsimp only
      | (fail_if_no_progress with_reducible apply keeps_mk)

theorem keeps_unassignCmd (a0) (a1) (h0 : Keeps q a0) : Keeps q (Sys2Proof.Machine.unassignCmd a0 a1) := by
  unfold Sys2Proof.Machine.unassignCmd
  repeat' first | with_reducible assumption | with_reducible apply keeps_beginReset | with_reducible apply keeps_legalOr | intro _ | dsimp only

theorem keeps_resetTenant (a0) (a1) (h0 : Keeps q a0) : Keeps q (Sys2Proof.Machine.resetTenant a0 a1) := by
  unfold Sys2Proof.Machine.resetTenant
  repeat' first | with_reducible assumption | with_reducible apply keeps_beginReset | with_reducible apply keeps_legalOr | intro _ | dsimp only

theorem keeps_faultReset (a0) (a1) (h0 : Keeps q a0) : Keeps q (Sys2Proof.Machine.faultReset a0 a1) := by
  unfold Sys2Proof.Machine.faultReset
  repeat'
      first
      | with_reducible assumption | with_reducible apply keeps_beginReset | with_reducible apply keeps_faultTenant
      | with_reducible apply keeps_ite_keep | intro _ | split | dsimp only | (fail_if_no_progress with_reducible apply keeps_mk)
      | with_reducible refine keeps_of_fst ?_ (by assumption) | with_reducible refine keeps_of_snd ?_ (by assumption)
      | with_reducible refine keeps_of_snd2 ?_ (by assumption) | with_reducible refine keeps_of_some ?_ (by assumption)
      | with_reducible refine keeps_of_next ?_ (by assumption)

theorem keeps_execUnassign (a0) (a1) (h1 : Keeps q a1) : KeepsRes q (Sys2Proof.Machine.execUnassign a0 a1) := by
  unfold Sys2Proof.Machine.execUnassign
  repeat'
      first
      | with_reducible assumption | with_reducible apply keeps_unassignCmd | with_reducible apply keeps_withTenant
      | with_reducible apply keepsRes_next | with_reducible exact keepsRes_fault _ | with_reducible exact keepsRes_refused _ | intro _
      | dsimp only

theorem keeps_execTenantReset (a0) (a1) (a2) (h2 : Keeps q a2) : KeepsRes q (Sys2Proof.Machine.execTenantReset a0 a1 a2) := by
  unfold Sys2Proof.Machine.execTenantReset
  repeat'
      first
      | with_reducible assumption | with_reducible apply keeps_faultReset | with_reducible apply keeps_resetTenant
      | with_reducible apply keeps_withTenant | with_reducible apply keepsRes_next | with_reducible exact keepsRes_fault _
      | with_reducible exact keepsRes_refused _ | with_reducible apply keepsRes_ite | with_reducible apply keeps_ite_keep | intro _ | split
      | dsimp only


/-! ## Slots -/

theorem keeps_execContextSwitch (a0) (h0 : Keeps q a0) : KeepsRes q (Sys2Proof.Machine.execContextSwitch a0) := by
  unfold Sys2Proof.Machine.execContextSwitch
  repeat'
      first
      | with_reducible assumption | with_reducible apply keepsRes_next | with_reducible exact keepsRes_fault _
      | with_reducible exact keepsRes_refused _ | with_reducible apply keepsOpt_some | with_reducible exact keepsOpt_none
      | with_reducible apply keepsRes_ite | with_reducible apply keeps_ite_keep | intro _ | split | dsimp only
      | (fail_if_no_progress with_reducible apply keeps_mk) | with_reducible refine keeps_of_fst ?_ (by assumption)
      | with_reducible refine keeps_of_snd ?_ (by assumption) | with_reducible refine keeps_of_snd2 ?_ (by assumption)
      | with_reducible refine keeps_of_some ?_ (by assumption) | with_reducible refine keeps_of_next ?_ (by assumption)

theorem keeps_slotState (a0) (a1) (a2) (h0 : Keeps q a0) : Keeps q (Sys2Proof.Machine.slotState a0 a1 a2) := by
  unfold Sys2Proof.Machine.slotState
  repeat'
      first
      | with_reducible assumption | with_reducible apply keeps_noteChange | with_reducible apply keeps_State_updSlot | intro _
      | dsimp only | (fail_if_no_progress with_reducible apply keeps_mk)

theorem keeps_loadContext (a0) (a1) (a2) (h0 : Keeps q a0) : Keeps q (Sys2Proof.Machine.loadContext a0 a1 a2) := by
  unfold Sys2Proof.Machine.loadContext
  have h1 := keeps_pots h0 (mapWf_foldl 0 (fun m (w : Nat × Code288) => mapSet 0 m w.1 w.2) a2.pots
    (mapWf_filter (keeps_iff.1 h0).2.2.2.1 (fun w => !(inExtentWords a0 a1 w.1))) (fun _ _ hm => mapWf_mapSet hm _ _))
  exact keeps_foldl _ _ h1 (fun _ _ ht => keeps_State_updEngine _ _ _ ht)

theorem keeps_endRestore (a0) (a1) (h0 : Keeps q a0) : Keeps q (Sys2Proof.Machine.endRestore a0 a1) := by
  unfold Sys2Proof.Machine.endRestore
  repeat'
      first
      | with_reducible assumption | with_reducible apply keeps_slotState | with_reducible apply keeps_markStalled
      | with_reducible apply keeps_State_updSlot | intro _ | dsimp only | (fail_if_no_progress with_reducible apply keeps_mk)

theorem keeps_finishSwitch (a0) (a1) (h0 : Keeps q a0) : Keeps q (Sys2Proof.Machine.finishSwitch a0 a1) := by
  unfold Sys2Proof.Machine.finishSwitch
  repeat'
      first
      | with_reducible assumption | with_reducible apply keeps_loadContext | with_reducible apply keeps_bump
      | with_reducible apply keeps_invalidateTenant | with_reducible apply keeps_dset | with_reducible apply keeps_ite_keep | intro _
      | split | dsimp only | (fail_if_no_progress with_reducible apply keeps_mk)

theorem keeps_execContextSwitchDone (a0) (h0 : Keeps q a0) : KeepsRes q (Sys2Proof.Machine.execContextSwitchDone a0) := by
  unfold Sys2Proof.Machine.execContextSwitchDone
  repeat'
      first
      | with_reducible assumption | with_reducible apply keeps_finishSwitch | with_reducible apply keepsRes_next
      | with_reducible exact keepsRes_fault _ | with_reducible exact keepsRes_refused _ | with_reducible apply keepsOpt_some
      | with_reducible exact keepsOpt_none | with_reducible apply keepsRes_ite | with_reducible apply keeps_ite_keep | intro _ | split
      | dsimp only | (fail_if_no_progress with_reducible apply keeps_mk) | with_reducible refine keeps_of_fst ?_ (by assumption)
      | with_reducible refine keeps_of_snd ?_ (by assumption) | with_reducible refine keeps_of_snd2 ?_ (by assumption)
      | with_reducible refine keeps_of_some ?_ (by assumption) | with_reducible refine keeps_of_next ?_ (by assumption)

theorem keeps_finishLoad (a0) (a1) (a2) (h0 : Keeps q a0) : Keeps q (Sys2Proof.Machine.finishLoad a0 a1 a2) := by
  unfold Sys2Proof.Machine.finishLoad
  repeat'
      first
      | with_reducible assumption | with_reducible apply keeps_placePrograms | with_reducible apply keeps_slotState
      | with_reducible apply keeps_State_updSlot | with_reducible apply keeps_measure | with_reducible refine keepsOpt_map (fun _ => ?_)
      | with_reducible apply keeps_foldl | with_reducible apply keeps_foldl_fst | with_reducible apply keeps_foldl_snd
      | with_reducible apply keeps_foldl_snd2 | intro _ | dsimp only | (fail_if_no_progress with_reducible apply keeps_mk)

theorem keeps_execSlotUnload (a0) (a1) (h1 : Keeps q a1) : KeepsRes q (Sys2Proof.Machine.execSlotUnload a0 a1) := by
  unfold Sys2Proof.Machine.execSlotUnload
  repeat'
      first
      | with_reducible assumption | with_reducible apply keeps_legalOr | with_reducible apply keeps_State_setSlot
      | with_reducible apply keeps_placeSoon | with_reducible apply keeps_noteChange | with_reducible apply keeps_measure
      | with_reducible apply keepsRes_next | with_reducible exact keepsRes_fault _ | with_reducible exact keepsRes_refused _
      | with_reducible apply keepsRes_ite | with_reducible apply keeps_ite_keep | intro _ | split | dsimp only

theorem keeps_failLoad (a0) (a1) (a2) (a3) (h0 : Keeps q a0) : Keeps q (Sys2Proof.Machine.failLoad a0 a1 a2 a3) := by
  unfold Sys2Proof.Machine.failLoad
  repeat'
      first
      | with_reducible assumption | with_reducible apply keeps_State_setSlot | with_reducible apply keeps_noteChange
      | with_reducible apply keeps_discardRange | with_reducible apply keeps_recordFault | with_reducible apply keeps_foldl
      | with_reducible apply keeps_foldl_fst | with_reducible apply keeps_foldl_snd | with_reducible apply keeps_foldl_snd2
      | with_reducible apply keeps_foldl_Store | with_reducible apply keeps_ite_keep | intro _ | split | dsimp only
      | (fail_if_no_progress with_reducible apply keeps_mk)

theorem keeps_execRestoreTimeout (a0) (a1) (h1 : Keeps q a1) : KeepsRes q (Sys2Proof.Machine.execRestoreTimeout a0 a1) := by
  unfold Sys2Proof.Machine.execRestoreTimeout
  repeat'
      first
      | with_reducible assumption | with_reducible apply keeps_failRestore | with_reducible apply keepsRes_next
      | with_reducible exact keepsRes_fault _ | with_reducible exact keepsRes_refused _ | with_reducible apply keepsRes_ite
      | with_reducible apply keeps_ite_keep | intro _ | split | dsimp only

theorem keeps_loadHead (a0) (a1) (a2) (h0 : Keeps q a0) : Keeps q (Sys2Proof.Machine.loadHead a0 a1 a2).1 := by
  unfold Sys2Proof.Machine.loadHead
  repeat'
      first
      | with_reducible assumption | with_reducible apply keeps_loadBytes | with_reducible apply keeps_ite_keep | intro _ | split
      | dsimp only

theorem keeps_loadImage (a0) (a1) (a2) (a3) (h0 : Keeps q a0) : Keeps q (Sys2Proof.Machine.loadImage a0 a1 a2 a3).1 := by
  unfold Sys2Proof.Machine.loadImage
  repeat'
      first
      | with_reducible assumption | with_reducible apply keeps_loadBytes | with_reducible apply keeps_ite_keep | intro _ | split
      | dsimp only

theorem keeps_execSlotLoad (a0) (a1) (a2) (h2 : Keeps q a2) : KeepsRes q (Sys2Proof.Machine.execSlotLoad a0 a1 a2) := by
  unfold Sys2Proof.Machine.execSlotLoad
  repeat'
      first
      | with_reducible assumption | with_reducible apply keeps_dictAnswer | with_reducible apply keeps_legalOr
      | with_reducible apply keeps_slotState | with_reducible apply keeps_failLoad | with_reducible apply keeps_State_updSlot
      | with_reducible apply keeps_loadHead | with_reducible apply keepsRes_next | with_reducible exact keepsRes_fault _
      | with_reducible exact keepsRes_refused _ | with_reducible apply keepsRes_ite | with_reducible apply keeps_ite_keep | intro _ | split
      | dsimp only | (fail_if_no_progress with_reducible apply keeps_mk) | with_reducible refine keeps_of_fst ?_ (by assumption)
      | with_reducible refine keeps_of_snd ?_ (by assumption) | with_reducible refine keeps_of_snd2 ?_ (by assumption)
      | with_reducible refine keeps_of_some ?_ (by assumption) | with_reducible refine keeps_of_next ?_ (by assumption)

theorem keeps_execRestoreFrameDone (a0) (a1) (a2) (a3) (h3 : Keeps q a3) : KeepsRes q (Sys2Proof.Machine.execRestoreFrameDone a0 a1 a2 a3) := by
  unfold Sys2Proof.Machine.execRestoreFrameDone
  repeat'
      first
      | with_reducible assumption | with_reducible apply keeps_endRestore | with_reducible apply keeps_failRestore
      | with_reducible apply keeps_State_updSlot | with_reducible apply keeps_storeBytes | with_reducible apply keeps_bump
      | with_reducible apply keepsRes_next | with_reducible exact keepsRes_fault _ | with_reducible exact keepsRes_refused _
      | with_reducible apply keepsRes_ite | with_reducible apply keeps_ite_keep | intro _ | split | dsimp only
      | (fail_if_no_progress with_reducible apply keeps_mk) | with_reducible refine keeps_of_fst ?_ (by assumption)
      | with_reducible refine keeps_of_snd ?_ (by assumption) | with_reducible refine keeps_of_snd2 ?_ (by assumption)
      | with_reducible refine keeps_of_some ?_ (by assumption) | with_reducible refine keeps_of_next ?_ (by assumption)

theorem keeps_copyRegion (a0) (a1) (a2) (a3) (h2 : Keeps q a2) : Keeps q (Sys2Proof.Machine.copyRegion a0 a1 a2 a3) := by
  unfold Sys2Proof.Machine.copyRegion
  repeat'
      first
      | with_reducible assumption | with_reducible apply keeps_State_updSlot | with_reducible apply keeps_storeBytes
      | with_reducible apply keeps_foldl | with_reducible apply keeps_foldl_fst | with_reducible apply keeps_foldl_snd
      | with_reducible apply keeps_foldl_snd2 | with_reducible apply keeps_foldl_Store | intro _ | dsimp only
      | (fail_if_no_progress with_reducible apply keeps_mk)

theorem keeps_execSlotLoadDone (a0) (a1) (a2) (a3) (h3 : Keeps q a3) : KeepsRes q (Sys2Proof.Machine.execSlotLoadDone a0 a1 a2 a3) := by
  unfold Sys2Proof.Machine.execSlotLoadDone
  repeat'
      first
      | with_reducible assumption | with_reducible apply keeps_finishLoad | with_reducible apply keeps_failLoad
      | with_reducible apply keeps_copyRegion | with_reducible apply keeps_loadImage | with_reducible apply keepsRes_next
      | with_reducible exact keepsRes_fault _ | with_reducible exact keepsRes_refused _ | with_reducible refine keepsOpt_map (fun _ => ?_)
      | with_reducible apply keeps_foldl | with_reducible apply keeps_foldl_fst | with_reducible apply keeps_foldl_snd
      | with_reducible apply keeps_foldl_snd2 | with_reducible apply keepsRes_ite | with_reducible apply keeps_ite_keep | intro _ | split
      | dsimp only | with_reducible refine keeps_of_fst ?_ (by assumption) | with_reducible refine keeps_of_snd ?_ (by assumption)
      | with_reducible refine keeps_of_snd2 ?_ (by assumption) | with_reducible refine keeps_of_some ?_ (by assumption)
      | with_reducible refine keeps_of_next ?_ (by assumption)


/-! ## CadenceOps -/

theorem keeps_passEntry (a0) (h0 : Keeps q a0) : Keeps q (Sys2Proof.Machine.passEntry a0) := by
  unfold Sys2Proof.Machine.passEntry
  repeat' first | with_reducible assumption | intro _ | dsimp only | (fail_if_no_progress with_reducible apply keeps_mk)

theorem keeps_execScheduleStep (a0) (h0 : Keeps q a0) : KeepsRes q (Sys2Proof.Machine.execScheduleStep a0) := by
  unfold Sys2Proof.Machine.execScheduleStep
  repeat'
      first
      | with_reducible assumption | with_reducible apply keeps_passEntry | with_reducible apply keepsRes_next
      | with_reducible exact keepsRes_fault _ | with_reducible exact keepsRes_refused _ | with_reducible apply keepsOpt_some
      | with_reducible exact keepsOpt_none | with_reducible apply keepsRes_ite | with_reducible apply keeps_ite_keep | intro _ | split
      | dsimp only | (fail_if_no_progress with_reducible apply keeps_mk) | with_reducible refine keeps_of_fst ?_ (by assumption)
      | with_reducible refine keeps_of_snd ?_ (by assumption) | with_reducible refine keeps_of_snd2 ?_ (by assumption)
      | with_reducible refine keeps_of_some ?_ (by assumption) | with_reducible refine keeps_of_next ?_ (by assumption)

theorem keeps_execPpsOutSecond (a0) (h0 : Keeps q a0) : KeepsRes q (Sys2Proof.Machine.execPpsOutSecond a0) := by
  unfold Sys2Proof.Machine.execPpsOutSecond
  repeat'
      first
      | with_reducible assumption | with_reducible apply keeps_emit | with_reducible apply keepsRes_next
      | with_reducible exact keepsRes_fault _ | with_reducible exact keepsRes_refused _ | with_reducible apply keepsRes_ite
      | with_reducible apply keeps_ite_keep | intro _ | split | dsimp only | (fail_if_no_progress with_reducible apply keeps_mk)

theorem keeps_refreshCadence (a0) (h0 : Keeps q a0) : Keeps q (Sys2Proof.Machine.refreshCadence a0) := by
  unfold Sys2Proof.Machine.refreshCadence
  repeat' first | with_reducible assumption | with_reducible apply keeps_dset | with_reducible apply keeps_ite_keep | intro _ | split | dsimp only

theorem keeps_execFreqCorrection (a0) (a1) (h1 : Keeps q a1) : KeepsRes q (Sys2Proof.Machine.execFreqCorrection a0 a1) := by
  unfold Sys2Proof.Machine.execFreqCorrection
  repeat'
      first
      | with_reducible assumption | with_reducible apply keeps_dset | with_reducible apply keeps_freeValue
      | with_reducible apply keepsRes_next | with_reducible exact keepsRes_fault _ | with_reducible exact keepsRes_refused _ | intro _
      | split | dsimp only | (fail_if_no_progress with_reducible apply keeps_mk) | with_reducible refine keeps_of_fst ?_ (by assumption)
      | with_reducible refine keeps_of_snd ?_ (by assumption) | with_reducible refine keeps_of_snd2 ?_ (by assumption)
      | with_reducible refine keeps_of_some ?_ (by assumption) | with_reducible refine keeps_of_next ?_ (by assumption)

theorem keeps_rephase (a0) (a1) (h0 : Keeps q a0) : Keeps q (Sys2Proof.Machine.rephase a0 a1) := by
  unfold Sys2Proof.Machine.rephase
  repeat' first | with_reducible assumption | with_reducible apply keeps_bump | with_reducible apply keeps_ite_keep | intro _ | split | dsimp only

theorem keeps_setQuality (a0) (a1) (h0 : Keeps q a0) : Keeps q (Sys2Proof.Machine.setQuality a0 a1) := by
  unfold Sys2Proof.Machine.setQuality
  repeat'
      first
      | with_reducible assumption | with_reducible apply keeps_dset | with_reducible apply keeps_refreshCadence
      | with_reducible apply keeps_ite_keep | intro _ | split | dsimp only

theorem keeps_execReservationLapse (a0) (h0 : Keeps q a0) : KeepsRes q (Sys2Proof.Machine.execReservationLapse a0) := by
  unfold Sys2Proof.Machine.execReservationLapse
  repeat'
      first
      | with_reducible assumption | with_reducible apply keeps_bump | with_reducible apply keepsRes_next
      | with_reducible exact keepsRes_fault _ | with_reducible exact keepsRes_refused _ | with_reducible apply keepsRes_ite
      | with_reducible apply keeps_ite_keep | intro _ | split | dsimp only | (fail_if_no_progress with_reducible apply keeps_mk)

theorem keeps_overrunEntries (a0) (h0 : Keeps q a0) : Keeps q (Sys2Proof.Machine.overrunEntries a0) := by
  unfold Sys2Proof.Machine.overrunEntries
  repeat'
      first
      | with_reducible assumption | with_reducible apply keeps_bump | with_reducible apply keeps_ite_keep | intro _ | split | dsimp only
      | (fail_if_no_progress with_reducible apply keeps_mk) | with_reducible refine keeps_of_fst ?_ (by assumption)
      | with_reducible refine keeps_of_snd ?_ (by assumption) | with_reducible refine keeps_of_snd2 ?_ (by assumption)
      | with_reducible refine keeps_of_some ?_ (by assumption) | with_reducible refine keeps_of_next ?_ (by assumption)

theorem keeps_execScheduleContext (a0) (h0 : Keeps q a0) : KeepsRes q (Sys2Proof.Machine.execScheduleContext a0) := by
  unfold Sys2Proof.Machine.execScheduleContext
  repeat'
      first
      | with_reducible assumption | with_reducible apply keeps_passEntry | with_reducible apply keeps_bump
      | with_reducible apply keepsRes_next | with_reducible exact keepsRes_fault _ | with_reducible exact keepsRes_refused _
      | with_reducible apply keepsOpt_some | with_reducible exact keepsOpt_none | with_reducible apply keepsRes_ite
      | with_reducible apply keeps_ite_keep | intro _ | split | dsimp only | (fail_if_no_progress with_reducible apply keeps_mk)
      | with_reducible refine keeps_of_fst ?_ (by assumption) | with_reducible refine keeps_of_snd ?_ (by assumption)
      | with_reducible refine keeps_of_snd2 ?_ (by assumption) | with_reducible refine keeps_of_some ?_ (by assumption)
      | with_reducible refine keeps_of_next ?_ (by assumption)

theorem keeps_execPtpDelayReq (a0) (a1) (a2) (h2 : Keeps q a2) : KeepsRes q (Sys2Proof.Machine.execPtpDelayReq a0 a1 a2) := by
  unfold Sys2Proof.Machine.execPtpDelayReq
  repeat'
      first
      | with_reducible assumption | with_reducible apply keeps_timeFrame | with_reducible apply keepsRes_next
      | with_reducible exact keepsRes_fault _ | with_reducible exact keepsRes_refused _ | with_reducible apply keepsRes_ite
      | with_reducible apply keeps_ite_keep | intro _ | split | dsimp only

theorem keeps_execPtpSyncSend (a0) (h0 : Keeps q a0) : KeepsRes q (Sys2Proof.Machine.execPtpSyncSend a0) := by
  unfold Sys2Proof.Machine.execPtpSyncSend
  repeat'
      first
      | with_reducible assumption | with_reducible apply keeps_timeFrame | with_reducible apply keeps_dset
      | with_reducible apply keepsRes_next | with_reducible exact keepsRes_fault _ | with_reducible exact keepsRes_refused _
      | with_reducible apply keepsRes_ite | with_reducible apply keeps_ite_keep | intro _ | split | dsimp only
      | (fail_if_no_progress with_reducible apply keeps_mk)

theorem keeps_stepTime (a0) (a1) (h0 : Keeps q a0) : Keeps q (Sys2Proof.Machine.stepTime a0 a1) := by
  unfold Sys2Proof.Machine.stepTime
  repeat'
      first
      | with_reducible assumption | with_reducible apply keeps_rephase | intro _ | dsimp only
      | (fail_if_no_progress with_reducible apply keeps_mk)

theorem keeps_changeSource (a0) (a1) (h0 : Keeps q a0) : Keeps q (Sys2Proof.Machine.changeSource a0 a1) := by
  unfold Sys2Proof.Machine.changeSource
  repeat'
      first
      | with_reducible assumption | with_reducible apply keeps_refreshCadence | with_reducible apply keeps_rephase
      | with_reducible apply keeps_dset | with_reducible apply keeps_ite_keep | intro _ | split | dsimp only
      | (fail_if_no_progress with_reducible apply keeps_mk)

theorem keeps_execGrandmasterAnnounce (a0) (a1) (a2) (a3) (h3 : Keeps q a3) : KeepsRes q (Sys2Proof.Machine.execGrandmasterAnnounce a0 a1 a2 a3) := by
  unfold Sys2Proof.Machine.execGrandmasterAnnounce
  repeat'
      first
      | with_reducible assumption | with_reducible apply keeps_lastAnnounce | with_reducible apply keeps_rephase
      | with_reducible apply keeps_dset | with_reducible apply keepsRes_next | with_reducible exact keepsRes_fault _
      | with_reducible exact keepsRes_refused _ | with_reducible apply keepsOpt_some | with_reducible exact keepsOpt_none
      | with_reducible apply keepsRes_ite | with_reducible apply keeps_ite_keep | intro _ | split | dsimp only
      | (fail_if_no_progress with_reducible apply keeps_mk)

theorem keeps_execPpsMissing (a0) (h0 : Keeps q a0) : KeepsRes q (Sys2Proof.Machine.execPpsMissing a0) := by
  unfold Sys2Proof.Machine.execPpsMissing
  repeat'
      first
      | with_reducible assumption | with_reducible apply keeps_setQuality | with_reducible apply keepsRes_next
      | with_reducible exact keepsRes_fault _ | with_reducible exact keepsRes_refused _ | with_reducible apply keepsRes_ite
      | with_reducible apply keeps_ite_keep | intro _ | split | dsimp only | (fail_if_no_progress with_reducible apply keeps_mk)

theorem keeps_execFabricCadenceTimeout (a0) (h0 : Keeps q a0) : KeepsRes q (Sys2Proof.Machine.execFabricCadenceTimeout a0) := by
  unfold Sys2Proof.Machine.execFabricCadenceTimeout
  repeat'
      first
      | with_reducible assumption | with_reducible apply keeps_dset | with_reducible apply keeps_lastAnnounce
      | with_reducible apply keepsRes_next | with_reducible exact keepsRes_fault _ | with_reducible exact keepsRes_refused _
      | with_reducible apply keepsRes_ite | with_reducible apply keeps_ite_keep | intro _ | split | dsimp only

theorem keeps_writePtpTime (a0) (a1) (h0 : Keeps q a0) : Keeps q (Sys2Proof.Machine.writePtpTime a0 a1) := by
  unfold Sys2Proof.Machine.writePtpTime
  repeat'
      first
      | with_reducible assumption | with_reducible apply keeps_stepTime | with_reducible apply keeps_setQuality
      | with_reducible apply keeps_ite_keep | intro _ | split | dsimp only | (fail_if_no_progress with_reducible apply keeps_mk)

theorem keeps_acceptPps (a0) (a1) (h0 : Keeps q a0) : Keeps q (Sys2Proof.Machine.acceptPps a0 a1) := by
  unfold Sys2Proof.Machine.acceptPps
  repeat'
      first
      | with_reducible assumption | with_reducible apply keeps_stepTime | with_reducible apply keeps_dset
      | with_reducible apply keeps_setQuality | with_reducible apply keeps_ite_keep | intro _ | split | dsimp only
      | (fail_if_no_progress with_reducible apply keeps_mk)

theorem keeps_execPtpTimeWrite (a0) (a1) (h1 : Keeps q a1) : KeepsRes q (Sys2Proof.Machine.execPtpTimeWrite a0 a1) := by
  unfold Sys2Proof.Machine.execPtpTimeWrite
  repeat'
      first
      | with_reducible assumption | with_reducible apply keeps_writePtpTime | with_reducible apply keeps_dictAnswer
      | with_reducible apply keepsRes_next | with_reducible exact keepsRes_fault _ | with_reducible exact keepsRes_refused _ | intro _
      | dsimp only

theorem keeps_execPpsInPulse (a0) (a1) (h1 : Keeps q a1) : KeepsRes q (Sys2Proof.Machine.execPpsInPulse a0 a1) := by
  unfold Sys2Proof.Machine.execPpsInPulse
  repeat'
      first
      | with_reducible assumption | with_reducible apply keeps_acceptPps | with_reducible apply keeps_bump
      | with_reducible apply keepsRes_next | with_reducible exact keepsRes_fault _ | with_reducible exact keepsRes_refused _
      | with_reducible apply keepsOpt_some | with_reducible exact keepsOpt_none | with_reducible apply keepsRes_ite
      | with_reducible apply keeps_ite_keep | intro _ | split | dsimp only | (fail_if_no_progress with_reducible apply keeps_mk)

theorem keeps_activateTable (a0) (a1) (h0 : Keeps q a0) : Keeps q (Sys2Proof.Machine.activateTable a0 a1).2 := by
  unfold Sys2Proof.Machine.activateTable
  repeat'
      first
      | with_reducible assumption | with_reducible apply keeps_ite_keep | intro _ | split | dsimp only
      | (fail_if_no_progress with_reducible apply keeps_mk)

theorem keeps_makeBoundary (a0) (a1) (a2) (h0 : Keeps q a0) : Keeps q (Sys2Proof.Machine.makeBoundary a0 a1 a2) := by
  unfold Sys2Proof.Machine.makeBoundary
  repeat'
      first
      | with_reducible assumption | with_reducible apply keeps_overrunEntries | with_reducible apply keeps_emit
      | with_reducible apply keeps_bump | with_reducible apply keeps_raiseLocal | with_reducible apply keeps_rephase
      | with_reducible apply keeps_dset | with_reducible apply keeps_dsetStored | with_reducible apply keeps_ite_keep | intro _ | split
      | dsimp only | (fail_if_no_progress with_reducible apply keeps_mk) | with_reducible refine keeps_of_fst ?_ (by assumption)
      | with_reducible refine keeps_of_snd ?_ (by assumption) | with_reducible refine keeps_of_snd2 ?_ (by assumption)
      | with_reducible refine keeps_of_some ?_ (by assumption) | with_reducible refine keeps_of_next ?_ (by assumption)

theorem keeps_execScheduleActivate (a0) (a1) (h1 : Keeps q a1) : KeepsRes q (Sys2Proof.Machine.execScheduleActivate a0 a1) := by
  unfold Sys2Proof.Machine.execScheduleActivate
  repeat'
      first
      | with_reducible assumption | with_reducible apply keeps_activateTable | with_reducible apply keeps_dictAnswer
      | with_reducible apply keepsRes_next | with_reducible exact keepsRes_fault _ | with_reducible exact keepsRes_refused _ | intro _
      | split | dsimp only | with_reducible refine keeps_of_fst ?_ (by assumption) | with_reducible refine keeps_of_snd ?_ (by assumption)
      | with_reducible refine keeps_of_snd2 ?_ (by assumption) | with_reducible refine keeps_of_some ?_ (by assumption)
      | with_reducible refine keeps_of_next ?_ (by assumption)

theorem keeps_lockedEdge (a0) (a1) (h0 : Keeps q a0) : Keeps q (Sys2Proof.Machine.lockedEdge a0 a1) := by
  unfold Sys2Proof.Machine.lockedEdge
  repeat'
      first
      | with_reducible assumption | with_reducible apply keeps_makeBoundary | with_reducible apply keeps_ite_keep | intro _ | split
      | dsimp only | (fail_if_no_progress with_reducible apply keeps_mk)

theorem keeps_newLock (a0) (a1) (h0 : Keeps q a0) : Keeps q (Sys2Proof.Machine.newLock a0 a1) := by
  unfold Sys2Proof.Machine.newLock
  repeat'
      first
      | with_reducible assumption | with_reducible apply keeps_bump | with_reducible apply keeps_makeBoundary
      | with_reducible apply keeps_dset | with_reducible apply keeps_ite_keep | intro _ | split | dsimp only
      | (fail_if_no_progress with_reducible apply keeps_mk)

theorem keeps_execCadenceEdgeMissed (a0) (h0 : Keeps q a0) : KeepsRes q (Sys2Proof.Machine.execCadenceEdgeMissed a0) := by
  unfold Sys2Proof.Machine.execCadenceEdgeMissed
  repeat'
      first
      | with_reducible assumption | with_reducible apply keeps_bump | with_reducible apply keeps_makeBoundary
      | with_reducible apply keeps_dset | with_reducible apply keepsRes_next | with_reducible exact keepsRes_fault _
      | with_reducible exact keepsRes_refused _ | with_reducible apply keepsRes_ite | with_reducible apply keeps_ite_keep | intro _ | split
      | dsimp only | (fail_if_no_progress with_reducible apply keeps_mk)

theorem keeps_execCadenceBoundary (a0) (h0 : Keeps q a0) : KeepsRes q (Sys2Proof.Machine.execCadenceBoundary a0) := by
  unfold Sys2Proof.Machine.execCadenceBoundary
  repeat'
      first
      | with_reducible assumption | with_reducible apply keeps_makeBoundary | with_reducible apply keepsRes_next
      | with_reducible exact keepsRes_fault _ | with_reducible exact keepsRes_refused _ | with_reducible apply keepsRes_ite
      | with_reducible apply keeps_ite_keep | intro _ | split | dsimp only

theorem keeps_lockingEdge (a0) (a1) (h0 : Keeps q a0) : Keeps q (Sys2Proof.Machine.lockingEdge a0 a1) := by
  unfold Sys2Proof.Machine.lockingEdge
  repeat'
      first
      | with_reducible assumption | with_reducible apply keeps_newLock | with_reducible apply keeps_ite_keep | intro _ | split
      | dsimp only | (fail_if_no_progress with_reducible apply keeps_mk) | with_reducible refine keeps_of_fst ?_ (by assumption)
      | with_reducible refine keeps_of_snd ?_ (by assumption) | with_reducible refine keeps_of_snd2 ?_ (by assumption)
      | with_reducible refine keeps_of_some ?_ (by assumption) | with_reducible refine keeps_of_next ?_ (by assumption)

theorem keeps_execCadenceInEdge (a0) (a1) (h1 : Keeps q a1) : KeepsRes q (Sys2Proof.Machine.execCadenceInEdge a0 a1) := by
  unfold Sys2Proof.Machine.execCadenceInEdge
  repeat'
      first
      | with_reducible assumption | with_reducible apply keeps_lockedEdge | with_reducible apply keeps_lockingEdge
      | with_reducible apply keepsRes_next | with_reducible exact keepsRes_fault _ | with_reducible exact keepsRes_refused _
      | with_reducible apply keepsRes_ite | with_reducible apply keeps_ite_keep | intro _ | split | dsimp only

end Sys2Proof.Laws
end

