-- ==== Sys2Proof/Laws/KeepsFabric.lean ====
section
/-!
SUPPORT. What each operation keeps, over the fabric, the collectives and the tandem: the queue of waiting commands and the canonical form of every memory.
-/

set_option linter.all false
set_option Elab.async false
set_option maxRecDepth 4000

namespace Sys2Proof.Laws

open Sys2Proof Sys2Proof.Machine

variable {q : List Instr}

/-! ## Fabric -/

theorem keeps_dropOp (a0) (a1) (h0 : Keeps q a0) : Keeps q (Sys2Proof.Machine.dropOp a0 a1) := by
  unfold Sys2Proof.Machine.dropOp
  repeat' first | with_reducible assumption | intro _ | dsimp only | (fail_if_no_progress with_reducible apply keeps_mk)

theorem keeps_withPacket (a0) (a1) (a2) (h0 : Keeps q a0) (h2 : ∀ x0 x1, Keeps q x1 → Keeps q (a2 x0 x1)) : KeepsRes q (Sys2Proof.Machine.withPacket a0 a1 a2) := by
  unfold Sys2Proof.Machine.withPacket
  repeat'
      first
      | with_reducible assumption | with_reducible apply h2 | with_reducible apply keepsRes_next | with_reducible exact keepsRes_fault _
      | with_reducible exact keepsRes_refused _ | with_reducible apply keepsRes_ite | with_reducible apply keeps_ite_keep | intro _ | split
      | dsimp only | (fail_if_no_progress with_reducible apply keeps_mk) | with_reducible refine keeps_of_fst ?_ (by assumption)
      | with_reducible refine keeps_of_snd ?_ (by assumption) | with_reducible refine keeps_of_snd2 ?_ (by assumption)
      | with_reducible refine keeps_of_some ?_ (by assumption) | with_reducible refine keeps_of_next ?_ (by assumption)

theorem keeps_serveAck (a0) (a1) (h1 : Keeps q a1) : Keeps q (Sys2Proof.Machine.serveAck a0 a1) := by
  unfold Sys2Proof.Machine.serveAck
  repeat'
      first
      | with_reducible assumption | with_reducible apply keeps_dropOp | with_reducible apply keeps_ite_keep | intro _ | split
      | dsimp only | (fail_if_no_progress with_reducible apply keeps_mk) | with_reducible refine keeps_of_fst ?_ (by assumption)
      | with_reducible refine keeps_of_snd ?_ (by assumption) | with_reducible refine keeps_of_snd2 ?_ (by assumption)
      | with_reducible refine keeps_of_some ?_ (by assumption) | with_reducible refine keeps_of_next ?_ (by assumption)

theorem keeps_putLinks (a0) (a1) (a2) (a3) (a4) (h0 : Keeps q a0) : Keeps q (Sys2Proof.Machine.putLinks a0 a1 a2 a3 a4) := by
  unfold Sys2Proof.Machine.putLinks
  repeat'
      first
      | with_reducible assumption | with_reducible apply keeps_dset | with_reducible refine keepsOpt_map (fun _ => ?_)
      | with_reducible apply keeps_ite_keep | intro _ | split | dsimp only | (fail_if_no_progress with_reducible apply keeps_mk)

theorem keeps_ackReplay (a0) (a1) (a2) (h0 : Keeps q a0) : Keeps q (Sys2Proof.Machine.ackReplay a0 a1 a2) := by
  unfold Sys2Proof.Machine.ackReplay
  repeat'
      first
      | with_reducible assumption | with_reducible apply keeps_State_updPort | intro _ | split | dsimp only
      | (fail_if_no_progress with_reducible apply keeps_mk) | with_reducible refine keeps_of_fst ?_ (by assumption)
      | with_reducible refine keeps_of_snd ?_ (by assumption) | with_reducible refine keeps_of_snd2 ?_ (by assumption)
      | with_reducible refine keeps_of_some ?_ (by assumption) | with_reducible refine keeps_of_next ?_ (by assumption)

theorem keeps_updMoveRun (a0) (a1) (a2) (h0 : Keeps q a0) : Keeps q (Sys2Proof.Machine.updMoveRun a0 a1 a2) := by
  unfold Sys2Proof.Machine.updMoveRun
  repeat'
      first
      | with_reducible assumption | with_reducible apply keeps_State_updMover | with_reducible refine keepsOpt_map (fun _ => ?_)
      | intro _ | dsimp only | (fail_if_no_progress with_reducible apply keeps_mk)

theorem keeps_execAck (a0) (h0 : Keeps q a0) : KeepsRes q (Sys2Proof.Machine.execAck a0) := by
  unfold Sys2Proof.Machine.execAck
  repeat'
      first
      | with_reducible assumption | with_reducible apply keeps_serveAck | with_reducible apply keeps_withPacket
      | with_reducible apply keepsRes_next | with_reducible exact keepsRes_fault _ | with_reducible exact keepsRes_refused _ | intro _
      | dsimp only

theorem keeps_execNakReceive (a0) (a1) (a2) (h2 : Keeps q a2) : KeepsRes q (Sys2Proof.Machine.execNakReceive a0 a1 a2) := by
  unfold Sys2Proof.Machine.execNakReceive
  repeat'
      first
      | with_reducible assumption | with_reducible apply keeps_ackReplay | with_reducible apply keeps_State_updPort
      | with_reducible apply keeps_emit | with_reducible apply keeps_bump | with_reducible apply keepsRes_next
      | with_reducible exact keepsRes_fault _ | with_reducible exact keepsRes_refused _ | with_reducible refine keepsOpt_map (fun _ => ?_)
      | with_reducible apply keeps_foldl | with_reducible apply keeps_foldl_fst | with_reducible apply keeps_foldl_snd
      | with_reducible apply keeps_foldl_snd2 | with_reducible apply keepsRes_ite | with_reducible apply keeps_ite_keep | intro _ | split
      | dsimp only | (fail_if_no_progress with_reducible apply keeps_mk)

theorem keeps_serveRdata (a0) (a1) (h1 : Keeps q a1) : Keeps q (Sys2Proof.Machine.serveRdata a0 a1) := by
  unfold Sys2Proof.Machine.serveRdata
  repeat'
      first
      | with_reducible assumption | with_reducible apply keeps_dropOp | with_reducible apply keeps_updMoveRun
      | with_reducible refine keepsOpt_map (fun _ => ?_) | with_reducible apply keeps_getD | with_reducible apply keeps_ite_keep | intro _
      | split | dsimp only | (fail_if_no_progress with_reducible apply keeps_mk) | with_reducible refine keeps_of_fst ?_ (by assumption)
      | with_reducible refine keeps_of_snd ?_ (by assumption) | with_reducible refine keeps_of_snd2 ?_ (by assumption)
      | with_reducible refine keeps_of_some ?_ (by assumption) | with_reducible refine keeps_of_next ?_ (by assumption)

theorem keeps_failOp (a0) (a1) (a2) (a3) (h0 : Keeps q a0) : Keeps q (Sys2Proof.Machine.failOp a0 a1 a2 a3) := by
  unfold Sys2Proof.Machine.failOp
  repeat'
      first
      | with_reducible assumption | with_reducible apply keeps_dropOp | with_reducible apply keeps_updMoveRun | intro _ | dsimp only
      | (fail_if_no_progress with_reducible apply keeps_mk)

theorem keeps_execRdata (a0) (h0 : Keeps q a0) : KeepsRes q (Sys2Proof.Machine.execRdata a0) := by
  unfold Sys2Proof.Machine.execRdata
  repeat'
      first
      | with_reducible assumption | with_reducible apply keeps_withPacket | with_reducible apply keeps_serveRdata
      | with_reducible apply keepsRes_next | with_reducible exact keepsRes_fault _ | with_reducible exact keepsRes_refused _ | intro _
      | dsimp only

theorem keeps_execFabricRequestTimeout (a0) (a1) (h1 : Keeps q a1) : KeepsRes q (Sys2Proof.Machine.execFabricRequestTimeout a0 a1) := by
  unfold Sys2Proof.Machine.execFabricRequestTimeout
  repeat'
      first
      | with_reducible assumption | with_reducible apply keeps_failOp | with_reducible apply keepsRes_next
      | with_reducible exact keepsRes_fault _ | with_reducible exact keepsRes_refused _ | with_reducible apply keepsOpt_some
      | with_reducible exact keepsOpt_none | with_reducible apply keepsRes_ite | with_reducible apply keeps_ite_keep | intro _ | split
      | dsimp only | (fail_if_no_progress with_reducible apply keeps_mk) | with_reducible refine keeps_of_fst ?_ (by assumption)
      | with_reducible refine keeps_of_snd ?_ (by assumption) | with_reducible refine keeps_of_snd2 ?_ (by assumption)
      | with_reducible refine keeps_of_some ?_ (by assumption) | with_reducible refine keeps_of_next ?_ (by assumption)

theorem keeps_readCodes (a0) (a1) (h0 : Keeps q a0) : Keeps q (Sys2Proof.Machine.readCodes a0 a1).2.2 := by
  revert h0
  fun_induction Sys2Proof.Machine.readCodes a0 a1 <;> intros
  all_goals repeat'
      first
      | with_reducible assumption | with_reducible apply keeps_storedCode | with_reducible apply keeps_ite_keep | intro _ | split
      | dsimp only | with_reducible refine keeps_of_fst ?_ (by assumption) | with_reducible refine keeps_of_snd ?_ (by assumption)
      | with_reducible refine keeps_of_snd2 ?_ (by assumption) | with_reducible refine keeps_of_some ?_ (by assumption)
      | with_reducible refine keeps_of_next ?_ (by assumption) | apply_assumption

theorem keeps_resumePort (a0) (a1) (h0 : Keeps q a0) : Keeps q (Sys2Proof.Machine.resumePort a0 a1) := by
  unfold Sys2Proof.Machine.resumePort
  repeat'
      first
      | with_reducible assumption | with_reducible apply keeps_drainPort | with_reducible apply keeps_emit
      | with_reducible apply keeps_foldl | with_reducible apply keeps_foldl_fst | with_reducible apply keeps_foldl_snd
      | with_reducible apply keeps_foldl_snd2 | intro _ | dsimp only

theorem keeps_storeMarked (a0) (a1) (h0 : Keeps q a0) : Keeps q (Sys2Proof.Machine.storeMarked a0 a1).next := by
  revert h0
  fun_induction Sys2Proof.Machine.storeMarked a0 a1 <;> intros
  all_goals repeat'
      first
      | with_reducible assumption | with_reducible apply keeps_storeCode | with_reducible apply keeps_ite_keep | intro _ | split
      | dsimp only | (fail_if_no_progress with_reducible apply keeps_mk) | with_reducible refine keeps_of_fst ?_ (by assumption)
      | with_reducible refine keeps_of_snd ?_ (by assumption) | with_reducible refine keeps_of_snd2 ?_ (by assumption)
      | with_reducible refine keeps_of_some ?_ (by assumption) | with_reducible refine keeps_of_next ?_ (by assumption) | apply_assumption

theorem keeps_sendLinkState (a0) (a1) (a2) (a3) (a4) (a5) (h0 : Keeps q a0) : Keeps q (Sys2Proof.Machine.sendLinkState a0 a1 a2 a3 a4 a5) := by
  unfold Sys2Proof.Machine.sendLinkState
  repeat' first | with_reducible assumption | with_reducible apply keeps_transmit | with_reducible apply keeps_ite_keep | intro _ | split | dsimp only

theorem keeps_floodLinkState (a0) (a1) (a2) (a3) (a4) (a5) (h0 : Keeps q a0) : Keeps q (Sys2Proof.Machine.floodLinkState a0 a1 a2 a3 a4 a5) := by
  unfold Sys2Proof.Machine.floodLinkState
  repeat'
      first
      | with_reducible assumption | with_reducible apply keeps_sendLinkState | with_reducible apply keeps_foldl
      | with_reducible apply keeps_foldl_fst | with_reducible apply keeps_foldl_snd | with_reducible apply keeps_foldl_snd2
      | with_reducible apply keeps_ite_keep | intro _ | split | dsimp only

theorem keeps_changeOwnLinks (a0) (a1) (a2) (h0 : Keeps q a0) : Keeps q (Sys2Proof.Machine.changeOwnLinks a0 a1 a2) := by
  unfold Sys2Proof.Machine.changeOwnLinks
  repeat'
      first
      | with_reducible assumption | with_reducible apply keeps_floodLinkState | with_reducible apply keeps_putLinks
      | with_reducible apply keeps_ite_keep | intro _ | split | dsimp only

theorem keeps_sendNack (a0) (a1) (a2) (a3) (a4) (h0 : Keeps q a0) : Keeps q (Sys2Proof.Machine.sendNack a0 a1 a2 a3 a4) := by
  unfold Sys2Proof.Machine.sendNack
  repeat'
      first
      | with_reducible assumption | with_reducible apply keeps_sendPacket | with_reducible apply keeps_getD | intro _ | dsimp only
      | (fail_if_no_progress with_reducible apply keeps_mk)

theorem keeps_respond (a0) (a1) (a2) (a3) (a4) (h0 : Keeps q a0) : Keeps q (Sys2Proof.Machine.respond a0 a1 a2 a3 a4) := by
  unfold Sys2Proof.Machine.respond
  repeat'
      first
      | with_reducible assumption | with_reducible apply keeps_sendPacket | with_reducible apply keeps_getD | intro _ | dsimp only
      | (fail_if_no_progress with_reducible apply keeps_mk)

theorem keeps_serveNack (a0) (a1) (h1 : Keeps q a1) : Keeps q (Sys2Proof.Machine.serveNack a0 a1) := by
  unfold Sys2Proof.Machine.serveNack
  repeat'
      first
      | with_reducible assumption | with_reducible apply keeps_sendPacket | with_reducible apply keeps_failOp
      | with_reducible apply keeps_getD | with_reducible apply keeps_ite_keep | intro _ | split | dsimp only
      | (fail_if_no_progress with_reducible apply keeps_mk) | with_reducible refine keeps_of_fst ?_ (by assumption)
      | with_reducible refine keeps_of_snd ?_ (by assumption) | with_reducible refine keeps_of_snd2 ?_ (by assumption)
      | with_reducible refine keeps_of_some ?_ (by assumption) | with_reducible refine keeps_of_next ?_ (by assumption)

theorem keeps_execLinkstate (a0) (a1) (a2) (a3) (a4) (a5) (h5 : Keeps q a5) : KeepsRes q (Sys2Proof.Machine.execLinkstate a0 a1 a2 a3 a4 a5) := by
  unfold Sys2Proof.Machine.execLinkstate
  repeat'
      first
      | with_reducible assumption | with_reducible apply keeps_floodLinkState | with_reducible apply keeps_putLinks
      | with_reducible apply keepsRes_next | with_reducible exact keepsRes_fault _ | with_reducible exact keepsRes_refused _
      | with_reducible apply keepsRes_ite | with_reducible apply keeps_ite_keep | intro _ | split | dsimp only

theorem keeps_setPortState (a0) (a1) (a2) (h0 : Keeps q a0) : Keeps q (Sys2Proof.Machine.setPortState a0 a1 a2) := by
  unfold Sys2Proof.Machine.setPortState
  repeat'
      first
      | with_reducible assumption | with_reducible apply keeps_dset | with_reducible apply keeps_changeOwnLinks
      | with_reducible apply keeps_ite_keep | intro _ | split | dsimp only

theorem keeps_withRequest (a0) (a1) (a2) (h0 : Keeps q a0) (h2 : ∀ x0 x1, Keeps q x1 → Keeps q (a2 x0 x1)) : KeepsRes q (Sys2Proof.Machine.withRequest a0 a1 a2) := by
  unfold Sys2Proof.Machine.withRequest
  repeat'
      first
      | with_reducible assumption | with_reducible apply keeps_sendNack | with_reducible apply keeps_whenFree
      | with_reducible apply keeps_withPacket | with_reducible apply h2 | with_reducible apply keepsRes_next
      | with_reducible exact keepsRes_fault _ | with_reducible exact keepsRes_refused _ | with_reducible apply keepsRes_ite
      | with_reducible apply keeps_ite_keep | intro _ | split | dsimp only | (fail_if_no_progress with_reducible apply keeps_mk)
      | with_reducible refine keeps_of_fst ?_ (by assumption) | with_reducible refine keeps_of_snd ?_ (by assumption)
      | with_reducible refine keeps_of_snd2 ?_ (by assumption) | with_reducible refine keeps_of_some ?_ (by assumption)
      | with_reducible refine keeps_of_next ?_ (by assumption)

theorem keeps_packetArrives (a0) (a1) (a2) (a3) (h0 : Keeps q a0) : Keeps q (Sys2Proof.Machine.packetArrives a0 a1 a2 a3) := by
  unfold Sys2Proof.Machine.packetArrives
  repeat'
      first
      | with_reducible assumption | with_reducible apply keeps_sendNack | with_reducible apply keeps_sendOn
      | with_reducible apply keeps_ite_keep | intro _ | split | dsimp only | (fail_if_no_progress with_reducible apply keeps_mk)
      | with_reducible refine keeps_of_fst ?_ (by assumption) | with_reducible refine keeps_of_snd ?_ (by assumption)
      | with_reducible refine keeps_of_snd2 ?_ (by assumption) | with_reducible refine keeps_of_some ?_ (by assumption)
      | with_reducible refine keeps_of_next ?_ (by assumption)

theorem keeps_serveFabricWrite (a0) (a1) (h1 : Keeps q a1) : Keeps q (Sys2Proof.Machine.serveFabricWrite a0 a1) := by
  unfold Sys2Proof.Machine.serveFabricWrite
  repeat'
      first
      | with_reducible assumption | with_reducible apply keeps_storeMarked | with_reducible apply keeps_sendNack
      | with_reducible apply keeps_respond | with_reducible refine keepsOpt_map (fun _ => ?_) | with_reducible apply keeps_ite_keep
      | intro _ | split | dsimp only

theorem keeps_execNack (a0) (h0 : Keeps q a0) : KeepsRes q (Sys2Proof.Machine.execNack a0) := by
  unfold Sys2Proof.Machine.execNack
  repeat'
      first
      | with_reducible assumption | with_reducible apply keeps_serveNack | with_reducible apply keeps_withPacket
      | with_reducible apply keepsRes_next | with_reducible exact keepsRes_fault _ | with_reducible exact keepsRes_refused _ | intro _
      | dsimp only

theorem keeps_serveFabricRead (a0) (a1) (h1 : Keeps q a1) : Keeps q (Sys2Proof.Machine.serveFabricRead a0 a1) := by
  unfold Sys2Proof.Machine.serveFabricRead
  repeat'
      first
      | with_reducible assumption | with_reducible apply keeps_sendNack | with_reducible apply keeps_readCodes
      | with_reducible apply keeps_respond | with_reducible apply keeps_ite_keep | intro _ | split | dsimp only

theorem keeps_execQuarantineRelease (a0) (a1) (a2) (h2 : Keeps q a2) : KeepsRes q (Sys2Proof.Machine.execQuarantineRelease a0 a1 a2) := by
  unfold Sys2Proof.Machine.execQuarantineRelease
  repeat'
      first
      | with_reducible assumption | with_reducible apply keeps_setPortState | with_reducible apply keeps_emit
      | with_reducible apply keeps_dictAnswer | with_reducible apply keepsRes_next | with_reducible exact keepsRes_fault _
      | with_reducible exact keepsRes_refused _ | with_reducible apply keepsRes_ite | with_reducible apply keeps_ite_keep | intro _ | split
      | dsimp only

theorem keeps_execPortDownExpire (a0) (a1) (h1 : Keeps q a1) : KeepsRes q (Sys2Proof.Machine.execPortDownExpire a0 a1) := by
  unfold Sys2Proof.Machine.execPortDownExpire
  repeat'
      first
      | with_reducible assumption | with_reducible apply keeps_State_updPort | with_reducible apply keeps_setPortState
      | with_reducible apply keepsRes_next | with_reducible exact keepsRes_fault _ | with_reducible exact keepsRes_refused _
      | with_reducible apply keepsOpt_some | with_reducible exact keepsOpt_none | with_reducible apply keepsRes_ite
      | with_reducible apply keeps_ite_keep | intro _ | split | dsimp only | (fail_if_no_progress with_reducible apply keeps_mk)
      | with_reducible refine keeps_of_fst ?_ (by assumption) | with_reducible refine keeps_of_snd ?_ (by assumption)
      | with_reducible refine keeps_of_snd2 ?_ (by assumption) | with_reducible refine keeps_of_some ?_ (by assumption)
      | with_reducible refine keeps_of_next ?_ (by assumption)

theorem keeps_tandemPortBack (a0) (a1) (h0 : Keeps q a0) : Keeps q (Sys2Proof.Machine.tandemPortBack a0 a1) := by
  unfold Sys2Proof.Machine.tandemPortBack
  repeat'
      first
      | with_reducible assumption | with_reducible apply keeps_recoveryPathFault | with_reducible apply keeps_ite_keep | intro _ | split
      | dsimp only | (fail_if_no_progress with_reducible apply keeps_mk)

theorem keeps_tandemPortFault (a0) (a1) (h0 : Keeps q a0) : Keeps q (Sys2Proof.Machine.tandemPortFault a0 a1) := by
  unfold Sys2Proof.Machine.tandemPortFault
  repeat'
      first
      | with_reducible assumption | with_reducible apply keeps_recoveryPathFault | with_reducible apply keeps_ite_keep | intro _ | split
      | dsimp only | (fail_if_no_progress with_reducible apply keeps_mk)

theorem keeps_execFabricWrite (a0) (h0 : Keeps q a0) : KeepsRes q (Sys2Proof.Machine.execFabricWrite a0) := by
  unfold Sys2Proof.Machine.execFabricWrite
  repeat'
      first
      | with_reducible assumption | with_reducible apply keeps_serveFabricWrite | with_reducible apply keeps_withRequest
      | with_reducible apply keepsRes_next | with_reducible exact keepsRes_fault _ | with_reducible exact keepsRes_refused _ | intro _
      | dsimp only

theorem keeps_execFabricRead (a0) (h0 : Keeps q a0) : KeepsRes q (Sys2Proof.Machine.execFabricRead a0) := by
  unfold Sys2Proof.Machine.execFabricRead
  repeat'
      first
      | with_reducible assumption | with_reducible apply keeps_serveFabricRead | with_reducible apply keeps_withRequest
      | with_reducible apply keepsRes_next | with_reducible exact keepsRes_fault _ | with_reducible exact keepsRes_refused _ | intro _
      | dsimp only

theorem keeps_execPortRetrain (a0) (a1) (h1 : Keeps q a1) : KeepsRes q (Sys2Proof.Machine.execPortRetrain a0 a1) := by
  unfold Sys2Proof.Machine.execPortRetrain
  repeat'
      first
      | with_reducible assumption | with_reducible apply keeps_tandemPortFault | with_reducible apply keeps_State_updPort
      | with_reducible apply keeps_setPortState | with_reducible apply keeps_bump | with_reducible apply keepsRes_next
      | with_reducible exact keepsRes_fault _ | with_reducible exact keepsRes_refused _ | with_reducible apply keepsOpt_some
      | with_reducible exact keepsOpt_none | with_reducible refine keepsOpt_map (fun _ => ?_) | with_reducible apply keepsRes_ite
      | with_reducible apply keeps_ite_keep | intro _ | split | dsimp only | (fail_if_no_progress with_reducible apply keeps_mk)

theorem keeps_execPortTrained (a0) (a1) (a2) (a3) (a4) (a5) (a6) (a7) (h7 : Keeps q a7) : KeepsRes q (Sys2Proof.Machine.execPortTrained a0 a1 a2 a3 a4 a5 a6 a7) := by
  unfold Sys2Proof.Machine.execPortTrained
  repeat'
      first
      | with_reducible assumption | with_reducible apply keeps_dset | with_reducible apply keeps_resumePort
      | with_reducible apply keeps_setPortState | with_reducible apply keeps_tandemPortBack | with_reducible apply keepsRes_next
      | with_reducible exact keepsRes_fault _ | with_reducible exact keepsRes_refused _ | with_reducible apply keeps_getD
      | with_reducible apply keepsRes_ite | with_reducible apply keeps_ite_keep | intro _ | split | dsimp only
      | (fail_if_no_progress with_reducible apply keeps_mk)

theorem keeps_quarantine (a0) (a1) (h0 : Keeps q a0) : Keeps q (Sys2Proof.Machine.quarantine a0 a1) := by
  unfold Sys2Proof.Machine.quarantine
  repeat'
      first
      | with_reducible assumption | with_reducible apply keeps_tandemPortFault | with_reducible apply keeps_State_updPort
      | with_reducible apply keeps_setPortState | with_reducible apply keeps_recordFault | intro _ | dsimp only
      | (fail_if_no_progress with_reducible apply keeps_mk)

theorem keeps_execPortLossOfSignal (a0) (a1) (h1 : Keeps q a1) : KeepsRes q (Sys2Proof.Machine.execPortLossOfSignal a0 a1) := by
  unfold Sys2Proof.Machine.execPortLossOfSignal
  repeat'
      first
      | with_reducible assumption | with_reducible apply keeps_setPortState | with_reducible apply keeps_tandemPortFault
      | with_reducible apply keepsRes_next | with_reducible exact keepsRes_fault _ | with_reducible exact keepsRes_refused _
      | with_reducible apply keepsRes_ite | with_reducible apply keeps_ite_keep | intro _ | split | dsimp only

theorem keeps_violation (a0) (a1) (a2) (a3) (a4) (h0 : Keeps q a0) : Keeps q (Sys2Proof.Machine.violation a0 a1 a2 a3 a4) := by
  unfold Sys2Proof.Machine.violation
  repeat'
      first
      | with_reducible assumption | with_reducible apply keeps_State_updPort | with_reducible apply keeps_quarantine
      | with_reducible apply keeps_sendNack | with_reducible apply keeps_bump | with_reducible apply keeps_ite_keep | intro _ | split
      | dsimp only | (fail_if_no_progress with_reducible apply keeps_mk)

theorem keeps_joinFlit (a0) (a1) (a2) (a3) (a4) (a5) (h0 : Keeps q a0) : Keeps q (Sys2Proof.Machine.joinFlit a0 a1 a2 a3 a4 a5) := by
  unfold Sys2Proof.Machine.joinFlit
  repeat'
      first
      | with_reducible assumption | with_reducible apply keeps_State_updPort | with_reducible apply keeps_packetArrives
      | with_reducible apply keeps_violation | with_reducible refine keepsOpt_map (fun _ => ?_) | with_reducible apply keeps_ite_keep
      | intro _ | split | dsimp only | (fail_if_no_progress with_reducible apply keeps_mk)

theorem keeps_execFlitReceive (a0) (a1) (a2) (a3) (a4) (a5) (a6) (a7) (a8) (a9) (a10) (a11) (a12) (a13) (a14) (a15) (a16) (a17) (a18) (a19) (a20) (a21) (h21 : Keeps q a21) : KeepsRes q (Sys2Proof.Machine.execFlitReceive a0 a1 a2 a3 a4 a5 a6 a7 a8 a9 a10 a11 a12 a13 a14 a15 a16 a17 a18 a19 a20 a21) := by
  unfold Sys2Proof.Machine.execFlitReceive
  repeat'
      first
      | with_reducible assumption | with_reducible apply keeps_violation | with_reducible apply keeps_ackReplay
      | with_reducible apply keeps_joinFlit | with_reducible apply keeps_State_updPort | with_reducible apply keeps_drainPort
      | with_reducible apply keeps_emit | with_reducible apply keeps_bump | with_reducible apply keepsRes_next
      | with_reducible exact keepsRes_fault _ | with_reducible exact keepsRes_refused _ | with_reducible apply keepsRes_ite
      | with_reducible apply keeps_ite_keep | intro _ | split | dsimp only | (fail_if_no_progress with_reducible apply keeps_mk)

theorem keeps_addMarked (a0) (a1) (a2) (h0 : Keeps q a0) : Keeps q (Sys2Proof.Machine.addMarked a0 a1 a2).next := by
  revert h0
  fun_induction Sys2Proof.Machine.addMarked a0 a1 a2 <;> intros
  all_goals repeat'
      first
      | with_reducible assumption | with_reducible apply keeps_addRun | with_reducible apply keeps_storeCode
      | with_reducible apply keeps_getD | with_reducible apply keeps_ite_keep | intro _ | split | dsimp only
      | (fail_if_no_progress with_reducible apply keeps_mk) | with_reducible refine keeps_of_fst ?_ (by assumption)
      | with_reducible refine keeps_of_snd ?_ (by assumption) | with_reducible refine keeps_of_snd2 ?_ (by assumption)
      | with_reducible refine keeps_of_some ?_ (by assumption) | with_reducible refine keeps_of_next ?_ (by assumption) | apply_assumption

theorem keeps_serveFabricAdd (a0) (a1) (h1 : Keeps q a1) : Keeps q (Sys2Proof.Machine.serveFabricAdd a0 a1) := by
  unfold Sys2Proof.Machine.serveFabricAdd
  repeat'
      first
      | with_reducible assumption | with_reducible apply keeps_addMarked | with_reducible apply keeps_sendNack
      | with_reducible apply keeps_respond | with_reducible refine keepsOpt_map (fun _ => ?_) | with_reducible apply keeps_ite_keep
      | intro _ | split | dsimp only

theorem keeps_execFabricAdd (a0) (h0 : Keeps q a0) : KeepsRes q (Sys2Proof.Machine.execFabricAdd a0) := by
  unfold Sys2Proof.Machine.execFabricAdd
  repeat'
      first
      | with_reducible assumption | with_reducible apply keeps_serveFabricAdd | with_reducible apply keeps_withRequest
      | with_reducible apply keepsRes_next | with_reducible exact keepsRes_fault _ | with_reducible exact keepsRes_refused _ | intro _
      | dsimp only


/-! ## Collectives -/

theorem keeps_putColl (a0) (h0 : Keeps q a0.1) : Keeps q (Sys2Proof.Machine.putColl a0) := by
  unfold Sys2Proof.Machine.putColl
  repeat' first | with_reducible assumption | intro _ | dsimp only | (fail_if_no_progress with_reducible apply keeps_mk)

theorem keeps_storeResult (a0) (a1) (a2) (h0 : Keeps q a0) : Keeps q (Sys2Proof.Machine.storeResult a0 a1 a2).next := by
  revert h0
  fun_induction Sys2Proof.Machine.storeResult a0 a1 a2 <;> intros
  all_goals repeat'
      first
      | with_reducible assumption | with_reducible apply keeps_storeCode | with_reducible apply keeps_ite_keep | intro _ | split
      | dsimp only | (fail_if_no_progress with_reducible apply keeps_mk) | with_reducible refine keeps_of_fst ?_ (by assumption)
      | with_reducible refine keeps_of_snd ?_ (by assumption) | with_reducible refine keeps_of_snd2 ?_ (by assumption)
      | with_reducible refine keeps_of_some ?_ (by assumption) | with_reducible refine keeps_of_next ?_ (by assumption) | apply_assumption

theorem keeps_freeWords (a0) (a1) (a2) (h0 : Keeps q a0) : Keeps q (Sys2Proof.Machine.freeWords a0 a1 a2) := by
  revert h0
  fun_induction Sys2Proof.Machine.freeWords a0 a1 a2 <;> intros
  all_goals repeat'
      first
      | with_reducible assumption | with_reducible apply keeps_storeCode | with_reducible apply keeps_freeValue | intro _ | split
      | dsimp only | with_reducible refine keeps_of_fst ?_ (by assumption) | with_reducible refine keeps_of_snd ?_ (by assumption)
      | with_reducible refine keeps_of_snd2 ?_ (by assumption) | with_reducible refine keeps_of_some ?_ (by assumption)
      | with_reducible refine keeps_of_next ?_ (by assumption) | apply_assumption

theorem keeps_collSend (a0) (a1) (a2) (h0 : Keeps q a0) : Keeps q (Sys2Proof.Machine.collSend a0 a1 a2) := by
  unfold Sys2Proof.Machine.collSend
  refine keeps_foldl _ _ h0 (fun t b ht => keeps_ite (fun _ => ht) (fun _ => ?_))
  exact keeps_foldl _ _ ht (fun t b ht => keeps_getD (keeps_sendPacket _ _ ht) ht)

theorem keeps_execCollPost (a0) (a1) (a2) (a3) (a4) (h4 : Keeps q a4) : KeepsRes q (Sys2Proof.Machine.execCollPost a0 a1 a2 a3 a4) := by
  unfold Sys2Proof.Machine.execCollPost
  repeat'
      first
      | with_reducible assumption | with_reducible apply keeps_badPostColl | with_reducible apply keeps_postBurst
      | with_reducible apply keepsRes_next | with_reducible exact keepsRes_fault _ | with_reducible exact keepsRes_refused _
      | with_reducible apply keepsRes_ite | with_reducible apply keeps_ite_keep | intro _ | split | dsimp only
      | (fail_if_no_progress with_reducible apply keeps_mk)

theorem keeps_contribute (a0) (a1) (a2) (h0 : Keeps q a0) : Keeps q (Sys2Proof.Machine.contribute a0 a1 a2).1 := by
  unfold Sys2Proof.Machine.contribute
  repeat'
      first
      | with_reducible assumption | with_reducible apply keeps_loadBytes | with_reducible apply keeps_collSend
      | with_reducible refine keepsOpt_map (fun _ => ?_) | with_reducible apply keeps_getD | with_reducible apply keeps_ite_keep | intro _
      | split | dsimp only | (fail_if_no_progress with_reducible apply keeps_mk)

theorem keeps_collHear (a0) (a1) (a2) (h0 : Keeps q a0) : Keeps q (Sys2Proof.Machine.collHear a0 a1 a2).1 := by
  unfold Sys2Proof.Machine.collHear
  repeat'
      first
      | with_reducible assumption | with_reducible apply keeps_contribute | with_reducible apply keeps_ite_keep | intro _ | split
      | dsimp only | (fail_if_no_progress with_reducible apply keeps_mk) | with_reducible refine keeps_of_fst ?_ (by assumption)
      | with_reducible refine keeps_of_snd ?_ (by assumption) | with_reducible refine keeps_of_snd2 ?_ (by assumption)
      | with_reducible refine keeps_of_some ?_ (by assumption) | with_reducible refine keeps_of_next ?_ (by assumption)

theorem keeps_beginColl (a0) (a1) (h0 : Keeps q a0) : Keeps q (Sys2Proof.Machine.beginColl a0 a1) := by
  unfold Sys2Proof.Machine.beginColl
  repeat'
      first
      | with_reducible assumption | with_reducible apply keeps_collHear | with_reducible apply keeps_collSend
      | with_reducible apply keeps_putColl | with_reducible apply keeps_foldl | with_reducible apply keeps_foldl_fst
      | with_reducible apply keeps_foldl_snd | with_reducible apply keeps_foldl_snd2 | intro _ | dsimp only
      | (fail_if_no_progress with_reducible apply keeps_mk)

theorem keeps_execCollMessage (a0) (a1) (a2) (a3) (a4) (a5) (h5 : Keeps q a5) : KeepsRes q (Sys2Proof.Machine.execCollMessage a0 a1 a2 a3 a4 a5) := by
  unfold Sys2Proof.Machine.execCollMessage
  repeat'
      first
      | with_reducible assumption | with_reducible apply keeps_collHear | with_reducible apply keeps_putColl
      | with_reducible apply keepsRes_next | with_reducible exact keepsRes_fault _ | with_reducible exact keepsRes_refused _
      | with_reducible apply keepsOpt_some | with_reducible exact keepsOpt_none | with_reducible apply keepsRes_ite
      | with_reducible apply keeps_ite_keep | intro _ | split | dsimp only | (fail_if_no_progress with_reducible apply keeps_mk)
      | with_reducible refine keeps_of_fst ?_ (by assumption) | with_reducible refine keeps_of_snd ?_ (by assumption)
      | with_reducible refine keeps_of_snd2 ?_ (by assumption) | with_reducible refine keeps_of_some ?_ (by assumption)
      | with_reducible refine keeps_of_next ?_ (by assumption)

theorem keeps_completeColl (a0) (a1) (a2) (a3) (a4) (h0 : Keeps q a0) : Keeps q (Sys2Proof.Machine.completeColl a0 a1 a2 a3 a4) := by
  unfold Sys2Proof.Machine.completeColl
  repeat'
      first
      | with_reducible assumption | with_reducible apply keeps_completeEntry | with_reducible apply keeps_storeBytes
      | with_reducible apply keeps_ite_keep | intro _ | split | dsimp only | (fail_if_no_progress with_reducible apply keeps_mk)

theorem keeps_startColl (a0) (a1) (h1 : Keeps q a1) : KeepsRes q (Sys2Proof.Machine.startColl a0 a1) := by
  unfold Sys2Proof.Machine.startColl
  repeat'
      first
      | with_reducible assumption | with_reducible apply keeps_beginColl | with_reducible apply keeps_completeColl
      | with_reducible apply keepsRes_next | with_reducible exact keepsRes_fault _ | with_reducible exact keepsRes_refused _
      | with_reducible apply keepsOpt_some | with_reducible exact keepsOpt_none | with_reducible apply keepsRes_ite
      | with_reducible apply keeps_ite_keep | intro _ | split | dsimp only | (fail_if_no_progress with_reducible apply keeps_mk)
      | with_reducible refine keeps_of_fst ?_ (by assumption) | with_reducible refine keeps_of_snd ?_ (by assumption)
      | with_reducible refine keeps_of_snd2 ?_ (by assumption) | with_reducible refine keeps_of_some ?_ (by assumption)
      | with_reducible refine keeps_of_next ?_ (by assumption)

theorem keeps_execCollTimeout (a0) (h0 : Keeps q a0) : KeepsRes q (Sys2Proof.Machine.execCollTimeout a0) := by
  unfold Sys2Proof.Machine.execCollTimeout
  repeat'
      first
      | with_reducible assumption | with_reducible apply keeps_freeWords | with_reducible apply keeps_completeColl
      | with_reducible apply keepsRes_next | with_reducible exact keepsRes_fault _ | with_reducible exact keepsRes_refused _
      | with_reducible apply keepsOpt_some | with_reducible exact keepsOpt_none | with_reducible apply keepsRes_ite
      | with_reducible apply keeps_ite_keep | intro _ | split | dsimp only | (fail_if_no_progress with_reducible apply keeps_mk)
      | with_reducible refine keeps_of_fst ?_ (by assumption) | with_reducible refine keeps_of_snd ?_ (by assumption)
      | with_reducible refine keeps_of_snd2 ?_ (by assumption) | with_reducible refine keeps_of_some ?_ (by assumption)
      | with_reducible refine keeps_of_next ?_ (by assumption)

theorem keeps_execCollComplete (a0) (h0 : Keeps q a0) : KeepsRes q (Sys2Proof.Machine.execCollComplete a0) := by
  unfold Sys2Proof.Machine.execCollComplete
  repeat'
      first
      | with_reducible assumption | with_reducible apply keeps_storeResult | with_reducible apply keeps_completeColl
      | with_reducible apply keepsRes_next | with_reducible exact keepsRes_fault _ | with_reducible exact keepsRes_refused _
      | with_reducible apply keepsOpt_some | with_reducible exact keepsOpt_none | with_reducible apply keeps_getD
      | with_reducible apply keepsRes_ite | with_reducible apply keeps_ite_keep | intro _ | split | dsimp only
      | (fail_if_no_progress with_reducible apply keeps_mk) | with_reducible refine keeps_of_fst ?_ (by assumption)
      | with_reducible refine keeps_of_snd ?_ (by assumption) | with_reducible refine keeps_of_snd2 ?_ (by assumption)
      | with_reducible refine keeps_of_some ?_ (by assumption) | with_reducible refine keeps_of_next ?_ (by assumption)

theorem keeps_execReducescatter (a0) (h0 : Keeps q a0) : KeepsRes q (Sys2Proof.Machine.execReducescatter a0) := by
  unfold Sys2Proof.Machine.execReducescatter
  repeat'
      first
      | with_reducible assumption | with_reducible apply keeps_startColl | with_reducible apply keepsRes_next
      | with_reducible exact keepsRes_fault _ | with_reducible exact keepsRes_refused _ | intro _ | dsimp only

theorem keeps_execAllreduce (a0) (h0 : Keeps q a0) : KeepsRes q (Sys2Proof.Machine.execAllreduce a0) := by
  unfold Sys2Proof.Machine.execAllreduce
  repeat'
      first
      | with_reducible assumption | with_reducible apply keeps_startColl | with_reducible apply keepsRes_next
      | with_reducible exact keepsRes_fault _ | with_reducible exact keepsRes_refused _ | intro _ | dsimp only

theorem keeps_execAllgather (a0) (h0 : Keeps q a0) : KeepsRes q (Sys2Proof.Machine.execAllgather a0) := by
  unfold Sys2Proof.Machine.execAllgather
  repeat'
      first
      | with_reducible assumption | with_reducible apply keeps_startColl | with_reducible apply keepsRes_next
      | with_reducible exact keepsRes_fault _ | with_reducible exact keepsRes_refused _ | intro _ | dsimp only

theorem keeps_execBroadcast (a0) (h0 : Keeps q a0) : KeepsRes q (Sys2Proof.Machine.execBroadcast a0) := by
  unfold Sys2Proof.Machine.execBroadcast
  repeat'
      first
      | with_reducible assumption | with_reducible apply keeps_startColl | with_reducible apply keepsRes_next
      | with_reducible exact keepsRes_fault _ | with_reducible exact keepsRes_refused _ | intro _ | dsimp only


/-! ## Tandem -/

theorem keeps_startPromotion (a0) (h0 : Keeps q a0) : Keeps q (Sys2Proof.Machine.startPromotion a0) := by
  unfold Sys2Proof.Machine.startPromotion
  repeat' first | with_reducible assumption | intro _ | dsimp only | (fail_if_no_progress with_reducible apply keeps_mk)

theorem keeps_takeMirrorHandover (a0) (a1) (h1 : Keeps q a1) : Keeps q (Sys2Proof.Machine.takeMirrorHandover a0 a1) := by
  unfold Sys2Proof.Machine.takeMirrorHandover
  repeat'
      first
      | with_reducible assumption | with_reducible apply keeps_ite_keep | intro _ | split | dsimp only
      | (fail_if_no_progress with_reducible apply keeps_mk)

theorem keeps_noteHeart (a0) (a1) (a2) (a3) (h0 : Keeps q a0) : Keeps q (Sys2Proof.Machine.noteHeart a0 a1 a2 a3) := by
  unfold Sys2Proof.Machine.noteHeart
  repeat' first | with_reducible assumption | intro _ | dsimp only | (fail_if_no_progress with_reducible apply keeps_mk)

theorem keeps_execPairKeyAgree (a0) (a1) (a2) (a3) (a4) (h4 : Keeps q a4) : KeepsRes q (Sys2Proof.Machine.execPairKeyAgree a0 a1 a2 a3 a4) := by
  unfold Sys2Proof.Machine.execPairKeyAgree
  repeat'
      first
      | with_reducible assumption | with_reducible apply keeps_emit | with_reducible apply keepsRes_next
      | with_reducible exact keepsRes_fault _ | with_reducible exact keepsRes_refused _ | with_reducible apply keepsRes_ite
      | with_reducible apply keeps_ite_keep | intro _ | split | dsimp only | (fail_if_no_progress with_reducible apply keeps_mk)

theorem keeps_countShadows (a0) (h0 : Keeps q a0) : Keeps q (Sys2Proof.Machine.countShadows a0) := by
  unfold Sys2Proof.Machine.countShadows
  repeat' first | with_reducible assumption | with_reducible apply keeps_dset | with_reducible apply keeps_ite_keep | intro _ | split | dsimp only

theorem keeps_shadowReq (a0) (a1) (h0 : Keeps q a0) : Keeps q (Sys2Proof.Machine.shadowReq a0 a1) := by
  unfold Sys2Proof.Machine.shadowReq
  repeat'
      first
      | with_reducible assumption | with_reducible apply keeps_State_updReq | with_reducible apply keeps_unreserveRing
      | with_reducible apply keeps_ite_keep | intro _ | split | dsimp only | (fail_if_no_progress with_reducible apply keeps_mk)

theorem keeps_takeMirrorTime (a0) (a1) (a2) (a3) (a4) (a5) (h5 : Keeps q a5) : Keeps q (Sys2Proof.Machine.takeMirrorTime a0 a1 a2 a3 a4 a5) := by
  unfold Sys2Proof.Machine.takeMirrorTime
  repeat'
      first
      | with_reducible assumption | with_reducible apply keeps_dset | with_reducible apply keeps_setQuality
      | with_reducible apply keeps_ite_keep | intro _ | split | dsimp only | (fail_if_no_progress with_reducible apply keeps_mk)

theorem keeps_unpair (a0) (a1) (h0 : Keeps q a0) : Keeps q (Sys2Proof.Machine.unpair a0 a1) := by
  unfold Sys2Proof.Machine.unpair
  repeat' first | with_reducible assumption | with_reducible apply keeps_setPair | with_reducible apply keeps_dset | intro _ | dsimp only

theorem keeps_settleActive (a0) (h0 : Keeps q a0) : Keeps q (Sys2Proof.Machine.settleActive a0) := by
  unfold Sys2Proof.Machine.settleActive
  repeat'
      first
      | with_reducible assumption | with_reducible apply keeps_countShadows | with_reducible apply keeps_setPair
      | with_reducible apply keeps_ite_keep | intro _ | split | dsimp only

theorem keeps_ackMirror (a0) (a1) (a2) (h0 : Keeps q a0) : Keeps q (Sys2Proof.Machine.ackMirror a0 a1 a2) := by
  unfold Sys2Proof.Machine.ackMirror
  repeat' first | with_reducible assumption | with_reducible apply keeps_transmit | with_reducible apply keeps_ite_keep | intro _ | split | dsimp only

theorem keeps_enterSeeking (a0) (h0 : Keeps q a0) : Keeps q (Sys2Proof.Machine.enterSeeking a0) := by
  unfold Sys2Proof.Machine.enterSeeking
  repeat'
      first
      | with_reducible assumption | with_reducible apply keeps_unpair | intro _ | dsimp only
      | (fail_if_no_progress with_reducible apply keeps_mk)

theorem keeps_withMirror (a0) (a1) (a2) (h0 : Keeps q a0) (h2 : ∀ x0, Keeps q x0 → Keeps q (a2 x0)) : KeepsRes q (Sys2Proof.Machine.withMirror a0 a1 a2) := by
  unfold Sys2Proof.Machine.withMirror
  repeat'
      first
      | with_reducible assumption | with_reducible apply keeps_settleActive | with_reducible apply h2
      | with_reducible apply keepsRes_next | with_reducible exact keepsRes_fault _ | with_reducible exact keepsRes_refused _
      | with_reducible apply keepsRes_ite | with_reducible apply keeps_ite_keep | intro _ | split | dsimp only
      | (fail_if_no_progress with_reducible apply keeps_mk)

theorem keeps_applyTandemEnable (a0) (a1) (h0 : Keeps q a0) : Keeps q (Sys2Proof.Machine.applyTandemEnable a0 a1) := by
  unfold Sys2Proof.Machine.applyTandemEnable
  repeat'
      first
      | with_reducible assumption | with_reducible apply keeps_dset | with_reducible apply keeps_unpair
      | with_reducible apply keeps_enterSeeking | with_reducible apply keeps_ite_keep | intro _ | split | dsimp only

theorem keeps_catchUp (a0) (a1) (a2) (h0 : Keeps q a0) : Keeps q (Sys2Proof.Machine.catchUp a0 a1 a2) := by
  unfold Sys2Proof.Machine.catchUp
  repeat'
      first
      | with_reducible assumption | with_reducible apply keeps_mirrorPosition | with_reducible apply keeps_foldl
      | with_reducible apply keeps_foldl_fst | with_reducible apply keeps_foldl_snd | with_reducible apply keeps_foldl_snd2 | intro _
      | dsimp only

theorem keeps_execMirrorTime (a0) (a1) (a2) (a3) (a4) (a5) (a6) (h6 : Keeps q a6) : KeepsRes q (Sys2Proof.Machine.execMirrorTime a0 a1 a2 a3 a4 a5 a6) := by
  unfold Sys2Proof.Machine.execMirrorTime
  repeat'
      first
      | with_reducible assumption | with_reducible apply keeps_withMirror | with_reducible apply keeps_takeMirrorTime
      | with_reducible apply keepsRes_next | with_reducible exact keepsRes_fault _ | with_reducible exact keepsRes_refused _ | intro _
      | dsimp only

theorem keeps_execMirrorHandover (a0) (a1) (a2) (h2 : Keeps q a2) : KeepsRes q (Sys2Proof.Machine.execMirrorHandover a0 a1 a2) := by
  unfold Sys2Proof.Machine.execMirrorHandover
  repeat'
      first
      | with_reducible assumption | with_reducible apply keeps_withMirror | with_reducible apply keeps_takeMirrorHandover
      | with_reducible apply keepsRes_next | with_reducible exact keepsRes_fault _ | with_reducible exact keepsRes_refused _ | intro _
      | dsimp only

theorem keeps_execHeartSend (a0) (h0 : Keeps q a0) : KeepsRes q (Sys2Proof.Machine.execHeartSend a0) := by
  unfold Sys2Proof.Machine.execHeartSend
  repeat'
      first
      | with_reducible assumption | with_reducible apply keeps_mirror | with_reducible apply keeps_transmit
      | with_reducible apply keepsRes_next | with_reducible exact keepsRes_fault _ | with_reducible exact keepsRes_refused _
      | with_reducible apply keeps_foldl | with_reducible apply keeps_foldl_fst | with_reducible apply keeps_foldl_snd
      | with_reducible apply keeps_foldl_snd2 | with_reducible apply keepsRes_ite | with_reducible apply keeps_ite_keep | intro _ | split
      | dsimp only | (fail_if_no_progress with_reducible apply keeps_mk)

theorem keeps_execRejoin (a0) (h0 : Keeps q a0) : KeepsRes q (Sys2Proof.Machine.execRejoin a0) := by
  unfold Sys2Proof.Machine.execRejoin
  repeat'
      first
      | with_reducible assumption | with_reducible apply keeps_enterSeeking | with_reducible apply keeps_legalOr
      | with_reducible apply keepsRes_next | with_reducible exact keepsRes_fault _ | with_reducible exact keepsRes_refused _ | intro _
      | dsimp only

theorem keeps_execHeartbeatTimeout (a0) (h0 : Keeps q a0) : KeepsRes q (Sys2Proof.Machine.execHeartbeatTimeout a0) := by
  unfold Sys2Proof.Machine.execHeartbeatTimeout
  repeat'
      first
      | with_reducible assumption | with_reducible apply keeps_setPortState | with_reducible apply keeps_tandemPortFault
      | with_reducible apply keeps_bump | with_reducible apply keepsRes_next | with_reducible exact keepsRes_fault _
      | with_reducible exact keepsRes_refused _ | with_reducible apply keepsRes_ite | with_reducible apply keeps_ite_keep | intro _ | split
      | dsimp only

theorem keeps_moveReq (a0) (a1) (h0 : Keeps q a0) : Keeps q (Sys2Proof.Machine.moveReq a0 a1) := by
  unfold Sys2Proof.Machine.moveReq
  repeat'
      first
      | with_reducible assumption | with_reducible apply keeps_mirrorAdmit | with_reducible apply keeps_State_setReq
      | with_reducible refine keepsOpt_map (fun _ => ?_) | with_reducible apply keeps_ite_keep | intro _ | split | dsimp only
      | (fail_if_no_progress with_reducible apply keeps_mk) | with_reducible refine keeps_of_fst ?_ (by assumption)
      | with_reducible refine keeps_of_snd ?_ (by assumption) | with_reducible refine keeps_of_snd2 ?_ (by assumption)
      | with_reducible refine keeps_of_some ?_ (by assumption) | with_reducible refine keeps_of_next ?_ (by assumption)

theorem keeps_shadowPage (a0) (a1) (a2) (a3) (a4) (a5) (h0 : Keeps q a0) : KeepsOpt q (Sys2Proof.Machine.shadowPage a0 a1 a2 a3 a4 a5) := by
  unfold Sys2Proof.Machine.shadowPage
  repeat'
      first
      | with_reducible assumption | with_reducible apply keeps_copyPage | with_reducible apply keeps_allocPage
      | with_reducible apply keeps_svcSee | with_reducible apply keeps_writeEntry | with_reducible apply keepsOpt_some
      | with_reducible exact keepsOpt_none | with_reducible refine wf_stack (q := q) ?_ _ | with_reducible apply keepsOpt_ite
      | with_reducible apply keeps_ite_keep | with_reducible apply wf_ite | intro _ | split | dsimp only

theorem keeps_takeMirrorCutter (a0) (a1) (a2) (a3) (a4) (a5) (a6) (h6 : Keeps q a6) : Keeps q (Sys2Proof.Machine.takeMirrorCutter a0 a1 a2 a3 a4 a5 a6) := by
  unfold Sys2Proof.Machine.takeMirrorCutter
  repeat'
      first
      | with_reducible assumption | with_reducible apply keeps_ackMirror | with_reducible apply keeps_placeCutter
      | with_reducible apply keeps_emptyCutter | with_reducible apply keeps_ite_keep | intro _ | split | dsimp only
      | (fail_if_no_progress with_reducible apply keeps_mk)

theorem keeps_fillPosition (a0) (a1) (a2) (a3) (a4) (a5) (a6) (a7) (h0 : Keeps q a0) : Keeps q (Sys2Proof.Machine.fillPosition a0 a1 a2 a3 a4 a5 a6 a7) := by
  unfold Sys2Proof.Machine.fillPosition
  repeat'
      first
      | with_reducible assumption | with_reducible apply keeps_shadowPage | with_reducible apply keeps_storeCode
      | with_reducible apply keeps_foldl | with_reducible apply keeps_foldl_fst | with_reducible apply keeps_foldl_snd
      | with_reducible apply keeps_foldl_snd2 | with_reducible apply keeps_foldl_Store | with_reducible apply keeps_ite_keep | intro _
      | split | dsimp only | (fail_if_no_progress with_reducible apply keeps_mk) | with_reducible refine keeps_of_fst ?_ (by assumption)
      | with_reducible refine keeps_of_snd ?_ (by assumption) | with_reducible refine keeps_of_snd2 ?_ (by assumption)
      | with_reducible refine keeps_of_some ?_ (by assumption) | with_reducible refine keeps_of_next ?_ (by assumption)

theorem keeps_execMirrorCutter (a0) (a1) (a2) (a3) (a4) (a5) (a6) (h6 : Keeps q a6) : KeepsRes q (Sys2Proof.Machine.execMirrorCutter a0 a1 a2 a3 a4 a5 a6) := by
  unfold Sys2Proof.Machine.execMirrorCutter
  repeat'
      first
      | with_reducible assumption | with_reducible apply keeps_takeMirrorCutter | with_reducible apply keeps_withMirror
      | with_reducible apply keepsRes_next | with_reducible exact keepsRes_fault _ | with_reducible exact keepsRes_refused _ | intro _
      | dsimp only

theorem keeps_takeMirrorAdmit (a0) (a1) (a2) (a3) (a4) (a5) (a6) (h6 : Keeps q a6) : Keeps q (Sys2Proof.Machine.takeMirrorAdmit a0 a1 a2 a3 a4 a5 a6) := by
  unfold Sys2Proof.Machine.takeMirrorAdmit
  repeat'
      first
      | with_reducible assumption | with_reducible apply keeps_holdNodes | with_reducible apply keeps_ackMirror
      | with_reducible apply keeps_State_updReq | with_reducible apply keeps_moveReq | with_reducible apply keeps_State_setReq
      | with_reducible apply keeps_svcWrite | with_reducible apply keeps_mapMatched | with_reducible apply keeps_getD
      | with_reducible apply keeps_foldl | with_reducible apply keeps_foldl_fst | with_reducible apply keeps_foldl_snd
      | with_reducible apply keeps_foldl_snd2 | with_reducible apply keeps_ite_keep | intro _ | split | dsimp only
      | (fail_if_no_progress with_reducible apply keeps_mk) | with_reducible refine keeps_of_fst ?_ (by assumption)
      | with_reducible refine keeps_of_snd ?_ (by assumption) | with_reducible refine keeps_of_snd2 ?_ (by assumption)
      | with_reducible refine keeps_of_some ?_ (by assumption) | with_reducible refine keeps_of_next ?_ (by assumption)

theorem keeps_takeMirrorAppend (a0) (a1) (a2) (a3) (a4) (a5) (a6) (a7) (h7 : Keeps q a7) : Keeps q (Sys2Proof.Machine.takeMirrorAppend a0 a1 a2 a3 a4 a5 a6 a7) := by
  unfold Sys2Proof.Machine.takeMirrorAppend
  repeat' first | with_reducible assumption | with_reducible apply keeps_fillPosition | intro _ | dsimp only

theorem keeps_takeMirrorCatchup (a0) (a1) (a2) (a3) (a4) (a5) (a6) (a7) (h7 : Keeps q a7) : Keeps q (Sys2Proof.Machine.takeMirrorCatchup a0 a1 a2 a3 a4 a5 a6 a7) := by
  unfold Sys2Proof.Machine.takeMirrorCatchup
  repeat'
      first
      | with_reducible assumption | with_reducible apply keeps_fillPosition | with_reducible apply keeps_ite_keep | intro _ | split
      | dsimp only

theorem keeps_takeMirrorCommand (a0) (a1) (a2) (a3) (h3 : Keeps q a3) : Keeps q (Sys2Proof.Machine.takeMirrorCommand a0 a1 a2 a3) := by
  unfold Sys2Proof.Machine.takeMirrorCommand
  repeat'
      first
      | with_reducible assumption | with_reducible apply keeps_endWindows | with_reducible apply keeps_freeReq
      | with_reducible apply keeps_ite_keep | intro _ | split | dsimp only | (fail_if_no_progress with_reducible apply keeps_mk)

theorem keeps_commitShadow (a0) (a1) (a2) (h0 : Keeps q a0) : Keeps q (Sys2Proof.Machine.commitShadow a0 a1 a2) := by
  unfold Sys2Proof.Machine.commitShadow
  repeat'
      first
      | with_reducible assumption | with_reducible apply keeps_endWindows | with_reducible apply keeps_State_updReq
      | with_reducible apply keeps_State_setReq | with_reducible apply keeps_freeReq | with_reducible apply keeps_getD
      | with_reducible apply keeps_ite_keep | intro _ | split | dsimp only | (fail_if_no_progress with_reducible apply keeps_mk)

theorem keeps_takeMirrorPrefix (a0) (a1) (a2) (a3) (a4) (a5) (h5 : Keeps q a5) : Keeps q (Sys2Proof.Machine.takeMirrorPrefix a0 a1 a2 a3 a4 a5) := by
  unfold Sys2Proof.Machine.takeMirrorPrefix
  repeat'
      first
      | with_reducible assumption | with_reducible apply keeps_updNode | with_reducible apply keeps_endWindows
      | with_reducible apply keeps_publishBlocks | with_reducible apply keeps_freeReq | with_reducible apply keeps_foldl
      | with_reducible apply keeps_foldl_fst | with_reducible apply keeps_foldl_snd | with_reducible apply keeps_foldl_snd2
      | with_reducible apply keeps_ite_keep | intro _ | split | dsimp only | (fail_if_no_progress with_reducible apply keeps_mk)
      | with_reducible refine keeps_of_fst ?_ (by assumption) | with_reducible refine keeps_of_snd ?_ (by assumption)
      | with_reducible refine keeps_of_snd2 ?_ (by assumption) | with_reducible refine keeps_of_some ?_ (by assumption)
      | with_reducible refine keeps_of_next ?_ (by assumption)

theorem keeps_execMirrorAdmit (a0) (a1) (a2) (a3) (a4) (a5) (a6) (h6 : Keeps q a6) : KeepsRes q (Sys2Proof.Machine.execMirrorAdmit a0 a1 a2 a3 a4 a5 a6) := by
  unfold Sys2Proof.Machine.execMirrorAdmit
  repeat'
      first
      | with_reducible assumption | with_reducible apply keeps_withMirror | with_reducible apply keeps_takeMirrorAdmit
      | with_reducible apply keepsRes_next | with_reducible exact keepsRes_fault _ | with_reducible exact keepsRes_refused _ | intro _
      | dsimp only

theorem keeps_execMirrorAppend (a0) (a1) (a2) (a3) (a4) (a5) (a6) (a7) (a8) (h8 : Keeps q a8) : KeepsRes q (Sys2Proof.Machine.execMirrorAppend a0 a1 a2 a3 a4 a5 a6 a7 a8) := by
  unfold Sys2Proof.Machine.execMirrorAppend
  repeat'
      first
      | with_reducible assumption | with_reducible apply keeps_takeMirrorAppend | with_reducible apply keeps_withMirror
      | with_reducible apply keepsRes_next | with_reducible exact keepsRes_fault _ | with_reducible exact keepsRes_refused _ | intro _
      | dsimp only

theorem keeps_execMirrorCatchup (a0) (a1) (a2) (a3) (a4) (a5) (a6) (a7) (a8) (h8 : Keeps q a8) : KeepsRes q (Sys2Proof.Machine.execMirrorCatchup a0 a1 a2 a3 a4 a5 a6 a7 a8) := by
  unfold Sys2Proof.Machine.execMirrorCatchup
  repeat'
      first
      | with_reducible assumption | with_reducible apply keeps_withMirror | with_reducible apply keeps_takeMirrorCatchup
      | with_reducible apply keepsRes_next | with_reducible exact keepsRes_fault _ | with_reducible exact keepsRes_refused _ | intro _
      | dsimp only

theorem keeps_execMirrorCommand (a0) (a1) (a2) (a3) (a4) (h4 : Keeps q a4) : KeepsRes q (Sys2Proof.Machine.execMirrorCommand a0 a1 a2 a3 a4) := by
  unfold Sys2Proof.Machine.execMirrorCommand
  repeat'
      first
      | with_reducible assumption | with_reducible apply keeps_takeMirrorCommand | with_reducible apply keeps_withMirror
      | with_reducible apply keepsRes_next | with_reducible exact keepsRes_fault _ | with_reducible exact keepsRes_refused _ | intro _
      | dsimp only

theorem keeps_takeMirrorCommit (a0) (a1) (a2) (a3) (a4) (h4 : Keeps q a4) : Keeps q (Sys2Proof.Machine.takeMirrorCommit a0 a1 a2 a3 a4) := by
  unfold Sys2Proof.Machine.takeMirrorCommit
  repeat'
      first
      | with_reducible assumption | with_reducible apply keeps_ackMirror | with_reducible apply keeps_commitShadow
      | with_reducible apply keeps_getD | with_reducible apply keeps_foldl | with_reducible apply keeps_foldl_fst
      | with_reducible apply keeps_foldl_snd | with_reducible apply keeps_foldl_snd2 | intro _ | dsimp only
      | (fail_if_no_progress with_reducible apply keeps_mk)

theorem keeps_execMirrorPrefix (a0) (a1) (a2) (a3) (a4) (a5) (a6) (h6 : Keeps q a6) : KeepsRes q (Sys2Proof.Machine.execMirrorPrefix a0 a1 a2 a3 a4 a5 a6) := by
  unfold Sys2Proof.Machine.execMirrorPrefix
  repeat'
      first
      | with_reducible assumption | with_reducible apply keeps_withMirror | with_reducible apply keeps_takeMirrorPrefix
      | with_reducible apply keepsRes_next | with_reducible exact keepsRes_fault _ | with_reducible exact keepsRes_refused _ | intro _
      | dsimp only

theorem keeps_startWithdraw (a0) (h0 : Keeps q a0) : Keeps q (Sys2Proof.Machine.startWithdraw a0) := by
  unfold Sys2Proof.Machine.startWithdraw
  repeat'
      first
      | with_reducible assumption | with_reducible apply keeps_handOver | with_reducible apply keeps_answerPending
      | with_reducible apply keeps_endWithdraw | with_reducible apply keeps_foldl | with_reducible apply keeps_foldl_fst
      | with_reducible apply keeps_foldl_snd | with_reducible apply keeps_foldl_snd2 | with_reducible apply keeps_ite_keep | intro _ | split
      | dsimp only | (fail_if_no_progress with_reducible apply keeps_mk)

theorem keeps_execMirrorCommit (a0) (a1) (a2) (a3) (a4) (h4 : Keeps q a4) : KeepsRes q (Sys2Proof.Machine.execMirrorCommit a0 a1 a2 a3 a4) := by
  unfold Sys2Proof.Machine.execMirrorCommit
  repeat'
      first
      | with_reducible assumption | with_reducible apply keeps_withMirror | with_reducible apply keeps_takeMirrorCommit
      | with_reducible apply keepsRes_next | with_reducible exact keepsRes_fault _ | with_reducible exact keepsRes_refused _ | intro _
      | dsimp only

theorem keeps_execWithdraw (a0) (h0 : Keeps q a0) : KeepsRes q (Sys2Proof.Machine.execWithdraw a0) := by
  unfold Sys2Proof.Machine.execWithdraw
  repeat'
      first
      | with_reducible assumption | with_reducible apply keeps_startWithdraw | with_reducible apply keeps_legalOr
      | with_reducible apply keepsRes_next | with_reducible exact keepsRes_fault _ | with_reducible exact keepsRes_refused _ | intro _
      | dsimp only

theorem keeps_releaseCommits (a0) (h0 : Keeps q a0) : Keeps q (Sys2Proof.Machine.releaseCommits a0) := by
  unfold Sys2Proof.Machine.releaseCommits
  repeat'
      first
      | with_reducible assumption | with_reducible apply keeps_finishCommit | with_reducible apply keeps_foldl
      | with_reducible apply keeps_foldl_fst | with_reducible apply keeps_foldl_snd | with_reducible apply keeps_foldl_snd2
      | with_reducible apply keeps_ite_keep | intro _ | split | dsimp only

theorem keeps_losePartner (a0) (h0 : Keeps q a0) : Keeps q (Sys2Proof.Machine.losePartner a0) := by
  unfold Sys2Proof.Machine.losePartner
  repeat'
      first
      | with_reducible assumption | with_reducible apply keeps_unpair | with_reducible apply keeps_recordFault
      | with_reducible apply keeps_countShadows | with_reducible apply keeps_answerPending | with_reducible apply keeps_failTwinRestores
      | with_reducible apply keeps_releaseCommits | with_reducible apply keeps_bump | with_reducible apply keeps_startPromotion | intro _
      | dsimp only | (fail_if_no_progress with_reducible apply keeps_mk)

theorem keeps_dropServing (a0) (h0 : Keeps q a0) : Keeps q (Sys2Proof.Machine.dropServing a0) := by
  unfold Sys2Proof.Machine.dropServing
  repeat'
      first
      | with_reducible assumption | with_reducible apply keeps_dropReq | with_reducible apply keeps_discardStep
      | with_reducible apply keeps_countStep | with_reducible refine keepsOpt_map (fun _ => ?_) | with_reducible apply keeps_foldl
      | with_reducible apply keeps_foldl_fst | with_reducible apply keeps_foldl_snd | with_reducible apply keeps_foldl_snd2 | intro _
      | dsimp only | (fail_if_no_progress with_reducible apply keeps_mk)

theorem keeps_enterSyncing (a0) (h0 : Keeps q a0) : Keeps q (Sys2Proof.Machine.enterSyncing a0) := by
  unfold Sys2Proof.Machine.enterSyncing
  repeat'
      first
      | with_reducible assumption | with_reducible apply keeps_setPair | with_reducible apply keeps_dropServing
      | with_reducible apply keeps_countShadows | with_reducible apply keeps_mirrorAdmit | with_reducible apply keeps_dset
      | with_reducible refine keepsOpt_map (fun _ => ?_) | with_reducible apply keeps_foldl | with_reducible apply keeps_foldl_fst
      | with_reducible apply keeps_foldl_snd | with_reducible apply keeps_foldl_snd2 | with_reducible apply keeps_ite_keep | intro _ | split
      | dsimp only | (fail_if_no_progress with_reducible apply keeps_mk) | with_reducible refine keeps_of_fst ?_ (by assumption)
      | with_reducible refine keeps_of_snd ?_ (by assumption) | with_reducible refine keeps_of_snd2 ?_ (by assumption)
      | with_reducible refine keeps_of_some ?_ (by assumption) | with_reducible refine keeps_of_next ?_ (by assumption)

theorem keeps_fence (a0) (h0 : Keeps q a0) : Keeps q (Sys2Proof.Machine.fence a0) := by
  unfold Sys2Proof.Machine.fence
  repeat'
      first
      | with_reducible assumption | with_reducible apply keeps_setPair | with_reducible apply keeps_unwindCommit
      | with_reducible apply keeps_recordFault | with_reducible apply keeps_setStep | with_reducible apply keeps_countShadows
      | with_reducible apply keeps_answerPending | with_reducible apply keeps_failTwinRestores | with_reducible apply keeps_bump
      | with_reducible apply keeps_haltNests | with_reducible apply keeps_fencedDone | with_reducible apply keeps_startPromotion
      | with_reducible apply keeps_shadowReq | with_reducible refine keepsOpt_map (fun _ => ?_) | with_reducible apply keeps_foldl
      | with_reducible apply keeps_foldl_fst | with_reducible apply keeps_foldl_snd | with_reducible apply keeps_foldl_snd2
      | with_reducible apply keeps_ite_keep | intro _ | split | dsimp only | (fail_if_no_progress with_reducible apply keeps_mk)

theorem keeps_countHeart (a0) (a1) (a2) (a3) (a4) (h0 : Keeps q a0) : Keeps q (Sys2Proof.Machine.countHeart a0 a1 a2 a3 a4) := by
  unfold Sys2Proof.Machine.countHeart
  repeat'
      first
      | with_reducible assumption | with_reducible apply keeps_enterSyncing | with_reducible apply keeps_recordFault
      | with_reducible apply keeps_dset | with_reducible apply keeps_ite_keep | intro _ | split | dsimp only
      | (fail_if_no_progress with_reducible apply keeps_mk)

theorem keeps_execHeart (a0) (a1) (a2) (a3) (a4) (a5) (a6) (a7) (h7 : Keeps q a7) : KeepsRes q (Sys2Proof.Machine.execHeart a0 a1 a2 a3 a4 a5 a6 a7) := by
  unfold Sys2Proof.Machine.execHeart
  repeat'
      first
      | with_reducible assumption | with_reducible apply keeps_noteHeart | with_reducible apply keeps_enterSyncing
      | with_reducible apply keeps_countHeart | with_reducible apply keeps_settleActive | with_reducible apply keeps_dset
      | with_reducible apply keepsRes_next | with_reducible exact keepsRes_fault _ | with_reducible exact keepsRes_refused _
      | with_reducible apply keepsRes_ite | with_reducible apply keeps_ite_keep | intro _ | split | dsimp only
      | (fail_if_no_progress with_reducible apply keeps_mk)

end Sys2Proof.Laws
end

