-- ==== Sys2Proof/Laws/KeepsHost.lean ====
section
/-!
SUPPORT. What each operation keeps, over the host side, resets, power, firmware, the start and the self tests: the queue of waiting commands and the canonical form of every memory.
-/

set_option linter.all false
set_option Elab.async false
set_option maxRecDepth 4000

namespace Sys2Proof.Laws

open Sys2Proof Sys2Proof.Machine

variable {q : List Instr}

/-! ## Host -/

theorem keeps_resetFunction (a0) (a1) (h0 : Keeps q a0) : Keeps q (Sys2Proof.Machine.resetFunction a0 a1) := by
  unfold Sys2Proof.Machine.resetFunction
  repeat' first | with_reducible assumption | intro _ | dsimp only | (fail_if_no_progress with_reducible apply keeps_mk)

theorem keeps_execWinWrite (a0) (a1) (a2) (a3) (h3 : Keeps q a3) : KeepsRes q (Sys2Proof.Machine.execWinWrite a0 a1 a2 a3) := by
  unfold Sys2Proof.Machine.execWinWrite
  repeat'
      first
      | with_reducible assumption | with_reducible apply keepsRes_next | with_reducible exact keepsRes_fault _
      | with_reducible exact keepsRes_refused _ | with_reducible apply keepsRes_ite | with_reducible apply keeps_ite_keep | intro _ | split
      | dsimp only | (fail_if_no_progress with_reducible apply keeps_mk)

theorem keeps_execItargetWrite (a0) (a1) (a2) (a3) (a4) (h4 : Keeps q a4) : KeepsRes q (Sys2Proof.Machine.execItargetWrite a0 a1 a2 a3 a4) := by
  unfold Sys2Proof.Machine.execItargetWrite
  repeat'
      first
      | with_reducible assumption | with_reducible apply keepsRes_next | with_reducible exact keepsRes_fault _
      | with_reducible exact keepsRes_refused _ | with_reducible apply keepsOpt_some | with_reducible exact keepsOpt_none
      | with_reducible apply keepsRes_ite | with_reducible apply keeps_ite_keep | intro _ | split | dsimp only
      | (fail_if_no_progress with_reducible apply keeps_mk) | with_reducible refine keeps_of_fst ?_ (by assumption)
      | with_reducible refine keeps_of_snd ?_ (by assumption) | with_reducible refine keeps_of_snd2 ?_ (by assumption)
      | with_reducible refine keeps_of_some ?_ (by assumption) | with_reducible refine keeps_of_next ?_ (by assumption)

theorem keeps_execIpendClear (a0) (a1) (a2) (a3) (a4) (h4 : Keeps q a4) : KeepsRes q (Sys2Proof.Machine.execIpendClear a0 a1 a2 a3 a4) := by
  unfold Sys2Proof.Machine.execIpendClear
  repeat'
      first
      | with_reducible assumption | with_reducible apply keepsRes_next | with_reducible exact keepsRes_fault _
      | with_reducible exact keepsRes_refused _ | with_reducible apply keepsOpt_some | with_reducible exact keepsOpt_none
      | with_reducible apply keeps_foldl | with_reducible apply keeps_foldl_fst | with_reducible apply keeps_foldl_snd
      | with_reducible apply keeps_foldl_snd2 | with_reducible apply keepsRes_ite | with_reducible apply keeps_ite_keep | intro _ | split
      | dsimp only | (fail_if_no_progress with_reducible apply keeps_mk)

theorem keeps_execPerstNRelease (a0) (h0 : Keeps q a0) : KeepsRes q (Sys2Proof.Machine.execPerstNRelease a0) := by
  unfold Sys2Proof.Machine.execPerstNRelease
  repeat'
      first
      | with_reducible assumption | with_reducible apply keepsRes_next | with_reducible exact keepsRes_fault _
      | with_reducible exact keepsRes_refused _ | intro _ | dsimp only | (fail_if_no_progress with_reducible apply keeps_mk)

theorem keeps_execInputGlitch (a0) (a1) (h1 : Keeps q a1) : KeepsRes q (Sys2Proof.Machine.execInputGlitch a0 a1) := by
  unfold Sys2Proof.Machine.execInputGlitch
  repeat'
      first
      | with_reducible assumption | with_reducible apply keepsRes_next | with_reducible exact keepsRes_fault _
      | with_reducible exact keepsRes_refused _ | with_reducible apply keepsRes_ite | with_reducible apply keeps_ite_keep | intro _ | split
      | dsimp only | (fail_if_no_progress with_reducible apply keeps_mk)

theorem keeps_execL0pWidthChange (a0) (a1) (a2) (a3) (h3 : Keeps q a3) : KeepsRes q (Sys2Proof.Machine.execL0pWidthChange a0 a1 a2 a3) := by
  unfold Sys2Proof.Machine.execL0pWidthChange
  repeat'
      first
      | with_reducible assumption | with_reducible apply keepsRes_next | with_reducible exact keepsRes_fault _
      | with_reducible exact keepsRes_refused _ | with_reducible apply keepsRes_ite | with_reducible apply keeps_ite_keep | intro _ | split
      | dsimp only | (fail_if_no_progress with_reducible apply keeps_mk)

theorem keeps_execRingDisableDone (a0) (a1) (a2) (h2 : Keeps q a2) : KeepsRes q (Sys2Proof.Machine.execRingDisableDone a0 a1 a2) := by
  unfold Sys2Proof.Machine.execRingDisableDone
  repeat'
      first
      | with_reducible assumption | with_reducible apply keeps_State_setRing | with_reducible apply keepsRes_next
      | with_reducible exact keepsRes_fault _ | with_reducible exact keepsRes_refused _ | with_reducible apply keepsOpt_some
      | with_reducible exact keepsOpt_none | with_reducible apply keepsRes_ite | with_reducible apply keeps_ite_keep | intro _ | split
      | dsimp only | (fail_if_no_progress with_reducible apply keeps_mk) | with_reducible refine keeps_of_fst ?_ (by assumption)
      | with_reducible refine keeps_of_snd ?_ (by assumption) | with_reducible refine keeps_of_snd2 ?_ (by assumption)
      | with_reducible refine keeps_of_some ?_ (by assumption) | with_reducible refine keeps_of_next ?_ (by assumption)

theorem keeps_execMsixUnmask (a0) (a1) (a2) (h2 : Keeps q a2) : KeepsRes q (Sys2Proof.Machine.execMsixUnmask a0 a1 a2) := by
  unfold Sys2Proof.Machine.execMsixUnmask
  repeat'
      first
      | with_reducible assumption | with_reducible apply keeps_sendMsix | with_reducible apply keepsRes_next
      | with_reducible exact keepsRes_fault _ | with_reducible exact keepsRes_refused _ | with_reducible apply keepsRes_ite
      | with_reducible apply keeps_ite_keep | intro _ | split | dsimp only | (fail_if_no_progress with_reducible apply keeps_mk)

theorem keeps_execHostLinkUp (a0) (a1) (a2) (h2 : Keeps q a2) : KeepsRes q (Sys2Proof.Machine.execHostLinkUp a0 a1 a2) := by
  unfold Sys2Proof.Machine.execHostLinkUp
  repeat'
      first
      | with_reducible assumption | with_reducible apply keeps_dset | with_reducible apply keepsRes_next
      | with_reducible exact keepsRes_fault _ | with_reducible exact keepsRes_refused _ | with_reducible apply keepsRes_ite
      | with_reducible apply keeps_ite_keep | intro _ | split | dsimp only | (fail_if_no_progress with_reducible apply keeps_mk)

theorem keeps_takeFrom (a0) (a1) (h0 : Keeps q a0) : Keeps q (Sys2Proof.Machine.takeFrom a0 a1) := by
  unfold Sys2Proof.Machine.takeFrom
  repeat'
      first
      | with_reducible assumption | with_reducible apply keeps_State_setRing | with_reducible apply keeps_State_updRing | intro _ | split
      | dsimp only | (fail_if_no_progress with_reducible apply keeps_mk) | with_reducible refine keeps_of_fst ?_ (by assumption)
      | with_reducible refine keeps_of_snd ?_ (by assumption) | with_reducible refine keeps_of_snd2 ?_ (by assumption)
      | with_reducible refine keeps_of_some ?_ (by assumption) | with_reducible refine keeps_of_next ?_ (by assumption)

theorem keeps_failHostMoves (a0) (h0 : Keeps q a0) : Keeps q (Sys2Proof.Machine.failHostMoves a0) := by
  unfold Sys2Proof.Machine.failHostMoves
  repeat'
      first
      | with_reducible assumption | with_reducible apply keeps_putRun | with_reducible apply keeps_foldl
      | with_reducible apply keeps_foldl_fst | with_reducible apply keeps_foldl_snd | with_reducible apply keeps_foldl_snd2
      | with_reducible apply keeps_ite_keep | intro _ | split | dsimp only | (fail_if_no_progress with_reducible apply keeps_mk)
      | with_reducible refine keeps_of_fst ?_ (by assumption) | with_reducible refine keeps_of_snd ?_ (by assumption)
      | with_reducible refine keeps_of_snd2 ?_ (by assumption) | with_reducible refine keeps_of_some ?_ (by assumption)
      | with_reducible refine keeps_of_next ?_ (by assumption)

theorem keeps_hostViolation (a0) (h0 : Keeps q a0) : Keeps q (Sys2Proof.Machine.hostViolation a0) := by
  unfold Sys2Proof.Machine.hostViolation
  repeat' first | with_reducible assumption | with_reducible apply keeps_bump | intro _ | dsimp only

theorem keeps_execBar0BadAccess (a0) (a1) (a2) (h2 : Keeps q a2) : KeepsRes q (Sys2Proof.Machine.execBar0BadAccess a0 a1 a2) := by
  unfold Sys2Proof.Machine.execBar0BadAccess
  repeat'
      first
      | with_reducible assumption | with_reducible apply keeps_hostViolation | with_reducible apply keeps_emit
      | with_reducible apply keepsRes_next | with_reducible exact keepsRes_fault _ | with_reducible exact keepsRes_refused _
      | with_reducible apply keepsRes_ite | with_reducible apply keeps_ite_keep | intro _ | split | dsimp only

theorem keeps_execGpiEdge (a0) (a1) (a2) (h2 : Keeps q a2) : KeepsRes q (Sys2Proof.Machine.execGpiEdge a0 a1 a2) := by
  unfold Sys2Proof.Machine.execGpiEdge
  repeat'
      first
      | with_reducible assumption | with_reducible apply keeps_dset | with_reducible apply keeps_raiseLocal
      | with_reducible apply keepsRes_next | with_reducible exact keepsRes_fault _ | with_reducible exact keepsRes_refused _
      | with_reducible apply keepsRes_ite | with_reducible apply keeps_ite_keep | intro _ | split | dsimp only

theorem keeps_poisonRange (a0) (a1) (a2) (h0 : Keeps q a0) : Keeps q (Sys2Proof.Machine.poisonRange a0 a1 a2) := by
  unfold Sys2Proof.Machine.poisonRange
  repeat'
      first
      | with_reducible assumption | with_reducible apply keeps_storeCode | with_reducible apply keeps_foldl
      | with_reducible apply keeps_foldl_fst | with_reducible apply keeps_foldl_snd | with_reducible apply keeps_foldl_snd2
      | with_reducible apply keeps_foldl_Store | intro _ | dsimp only

theorem keeps_execRingDisable (a0) (a1) (a2) (h2 : Keeps q a2) : KeepsRes q (Sys2Proof.Machine.execRingDisable a0 a1 a2) := by
  unfold Sys2Proof.Machine.execRingDisable
  repeat'
      first
      | with_reducible assumption | with_reducible apply keeps_disableRing | with_reducible apply keeps_cmdState
      | with_reducible apply keeps_State_setRing | with_reducible apply keepsRes_next | with_reducible exact keepsRes_fault _
      | with_reducible exact keepsRes_refused _ | with_reducible apply keepsOpt_some | with_reducible exact keepsOpt_none
      | with_reducible apply keepsRes_ite | with_reducible apply keeps_ite_keep | intro _ | split | dsimp only
      | (fail_if_no_progress with_reducible apply keeps_mk) | with_reducible refine keeps_of_fst ?_ (by assumption)
      | with_reducible refine keeps_of_snd ?_ (by assumption) | with_reducible refine keeps_of_snd2 ?_ (by assumption)
      | with_reducible refine keeps_of_some ?_ (by assumption) | with_reducible refine keeps_of_next ?_ (by assumption)

theorem keeps_execRingEnable (a0) (a1) (a2) (a3) (h3 : Keeps q a3) : KeepsRes q (Sys2Proof.Machine.execRingEnable a0 a1 a2 a3) := by
  unfold Sys2Proof.Machine.execRingEnable
  repeat'
      first
      | with_reducible assumption | with_reducible apply keeps_State_updRing | with_reducible apply keeps_cmdState
      | with_reducible apply keeps_State_setRing | with_reducible apply keepsRes_next | with_reducible exact keepsRes_fault _
      | with_reducible exact keepsRes_refused _ | with_reducible apply keepsOpt_some | with_reducible exact keepsOpt_none
      | with_reducible apply keepsRes_ite | with_reducible apply keeps_ite_keep | intro _ | split | dsimp only
      | (fail_if_no_progress with_reducible apply keeps_mk) | with_reducible refine keeps_of_fst ?_ (by assumption)
      | with_reducible refine keeps_of_snd ?_ (by assumption) | with_reducible refine keeps_of_snd2 ?_ (by assumption)
      | with_reducible refine keeps_of_some ?_ (by assumption) | with_reducible refine keeps_of_next ?_ (by assumption)

theorem keeps_execRingAccessFail (a0) (a1) (a2) (h2 : Keeps q a2) : KeepsRes q (Sys2Proof.Machine.execRingAccessFail a0 a1 a2) := by
  unfold Sys2Proof.Machine.execRingAccessFail
  repeat'
      first
      | with_reducible assumption | with_reducible apply keeps_hostViolation | with_reducible apply keeps_failRing
      | with_reducible apply keepsRes_next | with_reducible exact keepsRes_fault _ | with_reducible exact keepsRes_refused _
      | with_reducible apply keepsOpt_some | with_reducible exact keepsOpt_none | with_reducible apply keepsRes_ite
      | with_reducible apply keeps_ite_keep | intro _ | split | dsimp only | (fail_if_no_progress with_reducible apply keeps_mk)
      | with_reducible refine keeps_of_fst ?_ (by assumption) | with_reducible refine keeps_of_snd ?_ (by assumption)
      | with_reducible refine keeps_of_snd2 ?_ (by assumption) | with_reducible refine keeps_of_some ?_ (by assumption)
      | with_reducible refine keeps_of_next ?_ (by assumption)

theorem keeps_execDoorbell (a0) (a1) (a2) (a3) (h3 : Keeps q a3) : KeepsRes q (Sys2Proof.Machine.execDoorbell a0 a1 a2 a3) := by
  unfold Sys2Proof.Machine.execDoorbell
  repeat'
      first
      | with_reducible assumption | with_reducible apply keeps_State_updTenant | with_reducible apply keeps_dropDoorbell
      | with_reducible apply keeps_applyDoorbell | with_reducible apply keepsRes_next | with_reducible exact keepsRes_fault _
      | with_reducible exact keepsRes_refused _ | with_reducible apply keepsRes_ite | with_reducible apply keeps_ite_keep | intro _ | split
      | dsimp only | (fail_if_no_progress with_reducible apply keeps_mk) | with_reducible refine keeps_of_fst ?_ (by assumption)
      | with_reducible refine keeps_of_snd ?_ (by assumption) | with_reducible refine keeps_of_snd2 ?_ (by assumption)
      | with_reducible refine keeps_of_some ?_ (by assumption) | with_reducible refine keeps_of_next ?_ (by assumption)

theorem keeps_readParts (a0) (a1) (a2) (h0 : Keeps q a0) : Keeps q (Sys2Proof.Machine.readParts a0 a1 a2).next := by
  induction a2 generalizing a0 with
  | nil => exact h0
  | cons p ps ih =>
    rw [Sys2Proof.Machine.readParts]
    apply ih
    split
    · exact h0
    · exact keeps_loadBytes _ _ _ _ _ h0

theorem keeps_readEntries (a0) (a1) (h0 : Keeps q a0) : Keeps q (Sys2Proof.Machine.readEntries a0 a1).next := by
  unfold Sys2Proof.Machine.readEntries
  repeat'
      first
      | with_reducible assumption | with_reducible apply keeps_loadBytes | with_reducible apply keeps_foldl
      | with_reducible apply keeps_foldl_fst | with_reducible apply keeps_foldl_snd | with_reducible apply keeps_foldl_snd2
      | with_reducible apply keeps_foldl_LoadBytes | intro _ | dsimp only | (fail_if_no_progress with_reducible apply keeps_mk)

theorem keeps_refuseRetired (a0) (a1) (a2) (h0 : Keeps q a0) : Keeps q (Sys2Proof.Machine.refuseRetired a0 a1 a2) := by
  unfold Sys2Proof.Machine.refuseRetired
  repeat'
      first
      | with_reducible assumption | with_reducible apply keeps_refuseTask | with_reducible apply keeps_completeMove
      | with_reducible apply keeps_ite_keep | intro _ | split | dsimp only | (fail_if_no_progress with_reducible apply keeps_mk)

theorem keeps_postEntry (a0) (a1) (a2) (a3) (a4) (h0 : Keeps q a0) : Keeps q (Sys2Proof.Machine.postEntry a0 a1 a2 a3 a4) := by
  unfold Sys2Proof.Machine.postEntry
  repeat'
      first
      | with_reducible assumption | with_reducible apply keeps_enqueue64 | with_reducible apply keeps_enqueueMove
      | with_reducible apply keeps_answer | with_reducible apply keeps_ite_keep | intro _ | split | dsimp only
      | (fail_if_no_progress with_reducible apply keeps_mk)

theorem keeps_offerRing_1 (a0) (a1) (a2) (h0 : Keeps q a0) : KeepsOpt q (Sys2Proof.Machine.offerRing a0 a1 a2).1 := by
  unfold Sys2Proof.Machine.offerRing
  repeat'
      first
      | with_reducible assumption | with_reducible apply keeps_readEntries | with_reducible apply keeps_refuseRetired
      | with_reducible apply keeps_takeFrom | with_reducible apply keeps_postEntry | with_reducible apply keeps_State_setRing
      | with_reducible apply keeps_failRing | with_reducible apply keepsOpt_some | with_reducible exact keepsOpt_none
      | with_reducible apply keeps_ite_keep | intro _ | split | dsimp only | (fail_if_no_progress with_reducible apply keeps_mk)
      | with_reducible refine keeps_of_fst ?_ (by assumption) | with_reducible refine keeps_of_snd ?_ (by assumption)
      | with_reducible refine keeps_of_snd2 ?_ (by assumption) | with_reducible refine keeps_of_some ?_ (by assumption)
      | with_reducible refine keeps_of_next ?_ (by assumption)
theorem keeps_offerRing_2 (a0) (a1) (a2) (h0 : Keeps q a0) : Keeps q (Sys2Proof.Machine.offerRing a0 a1 a2).2 := by
  unfold Sys2Proof.Machine.offerRing
  repeat'
      first
      | with_reducible assumption | with_reducible apply keeps_readEntries | with_reducible apply keeps_refuseRetired
      | with_reducible apply keeps_takeFrom | with_reducible apply keeps_postEntry | with_reducible apply keeps_State_setRing
      | with_reducible apply keeps_failRing | with_reducible apply keepsOpt_some | with_reducible exact keepsOpt_none
      | with_reducible apply keeps_ite_keep | intro _ | split | dsimp only | (fail_if_no_progress with_reducible apply keeps_mk)
      | with_reducible refine keeps_of_fst ?_ (by assumption) | with_reducible refine keeps_of_snd ?_ (by assumption)
      | with_reducible refine keeps_of_snd2 ?_ (by assumption) | with_reducible refine keeps_of_some ?_ (by assumption)
      | with_reducible refine keeps_of_next ?_ (by assumption)

theorem keeps_serveRings (a0) (a1) (a2) (h2 : Keeps q a2) : Keeps q (Sys2Proof.Machine.serveRings a0 a1 a2) := by
  induction a1 generalizing a2 with
  | nil => exact h2
  | cons k ks ih =>
    rw [Sys2Proof.Machine.serveRings]
    split
    · rename_i h
      have := keeps_offerRing_1 a2 k a0 h2
      rw [h] at this; exact this
    · rename_i h
      have := keeps_offerRing_2 a2 k a0 h2
      rw [h] at this; exact ih _ this

theorem keeps_execRingEntryTake (a0) (a1) (h1 : Keeps q a1) : KeepsRes q (Sys2Proof.Machine.execRingEntryTake a0 a1) := by
  unfold Sys2Proof.Machine.execRingEntryTake
  repeat'
      first
      | with_reducible assumption | with_reducible apply keeps_serveRings | with_reducible apply keepsRes_next
      | with_reducible exact keepsRes_fault _ | with_reducible exact keepsRes_refused _ | with_reducible refine keepsOpt_map (fun _ => ?_)
      | with_reducible apply keepsRes_ite | with_reducible apply keeps_ite_keep | intro _ | split | dsimp only

theorem keeps_unassignWhere (a0) (a1) (h0 : Keeps q a0) : Keeps q (Sys2Proof.Machine.unassignWhere a0 a1) := by
  unfold Sys2Proof.Machine.unassignWhere
  repeat'
      first
      | with_reducible assumption | with_reducible apply keeps_beginReset | with_reducible apply keeps_foldl
      | with_reducible apply keeps_foldl_fst | with_reducible apply keeps_foldl_snd | with_reducible apply keeps_foldl_snd2
      | with_reducible apply keeps_ite_keep | intro _ | split | dsimp only

theorem keeps_flr (a0) (a1) (h0 : Keeps q a0) : Keeps q (Sys2Proof.Machine.flr a0 a1) := by
  unfold Sys2Proof.Machine.flr
  repeat'
      first
      | with_reducible assumption | with_reducible apply keeps_unassignWhere | with_reducible apply keeps_beginReset
      | with_reducible apply keeps_resetFunction | with_reducible apply keeps_foldl | with_reducible apply keeps_foldl_fst
      | with_reducible apply keeps_foldl_snd | with_reducible apply keeps_foldl_snd2 | with_reducible apply keeps_ite_keep | intro _ | split
      | dsimp only | (fail_if_no_progress with_reducible apply keeps_mk)

theorem keeps_writeFunction (a0) (a1) (a2) (a3) (h0 : Keeps q a0) : Keeps q (Sys2Proof.Machine.writeFunction a0 a1 a2 a3) := by
  unfold Sys2Proof.Machine.writeFunction
  repeat'
      first
      | with_reducible assumption | with_reducible apply keeps_unassignWhere | intro _ | split | dsimp only
      | (fail_if_no_progress with_reducible apply keeps_mk) | with_reducible refine keeps_of_fst ?_ (by assumption)
      | with_reducible refine keeps_of_snd ?_ (by assumption) | with_reducible refine keeps_of_snd2 ?_ (by assumption)
      | with_reducible refine keeps_of_some ?_ (by assumption) | with_reducible refine keeps_of_next ?_ (by assumption)

theorem keeps_linkReset (a0) (h0 : Keeps q a0) : Keeps q (Sys2Proof.Machine.linkReset a0) := by
  unfold Sys2Proof.Machine.linkReset
  repeat'
      first
      | with_reducible assumption | with_reducible apply keeps_flr | intro _ | dsimp only
      | (fail_if_no_progress with_reducible apply keeps_mk)

theorem keeps_execPcieConfigWrite (a0) (a1) (a2) (a3) (h3 : Keeps q a3) : KeepsRes q (Sys2Proof.Machine.execPcieConfigWrite a0 a1 a2 a3) := by
  unfold Sys2Proof.Machine.execPcieConfigWrite
  repeat'
      first
      | with_reducible assumption | with_reducible apply keeps_hostViolation | with_reducible apply keeps_writeFunction
      | with_reducible apply keepsRes_next | with_reducible exact keepsRes_fault _ | with_reducible exact keepsRes_refused _
      | with_reducible apply keepsRes_ite | with_reducible apply keeps_ite_keep | intro _ | split | dsimp only

theorem keeps_execFlr (a0) (a1) (h1 : Keeps q a1) : KeepsRes q (Sys2Proof.Machine.execFlr a0 a1) := by
  unfold Sys2Proof.Machine.execFlr
  repeat'
      first
      | with_reducible assumption | with_reducible apply keeps_flr | with_reducible apply keepsRes_next
      | with_reducible exact keepsRes_fault _ | with_reducible exact keepsRes_refused _ | with_reducible apply keepsRes_ite
      | with_reducible apply keeps_ite_keep | intro _ | split | dsimp only

theorem keeps_linkLoss (a0) (h0 : Keeps q a0) : Keeps q (Sys2Proof.Machine.linkLoss a0) := by
  unfold Sys2Proof.Machine.linkLoss
  repeat' first | with_reducible assumption | with_reducible apply keeps_failHostMoves | with_reducible apply keeps_linkReset | intro _ | dsimp only

theorem keeps_execHostLinkDown (a0) (h0 : Keeps q a0) : KeepsRes q (Sys2Proof.Machine.execHostLinkDown a0) := by
  unfold Sys2Proof.Machine.execHostLinkDown
  repeat'
      first
      | with_reducible assumption | with_reducible apply keeps_recordFault | with_reducible apply keeps_linkLoss
      | with_reducible apply keeps_bump | with_reducible apply keeps_dset | with_reducible apply keeps_startWithdraw
      | with_reducible apply keepsRes_next | with_reducible exact keepsRes_fault _ | with_reducible exact keepsRes_refused _
      | with_reducible apply keepsOpt_some | with_reducible exact keepsOpt_none | with_reducible apply keepsRes_ite
      | with_reducible apply keeps_ite_keep | intro _ | split | dsimp only | (fail_if_no_progress with_reducible apply keeps_mk)

theorem keeps_writePart (a0) (a1) (a2) (a3) (a4) (h0 : Keeps q a0) : Keeps q (Sys2Proof.Machine.writePart a0 a1 a2 a3 a4) := by
  unfold Sys2Proof.Machine.writePart
  repeat'
      first
      | with_reducible assumption | with_reducible apply keeps_hostViolation | with_reducible apply keeps_poisonRange
      | with_reducible apply keeps_storeBytes | with_reducible apply keeps_regWrite | with_reducible apply keeps_ite_keep | intro _ | split
      | dsimp only

theorem keeps_writeParts (a0) (a1) (a2) (a3) (a4) (h0 : Keeps q a0) : Keeps q (Sys2Proof.Machine.writeParts a0 a1 a2 a3 a4) := by
  revert h0
  fun_induction Sys2Proof.Machine.writeParts a0 a1 a2 a3 a4 <;> intros
  all_goals repeat'
      first
      | with_reducible assumption | with_reducible apply keeps_writePart | intro _ | split | dsimp only
      | with_reducible refine keeps_of_fst ?_ (by assumption) | with_reducible refine keeps_of_snd ?_ (by assumption)
      | with_reducible refine keeps_of_snd2 ?_ (by assumption) | with_reducible refine keeps_of_some ?_ (by assumption)
      | with_reducible refine keeps_of_next ?_ (by assumption) | apply_assumption

theorem keeps_execBar2Access (a0) (a1) (a2) (a3) (a4) (a5) (h5 : Keeps q a5) : KeepsRes q (Sys2Proof.Machine.execBar2Access a0 a1 a2 a3 a4 a5) := by
  unfold Sys2Proof.Machine.execBar2Access
  repeat'
      first
      | with_reducible assumption | with_reducible apply keeps_hostViolation | with_reducible apply keeps_whenFree
      | with_reducible apply keeps_writeParts | with_reducible apply keeps_readParts | with_reducible apply keeps_emit
      | with_reducible apply keepsRes_next | with_reducible exact keepsRes_fault _ | with_reducible exact keepsRes_refused _
      | with_reducible apply keepsOpt_some | with_reducible exact keepsOpt_none | with_reducible apply keepsRes_ite
      | with_reducible apply keeps_ite_keep | intro _ | split | dsimp only | (fail_if_no_progress with_reducible apply keeps_mk)
      | with_reducible refine keeps_of_fst ?_ (by assumption) | with_reducible refine keeps_of_snd ?_ (by assumption)
      | with_reducible refine keeps_of_snd2 ?_ (by assumption) | with_reducible refine keeps_of_some ?_ (by assumption)
      | with_reducible refine keeps_of_next ?_ (by assumption)


/-! ## Reset -/

theorem keeps_carried (a0) (a1) (h0 : Keeps q a0) (h1 : Keeps r a1) : Keeps q (Sys2Proof.Machine.carried a0 a1) := ⟨h0.1, h1.2⟩

theorem keeps_Stack_sticky (a0) (h0 : a0.wf = true) : (Sys2Proof.Machine.Stack.sticky a0).wf = true := rfl

theorem keeps_releasePins (a0) (h0 : Keeps q a0) : Keeps q (Sys2Proof.Machine.releasePins a0) := by
  unfold Sys2Proof.Machine.releasePins
  repeat'
      first
      | with_reducible assumption | with_reducible apply keeps_emit | with_reducible apply keeps_ite_keep | intro _ | split | dsimp only
      | (fail_if_no_progress with_reducible apply keeps_mk)

theorem keeps_alertPin (a0) (h0 : Keeps q a0) : Keeps q (Sys2Proof.Machine.alertPin a0) := by
  unfold Sys2Proof.Machine.alertPin
  repeat'
      first
      | with_reducible assumption | with_reducible apply keeps_emit | with_reducible apply keeps_ite_keep | intro _ | split | dsimp only
      | (fail_if_no_progress with_reducible apply keeps_mk)

theorem keeps_enterReset (a0) (a1) (h0 : Keeps q a0) : Keeps q (Sys2Proof.Machine.enterReset a0 a1) := by
  have h1 := keeps_releasePins a0 h0
  unfold Sys2Proof.Machine.enterReset
  exact keeps_dset _ _ _ _ (keeps_carried (r := []) _ _ h1
    (keeps_iff.2 ⟨rfl, (resetStacks_wf a0).1, (resetStacks_wf a0).2, rfl, rfl, rfl, rfl⟩))

theorem keeps_clearAlert (a0) (a1) (h0 : Keeps q a0) : Keeps q (Sys2Proof.Machine.clearAlert a0 a1) := by
  unfold Sys2Proof.Machine.clearAlert
  repeat'
      first
      | with_reducible assumption | with_reducible apply keeps_alertPin | with_reducible apply keeps_dset
      | with_reducible apply keeps_ite_keep | intro _ | split | dsimp only

theorem keeps_enterOff (a0) (h0 : Keeps q a0) : Keeps q (Sys2Proof.Machine.enterOff a0) := by
  unfold Sys2Proof.Machine.enterOff
  exact keeps_carried (r := []) _ _ (keeps_releasePins a0 h0) ⟨rfl, rfl⟩

theorem keeps_enterService (a0) (h0 : Keeps q a0) : Keeps q (Sys2Proof.Machine.enterService a0) := by
  unfold Sys2Proof.Machine.enterService
  repeat'
      first
      | with_reducible assumption | with_reducible apply keeps_noteChange | with_reducible apply keeps_haltNests | intro _ | dsimp only
      | (fail_if_no_progress with_reducible apply keeps_mk)

theorem keeps_setAlert (a0) (a1) (h0 : Keeps q a0) : Keeps q (Sys2Proof.Machine.setAlert a0 a1) := by
  unfold Sys2Proof.Machine.setAlert
  repeat'
      first
      | with_reducible assumption | with_reducible apply keeps_dset | with_reducible apply keeps_raiseLocal
      | with_reducible apply keeps_alertPin | with_reducible apply keeps_ite_keep | intro _ | split | dsimp only

theorem keeps_enterReady (a0) (h0 : Keeps q a0) : Keeps q (Sys2Proof.Machine.enterReady a0) := by
  unfold Sys2Proof.Machine.enterReady
  repeat'
      first
      | with_reducible assumption | with_reducible apply keeps_enterSeeking | with_reducible apply keeps_setTenantState
      | with_reducible apply keeps_dset | with_reducible apply keeps_noteChange | with_reducible apply keeps_ite_keep | intro _ | split
      | dsimp only | (fail_if_no_progress with_reducible apply keeps_mk)

theorem keeps_floodDown (a0) (h0 : Keeps q a0) : Keeps q (Sys2Proof.Machine.floodDown a0) := by
  unfold Sys2Proof.Machine.floodDown
  repeat' first | with_reducible assumption | with_reducible apply keeps_floodLinkState | intro _ | dsimp only

theorem keeps_readyThenService (a0) (h0 : Keeps q a0) : Keeps q (Sys2Proof.Machine.readyThenService a0) := by
  unfold Sys2Proof.Machine.readyThenService
  repeat'
      first
      | with_reducible assumption | with_reducible apply keeps_enterService | with_reducible apply keeps_enterReady
      | with_reducible apply keeps_ite_keep | intro _ | split | dsimp only

theorem keeps_farewell (a0) (a1) (h0 : Keeps q a0) : Keeps q (Sys2Proof.Machine.farewell a0 a1) := by
  unfold Sys2Proof.Machine.farewell
  repeat'
      first
      | with_reducible assumption | with_reducible apply keeps_lastAnnounce | with_reducible apply keeps_floodDown
      | with_reducible apply keeps_notice | with_reducible apply keeps_ite_keep | intro _ | split | dsimp only

theorem keeps_startReset (a0) (a1) (a2) (h0 : Keeps q a0) : Keeps q (Sys2Proof.Machine.startReset a0 a1 a2) := by
  unfold Sys2Proof.Machine.startReset
  repeat' first | with_reducible assumption | with_reducible apply keeps_enterReset | with_reducible apply keeps_farewell | intro _ | dsimp only

theorem keeps_resetAfterWithdraw (a0) (a1) (h0 : Keeps q a0) : Keeps q (Sys2Proof.Machine.resetAfterWithdraw a0 a1) := by
  unfold Sys2Proof.Machine.resetAfterWithdraw
  repeat'
      first
      | with_reducible assumption | with_reducible apply keeps_startReset | with_reducible apply keeps_startWithdraw
      | with_reducible apply keeps_ite_keep | intro _ | split | dsimp only | (fail_if_no_progress with_reducible apply keeps_mk)

theorem keeps_execWithdrawWaitExpire (a0) (h0 : Keeps q a0) : KeepsRes q (Sys2Proof.Machine.execWithdrawWaitExpire a0) := by
  unfold Sys2Proof.Machine.execWithdrawWaitExpire
  repeat'
      first
      | with_reducible assumption | with_reducible apply keeps_linkLoss | with_reducible apply keeps_startReset
      | with_reducible apply keepsRes_next | with_reducible exact keepsRes_fault _ | with_reducible exact keepsRes_refused _
      | with_reducible apply keepsOpt_some | with_reducible exact keepsOpt_none | with_reducible apply keepsRes_ite
      | with_reducible apply keeps_ite_keep | intro _ | split | dsimp only | (fail_if_no_progress with_reducible apply keeps_mk)
      | with_reducible refine keeps_of_fst ?_ (by assumption) | with_reducible refine keeps_of_snd ?_ (by assumption)
      | with_reducible refine keeps_of_snd2 ?_ (by assumption) | with_reducible refine keeps_of_some ?_ (by assumption)
      | with_reducible refine keeps_of_next ?_ (by assumption)


/-! ## Power -/

theorem keeps_stageStep (a0) (a1) (a2) (h1 : a1.wf = true) : (Sys2Proof.Machine.stageStep a0 a1 a2).wf = true := by
  unfold Sys2Proof.Machine.stageStep
  repeat'
      first
      | with_reducible assumption | with_reducible apply keeps_getD | with_reducible refine wf_stack (q := q) ?_ _
      | with_reducible apply keeps_ite_keep | with_reducible apply wf_ite | intro _ | split | dsimp only
      | (fail_if_no_progress with_reducible apply keeps_mk) | (fail_if_no_progress with_reducible apply wf_mk)
      | with_reducible refine keeps_of_fst ?_ (by assumption) | with_reducible refine keeps_of_snd ?_ (by assumption)
      | with_reducible refine keeps_of_snd2 ?_ (by assumption) | with_reducible refine keeps_of_some ?_ (by assumption)
      | with_reducible refine keeps_of_next ?_ (by assumption)

theorem keeps_execVrefCorrection (a0) (h0 : Keeps q a0) : KeepsRes q (Sys2Proof.Machine.execVrefCorrection a0) := by
  unfold Sys2Proof.Machine.execVrefCorrection
  repeat'
      first
      | with_reducible assumption | with_reducible apply keepsRes_next | with_reducible exact keepsRes_fault _
      | with_reducible exact keepsRes_refused _ | with_reducible apply keepsOpt_some | with_reducible exact keepsOpt_none
      | with_reducible apply keeps_foldl | with_reducible apply keeps_foldl_fst | with_reducible apply keeps_foldl_snd
      | with_reducible apply keeps_foldl_snd2 | with_reducible apply keepsRes_ite | with_reducible apply keeps_ite_keep | intro _ | split
      | dsimp only | (fail_if_no_progress with_reducible apply keeps_mk) | with_reducible refine keeps_of_fst ?_ (by assumption)
      | with_reducible refine keeps_of_snd ?_ (by assumption) | with_reducible refine keeps_of_snd2 ?_ (by assumption)
      | with_reducible refine keeps_of_some ?_ (by assumption) | with_reducible refine keeps_of_next ?_ (by assumption)

theorem keeps_hotRefresh (a0) (h0 : Keeps q a0) : Keeps q (Sys2Proof.Machine.hotRefresh a0) := by
  unfold Sys2Proof.Machine.hotRefresh
  repeat'
      first
      | with_reducible assumption | with_reducible apply keeps_noteChange | with_reducible apply keeps_foldl
      | with_reducible apply keeps_foldl_fst | with_reducible apply keeps_foldl_snd | with_reducible apply keeps_foldl_snd2
      | with_reducible apply wf_foldl | with_reducible apply keeps_setStack | with_reducible refine wf_stack (q := q) ?_ _
      | with_reducible apply keeps_ite_keep | with_reducible apply wf_ite | intro _ | split | dsimp only
      | (fail_if_no_progress with_reducible apply keeps_mk) | (fail_if_no_progress with_reducible apply wf_mk)
      | with_reducible refine keeps_of_fst ?_ (by assumption) | with_reducible refine keeps_of_snd ?_ (by assumption)
      | with_reducible refine keeps_of_snd2 ?_ (by assumption) | with_reducible refine keeps_of_some ?_ (by assumption)
      | with_reducible refine keeps_of_next ?_ (by assumption)

theorem keeps_driveVid (a0) (a1) (a2) (a3) (h0 : Keeps q a0) : Keeps q (Sys2Proof.Machine.driveVid a0 a1 a2 a3) := by
  unfold Sys2Proof.Machine.driveVid
  repeat'
      first
      | with_reducible assumption | with_reducible apply keeps_emit | with_reducible apply keeps_foldl
      | with_reducible apply keeps_foldl_fst | with_reducible apply keeps_foldl_snd | with_reducible apply keeps_foldl_snd2
      | with_reducible apply keeps_ite_keep | intro _ | split | dsimp only

theorem keeps_putTemp (a0) (a1) (a2) (a3) (h0 : Keeps q a0) : Keeps q (Sys2Proof.Machine.putTemp a0 a1 a2 a3) := by
  unfold Sys2Proof.Machine.putTemp
  repeat'
      first
      | with_reducible assumption | with_reducible apply keeps_dset | intro _ | split | dsimp only
      | (fail_if_no_progress with_reducible apply keeps_mk) | with_reducible refine keeps_of_fst ?_ (by assumption)
      | with_reducible refine keeps_of_snd ?_ (by assumption) | with_reducible refine keeps_of_snd2 ?_ (by assumption)
      | with_reducible refine keeps_of_some ?_ (by assumption) | with_reducible refine keeps_of_next ?_ (by assumption)

theorem keeps_boostGate (a0) (a1) (a2) (h0 : Keeps q a0) : Keeps q (Sys2Proof.Machine.boostGate a0 a1 a2) := by
  unfold Sys2Proof.Machine.boostGate
  repeat'
      first
      | with_reducible assumption | with_reducible apply keeps_dset | with_reducible apply keeps_setStack
      | with_reducible refine wf_stack (q := q) ?_ _ | with_reducible apply keeps_ite_keep | with_reducible apply wf_ite | intro _ | split
      | dsimp only | (fail_if_no_progress with_reducible apply keeps_mk) | (fail_if_no_progress with_reducible apply wf_mk)
      | with_reducible refine keeps_of_fst ?_ (by assumption) | with_reducible refine keeps_of_snd ?_ (by assumption)
      | with_reducible refine keeps_of_snd2 ?_ (by assumption) | with_reducible refine keeps_of_some ?_ (by assumption)
      | with_reducible refine keeps_of_next ?_ (by assumption)

theorem keeps_showCredit (a0) (h0 : Keeps q a0) : Keeps q (Sys2Proof.Machine.showCredit a0) := by
  unfold Sys2Proof.Machine.showCredit
  repeat' first | with_reducible assumption | with_reducible apply keeps_dset | intro _ | dsimp only

theorem keeps_vidUpdate (a0) (h0 : Keeps q a0) : Keeps q (Sys2Proof.Machine.vidUpdate a0) := by
  unfold Sys2Proof.Machine.vidUpdate
  repeat'
      first
      | with_reducible assumption | with_reducible apply keeps_driveVid | intro _ | dsimp only
      | (fail_if_no_progress with_reducible apply keeps_mk)

theorem keeps_calibrate (a0) (a1) (h0 : Keeps q a0) : Keeps q (Sys2Proof.Machine.calibrate a0 a1) := by
  unfold Sys2Proof.Machine.calibrate
  repeat'
      first
      | with_reducible assumption | with_reducible apply keeps_dset | with_reducible apply keeps_ite_keep | intro _ | split | dsimp only
      | (fail_if_no_progress with_reducible apply keeps_mk)

theorem keeps_allowanceUp (a0) (a1) (a2) (h0 : Keeps q a0) : Keeps q (Sys2Proof.Machine.allowanceUp a0 a1 a2) := by
  unfold Sys2Proof.Machine.allowanceUp
  repeat'
      first
      | with_reducible assumption | with_reducible apply keeps_fillPlaces | with_reducible apply keeps_noteChange
      | with_reducible apply keeps_setStack | with_reducible refine wf_stack (q := q) ?_ _ | with_reducible apply keeps_ite_keep
      | with_reducible apply wf_ite | intro _ | split | dsimp only | (fail_if_no_progress with_reducible apply keeps_mk)
      | (fail_if_no_progress with_reducible apply wf_mk) | with_reducible refine keeps_of_fst ?_ (by assumption)
      | with_reducible refine keeps_of_snd ?_ (by assumption) | with_reducible refine keeps_of_snd2 ?_ (by assumption)
      | with_reducible refine keeps_of_some ?_ (by assumption) | with_reducible refine keeps_of_next ?_ (by assumption)

theorem keeps_thermalTrip (a0) (a1) (h0 : Keeps q a0) : Keeps q (Sys2Proof.Machine.thermalTrip a0 a1) := by
  unfold Sys2Proof.Machine.thermalTrip
  repeat'
      first
      | with_reducible assumption | with_reducible apply keeps_enterReset | with_reducible apply keeps_emit
      | with_reducible apply keeps_getD | intro _ | split | dsimp only | (fail_if_no_progress with_reducible apply keeps_mk)
      | with_reducible refine keeps_of_fst ?_ (by assumption) | with_reducible refine keeps_of_snd ?_ (by assumption)
      | with_reducible refine keeps_of_snd2 ?_ (by assumption) | with_reducible refine keeps_of_some ?_ (by assumption)
      | with_reducible refine keeps_of_next ?_ (by assumption)

theorem keeps_publishTemps (a0) (h0 : Keeps q a0) : Keeps q (Sys2Proof.Machine.publishTemps a0) := by
  unfold Sys2Proof.Machine.publishTemps
  repeat'
      first
      | with_reducible assumption | with_reducible apply keeps_putTemp | with_reducible apply keeps_foldl
      | with_reducible apply keeps_foldl_fst | with_reducible apply keeps_foldl_snd | with_reducible apply keeps_foldl_snd2
      | with_reducible apply wf_foldl | with_reducible refine wf_stack (q := q) ?_ _ | intro _ | dsimp only

theorem keeps_execThermalHoldEnd (a0) (h0 : Keeps q a0) : KeepsRes q (Sys2Proof.Machine.execThermalHoldEnd a0) := by
  unfold Sys2Proof.Machine.execThermalHoldEnd
  repeat'
      first
      | with_reducible assumption | with_reducible apply keeps_enterReset | with_reducible apply keepsRes_next
      | with_reducible exact keepsRes_fault _ | with_reducible exact keepsRes_refused _ | with_reducible apply keepsOpt_some
      | with_reducible exact keepsOpt_none | with_reducible apply keepsRes_ite | with_reducible apply keeps_ite_keep | intro _ | split
      | dsimp only | (fail_if_no_progress with_reducible apply keeps_mk) | with_reducible refine keeps_of_fst ?_ (by assumption)
      | with_reducible refine keeps_of_snd ?_ (by assumption) | with_reducible refine keeps_of_snd2 ?_ (by assumption)
      | with_reducible refine keeps_of_some ?_ (by assumption) | with_reducible refine keeps_of_next ?_ (by assumption)

theorem keeps_applyGrants (a0) (h0 : Keeps q a0) : Keeps q (Sys2Proof.Machine.applyGrants a0) := by
  unfold Sys2Proof.Machine.applyGrants
  repeat'
      first
      | with_reducible assumption | with_reducible apply keeps_fillPlaces | with_reducible apply keeps_State_updLadle
      | with_reducible apply keeps_dset | with_reducible refine keepsOpt_map (fun _ => ?_) | with_reducible apply keeps_foldl
      | with_reducible apply keeps_foldl_fst | with_reducible apply keeps_foldl_snd | with_reducible apply keeps_foldl_snd2
      | with_reducible apply wf_foldl | with_reducible apply keeps_setStack | with_reducible refine wf_stack (q := q) ?_ _
      | with_reducible apply keeps_ite_keep | with_reducible apply wf_ite | intro _ | split | dsimp only
      | (fail_if_no_progress with_reducible apply keeps_mk) | (fail_if_no_progress with_reducible apply wf_mk)

theorem keeps_chargeCredit (a0) (a1) (h0 : Keeps q a0) : Keeps q (Sys2Proof.Machine.chargeCredit a0 a1) := by
  unfold Sys2Proof.Machine.chargeCredit
  repeat'
      first
      | with_reducible assumption | with_reducible apply keeps_bump | with_reducible apply keeps_setAlert
      | with_reducible apply keeps_getD | with_reducible apply keeps_ite_keep | intro _ | split | dsimp only
      | (fail_if_no_progress with_reducible apply keeps_mk) | with_reducible refine keeps_of_fst ?_ (by assumption)
      | with_reducible refine keeps_of_snd ?_ (by assumption) | with_reducible refine keeps_of_snd2 ?_ (by assumption)
      | with_reducible refine keeps_of_some ?_ (by assumption) | with_reducible refine keeps_of_next ?_ (by assumption)

theorem keeps_stageAll (a0) (h0 : Keeps q a0) : Keeps q (Sys2Proof.Machine.stageAll a0) := by
  unfold Sys2Proof.Machine.stageAll
  repeat'
      first
      | with_reducible assumption | with_reducible apply keeps_setAlert | with_reducible apply keeps_noteChange
      | with_reducible apply keeps_clearAlert | with_reducible apply keeps_boostGate | with_reducible apply keeps_stageStep
      | with_reducible apply keeps_foldl | with_reducible apply keeps_foldl_fst | with_reducible apply keeps_foldl_snd
      | with_reducible apply keeps_foldl_snd2 | with_reducible apply wf_foldl | with_reducible apply keeps_setStack
      | with_reducible refine wf_stack (q := q) ?_ _ | with_reducible apply keeps_ite_keep | with_reducible apply wf_ite | intro _ | split
      | dsimp only | (fail_if_no_progress with_reducible apply keeps_mk) | (fail_if_no_progress with_reducible apply wf_mk)
      | with_reducible refine keeps_of_fst ?_ (by assumption) | with_reducible refine keeps_of_snd ?_ (by assumption)
      | with_reducible refine keeps_of_snd2 ?_ (by assumption) | with_reducible refine keeps_of_some ?_ (by assumption)
      | with_reducible refine keeps_of_next ?_ (by assumption)

theorem keeps_execArbiterEpoch (a0) (h0 : Keeps q a0) : KeepsRes q (Sys2Proof.Machine.execArbiterEpoch a0) := by
  unfold Sys2Proof.Machine.execArbiterEpoch
  refine keepsRes_ite (fun _ => h0) (fun _ => ?_)
  have h1 := keeps_stageAll _ (keeps_vidUpdate _ (keeps_applyGrants _ h0))
  generalize stageAll (vidUpdate (applyGrants a0)) = s1 at h1 ⊢
  dsimp only
  generalize computeGrants s1 = c
  obtain ⟨g, lt, bt, short⟩ := c
  have h3 := keeps_chargeCredit { s1 with power := { s1.power with next := g, ladleTurn := lt, boostTurn := bt } } (g.cost + calibrationUnits s1) h1
  have h4 := keeps_ite_keep (c := short = true) h3 (fun h => keeps_bump _ 0x3000 0xB 1 h)
  refine keepsRes_next (keeps_showCredit _ (keeps_ite_keep ?_ (fun h => keeps_bump _ 0x3100 0xA 1 h)))
  exact keeps_ite (fun _ => h4) (fun _ => keeps_bump _ 0x3000 0xA 1 h4)

theorem keeps_readSensor (a0) (a1) (a2) (h0 : Keeps q a0) : Keeps q (Sys2Proof.Machine.readSensor a0 a1 a2) := by
  unfold Sys2Proof.Machine.readSensor
  repeat'
      first
      | with_reducible assumption | with_reducible apply keeps_recordFault | with_reducible apply keeps_bump
      | with_reducible apply keeps_setAlert | with_reducible apply keeps_ite_keep | intro _ | split | dsimp only
      | (fail_if_no_progress with_reducible apply keeps_mk) | with_reducible refine keeps_of_fst ?_ (by assumption)
      | with_reducible refine keeps_of_snd ?_ (by assumption) | with_reducible refine keeps_of_snd2 ?_ (by assumption)
      | with_reducible refine keeps_of_some ?_ (by assumption) | with_reducible refine keeps_of_next ?_ (by assumption)

theorem keeps_capDie (a0) (a1) (h0 : Keeps q a0) : Keeps q (Sys2Proof.Machine.capDie a0 a1) := by
  unfold Sys2Proof.Machine.capDie
  repeat'
      first
      | with_reducible assumption | with_reducible apply keeps_dset | with_reducible apply keeps_recordFault
      | with_reducible apply keeps_ite_keep | intro _ | split | dsimp only

theorem keeps_pollRail (a0) (a1) (a2) (h0 : Keeps q a0) : Keeps q (Sys2Proof.Machine.pollRail a0 a1 a2) := by
  unfold Sys2Proof.Machine.pollRail
  repeat'
      first
      | with_reducible assumption | with_reducible apply keeps_recordFault | with_reducible apply keeps_dset
      | with_reducible apply keeps_setAlert | with_reducible apply keeps_ite_keep | intro _ | split | dsimp only
      | (fail_if_no_progress with_reducible apply keeps_mk) | with_reducible refine keeps_of_fst ?_ (by assumption)
      | with_reducible refine keeps_of_snd ?_ (by assumption) | with_reducible refine keeps_of_snd2 ?_ (by assumption)
      | with_reducible refine keeps_of_some ?_ (by assumption) | with_reducible refine keeps_of_next ?_ (by assumption)

theorem keeps_readSensors (a0) (a1) (a2) (h0 : Keeps q a0) : Keeps q (Sys2Proof.Machine.readSensors a0 a1 a2) := by
  revert h0
  fun_induction Sys2Proof.Machine.readSensors a0 a1 a2 <;> intros
  all_goals repeat'
      first
      | with_reducible assumption | with_reducible apply keeps_readSensor | intro _ | split | dsimp only
      | with_reducible refine keeps_of_fst ?_ (by assumption) | with_reducible refine keeps_of_snd ?_ (by assumption)
      | with_reducible refine keeps_of_snd2 ?_ (by assumption) | with_reducible refine keeps_of_some ?_ (by assumption)
      | with_reducible refine keeps_of_next ?_ (by assumption) | apply_assumption

theorem keeps_execDieCapUpdate (a0) (h0 : Keeps q a0) : KeepsRes q (Sys2Proof.Machine.execDieCapUpdate a0) := by
  unfold Sys2Proof.Machine.execDieCapUpdate
  repeat'
      first
      | with_reducible assumption | with_reducible apply keeps_clearAlert | with_reducible apply keeps_capDie
      | with_reducible apply keeps_allowanceUp | with_reducible apply keeps_setAlert | with_reducible apply keepsRes_next
      | with_reducible exact keepsRes_fault _ | with_reducible exact keepsRes_refused _ | with_reducible apply keeps_foldl
      | with_reducible apply keeps_foldl_fst | with_reducible apply keeps_foldl_snd | with_reducible apply keeps_foldl_snd2
      | with_reducible apply keepsRes_ite | with_reducible apply keeps_ite_keep | intro _ | split | dsimp only
      | (fail_if_no_progress with_reducible apply keeps_mk)

theorem keeps_execPmbusPoll (a0) (a1) (h1 : Keeps q a1) : KeepsRes q (Sys2Proof.Machine.execPmbusPoll a0 a1) := by
  unfold Sys2Proof.Machine.execPmbusPoll
  repeat'
      first
      | with_reducible assumption | with_reducible apply keeps_recordFault | with_reducible apply keeps_calibrate
      | with_reducible apply keeps_dset | with_reducible apply keeps_setAlert | with_reducible apply keeps_pollRail
      | with_reducible apply keepsRes_next | with_reducible exact keepsRes_fault _ | with_reducible exact keepsRes_refused _
      | with_reducible apply keepsOpt_some | with_reducible exact keepsOpt_none | with_reducible refine keepsOpt_map (fun _ => ?_)
      | with_reducible apply keeps_getD | with_reducible apply keeps_foldl | with_reducible apply keeps_foldl_fst
      | with_reducible apply keeps_foldl_snd | with_reducible apply keeps_foldl_snd2 | with_reducible apply keepsRes_ite
      | with_reducible apply keeps_ite_keep | intro _ | split | dsimp only | (fail_if_no_progress with_reducible apply keeps_mk)

theorem keeps_execSensorScan (a0) (a1) (h1 : Keeps q a1) : KeepsRes q (Sys2Proof.Machine.execSensorScan a0 a1) := by
  unfold Sys2Proof.Machine.execSensorScan
  repeat'
      first
      | with_reducible assumption | with_reducible apply keeps_readSensors | with_reducible apply keeps_thermalTrip
      | with_reducible apply keeps_publishTemps | with_reducible apply keeps_hotRefresh | with_reducible apply keepsRes_next
      | with_reducible exact keepsRes_fault _ | with_reducible exact keepsRes_refused _ | with_reducible apply keepsOpt_some
      | with_reducible exact keepsOpt_none | with_reducible apply keeps_getD | with_reducible apply keepsRes_ite
      | with_reducible apply keeps_ite_keep | intro _ | split | dsimp only | (fail_if_no_progress with_reducible apply keeps_mk)
      | with_reducible refine keeps_of_fst ?_ (by assumption) | with_reducible refine keeps_of_snd ?_ (by assumption)
      | with_reducible refine keeps_of_snd2 ?_ (by assumption) | with_reducible refine keeps_of_some ?_ (by assumption)
      | with_reducible refine keeps_of_next ?_ (by assumption)


/-! ## Firmware -/

theorem keeps_loadStored (a0) (h0 : Keeps q a0) : Keeps q (Sys2Proof.Machine.loadStored a0) := by
  unfold Sys2Proof.Machine.loadStored
  repeat'
      first
      | with_reducible assumption | with_reducible apply keeps_foldl | with_reducible apply keeps_foldl_fst
      | with_reducible apply keeps_foldl_snd | with_reducible apply keeps_foldl_snd2 | with_reducible apply keeps_ite_keep | intro _ | split
      | dsimp only | (fail_if_no_progress with_reducible apply keeps_mk)

theorem keeps_measureDebug (a0) (a1) (h0 : Keeps q a0) : Keeps q (Sys2Proof.Machine.measureDebug a0 a1) := by
  unfold Sys2Proof.Machine.measureDebug
  repeat' first | with_reducible assumption | with_reducible apply keeps_measure | intro _ | dsimp only

theorem keeps_measureKeys (a0) (h0 : Keeps q a0) : Keeps q (Sys2Proof.Machine.measureKeys a0) := by
  unfold Sys2Proof.Machine.measureKeys
  repeat' first | with_reducible assumption | with_reducible apply keeps_measure | intro _ | dsimp only

theorem keeps_measureSet (a0) (a1) (h0 : Keeps q a0) : Keeps q (Sys2Proof.Machine.measureSet a0 a1) := by
  unfold Sys2Proof.Machine.measureSet
  repeat'
      first
      | with_reducible assumption | with_reducible apply keeps_measure | with_reducible apply keeps_foldl
      | with_reducible apply keeps_foldl_fst | with_reducible apply keeps_foldl_snd | with_reducible apply keeps_foldl_snd2
      | with_reducible apply keeps_ite_keep | intro _ | split | dsimp only | (fail_if_no_progress with_reducible apply keeps_mk)
      | with_reducible refine keeps_of_fst ?_ (by assumption) | with_reducible refine keeps_of_snd ?_ (by assumption)
      | with_reducible refine keeps_of_snd2 ?_ (by assumption) | with_reducible refine keeps_of_some ?_ (by assumption)
      | with_reducible refine keeps_of_next ?_ (by assumption)

theorem keeps_setUpdate (a0) (a1) (h0 : Keeps q a0) : Keeps q (Sys2Proof.Machine.setUpdate a0 a1) := by
  unfold Sys2Proof.Machine.setUpdate
  repeat' first | with_reducible assumption | with_reducible apply keeps_dset | intro _ | dsimp only

theorem keeps_updateCode (a0) (a1) (h0 : Keeps q a0) : Keeps q (Sys2Proof.Machine.updateCode a0 a1) := by
  unfold Sys2Proof.Machine.updateCode
  repeat' first | with_reducible assumption | with_reducible apply keeps_dset | intro _ | dsimp only

theorem keeps_showTarget (a0) (h0 : Keeps q a0) : Keeps q (Sys2Proof.Machine.showTarget a0) := by
  unfold Sys2Proof.Machine.showTarget
  repeat' first | with_reducible assumption | with_reducible apply keeps_dset | with_reducible apply keeps_bset | intro _ | dsimp only

theorem keeps_writeBoot (a0) (a1) (a2) (a3) (a4) (h0 : Keeps q a0) : Keeps q (Sys2Proof.Machine.writeBoot a0 a1 a2 a3 a4) := by
  unfold Sys2Proof.Machine.writeBoot
  repeat'
      first
      | with_reducible assumption | with_reducible apply keeps_dset | intro _ | split | dsimp only
      | (fail_if_no_progress with_reducible apply keeps_mk) | with_reducible refine keeps_of_fst ?_ (by assumption)
      | with_reducible refine keeps_of_snd ?_ (by assumption) | with_reducible refine keeps_of_snd2 ?_ (by assumption)
      | with_reducible refine keeps_of_some ?_ (by assumption) | with_reducible refine keeps_of_next ?_ (by assumption)

theorem keeps_loadRunning (a0) (h0 : Keeps q a0) : Keeps q (Sys2Proof.Machine.loadRunning a0) := by
  unfold Sys2Proof.Machine.loadRunning
  repeat'
      first
      | with_reducible assumption | with_reducible apply keeps_dset | with_reducible apply keeps_bset | with_reducible apply keeps_foldl
      | with_reducible apply keeps_foldl_fst | with_reducible apply keeps_foldl_snd | with_reducible apply keeps_foldl_snd2 | intro _
      | dsimp only | (fail_if_no_progress with_reducible apply keeps_mk)

theorem keeps_putModes (a0) (a1) (a2) (h0 : Keeps q a0) : Keeps q (Sys2Proof.Machine.putModes a0 a1 a2) := by
  unfold Sys2Proof.Machine.putModes
  repeat'
      first
      | with_reducible assumption | with_reducible apply keeps_dset | with_reducible apply keeps_updStack
      | with_reducible refine wf_stack (q := q) ?_ _ | intro _ | dsimp only | (fail_if_no_progress with_reducible apply keeps_mk)
      | (fail_if_no_progress with_reducible apply wf_mk)

theorem keeps_startCode (a0) (a1) (h0 : Keeps q a0) : Keeps q (Sys2Proof.Machine.startCode a0 a1) := by
  unfold Sys2Proof.Machine.startCode
  repeat' first | with_reducible assumption | with_reducible apply keeps_dset | with_reducible apply keeps_ite_keep | intro _ | split | dsimp only

theorem keeps_measureStart (a0) (h0 : Keeps q a0) : Keeps q (Sys2Proof.Machine.measureStart a0) := by
  unfold Sys2Proof.Machine.measureStart
  repeat'
      first
      | with_reducible assumption | with_reducible apply keeps_measure | with_reducible apply keeps_measureKeys
      | with_reducible apply keeps_measureSet | intro _ | dsimp only | (fail_if_no_progress with_reducible apply keeps_mk)

theorem keeps_loadIdentity (a0) (h0 : Keeps q a0) : Keeps q (Sys2Proof.Machine.loadIdentity a0) := by
  unfold Sys2Proof.Machine.loadIdentity
  repeat' first | with_reducible assumption | with_reducible apply keeps_dset | with_reducible apply keeps_bset | intro _ | dsimp only

theorem keeps_countSpares (a0) (h0 : Keeps q a0) : Keeps q (Sys2Proof.Machine.countSpares a0) := by
  unfold Sys2Proof.Machine.countSpares
  repeat'
      first
      | with_reducible assumption | with_reducible apply keeps_dset | with_reducible apply keeps_foldl
      | with_reducible apply keeps_foldl_fst | with_reducible apply keeps_foldl_snd | with_reducible apply keeps_foldl_snd2
      | with_reducible apply wf_foldl | with_reducible refine wf_stack (q := q) ?_ _ | intro _ | dsimp only

theorem keeps_applyModes (a0) (a1) (h0 : Keeps q a0) : Keeps q (Sys2Proof.Machine.applyModes a0 a1) := by
  unfold Sys2Proof.Machine.applyModes
  repeat' first | with_reducible assumption | with_reducible apply keeps_putModes | intro _ | dsimp only

theorem keeps_foundUpdate (a0) (h0 : Keeps q a0) : Keeps q (Sys2Proof.Machine.foundUpdate a0) := by
  unfold Sys2Proof.Machine.foundUpdate
  repeat'
      first
      | with_reducible assumption | with_reducible apply keeps_setUpdate | with_reducible apply keeps_showTarget
      | with_reducible apply keeps_ite_keep | intro _ | split | dsimp only

theorem keeps_loadEngines (a0) (h0 : Keeps q a0) : Keeps q (Sys2Proof.Machine.loadEngines a0) := by
  unfold Sys2Proof.Machine.loadEngines
  repeat'
      first
      | with_reducible assumption | with_reducible apply keeps_State_updEngine | with_reducible apply keeps_writeBank
      | with_reducible apply keeps_foldl | with_reducible apply keeps_foldl_fst | with_reducible apply keeps_foldl_snd
      | with_reducible apply keeps_foldl_snd2 | with_reducible apply keeps_ite_keep | intro _ | split | dsimp only
      | (fail_if_no_progress with_reducible apply keeps_mk)

theorem keeps_startEvent (a0) (a1) (a2) (a3) (h0 : Keeps q a0) : Keeps q (Sys2Proof.Machine.startEvent a0 a1 a2 a3) := by
  unfold Sys2Proof.Machine.startEvent
  repeat' first | with_reducible assumption | with_reducible apply keeps_recordEntry | with_reducible apply keeps_startCode | intro _ | dsimp only

theorem keeps_copyTrip (a0) (h0 : Keeps q a0) : Keeps q (Sys2Proof.Machine.copyTrip a0) := by
  unfold Sys2Proof.Machine.copyTrip
  repeat'
      first
      | with_reducible assumption | with_reducible apply keeps_recordEntry | with_reducible apply keeps_setAlert
      | with_reducible apply keeps_dsetStored | with_reducible apply keeps_ite_keep | intro _ | split | dsimp only
      | (fail_if_no_progress with_reducible apply keeps_mk)

theorem keeps_recordBadPages (a0) (h0 : Keeps q a0) : Keeps q (Sys2Proof.Machine.recordBadPages a0) := by
  unfold Sys2Proof.Machine.recordBadPages
  repeat'
      first
      | with_reducible assumption | with_reducible apply keeps_startEvent | with_reducible apply keeps_foldl
      | with_reducible apply keeps_foldl_fst | with_reducible apply keeps_foldl_snd | with_reducible apply keeps_foldl_snd2
      | with_reducible apply keeps_ite_keep | intro _ | split | dsimp only

theorem keeps_trainStack (a0) (a1) (a2) (h0 : Keeps q a0) : Keeps q (Sys2Proof.Machine.trainStack a0 a1 a2) := by
  unfold Sys2Proof.Machine.trainStack
  repeat'
      first
      | with_reducible assumption | with_reducible apply keeps_startEvent | with_reducible apply keeps_dset
      | with_reducible apply keeps_foldl | with_reducible apply keeps_foldl_fst | with_reducible apply keeps_foldl_snd
      | with_reducible apply keeps_foldl_snd2 | with_reducible apply wf_foldl | with_reducible apply keeps_setStack
      | with_reducible refine wf_stack (q := q) ?_ _ | with_reducible apply keeps_ite_keep | with_reducible apply wf_ite | intro _ | split
      | dsimp only | (fail_if_no_progress with_reducible apply keeps_mk) | (fail_if_no_progress with_reducible apply wf_mk)

theorem keeps_applyRepair (a0) (a1) (h0 : Keeps q a0) : Keeps q (Sys2Proof.Machine.applyRepair a0 a1) := by
  unfold Sys2Proof.Machine.applyRepair
  repeat'
      first
      | with_reducible assumption | with_reducible apply keeps_countRetired | with_reducible apply keeps_setStack
      | with_reducible refine wf_stack (q := q) ?_ _ | with_reducible apply keeps_ite_keep | with_reducible apply wf_ite | intro _ | split
      | dsimp only | (fail_if_no_progress with_reducible apply keeps_mk) | (fail_if_no_progress with_reducible apply wf_mk)
      | with_reducible refine keeps_of_fst ?_ (by assumption) | with_reducible refine keeps_of_snd ?_ (by assumption)
      | with_reducible refine keeps_of_snd2 ?_ (by assumption) | with_reducible refine keeps_of_some ?_ (by assumption)
      | with_reducible refine keeps_of_next ?_ (by assumption)

theorem keeps_enterConfig (a0) (a1) (h0 : Keeps q a0) : Keeps q (Sys2Proof.Machine.enterConfig a0 a1) := by
  unfold Sys2Proof.Machine.enterConfig
  repeat'
      first
      | with_reducible assumption | with_reducible apply keeps_recordBadPages | with_reducible apply keeps_recordEntry
      | with_reducible apply keeps_applyRepair | with_reducible apply keeps_measureStart | with_reducible apply keeps_foundUpdate
      | with_reducible apply keeps_measureDebug | with_reducible apply keeps_updateCode | with_reducible apply keeps_dset
      | with_reducible apply keeps_loadStored | with_reducible apply keeps_trainStack | with_reducible apply keeps_copyTrip
      | with_reducible apply keeps_startEvent | with_reducible apply keeps_loadRunning | with_reducible apply keeps_noteChange
      | with_reducible apply keeps_applyModes | with_reducible apply keeps_writeBoot | with_reducible apply keeps_loadIdentity
      | with_reducible apply keeps_getD | with_reducible apply keeps_foldl | with_reducible apply keeps_foldl_fst
      | with_reducible apply keeps_foldl_snd | with_reducible apply keeps_foldl_snd2 | with_reducible apply wf_foldl
      | with_reducible refine wf_stack (q := q) ?_ _ | with_reducible apply keeps_ite_keep | with_reducible apply wf_ite | intro _ | split
      | dsimp only | (fail_if_no_progress with_reducible apply keeps_mk) | (fail_if_no_progress with_reducible apply wf_mk)


/-! ## StartUp -/

theorem keeps_leaveTest (a0) (h0 : Keeps q a0) : Keeps q (Sys2Proof.Machine.leaveTest a0) := by
  unfold Sys2Proof.Machine.leaveTest
  repeat'
      first
      | with_reducible assumption | with_reducible apply keeps_foldl | with_reducible apply keeps_foldl_fst
      | with_reducible apply keeps_foldl_snd | with_reducible apply keeps_foldl_snd2 | with_reducible apply wf_foldl
      | with_reducible apply keeps_updStack | with_reducible refine wf_stack (q := q) ?_ _ | intro _ | dsimp only
      | (fail_if_no_progress with_reducible apply keeps_mk) | (fail_if_no_progress with_reducible apply wf_mk)

theorem keeps_enterRecoveryMode (a0) (a1) (h0 : Keeps q a0) : Keeps q (Sys2Proof.Machine.enterRecoveryMode a0 a1) := by
  unfold Sys2Proof.Machine.enterRecoveryMode
  repeat' first | with_reducible assumption | intro _ | dsimp only | (fail_if_no_progress with_reducible apply keeps_mk)

theorem keeps_execResetToRom (a0) (h0 : Keeps q a0) : KeepsRes q (Sys2Proof.Machine.execResetToRom a0) := by
  unfold Sys2Proof.Machine.execResetToRom
  repeat'
      first
      | with_reducible assumption | with_reducible apply keeps_noteChange | with_reducible apply keeps_emit
      | with_reducible apply keepsRes_next | with_reducible exact keepsRes_fault _ | with_reducible exact keepsRes_refused _
      | with_reducible apply keepsRes_ite | with_reducible apply keeps_ite_keep | intro _ | split | dsimp only
      | (fail_if_no_progress with_reducible apply keeps_mk)

theorem keeps_deriveFigures (a0) (h0 : Keeps q a0) : Keeps q (Sys2Proof.Machine.deriveFigures a0) := by
  unfold Sys2Proof.Machine.deriveFigures
  repeat'
      first
      | with_reducible assumption | with_reducible apply keeps_State_updLadle | with_reducible apply keeps_dset
      | with_reducible refine keepsOpt_map (fun _ => ?_) | with_reducible apply keeps_foldl | with_reducible apply keeps_foldl_fst
      | with_reducible apply keeps_foldl_snd | with_reducible apply keeps_foldl_snd2 | with_reducible apply wf_foldl
      | with_reducible refine wf_stack (q := q) ?_ _ | intro _ | dsimp only | (fail_if_no_progress with_reducible apply keeps_mk)
      | (fail_if_no_progress with_reducible apply wf_mk)

theorem keeps_disableRings (a0) (a1) (h0 : Keeps q a0) : Keeps q (Sys2Proof.Machine.disableRings a0 a1) := by
  unfold Sys2Proof.Machine.disableRings
  repeat'
      first
      | with_reducible assumption | with_reducible apply keeps_disableRing | with_reducible apply keeps_foldl
      | with_reducible apply keeps_foldl_fst | with_reducible apply keeps_foldl_snd | with_reducible apply keeps_foldl_snd2
      | with_reducible apply keeps_ite_keep | intro _ | split | dsimp only

theorem keeps_execPwrgdFall (a0) (h0 : Keeps q a0) : KeepsRes q (Sys2Proof.Machine.execPwrgdFall a0) := by
  unfold Sys2Proof.Machine.execPwrgdFall
  repeat'
      first
      | with_reducible assumption | with_reducible apply keeps_enterOff | with_reducible apply keepsRes_next
      | with_reducible exact keepsRes_fault _ | with_reducible exact keepsRes_refused _ | with_reducible apply keepsRes_ite
      | with_reducible apply keeps_ite_keep | intro _ | split | dsimp only | (fail_if_no_progress with_reducible apply keeps_mk)

theorem keeps_endTrial (a0) (h0 : Keeps q a0) : Keeps q (Sys2Proof.Machine.endTrial a0) := by
  unfold Sys2Proof.Machine.endTrial
  repeat'
      first
      | with_reducible assumption | with_reducible apply keeps_writeBoot | with_reducible apply keeps_ite_keep | intro _ | split
      | dsimp only | (fail_if_no_progress with_reducible apply keeps_mk)

theorem keeps_execSysrefLoss (a0) (h0 : Keeps q a0) : KeepsRes q (Sys2Proof.Machine.execSysrefLoss a0) := by
  unfold Sys2Proof.Machine.execSysrefLoss
  repeat'
      first
      | with_reducible assumption | with_reducible apply keeps_enterOff | with_reducible apply keepsRes_next
      | with_reducible exact keepsRes_fault _ | with_reducible exact keepsRes_refused _ | with_reducible apply keepsRes_ite
      | with_reducible apply keeps_ite_keep | intro _ | split | dsimp only

theorem keeps_execPwrgdRise (a0) (h0 : Keeps q a0) : KeepsRes q (Sys2Proof.Machine.execPwrgdRise a0) := by
  unfold Sys2Proof.Machine.execPwrgdRise
  repeat'
      first
      | with_reducible assumption | with_reducible apply keeps_enterReset | with_reducible apply keepsRes_next
      | with_reducible exact keepsRes_fault _ | with_reducible exact keepsRes_refused _ | with_reducible apply keepsRes_ite
      | with_reducible apply keeps_ite_keep | intro _ | split | dsimp only | (fail_if_no_progress with_reducible apply keeps_mk)

theorem keeps_enterTest (a0) (h0 : Keeps q a0) : Keeps q (Sys2Proof.Machine.enterTest a0) := by
  unfold Sys2Proof.Machine.enterTest
  repeat'
      first
      | with_reducible assumption | with_reducible apply keeps_measureDebug | with_reducible apply keeps_unpair
      | with_reducible apply keeps_noteChange | with_reducible apply keeps_ite_keep | intro _ | split | dsimp only
      | (fail_if_no_progress with_reducible apply keeps_mk)

theorem keeps_refuseInState (a0) (h0 : Keeps q a0) : Keeps q (Sys2Proof.Machine.refuseInState a0) := by
  unfold Sys2Proof.Machine.refuseInState
  repeat'
      first
      | with_reducible assumption | with_reducible apply keeps_stateAbort | with_reducible apply keeps_dictAnswer | intro _ | split
      | dsimp only | with_reducible refine keeps_of_fst ?_ (by assumption) | with_reducible refine keeps_of_snd ?_ (by assumption)
      | with_reducible refine keeps_of_snd2 ?_ (by assumption) | with_reducible refine keeps_of_some ?_ (by assumption)
      | with_reducible refine keeps_of_next ?_ (by assumption)

theorem keeps_execDeviceStartService (a0) (h0 : Keeps q a0) : KeepsRes q (Sys2Proof.Machine.execDeviceStartService a0) := by
  unfold Sys2Proof.Machine.execDeviceStartService
  repeat'
      first
      | with_reducible assumption | with_reducible apply keeps_refuseInState | with_reducible apply keeps_enterService
      | with_reducible apply keeps_dictAnswer | with_reducible apply keepsRes_next | with_reducible exact keepsRes_fault _
      | with_reducible exact keepsRes_refused _ | with_reducible apply keepsRes_ite | with_reducible apply keeps_ite_keep | intro _ | split
      | dsimp only

theorem keeps_execDeviceEnterTest (a0) (h0 : Keeps q a0) : KeepsRes q (Sys2Proof.Machine.execDeviceEnterTest a0) := by
  unfold Sys2Proof.Machine.execDeviceEnterTest
  repeat'
      first
      | with_reducible assumption | with_reducible apply keeps_enterTest | with_reducible apply keeps_refuseInState
      | with_reducible apply keeps_dictAnswer | with_reducible apply keepsRes_next | with_reducible exact keepsRes_fault _
      | with_reducible exact keepsRes_refused _ | with_reducible apply keepsRes_ite | with_reducible apply keeps_ite_keep | intro _ | split
      | dsimp only | (fail_if_no_progress with_reducible apply keeps_mk)

theorem keeps_execStopService (a0) (h0 : Keeps q a0) : KeepsRes q (Sys2Proof.Machine.execStopService a0) := by
  unfold Sys2Proof.Machine.execStopService
  repeat'
      first
      | with_reducible assumption | with_reducible apply keeps_enterReady | with_reducible apply keeps_dictAnswer
      | with_reducible apply keeps_disableRings | with_reducible apply keeps_refuseInState | with_reducible apply keepsRes_next
      | with_reducible exact keepsRes_fault _ | with_reducible exact keepsRes_refused _ | with_reducible apply keepsRes_ite
      | with_reducible apply keeps_ite_keep | intro _ | split | dsimp only

theorem keeps_execLeaveTest (a0) (h0 : Keeps q a0) : KeepsRes q (Sys2Proof.Machine.execLeaveTest a0) := by
  unfold Sys2Proof.Machine.execLeaveTest
  repeat'
      first
      | with_reducible assumption | with_reducible apply keeps_leaveTest | with_reducible apply keeps_readyThenService
      | with_reducible apply keeps_refuseInState | with_reducible apply keeps_dictAnswer | with_reducible apply keepsRes_next
      | with_reducible exact keepsRes_fault _ | with_reducible exact keepsRes_refused _ | with_reducible apply keepsRes_ite
      | with_reducible apply keeps_ite_keep | intro _ | split | dsimp only

theorem keeps_openStack (a0) (a1) (h0 : Keeps q a0) : Keeps q (Sys2Proof.Machine.openStack a0 a1) := by
  have h1 := keeps_setStack (x := { a0.stack a1 with cells := [], colCells := [], rowValid := [], testFrames := [], testEntering := [] }) a1 h0 rfl
  unfold Sys2Proof.Machine.openStack
  exact keeps_ite_keep (keeps_dset _ _ _ _ (keeps_putModes _ _ _ h1)) (fun h => keeps_degradeStack _ _ h)

theorem keeps_execConfigDone (a0) (h0 : Keeps q a0) : KeepsRes q (Sys2Proof.Machine.execConfigDone a0) := by
  unfold Sys2Proof.Machine.execConfigDone
  refine keepsRes_ite (fun _ => h0) (fun _ => ?_)
  have h1 : Keeps q (countSpares ((List.range 8).foldl openStack a0)) :=
    keeps_countSpares _ (keeps_foldl _ _ h0 (fun t b ht => keeps_openStack _ _ ht))
  generalize countSpares ((List.range 8).foldl openStack a0) = s1 at h1 ⊢
  have h2 := keeps_loadEngines _ (keeps_deriveFigures _
    (keeps_merges (keeps_buffers (keeps_locals (keeps_pots h1 (m := []) rfl) (m := []) rfl) (m := []) rfl) (m := []) rfl))
  refine keepsRes_next ?_
  generalize loadEngines _ = s2 at h2 ⊢
  have h3 := keeps_dset _ 0x7100 0xA (sumNat ((List.range 8).map (fun st => 32 - chanCount (s2.stack st)))) h2
  have h4 : Keeps q (if anyRetired (dset s2 0x7100 0xA (sumNat ((List.range 8).map (fun st => 32 - chanCount (s2.stack st))))) then
      dset (dset s2 0x7100 0xA (sumNat ((List.range 8).map (fun st => 32 - chanCount (s2.stack st))))) 0x1000 0x10 1
      else dset s2 0x7100 0xA (sumNat ((List.range 8).map (fun st => 32 - chanCount (s2.stack st))))) :=
    keeps_ite_keep h3 (fun h => keeps_dset _ 0x1000 0x10 1 h)
  have h5 : ∀ s4 : State, Keeps q s4 → Keeps q (if minimumMet s4 then s4 else startEvent s4 0x262 kindDevice 0) :=
    fun s4 h => keeps_ite (fun _ => h) (fun _ => keeps_startEvent _ 0x262 kindDevice 0 h)
  exact keeps_ite (fun _ => keeps_enterTest _ (h5 _ h4)) (fun _ => keeps_readyThenService _ (h5 _ h4))

theorem keeps_execRomBootDone (a0) (a1) (a2) (h2 : Keeps q a2) : KeepsRes q (Sys2Proof.Machine.execRomBootDone a0 a1 a2) := by
  unfold Sys2Proof.Machine.execRomBootDone
  repeat'
      first
      | with_reducible assumption | with_reducible apply keeps_endTrial | with_reducible apply keeps_enterRecoveryMode
      | with_reducible apply keeps_enterConfig | with_reducible apply keeps_loadIdentity | with_reducible apply keepsRes_next
      | with_reducible exact keepsRes_fault _ | with_reducible exact keepsRes_refused _ | with_reducible apply keepsOpt_some
      | with_reducible exact keepsOpt_none | with_reducible apply keepsRes_ite | with_reducible apply keeps_ite_keep | intro _ | split
      | dsimp only | (fail_if_no_progress with_reducible apply keeps_mk) | with_reducible refine keeps_of_fst ?_ (by assumption)
      | with_reducible refine keeps_of_snd ?_ (by assumption) | with_reducible refine keeps_of_snd2 ?_ (by assumption)
      | with_reducible refine keeps_of_some ?_ (by assumption) | with_reducible refine keeps_of_next ?_ (by assumption)

theorem keeps_execDeviceResetCmd (a0) (h0 : Keeps q a0) : KeepsRes q (Sys2Proof.Machine.execDeviceResetCmd a0) := by
  unfold Sys2Proof.Machine.execDeviceResetCmd
  repeat'
      first
      | with_reducible assumption | with_reducible apply keeps_resetAfterWithdraw | with_reducible apply keeps_refuseInState
      | with_reducible apply keeps_dictAnswer | with_reducible apply keepsRes_next | with_reducible exact keepsRes_fault _
      | with_reducible exact keepsRes_refused _ | with_reducible apply keepsRes_ite | with_reducible apply keeps_ite_keep | intro _ | split
      | dsimp only

theorem keeps_execPerstNAssert (a0) (h0 : Keeps q a0) : KeepsRes q (Sys2Proof.Machine.execPerstNAssert a0) := by
  unfold Sys2Proof.Machine.execPerstNAssert
  repeat'
      first
      | with_reducible assumption | with_reducible apply keeps_linkLoss | with_reducible apply keeps_linkReset
      | with_reducible apply keeps_resetAfterWithdraw | with_reducible apply keeps_dset | with_reducible apply keepsRes_next
      | with_reducible exact keepsRes_fault _ | with_reducible exact keepsRes_refused _ | with_reducible apply keepsRes_ite
      | with_reducible apply keeps_ite_keep | intro _ | split | dsimp only | (fail_if_no_progress with_reducible apply keeps_mk)


/-! ## SelfTest -/

theorem keeps_endSessions (a0) (h0 : Keeps q a0) : Keeps q (Sys2Proof.Machine.endSessions a0) := by
  unfold Sys2Proof.Machine.endSessions
  repeat' first | with_reducible assumption | intro _ | dsimp only | (fail_if_no_progress with_reducible apply keeps_mk)

theorem keeps_askVoltage (a0) (a1) (h0 : Keeps q a0) : Keeps q (Sys2Proof.Machine.askVoltage a0 a1) := by
  unfold Sys2Proof.Machine.askVoltage
  repeat'
      first
      | with_reducible assumption | with_reducible apply keeps_ite_keep | intro _ | split | dsimp only
      | (fail_if_no_progress with_reducible apply keeps_mk)

theorem keeps_resumeEngine (a0) (a1) (h0 : Keeps q a0) : Keeps q (Sys2Proof.Machine.resumeEngine a0 a1) := by
  unfold Sys2Proof.Machine.resumeEngine
  repeat'
      first
      | with_reducible assumption | intro _ | split | dsimp only | (fail_if_no_progress with_reducible apply keeps_mk)
      | with_reducible refine keeps_of_fst ?_ (by assumption) | with_reducible refine keeps_of_snd ?_ (by assumption)
      | with_reducible refine keeps_of_snd2 ?_ (by assumption) | with_reducible refine keeps_of_some ?_ (by assumption)
      | with_reducible refine keeps_of_next ?_ (by assumption)

theorem keeps_clearChannel (a0) (a1) (h0 : Keeps q a0) : Keeps q (Sys2Proof.Machine.clearChannel a0 a1) := by
  unfold Sys2Proof.Machine.clearChannel
  refine keeps_ite (fun _ => keeps_foldl _ _ h0 (fun _ _ ht => keeps_updStack _ _ ht (fun x hx => wf_rowValid hx ?_))) (fun _ => h0)
  exact mapWf_mapDrop (wf_iff.1 hx).2.2 _

theorem keeps_startRun (a0) (a1) (h0 : Keeps q a0) : Keeps q (Sys2Proof.Machine.startRun a0 a1) := by
  unfold Sys2Proof.Machine.startRun
  repeat'
      first
      | with_reducible assumption | with_reducible apply keeps_zeroFrame | with_reducible apply keeps_dset
      | with_reducible apply keeps_foldl | with_reducible apply keeps_foldl_fst | with_reducible apply keeps_foldl_snd
      | with_reducible apply keeps_foldl_snd2 | with_reducible apply wf_foldl | with_reducible apply keeps_updStack
      | with_reducible refine wf_stack (q := q) ?_ _ | with_reducible apply keeps_ite_keep | with_reducible apply wf_ite | intro _ | split
      | dsimp only | (fail_if_no_progress with_reducible apply keeps_mk) | (fail_if_no_progress with_reducible apply wf_mk)

theorem keeps_retireUnit (a0) (a1) (h0 : Keeps q a0) : Keeps q (Sys2Proof.Machine.retireUnit a0 a1) := by
  unfold Sys2Proof.Machine.retireUnit
  repeat'
      first
      | with_reducible assumption | with_reducible apply keeps_dset | with_reducible apply keeps_updStack
      | with_reducible refine wf_stack (q := q) ?_ _ | intro _ | split | dsimp only | (fail_if_no_progress with_reducible apply keeps_mk)
      | (fail_if_no_progress with_reducible apply wf_mk) | with_reducible refine keeps_of_fst ?_ (by assumption)
      | with_reducible refine keeps_of_snd ?_ (by assumption) | with_reducible refine keeps_of_snd2 ?_ (by assumption)
      | with_reducible refine keeps_of_some ?_ (by assumption) | with_reducible refine keeps_of_next ?_ (by assumption)

theorem keeps_zeroiseVault (a0) (h0 : Keeps q a0) : Keeps q (Sys2Proof.Machine.zeroiseVault a0) := by
  unfold Sys2Proof.Machine.zeroiseVault
  repeat'
      first
      | with_reducible assumption | with_reducible apply keeps_measureDebug | with_reducible apply keeps_endSessions | intro _
      | dsimp only | (fail_if_no_progress with_reducible apply keeps_mk)

theorem keeps_abandonProbes (a0) (h0 : Keeps q a0) : Keeps q (Sys2Proof.Machine.abandonProbes a0) := by
  unfold Sys2Proof.Machine.abandonProbes
  repeat'
      first
      | with_reducible assumption | with_reducible apply keeps_bump | with_reducible apply keeps_leaveTestFrame
      | with_reducible apply keeps_foldl | with_reducible apply keeps_foldl_fst | with_reducible apply keeps_foldl_snd
      | with_reducible apply keeps_foldl_snd2 | with_reducible apply wf_foldl | with_reducible apply keeps_updStack
      | with_reducible refine wf_stack (q := q) ?_ _ | intro _ | dsimp only | (fail_if_no_progress with_reducible apply keeps_mk)
      | (fail_if_no_progress with_reducible apply wf_mk)

theorem keeps_execRunDone (a0) (h0 : Keeps q a0) : KeepsRes q (Sys2Proof.Machine.execRunDone a0) := by
  unfold Sys2Proof.Machine.execRunDone
  repeat'
      first
      | with_reducible assumption | with_reducible apply keeps_bump | with_reducible apply keeps_dset
      | with_reducible apply keeps_leaveTestFrame | with_reducible apply keepsRes_next | with_reducible exact keepsRes_fault _
      | with_reducible exact keepsRes_refused _ | with_reducible apply keepsOpt_some | with_reducible exact keepsOpt_none
      | with_reducible apply keeps_foldl | with_reducible apply keeps_foldl_fst | with_reducible apply keeps_foldl_snd
      | with_reducible apply keeps_foldl_snd2 | with_reducible apply wf_foldl | with_reducible apply keeps_updStack
      | with_reducible refine wf_stack (q := q) ?_ _ | with_reducible apply keepsRes_ite | with_reducible apply keeps_ite_keep
      | with_reducible apply wf_ite | intro _ | split | dsimp only | (fail_if_no_progress with_reducible apply keeps_mk)
      | (fail_if_no_progress with_reducible apply wf_mk) | with_reducible refine keeps_of_fst ?_ (by assumption)
      | with_reducible refine keeps_of_snd ?_ (by assumption) | with_reducible refine keeps_of_snd2 ?_ (by assumption)
      | with_reducible refine keeps_of_some ?_ (by assumption) | with_reducible refine keeps_of_next ?_ (by assumption)

theorem keeps_zeroUnit (a0) (a1) (h0 : Keeps q a0) : Keeps q (Sys2Proof.Machine.zeroUnit a0 a1) := by
  unfold Sys2Proof.Machine.zeroUnit
  repeat'
      first
      | with_reducible assumption | with_reducible apply keeps_State_updWalker | with_reducible apply keeps_State_updEngine
      | with_reducible apply keeps_storeCode | with_reducible apply keeps_foldl | with_reducible apply keeps_foldl_fst
      | with_reducible apply keeps_foldl_snd | with_reducible apply keeps_foldl_snd2 | with_reducible apply keeps_foldl_Store
      | with_reducible apply keeps_ite_keep | intro _ | split | dsimp only | (fail_if_no_progress with_reducible apply keeps_mk)
      | with_reducible refine keeps_of_fst ?_ (by assumption) | with_reducible refine keeps_of_snd ?_ (by assumption)
      | with_reducible refine keeps_of_snd2 ?_ (by assumption) | with_reducible refine keeps_of_some ?_ (by assumption)
      | with_reducible refine keeps_of_next ?_ (by assumption)

theorem keeps_execRunRequest (a0) (a1) (h1 : Keeps q a1) : KeepsRes q (Sys2Proof.Machine.execRunRequest a0 a1) := by
  unfold Sys2Proof.Machine.execRunRequest
  repeat'
      first
      | with_reducible assumption | with_reducible apply keeps_dictAnswer | with_reducible apply keeps_cmdState
      | with_reducible apply keeps_abandonProbes | with_reducible apply keeps_startRun | with_reducible apply keepsRes_next
      | with_reducible exact keepsRes_fault _ | with_reducible exact keepsRes_refused _ | with_reducible apply keepsRes_ite
      | with_reducible apply keeps_ite_keep | intro _ | split | dsimp only

theorem keeps_testEvent (a0) (a1) (a2) (h0 : Keeps q a0) : Keeps q (Sys2Proof.Machine.testEvent a0 a1 a2) := by
  unfold Sys2Proof.Machine.testEvent
  repeat'
      first
      | with_reducible assumption | with_reducible apply keeps_startEvent | with_reducible apply keeps_recordEntry
      | with_reducible apply keeps_ite_keep | intro _ | split | dsimp only | (fail_if_no_progress with_reducible apply keeps_mk)
      | with_reducible refine keeps_of_fst ?_ (by assumption) | with_reducible refine keeps_of_snd ?_ (by assumption)
      | with_reducible refine keeps_of_snd2 ?_ (by assumption) | with_reducible refine keeps_of_some ?_ (by assumption)
      | with_reducible refine keeps_of_next ?_ (by assumption)

theorem keeps_afterScan (a0) (a1) (a2) (h0 : Keeps q a0) : Keeps q (Sys2Proof.Machine.afterScan a0 a1 a2) := by
  unfold Sys2Proof.Machine.afterScan
  repeat'
      first
      | with_reducible assumption | with_reducible apply keeps_recordFault | with_reducible apply keeps_updateCode
      | with_reducible apply keeps_ite_keep | intro _ | split | dsimp only | (fail_if_no_progress with_reducible apply keeps_mk)

theorem keeps_marchFaults (a0) (a1) (a2) (h0 : Keeps q a0) : Keeps q (Sys2Proof.Machine.marchFaults a0 a1 a2) := by
  unfold Sys2Proof.Machine.marchFaults
  exact keeps_ite (fun _ => keeps_foldl _ _ h0 (fun t b ht => keeps_hardFault _ _ _ _ _ _ _ ht))
    (fun _ => keeps_ite (fun _ => keeps_foldl _ _ h0 (fun t b ht => keeps_hardFault _ _ _ _ _ _ _ ht)) (fun _ => h0))

theorem keeps_copyKept (a0) (a1) (a2) (h0 : Keeps q a0) : Keeps q (Sys2Proof.Machine.copyKept a0 a1 a2) := by
  unfold Sys2Proof.Machine.copyKept
  repeat'
      first
      | with_reducible assumption | with_reducible apply keeps_copyPage | with_reducible apply keeps_foldl
      | with_reducible apply keeps_foldl_fst | with_reducible apply keeps_foldl_snd | with_reducible apply keeps_foldl_snd2
      | with_reducible apply keeps_ite_keep | intro _ | split | dsimp only | with_reducible refine keeps_of_fst ?_ (by assumption)
      | with_reducible refine keeps_of_snd ?_ (by assumption) | with_reducible refine keeps_of_snd2 ?_ (by assumption)
      | with_reducible refine keeps_of_some ?_ (by assumption) | with_reducible refine keeps_of_next ?_ (by assumption)

theorem keeps_beginUnit (a0) (a1) (h0 : Keeps q a0) : Keeps q (Sys2Proof.Machine.beginUnit a0 a1) := by
  unfold Sys2Proof.Machine.beginUnit
  repeat'
      first
      | with_reducible assumption | with_reducible apply keeps_copyKept | with_reducible apply keeps_zeroiseVault
      | with_reducible apply keeps_ite_keep | intro _ | split | dsimp only | (fail_if_no_progress with_reducible apply keeps_mk)

theorem keeps_execSelftestUnitStart (a0) (a1) (a2) (h2 : Keeps q a2) : KeepsRes q (Sys2Proof.Machine.execSelftestUnitStart a0 a1 a2) := by
  unfold Sys2Proof.Machine.execSelftestUnitStart
  repeat'
      first
      | with_reducible assumption | with_reducible apply keeps_testEvent | with_reducible apply keeps_beginUnit
      | with_reducible apply keeps_afterScan | with_reducible apply keeps_askVoltage | with_reducible apply keeps_resumeEngine
      | with_reducible apply keepsRes_next | with_reducible exact keepsRes_fault _ | with_reducible exact keepsRes_refused _
      | with_reducible apply keepsOpt_some | with_reducible exact keepsOpt_none | with_reducible apply keepsRes_ite
      | with_reducible apply keeps_ite_keep | intro _ | split | dsimp only | (fail_if_no_progress with_reducible apply keeps_mk)
      | with_reducible refine keeps_of_fst ?_ (by assumption) | with_reducible refine keeps_of_snd ?_ (by assumption)
      | with_reducible refine keeps_of_snd2 ?_ (by assumption) | with_reducible refine keeps_of_some ?_ (by assumption)
      | with_reducible refine keeps_of_next ?_ (by assumption)

theorem keeps_execSelftestRetry (a0) (a1) (a2) (h2 : Keeps q a2) : KeepsRes q (Sys2Proof.Machine.execSelftestRetry a0 a1 a2) := by
  unfold Sys2Proof.Machine.execSelftestRetry
  repeat'
      first
      | with_reducible assumption | with_reducible apply keeps_bump | with_reducible apply keeps_beginUnit
      | with_reducible apply keeps_afterScan | with_reducible apply keepsRes_next | with_reducible exact keepsRes_fault _
      | with_reducible exact keepsRes_refused _ | with_reducible apply keepsRes_ite | with_reducible apply keeps_ite_keep | intro _ | split
      | dsimp only | (fail_if_no_progress with_reducible apply keeps_mk) | with_reducible refine keeps_of_fst ?_ (by assumption)
      | with_reducible refine keeps_of_snd ?_ (by assumption) | with_reducible refine keeps_of_snd2 ?_ (by assumption)
      | with_reducible refine keeps_of_some ?_ (by assumption) | with_reducible refine keeps_of_next ?_ (by assumption)

theorem keeps_refuseWaiting (a0) (a1) (h0 : Keeps q a0) : Keeps q (Sys2Proof.Machine.refuseWaiting a0 a1) := by
  unfold Sys2Proof.Machine.refuseWaiting
  repeat'
      first
      | with_reducible assumption | with_reducible apply keeps_State_updMover | with_reducible apply keeps_State_updEngine
      | with_reducible apply keeps_refuseTask | with_reducible apply keeps_completeMove | with_reducible apply keeps_foldl
      | with_reducible apply keeps_foldl_fst | with_reducible apply keeps_foldl_snd | with_reducible apply keeps_foldl_snd2
      | with_reducible apply keeps_ite_keep | intro _ | split | dsimp only | (fail_if_no_progress with_reducible apply keeps_mk)

theorem keeps_failUnit (a0) (a1) (h0 : Keeps q a0) : Keeps q (Sys2Proof.Machine.failUnit a0 a1) := by
  unfold Sys2Proof.Machine.failUnit
  repeat'
      first
      | with_reducible assumption | with_reducible apply keeps_dset | with_reducible apply keeps_retireUnit
      | with_reducible apply keeps_refuseWaiting | with_reducible apply keeps_testEvent | with_reducible apply keeps_ite_keep | intro _
      | split | dsimp only

theorem keeps_execSelftestUnitDone (a0) (a1) (a2) (a3) (a4) (a5) (a6) (a7) (h7 : Keeps q a7) : KeepsRes q (Sys2Proof.Machine.execSelftestUnitDone a0 a1 a2 a3 a4 a5 a6 a7) := by
  unfold Sys2Proof.Machine.execSelftestUnitDone
  repeat'
      first
      | with_reducible assumption | with_reducible apply keeps_copyKept | with_reducible apply keeps_marchFaults
      | with_reducible apply keeps_zeroUnit | with_reducible apply keeps_failUnit | with_reducible apply keeps_afterScan
      | with_reducible apply keeps_clearChannel | with_reducible apply keeps_resumeEngine | with_reducible apply keepsRes_next
      | with_reducible exact keepsRes_fault _ | with_reducible exact keepsRes_refused _ | with_reducible refine wf_stack (q := q) ?_ _
      | with_reducible apply keepsRes_ite | with_reducible apply keeps_ite_keep | with_reducible apply wf_ite | intro _ | split | dsimp only
      | (fail_if_no_progress with_reducible apply keeps_mk) | (fail_if_no_progress with_reducible apply wf_mk)

end Sys2Proof.Laws
end

