-- ==== Sys2Proof/Laws/KeepsSecurity.lean ====
section
/-!
SUPPORT. What each operation keeps, over security, updates, recovery and health: the queue of waiting commands and the canonical form of every memory.
-/

set_option linter.all false
set_option Elab.async false
set_option maxRecDepth 4000

namespace Sys2Proof.Laws

open Sys2Proof Sys2Proof.Machine

variable {q : List Instr}

/-! ## Security -/

theorem keeps_dropSession (a0) (a1) (h0 : Keeps q a0) : Keeps q (Sys2Proof.Machine.dropSession a0 a1) := by
  unfold Sys2Proof.Machine.dropSession
  repeat' first | with_reducible assumption | intro _ | dsimp only | (fail_if_no_progress with_reducible apply keeps_mk)

theorem keeps_withSpdm (a0) (a1) (a2) (h1 : Keeps q a1) (h2 : ∀ x0, Keeps q x0 → Keeps q (a2 x0)) : KeepsRes q (Sys2Proof.Machine.withSpdm a0 a1 a2) := by
  unfold Sys2Proof.Machine.withSpdm
  repeat'
      first
      | with_reducible assumption | with_reducible apply h2 | with_reducible apply keepsRes_next | with_reducible exact keepsRes_fault _
      | with_reducible exact keepsRes_refused _ | with_reducible apply keepsRes_ite | with_reducible apply keeps_ite_keep | intro _ | split
      | dsimp only

theorem keeps_setSpdm (a0) (a1) (a2) (h0 : Keeps q a0) : Keeps q (Sys2Proof.Machine.setSpdm a0 a1 a2) := by
  unfold Sys2Proof.Machine.setSpdm
  repeat' first | with_reducible assumption | intro _ | dsimp only | (fail_if_no_progress with_reducible apply keeps_mk)

theorem keeps_updSession (a0) (a1) (a2) (h0 : Keeps q a0) : Keeps q (Sys2Proof.Machine.updSession a0 a1 a2) := by
  unfold Sys2Proof.Machine.updSession
  repeat'
      first
      | with_reducible assumption | with_reducible refine keepsOpt_map (fun _ => ?_) | with_reducible apply keeps_ite_keep | intro _
      | split | dsimp only | (fail_if_no_progress with_reducible apply keeps_mk)

theorem keeps_spdmAnswer (a0) (a1) (a2) (a3) (a4) (h0 : Keeps q a0) : Keeps q (Sys2Proof.Machine.spdmAnswer a0 a1 a2 a3 a4) := by
  unfold Sys2Proof.Machine.spdmAnswer
  repeat' first | with_reducible assumption | with_reducible apply keeps_emit | intro _ | dsimp only

theorem keeps_noteSpdm (a0) (a1) (a2) (h0 : Keeps q a0) : Keeps q (Sys2Proof.Machine.noteSpdm a0 a1 a2) := by
  unfold Sys2Proof.Machine.noteSpdm
  repeat'
      first
      | with_reducible assumption | with_reducible apply keeps_setSpdm | intro _ | dsimp only
      | (fail_if_no_progress with_reducible apply keeps_mk)

theorem keeps_execQuoteRead (a0) (a1) (a2) (h2 : Keeps q a2) : KeepsRes q (Sys2Proof.Machine.execQuoteRead a0 a1 a2) := by
  unfold Sys2Proof.Machine.execQuoteRead
  repeat'
      first
      | with_reducible assumption | with_reducible apply keeps_emit | with_reducible apply keeps_dictAnswer
      | with_reducible apply keepsRes_next | with_reducible exact keepsRes_fault _ | with_reducible exact keepsRes_refused _
      | with_reducible apply keepsRes_ite | with_reducible apply keeps_ite_keep | intro _ | split | dsimp only

theorem keeps_spdmError (a0) (a1) (a2) (h0 : Keeps q a0) : Keeps q (Sys2Proof.Machine.spdmError a0 a1 a2) := by
  unfold Sys2Proof.Machine.spdmError
  repeat' first | with_reducible assumption | with_reducible apply keeps_spdmAnswer | intro _ | dsimp only

theorem keeps_execQuoteNonceWrite (a0) (a1) (a2) (a3) (h3 : Keeps q a3) : KeepsRes q (Sys2Proof.Machine.execQuoteNonceWrite a0 a1 a2 a3) := by
  unfold Sys2Proof.Machine.execQuoteNonceWrite
  repeat'
      first
      | with_reducible assumption | with_reducible apply keeps_dictAnswer | with_reducible apply keepsRes_next
      | with_reducible exact keepsRes_fault _ | with_reducible exact keepsRes_refused _ | with_reducible apply keepsRes_ite
      | with_reducible apply keeps_ite_keep | intro _ | split | dsimp only | (fail_if_no_progress with_reducible apply keeps_mk)

theorem keeps_execGetVersion (a0) (a1) (h1 : Keeps q a1) : KeepsRes q (Sys2Proof.Machine.execGetVersion a0 a1) := by
  unfold Sys2Proof.Machine.execGetVersion
  repeat'
      first
      | with_reducible assumption | with_reducible apply keeps_setSpdm | with_reducible apply keeps_spdmAnswer
      | with_reducible apply keeps_withSpdm | with_reducible apply keepsRes_next | with_reducible exact keepsRes_fault _
      | with_reducible exact keepsRes_refused _ | intro _ | dsimp only | (fail_if_no_progress with_reducible apply keeps_mk)

theorem keeps_negotiated (a0) (a1) (a2) (h1 : ∀ x0, Keeps q x0 → Keeps q (a1 x0)) (h2 : Keeps q a2) : Keeps q (Sys2Proof.Machine.negotiated a0 a1 a2) := by
  unfold Sys2Proof.Machine.negotiated
  repeat'
      first
      | with_reducible assumption | with_reducible apply keeps_spdmError | with_reducible apply h1 | with_reducible apply keeps_ite_keep
      | intro _ | split | dsimp only

theorem keeps_inSession (a0) (a1) (a2) (a3) (h2 : ∀ x0, Keeps q x0 → Keeps q (a2 x0)) (h3 : Keeps q a3) : Keeps q (Sys2Proof.Machine.inSession a0 a1 a2 a3) := by
  unfold Sys2Proof.Machine.inSession
  repeat'
      first
      | with_reducible assumption | with_reducible apply keeps_spdmError | with_reducible apply keeps_updSession
      | with_reducible apply h2 | with_reducible apply keeps_ite_keep | intro _ | split | dsimp only
      | (fail_if_no_progress with_reducible apply keeps_mk)

theorem keeps_tdispMessage (a0) (a1) (a2) (a3) (h0 : Keeps q a0) : Keeps q (Sys2Proof.Machine.tdispMessage a0 a1 a2 a3) := by
  unfold Sys2Proof.Machine.tdispMessage
  repeat'
      first
      | with_reducible assumption | with_reducible apply keeps_spdmAnswer | with_reducible apply keeps_spdmError
      | with_reducible apply keeps_ite_keep | intro _ | split | dsimp only | (fail_if_no_progress with_reducible apply keeps_mk)
      | with_reducible refine keeps_of_fst ?_ (by assumption) | with_reducible refine keeps_of_snd ?_ (by assumption)
      | with_reducible refine keeps_of_snd2 ?_ (by assumption) | with_reducible refine keeps_of_some ?_ (by assumption)
      | with_reducible refine keeps_of_next ?_ (by assumption)

theorem keeps_ideMessage (a0) (a1) (a2) (a3) (a4) (h0 : Keeps q a0) : Keeps q (Sys2Proof.Machine.ideMessage a0 a1 a2 a3 a4) := by
  unfold Sys2Proof.Machine.ideMessage
  repeat'
      first
      | with_reducible assumption | with_reducible apply keeps_spdmAnswer | with_reducible apply keeps_spdmError
      | with_reducible apply keeps_ite_keep | intro _ | split | dsimp only | (fail_if_no_progress with_reducible apply keeps_mk)
      | with_reducible refine keeps_of_fst ?_ (by assumption) | with_reducible refine keeps_of_snd ?_ (by assumption)
      | with_reducible refine keeps_of_snd2 ?_ (by assumption) | with_reducible refine keeps_of_some ?_ (by assumption)
      | with_reducible refine keeps_of_next ?_ (by assumption)

theorem keeps_execGetCapabilities (a0) (a1) (a2) (h2 : Keeps q a2) : KeepsRes q (Sys2Proof.Machine.execGetCapabilities a0 a1 a2) := by
  unfold Sys2Proof.Machine.execGetCapabilities
  repeat'
      first
      | with_reducible assumption | with_reducible apply keeps_withSpdm | with_reducible apply keeps_noteSpdm
      | with_reducible apply keeps_spdmError | with_reducible apply keeps_setSpdm | with_reducible apply keeps_spdmAnswer
      | with_reducible apply keepsRes_next | with_reducible exact keepsRes_fault _ | with_reducible exact keepsRes_refused _
      | with_reducible apply keepsRes_ite | with_reducible apply keeps_ite_keep | intro _ | split | dsimp only
      | (fail_if_no_progress with_reducible apply keeps_mk)

theorem keeps_execNegotiateAlgorithms (a0) (a1) (a2) (a3) (a4) (a5) (a6) (h6 : Keeps q a6) : KeepsRes q (Sys2Proof.Machine.execNegotiateAlgorithms a0 a1 a2 a3 a4 a5 a6) := by
  unfold Sys2Proof.Machine.execNegotiateAlgorithms
  repeat'
      first
      | with_reducible assumption | with_reducible apply keeps_withSpdm | with_reducible apply keeps_noteSpdm
      | with_reducible apply keeps_spdmError | with_reducible apply keeps_setSpdm | with_reducible apply keeps_spdmAnswer
      | with_reducible apply keepsRes_next | with_reducible exact keepsRes_fault _ | with_reducible exact keepsRes_refused _
      | with_reducible apply keepsRes_ite | with_reducible apply keeps_ite_keep | intro _ | split | dsimp only
      | (fail_if_no_progress with_reducible apply keeps_mk)

theorem keeps_execKeyExchange (a0) (a1) (a2) (a3) (h3 : Keeps q a3) : KeepsRes q (Sys2Proof.Machine.execKeyExchange a0 a1 a2 a3) := by
  unfold Sys2Proof.Machine.execKeyExchange
  repeat'
      first
      | with_reducible assumption | with_reducible apply keeps_spdmAnswer | with_reducible apply keeps_withSpdm
      | with_reducible apply keeps_negotiated | with_reducible apply keeps_spdmError | with_reducible apply keepsRes_next
      | with_reducible exact keepsRes_fault _ | with_reducible exact keepsRes_refused _ | with_reducible apply keepsOpt_some
      | with_reducible exact keepsOpt_none | with_reducible apply keepsRes_ite | with_reducible apply keeps_ite_keep | intro _ | split
      | dsimp only | (fail_if_no_progress with_reducible apply keeps_mk) | with_reducible refine keeps_of_fst ?_ (by assumption)
      | with_reducible refine keeps_of_snd ?_ (by assumption) | with_reducible refine keeps_of_snd2 ?_ (by assumption)
      | with_reducible refine keeps_of_some ?_ (by assumption) | with_reducible refine keeps_of_next ?_ (by assumption)

theorem keeps_execSpdmHeartbeat (a0) (a1) (a2) (h2 : Keeps q a2) : KeepsRes q (Sys2Proof.Machine.execSpdmHeartbeat a0 a1 a2) := by
  unfold Sys2Proof.Machine.execSpdmHeartbeat
  repeat'
      first
      | with_reducible assumption | with_reducible apply keeps_inSession | with_reducible apply keeps_withSpdm
      | with_reducible apply keeps_spdmAnswer | with_reducible apply keepsRes_next | with_reducible exact keepsRes_fault _
      | with_reducible exact keepsRes_refused _ | intro _ | dsimp only

theorem keeps_execEndSession (a0) (a1) (a2) (h2 : Keeps q a2) : KeepsRes q (Sys2Proof.Machine.execEndSession a0 a1 a2) := by
  unfold Sys2Proof.Machine.execEndSession
  repeat'
      first
      | with_reducible assumption | with_reducible apply keeps_withSpdm | with_reducible apply keeps_inSession
      | with_reducible apply keeps_dropSession | with_reducible apply keeps_spdmAnswer | with_reducible apply keepsRes_next
      | with_reducible exact keepsRes_fault _ | with_reducible exact keepsRes_refused _ | intro _ | dsimp only

theorem keeps_execGetDigests (a0) (a1) (h1 : Keeps q a1) : KeepsRes q (Sys2Proof.Machine.execGetDigests a0 a1) := by
  unfold Sys2Proof.Machine.execGetDigests
  repeat'
      first
      | with_reducible assumption | with_reducible apply keeps_withSpdm | with_reducible apply keeps_noteSpdm
      | with_reducible apply keeps_negotiated | with_reducible apply keeps_spdmAnswer | with_reducible apply keepsRes_next
      | with_reducible exact keepsRes_fault _ | with_reducible exact keepsRes_refused _ | intro _ | dsimp only

theorem keeps_execGetCertificate (a0) (a1) (a2) (a3) (a4) (h4 : Keeps q a4) : KeepsRes q (Sys2Proof.Machine.execGetCertificate a0 a1 a2 a3 a4) := by
  unfold Sys2Proof.Machine.execGetCertificate
  repeat'
      first
      | with_reducible assumption | with_reducible apply keeps_withSpdm | with_reducible apply keeps_noteSpdm
      | with_reducible apply keeps_spdmError | with_reducible apply keeps_negotiated | with_reducible apply keeps_spdmAnswer
      | with_reducible apply keepsRes_next | with_reducible exact keepsRes_fault _ | with_reducible exact keepsRes_refused _
      | with_reducible apply keepsRes_ite | with_reducible apply keeps_ite_keep | intro _ | split | dsimp only

theorem keeps_execVendorDefined (a0) (a1) (a2) (a3) (a4) (a5) (a6) (h6 : Keeps q a6) : KeepsRes q (Sys2Proof.Machine.execVendorDefined a0 a1 a2 a3 a4 a5 a6) := by
  unfold Sys2Proof.Machine.execVendorDefined
  repeat'
      first
      | with_reducible assumption | with_reducible apply keeps_withSpdm | with_reducible apply keeps_spdmError
      | with_reducible apply keeps_inSession | with_reducible apply keeps_ideMessage | with_reducible apply keeps_tdispMessage
      | with_reducible apply keepsRes_next | with_reducible exact keepsRes_fault _ | with_reducible exact keepsRes_refused _ | intro _
      | split | dsimp only | (fail_if_no_progress with_reducible apply keeps_mk) | with_reducible refine keeps_of_fst ?_ (by assumption)
      | with_reducible refine keeps_of_snd ?_ (by assumption) | with_reducible refine keeps_of_snd2 ?_ (by assumption)
      | with_reducible refine keeps_of_some ?_ (by assumption) | with_reducible refine keeps_of_next ?_ (by assumption)

theorem keeps_execKeyUpdate (a0) (a1) (a2) (a3) (h3 : Keeps q a3) : KeepsRes q (Sys2Proof.Machine.execKeyUpdate a0 a1 a2 a3) := by
  unfold Sys2Proof.Machine.execKeyUpdate
  repeat'
      first
      | with_reducible assumption | with_reducible apply keeps_withSpdm | with_reducible apply keeps_spdmError
      | with_reducible apply keeps_inSession | with_reducible apply keeps_updSession | with_reducible apply keeps_spdmAnswer
      | with_reducible apply keepsRes_next | with_reducible exact keepsRes_fault _ | with_reducible exact keepsRes_refused _
      | with_reducible apply keepsRes_ite | with_reducible apply keeps_ite_keep | intro _ | split | dsimp only
      | (fail_if_no_progress with_reducible apply keeps_mk)

theorem keeps_execGetMeasurements (a0) (a1) (a2) (a3) (a4) (h4 : Keeps q a4) : KeepsRes q (Sys2Proof.Machine.execGetMeasurements a0 a1 a2 a3 a4) := by
  unfold Sys2Proof.Machine.execGetMeasurements
  repeat'
      first
      | with_reducible assumption | with_reducible apply keeps_withSpdm | with_reducible apply keeps_negotiated
      | with_reducible apply keeps_spdmAnswer | with_reducible apply keeps_noteSpdm | with_reducible apply keeps_spdmError
      | with_reducible apply keepsRes_next | with_reducible exact keepsRes_fault _ | with_reducible exact keepsRes_refused _
      | with_reducible apply keepsOpt_some | with_reducible exact keepsOpt_none | with_reducible refine keepsOpt_map (fun _ => ?_)
      | with_reducible apply keepsRes_ite | with_reducible apply keeps_ite_keep | intro _ | split | dsimp only
      | (fail_if_no_progress with_reducible apply keeps_mk) | with_reducible refine keeps_of_fst ?_ (by assumption)
      | with_reducible refine keeps_of_snd ?_ (by assumption) | with_reducible refine keeps_of_snd2 ?_ (by assumption)
      | with_reducible refine keeps_of_some ?_ (by assumption) | with_reducible refine keeps_of_next ?_ (by assumption)

theorem keeps_authFailure (a0) (h0 : Keeps q a0) : Keeps q (Sys2Proof.Machine.authFailure a0) := by
  unfold Sys2Proof.Machine.authFailure
  repeat' first | with_reducible assumption | with_reducible apply keeps_updateCode | with_reducible apply keeps_recordEntry | intro _ | dsimp only

theorem keeps_execSpdmChallenge (a0) (a1) (a2) (a3) (h3 : Keeps q a3) : KeepsRes q (Sys2Proof.Machine.execSpdmChallenge a0 a1 a2 a3) := by
  unfold Sys2Proof.Machine.execSpdmChallenge
  repeat'
      first
      | with_reducible assumption | with_reducible apply keeps_withSpdm | with_reducible apply keeps_setSpdm
      | with_reducible apply keeps_negotiated | with_reducible apply keeps_spdmAnswer | with_reducible apply keeps_spdmError
      | with_reducible apply keeps_authFailure | with_reducible apply keepsRes_next | with_reducible exact keepsRes_fault _
      | with_reducible exact keepsRes_refused _ | with_reducible apply keepsOpt_some | with_reducible exact keepsOpt_none
      | with_reducible apply keepsRes_ite | with_reducible apply keeps_ite_keep | intro _ | split | dsimp only
      | (fail_if_no_progress with_reducible apply keeps_mk) | with_reducible refine keeps_of_fst ?_ (by assumption)
      | with_reducible refine keeps_of_snd ?_ (by assumption) | with_reducible refine keeps_of_snd2 ?_ (by assumption)
      | with_reducible refine keeps_of_some ?_ (by assumption) | with_reducible refine keeps_of_next ?_ (by assumption)

theorem keeps_execFinish (a0) (a1) (a2) (a3) (h3 : Keeps q a3) : KeepsRes q (Sys2Proof.Machine.execFinish a0 a1 a2 a3) := by
  unfold Sys2Proof.Machine.execFinish
  repeat'
      first
      | with_reducible assumption | with_reducible apply keeps_withSpdm | with_reducible apply keeps_spdmAnswer
      | with_reducible apply keeps_updSession | with_reducible apply keeps_spdmError | with_reducible apply keeps_dropSession
      | with_reducible apply keeps_authFailure | with_reducible apply keepsRes_next | with_reducible exact keepsRes_fault _
      | with_reducible exact keepsRes_refused _ | with_reducible apply keepsOpt_some | with_reducible exact keepsOpt_none
      | with_reducible apply keepsRes_ite | with_reducible apply keeps_ite_keep | intro _ | split | dsimp only
      | (fail_if_no_progress with_reducible apply keeps_mk) | with_reducible refine keeps_of_fst ?_ (by assumption)
      | with_reducible refine keeps_of_snd ?_ (by assumption) | with_reducible refine keeps_of_snd2 ?_ (by assumption)
      | with_reducible refine keeps_of_some ?_ (by assumption) | with_reducible refine keeps_of_next ?_ (by assumption)


/-! ## Update -/

theorem keeps_restartCore (a0) (a1) (h0 : Keeps q a0) : Keeps q (Sys2Proof.Machine.restartCore a0 a1) := by
  unfold Sys2Proof.Machine.restartCore
  repeat'
      first
      | with_reducible assumption | with_reducible apply keeps_ite_keep | intro _ | split | dsimp only
      | (fail_if_no_progress with_reducible apply keeps_mk)

theorem keeps_setTargetManifest (a0) (a1) (h0 : Keeps q a0) : Keeps q (Sys2Proof.Machine.setTargetManifest a0 a1) := by
  unfold Sys2Proof.Machine.setTargetManifest
  repeat'
      first
      | with_reducible assumption | with_reducible apply keeps_ite_keep | intro _ | split | dsimp only
      | (fail_if_no_progress with_reducible apply keeps_mk)

theorem keeps_eraseSector (a0) (a1) (a2) (h0 : Keeps q a0) : Keeps q (Sys2Proof.Machine.eraseSector a0 a1 a2) := by
  unfold Sys2Proof.Machine.eraseSector
  repeat'
      first
      | with_reducible assumption | with_reducible apply keeps_foldl | with_reducible apply keeps_foldl_fst
      | with_reducible apply keeps_foldl_snd | with_reducible apply keeps_foldl_snd2 | with_reducible apply keeps_ite_keep | intro _ | split
      | dsimp only | (fail_if_no_progress with_reducible apply keeps_mk)

theorem keeps_addPackage (a0) (a1) (a2) (a3) (h0 : Keeps q a0) : Keeps q (Sys2Proof.Machine.addPackage a0 a1 a2 a3) := by
  unfold Sys2Proof.Machine.addPackage
  repeat'
      first
      | with_reducible assumption | with_reducible apply keeps_ite_keep | intro _ | split | dsimp only
      | (fail_if_no_progress with_reducible apply keeps_mk)

theorem keeps_writeConfig (a0) (a1) (h0 : Keeps q a0) : Keeps q (Sys2Proof.Machine.writeConfig a0 a1) := by
  unfold Sys2Proof.Machine.writeConfig
  repeat'
      first
      | with_reducible assumption | with_reducible apply keeps_ite_keep | intro _ | split | dsimp only
      | (fail_if_no_progress with_reducible apply keeps_mk)

theorem keeps_clearPart (a0) (a1) (h0 : Keeps q a0) : Keeps q (Sys2Proof.Machine.clearPart a0 a1) := by
  unfold Sys2Proof.Machine.clearPart
  repeat'
      first
      | with_reducible assumption | with_reducible apply keeps_foldl | with_reducible apply keeps_foldl_fst
      | with_reducible apply keeps_foldl_snd | with_reducible apply keeps_foldl_snd2 | intro _ | dsimp only
      | (fail_if_no_progress with_reducible apply keeps_mk)

theorem keeps_execRecoveryStatusRequest (a0) (h0 : Keeps q a0) : KeepsRes q (Sys2Proof.Machine.execRecoveryStatusRequest a0) := by
  unfold Sys2Proof.Machine.execRecoveryStatusRequest
  repeat'
      first
      | with_reducible assumption | with_reducible apply keeps_emit | with_reducible apply keepsRes_next
      | with_reducible exact keepsRes_fault _ | with_reducible exact keepsRes_refused _ | with_reducible apply keeps_getD
      | with_reducible apply keepsRes_ite | with_reducible apply keeps_ite_keep | intro _ | split | dsimp only
      | (fail_if_no_progress with_reducible apply keeps_mk)

theorem keeps_execRecoveryDatagram (a0) (a1) (h1 : Keeps q a1) : KeepsRes q (Sys2Proof.Machine.execRecoveryDatagram a0 a1) := by
  unfold Sys2Proof.Machine.execRecoveryDatagram
  repeat'
      first
      | with_reducible assumption | with_reducible apply keeps_addPackage | with_reducible apply keepsRes_next
      | with_reducible exact keepsRes_fault _ | with_reducible exact keepsRes_refused _ | with_reducible apply keepsOpt_some
      | with_reducible exact keepsOpt_none | with_reducible apply keepsRes_ite | with_reducible apply keeps_ite_keep | intro _ | split
      | dsimp only | (fail_if_no_progress with_reducible apply keeps_mk)

theorem keeps_refuseCode (a0) (a1) (h0 : Keeps q a0) : Keeps q (Sys2Proof.Machine.refuseCode a0 a1) := by
  unfold Sys2Proof.Machine.refuseCode
  repeat' first | with_reducible assumption | with_reducible apply keeps_dictAnswer | with_reducible apply keeps_updateCode | intro _ | dsimp only

theorem keeps_programChunk (a0) (a1) (a2) (h0 : Keeps q a0) : Keeps q (Sys2Proof.Machine.programChunk a0 a1 a2) := by
  unfold Sys2Proof.Machine.programChunk
  repeat'
      first
      | with_reducible assumption | with_reducible apply keeps_setUpdate | with_reducible apply keeps_eraseSector
      | with_reducible apply keeps_dset | with_reducible apply keeps_ite_keep | intro _ | split | dsimp only
      | (fail_if_no_progress with_reducible apply keeps_mk)

theorem keeps_writeSet (a0) (a1) (h0 : Keeps q a0) : Keeps q (Sys2Proof.Machine.writeSet a0 a1) := by
  unfold Sys2Proof.Machine.writeSet
  repeat'
      first
      | with_reducible assumption | with_reducible apply keeps_writeBoot | with_reducible apply keeps_foldl
      | with_reducible apply keeps_foldl_fst | with_reducible apply keeps_foldl_snd | with_reducible apply keeps_foldl_snd2
      | with_reducible apply keeps_ite_keep | intro _ | split | dsimp only | (fail_if_no_progress with_reducible apply keeps_mk)

theorem keeps_execRecoveryPackageCheck (a0) (h0 : Keeps q a0) : KeepsRes q (Sys2Proof.Machine.execRecoveryPackageCheck a0) := by
  unfold Sys2Proof.Machine.execRecoveryPackageCheck
  repeat'
      first
      | with_reducible assumption | with_reducible apply keeps_enterReset | with_reducible apply keeps_writeConfig
      | with_reducible apply keeps_writeSet | with_reducible apply keepsRes_next | with_reducible exact keepsRes_fault _
      | with_reducible exact keepsRes_refused _ | with_reducible apply keepsOpt_some | with_reducible exact keepsOpt_none
      | with_reducible apply keepsRes_ite | with_reducible apply keeps_ite_keep | intro _ | split | dsimp only
      | (fail_if_no_progress with_reducible apply keeps_mk)

theorem keeps_failActivation (a0) (a1) (h0 : Keeps q a0) : Keeps q (Sys2Proof.Machine.failActivation a0 a1) := by
  unfold Sys2Proof.Machine.failActivation
  repeat'
      first
      | with_reducible assumption | with_reducible apply keeps_recordEntry | with_reducible apply keeps_setUpdate
      | with_reducible apply keeps_updateCode | with_reducible apply keeps_restartCore | with_reducible apply keeps_ite_keep | intro _
      | split | dsimp only | (fail_if_no_progress with_reducible apply keeps_mk)

theorem keeps_refuseUpdate (a0) (h0 : Keeps q a0) : Keeps q (Sys2Proof.Machine.refuseUpdate a0) := by
  unfold Sys2Proof.Machine.refuseUpdate
  repeat'
      first
      | with_reducible assumption | with_reducible apply keeps_stateAbort | with_reducible apply keeps_dictAnswer | intro _ | split
      | dsimp only | with_reducible refine keeps_of_fst ?_ (by assumption) | with_reducible refine keeps_of_snd ?_ (by assumption)
      | with_reducible refine keeps_of_snd2 ?_ (by assumption) | with_reducible refine keeps_of_some ?_ (by assumption)
      | with_reducible refine keeps_of_next ?_ (by assumption)

theorem keeps_execUpdateVerifyDone (a0) (h0 : Keeps q a0) : KeepsRes q (Sys2Proof.Machine.execUpdateVerifyDone a0) := by
  unfold Sys2Proof.Machine.execUpdateVerifyDone
  repeat'
      first
      | with_reducible assumption | with_reducible apply keeps_recordEntry | with_reducible apply keeps_clearPart
      | with_reducible apply keeps_updateCode | with_reducible apply keeps_dset | with_reducible apply keeps_setUpdate
      | with_reducible apply keepsRes_next | with_reducible exact keepsRes_fault _ | with_reducible exact keepsRes_refused _
      | with_reducible apply keeps_foldl | with_reducible apply keeps_foldl_fst | with_reducible apply keeps_foldl_snd
      | with_reducible apply keeps_foldl_snd2 | with_reducible apply keepsRes_ite | with_reducible apply keeps_ite_keep | intro _ | split
      | dsimp only | (fail_if_no_progress with_reducible apply keeps_mk) | with_reducible refine keeps_of_fst ?_ (by assumption)
      | with_reducible refine keeps_of_snd ?_ (by assumption) | with_reducible refine keeps_of_snd2 ?_ (by assumption)
      | with_reducible refine keeps_of_some ?_ (by assumption) | with_reducible refine keeps_of_next ?_ (by assumption)

theorem keeps_cancelUpdate (a0) (h0 : Keeps q a0) : Keeps q (Sys2Proof.Machine.cancelUpdate a0) := by
  unfold Sys2Proof.Machine.cancelUpdate
  repeat'
      first
      | with_reducible assumption | with_reducible apply keeps_dset | with_reducible apply keeps_setUpdate
      | with_reducible apply keeps_refuseUpdate | with_reducible apply keeps_bset | with_reducible apply keeps_setTargetManifest
      | with_reducible apply keeps_dictAnswer | with_reducible apply keeps_ite_keep | intro _ | split | dsimp only

theorem keeps_stageManifest (a0) (a1) (h0 : Keeps q a0) : Keeps q (Sys2Proof.Machine.stageManifest a0 a1) := by
  unfold Sys2Proof.Machine.stageManifest
  repeat'
      first
      | with_reducible assumption | with_reducible apply keeps_setTargetManifest | with_reducible apply keeps_setUpdate
      | with_reducible apply keeps_showTarget | with_reducible apply keeps_refuseUpdate | with_reducible apply keeps_dictAnswer
      | with_reducible apply keeps_refuseCode | with_reducible apply keeps_ite_keep | intro _ | split | dsimp only
      | (fail_if_no_progress with_reducible apply keeps_mk)

theorem keeps_activate (a0) (h0 : Keeps q a0) : Keeps q (Sys2Proof.Machine.activate a0) := by
  unfold Sys2Proof.Machine.activate
  repeat'
      first
      | with_reducible assumption | with_reducible apply keeps_setUpdate | with_reducible apply keeps_refuseUpdate
      | with_reducible apply keeps_bump | with_reducible apply keeps_dictAnswer | with_reducible apply keeps_refuseCode
      | with_reducible apply keeps_ite_keep | intro _ | split | dsimp only | (fail_if_no_progress with_reducible apply keeps_mk)

theorem keeps_confirmSet (a0) (a1) (h0 : Keeps q a0) : Keeps q (Sys2Proof.Machine.confirmSet a0 a1) := by
  unfold Sys2Proof.Machine.confirmSet
  repeat'
      first
      | with_reducible assumption | with_reducible apply keeps_dset | with_reducible apply keeps_setUpdate
      | with_reducible apply keeps_writeBoot | with_reducible apply keeps_showTarget | with_reducible apply keeps_refuseUpdate
      | with_reducible apply keeps_dictAnswer | with_reducible apply keeps_ite_keep | intro _ | split | dsimp only

theorem keeps_writeChunk (a0) (a1) (a2) (h0 : Keeps q a0) : Keeps q (Sys2Proof.Machine.writeChunk a0 a1 a2) := by
  unfold Sys2Proof.Machine.writeChunk
  repeat'
      first
      | with_reducible assumption | with_reducible apply keeps_programChunk | with_reducible apply keeps_refuseUpdate
      | with_reducible apply keeps_dictAnswer | with_reducible apply keeps_ite_keep | intro _ | split | dsimp only

theorem keeps_execRecoveryData (a0) (a1) (a2) (a3) (h3 : Keeps q a3) : KeepsRes q (Sys2Proof.Machine.execRecoveryData a0 a1 a2 a3) := by
  unfold Sys2Proof.Machine.execRecoveryData
  repeat'
      first
      | with_reducible assumption | with_reducible apply keeps_addPackage | with_reducible apply keeps_refuseInState
      | with_reducible apply keeps_dictAnswer | with_reducible apply keepsRes_next | with_reducible exact keepsRes_fault _
      | with_reducible exact keepsRes_refused _ | with_reducible apply keepsOpt_some | with_reducible exact keepsOpt_none
      | with_reducible apply keepsRes_ite | with_reducible apply keeps_ite_keep | intro _ | split | dsimp only
      | (fail_if_no_progress with_reducible apply keeps_mk) | with_reducible refine keeps_of_fst ?_ (by assumption)
      | with_reducible refine keeps_of_snd ?_ (by assumption) | with_reducible refine keeps_of_snd2 ?_ (by assumption)
      | with_reducible refine keeps_of_some ?_ (by assumption) | with_reducible refine keeps_of_next ?_ (by assumption)

theorem keeps_execActivationFailed (a0) (a1) (h1 : Keeps q a1) : KeepsRes q (Sys2Proof.Machine.execActivationFailed a0 a1) := by
  unfold Sys2Proof.Machine.execActivationFailed
  repeat'
      first
      | with_reducible assumption | with_reducible apply keeps_failActivation | with_reducible apply keepsRes_next
      | with_reducible exact keepsRes_fault _ | with_reducible exact keepsRes_refused _ | with_reducible apply keepsRes_ite
      | with_reducible apply keeps_ite_keep | intro _ | split | dsimp only

theorem keeps_newRuntime (a0) (a1) (a2) (h0 : Keeps q a0) : Keeps q (Sys2Proof.Machine.newRuntime a0 a1 a2) := by
  unfold Sys2Proof.Machine.newRuntime
  repeat'
      first
      | with_reducible assumption | with_reducible apply keeps_enqueue64 | with_reducible apply keeps_State_updEngine
      | with_reducible apply keeps_ite_keep | intro _ | split | dsimp only | (fail_if_no_progress with_reducible apply keeps_mk)

theorem keeps_execActivationDone (a0) (h0 : Keeps q a0) : KeepsRes q (Sys2Proof.Machine.execActivationDone a0) := by
  unfold Sys2Proof.Machine.execActivationDone
  repeat'
      first
      | with_reducible assumption | with_reducible apply keeps_failActivation | with_reducible apply keeps_placeSoon
      | with_reducible apply keeps_setUpdate | with_reducible apply keeps_newRuntime | with_reducible apply keeps_dset
      | with_reducible apply keeps_measureSet | with_reducible apply keeps_restartCore | with_reducible apply keeps_bset
      | with_reducible apply keeps_writeBoot | with_reducible apply keepsRes_next | with_reducible exact keepsRes_fault _
      | with_reducible exact keepsRes_refused _ | with_reducible apply keepsOpt_some | with_reducible exact keepsOpt_none
      | with_reducible apply keeps_foldl | with_reducible apply keeps_foldl_fst | with_reducible apply keeps_foldl_snd
      | with_reducible apply keeps_foldl_snd2 | with_reducible apply keepsRes_ite | with_reducible apply keeps_ite_keep | intro _ | split
      | dsimp only | (fail_if_no_progress with_reducible apply keeps_mk) | with_reducible refine keeps_of_fst ?_ (by assumption)
      | with_reducible refine keeps_of_snd ?_ (by assumption) | with_reducible refine keeps_of_snd2 ?_ (by assumption)
      | with_reducible refine keeps_of_some ?_ (by assumption) | with_reducible refine keeps_of_next ?_ (by assumption)

theorem keeps_served (a0) (a1) (h0 : Keeps q a0) (h1 : ∀ x0, Keeps q x0 → Keeps q (a1 x0)) : KeepsRes q (Sys2Proof.Machine.served a0 a1) := by
  unfold Sys2Proof.Machine.served
  repeat'
      first
      | with_reducible assumption | with_reducible apply keeps_dictAnswer | with_reducible apply h1 | with_reducible apply keepsRes_next
      | with_reducible exact keepsRes_fault _ | with_reducible exact keepsRes_refused _ | with_reducible apply keepsOpt_some
      | with_reducible exact keepsOpt_none | with_reducible apply keepsRes_ite | with_reducible apply keeps_ite_keep | intro _ | split
      | dsimp only | (fail_if_no_progress with_reducible apply keeps_mk) | with_reducible refine keeps_of_fst ?_ (by assumption)
      | with_reducible refine keeps_of_snd ?_ (by assumption) | with_reducible refine keeps_of_snd2 ?_ (by assumption)
      | with_reducible refine keeps_of_some ?_ (by assumption) | with_reducible refine keeps_of_next ?_ (by assumption)

theorem keeps_execChunk (a0) (a1) (a2) (h2 : Keeps q a2) : KeepsRes q (Sys2Proof.Machine.execChunk a0 a1 a2) := by
  unfold Sys2Proof.Machine.execChunk
  repeat'
      first
      | with_reducible assumption | with_reducible apply keeps_writeChunk | with_reducible apply keeps_served
      | with_reducible apply keepsRes_next | with_reducible exact keepsRes_fault _ | with_reducible exact keepsRes_refused _ | intro _
      | dsimp only

theorem keeps_execStageManifest (a0) (a1) (h1 : Keeps q a1) : KeepsRes q (Sys2Proof.Machine.execStageManifest a0 a1) := by
  unfold Sys2Proof.Machine.execStageManifest
  repeat'
      first
      | with_reducible assumption | with_reducible apply keeps_served | with_reducible apply keeps_stageManifest
      | with_reducible apply keepsRes_next | with_reducible exact keepsRes_fault _ | with_reducible exact keepsRes_refused _ | intro _
      | dsimp only

theorem keeps_execConfirm (a0) (a1) (h1 : Keeps q a1) : KeepsRes q (Sys2Proof.Machine.execConfirm a0 a1) := by
  unfold Sys2Proof.Machine.execConfirm
  repeat'
      first
      | with_reducible assumption | with_reducible apply keeps_confirmSet | with_reducible apply keeps_served
      | with_reducible apply keepsRes_next | with_reducible exact keepsRes_fault _ | with_reducible exact keepsRes_refused _ | intro _
      | dsimp only

theorem keeps_execActivate (a0) (h0 : Keeps q a0) : KeepsRes q (Sys2Proof.Machine.execActivate a0) := by
  unfold Sys2Proof.Machine.execActivate
  repeat'
      first
      | with_reducible assumption | with_reducible apply keeps_activate | with_reducible apply keeps_served
      | with_reducible apply keepsRes_next | with_reducible exact keepsRes_fault _ | with_reducible exact keepsRes_refused _ | intro _
      | dsimp only

theorem keeps_execUpdateCancel (a0) (h0 : Keeps q a0) : KeepsRes q (Sys2Proof.Machine.execUpdateCancel a0) := by
  unfold Sys2Proof.Machine.execUpdateCancel
  repeat'
      first
      | with_reducible assumption | with_reducible apply keeps_served | with_reducible apply keeps_cancelUpdate
      | with_reducible apply keepsRes_next | with_reducible exact keepsRes_fault _ | with_reducible exact keepsRes_refused _ | intro _
      | dsimp only


/-! ## Recovery -/

theorem keeps_updCore (a0) (a1) (a2) (h0 : Keeps q a0) : Keeps q (Sys2Proof.Machine.updCore a0 a1 a2) := by
  unfold Sys2Proof.Machine.updCore
  repeat'
      first
      | with_reducible assumption | with_reducible apply keeps_ite_keep | intro _ | split | dsimp only
      | (fail_if_no_progress with_reducible apply keeps_mk)

theorem keeps_dropCore (a0) (a1) (h0 : Keeps q a0) : Keeps q (Sys2Proof.Machine.dropCore a0 a1) := by
  unfold Sys2Proof.Machine.dropCore
  repeat'
      first
      | with_reducible assumption | with_reducible apply keeps_updCore | intro _ | dsimp only
      | (fail_if_no_progress with_reducible apply keeps_mk)

theorem keeps_execServiceCoreRestartDone (a0) (a1) (h1 : Keeps q a1) : KeepsRes q (Sys2Proof.Machine.execServiceCoreRestartDone a0 a1) := by
  unfold Sys2Proof.Machine.execServiceCoreRestartDone
  repeat'
      first
      | with_reducible assumption | with_reducible apply keeps_updCore | with_reducible apply keepsRes_next
      | with_reducible exact keepsRes_fault _ | with_reducible exact keepsRes_refused _ | with_reducible apply keepsRes_ite
      | with_reducible apply keeps_ite_keep | intro _ | split | dsimp only | (fail_if_no_progress with_reducible apply keeps_mk)

theorem keeps_moveService (a0) (h0 : Keeps q a0) : Keeps q (Sys2Proof.Machine.moveService a0) := by
  unfold Sys2Proof.Machine.moveService
  repeat'
      first
      | with_reducible assumption | with_reducible apply keeps_dictAnswer | with_reducible apply keeps_endSessions
      | with_reducible apply keeps_foldl | with_reducible apply keeps_foldl_fst | with_reducible apply keeps_foldl_snd
      | with_reducible apply keeps_foldl_snd2 | with_reducible apply keeps_ite_keep | intro _ | split | dsimp only
      | (fail_if_no_progress with_reducible apply keeps_mk)

theorem keeps_clearSummary (a0) (a1) (h0 : Keeps q a0) : Keeps q (Sys2Proof.Machine.clearSummary a0 a1) := by
  unfold Sys2Proof.Machine.clearSummary
  repeat'
      first
      | with_reducible assumption | with_reducible apply keeps_dictAnswer | with_reducible apply keeps_noteChange
      | with_reducible apply keeps_ite_keep | intro _ | split | dsimp only | (fail_if_no_progress with_reducible apply keeps_mk)

theorem keeps_clearRing (a0) (a1) (h0 : Keeps q a0) : Keeps q (Sys2Proof.Machine.clearRing a0 a1) := by
  unfold Sys2Proof.Machine.clearRing
  repeat'
      first
      | with_reducible assumption | with_reducible apply keeps_dictAnswer | with_reducible apply keeps_noteChange
      | with_reducible apply keeps_ite_keep | intro _ | split | dsimp only | (fail_if_no_progress with_reducible apply keeps_mk)

theorem keeps_drainForRecovery (a0) (a1) (h0 : Keeps q a0) : Keeps q (Sys2Proof.Machine.drainForRecovery a0 a1) := by
  unfold Sys2Proof.Machine.drainForRecovery
  repeat'
      first
      | with_reducible assumption | with_reducible apply keeps_State_updEngine | intro _ | dsimp only
      | (fail_if_no_progress with_reducible apply keeps_mk)

theorem keeps_execServiceCoresDead (a0) (h0 : Keeps q a0) : KeepsRes q (Sys2Proof.Machine.execServiceCoresDead a0) := by
  unfold Sys2Proof.Machine.execServiceCoresDead
  repeat'
      first
      | with_reducible assumption | with_reducible apply keeps_enterReset | with_reducible apply keepsRes_next
      | with_reducible exact keepsRes_fault _ | with_reducible exact keepsRes_refused _ | with_reducible apply keepsRes_ite
      | with_reducible apply keeps_ite_keep | intro _ | split | dsimp only

theorem keeps_nextRecovery (a0) (a1) (h1 : Keeps q a1) : Keeps q (Sys2Proof.Machine.nextRecovery a0 a1) := by
  revert h1
  fun_induction Sys2Proof.Machine.nextRecovery a0 a1 <;> intros
  all_goals repeat'
      first
      | with_reducible assumption | with_reducible apply keeps_beginRecovery | with_reducible apply keeps_ite_keep | intro _ | split
      | dsimp only | (fail_if_no_progress with_reducible apply keeps_mk) | with_reducible refine keeps_of_fst ?_ (by assumption)
      | with_reducible refine keeps_of_snd ?_ (by assumption) | with_reducible refine keeps_of_snd2 ?_ (by assumption)
      | with_reducible refine keeps_of_some ?_ (by assumption) | with_reducible refine keeps_of_next ?_ (by assumption) | apply_assumption

theorem keeps_closeWindow (a0) (h0 : Keeps q a0) : Keeps q (Sys2Proof.Machine.closeWindow a0) := by
  unfold Sys2Proof.Machine.closeWindow
  repeat'
      first
      | with_reducible assumption | with_reducible apply keeps_nextRecovery | with_reducible apply keeps_noteChange | intro _
      | dsimp only | (fail_if_no_progress with_reducible apply keeps_mk)

theorem keeps_loseCore (a0) (a1) (h0 : Keeps q a0) : Keeps q (Sys2Proof.Machine.loseCore a0 a1) := by
  unfold Sys2Proof.Machine.loseCore
  repeat'
      first
      | with_reducible assumption | with_reducible apply keeps_recordEntry | with_reducible apply keeps_failActivation
      | with_reducible apply keeps_recordFault | with_reducible apply keeps_moveService | with_reducible apply keeps_enterReset
      | with_reducible apply keeps_bump | with_reducible apply keeps_dropCore | with_reducible apply keeps_ite_keep | intro _ | split
      | dsimp only | (fail_if_no_progress with_reducible apply keeps_mk)

theorem keeps_execFatalReset (a0) (h0 : Keeps q a0) : KeepsRes q (Sys2Proof.Machine.execFatalReset a0) := by
  unfold Sys2Proof.Machine.execFatalReset
  repeat'
      first
      | with_reducible assumption | with_reducible apply keeps_startReset | with_reducible apply keeps_bsetStored
      | with_reducible apply keepsRes_next | with_reducible exact keepsRes_fault _ | with_reducible exact keepsRes_refused _
      | with_reducible apply keepsOpt_some | with_reducible exact keepsOpt_none | with_reducible apply keeps_getD | intro _ | split
      | dsimp only | (fail_if_no_progress with_reducible apply keeps_mk) | with_reducible refine keeps_of_fst ?_ (by assumption)
      | with_reducible refine keeps_of_snd ?_ (by assumption) | with_reducible refine keeps_of_snd2 ?_ (by assumption)
      | with_reducible refine keeps_of_some ?_ (by assumption) | with_reducible refine keeps_of_next ?_ (by assumption)

theorem keeps_execRecoveryWindowClose (a0) (h0 : Keeps q a0) : KeepsRes q (Sys2Proof.Machine.execRecoveryWindowClose a0) := by
  unfold Sys2Proof.Machine.execRecoveryWindowClose
  repeat'
      first
      | with_reducible assumption | with_reducible apply keeps_closeWindow | with_reducible apply keepsRes_next
      | with_reducible exact keepsRes_fault _ | with_reducible exact keepsRes_refused _ | with_reducible apply keepsOpt_some
      | with_reducible exact keepsOpt_none | with_reducible apply keepsRes_ite | with_reducible apply keeps_ite_keep | intro _ | split
      | dsimp only | (fail_if_no_progress with_reducible apply keeps_mk) | with_reducible refine keeps_of_fst ?_ (by assumption)
      | with_reducible refine keeps_of_snd ?_ (by assumption) | with_reducible refine keeps_of_snd2 ?_ (by assumption)
      | with_reducible refine keeps_of_some ?_ (by assumption) | with_reducible refine keeps_of_next ?_ (by assumption)

theorem keeps_execRecoveryTimeout (a0) (h0 : Keeps q a0) : KeepsRes q (Sys2Proof.Machine.execRecoveryTimeout a0) := by
  unfold Sys2Proof.Machine.execRecoveryTimeout
  repeat'
      first
      | with_reducible assumption | with_reducible apply keeps_recordFault | with_reducible apply keepsRes_next
      | with_reducible exact keepsRes_fault _ | with_reducible exact keepsRes_refused _ | with_reducible apply keepsOpt_some
      | with_reducible exact keepsOpt_none | with_reducible apply keepsRes_ite | with_reducible apply keeps_ite_keep | intro _ | split
      | dsimp only | (fail_if_no_progress with_reducible apply keeps_mk) | with_reducible refine keeps_of_fst ?_ (by assumption)
      | with_reducible refine keeps_of_snd ?_ (by assumption) | with_reducible refine keeps_of_snd2 ?_ (by assumption)
      | with_reducible refine keeps_of_some ?_ (by assumption) | with_reducible refine keeps_of_next ?_ (by assumption)

theorem keeps_execServiceCoreFault (a0) (a1) (h1 : Keeps q a1) : KeepsRes q (Sys2Proof.Machine.execServiceCoreFault a0 a1) := by
  unfold Sys2Proof.Machine.execServiceCoreFault
  repeat'
      first
      | with_reducible assumption | with_reducible apply keeps_loseCore | with_reducible apply keepsRes_next
      | with_reducible exact keepsRes_fault _ | with_reducible exact keepsRes_refused _ | with_reducible apply keepsRes_ite
      | with_reducible apply keeps_ite_keep | intro _ | split | dsimp only

theorem keeps_execCoreHeartbeatCheck (a0) (a1) (a2) (h2 : Keeps q a2) : KeepsRes q (Sys2Proof.Machine.execCoreHeartbeatCheck a0 a1 a2) := by
  unfold Sys2Proof.Machine.execCoreHeartbeatCheck
  repeat'
      first
      | with_reducible assumption | with_reducible apply keeps_loseCore | with_reducible apply keeps_updCore
      | with_reducible apply keepsRes_next | with_reducible exact keepsRes_fault _ | with_reducible exact keepsRes_refused _
      | with_reducible apply keepsRes_ite | with_reducible apply keeps_ite_keep | intro _ | split | dsimp only
      | (fail_if_no_progress with_reducible apply keeps_mk)

theorem keeps_reloadServing (a0) (a1) (a2) (h0 : Keeps q a0) : Keeps q (Sys2Proof.Machine.reloadServing a0 a1 a2) := by
  unfold Sys2Proof.Machine.reloadServing
  repeat'
      first
      | with_reducible assumption | with_reducible apply keeps_discardQueue | with_reducible apply keeps_State_updEngine
      | with_reducible apply keeps_writeBank | with_reducible apply keeps_ite_keep | intro _ | split | dsimp only
      | (fail_if_no_progress with_reducible apply keeps_mk)

theorem keeps_abandonContext (a0) (h0 : Keeps q a0) : Keeps q (Sys2Proof.Machine.abandonContext a0) := by
  unfold Sys2Proof.Machine.abandonContext
  repeat'
      first
      | with_reducible assumption | with_reducible apply keeps_discardQueue | with_reducible apply keeps_setTenantFault
      | with_reducible apply keeps_leaveContext | with_reducible apply keeps_foldl | with_reducible apply keeps_foldl_fst
      | with_reducible apply keeps_foldl_snd | with_reducible apply keeps_foldl_snd2 | with_reducible apply keeps_ite_keep | intro _ | split
      | dsimp only | (fail_if_no_progress with_reducible apply keeps_mk)

theorem keeps_execRecoveryDone (a0) (h0 : Keeps q a0) : KeepsRes q (Sys2Proof.Machine.execRecoveryDone a0) := by
  unfold Sys2Proof.Machine.execRecoveryDone
  repeat'
      first
      | with_reducible assumption | with_reducible apply keeps_recordEntry | with_reducible apply keeps_releaseDoorbells
      | with_reducible apply keeps_closeWindow | with_reducible apply keeps_noteChange | with_reducible apply keeps_reloadServing
      | with_reducible apply keepsRes_next | with_reducible exact keepsRes_fault _ | with_reducible exact keepsRes_refused _
      | with_reducible apply keepsOpt_some | with_reducible exact keepsOpt_none | with_reducible apply keeps_foldl
      | with_reducible apply keeps_foldl_fst | with_reducible apply keeps_foldl_snd | with_reducible apply keeps_foldl_snd2
      | with_reducible apply keepsRes_ite | with_reducible apply keeps_ite_keep | intro _ | split | dsimp only
      | (fail_if_no_progress with_reducible apply keeps_mk) | with_reducible refine keeps_of_fst ?_ (by assumption)
      | with_reducible refine keeps_of_snd ?_ (by assumption) | with_reducible refine keeps_of_snd2 ?_ (by assumption)
      | with_reducible refine keeps_of_some ?_ (by assumption) | with_reducible refine keeps_of_next ?_ (by assumption)

theorem keeps_execDeviceRecovery (a0) (h0 : Keeps q a0) : KeepsRes q (Sys2Proof.Machine.execDeviceRecovery a0) := by
  unfold Sys2Proof.Machine.execDeviceRecovery
  repeat'
      first
      | with_reducible assumption | with_reducible apply keeps_drainForRecovery | with_reducible apply keeps_setStep
      | with_reducible apply keeps_abandonContext | with_reducible apply keeps_bump | with_reducible apply keeps_noteChange
      | with_reducible apply keepsRes_next | with_reducible exact keepsRes_fault _ | with_reducible exact keepsRes_refused _
      | with_reducible apply keepsOpt_some | with_reducible exact keepsOpt_none | with_reducible refine keepsOpt_map (fun _ => ?_)
      | with_reducible apply keeps_foldl | with_reducible apply keeps_foldl_fst | with_reducible apply keeps_foldl_snd
      | with_reducible apply keeps_foldl_snd2 | with_reducible apply keepsRes_ite | with_reducible apply keeps_ite_keep | intro _ | split
      | dsimp only | (fail_if_no_progress with_reducible apply keeps_mk) | with_reducible refine keeps_of_fst ?_ (by assumption)
      | with_reducible refine keeps_of_snd ?_ (by assumption) | with_reducible refine keeps_of_snd2 ?_ (by assumption)
      | with_reducible refine keeps_of_some ?_ (by assumption) | with_reducible refine keeps_of_next ?_ (by assumption)

theorem keeps_execRingClear (a0) (a1) (h1 : Keeps q a1) : KeepsRes q (Sys2Proof.Machine.execRingClear a0 a1) := by
  unfold Sys2Proof.Machine.execRingClear
  repeat'
      first
      | with_reducible assumption | with_reducible apply keeps_served | with_reducible apply keeps_clearRing
      | with_reducible apply keepsRes_next | with_reducible exact keepsRes_fault _ | with_reducible exact keepsRes_refused _ | intro _
      | dsimp only

theorem keeps_execFaultSummaryWrite (a0) (a1) (h1 : Keeps q a1) : KeepsRes q (Sys2Proof.Machine.execFaultSummaryWrite a0 a1) := by
  unfold Sys2Proof.Machine.execFaultSummaryWrite
  repeat'
      first
      | with_reducible assumption | with_reducible apply keeps_served | with_reducible apply keeps_clearSummary
      | with_reducible apply keepsRes_next | with_reducible exact keepsRes_fault _ | with_reducible exact keepsRes_refused _ | intro _
      | dsimp only


/-! ## Health -/

theorem keeps_dayMonitor (a0) (a1) (a2) (h0 : Keeps q a0) : Keeps q (Sys2Proof.Machine.dayMonitor a0 a1 a2) := by
  unfold Sys2Proof.Machine.dayMonitor
  repeat'
      first
      | with_reducible assumption | intro _ | split | dsimp only | (fail_if_no_progress with_reducible apply keeps_mk)
      | with_reducible refine keeps_of_fst ?_ (by assumption) | with_reducible refine keeps_of_snd ?_ (by assumption)
      | with_reducible refine keeps_of_snd2 ?_ (by assumption) | with_reducible refine keeps_of_some ?_ (by assumption)
      | with_reducible refine keeps_of_next ?_ (by assumption)

theorem keeps_freeWord256 (a0) (h0 : Keeps q a0) : Keeps q (Sys2Proof.Machine.freeWord256 a0).2 := by
  unfold Sys2Proof.Machine.freeWord256
  repeat'
      first
      | with_reducible assumption | with_reducible apply keeps_freeValue | with_reducible apply keeps_foldl
      | with_reducible apply keeps_foldl_fst | with_reducible apply keeps_foldl_snd | with_reducible apply keeps_foldl_snd2 | intro _
      | split | dsimp only | with_reducible refine keeps_of_fst ?_ (by assumption) | with_reducible refine keeps_of_snd ?_ (by assumption)
      | with_reducible refine keeps_of_snd2 ?_ (by assumption) | with_reducible refine keeps_of_some ?_ (by assumption)
      | with_reducible refine keeps_of_next ?_ (by assumption)

theorem keeps_quotient (a0) (a1) (a2) (h0 : Keeps q a0) : Keeps q (Sys2Proof.Machine.quotient a0 a1 a2).2 := by
  unfold Sys2Proof.Machine.quotient
  repeat'
      first
      | with_reducible assumption | with_reducible apply keeps_freeValue | with_reducible apply keeps_ite_keep | intro _ | split
      | dsimp only | with_reducible refine keeps_of_fst ?_ (by assumption) | with_reducible refine keeps_of_snd ?_ (by assumption)
      | with_reducible refine keeps_of_snd2 ?_ (by assumption) | with_reducible refine keeps_of_some ?_ (by assumption)
      | with_reducible refine keeps_of_next ?_ (by assumption)

theorem keeps_largestChange (a0) (a1) (a2) (a3) (a4) (h0 : Keeps q a0) : Keeps q (Sys2Proof.Machine.largestChange a0 a1 a2 a3 a4).2 := by
  unfold Sys2Proof.Machine.largestChange
  repeat'
      first
      | with_reducible assumption | with_reducible apply keeps_freeValue | with_reducible refine keepsOpt_map (fun _ => ?_)
      | with_reducible apply keeps_getD | with_reducible apply keeps_ite_keep | intro _ | split | dsimp only
      | with_reducible refine keeps_of_fst ?_ (by assumption) | with_reducible refine keeps_of_snd ?_ (by assumption)
      | with_reducible refine keeps_of_snd2 ?_ (by assumption) | with_reducible refine keeps_of_some ?_ (by assumption)
      | with_reducible refine keeps_of_next ?_ (by assumption)

theorem keeps_showDevice (a0) (h0 : Keeps q a0) : Keeps q (Sys2Proof.Machine.showDevice a0) := by
  unfold Sys2Proof.Machine.showDevice
  repeat'
      first
      | with_reducible assumption | with_reducible apply keeps_dset | with_reducible refine keepsOpt_map (fun _ => ?_)
      | with_reducible apply keeps_foldl | with_reducible apply keeps_foldl_fst | with_reducible apply keeps_foldl_snd
      | with_reducible apply keeps_foldl_snd2 | intro _ | dsimp only

theorem keeps_putLevel (a0) (a1) (h0 : Keeps q a0) : Keeps q (Sys2Proof.Machine.putLevel a0 a1) := by
  unfold Sys2Proof.Machine.putLevel
  repeat' first | with_reducible assumption | with_reducible apply keeps_dset | with_reducible apply keeps_ite_keep | intro _ | split | dsimp only

theorem keeps_showDomain (a0) (a1) (h0 : Keeps q a0) : Keeps q (Sys2Proof.Machine.showDomain a0 a1) := by
  unfold Sys2Proof.Machine.showDomain
  repeat'
      first
      | with_reducible assumption | with_reducible apply keeps_dset | with_reducible refine keepsOpt_map (fun _ => ?_)
      | with_reducible apply keeps_foldl | with_reducible apply keeps_foldl_fst | with_reducible apply keeps_foldl_snd
      | with_reducible apply keeps_foldl_snd2 | with_reducible apply keeps_ite_keep | intro _ | split | dsimp only

theorem keeps_scanLane (a0) (a1) (h0 : Keeps q a0) : Keeps q (Sys2Proof.Machine.scanLane a0 a1) := by
  unfold Sys2Proof.Machine.scanLane
  repeat'
      first
      | with_reducible assumption | with_reducible apply keeps_dset | with_reducible apply keeps_ite_keep | intro _ | split | dsimp only
      | (fail_if_no_progress with_reducible apply keeps_mk) | with_reducible refine keeps_of_fst ?_ (by assumption)
      | with_reducible refine keeps_of_snd ?_ (by assumption) | with_reducible refine keeps_of_snd2 ?_ (by assumption)
      | with_reducible refine keeps_of_some ?_ (by assumption) | with_reducible refine keeps_of_next ?_ (by assumption)

theorem keeps_laneWear (a0) (a1) (h0 : Keeps q a0) : Keeps q (Sys2Proof.Machine.laneWear a0 a1).2 := by
  unfold Sys2Proof.Machine.laneWear
  repeat'
      first
      | with_reducible assumption | with_reducible apply keeps_quotient | with_reducible apply keeps_ite_keep | intro _ | split
      | dsimp only | (fail_if_no_progress with_reducible apply keeps_mk) | with_reducible refine keeps_of_fst ?_ (by assumption)
      | with_reducible refine keeps_of_snd ?_ (by assumption) | with_reducible refine keeps_of_snd2 ?_ (by assumption)
      | with_reducible refine keeps_of_some ?_ (by assumption) | with_reducible refine keeps_of_next ?_ (by assumption)

theorem keeps_updateFigures (a0) (a1) (h0 : Keeps q a0) : Keeps q (Sys2Proof.Machine.updateFigures a0 a1) := by
  unfold Sys2Proof.Machine.updateFigures
  repeat'
      first
      | with_reducible assumption | with_reducible apply keeps_dset | with_reducible apply keeps_showDevice
      | with_reducible apply keeps_putLevel | with_reducible apply keeps_showDomain | with_reducible apply keeps_foldl
      | with_reducible apply keeps_foldl_fst | with_reducible apply keeps_foldl_snd | with_reducible apply keeps_foldl_snd2 | intro _
      | dsimp only

theorem keeps_execDailyPoint (a0) (h0 : Keeps q a0) : KeepsRes q (Sys2Proof.Machine.execDailyPoint a0) := by
  unfold Sys2Proof.Machine.execDailyPoint
  repeat'
      first
      | with_reducible assumption | with_reducible apply keeps_dayMonitor | with_reducible apply keeps_updateFigures
      | with_reducible apply keepsRes_next | with_reducible exact keepsRes_fault _ | with_reducible exact keepsRes_refused _
      | with_reducible apply keeps_foldl | with_reducible apply keeps_foldl_fst | with_reducible apply keeps_foldl_snd
      | with_reducible apply keeps_foldl_snd2 | with_reducible apply keepsRes_ite | with_reducible apply keeps_ite_keep | intro _ | split
      | dsimp only | (fail_if_no_progress with_reducible apply keeps_mk)

theorem keeps_rebaseLinks (a0) (a1) (h0 : Keeps q a0) : Keeps q (Sys2Proof.Machine.rebaseLinks a0 a1) := by
  unfold Sys2Proof.Machine.rebaseLinks
  repeat'
      first
      | with_reducible assumption | with_reducible apply keeps_dictAnswer | with_reducible apply keeps_dset
      | with_reducible apply keeps_updateFigures | with_reducible apply keeps_ite_keep | intro _ | split | dsimp only
      | (fail_if_no_progress with_reducible apply keeps_mk)

theorem keeps_addSample (a0) (a1) (a2) (a3) (a4) (h0 : Keeps q a0) : Keeps q (Sys2Proof.Machine.addSample a0 a1 a2 a3 a4) := by
  unfold Sys2Proof.Machine.addSample
  repeat'
      first
      | with_reducible assumption | with_reducible apply keeps_updateFigures | with_reducible apply keeps_dset | intro _ | dsimp only
      | (fail_if_no_progress with_reducible apply keeps_mk)

theorem keeps_endProbe (a0) (a1) (a2) (h0 : Keeps q a0) : Keeps q (Sys2Proof.Machine.endProbe a0 a1 a2) := by
  unfold Sys2Proof.Machine.endProbe
  repeat'
      first
      | with_reducible assumption | with_reducible apply keeps_addSample | with_reducible apply keeps_quotient
      | with_reducible apply keeps_leaveTestFrame | with_reducible apply keeps_updStack | with_reducible refine wf_stack (q := q) ?_ _
      | intro _ | split | dsimp only | (fail_if_no_progress with_reducible apply keeps_mk)
      | (fail_if_no_progress with_reducible apply wf_mk) | with_reducible refine keeps_of_fst ?_ (by assumption)
      | with_reducible refine keeps_of_snd ?_ (by assumption) | with_reducible refine keeps_of_snd2 ?_ (by assumption)
      | with_reducible refine keeps_of_some ?_ (by assumption) | with_reducible refine keeps_of_next ?_ (by assumption)

theorem keeps_sampleChange (a0) (a1) (a2) (a3) (a4) (a5) (a6) (h0 : Keeps q a0) : Keeps q (Sys2Proof.Machine.sampleChange a0 a1 a2 a3 a4 a5 a6) := by
  unfold Sys2Proof.Machine.sampleChange
  repeat'
      first
      | with_reducible assumption | with_reducible apply keeps_addSample | with_reducible apply keeps_largestChange | intro _ | split
      | dsimp only | (fail_if_no_progress with_reducible apply keeps_mk) | with_reducible refine keeps_of_fst ?_ (by assumption)
      | with_reducible refine keeps_of_snd ?_ (by assumption) | with_reducible refine keeps_of_snd2 ?_ (by assumption)
      | with_reducible refine keeps_of_some ?_ (by assumption) | with_reducible refine keeps_of_next ?_ (by assumption)

theorem keeps_sampleStack (a0) (a1) (h0 : Keeps q a0) : Keeps q (Sys2Proof.Machine.sampleStack a0 a1) := by
  unfold Sys2Proof.Machine.sampleStack
  repeat'
      first
      | with_reducible assumption | with_reducible apply keeps_addSample | with_reducible refine wf_stack (q := q) ?_ _
      | with_reducible apply keeps_ite_keep | with_reducible apply wf_ite | intro _ | split | dsimp only

theorem keeps_sampleEyes (a0) (a1) (a2) (h0 : Keeps q a0) : Keeps q (Sys2Proof.Machine.sampleEyes a0 a1 a2) := by
  unfold Sys2Proof.Machine.sampleEyes
  repeat'
      first
      | with_reducible assumption | with_reducible apply keeps_addSample | with_reducible apply keeps_laneWear
      | with_reducible refine keepsOpt_map (fun _ => ?_) | with_reducible apply keeps_getD | with_reducible apply keeps_foldl
      | with_reducible apply keeps_foldl_fst | with_reducible apply keeps_foldl_snd | with_reducible apply keeps_foldl_snd2 | intro _
      | split | dsimp only | (fail_if_no_progress with_reducible apply keeps_mk) | with_reducible refine keeps_of_fst ?_ (by assumption)
      | with_reducible refine keeps_of_snd ?_ (by assumption) | with_reducible refine keeps_of_snd2 ?_ (by assumption)
      | with_reducible refine keeps_of_some ?_ (by assumption) | with_reducible refine keeps_of_next ?_ (by assumption)

theorem keeps_fillChecker (a0) (a1) (a2) (h0 : Keeps q a0) : Keeps q (Sys2Proof.Machine.fillChecker a0 a1 a2) := by
  unfold Sys2Proof.Machine.fillChecker
  exact keeps_foldl _ _ h0 (fun t b ht => keeps_storeCode _ _ _ (keeps_freeWord256 t ht))

theorem keeps_execRetentionHoldEnd (a0) (a1) (a2) (h2 : Keeps q a2) : KeepsRes q (Sys2Proof.Machine.execRetentionHoldEnd a0 a1 a2) := by
  unfold Sys2Proof.Machine.execRetentionHoldEnd
  repeat'
      first
      | with_reducible assumption | with_reducible apply keeps_endProbe | with_reducible apply keepsRes_next
      | with_reducible exact keepsRes_fault _ | with_reducible exact keepsRes_refused _ | with_reducible apply keepsOpt_some
      | with_reducible exact keepsOpt_none | with_reducible apply keepsRes_ite | with_reducible apply keeps_ite_keep | intro _ | split
      | dsimp only | (fail_if_no_progress with_reducible apply keeps_mk) | with_reducible refine keeps_of_fst ?_ (by assumption)
      | with_reducible refine keeps_of_snd ?_ (by assumption) | with_reducible refine keeps_of_snd2 ?_ (by assumption)
      | with_reducible refine keeps_of_some ?_ (by assumption) | with_reducible refine keeps_of_next ?_ (by assumption)

theorem keeps_sampleDie (a0) (a1) (a2) (a3) (a4) (h0 : Keeps q a0) : Keeps q (Sys2Proof.Machine.sampleDie a0 a1 a2 a3 a4) := by
  unfold Sys2Proof.Machine.sampleDie
  repeat'
      first
      | with_reducible assumption | with_reducible apply keeps_sampleChange | with_reducible apply keeps_ite_keep | intro _ | split
      | dsimp only

theorem keeps_execEyeScan (a0) (a1) (h1 : Keeps q a1) : KeepsRes q (Sys2Proof.Machine.execEyeScan a0 a1) := by
  unfold Sys2Proof.Machine.execEyeScan
  repeat'
      first
      | with_reducible assumption | with_reducible apply keeps_sampleEyes | with_reducible apply keeps_scanLane
      | with_reducible apply keepsRes_next | with_reducible exact keepsRes_fault _ | with_reducible exact keepsRes_refused _
      | with_reducible apply keeps_foldl | with_reducible apply keeps_foldl_fst | with_reducible apply keeps_foldl_snd
      | with_reducible apply keeps_foldl_snd2 | with_reducible apply keepsRes_ite | with_reducible apply keeps_ite_keep | intro _ | split
      | dsimp only

theorem keeps_execRetentionProbe (a0) (a1) (h1 : Keeps q a1) : KeepsRes q (Sys2Proof.Machine.execRetentionProbe a0 a1) := by
  unfold Sys2Proof.Machine.execRetentionProbe
  repeat'
      first
      | with_reducible assumption | with_reducible apply keeps_fillChecker | with_reducible apply keeps_zeroFrame
      | with_reducible apply keeps_bump | with_reducible apply keepsRes_next | with_reducible exact keepsRes_fault _
      | with_reducible exact keepsRes_refused _ | with_reducible apply keepsOpt_some | with_reducible exact keepsOpt_none
      | with_reducible apply keeps_updStack | with_reducible refine wf_stack (q := q) ?_ _ | with_reducible apply keepsRes_ite
      | with_reducible apply keeps_ite_keep | with_reducible apply wf_ite | intro _ | split | dsimp only
      | (fail_if_no_progress with_reducible apply keeps_mk) | (fail_if_no_progress with_reducible apply wf_mk)
      | with_reducible refine keeps_of_fst ?_ (by assumption) | with_reducible refine keeps_of_snd ?_ (by assumption)
      | with_reducible refine keeps_of_snd2 ?_ (by assumption) | with_reducible refine keeps_of_some ?_ (by assumption)
      | with_reducible refine keeps_of_next ?_ (by assumption)

theorem keeps_execHealthHourly (a0) (a1) (a2) (a3) (h3 : Keeps q a3) : KeepsRes q (Sys2Proof.Machine.execHealthHourly a0 a1 a2 a3) := by
  unfold Sys2Proof.Machine.execHealthHourly
  repeat'
      first
      | with_reducible assumption | with_reducible apply keeps_dset | with_reducible apply keeps_sampleStack
      | with_reducible apply keeps_sampleDie | with_reducible apply keepsRes_next | with_reducible exact keepsRes_fault _
      | with_reducible exact keepsRes_refused _ | with_reducible apply keeps_getD | with_reducible apply keeps_foldl
      | with_reducible apply keeps_foldl_fst | with_reducible apply keeps_foldl_snd | with_reducible apply keeps_foldl_snd2
      | with_reducible apply wf_foldl | with_reducible refine wf_stack (q := q) ?_ _ | with_reducible apply keepsRes_ite
      | with_reducible apply keeps_ite_keep | with_reducible apply wf_ite | intro _ | split | dsimp only
      | (fail_if_no_progress with_reducible apply keeps_mk) | (fail_if_no_progress with_reducible apply wf_mk)

theorem keeps_execFrameRetireComplete (a0) (a1) (h1 : Keeps q a1) : KeepsRes q (Sys2Proof.Machine.execFrameRetireComplete a0 a1) := by
  unfold Sys2Proof.Machine.execFrameRetireComplete
  repeat'
      first
      | with_reducible assumption | with_reducible apply keeps_updateFigures | with_reducible apply keeps_retireFrame
      | with_reducible apply keepsRes_next | with_reducible exact keepsRes_fault _ | with_reducible exact keepsRes_refused _
      | with_reducible refine wf_stack (q := q) ?_ _ | with_reducible apply keepsRes_ite | with_reducible apply keeps_ite_keep
      | with_reducible apply wf_ite | intro _ | split | dsimp only | (fail_if_no_progress with_reducible apply keeps_mk)
      | (fail_if_no_progress with_reducible apply wf_mk) | with_reducible refine keeps_of_fst ?_ (by assumption)
      | with_reducible refine keeps_of_snd ?_ (by assumption) | with_reducible refine keeps_of_snd2 ?_ (by assumption)
      | with_reducible refine keeps_of_some ?_ (by assumption) | with_reducible refine keeps_of_next ?_ (by assumption)

theorem keeps_execRebaseLinks (a0) (a1) (h1 : Keeps q a1) : KeepsRes q (Sys2Proof.Machine.execRebaseLinks a0 a1) := by
  unfold Sys2Proof.Machine.execRebaseLinks
  repeat'
      first
      | with_reducible assumption | with_reducible apply keeps_rebaseLinks | with_reducible apply keeps_served
      | with_reducible apply keepsRes_next | with_reducible exact keepsRes_fault _ | with_reducible exact keepsRes_refused _ | intro _
      | dsimp only

end Sys2Proof.Laws
end

