-- ==== Sys2Proof/Laws/KeepsDictionary.lean ====
section
/-!
SUPPORT. What each operation keeps, over the dictionary, the sessions, the package and the register writes: the queue of waiting commands and the canonical form of every memory.
-/

set_option linter.all false
set_option Elab.async false
set_option maxRecDepth 4000

namespace Sys2Proof.Laws

open Sys2Proof Sys2Proof.Machine

variable {q : List Instr}

/-! ## DictApply -/

theorem keeps_updNirnar (a0) (a1) (a2) (h0 : Keeps q a0) : Keeps q (Sys2Proof.Machine.updNirnar a0 a1 a2) := by
  unfold Sys2Proof.Machine.updNirnar
  repeat'
      first
      | with_reducible assumption | with_reducible refine keepsOpt_map (fun _ => ?_) | with_reducible apply keeps_ite_keep | intro _
      | split | dsimp only | (fail_if_no_progress with_reducible apply keeps_mk)

theorem keeps_setHead (a0) (a1) (h0 : Keeps q a0) : Keeps q (Sys2Proof.Machine.setHead a0 a1) := by
  unfold Sys2Proof.Machine.setHead
  repeat'
      first
      | with_reducible assumption | intro _ | split | dsimp only | (fail_if_no_progress with_reducible apply keeps_mk)
      | with_reducible refine keeps_of_fst ?_ (by assumption) | with_reducible refine keeps_of_snd ?_ (by assumption)
      | with_reducible refine keeps_of_snd2 ?_ (by assumption) | with_reducible refine keeps_of_some ?_ (by assumption)
      | with_reducible refine keeps_of_next ?_ (by assumption)

theorem keeps_writeNonce (a0) (a1) (h0 : Keeps q a0) : Keeps q (Sys2Proof.Machine.writeNonce a0 a1).2 := by
  unfold Sys2Proof.Machine.writeNonce
  repeat'
      first
      | with_reducible assumption | with_reducible apply keeps_ite_keep | intro _ | split | dsimp only
      | (fail_if_no_progress with_reducible apply keeps_mk) | with_reducible refine keeps_of_fst ?_ (by assumption)
      | with_reducible refine keeps_of_snd ?_ (by assumption) | with_reducible refine keeps_of_snd2 ?_ (by assumption)
      | with_reducible refine keeps_of_some ?_ (by assumption) | with_reducible refine keeps_of_next ?_ (by assumption)

theorem keeps_finishBox (a0) (a1) (a2) (a3) (a4) (h0 : Keeps q a0) : Keeps q (Sys2Proof.Machine.finishBox a0 a1 a2 a3 a4) := by
  unfold Sys2Proof.Machine.finishBox
  repeat'
      first
      | with_reducible assumption | with_reducible apply keeps_ite_keep | intro _ | split | dsimp only
      | (fail_if_no_progress with_reducible apply keeps_mk)

theorem keeps_endSession (a0) (a1) (h0 : Keeps q a0) : Keeps q (Sys2Proof.Machine.endSession a0 a1) := by
  unfold Sys2Proof.Machine.endSession
  repeat' first | with_reducible assumption | intro _ | dsimp only | (fail_if_no_progress with_reducible apply keeps_mk)

theorem keeps_journalValue (a0) (a1) (a2) (a3) (a4) (h0 : Keeps q a0) : Keeps q (Sys2Proof.Machine.journalValue a0 a1 a2 a3 a4) := by
  unfold Sys2Proof.Machine.journalValue
  repeat'
      first
      | with_reducible assumption | with_reducible apply keeps_ite_keep | intro _ | split | dsimp only
      | (fail_if_no_progress with_reducible apply keeps_mk)

theorem keeps_askModes (a0) (a1) (a2) (a3) (h0 : Keeps q a0) : Keeps q (Sys2Proof.Machine.askModes a0 a1 a2 a3) := by
  unfold Sys2Proof.Machine.askModes
  repeat'
      first
      | with_reducible assumption | with_reducible apply keeps_markEarly | with_reducible apply keeps_updStack
      | with_reducible refine wf_stack (q := q) ?_ _ | with_reducible apply keeps_ite_keep | with_reducible apply wf_ite | intro _ | split
      | dsimp only | (fail_if_no_progress with_reducible apply keeps_mk) | (fail_if_no_progress with_reducible apply wf_mk)

theorem keeps_sendFrame (a0) (a1) (a2) (a3) (a4) (h0 : Keeps q a0) : Keeps q (Sys2Proof.Machine.sendFrame a0 a1 a2 a3 a4) := by
  unfold Sys2Proof.Machine.sendFrame
  repeat'
      first
      | with_reducible assumption | with_reducible apply keeps_emitLan | with_reducible refine keepsOpt_map (fun _ => ?_)
      | with_reducible apply keeps_ite_keep | intro _ | split | dsimp only | (fail_if_no_progress with_reducible apply keeps_mk)

theorem keeps_takeAnswer (a0) (a1) (h0 : Keeps q a0) (h1 : KeepsRes q a1) : Keeps q (Sys2Proof.Machine.takeAnswer a0 a1).2 := by
  cases a1 <;> first | exact h1 | exact h0

theorem keeps_writeTable (a0) (a1) (a2) (h0 : Keeps q a0) : Keeps q (Sys2Proof.Machine.writeTable a0 a1 a2) := by
  unfold Sys2Proof.Machine.writeTable
  repeat'
      first
      | with_reducible assumption | with_reducible apply keeps_bset | intro _ | dsimp only
      | (fail_if_no_progress with_reducible apply keeps_mk)

theorem keeps_writePeriod (a0) (a1) (h0 : Keeps q a0) : Keeps q (Sys2Proof.Machine.writePeriod a0 a1) := by
  unfold Sys2Proof.Machine.writePeriod
  repeat'
      first
      | with_reducible assumption | with_reducible apply keeps_dset | with_reducible apply keeps_ite_keep | intro _ | split | dsimp only
      | (fail_if_no_progress with_reducible apply keeps_mk)

theorem keeps_noteWait (a0) (a1) (h0 : Keeps q a0) : Keeps q (Sys2Proof.Machine.noteWait a0 a1) := by
  unfold Sys2Proof.Machine.noteWait
  repeat' first | with_reducible assumption | with_reducible apply keeps_dset | with_reducible apply keeps_ite_keep | intro _ | split | dsimp only

theorem keeps_answerFrame (a0) (a1) (a2) (a3) (a4) (h0 : Keeps q a0) : Keeps q (Sys2Proof.Machine.answerFrame a0 a1 a2 a3 a4) := by
  unfold Sys2Proof.Machine.answerFrame
  repeat'
      first
      | with_reducible assumption | with_reducible apply keeps_updNirnar | with_reducible apply keeps_bump
      | with_reducible apply keeps_sendFrame | with_reducible apply keeps_ite_keep | intro _ | split | dsimp only
      | (fail_if_no_progress with_reducible apply keeps_mk) | with_reducible refine keeps_of_fst ?_ (by assumption)
      | with_reducible refine keeps_of_snd ?_ (by assumption) | with_reducible refine keeps_of_snd2 ?_ (by assumption)
      | with_reducible refine keeps_of_some ?_ (by assumption) | with_reducible refine keeps_of_next ?_ (by assumption)

theorem keeps_applyBytes (a0) (a1) (a2) (a3) (h0 : Keeps q a0) : Keeps q (Sys2Proof.Machine.applyBytes a0 a1 a2 a3) := by
  unfold Sys2Proof.Machine.applyBytes
  repeat'
      first
      | with_reducible assumption | with_reducible apply keeps_measureKeys | with_reducible apply keeps_bset
      | with_reducible apply keeps_writeTable | with_reducible apply keeps_ite_keep | intro _ | split | dsimp only

theorem keeps_enableContext (a0) (a1) (a2) (h0 : Keeps q a0) : Keeps q (Sys2Proof.Machine.enableContext a0 a1 a2) := by
  unfold Sys2Proof.Machine.enableContext
  repeat'
      first
      | with_reducible assumption | with_reducible apply keeps_discardRange | with_reducible apply keeps_dset
      | with_reducible apply keeps_foldl | with_reducible apply keeps_foldl_fst | with_reducible apply keeps_foldl_snd
      | with_reducible apply keeps_foldl_snd2 | with_reducible apply keeps_foldl_Store | with_reducible apply keeps_ite_keep | intro _
      | split | dsimp only | (fail_if_no_progress with_reducible apply keeps_mk)

theorem keeps_answerWrite (a0) (a1) (a2) (h0 : Keeps q a0) : Keeps q (Sys2Proof.Machine.answerWrite a0 a1 a2) := by
  unfold Sys2Proof.Machine.answerWrite
  repeat'
      first
      | with_reducible assumption | with_reducible apply keeps_answerFrame | with_reducible apply keeps_dictAnswer
      | with_reducible apply keeps_finishBox | with_reducible apply keeps_ite_keep | intro _ | split | dsimp only
      | (fail_if_no_progress with_reducible apply keeps_mk) | with_reducible refine keeps_of_fst ?_ (by assumption)
      | with_reducible refine keeps_of_snd ?_ (by assumption) | with_reducible refine keeps_of_snd2 ?_ (by assumption)
      | with_reducible refine keeps_of_some ?_ (by assumption) | with_reducible refine keeps_of_next ?_ (by assumption)

theorem keeps_enablePort (a0) (a1) (a2) (h0 : Keeps q a0) : Keeps q (Sys2Proof.Machine.enablePort a0 a1 a2) := by
  unfold Sys2Proof.Machine.enablePort
  repeat'
      first
      | with_reducible assumption | with_reducible apply keeps_dset | with_reducible apply keeps_setPortState
      | with_reducible apply keeps_ite_keep | intro _ | split | dsimp only

theorem keeps_deviceCommand (a0) (a1) (h0 : Keeps q a0) : KeepsOptRes q (Sys2Proof.Machine.deviceCommand a0 a1) := by
  unfold Sys2Proof.Machine.deviceCommand
  repeat'
      first
      | with_reducible assumption | with_reducible apply keeps_execDeviceStartService | with_reducible apply keeps_execLeaveTest
      | with_reducible apply keeps_execDeviceEnterTest | with_reducible apply keeps_execStopService | with_reducible apply keepsRes_next
      | with_reducible exact keepsRes_fault _ | with_reducible exact keepsRes_refused _ | with_reducible apply keepsOpt_some
      | with_reducible exact keepsOpt_none | with_reducible apply keepsOptRes_some | with_reducible exact keepsOptRes_none
      | with_reducible apply keepsOptRes_ite | with_reducible apply keeps_ite_keep | intro _ | split | dsimp only

theorem keeps_applyScalar (a0) (a1) (a2) (a3) (h0 : Keeps q a0) : Keeps q (Sys2Proof.Machine.applyScalar a0 a1 a2 a3) := by
  unfold Sys2Proof.Machine.applyScalar
  repeat'
      first
      | with_reducible assumption | with_reducible apply keeps_askModes | with_reducible apply keeps_enableContext
      | with_reducible apply keeps_clearAlert | with_reducible apply keeps_applyTandemEnable | with_reducible apply keeps_rephase
      | with_reducible apply keeps_alertPin | with_reducible apply keeps_dset | with_reducible apply keeps_writePeriod
      | with_reducible apply keeps_noteChange | with_reducible apply keeps_changeSource | with_reducible apply keeps_enablePort
      | with_reducible apply keeps_ite_keep | intro _ | split | dsimp only | (fail_if_no_progress with_reducible apply keeps_mk)

theorem keeps_applyValue (a0) (a1) (a2) (a3) (a4) (h0 : Keeps q a0) : Keeps q (Sys2Proof.Machine.applyValue a0 a1 a2 a3 a4) := by
  unfold Sys2Proof.Machine.applyValue
  repeat'
      first
      | with_reducible assumption | with_reducible apply keeps_applyBytes | with_reducible apply keeps_applyScalar
      | with_reducible apply keeps_ite_keep | intro _ | split | dsimp only

theorem keeps_takeMirrorDict (a0) (a1) (a2) (a3) (a4) (a5) (h5 : Keeps q a5) : Keeps q (Sys2Proof.Machine.takeMirrorDict a0 a1 a2 a3 a4 a5) := by
  unfold Sys2Proof.Machine.takeMirrorDict
  repeat'
      first
      | with_reducible assumption | with_reducible apply keeps_journalValue | with_reducible apply keeps_ackMirror
      | with_reducible apply keeps_applyValue | with_reducible apply keeps_ite_keep | intro _ | split | dsimp only
      | (fail_if_no_progress with_reducible apply keeps_mk) | with_reducible refine keeps_of_fst ?_ (by assumption)
      | with_reducible refine keeps_of_snd ?_ (by assumption) | with_reducible refine keeps_of_snd2 ?_ (by assumption)
      | with_reducible refine keeps_of_some ?_ (by assumption) | with_reducible refine keeps_of_next ?_ (by assumption)

theorem keeps_execMirrorDict (a0) (a1) (a2) (a3) (a4) (a5) (h5 : Keeps q a5) : KeepsRes q (Sys2Proof.Machine.execMirrorDict a0 a1 a2 a3 a4 a5) := by
  unfold Sys2Proof.Machine.execMirrorDict
  repeat'
      first
      | with_reducible assumption | with_reducible apply keeps_takeMirrorDict | with_reducible apply keeps_withMirror
      | with_reducible apply keepsRes_next | with_reducible exact keepsRes_fault _ | with_reducible exact keepsRes_refused _ | intro _
      | dsimp only

theorem keeps_takeMarks (a0) (a1) (a2) (h0 : Keeps q a0) : Keeps q (Sys2Proof.Machine.takeMarks a0 a1 a2) := by
  unfold Sys2Proof.Machine.takeMarks
  repeat'
      first
      | with_reducible assumption | with_reducible apply keeps_answerSubmit | with_reducible apply keeps_State_updReq
      | with_reducible apply keeps_catchUp | with_reducible apply keeps_foldl | with_reducible apply keeps_foldl_fst
      | with_reducible apply keeps_foldl_snd | with_reducible apply keeps_foldl_snd2 | with_reducible apply keeps_ite_keep | intro _ | split
      | dsimp only | (fail_if_no_progress with_reducible apply keeps_mk)

theorem keeps_tenantCommand (a0) (a1) (a2) (h0 : Keeps q a0) : KeepsOptRes q (Sys2Proof.Machine.tenantCommand a0 a1 a2) := by
  unfold Sys2Proof.Machine.tenantCommand
  repeat'
      first
      | with_reducible assumption | with_reducible apply keeps_quiesceTenant | with_reducible apply keeps_resumeTenant
      | with_reducible apply keeps_assignTenant | with_reducible apply keeps_unassignCmd | with_reducible apply keeps_resetTenant
      | with_reducible apply keepsRes_next | with_reducible exact keepsRes_fault _ | with_reducible exact keepsRes_refused _
      | with_reducible apply keepsOpt_some | with_reducible exact keepsOpt_none | with_reducible apply keepsOptRes_some
      | with_reducible exact keepsOptRes_none | with_reducible apply keepsOptRes_ite | with_reducible apply keeps_ite_keep | intro _ | split
      | dsimp only

theorem keeps_finishJob (a0) (a1) (a2) (h0 : Keeps q a0) : Keeps q (Sys2Proof.Machine.finishJob a0 a1 a2) := by
  unfold Sys2Proof.Machine.finishJob
  repeat'
      first
      | with_reducible assumption | with_reducible apply keeps_answerWrite | with_reducible apply keeps_resetAfterWithdraw
      | with_reducible apply keeps_endSession | with_reducible apply keeps_foldl | with_reducible apply keeps_foldl_fst
      | with_reducible apply keeps_foldl_snd | with_reducible apply keeps_foldl_snd2 | with_reducible apply keeps_ite_keep | intro _ | split
      | dsimp only | (fail_if_no_progress with_reducible apply keeps_mk)

theorem keeps_endWaits (a0) (a1) (h0 : Keeps q a0) : Keeps q (Sys2Proof.Machine.endWaits a0 a1) := by
  unfold Sys2Proof.Machine.endWaits
  repeat'
      first
      | with_reducible assumption | with_reducible apply keeps_noteWait | with_reducible apply keeps_finishCommit
      | with_reducible apply keeps_foldl | with_reducible apply keeps_foldl_fst | with_reducible apply keeps_foldl_snd
      | with_reducible apply keeps_foldl_snd2 | with_reducible apply keeps_ite_keep | intro _ | split | dsimp only

theorem keeps_commandOf (a0) (a1) (a2) (a3) (a4) (a5) (a6) (h0 : Keeps q a0) : KeepsOptRes q (Sys2Proof.Machine.commandOf a0 a1 a2 a3 a4 a5 a6) := by
  unfold Sys2Proof.Machine.commandOf
  have one {c : Prop} [Decidable c] {r : Res} (h : KeepsRes q r) : KeepsOptRes q (if c then some r else none) :=
    keepsOptRes_ite (fun _ => keepsOptRes_some h) (fun _ => keepsOptRes_none)
  have two {c d : Prop} [Decidable c] [Decidable d] {r t : Res} (h : KeepsRes q r) (k : KeepsRes q t) :
      KeepsOptRes q (if c then some r else if d then some t else none) :=
    keepsOptRes_ite (fun _ => keepsOptRes_some h) (fun _ => one k)
  refine keepsOptRes_ite (fun _ => keepsOptRes_some (keeps_execPtpTimeWrite _ _ h0)) (fun _ => ?_)
  refine keepsOptRes_ite (fun _ => one (keeps_execScheduleActivate _ _ h0)) (fun _ => ?_)
  refine keepsOptRes_ite (fun _ => keeps_deviceCommand _ _ h0) (fun _ => ?_)
  refine keepsOptRes_ite (fun _ => keeps_tenantCommand _ _ _ h0) (fun _ => ?_)
  have el (n : Nat) : KeepsRes q (execSlotLoad n a5 a0) := keeps_execSlotLoad n a5 a0 h0
  have eu (n : Nat) : KeepsRes q (execSlotUnload n a0) := keeps_execSlotUnload n a0 h0
  refine keepsOptRes_ite (fun _ => ?_) (fun _ => ?_)
  · refine keepsOptRes_ite (fun _ => ?_) (fun _ => ?_)
    · with_reducible refine keepsOptRes_some ?_
      with_reducible exact el _
    · with_reducible exact one (eu _)
  refine keepsOptRes_ite (fun _ => ?_) (fun _ => ?_)
  · with_reducible refine keepsOptRes_some ?_
    with_reducible exact keeps_execQuarantineRelease _ _ _ h0
  refine keepsOptRes_ite (fun _ => ?_) (fun _ => ?_)
  · with_reducible refine keepsOptRes_some ?_
    with_reducible exact keeps_execQuarantineRelease _ _ _ h0
  refine keepsOptRes_ite (fun _ => two (keeps_execWithdraw _ h0) (keeps_execRejoin _ h0)) (fun _ => ?_)
  refine keepsOptRes_ite (fun _ => one (keepsRes_next (keeps_rebaseLinks _ _ h0))) (fun _ => ?_)
  refine keepsOptRes_ite (fun _ => keepsOptRes_some (keeps_execRunRequest _ _ h0)) (fun _ => ?_)
  refine keepsOptRes_ite (fun _ => keepsOptRes_some (keepsRes_next (keeps_clearSummary _ _ h0))) (fun _ => ?_)
  refine keepsOptRes_ite (fun _ => keepsOptRes_some (keepsRes_next (keeps_clearRing _ _ h0))) (fun _ => ?_)
  refine keepsOptRes_ite (fun _ => two (keepsRes_next (keeps_activate _ h0)) (keepsRes_next (keeps_cancelUpdate _ h0))) (fun _ => ?_)
  refine keepsOptRes_ite (fun _ => keepsOptRes_some (keepsRes_next (keeps_stageManifest _ _ h0))) (fun _ => ?_)
  refine keepsOptRes_ite (fun _ => keepsOptRes_some (keepsRes_next (keeps_writeChunk _ _ _ h0))) (fun _ => ?_)
  exact one (keepsRes_next (keeps_confirmSet _ _ h0))

theorem keeps_effectJob (a0) (a1) (a2) (h0 : Keeps q a0) : Keeps q (Sys2Proof.Machine.effectJob a0 a1 a2) := by
  unfold Sys2Proof.Machine.effectJob
  repeat'
      first
      | with_reducible assumption | with_reducible apply keeps_setHead | with_reducible apply keeps_finishJob
      | with_reducible apply keeps_applyValue | with_reducible refine wf_stack (q := q) ?_ _ | with_reducible apply keeps_ite_keep
      | with_reducible apply wf_ite | intro _ | split | dsimp only | (fail_if_no_progress with_reducible apply keeps_mk)
      | (fail_if_no_progress with_reducible apply wf_mk) | with_reducible refine keeps_of_fst ?_ (by assumption)
      | with_reducible refine keeps_of_snd ?_ (by assumption) | with_reducible refine keeps_of_snd2 ?_ (by assumption)
      | with_reducible refine keeps_of_some ?_ (by assumption) | with_reducible refine keeps_of_next ?_ (by assumption)

theorem keeps_performCommand (a0) (a1) (a2) (a3) (a4) (a5) (a6) (h0 : Keeps q a0) : Keeps q (Sys2Proof.Machine.performCommand a0 a1 a2 a3 a4 a5 a6).2 := by
  unfold Sys2Proof.Machine.performCommand
  dsimp only
  have hc := keeps_commandOf a0 a2 a3 (leNat a4) a4 a5 a6 h0
  split
  · exact h0
  · split
    · rename_i h; rw [h] at hc; exact keeps_takeAnswer _ _ h0 hc
    · exact h0

theorem keeps_execTandemLost (a0) (h0 : Keeps q a0) : KeepsRes q (Sys2Proof.Machine.execTandemLost a0) := by
  unfold Sys2Proof.Machine.execTandemLost
  repeat'
      first
      | with_reducible assumption | with_reducible apply keeps_losePartner | with_reducible apply keepsRes_next
      | with_reducible exact keepsRes_fault _ | with_reducible exact keepsRes_refused _ | with_reducible apply keepsRes_ite
      | with_reducible apply keeps_ite_keep | intro _ | split | dsimp only

theorem keeps_startJob (a0) (a1) (h0 : Keeps q a0) : Keeps q (Sys2Proof.Machine.startJob a0 a1) := by
  unfold Sys2Proof.Machine.startJob
  repeat'
      first
      | with_reducible assumption | with_reducible apply keeps_setHead | with_reducible apply keeps_performCommand
      | with_reducible apply keeps_writeNonce | with_reducible apply keeps_finishJob | with_reducible apply keeps_cmdState
      | with_reducible apply keeps_effectJob | with_reducible apply keeps_ite_keep | intro _ | split | dsimp only
      | (fail_if_no_progress with_reducible apply keeps_mk) | with_reducible refine keeps_of_fst ?_ (by assumption)
      | with_reducible refine keeps_of_snd ?_ (by assumption) | with_reducible refine keeps_of_snd2 ?_ (by assumption)
      | with_reducible refine keeps_of_some ?_ (by assumption) | with_reducible refine keeps_of_next ?_ (by assumption)

theorem keeps_pumpJobs (a0) (a1) (h1 : Keeps q a1) : Keeps q (Sys2Proof.Machine.pumpJobs a0 a1) := by
  revert h1
  fun_induction Sys2Proof.Machine.pumpJobs a0 a1 <;> intros
  all_goals repeat'
      first
      | with_reducible assumption | with_reducible apply keeps_startJob | with_reducible apply keeps_ite_keep | intro _ | split
      | dsimp only | (fail_if_no_progress with_reducible apply keeps_mk) | with_reducible refine keeps_of_fst ?_ (by assumption)
      | with_reducible refine keeps_of_snd ?_ (by assumption) | with_reducible refine keeps_of_snd2 ?_ (by assumption)
      | with_reducible refine keeps_of_some ?_ (by assumption) | with_reducible refine keeps_of_next ?_ (by assumption) | apply_assumption

theorem keeps_submitWrite (a0) (a1) (h0 : Keeps q a0) : Keeps q (Sys2Proof.Machine.submitWrite a0 a1) := by
  unfold Sys2Proof.Machine.submitWrite
  repeat'
      first
      | with_reducible assumption | with_reducible apply keeps_pumpJobs | intro _ | dsimp only
      | (fail_if_no_progress with_reducible apply keeps_mk)

theorem keeps_nextJob (a0) (h0 : Keeps q a0) : Keeps q (Sys2Proof.Machine.nextJob a0) := by
  unfold Sys2Proof.Machine.nextJob
  repeat' first | with_reducible assumption | with_reducible apply keeps_pumpJobs | intro _ | dsimp only

theorem keeps_endMirror (a0) (a1) (h0 : Keeps q a0) : Keeps q (Sys2Proof.Machine.endMirror a0 a1) := by
  unfold Sys2Proof.Machine.endMirror
  repeat'
      first
      | with_reducible assumption | with_reducible apply keeps_effectJob | with_reducible apply keeps_nextJob
      | with_reducible apply keeps_mirror | with_reducible apply keeps_ite_keep | intro _ | split | dsimp only
      | (fail_if_no_progress with_reducible apply keeps_mk) | with_reducible refine keeps_of_fst ?_ (by assumption)
      | with_reducible refine keeps_of_snd ?_ (by assumption) | with_reducible refine keeps_of_snd2 ?_ (by assumption)
      | with_reducible refine keeps_of_some ?_ (by assumption) | with_reducible refine keeps_of_next ?_ (by assumption)

theorem keeps_execSegModeChangeDone (a0) (a1) (h1 : Keeps q a1) : KeepsRes q (Sys2Proof.Machine.execSegModeChangeDone a0 a1) := by
  unfold Sys2Proof.Machine.execSegModeChangeDone
  repeat'
      first
      | with_reducible assumption | with_reducible apply keeps_finishJob | with_reducible apply keeps_applyNewModes
      | with_reducible apply keeps_nextJob | with_reducible apply keepsRes_next | with_reducible exact keepsRes_fault _
      | with_reducible exact keepsRes_refused _ | with_reducible apply keepsRes_ite | with_reducible apply keeps_ite_keep | intro _ | split
      | dsimp only | (fail_if_no_progress with_reducible apply keeps_mk) | with_reducible refine keeps_of_fst ?_ (by assumption)
      | with_reducible refine keeps_of_snd ?_ (by assumption) | with_reducible refine keeps_of_snd2 ?_ (by assumption)
      | with_reducible refine keeps_of_some ?_ (by assumption) | with_reducible refine keeps_of_next ?_ (by assumption)

theorem keeps_execMirrorTimeout (a0) (h0 : Keeps q a0) : KeepsRes q (Sys2Proof.Machine.execMirrorTimeout a0) := by
  unfold Sys2Proof.Machine.execMirrorTimeout
  repeat'
      first
      | with_reducible assumption | with_reducible apply keeps_effectJob | with_reducible apply keeps_nextJob
      | with_reducible apply keeps_mirror | with_reducible apply keepsRes_next | with_reducible exact keepsRes_fault _
      | with_reducible exact keepsRes_refused _ | with_reducible apply keepsRes_ite | with_reducible apply keeps_ite_keep | intro _ | split
      | dsimp only | (fail_if_no_progress with_reducible apply keeps_mk) | with_reducible refine keeps_of_fst ?_ (by assumption)
      | with_reducible refine keeps_of_snd ?_ (by assumption) | with_reducible refine keeps_of_snd2 ?_ (by assumption)
      | with_reducible refine keeps_of_some ?_ (by assumption) | with_reducible refine keeps_of_next ?_ (by assumption)

theorem keeps_execJournalWriteDone (a0) (a1) (h1 : Keeps q a1) : KeepsRes q (Sys2Proof.Machine.execJournalWriteDone a0 a1) := by
  unfold Sys2Proof.Machine.execJournalWriteDone
  repeat'
      first
      | with_reducible assumption | with_reducible apply keeps_mirror | with_reducible apply keeps_finishJob
      | with_reducible apply keeps_journalValue | with_reducible apply keeps_effectJob | with_reducible apply keeps_setHead
      | with_reducible apply keeps_nextJob | with_reducible apply keepsRes_next | with_reducible exact keepsRes_fault _
      | with_reducible exact keepsRes_refused _ | with_reducible apply keepsOpt_some | with_reducible exact keepsOpt_none
      | with_reducible apply keepsRes_ite | with_reducible apply keeps_ite_keep | intro _ | split | dsimp only
      | (fail_if_no_progress with_reducible apply keeps_mk) | with_reducible refine keeps_of_fst ?_ (by assumption)
      | with_reducible refine keeps_of_snd ?_ (by assumption) | with_reducible refine keeps_of_snd2 ?_ (by assumption)
      | with_reducible refine keeps_of_some ?_ (by assumption) | with_reducible refine keeps_of_next ?_ (by assumption)

theorem keeps_execMirrorAck (a0) (a1) (a2) (a3) (h3 : Keeps q a3) : KeepsRes q (Sys2Proof.Machine.execMirrorAck a0 a1 a2 a3) := by
  unfold Sys2Proof.Machine.execMirrorAck
  repeat'
      first
      | with_reducible assumption | with_reducible apply keeps_settleActive | with_reducible apply keeps_takeMarks
      | with_reducible apply keeps_endMirror | with_reducible apply keeps_endWaits | with_reducible apply keepsRes_next
      | with_reducible exact keepsRes_fault _ | with_reducible exact keepsRes_refused _ | with_reducible apply keepsRes_ite
      | with_reducible apply keeps_ite_keep | intro _ | split | dsimp only

theorem keeps_writeDirect (a0) (a1) (a2) (a3) (h0 : Keeps q a0) : KeepsRes q (Sys2Proof.Machine.writeDirect a0 a1 a2 a3) := by
  unfold Sys2Proof.Machine.writeDirect
  repeat'
      first
      | with_reducible assumption | with_reducible apply keeps_served | with_reducible apply keeps_submitWrite
      | with_reducible apply keepsRes_next | with_reducible exact keepsRes_fault _ | with_reducible exact keepsRes_refused _ | intro _
      | dsimp only | (fail_if_no_progress with_reducible apply keeps_mk)

theorem keeps_execApertureWrite (a0) (a1) (a2) (a3) (h3 : Keeps q a3) : KeepsRes q (Sys2Proof.Machine.execApertureWrite a0 a1 a2 a3) := by
  unfold Sys2Proof.Machine.execApertureWrite
  repeat'
      first
      | with_reducible assumption | with_reducible apply keeps_writeDirect | with_reducible apply keepsRes_next
      | with_reducible exact keepsRes_fault _ | with_reducible exact keepsRes_refused _ | with_reducible apply keepsRes_ite
      | with_reducible apply keeps_ite_keep | intro _ | split | dsimp only

theorem keeps_execTandemEnableWrite (a0) (a1) (h1 : Keeps q a1) : KeepsRes q (Sys2Proof.Machine.execTandemEnableWrite a0 a1) := by
  unfold Sys2Proof.Machine.execTandemEnableWrite
  repeat'
      first
      | with_reducible assumption | with_reducible apply keeps_writeDirect | with_reducible apply keepsRes_next
      | with_reducible exact keepsRes_fault _ | with_reducible exact keepsRes_refused _ | intro _ | dsimp only

theorem keeps_execSegModeChange (a0) (a1) (a2) (a3) (h3 : Keeps q a3) : KeepsRes q (Sys2Proof.Machine.execSegModeChange a0 a1 a2 a3) := by
  unfold Sys2Proof.Machine.execSegModeChange
  repeat'
      first
      | with_reducible assumption | with_reducible apply keeps_writeDirect | with_reducible apply keepsRes_next
      | with_reducible exact keepsRes_fault _ | with_reducible exact keepsRes_refused _ | with_reducible apply keepsRes_ite
      | with_reducible apply keeps_ite_keep | intro _ | split | dsimp only

theorem keeps_execSlotSigningKeyWrite (a0) (a1) (a2) (h2 : Keeps q a2) : KeepsRes q (Sys2Proof.Machine.execSlotSigningKeyWrite a0 a1 a2) := by
  unfold Sys2Proof.Machine.execSlotSigningKeyWrite
  repeat'
      first
      | with_reducible assumption | with_reducible apply keeps_writeDirect | with_reducible apply keepsRes_next
      | with_reducible exact keepsRes_fault _ | with_reducible exact keepsRes_refused _ | intro _ | dsimp only

theorem keeps_execDictWrite (a0) (a1) (a2) (a3) (h3 : Keeps q a3) : KeepsRes q (Sys2Proof.Machine.execDictWrite a0 a1 a2 a3) := by
  unfold Sys2Proof.Machine.execDictWrite
  repeat'
      first
      | with_reducible assumption | with_reducible apply keeps_writeDirect | with_reducible apply keepsRes_next
      | with_reducible exact keepsRes_fault _ | with_reducible exact keepsRes_refused _ | intro _ | dsimp only

theorem keeps_execTandemFenced (a0) (h0 : Keeps q a0) : KeepsRes q (Sys2Proof.Machine.execTandemFenced a0) := by
  unfold Sys2Proof.Machine.execTandemFenced
  repeat'
      first
      | with_reducible assumption | with_reducible apply keeps_fence | with_reducible apply keepsRes_next
      | with_reducible exact keepsRes_fault _ | with_reducible exact keepsRes_refused _ | with_reducible apply keepsRes_ite
      | with_reducible apply keeps_ite_keep | intro _ | split | dsimp only


/-! ## Nirnar -/

theorem keeps_updBox (a0) (a1) (a2) (h0 : Keeps q a0) : Keeps q (Sys2Proof.Machine.updBox a0 a1 a2) := by
  unfold Sys2Proof.Machine.updBox
  repeat' first | with_reducible assumption | intro _ | dsimp only | (fail_if_no_progress with_reducible apply keeps_mk)

theorem keeps_unsubscribeIn (a0) (a1) (a2) (h0 : Keeps q a0) : Keeps q (Sys2Proof.Machine.unsubscribeIn a0 a1 a2) := by
  unfold Sys2Proof.Machine.unsubscribeIn
  repeat' first | with_reducible assumption | intro _ | dsimp only | (fail_if_no_progress with_reducible apply keeps_mk)

theorem keeps_dropHandshake (a0) (a1) (h0 : Keeps q a0) : Keeps q (Sys2Proof.Machine.dropHandshake a0 a1) := by
  unfold Sys2Proof.Machine.dropHandshake
  repeat' first | with_reducible assumption | intro _ | dsimp only | (fail_if_no_progress with_reducible apply keeps_mk)

theorem keeps_execStagingExpire (a0) (a1) (a2) (h2 : Keeps q a2) : KeepsRes q (Sys2Proof.Machine.execStagingExpire a0 a1 a2) := by
  unfold Sys2Proof.Machine.execStagingExpire
  repeat'
      first
      | with_reducible assumption | with_reducible apply keeps_updNirnar | with_reducible apply keeps_updBox
      | with_reducible apply keepsRes_next | with_reducible exact keepsRes_fault _ | with_reducible exact keepsRes_refused _
      | with_reducible apply keepsOpt_some | with_reducible exact keepsOpt_none | with_reducible apply keepsRes_ite
      | with_reducible apply keeps_ite_keep | intro _ | split | dsimp only | (fail_if_no_progress with_reducible apply keeps_mk)

theorem keeps_notifyAckIn (a0) (a1) (a2) (h0 : Keeps q a0) : Keeps q (Sys2Proof.Machine.notifyAckIn a0 a1 a2) := by
  unfold Sys2Proof.Machine.notifyAckIn
  repeat'
      first
      | with_reducible assumption | with_reducible apply keeps_updNirnar | intro _ | dsimp only
      | (fail_if_no_progress with_reducible apply keeps_mk)

theorem keeps_execSnapshotExpire (a0) (a1) (a2) (h2 : Keeps q a2) : KeepsRes q (Sys2Proof.Machine.execSnapshotExpire a0 a1 a2) := by
  unfold Sys2Proof.Machine.execSnapshotExpire
  repeat'
      first
      | with_reducible assumption | with_reducible apply keeps_updNirnar | with_reducible apply keeps_updBox
      | with_reducible apply keepsRes_next | with_reducible exact keepsRes_fault _ | with_reducible exact keepsRes_refused _
      | with_reducible apply keepsOpt_some | with_reducible exact keepsOpt_none | with_reducible apply keepsRes_ite
      | with_reducible apply keeps_ite_keep | intro _ | split | dsimp only | (fail_if_no_progress with_reducible apply keeps_mk)

theorem keeps_execHandshakeExpire (a0) (a1) (h1 : Keeps q a1) : KeepsRes q (Sys2Proof.Machine.execHandshakeExpire a0 a1) := by
  unfold Sys2Proof.Machine.execHandshakeExpire
  repeat'
      first
      | with_reducible assumption | with_reducible apply keeps_dropHandshake | with_reducible apply keepsRes_next
      | with_reducible exact keepsRes_fault _ | with_reducible exact keepsRes_refused _ | with_reducible apply keepsOpt_some
      | with_reducible exact keepsOpt_none | with_reducible apply keepsRes_ite | with_reducible apply keeps_ite_keep | intro _ | split
      | dsimp only | (fail_if_no_progress with_reducible apply keeps_mk) | with_reducible refine keeps_of_fst ?_ (by assumption)
      | with_reducible refine keeps_of_snd ?_ (by assumption) | with_reducible refine keeps_of_snd2 ?_ (by assumption)
      | with_reducible refine keeps_of_some ?_ (by assumption) | with_reducible refine keeps_of_next ?_ (by assumption)

theorem keeps_execSessionIdle (a0) (a1) (h1 : Keeps q a1) : KeepsRes q (Sys2Proof.Machine.execSessionIdle a0 a1) := by
  unfold Sys2Proof.Machine.execSessionIdle
  repeat'
      first
      | with_reducible assumption | with_reducible apply keeps_endSession | with_reducible apply keepsRes_next
      | with_reducible exact keepsRes_fault _ | with_reducible exact keepsRes_refused _ | with_reducible apply keepsOpt_some
      | with_reducible exact keepsOpt_none | with_reducible apply keepsRes_ite | with_reducible apply keeps_ite_keep | intro _ | split
      | dsimp only | (fail_if_no_progress with_reducible apply keeps_mk) | with_reducible refine keeps_of_fst ?_ (by assumption)
      | with_reducible refine keeps_of_snd ?_ (by assumption) | with_reducible refine keeps_of_snd2 ?_ (by assumption)
      | with_reducible refine keeps_of_some ?_ (by assumption) | with_reducible refine keeps_of_next ?_ (by assumption)

theorem keeps_execPrpSupervisionSend (a0) (h0 : Keeps q a0) : KeepsRes q (Sys2Proof.Machine.execPrpSupervisionSend a0) := by
  unfold Sys2Proof.Machine.execPrpSupervisionSend
  repeat'
      first
      | with_reducible assumption | with_reducible apply keeps_emit | with_reducible apply keepsRes_next
      | with_reducible exact keepsRes_fault _ | with_reducible exact keepsRes_refused _ | with_reducible apply keepsRes_ite
      | with_reducible apply keeps_ite_keep | intro _ | split | dsimp only | (fail_if_no_progress with_reducible apply keeps_mk)

theorem keeps_challenge (a0) (a1) (a2) (h0 : Keeps q a0) : Keeps q (Sys2Proof.Machine.challenge a0 a1 a2) := by
  unfold Sys2Proof.Machine.challenge
  repeat'
      first
      | with_reducible assumption | with_reducible apply keeps_emitLan | intro _ | dsimp only
      | (fail_if_no_progress with_reducible apply keeps_mk)

theorem keeps_untaggedAbort (a0) (a1) (a2) (a3) (h0 : Keeps q a0) : Keeps q (Sys2Proof.Machine.untaggedAbort a0 a1 a2 a3) := by
  unfold Sys2Proof.Machine.untaggedAbort
  repeat'
      first
      | with_reducible assumption | with_reducible apply keeps_emitLan | with_reducible apply keeps_bump
      | with_reducible apply keeps_ite_keep | intro _ | split | dsimp only | (fail_if_no_progress with_reducible apply keeps_mk)

theorem keeps_frameAbort (a0) (a1) (a2) (a3) (h0 : Keeps q a0) : Keeps q (Sys2Proof.Machine.frameAbort a0 a1 a2 a3) := by
  unfold Sys2Proof.Machine.frameAbort
  repeat'
      first
      | with_reducible assumption | with_reducible apply keeps_sendFrame | with_reducible apply keeps_bump | intro _ | split | dsimp only
      | (fail_if_no_progress with_reducible apply keeps_mk) | with_reducible refine keeps_of_fst ?_ (by assumption)
      | with_reducible refine keeps_of_snd ?_ (by assumption) | with_reducible refine keeps_of_snd2 ?_ (by assumption)
      | with_reducible refine keeps_of_some ?_ (by assumption) | with_reducible refine keeps_of_next ?_ (by assumption)

theorem keeps_prunePrp (a0) (a1) (h0 : Keeps q a0) : Keeps q (Sys2Proof.Machine.prunePrp a0 a1) := by
  unfold Sys2Proof.Machine.prunePrp
  repeat'
      first
      | with_reducible assumption | with_reducible apply keeps_bump | with_reducible apply keeps_ite_keep | intro _ | split | dsimp only
      | (fail_if_no_progress with_reducible apply keeps_mk)

theorem keeps_acceptSession (a0) (a1) (a2) (h0 : Keeps q a0) : Keeps q (Sys2Proof.Machine.acceptSession a0 a1 a2) := by
  unfold Sys2Proof.Machine.acceptSession
  repeat'
      first
      | with_reducible assumption | with_reducible apply keeps_sendFrame | with_reducible apply keeps_dropHandshake | intro _
      | dsimp only | (fail_if_no_progress with_reducible apply keeps_mk)

theorem keeps_execPresenceSend (a0) (h0 : Keeps q a0) : KeepsRes q (Sys2Proof.Machine.execPresenceSend a0) := by
  unfold Sys2Proof.Machine.execPresenceSend
  repeat'
      first
      | with_reducible assumption | with_reducible apply keeps_presenceFrame | with_reducible apply keepsRes_next
      | with_reducible exact keepsRes_fault _ | with_reducible exact keepsRes_refused _ | with_reducible apply keepsRes_ite
      | with_reducible apply keeps_ite_keep | intro _ | split | dsimp only

theorem keeps_helloIn (a0) (a1) (a2) (h0 : Keeps q a0) : Keeps q (Sys2Proof.Machine.helloIn a0 a1 a2) := by
  unfold Sys2Proof.Machine.helloIn
  repeat'
      first
      | with_reducible assumption | with_reducible apply keeps_untaggedAbort | with_reducible apply keeps_challenge
      | with_reducible apply keeps_ite_keep | intro _ | split | dsimp only | (fail_if_no_progress with_reducible apply keeps_mk)
      | with_reducible refine keeps_of_fst ?_ (by assumption) | with_reducible refine keeps_of_snd ?_ (by assumption)
      | with_reducible refine keeps_of_snd2 ?_ (by assumption) | with_reducible refine keeps_of_some ?_ (by assumption)
      | with_reducible refine keeps_of_next ?_ (by assumption)

theorem keeps_readIn (a0) (a1) (a2) (h0 : Keeps q a0) : Keeps q (Sys2Proof.Machine.readIn a0 a1 a2) := by
  unfold Sys2Proof.Machine.readIn
  repeat'
      first
      | with_reducible assumption | with_reducible apply keeps_updNirnar | with_reducible apply keeps_answerFrame
      | with_reducible apply keeps_ite_keep | intro _ | split | dsimp only | (fail_if_no_progress with_reducible apply keeps_mk)

theorem keeps_lanAccept (a0) (a1) (a2) (h0 : Keeps q a0) : Keeps q (Sys2Proof.Machine.lanAccept a0 a1 a2).2 := by
  unfold Sys2Proof.Machine.lanAccept
  repeat'
      first
      | with_reducible assumption | with_reducible apply keeps_prunePrp | with_reducible apply keeps_bump
      | with_reducible refine keepsOpt_map (fun _ => ?_) | with_reducible apply keeps_ite_keep | intro _ | split | dsimp only
      | (fail_if_no_progress with_reducible apply keeps_mk) | with_reducible refine keeps_of_fst ?_ (by assumption)
      | with_reducible refine keeps_of_snd ?_ (by assumption) | with_reducible refine keeps_of_snd2 ?_ (by assumption)
      | with_reducible refine keeps_of_some ?_ (by assumption) | with_reducible refine keeps_of_next ?_ (by assumption)

theorem keeps_proveIn (a0) (a1) (a2) (h0 : Keeps q a0) : Keeps q (Sys2Proof.Machine.proveIn a0 a1 a2) := by
  unfold Sys2Proof.Machine.proveIn
  repeat'
      first
      | with_reducible assumption | with_reducible apply keeps_acceptSession | with_reducible apply keeps_untaggedAbort
      | with_reducible apply keeps_dropHandshake | with_reducible apply keeps_ite_keep | intro _ | split | dsimp only
      | (fail_if_no_progress with_reducible apply keeps_mk) | with_reducible refine keeps_of_fst ?_ (by assumption)
      | with_reducible refine keeps_of_snd ?_ (by assumption) | with_reducible refine keeps_of_snd2 ?_ (by assumption)
      | with_reducible refine keeps_of_some ?_ (by assumption) | with_reducible refine keeps_of_next ?_ (by assumption)

theorem keeps_execNotifyResend (a0) (a1) (a2) (h2 : Keeps q a2) : KeepsRes q (Sys2Proof.Machine.execNotifyResend a0 a1 a2) := by
  unfold Sys2Proof.Machine.execNotifyResend
  repeat'
      first
      | with_reducible assumption | with_reducible apply keeps_frameAbort | with_reducible apply keeps_updNirnar
      | with_reducible apply keeps_endSession | with_reducible apply keeps_sendFrame | with_reducible apply keepsRes_next
      | with_reducible exact keepsRes_fault _ | with_reducible exact keepsRes_refused _ | with_reducible apply keepsOpt_some
      | with_reducible exact keepsOpt_none | with_reducible refine keepsOpt_map (fun _ => ?_) | with_reducible apply keepsRes_ite
      | with_reducible apply keeps_ite_keep | intro _ | split | dsimp only | (fail_if_no_progress with_reducible apply keeps_mk)
      | with_reducible refine keeps_of_fst ?_ (by assumption) | with_reducible refine keeps_of_snd ?_ (by assumption)
      | with_reducible refine keeps_of_snd2 ?_ (by assumption) | with_reducible refine keeps_of_some ?_ (by assumption)
      | with_reducible refine keeps_of_next ?_ (by assumption)

theorem keeps_onLan (a0) (a1) (a2) (a3) (h0 : Keeps q a0) (h3 : ∀ x0, Keeps q x0 → Keeps q (a3 x0)) : KeepsRes q (Sys2Proof.Machine.onLan a0 a1 a2 a3) := by
  unfold Sys2Proof.Machine.onLan
  repeat'
      first
      | with_reducible assumption | with_reducible apply keeps_lanAccept | with_reducible apply h3 | with_reducible apply keepsRes_next
      | with_reducible exact keepsRes_fault _ | with_reducible exact keepsRes_refused _ | with_reducible apply keepsRes_ite
      | with_reducible apply keeps_ite_keep | intro _ | split | dsimp only | with_reducible refine keeps_of_fst ?_ (by assumption)
      | with_reducible refine keeps_of_snd ?_ (by assumption) | with_reducible refine keeps_of_snd2 ?_ (by assumption)
      | with_reducible refine keeps_of_some ?_ (by assumption) | with_reducible refine keeps_of_next ?_ (by assumption)

theorem keeps_execNeighbourSolicitation (a0) (a1) (a2) (a3) (a4) (a5) (h5 : Keeps q a5) : KeepsRes q (Sys2Proof.Machine.execNeighbourSolicitation a0 a1 a2 a3 a4 a5) := by
  unfold Sys2Proof.Machine.execNeighbourSolicitation
  repeat'
      first
      | with_reducible assumption | with_reducible apply keeps_onLan | with_reducible apply keeps_emit
      | with_reducible apply keepsRes_next | with_reducible exact keepsRes_fault _ | with_reducible exact keepsRes_refused _
      | with_reducible apply keepsRes_ite | with_reducible apply keeps_ite_keep | intro _ | split | dsimp only

theorem keeps_execArpRequest (a0) (a1) (a2) (a3) (a4) (a5) (a6) (h6 : Keeps q a6) : KeepsRes q (Sys2Proof.Machine.execArpRequest a0 a1 a2 a3 a4 a5 a6) := by
  unfold Sys2Proof.Machine.execArpRequest
  repeat'
      first
      | with_reducible assumption | with_reducible apply keeps_onLan | with_reducible apply keeps_emit
      | with_reducible apply keepsRes_next | with_reducible exact keepsRes_fault _ | with_reducible exact keepsRes_refused _
      | with_reducible apply keepsRes_ite | with_reducible apply keeps_ite_keep | intro _ | split | dsimp only

theorem keeps_execIcmpEcho (a0) (a1) (a2) (a3) (a4) (a5) (a6) (a7) (h7 : Keeps q a7) : KeepsRes q (Sys2Proof.Machine.execIcmpEcho a0 a1 a2 a3 a4 a5 a6 a7) := by
  unfold Sys2Proof.Machine.execIcmpEcho
  repeat'
      first
      | with_reducible assumption | with_reducible apply keeps_onLan | with_reducible apply keeps_emit
      | with_reducible apply keepsRes_next | with_reducible exact keepsRes_fault _ | with_reducible exact keepsRes_refused _
      | with_reducible apply keepsRes_ite | with_reducible apply keeps_ite_keep | intro _ | split | dsimp only

theorem keeps_beginBox (a0) (a1) (a2) (h1 : Keeps q a1) (h2 : ∀ x0, Keeps q x0 → Keeps q (a2 x0)) : KeepsRes q (Sys2Proof.Machine.beginBox a0 a1 a2) := by
  unfold Sys2Proof.Machine.beginBox
  repeat'
      first
      | with_reducible assumption | with_reducible apply keeps_cmdState | with_reducible apply keeps_updBox | with_reducible apply h2
      | with_reducible apply keepsRes_next | with_reducible exact keepsRes_fault _ | with_reducible exact keepsRes_refused _
      | with_reducible apply keepsRes_ite | with_reducible apply keeps_ite_keep | intro _ | split | dsimp only
      | (fail_if_no_progress with_reducible apply keeps_mk)

theorem keeps_execDictCmdRead (a0) (a1) (a2) (a3) (a4) (h4 : Keeps q a4) : KeepsRes q (Sys2Proof.Machine.execDictCmdRead a0 a1 a2 a3 a4) := by
  unfold Sys2Proof.Machine.execDictCmdRead
  repeat'
      first
      | with_reducible assumption | with_reducible apply keeps_beginBox | with_reducible apply keeps_finishBox
      | with_reducible apply keeps_updBox | with_reducible apply keepsRes_next | with_reducible exact keepsRes_fault _
      | with_reducible exact keepsRes_refused _ | with_reducible apply keepsRes_ite | with_reducible apply keeps_ite_keep | intro _ | split
      | dsimp only | (fail_if_no_progress with_reducible apply keeps_mk)

theorem keeps_sendNotify (a0) (a1) (a2) (a3) (a4) (h0 : Keeps q a0) : Keeps q (Sys2Proof.Machine.sendNotify a0 a1 a2 a3 a4) := by
  unfold Sys2Proof.Machine.sendNotify
  repeat'
      first
      | with_reducible assumption | with_reducible apply keeps_answerFrame | with_reducible apply keeps_updNirnar
      | with_reducible apply keeps_answer | with_reducible apply keeps_sendFrame | with_reducible refine keepsOpt_map (fun _ => ?_)
      | with_reducible apply keeps_getD | with_reducible apply keeps_ite_keep | intro _ | split | dsimp only
      | (fail_if_no_progress with_reducible apply keeps_mk) | with_reducible refine keeps_of_fst ?_ (by assumption)
      | with_reducible refine keeps_of_snd ?_ (by assumption) | with_reducible refine keeps_of_snd2 ?_ (by assumption)
      | with_reducible refine keeps_of_some ?_ (by assumption) | with_reducible refine keeps_of_next ?_ (by assumption)

theorem keeps_subscribeIn (a0) (a1) (a2) (h0 : Keeps q a0) : Keeps q (Sys2Proof.Machine.subscribeIn a0 a1 a2) := by
  unfold Sys2Proof.Machine.subscribeIn
  repeat'
      first
      | with_reducible assumption | with_reducible apply keeps_sendNotify | with_reducible apply keeps_answerFrame
      | with_reducible apply keeps_ite_keep | intro _ | split | dsimp only | (fail_if_no_progress with_reducible apply keeps_mk)

theorem keeps_execNotify (a0) (a1) (a2) (a3) (h3 : Keeps q a3) : KeepsRes q (Sys2Proof.Machine.execNotify a0 a1 a2 a3) := by
  unfold Sys2Proof.Machine.execNotify
  repeat'
      first
      | with_reducible assumption | with_reducible apply keeps_sendNotify | with_reducible apply keepsRes_next
      | with_reducible exact keepsRes_fault _ | with_reducible exact keepsRes_refused _ | with_reducible apply keepsOpt_some
      | with_reducible exact keepsOpt_none | with_reducible apply keeps_getD | with_reducible apply keepsRes_ite
      | with_reducible apply keeps_ite_keep | intro _ | split | dsimp only | (fail_if_no_progress with_reducible apply keeps_mk)
      | with_reducible refine keeps_of_fst ?_ (by assumption) | with_reducible refine keeps_of_snd ?_ (by assumption)
      | with_reducible refine keeps_of_snd2 ?_ (by assumption) | with_reducible refine keeps_of_some ?_ (by assumption)
      | with_reducible refine keeps_of_next ?_ (by assumption)

theorem keeps_presenceIn (a0) (a1) (h0 : Keeps q a0) : Keeps q (Sys2Proof.Machine.presenceIn a0 a1) := by
  unfold Sys2Proof.Machine.presenceIn
  repeat'
      first
      | with_reducible assumption | with_reducible apply keeps_bump | with_reducible apply keeps_losePartner
      | with_reducible apply keeps_ite_keep | intro _ | split | dsimp only | (fail_if_no_progress with_reducible apply keeps_mk)

theorem keeps_writeIn (a0) (a1) (a2) (a3) (a4) (h0 : Keeps q a0) : Keeps q (Sys2Proof.Machine.writeIn a0 a1 a2 a3 a4) := by
  unfold Sys2Proof.Machine.writeIn
  repeat'
      first
      | with_reducible assumption | with_reducible apply keeps_submitWrite | with_reducible apply keeps_frameAbort
      | with_reducible apply keeps_updNirnar | with_reducible apply keeps_answerFrame | with_reducible apply keeps_ite_keep | intro _
      | split | dsimp only | (fail_if_no_progress with_reducible apply keeps_mk) | with_reducible refine keeps_of_fst ?_ (by assumption)
      | with_reducible refine keeps_of_snd ?_ (by assumption) | with_reducible refine keeps_of_snd2 ?_ (by assumption)
      | with_reducible refine keeps_of_some ?_ (by assumption) | with_reducible refine keeps_of_next ?_ (by assumption)

theorem keeps_execDictCmdWrite (a0) (a1) (a2) (a3) (a4) (a5) (a6) (a7) (h7 : Keeps q a7) : KeepsRes q (Sys2Proof.Machine.execDictCmdWrite a0 a1 a2 a3 a4 a5 a6 a7) := by
  unfold Sys2Proof.Machine.execDictCmdWrite
  repeat'
      first
      | with_reducible assumption | with_reducible apply keeps_submitWrite | with_reducible apply keeps_beginBox
      | with_reducible apply keeps_finishBox | with_reducible apply keeps_takeAnswer | with_reducible apply keeps_execRecoveryData
      | with_reducible apply keeps_updBox | with_reducible apply keepsRes_next | with_reducible exact keepsRes_fault _
      | with_reducible exact keepsRes_refused _ | with_reducible apply keepsOpt_some | with_reducible exact keepsOpt_none
      | with_reducible apply keepsRes_ite | with_reducible apply keeps_ite_keep | intro _ | split | dsimp only
      | (fail_if_no_progress with_reducible apply keeps_mk) | with_reducible refine keeps_of_fst ?_ (by assumption)
      | with_reducible refine keeps_of_snd ?_ (by assumption) | with_reducible refine keeps_of_snd2 ?_ (by assumption)
      | with_reducible refine keeps_of_some ?_ (by assumption) | with_reducible refine keeps_of_next ?_ (by assumption)

theorem keeps_act (a0) (a1) (a2) (a3) (a4) (h0 : Keeps q a0) : Keeps q (Sys2Proof.Machine.act a0 a1 a2 a3 a4) := by
  unfold Sys2Proof.Machine.act
  repeat'
      first
      | with_reducible assumption | with_reducible apply keeps_readIn | with_reducible apply keeps_unsubscribeIn
      | with_reducible apply keeps_writeIn | with_reducible apply keeps_notifyAckIn | with_reducible apply keeps_endSession
      | with_reducible apply keeps_subscribeIn | with_reducible apply keeps_sendFrame | with_reducible apply keeps_bump
      | with_reducible apply keeps_ite_keep | intro _ | split | dsimp only | (fail_if_no_progress with_reducible apply keeps_mk)
      | with_reducible refine keeps_of_fst ?_ (by assumption) | with_reducible refine keeps_of_snd ?_ (by assumption)
      | with_reducible refine keeps_of_snd2 ?_ (by assumption) | with_reducible refine keeps_of_some ?_ (by assumption)
      | with_reducible refine keeps_of_next ?_ (by assumption)

theorem keeps_sessionIn (a0) (a1) (a2) (a3) (a4) (h0 : Keeps q a0) : Keeps q (Sys2Proof.Machine.sessionIn a0 a1 a2 a3 a4) := by
  unfold Sys2Proof.Machine.sessionIn
  repeat'
      first
      | with_reducible assumption | with_reducible apply keeps_frameAbort | with_reducible apply keeps_updNirnar
      | with_reducible apply keeps_act | with_reducible apply keeps_bump | with_reducible apply keeps_ite_keep | intro _ | split
      | dsimp only | (fail_if_no_progress with_reducible apply keeps_mk)

theorem keeps_frameIn (a0) (a1) (a2) (a3) (a4) (h0 : Keeps q a0) : Keeps q (Sys2Proof.Machine.frameIn a0 a1 a2 a3 a4) := by
  unfold Sys2Proof.Machine.frameIn
  repeat'
      first
      | with_reducible assumption | with_reducible apply keeps_helloIn | with_reducible apply keeps_untaggedAbort
      | with_reducible apply keeps_endSession | with_reducible apply keeps_presenceIn | with_reducible apply keeps_proveIn
      | with_reducible apply keeps_sessionIn | with_reducible apply keeps_ite_keep | intro _ | split | dsimp only
      | (fail_if_no_progress with_reducible apply keeps_mk) | with_reducible refine keeps_of_fst ?_ (by assumption)
      | with_reducible refine keeps_of_snd ?_ (by assumption) | with_reducible refine keeps_of_snd2 ?_ (by assumption)
      | with_reducible refine keeps_of_some ?_ (by assumption) | with_reducible refine keeps_of_next ?_ (by assumption)

theorem keeps_frameRow (a0) (a1) (a2) (a3) (a4) (a5) (a6) (h0 : Keeps q a0) : KeepsRes q (Sys2Proof.Machine.frameRow a0 a1 a2 a3 a4 a5 a6) := by
  unfold Sys2Proof.Machine.frameRow
  repeat'
      first
      | with_reducible assumption | with_reducible apply keeps_onLan | with_reducible apply keeps_frameIn
      | with_reducible apply keepsRes_next | with_reducible exact keepsRes_fault _ | with_reducible exact keepsRes_refused _ | intro _
      | dsimp only

theorem keeps_execProve (a0) (a1) (a2) (a3) (a4) (h4 : Keeps q a4) : KeepsRes q (Sys2Proof.Machine.execProve a0 a1 a2 a3 a4) := by
  unfold Sys2Proof.Machine.execProve
  repeat'
      first
      | with_reducible assumption | with_reducible apply keeps_frameRow | with_reducible apply keepsRes_next
      | with_reducible exact keepsRes_fault _ | with_reducible exact keepsRes_refused _ | intro _ | dsimp only

theorem keeps_execNotifyAck (a0) (a1) (a2) (a3) (a4) (h4 : Keeps q a4) : KeepsRes q (Sys2Proof.Machine.execNotifyAck a0 a1 a2 a3 a4) := by
  unfold Sys2Proof.Machine.execNotifyAck
  repeat'
      first
      | with_reducible assumption | with_reducible apply keeps_frameRow | with_reducible apply keepsRes_next
      | with_reducible exact keepsRes_fault _ | with_reducible exact keepsRes_refused _ | intro _ | dsimp only

theorem keeps_execUnsubscribe (a0) (a1) (a2) (a3) (a4) (h4 : Keeps q a4) : KeepsRes q (Sys2Proof.Machine.execUnsubscribe a0 a1 a2 a3 a4) := by
  unfold Sys2Proof.Machine.execUnsubscribe
  repeat'
      first
      | with_reducible assumption | with_reducible apply keeps_frameRow | with_reducible apply keepsRes_next
      | with_reducible exact keepsRes_fault _ | with_reducible exact keepsRes_refused _ | intro _ | dsimp only

theorem keeps_execPresence (a0) (a1) (a2) (a3) (a4) (h4 : Keeps q a4) : KeepsRes q (Sys2Proof.Machine.execPresence a0 a1 a2 a3 a4) := by
  unfold Sys2Proof.Machine.execPresence
  repeat'
      first
      | with_reducible assumption | with_reducible apply keeps_frameRow | with_reducible apply keepsRes_next
      | with_reducible exact keepsRes_fault _ | with_reducible exact keepsRes_refused _ | intro _ | dsimp only

theorem keeps_execNirnarAbort (a0) (a1) (a2) (a3) (a4) (h4 : Keeps q a4) : KeepsRes q (Sys2Proof.Machine.execNirnarAbort a0 a1 a2 a3 a4) := by
  unfold Sys2Proof.Machine.execNirnarAbort
  repeat'
      first
      | with_reducible assumption | with_reducible apply keeps_frameRow | with_reducible apply keepsRes_next
      | with_reducible exact keepsRes_fault _ | with_reducible exact keepsRes_refused _ | intro _ | dsimp only

theorem keeps_execNirnarRead (a0) (a1) (a2) (a3) (a4) (h4 : Keeps q a4) : KeepsRes q (Sys2Proof.Machine.execNirnarRead a0 a1 a2 a3 a4) := by
  unfold Sys2Proof.Machine.execNirnarRead
  repeat'
      first
      | with_reducible assumption | with_reducible apply keeps_frameRow | with_reducible apply keepsRes_next
      | with_reducible exact keepsRes_fault _ | with_reducible exact keepsRes_refused _ | intro _ | dsimp only

theorem keeps_execHello (a0) (a1) (a2) (a3) (a4) (h4 : Keeps q a4) : KeepsRes q (Sys2Proof.Machine.execHello a0 a1 a2 a3 a4) := by
  unfold Sys2Proof.Machine.execHello
  repeat'
      first
      | with_reducible assumption | with_reducible apply keeps_frameRow | with_reducible apply keepsRes_next
      | with_reducible exact keepsRes_fault _ | with_reducible exact keepsRes_refused _ | intro _ | dsimp only

theorem keeps_execNirnarWrite (a0) (a1) (a2) (a3) (a4) (a5) (a6) (h6 : Keeps q a6) : KeepsRes q (Sys2Proof.Machine.execNirnarWrite a0 a1 a2 a3 a4 a5 a6) := by
  unfold Sys2Proof.Machine.execNirnarWrite
  repeat'
      first
      | with_reducible assumption | with_reducible apply keeps_frameRow | with_reducible apply keepsRes_next
      | with_reducible exact keepsRes_fault _ | with_reducible exact keepsRes_refused _ | intro _ | dsimp only

theorem keeps_execKeepalive (a0) (a1) (a2) (a3) (a4) (h4 : Keeps q a4) : KeepsRes q (Sys2Proof.Machine.execKeepalive a0 a1 a2 a3 a4) := by
  unfold Sys2Proof.Machine.execKeepalive
  repeat'
      first
      | with_reducible assumption | with_reducible apply keeps_frameRow | with_reducible apply keepsRes_next
      | with_reducible exact keepsRes_fault _ | with_reducible exact keepsRes_refused _ | intro _ | dsimp only

theorem keeps_execClose (a0) (a1) (a2) (a3) (a4) (h4 : Keeps q a4) : KeepsRes q (Sys2Proof.Machine.execClose a0 a1 a2 a3 a4) := by
  unfold Sys2Proof.Machine.execClose
  repeat'
      first
      | with_reducible assumption | with_reducible apply keeps_frameRow | with_reducible apply keepsRes_next
      | with_reducible exact keepsRes_fault _ | with_reducible exact keepsRes_refused _ | intro _ | dsimp only

theorem keeps_execSubscribe (a0) (a1) (a2) (a3) (a4) (h4 : Keeps q a4) : KeepsRes q (Sys2Proof.Machine.execSubscribe a0 a1 a2 a3 a4) := by
  unfold Sys2Proof.Machine.execSubscribe
  repeat'
      first
      | with_reducible assumption | with_reducible apply keeps_frameRow | with_reducible apply keepsRes_next
      | with_reducible exact keepsRes_fault _ | with_reducible exact keepsRes_refused _ | intro _ | dsimp only


/-! ## Package -/

theorem keeps_withTap (a0) (a1) (h0 : Keeps q a0) (h1 : ∀ x0, Keeps q x0 → Keeps q (a1 x0)) : KeepsRes q (Sys2Proof.Machine.withTap a0 a1) := by
  unfold Sys2Proof.Machine.withTap
  repeat'
      first
      | with_reducible assumption | with_reducible apply h1 | with_reducible apply keepsRes_next | with_reducible exact keepsRes_fault _
      | with_reducible exact keepsRes_refused _ | with_reducible apply keepsRes_ite | with_reducible apply keeps_ite_keep | intro _ | split
      | dsimp only

theorem keeps_withPldm (a0) (a1) (h0 : Keeps q a0) (h1 : ∀ x0, Keeps q x0 → Keeps q (a1 x0)) : KeepsRes q (Sys2Proof.Machine.withPldm a0 a1) := by
  unfold Sys2Proof.Machine.withPldm
  repeat'
      first
      | with_reducible assumption | with_reducible apply h1 | with_reducible apply keepsRes_next | with_reducible exact keepsRes_fault _
      | with_reducible exact keepsRes_refused _ | with_reducible apply keepsRes_ite | with_reducible apply keeps_ite_keep | intro _ | split
      | dsimp only

theorem keeps_tapTake (a0) (a1) (a2) (h0 : Keeps q a0) : Keeps q (Sys2Proof.Machine.tapTake a0 a1 a2) := by
  unfold Sys2Proof.Machine.tapTake
  repeat'
      first
      | with_reducible assumption | with_reducible apply keeps_emit | intro _ | dsimp only
      | (fail_if_no_progress with_reducible apply keeps_mk)

theorem keeps_pldmAnswer (a0) (a1) (a2) (a3) (a4) (h0 : Keeps q a0) : Keeps q (Sys2Proof.Machine.pldmAnswer a0 a1 a2 a3 a4) := by
  unfold Sys2Proof.Machine.pldmAnswer
  repeat' first | with_reducible assumption | with_reducible apply keeps_emit | intro _ | dsimp only

theorem keeps_execEntdaa (a0) (a1) (h1 : Keeps q a1) : KeepsRes q (Sys2Proof.Machine.execEntdaa a0 a1) := by
  unfold Sys2Proof.Machine.execEntdaa
  repeat'
      first
      | with_reducible assumption | with_reducible apply keeps_emit | with_reducible apply keepsRes_next
      | with_reducible exact keepsRes_fault _ | with_reducible exact keepsRes_refused _ | with_reducible apply keepsOpt_some
      | with_reducible exact keepsOpt_none | with_reducible apply keepsRes_ite | with_reducible apply keeps_ite_keep | intro _ | split
      | dsimp only | (fail_if_no_progress with_reducible apply keeps_mk)

theorem keeps_execSamplePreload (a0) (a1) (a2) (h2 : Keeps q a2) : KeepsRes q (Sys2Proof.Machine.execSamplePreload a0 a1 a2) := by
  unfold Sys2Proof.Machine.execSamplePreload
  repeat'
      first
      | with_reducible assumption | with_reducible apply keeps_withTap | with_reducible apply keeps_tapTake
      | with_reducible apply keepsRes_next | with_reducible exact keepsRes_fault _ | with_reducible exact keepsRes_refused _
      | with_reducible refine keepsOpt_map (fun _ => ?_) | intro _ | dsimp only | (fail_if_no_progress with_reducible apply keeps_mk)

theorem keeps_boundaryOp (a0) (a1) (a2) (h0 : Keeps q a0) : KeepsRes q (Sys2Proof.Machine.boundaryOp a0 a1 a2) := by
  unfold Sys2Proof.Machine.boundaryOp
  repeat'
      first
      | with_reducible assumption | with_reducible apply keeps_withTap | with_reducible apply keeps_tapTake
      | with_reducible apply keepsRes_next | with_reducible exact keepsRes_fault _ | with_reducible exact keepsRes_refused _
      | with_reducible refine keepsOpt_map (fun _ => ?_) | with_reducible apply keepsRes_ite | with_reducible apply keeps_ite_keep | intro _
      | split | dsimp only

theorem keeps_execIdcode (a0) (h0 : Keeps q a0) : KeepsRes q (Sys2Proof.Machine.execIdcode a0) := by
  unfold Sys2Proof.Machine.execIdcode
  repeat'
      first
      | with_reducible assumption | with_reducible apply keeps_withTap | with_reducible apply keeps_tapTake
      | with_reducible apply keepsRes_next | with_reducible exact keepsRes_fault _ | with_reducible exact keepsRes_refused _ | intro _
      | dsimp only

theorem keeps_execBypass (a0) (h0 : Keeps q a0) : KeepsRes q (Sys2Proof.Machine.execBypass a0) := by
  unfold Sys2Proof.Machine.execBypass
  repeat'
      first
      | with_reducible assumption | with_reducible apply keeps_withTap | with_reducible apply keeps_tapTake
      | with_reducible apply keepsRes_next | with_reducible exact keepsRes_fault _ | with_reducible exact keepsRes_refused _ | intro _
      | dsimp only

theorem keeps_execExtestTrain (a0) (h0 : Keeps q a0) : KeepsRes q (Sys2Proof.Machine.execExtestTrain a0) := by
  unfold Sys2Proof.Machine.execExtestTrain
  repeat'
      first
      | with_reducible assumption | with_reducible apply keeps_boundaryOp | with_reducible apply keepsRes_next
      | with_reducible exact keepsRes_fault _ | with_reducible exact keepsRes_refused _ | intro _ | dsimp only

theorem keeps_execExtest (a0) (h0 : Keeps q a0) : KeepsRes q (Sys2Proof.Machine.execExtest a0) := by
  unfold Sys2Proof.Machine.execExtest
  repeat'
      first
      | with_reducible assumption | with_reducible apply keeps_boundaryOp | with_reducible apply keepsRes_next
      | with_reducible exact keepsRes_fault _ | with_reducible exact keepsRes_refused _ | intro _ | dsimp only

theorem keeps_execClamp (a0) (h0 : Keeps q a0) : KeepsRes q (Sys2Proof.Machine.execClamp a0) := by
  unfold Sys2Proof.Machine.execClamp
  repeat'
      first
      | with_reducible assumption | with_reducible apply keeps_boundaryOp | with_reducible apply keepsRes_next
      | with_reducible exact keepsRes_fault _ | with_reducible exact keepsRes_refused _ | intro _ | dsimp only

theorem keeps_execHighz (a0) (h0 : Keeps q a0) : KeepsRes q (Sys2Proof.Machine.execHighz a0) := by
  unfold Sys2Proof.Machine.execHighz
  repeat'
      first
      | with_reducible assumption | with_reducible apply keeps_boundaryOp | with_reducible apply keepsRes_next
      | with_reducible exact keepsRes_fault _ | with_reducible exact keepsRes_refused _ | intro _ | dsimp only

theorem keeps_execExtestPulse (a0) (h0 : Keeps q a0) : KeepsRes q (Sys2Proof.Machine.execExtestPulse a0) := by
  unfold Sys2Proof.Machine.execExtestPulse
  repeat'
      first
      | with_reducible assumption | with_reducible apply keeps_boundaryOp | with_reducible apply keepsRes_next
      | with_reducible exact keepsRes_fault _ | with_reducible exact keepsRes_refused _ | intro _ | dsimp only

theorem keeps_pldmError (a0) (a1) (a2) (h0 : Keeps q a0) : Keeps q (Sys2Proof.Machine.pldmError a0 a1 a2) := by
  unfold Sys2Proof.Machine.pldmError
  repeat' first | with_reducible assumption | with_reducible apply keeps_hostViolation | with_reducible apply keeps_pldmAnswer | intro _ | dsimp only

theorem keeps_execPldmSensorRead (a0) (a1) (a2) (h2 : Keeps q a2) : KeepsRes q (Sys2Proof.Machine.execPldmSensorRead a0 a1 a2) := by
  unfold Sys2Proof.Machine.execPldmSensorRead
  repeat'
      first
      | with_reducible assumption | with_reducible apply keeps_pldmError | with_reducible apply keeps_withPldm
      | with_reducible apply keeps_pldmAnswer | with_reducible apply keepsRes_next | with_reducible exact keepsRes_fault _
      | with_reducible exact keepsRes_refused _ | with_reducible apply keepsOpt_some | with_reducible exact keepsOpt_none
      | with_reducible apply keepsRes_ite | with_reducible apply keeps_ite_keep | intro _ | split | dsimp only
      | (fail_if_no_progress with_reducible apply keeps_mk) | with_reducible refine keeps_of_fst ?_ (by assumption)
      | with_reducible refine keeps_of_snd ?_ (by assumption) | with_reducible refine keeps_of_snd2 ?_ (by assumption)
      | with_reducible refine keeps_of_some ?_ (by assumption) | with_reducible refine keeps_of_next ?_ (by assumption)

theorem keeps_execPldmBaseDiscovery (a0) (a1) (a2) (a3) (h3 : Keeps q a3) : KeepsRes q (Sys2Proof.Machine.execPldmBaseDiscovery a0 a1 a2 a3) := by
  unfold Sys2Proof.Machine.execPldmBaseDiscovery
  repeat'
      first
      | with_reducible assumption | with_reducible apply keeps_pldmError | with_reducible apply keeps_withPldm
      | with_reducible apply keeps_pldmAnswer | with_reducible apply keepsRes_next | with_reducible exact keepsRes_fault _
      | with_reducible exact keepsRes_refused _ | with_reducible apply keepsRes_ite | with_reducible apply keeps_ite_keep | intro _ | split
      | dsimp only | (fail_if_no_progress with_reducible apply keeps_mk) | with_reducible refine keeps_of_fst ?_ (by assumption)
      | with_reducible refine keeps_of_snd ?_ (by assumption) | with_reducible refine keeps_of_snd2 ?_ (by assumption)
      | with_reducible refine keeps_of_some ?_ (by assumption) | with_reducible refine keeps_of_next ?_ (by assumption)

theorem keeps_execPldmFruRead (a0) (a1) (h1 : Keeps q a1) : KeepsRes q (Sys2Proof.Machine.execPldmFruRead a0 a1) := by
  unfold Sys2Proof.Machine.execPldmFruRead
  repeat'
      first
      | with_reducible assumption | with_reducible apply keeps_withPldm | with_reducible apply keeps_pldmError
      | with_reducible apply keeps_pldmAnswer | with_reducible apply keepsRes_next | with_reducible exact keepsRes_fault _
      | with_reducible exact keepsRes_refused _ | intro _ | split | dsimp only | (fail_if_no_progress with_reducible apply keeps_mk)
      | with_reducible refine keeps_of_fst ?_ (by assumption) | with_reducible refine keeps_of_snd ?_ (by assumption)
      | with_reducible refine keeps_of_snd2 ?_ (by assumption) | with_reducible refine keeps_of_some ?_ (by assumption)
      | with_reducible refine keeps_of_next ?_ (by assumption)


/-! ## RegWrite -/

theorem keeps_writeWin (a0) (a1) (a2) (a3) (a4) (h0 : Keeps q a0) : Keeps q (Sys2Proof.Machine.writeWin a0 a1 a2 a3 a4) := by
  unfold Sys2Proof.Machine.writeWin
  repeat'
      first
      | with_reducible assumption | with_reducible apply keeps_afterRes | with_reducible apply keeps_execWinWrite
      | with_reducible apply keeps_ite_keep | intro _ | split | dsimp only

theorem keeps_writeMsix (a0) (a1) (a2) (a3) (h0 : Keeps q a0) : Keeps q (Sys2Proof.Machine.writeMsix a0 a1 a2 a3) := by
  unfold Sys2Proof.Machine.writeMsix
  repeat'
      first
      | with_reducible assumption | with_reducible apply keeps_afterRes | with_reducible apply keeps_execMsixUnmask
      | with_reducible apply keeps_ite_keep | intro _ | split | dsimp only | (fail_if_no_progress with_reducible apply keeps_mk)
      | with_reducible refine keeps_of_fst ?_ (by assumption) | with_reducible refine keeps_of_snd ?_ (by assumption)
      | with_reducible refine keeps_of_snd2 ?_ (by assumption) | with_reducible refine keeps_of_some ?_ (by assumption)
      | with_reducible refine keeps_of_next ?_ (by assumption)

theorem keeps_writePageUnit (a0) (a1) (a2) (a3) (h0 : Keeps q a0) : Keeps q (Sys2Proof.Machine.writePageUnit a0 a1 a2 a3) := by
  unfold Sys2Proof.Machine.writePageUnit
  repeat'
      first
      | with_reducible assumption | with_reducible apply keeps_execItargetWrite | with_reducible apply keeps_execIpendClear
      | with_reducible apply keeps_afterRes | with_reducible apply keeps_writeMsix | with_reducible apply keeps_ite_keep | intro _ | split
      | dsimp only

theorem keeps_writeRingCfg (a0) (a1) (a2) (a3) (a4) (h0 : Keeps q a0) : Keeps q (Sys2Proof.Machine.writeRingCfg a0 a1 a2 a3 a4) := by
  unfold Sys2Proof.Machine.writeRingCfg
  repeat'
      first
      | with_reducible assumption | with_reducible apply keeps_execRingDisable | with_reducible apply keeps_afterRes
      | with_reducible apply keeps_execRingEnable | with_reducible apply keeps_State_setRing | with_reducible apply keeps_ite_keep | intro _
      | split | dsimp only | (fail_if_no_progress with_reducible apply keeps_mk) | with_reducible refine keeps_of_fst ?_ (by assumption)
      | with_reducible refine keeps_of_snd ?_ (by assumption) | with_reducible refine keeps_of_snd2 ?_ (by assumption)
      | with_reducible refine keeps_of_some ?_ (by assumption) | with_reducible refine keeps_of_next ?_ (by assumption)

theorem keeps_writeDictCmd (a0) (a1) (a2) (a3) (a4) (h0 : Keeps q a0) : Keeps q (Sys2Proof.Machine.writeDictCmd a0 a1 a2 a3 a4) := by
  unfold Sys2Proof.Machine.writeDictCmd
  repeat'
      first
      | with_reducible assumption | with_reducible apply keeps_execDictCmdRead | with_reducible apply keeps_afterRes
      | with_reducible apply keeps_execDictCmdWrite | with_reducible apply keeps_beginBox | with_reducible apply keeps_finishBox | intro _
      | split | dsimp only | (fail_if_no_progress with_reducible apply keeps_mk) | with_reducible refine keeps_of_fst ?_ (by assumption)
      | with_reducible refine keeps_of_snd ?_ (by assumption) | with_reducible refine keeps_of_snd2 ?_ (by assumption)
      | with_reducible refine keeps_of_some ?_ (by assumption) | with_reducible refine keeps_of_next ?_ (by assumption)

theorem keeps_writeBox (a0) (a1) (a2) (a3) (a4) (a5) (h0 : Keeps q a0) : Keeps q (Sys2Proof.Machine.writeBox a0 a1 a2 a3 a4 a5) := by
  unfold Sys2Proof.Machine.writeBox
  repeat'
      first
      | with_reducible assumption | with_reducible apply keeps_writeDictCmd | with_reducible apply keeps_cmdState
      | with_reducible apply keeps_updBox | with_reducible apply keeps_ite_keep | intro _ | split | dsimp only
      | (fail_if_no_progress with_reducible apply keeps_mk) | with_reducible refine keeps_of_fst ?_ (by assumption)
      | with_reducible refine keeps_of_snd ?_ (by assumption) | with_reducible refine keeps_of_snd2 ?_ (by assumption)
      | with_reducible refine keeps_of_some ?_ (by assumption) | with_reducible refine keeps_of_next ?_ (by assumption)

theorem keeps_writeBar0 (a0) (a1) (a2) (a3) (a4) (a5) (a6) (h0 : Keeps q a0) : Keeps q (Sys2Proof.Machine.writeBar0 a0 a1 a2 a3 a4 a5 a6) := by
  unfold Sys2Proof.Machine.writeBar0
  repeat'
      first
      | with_reducible assumption | with_reducible apply keeps_hostViolation | with_reducible apply keeps_execBar0BadAccess
      | with_reducible apply keeps_cmdState | with_reducible apply keeps_writeRingCfg | with_reducible apply keeps_writeWin
      | with_reducible apply keeps_writeBox | with_reducible apply keeps_writePageUnit | with_reducible apply keeps_afterRes
      | with_reducible apply keeps_execDoorbell | with_reducible apply keeps_ite_keep | intro _ | split | dsimp only

theorem keeps_execRegWrite (a0) (a1) (a2) (a3) (a4) (a5) (a6) (a7) (a8) (h8 : Keeps q a8) : KeepsRes q (Sys2Proof.Machine.execRegWrite a0 a1 a2 a3 a4 a5 a6 a7 a8) := by
  unfold Sys2Proof.Machine.execRegWrite
  repeat'
      first
      | with_reducible assumption | with_reducible apply keeps_hostViolation | with_reducible apply keeps_writeBar0
      | with_reducible apply keeps_regWrite | with_reducible apply keepsRes_next | with_reducible exact keepsRes_fault _
      | with_reducible exact keepsRes_refused _ | with_reducible apply keepsRes_ite | with_reducible apply keeps_ite_keep | intro _ | split
      | dsimp only


/-! ## Step -/

theorem keeps_idle (a0) (h0 : Keeps q a0) : Keeps q (Sys2Proof.Machine.idle a0) := by
  unfold Sys2Proof.Machine.idle
  repeat' first | with_reducible assumption | intro _ | dsimp only | (fail_if_no_progress with_reducible apply keeps_mk)

end Sys2Proof.Laws
end

