-- ==== Sys2Proof/Laws/State.lean ====
section
/-!
SUPPORT. What the named updates of the state change: one lemma per field.
-/

namespace Sys2Proof.Laws

open Sys2Proof Sys2Proof.Machine

variable (s : State) (k : Nat)

/-! ## setStack -/

@[simp] theorem updStack_eq (f : Stack → Stack) : s.updStack k f = s.setStack k (f (s.stack k)) := rfl
@[simp] theorem setStack_now (x : Stack) : (s.setStack k x).now = s.now := rfl
@[simp] theorem setStack_ptp (x : Stack) : (s.setStack k x).ptp = s.ptp := rfl
@[simp] theorem setStack_dev (x : Stack) : (s.setStack k x).dev = s.dev := rfl
@[simp] theorem setStack_dict (x : Stack) : (s.setStack k x).dict = s.dict := rfl
@[simp] theorem setStack_blob (x : Stack) : (s.setStack k x).blob = s.blob := rfl
@[simp] theorem setStack_cfg (x : Stack) : (s.setStack k x).cfg = s.cfg := rfl
@[simp] theorem setStack_cfgBlob (x : Stack) : (s.setStack k x).cfgBlob = s.cfgBlob := rfl
@[simp] theorem setStack_subs (x : Stack) : (s.setStack k x).subs = s.subs := rfl
@[simp] theorem setStack_free (x : Stack) : (s.setStack k x).free = s.free := rfl
@[simp] theorem setStack_stackMap (x : Stack) : (s.setStack k x).stackMap = mapSet {} s.stackMap k x := rfl
@[simp] theorem setStack_pots (x : Stack) : (s.setStack k x).pots = s.pots := rfl
@[simp] theorem setStack_locals (x : Stack) : (s.setStack k x).locals = s.locals := rfl
@[simp] theorem setStack_buffers (x : Stack) : (s.setStack k x).buffers = s.buffers := rfl
@[simp] theorem setStack_merges (x : Stack) : (s.setStack k x).merges = s.merges := rfl
@[simp] theorem setStack_engines (x : Stack) : (s.setStack k x).engines = s.engines := rfl
@[simp] theorem setStack_potCorrected (x : Stack) : (s.setStack k x).potCorrected = s.potCorrected := rfl
@[simp] theorem setStack_potUncorrectable (x : Stack) : (s.setStack k x).potUncorrectable = s.potUncorrectable := rfl
@[simp] theorem setStack_potWhiskPos (x : Stack) : (s.setStack k x).potWhiskPos = s.potWhiskPos := rfl
@[simp] theorem setStack_potWhiskStart (x : Stack) : (s.setStack k x).potWhiskStart = s.potWhiskStart := rfl
@[simp] theorem setStack_potWhiskLast (x : Stack) : (s.setStack k x).potWhiskLast = s.potWhiskLast := rfl
@[simp] theorem setStack_repairQueue (x : Stack) : (s.setStack k x).repairQueue = s.repairQueue := rfl
@[simp] theorem setStack_repairRecord (x : Stack) : (s.setStack k x).repairRecord = s.repairRecord := rfl
@[simp] theorem setStack_repairSigs (x : Stack) : (s.setStack k x).repairSigs = s.repairSigs := rfl
@[simp] theorem setStack_faults (x : Stack) : (s.setStack k x).faults = s.faults := rfl
@[simp] theorem setStack_irq (x : Stack) : (s.setStack k x).irq = s.irq := rfl
@[simp] theorem setStack_slots (x : Stack) : (s.setStack k x).slots = s.slots := rfl
@[simp] theorem setStack_seqImages (x : Stack) : (s.setStack k x).seqImages = s.seqImages := rfl
@[simp] theorem setStack_reqs (x : Stack) : (s.setStack k x).reqs = s.reqs := rfl
@[simp] theorem setStack_ladles (x : Stack) : (s.setStack k x).ladles = s.ladles := rfl
@[simp] theorem setStack_grid (x : Stack) : (s.setStack k x).grid = s.grid := rfl
@[simp] theorem setStack_stepSats (x : Stack) : (s.setStack k x).stepSats = s.stepSats := rfl
@[simp] theorem setStack_stepNonfinite (x : Stack) : (s.setStack k x).stepNonfinite = s.stepNonfinite := rfl
@[simp] theorem setStack_kvPoisoned (x : Stack) : (s.setStack k x).kvPoisoned = s.kvPoisoned := rfl
@[simp] theorem setStack_movers (x : Stack) : (s.setStack k x).movers = s.movers := rfl
@[simp] theorem setStack_bursts (x : Stack) : (s.setStack k x).bursts = s.bursts := rfl
@[simp] theorem setStack_walkers (x : Stack) : (s.setStack k x).walkers = s.walkers := rfl
@[simp] theorem setStack_rings (x : Stack) : (s.setStack k x).rings = s.rings := rfl
@[simp] theorem setStack_ringTurn (x : Stack) : (s.setStack k x).ringTurn = s.ringTurn := rfl
@[simp] theorem setStack_host (x : Stack) : (s.setStack k x).host = s.host := rfl
@[simp] theorem setStack_tenants (x : Stack) : (s.setStack k x).tenants = s.tenants := rfl
@[simp] theorem setStack_ctx (x : Stack) : (s.setStack k x).ctx = s.ctx := rfl
@[simp] theorem setStack_svc (x : Stack) : (s.setStack k x).svc = s.svc := rfl
@[simp] theorem setStack_fabric (x : Stack) : (s.setStack k x).fabric = s.fabric := rfl
@[simp] theorem setStack_tandem (x : Stack) : (s.setStack k x).tandem = s.tandem := rfl
@[simp] theorem setStack_cad (x : Stack) : (s.setStack k x).cad = s.cad := rfl
@[simp] theorem setStack_clock (x : Stack) : (s.setStack k x).clock = s.clock := rfl
@[simp] theorem setStack_power (x : Stack) : (s.setStack k x).power = s.power := rfl
@[simp] theorem setStack_flash (x : Stack) : (s.setStack k x).flash = s.flash := rfl
@[simp] theorem setStack_test (x : Stack) : (s.setStack k x).test = s.test := rfl
@[simp] theorem setStack_health (x : Stack) : (s.setStack k x).health = s.health := rfl
@[simp] theorem setStack_sec (x : Stack) : (s.setStack k x).sec = s.sec := rfl
@[simp] theorem setStack_pkg (x : Stack) : (s.setStack k x).pkg = s.pkg := rfl
@[simp] theorem setStack_nirnar (x : Stack) : (s.setStack k x).nirnar = s.nirnar := rfl
@[simp] theorem setStack_out (x : Stack) : (s.setStack k x).out = s.out := rfl
@[simp] theorem setStack_pending (x : Stack) : (s.setStack k x).pending = s.pending := rfl
@[simp] theorem stack_setStack (x : Stack) (j : Nat) : (s.setStack k x).stack j = if j = k then x else s.stack j :=
  mapGet_mapSet _ _ k j x

/-! ## setEngine -/

@[simp] theorem updEngine_eq (f : Engine → Engine) : s.updEngine k f = s.setEngine k (f (s.engine k)) := rfl
@[simp] theorem setEngine_now (x : Engine) : (s.setEngine k x).now = s.now := rfl
@[simp] theorem setEngine_ptp (x : Engine) : (s.setEngine k x).ptp = s.ptp := rfl
@[simp] theorem setEngine_dev (x : Engine) : (s.setEngine k x).dev = s.dev := rfl
@[simp] theorem setEngine_dict (x : Engine) : (s.setEngine k x).dict = s.dict := rfl
@[simp] theorem setEngine_blob (x : Engine) : (s.setEngine k x).blob = s.blob := rfl
@[simp] theorem setEngine_cfg (x : Engine) : (s.setEngine k x).cfg = s.cfg := rfl
@[simp] theorem setEngine_cfgBlob (x : Engine) : (s.setEngine k x).cfgBlob = s.cfgBlob := rfl
@[simp] theorem setEngine_subs (x : Engine) : (s.setEngine k x).subs = s.subs := rfl
@[simp] theorem setEngine_free (x : Engine) : (s.setEngine k x).free = s.free := rfl
@[simp] theorem setEngine_stackMap (x : Engine) : (s.setEngine k x).stackMap = s.stackMap := rfl
@[simp] theorem setEngine_pots (x : Engine) : (s.setEngine k x).pots = s.pots := rfl
@[simp] theorem setEngine_locals (x : Engine) : (s.setEngine k x).locals = s.locals := rfl
@[simp] theorem setEngine_buffers (x : Engine) : (s.setEngine k x).buffers = s.buffers := rfl
@[simp] theorem setEngine_merges (x : Engine) : (s.setEngine k x).merges = s.merges := rfl
@[simp] theorem setEngine_engines (x : Engine) : (s.setEngine k x).engines = mapSet {} s.engines k x := rfl
@[simp] theorem setEngine_potCorrected (x : Engine) : (s.setEngine k x).potCorrected = s.potCorrected := rfl
@[simp] theorem setEngine_potUncorrectable (x : Engine) : (s.setEngine k x).potUncorrectable = s.potUncorrectable := rfl
@[simp] theorem setEngine_potWhiskPos (x : Engine) : (s.setEngine k x).potWhiskPos = s.potWhiskPos := rfl
@[simp] theorem setEngine_potWhiskStart (x : Engine) : (s.setEngine k x).potWhiskStart = s.potWhiskStart := rfl
@[simp] theorem setEngine_potWhiskLast (x : Engine) : (s.setEngine k x).potWhiskLast = s.potWhiskLast := rfl
@[simp] theorem setEngine_repairQueue (x : Engine) : (s.setEngine k x).repairQueue = s.repairQueue := rfl
@[simp] theorem setEngine_repairRecord (x : Engine) : (s.setEngine k x).repairRecord = s.repairRecord := rfl
@[simp] theorem setEngine_repairSigs (x : Engine) : (s.setEngine k x).repairSigs = s.repairSigs := rfl
@[simp] theorem setEngine_faults (x : Engine) : (s.setEngine k x).faults = s.faults := rfl
@[simp] theorem setEngine_irq (x : Engine) : (s.setEngine k x).irq = s.irq := rfl
@[simp] theorem setEngine_slots (x : Engine) : (s.setEngine k x).slots = s.slots := rfl
@[simp] theorem setEngine_seqImages (x : Engine) : (s.setEngine k x).seqImages = s.seqImages := rfl
@[simp] theorem setEngine_reqs (x : Engine) : (s.setEngine k x).reqs = s.reqs := rfl
@[simp] theorem setEngine_ladles (x : Engine) : (s.setEngine k x).ladles = s.ladles := rfl
@[simp] theorem setEngine_grid (x : Engine) : (s.setEngine k x).grid = s.grid := rfl
@[simp] theorem setEngine_stepSats (x : Engine) : (s.setEngine k x).stepSats = s.stepSats := rfl
@[simp] theorem setEngine_stepNonfinite (x : Engine) : (s.setEngine k x).stepNonfinite = s.stepNonfinite := rfl
@[simp] theorem setEngine_kvPoisoned (x : Engine) : (s.setEngine k x).kvPoisoned = s.kvPoisoned := rfl
@[simp] theorem setEngine_movers (x : Engine) : (s.setEngine k x).movers = s.movers := rfl
@[simp] theorem setEngine_bursts (x : Engine) : (s.setEngine k x).bursts = s.bursts := rfl
@[simp] theorem setEngine_walkers (x : Engine) : (s.setEngine k x).walkers = s.walkers := rfl
@[simp] theorem setEngine_rings (x : Engine) : (s.setEngine k x).rings = s.rings := rfl
@[simp] theorem setEngine_ringTurn (x : Engine) : (s.setEngine k x).ringTurn = s.ringTurn := rfl
@[simp] theorem setEngine_host (x : Engine) : (s.setEngine k x).host = s.host := rfl
@[simp] theorem setEngine_tenants (x : Engine) : (s.setEngine k x).tenants = s.tenants := rfl
@[simp] theorem setEngine_ctx (x : Engine) : (s.setEngine k x).ctx = s.ctx := rfl
@[simp] theorem setEngine_svc (x : Engine) : (s.setEngine k x).svc = s.svc := rfl
@[simp] theorem setEngine_fabric (x : Engine) : (s.setEngine k x).fabric = s.fabric := rfl
@[simp] theorem setEngine_tandem (x : Engine) : (s.setEngine k x).tandem = s.tandem := rfl
@[simp] theorem setEngine_cad (x : Engine) : (s.setEngine k x).cad = s.cad := rfl
@[simp] theorem setEngine_clock (x : Engine) : (s.setEngine k x).clock = s.clock := rfl
@[simp] theorem setEngine_power (x : Engine) : (s.setEngine k x).power = s.power := rfl
@[simp] theorem setEngine_flash (x : Engine) : (s.setEngine k x).flash = s.flash := rfl
@[simp] theorem setEngine_test (x : Engine) : (s.setEngine k x).test = s.test := rfl
@[simp] theorem setEngine_health (x : Engine) : (s.setEngine k x).health = s.health := rfl
@[simp] theorem setEngine_sec (x : Engine) : (s.setEngine k x).sec = s.sec := rfl
@[simp] theorem setEngine_pkg (x : Engine) : (s.setEngine k x).pkg = s.pkg := rfl
@[simp] theorem setEngine_nirnar (x : Engine) : (s.setEngine k x).nirnar = s.nirnar := rfl
@[simp] theorem setEngine_out (x : Engine) : (s.setEngine k x).out = s.out := rfl
@[simp] theorem setEngine_pending (x : Engine) : (s.setEngine k x).pending = s.pending := rfl
@[simp] theorem engine_setEngine (x : Engine) (j : Nat) : (s.setEngine k x).engine j = if j = k then x else s.engine j :=
  mapGet_mapSet _ _ k j x

/-! ## setSlot -/

@[simp] theorem updSlot_eq (f : Slot → Slot) : s.updSlot k f = s.setSlot k (f (s.slot k)) := rfl
@[simp] theorem setSlot_now (x : Slot) : (s.setSlot k x).now = s.now := rfl
@[simp] theorem setSlot_ptp (x : Slot) : (s.setSlot k x).ptp = s.ptp := rfl
@[simp] theorem setSlot_dev (x : Slot) : (s.setSlot k x).dev = s.dev := rfl
@[simp] theorem setSlot_dict (x : Slot) : (s.setSlot k x).dict = s.dict := rfl
@[simp] theorem setSlot_blob (x : Slot) : (s.setSlot k x).blob = s.blob := rfl
@[simp] theorem setSlot_cfg (x : Slot) : (s.setSlot k x).cfg = s.cfg := rfl
@[simp] theorem setSlot_cfgBlob (x : Slot) : (s.setSlot k x).cfgBlob = s.cfgBlob := rfl
@[simp] theorem setSlot_subs (x : Slot) : (s.setSlot k x).subs = s.subs := rfl
@[simp] theorem setSlot_free (x : Slot) : (s.setSlot k x).free = s.free := rfl
@[simp] theorem setSlot_stackMap (x : Slot) : (s.setSlot k x).stackMap = s.stackMap := rfl
@[simp] theorem setSlot_pots (x : Slot) : (s.setSlot k x).pots = s.pots := rfl
@[simp] theorem setSlot_locals (x : Slot) : (s.setSlot k x).locals = s.locals := rfl
@[simp] theorem setSlot_buffers (x : Slot) : (s.setSlot k x).buffers = s.buffers := rfl
@[simp] theorem setSlot_merges (x : Slot) : (s.setSlot k x).merges = s.merges := rfl
@[simp] theorem setSlot_engines (x : Slot) : (s.setSlot k x).engines = s.engines := rfl
@[simp] theorem setSlot_potCorrected (x : Slot) : (s.setSlot k x).potCorrected = s.potCorrected := rfl
@[simp] theorem setSlot_potUncorrectable (x : Slot) : (s.setSlot k x).potUncorrectable = s.potUncorrectable := rfl
@[simp] theorem setSlot_potWhiskPos (x : Slot) : (s.setSlot k x).potWhiskPos = s.potWhiskPos := rfl
@[simp] theorem setSlot_potWhiskStart (x : Slot) : (s.setSlot k x).potWhiskStart = s.potWhiskStart := rfl
@[simp] theorem setSlot_potWhiskLast (x : Slot) : (s.setSlot k x).potWhiskLast = s.potWhiskLast := rfl
@[simp] theorem setSlot_repairQueue (x : Slot) : (s.setSlot k x).repairQueue = s.repairQueue := rfl
@[simp] theorem setSlot_repairRecord (x : Slot) : (s.setSlot k x).repairRecord = s.repairRecord := rfl
@[simp] theorem setSlot_repairSigs (x : Slot) : (s.setSlot k x).repairSigs = s.repairSigs := rfl
@[simp] theorem setSlot_faults (x : Slot) : (s.setSlot k x).faults = s.faults := rfl
@[simp] theorem setSlot_irq (x : Slot) : (s.setSlot k x).irq = s.irq := rfl
@[simp] theorem setSlot_slots (x : Slot) : (s.setSlot k x).slots = mapSet {} s.slots k x := rfl
@[simp] theorem setSlot_seqImages (x : Slot) : (s.setSlot k x).seqImages = s.seqImages := rfl
@[simp] theorem setSlot_reqs (x : Slot) : (s.setSlot k x).reqs = s.reqs := rfl
@[simp] theorem setSlot_ladles (x : Slot) : (s.setSlot k x).ladles = s.ladles := rfl
@[simp] theorem setSlot_grid (x : Slot) : (s.setSlot k x).grid = s.grid := rfl
@[simp] theorem setSlot_stepSats (x : Slot) : (s.setSlot k x).stepSats = s.stepSats := rfl
@[simp] theorem setSlot_stepNonfinite (x : Slot) : (s.setSlot k x).stepNonfinite = s.stepNonfinite := rfl
@[simp] theorem setSlot_kvPoisoned (x : Slot) : (s.setSlot k x).kvPoisoned = s.kvPoisoned := rfl
@[simp] theorem setSlot_movers (x : Slot) : (s.setSlot k x).movers = s.movers := rfl
@[simp] theorem setSlot_bursts (x : Slot) : (s.setSlot k x).bursts = s.bursts := rfl
@[simp] theorem setSlot_walkers (x : Slot) : (s.setSlot k x).walkers = s.walkers := rfl
@[simp] theorem setSlot_rings (x : Slot) : (s.setSlot k x).rings = s.rings := rfl
@[simp] theorem setSlot_ringTurn (x : Slot) : (s.setSlot k x).ringTurn = s.ringTurn := rfl
@[simp] theorem setSlot_host (x : Slot) : (s.setSlot k x).host = s.host := rfl
@[simp] theorem setSlot_tenants (x : Slot) : (s.setSlot k x).tenants = s.tenants := rfl
@[simp] theorem setSlot_ctx (x : Slot) : (s.setSlot k x).ctx = s.ctx := rfl
@[simp] theorem setSlot_svc (x : Slot) : (s.setSlot k x).svc = s.svc := rfl
@[simp] theorem setSlot_fabric (x : Slot) : (s.setSlot k x).fabric = s.fabric := rfl
@[simp] theorem setSlot_tandem (x : Slot) : (s.setSlot k x).tandem = s.tandem := rfl
@[simp] theorem setSlot_cad (x : Slot) : (s.setSlot k x).cad = s.cad := rfl
@[simp] theorem setSlot_clock (x : Slot) : (s.setSlot k x).clock = s.clock := rfl
@[simp] theorem setSlot_power (x : Slot) : (s.setSlot k x).power = s.power := rfl
@[simp] theorem setSlot_flash (x : Slot) : (s.setSlot k x).flash = s.flash := rfl
@[simp] theorem setSlot_test (x : Slot) : (s.setSlot k x).test = s.test := rfl
@[simp] theorem setSlot_health (x : Slot) : (s.setSlot k x).health = s.health := rfl
@[simp] theorem setSlot_sec (x : Slot) : (s.setSlot k x).sec = s.sec := rfl
@[simp] theorem setSlot_pkg (x : Slot) : (s.setSlot k x).pkg = s.pkg := rfl
@[simp] theorem setSlot_nirnar (x : Slot) : (s.setSlot k x).nirnar = s.nirnar := rfl
@[simp] theorem setSlot_out (x : Slot) : (s.setSlot k x).out = s.out := rfl
@[simp] theorem setSlot_pending (x : Slot) : (s.setSlot k x).pending = s.pending := rfl
@[simp] theorem slot_setSlot (x : Slot) (j : Nat) : (s.setSlot k x).slot j = if j = k then x else s.slot j :=
  mapGet_mapSet _ _ k j x

/-! ## setReq -/

@[simp] theorem updReq_eq (f : Req → Req) : s.updReq k f = s.setReq k (f (s.req k)) := rfl
@[simp] theorem setReq_now (x : Req) : (s.setReq k x).now = s.now := rfl
@[simp] theorem setReq_ptp (x : Req) : (s.setReq k x).ptp = s.ptp := rfl
@[simp] theorem setReq_dev (x : Req) : (s.setReq k x).dev = s.dev := rfl
@[simp] theorem setReq_dict (x : Req) : (s.setReq k x).dict = s.dict := rfl
@[simp] theorem setReq_blob (x : Req) : (s.setReq k x).blob = s.blob := rfl
@[simp] theorem setReq_cfg (x : Req) : (s.setReq k x).cfg = s.cfg := rfl
@[simp] theorem setReq_cfgBlob (x : Req) : (s.setReq k x).cfgBlob = s.cfgBlob := rfl
@[simp] theorem setReq_subs (x : Req) : (s.setReq k x).subs = s.subs := rfl
@[simp] theorem setReq_free (x : Req) : (s.setReq k x).free = s.free := rfl
@[simp] theorem setReq_stackMap (x : Req) : (s.setReq k x).stackMap = s.stackMap := rfl
@[simp] theorem setReq_pots (x : Req) : (s.setReq k x).pots = s.pots := rfl
@[simp] theorem setReq_locals (x : Req) : (s.setReq k x).locals = s.locals := rfl
@[simp] theorem setReq_buffers (x : Req) : (s.setReq k x).buffers = s.buffers := rfl
@[simp] theorem setReq_merges (x : Req) : (s.setReq k x).merges = s.merges := rfl
@[simp] theorem setReq_engines (x : Req) : (s.setReq k x).engines = s.engines := rfl
@[simp] theorem setReq_potCorrected (x : Req) : (s.setReq k x).potCorrected = s.potCorrected := rfl
@[simp] theorem setReq_potUncorrectable (x : Req) : (s.setReq k x).potUncorrectable = s.potUncorrectable := rfl
@[simp] theorem setReq_potWhiskPos (x : Req) : (s.setReq k x).potWhiskPos = s.potWhiskPos := rfl
@[simp] theorem setReq_potWhiskStart (x : Req) : (s.setReq k x).potWhiskStart = s.potWhiskStart := rfl
@[simp] theorem setReq_potWhiskLast (x : Req) : (s.setReq k x).potWhiskLast = s.potWhiskLast := rfl
@[simp] theorem setReq_repairQueue (x : Req) : (s.setReq k x).repairQueue = s.repairQueue := rfl
@[simp] theorem setReq_repairRecord (x : Req) : (s.setReq k x).repairRecord = s.repairRecord := rfl
@[simp] theorem setReq_repairSigs (x : Req) : (s.setReq k x).repairSigs = s.repairSigs := rfl
@[simp] theorem setReq_faults (x : Req) : (s.setReq k x).faults = s.faults := rfl
@[simp] theorem setReq_irq (x : Req) : (s.setReq k x).irq = s.irq := rfl
@[simp] theorem setReq_slots (x : Req) : (s.setReq k x).slots = s.slots := rfl
@[simp] theorem setReq_seqImages (x : Req) : (s.setReq k x).seqImages = s.seqImages := rfl
@[simp] theorem setReq_reqs (x : Req) : (s.setReq k x).reqs = mapSet {} s.reqs k x := rfl
@[simp] theorem setReq_ladles (x : Req) : (s.setReq k x).ladles = s.ladles := rfl
@[simp] theorem setReq_grid (x : Req) : (s.setReq k x).grid = s.grid := rfl
@[simp] theorem setReq_stepSats (x : Req) : (s.setReq k x).stepSats = s.stepSats := rfl
@[simp] theorem setReq_stepNonfinite (x : Req) : (s.setReq k x).stepNonfinite = s.stepNonfinite := rfl
@[simp] theorem setReq_kvPoisoned (x : Req) : (s.setReq k x).kvPoisoned = s.kvPoisoned := rfl
@[simp] theorem setReq_movers (x : Req) : (s.setReq k x).movers = s.movers := rfl
@[simp] theorem setReq_bursts (x : Req) : (s.setReq k x).bursts = s.bursts := rfl
@[simp] theorem setReq_walkers (x : Req) : (s.setReq k x).walkers = s.walkers := rfl
@[simp] theorem setReq_rings (x : Req) : (s.setReq k x).rings = s.rings := rfl
@[simp] theorem setReq_ringTurn (x : Req) : (s.setReq k x).ringTurn = s.ringTurn := rfl
@[simp] theorem setReq_host (x : Req) : (s.setReq k x).host = s.host := rfl
@[simp] theorem setReq_tenants (x : Req) : (s.setReq k x).tenants = s.tenants := rfl
@[simp] theorem setReq_ctx (x : Req) : (s.setReq k x).ctx = s.ctx := rfl
@[simp] theorem setReq_svc (x : Req) : (s.setReq k x).svc = s.svc := rfl
@[simp] theorem setReq_fabric (x : Req) : (s.setReq k x).fabric = s.fabric := rfl
@[simp] theorem setReq_tandem (x : Req) : (s.setReq k x).tandem = s.tandem := rfl
@[simp] theorem setReq_cad (x : Req) : (s.setReq k x).cad = s.cad := rfl
@[simp] theorem setReq_clock (x : Req) : (s.setReq k x).clock = s.clock := rfl
@[simp] theorem setReq_power (x : Req) : (s.setReq k x).power = s.power := rfl
@[simp] theorem setReq_flash (x : Req) : (s.setReq k x).flash = s.flash := rfl
@[simp] theorem setReq_test (x : Req) : (s.setReq k x).test = s.test := rfl
@[simp] theorem setReq_health (x : Req) : (s.setReq k x).health = s.health := rfl
@[simp] theorem setReq_sec (x : Req) : (s.setReq k x).sec = s.sec := rfl
@[simp] theorem setReq_pkg (x : Req) : (s.setReq k x).pkg = s.pkg := rfl
@[simp] theorem setReq_nirnar (x : Req) : (s.setReq k x).nirnar = s.nirnar := rfl
@[simp] theorem setReq_out (x : Req) : (s.setReq k x).out = s.out := rfl
@[simp] theorem setReq_pending (x : Req) : (s.setReq k x).pending = s.pending := rfl
@[simp] theorem req_setReq (x : Req) (j : Nat) : (s.setReq k x).req j = if j = k then x else s.req j :=
  mapGet_mapSet _ _ k j x

/-! ## setLadle -/

@[simp] theorem updLadle_eq (f : Ladles → Ladles) : s.updLadle k f = s.setLadle k (f (s.ladle k)) := rfl
@[simp] theorem setLadle_now (x : Ladles) : (s.setLadle k x).now = s.now := rfl
@[simp] theorem setLadle_ptp (x : Ladles) : (s.setLadle k x).ptp = s.ptp := rfl
@[simp] theorem setLadle_dev (x : Ladles) : (s.setLadle k x).dev = s.dev := rfl
@[simp] theorem setLadle_dict (x : Ladles) : (s.setLadle k x).dict = s.dict := rfl
@[simp] theorem setLadle_blob (x : Ladles) : (s.setLadle k x).blob = s.blob := rfl
@[simp] theorem setLadle_cfg (x : Ladles) : (s.setLadle k x).cfg = s.cfg := rfl
@[simp] theorem setLadle_cfgBlob (x : Ladles) : (s.setLadle k x).cfgBlob = s.cfgBlob := rfl
@[simp] theorem setLadle_subs (x : Ladles) : (s.setLadle k x).subs = s.subs := rfl
@[simp] theorem setLadle_free (x : Ladles) : (s.setLadle k x).free = s.free := rfl
@[simp] theorem setLadle_stackMap (x : Ladles) : (s.setLadle k x).stackMap = s.stackMap := rfl
@[simp] theorem setLadle_pots (x : Ladles) : (s.setLadle k x).pots = s.pots := rfl
@[simp] theorem setLadle_locals (x : Ladles) : (s.setLadle k x).locals = s.locals := rfl
@[simp] theorem setLadle_buffers (x : Ladles) : (s.setLadle k x).buffers = s.buffers := rfl
@[simp] theorem setLadle_merges (x : Ladles) : (s.setLadle k x).merges = s.merges := rfl
@[simp] theorem setLadle_engines (x : Ladles) : (s.setLadle k x).engines = s.engines := rfl
@[simp] theorem setLadle_potCorrected (x : Ladles) : (s.setLadle k x).potCorrected = s.potCorrected := rfl
@[simp] theorem setLadle_potUncorrectable (x : Ladles) : (s.setLadle k x).potUncorrectable = s.potUncorrectable := rfl
@[simp] theorem setLadle_potWhiskPos (x : Ladles) : (s.setLadle k x).potWhiskPos = s.potWhiskPos := rfl
@[simp] theorem setLadle_potWhiskStart (x : Ladles) : (s.setLadle k x).potWhiskStart = s.potWhiskStart := rfl
@[simp] theorem setLadle_potWhiskLast (x : Ladles) : (s.setLadle k x).potWhiskLast = s.potWhiskLast := rfl
@[simp] theorem setLadle_repairQueue (x : Ladles) : (s.setLadle k x).repairQueue = s.repairQueue := rfl
@[simp] theorem setLadle_repairRecord (x : Ladles) : (s.setLadle k x).repairRecord = s.repairRecord := rfl
@[simp] theorem setLadle_repairSigs (x : Ladles) : (s.setLadle k x).repairSigs = s.repairSigs := rfl
@[simp] theorem setLadle_faults (x : Ladles) : (s.setLadle k x).faults = s.faults := rfl
@[simp] theorem setLadle_irq (x : Ladles) : (s.setLadle k x).irq = s.irq := rfl
@[simp] theorem setLadle_slots (x : Ladles) : (s.setLadle k x).slots = s.slots := rfl
@[simp] theorem setLadle_seqImages (x : Ladles) : (s.setLadle k x).seqImages = s.seqImages := rfl
@[simp] theorem setLadle_reqs (x : Ladles) : (s.setLadle k x).reqs = s.reqs := rfl
@[simp] theorem setLadle_ladles (x : Ladles) : (s.setLadle k x).ladles = mapSet {} s.ladles k x := rfl
@[simp] theorem setLadle_grid (x : Ladles) : (s.setLadle k x).grid = s.grid := rfl
@[simp] theorem setLadle_stepSats (x : Ladles) : (s.setLadle k x).stepSats = s.stepSats := rfl
@[simp] theorem setLadle_stepNonfinite (x : Ladles) : (s.setLadle k x).stepNonfinite = s.stepNonfinite := rfl
@[simp] theorem setLadle_kvPoisoned (x : Ladles) : (s.setLadle k x).kvPoisoned = s.kvPoisoned := rfl
@[simp] theorem setLadle_movers (x : Ladles) : (s.setLadle k x).movers = s.movers := rfl
@[simp] theorem setLadle_bursts (x : Ladles) : (s.setLadle k x).bursts = s.bursts := rfl
@[simp] theorem setLadle_walkers (x : Ladles) : (s.setLadle k x).walkers = s.walkers := rfl
@[simp] theorem setLadle_rings (x : Ladles) : (s.setLadle k x).rings = s.rings := rfl
@[simp] theorem setLadle_ringTurn (x : Ladles) : (s.setLadle k x).ringTurn = s.ringTurn := rfl
@[simp] theorem setLadle_host (x : Ladles) : (s.setLadle k x).host = s.host := rfl
@[simp] theorem setLadle_tenants (x : Ladles) : (s.setLadle k x).tenants = s.tenants := rfl
@[simp] theorem setLadle_ctx (x : Ladles) : (s.setLadle k x).ctx = s.ctx := rfl
@[simp] theorem setLadle_svc (x : Ladles) : (s.setLadle k x).svc = s.svc := rfl
@[simp] theorem setLadle_fabric (x : Ladles) : (s.setLadle k x).fabric = s.fabric := rfl
@[simp] theorem setLadle_tandem (x : Ladles) : (s.setLadle k x).tandem = s.tandem := rfl
@[simp] theorem setLadle_cad (x : Ladles) : (s.setLadle k x).cad = s.cad := rfl
@[simp] theorem setLadle_clock (x : Ladles) : (s.setLadle k x).clock = s.clock := rfl
@[simp] theorem setLadle_power (x : Ladles) : (s.setLadle k x).power = s.power := rfl
@[simp] theorem setLadle_flash (x : Ladles) : (s.setLadle k x).flash = s.flash := rfl
@[simp] theorem setLadle_test (x : Ladles) : (s.setLadle k x).test = s.test := rfl
@[simp] theorem setLadle_health (x : Ladles) : (s.setLadle k x).health = s.health := rfl
@[simp] theorem setLadle_sec (x : Ladles) : (s.setLadle k x).sec = s.sec := rfl
@[simp] theorem setLadle_pkg (x : Ladles) : (s.setLadle k x).pkg = s.pkg := rfl
@[simp] theorem setLadle_nirnar (x : Ladles) : (s.setLadle k x).nirnar = s.nirnar := rfl
@[simp] theorem setLadle_out (x : Ladles) : (s.setLadle k x).out = s.out := rfl
@[simp] theorem setLadle_pending (x : Ladles) : (s.setLadle k x).pending = s.pending := rfl
@[simp] theorem ladle_setLadle (x : Ladles) (j : Nat) : (s.setLadle k x).ladle j = if j = k then x else s.ladle j :=
  mapGet_mapSet _ _ k j x

/-! ## setMover -/

@[simp] theorem updMover_eq (f : Mover → Mover) : s.updMover k f = s.setMover k (f (s.mover k)) := rfl
@[simp] theorem setMover_now (x : Mover) : (s.setMover k x).now = s.now := rfl
@[simp] theorem setMover_ptp (x : Mover) : (s.setMover k x).ptp = s.ptp := rfl
@[simp] theorem setMover_dev (x : Mover) : (s.setMover k x).dev = s.dev := rfl
@[simp] theorem setMover_dict (x : Mover) : (s.setMover k x).dict = s.dict := rfl
@[simp] theorem setMover_blob (x : Mover) : (s.setMover k x).blob = s.blob := rfl
@[simp] theorem setMover_cfg (x : Mover) : (s.setMover k x).cfg = s.cfg := rfl
@[simp] theorem setMover_cfgBlob (x : Mover) : (s.setMover k x).cfgBlob = s.cfgBlob := rfl
@[simp] theorem setMover_subs (x : Mover) : (s.setMover k x).subs = s.subs := rfl
@[simp] theorem setMover_free (x : Mover) : (s.setMover k x).free = s.free := rfl
@[simp] theorem setMover_stackMap (x : Mover) : (s.setMover k x).stackMap = s.stackMap := rfl
@[simp] theorem setMover_pots (x : Mover) : (s.setMover k x).pots = s.pots := rfl
@[simp] theorem setMover_locals (x : Mover) : (s.setMover k x).locals = s.locals := rfl
@[simp] theorem setMover_buffers (x : Mover) : (s.setMover k x).buffers = s.buffers := rfl
@[simp] theorem setMover_merges (x : Mover) : (s.setMover k x).merges = s.merges := rfl
@[simp] theorem setMover_engines (x : Mover) : (s.setMover k x).engines = s.engines := rfl
@[simp] theorem setMover_potCorrected (x : Mover) : (s.setMover k x).potCorrected = s.potCorrected := rfl
@[simp] theorem setMover_potUncorrectable (x : Mover) : (s.setMover k x).potUncorrectable = s.potUncorrectable := rfl
@[simp] theorem setMover_potWhiskPos (x : Mover) : (s.setMover k x).potWhiskPos = s.potWhiskPos := rfl
@[simp] theorem setMover_potWhiskStart (x : Mover) : (s.setMover k x).potWhiskStart = s.potWhiskStart := rfl
@[simp] theorem setMover_potWhiskLast (x : Mover) : (s.setMover k x).potWhiskLast = s.potWhiskLast := rfl
@[simp] theorem setMover_repairQueue (x : Mover) : (s.setMover k x).repairQueue = s.repairQueue := rfl
@[simp] theorem setMover_repairRecord (x : Mover) : (s.setMover k x).repairRecord = s.repairRecord := rfl
@[simp] theorem setMover_repairSigs (x : Mover) : (s.setMover k x).repairSigs = s.repairSigs := rfl
@[simp] theorem setMover_faults (x : Mover) : (s.setMover k x).faults = s.faults := rfl
@[simp] theorem setMover_irq (x : Mover) : (s.setMover k x).irq = s.irq := rfl
@[simp] theorem setMover_slots (x : Mover) : (s.setMover k x).slots = s.slots := rfl
@[simp] theorem setMover_seqImages (x : Mover) : (s.setMover k x).seqImages = s.seqImages := rfl
@[simp] theorem setMover_reqs (x : Mover) : (s.setMover k x).reqs = s.reqs := rfl
@[simp] theorem setMover_ladles (x : Mover) : (s.setMover k x).ladles = s.ladles := rfl
@[simp] theorem setMover_grid (x : Mover) : (s.setMover k x).grid = s.grid := rfl
@[simp] theorem setMover_stepSats (x : Mover) : (s.setMover k x).stepSats = s.stepSats := rfl
@[simp] theorem setMover_stepNonfinite (x : Mover) : (s.setMover k x).stepNonfinite = s.stepNonfinite := rfl
@[simp] theorem setMover_kvPoisoned (x : Mover) : (s.setMover k x).kvPoisoned = s.kvPoisoned := rfl
@[simp] theorem setMover_movers (x : Mover) : (s.setMover k x).movers = mapSet {} s.movers k x := rfl
@[simp] theorem setMover_bursts (x : Mover) : (s.setMover k x).bursts = s.bursts := rfl
@[simp] theorem setMover_walkers (x : Mover) : (s.setMover k x).walkers = s.walkers := rfl
@[simp] theorem setMover_rings (x : Mover) : (s.setMover k x).rings = s.rings := rfl
@[simp] theorem setMover_ringTurn (x : Mover) : (s.setMover k x).ringTurn = s.ringTurn := rfl
@[simp] theorem setMover_host (x : Mover) : (s.setMover k x).host = s.host := rfl
@[simp] theorem setMover_tenants (x : Mover) : (s.setMover k x).tenants = s.tenants := rfl
@[simp] theorem setMover_ctx (x : Mover) : (s.setMover k x).ctx = s.ctx := rfl
@[simp] theorem setMover_svc (x : Mover) : (s.setMover k x).svc = s.svc := rfl
@[simp] theorem setMover_fabric (x : Mover) : (s.setMover k x).fabric = s.fabric := rfl
@[simp] theorem setMover_tandem (x : Mover) : (s.setMover k x).tandem = s.tandem := rfl
@[simp] theorem setMover_cad (x : Mover) : (s.setMover k x).cad = s.cad := rfl
@[simp] theorem setMover_clock (x : Mover) : (s.setMover k x).clock = s.clock := rfl
@[simp] theorem setMover_power (x : Mover) : (s.setMover k x).power = s.power := rfl
@[simp] theorem setMover_flash (x : Mover) : (s.setMover k x).flash = s.flash := rfl
@[simp] theorem setMover_test (x : Mover) : (s.setMover k x).test = s.test := rfl
@[simp] theorem setMover_health (x : Mover) : (s.setMover k x).health = s.health := rfl
@[simp] theorem setMover_sec (x : Mover) : (s.setMover k x).sec = s.sec := rfl
@[simp] theorem setMover_pkg (x : Mover) : (s.setMover k x).pkg = s.pkg := rfl
@[simp] theorem setMover_nirnar (x : Mover) : (s.setMover k x).nirnar = s.nirnar := rfl
@[simp] theorem setMover_out (x : Mover) : (s.setMover k x).out = s.out := rfl
@[simp] theorem setMover_pending (x : Mover) : (s.setMover k x).pending = s.pending := rfl
@[simp] theorem mover_setMover (x : Mover) (j : Nat) : (s.setMover k x).mover j = if j = k then x else s.mover j :=
  mapGet_mapSet _ _ k j x

/-! ## setWalker -/

@[simp] theorem updWalker_eq (f : Walker → Walker) : s.updWalker k f = s.setWalker k (f (s.walker k)) := rfl
@[simp] theorem setWalker_now (x : Walker) : (s.setWalker k x).now = s.now := rfl
@[simp] theorem setWalker_ptp (x : Walker) : (s.setWalker k x).ptp = s.ptp := rfl
@[simp] theorem setWalker_dev (x : Walker) : (s.setWalker k x).dev = s.dev := rfl
@[simp] theorem setWalker_dict (x : Walker) : (s.setWalker k x).dict = s.dict := rfl
@[simp] theorem setWalker_blob (x : Walker) : (s.setWalker k x).blob = s.blob := rfl
@[simp] theorem setWalker_cfg (x : Walker) : (s.setWalker k x).cfg = s.cfg := rfl
@[simp] theorem setWalker_cfgBlob (x : Walker) : (s.setWalker k x).cfgBlob = s.cfgBlob := rfl
@[simp] theorem setWalker_subs (x : Walker) : (s.setWalker k x).subs = s.subs := rfl
@[simp] theorem setWalker_free (x : Walker) : (s.setWalker k x).free = s.free := rfl
@[simp] theorem setWalker_stackMap (x : Walker) : (s.setWalker k x).stackMap = s.stackMap := rfl
@[simp] theorem setWalker_pots (x : Walker) : (s.setWalker k x).pots = s.pots := rfl
@[simp] theorem setWalker_locals (x : Walker) : (s.setWalker k x).locals = s.locals := rfl
@[simp] theorem setWalker_buffers (x : Walker) : (s.setWalker k x).buffers = s.buffers := rfl
@[simp] theorem setWalker_merges (x : Walker) : (s.setWalker k x).merges = s.merges := rfl
@[simp] theorem setWalker_engines (x : Walker) : (s.setWalker k x).engines = s.engines := rfl
@[simp] theorem setWalker_potCorrected (x : Walker) : (s.setWalker k x).potCorrected = s.potCorrected := rfl
@[simp] theorem setWalker_potUncorrectable (x : Walker) : (s.setWalker k x).potUncorrectable = s.potUncorrectable := rfl
@[simp] theorem setWalker_potWhiskPos (x : Walker) : (s.setWalker k x).potWhiskPos = s.potWhiskPos := rfl
@[simp] theorem setWalker_potWhiskStart (x : Walker) : (s.setWalker k x).potWhiskStart = s.potWhiskStart := rfl
@[simp] theorem setWalker_potWhiskLast (x : Walker) : (s.setWalker k x).potWhiskLast = s.potWhiskLast := rfl
@[simp] theorem setWalker_repairQueue (x : Walker) : (s.setWalker k x).repairQueue = s.repairQueue := rfl
@[simp] theorem setWalker_repairRecord (x : Walker) : (s.setWalker k x).repairRecord = s.repairRecord := rfl
@[simp] theorem setWalker_repairSigs (x : Walker) : (s.setWalker k x).repairSigs = s.repairSigs := rfl
@[simp] theorem setWalker_faults (x : Walker) : (s.setWalker k x).faults = s.faults := rfl
@[simp] theorem setWalker_irq (x : Walker) : (s.setWalker k x).irq = s.irq := rfl
@[simp] theorem setWalker_slots (x : Walker) : (s.setWalker k x).slots = s.slots := rfl
@[simp] theorem setWalker_seqImages (x : Walker) : (s.setWalker k x).seqImages = s.seqImages := rfl
@[simp] theorem setWalker_reqs (x : Walker) : (s.setWalker k x).reqs = s.reqs := rfl
@[simp] theorem setWalker_ladles (x : Walker) : (s.setWalker k x).ladles = s.ladles := rfl
@[simp] theorem setWalker_grid (x : Walker) : (s.setWalker k x).grid = s.grid := rfl
@[simp] theorem setWalker_stepSats (x : Walker) : (s.setWalker k x).stepSats = s.stepSats := rfl
@[simp] theorem setWalker_stepNonfinite (x : Walker) : (s.setWalker k x).stepNonfinite = s.stepNonfinite := rfl
@[simp] theorem setWalker_kvPoisoned (x : Walker) : (s.setWalker k x).kvPoisoned = s.kvPoisoned := rfl
@[simp] theorem setWalker_movers (x : Walker) : (s.setWalker k x).movers = s.movers := rfl
@[simp] theorem setWalker_bursts (x : Walker) : (s.setWalker k x).bursts = s.bursts := rfl
@[simp] theorem setWalker_walkers (x : Walker) : (s.setWalker k x).walkers = mapSet {} s.walkers k x := rfl
@[simp] theorem setWalker_rings (x : Walker) : (s.setWalker k x).rings = s.rings := rfl
@[simp] theorem setWalker_ringTurn (x : Walker) : (s.setWalker k x).ringTurn = s.ringTurn := rfl
@[simp] theorem setWalker_host (x : Walker) : (s.setWalker k x).host = s.host := rfl
@[simp] theorem setWalker_tenants (x : Walker) : (s.setWalker k x).tenants = s.tenants := rfl
@[simp] theorem setWalker_ctx (x : Walker) : (s.setWalker k x).ctx = s.ctx := rfl
@[simp] theorem setWalker_svc (x : Walker) : (s.setWalker k x).svc = s.svc := rfl
@[simp] theorem setWalker_fabric (x : Walker) : (s.setWalker k x).fabric = s.fabric := rfl
@[simp] theorem setWalker_tandem (x : Walker) : (s.setWalker k x).tandem = s.tandem := rfl
@[simp] theorem setWalker_cad (x : Walker) : (s.setWalker k x).cad = s.cad := rfl
@[simp] theorem setWalker_clock (x : Walker) : (s.setWalker k x).clock = s.clock := rfl
@[simp] theorem setWalker_power (x : Walker) : (s.setWalker k x).power = s.power := rfl
@[simp] theorem setWalker_flash (x : Walker) : (s.setWalker k x).flash = s.flash := rfl
@[simp] theorem setWalker_test (x : Walker) : (s.setWalker k x).test = s.test := rfl
@[simp] theorem setWalker_health (x : Walker) : (s.setWalker k x).health = s.health := rfl
@[simp] theorem setWalker_sec (x : Walker) : (s.setWalker k x).sec = s.sec := rfl
@[simp] theorem setWalker_pkg (x : Walker) : (s.setWalker k x).pkg = s.pkg := rfl
@[simp] theorem setWalker_nirnar (x : Walker) : (s.setWalker k x).nirnar = s.nirnar := rfl
@[simp] theorem setWalker_out (x : Walker) : (s.setWalker k x).out = s.out := rfl
@[simp] theorem setWalker_pending (x : Walker) : (s.setWalker k x).pending = s.pending := rfl
@[simp] theorem walker_setWalker (x : Walker) (j : Nat) : (s.setWalker k x).walker j = if j = k then x else s.walker j :=
  mapGet_mapSet _ _ k j x

/-! ## setRing -/

@[simp] theorem updRing_eq (f : Ring → Ring) : s.updRing k f = s.setRing k (f (s.ring k)) := rfl
@[simp] theorem setRing_now (x : Ring) : (s.setRing k x).now = s.now := rfl
@[simp] theorem setRing_ptp (x : Ring) : (s.setRing k x).ptp = s.ptp := rfl
@[simp] theorem setRing_dev (x : Ring) : (s.setRing k x).dev = s.dev := rfl
@[simp] theorem setRing_dict (x : Ring) : (s.setRing k x).dict = s.dict := rfl
@[simp] theorem setRing_blob (x : Ring) : (s.setRing k x).blob = s.blob := rfl
@[simp] theorem setRing_cfg (x : Ring) : (s.setRing k x).cfg = s.cfg := rfl
@[simp] theorem setRing_cfgBlob (x : Ring) : (s.setRing k x).cfgBlob = s.cfgBlob := rfl
@[simp] theorem setRing_subs (x : Ring) : (s.setRing k x).subs = s.subs := rfl
@[simp] theorem setRing_free (x : Ring) : (s.setRing k x).free = s.free := rfl
@[simp] theorem setRing_stackMap (x : Ring) : (s.setRing k x).stackMap = s.stackMap := rfl
@[simp] theorem setRing_pots (x : Ring) : (s.setRing k x).pots = s.pots := rfl
@[simp] theorem setRing_locals (x : Ring) : (s.setRing k x).locals = s.locals := rfl
@[simp] theorem setRing_buffers (x : Ring) : (s.setRing k x).buffers = s.buffers := rfl
@[simp] theorem setRing_merges (x : Ring) : (s.setRing k x).merges = s.merges := rfl
@[simp] theorem setRing_engines (x : Ring) : (s.setRing k x).engines = s.engines := rfl
@[simp] theorem setRing_potCorrected (x : Ring) : (s.setRing k x).potCorrected = s.potCorrected := rfl
@[simp] theorem setRing_potUncorrectable (x : Ring) : (s.setRing k x).potUncorrectable = s.potUncorrectable := rfl
@[simp] theorem setRing_potWhiskPos (x : Ring) : (s.setRing k x).potWhiskPos = s.potWhiskPos := rfl
@[simp] theorem setRing_potWhiskStart (x : Ring) : (s.setRing k x).potWhiskStart = s.potWhiskStart := rfl
@[simp] theorem setRing_potWhiskLast (x : Ring) : (s.setRing k x).potWhiskLast = s.potWhiskLast := rfl
@[simp] theorem setRing_repairQueue (x : Ring) : (s.setRing k x).repairQueue = s.repairQueue := rfl
@[simp] theorem setRing_repairRecord (x : Ring) : (s.setRing k x).repairRecord = s.repairRecord := rfl
@[simp] theorem setRing_repairSigs (x : Ring) : (s.setRing k x).repairSigs = s.repairSigs := rfl
@[simp] theorem setRing_faults (x : Ring) : (s.setRing k x).faults = s.faults := rfl
@[simp] theorem setRing_irq (x : Ring) : (s.setRing k x).irq = s.irq := rfl
@[simp] theorem setRing_slots (x : Ring) : (s.setRing k x).slots = s.slots := rfl
@[simp] theorem setRing_seqImages (x : Ring) : (s.setRing k x).seqImages = s.seqImages := rfl
@[simp] theorem setRing_reqs (x : Ring) : (s.setRing k x).reqs = s.reqs := rfl
@[simp] theorem setRing_ladles (x : Ring) : (s.setRing k x).ladles = s.ladles := rfl
@[simp] theorem setRing_grid (x : Ring) : (s.setRing k x).grid = s.grid := rfl
@[simp] theorem setRing_stepSats (x : Ring) : (s.setRing k x).stepSats = s.stepSats := rfl
@[simp] theorem setRing_stepNonfinite (x : Ring) : (s.setRing k x).stepNonfinite = s.stepNonfinite := rfl
@[simp] theorem setRing_kvPoisoned (x : Ring) : (s.setRing k x).kvPoisoned = s.kvPoisoned := rfl
@[simp] theorem setRing_movers (x : Ring) : (s.setRing k x).movers = s.movers := rfl
@[simp] theorem setRing_bursts (x : Ring) : (s.setRing k x).bursts = s.bursts := rfl
@[simp] theorem setRing_walkers (x : Ring) : (s.setRing k x).walkers = s.walkers := rfl
@[simp] theorem setRing_rings (x : Ring) : (s.setRing k x).rings = mapSet {} s.rings k x := rfl
@[simp] theorem setRing_ringTurn (x : Ring) : (s.setRing k x).ringTurn = s.ringTurn := rfl
@[simp] theorem setRing_host (x : Ring) : (s.setRing k x).host = s.host := rfl
@[simp] theorem setRing_tenants (x : Ring) : (s.setRing k x).tenants = s.tenants := rfl
@[simp] theorem setRing_ctx (x : Ring) : (s.setRing k x).ctx = s.ctx := rfl
@[simp] theorem setRing_svc (x : Ring) : (s.setRing k x).svc = s.svc := rfl
@[simp] theorem setRing_fabric (x : Ring) : (s.setRing k x).fabric = s.fabric := rfl
@[simp] theorem setRing_tandem (x : Ring) : (s.setRing k x).tandem = s.tandem := rfl
@[simp] theorem setRing_cad (x : Ring) : (s.setRing k x).cad = s.cad := rfl
@[simp] theorem setRing_clock (x : Ring) : (s.setRing k x).clock = s.clock := rfl
@[simp] theorem setRing_power (x : Ring) : (s.setRing k x).power = s.power := rfl
@[simp] theorem setRing_flash (x : Ring) : (s.setRing k x).flash = s.flash := rfl
@[simp] theorem setRing_test (x : Ring) : (s.setRing k x).test = s.test := rfl
@[simp] theorem setRing_health (x : Ring) : (s.setRing k x).health = s.health := rfl
@[simp] theorem setRing_sec (x : Ring) : (s.setRing k x).sec = s.sec := rfl
@[simp] theorem setRing_pkg (x : Ring) : (s.setRing k x).pkg = s.pkg := rfl
@[simp] theorem setRing_nirnar (x : Ring) : (s.setRing k x).nirnar = s.nirnar := rfl
@[simp] theorem setRing_out (x : Ring) : (s.setRing k x).out = s.out := rfl
@[simp] theorem setRing_pending (x : Ring) : (s.setRing k x).pending = s.pending := rfl
@[simp] theorem ring_setRing (x : Ring) (j : Nat) : (s.setRing k x).ring j = if j = k then x else s.ring j :=
  mapGet_mapSet _ _ k j x

/-! ## setTenant -/

@[simp] theorem updTenant_eq (f : Tenant → Tenant) : s.updTenant k f = s.setTenant k (f (s.tenant k)) := rfl
@[simp] theorem setTenant_now (x : Tenant) : (s.setTenant k x).now = s.now := rfl
@[simp] theorem setTenant_ptp (x : Tenant) : (s.setTenant k x).ptp = s.ptp := rfl
@[simp] theorem setTenant_dev (x : Tenant) : (s.setTenant k x).dev = s.dev := rfl
@[simp] theorem setTenant_dict (x : Tenant) : (s.setTenant k x).dict = s.dict := rfl
@[simp] theorem setTenant_blob (x : Tenant) : (s.setTenant k x).blob = s.blob := rfl
@[simp] theorem setTenant_cfg (x : Tenant) : (s.setTenant k x).cfg = s.cfg := rfl
@[simp] theorem setTenant_cfgBlob (x : Tenant) : (s.setTenant k x).cfgBlob = s.cfgBlob := rfl
@[simp] theorem setTenant_subs (x : Tenant) : (s.setTenant k x).subs = s.subs := rfl
@[simp] theorem setTenant_free (x : Tenant) : (s.setTenant k x).free = s.free := rfl
@[simp] theorem setTenant_stackMap (x : Tenant) : (s.setTenant k x).stackMap = s.stackMap := rfl
@[simp] theorem setTenant_pots (x : Tenant) : (s.setTenant k x).pots = s.pots := rfl
@[simp] theorem setTenant_locals (x : Tenant) : (s.setTenant k x).locals = s.locals := rfl
@[simp] theorem setTenant_buffers (x : Tenant) : (s.setTenant k x).buffers = s.buffers := rfl
@[simp] theorem setTenant_merges (x : Tenant) : (s.setTenant k x).merges = s.merges := rfl
@[simp] theorem setTenant_engines (x : Tenant) : (s.setTenant k x).engines = s.engines := rfl
@[simp] theorem setTenant_potCorrected (x : Tenant) : (s.setTenant k x).potCorrected = s.potCorrected := rfl
@[simp] theorem setTenant_potUncorrectable (x : Tenant) : (s.setTenant k x).potUncorrectable = s.potUncorrectable := rfl
@[simp] theorem setTenant_potWhiskPos (x : Tenant) : (s.setTenant k x).potWhiskPos = s.potWhiskPos := rfl
@[simp] theorem setTenant_potWhiskStart (x : Tenant) : (s.setTenant k x).potWhiskStart = s.potWhiskStart := rfl
@[simp] theorem setTenant_potWhiskLast (x : Tenant) : (s.setTenant k x).potWhiskLast = s.potWhiskLast := rfl
@[simp] theorem setTenant_repairQueue (x : Tenant) : (s.setTenant k x).repairQueue = s.repairQueue := rfl
@[simp] theorem setTenant_repairRecord (x : Tenant) : (s.setTenant k x).repairRecord = s.repairRecord := rfl
@[simp] theorem setTenant_repairSigs (x : Tenant) : (s.setTenant k x).repairSigs = s.repairSigs := rfl
@[simp] theorem setTenant_faults (x : Tenant) : (s.setTenant k x).faults = s.faults := rfl
@[simp] theorem setTenant_irq (x : Tenant) : (s.setTenant k x).irq = s.irq := rfl
@[simp] theorem setTenant_slots (x : Tenant) : (s.setTenant k x).slots = s.slots := rfl
@[simp] theorem setTenant_seqImages (x : Tenant) : (s.setTenant k x).seqImages = s.seqImages := rfl
@[simp] theorem setTenant_reqs (x : Tenant) : (s.setTenant k x).reqs = s.reqs := rfl
@[simp] theorem setTenant_ladles (x : Tenant) : (s.setTenant k x).ladles = s.ladles := rfl
@[simp] theorem setTenant_grid (x : Tenant) : (s.setTenant k x).grid = s.grid := rfl
@[simp] theorem setTenant_stepSats (x : Tenant) : (s.setTenant k x).stepSats = s.stepSats := rfl
@[simp] theorem setTenant_stepNonfinite (x : Tenant) : (s.setTenant k x).stepNonfinite = s.stepNonfinite := rfl
@[simp] theorem setTenant_kvPoisoned (x : Tenant) : (s.setTenant k x).kvPoisoned = s.kvPoisoned := rfl
@[simp] theorem setTenant_movers (x : Tenant) : (s.setTenant k x).movers = s.movers := rfl
@[simp] theorem setTenant_bursts (x : Tenant) : (s.setTenant k x).bursts = s.bursts := rfl
@[simp] theorem setTenant_walkers (x : Tenant) : (s.setTenant k x).walkers = s.walkers := rfl
@[simp] theorem setTenant_rings (x : Tenant) : (s.setTenant k x).rings = s.rings := rfl
@[simp] theorem setTenant_ringTurn (x : Tenant) : (s.setTenant k x).ringTurn = s.ringTurn := rfl
@[simp] theorem setTenant_host (x : Tenant) : (s.setTenant k x).host = s.host := rfl
@[simp] theorem setTenant_tenants (x : Tenant) : (s.setTenant k x).tenants = mapSet {} s.tenants k x := rfl
@[simp] theorem setTenant_ctx (x : Tenant) : (s.setTenant k x).ctx = s.ctx := rfl
@[simp] theorem setTenant_svc (x : Tenant) : (s.setTenant k x).svc = s.svc := rfl
@[simp] theorem setTenant_fabric (x : Tenant) : (s.setTenant k x).fabric = s.fabric := rfl
@[simp] theorem setTenant_tandem (x : Tenant) : (s.setTenant k x).tandem = s.tandem := rfl
@[simp] theorem setTenant_cad (x : Tenant) : (s.setTenant k x).cad = s.cad := rfl
@[simp] theorem setTenant_clock (x : Tenant) : (s.setTenant k x).clock = s.clock := rfl
@[simp] theorem setTenant_power (x : Tenant) : (s.setTenant k x).power = s.power := rfl
@[simp] theorem setTenant_flash (x : Tenant) : (s.setTenant k x).flash = s.flash := rfl
@[simp] theorem setTenant_test (x : Tenant) : (s.setTenant k x).test = s.test := rfl
@[simp] theorem setTenant_health (x : Tenant) : (s.setTenant k x).health = s.health := rfl
@[simp] theorem setTenant_sec (x : Tenant) : (s.setTenant k x).sec = s.sec := rfl
@[simp] theorem setTenant_pkg (x : Tenant) : (s.setTenant k x).pkg = s.pkg := rfl
@[simp] theorem setTenant_nirnar (x : Tenant) : (s.setTenant k x).nirnar = s.nirnar := rfl
@[simp] theorem setTenant_out (x : Tenant) : (s.setTenant k x).out = s.out := rfl
@[simp] theorem setTenant_pending (x : Tenant) : (s.setTenant k x).pending = s.pending := rfl
@[simp] theorem tenant_setTenant (x : Tenant) (j : Nat) : (s.setTenant k x).tenant j = if j = k then x else s.tenant j :=
  mapGet_mapSet _ _ k j x

/-! ## emit and noteChange -/

@[simp] theorem emit_now (o : Out) : (emit s o).now = s.now := rfl
@[simp] theorem emit_ptp (o : Out) : (emit s o).ptp = s.ptp := rfl
@[simp] theorem emit_dev (o : Out) : (emit s o).dev = s.dev := rfl
@[simp] theorem emit_dict (o : Out) : (emit s o).dict = s.dict := rfl
@[simp] theorem emit_blob (o : Out) : (emit s o).blob = s.blob := rfl
@[simp] theorem emit_cfg (o : Out) : (emit s o).cfg = s.cfg := rfl
@[simp] theorem emit_cfgBlob (o : Out) : (emit s o).cfgBlob = s.cfgBlob := rfl
@[simp] theorem emit_subs (o : Out) : (emit s o).subs = s.subs := rfl
@[simp] theorem emit_free (o : Out) : (emit s o).free = s.free := rfl
@[simp] theorem emit_stackMap (o : Out) : (emit s o).stackMap = s.stackMap := rfl
@[simp] theorem emit_pots (o : Out) : (emit s o).pots = s.pots := rfl
@[simp] theorem emit_locals (o : Out) : (emit s o).locals = s.locals := rfl
@[simp] theorem emit_buffers (o : Out) : (emit s o).buffers = s.buffers := rfl
@[simp] theorem emit_merges (o : Out) : (emit s o).merges = s.merges := rfl
@[simp] theorem emit_engines (o : Out) : (emit s o).engines = s.engines := rfl
@[simp] theorem emit_potCorrected (o : Out) : (emit s o).potCorrected = s.potCorrected := rfl
@[simp] theorem emit_potUncorrectable (o : Out) : (emit s o).potUncorrectable = s.potUncorrectable := rfl
@[simp] theorem emit_potWhiskPos (o : Out) : (emit s o).potWhiskPos = s.potWhiskPos := rfl
@[simp] theorem emit_potWhiskStart (o : Out) : (emit s o).potWhiskStart = s.potWhiskStart := rfl
@[simp] theorem emit_potWhiskLast (o : Out) : (emit s o).potWhiskLast = s.potWhiskLast := rfl
@[simp] theorem emit_repairQueue (o : Out) : (emit s o).repairQueue = s.repairQueue := rfl
@[simp] theorem emit_repairRecord (o : Out) : (emit s o).repairRecord = s.repairRecord := rfl
@[simp] theorem emit_repairSigs (o : Out) : (emit s o).repairSigs = s.repairSigs := rfl
@[simp] theorem emit_faults (o : Out) : (emit s o).faults = s.faults := rfl
@[simp] theorem emit_irq (o : Out) : (emit s o).irq = s.irq := rfl
@[simp] theorem emit_slots (o : Out) : (emit s o).slots = s.slots := rfl
@[simp] theorem emit_seqImages (o : Out) : (emit s o).seqImages = s.seqImages := rfl
@[simp] theorem emit_reqs (o : Out) : (emit s o).reqs = s.reqs := rfl
@[simp] theorem emit_ladles (o : Out) : (emit s o).ladles = s.ladles := rfl
@[simp] theorem emit_grid (o : Out) : (emit s o).grid = s.grid := rfl
@[simp] theorem emit_stepSats (o : Out) : (emit s o).stepSats = s.stepSats := rfl
@[simp] theorem emit_stepNonfinite (o : Out) : (emit s o).stepNonfinite = s.stepNonfinite := rfl
@[simp] theorem emit_kvPoisoned (o : Out) : (emit s o).kvPoisoned = s.kvPoisoned := rfl
@[simp] theorem emit_movers (o : Out) : (emit s o).movers = s.movers := rfl
@[simp] theorem emit_bursts (o : Out) : (emit s o).bursts = s.bursts := rfl
@[simp] theorem emit_walkers (o : Out) : (emit s o).walkers = s.walkers := rfl
@[simp] theorem emit_rings (o : Out) : (emit s o).rings = s.rings := rfl
@[simp] theorem emit_ringTurn (o : Out) : (emit s o).ringTurn = s.ringTurn := rfl
@[simp] theorem emit_host (o : Out) : (emit s o).host = s.host := rfl
@[simp] theorem emit_tenants (o : Out) : (emit s o).tenants = s.tenants := rfl
@[simp] theorem emit_ctx (o : Out) : (emit s o).ctx = s.ctx := rfl
@[simp] theorem emit_svc (o : Out) : (emit s o).svc = s.svc := rfl
@[simp] theorem emit_fabric (o : Out) : (emit s o).fabric = s.fabric := rfl
@[simp] theorem emit_tandem (o : Out) : (emit s o).tandem = s.tandem := rfl
@[simp] theorem emit_cad (o : Out) : (emit s o).cad = s.cad := rfl
@[simp] theorem emit_clock (o : Out) : (emit s o).clock = s.clock := rfl
@[simp] theorem emit_power (o : Out) : (emit s o).power = s.power := rfl
@[simp] theorem emit_flash (o : Out) : (emit s o).flash = s.flash := rfl
@[simp] theorem emit_test (o : Out) : (emit s o).test = s.test := rfl
@[simp] theorem emit_health (o : Out) : (emit s o).health = s.health := rfl
@[simp] theorem emit_sec (o : Out) : (emit s o).sec = s.sec := rfl
@[simp] theorem emit_pkg (o : Out) : (emit s o).pkg = s.pkg := rfl
@[simp] theorem emit_nirnar (o : Out) : (emit s o).nirnar = s.nirnar := rfl
@[simp] theorem emit_out (o : Out) : (emit s o).out = s.out ++ [o] := rfl
@[simp] theorem emit_pending (o : Out) : (emit s o).pending = s.pending := rfl
@[simp] theorem noteChange_now : (noteChange s k).now = s.now := by unfold noteChange; split <;> rfl
@[simp] theorem noteChange_ptp : (noteChange s k).ptp = s.ptp := by unfold noteChange; split <;> rfl
@[simp] theorem noteChange_dev : (noteChange s k).dev = s.dev := by unfold noteChange; split <;> rfl
@[simp] theorem noteChange_dict : (noteChange s k).dict = s.dict := by unfold noteChange; split <;> rfl
@[simp] theorem noteChange_blob : (noteChange s k).blob = s.blob := by unfold noteChange; split <;> rfl
@[simp] theorem noteChange_cfg : (noteChange s k).cfg = s.cfg := by unfold noteChange; split <;> rfl
@[simp] theorem noteChange_cfgBlob : (noteChange s k).cfgBlob = s.cfgBlob := by unfold noteChange; split <;> rfl
@[simp] theorem noteChange_free : (noteChange s k).free = s.free := by unfold noteChange; split <;> rfl
@[simp] theorem noteChange_stackMap : (noteChange s k).stackMap = s.stackMap := by unfold noteChange; split <;> rfl
@[simp] theorem noteChange_pots : (noteChange s k).pots = s.pots := by unfold noteChange; split <;> rfl
@[simp] theorem noteChange_locals : (noteChange s k).locals = s.locals := by unfold noteChange; split <;> rfl
@[simp] theorem noteChange_buffers : (noteChange s k).buffers = s.buffers := by unfold noteChange; split <;> rfl
@[simp] theorem noteChange_merges : (noteChange s k).merges = s.merges := by unfold noteChange; split <;> rfl
@[simp] theorem noteChange_engines : (noteChange s k).engines = s.engines := by unfold noteChange; split <;> rfl
@[simp] theorem noteChange_potCorrected : (noteChange s k).potCorrected = s.potCorrected := by unfold noteChange; split <;> rfl
@[simp] theorem noteChange_potUncorrectable : (noteChange s k).potUncorrectable = s.potUncorrectable := by unfold noteChange; split <;> rfl
@[simp] theorem noteChange_potWhiskPos : (noteChange s k).potWhiskPos = s.potWhiskPos := by unfold noteChange; split <;> rfl
@[simp] theorem noteChange_potWhiskStart : (noteChange s k).potWhiskStart = s.potWhiskStart := by unfold noteChange; split <;> rfl
@[simp] theorem noteChange_potWhiskLast : (noteChange s k).potWhiskLast = s.potWhiskLast := by unfold noteChange; split <;> rfl
@[simp] theorem noteChange_repairQueue : (noteChange s k).repairQueue = s.repairQueue := by unfold noteChange; split <;> rfl
@[simp] theorem noteChange_repairRecord : (noteChange s k).repairRecord = s.repairRecord := by unfold noteChange; split <;> rfl
@[simp] theorem noteChange_repairSigs : (noteChange s k).repairSigs = s.repairSigs := by unfold noteChange; split <;> rfl
@[simp] theorem noteChange_faults : (noteChange s k).faults = s.faults := by unfold noteChange; split <;> rfl
@[simp] theorem noteChange_irq : (noteChange s k).irq = s.irq := by unfold noteChange; split <;> rfl
@[simp] theorem noteChange_slots : (noteChange s k).slots = s.slots := by unfold noteChange; split <;> rfl
@[simp] theorem noteChange_seqImages : (noteChange s k).seqImages = s.seqImages := by unfold noteChange; split <;> rfl
@[simp] theorem noteChange_reqs : (noteChange s k).reqs = s.reqs := by unfold noteChange; split <;> rfl
@[simp] theorem noteChange_ladles : (noteChange s k).ladles = s.ladles := by unfold noteChange; split <;> rfl
@[simp] theorem noteChange_grid : (noteChange s k).grid = s.grid := by unfold noteChange; split <;> rfl
@[simp] theorem noteChange_stepSats : (noteChange s k).stepSats = s.stepSats := by unfold noteChange; split <;> rfl
@[simp] theorem noteChange_stepNonfinite : (noteChange s k).stepNonfinite = s.stepNonfinite := by unfold noteChange; split <;> rfl
@[simp] theorem noteChange_kvPoisoned : (noteChange s k).kvPoisoned = s.kvPoisoned := by unfold noteChange; split <;> rfl
@[simp] theorem noteChange_movers : (noteChange s k).movers = s.movers := by unfold noteChange; split <;> rfl
@[simp] theorem noteChange_bursts : (noteChange s k).bursts = s.bursts := by unfold noteChange; split <;> rfl
@[simp] theorem noteChange_walkers : (noteChange s k).walkers = s.walkers := by unfold noteChange; split <;> rfl
@[simp] theorem noteChange_rings : (noteChange s k).rings = s.rings := by unfold noteChange; split <;> rfl
@[simp] theorem noteChange_ringTurn : (noteChange s k).ringTurn = s.ringTurn := by unfold noteChange; split <;> rfl
@[simp] theorem noteChange_host : (noteChange s k).host = s.host := by unfold noteChange; split <;> rfl
@[simp] theorem noteChange_tenants : (noteChange s k).tenants = s.tenants := by unfold noteChange; split <;> rfl
@[simp] theorem noteChange_ctx : (noteChange s k).ctx = s.ctx := by unfold noteChange; split <;> rfl
@[simp] theorem noteChange_svc : (noteChange s k).svc = s.svc := by unfold noteChange; split <;> rfl
@[simp] theorem noteChange_fabric : (noteChange s k).fabric = s.fabric := by unfold noteChange; split <;> rfl
@[simp] theorem noteChange_tandem : (noteChange s k).tandem = s.tandem := by unfold noteChange; split <;> rfl
@[simp] theorem noteChange_cad : (noteChange s k).cad = s.cad := by unfold noteChange; split <;> rfl
@[simp] theorem noteChange_clock : (noteChange s k).clock = s.clock := by unfold noteChange; split <;> rfl
@[simp] theorem noteChange_power : (noteChange s k).power = s.power := by unfold noteChange; split <;> rfl
@[simp] theorem noteChange_flash : (noteChange s k).flash = s.flash := by unfold noteChange; split <;> rfl
@[simp] theorem noteChange_test : (noteChange s k).test = s.test := by unfold noteChange; split <;> rfl
@[simp] theorem noteChange_health : (noteChange s k).health = s.health := by unfold noteChange; split <;> rfl
@[simp] theorem noteChange_sec : (noteChange s k).sec = s.sec := by unfold noteChange; split <;> rfl
@[simp] theorem noteChange_pkg : (noteChange s k).pkg = s.pkg := by unfold noteChange; split <;> rfl
@[simp] theorem noteChange_nirnar : (noteChange s k).nirnar = s.nirnar := by unfold noteChange; split <;> rfl
@[simp] theorem noteChange_out : (noteChange s k).out = s.out := by unfold noteChange; split <;> rfl
@[simp] theorem noteChange_pending : (noteChange s k).pending = s.pending := by unfold noteChange; split <;> rfl

/-! ## Dictionary entries -/

variable (i j v : Nat)

@[simp] theorem dset_now : (dset s i j v).now = s.now := by simp [dset]
@[simp] theorem dset_ptp : (dset s i j v).ptp = s.ptp := by simp [dset]
@[simp] theorem dset_dev : (dset s i j v).dev = s.dev := by simp [dset]
@[simp] theorem dset_blob : (dset s i j v).blob = s.blob := by simp [dset]
@[simp] theorem dset_cfg : (dset s i j v).cfg = s.cfg := by simp [dset]
@[simp] theorem dset_cfgBlob : (dset s i j v).cfgBlob = s.cfgBlob := by simp [dset]
@[simp] theorem dset_free : (dset s i j v).free = s.free := by simp [dset]
@[simp] theorem dset_stackMap : (dset s i j v).stackMap = s.stackMap := by simp [dset]
@[simp] theorem dset_pots : (dset s i j v).pots = s.pots := by simp [dset]
@[simp] theorem dset_locals : (dset s i j v).locals = s.locals := by simp [dset]
@[simp] theorem dset_buffers : (dset s i j v).buffers = s.buffers := by simp [dset]
@[simp] theorem dset_merges : (dset s i j v).merges = s.merges := by simp [dset]
@[simp] theorem dset_engines : (dset s i j v).engines = s.engines := by simp [dset]
@[simp] theorem dset_potCorrected : (dset s i j v).potCorrected = s.potCorrected := by simp [dset]
@[simp] theorem dset_potUncorrectable : (dset s i j v).potUncorrectable = s.potUncorrectable := by simp [dset]
@[simp] theorem dset_potWhiskPos : (dset s i j v).potWhiskPos = s.potWhiskPos := by simp [dset]
@[simp] theorem dset_potWhiskStart : (dset s i j v).potWhiskStart = s.potWhiskStart := by simp [dset]
@[simp] theorem dset_potWhiskLast : (dset s i j v).potWhiskLast = s.potWhiskLast := by simp [dset]
@[simp] theorem dset_repairQueue : (dset s i j v).repairQueue = s.repairQueue := by simp [dset]
@[simp] theorem dset_repairRecord : (dset s i j v).repairRecord = s.repairRecord := by simp [dset]
@[simp] theorem dset_repairSigs : (dset s i j v).repairSigs = s.repairSigs := by simp [dset]
@[simp] theorem dset_faults : (dset s i j v).faults = s.faults := by simp [dset]
@[simp] theorem dset_irq : (dset s i j v).irq = s.irq := by simp [dset]
@[simp] theorem dset_slots : (dset s i j v).slots = s.slots := by simp [dset]
@[simp] theorem dset_seqImages : (dset s i j v).seqImages = s.seqImages := by simp [dset]
@[simp] theorem dset_reqs : (dset s i j v).reqs = s.reqs := by simp [dset]
@[simp] theorem dset_ladles : (dset s i j v).ladles = s.ladles := by simp [dset]
@[simp] theorem dset_grid : (dset s i j v).grid = s.grid := by simp [dset]
@[simp] theorem dset_stepSats : (dset s i j v).stepSats = s.stepSats := by simp [dset]
@[simp] theorem dset_stepNonfinite : (dset s i j v).stepNonfinite = s.stepNonfinite := by simp [dset]
@[simp] theorem dset_kvPoisoned : (dset s i j v).kvPoisoned = s.kvPoisoned := by simp [dset]
@[simp] theorem dset_movers : (dset s i j v).movers = s.movers := by simp [dset]
@[simp] theorem dset_bursts : (dset s i j v).bursts = s.bursts := by simp [dset]
@[simp] theorem dset_walkers : (dset s i j v).walkers = s.walkers := by simp [dset]
@[simp] theorem dset_rings : (dset s i j v).rings = s.rings := by simp [dset]
@[simp] theorem dset_ringTurn : (dset s i j v).ringTurn = s.ringTurn := by simp [dset]
@[simp] theorem dset_host : (dset s i j v).host = s.host := by simp [dset]
@[simp] theorem dset_tenants : (dset s i j v).tenants = s.tenants := by simp [dset]
@[simp] theorem dset_ctx : (dset s i j v).ctx = s.ctx := by simp [dset]
@[simp] theorem dset_svc : (dset s i j v).svc = s.svc := by simp [dset]
@[simp] theorem dset_fabric : (dset s i j v).fabric = s.fabric := by simp [dset]
@[simp] theorem dset_tandem : (dset s i j v).tandem = s.tandem := by simp [dset]
@[simp] theorem dset_cad : (dset s i j v).cad = s.cad := by simp [dset]
@[simp] theorem dset_clock : (dset s i j v).clock = s.clock := by simp [dset]
@[simp] theorem dset_power : (dset s i j v).power = s.power := by simp [dset]
@[simp] theorem dset_flash : (dset s i j v).flash = s.flash := by simp [dset]
@[simp] theorem dset_test : (dset s i j v).test = s.test := by simp [dset]
@[simp] theorem dset_health : (dset s i j v).health = s.health := by simp [dset]
@[simp] theorem dset_sec : (dset s i j v).sec = s.sec := by simp [dset]
@[simp] theorem dset_pkg : (dset s i j v).pkg = s.pkg := by simp [dset]
@[simp] theorem dset_nirnar : (dset s i j v).nirnar = s.nirnar := by simp [dset]
@[simp] theorem dset_out : (dset s i j v).out = s.out := by simp [dset]
@[simp] theorem dset_pending : (dset s i j v).pending = s.pending := by simp [dset]
@[simp] theorem dset_dict : (dset s i j v).dict = mapSet (dictDefault (dk i j)) s.dict (dk i j) v := by simp [dset]
@[simp] theorem bump_now : (bump s i j v).now = s.now := dset_now s i j _
@[simp] theorem bump_ptp : (bump s i j v).ptp = s.ptp := dset_ptp s i j _
@[simp] theorem bump_dev : (bump s i j v).dev = s.dev := dset_dev s i j _
@[simp] theorem bump_blob : (bump s i j v).blob = s.blob := dset_blob s i j _
@[simp] theorem bump_cfg : (bump s i j v).cfg = s.cfg := dset_cfg s i j _
@[simp] theorem bump_cfgBlob : (bump s i j v).cfgBlob = s.cfgBlob := dset_cfgBlob s i j _
@[simp] theorem bump_free : (bump s i j v).free = s.free := dset_free s i j _
@[simp] theorem bump_stackMap : (bump s i j v).stackMap = s.stackMap := dset_stackMap s i j _
@[simp] theorem bump_pots : (bump s i j v).pots = s.pots := dset_pots s i j _
@[simp] theorem bump_locals : (bump s i j v).locals = s.locals := dset_locals s i j _
@[simp] theorem bump_buffers : (bump s i j v).buffers = s.buffers := dset_buffers s i j _
@[simp] theorem bump_merges : (bump s i j v).merges = s.merges := dset_merges s i j _
@[simp] theorem bump_engines : (bump s i j v).engines = s.engines := dset_engines s i j _
@[simp] theorem bump_potCorrected : (bump s i j v).potCorrected = s.potCorrected := dset_potCorrected s i j _
@[simp] theorem bump_potUncorrectable : (bump s i j v).potUncorrectable = s.potUncorrectable := dset_potUncorrectable s i j _
@[simp] theorem bump_potWhiskPos : (bump s i j v).potWhiskPos = s.potWhiskPos := dset_potWhiskPos s i j _
@[simp] theorem bump_potWhiskStart : (bump s i j v).potWhiskStart = s.potWhiskStart := dset_potWhiskStart s i j _
@[simp] theorem bump_potWhiskLast : (bump s i j v).potWhiskLast = s.potWhiskLast := dset_potWhiskLast s i j _
@[simp] theorem bump_repairQueue : (bump s i j v).repairQueue = s.repairQueue := dset_repairQueue s i j _
@[simp] theorem bump_repairRecord : (bump s i j v).repairRecord = s.repairRecord := dset_repairRecord s i j _
@[simp] theorem bump_repairSigs : (bump s i j v).repairSigs = s.repairSigs := dset_repairSigs s i j _
@[simp] theorem bump_faults : (bump s i j v).faults = s.faults := dset_faults s i j _
@[simp] theorem bump_irq : (bump s i j v).irq = s.irq := dset_irq s i j _
@[simp] theorem bump_slots : (bump s i j v).slots = s.slots := dset_slots s i j _
@[simp] theorem bump_seqImages : (bump s i j v).seqImages = s.seqImages := dset_seqImages s i j _
@[simp] theorem bump_reqs : (bump s i j v).reqs = s.reqs := dset_reqs s i j _
@[simp] theorem bump_ladles : (bump s i j v).ladles = s.ladles := dset_ladles s i j _
@[simp] theorem bump_grid : (bump s i j v).grid = s.grid := dset_grid s i j _
@[simp] theorem bump_stepSats : (bump s i j v).stepSats = s.stepSats := dset_stepSats s i j _
@[simp] theorem bump_stepNonfinite : (bump s i j v).stepNonfinite = s.stepNonfinite := dset_stepNonfinite s i j _
@[simp] theorem bump_kvPoisoned : (bump s i j v).kvPoisoned = s.kvPoisoned := dset_kvPoisoned s i j _
@[simp] theorem bump_movers : (bump s i j v).movers = s.movers := dset_movers s i j _
@[simp] theorem bump_bursts : (bump s i j v).bursts = s.bursts := dset_bursts s i j _
@[simp] theorem bump_walkers : (bump s i j v).walkers = s.walkers := dset_walkers s i j _
@[simp] theorem bump_rings : (bump s i j v).rings = s.rings := dset_rings s i j _
@[simp] theorem bump_ringTurn : (bump s i j v).ringTurn = s.ringTurn := dset_ringTurn s i j _
@[simp] theorem bump_host : (bump s i j v).host = s.host := dset_host s i j _
@[simp] theorem bump_tenants : (bump s i j v).tenants = s.tenants := dset_tenants s i j _
@[simp] theorem bump_ctx : (bump s i j v).ctx = s.ctx := dset_ctx s i j _
@[simp] theorem bump_svc : (bump s i j v).svc = s.svc := dset_svc s i j _
@[simp] theorem bump_fabric : (bump s i j v).fabric = s.fabric := dset_fabric s i j _
@[simp] theorem bump_tandem : (bump s i j v).tandem = s.tandem := dset_tandem s i j _
@[simp] theorem bump_cad : (bump s i j v).cad = s.cad := dset_cad s i j _
@[simp] theorem bump_clock : (bump s i j v).clock = s.clock := dset_clock s i j _
@[simp] theorem bump_power : (bump s i j v).power = s.power := dset_power s i j _
@[simp] theorem bump_flash : (bump s i j v).flash = s.flash := dset_flash s i j _
@[simp] theorem bump_test : (bump s i j v).test = s.test := dset_test s i j _
@[simp] theorem bump_health : (bump s i j v).health = s.health := dset_health s i j _
@[simp] theorem bump_sec : (bump s i j v).sec = s.sec := dset_sec s i j _
@[simp] theorem bump_pkg : (bump s i j v).pkg = s.pkg := dset_pkg s i j _
@[simp] theorem bump_nirnar : (bump s i j v).nirnar = s.nirnar := dset_nirnar s i j _
@[simp] theorem bump_out : (bump s i j v).out = s.out := dset_out s i j _
@[simp] theorem bump_pending : (bump s i j v).pending = s.pending := dset_pending s i j _
@[simp] theorem bset_now (b : List Byte) : (bset s i j b).now = s.now := by simp [bset]
@[simp] theorem bset_ptp (b : List Byte) : (bset s i j b).ptp = s.ptp := by simp [bset]
@[simp] theorem bset_dev (b : List Byte) : (bset s i j b).dev = s.dev := by simp [bset]
@[simp] theorem bset_dict (b : List Byte) : (bset s i j b).dict = s.dict := by simp [bset]
@[simp] theorem bset_cfg (b : List Byte) : (bset s i j b).cfg = s.cfg := by simp [bset]
@[simp] theorem bset_cfgBlob (b : List Byte) : (bset s i j b).cfgBlob = s.cfgBlob := by simp [bset]
@[simp] theorem bset_free (b : List Byte) : (bset s i j b).free = s.free := by simp [bset]
@[simp] theorem bset_stackMap (b : List Byte) : (bset s i j b).stackMap = s.stackMap := by simp [bset]
@[simp] theorem bset_pots (b : List Byte) : (bset s i j b).pots = s.pots := by simp [bset]
@[simp] theorem bset_locals (b : List Byte) : (bset s i j b).locals = s.locals := by simp [bset]
@[simp] theorem bset_buffers (b : List Byte) : (bset s i j b).buffers = s.buffers := by simp [bset]
@[simp] theorem bset_merges (b : List Byte) : (bset s i j b).merges = s.merges := by simp [bset]
@[simp] theorem bset_engines (b : List Byte) : (bset s i j b).engines = s.engines := by simp [bset]
@[simp] theorem bset_potCorrected (b : List Byte) : (bset s i j b).potCorrected = s.potCorrected := by simp [bset]
@[simp] theorem bset_potUncorrectable (b : List Byte) : (bset s i j b).potUncorrectable = s.potUncorrectable := by simp [bset]
@[simp] theorem bset_potWhiskPos (b : List Byte) : (bset s i j b).potWhiskPos = s.potWhiskPos := by simp [bset]
@[simp] theorem bset_potWhiskStart (b : List Byte) : (bset s i j b).potWhiskStart = s.potWhiskStart := by simp [bset]
@[simp] theorem bset_potWhiskLast (b : List Byte) : (bset s i j b).potWhiskLast = s.potWhiskLast := by simp [bset]
@[simp] theorem bset_repairQueue (b : List Byte) : (bset s i j b).repairQueue = s.repairQueue := by simp [bset]
@[simp] theorem bset_repairRecord (b : List Byte) : (bset s i j b).repairRecord = s.repairRecord := by simp [bset]
@[simp] theorem bset_repairSigs (b : List Byte) : (bset s i j b).repairSigs = s.repairSigs := by simp [bset]
@[simp] theorem bset_faults (b : List Byte) : (bset s i j b).faults = s.faults := by simp [bset]
@[simp] theorem bset_irq (b : List Byte) : (bset s i j b).irq = s.irq := by simp [bset]
@[simp] theorem bset_slots (b : List Byte) : (bset s i j b).slots = s.slots := by simp [bset]
@[simp] theorem bset_seqImages (b : List Byte) : (bset s i j b).seqImages = s.seqImages := by simp [bset]
@[simp] theorem bset_reqs (b : List Byte) : (bset s i j b).reqs = s.reqs := by simp [bset]
@[simp] theorem bset_ladles (b : List Byte) : (bset s i j b).ladles = s.ladles := by simp [bset]
@[simp] theorem bset_grid (b : List Byte) : (bset s i j b).grid = s.grid := by simp [bset]
@[simp] theorem bset_stepSats (b : List Byte) : (bset s i j b).stepSats = s.stepSats := by simp [bset]
@[simp] theorem bset_stepNonfinite (b : List Byte) : (bset s i j b).stepNonfinite = s.stepNonfinite := by simp [bset]
@[simp] theorem bset_kvPoisoned (b : List Byte) : (bset s i j b).kvPoisoned = s.kvPoisoned := by simp [bset]
@[simp] theorem bset_movers (b : List Byte) : (bset s i j b).movers = s.movers := by simp [bset]
@[simp] theorem bset_bursts (b : List Byte) : (bset s i j b).bursts = s.bursts := by simp [bset]
@[simp] theorem bset_walkers (b : List Byte) : (bset s i j b).walkers = s.walkers := by simp [bset]
@[simp] theorem bset_rings (b : List Byte) : (bset s i j b).rings = s.rings := by simp [bset]
@[simp] theorem bset_ringTurn (b : List Byte) : (bset s i j b).ringTurn = s.ringTurn := by simp [bset]
@[simp] theorem bset_host (b : List Byte) : (bset s i j b).host = s.host := by simp [bset]
@[simp] theorem bset_tenants (b : List Byte) : (bset s i j b).tenants = s.tenants := by simp [bset]
@[simp] theorem bset_ctx (b : List Byte) : (bset s i j b).ctx = s.ctx := by simp [bset]
@[simp] theorem bset_svc (b : List Byte) : (bset s i j b).svc = s.svc := by simp [bset]
@[simp] theorem bset_fabric (b : List Byte) : (bset s i j b).fabric = s.fabric := by simp [bset]
@[simp] theorem bset_tandem (b : List Byte) : (bset s i j b).tandem = s.tandem := by simp [bset]
@[simp] theorem bset_cad (b : List Byte) : (bset s i j b).cad = s.cad := by simp [bset]
@[simp] theorem bset_clock (b : List Byte) : (bset s i j b).clock = s.clock := by simp [bset]
@[simp] theorem bset_power (b : List Byte) : (bset s i j b).power = s.power := by simp [bset]
@[simp] theorem bset_flash (b : List Byte) : (bset s i j b).flash = s.flash := by simp [bset]
@[simp] theorem bset_test (b : List Byte) : (bset s i j b).test = s.test := by simp [bset]
@[simp] theorem bset_health (b : List Byte) : (bset s i j b).health = s.health := by simp [bset]
@[simp] theorem bset_sec (b : List Byte) : (bset s i j b).sec = s.sec := by simp [bset]
@[simp] theorem bset_pkg (b : List Byte) : (bset s i j b).pkg = s.pkg := by simp [bset]
@[simp] theorem bset_nirnar (b : List Byte) : (bset s i j b).nirnar = s.nirnar := by simp [bset]
@[simp] theorem bset_out (b : List Byte) : (bset s i j b).out = s.out := by simp [bset]
@[simp] theorem bset_pending (b : List Byte) : (bset s i j b).pending = s.pending := by simp [bset]

/-- An entry that is set reads the value set, and every other entry as before. -/
theorem dget_dset (i' j' : Nat) : dget (dset s i j v) i' j' = if dk i' j' = dk i j then v else dget s i' j' := by
  by_cases h : dk i' j' = dk i j
  · simp [dget, h]
  · simp only [dget, dset_dict, if_neg h]
    exact mapGet_mapSet_other _ _ _ h v

@[simp] theorem dget_dset_self : dget (dset s i j v) i j = v := by simp [dget_dset]

theorem dget_dset_other {i' j' : Nat} (h : dk i' j' ≠ dk i j) : dget (dset s i j v) i' j' = dget s i' j' := by
  rw [dget_dset, if_neg h]

theorem dget_bump_other {i' j' : Nat} (h : dk i' j' ≠ dk i j) : dget (bump s i j v) i' j' = dget s i' j' := dget_dset_other s i j _ h

end Sys2Proof.Laws
end

