-- ==== Sys2Proof/Laws/Walkers.lean ====
section
/-!
SUPPORT. What an issued walker instruction does, said once (R363, R365).
-/

namespace Sys2Proof.Laws

open Sys2Proof.Machine

/-- An instruction that issues answers its own effect after the fetch; where that waits for the tracker, the state as it was. -/
theorem walkerOp_of_issues {s s2 : State} {n t w : Nat} {op : WalkOp} (h : Issues s n t op w s2)
    (f : Nat → Thread → State → Option State) :
    walkerOp s n t op f = .next ((f w (s.thread n t) s2).getD s) := by
  obtain ⟨hn, ht, hst, hdr, hrd, hlen, hop, s1, hf, rfl⟩ := h
  have hlt : ¬ (s.engine (64 + n)).len < (s.thread n t).pc + 4 := Nat.not_lt.mpr hlen
  simp only [walkerOp, hn, ht, hst, hdr, hrd, hlt, hf, hop, and_self, if_true, if_false, Bool.false_eq_true]
  cases f w (s.thread n t) (s1.updWalker n (fun x => { x with issued := sat64 x.issued 1 })) <;> rfl

/-- A register holds a 64-bit value (R365). -/
theorem reg_lt (x : Thread) (i : Nat) : x.reg i < 2 ^ 64 := by
  unfold Thread.reg
  split
  · decide
  · exact Nat.mod_lt _ (by decide)

/-- Only the low 64 bits of a value matter to the register that takes it (R368). -/
theorem setReg_mod (x : Thread) (i v : Nat) : x.setReg i (v % 2 ^ 64) = x.setReg i v := by
  unfold Thread.setReg
  rw [Nat.mod_mod]

/-- What is written to a register is read back; a write to w0 is discarded (R365). -/
theorem reg_setReg_self (x : Thread) (v : Nat) : (x.setReg 0 v).reg 0 = 0 := rfl

end Sys2Proof.Laws
end

