-- ==== Sys2Proof/Tests/Slice0.lean ====
section
/-!
SUPPORT. Tests of the model on small states, and for every statement with hypotheses a witness that meets them.
-/

set_option Elab.async false

namespace Sys2Proof.Tests

open Sys2Proof Sys2Proof.Machine

/-! ## Ill-formed terms, one for each kind of check -/

theorem test_ill_stack : wellFormed (.refresh 8 0) = false ∧ wellFormed (.refresh 0 2048) = false ∧ wellFormed (.gemv4 8 0) = false ∧
    wellFormed (.whiskRow 10 0 []) = false := by decide

theorem test_ill_stack_access : wellFormed (.stackAccess 0 0 0 0 none [] []) = false ∧ wellFormed (.stackAccess 0 0 2047 2 none [] []) = false ∧
    wellFormed (.stackAccess 0 0 0x10000000000 1 none [] []) = false ∧ wellFormed (.stackAccess 0 0 0 2 (some [1]) [] []) = false := by
  decide +kernel

theorem test_ill_mover : wellFormed (.moveCopy 32 [] []) = false ∧ wellFormed (.discardApplied 32) = false := by decide

theorem test_ill_posts : wellFormed (.seqQueuePost 0 0 false none 0 []) = false ∧ wellFormed (.moverQueuePost 0 0 false 0 []) = false ∧
    wellFormed (.collPost 0 0 false []) = false := by decide +kernel

theorem test_ill_engine : wellFormed (.nest 9) = false ∧ wellFormed (.commit 0xF0 0 63 false 1 0 0) = false ∧
    wellFormed (.engineDrainEnd 128) = false := by decide

theorem test_ill_thread : wellFormed (.aluAdd 64 0) = false ∧ wellFormed (.aluAdd 0 64) = false ∧ wellFormed (.taskStart 64) = false := by decide

theorem test_ill_request : wellFormed (.kvPrepareDone 16384) = false ∧ wellFormed (.stepDiscard 16) = false ∧
    wellFormed (.assign 64) = false ∧ wellFormed (.apertureWrite 0 65 0) = false ∧ wellFormed (.slotUnload 16) = false := by decide

theorem test_ill_port : wellFormed (.portRetrain 8) = false ∧ wellFormed (.linkstate 6 0 0 0 false) = false ∧
    wellFormed (.heart 2 0 0 0 0 0 0) = false := by decide

theorem test_ill_host : wellFormed (.doorbell 0 1024 0) = false ∧ wellFormed (.ipendClear 1 false 0 0) = false ∧
    wellFormed (.itargetWrite 0 false 2048 0) = false ∧ wellFormed (.winWrite 0 64 0) = false ∧ wellFormed (.bar2Access 0 0 0 none false) = false ∧
    wellFormed (.msixUnmask 1 256) = false ∧ wellFormed (.flr 64) = false ∧ wellFormed (.hostLinkUp 8 1) = false ∧
    wellFormed (.hostLinkUp 1 3) = false := by decide

theorem test_ill_config : wellFormed (.pcieConfigWrite 5 0 0) = false ∧ wellFormed (.pcieConfigWrite 1 0 64) = false ∧
    wellFormed (.pcieConfigWrite 2 0 29) = false ∧ wellFormed (.pcieConfigWrite 3 0 37) = false ∧ wellFormed (.pcieConfigWrite 4 0 0) = false := by
  decide

theorem test_ill_frame : wellFormed (.hello 0 none 0 ([0x4E, 0x52, 1, 3] ++ List.replicate 28 0)) = false ∧
    wellFormed (.hello 0 none 0 ([0x4E, 0x52, 1, 1] ++ List.replicate 28 0)) = true := by decide +kernel

theorem test_ill_register : wellFormed (.regWrite true 0xF1 0 0 [1] false [] true) = false ∧
    wellFormed (.regWrite true 0xF0 0 0 [] false [] true) = false ∧ wellFormed (.regWrite false 0 1 0x200000 [1] false [] true) = false := by
  decide +kernel

theorem test_ill_lists : wellFormed (.pmbusPoll []) = false ∧ wellFormed (.sensorScan []) = false ∧ wellFormed (.romBootDone true []) = false := by
  decide

theorem test_ill_management : wellFormed (.gpiEdge 8 true) = false ∧ wellFormed (.inputGlitch 10) = false ∧
    wellFormed (.dictWrite 65536 0 []) = false ∧ wellFormed (.coreHeartbeatCheck 2 true) = false ∧
    wellFormed (.slotSigningKeyWrite 9 []) = false ∧ wellFormed (.entdaa 128) = false ∧ wellFormed (.getDigests 64) = false := by decide

theorem wit_idle : State.reset.pending = [] := by decide

theorem wit_front : ({ State.reset with pending := [Instr.pwrgdRise] } : State).pending = [.pwrgdRise] := by decide

theorem test_no_such_unit : exec (.refresh 8 0) State.reset = .next State.reset ∧ exec (.portRetrain 8) State.reset = .next State.reset ∧
    exec (.stepDiscard 16) State.reset = .next State.reset := ⟨rfl, rfl, rfl⟩

theorem wit_queue : (match exec .pwrgdRise State.reset with | .next _ => true | _ => false) = true := by decide +kernel

theorem wit_canonical : Memory.wf { State.reset with pending := [.pwrgdRise] } = true := by decide

/-- A state with one SCALE slot issued. -/
def scaleState (bits : Nat) (loaded : Bool) : State :=
  { State.reset with grid := { scaleOps := [{ no := 1, bits := bits, loaded := loaded }] } }

theorem wit_scale_loadcol : nextScale (scaleState (2 ^ 60) false).grid = some { no := 1, bits := 2 ^ 60 } ∧ (scaleSlot (2 ^ 60)).op = 1 := by
  decide

theorem wit_scale_loadrow : nextScale (scaleState (2 ^ 61) false).grid = some { no := 1, bits := 2 ^ 61 } ∧ (scaleSlot (2 ^ 61)).op = 2 := by
  decide

theorem wit_scale_fillcol : nextScale (scaleState (3 * 2 ^ 60 + 4) false).grid = some { no := 1, bits := 3 * 2 ^ 60 + 4 } ∧
    (scaleSlot (3 * 2 ^ 60 + 4)).op = 3 ∧ (4 : Word32).toNat = (scaleSlot (3 * 2 ^ 60 + 4)).value := by decide

theorem wit_scale_fillrow : nextScale (scaleState (4 * 2 ^ 60 + 4) false).grid = some { no := 1, bits := 4 * 2 ^ 60 + 4 } ∧
    (scaleSlot (4 * 2 ^ 60 + 4)).op = 4 ∧ (4 : Word32).toNat = (scaleSlot (4 * 2 ^ 60 + 4)).value := by decide

theorem wit_scale_setout : nextScale (scaleState (5 * 2 ^ 60 + 4) false).grid = some { no := 1, bits := 5 * 2 ^ 60 + 4 } ∧
    (scaleSlot (5 * 2 ^ 60 + 4)).op = 5 ∧ (scaleSlot (5 * 2 ^ 60 + 4)).first = 0 ∧ (scaleSlot (5 * 2 ^ 60 + 4)).count = 1 ∧
    (4 : Word32).toNat = (scaleSlot (5 * 2 ^ 60 + 4)).value := by decide

theorem wit_scale_complete : (scaleState (5 * 2 ^ 60) true).grid.scaleOps = [{ no := 1, bits := 5 * 2 ^ 60, loaded := true }] := by decide

/-- A state with one GRID operation issued. -/
def gridState (o : GridOp) : State := { State.reset with grid := { ops := [o] } }

/-- An operation with the slot bits given. -/
def gridOp (bits : Nat) (swept rerun : Bool) (sats : Nat) : GridOp :=
  { no := 1, bits := bits, asrc := 0, adst := 2 ^ 20, aw := 0, ags := 0, aaux := 0, ax2 := 0, started := true, swept := swept,
    rerun := rerun, sats := sats }

theorem wit_grid_barred : rerunBar (gridState (gridOp (2 ^ 92) true false (2 ^ 40))) (gridSlot (2 ^ 92)) (gridOp (2 ^ 92) true false (2 ^ 40)) ≠ 0 := by
  decide

theorem wit_grid_mm : (gridSlot (2 ^ 92)).op = 1 ∧ mayRun (gridState (gridOp (2 ^ 92) false false 0)).grid (gridOp (2 ^ 92) false false 0) = true ∧
    (let s := gridState (gridOp (2 ^ 92) false false 0)
     let o := gridOp (2 ^ 92) false false 0
     nothingHeld (stageSweep s o.bits) (opReads (stageSweep s o.bits).grid o ++ opWrites o) = true) := by
  decide +kernel

theorem wit_grid_wload : (gridSlot (2 ^ 93)).op = 2 ∧ mayRun (gridState (gridOp (2 ^ 93) false false 0)).grid (gridOp (2 ^ 93) false false 0) = true ∧
    nothingHeld (gridState (gridOp (2 ^ 93) false false 0)) (opReads (gridState (gridOp (2 ^ 93) false false 0)).grid (gridOp (2 ^ 93) false false 0)) = true := by
  decide +kernel

theorem wit_grid_wload_complete : (gridState (gridOp (2 ^ 93) true false 0)).grid.ops = [gridOp (2 ^ 93) true false 0] ∧
    (gridSlot (2 ^ 93)).op = 2 := by decide

theorem wit_grid_mm_complete : (gridOp (2 ^ 92) true false 0).swept = true ∧ (gridOp (2 ^ 92) true false 0).rerun = false ∧
    (gridOp (2 ^ 92) true false 0).sats ≤ gridThreshold (gridState (gridOp (2 ^ 92) true false 0)) none := by decide

/-- As `gridState`, with a wide area of 1 MiB in the dictionary. -/
def wideState (o : GridOp) : State := dset (dset (dset (gridState o) 0x2100 3 1) 0x2100 4 (2 ^ 24)) 0x2100 5 (2 ^ 20)

theorem wit_grid_rerun : gridThreshold (wideState (gridOp (2 ^ 92) true false (2 ^ 40))) none < 2 ^ 40 ∧
    rerunBar (wideState (gridOp (2 ^ 92) true false (2 ^ 40))) (gridSlot (2 ^ 92)) (gridOp (2 ^ 92) true false (2 ^ 40)) = 0 := by
  decide

theorem wit_grid_rerun_complete : (gridState (gridOp (2 ^ 92) true true 9)).grid.ops = [gridOp (2 ^ 92) true true 9] := by decide

/-- The device in a state, with one stack. -/
def stackState (dev : DevState) (x : Stack) : State := { State.reset with dev := dev, stackMap := [(0, x)] }

theorem wit_stack_access : accessHeld (upsetCells (stackState .service {}) 0 []) 0 = false := by decide

theorem wit_stack_held : accessHeld (upsetCells (stackState .service { modeNext := some 1 }) 0 []) 0 = true := by decide

theorem wit_stack_rows : 2047 + 2 ≤ potWest ∧ (splitRuns { reader := 0, tenant := 0, addr := 2047, len := 2, data := none } 3 0 2).length = 2 := by decide

theorem wit_add_held : accessHeld (stackState .service { modeNext := some 1 }) 0 = true ∧ accessHeld (stackState .service {}) 0 = false := by decide

theorem wit_refresh : bankComputing (stackState .service {}) 0 2047 = false := by decide

/-- A stack whose bank 0 computes. -/
def computingState : State := { State.reset with ladles := [(0, { seqs := [{ slot := 1, bank := 0, left := 1, st := .computing }] })] }

theorem wit_refresh_postponed : bankComputing computingState 0 0 = true ∧ mapGet 0 (computingState.stack 0).refreshLag 0 < 4 := by decide

theorem wit_repair : (stackState .test {}).dev = .test ∧ ((stackState .test {}).stack 7).rprColSel = false ∧ 20479 % 2 ^ 15 ≤ 20479 := by decide

theorem wit_repair_state : (stackState .service {}).dev ≠ .test := by decide

theorem wit_seg_mode : notReady (stackState .ready {}) = none ∧ notReady (stackState .rom {}) = some 0x02020002 ∧
    (stackState .rom {}).dev ≠ .off := by decide

/-- A stack whose mode change is accepted, with the write that waits for it. -/
def modeState : State :=
  { stackState .ready { modeNext := some 0 } with
    nirnar := { jobs := [{ asker := .direct, key := dk 0x2210 1, value := [0], stage := .effect }] } }

theorem wit_seg_mode_done : (modeState.stack 0).modeNext = some 0 ∧ earlyLeft modeState (inChanging modeState 0) = false ∧
    modeComputing modeState 0 = false ∧ (applyNewModes modeState 0).nirnar.jobs =
    [{ asker := .direct, key := dk 0x2210 1, value := [0], stage := .effect }] := by decide

theorem wit_retire_complete : ((stackState .service { migrating := [(3, 9)] }).stack 0).migrating = [(3, 9)] := by decide

theorem wit_retire_free : frameComputing (stackState .service { migrating := [(3, 9)] }) 0 3 = false ∧
    earlyLeft (stackState .service { migrating := [(3, 9)] }) (inFrames 0 3 9) = false := by decide

theorem wit_retire_room : remapFull (stackState .service { awaiting := [3] } |>.stack 0) = false := by decide

theorem wit_retire_donor : (chooseDonor (stackState .service { awaiting := [3] }) 0 3).isSome = true := by decide +kernel

theorem wit_repair_queue : ({ State.reset with repairQueue := [(5, 0)] } : State).repairRecord.length < 16 * 503 := by decide

/-- A stack with one written row, and the whisk enabled. -/
def whiskState : State := { dset (stackState .service { rowValid := [(7, true)] }) 0x2201 3 1 with now := 2000 }

theorem wit_whisk_row : dbool whiskState 0x2201 2 = true ∧ sequenceRuns whiskState 0 0 = false ∧ accessWaits whiskState 0 0 = false ∧
    mapGet 0 (whiskState.stack 0).lastAccess 0 + 256 ≤ whiskState.now ∧
    mapGet 0 (whiskState.stack 0).lastWhisk 0 + dget whiskState 0x2201 3 * 1000 ≤ whiskState.now ∧
    whiskNext (whiskState.stack 0) 0 (mapGet 0 (whiskState.stack 0).whiskRow 0) 20481 = 7 := by decide +kernel

theorem wit_whisk_bank_done : 20480 ≤ whiskNext (whiskState.stack 0) 1 20480 20481 ∧
    (whiskState.stack 0).whiskBanksDone ||| 2 ^ 1 ≠ 2 ^ 2048 - 1 := by decide +kernel

theorem wit_whisk_slow : dget { State.reset with now := 2 ^ 60 } 0x2220 9 < (2 ^ 60 - 0) / 1000000 ∧
    (({ State.reset with now := 2 ^ 60 } : State).stack 0).whiskSlow = false := by decide

theorem wit_enter_test : mayTest 0xF0 0 = true ∧ frameFree (stackState .ready {}) 7 20479 = true ∧
    frameFree (stackState .ready {}) 7 65535 = false := by decide +kernel

theorem wit_test_entered : ((stackState .ready { testEntering := [0] }).stack 0).testEntering = [0] := by decide

theorem wit_leave_test : mayTest 0xF3 9 = true ∧ ((stackState .ready { testFrames := [20479] }).stack 0).testFrames.contains 20479 = true := by
  decide

theorem wit_test_word : (testWord (stackState .ready { testFrames := [0], taddr := 32, rowValid := [(0, true)] }) 0) = some (0, 0, 0, 1) ∧
    rowIsValid { testFrames := [0], taddr := 32, rowValid := [(0, true)] } 0 0 = true := by decide +kernel

theorem wit_test_refused : testWord (stackState .ready { taddr := 32 }) 0 = none := by decide +kernel

/-- A stack with one ladle slot of an OP issued. -/
def ladleState (op : Nat) (performed : Bool) : State :=
  { State.reset with ladles := [(7, { slots := [{ no := 1, bits := op * 2 ^ 92, avec := 0, adst := 0, aaux := 0, performed := performed }] })] }

theorem wit_ladle : ∀ op ∈ [1, 2, 3, 4, 5, 6, 7, 8, 9, 10, 11, 12, 13],
    nextLadleSlot ((ladleState op false).ladle 7) = some { no := 1, bits := op * 2 ^ 92, avec := 0, adst := 0, aaux := 0 } ∧
    (ladleSlot (op * 2 ^ 92)).op = op := by decide

/-- One sequence of bank 2047 of stack 7. -/
def seqState (st : SeqState) (left : Nat) : State :=
  { State.reset with
    stackMap := [(7, { allowance := 32 })]
    ladles := [(7, { grant := 512, seqs := [{ slot := 1, bank := 2047, left := left, st := st }] })] }

theorem wit_row_boundary : ((seqState .computing 1).ladle 7).seqs.find? (fun q => q.bank == 2047 && q.st == .computing) =
    some { slot := 1, bank := 2047, left := 1, st := .computing } := by decide

/-- The state at the row boundary of `seqState`'s sequence, with what was served. -/
def boundaryOf (s : State) : State × Bool :=
  serveBank (touchCell (bump (s.updLadle 7 (fun l => { l with rowOps := sat64 l.rowOps 1 }.updSeq 2047 .computing
    (fun x => some { x with left := x.left - 1, done := x.done + 1, st := .suspended }))) 0x2300 4 1) 7 2047) 7 2047

theorem wit_row_boundary_goes_on : let q : LSeq := { slot := 1, bank := 2047, left := 4, st := .computing }
    mustYield (boundaryOf (seqState .computing 4)).1 7 q = false ∧
    ((boundaryOf (seqState .computing 4)).2 || q.migrates (boundaryOf (seqState .computing 4)).1 7) = false := by decide +kernel

/-- As `seqState`, with no place on the die and a refresh due in the bank. -/
def boundaryState (grant : Nat) : State :=
  { State.reset with
    stackMap := [(7, { allowance := 32, refreshLag := [(2047, 1)] })]
    ladles := [(7, { grant := grant, seqs := [{ slot := 1, bank := 2047, left := 4, st := .computing, place := true }] })] }

theorem wit_row_boundary_yields : mustYield (boundaryOf (boundaryState 0)).1 7 { slot := 1, bank := 2047, left := 4, st := .computing, place := true } = true := by
  decide +kernel

theorem wit_row_boundary_served : mustYield (boundaryOf (boundaryState 512)).1 7 { slot := 1, bank := 2047, left := 4, st := .computing, place := true } = false ∧
    (boundaryOf (boundaryState 512)).2 = true := by decide +kernel

/-- A CUTAPPLY slot whose sequence in bank 2047 waits for its slice. -/
def busSliceState : State :=
  { State.reset with ladles := [(7, {
      slots := [{ no := 1, bits := 12 * 2 ^ 92, avec := 0, adst := 0, aaux := bufferBase 7, performed := true }]
      seqs := [{ slot := 1, bank := 2047, left := 4, st := .slice }] })] }

theorem wit_slice : (busSliceState.ladle 7).seqs.find? (fun q => q.bank == 2047 && (q.st == .slice || q.st == .computing)) =
      some { slot := 1, bank := 2047, left := 4, st := .slice } ∧
    seqSlice (busSliceState.ladle 7) { slot := 1, bank := 2047, left := 4, st := .slice } 0 = some (bufferBase 7, 128) := by decide +kernel

theorem wit_resume : ((fillPlaces (seqState .suspended 4) 7).ladle 7).seqs.find? (fun q => q.bank == 2047 && q.st == .suspended) =
      some { slot := 1, bank := 2047, left := 4, st := .suspended, place := true } ∧
    mustYield (fillPlaces (seqState .suspended 4) 7) 7 { slot := 1, bank := 2047, left := 4, st := .suspended, place := true } = false ∧
    ({ slot := 1, bank := 2047, left := 4, st := .suspended, place := true } : LSeq).migrates (fillPlaces (seqState .suspended 4) 7) 7 = false := by
  decide +kernel

theorem wit_ladle_complete : (((ladleState 1 true).ladle 7).slots.find? (fun x => x.performed &&
    !(((ladleState 1 true).ladle 7).seqs.any (fun q => q.slot == x.no)))).isSome = true := by decide

/-- A decode request whose window of one lane lies in the stockpot, with segment 0 of stack 0 designated. -/
def kvState (preps : List PagePrep) : State :=
  dset { State.reset with
    pots := [(0, encode288 (wordOfBytes ([64, 0, 0, 0, 1, 0, 3, 0, 1, 0, 1, 0, 0, 0, 0, 0, 64, 0, 0, 0, 0, 1, 0, 0] ++ List.replicate 8 0)))]
    reqs := [(0, { state := .decode, windowAddr := potWest, maxlen := 64, len := 1 })]
    svc := { preps := preps } } 0x2340 1 1

/-- The state in which a request's pages are chosen, and what it lacks. -/
def prepared (s : State) : State := evictFor (seeReached s (s.req 0)) 0 (lacking (seeReached s (s.req 0)) (s.req 0))
def needed (s : State) : List (Win × Nat × Nat) := lacking (seeReached s (s.req 0)) (s.req 0)

theorem wit_kv_prepare : ((kvState []).req 0).active = true ∧ (needed (kvState [])).length = 1 ∧
    framesFit (prepared (kvState [])) 0 (needed (kvState [])) [0] = true := by decide +kernel

/-- As `kvState`, with no segment designated for pages. -/
def kvNone : State := dset (kvState []) 0x2340 1 0

theorem wit_kv_starved : (needed kvNone).length = 1 ∧ framesFit (prepared kvNone) 0 (needed kvNone) [0] = false ∧
    pagesShort (prepared kvNone) 0 (needed kvNone) = true := by decide +kernel

theorem wit_kv_done : (kvState [{ req := 0, entry := potWest + 64, frame := 0, src := 65536, rows := 2 }]).svc.preps.filter (fun p => p.req == 0) =
    [{ req := 0, entry := potWest + 64, frame := 0, src := 65536, rows := 2 }] := by decide +kernel

/-- A state with mover 31 at work on a descriptor, or with one queued. -/
def moverState (run : Option MoveRun) (queue : List QEntry) : State := { State.reset with movers := [(31, { run := run, queue := queue })] }

/-- A descriptor of an OP between two single-element FP32 tensors, the source in a space. -/
def descBytes (op space src dst : Nat) : List Byte :=
  natLE 8 (op * 2 ^ 60) ++ natLE 8 0 ++ natLE 8 src ++ natLE 8 (space * 2 ^ 24) ++ List.replicate 24 0 ++ natLE 8 dst ++
    List.replicate 128 0

def adminOrigin : Origin := { poster := 0xF0, tenant := 0, priv := true }

theorem wit_mover_post : postTargetOf 0x102010FF880 = .none ∧ postTargetOf 0x102011F0880 = .move 31 2 ∧ 0x102011F0880 % 64 = 0 := by decide

theorem wit_mover_start : checkMove (moverState none []) adminOrigin (descBytes 1 0 potWest (potWest + 4096)) = 0 ∧
    imemTarget (moverState none []) (moveDesc (descBytes 1 0 potWest (potWest + 4096))) = none ∧ underTest (moverState none []) 63 = false ∧
    (sendReads (moverState none []) 31 adminOrigin (moveDesc (descBytes 1 0 potWest (potWest + 4096)))).status = 0 := by decide +kernel

theorem wit_mover_load : checkMove (moverState none []) adminOrigin (descBytes 1 0 potWest (ecsBase + 0x80000)) = 0 ∧
    imemTarget (moverState none []) (moveDesc (descBytes 1 0 potWest (ecsBase + 0x80000))) = some (0, false) ∧
    bankBusy (moverState none []) 0 false = false := by decide +kernel

/-- A descriptor in progress. -/
def moveRunOf (op space : Nat) (moved : Bool) : MoveRun :=
  { data := descBytes op space potWest (potWest + 4096), origin := adminOrigin, moved := moved }

theorem wit_move_pending : ∀ op ∈ [1, 2, 3], (movePending (moverState (some (moveRunOf op 0 false)) []) 31 op).isSome = true := by decide

theorem wit_move_free : nothingHeld (moverState (some (moveRunOf 1 0 false)) [])
    (moveTouches (moverState (some (moveRunOf 1 0 false)) []) (moveDesc (moveRunOf 1 0 false).data)) = true := by decide +kernel

theorem wit_discard : outstandingIn (moverState (some (moveRunOf 3 0 false)) []) (potWest + 4096) 64 = false ∧
    nothingHeld (moverState (some (moveRunOf 3 0 false)) []) [(potWest + 4096, 64)] = true ∧
    (movePending (moverState (some { moveRunOf 3 0 false with issued := true }) []) 31 3).isSome = true := by decide

theorem wit_mover_refused : checkMove (moverState none []) adminOrigin (descBytes 0 0 0 0) ≠ 0 := by decide +kernel

theorem wit_mover_busy : bankBusy { State.reset with engines := [(0, { state := .halted })] } 0 false = true := by decide +kernel

theorem wit_mover_host_error : (moveDesc (moveRunOf 1 1 false).data).op = 1 ∧ (moveDesc (moveRunOf 1 1 false).data).src.space = 1 := by decide

theorem wit_mover_complete : ((moverState (some (moveRunOf 1 0 true)) []).mover 31).run = some (moveRunOf 1 0 true) ∧
    remotePending (moverState (some (moveRunOf 1 0 true)) []) 31 = false := by decide +kernel

/-- The device in SERVICE with one engine. -/
def engineState (eng : Nat) (e : Engine) : State := { State.reset with dev := .service, engines := [(eng, e)] }

theorem wit_engine_commands : isProgrammed 8 = true ∧ isProgrammed 127 = true ∧ mayCommand 0xF0 0 = true ∧
    ((engineState 8 {}).engine 8).cmdBusy = false := by decide

theorem wit_commit : commitCode {} 8 true 8192 32764 = 0 ∧ commitCode {} 0 false 16384 65532 = 0 := by decide

theorem wit_engine_states : devRunsService DevState.fenced = true ∧ devRunsNest DevState.config = true ∧ isSeq 8 = true ∧
    isSeq 127 = false ∧ mayCommand 0xF1 3 = false ∧ atBoundary ({ state := .runService } : Engine) = true ∧
    atBoundary ({ state := .runService, held := some { units := [], at_ := 0, inline := true, since := 0, stage := 2 } } : Engine) = false := by
  decide

theorem wit_seq_post : svcHoldsBack (engineState 8 {}) 8 none = false ∧
    svcHoldsBack (dset (engineState 8 {}) 0x2020 1 0) 8 none = true ∧ postTargetOf (ecsBase + 0x1202000) = .taskPool 64 ∧
    postTargetOf (ecsBase + 0x800800) = .seq 8 ∧ (ecsBase + 0x800800) % 64 = 0 := by decide

/-- An entry of a KIND. -/
def entryOf (kind : Nat) : QEntry := { data := natLE 4 (kind * 2 ^ 28) ++ List.replicate 60 0, origin := adminOrigin }

/-- A committed sequencer at rest in RUN_SERVICE with an entry queued. -/
def readyEngine (kind : Nat) : State :=
  engineState 8 { state := .runService, commA := true, commB := true, lenA := 8, lenB := 8, queue := [entryOf kind] }

theorem wit_qentry : ∀ kind ∈ [1, 2, 3], canTake (readyEngine kind) 8 = true ∧
    checkEntry (readyEngine kind) ((readyEngine kind).engine 8) (entryOf kind) = 0 ∧ bitsOf (u32 (entryOf kind).data 0) 31 28 = kind := by
  decide +kernel

/-- A word in hand at a stage. -/
def wordAt (stage : Nat) (units : List Nat) : HeldWord := { units := units, at_ := 0, inline := false, since := 0, stage := stage, met := true }

/-- A sequencer that holds a word of the given units at a stage, 2 µs on. -/
def holding (stage wdog : Nat) (units : List Nat) : State :=
  { State.reset with
    now := 2000
    dev := .service
    engines := [(0, { state := .runNest, wdog := wdog, held := some (wordAt stage units) })] }

theorem wit_word_issue : seqRuns ((holding 4 0 [0]).engine 0) = true ∧ roomFor (holding 1 0 [0]) 0 (stepWord [0]) = true := by
  decide +kernel

theorem wit_word_free : nothingHeld (holding 4 0 [0]) (heldRanges ((holding 4 0 [0]).engine 0)) = true ∧
    nothingHeld (holding 3 0 [2 ^ 27 + 3 * 2 ^ 22, 0, 0, 0]) (heldRanges ((holding 3 0 [2 ^ 27 + 3 * 2 ^ 22, 0, 0, 0]).engine 0)) = true := by
  decide +kernel

/-- A sequencer in RUN_NEST at a word of its instruction memory. -/
def fetchState : State := { State.reset with dev := .ready, engines := [(0, { state := .runNest, commA := true, lenA := 1 })] }

theorem wit_word_fetch : (fetchWord fetchState 0).2 = some [0] ∧ seqRuns (fetchState.engine 0) = true ∧ bitOf (([0] : List Nat).getD 0 0) 21 = false ∧
    nothingHeld fetchState (wordRanges (fetchState.engine 0) [0]) = true := by decide +kernel

theorem wit_word_watchdog : seqRuns ((holding 4 1 [0]).engine 0) = true ∧ 0 + 1000 * 1 < (holding 4 1 [0]).now := by decide

/-- A word with a SYNC slot that waits on memory, and one with a MOVE slot to mover 0. -/
def syncWord : List Nat := [2 ^ 29 + 2 * 2 ^ 22, 0, 2 ^ 31]
def moveWord : List Nat := [2 ^ 27 + 3 * 2 ^ 22, 0, 0, 0]

theorem wit_sync_wait : ((heldWait ((holding 0 0 syncWord).engine 0)).map (fun x => (x.1.met, x.2.waitk))) = some (true, 2) ∧
    seqRuns ((holding 0 0 syncWord).engine 0) = true := by decide

theorem wit_move_post : (stepWord moveWord).move = some 0 ∧ movesOut ((holding 3 0 moveWord).engine 0) < 64 ∧
    (let l := loadBytes (holding 3 0 moveWord) 0 0 0 192
     moveRoom (holding 3 0 moveWord) (moveSlot 0) (patchTemplate ((holding 3 0 moveWord).engine 0) (moveSlot 0) l.bytes) = true ∧
       l.poisoned = false ∧ l.status = 0 ∧ moverUsable (holding 3 0 moveWord) (moveSlot 0).tgt = true) := by decide +kernel

theorem wit_engine_drained : drained (engineState 0 { state := .runService, drain := some (.stop false) }) 0 = true ∧
    drained (engineState 127 { state := .runService, drain := some (.stop false) }) 127 = true := by decide +kernel

theorem wit_entry_complete : ((engineState 0 { runs := [{ id := 1, data := [], origin := adminOrigin, ended := true }] }).engine 0).runs.find?
    (fun r => r.ended && r.outstanding == 0) = some { id := 1, data := [], origin := adminOrigin, ended := true } := by decide +kernel

/-- A word with only a CTRL slot, in hand at that slot. -/
def ctrlWord (bits : Nat) : List Nat := [2 ^ 31 + 2 * 2 ^ 22, bits % 2 ^ 32, bits / 2 ^ 32]

theorem wit_ctrl : ∀ bits ∈ [ctrlBits 1 (15 * 2 ^ 54 + (2 ^ 52 - 1)), ctrlBits 2 (15 * 2 ^ 54 + 15 * 2 ^ 50 + (2 ^ 48 - 1)),
    ctrlBits 3 (3 * 2 ^ 56 + (2 ^ 32 - 1)), ctrlBits 4 (15 * 2 ^ 54 + 15 * 2 ^ 50 + 3 * 2 ^ 48 + (2 ^ 32 - 1)), ctrlBits 8 65535,
    ctrlBits 9 (3 * 2 ^ 56 + 65535), ctrlBits 10 (3 * 2 ^ 56 + 65535), ctrlBits 11 65535, ctrlBits 12 0, ctrlBits 16 0, ctrlBits 17 0,
    ctrlBits 18 0, ctrlBits 18 1],
    pendingCtrl ((holding 2 0 (ctrlWord bits)).engine 0) bits = true := by decide +kernel

theorem wit_ctrl_ret : ((holding 2 0 (ctrlWord (ctrlBits 12 0))).engine 0).stack = [] ∧
    ((holding 2 0 (ctrlWord (ctrlBits 12 0))).engine 0).state = .runNest := by decide

theorem wit_ctrl_ends : ((engineState 0 { state := .runService }).engine 0).state ≠ .runNest := by decide

/-- A sequencer in RUN_NEST whose bank holds a NEST of one level over one body word. -/
def nestState : State :=
  { State.reset with
    engines := [(0, { state := .runNest, commA := true, lenA := 64,
                      imem := [(0, encode288 (wordOfBytes (natLE 4 (2 ^ 21) ++ natLE 4 0x01200000 ++ List.replicate 24 0)))] })] }

theorem wit_nest : seqRuns (nestState.engine 0) = true ∧ (fetchWord nestState 0).2 = some [2 ^ 21, 0x01200000, 0, 0, 0, 0] ∧
    nestBodyOk (fetchWord nestState 0).1 0 24 1 = true := by decide +kernel

/-- The same word met by a routine of a queue entry. -/
def nestService : State := nestState.updEngine 0 (fun e => { e with state := .runService, current := some 1 })

theorem wit_nest_service : seqRuns (nestService.engine 0) = true ∧ (fetchWord nestService 0).2 = some [2 ^ 21, 0x01200000, 0, 0, 0, 0] ∧
    bitOf (2 ^ 21) 21 = true := by decide +kernel

/-- A walker core in RUN_SERVICE whose thread 0 is ready at the word `w`. -/
def issueState (w : Nat) : State :=
  { State.reset with
    dev := .service
    engines := [(64, { state := .runService, commA := true, lenA := 1, imem := loadBank [] false (natLE 4 w) })]
    walkers := [(0, { threads := [(0, { st := .ready })] })] }

/-- Whether the word is fetched whole and decodes to the instruction. -/
def issuesOk (x : WalkOp × Nat) : Bool :=
  decide (walkOp x.2 = some x.1) && ((fetchInstr (issueState x.2) 64 0).1 == x.2) && !(fetchInstr (issueState x.2) 64 0).2.1

theorem issues_of {x : WalkOp × Nat} (h : issuesOk x = true) : ∃ s2, Issues (issueState x.2) 0 0 x.1 x.2 s2 := by
  simp only [issuesOk, Bool.and_eq_true, decide_eq_true_eq, beq_iff_eq, Bool.not_eq_true'] at h
  exact ⟨_, by decide, by decide, rfl, rfl, rfl, Nat.le_refl 4, h.1.1, (fetchInstr (issueState x.2) 64 0).2.2,
    Prod.ext h.1.2 (Prod.ext h.2 rfl), rfl⟩

/-- The ALU instructions of R368 with RD = w1, RA = w2, RB = w3 (RB = w0 for FORD), FUNC 0 to 19. -/
def aluWords : List (WalkOp × Nat) :=
  [(.add, 0), (.sub, 1), (.and, 2), (.or, 3), (.xor, 4), (.shl, 5), (.shr, 6), (.sar, 7), (.mul, 8), (.mulhu, 9), (.minu, 10), (.maxu, 11),
   (.mins, 12), (.maxs, 13), (.sltu, 14), (.slt, 15), (.ford, 16), (.popc, 17), (.clz, 18), (.hash, 19)].map
    (fun x => (x.1, 1 * 2 ^ 26 + 1 * 2 ^ 21 + 2 * 2 ^ 16 + (if x.2 = 16 then 0 else 3) * 2 ^ 11 + x.2 * 2 ^ 5))

/-- The immediate forms of R367 with RD = w1, RA = w2 and IMM = 5. -/
def immWords : List (WalkOp × Nat) :=
  [(.addi, 2), (.andi, 3), (.ori, 4), (.xori, 5), (.shli, 6), (.shri, 7), (.sari, 8), (.movk, 9)].map
    (fun x => (x.1, x.2 * 2 ^ 26 + 1 * 2 ^ 21 + 2 * 2 ^ 16 + 5))

theorem alu_words_issue : (aluWords ++ immWords).all issuesOk = true := by decide +kernel

theorem wit_alu_issue (x : WalkOp × Nat) (h : x ∈ aluWords ++ immWords) : ∃ s2, Issues (issueState x.2) 0 0 x.1 x.2 s2 :=
  issues_of (List.all_eq_true.mp alu_words_issue x h)

/-- The branches of R367 with RA = w1, RB = w2 and OFF = 3, JAL, JALR, MFS of each selector's first and last, and TEXIT. -/
def branchWords : List (WalkOp × Nat) :=
  ([(.beq, 0x20), (.bne, 0x21), (.blt, 0x22), (.bge, 0x23), (.bltu, 0x24), (.bgeu, 0x25), (.jal, 0x26), (.jalr, 0x27)].map
    (fun x => (x.1, x.2 * 2 ^ 26 + 1 * 2 ^ 21 + 2 * 2 ^ 16 + 3))) ++
  [(.mfs, 0x30 * 2 ^ 26 + 1 * 2 ^ 21), (.mfs, 0x30 * 2 ^ 26 + 1 * 2 ^ 21 + 6), (.texit, 0x31 * 2 ^ 26 + 2 * 2 ^ 16)]

theorem branch_words_issue : branchWords.all issuesOk = true := by decide +kernel

theorem wit_branch_issue (x : WalkOp × Nat) (h : x ∈ branchWords) : ∃ s2, Issues (issueState x.2) 0 0 x.1 x.2 s2 :=
  issues_of (List.all_eq_true.mp branch_words_issue x h)

/-- The M forms of R367 at the address in w2 (8-byte LD and ST, bursts), a chain, WADD without and with FETCH, POST, the ordering
instructions of R296 at DEVICE scope and the atomics. -/
def memoryWords : List (WalkOp × Nat) :=
  [(.ld, 0x10 * 2 ^ 26 + 1 * 2 ^ 21 + 2 * 2 ^ 16 + 3 * 2 ^ 14), (.st, 0x11 * 2 ^ 26 + 1 * 2 ^ 21 + 2 * 2 ^ 16 + 3 * 2 ^ 14),
   (.ldb, 0x12 * 2 ^ 26 + 8 * 2 ^ 21 + 2 * 2 ^ 16), (.stb, 0x13 * 2 ^ 26 + 8 * 2 ^ 21 + 2 * 2 ^ 16),
   (.ldch, 0x14 * 2 ^ 26 + 1 * 2 ^ 21 + 2 * 2 ^ 16), (.wadd, 0x15 * 2 ^ 26 + 8 * 2 ^ 21 + 2 * 2 ^ 16),
   (.wadd, 0x15 * 2 ^ 26 + 8 * 2 ^ 21 + 2 * 2 ^ 16 + 2 ^ 12), (.post, 0x16 * 2 ^ 26 + 1 * 2 ^ 21 + 2 * 2 ^ 16 + 8 * 2 ^ 11),
   (.ldacq, 0x3A * 2 ^ 26 + 1 * 2 ^ 18 + 2 * 2 ^ 13 + 9 * 2 ^ 3 + 3), (.strel, 0x3A * 2 ^ 26 + 1 * 2 ^ 23 + 2 * 2 ^ 13 + 10 * 2 ^ 3 + 3),
   (.fence, 0x3A * 2 ^ 26 + 2 * 2 ^ 23 + 11 * 2 ^ 3), (.fence, 0x3A * 2 ^ 26 + 2 * 2 ^ 23 + 9 * 2 ^ 3),
   (.amo64, 0x3A * 2 ^ 26 + 3 * 2 ^ 23 + 2 * 2 ^ 13 + 11 * 2 ^ 3), (.amo32, 0x3A * 2 ^ 26 + 4 * 2 ^ 23 + 2 * 2 ^ 13 + 11 * 2 ^ 3)]

theorem memory_words_issue : memoryWords.all issuesOk = true := by decide +kernel

theorem wit_memory_issue (x : WalkOp × Nat) (h : x ∈ memoryWords) : ∃ s2, Issues (issueState x.2) 0 0 x.1 x.2 s2 :=
  issues_of (List.all_eq_true.mp memory_words_issue x h)

/-- The same, with w2 at a stack word, work of the service and nothing tracked. -/
def svcThread : Thread := { st := .ready, origin := { adminOrigin with priv := true }, regs := [(2, 0x10000)] }

theorem wit_memory_access :
    (∀ k ∈ [(WalkKind.plain, 8), (.burst, 64), (.chain, 64), (.add, 64), (.atomic, 8), (.atomic, 4)],
      walkCheck State.reset svcThread k.1 true 0x10000 k.2 = 0 ∧ walkCheck State.reset svcThread k.1 false 0x10000 k.2 = 0) ∧
    trackerBlocks {} 0x10000 64 = false ∧ hasAdder State.reset 0x10000 = true ∧
    (svcThread.burst 8).length = 64 ∧ postCode (ecsBase + 0x200000) 0 = 0 ∧ svcThread.reg 2 = 0x10000 := by decide +kernel

/-- Core 63's last thread in a state, waiting on an access. -/
def waitingThread (wt : Wait) : State :=
  { State.reset with now := 2000, walkers := [(63, { threads := [(63, { st := .waiting, wait := some wt })] })] }

theorem wit_waits : ∀ wt ∈ [Wait.load 1 0 8 true none, .burst 8 0, .chain 1 64 0 0 0 0, .atomic 1 0 8 2 1 0, .add 8 0 0 []],
    ((waitingThread wt).thread 63 63).st = .waiting ∧ ((waitingThread wt).thread 63 63).wait = some wt ∧ loadHeld (waitingThread wt) ((waitingThread wt).walker 63) 63 64 = false ∧ loadHeld (waitingThread wt) ((waitingThread wt).walker 63) 63 0 = false ∧
      overlapOther ((waitingThread wt).walker 63) 63 64 = false ∧ storesBefore ((waitingThread wt).walker 63) 63 = false := by
  decide +kernel

theorem wit_store_ack : ordersAfter State.reset { thread := 0, addr := 0x10000, len := 8, pc := 0, data := some [] } = false ∧
    runWaits State.reset false 0x10000 = false ∧ controlAhead [] 0x10000 = false := by decide +kernel

/-- Core 63 at rest in RUN_SERVICE with an entry of a KIND queued. -/
def coreWith (kind : Nat) : State :=
  { State.reset with
    engines := [(127, { state := .runService, commA := true, commB := true, lenA := 4, lenB := 4, wdog := 1, queue := [entryOf kind] })] }

theorem wit_task_start : ∀ kind ∈ [1, 3], freeThread (coreWith kind) 63 = some 0 ∧ underTest (coreWith kind) 127 = false ∧
    checkTask (coreWith kind) ((coreWith kind).engine 127) (entryOf kind) = 0 := by decide +kernel

theorem wit_core_flip : threadsFree (coreWith 1) 63 = true ∧ ((coreWith 1).engine 127).otherCommitted = true := by decide

theorem wit_task_watchdog : ((waitingThread .release).thread 63 63).since + 1000 * ((coreWith 1).engine 127).wdog < (waitingThread .release).now := by
  decide

/-- Tenant 0's entry of an OP in hand, on request 0. -/
def serveEntry (op : Nat) : QEntry := { data := natLE 8 op ++ List.replicate 56 0, origin := adminOrigin }

def serveState (op : Nat) (st : ReqState) : State :=
  { State.reset with
    dev := .service
    dict := [(dk 0x5200 1, 2 ^ 20)]
    svc := { State.reset.svc with queue := [serveEntry op] }
    reqs := [(0, { state := st })] }

theorem wit_serve_boundary : ∀ x ∈ [(2, ReqState.decode), (3, .decode), (4, .paused), (6, .queued), (7, .queued), (8, .prefill)],
    let s := serveState x.1 x.2
    ownsReq s 0 0 = true ∧ unnamedZero (serveEntry x.1).data = true ∧ argStatus (s.req 0) (serveEntry x.1).data = 0 ∧
      legalIn x.1 (s.req 0) = true ∧ stepBusy s 0 = false ∧
      stepBusy { s with svc := { s.svc with steps := [(0, { batch := [{ req := 0, prefill := 0, w := 0 }] })] } } 0 = true := by decide +kernel

/-- Tenant 1 with one writable aperture at address 0. -/
def apertureState : State := { State.reset with dict := [(dk 0x4041 1, 3 * 2 ^ 62)], reqs := [(0, { state := .done, tenant := 1 })] }

theorem wit_release_query : ((serveState 5 .done).req 0).ended = true ∧ unnamedZero (serveEntry 5).data = true ∧
    unnamedZero (serveEntry 9).data = true ∧ mayReach apertureState 1 false true 0 128 = true ∧ ownsReq apertureState 1 0 = true := by
  decide +kernel

theorem wit_cutter_clear : unnamedZero (serveEntry 0x11).data = true ∧ u16 (serveEntry 0x11).data 8 = 0 ∧ dget (serveState 0x11 .free) 0x5200 1 ≠ 0 ∧
    unnamedZero (serveEntry 0x10).data = true ∧ unnamedZero (serveEntry 1).data = true ∧ unnamedZero (serveEntry 0xA).data = true := by
  decide +kernel

/-- Slot 15 with a step in a phase that carries request 0. -/
def stepState (phase : StepPhase) (w : Nat) (discard : Bool) : State :=
  { State.reset with
    dev := .service
    reqs := [(0, { state := .decode, slot := 15 })]
    svc := { State.reset.svc with steps := [(15, { batch := [{ req := 0, prefill := 0, w := w }], phase := phase, discard := discard })] } }

theorem wit_steps : (stepAt (stepState .draft 2 false) 15).phase = .draft ∧ vectorsFit [(0, [[1], [2]])] 0 2 = true ∧
    vectorsFit [(0, [[1]])] 0 (vectorsDue (stepState .main 1 false) { req := 0, prefill := 0, w := 1 }) = true ∧
    stepWorkLeft (stepState .main 1 true) 15 = false ∧ (stepAt (stepState .main 1 true) 15).discard = true := by decide +kernel

/-- A RESIDENT slot at rest. -/
def restingSlot : State := { State.reset with dev := .service, slots := [(15, { state := .resident })] }

theorem wit_step_start :
    let s1 := boundaryRest (observeCommands restingSlot 15) 15 []
    stepBusy restingSlot 15 = false ∧ (s1.slot 15).state = .resident ∧ mayStart s1 15 = true ∧ s1.tandem.withdraw = false ∧ s1.dev = .service := by
  decide +kernel

/-- A tenant in a state. -/
def tenantState (t : Nat) (st : TenantState) : State := { State.reset with dev := .ready, tenants := [(t, { state := st })] }

theorem wit_tenant_states : ((tenantState 63 .active).tenant 63).state = .active ∧ ((tenantState 0 .quiescing).tenant 0).state = .quiescing ∧
    resetComplete (tenantState 63 .resetting) 63 = true := by decide +kernel

theorem wit_assign : mayAssign { tenantState 63 .unassigned with host := { State.reset.host with vfEnable := true, numVfs := 63 } } 63 = true := by
  decide +kernel

theorem wit_slots : slotNamed restingSlot 15 = false ∧ (restingSlot.slot 15).state = .resident ∧
    contextDrained restingSlot = true ∧ switchTime restingSlot { target := 63, since := 0 } ≤ 10 ^ 9 ∧ (State.reset.slot 15).state = .empty := by
  decide +kernel

/-- Slot 15 in RESTORING under its recovery window, a frame still to fetch, 2 s on. -/
def restoringState : State :=
  { State.reset with
    now := 2000000000
    slots := [(15, { state := .restoring, restore := [0] })]
    faults := { State.reset.faults with window := some { cls := clsTenant, kind := kindSlot, index := 15, since := 0, code := 0x301 } } }

theorem wit_restore : restoring restoringState 15 = true ∧ stepBusy restoringState 15 = false ∧
    (restoringState.slot 15).restoreSince + 1000 * dget restoringState 0x5100 4 < restoringState.now := by decide +kernel

/-- Time past a boundary of the default cadence under a source and a CadenceState. -/
def cadenceState (source state ptp : Nat) : State :=
  { State.reset with now := 10000000000, ptp := ptp, dict := [(dk 0x1200 1, source), (dk 0x1200 7, state)] }

theorem wit_boundary : predicted (cadenceState 0 0 10000000000) ≤ 10000000000 ∧ cadSource (cadenceState 0 0 0) ≠ 1 := by decide +kernel

theorem wit_edges : cadSource (cadenceState 1 0 0) = 1 ∧ dget (cadenceState 1 0 0) 0x1200 7 = 0 ∧ dget (cadenceState 1 2 0) 0x1200 7 ≠ 0 ∧
    nearPrediction (cadenceState 1 0 0) (predicted (cadenceState 1 0 0)) (predicted (cadenceState 1 0 0)) = true ∧
    nearPrediction (cadenceState 1 0 0) 10000000000 0 = false ∧
    predicted (cadenceState 1 0 10000000000) + dget (cadenceState 1 0 0) 0x1200 4 < 10000000000 := by decide +kernel

theorem wit_silence : cadSource (cadenceState 2 0 0) = 2 ∧
    (cadenceState 2 0 0).cad.lastAnnounce + 4 * cadPeriod (cadenceState 2 0 0) < (cadenceState 2 0 0).now := by decide +kernel

theorem wit_table : tableSound (List.replicate 2048 0) = true := by decide +kernel

/-- One entry due: a KIND at phase 0. -/
def dueState (kind : Nat) : State :=
  { State.reset with blob := [(dk 0x1210 1, natLE 8 (kind * 2 ^ 44) ++ List.replicate 2040 0)], cad := { State.reset.cad with open_ := [(0, 0)] } }

theorem wit_due : ∀ kind ∈ [1, 2], (dueEntry (dueState kind)).map (·.kind) = some kind := by decide +kernel

theorem wit_pps : dbool { State.reset with dict := [(dk 0x1201 7, 1)] } 0x1201 7 = true ∧ (ppsOffset 1000500000).natAbs ≤ 500000 ∧
    500000 < (ppsOffset 1000500001).natAbs ∧ (ppsOffset 999500000).natAbs ≤ 500000 ∧ State.reset.clock.silent = false := by decide +kernel

theorem wit_freq_correction :
    (let dt := (ofFp32 (BitVec.ofNat 32 0)).add (intNum (-25))
     let c (k : Nat) : Machine.Num := ofFp32 (BitVec.ofNat 32 (dget State.reset 0x1202 (k + 1)))
     match (c 0).add (((c 1).mul dt).add (((c 2).mul (dt.mul dt)).add ((c 3).mul (dt.mul (dt.mul dt))))) with
     | .fin _ _ _ => true
     | _ => false) = true := by decide +kernel

/-- A fabric of two nodes with port 0 (and tandem port 6) in a state. -/
def portIn (st : Nat) : State :=
  { State.reset with dict := [(dk 0x6000 2, 2), (dk (portIdx 0) 1, st), (dk (portIdx 6) 1, st)], fabric := { State.reset.fabric with node := 0 } }

theorem wit_ports : isPort 0 = true ∧ isPort 7 = true ∧ isFabricPort 5 = true ∧ portState (portIn portUp) 0 = portUp ∧ portState (portIn portUp) 6 = portUp ∧
    ((portIn portUp).port 0).rxSeq = 4095 ∧ portState (portIn portTraining) 0 = portTraining ∧ portState (portIn portQuarantined) 0 = portQuarantined ∧
    ((portIn portDown).port 6).downSince = none := by decide +kernel

theorem wit_retrain : ({ replay := [{ seq := 0, replays := 8 }] } : Port).replay.any (fun f => decide (8 ≤ f.replays)) = true := by decide

/-- Packets of tenant 1 that name its aperture at address 0. -/
def packetOf (op : Nat) : Packet :=
  { op := op, dst := 0, src := 1, tenant := 1, addr := 0, mask := [true, true], words := [0, 0] }

/-- Tenant 1 reaches address 0 over the fabric. -/
def fabricState : State :=
  { apertureState with dict := mapSet 0 apertureState.dict (dk 0x4040 8) 1, tenants := [(1, { state := .active })] }

theorem wit_packets_free : nothingHeld fabricState [(0, 2048)] = true := by decide +kernel

theorem wit_packets : packetReach fabricState (packetOf 1) true ((packetOf 1).marked.map (·.1)) = true ∧
    (storeMarked fabricState (packetOf 1).marked).status = 0 ∧
    (addMarked fabricState (packetOf 4) (((packetOf 4).marked.map (·.1)).filter (fun a => a % 64 == 0))).status = 0 := by decide +kernel

theorem wit_read_packet : packetReach fabricState (packetOf 2) false (readAddrs (packetOf 2)) = true ∧
    (readCodes fabricState (readAddrs (packetOf 2))).1 = 0 := by decide +kernel

/-- A collective of 128 B along a line of two devices. -/
def collEntry (op : Nat) : List Byte :=
  natLE 8 (op * 2 ^ 60) ++ natLE 8 0 ++ natLE 8 0 ++ natLE 8 4096 ++ natLE 8 128 ++ natLE 8 0 ++ natLE 2 0 ++ natLE 2 2 ++ List.replicate 12 0

theorem wit_coll_start : ∀ op ∈ [opAllreduce, opAllgather, opReducescatter, opBroadcast],
    (collDesc (collEntry op)).op = op ∧ (collEntry op).length = 64 ∧ checkColl (portIn portUp) { adminOrigin with priv := true } (collEntry op) = 0 := by decide +kernel

/-- A broadcast from rank 0 whose members agreed. -/
def collRunning : CollRun := { data := collEntry opBroadcast, agreed := [0, 1], got := [(0, List.replicate 128 1)] }

theorem wit_coll_end : collReady (portIn portUp) (collDesc collRunning.data) collRunning = true ∧
    0 + 1000 * dget State.reset 0x6000 6 ≤ { State.reset with now := 10 ^ 12 }.now := by decide +kernel

/-- A pair state, with the tandem ports in a state. -/
def pairIn (pair port : Nat) : State :=
  { State.reset with now := 100000, dict := [(dk 0x6100 4, pair), (dk (portIdx 6) 1, port), (dk (portIdx 7) 1, port)],
                     tandem := { State.reset.tandem with lastPresence := 1 } }

theorem wit_pair : portState (pairIn pairSeeking portUp) 6 = portUp ∧ pairState (pairIn pairSolo portUp) = pairSolo ∧
    mirroring (pairIn pairActive portUp) = true ∧ (pairIn pairActive portUp).tandem.lastBeat + 30000 ≤ (pairIn pairActive portUp).now ∧
    tandemLinksDown (pairIn pairSyncing portDown) = true ∧ (pairIn pairActive portDown).tandem.lastPresence + 60000 ≤ (pairIn pairActive portDown).now ∧
    (pairIn pairActive portDown).tandem.lastBeat < (pairIn pairActive portDown).tandem.lastPresence ∧ pairState (pairIn pairHeld 0) = pairHeld ∧
    (pairIn pairActive 0).tandem.withdraw = false ∧ 0 ≤ (pairIn pairActive 0).tandem.txSeq := by decide +kernel

/-- READY, with no write in progress. -/
def readyState : State := { State.reset with dev := .ready }

theorem wit_writes : ∀ x ∈ [(0x1200, 2, natLE 4 1000000), (0x6100, 1, [1]), (0x4001, 1, natLE 8 0), (0x9030, 1, List.replicate 40 0)],
    notReady readyState = none ∧
    (match dictRow x.1 x.2.1 with
      | some r => !(isCommand r x.1 x.2.1) && r.wr != 0 && decide (writeAbort readyState r x.1 x.2.1 (clearReserved x.1 x.2.2) = 0)
      | none => false) = true := by decide +kernel

theorem wit_journal : isMirrored 0x4001 = true ∧ isMirrored 0x1100 = false ∧ (dictRow 0x4001 1).isSome = true := by decide +kernel

/-- Tenant 0's first ring, in SERVICE. -/
def ringState (x : Ring) : State :=
  { State.reset with dev := .service, tenants := [(0, { state := .active })], rings := [(0, x)], dict := [(dk 0x4000 4, 8)] }

theorem wit_ring_enable : ringNo (ringState {}) 0 0 = some 0 ∧ tdiLocked (ringState {}) 0 = false ∧
    enableStatus (ringState {}) 0 { ctrlFields {} (2 * 2 ^ 58 + 4 * 2 ^ 53) with owner := 0 } = 0 := by decide +kernel

theorem wit_ring_disable : disableRefused (ringState { enable := true, type := 2 }) 0 0 = false ∧
    ((ringState { busy := true }).ring 0).taken = 0 ∧ ((ringState {}).tenant 0).state = .active := by decide +kernel

theorem wit_ring_take : (ringState {}).rings.map (·.1) = [0] ∧ (offerRing (ringState {}) 0 []).1 = none := by decide +kernel

/-- Function 1's window over its tenant's aperture at address 0. -/
def windowState : State :=
  { apertureState with
    dev := .service
    host := { State.reset.host with up := true, win := [(64, { valid := true })] } }

theorem wit_window_free : nothingHeld windowState [(0, 64)] = true := by decide +kernel

theorem wit_window : windowAccess windowState 1 0 64 true = some [(0, 64)] ∧ windowAccess windowState 1 0 64 false = some [(0, 64)] ∧
    (readParts windowState 1 [(0, 64)]).status = 0 ∧ bar2Served windowState.dev = true := by decide +kernel

theorem wit_host : configOk 0 0 1 = true ∧ configOk 2 0 40 = true ∧ configOk 4 63 3 = true ∧ tdiLocked State.reset 63 = false ∧
    mirroring windowState = false ∧ ownerOfSource windowState 0 = some 0 ∧ 2047 < msixSize 0 ∧
    dbool { State.reset with dict := [(dk 0x2050 9, 1), (dk 0x2050 2, 16)] } 0x2050 9 = true := by decide +kernel

/-- A datagram of an opcode with a 48-byte body and a tag. -/
def datagram (op session n : Nat) (body : List Byte) : List Byte :=
  [0x4E, 0x52, 1] ++ natLE 1 op ++ natLE 4 session ++ natLE 8 1 ++ natLE 4 5 ++ natLE 2 n ++ natLE 2 1 ++ natLE 8 0 ++ body ++ List.replicate 16 0

/-- READY with a session and an authorised key. -/
def sessionState : State :=
  { readyState with
    sec := { State.reset.sec with identity := true }
    host := { State.reset.host with perst := false }
    blob := [(dk 0x1101 1, List.replicate 32 7 ++ [2] ++ natLE 2 9 ++ [1] ++ List.replicate 4 0)]
    nirnar := { State.reset.nirnar with sessions := [{ number := 3, keyId := 9, auth := 2, rxKey := [], txKey := [], lastHeard := 0, idle := 100, net := 0 }],
                                        handshakes := [{ number := 4, keyId := 9, auth := 2, h1 := [], secret := [], since := 0, net := 0 }] } }

theorem wit_frames : ∀ op ∈ [0x10, 0x12, 0x18, 0x19, 0x1B, 0x20, 0x21, 0x30],
    let d := datagram op 3 48 (List.replicate 48 0)
    let f := frameParts d
    (lanAccept sessionState 0 none).1 = true ∧ isFrame d = true ∧ hasAddress sessionState 0 = true ∧ f.op = op ∧ f.session = 3 ∧
      (sessionOf sessionState 3).isSome = true ∧ f.tagged = true ∧ 0 < f.seq ∧ f.blen = f.body.length ∧ minBody op ≤ f.body.length ∧
      reservedSet f = false := by decide +kernel

theorem wit_handshakes :
    (let f := frameParts (datagram 1 0 48 (natLE 2 9 ++ [1] ++ List.replicate 45 0))
     f.op = 1 ∧ f.blen = f.body.length ∧ reservedSet f = false ∧ (keyOf sessionState (u16 f.body 0)).isSome = true ∧ u8 f.body 2 = 1 ∧
      (keyOf sessionState 9).map keyAuthority = some 2 ∧ 1 < dget sessionState 0x1100 0xA) ∧
    (let f := frameParts (datagram 3 4 96 (List.replicate 96 0))
     f.op = 3 ∧ f.blen = f.body.length ∧ reservedSet f = false ∧
      (sessionState.nirnar.handshakes.find? (fun h => h.number == f.session && f.op == 3)).isSome = true) ∧
    (let f := frameParts (datagram 0x40 0xFFFFFFFF 40 (List.replicate 40 0))
     f.op = 0x40 ∧ f.tagged = true ∧ f.body.length = 40 ∧ f.session = 0xFFFFFFFF ∧ f.body.take 16 = padTo 16 (bget sessionState 0x6100 3)) := by
  decide +kernel

theorem wit_lan : (lanAccept sessionState 0 none).1 = true ∧ hasAddress sessionState 0 = true ∧ portsUp sessionState = true ∧
    dget { sessionState with dict := [(dk 0x1100 3, 7)] } 0x1100 3 = 7 := by decide +kernel

theorem wit_expiries : ((sessionState.nirnar.handshakes.find? (fun h => h.number == 4)).map (·.since)) = some 0 ∧
    (sessionOf sessionState 3).map (·.idle) = some 100 := by decide +kernel

theorem wit_notify : (sessionOf (updNirnar sessionState 3 (fun x => { x with unacked := [{ nseq := 0, body := [], since := 0 }] })) 3).map
    (fun x => x.unacked.length) = some 1 := by decide +kernel

theorem wit_mailbox : boxServed sessionState 0 = true ∧ (mapGet {} sessionState.host.boxes 0).busy = false ∧ inRecoveryMode sessionState = false ∧
    gateAbort sessionState true 0x1200 = 0 ∧ accessAbort sessionState (boxAccessor sessionState 0) true 0x1200 2 = 0 ∧
    stageSegment sessionState none (dk 0x1200 2) (typeOf 0x1200 2) true 0 (natLE 4 1000000) = .whole (natLE 4 1000000) := by decide +kernel

theorem wit_i3c : i3cAnswers readyState = true ∧ readyState.pkg.i3cAddr = none ∧ sensorValue readyState 12 = some 0 ∧ sensorValue readyState 13 ≠ none := by
  decide +kernel

/-- A device in a state, late enough for every timer. -/
def stateIn (d : DevState) : State := { State.reset with dev := d, now := 10 ^ 15 }

/-- SERVICE with sensor 3 at its trip threshold in the last scan. -/
def hotState : State :=
  { stateIn .service with power := { State.reset.power with sensors := [(3, { last := some 480, hot := true })] } }

theorem wit_scan : hotState.dev ≠ .off ∧
    confirmed hotState (readSensors hotState 0 [some 480, some 480, some 480, some 480]) = some 3 := by decide +kernel

theorem wit_scan_cool : confirmed (stateIn .service) (readSensors (stateIn .service) 0 [some 160]) = none ∧
    firmwareUp (stateIn .service) = true ∧ mapWf 0 (stateIn .service).power.vref = true := by decide +kernel

theorem wit_hold : { stateIn .thermalHold with power := { State.reset.power with coolSince := some 0 } }.power.coolSince = some 0 ∧
    0 + 30000000000 ≤ (stateIn .thermalHold).now := by decide +kernel

theorem wit_rails : railsNamed (stateIn .ready) = [] ∧ railsNamed { stateIn .ready with blob := [(dk 0x3002 1, [1, 0, 0])] } ≠ [] := by decide +kernel

theorem wit_power : { stateIn .off with pkg := { State.reset.pkg with pwrgd := false } }.pkg.pwrgd = false ∧ (stateIn .ready).pkg.pwrgd = true := by
  decide +kernel

theorem wit_rom : (∀ i < 656, ((stateIn .reset).sensor i).hot = false) ∧ (stateIn .rom).sec.recoveryMode = false ∧
    chooseCopy (stateIn .rom).flash.cfgA (stateIn .rom).flash.cfgB = none := by decide +kernel

theorem wit_config : (stateIn .config).test.waiting = [] ∧ (stateIn .config).test.running = [] ∧ (stateIn .config).test.deferred = [] := by decide +kernel

theorem wit_withdraw_wait : { stateIn .ready with tandem := { State.reset.tandem with resetWait := some (1, 0) } }.tandem.withdraw = false := by decide +kernel

/-- CONFIG with the first slab group waiting for its test and a grant for it. -/
def testState : State :=
  { stateIn .config with
    test := { State.reset.test with waiting := [{ kind := 1, stack := 0, first := 0, count := 2 }] }
    power := { State.reset.power with grants := { State.reset.power.grants with test := 1 } } }

theorem wit_test_start : nextUnit testState.test.waiting = some ({ kind := 1, stack := 0, index := 0 }, [{ kind := 1, stack := 0, first := 1, count := 1 }]) ∧
    inField testState = false ∧ unitRoom testState { kind := 1, stack := 0, index := 0 } = true ∧ unitRoom (stateIn .config) { kind := 1, stack := 0, index := 0 } = false ∧
    windowMet 700 1050000 = true ∧ windowMet 679 1050000 = false ∧ isLogic 1 = true := by decide +kernel

theorem wit_test_field : inField { testState with test := { testState.test with run := some { kind := 1, stack := 0, first := 0, count := 1, since := 0 } } } = true ∧
    unitEngine { kind := 1, stack := 0, index := 0 } = none ∧ unitIdle testState { kind := 1, stack := 0, index := 0 } = true ∧
    unitRoom { testState with test := { testState.test with run := some { kind := 1, stack := 0, first := 0, count := 1, since := 0 } } }
      { kind := 1, stack := 0, index := 0 } = true := by decide +kernel

theorem wit_run : runAbort (stateIn .ready) (1 :: List.replicate 15 0) = 0 ∧ runAbort (stateIn .ready) [] ≠ 0 ∧ (stateIn .ready).health.probes = [] ∧
    runAbort (abandonProbes { stateIn .ready with health := { State.reset.health with probes := [(0, { frame := 5, since := 0 })] } })
      (1 :: List.replicate 15 0) = 0 := by decide +kernel

/-- READY with an SPDM session of function 3 and a nonce of the physical function's mailbox. -/
def spdmState (established : Bool) : State :=
  { stateIn .ready with host := { State.reset.host with perst := false }, sec := { State.reset.sec with
      identity := true, spdm := [(3, { version := true, capabilities := true, algorithms := true, transcript := [] })]
      spdmSessions := [{ fn := 3, id := 7, key := [1], established := established, lastHeard := 0 }], nonces := [(2 ^ 32, List.replicate 32 1)] } }

theorem wit_spdm : doeServed (spdmState true) = true ∧ ((spdmState true).spdm 3).algorithms = true ∧ ((spdmState true).spdm 2).algorithms = false ∧
    (spdmState true).sec.spdmSessions.length < 4 ∧ (spdmSession (spdmState true) 3 7).map (·.established) = some true ∧
    (spdmSession (spdmState false) 3 7).map (·.established) = some false := by decide +kernel

theorem wit_quote : quoteAbort (spdmState true) true 0 = 0 ∧ quoteAbort (spdmState true) true 1 ≠ 0 ∧
    mapGet [] (spdmState true).sec.nonces (quotePlace (spdmState true) true 0).2 ≠ [] ∧ (stateIn .ready).sec.identity = false ∧
    quoteAbort (stateIn .ready) true 0 = 0 := by decide +kernel

/-- READY with an update in a state; a chunk's bytes. -/
def updState (u : Nat) : State :=
  { stateIn .ready with dict := [(dk 0x9000 1, u)], sec := { State.reset.sec with activation := some { since := 0, old := 0, seq := 0 } } }

theorem wit_update : ∀ u ∈ [updIdle, updDownloading, updVerifying, updStaged, updActivating, updTrial],
    (updState u).dev ≠ .off ∧ notReady (updState u) = none ∧ updateState (updState u) = u ∧ firmwareUp (updState u) = true := by decide +kernel

theorem wit_chunk : (List.replicate 4104 (0 : Byte)).length = 4104 ∧ flipRoom (updState updActivating) = true ∧
    (updState updActivating).sec.activation = some { since := 0, old := 0, seq := 0 } := by decide +kernel

/-- DOWNLOADING of a manifest whose payload has one chunk. -/
def chunkState : State :=
  { updState updDownloading with flash := { State.reset.flash with manifestB := List.replicate 128 0x10 } }

theorem wit_manifest : ([] : List Byte).length ≤ 65536 ∧ updateState chunkState = updDownloading ∧
    zeroBytes (List.replicate 4104 (0 : Byte)) 8 4096 = true ∧
    u32 (List.replicate 4104 (0 : Byte)) 0 < chunksTotal (manifestOf chunkState (targetSet chunkState)) := by decide +kernel

/-- SERVICE with faults in a state. -/
def faultState (f : Faults → Faults) : State := { stateIn .service with faults := f State.reset.faults }

/-- The window of a device fault of engine 2. -/
def engineWindow : Window := { cls := clsDevice, kind := kindEngine, index := 2, code := 0x102, since := 0 }

theorem wit_cores : (coreOf (stateIn .service) 0).up = true ∧ (coreOf (stateIn .service) 1).up = true ∧ (coreOf (stateIn .service) 0).missed < 2 ∧
    2 ≤ (coreOf (faultState (fun f => { f with coreA := { f.coreA with missed := 2 } })) 0).missed ∧
    (coreOf (faultState (fun f => { f with coreA := { f.coreA with restarting := true } })) 0).restarting = true ∧
    (faultState (fun f => { f with coreA := { f.coreA with up := false } })).faults.coreB.lastBeat + 1000000 ≤ (stateIn .service).now := by decide +kernel

theorem wit_recovery : deviceWindow (faultState (fun f => { f with window := some engineWindow })) = some engineWindow ∧
    (stateIn .service).faults.recoverySince = none ∧
    recoveryReady (faultState (fun f => { f with window := some engineWindow, recoverySince := some (10 ^ 15) })) = true ∧
    0 + 1000000 * dget (stateIn .service) 0x8002 1 < (stateIn .service).now ∧ (stateIn .service).faults.fatal = none := by decide +kernel

theorem wit_window_close : recovered (stateIn .service) { cls := clsCorrected, kind := kindSlot, index := 0, code := 0x241, since := 0 } = true ∧
    notReady (stateIn .service) = none := by decide +kernel

theorem wit_fatal : (faultState (fun f => { f with fatal := some (faultOf 0x273 clsFatal kindDevice 0 0xFF 0) })).faults.fatal.isSome = true := by decide +kernel

/-- ROM in recovery mode with a package in a state. -/
def romState (state : Nat) (held : List (Nat × Nat)) : State :=
  { stateIn .rom with sec := { State.reset.sec with
      recoveryMode := true, recovery := { State.reset.sec.recovery with state := state, held := held } } }

theorem wit_rom_package : inRecoveryMode (romState 0 []) = true ∧ receivedBytes (romState 0 [(0, 5)]) = 5 ∧
    (romState 0 []).sec.recovery.answersSince + 1000000000 ≤ (romState 0 []).now ∧ (romState 1 []).sec.recovery.state = 1 ∧
    (romState 0 []).sec.recovery.answers < 100 := by decide +kernel

/-- READY after two days of operation, with a probe of stack 1 that holds. -/
def healthState : State :=
  { stateIn .ready with
    flash := { State.reset.flash with hours := 48 }
    health := { State.reset.health with probes := [(1, { frame := 5, since := 0 })] } }

theorem wit_health : healthState.pkg.pwrgd = true ∧ healthState.health.hourSince + 3600000000000 ≤ healthState.now ∧
    firmwareUp healthState = true ∧ firmwareUp (stateIn .rom) = false ∧ (stateIn .rom).pkg.pwrgd = true ∧
    0 + 1000000 * 64 ≤ healthState.now ∧ healthState.flash.days < healthState.flash.hours / 24 := by decide +kernel

theorem wit_probe : dbool (stateIn .ready) 0x7000 8 = true ∧ (stateIn .ready).health.probes.any (fun e => e.1 == 2) = false ∧ (stateIn .ready).health.lastProbe = [] ∧
    probeFrame { stateIn .ready with stackMap := [(2, { channels := 0 })] } 2 = none ∧ (probeFrame { stateIn .ready with stackMap := [(2, { channels := 1 })] } 2).isSome = true ∧ ((stateIn .ready).stack 2).testFrames.length + ((stateIn .ready).stack 2).testEntering.length < 8 := by decide +kernel

theorem wit_match : ({ State.reset with reqs := [(1, { State.reset.req 1 with state := .queued, matching := true })] }.req 1).matching = true ∧
    1 ≤ [(0 : Byte)].length ∧ 0 + [(0 : Byte)].length ≤ bar0Size 63 := by decide +kernel

theorem test_code_roots : syndrome (encode288 0x1234) 0 = 0 ∧ syndrome (encode288 0x1234) 3 = 0 := by decide +kernel

theorem wit_code_0 : (symDiff (encode288 7) (encode288 7)).length = 0 := by decide +kernel
theorem wit_code_1 : (symDiff (encode288 7) (symXor (encode288 7) 35 1)).length = 1 ∧ (decode288 (symXor (encode288 7) 35 1)).data = 7 := by decide +kernel
theorem wit_code_2 : (symDiff (encode288 7) (symXor (symXor (encode288 7) 0 9) 31 200)).length = 2 := by decide +kernel
theorem wit_code_3 : (symDiff (encode288 0) (symXor poisonWord 35 255)).length = 3 ∧ (decode288 (symXor poisonWord 35 255)).cls = .poison := by decide +kernel
theorem wit_code_4 : (symDiff (encode288 0) poisonWord).length = 4 := by decide +kernel

theorem wit_stored : (1, storedRow ({} : Machine.Stack) 1 5, 3) ≠ (1, storedRow ({} : Machine.Stack) 1 6, 3) := by decide +kernel

theorem wit_unwritten : rowIsValid (State.reset.stack 0) 0 0 = false ∧ inTest (State.reset.stack 0) 0 0 = false := by decide +kernel

theorem wit_counter : ((dictRow 0x2101 1).map (fun r => (decide (r.kind = .counter), r.ty, typeBytes r.ty))) = some (true, 5, 8) ∧
    dk 0x2101 2 ≠ dk 0x2101 1 ∧ leNat (natLE 8 0) = 0 ∧ leNat (natLE 8 5) = 5 := by decide +kernel

/-- Slices 0 and 1 of the physical function's window, the second elsewhere than beside the first. -/
def sliceState : State :=
  { State.reset with host := { State.reset.host with
      win := [(0, { valid := true, base := 2 ^ 24 }), (1, { valid := true, base := 2 ^ 30 })] } }

theorem wit_slices : (6 ≤ sliceState.host.bar2Log ∧ 6 ≤ sliceState.host.vfBar2Log) ∧
    windowParts sliceState 0 (2 ^ 24 - 1) 2 65 = some [(2 ^ 25 - 1, 1), (2 ^ 30, 1)] ∧
    windowParts sliceState 0 (2 ^ 25 - 1) 2 65 = none ∧ sliceBytes sliceState 0 = 2 ^ 24 := by decide +kernel

/-- Tenant 3 ACTIVE with rings 8 (SERVE, 2^4 entries, 14 held) and 9 (COMPL, 3 held), at the indices' wrap. -/
def bellState : State :=
  { stateIn .service with
    tenants := [(3, { State.reset.tenant 3 with state := .active })]
    dict := [(dk 0x40C0 3, 8), (dk 0x40C0 4, 2)]
    rings := [(8, { enable := true, type := 1, log2 := 4, qhead := 2 ^ 32 - 7, qtail := 7 }), (9, { enable := true, type := 2, log2 := 4, qhead := 1, qtail := 4 })] }

theorem wit_doorbell : (bellState.tenant 3).state = .active ∧ bellState.dev ≠ .recovery ∧ ringCount bellState 3 = 2 ∧ ringFirst bellState 3 = 8 ∧
    (bellState.ring 8).enable = true ∧ (9 + 2 ^ 32 - 7) % 2 ^ 32 ≤ 2 ^ 4 - (7 + 2 ^ 32 - (2 ^ 32 - 7)) % 2 ^ 32 ∧
    2 ^ 4 - (7 + 2 ^ 32 - (2 ^ 32 - 7)) % 2 ^ 32 < (10 + 2 ^ 32 - 7) % 2 ^ 32 ∧ (bellState.ring 9).type = 2 ∧
    (4 + 2 ^ 32 - 1) % 2 ^ 32 ≤ (4 + 2 ^ 32 - 1) % 2 ^ 32 := by decide +kernel

/-- Source 5 belongs to tenant 0 and targets its vector 3, unmasked; source 6 goes to a core. -/
def sourceState : State :=
  { State.reset with
    dict := [(dk 0x4000 6, 32)]
    irq := { State.reset.irq with target := [(5, 2 ^ 30 + 3), (6, 2 ^ 31 + 9)], msiUnmasked := [(3, true)], msiAddr := [(3, 0x1000)] } }

theorem wit_sources : ownerOfSource sourceState 5 = some 0 ∧ 3 < msixSize 0 ∧ mapGet false sourceState.irq.msiUnmasked 3 = true ∧
    mapGet false sourceState.irq.pend 5 = false ∧ mapGet 0 sourceState.irq.target 5 / 2 ^ 30 % 4 = 1 ∧
    mapGet 0 sourceState.irq.target 6 / 2 ^ 30 % 4 = 2 ∧ mapGet 0 sourceState.irq.target 7 / 2 ^ 30 % 4 = 0 := by decide +kernel

theorem wit_faultRing : (stateIn .ready).faults.ring.length < 512 ∧ (stateIn .ready).dev ≠ .off ∧ notReady (stateIn .ready) = none ∧
    (List.replicate 512 (faultOf 0x252 0 0 0 0 0)).length = 512 := by decide +kernel

theorem test_w0 : ((({} : Thread).setReg 0 7).setReg 31 (2 ^ 64 + 5)).reg 31 = 5 := by decide +kernel

/-- A window with an image at address 2^20 whose one row, for query position 4, allows key position 9 alone. -/
def sieveWin : Win :=
  { addr := 0, maxlen := 16, nlane := 1, kfmt := 2, dsel := 1, layers := 1, heads := 1, place := 0, tenant := 1, lanes := 64, sieve := potWest }

def sieveState : State :=
  svcWrite (svcWrite State.reset potWest (natLE 4 4 ++ natLE 4 1 ++ natLE 8 16 ++ natLE 8 (potWest + 64))) (potWest + 64) [0, 2]

theorem wit_sieve : allowed sieveState sieveWin 16 4 9 = true ∧ allowed sieveState sieveWin 16 4 3 = false ∧
    allowed sieveState sieveWin 16 5 3 = true ∧ allowed sieveState sieveWin 16 5 6 = false := by decide +kernel

theorem wit_cutterRecord : (State.reset.slot (State.reset.req 0).slot).layers ≤ 0 ∧ sieveFor sieveState sieveWin 4 ≠ none := by decide +kernel

theorem wit_CadenceCommandsFrame : (match exec .scheduleStep State.reset with | .next _ => true | _ => false) = true := by decide +kernel

theorem wit_HostCommandsFrame : (match exec (.hostLinkUp 1 1) State.reset with | .next _ => true | _ => false) = true := by decide +kernel

theorem wit_SecurityPackageFrame : (match exec .highz State.reset with | .next _ => true | _ => false) = true := by decide +kernel

theorem wit_ControlCommandsFrame : (match exec (.setout 0) State.reset with | .next _ => true | _ => false) = true := by decide +kernel

end Sys2Proof.Tests
end

section
/-! The griddle across the operations of memory. -/

namespace Sys2Proof.Laws

open Sys2Proof Sys2Proof.Machine

variable (s : State)

theorem foldl_grid {β : Type} (f : State → β → State) (l : List β) (hf : ∀ t b, (f t b).grid = t.grid) :
    (l.foldl f s).grid = s.grid :=
  foldl_keeps (p := fun t : State => t.grid = s.grid) f l rfl fun t b h => (hf t b).trans h

/-! ### Interrupts, the fault record and recovery windows -/

@[simp] theorem freeValue_grid : (freeValue s).2.grid = s.grid := rfl

@[simp] theorem sendMsix_grid (fn vec : Nat) : (sendMsix s fn vec).grid = s.grid := by
  unfold sendMsix; dsimp only; split <;> rfl

@[simp] theorem deliverSource_grid (n : Nat) : (deliverSource s n).grid = s.grid := by
  unfold deliverSource
  dsimp only
  repeat' split
  all_goals simp

@[simp] theorem raiseSource_grid (n : Nat) : (raiseSource s n).grid = s.grid := by
  unfold raiseSource; split <;> simp

@[simp] theorem raiseLocal_grid (t j : Nat) : (raiseLocal s t j).grid = s.grid := by
  unfold raiseLocal; split <;> simp

@[simp] theorem setSummary_grid (bits : Nat) : (setSummary s bits).grid = s.grid := by
  unfold setSummary; dsimp only; split <;> simp

@[simp] theorem setTenantFault_grid (t bits : Nat) : (setTenantFault s t bits).grid = s.grid := by
  unfold setTenantFault; dsimp only; repeat' split
  all_goals simp

@[simp] theorem ringPush_grid (e : FaultEntry) : (ringPush s e).grid = s.grid := by
  unfold ringPush; dsimp only; repeat' split
  all_goals simp

@[simp] theorem recordEntry_grid (e : FaultEntry) : (recordEntry s e).grid = s.grid := by
  simp [recordEntry]

@[simp] theorem markStalled_grid : (markStalled s).grid = s.grid := rfl

@[simp] theorem discardSteps_grid (m : Nat) : (discardSteps s m).grid = s.grid := rfl

@[simp] theorem slotTenantFault_grid (m : Nat) : (slotTenantFault s m).grid = s.grid :=
  foldl_grid s _ _ fun t b => by split <;> simp

@[simp] theorem slotRestoring_grid (m : Nat) : (slotRestoring s m).grid = s.grid := by
  unfold slotRestoring; dsimp only; split <;> simp

@[simp] theorem slotOffline_grid (m : Nat) : (slotOffline s m).grid = s.grid := by
  unfold slotOffline; dsimp only; split <;> simp

@[simp] theorem beginRecovery_grid (e : FaultEntry) (cls : Nat) : (beginRecovery s e cls).grid = s.grid := by
  unfold beginRecovery; dsimp only; repeat' split
  all_goals simp

@[simp] theorem windowFault_grid (e : FaultEntry) : (windowFault s e).grid = s.grid := by
  unfold windowFault; dsimp only; repeat' split
  all_goals simp

@[simp] theorem recordFault_grid (e : FaultEntry) : (recordFault s e).grid = s.grid := by
  unfold recordFault; repeat' split
  all_goals simp

/-! ### Sparing and retirement -/

@[simp] theorem queueRepair_grid (e : Nat) : (queueRepair s e).grid = s.grid := rfl

@[simp] theorem recordStack_grid (code st reader addr : Nat) : (recordStack s code st reader addr).grid = s.grid :=
  recordFault_grid s _

@[simp] theorem poisonCell_grid (st p row w reader addr tenant : Nat) :
    (poisonCell s st p row w reader addr tenant).grid = s.grid := by
  simp [poisonCell]

@[simp] theorem poisonRow_grid (st p row reader : Nat) : (poisonRow s st p row reader).grid = s.grid :=
  foldl_grid s _ _ fun t b => by split <;> simp

@[simp] theorem beginMigration_grid (st F D : Nat) : (beginMigration s st F D).grid = s.grid := rfl

@[simp] theorem startRetire_grid (st F : Nat) : (startRetire s st F).grid = s.grid := by
  unfold startRetire; dsimp only; repeat' split
  all_goals simp

@[simp] theorem exhaustSpares_grid (st p row reader : Nat) : (exhaustSpares s st p row reader).grid = s.grid := by
  unfold exhaustSpares; dsimp only; repeat' split
  all_goals simp

@[simp] theorem spareRow_grid (src : Stack) (st p row reader addr : Nat) :
    (spareRow s src st p row reader addr).grid = s.grid := by
  unfold spareRow; dsimp only; split <;> simp

@[simp] theorem spareColumn_grid (src : Stack) (st p row sym g reader addr : Nat) :
    (spareColumn s src st p row sym g reader addr).grid = s.grid := by
  simp [spareColumn]

@[simp] theorem hardFault_grid (st p row : Nat) (sym : Option Nat) (reader addr : Nat) :
    (hardFault s st p row sym reader addr).grid = s.grid := by
  unfold hardFault; dsimp only; repeat' split
  all_goals simp

/-! ### Loads -/

@[simp] theorem weightFault_grid (m st p row w : Nat) (again : Code288) (reader addr : Nat) :
    (weightFault s m st p row w again reader addr).grid = s.grid := by
  unfold weightFault; dsimp only; split <;> simp

@[simp] theorem touchCell_grid (st p : Nat) : (touchCell s st p).grid = s.grid := rfl

@[simp] theorem loadCellSeen_grid (st p row w : Nat) (seen : Code288) (reader addr tenant : Nat) :
    (loadCellSeen s st p row w seen reader addr tenant).next.grid = s.grid := by
  have touched : (if reader = 0xFF then s else touchCell s st p).grid = s.grid := by split <;> simp
  unfold loadCellSeen
  dsimp only
  generalize (if reader = 0xFF then s else touchCell s st p) = s0 at touched ⊢
  rw [← touched]
  repeat' split
  all_goals simp

@[simp] theorem loadCell_grid (st p row w reader addr tenant : Nat) :
    (loadCell s st p row w reader addr tenant).next.grid = s.grid :=
  loadCellSeen_grid s ..

@[simp] theorem setPot_grid (i : Nat) (c : Code288) : (setPot s i c).grid = s.grid := rfl
@[simp] theorem setLocal_grid (i : Nat) (c : Code288) : (setLocal s i c).grid = s.grid := rfl
@[simp] theorem setBuffer_grid (i : Nat) (c : Code288) : (setBuffer s i c).grid = s.grid := rfl
@[simp] theorem setImem_grid (e i : Nat) (c : Code288) : (setImem s e i c).grid = s.grid := rfl

theorem loadSram_grid (c : Code288) {put : State → Code288 → State} (hput : ∀ t c, (put t c).grid = t.grid) (reader addr tenant : Nat) :
    (loadSram s c put reader addr tenant).next.grid = s.grid := by
  unfold loadSram; dsimp only; split <;> simp [hput]

@[simp] theorem countHoles_grid (a n : Nat) : (countHoles s a n).grid = s.grid := by
  unfold countHoles
  split
  · exact foldl_grid s _ _ fun t b => by split <;> simp [holeAccess]
  · rfl

@[simp] theorem loadPart_grid (reader tenant a : Nat) : (loadPart s reader tenant a).next.grid = s.grid := by
  unfold loadPart
  dsimp only
  split
  case h_1 => simp
  case h_4 => exact loadSram_grid s _ (setPot_grid · _) ..
  case h_5 => exact loadSram_grid s _ (setLocal_grid · _) ..
  case h_6 => exact loadSram_grid s _ (setBuffer_grid · _) ..
  case h_7 => exact loadSram_grid s _ (setImem_grid · _ _) ..
  all_goals rfl

@[simp] theorem loadWords_grid (reader tenant a n : Nat) : (loadWords s reader tenant a n).next.grid = s.grid := by
  induction n generalizing s a with
  | zero => rfl
  | succ n ih => simp [loadWords, ih]

@[simp] theorem loadBytes_grid (reader tenant a n : Nat) : (loadBytes s reader tenant a n).next.grid = s.grid := by
  unfold loadBytes; split <;> simp

/-! ### Stores -/

@[simp] theorem storeCodePart_grid (a : Nat) (c : Code288) : (storeCodePart s a c).next.grid = s.grid := by
  unfold storeCodePart
  split
  case h_1 => dsimp only; split <;> simp [storeCell]
  all_goals rfl

@[simp] theorem storePart_grid (reader tenant a : Nat) (bs : List Byte) : (storePart s reader tenant a bs).next.grid = s.grid := by
  unfold storePart; dsimp only
  repeat' split
  all_goals simp

@[simp] theorem storeAux_grid (reader tenant a : Nat) (bs : List Byte) (n : Nat) :
    (storeAux s reader tenant a bs n).next.grid = s.grid := by
  induction n generalizing s a bs with
  | zero => rfl
  | succ n ih => unfold storeAux; dsimp only; split <;> simp [ih]

@[simp] theorem storeBytes_grid (reader tenant a : Nat) (bs : List Byte) : (storeBytes s reader tenant a bs).next.grid = s.grid := by
  unfold storeBytes; split <;> simp

@[simp] theorem svcWrite_grid (a : Nat) (bs : List Byte) : (svcWrite s a bs).grid = s.grid := storeBytes_grid s ..

/-! ### What the serving controller stages -/

@[simp] theorem pickReq_grid (m : Nat) (ok : StepReq → Bool) : (pickReq s m ok).2.grid = s.grid := by
  unfold pickReq; dsimp only; split <;> rfl

@[simp] theorem pickBelow_grid (n : Nat) : (pickBelow s n).2.grid = s.grid := by
  unfold pickBelow; split <;> rfl

@[simp] theorem cutterPoisoned_grid (m n : Nat) : (cutterPoisoned s m n).grid = s.grid := by
  have emptied : (if cutterOf s n = none then s else bump (emptyCutter s n) 0x5200 4 1).grid = s.grid := by
    split <;> simp [emptyCutter]
  unfold cutterPoisoned; dsimp only
  generalize (if cutterOf s n = none then s else bump (emptyCutter s n) 0x5200 4 1) = s1 at emptied ⊢
  split <;> exact emptied

@[simp] theorem cutterRecord_grid (m layer : Nat) (b : StepReq) : (cutterRecord s m layer b).2.grid = s.grid := by
  unfold cutterRecord; dsimp only
  repeat' split
  all_goals simp

@[simp] theorem stageCutters_grid (m layer a n : Nat) : (stageCutters s m layer a n).grid = s.grid :=
  foldl_grid s _ _ fun t i => by
    have picked := pickReq_grid t m fun _ => true
    dsimp only
    split <;> simp_all

@[simp] theorem stageSieve_grid (m : Nat) (f : GridSlot) (ax2 : Nat) : (stageSieve s m f ax2).grid = s.grid := by
  have picked := pickReq_grid s m fun b => b.prefill != 0
  unfold stageSieve
  split
  · simp_all
  · rw [foldl_grid _ _ _ fun t i => by simp]
    simp_all

/-- What is staged for a sweep lies in memory: the griddle waits as it was. -/
@[simp] theorem stageSweep_grid (slot : Nat) : (stageSweep s slot).grid = s.grid := by
  unfold stageSweep; dsimp only
  repeat' split
  all_goals simp

end Sys2Proof.Laws
end

section
/-! SCALE slots and the griddle's operations: what each command answers for the operation it is meant for. -/

namespace Sys2Proof.Laws

open Sys2Proof Sys2Proof.Machine

/-! ### SCALE slots -/

/-- A SCALE load of the slot next in order reads its elements and loads its registers (R40, R41). -/
theorem scaleLoad_next {s : State} {o : ScaleOp} {op : Nat} (row : Bool) (ho : nextScale s.grid = some o) (hop : (scaleSlot o.bits).op = op) :
    let f := scaleSlot o.bits
    let r := readRunBits s 0 (tenantOfSlot s 0 o.no) (8 * (potWest + f.src)) (8 * scaleElemBytes f.sfmt) f.count
    scaleLoad op row f.sfmt f.first f.count f.src s = r.2.updGrid (fun g =>
      scaleLoaded { g with scales := writeScales row f.sfmt f.first r.1 g.scales } o.no (if r.1.any (·.2) then 0x320 else 0)) := by
  simp only [scaleLoad, ho, hop, and_self, if_true]

/-- A SCALE fill or SETOUT of the slot next in order writes its value (R38, R41). -/
theorem scaleFill_next {s : State} {o : ScaleOp} {op : Nat} {v : Word32} (put : Scales → Scales) (ho : nextScale s.grid = some o)
    (hop : (scaleSlot o.bits).op = op) (hv : v.toNat = (scaleSlot o.bits).value) :
    scaleFill op (scaleSlot o.bits).first (scaleSlot o.bits).count v put s =
      s.updGrid (fun g => scaleLoaded { g with scales := put g.scales } o.no 0) := by
  simp only [scaleFill, ho, hop, hv, and_self, if_true]

/-! ### Loads and sweeps -/

/-- A command whose accesses wait for nothing is performed. -/
theorem whenFree_of_nothingHeld {s : State} {ranges : List (Nat × Nat)} (h : nothingHeld s ranges = true) (r : Res) :
    whenFree s ranges r = r := by
  simp only [whenFree, h, if_true]

/-- The sweep at the head streams its vectors, writes its outputs and keeps its counts (R78 to R95). -/
theorem runSweep_head {s : State} {o : GridOp} {rest : List GridOp} (stalled : Nat) (hops : s.grid.ops = o :: rest)
    (hop : (gridSlot o.bits).op = 1) (hrun : mayRun s.grid o = true) (hfree : nothingHeld s (opReads s.grid o ++ opWrites o) = true) :
    let f := gridSlot o.bits
    let w := (List.range f.m).foldl (sweepVector (s.grid.set f.rsel) f o (streamSource s.grid o).1 (streamSource s.grid o).2) { next := s }
    let q := applyEdits w.next 0 o.tenant w.edits
    ∃ t o', runSweep o.bits stalled s = .next t ∧ t.grid.ops.head? = some o' ∧ o'.no = o.no ∧ o'.swept = true ∧ o'.sats = w.sats ∧
      o'.nonfinites = w.nonfinites ∧ t.pots = q.next.pots ∧ t.stackMap = q.next.stackMap := by
  simp only [runSweep, hops, hop, hrun, and_self, if_true, whenFree_of_nothingHeld hfree]
  exact ⟨_, _, rfl, rfl, rfl, rfl, rfl, rfl, rfl, rfl⟩

/-- What is staged for a sweep leaves it at the head, free to run. -/
theorem execMm_head {s : State} {o : GridOp} {rest : List GridOp} (stalled : Nat) (hops : s.grid.ops = o :: rest)
    (hop : (gridSlot o.bits).op = 1) (hrun : mayRun s.grid o = true)
    (hfree : nothingHeld (stageSweep s o.bits) (opReads (stageSweep s o.bits).grid o ++ opWrites o) = true) :
    let f := gridSlot o.bits
    let s1 := stageSweep s o.bits
    let w := (List.range f.m).foldl (sweepVector (s1.grid.set f.rsel) f o (streamSource s1.grid o).1 (streamSource s1.grid o).2) { next := s1 }
    let q := applyEdits w.next 0 o.tenant w.edits
    ∃ t o', execMm o.bits stalled s = .next t ∧ t.grid.ops.head? = some o' ∧ o'.no = o.no ∧ o'.swept = true ∧ o'.sats = w.sats ∧
      o'.nonfinites = w.nonfinites ∧ t.pots = q.next.pots ∧ t.stackMap = q.next.stackMap := by
  have hgrid := stageSweep_grid s o.bits
  exact runSweep_head (rest := rest) stalled (by rw [hgrid, hops]) hop (by rw [hgrid, hrun]) hfree

/-- The load at the head writes its register set with what it read (R66 to R68). -/
theorem execWload_head {s : State} {o : GridOp} {rest : List GridOp} (hops : s.grid.ops = o :: rest)
    (hop : (gridSlot o.bits).op = 2) (hrun : mayRun s.grid o = true) (hfree : nothingHeld s (opReads s.grid o) = true) :
    let f := gridSlot o.bits
    let l := loadSet s f o.aw o.ags o.aaux o.tenant
    execWload o.bits s = .next (l.next.updGrid (fun g =>
      putHead (g.putSet f.rsel l.set) { o with swept := true, status := if l.bad then 0x301 else 0 })) := by
  simp only [execWload, hops, hop, hrun, and_self, if_true, whenFree_of_nothingHeld hfree]

/-- The head load ends with its set ready (R69). -/
theorem execWloadComplete_head {s : State} {o : GridOp} {rest : List GridOp} (hops : s.grid.ops = o :: rest)
    (hop : (gridSlot o.bits).op = 2) (hswept : o.swept = true) :
    let f := gridSlot o.bits
    execWloadComplete s = .next (slotDone (s.updGrid (fun g =>
      { g.putSet f.rsel { g.set f.rsel with ready := true } with ops := rest })) 0 o.no o.status) := by
  simp only [execWloadComplete, hops, hop, hswept, and_self, if_true]

/-! ### The end of a sweep (R50, R55, R96) -/

/-- The state in which a sweep that has ended is counted and its non-finite conversions are recorded (R45, R49). -/
def sweepCounted (s : State) (o : GridOp) : State :=
  let f := gridSlot o.bits
  nonfiniteEvent (countGrid (s.updGrid (fun g => { g with sweeps := sat64 g.sweeps 1 })) o.step f.layer o.sats o.nonfinites)
    o.step 0 o.tenant f.layer o.nonfinites

section sweepEnd
variable {s : State} {o : GridOp} {rest : List GridOp} (hops : s.grid.ops = o :: rest) (hop : (gridSlot o.bits).op = 1)
  (hswept : o.swept = true) (hfirst : o.rerun = false)
include hops hop hswept hfirst

/-- A sweep that calls for no re-run completes. -/
theorem execMmComplete_of_le_threshold (hle : o.sats ≤ gridThreshold s o.step) :
    execMmComplete s = .next (finishHead (sweepCounted s o) o) := by
  simp only [execMmComplete, hops, hop, hswept, hfirst, and_self, if_true, if_neg (Nat.not_lt.mpr hle), sweepCounted]

/-- A sweep that calls for a re-run, which nothing bars, stays at the head as a re-run; the later operations start anew. -/
theorem execMmComplete_rerun (hlt : gridThreshold s o.step < o.sats) (hbar : rerunBar s (gridSlot o.bits) o = 0) :
    execMmComplete s = .next ((sweepCounted s o).updGrid (fun g => { g with
      ops := { o with rerun := true, wideAddr := dget s 0x2100 4 + wideTop g (dget s 0x2100 4) } ::
        rest.map (fun r => { r with started := false }) })) := by
  simp only [execMmComplete, hops, hop, hswept, hfirst, and_self, if_true, if_pos hlt, hbar, sweepCounted]

/-- A sweep whose re-run is barred records the reason and completes. -/
theorem execMmComplete_barred (hlt : gridThreshold s o.step < o.sats) (hbar : rerunBar s (gridSlot o.bits) o ≠ 0) :
    execMmComplete s = .next (finishHead (recordNumeric (bump (sweepCounted s o) 0x2101 4 1) 0x401 o.step 0 o.tenant
      (gridSlot o.bits).layer o.sats (rerunBar s (gridSlot o.bits) o)) o) := by
  simp only [execMmComplete, hops, hop, hswept, hfirst, and_self, if_true, if_pos hlt, if_neg hbar, sweepCounted]

end sweepEnd

/-- The re-run at the head reloads its block, writes its copy, gives the set back what it held, and completes (R50 to R56, R97). -/
theorem execRerunComplete_head {s : State} {o : GridOp} {rest : List GridOp} (hops : s.grid.ops = o :: rest) (hrerun : o.rerun = true) :
    let f := gridSlot o.bits
    let x := s.grid.set f.rsel
    let a := reloadSet s f o.aw o.ags o.tenant
    let w := (List.range f.m).foldl (rerunVector (a.2.grid.set f.rsel) f o) { next := a.2 }
    let q := applyEdits w.next 0 o.tenant w.edits
    let b := reloadSet q.next f x.aw x.ags o.tenant
    let s1 := b.2.updGrid (fun g => { g with
      sweeps := sat64 g.sweeps 1, busy := sat64 g.busy (2 * f.m)
      wide := { step := o.step, narrow := o.adst, addr := o.wideAddr, bytes := wideBytes f } :: g.wide })
    let s2 := countGrid (bump s1 0x2101 3 1) o.step f.layer w.sats w.nonfinites
    let s3 := recordNumeric (nonfiniteEvent s2 o.step 0 o.tenant f.layer w.nonfinites) 0x402 o.step 0 o.tenant f.layer o.sats 0
    let s4 := if w.sats = 0 then s3 else recordNumeric s3 0x401 o.step 0 o.tenant f.layer w.sats 6
    execRerunComplete s =
      .next (finishHead s4 { o with status := firstStatus (firstStatus o.status q.status) (if w.bad || a.1 || b.1 then 0x301 else 0) }) := by
  simp only [execRerunComplete, hops, hrerun, if_true]

/-! ### The statements -/

/-- Settles O6: each command meets the slot that is next in order, and the oldest slot once loaded. -/
theorem scaleSlotsComplete : Obligations.ScaleSlotsComplete := by
  unfold Obligations.ScaleSlotsComplete
  refine ⟨fun s o ho hop => ?loadcol, fun s o ho hop => ?loadrow, fun s o v ho hop hv => ?fillcol, fun s o v ho hop hv => ?fillrow,
    fun s o v ho hop hfirst hcount hv => ?setout, fun s o rest hops hloaded => ?complete⟩
  case loadcol => exact congrArg _ (scaleLoad_next false ho hop)
  case loadrow => exact congrArg _ (scaleLoad_next true ho hop)
  case fillcol => exact congrArg _ (scaleFill_next _ ho hop hv)
  case fillrow => exact congrArg _ (scaleFill_next _ ho hop hv)
  case setout =>
    have hfill := scaleFill_next (fun x => { x with out := v.toNat, outBad := false }) ho hop hv
    rw [hfirst, hcount] at hfill
    exact congrArg _ hfill
  case complete => simp only [exec_scaleSlotComplete, execScaleSlotComplete, hops, hloaded, if_true]

/-- Settles O7: each command meets the head operation it is meant for, and what a sweep has staged leaves the griddle as it was. -/
theorem gridOperationsComplete : Obligations.GridOperationsComplete := by
  unfold Obligations.GridOperationsComplete
  refine ⟨fun _ _ => rfl, fun s o rest stalled hops hop hrun hfree => execMm_head stalled hops hop hrun hfree,
    fun s o rest hops hop hrun hfree => execWload_head hops hop hrun hfree,
    fun s o rest hops hop hswept => execWloadComplete_head hops hop hswept,
    fun s o rest hops hop hswept hfirst hle => execMmComplete_of_le_threshold hops hop hswept hfirst hle,
    fun s o rest hops hop hswept hfirst hlt hbar => ?rerun,
    fun s o rest hops hop hswept hfirst hlt hbar => execMmComplete_barred hops hop hswept hfirst hlt hbar,
    fun s o rest hops hrerun => execRerunComplete_head hops hrerun⟩
  refine ⟨_, _, _, execMmComplete_rerun hops hop hswept hfirst hlt hbar, rfl, rfl, rfl, List.length_map _, fun r hr => ?_⟩
  obtain ⟨r', -, rfl⟩ := List.mem_map.1 hr
  rfl

end Sys2Proof.Laws
end

section
/-! Counters of the dictionary: what the tables say of their rows, and that a write to one only sets its value. -/

namespace Sys2Proof.Laws

open Sys2Proof Sys2Proof.Machine

/-- A run of indices and subindices: the first index, how many, the first and the last subindex. -/
structure EntryBox where
  base : Nat
  count : Nat
  sub0 : Nat
  sub1 : Nat

def EntryBox.holds (b : EntryBox) (index sub : Nat) : Prop :=
  b.base ≤ index ∧ index < b.base + b.count ∧ b.sub0 ≤ sub ∧ sub ≤ b.sub1

/-- The entries whose writing may do more than set a value (R594 step 4). -/
def effectBoxes : List EntryBox :=
  [⟨0x1200, 1, 1, 3⟩, ⟨0x2210, 8, 1, 2⟩, ⟨0x3000, 1, 0xD, 0xE⟩, ⟨0x4000, 0x1000, 9, 9⟩, ⟨0x6010, 6, 2, 2⟩, ⟨0x6100, 1, 1, 1⟩, ⟨0x6110, 2, 2, 2⟩,
    ⟨0x8000, 1, 3, 3⟩, ⟨0x8003, 1, 0, 255⟩]

/-- Outside those entries a scalar takes its value, and nothing follows from it. -/
theorem applyScalar_eq_dset (s : State) {index sub : Nat} (v : Nat) (hsub : sub < 256) (h : ∀ b ∈ effectBoxes, ¬ b.holds index sub) :
    applyScalar s index sub v = dset s index sub v := by
  simp only [effectBoxes, List.forall_mem_cons, EntryBox.holds] at h
  obtain ⟨hSource, hModes, hAlert, hContext, hPort, hTandem, hTwin, hRing, hFaultWord, -⟩ := h
  unfold applyScalar
  repeat rw [if_neg (by omega)]

/-- Whether a row's indices or its subindices lie outside a box. -/
def rowClearOf (r : DictRow) (b : EntryBox) : Bool :=
  decide (r.base + r.step * r.count ≤ b.base) || decide (b.base + b.count ≤ r.base) || decide (r.sub1 < b.sub0) || decide (b.sub1 < r.sub0)

theorem index_lt_of_holds {r : DictRow} {index sub : Nat} (hstep : 0 < r.step) (h : r.holds index sub = true) :
    r.base ≤ index ∧ index < r.base + r.step * r.count ∧ r.sub0 ≤ sub ∧ sub ≤ r.sub1 := by
  simp only [DictRow.holds, Bool.and_eq_true, decide_eq_true_eq] at h
  obtain ⟨⟨⟨⟨⟨hbase, -⟩, hcount⟩, hsub0⟩, hsub1⟩, -⟩ := h
  have hlt := (Nat.div_lt_iff_lt_mul hstep).1 hcount
  rw [Nat.mul_comm] at hlt
  omega

theorem not_holds_of_rowClearOf {r : DictRow} {b : EntryBox} {index sub : Nat} (hstep : 0 < r.step) (h : r.holds index sub = true)
    (hclear : rowClearOf r b = true) : ¬ b.holds index sub := by
  obtain ⟨hbase, hend, hsub0, hsub1⟩ := index_lt_of_holds hstep h
  simp only [rowClearOf, Bool.or_eq_true, decide_eq_true_eq] at hclear
  unfold EntryBox.holds
  omega

/-- What every counter row of the tables shares: a U32, a U64 or an F32 with no range of its own, apart from the entries whose writing has
an effect. -/
def counterRowOk (r : DictRow) : Bool :=
  (r.ty == 4 || r.ty == 5 || r.ty == 9) && r.range.isNone && decide (0 < r.step) && decide (r.sub1 < 256) && effectBoxes.all (rowClearOf r)

theorem dictRowsOf_counterRowOk : ∀ d < 10, ∀ r ∈ dictRowsOf d, r.kind = .counter → counterRowOk r = true := by decide +kernel

theorem dictRowsOf_ge {d : Nat} (h : 10 ≤ d) : dictRowsOf d = [] := by
  match d, h with
  | _ + 10, _ => rfl

/-- What the tables say of a counter entry. -/
theorem counter_row {index sub : Nat} {r : DictRow} (hrow : dictRow index sub = some r) (hkind : r.kind = .counter) :
    (r.ty = 4 ∨ r.ty = 5 ∨ r.ty = 9) ∧ r.range = none ∧ sub < 256 ∧ ∀ b ∈ effectBoxes, ¬ b.holds index sub := by
  have hmem := List.mem_of_find?_eq_some hrow
  have hholds : r.holds index sub = true := List.find?_some (p := fun r : DictRow => r.holds index sub) hrow
  have hd : index / 4096 < 10 := by
    by_contra hge
    rw [dictRowsOf_ge (not_lt.1 hge)] at hmem
    exact List.not_mem_nil hmem
  have hok := dictRowsOf_counterRowOk _ hd r hmem hkind
  simp only [counterRowOk, Bool.and_eq_true, Bool.or_eq_true, beq_iff_eq, Option.isNone_iff_eq_none, decide_eq_true_eq, List.all_eq_true] at hok
  obtain ⟨⟨⟨⟨hty, hrange⟩, hstep⟩, hsub1⟩, hclear⟩ := hok
  have hsub := (index_lt_of_holds hstep hholds).2.2.2
  exact ⟨or_assoc.1 hty, hrange, by omega, fun b hb => not_holds_of_rowClearOf hstep hholds (hclear b hb)⟩

/-- A counter entry that rises holds the sum, up to its type's largest value (R47). -/
theorem dget_bump_self (s : State) {index sub : Nat} (n : Nat) {r : DictRow} (hrow : dictRow index sub = some r) :
    dget (bump s index sub n) index sub = min (dget s index sub + n) (typeMax r.ty) := by
  simp only [bump, hrow, dget_dset_self]

/-- An integer counter accepts 0 of its type's length and no other value (R47). -/
theorem valueAbort_counter {index sub : Nat} {r : DictRow} {v : List Byte} (hrow : dictRow index sub = some r) (hkind : r.kind = .counter)
    (hfloat : r.ty ≠ 9) (hlen : v.length = typeBytes r.ty) : valueAbort r index sub v = if leNat v = 0 then 0 else 0x04030000 := by
  obtain ⟨hty, hrange, -, -⟩ := counter_row hrow hkind
  have hbytes : typeBytes r.ty ≠ 0 := by rcases hty with h | h | h <;> rw [h] <;> decide
  have hbool : r.ty ≠ 1 := by omega
  by_cases hv : leNat v = 0 <;> simp [valueAbort, hbytes, hlen, hbool, hfloat, hkind, hrange, hv]

/-- A counter entry to which a value is written holds the value. -/
theorem dget_applyScalar_counter (s : State) {index sub : Nat} (v : Nat) {r : DictRow} (hrow : dictRow index sub = some r)
    (hkind : r.kind = .counter) : dget (applyScalar s index sub v) index sub = v := by
  obtain ⟨-, -, hsub, hclear⟩ := counter_row hrow hkind
  rw [applyScalar_eq_dset s v hsub hclear, dget_dset_self]

/-- Settles O50: a rise saturates, and the tables keep every counter apart from the entries whose writing does more than set a value. -/
theorem countersSaturateAndClear : Obligations.CountersSaturateAndClear :=
  ⟨fun s _ _ n _ hrow _ => ⟨dget_bump_self s n hrow, fun _ _ hother => dget_bump_other s _ _ n hother⟩,
    fun _ _ => rfl,
    fun _ _ _ _ hrow hkind hfloat hlen => valueAbort_counter hrow hkind hfloat hlen,
    fun s _ _ _ hrow hkind => dget_applyScalar_counter s 0 hrow hkind⟩

end Sys2Proof.Laws
end

section
/-! Stored words: where a bank's repairs put a word, and what reading and storing one touches. -/

namespace Sys2Proof.Laws

open Sys2Proof Sys2Proof.Machine

/-! ### Keys of stored words and of column spares' symbols -/

/-- Word keys of existing places differ where the places do. -/
theorem cellKey_inj {p r w p' r' w' : Nat} (hr : r < 20544) (hw : w < 64) (hr' : r' < 20544) (hw' : w' < 64)
    (h : cellKey p r w = cellKey p' r' w') : (p, r, w) = (p', r', w') := by
  simp only [cellKey, rowKey] at h
  have hpr : p * 20544 + r = p' * 20544 + r' := by omega
  have hp : p = p' := by omega
  subst hp
  simp only [Prod.mk.injEq, true_and]
  omega

/-- Symbol keys of existing places differ where the places or the groups do. -/
theorem colKey_inj {p g r w p' g' r' w' : Nat} (hg : g < 4) (hr : r < 20480) (hw : w < 64) (hg' : g' < 4) (hr' : r' < 20480) (hw' : w' < 64)
    (h : colKey p g r w = colKey p' g' r' w') : (p, r, w) = (p', r', w') ∧ g = g' := by
  simp only [colKey] at h
  have hpgr : (p * 4 + g) * 20480 + r = (p' * 4 + g') * 20480 + r' := by omega
  have hpg : p * 4 + g = p' * 4 + g' := by omega
  have hp : p = p' := by omega
  subst hp
  have hgg : g = g' := by omega
  subst hgg
  simp only [Prod.mk.injEq, true_and, and_true]
  omega

/-! ### The rows and column groups that serve a word -/

/-- A row is stored in a row of its bank, the 64 spare ones included (R136, R140). -/
theorem storedRow_lt (x : Machine.Stack) (p : Nat) {row : Nat} (hrow : row < 20480) : storedRow x p row < 20544 := by
  unfold storedRow
  split
  · omega
  · split
    · next i hi =>
      have := List.mem_range.1 (List.mem_of_find?_eq_some hi)
      omega
    · omega

/-- Of the groups that name one symbol the first is kept: what is in use is part of the list, in its order. -/
theorem foldl_firstOfSymbol_sublist (l acc : List (Nat × Nat)) :
    (l.foldl (fun acc gs => if acc.any (fun h => h.2 == gs.2) then acc else acc ++ [gs]) acc).Sublist (acc ++ l) := by
  induction l generalizing acc with
  | nil => simp
  | cons gs rest ih =>
    rw [List.foldl_cons]
    split
    · exact (ih acc).trans ((List.sublist_cons_self gs rest).append_left acc)
    · exact (ih (acc ++ [gs])).trans (by simp)

/-- The numbers of the entries that a condition selects. -/
theorem map_fst_filterMap_sublist (q : Nat → Bool) (f : Nat → Nat) (l : List Nat) :
    ((l.filterMap (fun i => if q i then some (i, f i) else none)).map Prod.fst).Sublist l := by
  induction l with
  | nil => exact .slnil
  | cons i rest ih =>
    rw [List.filterMap_cons]
    by_cases hq : q i
    · simpa [hq] using ih
    · simpa [hq] using ih.cons i

/-- The column groups in use for a section are distinct ones of the bank's four, in ascending order (R136). -/
theorem colSpares_groups_sublist (x : Machine.Stack) (p sec : Nat) : ((colSpares x p sec).map Prod.fst).Sublist (List.range 4) :=
  ((foldl_firstOfSymbol_sublist _ []).map Prod.fst).trans (map_fst_filterMap_sublist _ _ _)

theorem colSpares_group_lt {x : Machine.Stack} {p sec : Nat} {gs : Nat × Nat} (h : gs ∈ colSpares x p sec) : gs.1 < 4 :=
  List.mem_range.1 ((colSpares_groups_sublist x p sec).subset (List.mem_map_of_mem h))

theorem colSpares_groups_nodup (x : Machine.Stack) (p sec : Nat) : ((colSpares x p sec).map Prod.fst).Nodup :=
  (colSpares_groups_sublist x p sec).nodup List.nodup_range

/-! ### Symbols in column spares -/

/-- The symbols of a codeword go to the column groups of a list, each to the group's own place. -/
def storeSyms (p r w : Nat) (c : Code288) (l : List (Nat × Nat)) (m : Map Nat) : Map Nat :=
  l.foldl (fun m gs => mapSet 0 m (colKey p gs.1 r w) (symAt c gs.2)) m

/-- Storing a codeword writes its word's cell and, in a row that is no spare, the symbols of the column groups in use (R136, R205). -/
theorem rawWrite_eq (x : Machine.Stack) (p row w : Nat) (c : Code288) :
    rawWrite x p row w c = { x with
      cells := mapSet 0 x.cells (cellKey p (storedRow x p row) w) c
      colCells := if storedRow x p row < 20480 then
          storeSyms p (storedRow x p row) w c (colSpares x p (storedRow x p row / 2048)) x.colCells
        else x.colCells } := by
  have hfold : ∀ (r : Nat) (l : List (Nat × Nat)) (y : Machine.Stack), l.foldl (fun (y : Machine.Stack) gs =>
      { y with colCells := mapSet 0 y.colCells (colKey p gs.1 r w) (symAt c gs.2) }) y = { y with colCells := storeSyms p r w c l y.colCells } := by
    intro r l
    induction l with
    | nil => intro y; rfl
    | cons gs rest ih => intro y; rw [List.foldl_cons, ih]; rfl
  simp only [rawWrite, hfold]
  split <;> rfl

/-- Storing a codeword changes no repair entry, so that every row stays where it is stored. -/
@[simp] theorem storedRow_rawWrite (x : Machine.Stack) (p row w : Nat) (c : Code288) (p' row' : Nat) :
    storedRow (rawWrite x p row w c) p' row' = storedRow x p' row' := by
  rw [rawWrite_eq]; rfl

@[simp] theorem colSpares_rawWrite (x : Machine.Stack) (p row w : Nat) (c : Code288) (p' sec : Nat) :
    colSpares (rawWrite x p row w c) p' sec = colSpares x p' sec := by
  rw [rawWrite_eq]; rfl

theorem mapGet_storeSyms_other {p r w k : Nat} (c : Code288) {l : List (Nat × Nat)} (m : Map Nat)
    (h : ∀ gs ∈ l, k ≠ colKey p gs.1 r w) : mapGet 0 (storeSyms p r w c l m) k = mapGet 0 m k := by
  induction l generalizing m with
  | nil => rfl
  | cons gs rest ih =>
    calc mapGet 0 (storeSyms p r w c (gs :: rest) m) k
        = mapGet 0 (mapSet 0 m (colKey p gs.1 r w) (symAt c gs.2)) k := ih _ fun g hg => h g (.tail _ hg)
      _ = mapGet 0 m k := mapGet_mapSet_other 0 0 m (h gs (.head _)) _

/-- With one group for each entry, every group holds the symbol it was given. -/
theorem mapGet_storeSyms_self {p r w : Nat} (c : Code288) {l : List (Nat × Nat)} (m : Map Nat) (hr : r < 20480) (hw : w < 64)
    (hlt : ∀ gs ∈ l, gs.1 < 4) (hnodup : (l.map Prod.fst).Nodup) {gs : Nat × Nat} (hgs : gs ∈ l) :
    mapGet 0 (storeSyms p r w c l m) (colKey p gs.1 r w) = symAt c gs.2 := by
  induction l generalizing m with
  | nil => exact absurd hgs List.not_mem_nil
  | cons first rest ih =>
    rw [List.map_cons, List.nodup_cons] at hnodup
    rcases List.mem_cons.1 hgs with rfl | hrest
    · have hother : ∀ g ∈ rest, colKey p gs.1 r w ≠ colKey p g.1 r w := fun g hg heq =>
        hnodup.1 ((colKey_inj (hlt gs hgs) hr hw (hlt g (.tail _ hg)) hr hw heq).2 ▸ List.mem_map_of_mem hg)
      calc mapGet 0 (storeSyms p r w c (gs :: rest) m) (colKey p gs.1 r w)
          = mapGet 0 (mapSet 0 m (colKey p gs.1 r w) (symAt c gs.2)) (colKey p gs.1 r w) := mapGet_storeSyms_other c _ hother
        _ = symAt c gs.2 := by rw [mapGet_mapSet, if_pos rfl]
    · exact ih _ (fun g hg => hlt g (.tail _ hg)) hnodup.2 hrest

theorem symXor_zero (c : Code288) (s : Nat) : symXor c s 0 = c := by simp [symXor]

/-- Column groups that hold a codeword's own symbols leave it as it is. -/
theorem putSyms_stored {x : Machine.Stack} {p r w : Nat} {c : Code288} {l : List (Nat × Nat)}
    (h : ∀ gs ∈ l, mapGet 0 x.colCells (colKey p gs.1 r w) = symAt c gs.2) : putSyms x p r w l c = c := by
  induction l with
  | nil => rfl
  | cons gs rest ih => rw [putSyms, ih fun g hg => h g (.tail _ hg), h gs (.head _), Nat.xor_self, symXor_zero]

/-- What a read puts in place depends on the symbols that the word's own groups hold for it. -/
theorem putSyms_congr {x y : Machine.Stack} {p r w : Nat} (c : Code288) {l : List (Nat × Nat)}
    (h : ∀ gs ∈ l, mapGet 0 y.colCells (colKey p gs.1 r w) = mapGet 0 x.colCells (colKey p gs.1 r w)) :
    putSyms y p r w l c = putSyms x p r w l c := by
  induction l with
  | nil => rfl
  | cons gs rest ih => rw [putSyms, putSyms, ih fun g hg => h g (.tail _ hg), h gs (.head _)]

/-! ### Reading after storing -/

/-- A stored codeword is the one read. -/
theorem rawRead_rawWrite_self (x : Machine.Stack) (p row : Nat) {w : Nat} (c : Code288) (hw : w < 64) :
    rawRead (rawWrite x p row w c) p row w = c := by
  have hcell : mapGet 0 (rawWrite x p row w c).cells (cellKey p (storedRow x p row) w) = c := by
    rw [rawWrite_eq, mapGet_mapSet, if_pos rfl]
  simp only [rawRead, storedRow_rawWrite, colSpares_rawWrite, hcell]
  split
  · next hr =>
    refine putSyms_stored fun gs hgs => ?_
    rw [rawWrite_eq]
    simp only [hr, if_true]
    exact mapGet_storeSyms_self c _ hr hw (fun _ => colSpares_group_lt) (colSpares_groups_nodup ..) hgs
  · rfl

/-- A word in another place than the one stored to reads as before, from its cell and from the column groups in use. -/
theorem rawRead_rawWrite_other (x : Machine.Stack) (p : Nat) {row w : Nat} (c : Code288) {p' row' w' : Nat} (hrow : row < 20480) (hw : w < 64)
    (hrow' : row' < 20480) (hw' : w' < 64) (hne : (p', storedRow x p' row', w') ≠ (p, storedRow x p row, w)) :
    rawRead (rawWrite x p row w c) p' row' w' = rawRead x p' row' w' := by
  have hcell : mapGet 0 (rawWrite x p row w c).cells (cellKey p' (storedRow x p' row') w') = mapGet 0 x.cells (cellKey p' (storedRow x p' row') w') := by
    rw [rawWrite_eq]
    exact mapGet_mapSet_other 0 0 x.cells
      (fun heq => hne (cellKey_inj (storedRow_lt x p' hrow') hw' (storedRow_lt x p hrow) hw heq)) c
  simp only [rawRead, storedRow_rawWrite, colSpares_rawWrite, hcell]
  split
  · next hr' =>
    refine putSyms_congr _ fun gs hgs => ?_
    rw [rawWrite_eq]
    dsimp only
    split
    · next hr =>
      exact mapGet_storeSyms_other c _ fun g hg heq =>
        hne (colKey_inj (colSpares_group_lt hgs) hr' hw' (colSpares_group_lt hg) hr hw heq).1
    · rfl
  · rfl

/-- Settles O48: the word's cell and its column groups hold what was stored, and the keys of every other place differ. -/
theorem storedWordFrame : Obligations.StoredWordFrame :=
  fun x p row _ c hrow hw =>
    ⟨rawRead_rawWrite_self x p row c hw, fun _ _ _ hrow' hw' hne => rawRead_rawWrite_other x p c hrow hw hrow' hw' hne⟩

end Sys2Proof.Laws
end

section
/-! Commands of a stack: the runs of an access, refresh, repair entries and mode changes. -/

namespace Sys2Proof.Laws

open Sys2Proof Sys2Proof.Machine

/-! ### Runs -/

/-- Every run of an access lies before the access's end. -/
theorem splitRuns_addr_lt {h r : HeldAccess} {n o len : Nat} (hr : r ∈ splitRuns h n o len) : r.addr < h.addr + len := by
  induction n generalizing o with
  | zero => exact absurd hr List.not_mem_nil
  | succ n ih =>
    rw [splitRuns] at hr
    split at hr
    · exact absurd hr List.not_mem_nil
    · next ho =>
      rcases List.mem_cons.1 hr with rfl | hrest
      · dsimp only; omega
      · exact ih hrest

theorem splitRuns_end (h : HeldAccess) (n len : Nat) : splitRuns h n len len = [] := by
  cases n with
  | zero => rfl
  | succ n => rw [splitRuns, if_pos (Nat.le_refl len)]

/-- An access within one 2 KiB row is one run (R119). -/
theorem splitRuns_oneRow {h : HeldAccess} (n : Nat) {len : Nat} (hpos : 0 < len) (hrow : h.addr / 2048 = (h.addr + len - 1) / 2048) :
    splitRuns h (n + 1) 0 len = [{ h with len := len, data := h.data.map (fun bs => bs.take len) }] := by
  have hmin : min (len - 0) (2048 - h.addr % 2048) = len := by omega
  rw [splitRuns, if_neg (by omega)]
  simp only [Nat.add_zero, Nat.zero_add, List.drop_zero, hmin, splitRuns_end]

@[simp] theorem glitchesFrom_zero (es : ErrorList) : glitchesFrom 0 es = es := by simp [glitchesFrom]

/-- A read whose range ends with the stacks brings each of its runs to its base die, in order (R119). -/
theorem exec_stackAccess_read (s : State) (reader tenant : Nat) {addr len : Nat} (hits glitches : ErrorList) (hend : addr + len ≤ potWest) :
    exec (.stackAccess reader tenant addr len none hits glitches) s = .next
      ((splitRuns { reader := reader, tenant := tenant, addr := addr, len := len, data := none } (len / 2048 + 2) 0 len).foldl
        (fun s h => arriveAccess s h (glitchesFrom ((spanOf h.addr 1).1 / 32 - (spanOf addr 1).1 / 32) glitches)) (upsetCells s addr hits)) := by
  have hall : ∀ r ∈ splitRuns { reader := reader, tenant := tenant, addr := addr, len := len, data := none } (len / 2048 + 2) 0 len,
      decide (r.addr < potWest) = true := fun r hr => decide_eq_true (Nat.lt_of_lt_of_le (splitRuns_addr_lt hr) hend)
  rw [exec_stackAccess, execStackAccess, List.filter_eq_self.2 hall]

/-- An access within one row of the stacks arrives as itself (R119). -/
theorem exec_stackAccess_oneRow (s : State) (reader tenant : Nat) {addr len : Nat} {data : Option (List Byte)} (hits glitches : ErrorList)
    (hpos : 0 < len) (haddr : addr < potWest) (hrow : addr / 2048 = (addr + len - 1) / 2048) (hdata : ∀ bs ∈ data, bs.length = len) :
    exec (.stackAccess reader tenant addr len data hits glitches) s = .next (arriveAccess (upsetCells s addr hits)
      { reader := reader, tenant := tenant, addr := addr, len := len, data := data } glitches) := by
  have hwhole : data.map (fun bs => bs.take len) = data := by
    cases data with
    | none => rfl
    | some bs => rw [Option.map_some, List.take_of_length_le (hdata bs rfl).le]
  have hruns : (splitRuns { reader := reader, tenant := tenant, addr := addr, len := len, data := data } (len / 2048 + 2) 0 len).filter
      (fun h => decide (h.addr < potWest)) = [{ reader := reader, tenant := tenant, addr := addr, len := len, data := data }] := by
    rw [splitRuns_oneRow _ hpos hrow, hwhole, List.filter_singleton, decide_eq_true haddr]
    rfl
  cases data with
  | none => simp only [exec_stackAccess, execStackAccess, hruns, List.foldl_cons, List.foldl_nil, Nat.sub_self, glitchesFrom_zero]
  | some bs =>
    obtain rfl : bs.length = len := hdata bs rfl
    simp only [exec_stackAccess, execStackAccess, hruns, List.foldl_cons, List.foldl_nil, Nat.sub_self, glitchesFrom_zero]

/-- A run that nothing holds is performed at its home. -/
theorem arriveAccess_free {s : State} {h : HeldAccess} (glitches : ErrorList) (hfree : runWaits s h.early h.addr = false) :
    arriveAccess s h glitches = performAccess s h glitches := by
  rw [arriveAccess, hfree]; rfl

/-- A run that something holds is queued behind the hold (R117, R151, R236). -/
theorem arriveAccess_held {s : State} {h : HeldAccess} (glitches : ErrorList) (hheld : runWaits s h.early h.addr = true) :
    arriveAccess s h glitches = s.updStack (h.addr / 2 ^ 37) (fun x => { x with heldAccess := x.heldAccess ++ [h] }) := by
  rw [arriveAccess, hheld]; rfl

/-! ### Refresh -/

/-- A refresh is performed unless the bank computes and may still postpone it (R122, R123). -/
theorem exec_refresh_performed {s : State} {st bank : Nat} (hst : st < 8) (hbank : bank < 2048)
    (h : bankComputing s st bank = false ∨ 4 ≤ mapGet 0 (s.stack st).refreshLag bank) :
    exec (.refresh st bank) s = .next (s.setStack st (refreshOnce (s.stack st) bank)) := by
  have hno : (bankComputing s st bank && decide (mapGet 0 (s.stack st).refreshLag bank < 4)) = false := by
    rcases h with h | h
    · rw [h, Bool.false_and]
    · rw [decide_eq_false (by omega), Bool.and_false]
  rw [exec_refresh, execRefresh, if_pos ⟨hst, hbank⟩]
  simp only [hno]
  rfl

/-- A computing bank postpones at most four refreshes, and each is counted (R123). -/
theorem exec_refresh_postponed {s : State} {st bank : Nat} (hst : st < 8) (hbank : bank < 2048) (hcomp : bankComputing s st bank = true)
    (hlag : mapGet 0 (s.stack st).refreshLag bank < 4) :
    exec (.refresh st bank) s = .next (bump (s.setStack st { s.stack st with
      refreshLag := mapSet 0 (s.stack st).refreshLag bank (mapGet 0 (s.stack st).refreshLag bank + 1) }) (0x2210 + st) 7 1) := by
  rw [exec_refresh, execRefresh, if_pos ⟨hst, hbank⟩]
  simp only [hcomp, decide_eq_true hlag]
  rfl

/-! ### Repair entries -/

/-- In TEST a row entry within range is stored in the selected place, and the entries in use are counted (R138, R139, R143). -/
theorem exec_stkRprDataWrite_row {s : State} {st value : Nat} (hst : st < 8) (hdev : s.dev = .test) (hsel : (s.stack st).rprColSel = false)
    (hvalue : value < 2 ^ 32) (hrow : value % 2 ^ 15 ≤ 20479) :
    exec (.stkRprDataWrite st value) s =
      let x := s.stack st
      let s1 := s.setStack st { x with
        rowRepair := mapSet 0 x.rowRepair (x.rprBank * 64 + x.rprEntry) (bitsOf value 31 29 * 2 ^ 29 + value % 2 ^ 15) }
      .next (dset s1 (0x2210 + st) 0xA (((s1.stack st).rowRepair).filter (fun c => bitOf c.2 31)).length) := by
  rw [exec_stkRprDataWrite, execStkRprDataWrite, if_pos hst, if_pos hdev]
  simp only [hsel, Nat.mod_eq_of_lt hvalue, if_neg (Nat.not_lt.2 hrow)]
  rfl

/-- Outside TEST a write of a repair entry only sets CMD_STATE (R138). -/
theorem exec_stkRprDataWrite_refused {s : State} {st : Nat} (value : Nat) (hst : st < 8) (hdev : s.dev ≠ .test) :
    exec (.stkRprDataWrite st value) s = .next (cmdState s) := by
  rw [exec_stkRprDataWrite, execStkRprDataWrite, if_pos hst, if_neg hdev]

/-! ### Mode changes -/

/-- A device that serves its dictionary has power (R601). -/
theorem dev_ne_off_of_notReady {s : State} (h : notReady s = none) : s.dev ≠ .off := by
  intro hoff
  simp [notReady, hoff] at h

/-- A dictionary command of a device that serves it is performed (R601). -/
theorem served_ready {s : State} (act : State → State) (h : notReady s = none) : served s act = .next (act s) := by
  rw [served, if_neg (dev_ne_off_of_notReady h), h]

/-- A dictionary command before TEST is refused with the code of the device's state (R601). -/
theorem served_refused {s : State} {code : Nat} (act : State → State) (hdev : s.dev ≠ .off) (h : notReady s = some code) :
    served s act = .next (dictAnswer s code) := by
  rw [served, if_neg hdev, h]

/-- A write of SegModeLow or SegModeHigh is a dictionary write (R116). -/
theorem exec_segModeChange_served {s : State} {st : Nat} (high : Bool) (value : Nat) (hst : st < 8) :
    exec (.segModeChange st high value) s = served s (fun s => submitWrite s
      { asker := .direct, key := dk (0x2210 + st) (if high then 2 else 1), value := if high then natLE 2 value else natLE 8 value }) := by
  rw [exec_segModeChange, execSegModeChange, if_neg (Nat.not_le.2 hst), writeDirect]

/-- What the end of a mode change does to the stack, its two mode entries and the accesses it held (R117 steps 3 to 5). -/
theorem applyNewModes_some {s : State} {st new : Nat} (h : (s.stack st).modeNext = some new) :
    applyNewModes s st = releaseHeld (dset (dset
      (s.setStack st { (changedSegments (s.stack st) new).foldl clearSegment (s.stack st) with segMode := new, modeNext := none })
      (0x2210 + st) 1 (new % 2 ^ 64)) (0x2210 + st) 2 (new / 2 ^ 64)) st := by
  simp only [applyNewModes, h]

/-- The end of a mode change finishes the write that asked for it (R117). -/
theorem exec_segModeChangeDone_write {s : State} {st : Nat} {j : DictJob} {rest : List DictJob} (hst : st < 8)
    (hearly : earlyLeft s (inChanging s st) = false) (hcomp : modeComputing s st = false)
    (hjobs : (applyNewModes s st).nirnar.jobs = j :: rest) (hstage : j.stage = .effect) (hkey : j.key / 256 = 0x2210 + st) :
    exec (.segModeChangeDone st) s = .next (nextJob (finishJob (applyNewModes s st) j j.abort)) := by
  have hgo : ¬ (8 ≤ st ∨ earlyLeft s (inChanging s st) = true ∨ modeComputing s st = true) := by
    simp [hearly, hcomp, hst]
  rw [exec_segModeChangeDone, execSegModeChangeDone, if_neg hgo]
  simp only [hjobs, hstage, hkey, and_self, if_true]

/-- Settles O8: each command by what it answers for the unit and the state it is meant for. -/
theorem stackCommandsComplete : Obligations.StackCommandsComplete := by
  refine ⟨?reads, ?readFree, ?writeFree, ?writeHeld, ?addFree, ?addHeld, ?refresh, ?postpone, ?repair, ?repairRefused, ?modeLow, ?modeHigh,
    ?modeRefused, ?modeDone⟩
  case reads =>
    intro s reader tenant addr len hits glitches _ hend
    exact exec_stackAccess_read s reader tenant hits glitches hend
  case readFree =>
    intro s reader tenant addr len hits glitches hpos haddr hrow hfree
    rw [exec_stackAccess_oneRow s reader tenant hits glitches hpos haddr hrow (by simp), arriveAccess_free]
    exact hfree
  case writeFree =>
    intro s reader tenant addr bs hits glitches hne haddr hrow hfree
    rw [exec_stackAccess_oneRow s reader tenant hits glitches (List.length_pos_iff.2 hne) haddr hrow (by simp), arriveAccess_free glitches]
    · rfl
    · exact hfree
  case writeHeld =>
    intro s reader tenant addr bs hits glitches hne haddr hrow hheld
    rw [exec_stackAccess_oneRow s reader tenant hits glitches (List.length_pos_iff.2 hne) haddr hrow (by simp), arriveAccess_held]
    exact hheld
  case addFree =>
    intro s issuer tenant addr fmt data fetch hfree
    rw [exec_addBurstRequest, execAddBurstRequest, arriveAccess_free]
    · rfl
    · exact hfree
  case addHeld =>
    intro s issuer tenant addr fmt data fetch hheld
    rw [exec_addBurstRequest, execAddBurstRequest, arriveAccess_held]
    exact hheld
  case refresh => exact fun _ _ _ hst hbank h => exec_refresh_performed hst hbank h
  case postpone => exact fun _ _ _ hst hbank hcomp hlag => exec_refresh_postponed hst hbank hcomp hlag
  case repair => exact fun _ _ _ hst hdev hsel hvalue hrow => exec_stkRprDataWrite_row hst hdev hsel hvalue hrow
  case repairRefused => exact fun _ _ value hst hdev => exec_stkRprDataWrite_refused value hst hdev
  case modeLow =>
    intro s st value hst hready
    rw [exec_segModeChange_served false value hst, served_ready _ hready]
    rfl
  case modeHigh =>
    intro s st value hst hready
    rw [exec_segModeChange_served true value hst, served_ready _ hready]
    rfl
  case modeRefused =>
    intro s st value code high hst hdev hcode
    rw [exec_segModeChange_served high value hst, served_refused _ hdev hcode]
  case modeDone =>
    intro s st new j rest hst hmode hearly hcomp x s0 s1 hjobs hstage hkey
    have happly : applyNewModes s st = s1 := applyNewModes_some hmode
    rw [← happly] at hjobs ⊢
    exact exec_segModeChangeDone_write hst hearly hcomp hjobs hstage hkey

end Sys2Proof.Laws
end

section
/-! What an access to memory leaves alone: everything but the memories, the dictionary, the fault record and what a fault touches. -/

namespace Sys2Proof.Laws

open Sys2Proof Sys2Proof.Machine

/-- The state apart from what an access to memory may change: the memories and their sparing, the counters and bytes of the dictionary, and
what its faults, interrupts and migrations reach (a migration marks the accesses under way, R236). -/
def outsideMemory (s : State) : State :=
  { s with
    stackMap := [], pots := [], locals := [], buffers := [], engines := [], potCorrected := 0, potUncorrectable := 0, repairQueue := []
    dict := [], subs := [], free := 0, out := [], irq := {}, faults := {}, slots := [], reqs := [], walkers := [], svc := {} }

/-- The ladles are none of what an access may change. -/
theorem ladle_of_outsideMemory {s t : State} (h : outsideMemory t = outsideMemory s) (st : Nat) : t.ladle st = s.ladle st := by
  have ladles (u : State) : u.ladle st = (outsideMemory u).ladle st := rfl
  rw [ladles t, h, ← ladles s]

variable (s : State)

theorem foldl_outsideMemory {β : Type} (f : State → β → State) (l : List β) (hf : ∀ t b, outsideMemory (f t b) = outsideMemory t) :
    outsideMemory (l.foldl f s) = outsideMemory s :=
  foldl_keeps (p := fun t : State => outsideMemory t = outsideMemory s) f l rfl fun t b h => (hf t b).trans h

/-! ### The fields an access may change -/

theorem outsideMemory_irq (x : Irq) : outsideMemory { s with irq := x } = outsideMemory s := rfl
theorem outsideMemory_faults (x : Faults) : outsideMemory { s with faults := x } = outsideMemory s := rfl
theorem outsideMemory_svc (x : Svc) : outsideMemory { s with svc := x } = outsideMemory s := rfl

@[simp] theorem outsideMemory_setStack (k : Nat) (x : Machine.Stack) : outsideMemory (s.setStack k x) = outsideMemory s := rfl
@[simp] theorem outsideMemory_setSlot (k : Nat) (x : Slot) : outsideMemory (s.setSlot k x) = outsideMemory s := rfl
@[simp] theorem outsideMemory_setPot (i : Nat) (c : Code288) : outsideMemory (setPot s i c) = outsideMemory s := rfl
@[simp] theorem outsideMemory_setLocal (i : Nat) (c : Code288) : outsideMemory (setLocal s i c) = outsideMemory s := rfl
@[simp] theorem outsideMemory_setBuffer (i : Nat) (c : Code288) : outsideMemory (setBuffer s i c) = outsideMemory s := rfl
@[simp] theorem outsideMemory_setImem (e i : Nat) (c : Code288) : outsideMemory (setImem s e i c) = outsideMemory s := rfl
@[simp] theorem outsideMemory_emit (o : Out) : outsideMemory (emit s o) = outsideMemory s := rfl
@[simp] theorem outsideMemory_freeValue : outsideMemory (freeValue s).2 = outsideMemory s := rfl
@[simp] theorem outsideMemory_setStep (m : Nat) (r : StepRun) : outsideMemory (setStep s m r) = outsideMemory s := rfl

@[simp] theorem outsideMemory_noteChange (key : Nat) : outsideMemory (noteChange s key) = outsideMemory s := by
  unfold noteChange; split <;> rfl

@[simp] theorem outsideMemory_dset (i j v : Nat) : outsideMemory (dset s i j v) = outsideMemory s := outsideMemory_noteChange _ _

@[simp] theorem outsideMemory_bump (i j n : Nat) : outsideMemory (bump s i j n) = outsideMemory s := outsideMemory_dset s i j _

/-! ### Interrupts, the fault record and recovery windows -/

@[simp] theorem outsideMemory_sendMsix (fn vec : Nat) : outsideMemory (sendMsix s fn vec) = outsideMemory s := by
  unfold sendMsix; dsimp only; split <;> rfl

@[simp] theorem outsideMemory_deliverSource (n : Nat) : outsideMemory (deliverSource s n) = outsideMemory s := by
  unfold deliverSource
  dsimp only
  repeat' split
  all_goals simp

@[simp] theorem outsideMemory_raiseSource (n : Nat) : outsideMemory (raiseSource s n) = outsideMemory s := by
  unfold raiseSource; split <;> simp [↓outsideMemory_irq]

@[simp] theorem outsideMemory_raiseLocal (t j : Nat) : outsideMemory (raiseLocal s t j) = outsideMemory s := by
  unfold raiseLocal; split <;> simp

@[simp] theorem outsideMemory_setSummary (bits : Nat) : outsideMemory (setSummary s bits) = outsideMemory s := by
  unfold setSummary; dsimp only; split <;> simp [↓outsideMemory_faults]

@[simp] theorem outsideMemory_setTenantFault (t bits : Nat) : outsideMemory (setTenantFault s t bits) = outsideMemory s := by
  unfold setTenantFault; dsimp only
  repeat' split
  all_goals simp [↓outsideMemory_faults]

@[simp] theorem outsideMemory_ringPush (e : FaultEntry) : outsideMemory (ringPush s e) = outsideMemory s := by
  unfold ringPush; dsimp only
  repeat' split
  all_goals simp [↓outsideMemory_faults]

@[simp] theorem outsideMemory_recordEntry (e : FaultEntry) : outsideMemory (recordEntry s e) = outsideMemory s := by
  simp [recordEntry, ↓outsideMemory_faults]

@[simp] theorem outsideMemory_markStalled : outsideMemory (markStalled s) = outsideMemory s := rfl
@[simp] theorem outsideMemory_discardSteps (m : Nat) : outsideMemory (discardSteps s m) = outsideMemory s := rfl

@[simp] theorem outsideMemory_slotTenantFault (m : Nat) : outsideMemory (slotTenantFault s m) = outsideMemory s :=
  foldl_outsideMemory s _ _ fun t b => by split <;> simp

@[simp] theorem outsideMemory_slotRestoring (m : Nat) : outsideMemory (slotRestoring s m) = outsideMemory s := by
  unfold slotRestoring; dsimp only; split <;> simp

@[simp] theorem outsideMemory_slotOffline (m : Nat) : outsideMemory (slotOffline s m) = outsideMemory s := by
  unfold slotOffline; dsimp only; split <;> simp

@[simp] theorem outsideMemory_beginRecovery (e : FaultEntry) (cls : Nat) : outsideMemory (beginRecovery s e cls) = outsideMemory s := by
  unfold beginRecovery; dsimp only
  repeat' split
  all_goals simp [↓outsideMemory_faults]

@[simp] theorem outsideMemory_windowFault (e : FaultEntry) : outsideMemory (windowFault s e) = outsideMemory s := by
  unfold windowFault; dsimp only
  repeat' split
  all_goals simp [↓outsideMemory_faults, ↓outsideMemory_beginRecovery]

@[simp] theorem outsideMemory_recordFault (e : FaultEntry) : outsideMemory (recordFault s e) = outsideMemory s := by
  unfold recordFault
  repeat' split
  all_goals simp

/-! ### Sparing and retirement -/

@[simp] theorem outsideMemory_queueRepair (e : Nat) : outsideMemory (queueRepair s e) = outsideMemory s := rfl
@[simp] theorem outsideMemory_beginMigration (st F D : Nat) : outsideMemory (beginMigration s st F D) = outsideMemory s := rfl

@[simp] theorem outsideMemory_recordStack (code st reader addr : Nat) : outsideMemory (recordStack s code st reader addr) = outsideMemory s :=
  outsideMemory_recordFault s _

@[simp] theorem outsideMemory_poisonCell (st p row w reader addr tenant : Nat) :
    outsideMemory (poisonCell s st p row w reader addr tenant) = outsideMemory s := by
  simp [poisonCell]

@[simp] theorem outsideMemory_poisonRow (st p row reader : Nat) : outsideMemory (poisonRow s st p row reader) = outsideMemory s :=
  foldl_outsideMemory s _ _ fun t b => by split <;> simp

@[simp] theorem outsideMemory_startRetire (st F : Nat) : outsideMemory (startRetire s st F) = outsideMemory s := by
  unfold startRetire; dsimp only
  repeat' split
  all_goals simp

@[simp] theorem outsideMemory_exhaustSpares (st p row reader : Nat) : outsideMemory (exhaustSpares s st p row reader) = outsideMemory s := by
  unfold exhaustSpares; dsimp only
  repeat' split
  all_goals simp

@[simp] theorem outsideMemory_spareRow (src : Machine.Stack) (st p row reader addr : Nat) :
    outsideMemory (spareRow s src st p row reader addr) = outsideMemory s := by
  unfold spareRow; dsimp only; split <;> simp

@[simp] theorem outsideMemory_spareColumn (src : Machine.Stack) (st p row sym g reader addr : Nat) :
    outsideMemory (spareColumn s src st p row sym g reader addr) = outsideMemory s := by
  simp [spareColumn]

@[simp] theorem outsideMemory_hardFault (st p row : Nat) (sym : Option Nat) (reader addr : Nat) :
    outsideMemory (hardFault s st p row sym reader addr) = outsideMemory s := by
  unfold hardFault; dsimp only
  repeat' split
  all_goals simp

/-! ### Loads -/

@[simp] theorem outsideMemory_weightFault (m st p row w : Nat) (again : Code288) (reader addr : Nat) :
    outsideMemory (weightFault s m st p row w again reader addr) = outsideMemory s := by
  unfold weightFault; dsimp only; split <;> simp [State.updSlot]

@[simp] theorem outsideMemory_touchCell (st p : Nat) : outsideMemory (touchCell s st p) = outsideMemory s := rfl

@[simp] theorem outsideMemory_loadCellSeen (st p row w : Nat) (seen : Code288) (reader addr tenant : Nat) :
    outsideMemory (loadCellSeen s st p row w seen reader addr tenant).next = outsideMemory s := by
  have touched : outsideMemory (if reader = 0xFF then s else touchCell s st p) = outsideMemory s := by split <;> simp
  unfold loadCellSeen
  dsimp only
  generalize (if reader = 0xFF then s else touchCell s st p) = s0 at touched ⊢
  rw [← touched]
  repeat' split
  all_goals simp

/-- A load of a word of SRAM writes back or poisons its own memory only. -/
theorem outsideMemory_loadSram (c : Code288) {put : State → Code288 → State} (hput : ∀ t c, outsideMemory (put t c) = outsideMemory t)
    (reader addr tenant : Nat) : outsideMemory (loadSram s c put reader addr tenant).next = outsideMemory s := by
  unfold loadSram; dsimp only
  split
  · rfl
  · rfl
  · exact hput s _
  · exact (outsideMemory_recordFault _ _).trans (hput s _)

@[simp] theorem outsideMemory_countHoles (a n : Nat) : outsideMemory (countHoles s a n) = outsideMemory s := by
  unfold countHoles
  split
  · exact foldl_outsideMemory s _ _ fun t b => by split <;> simp [holeAccess]
  · rfl

@[simp] theorem outsideMemory_loadPart (reader tenant a : Nat) : outsideMemory (loadPart s reader tenant a).next = outsideMemory s := by
  unfold loadPart
  dsimp only
  split
  case h_1 => exact outsideMemory_loadCellSeen s ..
  case h_4 => exact outsideMemory_loadSram s _ (outsideMemory_setPot · _) ..
  case h_5 => exact outsideMemory_loadSram s _ (outsideMemory_setLocal · _) ..
  case h_6 => exact outsideMemory_loadSram s _ (outsideMemory_setBuffer · _) ..
  case h_7 => exact outsideMemory_loadSram s _ (outsideMemory_setImem · _ _) ..
  all_goals rfl

@[simp] theorem outsideMemory_loadWords (reader tenant a n : Nat) :
    outsideMemory (loadWords s reader tenant a n).next = outsideMemory s := by
  induction n generalizing s a with
  | zero => rfl
  | succ n ih => simp [loadWords, ih]

@[simp] theorem outsideMemory_loadBytes (reader tenant a n : Nat) :
    outsideMemory (loadBytes s reader tenant a n).next = outsideMemory s := by
  unfold loadBytes; split <;> simp

/-! ### Stores -/

@[simp] theorem outsideMemory_storeCodePart (a : Nat) (c : Code288) : outsideMemory (storeCodePart s a c).next = outsideMemory s := by
  unfold storeCodePart
  split
  case h_1 => dsimp only; split <;> simp [storeCell]
  all_goals rfl

@[simp] theorem outsideMemory_storePart (reader tenant a : Nat) (bs : List Byte) :
    outsideMemory (storePart s reader tenant a bs).next = outsideMemory s := by
  unfold storePart; dsimp only
  repeat' split
  all_goals simp

@[simp] theorem outsideMemory_storeAux (reader tenant a : Nat) (bs : List Byte) (n : Nat) :
    outsideMemory (storeAux s reader tenant a bs n).next = outsideMemory s := by
  induction n generalizing s a bs with
  | zero => rfl
  | succ n ih => unfold storeAux; dsimp only; split <;> simp [ih]

@[simp] theorem outsideMemory_storeBytes (reader tenant a : Nat) (bs : List Byte) :
    outsideMemory (storeBytes s reader tenant a bs).next = outsideMemory s := by
  unfold storeBytes; split <;> simp

@[simp] theorem outsideMemory_svcWrite (a : Nat) (bs : List Byte) : outsideMemory (svcWrite s a bs) = outsideMemory s :=
  outsideMemory_storeBytes s ..

/-! ### Cutter records -/

@[simp] theorem outsideMemory_pickReq (m : Nat) (ok : StepReq → Bool) : outsideMemory (pickReq s m ok).2 = outsideMemory s := by
  unfold pickReq; dsimp only; split <;> rfl

@[simp] theorem outsideMemory_emptyCutter (n : Nat) : outsideMemory (emptyCutter s n) = outsideMemory s := outsideMemory_svcWrite _ _ _

@[simp] theorem outsideMemory_cutterPoisoned (m n : Nat) : outsideMemory (cutterPoisoned s m n) = outsideMemory s := by
  have emptied : outsideMemory (if cutterOf s n = none then s else bump (emptyCutter s n) 0x5200 4 1) = outsideMemory s := by
    split <;> simp
  unfold cutterPoisoned; dsimp only
  generalize (if cutterOf s n = none then s else bump (emptyCutter s n) 0x5200 4 1) = s1 at emptied ⊢
  split <;> exact emptied

@[simp] theorem outsideMemory_cutterRecord (m layer : Nat) (b : StepReq) :
    outsideMemory (cutterRecord s m layer b).2 = outsideMemory s := by
  unfold cutterRecord; dsimp only
  repeat' split
  all_goals simp

@[simp] theorem outsideMemory_stageCutters (m layer a n : Nat) : outsideMemory (stageCutters s m layer a n) = outsideMemory s :=
  foldl_outsideMemory s _ _ fun t i => by
    have picked := outsideMemory_pickReq t m fun _ => true
    dsimp only
    split <;> simp_all

/-- What is staged for a CUTAPPLY lies in memory: the ladles wait as they were. -/
@[simp] theorem outsideMemory_stageSlot (st slot : Nat) : outsideMemory (stageSlot s st slot) = outsideMemory s := by
  unfold stageSlot
  repeat' split
  all_goals simp

end Sys2Proof.Laws
end

section
/-! Ladle operations and events, and the pages of a request's next step: what each command answers for the slot, the sequence or the request
it is meant for. -/

namespace Sys2Proof.Laws

open Sys2Proof Sys2Proof.Machine

/-! ### Operations -/

/-- The oldest slot that has not done its work, where it has this OP, does it (R187). -/
theorem ladleOperation_next {s : State} {st op : Nat} {x : LSlot} (run : LadleSlot → LSlot → LRun → List BankWork × LRun) (hst : st < 8)
    (hx : nextLadleSlot (s.ladle st) = some x) (hop : (ladleSlot x.bits).op = op) :
    ladleOperation op st x.bits run s = .next (performLadle s st op x run) := by
  simp only [ladleOperation, hst, hx, hop, and_self, if_true]

/-- Settles O11: each command is `ladleOperation` of its OP; what is staged for a CUTAPPLY leaves the ladles as they were. -/
theorem ladleOperationsComplete : Obligations.LadleOperationsComplete := by
  refine ⟨?operations, fun s st x hst hx hop => ?cutapply⟩
  case operations =>
    simp only [List.forall_mem_cons]
    refine ⟨?_, ?_, ?_, ?_, ?_, ?_, ?_, ?_, ?_, ?_, ?_, ?_, fun _ h => absurd h List.not_mem_nil⟩ <;>
      exact fun _ _ _ hst hx hop => ladleOperation_next _ hst hx hop
  case cutapply =>
    refine ladleOperation_next _ hst ?_ hop
    rw [ladle_of_outsideMemory (outsideMemory_stageSlot s st x.bits), hx]

/-! ### Row boundaries -/

@[simp] theorem ladle_bump (s : State) (i j n st : Nat) : (bump s i j n).ladle st = s.ladle st := by
  simp only [State.ladle, bump_ladles]

/-- A suspension adds one to the stack's count and leaves its sequences. -/
theorem countSuspend_ladle (s : State) (st : Nat) :
    (countSuspend s st).ladle st = { s.ladle st with suspends := sat64 (s.ladle st).suspends 1 } := by
  simp [countSuspend]

section boundary
variable {s : State} {st bank : Nat} {q : LSeq}

/-- The row operation of a bank has ended: it is counted, and its sequence stands at the boundary (R152). -/
def boundaryReached (s : State) (st bank : Nat) : State :=
  s.updLadle st (fun l => { l with rowOps := sat64 l.rowOps 1 }.updSeq bank .computing
    (fun x => some { x with left := x.left - 1, done := x.done + 1, st := .suspended }))

/-- The state in which the bank has served what waited for it at its row boundary, and whether anything did. -/
def boundaryServed (s : State) (st bank : Nat) : State × Bool :=
  serveBank (touchCell (bump (boundaryReached s st bank) 0x2300 4 1) st bank) st bank

/-- What the computing sequence of a bank does at its row boundary: it is gone after its last row operation; else it gives its place up where
the die has too few (R190), is suspended where its bank served something or its rows migrate (R153, R236), or goes on (R152). -/
theorem execRowBoundary_computing (hst : st < 8) (hbank : bank < 2048)
    (hq : (s.ladle st).seqs.find? (fun q => q.bank == bank && q.st == .computing) = some q) :
    let r := boundaryServed s st bank
    let now (f : LSeq → Option LSeq) : State := r.1.updLadle st (fun l => l.updSeq bank .suspended f)
    execRowBoundary st bank s =
      if q.left ≤ 1 then .next (fillPlaces (now (fun _ => none)) st)
      else if mustYield r.1 st q = true then
        .next (fillPlaces ((countSuspend (now (fun x => some { x with place := false, since := (r.1.ladle st).clock })) st).updLadle st
          (fun l => { l with clock := l.clock + 1 })) st)
      else if (r.2 || q.migrates r.1 st) = true then .next (countSuspend r.1 st)
      else .next (now (fun x => some (x.enter (r.1.ladle st)))) := by
  rw [execRowBoundary, if_pos ⟨hst, hbank⟩]
  simp only [hq]
  rfl

end boundary

/-! ### Slices, resumption and completion -/

section events
variable {s : State} {st bank : Nat} {q : LSeq} (hst : st < 8)
include hst

/-- A slice that a sequence waits for, or has next, reaches every sequence of the die that waits for the same bytes (R156). -/
theorem execVectorSliceArrive_next {k : Nat × Nat} (waited : Nat) (hbank : bank < 2048)
    (hq : (s.ladle st).seqs.find? (fun q => q.bank == bank && (q.st == .slice || q.st == .computing)) = some q)
    (hk : seqSlice (s.ladle st) q (if q.st = .slice then q.done else q.done + 1) = some k) :
    execVectorSliceArrive st bank waited s = .next (fillPlaces (bump (s.updLadle st (fun l => { l with
      vstall := sat64 l.vstall waited, seqs := l.seqs.filterMap (takeSlice l (bank / 128) k) })) 0x2300 6 waited) st) := by
  simp only [execVectorSliceArrive, hst, hbank, and_self, if_true, hq, hk]

/-- A suspended sequence that keeps its place, and whose rows do not migrate, resumes (R153, R190). -/
theorem execLadleResume_next (hbank : bank < 2048)
    (hq : ((fillPlaces s st).ladle st).seqs.find? (fun q => q.bank == bank && q.st == .suspended) = some q) (hplace : q.place = true)
    (hyield : mustYield (fillPlaces s st) st q = false) (hmig : q.migrates (fillPlaces s st) st = false) :
    execLadleResume st bank s = .next ((fillPlaces s st).updLadle st (fun l => l.updSeq bank .suspended (fun x => some (x.enter l)))) := by
  rw [execLadleResume, if_pos ⟨hst, hbank⟩]
  simp only [hq, hyield, hplace, hmig, Bool.false_and, Bool.false_eq_true, Bool.true_and, Bool.not_false, if_false, if_true]

/-- A slot whose work is done and whose sequences have ended leaves the queue and completes (R192). -/
theorem execLadleSlotComplete_next {x : LSlot}
    (hx : (s.ladle st).slots.find? (fun x => x.performed && !((s.ladle st).seqs.any (fun q => q.slot == x.no))) = some x) :
    execLadleSlotComplete st s = .next (slotDone (mirrorAppends (countSlot
      (s.updLadle st (fun l => { l with slots := l.slots.filter (fun y => y.no != x.no) })) st x) x) (1 + st) x.no x.status) := by
  simp only [execLadleSlotComplete, hst, if_true, hx]

end events

/-! ### Key-value pages -/

section pages
variable {s : State} {req : Nat}

/-- A live request with no copies under way that needs pages takes the fitting choice of frames; where none can be had even after eviction it
is marked starved (R405, R407). -/
theorem execKvPagePrepare_needs (frames : List Nat) (hreq : req < 16384) (hactive : (s.req req).active = true)
    (hidle : s.svc.preps.any (fun p => p.req == req) = false) :
    let r := s.req req
    let needs := lacking (seeReached s r) r
    let s1 := evictFor (seeReached s r) r.tenant needs
    needs ≠ [] → execKvPagePrepare req frames s =
      if framesFit s1 r.tenant needs frames = true then
        .next (((needs.zip frames).foldl (fun s e => givePage s req r.tenant r.len e.1 e.2) s1).updReq req
          (fun r => { r with starved := false, noPage := 0 }))
      else if pagesShort s1 r.tenant needs = true then .next (s1.setReq req { r with starved := true })
      else .next s1 := by
  intro r needs s1 hneeds
  rw [execKvPagePrepare, if_pos hreq, if_pos (by simp [hactive, hidle])]
  exact if_neg hneeds

/-- Once its copies are done, a request's entries name the copied pages (R405). -/
theorem execKvPrepareDone_next (hreq : req < 16384) (hmine : s.svc.preps.filter (fun p => p.req == req) ≠ []) :
    let mine := s.svc.preps.filter (fun p => p.req == req)
    let s1 := mine.foldl (fun (s : State) (p : PagePrep) =>
      writeEntry (copyPage s (s.req req).tenant p.src p.frame (64 * p.rows)) p.entry (entryWord p.frame false)) s
    execKvPrepareDone req s = .next (bump { s1 with svc := { s1.svc with
      preps := s1.svc.preps.filter (fun p => p.req != req) } } 0x2330 7 mine.length) := by
  rw [execKvPrepareDone, if_pos hreq]
  exact if_neg hmine

end pages

/-- Settles O12: each command by what it answers for the sequence, the slot or the request it is meant for. -/
theorem ladleEventsComplete : Obligations.LadleEventsComplete := by
  refine ⟨fun s st bank q hst hbank hq => ?boundary,
    fun s st bank waited q k hst hbank hq hk => execVectorSliceArrive_next hst waited hbank hq hk,
    fun s st bank q hst hbank hq hplace hyield hmig => execLadleResume_next hst hbank hq hplace hyield hmig,
    fun s st x hst hx => execLadleSlotComplete_next hst hx,
    fun s req frames hreq hactive hidle hneeds => ?pages,
    fun s req hreq hmine => execKvPrepareDone_next hreq hmine⟩
  case boundary =>
    have hrow := execRowBoundary_computing hst hbank hq
    refine ⟨fun hlast => hrow.trans (if_pos hlast), fun hleft hyield => ?yields, fun hleft hyield hserved => ?suspended,
      fun hleft hyield hserved => ?goesOn⟩
    all_goals replace hrow := hrow.trans (if_neg (Nat.not_le.2 hleft))
    case yields =>
      refine ⟨_, hrow.trans (if_pos hyield), ?_, ?_⟩ <;> simp [countSuspend_ladle, Ladles.updSeq, boundaryServed, boundaryReached]
    all_goals replace hrow := hrow.trans (if_neg (Bool.eq_false_iff.1 hyield))
    case suspended => exact hrow.trans (if_pos hserved)
    case goesOn => exact hrow.trans (if_neg (Bool.eq_false_iff.1 hserved))
  case pages =>
    have hprepare := execKvPagePrepare_needs frames hreq hactive hidle hneeds
    exact ⟨fun hfit => hprepare.trans (if_pos hfit),
      fun hfit hshort => hprepare.trans ((if_neg (Bool.eq_false_iff.1 hfit)).trans (if_pos hshort))⟩

end Sys2Proof.Laws
end

section
/-! The canonical form of every memory: no command leaves it, and so no step does. -/

namespace Sys2Proof.Laws

open Sys2Proof Sys2Proof.Machine

/-- Every command keeps the queue and the canonical form of every memory: each by what its meaning keeps. -/
theorem keepsRes_exec {q : List Instr} {s : State} (h : Keeps q s) (c : Instr) : KeepsRes q (exec c s) := by
  cases c with
  | loadcol => exact keeps_execLoadcol _ _ _ _ _ h
  | loadrow => exact keeps_execLoadrow _ _ _ _ _ h
  | fillcol => exact keeps_execFillcol _ _ _ _ h
  | fillrow => exact keeps_execFillrow _ _ _ _ h
  | setout => exact keeps_execSetout _ _ h
  | scaleSlotComplete => exact keeps_execScaleSlotComplete _ h
  | mm => exact keeps_execMm _ _ _ h
  | wload => exact keeps_execWload _ _ h
  | gridOpStart => exact keeps_execGridOpStart _ _ h
  | wloadComplete => exact keeps_execWloadComplete _ h
  | mmComplete => exact keeps_execMmComplete _ h
  | rerunComplete => exact keeps_execRerunComplete _ h
  | stackAccess => exact keeps_execStackAccess _ _ _ _ _ _ _ _ h
  | addBurstRequest => exact keeps_execAddBurstRequest _ _ _ _ _ _ _ h
  | refresh => exact keeps_execRefresh _ _ _ h
  | segModeChange => exact keeps_execSegModeChange _ _ _ _ h
  | segModeChangeDone => exact keeps_execSegModeChangeDone _ _ h
  | stkRprDataWrite => exact keeps_execStkRprDataWrite _ _ _ h
  | rowcopy => exact keeps_execRowcopy _ _ _ h
  | rowinit => exact keeps_execRowinit _ _ _ h
  | rowlogic => exact keeps_execRowlogic _ _ _ h
  | gemv4 => exact keeps_execGemv4 _ _ _ h
  | score => exact keeps_execScore _ _ _ h
  | axpy => exact keeps_execAxpy _ _ _ h
  | ewise => exact keeps_execEwise _ _ _ h
  | normstat => exact keeps_execNormstat _ _ _ h
  | normapply => exact keeps_execNormapply _ _ _ h
  | rope => exact keeps_execRope _ _ _ h
  | quant => exact keeps_execQuant _ _ _ h
  | cutapply => exact keeps_execCutapply _ _ _ h
  | merge => exact keeps_execMerge _ _ _ h
  | rowBoundary => exact keeps_execRowBoundary _ _ _ h
  | vectorSliceArrive => exact keeps_execVectorSliceArrive _ _ _ _ h
  | ladleResume => exact keeps_execLadleResume _ _ _ h
  | ladleSlotComplete => exact keeps_execLadleSlotComplete _ _ h
  | frameRetireComplete => exact keeps_execFrameRetireComplete _ _ h
  | retirePendingDonor => exact keeps_execRetirePendingDonor _ _ h
  | fieldRepairWrite => exact keeps_execFieldRepairWrite _ h
  | whiskRow => exact keeps_execWhiskRow _ _ _ _ h
  | whiskSlow => exact keeps_execWhiskSlow _ _ h
  | frameEnterTest => exact keeps_execFrameEnterTest _ _ _ _ _ h
  | frameTestEntered => exact keeps_execFrameTestEntered _ _ h
  | frameLeaveTest => exact keeps_execFrameLeaveTest _ _ _ _ _ h
  | wrdata => exact keeps_execWrdata _ _ _ _ h
  | wrchk => exact keeps_execWrchk _ _ _ _ h
  | wrboth => exact keeps_execWrboth _ _ _ _ h
  | rdraw => exact keeps_execRdraw _ _ _ _ h
  | rddec => exact keeps_execRddec _ _ _ _ h
  | moveCopy => exact keeps_execMoveCopy _ _ _ _ h
  | moveAdd => exact keeps_execMoveAdd _ _ _ _ h
  | moveDiscard => exact keeps_execMoveDiscard _ _ h
  | moverDescStart => exact keeps_execMoverDescStart _ _ h
  | moverDescComplete => exact keeps_execMoverDescComplete _ _ h
  | moverHostError => exact keeps_execMoverHostError _ _ _ _ _ h
  | discardApplied => exact keeps_execDiscardApplied _ _ h
  | seqQueuePost => exact keeps_execSeqQueuePost _ _ _ _ _ _ _ h
  | moverQueuePost => exact keeps_execMoverQueuePost _ _ _ _ _ _ h
  | qentryStep => exact keeps_execQentryStep _ _ h
  | qentryCall => exact keeps_execQentryCall _ _ h
  | qentryFlip => exact keeps_execQentryFlip _ _ h
  | stepWordIssue => exact keeps_execStepWordIssue _ _ h
  | syncWaitEnd => exact keeps_execSyncWaitEnd _ _ h
  | syncMemPoll => exact keeps_execSyncMemPoll _ _ h
  | movePost => exact keeps_execMovePost _ _ h
  | seta => exact keeps_execSeta _ _ _ _ h
  | adda => exact keeps_execAdda _ _ _ _ _ h
  | setc => exact keeps_execSetc _ _ _ _ h
  | maddc => exact keeps_execMaddc _ _ _ _ _ _ h
  | jump => exact keeps_execJump _ _ _ h
  | loop => exact keeps_execLoop _ _ _ _ h
  | jcz => exact keeps_execJcz _ _ _ _ h
  | call => exact keeps_execCall _ _ _ h
  | ret => exact keeps_execRet _ _ h
  | bankflip => exact keeps_execBankflip _ _ h
  | ctrlHalt => exact keeps_execCtrlHalt _ _ h
  | ctrlStop => exact keeps_execCtrlStop _ _ _ h
  | nest => exact keeps_execNest _ _ h
  | entryComplete => exact keeps_execEntryComplete _ _ h
  | commit => exact keeps_execCommit _ _ _ _ _ _ _ _ h
  | select => exact keeps_execSelect _ _ _ _ _ _ h
  | startService => exact keeps_execStartService _ _ _ _ _ h
  | startNest => exact keeps_execStartNest _ _ _ _ _ h
  | engHalt => exact keeps_execEngHalt _ _ _ _ _ h
  | engResume => exact keeps_execEngResume _ _ _ _ _ h
  | engStop => exact keeps_execEngStop _ _ _ _ _ _ h
  | clearq => exact keeps_execClearq _ _ _ _ _ h
  | engineDrainEnd => exact keeps_execEngineDrainEnd _ _ h
  | engineWatchdog => exact keeps_execEngineWatchdog _ _ h
  | aluAdd => exact keeps_execAluAdd _ _ _ h
  | aluSub => exact keeps_execAluSub _ _ _ h
  | aluAnd => exact keeps_execAluAnd _ _ _ h
  | aluOr => exact keeps_execAluOr _ _ _ h
  | aluXor => exact keeps_execAluXor _ _ _ h
  | shl => exact keeps_execShl _ _ _ h
  | shr => exact keeps_execShr _ _ _ h
  | sar => exact keeps_execSar _ _ _ h
  | mul => exact keeps_execMul _ _ _ h
  | mulhu => exact keeps_execMulhu _ _ _ h
  | minu => exact keeps_execMinu _ _ _ h
  | maxu => exact keeps_execMaxu _ _ _ h
  | mins => exact keeps_execMins _ _ _ h
  | maxs => exact keeps_execMaxs _ _ _ h
  | sltu => exact keeps_execSltu _ _ _ h
  | slt => exact keeps_execSlt _ _ _ h
  | ford => exact keeps_execFord _ _ _ h
  | popc => exact keeps_execPopc _ _ _ h
  | clz => exact keeps_execClz _ _ _ h
  | hash => exact keeps_execHash _ _ _ h
  | addi => exact keeps_execAddi _ _ _ h
  | andi => exact keeps_execAndi _ _ _ h
  | ori => exact keeps_execOri _ _ _ h
  | xori => exact keeps_execXori _ _ _ h
  | shli => exact keeps_execShli _ _ _ h
  | shri => exact keeps_execShri _ _ _ h
  | sari => exact keeps_execSari _ _ _ h
  | movk => exact keeps_execMovk _ _ _ h
  | ld => exact keeps_execLd _ _ _ h
  | st => exact keeps_execSt _ _ _ h
  | ldb => exact keeps_execLdb _ _ _ h
  | stb => exact keeps_execStb _ _ _ h
  | ldch => exact keeps_execLdch _ _ _ h
  | wadd => exact keeps_execWadd _ _ _ h
  | post => exact keeps_execPost _ _ _ h
  | beq => exact keeps_execBeq _ _ _ h
  | bne => exact keeps_execBne _ _ _ h
  | blt => exact keeps_execBlt _ _ _ h
  | bge => exact keeps_execBge _ _ _ h
  | bltu => exact keeps_execBltu _ _ _ h
  | bgeu => exact keeps_execBgeu _ _ _ h
  | jal => exact keeps_execJal _ _ _ h
  | jalr => exact keeps_execJalr _ _ _ h
  | mfs => exact keeps_execMfs _ _ _ h
  | texit => exact keeps_execTexit _ _ _ h
  | ldacq => exact keeps_execLdacq _ _ _ h
  | strel => exact keeps_execStrel _ _ _ h
  | fence => exact keeps_execFence _ _ _ h
  | amo64 => exact keeps_execAmo64 _ _ _ h
  | amo32 => exact keeps_execAmo32 _ _ _ h
  | walkerDataReturn => exact keeps_execWalkerDataReturn _ _ _ _ _ h
  | walkerStoreAck => exact keeps_execWalkerStoreAck _ _ _ _ h
  | taskStart => exact keeps_execTaskStart _ _ h
  | walkerFlip => exact keeps_execWalkerFlip _ _ h
  | taskWatchdog => exact keeps_execTaskWatchdog _ _ _ h
  | walkerCoreRestart => exact keeps_execWalkerCoreRestart _ _ _ _ h
  | kvPagePrepare => exact keeps_execKvPagePrepare _ _ _ h
  | kvPrepareDone => exact keeps_execKvPrepareDone _ _ h
  | submit => exact keeps_execSubmit _ h
  | submitMatchDone => exact keeps_execSubmitMatchDone _ _ _ h
  | cancel => exact keeps_execCancel _ h
  | pause => exact keeps_execPause _ h
  | reqResume => exact keeps_execReqResume _ h
  | release => exact keeps_execRelease _ h
  | setprio => exact keeps_execSetprio _ h
  | setdeadline => exact keeps_execSetdeadline _ h
  | setspec => exact keeps_execSetspec _ h
  | query => exact keeps_execQuery _ h
  | pin => exact keeps_execPin _ h
  | unpin => exact keeps_execUnpin _ h
  | cutterWrite => exact keeps_execCutterWrite _ h
  | cutterClear => exact keeps_execCutterClear _ h
  | stepStart => exact keeps_execStepStart _ _ h
  | draftPhaseDone => exact keeps_execDraftPhaseDone _ _ _ _ h
  | stepCommit => exact keeps_execStepCommit _ _ _ _ h
  | stepDiscard => exact keeps_execStepDiscard _ _ h
  | assign => exact keeps_execAssign _ _ h
  | quiesce => exact keeps_execQuiesce _ _ h
  | tenantResume => exact keeps_execTenantResume _ _ h
  | tenantReset => exact keeps_execTenantReset _ _ _ h
  | unassign => exact keeps_execUnassign _ _ h
  | tenantResetDone => exact keeps_execTenantResetDone _ _ h
  | apertureWrite => exact keeps_execApertureWrite _ _ _ _ h
  | slotLoad => exact keeps_execSlotLoad _ _ _ h
  | slotLoadDone => exact keeps_execSlotLoadDone _ _ _ _ h
  | slotUnload => exact keeps_execSlotUnload _ _ h
  | restoreFrameDone => exact keeps_execRestoreFrameDone _ _ _ _ h
  | restoreTimeout => exact keeps_execRestoreTimeout _ _ h
  | contextSwitch => exact keeps_execContextSwitch _ h
  | contextSwitchDone => exact keeps_execContextSwitchDone _ h
  | cadenceBoundary => exact keeps_execCadenceBoundary _ h
  | cadenceInEdge => exact keeps_execCadenceInEdge _ _ h
  | cadenceEdgeMissed => exact keeps_execCadenceEdgeMissed _ h
  | fabricCadenceTimeout => exact keeps_execFabricCadenceTimeout _ h
  | scheduleStep => exact keeps_execScheduleStep _ h
  | reservationLapse => exact keeps_execReservationLapse _ h
  | scheduleContext => exact keeps_execScheduleContext _ h
  | scheduleActivate => exact keeps_execScheduleActivate _ _ h
  | freqCorrection => exact keeps_execFreqCorrection _ _ h
  | ppsInPulse => exact keeps_execPpsInPulse _ _ h
  | ppsMissing => exact keeps_execPpsMissing _ h
  | ptpTimeWrite => exact keeps_execPtpTimeWrite _ _ h
  | ptpSyncSend => exact keeps_execPtpSyncSend _ h
  | ptpDelayReq => exact keeps_execPtpDelayReq _ _ _ h
  | ppsOutSecond => exact keeps_execPpsOutSecond _ h
  | flitReceive => exact keeps_execFlitReceive _ _ _ _ _ _ _ _ _ _ _ _ _ _ _ _ _ _ _ _ _ _ h
  | nakReceive => exact keeps_execNakReceive _ _ _ h
  | portRetrain => exact keeps_execPortRetrain _ _ h
  | portTrained => exact keeps_execPortTrained _ _ _ _ _ _ _ _ h
  | portDownExpire => exact keeps_execPortDownExpire _ _ h
  | fabricWrite => exact keeps_execFabricWrite _ h
  | fabricRead => exact keeps_execFabricRead _ h
  | fabricAdd => exact keeps_execFabricAdd _ h
  | rdata => exact keeps_execRdata _ h
  | ack => exact keeps_execAck _ h
  | nack => exact keeps_execNack _ h
  | linkstate => exact keeps_execLinkstate _ _ _ _ _ _ h
  | fabricRequestTimeout => exact keeps_execFabricRequestTimeout _ _ h
  | quarantineRelease => exact keeps_execQuarantineRelease _ _ _ h
  | collPost => exact keeps_execCollPost _ _ _ _ _ h
  | allreduce => exact keeps_execAllreduce _ h
  | allgather => exact keeps_execAllgather _ h
  | reducescatter => exact keeps_execReducescatter _ h
  | broadcast => exact keeps_execBroadcast _ h
  | collMessage => exact keeps_execCollMessage _ _ _ _ _ _ h
  | collComplete => exact keeps_execCollComplete _ h
  | collTimeout => exact keeps_execCollTimeout _ h
  | tandemEnableWrite => exact keeps_execTandemEnableWrite _ _ h
  | heartSend => exact keeps_execHeartSend _ h
  | heart => exact keeps_execHeart _ _ _ _ _ _ _ _ h
  | heartbeatTimeout => exact keeps_execHeartbeatTimeout _ h
  | tandemLost => exact keeps_execTandemLost _ h
  | tandemFenced => exact keeps_execTandemFenced _ h
  | withdraw => exact keeps_execWithdraw _ h
  | rejoin => exact keeps_execRejoin _ h
  | mirrorAdmit => exact keeps_execMirrorAdmit _ _ _ _ _ _ _ h
  | mirrorCommand => exact keeps_execMirrorCommand _ _ _ _ _ h
  | mirrorAppend => exact keeps_execMirrorAppend _ _ _ _ _ _ _ _ _ h
  | mirrorCommit => exact keeps_execMirrorCommit _ _ _ _ _ h
  | mirrorCutter => exact keeps_execMirrorCutter _ _ _ _ _ _ _ h
  | mirrorDict => exact keeps_execMirrorDict _ _ _ _ _ _ h
  | mirrorPrefix => exact keeps_execMirrorPrefix _ _ _ _ _ _ _ h
  | mirrorTime => exact keeps_execMirrorTime _ _ _ _ _ _ _ h
  | mirrorCatchup => exact keeps_execMirrorCatchup _ _ _ _ _ _ _ _ _ h
  | mirrorHandover => exact keeps_execMirrorHandover _ _ _ h
  | mirrorAck => exact keeps_execMirrorAck _ _ _ _ h
  | pairKeyAgree => exact keeps_execPairKeyAgree _ _ _ _ _ h
  | doorbell => exact keeps_execDoorbell _ _ _ _ h
  | ringEnable => exact keeps_execRingEnable _ _ _ _ h
  | ringDisable => exact keeps_execRingDisable _ _ _ h
  | ringDisableDone => exact keeps_execRingDisableDone _ _ _ h
  | ringEntryTake => exact keeps_execRingEntryTake _ _ h
  | ringAccessFail => exact keeps_execRingAccessFail _ _ _ h
  | ipendClear => exact keeps_execIpendClear _ _ _ _ _ h
  | itargetWrite => exact keeps_execItargetWrite _ _ _ _ _ h
  | winWrite => exact keeps_execWinWrite _ _ _ _ h
  | bar2Access => exact keeps_execBar2Access _ _ _ _ _ _ h
  | bar0BadAccess => exact keeps_execBar0BadAccess _ _ _ h
  | msixUnmask => exact keeps_execMsixUnmask _ _ _ h
  | flr => exact keeps_execFlr _ _ h
  | hostLinkDown => exact keeps_execHostLinkDown _ h
  | perstNAssert => exact keeps_execPerstNAssert _ h
  | l0pWidthChange => exact keeps_execL0pWidthChange _ _ _ _ h
  | gpiEdge => exact keeps_execGpiEdge _ _ _ h
  | inputGlitch => exact keeps_execInputGlitch _ _ h
  | hello => exact keeps_execHello _ _ _ _ _ h
  | prove => exact keeps_execProve _ _ _ _ _ h
  | handshakeExpire => exact keeps_execHandshakeExpire _ _ h
  | nirnarRead => exact keeps_execNirnarRead _ _ _ _ _ h
  | nirnarWrite => exact keeps_execNirnarWrite _ _ _ _ _ _ _ h
  | subscribe => exact keeps_execSubscribe _ _ _ _ _ h
  | unsubscribe => exact keeps_execUnsubscribe _ _ _ _ _ h
  | notify => exact keeps_execNotify _ _ _ _ h
  | notifyAck => exact keeps_execNotifyAck _ _ _ _ _ h
  | notifyResend => exact keeps_execNotifyResend _ _ _ h
  | nirnarAbort => exact keeps_execNirnarAbort _ _ _ _ _ h
  | close => exact keeps_execClose _ _ _ _ _ h
  | keepalive => exact keeps_execKeepalive _ _ _ _ _ h
  | sessionIdle => exact keeps_execSessionIdle _ _ h
  | snapshotExpire => exact keeps_execSnapshotExpire _ _ _ h
  | stagingExpire => exact keeps_execStagingExpire _ _ _ h
  | presence => exact keeps_execPresence _ _ _ _ _ h
  | presenceSend => exact keeps_execPresenceSend _ h
  | prpSupervisionSend => exact keeps_execPrpSupervisionSend _ h
  | arpRequest => exact keeps_execArpRequest _ _ _ _ _ _ _ h
  | neighbourSolicitation => exact keeps_execNeighbourSolicitation _ _ _ _ _ _ h
  | icmpEcho => exact keeps_execIcmpEcho _ _ _ _ _ _ _ _ h
  | dictCmdRead => exact keeps_execDictCmdRead _ _ _ _ _ h
  | dictCmdWrite => exact keeps_execDictCmdWrite _ _ _ _ _ _ _ _ h
  | dictWrite => exact keeps_execDictWrite _ _ _ _ h
  | journalWriteDone => exact keeps_execJournalWriteDone _ _ h
  | regWrite => exact keeps_execRegWrite _ _ _ _ _ _ _ _ _ h
  | arbiterEpoch => exact keeps_execArbiterEpoch _ h
  | pmbusPoll => exact keeps_execPmbusPoll _ _ h
  | sensorScan => rw [exec_sensorScan]; exact keeps_execSensorScan _ _ h
  | dieCapUpdate => exact keeps_execDieCapUpdate _ h
  | vrefCorrection => exact keeps_execVrefCorrection _ h
  | thermalHoldEnd => exact keeps_execThermalHoldEnd _ h
  | pwrgdRise => exact keeps_execPwrgdRise _ h
  | pwrgdFall => exact keeps_execPwrgdFall _ h
  | resetToRom => exact keeps_execResetToRom _ h
  | romBootDone => exact keeps_execRomBootDone _ _ _ h
  | configDone => exact keeps_execConfigDone _ h
  | sysrefLoss => exact keeps_execSysrefLoss _ h
  | deviceResetCmd => exact keeps_execDeviceResetCmd _ h
  | deviceEnterTest => exact keeps_execDeviceEnterTest _ h
  | leaveTest => exact keeps_execLeaveTest _ h
  | deviceStartService => exact keeps_execDeviceStartService _ h
  | stopService => exact keeps_execStopService _ h
  | selftestUnitStart => exact keeps_execSelftestUnitStart _ _ _ h
  | selftestUnitDone => exact keeps_execSelftestUnitDone _ _ _ _ _ _ _ _ h
  | selftestRetry => exact keeps_execSelftestRetry _ _ _ h
  | runRequest => exact keeps_execRunRequest _ _ h
  | runDone => exact keeps_execRunDone _ h
  | coreHeartbeatCheck => exact keeps_execCoreHeartbeatCheck _ _ _ h
  | serviceCoreRestartDone => exact keeps_execServiceCoreRestartDone _ _ h
  | serviceCoresDead => exact keeps_execServiceCoresDead _ h
  | deviceRecovery => exact keeps_execDeviceRecovery _ h
  | recoveryDone => exact keeps_execRecoveryDone _ h
  | recoveryTimeout => exact keeps_execRecoveryTimeout _ h
  | fatalReset => exact keeps_execFatalReset _ h
  | recoveryWindowClose => exact keeps_execRecoveryWindowClose _ h
  | faultSummaryWrite => exact keeps_execFaultSummaryWrite _ _ h
  | ringClear => exact keeps_execRingClear _ _ h
  | healthHourly => exact keeps_execHealthHourly _ _ _ _ h
  | eyeScan => exact keeps_execEyeScan _ _ h
  | retentionProbe => exact keeps_execRetentionProbe _ _ h
  | retentionHoldEnd => exact keeps_execRetentionHoldEnd _ _ _ h
  | dailyPoint => exact keeps_execDailyPoint _ h
  | rebaseLinks => exact keeps_execRebaseLinks _ _ h
  | getVersion => exact keeps_execGetVersion _ _ h
  | getCapabilities => exact keeps_execGetCapabilities _ _ _ h
  | negotiateAlgorithms => exact keeps_execNegotiateAlgorithms _ _ _ _ _ _ _ h
  | getDigests => exact keeps_execGetDigests _ _ h
  | getCertificate => exact keeps_execGetCertificate _ _ _ _ _ h
  | spdmChallenge => exact keeps_execSpdmChallenge _ _ _ _ h
  | getMeasurements => exact keeps_execGetMeasurements _ _ _ _ _ h
  | keyExchange => exact keeps_execKeyExchange _ _ _ _ h
  | finish => exact keeps_execFinish _ _ _ _ h
  | keyUpdate => exact keeps_execKeyUpdate _ _ _ _ h
  | spdmHeartbeat => exact keeps_execSpdmHeartbeat _ _ _ h
  | endSession => exact keeps_execEndSession _ _ _ h
  | vendorDefined => exact keeps_execVendorDefined _ _ _ _ _ _ _ h
  | quoteNonceWrite => exact keeps_execQuoteNonceWrite _ _ _ _ h
  | quoteRead => exact keeps_execQuoteRead _ _ _ h
  | stageManifest => exact keeps_execStageManifest _ _ h
  | chunk => exact keeps_execChunk _ _ _ h
  | updateVerifyDone => exact keeps_execUpdateVerifyDone _ h
  | activate => exact keeps_execActivate _ h
  | updateCancel => exact keeps_execUpdateCancel _ h
  | activationDone => exact keeps_execActivationDone _ h
  | activationFailed => exact keeps_execActivationFailed _ _ h
  | confirm => exact keeps_execConfirm _ _ h
  | recoveryData => exact keeps_execRecoveryData _ _ _ _ h
  | recoveryDatagram => exact keeps_execRecoveryDatagram _ _ h
  | recoveryStatusRequest => exact keeps_execRecoveryStatusRequest _ h
  | recoveryPackageCheck => exact keeps_execRecoveryPackageCheck _ h
  | slotSigningKeyWrite => exact keeps_execSlotSigningKeyWrite _ _ _ h
  | entdaa => exact keeps_execEntdaa _ _ h
  | pldmBaseDiscovery => exact keeps_execPldmBaseDiscovery _ _ _ _ h
  | pldmSensorRead => exact keeps_execPldmSensorRead _ _ _ h
  | pldmFruRead => exact keeps_execPldmFruRead _ _ h
  | bypass => exact keeps_execBypass _ h
  | idcode => exact keeps_execIdcode _ h
  | samplePreload => exact keeps_execSamplePreload _ _ _ h
  | extest => exact keeps_execExtest _ h
  | clamp => exact keeps_execClamp _ h
  | highz => exact keeps_execHighz _ h
  | extestPulse => exact keeps_execExtestPulse _ h
  | extestTrain => exact keeps_execExtestTrain _ h
  | hostLinkUp => exact keeps_execHostLinkUp _ _ _ h
  | perstNRelease => exact keeps_execPerstNRelease _ h
  | pcieConfigWrite => exact keeps_execPcieConfigWrite _ _ _ _ h
  | portLossOfSignal => exact keeps_execPortLossOfSignal _ _ h
  | mirrorTimeout => exact keeps_execMirrorTimeout _ h
  | serviceCoreFault => exact keeps_execServiceCoreFault _ _ h
  | grandmasterAnnounce => exact keeps_execGrandmasterAnnounce _ _ _ _ h
  | withdrawWaitExpire => exact keeps_execWithdrawWaitExpire _ h

/-- A step keeps every memory in its canonical form, and leaves the rest of the queue waiting. -/
theorem keepsRes_step {s : State} (h : Memory.wf s = true) : KeepsRes s.pending.tail (step s) := by
  cases hq : s.pending with
  | nil =>
    rw [step, hq]
    exact keeps_idle s ⟨hq, h⟩
  | cons c rest =>
    rw [step, hq]
    exact keepsRes_exec (keeps_pending ⟨rfl, h⟩ rest) c

/-- Settles O5: every command keeps the canonical form, and so does an idle nanosecond. -/
theorem memoryStaysCanonical : Obligations.MemoryStaysCanonical := fun _ _ hwf hstep =>
  have ⟨_, hcanonical⟩ := keeps_of_next (keepsRes_step hwf) hstep
  hcanonical

end Sys2Proof.Laws
end

section
/-! The field of the word code: multiplication by powers of α, and sums over positions. -/

namespace Sys2Proof.Laws

open Sys2Proof Sys2Proof.Machine

/-! ### Multiplication by a power of α -/

theorem xor_lt_byte {a b : Nat} (ha : a < 256) (hb : b < 256) : a ^^^ b < 256 := Nat.xor_lt_two_pow (n := 8) ha hb

theorem gfX_lt {a : Nat} (ha : a < 256) : gfX a < 256 := by
  revert a
  decide +kernel

/-- The bit that leaves the byte comes back as the field's polynomial (R204). -/
theorem gfX_eq_xor {a : Nat} (ha : a < 256) : gfX a = 2 * a ^^^ a / 128 * 0x11D := by
  unfold gfX
  split
  · next h => simp [Nat.div_eq_of_lt h]
  · have h1 : a / 128 = 1 := by omega
    rw [h1]

theorem gfX_xor {a b : Nat} (ha : a < 256) (hb : b < 256) : gfX (a ^^^ b) = gfX a ^^^ gfX b := by
  have hdouble : 2 * (a ^^^ b) = 2 * a ^^^ 2 * b := by
    simpa [Nat.shiftLeft_eq, Nat.mul_comm] using Nat.shiftLeft_xor_distrib (i := 1) (a := a) (b := b)
  have htop : (a ^^^ b) / 128 * 0x11D = a / 128 * 0x11D ^^^ b / 128 * 0x11D := by
    have hbits : ∀ x < 2, ∀ y < 2, (x ^^^ y) * 0x11D = x * 0x11D ^^^ y * 0x11D := by decide
    rw [Nat.xor_div_two_pow (n := 7)]
    exact hbits _ (by omega) _ (by omega)
  rw [gfX_eq_xor ha, gfX_eq_xor hb, gfX_eq_xor (xor_lt_byte ha hb), hdouble, htop]
  ac_rfl

theorem gfX_eq_zero {a : Nat} (h : gfX a = 0) : a = 0 := by
  unfold gfX at h
  split at h
  · omega
  · rw [Nat.xor_eq_zero_iff] at h
    omega

theorem gfXn_eq_iterate (n a : Nat) : gfXn n a = gfX^[n] a := by
  induction n generalizing a with
  | zero => rfl
  | succ n ih => exact ih (gfX a)

theorem gfXn_add (m n a : Nat) : gfXn (m + n) a = gfXn m (gfXn n a) := by
  simp only [gfXn_eq_iterate, Function.iterate_add_apply]

theorem gfXn_lt (n : Nat) {a : Nat} (ha : a < 256) : gfXn n a < 256 := by
  induction n generalizing a with
  | zero => exact ha
  | succ n ih => exact ih (gfX_lt ha)

theorem gfXn_xor (n : Nat) {a b : Nat} (ha : a < 256) (hb : b < 256) : gfXn n (a ^^^ b) = gfXn n a ^^^ gfXn n b := by
  induction n generalizing a b with
  | zero => rfl
  | succ n ih => rw [gfXn, gfX_xor ha hb, ih (gfX_lt ha) (gfX_lt hb)]; rfl

@[simp] theorem gfXn_of_zero (n : Nat) : gfXn n 0 = 0 := by
  induction n with
  | zero => rfl
  | succ n ih => exact ih

theorem gfXn_eq_zero {n a : Nat} (h : gfXn n a = 0) : a = 0 := by
  induction n generalizing a with
  | zero => exact h
  | succ n ih => exact gfX_eq_zero (ih h)

/-- No power of α below the 36th, but the 0th, leaves an element other than 0 where it is. -/
theorem not_mem_iterate_gfX : ∀ v < 256, v ≠ 0 → v ∉ List.iterate gfX (gfX v) 35 := by decide +kernel

theorem gfXn_ne_self {n v : Nat} (hpos : 0 < n) (hn : n < 36) (hv : v < 256) (hne : v ≠ 0) : gfXn n v ≠ v := by
  obtain ⟨m, rfl⟩ : ∃ m, n = m + 1 := ⟨n - 1, by omega⟩
  intro h
  refine not_mem_iterate_gfX v hv hne (List.mem_iterate.2 ⟨m, by omega, ?_⟩)
  rw [← gfXn_eq_iterate]
  exact h.symm

/-- The powers of α that the positions carry are distinct, so that an element on which two of them agree is 0. -/
theorem eq_zero_of_gfXn_eq {m n v : Nat} (hmn : m < n) (hn : n < 36) (hv : v < 256) (h : gfXn m v = gfXn n v) : v = 0 := by
  by_contra hne
  have hsplit : gfXn n v = gfXn m (gfXn (n - m) v) := by rw [← gfXn_add]; congr 1; omega
  have hzero : gfXn m (v ^^^ gfXn (n - m) v) = 0 := by rw [gfXn_xor m hv (gfXn_lt _ hv), ← hsplit, h, Nat.xor_self]
  exact gfXn_ne_self (by omega) (by omega) hv hne (Nat.xor_eq_zero_iff.1 (gfXn_eq_zero hzero)).symm

/-! ### Sums over positions -/

/-- The field's sum of `f` over a list of positions. -/
def xorSum (f : Nat → Nat) (l : List Nat) : Nat := l.foldr (fun s a => f s ^^^ a) 0

variable {f g : Nat → Nat} {l : List Nat}

@[simp] theorem xorSum_nil : xorSum f [] = 0 := rfl
@[simp] theorem xorSum_cons (s : Nat) : xorSum f (s :: l) = f s ^^^ xorSum f l := rfl

theorem xorSum_append (l' : List Nat) : xorSum f (l ++ l') = xorSum f l ^^^ xorSum f l' := by
  induction l with
  | nil => simp
  | cons s l ih => simp [ih, Nat.xor_assoc]

theorem foldl_xor_eq_xorSum (a : Nat) : l.foldl (fun a s => a ^^^ f s) a = a ^^^ xorSum f l := by
  induction l generalizing a with
  | nil => simp
  | cons s l ih => simp [ih, Nat.xor_assoc]

theorem xorSum_map (h : Nat → Nat) : xorSum f (l.map h) = xorSum (fun s => f (h s)) l := by
  simp only [xorSum, List.foldr_map]

theorem xorSum_perm {l' : List Nat} (h : l.Perm l') : xorSum f l = xorSum f l' :=
  h.foldr_eq (f := fun s a => f s ^^^ a) (lcomm := ⟨fun _ _ _ => Nat.xor_left_comm ..⟩) 0

theorem xorSum_congr (h : ∀ s ∈ l, f s = g s) : xorSum f l = xorSum g l := by
  induction l with
  | nil => rfl
  | cons s l ih => rw [xorSum_cons, xorSum_cons, h s (.head _), ih fun t ht => h t (.tail _ ht)]

theorem xorSum_xor : xorSum (fun s => f s ^^^ g s) l = xorSum f l ^^^ xorSum g l := by
  induction l with
  | nil => simp
  | cons s l ih => simp only [xorSum_cons, ih]; ac_rfl

theorem xorSum_lt (h : ∀ s, f s < 256) : xorSum f l < 256 := by
  induction l with
  | nil => exact Nat.zero_lt_succ _
  | cons s l ih => exact xor_lt_byte (h s) ih

theorem gfXn_xorSum (n : Nat) (h : ∀ s, f s < 256) : gfXn n (xorSum f l) = xorSum (fun s => gfXn n (f s)) l := by
  induction l with
  | nil => simp
  | cons s l ih => rw [xorSum_cons, gfXn_xor n (h s) (xorSum_lt h), ih, xorSum_cons]

theorem xorSum_eq_zero (h : ∀ s ∈ l, f s = 0) : xorSum f l = 0 := by
  induction l with
  | nil => rfl
  | cons s l ih => rw [xorSum_cons, h s (.head _), ih fun t ht => h t (.tail _ ht)]; rfl

/-- Terms that are 0 may be left out. -/
theorem xorSum_filter (p : Nat → Bool) (h : ∀ s ∈ l, p s = false → f s = 0) : xorSum f (l.filter p) = xorSum f l := by
  induction l with
  | nil => rfl
  | cons s l ih =>
    have hl := ih fun t ht => h t (.tail _ ht)
    rw [List.filter_cons]
    split
    · rw [xorSum_cons, xorSum_cons, hl]
    · next hp => rw [xorSum_cons, h s (.head _) (by simpa using hp), hl, Nat.zero_xor]

/-! ### The distance of the code -/

/-- As many sums of powers as there are positions, all 0, leave no position other than 0: a sum is freed of its first position by taking the
first position's power of α times each sum from the next one. -/
theorem eq_zero_of_powerSums {v : Nat → Nat} (hv : ∀ s, v s < 256) (hl : ∀ s ∈ l, symDeg s < 36)
    (hnodup : (l.map symDeg).Nodup) (h : ∀ k < l.length, xorSum (fun s => gfXn (k * symDeg s) (v s)) l = 0) : ∀ s ∈ l, v s = 0 := by
  induction l generalizing v with
  | nil => exact fun _ hs => absurd hs List.not_mem_nil
  | cons a l ih =>
    rw [List.map_cons, List.nodup_cons] at hnodup
    have hrest : ∀ s ∈ l, v s = 0 := by
      intro s hs
      have hfreed := ih (v := fun s => gfXn (symDeg s) (v s) ^^^ gfXn (symDeg a) (v s))
        (fun s => xor_lt_byte (gfXn_lt _ (hv s)) (gfXn_lt _ (hv s))) (fun s hs => hl s (.tail _ hs)) hnodup.2 ?sums s hs
      case sums =>
        intro k hk
        have hterm : ∀ s, gfXn (k * symDeg s) (gfXn (symDeg s) (v s) ^^^ gfXn (symDeg a) (v s)) =
            gfXn ((k + 1) * symDeg s) (v s) ^^^ gfXn (symDeg a) (gfXn (k * symDeg s) (v s)) := fun s => by
          rw [gfXn_xor _ (gfXn_lt _ (hv s)) (gfXn_lt _ (hv s)), ← gfXn_add, ← gfXn_add, ← gfXn_add, Nat.succ_mul, Nat.add_comm (symDeg a)]
        calc xorSum (fun s => gfXn (k * symDeg s) (gfXn (symDeg s) (v s) ^^^ gfXn (symDeg a) (v s))) l
            = xorSum (fun s => gfXn (k * symDeg s) (gfXn (symDeg s) (v s) ^^^ gfXn (symDeg a) (v s))) (a :: l) := by simp
          _ = xorSum (fun s => gfXn ((k + 1) * symDeg s) (v s)) (a :: l) ^^^
                gfXn (symDeg a) (xorSum (fun s => gfXn (k * symDeg s) (v s)) (a :: l)) := by
              rw [gfXn_xorSum _ fun s => gfXn_lt _ (hv s), ← xorSum_xor]
              exact xorSum_congr fun s _ => hterm s
          _ = 0 := by rw [h (k + 1) (Nat.succ_lt_succ hk), h k (Nat.lt_succ_of_lt hk), gfXn_of_zero, Nat.xor_self]
      have heq := Nat.xor_eq_zero_iff.1 hfreed
      have hne : symDeg s ≠ symDeg a := fun e => hnodup.1 (e ▸ List.mem_map_of_mem hs)
      rcases Nat.lt_or_gt_of_ne hne with hlt | hgt
      · exact eq_zero_of_gfXn_eq hlt (hl a (.head _)) (hv s) heq
      · exact eq_zero_of_gfXn_eq hgt (hl s (.tail _ hs)) (hv s) heq.symm
    have hfirst := h 0 (Nat.succ_pos _)
    intro s hs
    rcases List.mem_cons.1 hs with rfl | hs
    · simpa [gfXn, xorSum_eq_zero hrest] using hfirst
    · exact hrest s hs

end Sys2Proof.Laws
end

section
/-! Codewords of the word code: their symbols, the syndromes, the encoder and what a decode answers. -/

namespace Sys2Proof.Laws

open Sys2Proof Sys2Proof.Machine

/-! ### Symbols -/

theorem symAt_lt (c : Code288) (s : Nat) : symAt c s < 256 := Nat.mod_lt _ (by decide)

theorem symAt_xor (a b : Code288) (s : Nat) : symAt (a ^^^ b) s = symAt a s ^^^ symAt b s := by
  simp only [symAt, BitVec.toNat_xor]
  rw [Nat.xor_div_two_pow, Nat.xor_mod_two_pow (n := 8)]

theorem symAt_or (a b : Code288) (s : Nat) : symAt (a ||| b) s = symAt a s ||| symAt b s := by
  simp only [symAt, BitVec.toNat_or]
  rw [Nat.or_div_two_pow, Nat.or_mod_two_pow (n := 8)]

/-- A bit of a codeword is a bit of its symbol. -/
theorem testBit_symAt (c : Code288) (s i : Nat) : (symAt c s).testBit i = (decide (i < 8) && c.getLsbD (8 * s + i)) := by
  rw [symAt, Nat.testBit_mod_two_pow (j := 8), Nat.testBit_div_two_pow, BitVec.testBit_toNat, Nat.add_comm i]

theorem eq_of_symAt {a b : Code288} (h : ∀ s < 36, symAt a s = symAt b s) : a = b := by
  refine BitVec.eq_of_getLsbD_eq fun i hi => ?_
  have hsym := congrArg (Nat.testBit · (i % 8)) (h (i / 8) (by omega))
  simpa [testBit_symAt, Nat.mod_lt, Nat.div_add_mod] using hsym

/-- The word that holds a number of whole symbols from a position on. -/
theorem symAt_shifted {v n t : Nat} (hv : v < 2 ^ (8 * n)) (hend : t + n ≤ 36) (s : Nat) :
    symAt (BitVec.ofNat 288 (v * 2 ^ (8 * t))) s = if t ≤ s then v / 2 ^ (8 * (s - t)) % 256 else 0 := by
  have hlt : v * 2 ^ (8 * t) < 2 ^ (8 * (t + n)) := calc
    v * 2 ^ (8 * t) < 2 ^ (8 * n) * 2 ^ (8 * t) := Nat.mul_lt_mul_of_pos_right hv (Nat.two_pow_pos _)
    _ = 2 ^ (8 * (t + n)) := by rw [← Nat.pow_add]; congr 1; omega
  rw [symAt, BitVec.toNat_ofNat, Nat.mod_eq_of_lt (hlt.trans_le (Nat.pow_le_pow_right (j := 288) (by decide) (by omega)))]
  split
  · next hle =>
    have hpow : 2 ^ (8 * s) = 2 ^ (8 * t) * 2 ^ (8 * (s - t)) := by rw [← Nat.pow_add]; congr 1; omega
    rw [hpow, ← Nat.div_div_eq_div_mul, Nat.mul_div_cancel _ (Nat.two_pow_pos _)]
  · next hlt =>
    have hpow : 2 ^ (8 * t) = 2 ^ (8 * s) * (256 * 2 ^ (8 * (t - s - 1))) := by
      rw [show 256 = 2 ^ 8 from rfl, ← Nat.pow_add, ← Nat.pow_add]; congr 1; omega
    rw [hpow, Nat.mul_left_comm, Nat.mul_div_cancel_left _ (Nat.two_pow_pos _), Nat.mul_left_comm, Nat.mul_mod_right]

/-- Adding an error value to a position changes that symbol only. -/
theorem symAt_symXor (c : Code288) {s e : Nat} (hs : s < 36) (he : e < 256) (t : Nat) :
    symAt (symXor c s e) t = symAt c t ^^^ if t = s then e else 0 := by
  rw [symXor, symAt_xor, symAt_shifted (n := 1) he (by omega)]
  congr 1
  rcases Nat.lt_trichotomy t s with h | rfl | h
  · rw [if_neg (by omega), if_neg (by omega)]
  · simp [Nat.mod_eq_of_lt he]
  · have hpow : 256 ≤ 2 ^ (8 * (t - s)) := Nat.pow_le_pow_right (n := 2) (i := 8) (by decide) (by omega)
    rw [if_pos (by omega), if_neg (by omega), Nat.div_eq_of_lt (by omega), Nat.zero_mod]

theorem symXor_symXor (c : Code288) (s e : Nat) : symXor (symXor c s e) s e = c := by
  simp [symXor]

/-! ### Positions that differ -/

theorem mem_symDiff {a b : Code288} {s : Nat} : s ∈ symDiff a b ↔ s < 36 ∧ symAt a s ≠ symAt b s := by
  simp [symDiff]

theorem symDiff_nodup (a b : Code288) : (symDiff a b).Nodup := List.nodup_range.filter _

theorem eq_of_symDiff_eq_nil {a b : Code288} (h : symDiff a b = []) : a = b := by
  refine eq_of_symAt fun s hs => ?_
  by_contra hne
  exact absurd (mem_symDiff.2 ⟨hs, hne⟩) (h ▸ List.not_mem_nil)

theorem symDiff_self (a : Code288) : symDiff a a = [] := by simp [symDiff]

theorem symDiff_symXor (a : Code288) {s e : Nat} (hs : s < 36) (he : e < 256) (hne : e ≠ 0) : symDiff a (symXor a s e) = [s] := by
  refine List.perm_singleton.1 ((List.perm_ext_iff_of_nodup (symDiff_nodup ..) (List.nodup_singleton s)).2 fun t => ?_)
  rw [mem_symDiff, symAt_symXor a hs he, List.mem_singleton]
  by_cases hts : t = s
  · have hdiff : symAt a s ≠ symAt a s ^^^ e := fun h => hne (Nat.xor_right_inj.1 (h.symm.trans (Nat.xor_zero _).symm))
    simp [hts, hs, hdiff]
  · simp [hts]

/-- A word that differs from another in one position is that one with an error value added there. -/
theorem eq_symXor_of_symDiff_eq {a c : Code288} {s : Nat} (h : symDiff a c = [s]) : c = symXor a s (symAt a s ^^^ symAt c s) := by
  have hs : s < 36 := (mem_symDiff.1 (h ▸ List.mem_singleton_self s)).1
  refine eq_of_symAt fun t ht => ?_
  rw [symAt_symXor a hs (xor_lt_byte (symAt_lt ..) (symAt_lt ..))]
  split
  · next heq => rw [heq, ← Nat.xor_assoc, Nat.xor_self, Nat.zero_xor]
  · next hne =>
    by_contra hdiff
    have : t ∈ symDiff a c := mem_symDiff.2 ⟨ht, fun e => hdiff (by rw [e, Nat.xor_zero])⟩
    exact hne (List.mem_singleton.1 (h ▸ this))

/-- An error value added to one position changes at most one position more. -/
theorem length_symDiff_symXor_le (a c : Code288) {s e : Nat} (hs : s < 36) (he : e < 256) :
    (symDiff a (symXor c s e)).length ≤ (symDiff a c).length + 1 := by
  have hsub : symDiff a (symXor c s e) ⊆ s :: symDiff a c := by
    intro t ht
    rw [mem_symDiff, symAt_symXor c hs he] at ht
    by_cases hts : t = s
    · exact hts ▸ .head _
    · rw [if_neg hts, Nat.xor_zero] at ht
      exact .tail _ (mem_symDiff.2 ht)
  exact ((symDiff_nodup ..).subperm hsub).length_le

/-! ### Syndromes -/

theorem symDeg_symOfDeg {d : Nat} (hd : d < 36) : symDeg (symOfDeg d) = d := by
  unfold symDeg symOfDeg
  split <;> split <;> omega

theorem symOfDeg_symDeg {s : Nat} (hs : s < 36) : symOfDeg (symDeg s) = s := by
  unfold symDeg symOfDeg
  split <;> split <;> omega

theorem symDeg_lt {s : Nat} (hs : s < 36) : symDeg s < 36 := by
  unfold symDeg
  split <;> omega

theorem symOfDeg_lt {d : Nat} (hd : d < 36) : symOfDeg d < 36 := by
  unfold symOfDeg
  split <;> omega

/-- Horner's evaluation is the sum of the symbols times their powers. -/
theorem synAux_eq (c : Code288) (k n : Nat) {acc : Nat} (hacc : acc < 256) :
    synAux c k n acc = gfXn (k * n) acc ^^^ xorSum (fun d => gfXn (k * d) (symAt c (symOfDeg d))) (List.range n) := by
  induction n generalizing acc with
  | zero => simp [synAux, gfXn]
  | succ n ih =>
    have hsym := symAt_lt c (symOfDeg n)
    rw [synAux, ih (xor_lt_byte (gfXn_lt _ hacc) hsym), gfXn_xor _ (gfXn_lt _ hacc) hsym, ← gfXn_add, List.range_succ,
      xorSum_append, xorSum_cons, xorSum_nil, Nat.xor_zero, Nat.mul_succ]
    ac_rfl

/-- A syndrome is the sum over the positions of the symbol times α^(k·degree) (R204, R207). -/
theorem syndrome_eq_xorSum (c : Code288) (k : Nat) :
    syndrome c k = xorSum (fun s => gfXn (k * symDeg s) (symAt c s)) (List.range 36) := by
  have hperm : (List.range 36).Perm ((List.range 36).map symDeg) := by decide
  rw [syndrome, synAux_eq c k 36 (by decide), gfXn_of_zero, Nat.zero_xor, xorSum_perm hperm, xorSum_map]
  exact xorSum_congr fun s hs => by rw [symOfDeg_symDeg (List.mem_range.1 hs)]

theorem syndrome_xor (a b : Code288) (k : Nat) : syndrome (a ^^^ b) k = syndrome a k ^^^ syndrome b k := by
  simp only [syndrome_eq_xorSum, symAt_xor, gfXn_xor _ (symAt_lt _ _) (symAt_lt _ _), xorSum_xor]

theorem syndrome_lt (c : Code288) (k : Nat) : syndrome c k < 256 := by
  rw [syndrome_eq_xorSum]
  exact xorSum_lt fun s => gfXn_lt _ (symAt_lt ..)

/-- An error value at one position adds itself, times its power, to a syndrome. -/
theorem syndrome_symXor (c : Code288) {s e : Nat} (hs : s < 36) (he : e < 256) (k : Nat) :
    syndrome (symXor c s e) k = syndrome c k ^^^ gfXn (k * symDeg s) e := by
  have hsingle : (List.range 36).filter (fun t => t == s) = [s] := by
    rw [List.filter_beq, List.count_eq_one_of_mem List.nodup_range (List.mem_range.2 hs)]
    rfl
  have herror : xorSum (fun t => gfXn (k * symDeg t) (if t = s then e else 0)) (List.range 36) = gfXn (k * symDeg s) e := by
    rw [← xorSum_filter (fun t => t == s) (fun t _ ht => by simp at ht; simp [ht]), hsingle]
    simp
  have hterm : ∀ t, (if t = s then e else 0) < 256 := fun t => by split <;> omega
  simp only [syndrome_eq_xorSum, symAt_symXor c hs he, gfXn_xor _ (symAt_lt _ _) (hterm _), xorSum_xor, herror]

/-! ### Codewords -/

/-- A codeword: its polynomial vanishes at α^0 to α^3 (R204). -/
def IsCodeword (c : Code288) : Prop := ∀ k < 4, syndrome c k = 0

theorem isCodeword_iff {c : Code288} :
    IsCodeword c ↔ syndrome c 0 = 0 ∧ syndrome c 1 = 0 ∧ syndrome c 2 = 0 ∧ syndrome c 3 = 0 := by
  refine ⟨fun h => ⟨h 0 (by decide), h 1 (by decide), h 2 (by decide), h 3 (by decide)⟩, fun ⟨h0, h1, h2, h3⟩ k hk => ?_⟩
  match k, hk with
  | 0, _ => exact h0
  | 1, _ => exact h1
  | 2, _ => exact h2
  | 3, _ => exact h3

/-- Codewords that differ in at most four positions are equal (R208). -/
theorem IsCodeword.eq_of_length_symDiff_le {a b : Code288} (ha : IsCodeword a) (hb : IsCodeword b) (h : (symDiff a b).length ≤ 4) :
    a = b := by
  have hdeg : ∀ s ∈ symDiff a b, symDeg s < 36 := fun s hs => symDeg_lt (mem_symDiff.1 hs).1
  have hnodup : ((symDiff a b).map symDeg).Nodup :=
    (symDiff_nodup a b).map_on fun s hs t ht e => by
      rw [← symOfDeg_symDeg (mem_symDiff.1 hs).1, e, symOfDeg_symDeg (mem_symDiff.1 ht).1]
  have hzero := eq_zero_of_powerSums (v := symAt (a ^^^ b)) (symAt_lt _) hdeg hnodup fun k hk => by
    rw [symDiff, xorSum_filter _ fun s _ hs => ?_, ← syndrome_eq_xorSum, syndrome_xor, ha k (by omega), hb k (by omega), Nat.xor_self]
    have heq : symAt a s = symAt b s := by simpa using hs
    rw [symAt_xor, heq, Nat.xor_self, gfXn_of_zero]
  refine eq_of_symDiff_eq_nil (List.eq_nil_iff_forall_not_mem.2 fun s hs => (mem_symDiff.1 hs).2 ?_)
  rw [← Nat.xor_eq_zero_iff, ← symAt_xor]
  exact hzero s hs

end Sys2Proof.Laws
end

section
/-! The encoder of the word code, what a decode answers, and the statements about the code. -/

namespace Sys2Proof.Laws

open Sys2Proof Sys2Proof.Machine

/-! ### The division that finds the check symbols -/

theorem gfMulAux_lt (n : Nat) {a : Nat} (b : Nat) (ha : a < 256) : gfMulAux n a b < 256 := by
  induction n generalizing a b with
  | zero => exact Nat.zero_lt_succ _
  | succ n ih =>
    refine xor_lt_byte ?_ (ih (b / 2) (gfX_lt ha))
    split
    · exact ha
    · exact Nat.zero_lt_succ _

theorem gfMul_lt {a : Nat} (b : Nat) (ha : a < 256) : gfMul a b < 256 := gfMulAux_lt 8 b ha

/-- A remainder's four symbols are elements of the field. -/
def RemainderOk (r : Nat × Nat × Nat × Nat) : Prop := r.1 < 256 ∧ r.2.1 < 256 ∧ r.2.2.1 < 256 ∧ r.2.2.2 < 256

/-- The value of a remainder at α^k. -/
def remainderAt (k : Nat) (r : Nat × Nat × Nat × Nat) : Nat :=
  r.1 ^^^ gfXn k r.2.1 ^^^ gfXn (2 * k) r.2.2.1 ^^^ gfXn (3 * k) r.2.2.2

theorem remainderAt_lt (k : Nat) {r : Nat × Nat × Nat × Nat} (hr : RemainderOk r) : remainderAt k r < 256 := by
  obtain ⟨h0, h1, h2, h3⟩ := hr
  exact xor_lt_byte (xor_lt_byte (xor_lt_byte h0 (gfXn_lt k h1)) (gfXn_lt _ h2)) (gfXn_lt _ h3)

/-- Multiplying a remainder by α^k raises each symbol's power by one. -/
theorem gfXn_remainderAt (k : Nat) {r : Nat × Nat × Nat × Nat} (hr : RemainderOk r) :
    gfXn k (remainderAt k r) = gfXn k r.1 ^^^ gfXn (2 * k) r.2.1 ^^^ gfXn (3 * k) r.2.2.1 ^^^ gfXn (4 * k) r.2.2.2 := by
  obtain ⟨h0, h1, h2, h3⟩ := hr
  have h01 := xor_lt_byte h0 (gfXn_lt k h1)
  rw [remainderAt, gfXn_xor k (xor_lt_byte h01 (gfXn_lt _ h2)) (gfXn_lt _ h3), gfXn_xor k h01 (gfXn_lt _ h2),
    gfXn_xor k h0 (gfXn_lt k h1), ← gfXn_add, ← gfXn_add, ← gfXn_add]
  congr 4 <;> omega

/-- The divisor (x − α^0)(x − α^1)(x − α^2)(x − α^3) vanishes at its roots, whatever element multiplies it. -/
theorem divisor_root : ∀ f < 256, ∀ k < 4,
    gfMul f 64 ^^^ gfXn k (gfMul f 120) ^^^ gfXn (2 * k) (gfMul f 54) ^^^ gfXn (3 * k) (gfMul f 15) = gfXn (4 * k) f := by
  decide +kernel

theorem checkStep_ok {r : Nat × Nat × Nat × Nat} {d : Nat} (hr : RemainderOk r) (hd : d < 256) : RemainderOk (checkStep r d) := by
  obtain ⟨h0, h1, h2, h3⟩ := hr
  have hf := xor_lt_byte hd h3
  exact ⟨gfMul_lt _ hf, xor_lt_byte h0 (gfMul_lt _ hf), xor_lt_byte h1 (gfMul_lt _ hf), xor_lt_byte h2 (gfMul_lt _ hf)⟩

/-- At a root of the divisor a step of the division multiplies the remainder by the root and adds the next symbol at x^4. -/
theorem remainderAt_checkStep {r : Nat × Nat × Nat × Nat} {d k : Nat} (hr : RemainderOk r) (hd : d < 256) (hk : k < 4) :
    remainderAt k (checkStep r d) = gfXn k (remainderAt k r) ^^^ gfXn (4 * k) d := by
  rw [gfXn_remainderAt k hr]
  obtain ⟨p0, p1, p2, p3⟩ := r
  obtain ⟨h0, h1, h2, h3⟩ := hr
  have hf : d ^^^ p3 < 256 := xor_lt_byte hd h3
  have hroot := divisor_root _ hf k hk
  rw [gfXn_xor _ hd h3] at hroot
  simp only [remainderAt, checkStep, gfXn_xor _ h0 (gfMul_lt _ hf), gfXn_xor _ h1 (gfMul_lt _ hf), gfXn_xor _ h2 (gfMul_lt _ hf)]
  calc _ = gfXn k p0 ^^^ gfXn (2 * k) p1 ^^^ gfXn (3 * k) p2 ^^^ (gfMul (d ^^^ p3) 64 ^^^ gfXn k (gfMul (d ^^^ p3) 120) ^^^
            gfXn (2 * k) (gfMul (d ^^^ p3) 54) ^^^ gfXn (3 * k) (gfMul (d ^^^ p3) 15)) := by ac_rfl
    _ = _ := by rw [hroot]; ac_rfl

theorem checkAux_ok (c : Code288) (n : Nat) {r : Nat × Nat × Nat × Nat} (hr : RemainderOk r) : RemainderOk (checkAux c n r) := by
  induction n generalizing r with
  | zero => exact hr
  | succ n ih => exact ih (checkStep_ok hr (symAt_lt ..))

/-- At a root of the divisor the remainder is the value of x^4·D(x). -/
theorem remainderAt_checkAux (c : Code288) (n : Nat) {k : Nat} {r : Nat × Nat × Nat × Nat} (hr : RemainderOk r) (hk : k < 4) :
    remainderAt k (checkAux c n r) =
      gfXn (k * n) (remainderAt k r) ^^^ xorSum (fun s => gfXn (k * (s + 4)) (symAt c s)) (List.range n) := by
  induction n generalizing r with
  | zero => simp [checkAux, gfXn]
  | succ n ih =>
    have hsym := symAt_lt c n
    have hpower : k * n + 4 * k = k * (n + 4) := by rw [Nat.mul_add, Nat.mul_comm 4]
    rw [Nat.mul_succ k n, checkAux, ih (checkStep_ok hr hsym), remainderAt_checkStep hr hsym hk,
      gfXn_xor _ (gfXn_lt _ (remainderAt_lt k hr)) (gfXn_lt _ hsym), ← gfXn_add, ← gfXn_add, hpower, List.range_succ, xorSum_append,
      xorSum_cons, xorSum_nil, Nat.xor_zero]
    ac_rfl

/-! ### The encoder -/

theorem symAt_zeroExtend (d : Word256) (s : Nat) : symAt (d.zeroExtend 288) s = d.toNat / 2 ^ (8 * s) % 256 := by
  rw [symAt, BitVec.toNat_setWidth, Nat.mod_eq_of_lt (d.isLt.trans (Nat.pow_lt_pow_right (n := 288) (by decide) (by decide)))]

theorem symAt_zeroExtend_check (d : Word256) {s : Nat} (hs : 32 ≤ s) : symAt (d.zeroExtend 288) s = 0 := by
  have hle : 2 ^ (8 * 32) ≤ 2 ^ (8 * s) := Nat.pow_le_pow_right (by decide) (by omega)
  rw [symAt_zeroExtend, Nat.div_eq_of_lt (d.isLt.trans_le hle)]

/-- The check symbols of a data word, P_0 first. -/
def checksOf (d : Word256) : Nat × Nat × Nat × Nat := checkAux (d.zeroExtend 288) 32 (0, 0, 0, 0)

theorem checksOf_ok (d : Word256) : RemainderOk (checksOf d) := checkAux_ok _ _ ⟨by decide, by decide, by decide, by decide⟩

/-- Four symbols in the order of their positions. -/
def packSymbols (r : Nat × Nat × Nat × Nat) : Nat := r.1 + 256 * (r.2.1 + 256 * (r.2.2.1 + 256 * r.2.2.2))

theorem packSymbols_lt {r : Nat × Nat × Nat × Nat} (hr : RemainderOk r) : packSymbols r < 2 ^ (8 * 4) := by
  obtain ⟨h0, h1, h2, h3⟩ := hr
  unfold packSymbols
  omega

theorem packSymbols_symbols {r : Nat × Nat × Nat × Nat} (hr : RemainderOk r) :
    packSymbols r % 256 = r.1 ∧ packSymbols r / 256 % 256 = r.2.1 ∧ packSymbols r / 65536 % 256 = r.2.2.1 ∧
      packSymbols r / 16777216 % 256 = r.2.2.2 := by
  obtain ⟨h0, h1, h2, h3⟩ := hr
  unfold packSymbols
  omega

theorem encode288_eq (d : Word256) :
    encode288 d = d.zeroExtend 288 ||| BitVec.ofNat 288 (packSymbols (checksOf d) * 2 ^ (8 * 32)) := rfl

theorem symAt_encode288 (d : Word256) (s : Nat) : symAt (encode288 d) s =
    if s < 32 then d.toNat / 2 ^ (8 * s) % 256 else packSymbols (checksOf d) / 2 ^ (8 * (s - 32)) % 256 := by
  rw [encode288_eq, symAt_or, symAt_shifted (packSymbols_lt (checksOf_ok d)) (by decide)]
  by_cases hs : s < 32
  · rw [if_pos hs, if_neg (Nat.not_le.2 hs), Nat.or_zero, symAt_zeroExtend]
  · rw [if_neg hs, if_pos (Nat.not_lt.1 hs), symAt_zeroExtend_check d (Nat.not_lt.1 hs), Nat.zero_or]

theorem symAt_encode288_checks (d : Word256) : symAt (encode288 d) 32 = (checksOf d).1 ∧ symAt (encode288 d) 33 = (checksOf d).2.1 ∧
    symAt (encode288 d) 34 = (checksOf d).2.2.1 ∧ symAt (encode288 d) 35 = (checksOf d).2.2.2 := by
  obtain ⟨h0, h1, h2, h3⟩ := packSymbols_symbols (checksOf_ok d)
  simp [symAt_encode288, h0, h1, h2, h3]

/-- The data bits are the codeword's low 256 bits (R205). -/
theorem dataOf_encode288 (d : Word256) : dataOf (encode288 d) = d := by
  refine BitVec.eq_of_getLsbD_eq fun i hi => ?_
  have hbelow : (BitVec.ofNat 288 (packSymbols (checksOf d) * 2 ^ (8 * 32))).getLsbD i = false := by
    rw [BitVec.getLsbD_ofNat, Nat.testBit_mul_two_pow, decide_eq_false (show ¬ 8 * 32 ≤ i by omega), Bool.false_and, Bool.and_false]
  rw [dataOf, encode288_eq, BitVec.truncate, BitVec.getLsbD_setWidth, BitVec.getLsbD_or, hbelow, Bool.or_false, BitVec.zeroExtend,
    BitVec.getLsbD_setWidth, decide_eq_true hi, decide_eq_true (by omega), Bool.true_and, Bool.true_and]

/-- The check symbols make a codeword of the data (R204). -/
theorem isCodeword_encode288 (d : Word256) : IsCodeword (encode288 d) := by
  intro k hk
  have hdata : xorSum (fun s => gfXn (k * symDeg s) (symAt (encode288 d) s)) (List.range 32) = remainderAt k (checksOf d) := by
    rw [checksOf, remainderAt_checkAux _ 32 ⟨by decide, by decide, by decide, by decide⟩ hk]
    simp only [remainderAt, gfXn_of_zero, Nat.xor_zero, Nat.zero_xor]
    refine xorSum_congr fun s hs => ?_
    have hs := List.mem_range.1 hs
    rw [symAt_encode288, symAt_zeroExtend, if_pos hs, symDeg, if_pos hs]
  have hcheck : xorSum (fun s => gfXn (k * symDeg s) (symAt (encode288 d) s)) [32, 33, 34, 35] = remainderAt k (checksOf d) := by
    obtain ⟨h0, h1, h2, h3⟩ := symAt_encode288_checks d
    have hdegs : symDeg 32 = 0 ∧ symDeg 33 = 1 ∧ symDeg 34 = 2 ∧ symDeg 35 = 3 := by decide
    obtain ⟨g0, g1, g2, g3⟩ := hdegs
    simp only [xorSum_cons, xorSum_nil, h0, h1, h2, h3, g0, g1, g2, g3, remainderAt, gfXn, Nat.mul_zero, Nat.mul_one, Nat.mul_comm k 2,
      Nat.mul_comm k 3, Nat.xor_zero, Nat.xor_assoc]
  rw [syndrome_eq_xorSum, show List.range 36 = List.range 32 ++ [32, 33, 34, 35] from rfl, xorSum_append, hdata, hcheck, Nat.xor_self]

theorem encode288_zero : encode288 0 = 0 := by decide +kernel

/-! ### What a decode answers -/

/-- One symbol explains the syndromes exactly where taking it away leaves a codeword. -/
theorem isCodeword_symXor_syndrome {c : Code288} {s : Nat} (hs : s < 36) : IsCodeword (symXor c s (syndrome c 0)) ↔
    gfXn (symDeg s) (syndrome c 0) = syndrome c 1 ∧ gfXn (2 * symDeg s) (syndrome c 0) = syndrome c 2 ∧
      gfXn (3 * symDeg s) (syndrome c 0) = syndrome c 3 := by
  rw [isCodeword_iff]
  simp only [syndrome_symXor c hs (syndrome_lt c 0), Nat.xor_eq_zero_iff, Nat.zero_mul, Nat.one_mul, gfXn, true_and]
  exact ⟨fun ⟨h1, h2, h3⟩ => ⟨h1.symm, h2.symm, h3.symm⟩, fun ⟨h1, h2, h3⟩ => ⟨h1.symm, h2.symm, h3.symm⟩⟩

theorem oneError_some {c : Code288} {d : Nat} (h : oneError (syndrome c 0) (syndrome c 1) (syndrome c 2) (syndrome c 3) = some d) :
    d < 36 ∧ syndrome c 0 ≠ 0 ∧ IsCodeword (symXor c (symOfDeg d) (syndrome c 0)) := by
  unfold oneError at h
  split at h
  · exact absurd h (by simp)
  · next hne =>
    have hd : d < 36 := List.mem_range.1 (List.mem_of_find?_eq_some h)
    have hfits := List.find?_some h
    simp only [Bool.and_eq_true, beq_iff_eq] at hfits
    obtain ⟨⟨h1, h2⟩, h3⟩ := hfits
    refine ⟨hd, hne, (isCodeword_symXor_syndrome (symOfDeg_lt hd)).2 ?_⟩
    rw [symDeg_symOfDeg hd]
    exact ⟨h1, h2, h3⟩

theorem oneError_none {c : Code288} (h : oneError (syndrome c 0) (syndrome c 1) (syndrome c 2) (syndrome c 3) = none) {s : Nat} (hs : s < 36)
    (hne : syndrome c 0 ≠ 0) : ¬ IsCodeword (symXor c s (syndrome c 0)) := by
  rw [oneError, if_neg hne] at h
  intro hcode
  obtain ⟨h1, h2, h3⟩ := (isCodeword_symXor_syndrome hs).1 hcode
  have hnot := List.find?_eq_none.1 h (symDeg s) (List.mem_range.2 (symDeg_lt hs))
  simp [h1, h2, h3] at hnot

theorem decode288_of_isCodeword {c : Code288} (h : IsCodeword c) : decode288 c = { cls := .valid, data := dataOf c, code := c } := by
  rw [decode288, if_pos (isCodeword_iff.1 h)]

/-- A word within one symbol of the poison word is poison, unless it is a codeword (R207). -/
theorem decode288_of_nearPoison {c : Code288} (h : ¬ IsCodeword c) (hnear : (symDiff c poisonWord).length ≤ 1) :
    decode288 c = { cls := .poison, data := 0, code := poisonWord } := by
  rw [decode288, if_neg (mt isCodeword_iff.2 h), if_pos hnear]

/-- A word corrected at one position by its syndrome S_0 (R207). -/
def correctedAt (c : Code288) (s : Nat) : Decoded :=
  { cls := .corrected, data := dataOf (symXor c s (syndrome c 0)), code := symXor c s (syndrome c 0), pos := s, value := syndrome c 0 }

/-- Any other word that is no codeword is the one codeword that an error value of one symbol leaves, or uncorrectable (R207). -/
theorem decode288_otherwise {c : Code288} (h : ¬ IsCodeword c) (hfar : ¬ (symDiff c poisonWord).length ≤ 1) :
    (∃ s < 36, syndrome c 0 ≠ 0 ∧ IsCodeword (symXor c s (syndrome c 0)) ∧ decode288 c = correctedAt c s) ∨
    ((∀ s < 36, syndrome c 0 ≠ 0 → ¬ IsCodeword (symXor c s (syndrome c 0))) ∧
      decode288 c = { cls := .uncorrectable, data := 0, code := c }) := by
  rw [decode288, if_neg (mt isCodeword_iff.2 h), if_neg hfar]
  split
  · next d hd =>
    obtain ⟨hlt, hne, hcode⟩ := oneError_some hd
    exact .inl ⟨symOfDeg d, symOfDeg_lt hlt, hne, hcode, rfl⟩
  · next hnone => exact .inr ⟨fun s hs hne => oneError_none hnone hs hne, rfl⟩

/-! ### Errors in up to four positions (R208) -/

section errors
variable {d : Word256} {c : Code288}

/-- A word in error in one to four positions is no codeword. -/
theorem not_isCodeword_of_symDiff (hpos : 0 < (symDiff (encode288 d) c).length) (hle : (symDiff (encode288 d) c).length ≤ 4) :
    ¬ IsCodeword c := by
  intro h
  rw [(isCodeword_encode288 d).eq_of_length_symDiff_le h hle, symDiff_self] at hpos
  exact Nat.lt_irrefl _ hpos

/-- A corrected word in error in at most three positions is the codeword sent, and its one error is the one corrected. -/
theorem corrected_eq_encode {s : Nat} (hs : s < 36) (hne : syndrome c 0 ≠ 0) (hcode : IsCodeword (symXor c s (syndrome c 0)))
    (hle : (symDiff (encode288 d) c).length ≤ 3) : symXor c s (syndrome c 0) = encode288 d ∧ symDiff (encode288 d) c = [s] := by
  have hlt := syndrome_lt c 0
  have hsent : encode288 d = symXor c s (syndrome c 0) := (isCodeword_encode288 d).eq_of_length_symDiff_le hcode
    ((length_symDiff_symXor_le _ c hs hlt).trans (Nat.succ_le_succ hle))
  refine ⟨hsent.symm, ?_⟩
  have hreceived : c = symXor (encode288 d) s (syndrome c 0) := by rw [hsent, symXor_symXor]
  generalize syndrome c 0 = v at *
  rw [hreceived]
  exact symDiff_symXor _ hs hlt hne

/-- The syndrome S_0 of a word in error in one position is the error value. -/
theorem isCodeword_of_oneError {s : Nat} (h : symDiff (encode288 d) c = [s]) :
    s < 36 ∧ syndrome c 0 ≠ 0 ∧ IsCodeword (symXor c s (syndrome c 0)) := by
  obtain ⟨hs, hdiff⟩ := mem_symDiff.1 (h ▸ List.mem_singleton_self s)
  have hlt : symAt (encode288 d) s ^^^ symAt c s < 256 := xor_lt_byte (symAt_lt ..) (symAt_lt ..)
  have hc := eq_symXor_of_symDiff_eq h
  have hvalue : syndrome c 0 = symAt (encode288 d) s ^^^ symAt c s := by
    conv_lhs => rw [hc]
    rw [syndrome_symXor _ hs hlt, isCodeword_encode288 d 0 (by decide), Nat.zero_mul, Nat.zero_xor]
    rfl
  rw [hvalue]
  refine ⟨hs, fun hzero => hdiff (Nat.xor_eq_zero_iff.1 hzero), ?_⟩
  generalize symAt (encode288 d) s ^^^ symAt c s = v at hc
  rw [hc, symXor_symXor]
  exact isCodeword_encode288 d

/-- One symbol in error: poison near the poison word, and corrected to what was sent elsewhere. -/
theorem decode288_oneError (h : (symDiff (encode288 d) c).length = 1) :
    if (symDiff c poisonWord).length ≤ 1 then decode288 c = { cls := .poison, data := 0, code := poisonWord }
    else (decode288 c).cls = .corrected ∧ (decode288 c).data = d ∧ (decode288 c).code = encode288 d ∧
      symDiff (encode288 d) c = [(decode288 c).pos] := by
  have hnot := not_isCodeword_of_symDiff (by omega) (by omega : (symDiff (encode288 d) c).length ≤ 4)
  split
  · next hnear => exact decode288_of_nearPoison hnot hnear
  · next hfar =>
    rcases decode288_otherwise hnot hfar with ⟨s, hs, hne, hcode, hdecode⟩ | ⟨hnone, -⟩
    · obtain ⟨hsent, hpos⟩ := corrected_eq_encode hs hne hcode (by omega : (symDiff (encode288 d) c).length ≤ 3)
      rw [hdecode, correctedAt, hsent, dataOf_encode288]
      exact ⟨rfl, rfl, rfl, hpos⟩
    · obtain ⟨s, hs⟩ := List.length_eq_one_iff.1 h
      obtain ⟨hlt, hne, hcode⟩ := isCodeword_of_oneError hs
      exact absurd hcode (hnone s hlt hne)

/-- Two or three symbols in error are never taken for data. -/
theorem decode288_moreErrors (hlow : 2 ≤ (symDiff (encode288 d) c).length) (hle : (symDiff (encode288 d) c).length ≤ 3) :
    (decode288 c).cls = .uncorrectable ∨ (decode288 c).cls = .poison := by
  have hnot := not_isCodeword_of_symDiff (by omega) (by omega : (symDiff (encode288 d) c).length ≤ 4)
  by_cases hnear : (symDiff c poisonWord).length ≤ 1
  · rw [decode288_of_nearPoison hnot hnear]
    exact .inr rfl
  · rcases decode288_otherwise hnot hnear with ⟨s, hs, hne, hcode, -⟩ | ⟨-, hdecode⟩
    · rw [(corrected_eq_encode hs hne hcode hle).2, List.length_singleton] at hlow
      exact absurd hlow (by decide)
    · rw [hdecode]
      exact .inl rfl

/-- Only a codeword decodes as VALID. -/
theorem decode288_cls_ne_valid (h : ¬ IsCodeword c) : (decode288 c).cls ≠ .valid := by
  by_cases hnear : (symDiff c poisonWord).length ≤ 1
  · rw [decode288_of_nearPoison h hnear]
    decide
  · rcases decode288_otherwise h hnear with ⟨s, -, -, -, hdecode⟩ | ⟨-, hdecode⟩
    · rw [hdecode]
      exact WordClass.noConfusion
    · rw [hdecode]
      exact WordClass.noConfusion

end errors

/-! ### The statements -/

/-- Settles O45: the division by the divisor leaves check symbols that make up for the data at its four roots. -/
theorem checkSymbols : Obligations.CheckSymbols :=
  ⟨by decide, fun i hi => if_pos hi, fun j _ => by rw [symDeg, if_neg (by omega), Nat.add_sub_cancel_left],
    fun c k => by rw [foldl_xor_eq_xorSum, Nat.zero_xor, syndrome_eq_xorSum],
    fun d => ⟨dataOf_encode288 d, fun i hi => by rw [symAt_encode288, if_pos hi], isCodeword_encode288 d⟩⟩

/-- Settles O46: codewords lie five symbols apart, so that up to three errors, and one that a decode adds, reach no other codeword. -/
theorem codeGuarantees : Obligations.CodeGuarantees := by
  intro d c
  dsimp only
  refine ⟨fun h => ?none, decode288_oneError, fun h => ?more, fun h => ?four⟩
  case none =>
    have hc : encode288 d = c := eq_of_symDiff_eq_nil (List.length_eq_zero_iff.1 h)
    rw [← hc, decode288_of_isCodeword (isCodeword_encode288 d), dataOf_encode288]
  case more => exact decode288_moreErrors (d := d) (by omega) (by omega)
  case four => exact decode288_cls_ne_valid (not_isCodeword_of_symDiff (d := d) (by omega) (by omega))

/-- The poison word differs from the codeword of zero data in its check symbols (R210). -/
theorem symDiff_poisonWord_zero : symDiff poisonWord (encode288 0) = [32, 33, 34, 35] := by
  rw [encode288_zero]
  decide +kernel

theorem not_isCodeword_poisonWord : ¬ IsCodeword poisonWord := fun h => by
  have hzero := h.eq_of_length_symDiff_le (isCodeword_encode288 0) (by rw [symDiff_poisonWord_zero]; decide)
  have hdiff := symDiff_poisonWord_zero
  rw [hzero, symDiff_self] at hdiff
  exact absurd hdiff (by decide)

/-- Settles O47: four symbols away from a codeword, the poison word is none itself. -/
theorem poisonWordIsNoCodeword : Obligations.PoisonWord :=
  ⟨by decide +kernel, by decide +kernel, symDiff_poisonWord_zero, fun d h => not_isCodeword_poisonWord (h ▸ isCodeword_encode288 d), by
    rw [decode288_of_nearPoison not_isCodeword_poisonWord (by rw [symDiff_self]; decide)]⟩

end Sys2Proof.Laws
end

section
/-! Unwritten rows: what a load of one answers, and what the first write leaves in one. -/

namespace Sys2Proof.Laws

open Sys2Proof Sys2Proof.Machine

/-! ### Loads of an unwritten row -/

theorem stack_touchCell (s : State) (st p : Nat) :
    (touchCell s st p).stack st = { s.stack st with lastAccess := mapSet 0 (s.stack st).lastAccess p s.now } := by
  simp [touchCell]

/-- A load of an unwritten row answers class 4, no data and no error; only a TEST frame records it (R219, R244). -/
theorem loadCellSeen_unwritten {s : State} {st p row : Nat} (w : Nat) (seen : Code288) (reader addr tenant : Nat)
    (h : rowIsValid (s.stack st) p row = false) :
    let s0 := if reader = 0xFF then s else touchCell s st p
    loadCellSeen s st p row w seen reader addr tenant =
      { cls := 4, next := if inTest (s.stack st) p row = true then s0.setStack st (recordTest (s0.stack st) false 4 0 0 0) else s0 } := by
  intro s0
  have hread : rowIsValid (s0.stack st) p row = false ∧ inTest (s0.stack st) p row = inTest (s.stack st) p row := by
    simp only [s0]
    split
    · exact ⟨h, rfl⟩
    · rw [stack_touchCell]
      exact ⟨h, rfl⟩
  obtain ⟨hvalid, htest⟩ := hread
  simp only [loadCellSeen]
  rw [if_pos (by rw [hvalid]; rfl), htest]

/-! ### Writing one codeword to words of a row -/

/-- A row's words of a list, each with the same codeword stored. -/
def writeWords (x : Machine.Stack) (p row : Nat) (c : Code288) (l : List Nat) : Machine.Stack := l.foldl (fun y w => rawWrite y p row w c) x

variable {p row : Nat} {c : Code288} {l : List Nat}

@[simp] theorem storedRow_writeWords (x : Machine.Stack) (p' row' : Nat) : storedRow (writeWords x p row c l) p' row' = storedRow x p' row' :=
  foldl_keeps (p := fun y : Machine.Stack => storedRow y p' row' = storedRow x p' row') _ l rfl fun _ _ h => by rw [storedRow_rawWrite, h]

@[simp] theorem rowIsValid_writeWords (x : Machine.Stack) (p' row' : Nat) : rowIsValid (writeWords x p row c l) p' row' = rowIsValid x p' row' :=
  foldl_keeps (p := fun y : Machine.Stack => rowIsValid y p' row' = rowIsValid x p' row') _ l rfl fun _ _ h => by rw [rawWrite_eq]; exact h

/-- Words in another place than those written read as before. -/
theorem rawRead_writeWords_other (x : Machine.Stack) (hrow : row < 20480) (hl : ∀ w ∈ l, w < 64) {p' row' w' : Nat} (hrow' : row' < 20480)
    (hw' : w' < 64) (hne : ∀ w ∈ l, (p', storedRow x p' row', w') ≠ (p, storedRow x p row, w)) :
    rawRead (writeWords x p row c l) p' row' w' = rawRead x p' row' w' := by
  induction l generalizing x with
  | nil => rfl
  | cons w l ih =>
    calc rawRead (writeWords (rawWrite x p row w c) p row c l) p' row' w'
        = rawRead (rawWrite x p row w c) p' row' w' :=
          ih _ (fun v hv => hl v (.tail _ hv)) fun v hv => by simpa only [storedRow_rawWrite] using hne v (.tail _ hv)
      _ = rawRead x p' row' w' := rawRead_rawWrite_other x p c hrow (hl w (.head _)) hrow' hw' (hne w (.head _))

/-- Every word written holds the codeword. -/
theorem rawRead_writeWords_mem (x : Machine.Stack) (hrow : row < 20480) (hl : ∀ w ∈ l, w < 64) {w : Nat} (hw : w ∈ l) :
    rawRead (writeWords x p row c l) p row w = c := by
  induction l generalizing x with
  | nil => exact absurd hw List.not_mem_nil
  | cons v l ih =>
    have hl' : ∀ u ∈ l, u < 64 := fun u hu => hl u (.tail _ hu)
    by_cases hwl : w ∈ l
    · exact ih (rawWrite x p row v c) hl' hwl
    · obtain rfl : w = v := (List.mem_cons.1 hw).resolve_right hwl
      calc rawRead (writeWords (rawWrite x p row w c) p row c l) p row w
          = rawRead (rawWrite x p row w c) p row w :=
            rawRead_writeWords_other _ hrow hl' hrow (hl w hw) fun u hu heq => hwl ((Prod.mk.inj (Prod.mk.inj heq).2).2 ▸ hu)
        _ = c := rawRead_rawWrite_self x p row c (hl w hw)

/-! ### The first write to a row -/

/-- The first write to an unwritten row makes every word of it zero and sets its valid bit (R220). -/
theorem openRow_unwritten {x : Machine.Stack} (h : rowIsValid x p row = false) :
    openRow x p row = { writeWords x p row 0 (List.range 64) with
      rowValid := mapSet false (writeWords x p row 0 (List.range 64)).rowValid (rowKey p row) true } := by
  rw [openRow, if_neg (by rw [h]; exact Bool.false_ne_true)]
  rfl

/-- Valid bits are no part of what a word's cells hold. -/
theorem rawRead_rowValid (x : Machine.Stack) (m : Map Bool) (p row w : Nat) : rawRead { x with rowValid := m } p row w = rawRead x p row w := by
  have hsyms : ∀ r l c, putSyms { x with rowValid := m } p r w l c = putSyms x p r w l c := fun r l c => putSyms_congr c fun _ _ => rfl
  simp only [rawRead, hsyms]
  rfl

theorem rowIsValid_openRow_self {x : Machine.Stack} (h : rowIsValid x p row = false) : rowIsValid (openRow x p row) p row = true := by
  rw [openRow_unwritten h, rowIsValid, mapGet_mapSet, if_pos rfl]

theorem rawRead_openRow_self {x : Machine.Stack} (h : rowIsValid x p row = false) (hrow : row < 20480) {w : Nat} (hw : w < 64) :
    rawRead (openRow x p row) p row w = encode288 0 := by
  rw [openRow_unwritten h, encode288_zero, rawRead_rowValid]
  exact rawRead_writeWords_mem x hrow (fun v hv => List.mem_range.1 hv) (List.mem_range.2 hw)

/-- Rows of a bank have distinct valid bits. -/
theorem rowKey_inj {p' row' : Nat} (hrow : row < 20480) (hrow' : row' < 20480) (h : rowKey p' row' = rowKey p row) : p' = p ∧ row' = row := by
  simp only [rowKey] at h
  omega

theorem rowIsValid_openRow_other {x : Machine.Stack} (h : rowIsValid x p row = false) (hrow : row < 20480) {p' row' : Nat} (hrow' : row' < 20480)
    (hne : (p', storedRow x p' row') ≠ (p, storedRow x p row)) : rowIsValid (openRow x p row) p' row' = rowIsValid x p' row' := by
  have hkey : rowKey p' row' ≠ rowKey p row := fun heq => by
    obtain ⟨rfl, rfl⟩ := rowKey_inj hrow hrow' heq
    exact hne rfl
  rw [openRow_unwritten h, rowIsValid, mapGet_mapSet_other _ _ _ hkey, ← rowIsValid_writeWords (c := 0) (l := List.range 64) x p' row',
    rowIsValid]

theorem rawRead_openRow_other {x : Machine.Stack} (h : rowIsValid x p row = false) (hrow : row < 20480) {p' row' w : Nat} (hrow' : row' < 20480)
    (hw : w < 64) (hne : (p', storedRow x p' row') ≠ (p, storedRow x p row)) : rawRead (openRow x p row) p' row' w = rawRead x p' row' w := by
  rw [openRow_unwritten h, rawRead_rowValid]
  exact rawRead_writeWords_other x hrow (fun v hv => List.mem_range.1 hv) hrow' hw fun v _ heq => by
    obtain ⟨hbank, hplace⟩ := Prod.mk.inj heq
    exact hne (Prod.ext hbank (Prod.mk.inj hplace).1)

/-- Settles O49: a load of an unwritten row reads no cell, and its first write stores zero words in it alone. -/
theorem unwrittenRows : Obligations.UnwrittenRows := by
  refine ⟨fun s st p row w reader addr tenant seen h => ?load, fun x p row h hrow => ⟨rowIsValid_openRow_self h,
    fun w hw => rawRead_openRow_self h hrow hw, fun p' row' hrow' hne =>
      ⟨rowIsValid_openRow_other h hrow hrow' hne, fun w hw => rawRead_openRow_other h hrow hrow' hw hne⟩⟩⟩
  rw [loadCellSeen_unwritten w seen reader addr tenant h]
  exact ⟨rfl, rfl, rfl, fun htest => if_neg (by rw [htest]; exact Bool.false_ne_true), rfl⟩

end Sys2Proof.Laws
end

section
/-! Retirement, the field repair record, the whisk and checker-test mode: what each command answers. -/

namespace Sys2Proof.Laws

open Sys2Proof Sys2Proof.Machine

variable {s : State} {st : Nat}

/-! ### Retirement and the repair record -/

/-- The oldest migration ends once nothing computes in its frame and no earlier access is left (R236). -/
theorem execFrameRetireComplete_next {F D : Nat} {rest : List (Nat × Nat)} (hmig : (s.stack st).migrating = (F, D) :: rest)
    (hcomp : frameComputing s st F = false) (hearly : earlyLeft s (inFrames st F D) = false) :
    execFrameRetireComplete st s = .next (updateFigures (retireFrame s st F D rest) (2 + st)) := by
  simp only [execFrameRetireComplete, hmig, hcomp, hearly, Bool.or_false, Bool.false_eq_true, if_false]

/-- The oldest frame that waits takes the donor chosen for it, while the remap table has room (R237, R238). -/
theorem execRetirePendingDonor_next {F d : Nat} {rest : List Nat} (hwait : (s.stack st).awaiting = F :: rest)
    (hroom : remapFull (s.stack st) = false) (hdonor : chooseDonor s st F = some d) :
    execRetirePendingDonor st s = .next (dset (beginMigration (s.setStack st { s.stack st with awaiting := rest }) st F d)
      (0x2220 + st) 0xA (dget s (0x2220 + st) 0xA - 1)) := by
  simp only [execRetirePendingDonor, hwait, hroom, hdonor, Bool.false_eq_true, if_false]

/-- The oldest entry that waits joins the record and its page is signed anew (R241, R242). -/
theorem execFieldRepairWrite_next {e : Nat × Nat} {rest : List (Nat × Nat)} (hqueue : s.repairQueue = e :: rest)
    (hroom : s.repairRecord.length < 16 * 503) :
    execFieldRepairWrite s = .next { s with
      repairQueue := rest, repairRecord := s.repairRecord ++ [e.1]
      repairSigs := mapSet [] s.repairSigs (s.repairRecord.length / 503)
        (signPage (s.repairRecord ++ [e.1]) (s.repairRecord.length / 503)) } := by
  simp only [execFieldRepairWrite, hqueue, hroom, if_true]

/-! ### The whisk -/

/-- The whisk may take a bank of a stack: it is enabled, the bank is idle, and the times since its last access and its last row operation
have passed (R224, R225). -/
structure WhiskMay (s : State) (st bank : Nat) : Prop where
  hstack : st < 8
  hbank : bank < 2048
  henabled : dbool s 0x2201 2 = true
  hidle : sequenceRuns s st bank = false
  hunwaited : accessWaits s st bank = false
  haccessed : mapGet 0 (s.stack st).lastAccess bank + 256 ≤ s.now
  hwhisked : mapGet 0 (s.stack st).lastWhisk bank + dget s 0x2201 3 * 1000 ≤ s.now

/-- Nothing keeps the whisk from a bank it may take. -/
theorem WhiskMay.notBarred {bank : Nat} (h : WhiskMay s st bank) :
    (!(dbool s 0x2201 2) || sequenceRuns s st bank || accessWaits s st bank ||
      (mapGet 0 (s.stack st).lastAccess bank != 0 && decide (s.now < mapGet 0 (s.stack st).lastAccess bank + 256)) ||
      (mapGet 0 (s.stack st).lastWhisk bank != 0 &&
        decide (s.now < mapGet 0 (s.stack st).lastWhisk bank + dget s 0x2201 3 * 1000))) = false := by
  obtain ⟨-, -, henabled, hidle, hunwaited, haccessed, hwhisked⟩ := h
  rw [henabled, hidle, hunwaited, decide_eq_false (Nat.not_lt.2 haccessed), decide_eq_false (Nat.not_lt.2 hwhisked), Bool.and_false, Bool.and_false]
  rfl

/-- With a row left that is not skipped, the whisk reads and scrubs it and its position moves past it (R224, R226). -/
theorem execWhiskRow_row {bank : Nat} (h : WhiskMay s st bank)
    (hleft : whiskNext (s.stack st) bank (mapGet 0 (s.stack st).whiskRow bank) 20481 < 20480) :
    let x := s.stack st
    let row := whiskNext x bank (mapGet 0 x.whiskRow bank) 20481
    execWhiskRow st bank [] s = .next (whiskWords (s.setStack st { x with
      whiskRow := mapSet 0 x.whiskRow bank (row + 1), lastWhisk := mapSet 0 x.lastWhisk bank s.now }) st bank row 64) := by
  simp only [execWhiskRow, h.hstack, h.hbank, and_self, if_true, h.notBarred, Bool.false_eq_true, if_false, if_neg (Nat.not_le.2 hleft),
    List.foldl_nil]

/-- A part of a stockpot is scrubbed while the whisk is enabled (R224). -/
theorem execWhiskRow_pot {die : Nat} (bank : Nat) (hits : ErrorList) (hdie : die < 2) (henabled : dbool s 0x2201 2 = true) :
    execWhiskRow (8 + die) bank hits s = .next (whiskPot s die) := by
  rw [execWhiskRow, if_neg (by omega), if_pos (by omega), if_pos henabled, Nat.add_sub_cancel_left]

/-- A lap past its limit is recorded once (R227). -/
theorem execWhiskSlow_next (hst : st < 8) (hslow : (s.stack st).whiskSlow = false)
    (hlimit : dget s (0x2220 + st) 9 < (s.now - (s.stack st).whiskStart) / 1000000) :
    execWhiskSlow st s = .next (recordStack (s.setStack st { s.stack st with whiskSlow := true }) 0x328 st 0xFF (st * 2 ^ 37)) := by
  simp only [execWhiskSlow, hst, hslow, hlimit, and_self, if_true]

/-- Settles O9: each command by what it answers for the frame, the entry or the bank it is meant for. -/
theorem integrityCommandsComplete : Obligations.IntegrityCommandsComplete := by
  refine ⟨fun s st F D rest hmig hcomp hearly => execFrameRetireComplete_next hmig hcomp hearly,
    fun s st F d rest hwait hroom hdonor => execRetirePendingDonor_next hwait hroom hdonor,
    fun s e rest hqueue hroom => execFieldRepairWrite_next hqueue hroom, ?row, ?bankDone,
    fun s bank henabled => ⟨execWhiskRow_pot (die := 0) bank [] (by decide) henabled, execWhiskRow_pot (die := 1) bank [] (by decide) henabled⟩,
    fun s st hst hslow hlimit => execWhiskSlow_next hst hslow hlimit⟩
  case row =>
    intro s st bank hst hbank henabled hidle hunwaited haccessed hwhisked hleft
    exact execWhiskRow_row ⟨hst, hbank, henabled, hidle, hunwaited, haccessed, hwhisked⟩ hleft
  case bankDone =>
    intro s st bank hits hst hbank henabled hidle hunwaited haccessed hwhisked hnone hothers
    -- The lap's end is told by the model's own number of 2048 bits, which no lemma states again.
    have h : WhiskMay s st bank := ⟨hst, hbank, henabled, hidle, hunwaited, haccessed, hwhisked⟩
    simp only [exec_whiskRow, execWhiskRow, hst, hbank, and_self, if_true, h.notBarred, Bool.false_eq_true, if_false, if_pos hnone,
      if_neg hothers]

/-! ### Checker-test mode -/

section test
variable {agent tenant f : Nat} (hst : st < 8) (hmay : mayTest agent tenant = true)
include hst hmay

/-- An agent that R247 allows may command a stack's checker-test block. -/
theorem testAllowed : (!(decide (st < 8) && mayTest agent tenant)) = false := by
  rw [hmay, decide_eq_true hst]; rfl

/-- A free frame begins to be zeroised while fewer than 8 frames are in TEST or on their way (R243). -/
theorem execFrameEnterTest_free (hf : f < 65536) (hfree : frameFree s st f = true)
    (hroom : inTestBar (s.stack st) f = true ∨ (s.stack st).testFrames.length + (s.stack st).testEntering.length < 8) :
    execFrameEnterTest agent tenant st f s = .next (s.setStack st { s.stack st with
      tframe := f, testEntering := (s.stack st).testEntering.filter (· != f) ++ [f]
      testFrames := (s.stack st).testFrames.filter (· != f) }) := by
  have hroom' : (inTestBar { s.stack st with tframe := f } f ||
      decide ((s.stack st).testFrames.length + (s.stack st).testEntering.length < 8)) = true := by
    rw [Bool.or_eq_true, decide_eq_true_eq]
    exact hroom
  simp only [execFrameEnterTest, testAllowed hst hmay, Bool.false_eq_true, if_false, Nat.mod_eq_of_lt hf, hfree, hroom', Bool.and_self, if_true]

/-- Any other frame is refused (R243). -/
theorem execFrameEnterTest_refused (hf : f < 65536) (hfree : frameFree s st f = false) :
    execFrameEnterTest agent tenant st f s = .next (s.setStack st { s.stack st with
      tframe := f, tresClass := 7, tresPos := 0, tresValue := 0, tresDone := true }) := by
  simp only [execFrameEnterTest, testAllowed hst hmay, Bool.false_eq_true, if_false, Nat.mod_eq_of_lt hf, hfree, Bool.false_and]

/-- A frame in TEST leaves it with its valid bits cleared (R246). -/
theorem execFrameLeaveTest_next (hf : f < 65536) (htest : (s.stack st).testFrames.contains f = true) :
    execFrameLeaveTest agent tenant st f s = .next (s.setStack st { clearFrame (s.stack st) f with
      testFrames := (s.stack st).testFrames.filter (· != f), tframe := f }) := by
  simp only [execFrameLeaveTest, testAllowed hst hmay, Bool.false_eq_true, if_false, Nat.mod_eq_of_lt hf, leaveTestFrame, htest, if_true]

/-- A raw write to a word of a TEST frame stores the codeword formed, and records its class (R244, R245). -/
theorem rawTestWrite_word {k p row w : Nat} (mk : Machine.Stack → Code288 → Code288) (hword : testWord s st = some (k, p, row, w)) :
    let c := mk (s.stack st) (testStored (s.stack k) p row w)
    rawTestWrite agent tenant st mk s = .next ((s.updStack k (fun y => rawWrite (openRow y p row) p row w c)).updStack k (fun y =>
      recordTest y true (classCode (decode288 c).cls) (decode288 c).pos (decode288 c).value (synWord c))) := by
  simp only [rawTestWrite, testAllowed hst hmay, Bool.false_eq_true, if_false, hword, recordRaw]

/-- A raw read of a word of a TEST frame takes its bits and records its class, or UNWRITTEN (R245). -/
theorem rawTestRead_word {k p row w : Nat} (decoded : Bool) (hword : testWord s st = some (k, p, row, w)) :
    let c := testStored (s.stack k) p row w
    rawTestRead agent tenant st decoded s = .next ((s.updStack st (fun x =>
        if decoded then { x with tdata := (decode288 c).data } else { x with tdata := dataOf c, tchk := (c >>> 256).truncate 32 })).updStack k
      (fun y => if rowIsValid (s.stack k) p row then
          recordTest y true (classCode (decode288 c).cls) (decode288 c).pos (decode288 c).value (synWord c)
        else recordTest y true 4 0 0 0)) := by
  simp only [rawTestRead, testAllowed hst hmay, Bool.false_eq_true, if_false, hword, recordRaw]
  split <;> rfl

theorem rawTestWrite_refused (mk : Machine.Stack → Code288 → Code288) (hword : testWord s st = none) :
    rawTestWrite agent tenant st mk s = .next (s.setStack st (rawRefused (s.stack st))) := by
  simp only [rawTestWrite, testAllowed hst hmay, Bool.false_eq_true, if_false, hword]
  rfl

theorem rawTestRead_refused (decoded : Bool) (hword : testWord s st = none) :
    rawTestRead agent tenant st decoded s = .next (s.setStack st (rawRefused (s.stack st))) := by
  simp only [rawTestRead, testAllowed hst hmay, Bool.false_eq_true, if_false, hword]
  rfl

end test

/-- The oldest frame being zeroised is in TEST (R243). -/
theorem execFrameTestEntered_next {f : Nat} {rest : List Nat} (hentering : (s.stack st).testEntering = f :: rest) :
    execFrameTestEntered st s = .next (s.setStack st { zeroFrame (s.stack st) f with
      testEntering := rest, testFrames := (s.stack st).testFrames ++ [f] }) := by
  simp only [execFrameTestEntered, hentering]

/-- Settles O10: each command by what it answers for the frame or the word it is meant for. -/
theorem checkerTestCommandsComplete : Obligations.CheckerTestCommandsComplete := by
  refine ⟨fun s agent tenant st f hst hmay hf hfree hroom => execFrameEnterTest_free hst hmay hf hfree hroom,
    fun s agent tenant st f hst hmay hf hfree => execFrameEnterTest_refused hst hmay hf hfree,
    fun s st f rest hentering => execFrameTestEntered_next hentering,
    fun s agent tenant st f hst hmay hf htest => execFrameLeaveTest_next hst hmay hf htest, ?writes, ?reads, ?refused⟩
  case writes =>
    intro s agent tenant st k p row w i c hst hmay hword x old hi
    rcases hi with ⟨rfl, rfl⟩ | ⟨rfl, rfl⟩ | ⟨rfl, rfl⟩
    · rw [exec_wrdata, execWrdata, rawTestWrite_word hst hmay _ hword]
      rfl
    · rw [exec_wrchk, execWrchk, rawTestWrite_word hst hmay _ hword]
      rfl
    · rw [exec_wrboth, execWrboth, rawTestWrite_word hst hmay _ hword]
  case reads =>
    intro s agent tenant st k p row w hst hmay hword
    simp only [exec_rdraw, execRdraw, rawTestRead_word hst hmay false hword, exec_rddec, execRddec, rawTestRead_word hst hmay true hword,
      Bool.false_eq_true, if_false, if_true, testStored, and_self]
  case refused =>
    intro s agent tenant st i hst hmay hword hi
    simp only [List.mem_cons, List.not_mem_nil, or_false] at hi
    rcases hi with rfl | rfl | rfl | rfl | rfl
    · rw [exec_wrdata, execWrdata, rawTestWrite_refused hst hmay _ hword]
    · rw [exec_wrchk, execWrchk, rawTestWrite_refused hst hmay _ hword]
    · rw [exec_wrboth, execWrboth, rawTestWrite_refused hst hmay _ hword]
    · rw [exec_rdraw, execRdraw, rawTestRead_refused hst hmay false hword]
    · rw [exec_rddec, execRddec, rawTestRead_refused hst hmay true hword]

end Sys2Proof.Laws
end

section
/-! Movers: what each command answers for the descriptor it is meant for. -/

namespace Sys2Proof.Laws

open Sys2Proof Sys2Proof.Machine

variable {s : State} {m : Nat}

theorem withMover_eq (hm : m < 32) (f : Mover → Res) : withMover s m f = f (s.mover m) := if_pos hm

/-- A whole aligned burst to a mover's or pool's window joins the descriptor being posted (R339, R340). -/
theorem execMoverQueuePost_burst {poster tenant t p addr : Nat} {priv : Bool} {data : List Byte} (htarget : postTargetOf addr = .move t p)
    (hlen : data.length = 64) (haligned : addr % 64 = 0) : execMoverQueuePost poster tenant priv addr data s =
      .next (postMoveBurst s t p (poster * 64) { poster := poster, tenant := tenant, priv := priv } data).2 := by
  simp only [execMoverQueuePost, htarget, hlen, haligned, and_self, if_true]

/-! ### Taking a descriptor -/

/-- A free mover that takes the next descriptor of its queue. -/
structure TakesNext (s : State) (m : Nat) (q : QEntry) (rest : List QEntry) : Prop where
  hmover : m < 32
  hfree : (s.mover m).run = none
  hqueue : (s.mover m).queue = q :: rest
  huntested : underTest s (32 + m) = false

/-- The state in which the descriptor has left the queue and is counted as taken. -/
def descTaken (s : State) (m : Nat) (rest : List QEntry) : State :=
  s.setMover m { s.mover m with queue := rest, taken := sat64 (s.mover m).taken 1 }

section start
variable {q : QEntry} {rest : List QEntry} (h : TakesNext s m q rest)
include h

/-- A descriptor that a rule refuses ends with that rule's code, nothing moved (R265). -/
theorem execMoverDescStart_refused (hcheck : checkMove s q.origin q.data ≠ 0) :
    execMoverDescStart m s = .next ((descTaken s m rest).updMover m (fun x =>
      { x with run := some { data := q.data, origin := q.origin, status := checkMove s q.origin q.data, moved := true } })) := by
  have hmoved : (checkMove s q.origin q.data != 0) = true := bne_iff_ne.2 hcheck
  simp only [execMoverDescStart, withMover_eq h.hmover, h.hfree, h.hqueue, h.huntested, Bool.false_eq_true, if_false, if_pos hcheck, hmoved,
    descTaken]

variable (hcheck : checkMove s q.origin q.data = 0)
include hcheck

/-- A descriptor that writes no instruction bank runs, its remote reads sent (R271). -/
theorem execMoverDescStart_runs (htarget : imemTarget s (moveDesc q.data) = none) :
    let s2 := (descTaken s m rest).updMover m (fun x =>
      { x with run := some { data := q.data, origin := q.origin, status := 0, moved := false } })
    (sendReads s2 m q.origin (moveDesc q.data)).status = 0 →
      execMoverDescStart m s = .next (sendReads s2 m q.origin (moveDesc q.data)).next := by
  intro s2 hsent
  simp only [s2, descTaken, h.hfree] at hsent ⊢
  simp only [execMoverDescStart, withMover_eq h.hmover, h.hfree, h.hqueue, h.huntested, Bool.false_eq_true, if_false, hcheck, ne_eq,
    not_true_eq_false, htarget, bne_self_eq_false, hsent, if_true]

variable {e : Nat} {b : Bool} (htarget : imemTarget s (moveDesc q.data) = some (e, b))
include htarget

/-- A descriptor that writes a free instruction bank makes it LOADING and runs (R319). -/
theorem execMoverDescStart_loads (hbank : bankBusy s e b = false) :
    let s1 := settleBank (beginLoad (descTaken s m rest) e b) e
    let w := sendReads (s1.updMover m (fun x => { x with run := some { data := q.data, origin := q.origin, loading := true } })) m q.origin
      (moveDesc q.data)
    w.status = 0 → execMoverDescStart m s = .next w.next := by
  intro s1 w hsent
  simp only [w, s1, descTaken, h.hfree] at hsent ⊢
  simp only [execMoverDescStart, withMover_eq h.hmover, h.hfree, h.hqueue, h.huntested, Bool.false_eq_true, if_false, hcheck, ne_eq,
    not_true_eq_false, htarget, hbank, hsent, if_true]

/-- A descriptor that writes a busy bank ends with IMEM_BANK_BUSY (R318). -/
theorem execMoverDescStart_bankBusy (hbank : bankBusy s e b = true) :
    execMoverDescStart m s = .next ((refuseLoad (descTaken s m rest) e m q.origin.tenant (moveDesc q.data).tag).updMover m (fun x =>
      { x with run := some { data := q.data, origin := q.origin, status := 0x210, moved := true } })) := by
  have hmoved : ((0x210 : Nat) != 0) = true := rfl
  simp only [execMoverDescStart, withMover_eq h.hmover, h.hfree, h.hqueue, h.huntested, Bool.false_eq_true, if_false, hcheck, ne_eq,
    not_true_eq_false, htarget, hbank, if_true, hmoved, descTaken]

end start

/-! ### Moving -/

section moving
variable {r : MoveRun} {remote : List Byte} {poisoned : List Nat} (hm : m < 32)
include hm

/-- A COPY moves every element of its region (R259 to R262). -/
theorem execMoveCopy_next (hrun : movePending s m 1 = some r) (hfree : nothingHeld s (moveTouches s (moveDesc r.data)) = true) :
    let c := copyElements s m r (moveSource s r remote poisoned) remote (moveDesc r.data).elements
    execMoveCopy m remote poisoned s = .next (putRun c.1 m c.2) := by
  simp only [execMoveCopy, withMover_eq hm, hrun, whenFree_of_nothingHeld hfree]

/-- An ADD moves every element of its region (R263). -/
theorem execMoveAdd_next (hrun : movePending s m 2 = some r) (hfree : nothingHeld s (moveTouches s (moveDesc r.data)) = true) :
    let c := addElements s m r (moveSource s r remote poisoned) (moveDesc r.data).elements
    execMoveAdd m remote poisoned s = .next (putRun c.1 m c.2) := by
  simp only [execMoveAdd, withMover_eq hm, hrun, whenFree_of_nothingHeld hfree]

/-- A DISCARD is issued once no earlier access to its range is outstanding (R221, R222). -/
theorem execMoveDiscard_next (hrun : movePending s m 3 = some r) (hissued : r.issued = false) :
    let d := moveDesc r.data
    outstandingIn s d.dst.addr d.len = false → nothingHeld s [(d.dst.addr, d.len)] = true →
    let q := discardRange s d.dst.addr d.len
    execMoveDiscard m s = .next (putRun q.next m { r with issued := true, status := q.status, bytes := if q.status = 0 then d.len else 0 }) := by
  intro d houtstanding hfree
  simp only [execMoveDiscard, withMover_eq hm, hrun, hissued, houtstanding, Bool.or_self, Bool.false_eq_true, if_false,
    whenFree_of_nothingHeld hfree, d]

/-- An issued DISCARD has moved once its stack has applied the last row (R222). -/
theorem execDiscardApplied_next (hrun : movePending s m 3 = some r) (hissued : r.issued = true) :
    execDiscardApplied m s = .next (putRun s m { r with moved := true }) := by
  simp only [execDiscardApplied, withMover_eq hm, hrun, hissued, if_true]

/-- A host error ends a transfer with MOVE_HOST after the elements already moved (R276, R568). -/
theorem execMoverHostError_next (n : Nat) (hrun : (s.mover m).run = some r) (hmoved : r.moved = false) (hop : (moveDesc r.data).op ≠ 3)
    (hhost : (moveDesc r.data).src.space = 1 ∨ (moveDesc r.data).dst.space = 1) :
    let k := min n (moveDesc r.data).elements
    let c := if (moveDesc r.data).op = 2 then addElements s m r (moveSource s r remote poisoned) k
      else copyElements s m r (moveSource s r remote poisoned) remote k
    execMoverHostError m n remote poisoned s = .next (putRun (bump c.1 0x2050 7 1) m { c.2 with status := 0x331, partial_ := true }) := by
  simp only [execMoverHostError, withMover_eq hm, hrun, hmoved, hop, hhost, ne_eq, not_false_eq_true, and_self, if_true]

/-- A moved descriptor with no remote answer outstanding completes (R275). -/
theorem execMoverDescComplete_next (hrun : (s.mover m).run = some r) (hmoved : r.moved = true) (hremote : remotePending s m = false)
    (hfree : nothingHeld s (if (moveDesc r.data).crec && !(moveDesc r.data).chost then [((moveDesc r.data).caddr, 16)] else []) = true) :
    execMoverDescComplete m s = .next (completeMove s m r) := by
  simp only [execMoverDescComplete, withMover_eq hm, hrun, hmoved, hremote, Bool.not_false, Bool.and_self, if_true,
    whenFree_of_nothingHeld hfree]

end moving

/-- Settles O13: each command by what it answers for the window, the queue or the descriptor it is meant for. -/
theorem moverCommandsComplete : Obligations.MoverCommandsComplete :=
  ⟨fun _ _ _ _ _ _ _ _ htarget hlen haligned => execMoverQueuePost_burst htarget hlen haligned,
    fun _ _ _ _ hm hfree hqueue huntested hcheck htarget hsent => execMoverDescStart_runs ⟨hm, hfree, hqueue, huntested⟩ hcheck htarget hsent,
    fun _ _ _ _ hm hfree hqueue huntested hcheck => execMoverDescStart_refused ⟨hm, hfree, hqueue, huntested⟩ hcheck,
    fun _ _ _ _ _ _ hm hfree hqueue huntested hcheck htarget hbank hsent =>
      execMoverDescStart_loads ⟨hm, hfree, hqueue, huntested⟩ hcheck htarget hbank hsent,
    fun _ _ _ _ _ _ hm hfree hqueue huntested hcheck htarget hbank =>
      execMoverDescStart_bankBusy ⟨hm, hfree, hqueue, huntested⟩ hcheck htarget hbank,
    fun _ _ _ _ _ hm hrun hfree => execMoveCopy_next hm hrun hfree,
    fun _ _ _ _ _ hm hrun hfree => execMoveAdd_next hm hrun hfree,
    fun _ _ _ hm hrun hissued houtstanding hfree => execMoveDiscard_next hm hrun hissued houtstanding hfree,
    fun _ _ _ hm hrun hissued => execDiscardApplied_next hm hrun hissued,
    fun _ _ n _ _ _ hm hrun hmoved hop hhost => execMoverHostError_next hm n hrun hmoved hop hhost,
    fun _ _ _ hm hrun hmoved hremote hfree => execMoverDescComplete_next hm hrun hmoved hremote hfree⟩

end Sys2Proof.Laws
end

section
/-! What a fault and an interrupt leave alone: everything but the records of faults and interrupts and what a recovery stops. -/

namespace Sys2Proof.Laws

open Sys2Proof Sys2Proof.Machine

/-- The state apart from what recording a fault or raising an interrupt may change: the fault record and the interrupts with their counters,
and the slots, requests and steps that a recovery stops (R564, R669, R677). -/
def outsideFaults (s : State) : State :=
  { s with dict := [], subs := [], faults := {}, irq := {}, slots := [], reqs := [], svc := {}, out := [] }

variable (s : State)

/-! ### The fields a fault may change -/

theorem outsideFaults_irq (x : Irq) : outsideFaults { s with irq := x } = outsideFaults s := rfl
theorem outsideFaults_faults (x : Faults) : outsideFaults { s with faults := x } = outsideFaults s := rfl

@[simp] theorem outsideFaults_setSlot (k : Nat) (x : Slot) : outsideFaults (s.setSlot k x) = outsideFaults s := rfl
@[simp] theorem outsideFaults_emit (o : Out) : outsideFaults (emit s o) = outsideFaults s := rfl
@[simp] theorem outsideFaults_markStalled : outsideFaults (markStalled s) = outsideFaults s := rfl
@[simp] theorem outsideFaults_discardSteps (m : Nat) : outsideFaults (discardSteps s m) = outsideFaults s := rfl

@[simp] theorem outsideFaults_noteChange (key : Nat) : outsideFaults (noteChange s key) = outsideFaults s := by
  unfold noteChange; split <;> rfl

@[simp] theorem outsideFaults_bump (i j n : Nat) : outsideFaults (bump s i j n) = outsideFaults s := outsideFaults_noteChange _ _

/-! ### Interrupts -/

@[simp] theorem outsideFaults_sendMsix (fn vec : Nat) : outsideFaults (sendMsix s fn vec) = outsideFaults s := by
  unfold sendMsix; dsimp only; split <;> rfl

@[simp] theorem outsideFaults_deliverSource (n : Nat) : outsideFaults (deliverSource s n) = outsideFaults s := by
  unfold deliverSource
  dsimp only
  repeat' split
  all_goals simp

@[simp] theorem outsideFaults_raiseSource (n : Nat) : outsideFaults (raiseSource s n) = outsideFaults s := by
  unfold raiseSource; split <;> simp [↓outsideFaults_irq]

@[simp] theorem outsideFaults_raiseLocal (t j : Nat) : outsideFaults (raiseLocal s t j) = outsideFaults s := by
  unfold raiseLocal; split <;> simp

/-! ### The fault record -/

@[simp] theorem outsideFaults_setSummary (bits : Nat) : outsideFaults (setSummary s bits) = outsideFaults s := by
  unfold setSummary; dsimp only; split <;> simp [↓outsideFaults_faults]

@[simp] theorem outsideFaults_setTenantFault (t bits : Nat) : outsideFaults (setTenantFault s t bits) = outsideFaults s := by
  unfold setTenantFault; dsimp only
  repeat' split
  all_goals simp [↓outsideFaults_faults]

@[simp] theorem outsideFaults_ringPush (e : FaultEntry) : outsideFaults (ringPush s e) = outsideFaults s := by
  unfold ringPush; dsimp only
  repeat' split
  all_goals simp [↓outsideFaults_faults]

@[simp] theorem outsideFaults_recordEntry (e : FaultEntry) : outsideFaults (recordEntry s e) = outsideFaults s := by
  simp [recordEntry, ↓outsideFaults_faults]

/-! ### Recovery windows -/

@[simp] theorem outsideFaults_slotTenantFault (m : Nat) : outsideFaults (slotTenantFault s m) = outsideFaults s :=
  foldl_keeps (p := fun t : State => outsideFaults t = outsideFaults s) _ _ rfl fun t b h => by split <;> simp [h]

@[simp] theorem outsideFaults_slotRestoring (m : Nat) : outsideFaults (slotRestoring s m) = outsideFaults s := by
  unfold slotRestoring; dsimp only; split <;> simp

@[simp] theorem outsideFaults_slotOffline (m : Nat) : outsideFaults (slotOffline s m) = outsideFaults s := by
  unfold slotOffline; dsimp only; split <;> simp

@[simp] theorem outsideFaults_beginRecovery (e : FaultEntry) (cls : Nat) : outsideFaults (beginRecovery s e cls) = outsideFaults s := by
  unfold beginRecovery; dsimp only
  repeat' split
  all_goals simp [↓outsideFaults_faults]

@[simp] theorem outsideFaults_windowFault (e : FaultEntry) : outsideFaults (windowFault s e) = outsideFaults s := by
  unfold windowFault; dsimp only
  repeat' split
  all_goals simp [↓outsideFaults_faults, ↓outsideFaults_beginRecovery]

@[simp] theorem outsideFaults_recordFault (e : FaultEntry) : outsideFaults (recordFault s e) = outsideFaults s := by
  unfold recordFault
  repeat' split
  all_goals simp

end Sys2Proof.Laws
end

section
/-! Grid set-up, control slots, posts and engine events: what they leave alone. -/

namespace Sys2Proof.Laws

open Sys2Proof Sys2Proof.Machine

/-- The state apart from what these commands may change: the engines, the griddle, the movers' and the fabric's queues, the stockpot counters,
free values, and what a fault may change. -/
def outsideControl (s : State) : State :=
  { s with
    dict := [], subs := [], free := 0, engines := [], potCorrected := 0, potUncorrectable := 0, faults := {}, irq := {}, slots := [], reqs := []
    grid := {}, movers := [], bursts := [], svc := {}, fabric := {}, out := [] }

/-- `s` with all that these commands may change taken from `t`. -/
def withControlOf (t s : State) : State :=
  { s with
    dict := t.dict, subs := t.subs, free := t.free, engines := t.engines, potCorrected := t.potCorrected
    potUncorrectable := t.potUncorrectable, faults := t.faults, irq := t.irq, slots := t.slots, reqs := t.reqs, grid := t.grid
    movers := t.movers, bursts := t.bursts, svc := t.svc, fabric := t.fabric, out := t.out }

theorem eq_withControlOf {s t : State} (h : outsideControl t = outsideControl s) : t = withControlOf t s :=
  (congrArg (withControlOf t) h :)

/-- What a fault leaves alone, these commands may leave alone. -/
theorem outsideControl_of_outsideFaults {s t : State} (h : outsideFaults t = outsideFaults s) : outsideControl t = outsideControl s :=
  (congrArg outsideControl h :)

variable (s : State)

/-! ### The fields these commands may change -/

theorem outsideControl_fabric (x : Fabric) : outsideControl { s with fabric := x } = outsideControl s := rfl
theorem outsideControl_bursts (x : Map (List Byte)) : outsideControl { s with bursts := x } = outsideControl s := rfl

@[simp] theorem outsideControl_setEngine (k : Nat) (x : Engine) : outsideControl (s.setEngine k x) = outsideControl s := rfl
@[simp] theorem outsideControl_setMover (k : Nat) (x : Mover) : outsideControl (s.setMover k x) = outsideControl s := rfl
@[simp] theorem outsideControl_updGrid (f : Grid → Grid) : outsideControl (s.updGrid f) = outsideControl s := rfl
@[simp] theorem outsideControl_setStep (m : Nat) (r : StepRun) : outsideControl (setStep s m r) = outsideControl s := rfl
@[simp] theorem outsideControl_freeValue : outsideControl (freeValue s).2 = outsideControl s := rfl

@[simp] theorem outsideControl_bump (i j n : Nat) : outsideControl (bump s i j n) = outsideControl s :=
  outsideControl_of_outsideFaults (outsideFaults_bump ..)

@[simp] theorem outsideControl_cmdState : outsideControl (cmdState s) = outsideControl s :=
  outsideControl_of_outsideFaults (outsideFaults_setSummary ..)

@[simp] theorem outsideControl_recordFault (e : FaultEntry) : outsideControl (recordFault s e) = outsideControl s :=
  outsideControl_of_outsideFaults (outsideFaults_recordFault ..)

@[simp] theorem outsideControl_slotDone (eng no status : Nat) : outsideControl (slotDone s eng no status) = outsideControl s := rfl

/-! ### Counts and events of the griddle -/

@[simp] theorem outsideControl_recordNumeric (code : Nat) (step : Option Nat) (eng tenant layer count reason : Nat) :
    outsideControl (recordNumeric s code step eng tenant layer count reason) = outsideControl s := by
  cases step <;> simp [recordNumeric]

@[simp] theorem outsideControl_nonfiniteEvent (step : Option Nat) (eng tenant layer n : Nat) :
    outsideControl (nonfiniteEvent s step eng tenant layer n) = outsideControl s := by
  unfold nonfiniteEvent; split <;> simp

@[simp] theorem outsideControl_countGrid (step : Option Nat) (layer sats nonf : Nat) :
    outsideControl (countGrid s step layer sats nonf) = outsideControl s := by
  unfold countGrid; dsimp only
  repeat' split
  all_goals simp

@[simp] theorem outsideControl_finishHead (o : GridOp) : outsideControl (finishHead s o) = outsideControl s := rfl

@[simp] theorem outsideControl_scaleFill (op first count : Nat) (value : Word32) (put : Scales → Scales) :
    outsideControl (scaleFill op first count value put s) = outsideControl s := by
  unfold scaleFill; dsimp only
  repeat' split
  all_goals simp

/-! ### Posts (R339 to R342) -/

@[simp] theorem outsideControl_recordOverflow (engine poster tenant tag : Nat) :
    outsideControl (recordOverflow s engine poster tenant tag) = outsideControl s := by
  simp [recordOverflow]

@[simp] theorem outsideControl_enqueue64 (eng : Nat) (q : QEntry) : outsideControl (enqueue64 s eng q).2 = outsideControl s := by
  unfold enqueue64; dsimp only; split <;> simp

@[simp] theorem outsideControl_enqueueMove (m : Nat) (q : QEntry) : outsideControl (enqueueMove s m q).2 = outsideControl s := by
  unfold enqueueMove; dsimp only; split <;> simp

@[simp] theorem outsideControl_badPost64 (eng : Nat) : outsideControl (badPost64 s eng) = outsideControl s := rfl
@[simp] theorem outsideControl_badPostColl : outsideControl (badPostColl s) = outsideControl s := rfl

@[simp] theorem outsideControl_badPostMove (target : Nat) (first : List Byte) :
    outsideControl (badPostMove s target first) = outsideControl s := by
  unfold badPostMove; dsimp only
  generalize (if target < 32 then some target else _) = m
  cases m <;> rfl

@[simp] theorem outsideControl_postMove (target : Nat) (q : QEntry) : outsideControl (postMove s target q).2 = outsideControl s := by
  unfold postMove; dsimp only
  repeat' split
  all_goals simp

@[simp] theorem outsideControl_postTask (target : Nat) (q : QEntry) : outsideControl (postTask s target q).2 = outsideControl s := by
  unfold postTask; dsimp only
  repeat' split
  all_goals simp

@[simp] theorem outsideControl_postMoveBurst (target part key : Nat) (o : Origin) (burst : List Byte) :
    outsideControl (postMoveBurst s target part key o burst).2 = outsideControl s := by
  unfold postMoveBurst; dsimp only
  repeat' split
  all_goals simp [↓outsideControl_bursts]

@[simp] theorem outsideControl_postBurst (key : Nat) (o : Origin) (addr : Nat) (burst : List Byte) :
    outsideControl (postBurst s key o addr burst).2 = outsideControl s := by
  unfold postBurst; dsimp only
  repeat' split
  all_goals simp [↓outsideControl_fabric]

@[simp] theorem outsideControl_noteQueue (eng : Nat) (step : Option Nat) : outsideControl (noteQueue s eng step) = outsideControl s := by
  unfold noteQueue; dsimp only
  repeat' split
  all_goals simp

/-! ### Fetching words -/

@[simp] theorem outsideControl_fetchUnit (eng off : Nat) : outsideControl (fetchUnit s eng off).2.2 = outsideControl s := by
  unfold fetchUnit loadSram; dsimp only
  split
  · rfl
  · rfl
  · rfl
  · exact outsideControl_recordFault ..

@[simp] theorem outsideControl_fetchUnits (eng off n : Nat) : outsideControl (fetchUnits s eng off n).2.2 = outsideControl s := by
  induction n generalizing s off with
  | zero => rfl
  | succ n ih => simp [fetchUnits, ih]

@[simp] theorem outsideControl_faultEngine (eng code pc tag : Nat) : outsideControl (faultEngine s eng code pc tag) = outsideControl s := by
  unfold faultEngine; dsimp only
  repeat' split
  all_goals simp

@[simp] theorem outsideControl_fetchWord (eng : Nat) : outsideControl (fetchWord s eng).1 = outsideControl s := by
  unfold fetchWord; dsimp only
  repeat' split
  all_goals simp

/-! ### The end of words, entries and drains -/

@[simp] theorem outsideControl_endEntry (eng : Nat) : outsideControl (endEntry s eng) = outsideControl s := rfl
@[simp] theorem outsideControl_enterHalted (eng : Nat) : outsideControl (enterHalted s eng) = outsideControl s := rfl
@[simp] theorem outsideControl_beginStop (eng : Nat) (flip : Bool) : outsideControl (beginStop s eng flip) = outsideControl s := rfl
@[simp] theorem outsideControl_setA (eng rd v : Nat) : outsideControl (setA s eng rd v) = outsideControl s := rfl
@[simp] theorem outsideControl_takeEntry (eng : Nat) (q : QEntry) (status : Nat) (running : Bool) :
    outsideControl (takeEntry s eng q status running) = outsideControl s := rfl
@[simp] theorem outsideControl_endDrain (eng : Nat) (d : Drain) : outsideControl (endDrain s eng d) = outsideControl s := by cases d <;> rfl

@[simp] theorem outsideControl_rejectWord (eng code pc tag : Nat) : outsideControl (rejectWord s eng code pc tag) = outsideControl s := by
  have noted : outsideControl (if code = 0x201 then cmdState s else s) = outsideControl s := by split <;> simp
  unfold rejectWord; dsimp only
  generalize (if code = 0x201 then cmdState s else s) = s0 at noted ⊢
  rw [← noted]
  split
  · exact outsideControl_faultEngine ..
  · rfl

@[simp] theorem outsideControl_finishWord (eng : Nat) : outsideControl (finishWord s eng) = outsideControl s := by
  unfold finishWord; dsimp only
  repeat' split
  all_goals simp

@[simp] theorem outsideControl_jumpTo (eng target : Nat) : outsideControl (jumpTo s eng target) = outsideControl s := by
  unfold jumpTo; dsimp only
  repeat' split
  all_goals simp

/-! ### The commands -/

/-- An answer whose state, where it is one, differs from `s` only in what these commands may change. -/
def FramesControl (r : Res) : Prop := ∀ t, r = .next t → outsideControl t = outsideControl s

variable {s}

theorem framesControl_next {t : State} (h : outsideControl t = outsideControl s) : FramesControl s (.next t) := by
  rintro _ ⟨⟩
  exact h

theorem framesControl_withSeq {eng : Nat} {f : Engine → Res} (h : ∀ e, FramesControl s (f e)) : FramesControl s (withSeq s eng f) := by
  unfold withSeq
  split
  · exact h _
  · exact framesControl_next rfl

theorem framesControl_withCtrl {eng v : Nat} {t : State} (h : outsideControl t = outsideControl s) : FramesControl s (withCtrl s eng v t) :=
  framesControl_withSeq fun e => by
    split
    · exact framesControl_next h
    · exact framesControl_next rfl

theorem framesControl_withEngine {eng : Nat} {f : Engine → Res} (h : ∀ e, FramesControl s (f e)) : FramesControl s (withEngine s eng f) := by
  unfold withEngine
  split
  · exact h _
  · exact framesControl_next rfl

theorem framesControl_scaleSlotComplete : FramesControl s (execScaleSlotComplete s) := by
  unfold execScaleSlotComplete
  repeat' split
  all_goals exact framesControl_next (by simp)

theorem framesControl_wloadComplete : FramesControl s (execWloadComplete s) := by
  unfold execWloadComplete; dsimp only
  repeat' split
  all_goals exact framesControl_next (by simp)

theorem framesControl_mmComplete : FramesControl s (execMmComplete s) := by
  unfold execMmComplete; dsimp only
  repeat' split
  all_goals exact framesControl_next (by simp)

theorem framesControl_seqQueuePost (poster tenant : Nat) (priv : Bool) (serving : Option Nat) (addr : Nat) (data : List Byte) :
    FramesControl s (execSeqQueuePost poster tenant priv serving addr data s) := by
  unfold execSeqQueuePost; dsimp only
  repeat' split
  all_goals exact framesControl_next (by simp)

theorem framesControl_qentryStep (eng : Nat) : FramesControl s (execQentryStep eng s) :=
  framesControl_withSeq fun e => by
    dsimp only
    repeat' split
    all_goals exact framesControl_next (by simp)

theorem framesControl_qentryCall (eng : Nat) : FramesControl s (execQentryCall eng s) :=
  framesControl_withSeq fun e => by
    dsimp only
    repeat' split
    all_goals exact framesControl_next (by simp)

theorem framesControl_qentryFlip (eng : Nat) : FramesControl s (execQentryFlip eng s) :=
  framesControl_withSeq fun e => by
    dsimp only
    repeat' split
    all_goals exact framesControl_next (by simp)

theorem framesControl_loop (eng cn target : Nat) : FramesControl s (execLoop eng cn target s) :=
  framesControl_withCtrl (by
    repeat' split
    all_goals simp)

theorem framesControl_jcz (eng cn target : Nat) : FramesControl s (execJcz eng cn target s) :=
  framesControl_withCtrl (by split <;> simp)

theorem framesControl_call (eng target : Nat) : FramesControl s (execCall eng target s) :=
  framesControl_withCtrl (by
    dsimp only
    repeat' split
    all_goals simp)

theorem framesControl_ret (eng : Nat) : FramesControl s (execRet eng s) :=
  framesControl_withCtrl (by
    dsimp only
    repeat' split
    all_goals simp)

theorem framesControl_bankflip (eng : Nat) : FramesControl s (execBankflip eng s) :=
  framesControl_withCtrl (by dsimp only; split <;> simp)

theorem framesControl_nest (eng : Nat) : FramesControl s (execNest eng s) :=
  framesControl_withSeq fun e => by
    have fetched := outsideControl_fetchWord s eng
    split
    · split
      next s1 heq =>
        rw [heq] at fetched
        exact framesControl_next fetched
      next s1 us heq =>
        rw [heq] at fetched
        dsimp only
        repeat' split
        all_goals exact framesControl_next (by simp [fetched])
    · exact framesControl_next rfl

theorem framesControl_engineDrainEnd (eng : Nat) : FramesControl s (execEngineDrainEnd eng s) :=
  framesControl_withEngine fun e => by
    repeat' split
    all_goals exact framesControl_next (by simp)

theorem framesControl_engineWatchdog (eng : Nat) : FramesControl s (execEngineWatchdog eng s) :=
  framesControl_withSeq fun e => by
    repeat' split
    all_goals exact framesControl_next (by simp)

/-- Settles O60: each command by what its meaning leaves alone. -/
theorem controlCommandsFrame : Obligations.ControlCommandsFrame := by
  intro c s t hc ht
  refine eq_withControlOf ?_
  cases c <;> cases hc
  case fillcol => exact framesControl_next (outsideControl_scaleFill ..) t ht
  case fillrow => exact framesControl_next (outsideControl_scaleFill ..) t ht
  case setout => exact framesControl_next (outsideControl_scaleFill ..) t ht
  case scaleSlotComplete => exact framesControl_scaleSlotComplete t ht
  case gridOpStart => exact framesControl_next (outsideControl_updGrid ..) t ht
  case wloadComplete => exact framesControl_wloadComplete t ht
  case mmComplete => exact framesControl_mmComplete t ht
  case seqQueuePost => exact framesControl_seqQueuePost _ _ _ _ _ _ t ht
  case qentryStep => exact framesControl_qentryStep _ t ht
  case qentryCall => exact framesControl_qentryCall _ t ht
  case qentryFlip => exact framesControl_qentryFlip _ t ht
  case seta => exact framesControl_withCtrl (by simp) t ht
  case adda => exact framesControl_withCtrl (by simp) t ht
  case setc => exact framesControl_withCtrl (by simp) t ht
  case maddc => exact framesControl_withCtrl (by simp) t ht
  case jump => exact framesControl_withCtrl (outsideControl_jumpTo ..) t ht
  case loop => exact framesControl_loop _ _ _ t ht
  case jcz => exact framesControl_jcz _ _ _ t ht
  case call => exact framesControl_call _ _ t ht
  case ret => exact framesControl_ret _ t ht
  case bankflip => exact framesControl_bankflip _ t ht
  case ctrlHalt => exact framesControl_withCtrl (by simp) t ht
  case ctrlStop => exact framesControl_withCtrl (outsideControl_beginStop ..) t ht
  case nest => exact framesControl_nest _ t ht
  case engineDrainEnd => exact framesControl_engineDrainEnd _ t ht
  case engineWatchdog => exact framesControl_engineWatchdog _ t ht

end Sys2Proof.Laws
end

section
/-! ENG_CMD: what each command answers for the engine and the agent it is meant for. -/

namespace Sys2Proof.Laws

open Sys2Proof Sys2Proof.Machine

variable {s act : State} {agent tenant eng ctag : Nat}

theorem withEngine_eq (hprog : isProgrammed eng = true) (f : Engine → Res) : withEngine s eng f = f (s.engine eng) := if_pos hprog

theorem withEngine_unchanged {f : Engine → Res} (h : ∀ e, f e = .next s) : withEngine s eng f = .next s := by
  simp only [withEngine, h, ite_self]

/-! ### The verdict on a command (R352, R353) -/

/-- A command of an agent that may not write ENG_CMD is dropped. -/
theorem engCommand_dropped (hmay : mayCommand agent tenant = false) (code : Nat) (busy : Bool) :
    engCommand s agent tenant eng ctag code busy act = s := by
  simp only [engCommand, hmay, Bool.not_false, if_true]

section taken
variable (hmay : mayCommand agent tenant = true) (hbusy : (s.engine eng).cmdBusy = false)
include hmay hbusy

/-- A command that nothing forbids is carried out and noted. -/
theorem engCommand_ok (busy : Bool) : engCommand s agent tenant eng ctag 0 busy act = noteCmd act eng 0 ctag busy := by
  have hcode : ¬ (0 : Nat) = 0x201 := by decide
  simp only [engCommand, hmay, hbusy, Bool.not_true, Bool.false_eq_true, if_false, if_neg hcode, ne_eq, not_true_eq_false]

/-- A command that the engine's or the device's state forbids is rejected and sets CMD_STATE. -/
theorem engCommand_wrongState (busy : Bool) :
    engCommand s agent tenant eng ctag 0x201 busy act = cmdState (noteCmd s eng 0x201 ctag false) := by
  simp only [engCommand, hmay, hbusy, Bool.not_true, Bool.false_eq_true, if_false, if_true]

/-- A command of a reserved encoding is rejected. -/
theorem engCommand_reserved (busy : Bool) : engCommand s agent tenant eng ctag 0x202 busy act = noteCmd s eng 0x202 ctag false := by
  have hcode : ¬ (0x202 : Nat) = 0x201 := by decide
  have hne : (0x202 : Nat) ≠ 0 := by decide
  simp only [engCommand, hmay, hbusy, Bool.not_true, Bool.false_eq_true, if_false, if_neg hcode, if_pos hne]

end taken

/-! ### The commands -/

section commands
variable (hprog : isProgrammed eng = true) (hmay : mayCommand agent tenant = true) (hbusy : (s.engine eng).cmdBusy = false)
include hprog hmay hbusy

/-- COMMIT of a bank that is not LOADING, within its limits, commits it (R319). -/
theorem execCommit_next {bank : Bool} {len entry : Nat} (hlen : len < 65536) (hentry : entry < 65536)
    (hcode : commitCode (s.engine eng) eng bank len entry = 0) :
    execCommit agent tenant eng bank len entry ctag s =
      .next (noteCmd (s.updEngine eng (fun e => commitBank e bank len entry)) eng 0 ctag false) := by
  simp only [execCommit, withEngine_eq hprog, Nat.mod_eq_of_lt hlen, Nat.mod_eq_of_lt hentry, hcode, engCommand_ok hmay hbusy]

/-- SELECT at rest selects the bank (R351). -/
theorem execSelect_next (bank : Bool) (hrest : (s.engine eng).state = .idle ∨ (s.engine eng).state = .loaded) :
    execSelect agent tenant eng bank ctag s =
      .next (noteCmd (s.updEngine eng (fun e => selectBank e bank)) eng 0 ctag false) := by
  simp only [execSelect, withEngine_eq hprog, if_pos hrest, engCommand_ok hmay hbusy]

/-- START_SERVICE starts a LOADED engine where the device's state allows (R349, R352). -/
theorem execStartService_next (hloaded : (s.engine eng).state = .loaded) (hdev : devRunsService s.dev = true) :
    execStartService agent tenant eng ctag s =
      .next (noteCmd (s.updEngine eng (fun e => { e with state := .runService, stack := [] })) eng 0 ctag false) := by
  simp only [execStartService, withEngine_eq hprog, hloaded, hdev, and_self, if_true, engCommand_ok hmay hbusy]

/-- START_SERVICE of an engine that is not LOADED is rejected. -/
theorem execStartService_wrongState (hstate : (s.engine eng).state ≠ .loaded) :
    execStartService agent tenant eng ctag s = .next (cmdState (noteCmd s eng 0x201 ctag false)) := by
  simp only [execStartService, withEngine_eq hprog, hstate, false_and, if_false, engCommand_wrongState hmay hbusy]

/-- START_NEST starts a LOADED sequencer at its entry point where the device's state allows (R349, R352). -/
theorem execStartNest_next (hseq : isSeq eng = true) (hloaded : (s.engine eng).state = .loaded) (hdev : devRunsNest s.dev = true) :
    execStartNest agent tenant eng ctag s =
      .next (noteCmd (s.updEngine eng (fun e => { e with state := .runNest, pc := e.entry, stack := [] })) eng 0 ctag false) := by
  simp only [execStartNest, withEngine_eq hprog, hseq, hloaded, hdev, Bool.not_true, Bool.false_eq_true, if_false, and_self, if_true,
    engCommand_ok hmay hbusy]

/-- A walker core rejects START_NEST as reserved (R352). -/
theorem execStartNest_core (hcore : isSeq eng = false) :
    execStartNest agent tenant eng ctag s = .next (noteCmd s eng 0x202 ctag false) := by
  simp only [execStartNest, withEngine_eq hprog, hcore, Bool.not_false, if_true, engCommand_reserved hmay hbusy]

section halt
variable (hrun : (s.engine eng).state = .runService ∨ (s.engine eng).state = .runNest) (hdrain : (s.engine eng).drain = none)
include hrun hdrain

/-- HALT at a boundary halts a running engine at once (R354). -/
theorem execEngHalt_atBoundary (hboundary : atBoundary (s.engine eng) = true) :
    execEngHalt agent tenant eng ctag s = .next (noteCmd (s.updEngine eng haltNow) eng 0 ctag false) := by
  simp only [execEngHalt, withEngine_eq hprog, hrun, hdrain, hboundary, Option.isNone_none, and_self, if_true, Bool.not_true,
    engCommand_ok hmay hbusy]

/-- HALT away from a boundary is asked for, and goes on (R354). -/
theorem execEngHalt_requested (hboundary : atBoundary (s.engine eng) = false) :
    execEngHalt agent tenant eng ctag s = .next (noteCmd (s.updEngine eng (fun e => { e with haltReq := true })) eng 0 ctag true) := by
  simp only [execEngHalt, withEngine_eq hprog, hrun, hdrain, hboundary, Option.isNone_none, and_self, if_true, Bool.not_false,
    Bool.false_eq_true, if_false, engCommand_ok hmay hbusy]

end halt

/-- RESUME returns a HALTED engine to the state it left (R354). -/
theorem execEngResume_next (hhalted : (s.engine eng).state = .halted) (hdrain : (s.engine eng).drain = none)
    (hdev : (if (s.engine eng).haltNest then devRunsNest s.dev else devRunsService s.dev) = true) :
    execEngResume agent tenant eng ctag s = .next (noteCmd (s.updEngine eng (fun e => { e with
      state := if e.haltNest then .runNest else .runService
      held := e.held.map (fun h => { h with since := s.now }) })) eng 0 ctag false) := by
  simp only [execEngResume, withEngine_eq hprog, hhalted, hdrain, hdev, Option.isNone_none, and_self, if_true, engCommand_ok hmay hbusy]

/-- STOP drains an engine that is not IDLE (R355). -/
theorem execEngStop_next (flip : Bool) (hstate : (s.engine eng).state ≠ .idle) :
    execEngStop agent tenant eng flip ctag s = .next (noteCmd (stopEngine s eng flip) eng 0 ctag true) := by
  simp only [execEngStop, withEngine_eq hprog, if_neg hstate, engCommand_ok hmay hbusy]

/-- STOP of an IDLE engine is rejected (R352). -/
theorem execEngStop_wrongState (flip : Bool) (hidle : (s.engine eng).state = .idle) :
    execEngStop agent tenant eng flip ctag s = .next (cmdState (noteCmd s eng 0x201 ctag false)) := by
  simp only [execEngStop, withEngine_eq hprog, if_pos hidle, engCommand_wrongState hmay hbusy]

/-- CLEARQ empties the queue of an engine at rest (R355). -/
theorem execClearq_next (hrest : (s.engine eng).state = .idle ∨ (s.engine eng).state = .loaded ∨ (s.engine eng).state = .halted ∨
    (s.engine eng).state = .faulted) :
    execClearq agent tenant eng ctag s = .next (noteCmd (discardQueue s eng) eng 0 ctag false) := by
  simp only [execClearq, withEngine_eq hprog, if_pos hrest, engCommand_ok hmay hbusy]

end commands

/-- Settles O14: each command by what it answers for the state of the engine, and every one by what it answers to another agent. -/
theorem engineCommandsComplete : Obligations.EngineCommandsComplete := by
  unfold Obligations.EngineCommandsComplete
  refine ⟨fun s agent tenant eng ctag hprog hmay hbusy => ?commands, fun s agent tenant eng ctag len entry bank flip i hmay hi => ?dropped⟩
  case commands =>
    exact ⟨fun _ _ _ hlen hentry hcode => execCommit_next hprog hmay hbusy hlen hentry hcode,
      fun bank hrest => execSelect_next hprog hmay hbusy bank hrest,
      fun hloaded hdev => execStartService_next hprog hmay hbusy hloaded hdev,
      fun hseq hloaded hdev => execStartNest_next hprog hmay hbusy hseq hloaded hdev,
      fun hrun hdrain hboundary => execEngHalt_atBoundary hprog hmay hbusy hrun hdrain hboundary,
      fun hrun hdrain hboundary => execEngHalt_requested hprog hmay hbusy hrun hdrain hboundary,
      fun hhalted hdrain hdev => execEngResume_next hprog hmay hbusy hhalted hdrain hdev,
      fun flip hstate => execEngStop_next hprog hmay hbusy flip hstate,
      fun hrest => execClearq_next hprog hmay hbusy hrest,
      fun hcore => execStartNest_core hprog hmay hbusy hcore,
      fun flip hidle => ⟨execEngStop_wrongState hprog hmay hbusy flip hidle,
        execStartService_wrongState hprog hmay hbusy (by rw [hidle]; decide)⟩⟩
  case dropped =>
    simp only [List.mem_cons, List.not_mem_nil, or_false] at hi
    rcases hi with rfl | rfl | rfl | rfl | rfl | rfl | rfl | rfl <;> exact withEngine_unchanged fun _ => congrArg _ (engCommand_dropped hmay _ _)

end Sys2Proof.Laws
end

section
/-! CTRL slots and NEST: what each does when it is its turn. -/

namespace Sys2Proof.Laws

open Sys2Proof Sys2Proof.Machine

variable {s s1 : State} {eng : Nat}

theorem withSeq_eq (hseq : isSeq eng = true) (f : Engine → Res) : withSeq s eng f = f (s.engine eng) := if_pos hseq

/-- The CTRL slot whose turn it is takes effect. -/
theorem withCtrl_of_pendingCtrl {v : Nat} (hseq : isSeq eng = true) (hpend : pendingCtrl (s.engine eng) v = true) (t : State) :
    withCtrl s eng v t = .next t := by
  simp only [withCtrl, withSeq_eq hseq, hpend, if_true]

section slots
variable (hseq : isSeq eng = true)
include hseq

/-! ### Registers and counters (R336) -/

theorem execSeta_next {rd imm : Nat} (hrd : rd < 16) (himm : imm < 2 ^ 52)
    (hpend : pendingCtrl (s.engine eng) (ctrlBits 1 (rd * 2 ^ 54 + imm)) = true) :
    execSeta eng rd imm s = .next (finishWord (setA s eng rd imm) eng) := by
  simp only [execSeta, Nat.mod_eq_of_lt hrd, Nat.mod_eq_of_lt himm, withCtrl_of_pendingCtrl hseq hpend]

theorem execAdda_next {rd ra imm : Nat} (hrd : rd < 16) (hra : ra < 16) (himm : imm < 2 ^ 48)
    (hpend : pendingCtrl (s.engine eng) (ctrlBits 2 (rd * 2 ^ 54 + ra * 2 ^ 50 + imm)) = true) :
    execAdda eng rd ra imm s =
      .next (finishWord (setA s eng rd (wrap 52 (((s.engine eng).reg ra : Int) + signExt 48 imm))) eng) := by
  simp only [execAdda, Nat.mod_eq_of_lt hrd, Nat.mod_eq_of_lt hra, Nat.mod_eq_of_lt himm, withCtrl_of_pendingCtrl hseq hpend]

theorem execSetc_next {cn imm : Nat} (hcn : cn < 4) (himm : imm < 2 ^ 32)
    (hpend : pendingCtrl (s.engine eng) (ctrlBits 3 (cn * 2 ^ 56 + imm)) = true) :
    execSetc eng cn imm s = .next (finishWord (s.updEngine eng (fun e => { e with c := mapSet 0 e.c cn imm })) eng) := by
  simp only [execSetc, Nat.mod_eq_of_lt hcn, Nat.mod_eq_of_lt himm, withCtrl_of_pendingCtrl hseq hpend]

theorem execMaddc_next {rd ra cn imm : Nat} (hrd : rd < 16) (hra : ra < 16) (hcn : cn < 4) (himm : imm < 2 ^ 32)
    (hpend : pendingCtrl (s.engine eng) (ctrlBits 4 (rd * 2 ^ 54 + ra * 2 ^ 50 + cn * 2 ^ 48 + imm)) = true) :
    execMaddc eng rd ra cn imm s = .next (finishWord (setA s eng rd
      (wrap 52 (((s.engine eng).reg ra : Int) + ((s.engine eng).ctr cn : Int) * signExt 32 imm))) eng) := by
  simp only [execMaddc, Nat.mod_eq_of_lt hrd, Nat.mod_eq_of_lt hra, Nat.mod_eq_of_lt hcn, Nat.mod_eq_of_lt himm,
    withCtrl_of_pendingCtrl hseq hpend]

/-! ### Jumps and loops (R337) -/

theorem execJump_next {target : Nat} (htarget : target < 2 ^ 16) (hpend : pendingCtrl (s.engine eng) (ctrlBits 8 target) = true) :
    execJump eng target s = .next (jumpTo s eng target) := by
  simp only [execJump, Nat.mod_eq_of_lt htarget, withCtrl_of_pendingCtrl hseq hpend]

theorem execLoop_next {cn target : Nat} (hcn : cn < 4) (htarget : target < 2 ^ 16)
    (hpend : pendingCtrl (s.engine eng) (ctrlBits 9 (cn * 2 ^ 56 + target)) = true) :
    let c := (s.engine eng).ctr cn
    let s1 := s.updEngine eng (fun x => { x with c := mapSet 0 x.c cn (c - 1) })
    execLoop eng cn target s = .next (if c = 0 then finishWord s eng else if c = 1 then finishWord s1 eng else jumpTo s1 eng target) := by
  simp only [execLoop, Nat.mod_eq_of_lt hcn, Nat.mod_eq_of_lt htarget, withCtrl_of_pendingCtrl hseq hpend]

theorem execJcz_next {cn target : Nat} (hcn : cn < 4) (htarget : target < 2 ^ 16)
    (hpend : pendingCtrl (s.engine eng) (ctrlBits 10 (cn * 2 ^ 56 + target)) = true) :
    execJcz eng cn target s = .next (if (s.engine eng).ctr cn = 0 then jumpTo s eng target else finishWord s eng) := by
  simp only [execJcz, Nat.mod_eq_of_lt hcn, Nat.mod_eq_of_lt htarget, withCtrl_of_pendingCtrl hseq hpend]

/-! ### Routines (R337) -/

section call
variable {target : Nat} {h : HeldWord} (htarget : target < 2 ^ 16) (hpend : pendingCtrl (s.engine eng) (ctrlBits 11 target) = true)
  (hheld : (s.engine eng).held = some h) (hfetched : h.inline = false)
include htarget hpend hheld hfetched

theorem execCall_next (hroom : (s.engine eng).stack.length < 8) :
    execCall eng target s =
      .next (jumpTo (s.updEngine eng (fun e => { e with stack := (h.at_ + 4 * h.units.length) :: e.stack })) eng target) := by
  simp only [execCall, Nat.mod_eq_of_lt htarget, withCtrl_of_pendingCtrl hseq hpend, hheld, hfetched, Bool.false_eq_true, if_false,
    if_neg (Nat.not_le.mpr hroom)]

/-- A CALL with a full return stack faults the engine (R356). -/
theorem execCall_stackFull (hfull : 8 ≤ (s.engine eng).stack.length) :
    execCall eng target s = .next (faultEngine s eng 0x218 h.at_ (s.engine eng).lastTag) := by
  simp only [execCall, Nat.mod_eq_of_lt htarget, withCtrl_of_pendingCtrl hseq hpend, hheld, hfetched, Bool.false_eq_true, if_false,
    if_pos hfull]

end call

section ret
variable (hpend : pendingCtrl (s.engine eng) (ctrlBits 12 0) = true)
include hpend

theorem execRet_pops {t : Nat} {rest : List Nat} (hstack : (s.engine eng).stack = t :: rest) :
    execRet eng s = .next (jumpTo (s.updEngine eng (fun e => { e with stack := rest })) eng t) := by
  simp only [execRet, withCtrl_of_pendingCtrl hseq hpend, hstack]

variable (hstack : (s.engine eng).stack = [])
include hstack

theorem execRet_stopsNest (hnest : (s.engine eng).state = .runNest) : execRet eng s = .next (beginStop s eng false) := by
  simp only [execRet, withCtrl_of_pendingCtrl hseq hpend, hstack, if_pos hnest]

theorem execRet_endsRoutine (hservice : (s.engine eng).state ≠ .runNest) :
    execRet eng s =
      .next (if ((endEntry s eng).engine eng).haltReq then enterHalted (endEntry s eng) eng else endEntry s eng) := by
  simp only [execRet, withCtrl_of_pendingCtrl hseq hpend, hstack, if_neg hservice]

end ret

/-! ### Nest mode (R346 to R349) -/

section nest
variable {us : List Nat} (hruns : seqRuns (s.engine eng) = true) (hheld : (s.engine eng).held = none)
  (hfetch : fetchWord s eng = (s1, some us)) (hword : bitOf (us.getD 0 0) 21 = true)
include hruns hheld hfetch hword

/-- A NEST in RUN_SERVICE is rejected with the wrong state. -/
theorem execNest_inService (hstate : (s.engine eng).state = .runService) (hcurrent : (s.engine eng).current.isSome = true) :
    execNest eng s = .next (rejectWord s1 eng 0x201 (s.engine eng).pc (us.getD 0 0 % 65536)) := by
  have hready : (s.engine eng).state = .runNest ∨ (s.engine eng).current.isSome = true := .inr hcurrent
  simp only [execNest, withSeq_eq hseq, hruns, hheld, Option.isNone_none, hready, and_self, if_true, hfetch, hword, Bool.not_true,
    Bool.false_eq_true, if_false, if_pos hstate]

/-- A sound NEST in RUN_NEST begins its iterations at its body. -/
theorem execNest_begins (hstate : (s.engine eng).state = .runNest) :
    let e := s.engine eng
    let h := us.getD 0 0
    let a := bitsOf (us.getD 1 0) 31 28
    let b := bitsOf (us.getD 1 0) 27 24
    let c := bitsOf (us.getD 1 0) 23 20
    let n := bitsOf h 18 16 + 1
    bitsOf h 31 26 = 0 → bitsOf h 25 22 = 0 → a ≠ b → a ≠ c → b ≠ c → nestBodyOk s1 eng (e.pc + 4 * us.length) n = true →
    let run : NestRun :=
      { levels := (List.range (bitsOf h 20 19 + 1)).map (nestLevel us), iter := List.replicate (bitsOf h 20 19 + 1) 0,
        opa := a, opb := b, opc := c, baseA := e.reg a, baseB := e.reg b, baseC := e.reg c, savedC := (List.range 4).map e.ctr,
        bodyPc := e.pc + 4 * us.length, bodyLeft := n, bodyWords := n }
    execNest eng s = .next (s1.updEngine eng (fun e => { nestPlace e run run.iter with
      nest := some run, pc := run.bodyPc, lastTag := h % 65536 })) := by
  intro e h a b c n hpres hunits hab hac hbc hbody
  have hsound : ¬ (bitsOf h 31 26 ≠ 0 ∨ bitsOf h 25 22 ≠ 0 ∨ a = b ∨ a = c ∨ b = c ∨ nestBodyOk s1 eng (e.pc + 4 * us.length) n = false) := by
    simp [hpres, hunits, hab, hac, hbc, hbody]
  have hservice : (s.engine eng).state ≠ .runService := by rw [hstate]; decide
  simp only [execNest, withSeq_eq hseq, hruns, hheld, Option.isNone_none, hstate, true_or, and_self, if_true, hfetch, hword, Bool.not_true,
    Bool.false_eq_true, if_false]
  rw [if_neg (by decide), if_neg hsound]

end nest

end slots

/-- Settles O16: each CTRL slot whose turn it is takes effect as its meaning says, and NEST by the state it meets. -/
theorem controlSlotsComplete : Obligations.ControlSlotsComplete := by
  unfold Obligations.ControlSlotsComplete
  refine ⟨fun s eng hseq => ?slots, fun s s1 eng us hseq hruns hheld hstate hcurrent hfetch hword => ?service,
    fun s s1 eng us hseq hruns hheld hstate hfetch => ?nest⟩
  case slots =>
    exact ⟨fun _ _ hrd himm hpend => execSeta_next hseq hrd himm hpend,
      fun _ _ _ hrd hra himm hpend => execAdda_next hseq hrd hra himm hpend,
      fun _ _ hcn himm hpend => execSetc_next hseq hcn himm hpend,
      fun _ _ _ _ hrd hra hcn himm hpend => execMaddc_next hseq hrd hra hcn himm hpend,
      fun _ htarget hpend => execJump_next hseq htarget hpend,
      fun _ _ hcn htarget hpend => execLoop_next hseq hcn htarget hpend,
      fun _ _ hcn htarget hpend => execJcz_next hseq hcn htarget hpend,
      fun _ _ htarget hpend hheld hfetched hroom => execCall_next hseq htarget hpend hheld hfetched hroom,
      fun _ _ htarget hpend hheld hfetched hfull => execCall_stackFull hseq htarget hpend hheld hfetched hfull,
      fun _ _ hpend hstack => execRet_pops hseq hpend hstack,
      fun hpend hstack hnest => execRet_stopsNest hseq hpend hstack hnest,
      fun hpend hstack hservice => execRet_endsRoutine hseq hpend hstack hservice,
      fun hpend => withCtrl_of_pendingCtrl hseq hpend _,
      fun hpend => withCtrl_of_pendingCtrl hseq hpend _,
      fun _ hpend => withCtrl_of_pendingCtrl hseq hpend _⟩
  case service => exact execNest_inService hseq hruns hheld hfetch hword hstate hcurrent
  case nest =>
    exact fun hword hpres hunits hab hac hbc hbody => execNest_begins hseq hruns hheld hfetch hword hstate hpres hunits hab hac hbc hbody

end Sys2Proof.Laws
end

section
/-! Sequencers: what each event answers for the post, the entry, the word or the drain it is meant for. -/

namespace Sys2Proof.Laws

open Sys2Proof Sys2Proof.Machine

variable {s s1 : State} {eng : Nat}

/-! ### Posts (R339, R342) -/

/-- A burst that begins at a window's offset reaches that window. -/
theorem postTargetOf_burst {addr : Nat} (haligned : addr % 64 = 0) : postTargetOf (addr / 64 * 64) = postTargetOf addr := by
  rw [Nat.div_mul_cancel (Nat.dvd_of_mod_eq_zero haligned)]

section post
variable {poster tenant addr : Nat} {priv : Bool} {serving : Option Nat} {data : List Byte} (hlen : data.length = 64) (haligned : addr % 64 = 0)
include hlen haligned

/-- A whole aligned burst to a sequencer's window is posted unless the SVC holds it back. -/
theorem execSeqQueuePost_seq {e : Nat} (htarget : postTargetOf addr = .seq e) (hfree : poster ≠ 16 ∨ svcHoldsBack s e serving = false) :
    execSeqQueuePost poster tenant priv serving addr data s = .next (postBurst (noteQueue s e serving) (poster * 64)
      { poster := poster, tenant := tenant, priv := priv, step := serving } addr data).2 := by
  have hback : ¬ (poster = 16 ∧ svcHoldsBack s e serving = true) := by
    rintro ⟨hposter, hholds⟩
    rcases hfree with hne | hnot
    · exact hne hposter
    · rw [hnot] at hholds; cases hholds
  simp only [execSeqQueuePost, postTargetOf_burst haligned, htarget, hlen, haligned, and_self, true_and, if_neg hback, if_true]

/-- The SVC keeps an entry past its share of a queue, or of an unscheduled slot in a queue that a reserved step uses (R342, R503). -/
theorem execSeqQueuePost_heldBack {e : Nat} (htarget : postTargetOf addr = .seq e) (hposter : poster = 16)
    (hholds : svcHoldsBack s e serving = true) : execSeqQueuePost poster tenant priv serving addr data s = .next s := by
  simp only [execSeqQueuePost, postTargetOf_burst haligned, htarget, hposter, hholds, hlen, haligned, and_self, if_true]

/-- A whole aligned burst to a core's or a walker pool's window is posted. -/
theorem execSeqQueuePost_task {n : Nat} (htarget : postTargetOf addr = .core n ∨ postTargetOf addr = .taskPool n) :
    execSeqQueuePost poster tenant priv serving addr data s = .next (postBurst s (poster * 64)
      { poster := poster, tenant := tenant, priv := priv, step := serving } addr data).2 := by
  rcases htarget with hcore | hpool
  · simp only [execSeqQueuePost, postTargetOf_burst haligned, hcore, hlen, haligned, and_self, if_true]
  · simp only [execSeqQueuePost, postTargetOf_burst haligned, hpool, hlen, haligned, and_self, if_true]

end post

section sequencer
variable (hseq : isSeq eng = true)
include hseq

/-! ### Queue entries (R338, R343) -/

section entry
variable {q : QEntry} {rest : List QEntry} (hqueue : (s.engine eng).queue = q :: rest) (htake : canTake s eng = true)
  (hsound : checkEntry s (s.engine eng) q = 0)
include hqueue htake hsound

/-- The word of a sound STEP entry is held. -/
theorem execQentryStep_next (hkind : bitsOf (u32 q.data 0) 31 28 = 1) :
    execQentryStep eng s = .next ((takeEntry s eng q 0 true).updEngine eng (fun e => { e with
      held := some { units := (List.range 12).map (fun i => u32 q.data (16 + 4 * i)), at_ := 0, inline := true, since := s.now, stage := 4 } })) := by
  have hstep : canTake s eng = true ∧ bitsOf (u32 q.data 0) 31 28 ≠ 2 ∧ bitsOf (u32 q.data 0) 31 28 ≠ 3 := by rw [hkind]; exact ⟨htake, by decide⟩
  simp only [execQentryStep, withSeq_eq hseq, hqueue, if_pos hstep, hsound, ne_eq, not_true_eq_false, if_false]

/-- A sound CALL loads its arguments and starts at ENTRY. -/
theorem execQentryCall_next (hkind : bitsOf (u32 q.data 0) 31 28 = 2) :
    execQentryCall eng s = .next ((takeEntry s eng q 0 true).updEngine eng (fun e => { e with
      pc := u16 q.data 4
      a := (List.range (bitsOf (u32 q.data 0) 27 25)).foldl (fun m i => mapSet 0 m i (u64 q.data (16 + 8 * i) % 2 ^ 52)) e.a })) := by
  simp only [execQentryCall, withSeq_eq hseq, hqueue, htake, hkind, and_self, if_true, hsound, ne_eq, not_true_eq_false, if_false]

/-- A sound FLIP flips the banks. -/
theorem execQentryFlip_next (hkind : bitsOf (u32 q.data 0) 31 28 = 3) :
    execQentryFlip eng s = .next ((takeEntry s eng q 0 true).updEngine eng flipBank) := by
  simp only [execQentryFlip, withSeq_eq hseq, hqueue, htake, hkind, and_self, if_true, hsound, ne_eq, not_true_eq_false, if_false]

end entry

/-! ### Words and waits (R326 to R331) -/

section word
variable {h : HeldWord} (hruns : seqRuns (s.engine eng) = true)
include hruns

section held
variable (hheld : (s.engine eng).held = some h) (hfree : nothingHeld s (heldRanges (s.engine eng)) = true)
include hheld hfree

/-- A held word is checked and admitted. -/
theorem execStepWordIssue_tries (hstage : h.stage = 4) : execStepWordIssue eng s = .next (tryWord s eng h) := by
  simp only [execStepWordIssue, withSeq_eq hseq, hruns, Bool.true_eq_false, if_false, hheld, whenFree_of_nothingHeld hfree, if_pos hstage]

/-- A word that waited for room issues when there is some. -/
theorem execStepWordIssue_issues (hstage : h.stage = 1) (hroom : roomFor s eng (stepWord h.units) = true) :
    execStepWordIssue eng s = .next (issueWord s eng (stepWord h.units)) := by
  have hadmitted : ¬ h.stage = 4 := by rw [hstage]; decide
  have hissues : h.stage = 1 ∧ roomFor s eng (stepWord h.units) = true := ⟨hstage, hroom⟩
  simp only [execStepWordIssue, withSeq_eq hseq, hruns, Bool.true_eq_false, if_false, hheld, whenFree_of_nothingHeld hfree, if_neg hadmitted,
    if_pos hissues]

end held

/-- A free sequencer fetches its next word and checks it. -/
theorem execStepWordIssue_fetches {us : List Nat} (hheld : (s.engine eng).held = none)
    (hwork : (s.engine eng).state = .runNest ∨ (s.engine eng).current.isSome = true) (hfetch : fetchWord s eng = (s1, some us))
    (hplain : bitOf (us.getD 0 0) 21 = false ∨ (s.engine eng).state ≠ .runNest)
    (hfree : nothingHeld s (wordRanges (s.engine eng) us) = true) :
    let h : HeldWord := { units := us, at_ := (s.engine eng).pc, inline := false, since := s.now, stage := 4 }
    execStepWordIssue eng s = .next (tryWord (s1.updEngine eng (fun e => { e with held := some h })) eng h) := by
  have hidle : ¬ ((s.engine eng).state = .runService ∧ (s.engine eng).current.isNone = true) := by
    rintro ⟨hservice, hnone⟩
    rcases hwork with hnest | hsome
    · rw [hnest] at hservice; cases hservice
    · rw [Option.isNone_iff_eq_none.1 hnone] at hsome; cases hsome
  have hnest : ¬ (bitOf (us.getD 0 0) 21 = true ∧ (s.engine eng).state = .runNest) := by
    rintro ⟨hword, hstate⟩
    rcases hplain with hnot | hne
    · rw [hnot] at hword; cases hword
    · exact hne hstate
  simp only [execStepWordIssue, withSeq_eq hseq, hruns, Bool.true_eq_false, if_false, hheld, if_neg hidle, hfetch, if_neg hnest,
    whenFree_of_nothingHeld hfree]

section wait
variable {f : SyncSlot} (hwait : heldWait (s.engine eng) = some (h, f))
include hwait

/-- A satisfied wait issues the word, or lets it wait for room. -/
theorem execSyncWaitEnd_next (hfree : nothingHeld s (heldRanges (s.engine eng)) = true)
    (hmet : (if f.waitk = 1 then doneWait (s.engine eng) f else h.met) = true) :
    execSyncWaitEnd eng s =
      .next (if roomFor s eng (stepWord h.units) then issueWord s eng (stepWord h.units) else setStage s eng 1) := by
  simp only [execSyncWaitEnd, withSeq_eq hseq, hwait, hruns, hmet, and_self, if_true, whenFree_of_nothingHeld hfree]

/-- A memory wait reads its location again (R358). -/
theorem execSyncMemPoll_next (hkind : 2 ≤ f.waitk) (hfree : nothingHeld s [((s.engine eng).reg f.aw, 4)] = true) :
    execSyncMemPoll eng s = .next ((memWait s eng f).1.updEngine eng (fun e => { e with
      held := e.held.map (fun h => { h with met := (memWait s eng f).2 }) })) := by
  simp only [execSyncMemPoll, withSeq_eq hseq, hwait, hruns, hkind, and_self, if_true, whenFree_of_nothingHeld hfree]

end wait

/-- A word unissued past the watchdog faults its engine (R357). -/
theorem execEngineWatchdog_faults (hheld : (s.engine eng).held = some h) (hlimit : (s.engine eng).wdog ≠ 0)
    (hlate : h.since + 1000 * (s.engine eng).wdog < s.now) :
    execEngineWatchdog eng s = .next (faultEngine s eng 0x217 (if h.inline then 0xFFFFFFFF else h.at_) (stepWord h.units).tag) := by
  simp only [execEngineWatchdog, withSeq_eq hseq, hheld, hruns, ne_eq, hlimit, not_false_eq_true, hlate, and_self, if_true]

end word

/-! ### The MOVE slot (R333 to R335) -/

/-- A MOVE slot reads and patches its template and posts it where the target has room. -/
theorem execMovePost_next {v : Nat} {h : HeldWord} (hheld : (s.engine eng).held = some h) (hslot : (stepWord h.units).move = some v)
    (hstage : h.stage = 3) (hdrain : (s.engine eng).drain = none) (hout : movesOut (s.engine eng) < 64)
    (hfree : nothingHeld s (heldRanges (s.engine eng)) = true) :
    let f := moveSlot v
    let w := seqWho s eng
    let l := loadBytes s eng w.1 ((s.engine eng).reg f.adesc) 192
    let d := patchTemplate (s.engine eng) f l.bytes
    moveRoom s f d = true → l.poisoned = false → l.status = 0 → (32 ≤ f.tgt ∨ moverUsable s f.tgt = true) →
    let n := newIssue l.next eng .move
    execMovePost eng s = .next (afterMove (postMove n.2 (if f.tgt = 32 then 34 else f.tgt)
      { data := d, origin := { poster := eng, tenant := w.1, priv := w.2.1, slot := some (eng, n.1), step := w.2.2 } }).2 eng (stepWord h.units)) := by
  intro f w l d hroom hsound hread husable n
  have hretired : ¬ (f.tgt < 32 ∧ moverUsable s f.tgt = false) := by
    rintro ⟨hmover, hnot⟩
    rcases husable with hpool | hyes
    · omega
    · rw [hyes] at hnot; cases hnot
  simp only [execMovePost, withSeq_eq hseq, hheld, hslot, hstage, hdrain, Option.isNone_none, hout, and_self, if_true]
  rw [if_pos hroom, if_neg (by rw [hsound]; decide), if_neg (not_not.2 hread), if_neg hretired, whenFree_of_nothingHeld hfree]

/-! ### The end of an entry (R344, R345) -/

/-- An ended entry all of whose slots have completed is recorded and completed. -/
theorem execEntryComplete_next {r : EntryRun} (hrun : (s.engine eng).runs.find? (fun r => r.ended && r.outstanding == 0) = some r)
    (hfree : nothingHeld s (if bitOf (u32 r.data 0) 24 then [(u64 r.data 8, 16)] else []) = true) :
    execEntryComplete eng s = .next (completeRun s eng r) := by
  simp only [execEntryComplete, withSeq_eq hseq, hrun, whenFree_of_nothingHeld hfree]

end sequencer

/-- A drained engine takes the state its drain calls for (R355, R356). -/
theorem execEngineDrainEnd_next {d : Drain} (hprog : isProgrammed eng = true) (hdrain : (s.engine eng).drain = some d)
    (hdone : drained s eng = true) : execEngineDrainEnd eng s = .next (endDrain s eng d) := by
  simp only [execEngineDrainEnd, withEngine_eq hprog, hdrain, hdone, if_true]

/-- Settles O15: each event by what it answers for the post, the entry, the word or the drain it is meant for. -/
theorem sequencerEventsComplete : Obligations.SequencerEventsComplete :=
  ⟨fun _ _ _ _ _ _ _ _ htarget hlen haligned =>
      ⟨fun hfree => execSeqQueuePost_seq hlen haligned htarget hfree,
        fun hposter hholds => execSeqQueuePost_heldBack hlen haligned htarget hposter hholds⟩,
    fun _ _ _ _ _ _ _ _ htarget hlen haligned => execSeqQueuePost_task hlen haligned htarget,
    fun _ _ _ _ hseq hqueue htake hsound =>
      ⟨fun hkind => execQentryStep_next hseq hqueue htake hsound hkind,
        fun hkind => execQentryCall_next hseq hqueue htake hsound hkind,
        fun hkind => execQentryFlip_next hseq hqueue htake hsound hkind⟩,
    fun _ _ _ hseq hruns hheld hfree =>
      ⟨fun hstage => execStepWordIssue_tries hseq hruns hheld hfree hstage,
        fun hstage hroom => execStepWordIssue_issues hseq hruns hheld hfree hstage hroom⟩,
    fun _ _ _ _ hseq hruns hheld hwork hfetch hplain hfree => execStepWordIssue_fetches hseq hruns hheld hwork hfetch hplain hfree,
    fun _ _ _ _ hseq hwait hfree hruns hmet => execSyncWaitEnd_next hseq hruns hwait hfree hmet,
    fun _ _ _ _ hseq hwait hruns hkind hfree => execSyncMemPoll_next hseq hruns hwait hkind hfree,
    fun _ _ _ _ hseq hheld hslot hstage hdrain hout hfree => execMovePost_next hseq hheld hslot hstage hdrain hout hfree,
    fun _ _ _ hprog hdrain hdone => execEngineDrainEnd_next hprog hdrain hdone,
    fun _ _ _ hseq hheld hruns hlimit hlate => execEngineWatchdog_faults hseq hruns hheld hlimit hlate,
    fun _ _ _ hseq hrun hfree => execEntryComplete_next hseq hrun hfree⟩

end Sys2Proof.Laws
end

section
/-! Registers and threads: what a register holds after a write, and the arguments a task starts with (R365). -/

namespace Sys2Proof.Laws

open Sys2Proof Sys2Proof.Machine

variable {s : State} {n t : Nat} {x : Thread}

/-! ### Registers -/

@[simp] theorem reg_zero (x : Thread) : x.reg 0 = 0 := if_pos rfl

theorem reg_of_ne_zero {i : Nat} (hi : i ≠ 0) : x.reg i = mapGet 0 x.regs i % 2 ^ 64 := if_neg hi

theorem reg_lt_two_pow (x : Thread) (i : Nat) : x.reg i < 2 ^ 64 := by
  by_cases hi : i = 0
  · rw [hi, reg_zero]; decide
  · rw [reg_of_ne_zero hi]; exact Nat.mod_lt _ (by decide)

@[simp] theorem setReg_zero (x : Thread) (v : Nat) : x.setReg 0 v = x := if_pos rfl

/-- Only the low 64 bits of a value are written. -/
theorem setReg_congr {v v' : Nat} (hv : v % 2 ^ 64 = v' % 2 ^ 64) (i : Nat) : x.setReg i v = x.setReg i v' := by
  simp only [Thread.setReg, hv]

theorem reg_setReg {i : Nat} (hi : i ≠ 0) (j v : Nat) : (x.setReg i v).reg j = if j = i then v % 2 ^ 64 else x.reg j := by
  by_cases hj : j = 0
  · rw [hj, reg_zero, reg_zero, if_neg hi.symm]
  · rw [reg_of_ne_zero hj, reg_of_ne_zero hj, Thread.setReg, if_neg hi, mapGet_mapSet]
    split
    · exact Nat.mod_mod _ _
    · rfl

/-! ### The threads of a core -/

@[simp] theorem thread_setWalker (x : Walker) : (s.setWalker n x).thread n t = x.thread t := by
  simp only [State.thread, walker_setWalker, if_true]

@[simp] theorem thread_updThread (f : Thread → Thread) : (s.updThread n t f).thread n t = f (s.thread n t) := by
  simp only [State.updThread, updWalker_eq, thread_setWalker, Walker.thread, mapUpd, mapGet_mapSet, if_true]
  rfl

/-- A change of a core that leaves its threads alone leaves each of them alone. -/
theorem thread_updWalker_of_threads {f : Walker → Walker} (hf : ∀ x, (f x).threads = x.threads) :
    (s.updWalker n f).thread n t = s.thread n t := by
  simp only [updWalker_eq, thread_setWalker, Walker.thread, hf]
  rfl

/-! ### The arguments of a task -/

theorem leNat_lt (bs : List Byte) : leNat bs < 256 ^ bs.length := by
  induction bs with
  | nil => exact Nat.one_pos
  | cons b bs ih =>
    have hb : b.toNat < 256 := b.isLt
    rw [leNat, List.length_cons, Nat.pow_succ]
    omega

theorem u64_lt (d : List Byte) (o : Nat) : u64 d o < 2 ^ 64 := by
  have hlen : ((d.drop o).take 8).length ≤ 8 := List.length_take_le _ _
  calc u64 d o < 256 ^ ((d.drop o).take 8).length := leNat_lt _
    _ ≤ 256 ^ 8 := Nat.pow_le_pow_right (by decide) hlen
    _ = 2 ^ 64 := by decide

/-- Registers written from the first on hold their values, and every other one reads 0. -/
theorem mapGet_arguments (f : Nat → Nat) (narg i : Nat) :
    mapGet 0 ((List.range narg).foldl (fun m j => mapSet 0 m (j + 1) (f j)) []) i = if 1 ≤ i ∧ i ≤ narg then f (i - 1) else 0 := by
  induction narg with
  | zero => rw [if_neg (by omega)]; rfl
  | succ k ih =>
    rw [List.range_succ, List.foldl_append, List.foldl_cons, List.foldl_nil, mapGet_mapSet, ih]
    by_cases hi : i = k + 1
    · rw [if_pos hi, if_pos (by omega), hi, Nat.add_sub_cancel]
    · have hiff : (1 ≤ i ∧ i ≤ k) ↔ (1 ≤ i ∧ i ≤ k + 1) := by omega
      simp only [if_neg hi, hiff]

theorem reg_startThread (s : State) (n t pc narg : Nat) (q : QEntry) (i : Nat) :
    ((startThread s n t pc narg q).thread n t).reg i = if 1 ≤ i ∧ i ≤ narg then u64 q.data (8 + 8 * i) else 0 := by
  have hregs : ((startThread s n t pc narg q).thread n t).regs =
      (List.range narg).foldl (fun m j => mapSet 0 m (j + 1) (u64 q.data (16 + 8 * j))) [] := by
    rw [startThread, thread_updWalker_of_threads (by intro _; rfl), thread_updThread]
  by_cases hi : i = 0
  · rw [hi, reg_zero, if_neg (by omega)]
  · rw [reg_of_ne_zero hi, hregs, mapGet_arguments (fun j => u64 q.data (16 + 8 * j))]
    split
    · have hplace : 16 + 8 * (i - 1) = 8 + 8 * i := by omega
      rw [hplace, Nat.mod_eq_of_lt (u64_lt _ _)]
    · rfl

/-- Settles O55: the rules of a register read after a write, and the arguments placed one register after another. -/
theorem threadRegisters : Obligations.ThreadRegisters :=
  ⟨fun x => ⟨reg_zero x, reg_lt_two_pow x, setReg_zero x, fun _ j v hi => reg_setReg hi j v⟩, reg_startThread⟩

end Sys2Proof.Laws
end

section
/-! The values of the walkers' ALU instructions, as operations on 64-bit words (R367 to R369). -/

namespace Sys2Proof.Laws

open Sys2Proof Sys2Proof.Machine

/-! ### Signs, bits and wrapping -/

theorem bitOf_eq_testBit (v i : Nat) : bitOf v i = v.testBit i := by
  rw [Nat.testBit_eq_decide_div_mod_eq, bitOf, beq_eq_decide]

theorem wrap_eq_toNat_ofInt (n : Nat) (v : Int) : wrap n v = (BitVec.ofInt n v).toNat := (BitVec.toNat_ofInt v).symm

theorem signExt_eq_toInt {n : Nat} (hn : 0 < n) (v : Nat) : signExt n v = (BitVec.ofNat n v).toInt := by
  have hhalf : 2 ^ n = 2 * 2 ^ (n - 1) := by rw [← Nat.pow_succ', Nat.succ_eq_add_one, Nat.sub_add_cancel hn]
  rw [signExt, BitVec.toInt_eq_toNat_cond, BitVec.toNat_ofNat]
  have hiff : v % 2 ^ n < 2 ^ (n - 1) ↔ 2 * (v % 2 ^ n) < 2 ^ n := by omega
  simp only [hiff]

/-- Only the low `n` bits of a value have a say in its sign-extension. -/
theorem signExt_mod (n v : Nat) : signExt n (v % 2 ^ n) = signExt n v := by simp only [signExt, Nat.mod_mod]

theorem sgn_toNat (a : BitVec 64) : sgn a.toNat = a.toInt := by
  rw [sgn, signExt_eq_toInt (by decide), BitVec.ofNat_toNat, BitVec.setWidth_eq]

/-- A sum with a sign-extended field is a sum of 64-bit words. -/
theorem wrap_add_signExt {n : Nat} (hn : 0 < n) (p v : Nat) :
    wrap 64 ((p : Int) + signExt n v) = (BitVec.ofNat 64 p + (BitVec.ofNat n v).signExtend 64).toNat := by
  rw [wrap_eq_toNat_ofInt, BitVec.ofInt_add, BitVec.ofInt_natCast, signExt_eq_toInt hn, BitVec.signExtend]

/-- An offset counts instructions of 4 bytes. -/
theorem wrap_add_four_mul_signExt {n : Nat} (hn : 0 < n) (p v : Nat) :
    wrap 64 ((p : Int) + 4 * signExt n v) = (BitVec.ofNat 64 p + 4#64 * (BitVec.ofNat n v).signExtend 64).toNat := by
  rw [wrap_eq_toNat_ofInt, BitVec.ofInt_add, BitVec.ofInt_natCast, BitVec.ofInt_mul, signExt_eq_toInt hn, BitVec.signExtend]
  rfl

theorem boolNat_decide_eq_toNat (p : Prop) [Decidable p] : boolNat (decide p) = (if p then 1#64 else 0#64).toNat := by
  by_cases hp : p
  · simp [hp, boolNat]
  · simp [hp, boolNat]

/-- Two numbers that share no bit add up to their union. -/
theorem add_two_pow_mul_eq_or {b i : Nat} (hb : b < 2 ^ i) (a : Nat) : b + 2 ^ i * a = b ||| 2 ^ i * a := by
  rw [Nat.add_comm, Nat.two_pow_add_eq_or_of_lt hb, Nat.or_comm]

/-! ### What an operation on numbers computes -/

/-- The operation `f` on two registers' values leaves in its low 64 bits what `g` gives on 64-bit words. -/
def Computes (f : Nat → Nat → Nat) (g : BitVec 64 → BitVec 64 → BitVec 64) : Prop :=
  ∀ a b : BitVec 64, f a.toNat b.toNat % 2 ^ 64 = (g a b).toNat

/-- The operation `f` on a register's value and the immediate leaves in its low 64 bits what `g` gives on words. -/
def ComputesImm (f : Nat → Nat → Nat) (g : BitVec 64 → BitVec 16 → BitVec 64) : Prop :=
  ∀ (a : BitVec 64) (i : BitVec 16), f a.toNat i.toNat % 2 ^ 64 = (g a i).toNat

/-- The comparison `p` of two registers' values is the comparison `g` of 64-bit words. -/
def Decides (p : Nat → Nat → Bool) (g : BitVec 64 → BitVec 64 → Bool) : Prop := ∀ a b : BitVec 64, p a.toNat b.toNat = g a b

theorem mod_of_eq_toNat {v : Nat} {x : BitVec 64} (hv : v = x.toNat) : v % 2 ^ 64 = x.toNat := by rw [hv, Nat.mod_eq_of_lt x.isLt]

/-! ### Sums, products and logic -/

theorem computes_add : Computes (fun a b => a + b) (fun a b => a + b) := fun a b => (BitVec.toNat_add a b).symm

theorem computes_sub : Computes (fun a b => a + m64 - b) (fun a b => a - b) := by
  intro a b
  have hb : b.toNat < 2 ^ 64 := b.isLt
  have hcomm : a.toNat + m64 - b.toNat = 2 ^ 64 - b.toNat + a.toNat := by rw [m64]; omega
  simp only [BitVec.toNat_sub, hcomm]

theorem computes_mul : Computes (fun a b => a * b) (fun a b => a * b) := fun a b => (BitVec.toNat_mul a b).symm

theorem computes_mulhu :
    Computes (fun a b => a * b / m64) (fun a b => ((a.setWidth 128 * b.setWidth 128) >>> 64).setWidth 64) := by
  intro a b
  have hprod : a.toNat * b.toNat < 2 ^ 128 := by
    calc a.toNat * b.toNat < 2 ^ 64 * 2 ^ 64 := Nat.mul_lt_mul'' a.isLt b.isLt
      _ = 2 ^ 128 := by decide
  have hwide (c : BitVec 64) : (c.setWidth 128).toNat = c.toNat := BitVec.toNat_setWidth_of_le (by decide)
  rw [BitVec.toNat_setWidth, BitVec.toNat_ushiftRight, BitVec.toNat_mul, hwide, hwide, Nat.mod_eq_of_lt hprod, Nat.shiftRight_eq_div_pow, m64]

theorem computes_and : Computes (fun a b => a &&& b) (fun a b => a &&& b) := fun a b => mod_of_eq_toNat (BitVec.toNat_and a b).symm

theorem computes_or : Computes (fun a b => a ||| b) (fun a b => a ||| b) := fun a b => mod_of_eq_toNat (BitVec.toNat_or a b).symm

theorem computes_xor : Computes (fun a b => a ^^^ b) (fun a b => a ^^^ b) := fun a b => mod_of_eq_toNat (BitVec.toNat_xor a b).symm

theorem toNat_setWidth_imm (i : BitVec 16) : (i.setWidth 64).toNat = i.toNat := BitVec.toNat_setWidth_of_le (by decide)

theorem computesImm_addi : ComputesImm (fun a i => wrap 64 ((a : Int) + signExt 16 i)) (fun a i => a + i.signExtend 64) := by
  refine fun a i => mod_of_eq_toNat ?_
  dsimp only
  rw [wrap_add_signExt (by decide), BitVec.ofNat_toNat, BitVec.ofNat_toNat, BitVec.setWidth_eq, BitVec.setWidth_eq]

theorem computesImm_andi : ComputesImm (fun a i => a &&& i) (fun a i => a &&& i.setWidth 64) := by
  intro a i
  rw [← toNat_setWidth_imm]
  exact computes_and a (i.setWidth 64)

theorem computesImm_ori : ComputesImm (fun a i => a ||| i) (fun a i => a ||| i.setWidth 64) := by
  intro a i
  rw [← toNat_setWidth_imm]
  exact computes_or a (i.setWidth 64)

theorem computesImm_xori : ComputesImm (fun a i => a ^^^ i) (fun a i => a ^^^ i.setWidth 64) := by
  intro a i
  rw [← toNat_setWidth_imm]
  exact computes_xor a (i.setWidth 64)

/-! ### Shifts -/

theorem shl_mod (a : BitVec 64) (k : Nat) : a.toNat * 2 ^ k % 2 ^ 64 = (a <<< k).toNat := by
  rw [BitVec.toNat_shiftLeft, Nat.shiftLeft_eq]

theorem shr_mod (a : BitVec 64) (k : Nat) : a.toNat / 2 ^ k % 2 ^ 64 = (a >>> k).toNat :=
  mod_of_eq_toNat (by rw [BitVec.toNat_ushiftRight, Nat.shiftRight_eq_div_pow])

theorem sarOf_mod (a : BitVec 64) (k : Nat) : sarOf a.toNat k % 2 ^ 64 = (a.sshiftRight k).toNat :=
  mod_of_eq_toNat (by rw [sarOf, sgn_toNat, wrap_eq_toNat_ofInt, BitVec.sshiftRight, Int.shiftRight_eq_div_pow])

theorem computes_shl : Computes (fun a b => a * 2 ^ (b % 64)) (fun a b => a <<< (b % 64)) := fun a b => shl_mod a (b.toNat % 64)

theorem computes_shr : Computes (fun a b => a / 2 ^ (b % 64)) (fun a b => a >>> (b % 64)) := fun a b => shr_mod a (b.toNat % 64)

theorem computes_sar : Computes (fun a b => sarOf a (b % 64)) (fun a b => a.sshiftRight (b.toNat % 64)) := fun a b => sarOf_mod a (b.toNat % 64)

theorem computesImm_shli : ComputesImm (fun a i => a * 2 ^ i) (fun a i => a <<< i.toNat) := fun a i => shl_mod a i.toNat

theorem computesImm_shri : ComputesImm (fun a i => a / 2 ^ i) (fun a i => a >>> i.toNat) := fun a i => shr_mod a i.toNat

theorem computesImm_sari : ComputesImm (fun a i => sarOf a i) (fun a i => a.sshiftRight i.toNat) := fun a i => sarOf_mod a i.toNat

/-! ### Comparisons -/

theorem computes_minu : Computes min (fun a b => if a ≤ b then a else b) := fun a b =>
  mod_of_eq_toNat (apply_ite BitVec.toNat (a ≤ b) a b).symm

theorem computes_maxu : Computes max (fun a b => if a ≤ b then b else a) := fun a b =>
  mod_of_eq_toNat (apply_ite BitVec.toNat (a ≤ b) b a).symm

theorem computes_mins : Computes (fun a b => if sgn a ≤ sgn b then a else b) (fun a b => if a.toInt ≤ b.toInt then a else b) := fun a b =>
  mod_of_eq_toNat (by simp only [sgn_toNat, apply_ite BitVec.toNat])

theorem computes_maxs : Computes (fun a b => if sgn a ≤ sgn b then b else a) (fun a b => if a.toInt ≤ b.toInt then b else a) := fun a b =>
  mod_of_eq_toNat (by simp only [sgn_toNat, apply_ite BitVec.toNat])

theorem computes_sltu : Computes (fun a b => boolNat (decide (a < b))) (fun a b => if a < b then 1#64 else 0#64) := fun a b =>
  mod_of_eq_toNat (boolNat_decide_eq_toNat (a < b))

theorem computes_slt :
    Computes (fun a b => boolNat (decide (sgn a < sgn b))) (fun a b => if a.toInt < b.toInt then 1#64 else 0#64) := fun a b =>
  mod_of_eq_toNat (by simp only [sgn_toNat, boolNat_decide_eq_toNat])

theorem decides_beq : Decides (fun a b => a == b) (fun a b => a == b) := fun a b => by
  simp only [beq_eq_decide, BitVec.toNat_inj]

theorem decides_bne : Decides (fun a b => a != b) (fun a b => a != b) := fun a b => congrArg not (decides_beq a b)

theorem decides_blt : Decides (fun a b => decide (sgn a < sgn b)) (fun a b => a.slt b) := fun a b => by simp only [sgn_toNat, BitVec.slt]

theorem decides_bge : Decides (fun a b => decide (sgn b ≤ sgn a)) (fun a b => b.sle a) := fun a b => by simp only [sgn_toNat, BitVec.sle]

theorem decides_bltu : Decides (fun a b => decide (a < b)) (fun a b => a.ult b) := fun _ _ => rfl

theorem decides_bgeu : Decides (fun a b => decide (b ≤ a)) (fun a b => b.ule a) := fun _ _ => rfl

/-! ### FORD, POPC, CLZ and HASH -/

theorem computes_ford : Computes (fun a _ => fordKey a) (fun a _ =>
    (if (a.setWidth 32).getLsbD 31 then ~~~a.setWidth 32 else a.setWidth 32 ||| 0x80000000#32).setWidth 64) := by
  refine fun a _ => mod_of_eq_toNat ?_
  have hx : (a.setWidth 32).toNat = a.toNat % 2 ^ 32 := BitVec.toNat_setWidth ..
  dsimp only
  rw [BitVec.toNat_setWidth_of_le (by decide), fordKey, ← hx, bitOf_eq_testBit, BitVec.testBit_toNat]
  generalize a.setWidth 32 = x
  cases hsign : x.getLsbD 31 with
  | true => simp only [if_true, BitVec.toNat_not]
  | false =>
    have hlow : x.toNat < 2 ^ 31 := BitVec.toNat_lt_of_msb_false (by rw [BitVec.msb_eq_getLsbD_last]; exact hsign)
    simp only [Bool.false_eq_true, if_false, BitVec.toNat_or]
    exact add_two_pow_mul_eq_or hlow 1

theorem computes_popc : Computes (fun a _ => popcount a) (fun a _ => BitVec.ofNat 64 ((List.range 64).countP a.getLsbD)) := by
  intro a _
  have hbit : bitOf a.toNat = a.getLsbD := funext fun i => by rw [bitOf_eq_testBit, BitVec.testBit_toNat]
  dsimp only
  rw [popcount, hbit, ← List.countP_eq_length_filter, BitVec.toNat_ofNat]

/-- One more than the place of the highest bit set among the low `n`; 0 where none is. -/
def bitLength (v n : Nat) : Nat := ((List.range n).map (fun i => if bitOf v i then i + 1 else 0)).foldl max 0

theorem leadingZeros_eq (v : Nat) : leadingZeros v = 64 - bitLength v 64 := rfl

theorem bitLength_succ (v n : Nat) : bitLength v (n + 1) = max (bitLength v n) (if bitOf v n then n + 1 else 0) := by
  simp only [bitLength, List.range_succ, List.map_append, List.map_cons, List.map_nil, List.foldl_append, List.foldl_cons, List.foldl_nil]

theorem bitLength_le (v n : Nat) : bitLength v n ≤ n := by
  induction n with
  | zero => exact Nat.le_refl 0
  | succ n ih => rw [bitLength_succ]; split <;> omega

/-- The search from bit `n` down finds the highest bit set. -/
theorem clzAuxRec_toNat (a : BitVec 64) {n : Nat} (hn : n < 64) : (a.clzAuxRec n).toNat = 64 - bitLength a.toNat (n + 1) := by
  induction n with
  | zero =>
    rw [BitVec.clzAuxRec_zero, bitLength_succ, bitOf_eq_testBit, BitVec.testBit_toNat]
    cases a.getLsbD 0 <;> rfl
  | succ n ih =>
    have hle := bitLength_le a.toNat (n + 1)
    rw [BitVec.clzAuxRec_succ, bitLength_succ, bitOf_eq_testBit, BitVec.testBit_toNat]
    cases a.getLsbD (n + 1) with
    | true =>
      simp only [if_true, BitVec.toNat_ofNat]
      omega
    | false => simp only [Bool.false_eq_true, if_false, ih (by omega), Nat.max_zero]

theorem computes_clz : Computes (fun a _ => leadingZeros a) (fun a _ => a.clz) := fun a _ =>
  mod_of_eq_toNat ((leadingZeros_eq _).trans (clzAuxRec_toNat a (by decide)).symm)

theorem rotateLeft_toNat (b : BitVec 64) : b.toNat * 2 ^ 29 % m64 + b.toNat / 2 ^ 35 = (b.rotateLeft 29).toNat := by
  have hlow : b.toNat / 2 ^ 35 < 2 ^ 29 := by have := b.isLt; omega
  have hhigh : b.toNat * 2 ^ 29 % m64 = 2 ^ 29 * (b.toNat % 2 ^ 35) := by rw [m64]; omega
  have hplaces : 29 % 64 = 29 ∧ 64 - 29 = 35 := by decide
  rw [BitVec.toNat_rotateLeft, Nat.shiftLeft_eq, Nat.shiftRight_eq_div_pow, hplaces.1, hplaces.2, ← m64, hhigh,
    Nat.two_pow_add_eq_or_of_lt hlow]

theorem xorShift_toNat (a : BitVec 64) (k : Nat) : a.toNat ^^^ a.toNat / 2 ^ k = (a ^^^ a >>> k).toNat := by
  rw [BitVec.toNat_xor, BitVec.toNat_ushiftRight, Nat.shiftRight_eq_div_pow]

theorem mul_const_toNat (a : BitVec 64) {c : Nat} (hc : c < 2 ^ 64) : a.toNat * c % m64 = (a * BitVec.ofNat 64 c).toNat := by
  rw [BitVec.toNat_mul, BitVec.toNat_ofNat, Nat.mod_eq_of_lt hc, m64]

theorem computes_hash : Computes hashMix (fun a b =>
    let t0 := a ^^^ b.rotateLeft 29
    let t1 := (t0 ^^^ (t0 >>> 30)) * 0xBF58476D1CE4E5B9#64
    let t2 := (t1 ^^^ (t1 >>> 27)) * 0x94D049BB133111EB#64
    t2 ^^^ (t2 >>> 31)) := by
  refine fun a b => mod_of_eq_toNat ?_
  rw [hashMix, rotateLeft_toNat, ← BitVec.toNat_xor]
  simp only [xorShift_toNat]
  rw [mul_const_toNat _ (by decide), xorShift_toNat, mul_const_toNat _ (by decide), xorShift_toNat]

/-! ### MOVK -/

/-- A quarter of a word replaced: the bits below it, the field and the bits above it. -/
theorem replace_quarter (old h v : Nat) :
    old - bitsOf old (h + 15) h * 2 ^ h + v * 2 ^ h = 2 ^ h * (2 ^ 16 * (old / 2 ^ h / 2 ^ 16) + v) + old % 2 ^ h := by
  have hwidth : h + 15 + 1 - h = 16 := by omega
  have hlow := Nat.div_add_mod old (2 ^ h)
  have hhigh := Nat.div_add_mod (old / 2 ^ h) (2 ^ 16)
  rw [bitsOf, hwidth]
  generalize old / 2 ^ h % 2 ^ 16 = field at *
  generalize old / 2 ^ h / 2 ^ 16 = high at *
  generalize old % 2 ^ h = low at *
  rw [← hlow, ← hhigh, Nat.mul_add (2 ^ h), Nat.mul_add (2 ^ h), Nat.mul_comm field, Nat.mul_comm v]
  omega

theorem getLsbD_quarter (i : Nat) : (0xFFFF#64).getLsbD i = decide (i < 16) := by
  have hones : 0xFFFF#64 = (BitVec.allOnes 16).setWidth 64 := by decide
  rw [hones, BitVec.getLsbD_setWidth, BitVec.getLsbD_allOnes, ← Bool.decide_and]
  exact decide_eq_decide.2 (by omega)

theorem movk_toNat (d : BitVec 64) (i : BitVec 16) (k : Nat) :
    (d.toNat - bitsOf d.toNat (k + 15) k * 2 ^ k + i.toNat * 2 ^ k) % 2 ^ 64 = ((d &&& ~~~(0xFFFF#64 <<< k)) ||| (i.setWidth 64 <<< k)).toNat := by
  refine Nat.eq_of_testBit_eq fun j => ?_
  rw [replace_quarter, Nat.testBit_mod_two_pow, Nat.testBit_two_pow_mul_add _ (Nat.mod_lt _ (Nat.two_pow_pos k)),
    Nat.testBit_two_pow_mul_add _ i.isLt]
  simp only [Nat.testBit_mod_two_pow, Nat.testBit_div_two_pow, BitVec.testBit_toNat, BitVec.getLsbD_or, BitVec.getLsbD_and, BitVec.getLsbD_not,
    BitVec.getLsbD_shiftLeft, BitVec.getLsbD_setWidth, getLsbD_quarter]
  by_cases hj : j < 64
  · by_cases hk : j < k
    · simp [hj, hk]
    · by_cases hq : j - k < 16
      · have hfield : j - k < 64 := by omega
        simp [hj, hk, hq, hfield]
      · have habove : j - k - 16 + 16 + k = j := by omega
        simp [hj, hk, hq, habove, BitVec.getLsbD_of_ge i (j - k) (by omega)]
  · simp [hj]

end Sys2Proof.Laws
end

section
/-! ALU instructions, branches, MFS and TEXIT: what each does once a ready thread of a running core issues it (R363 to R369, R382). -/

namespace Sys2Proof.Laws

open Sys2Proof Sys2Proof.Machine

variable {s s2 : State} {n t w : Nat} {op : WalkOp}

/-- An issued instruction does what its meaning makes of the fetched word. -/
theorem walkerOp_next (hissues : Issues s n t op w s2) {f : Nat → Thread → State → Option State} {s3 : State}
    (hf : f w (s.thread n t) s2 = some s3) : walkerOp s n t op f = .next s3 := by
  obtain ⟨hn, ht, hstate, hdrain, hready, hlen, hop, s1, hfetch, rfl⟩ := hissues
  simp only [walkerOp, hn, ht, hstate, hdrain, hready, and_self, if_true, if_neg (Nat.not_lt.2 hlen), hfetch, Bool.false_eq_true, if_false, hop, hf]

theorem walkOp_of_issues (hissues : Issues s n t op w s2) : walkOp w = some op := by
  obtain ⟨-, -, -, -, -, -, hop, -⟩ := hissues
  exact hop

/-! ### ALU instructions -/

theorem toNat_ofNat_reg (x : Thread) (i : Nat) : (BitVec.ofNat 64 (x.reg i)).toNat = x.reg i := by
  rw [BitVec.toNat_ofNat, Nat.mod_eq_of_lt (reg_lt_two_pow x i)]

theorem toNat_ofNat_imm (w : Nat) : (BitVec.ofNat 16 (wImm w)).toNat = wImm w := by
  rw [BitVec.toNat_ofNat, wImm, Nat.mod_mod]

/-- An instruction on RA and RB puts into RD the 64-bit word that its operation gives, and its thread goes on. -/
theorem aluOp_next {f : Nat → Nat → Nat} {g : BitVec 64 → BitVec 64 → BitVec 64} (hissues : Issues s n t op w s2)
    (hvalue : Computes f g) :
    aluOp s n t op f = .next (retireNext s2 n t (fun x => x.setReg (wRd w)
      (g (.ofNat 64 ((s.thread n t).reg (wRa w))) (.ofNat 64 ((s.thread n t).reg (wRb w)))).toNat)) := by
  refine walkerOp_next hissues (congrArg some (congrArg (retireNext s2 n t) (funext fun x => setReg_congr ?_ _)))
  rw [Nat.mod_eq_of_lt (BitVec.isLt _), ← hvalue, toNat_ofNat_reg, toNat_ofNat_reg]

/-- An instruction on RA and the immediate puts into RD the 64-bit word that its operation gives, and its thread goes on. -/
theorem immOp_next {f : Nat → Nat → Nat} {g : BitVec 64 → BitVec 16 → BitVec 64} (hissues : Issues s n t op w s2)
    (hvalue : ComputesImm f g) :
    immOp s n t op f = .next (retireNext s2 n t (fun x => x.setReg (wRd w)
      (g (.ofNat 64 ((s.thread n t).reg (wRa w))) (.ofNat 16 (wImm w))).toNat)) := by
  refine walkerOp_next hissues (congrArg some (congrArg (retireNext s2 n t) (funext fun x => setReg_congr ?_ _)))
  rw [Nat.mod_eq_of_lt (BitVec.isLt _), ← hvalue, toNat_ofNat_reg, toNat_ofNat_imm]

theorem execMovk_next (hissues : Issues s n t .movk w s2) :
    let d := BitVec.ofNat 64 ((s.thread n t).reg (wRd w))
    let i := BitVec.ofNat 16 (wImm w)
    let h := 16 * (wRa w % 4)
    execMovk n t s = .next (retireNext s2 n t (fun x => x.setReg (wRd w) ((d &&& ~~~(0xFFFF#64 <<< h)) ||| (i.setWidth 64 <<< h)).toNat)) := by
  refine walkerOp_next hissues (congrArg some (congrArg (retireNext s2 n t) (funext fun x => setReg_congr ?_ _)))
  rw [Nat.mod_eq_of_lt (BitVec.isLt _), ← movk_toNat, toNat_ofNat_reg, toNat_ofNat_imm]

/-- Settles O17: each instruction by the 64-bit word that its operation on numbers stands for. Each clause is elaborated by itself, before it
meets `exec`, so that the operation is known by then. -/
theorem aluInstructionsCompute : Obligations.AluInstructionsCompute := by
  intro s s2 n t w
  dsimp only
  exact
    ⟨fun h => (aluOp_next h computes_add :), fun h => (aluOp_next h computes_sub :), fun h => (aluOp_next h computes_and :),
      fun h => (aluOp_next h computes_or :), fun h => (aluOp_next h computes_xor :), fun h => (aluOp_next h computes_shl :),
      fun h => (aluOp_next h computes_shr :), fun h => (aluOp_next h computes_sar :), fun h => (aluOp_next h computes_mul :),
      fun h => (aluOp_next h computes_mulhu :), fun h => (aluOp_next h computes_minu :), fun h => (aluOp_next h computes_maxu :),
      fun h => (aluOp_next h computes_mins :), fun h => (aluOp_next h computes_maxs :), fun h => (aluOp_next h computes_sltu :),
      fun h => (aluOp_next h computes_slt :), fun h => (aluOp_next h computes_ford :), fun h => (aluOp_next h computes_popc :),
      fun h => (aluOp_next h computes_clz :), fun h => (aluOp_next h computes_hash :), fun h => (immOp_next h computesImm_addi :),
      fun h => (immOp_next h computesImm_andi :), fun h => (immOp_next h computesImm_ori :), fun h => (immOp_next h computesImm_xori :),
      fun h => (immOp_next h computesImm_shli :), fun h => (immOp_next h computesImm_shri :), fun h => (immOp_next h computesImm_sari :),
      execMovk_next⟩

/-! ### Branches, MFS and TEXIT -/

/-- A compare and branch goes on at its target where its test holds of RD and RA, and at the next instruction otherwise. -/
theorem branchOp_next {p : Nat → Nat → Bool} {g : BitVec 64 → BitVec 64 → Bool} (hissues : Issues s n t op w s2)
    (htest : Decides p g) :
    let th := s.thread n t
    let off := 4#64 * (BitVec.ofNat 16 (wImm w)).signExtend 64
    branchOp s n t op p = .next (retireTo s2 n t
      (if g (.ofNat 64 (th.reg (wRd w))) (.ofNat 64 (th.reg (wRa w))) then (BitVec.ofNat 64 th.pc + off).toNat else th.pc + 4) id) := by
  intro th off
  refine walkerOp_next hissues ?_
  dsimp only
  rw [← htest, toNat_ofNat_reg, toNat_ofNat_reg, wrap_add_four_mul_signExt (by decide)]

theorem execJal_next (hissues : Issues s n t .jal w s2) :
    execJal n t s = .next (retireTo s2 n t (BitVec.ofNat 64 (s.thread n t).pc + 4#64 * (BitVec.ofNat 21 w).signExtend 64).toNat
      (fun x => x.setReg (wRd w) ((s.thread n t).pc + 4))) := by
  refine walkerOp_next hissues ?_
  rw [signExt_mod, wrap_add_four_mul_signExt (by decide)]

theorem execJalr_next (hissues : Issues s n t .jalr w s2) :
    execJalr n t s = .next (retireTo s2 n t (BitVec.ofNat 64 ((s.thread n t).reg (wRa w)) + (BitVec.ofNat 16 (wImm w)).signExtend 64).toNat
      (fun x => x.setReg (wRd w) ((s.thread n t).pc + 4))) := by
  refine walkerOp_next hissues ?_
  rw [wrap_add_signExt (by decide)]

theorem aluOf_ne_mfs (f : Nat) : aluOf f ≠ some WalkOp.mfs := by
  unfold aluOf
  split <;> exact fun h => nomatch h

theorem orderOf_ne_mfs (w : Nat) : Machine.orderOf w ≠ some .mfs := by
  simp only [Machine.orderOf]
  repeat' split
  all_goals exact fun h => nomatch h

/-- An MFS names one of the seven special values (R367): every other opcode gives another instruction or none. -/
theorem wImm_lt_of_walkOp_mfs (hop : walkOp w = some .mfs) : wImm w < 7 := by
  grind [walkOp, aluOf_ne_mfs, orderOf_ne_mfs]

theorem specialValue_eq_getD (s : State) (n t : Nat) (th : Thread) {i : Nat} (hi : i < 7) :
    specialValue s n t th i = [t, n, th.origin.tenant, th.tag, s.now * 21 / 20, s.ptp, localBase + n * 0x40000].getD i 0 := by
  interval_cases i <;> simp only [specialValue, List.getD_cons_zero, List.getD_cons_succ]

theorem execMfs_next (hissues : Issues s n t .mfs w s2) :
    let th := s.thread n t
    execMfs n t s = .next (retireNext s2 n t (fun x => x.setReg (wRd w)
      ([t, n, th.origin.tenant, th.tag, s2.now * 21 / 20, s2.ptp, localBase + n * 0x40000].getD (wImm w) 0))) := by
  intro th
  rw [← specialValue_eq_getD s2 n t th (wImm_lt_of_walkOp_mfs (walkOp_of_issues hissues))]
  exact walkerOp_next hissues rfl

/-- Settles O18: each branch by its test on 64-bit words, and each target by the 64-bit sum that it is. -/
theorem branchInstructionsGoOn : Obligations.BranchInstructionsGoOn := by
  intro s s2 n t w
  dsimp only
  exact
    ⟨fun h => (branchOp_next h decides_beq :), fun h => (branchOp_next h decides_bne :), fun h => (branchOp_next h decides_blt :),
      fun h => (branchOp_next h decides_bge :), fun h => (branchOp_next h decides_bltu :), fun h => (branchOp_next h decides_bgeu :),
      execJal_next, execJalr_next, execMfs_next, fun h => exec_texit.trans (walkerOp_next h rfl)⟩

end Sys2Proof.Laws
end

section
/-! Memory and ordering instructions of the walkers: how an access that passes its checks is issued (R286, R290 to R304, R370 to R378). -/

namespace Sys2Proof.Laws

open Sys2Proof Sys2Proof.Machine

variable {s s2 : State} {n t w : Nat}

/-! ### Accesses -/

section access
variable {kind : WalkKind} {a : Nat}

/-- A load that passes its checks, and that the tracker does not hold back, is waited on. -/
theorem issueLoad_eq {write : Bool} {len : Nat} (hcheck : walkCheck s (s.thread n t) kind write a len = 0)
    (hfree : trackerBlocks (s.walker n) a len = false) (wt : Wait) : issueLoad s n t kind write wt a len = some (waitOn s n t wt a len true) := by
  simp only [issueLoad, hcheck, hfree, ne_eq, not_true_eq_false, if_false, Bool.false_eq_true]

/-- A store that passes its checks, and that the tracker does not hold back, leaves its bytes there, and its thread goes on. -/
theorem issueStore_eq {bs : List Byte} (hcheck : walkCheck s (s.thread n t) kind true a bs.length = 0)
    (hfree : trackerBlocks (s.walker n) a bs.length = false) (add : Option Nat) : issueStore s n t kind a bs add =
      some ((retireNext s n t (fun x => { x with fence := none })).updWalker n (fun x => { x with tracker := x.tracker ++
        [{ thread := t, addr := a, len := bs.length, pc := (s.thread n t).pc, data := some bs, add := add, rel := (s.thread n t).fence }] })) := by
  simp only [issueStore, hcheck, hfree, ne_eq, not_true_eq_false, if_false, Bool.false_eq_true]

end access

theorem thread_waitOn_st (s : State) (n t : Nat) (wt : Wait) (a len : Nat) (isLoad : Bool) :
    ((waitOn s n t wt a len isLoad).thread n t).st = .waiting := by
  rw [waitOn, thread_updWalker_of_threads (by intro _; rfl), thread_updThread]

/-! ### LDCH and WADD (R370, R371) -/

theorem execLdch_empty (hissues : Issues s n t .ldch w s2) (hzero : (s.thread n t).reg (wRa w) = 0) :
    execLdch n t s = .next (retireNext s2 n t (fun x => x.setReg (wRd w) 0)) :=
  walkerOp_next hissues (if_pos hzero)

theorem execLdch_walks (hissues : Issues s n t .ldch w s2) :
    let p := (s.thread n t).reg (wRa w)
    p ≠ 0 → walkCheck s2 (s2.thread n t) .chain false p 64 = 0 → trackerBlocks (s2.walker n) p 64 = false →
    execLdch n t s =
      .next (waitOn s2 n t (.chain (wRd w) p ((s.thread n t).reg (wRb w)) (bitsOf w 10 8) (bitsOf w 7 5) (w % 32)) p 64 true) :=
  fun hne hcheck hfree => walkerOp_next hissues ((if_neg hne).trans (issueLoad_eq hcheck hfree _))

/-- A WADD aimed at an adder issues the access that its FETCH bit names, its line gone from the L1. -/
theorem execWadd_next {s4 : State} (hissues : Issues s n t .wadd w s2) :
    let p := (s.thread n t).reg (wRa w)
    let bs := (s.thread n t).burst (wRd w)
    let s3 := s2.updWalker n (fun x => l1Drop x p)
    hasAdder s2 p = true →
    (if bitOf w 12 then issueLoad s3 n t .add true (.add (wRd w) p (bitsOf w 15 13) bs) p 64
      else issueStore s3 n t .add p bs (some (bitsOf w 15 13))) = some s4 → execWadd n t s = .next s4 := by
  intro p bs s3 hadder hissue
  refine walkerOp_next hissues ((if_neg ?_).trans hissue)
  rintro ⟨-, hnone⟩
  exact Bool.false_ne_true (hnone.symm.trans hadder)

/-! ### Ordering instructions (R290 to R304) -/

theorem execStrel_next (hissues : Issues s n t .strel w s2) :
    let th := s.thread n t
    let p := th.reg (oRa w)
    let bs := natLE (2 ^ oLow w) (th.reg (oRb w))
    walkCheck s2 th .plain true p bs.length = 0 → trackerBlocks (s2.walker n) p bs.length = false →
    execStrel n t s = .next ((s2.updThread n t (fun x => { x with st := .waiting, wait := some .release, fence := none })).updWalker n (fun x =>
      countRelease { x with tracker := x.tracker ++ [{ thread := t, addr := p, len := bs.length, pc := th.pc, data := some bs,
                                                         rel := some (ordScope (oOrd w)) }] } (oOrd w))) := by
  intro th p bs hcheck hfree
  exact walkerOp_next hissues ((if_neg (not_not.2 hcheck)).trans (if_neg (by rw [hfree]; decide)))

/-- The core and the thread as a FENCE leaves them, whether it then waits or ends: its counts, and the release of the thread's next store. -/
def fenceNoted (s : State) (n t o : Nat) : State :=
  let s1 := s.updWalker n (fun x => countAcquire (countRelease x o) o)
  if 2 ≤ ordSem o then s1.updThread n t (fun x => { x with fence := some (ordScope o) }) else s1

theorem execFence_eq (hissues : Issues s n t .fence w s2) :
    let o := oOrd w
    let acq := decide (ordSem o % 2 = 1 ∧ 1 ≤ ordScope o)
    let ahead := storesAhead (s2.walker n)
    execFence n t s = .next (if 2 ≤ ordSem o ∧ 1 ≤ ordScope o ∧ 0 < ahead then
        (fenceNoted s2 n t o).updThread n t (fun x => { x with st := .waiting, wait := some (.fence ahead acq) })
      else endFence (fenceNoted s2 n t o) n t acq) := by
  intro o acq ahead
  refine walkerOp_next hissues ?_
  simp only [fenceNoted, decide_eq_true_eq, ← Bool.decide_and, ← apply_ite some]
  rfl

theorem amoOp_next {op : WalkOp} {len : Nat} (hissues : Issues s n t op w s2) :
    let p := (s.thread n t).reg (oRa w)
    walkCheck s2 (s2.thread n t) .atomic true p len = 0 → trackerBlocks (s2.walker n) p len = false →
    amoOp s n t op len = .next ((waitOn s2 n t (.atomic (oRd w) p len (oLow w) ((s.thread n t).reg (oRb w)) (oOrd w)) p len true).updWalker n
      (fun x => countAcquire (countRelease x (oOrd w)) (oOrd w))) := by
  intro p hcheck hfree
  exact walkerOp_next hissues
    ((congrArg (Option.map _) (issueLoad_eq hcheck hfree _)).trans (congrArg some (if_pos (thread_waitOn_st ..))))

/-! ### POST (R378) -/

theorem execPost_eq (hissues : Issues s n t .post w s2) :
    let th := s.thread n t
    let ra := th.reg (wRa w)
    let part := bitsOf w 10 9
    let p := postAddr ra part
    let ahead := storesAhead (s2.walker n)
    let data := th.burst (wRb w)
    let s3 := s2.updWalker n (fun x => { x with releases := sat64 x.releases 1 })
    postCode ra part = 0 → execPost n t s = .next (if ahead = 0 then performPost s3 n t (wRd w) p data
      else s3.updThread n t (fun x => { x with st := .waiting, wait := some (.post ahead (wRd w) p data) })) := by
  intro th ra part p ahead data s3 hcode
  exact walkerOp_next hissues ((if_neg (not_not.2 hcode)).trans (apply_ite some _ _ _).symm)

/-- Settles O19: each instruction by the access that it issues. -/
theorem memoryInstructionsIssue : Obligations.MemoryInstructionsIssue := by
  intro s s2 n t w
  dsimp only
  refine ⟨fun h hmay => ?ld, fun h hmay => ?st, fun h hmay => ?ldb, fun h hmay => ?stb, fun h => ⟨fun hzero => ?empty, fun hne hmay => ?ldch⟩,
    fun h hfits hadder hfree => ⟨fun hfetch hcheck => ?waddFetch, fun hfetch hlen hcheck => ?wadd⟩, fun h hmay => ?ldacq,
    fun h hcheck hfree => ?strel, fun h => ⟨fun hrel hscope hahead => ?fenceWaits, fun hnot => ?fenceEnds⟩, fun c op len hmem h hmay => ?amo,
    fun h hcode => ⟨fun hnone => ?posts, fun hsome => ?postWaits⟩⟩
  case ld => exact exec_ld.trans (walkerOp_next h (issueLoad_eq hmay.1 hmay.2 _))
  case ldb => exact exec_ldb.trans (walkerOp_next h (issueLoad_eq hmay.1 hmay.2 _))
  case ldacq => exact exec_ldacq.trans (walkerOp_next h (issueLoad_eq hmay.1 hmay.2 _))
  case st => exact exec_st.trans (walkerOp_next h (issueStore_eq hmay.1 hmay.2 none))
  case stb => exact exec_stb.trans (walkerOp_next h (issueStore_eq hmay.1 hmay.2 none))
  case empty => exact execLdch_empty h hzero
  case ldch => exact execLdch_walks h hne hmay.1 hmay.2
  case waddFetch => exact execWadd_next h hadder ((if_pos hfetch).trans (issueLoad_eq hcheck hfree _))
  case wadd =>
    rw [← hlen] at hcheck hfree
    exact execWadd_next h hadder ((if_neg (by rw [hfetch]; decide)).trans (issueStore_eq hcheck hfree _))
  case strel => exact execStrel_next h hcheck hfree
  case fenceWaits => exact (execFence_eq h).trans (congrArg _ (if_pos ⟨hrel, hscope, hahead⟩))
  case fenceEnds => exact (execFence_eq h).trans (congrArg _ (if_neg hnot))
  case amo =>
    simp only [List.mem_cons, Prod.mk.injEq, List.not_mem_nil, or_false] at hmem
    obtain ⟨rfl, rfl, rfl⟩ | ⟨rfl, rfl, rfl⟩ := hmem
    · exact exec_amo64.trans (amoOp_next h hmay.1 hmay.2)
    · exact exec_amo32.trans (amoOp_next h hmay.1 hmay.2)
  case posts => exact (execPost_eq h hcode).trans (congrArg _ (if_pos hnone))
  case postWaits => exact (execPost_eq h hcode).trans (congrArg _ (if_neg hsome))

end Sys2Proof.Laws
end

section
/-! Events of the walkers: what each answers for the access, the entry or the core it is meant for (R286, R287, R363, R370 to R384, R671). -/

namespace Sys2Proof.Laws

open Sys2Proof Sys2Proof.Machine

variable {s : State} {n t : Nat}

/-! ### Data returns (R363, R370, R371, R375) -/

/-- The state in which a data return is answered: the cycles that its access waited for the tracker are counted. -/
def stallNoted (s : State) (n stall : Nat) : State := s.setWalker n { s.walker n with trackStall := sat64 (s.walker n).trackStall stall }

section dataReturn
variable {l1err : Bool} {stall : Nat} (hn : n < 64) (ht : t < 64) (hst : (s.thread n t).st = .waiting ∨ (s.thread n t).st = .stopping)
include hn ht hst

theorem execWalkerDataReturn_load {rd a len : Nat} {sx : Bool} {acq : Option Nat} (hwait : (s.thread n t).wait = some (.load rd a len sx acq))
    (hfree : loadHeld s (s.walker n) t a = false) :
    execWalkerDataReturn n t l1err stall s = .next (returnLoad (stallNoted s n stall) n t a len acq l1err (fun bs x =>
      x.setReg rd (if sx then wrap 64 (signExt (8 * len) (leNat bs)) else leNat bs))) := by
  simp only [execWalkerDataReturn, hn, ht, and_self, if_true, if_neg (or_iff_not_and_not.1 hst),
    hwait, hfree, stallNoted, Bool.false_eq_true, if_false]

theorem execWalkerDataReturn_burst {rd a : Nat} (hwait : (s.thread n t).wait = some (.burst rd a))
    (hfree : loadHeld s (s.walker n) t a = false) :
    execWalkerDataReturn n t l1err stall s = .next (returnLoad (stallNoted s n stall) n t a 64 none l1err (fun bs x => x.setBurst rd bs)) := by
  simp only [execWalkerDataReturn, hn, ht, and_self, if_true, if_neg (or_iff_not_and_not.1 hst),
    hwait, hfree, stallNoted, Bool.false_eq_true, if_false]

theorem execWalkerDataReturn_chain {rd p rb koff noff left : Nat} (hwait : (s.thread n t).wait = some (.chain rd p rb koff noff left))
    (hfree : loadHeld s (s.walker n) t p = false) (halone : overlapOther (s.walker n) t p = false) :
    execWalkerDataReturn n t l1err stall s = .next (returnHop (stallNoted s n stall) n t rd p rb koff noff left l1err) := by
  simp only [execWalkerDataReturn, hn, ht, and_self, if_true, if_neg (or_iff_not_and_not.1 hst),
    hwait, hfree, halone, Bool.or_self, stallNoted, Bool.false_eq_true, if_false]

theorem execWalkerDataReturn_atomic {rd a len aop rb ord : Nat} (hwait : (s.thread n t).wait = some (.atomic rd a len aop rb ord))
    (hfree : loadHeld s (s.walker n) t a = false)
    (horder : 2 ≤ ordSem ord → 1 ≤ ordScope ord → storesBefore (s.walker n) t = false) :
    execWalkerDataReturn n t l1err stall s = .next (returnAtomic (stallNoted s n stall) n t rd a len aop rb ord l1err) := by
  have hordered : (decide (2 ≤ ordSem ord ∧ 1 ≤ ordScope ord) && storesBefore (s.walker n) t) = false := by
    rw [Bool.and_eq_false_imp, decide_eq_true_iff]
    exact fun ⟨hrel, hscope⟩ => horder hrel hscope
  simp only [execWalkerDataReturn, hn, ht, and_self, if_true, if_neg (or_iff_not_and_not.1 hst),
    hwait, hfree, hordered, Bool.or_self, stallNoted, Bool.false_eq_true, if_false]

theorem execWalkerDataReturn_add {rb a fmt : Nat} {data : List Byte} (hwait : (s.thread n t).wait = some (.add rb a fmt data))
    (hfree : loadHeld s (s.walker n) t a = false) :
    execWalkerDataReturn n t l1err stall s = .next (returnAdd (stallNoted s n stall) n t rb a fmt data) := by
  simp only [execWalkerDataReturn, hn, ht, and_self, if_true, if_neg (or_iff_not_and_not.1 hst),
    hwait, hfree, stallNoted, Bool.false_eq_true, if_false]

end dataReturn

/-! ### Store acknowledgments (R286, R287, R290) -/

theorem execWalkerStoreAck_next {entry : Nat} {e : Tracked} (hn : n < 64) (hentry : (s.walker n).tracker[entry]? = some e)
    (hstore : e.isLoad = false) (hfree : runWaits s e.early e.addr = false)
    (hcontrol : controlAhead ((s.walker n).tracker.take entry) e.addr = false)
    (hahead : ordersAfter s e = true → ∀ f ∈ (s.walker n).tracker.take entry, f.isLoad = true) (waited : Nat × Nat) :
    execWalkerStoreAck n entry waited s = .next (ackStore s n entry waited.1 waited.2 e) := by
  have horder : (ordersAfter s e && ((s.walker n).tracker.take entry).any (fun f => !f.isLoad)) = false := by
    rw [Bool.and_eq_false_imp]
    intro hafter
    simpa using hahead hafter
  simp only [execWalkerStoreAck, hn, if_true, hentry, hstore, hfree, hcontrol, horder, Bool.or_false, Bool.false_eq_true, if_false]

/-! ### Tasks (R377, R380, R381, R383, R671) -/

/-- A running core with a free thread takes its next sound entry: a FLIP waits for the threads, a TASK starts. -/
theorem execTaskStart_next {q : QEntry} {rest : List QEntry} (hn : n < 64) (hqueue : (s.engine (64 + n)).queue = q :: rest)
    (hthread : freeThread s n = some t) (hstate : (s.engine (64 + n)).state = .runService) (hdrain : (s.engine (64 + n)).drain = none)
    (hflip : (s.walker n).flip = none) (htest : underTest s (64 + n) = false) (hsound : checkTask s (s.engine (64 + n)) q = 0) :
    let e := s.engine (64 + n)
    let s1 := (s.setEngine (64 + n) { e with queue := rest, taken := sat64 e.taken 1 }).updWalker n startAcquire
    execTaskStart n s = .next (if bitsOf (u32 q.data 0) 31 28 = 3 then s1.updWalker n (fun x => { x with flip := some q })
      else startThread s1 n t (u16 q.data 4) (bitsOf (u32 q.data 0) 27 25) q) := by
  simp only [execTaskStart, hn, if_true, hqueue, hthread, hstate, hdrain, hflip, htest, Option.isNone_none, and_self, hsound, ne_eq,
    not_true_eq_false, if_false, apply_ite Host.Outcome.next]

/-- A FLIP entry whose core's threads have all ended flips the banks and runs the new bank from its entry point. -/
theorem execWalkerFlip_next {q : QEntry} (hn : n < 64) (hflip : (s.walker n).flip = some q) (hstate : (s.engine (64 + n)).state = .runService)
    (hdrain : (s.engine (64 + n)).drain = none) (hfree : threadsFree s n = true) (hother : (s.engine (64 + n)).otherCommitted = true) :
    let s2 := (s.updWalker n (fun x => { x with flip := none })).updEngine (64 + n) flipBank
    execWalkerFlip n s = .next (startThread s2 n 0 (s2.engine (64 + n)).entry 0 q) := by
  simp only [execWalkerFlip, hn, if_true, hflip, hstate, hdrain, Option.isNone_none, hfree, and_self, hother, Bool.true_eq_false, if_false]

theorem execTaskWatchdog_next (hn : n < 64) (ht : t < 64) (hst : (s.thread n t).st = .ready ∨ (s.thread n t).st = .waiting)
    (hlimit : (s.engine (64 + n)).wdog ≠ 0) (hlate : (s.thread n t).since + 1000 * (s.engine (64 + n)).wdog < s.now) :
    execTaskWatchdog n t s = .next (stopThreadAt s n t 0x217 (s.thread n t).pc) := by
  simp only [execTaskWatchdog, hn, ht, hst, hlimit, hlate, ne_eq, not_false_eq_true, and_self, if_true]

theorem bankBytes_core (n : Nat) : bankBytes (64 + n) = 32768 := if_neg (by omega)

theorem execWalkerCoreRestart_next {entry : Nat} {runtime : List Byte} (hn : n < 64) (hstate : (s.engine (64 + n)).state = .faulted)
    (hdrain : (s.engine (64 + n)).drain = none) (hfits : runtime.length ≤ 32768) :
    let e := s.engine (64 + n)
    let len := ceilDiv runtime.length 4
    execWalkerCoreRestart n runtime entry s = .next ((s.setEngine (64 + n)
        { e with
          imem := loadBank (loadBank e.imem false runtime) true runtime
          commA := true, commB := true, lenA := len, lenB := len, entA := entry, entB := entry, state := .runService }).updWalker n (fun x =>
        { x with l1 := [], ran := [] })) := by
  simp only [execWalkerCoreRestart, hn, if_true, hstate, hdrain, Option.isNone_none, bankBytes_core, hfits, and_self]

/-- Settles O20: each event by what it answers for the wait, the tracked store, the entry or the core it is meant for. -/
theorem walkerEventsComplete : Obligations.WalkerEventsComplete :=
  ⟨fun _ _ _ _ _ hn ht hst =>
      ⟨fun _ _ _ _ _ hwait hfree => execWalkerDataReturn_load hn ht hst hwait hfree,
        fun _ _ hwait hfree => execWalkerDataReturn_burst hn ht hst hwait hfree,
        fun _ _ _ _ _ _ hwait hfree halone => execWalkerDataReturn_chain hn ht hst hwait hfree halone,
        fun _ _ _ _ _ _ hwait hfree horder => execWalkerDataReturn_atomic hn ht hst hwait hfree horder,
        fun _ _ _ _ hwait hfree => execWalkerDataReturn_add hn ht hst hwait hfree⟩,
    fun _ _ _ waited _ hn hentry hstore hfree hcontrol hahead => execWalkerStoreAck_next hn hentry hstore hfree hcontrol hahead waited,
    fun _ _ _ _ _ hn hqueue hthread hstate hdrain hflip htest hsound => execTaskStart_next hn hqueue hthread hstate hdrain hflip htest hsound,
    fun _ _ _ hn hflip hstate hdrain hfree hother => execWalkerFlip_next hn hflip hstate hdrain hfree hother,
    fun _ _ _ hn ht hst hlimit hlate => execTaskWatchdog_next hn ht hst hlimit hlate,
    fun _ _ _ _ hn hstate hdrain hfits => execWalkerCoreRestart_next hn hstate hdrain hfits⟩

end Sys2Proof.Laws
end

section
/-! Sieve rows (R415 to R417) and the cutter records staged for a step's vectors (R445). -/

namespace Sys2Proof.Laws

open Sys2Proof Sys2Proof.Machine

/-! ### Whether a query may attend to a key (R415) -/

section allowed
variable {s : State} {w : Win} {len p x : Nat} {i : Sieve}

/-- An image found for a query position has a row for it. -/
theorem row_of_sieveFor (h : sieveFor s w p = some i) : w.sieve ≠ 0 ∧ i.qbase ≤ p ∧ p < i.qbase + i.qn := by
  unfold sieveFor at h
  split at h
  · cases h
  · next hsieve =>
    dsimp only at h
    split at h
    · next hrow =>
      cases h
      exact ⟨hsieve, hrow⟩
    · cases h

theorem allowed_of_len_le (h : len ≤ x) : allowed s w len p x = false := if_pos h

theorem allowed_of_no_image (hx : x < len) (h : sieveFor s w p = none) : allowed s w len p x = decide (x ≤ p) := by
  rw [allowed, if_neg (Nat.not_le.2 hx), h]

theorem allowed_of_image (hx : x < len) (h : sieveFor s w p = some i) :
    allowed s w len p x = (decide (x < i.kn) && bitOf (leNat (peek s (i.row p + x / 8) 1)) (x % 8)) := by
  rw [allowed, if_neg (Nat.not_le.2 hx), h]

end allowed

/-! ### Bits packed into bytes -/

/-- The number whose bit k below n is `f k`, summed as the rows of a sieve are. -/
def sumOfBits (f : Nat → Bool) (n : Nat) : Nat := (List.range n).foldl (fun v k => v + boolNat (f k) * 2 ^ k) 0

theorem sumOfBits_succ (f : Nat → Bool) (n : Nat) : sumOfBits f (n + 1) = 2 ^ n * (f n).toNat + sumOfBits f n := by
  rw [sumOfBits, List.range_succ, List.foldl_append, List.foldl_cons, List.foldl_nil, Nat.add_comm, Nat.mul_comm]
  cases f n <;> rfl

theorem sumOfBits_lt (f : Nat → Bool) (n : Nat) : sumOfBits f n < 2 ^ n := by
  induction n with
  | zero => exact Nat.one_pos
  | succ n ih =>
    have hbit : 2 ^ n * (f n).toNat ≤ 2 ^ n * 1 := Nat.mul_le_mul_left _ (Bool.toNat_le _)
    rw [sumOfBits_succ, Nat.pow_succ]
    omega

theorem bitOf_sumOfBits (f : Nat → Bool) {n j : Nat} (hj : j < n) : bitOf (sumOfBits f n) j = f j := by
  rw [bitOf_eq_testBit]
  induction n with
  | zero => omega
  | succ n ih =>
    rw [sumOfBits_succ, Nat.testBit_two_pow_mul_add _ (sumOfBits_lt f n)]
    split
    · next hlow => exact ih hlow
    · have hlast : j = n := by omega
      subst hlast
      cases f j <;> simp

/-! ### Prefill rows (R87, R417) -/

section sieveRow
variable (s : State) (w : Win) (len p k0 n : Nat)

/-- Bit j of a prefill row: whether the query may attend to the block's key j. -/
def sieveBit (j : Nat) : Bool := decide (j < n) && allowed s w len p (k0 + j)

theorem sieveRow_eq_map :
    sieveRow s w len p k0 n =
      (List.range 512).map (fun b => BitVec.ofNat 8 (sumOfBits (fun k => sieveBit s w len p k0 n (8 * b + k)) 8)) := rfl

theorem length_sieveRow : (sieveRow s w len p k0 n).length = 512 := by
  rw [sieveRow_eq_map, List.length_map, List.length_range]

theorem toNat_getD_sieveRow {b : Nat} (hb : b < 512) :
    ((sieveRow s w len p k0 n).getD b 0).toNat = sumOfBits (fun k => sieveBit s w len p k0 n (8 * b + k)) 8 := by
  rw [sieveRow_eq_map, List.getD_eq_getElem _ _ (by simpa using hb), List.getElem_map, List.getElem_range, BitVec.toNat_ofNat,
    Nat.mod_eq_of_lt (sumOfBits_lt _ 8)]

theorem bitOf_sieveRow {j : Nat} (hj : j < 4096) :
    bitOf ((sieveRow s w len p k0 n).getD (j / 8) 0).toNat (j % 8) = sieveBit s w len p k0 n j := by
  rw [toNat_getD_sieveRow s w len p k0 n (by omega), bitOf_sumOfBits _ (Nat.mod_lt j (by decide)), Nat.div_add_mod]

end sieveRow

/-! ### How many bytes a load gives -/

section loads
variable (reader tenant : Nat)

theorem length_natLE (n v : Nat) : (natLE n v).length = n := by
  induction n generalizing v with
  | zero => rfl
  | succ n ih => rw [natLE, List.length_cons, ih]

theorem length_bytes_loadWords (s : State) (a n : Nat) : (loadWords s reader tenant a n).bytes.length = 32 * n := by
  induction n generalizing s a with
  | zero => rfl
  | succ n ih =>
    rw [loadWords, List.length_append, ih, bytesOfWord, length_natLE]
    omega

/-- The words transferred begin at or before an access and reach to its end. -/
theorem spanOf_covers (a n : Nat) : a - (spanOf a n).1 + n ≤ 32 * (spanOf a n).2 := by
  unfold spanOf
  split
  · dsimp only
    omega
  · dsimp only
    omega

/-- A load gives as many bytes as it asks for, whatever it meets. -/
theorem length_bytes_loadBytes (s : State) (a n : Nat) : (loadBytes s reader tenant a n).bytes.length = n := by
  by_cases hn : n = 0
  · rw [loadBytes, if_pos hn, hn]
    rfl
  · have hspan := spanOf_covers a n
    rw [loadBytes, if_neg hn, List.length_take, List.length_drop, length_bytes_loadWords]
    omega

end loads

/-! ### Cutter records (R445) -/

theorem padTo_of_length_le {n : Nat} {d : List Byte} (h : d.length ≤ n) : padTo n d = d ++ List.replicate (n - d.length) 0 := by
  rw [padTo, List.take_of_length_le h]

/-- A record as it is staged: 128 bytes of which the last 32 are 0. -/
def IsCutterRecord (d : List Byte) : Prop := d.length = 128 ∧ d.drop 96 = List.replicate 32 0

theorem isCutterRecord_zeros : IsCutterRecord (List.replicate 128 0) := ⟨List.length_replicate, List.drop_replicate⟩

theorem isCutterRecord_padTo {d : List Byte} (h : d.length = 96) : IsCutterRecord (padTo 128 d) := by
  rw [padTo_of_length_le (by omega), h]
  exact ⟨by rw [List.length_append, h, List.length_replicate], List.drop_left' h⟩

section cutterRecord
variable {s : State} {m layer : Nat} {b : StepReq}

/-- What R445 stages as zeros before any cutter is read. -/
def NoCutterRead (s : State) (m layer : Nat) (b : StepReq) : Prop :=
  (s.req b.req).cutter = 0xFFFF ∨ b.failed ≠ 0 ∨ (stepAt s m).phase = .draft ∨ (s.slot (s.req b.req).slot).layers ≤ layer

theorem cutterRecord_of_noCutterRead (h : NoCutterRead s m layer b) : cutterRecord s m layer b = (List.replicate 128 0, s) := if_pos h

/-- A record that is staged is zeros, or the 96 bytes read from a cutter filled up with zeros. -/
theorem cutterRecord_bytes (s : State) (m layer : Nat) (b : StepReq) :
    (cutterRecord s m layer b).1 = List.replicate 128 0 ∨
    ∃ tenant a, (cutterRecord s m layer b).1 = padTo 128 (loadBytes s 16 tenant a 96).bytes := by
  unfold cutterRecord
  dsimp only
  split
  · exact .inl rfl
  · split
    · exact .inl rfl
    · exact .inr ⟨_, _, rfl⟩

theorem isCutterRecord_cutterRecord (s : State) (m layer : Nat) (b : StepReq) : IsCutterRecord (cutterRecord s m layer b).1 := by
  obtain hzero | ⟨tenant, a, hread⟩ := cutterRecord_bytes s m layer b
  · rw [hzero]
    exact isCutterRecord_zeros
  · rw [hread]
    exact isCutterRecord_padTo (length_bytes_loadBytes 16 tenant s a 96)

end cutterRecord

/-- Settles O56: R415's cases of `allowed`, a prefill row byte by byte, and a cutter record by whether a cutter is read for it. -/
theorem sieveRows : Obligations.SieveRows :=
  ⟨fun _ _ _ _ _ => ⟨allowed_of_len_le, allowed_of_no_image, fun _ hx himage =>
      have ⟨hsieve, hfirst, hlast⟩ := row_of_sieveFor himage
      ⟨hsieve, hfirst, hlast, allowed_of_image hx himage⟩⟩,
    fun s w len p k0 n => ⟨length_sieveRow s w len p k0 n, fun _ hj => bitOf_sieveRow s w len p k0 n hj⟩,
    fun s m layer b =>
      have ⟨hlength, hzeros⟩ := isCutterRecord_cutterRecord s m layer b
      ⟨hlength, hzeros, cutterRecord_of_noCutterRead⟩⟩

end Sys2Proof.Laws
end

section
/-! What an access to memory leaves of the serving controller: all but the steps, which a fault that it meets may mark for discard (R434, R669). -/

namespace Sys2Proof.Laws

open Sys2Proof Sys2Proof.Machine

/-- The serving controller apart from its steps. -/
def apartSteps (v : Svc) : Svc := { v with steps := [] }

/-- The generations of the cutters are none of the steps. -/
theorem cgen_of_apartSteps {v w : Svc} (h : apartSteps v = apartSteps w) : v.cgen = w.cgen := (congrArg Svc.cgen h :)

variable (s : State)

theorem foldl_apartSteps {β : Type} (f : State → β → State) (l : List β) (hf : ∀ t b, apartSteps (f t b).svc = apartSteps t.svc) :
    apartSteps (l.foldl f s).svc = apartSteps s.svc :=
  foldl_keeps (p := fun t : State => apartSteps t.svc = apartSteps s.svc) f l rfl fun t b h => (hf t b).trans h

/-! ### Interrupts and the fault record -/

@[simp] theorem sendMsix_svc (fn vec : Nat) : (sendMsix s fn vec).svc = s.svc := by
  unfold sendMsix
  dsimp only
  split <;> rfl

@[simp] theorem raiseLocal_svc (t j : Nat) : (raiseLocal s t j).svc = s.svc := by
  unfold raiseLocal raiseSource deliverSource
  dsimp only
  repeat' split
  all_goals simp

@[simp] theorem setSummary_svc (bits : Nat) : (setSummary s bits).svc = s.svc := by
  unfold setSummary
  dsimp only
  split <;> simp

@[simp] theorem setTenantFault_svc (t bits : Nat) : (setTenantFault s t bits).svc = s.svc := by
  unfold setTenantFault
  dsimp only
  repeat' split
  all_goals simp

@[simp] theorem ringPush_svc (e : FaultEntry) : (ringPush s e).svc = s.svc := by
  unfold ringPush
  dsimp only
  repeat' split
  all_goals simp

@[simp] theorem recordEntry_svc (e : FaultEntry) : (recordEntry s e).svc = s.svc := by
  simp only [recordEntry, noteChange_svc, setTenantFault_svc, setSummary_svc, ringPush_svc]

/-! ### Recovery windows -/

@[simp] theorem apartSteps_discardSteps (m : Nat) : apartSteps (discardSteps s m).svc = apartSteps s.svc := rfl
@[simp] theorem markStalled_svc : (markStalled s).svc = s.svc := rfl

@[simp] theorem apartSteps_slotTenantFault (m : Nat) : apartSteps (slotTenantFault s m).svc = apartSteps s.svc :=
  foldl_apartSteps s _ _ fun t b => by split <;> simp

@[simp] theorem apartSteps_slotRestoring (m : Nat) : apartSteps (slotRestoring s m).svc = apartSteps s.svc := by
  unfold slotRestoring
  dsimp only
  split <;> simp

@[simp] theorem apartSteps_slotOffline (m : Nat) : apartSteps (slotOffline s m).svc = apartSteps s.svc := by
  unfold slotOffline
  dsimp only
  split <;> simp

@[simp] theorem apartSteps_beginRecovery (e : FaultEntry) (cls : Nat) : apartSteps (beginRecovery s e cls).svc = apartSteps s.svc := by
  unfold beginRecovery
  dsimp only
  repeat' split
  all_goals simp

@[simp] theorem apartSteps_recordFault (e : FaultEntry) : apartSteps (recordFault s e).svc = apartSteps s.svc := by
  unfold recordFault windowFault
  dsimp only
  repeat' split
  all_goals simp

/-! ### Sparing and retirement -/

@[simp] theorem apartSteps_recordStack (code st reader addr : Nat) : apartSteps (recordStack s code st reader addr).svc = apartSteps s.svc :=
  apartSteps_recordFault s _

@[simp] theorem apartSteps_poisonCell (st p row w reader addr tenant : Nat) :
    apartSteps (poisonCell s st p row w reader addr tenant).svc = apartSteps s.svc := by
  simp only [poisonCell, apartSteps_recordFault, bump_svc, setStack_svc]

@[simp] theorem apartSteps_poisonRow (st p row reader : Nat) : apartSteps (poisonRow s st p row reader).svc = apartSteps s.svc :=
  foldl_apartSteps s _ _ fun t b => by split <;> simp

@[simp] theorem beginMigration_svc (st F D : Nat) : (beginMigration s st F D).svc = s.svc := rfl

@[simp] theorem apartSteps_startRetire (st F : Nat) : apartSteps (startRetire s st F).svc = apartSteps s.svc := by
  unfold startRetire
  dsimp only
  repeat' split
  all_goals simp

@[simp] theorem apartSteps_exhaustSpares (st p row reader : Nat) : apartSteps (exhaustSpares s st p row reader).svc = apartSteps s.svc := by
  unfold exhaustSpares
  dsimp only
  repeat' split
  all_goals simp

@[simp] theorem queueRepair_svc (e : Nat) : (queueRepair s e).svc = s.svc := rfl

@[simp] theorem apartSteps_spareRow (src : Machine.Stack) (st p row reader addr : Nat) :
    apartSteps (spareRow s src st p row reader addr).svc = apartSteps s.svc := by
  unfold spareRow
  dsimp only
  split <;> simp

@[simp] theorem apartSteps_spareColumn (src : Machine.Stack) (st p row sym g reader addr : Nat) :
    apartSteps (spareColumn s src st p row sym g reader addr).svc = apartSteps s.svc := by
  simp only [spareColumn, apartSteps_recordStack, queueRepair_svc, bump_svc, setStack_svc]

@[simp] theorem apartSteps_hardFault (st p row : Nat) (sym : Option Nat) (reader addr : Nat) :
    apartSteps (hardFault s st p row sym reader addr).svc = apartSteps s.svc := by
  unfold hardFault
  dsimp only
  repeat' split
  all_goals simp

/-! ### Loads -/

@[simp] theorem apartSteps_weightFault (m st p row w : Nat) (again : Code288) (reader addr : Nat) :
    apartSteps (weightFault s m st p row w again reader addr).svc = apartSteps s.svc := by
  unfold weightFault
  dsimp only
  split <;> simp

@[simp] theorem touchCell_svc (st p : Nat) : (touchCell s st p).svc = s.svc := rfl

@[simp] theorem apartSteps_loadCell (st p row w reader addr tenant : Nat) :
    apartSteps (loadCell s st p row w reader addr tenant).next.svc = apartSteps s.svc := by
  have touched : (if reader = 0xFF then s else touchCell s st p).svc = s.svc := by split <;> rfl
  unfold loadCell loadCellSeen
  dsimp only
  rw [← touched]
  repeat' split
  all_goals simp

theorem apartSteps_loadSram (c : Code288) {put : State → Code288 → State} (hput : ∀ t c, (put t c).svc = t.svc) (reader addr tenant : Nat) :
    apartSteps (loadSram s c put reader addr tenant).next.svc = apartSteps s.svc := by
  unfold loadSram
  dsimp only
  split <;> simp [hput]

@[simp] theorem countHoles_svc (a n : Nat) : (countHoles s a n).svc = s.svc := by
  unfold countHoles
  split
  · exact foldl_keeps (p := fun t : State => t.svc = s.svc) _ _ rfl fun t b h => by rw [← h]; split <;> simp [holeAccess]
  · rfl

@[simp] theorem apartSteps_loadPart (reader tenant a : Nat) : apartSteps (loadPart s reader tenant a).next.svc = apartSteps s.svc := by
  unfold loadPart
  dsimp only
  split
  case h_1 => exact apartSteps_loadCell s ..
  case h_4 | h_5 | h_6 | h_7 => exact apartSteps_loadSram s _ (by intro _ _; rfl) ..
  all_goals rfl

/-! ### Stores -/

@[simp] theorem storeCodePart_svc (a : Nat) (c : Code288) : (storeCodePart s a c).next.svc = s.svc := by
  unfold storeCodePart
  split
  case h_1 => dsimp only; split <;> simp [storeCell]
  all_goals rfl

@[simp] theorem apartSteps_storePart (reader tenant a : Nat) (bs : List Byte) :
    apartSteps (storePart s reader tenant a bs).next.svc = apartSteps s.svc := by
  unfold storePart
  dsimp only
  repeat' split
  all_goals simp

@[simp] theorem apartSteps_storeAux (reader tenant a : Nat) (bs : List Byte) (n : Nat) :
    apartSteps (storeAux s reader tenant a bs n).next.svc = apartSteps s.svc := by
  induction n generalizing s a bs with
  | zero => rfl
  | succ n ih =>
    unfold storeAux
    dsimp only
    split
    · exact apartSteps_storePart s ..
    · rw [ih, apartSteps_storePart]

@[simp] theorem apartSteps_storeBytes (reader tenant a : Nat) (bs : List Byte) :
    apartSteps (storeBytes s reader tenant a bs).next.svc = apartSteps s.svc := by
  unfold storeBytes
  split
  · rfl
  · rw [apartSteps_storeAux, countHoles_svc]

@[simp] theorem apartSteps_svcWrite (a : Nat) (bs : List Byte) : apartSteps (svcWrite s a bs).svc = apartSteps s.svc :=
  apartSteps_storeBytes s ..

/-- Emptying a cutter leaves the generations of all of them. -/
theorem cgen_emptyCutter (n : Nat) : (emptyCutter s n).svc.cgen = s.svc.cgen := by
  rw [emptyCutter, cgen_of_apartSteps (apartSteps_svcWrite ..)]

end Sys2Proof.Laws
end

section
/-! What a message of the tandem stream leaves alone (R531): everything but the stream's own counters, its port and what leaves by it. -/

namespace Sys2Proof.Laws

open Sys2Proof Sys2Proof.Machine

/-- The state apart from what a message may change: the ports with their counters, the sequence of the stream, and what leaves the device. -/
def outsideStream (s : State) : State :=
  { s with dict := [], subs := [], fabric := {}, tandem := {}, out := [] }

theorem reqs_of_outsideStream {s t : State} (h : outsideStream t = outsideStream s) : t.reqs = s.reqs := (congrArg State.reqs h :)
theorem svc_of_outsideStream {s t : State} (h : outsideStream t = outsideStream s) : t.svc = s.svc := (congrArg State.svc h :)

variable (s : State)

@[simp] theorem outsideStream_emit (o : Out) : outsideStream (emit s o) = outsideStream s := rfl
@[simp] theorem outsideStream_updPort (p : Nat) (f : Port → Port) : outsideStream (s.updPort p f) = outsideStream s := rfl
theorem outsideStream_tandem (x : Tandem) : outsideStream { s with tandem := x } = outsideStream s := rfl

@[simp] theorem outsideStream_bump (i j n : Nat) : outsideStream (bump s i j n) = outsideStream s := by
  unfold bump dset noteChange
  dsimp only
  split <;> rfl

@[simp] theorem outsideStream_sendFlits (p vc n : Nat) : outsideStream (sendFlits s p vc n) = outsideStream s := by
  unfold sendFlits
  split
  · rfl
  · rw [outsideStream_bump, outsideStream_updPort]

@[simp] theorem outsideStream_drainItems (p : Nat) (kept items : List SendItem) :
    outsideStream (drainItems s p kept items) = outsideStream s := by
  induction items generalizing s kept with
  | nil => rfl
  | cons i rest ih =>
    simp only [drainItems, apply_ite outsideStream, ih, outsideStream_emit, outsideStream_sendFlits, ite_self]

@[simp] theorem outsideStream_transmit (p op vc flits : Nat) (fields : List Nat) (data : List Byte) :
    outsideStream (transmit s p op vc flits fields data) = outsideStream s := by
  rw [transmit, drainPort, outsideStream_drainItems, outsideStream_updPort]

@[simp] theorem outsideStream_mirror (kind req len : Nat) (fields : List Nat) (item : List Byte) :
    outsideStream (mirror s kind req len fields item) = outsideStream s := by
  unfold mirror mirrorCodes
  split
  · dsimp only
    rw [outsideStream_transmit, outsideStream_bump, outsideStream_tandem]
  · rfl

@[simp] theorem req_mirror (kind req len : Nat) (fields : List Nat) (item : List Byte) (k : Nat) :
    (mirror s kind req len fields item).req k = s.req k := by
  rw [State.req, reqs_of_outsideStream (outsideStream_mirror s ..), State.req]

@[simp] theorem stepBusy_mirror (kind req len : Nat) (fields : List Nat) (item : List Byte) (m : Nat) :
    stepBusy (mirror s kind req len fields item) m = stepBusy s m := by
  rw [stepBusy, stepAt, svc_of_outsideStream (outsideStream_mirror s ..), stepBusy, stepAt]

@[simp] theorem ownsReq_mirror (kind req len : Nat) (fields : List Nat) (item : List Byte) (t k : Nat) :
    ownsReq (mirror s kind req len fields item) t k = ownsReq s t k := by
  simp only [ownsReq, req_mirror]

end Sys2Proof.Laws
end

section
/-! Serving commands (R443, R446, R451 to R456): what each answers for the oldest entry that waits, where it is sound. -/

namespace Sys2Proof.Laws

open Sys2Proof Sys2Proof.Machine

variable {s : State} {q : QEntry}

/-! ### Receipt and boundaries (R446, R451) -/

/-- The oldest entry is received by the command of its OP. -/
theorem withServe_head {rest : List QEntry} {op : Nat} (hqueue : s.svc.queue = q :: rest) (hop : u8 q.data 0 = op)
    (act : QEntry → State → State) : withServe s op act = .next (act q { s with svc := { s.svc with queue := rest } }) := by
  simp only [withServe, hqueue, if_pos hop]

section boundary
variable {m : Nat}

theorem atBoundaryOf_busy (hbusy : stepBusy s m = true) (q : QEntry) :
    atBoundaryOf s m q = { s with svc := { s.svc with waiting := s.svc.waiting ++ [(m, q)] } } := if_pos hbusy

theorem atBoundaryOf_idle (hidle : stepBusy s m = false) (q : QEntry) :
    atBoundaryOf s m q = sendReply (withEnds s (applyWaited s q []).1) (applyWaited s q []).2 :=
  if_neg (Bool.eq_false_iff.1 hidle)

end boundary

/-! ### Commands that name a request (R451, R453, R454) -/

/-- The commands that change a request at a boundary, with their OP codes. -/
def requestCommands : List (Instr × Nat) :=
  [(.cancel, 2), (.pause, 3), (.reqResume, 4), (.setprio, 6), (.setdeadline, 7), (.setspec, 8)]

/-- All of them are received alike, and none has the OP of a cutter operation. -/
theorem exec_requestCommand {c : Instr} {op : Nat} (h : (c, op) ∈ requestCommands) :
    (∀ s, exec c s = withServe s op receiveReqCmd) ∧ ¬ (op = 0x10 ∨ op = 0x11) := by
  simp only [requestCommands, List.mem_cons, List.not_mem_nil, Prod.mk.injEq, or_false] at h
  rcases h with ⟨rfl, rfl⟩ | ⟨rfl, rfl⟩ | ⟨rfl, rfl⟩ | ⟨rfl, rfl⟩ | ⟨rfl, rfl⟩ | ⟨rfl, rfl⟩
  all_goals exact ⟨fun _ => rfl, by decide⟩

theorem legalIn_cancel (r : Req) : legalIn 2 r = r.live := rfl

section request
variable (hown : ownsReq s q.origin.tenant (u16 q.data 2) = true)
include hown

/-- A legal command makes its change, and its completion has status 0. -/
theorem applyWaited_legal (hop : ¬ (u8 q.data 0 = 0x10 ∨ u8 q.data 0 = 0x11)) (hlegal : legalIn (u8 q.data 0) (s.req (u16 q.data 2)) = true) :
    applyWaited s q [] = (changeReq s (u16 q.data 2) q.data,
      reply q 0 (u16 q.data 2) ((changeReq s (u16 q.data 2) q.data).req (u16 q.data 2)).state.code 0) := by
  simp only [applyWaited, if_neg hop, applyReqCmd, hown, hlegal, Bool.not_true, Bool.false_eq_true, if_false, if_true]

variable (hzero : unnamedZero q.data = true)
include hzero

section change
variable (hargs : argStatus (s.req (u16 q.data 2)) q.data = 0)
include hargs

/-- A sound command is mirrored, and takes effect at the boundary of its request's slot. -/
theorem receiveReqCmd_sound (hnow : ¬ (u8 q.data 0 = 2 ∧ stepBusy s (s.req (u16 q.data 2)).slot = true)) :
    receiveReqCmd q s = atBoundaryOf (mirror s 2 (u16 q.data 2) 64 [] q.data) (s.req (u16 q.data 2)).slot q := by
  simp only [receiveReqCmd, hown, hzero, hargs, Bool.not_true, Bool.false_eq_true, ne_eq, not_true_eq_false, if_false, if_neg hnow]

/-- Where the slot has no step in progress, a legal command makes its change at once. -/
theorem receiveReqCmd_idle (hop : ¬ (u8 q.data 0 = 0x10 ∨ u8 q.data 0 = 0x11))
    (hlegal : legalIn (u8 q.data 0) (s.req (u16 q.data 2)) = true) (hidle : stepBusy s (s.req (u16 q.data 2)).slot = false) :
    let k := u16 q.data 2
    let s1 := mirror s 2 k 64 [] q.data
    receiveReqCmd q s = sendReply (withEnds s1 (changeReq s1 k q.data)) (reply q 0 k ((changeReq s1 k q.data).req k).state.code 0) := by
  have hnow : ¬ (u8 q.data 0 = 2 ∧ stepBusy s (s.req (u16 q.data 2)).slot = true) := fun h => Bool.eq_false_iff.1 hidle h.2
  rw [receiveReqCmd_sound hown hzero hargs hnow, atBoundaryOf_idle (by rwa [stepBusy_mirror]),
    applyWaited_legal (by rwa [ownsReq_mirror]) hop (by rwa [req_mirror])]

section waits
variable (hbusy : stepBusy s (s.req (u16 q.data 2)).slot = true)
include hbusy

/-- With a step in progress, a command other than CANCEL waits for its boundary. -/
theorem receiveReqCmd_waits (hop : u8 q.data 0 ≠ 2) :
    let s1 := mirror s 2 (u16 q.data 2) 64 [] q.data
    receiveReqCmd q s = { s1 with svc := { s1.svc with waiting := s1.svc.waiting ++ [((s.req (u16 q.data 2)).slot, q)] } } := by
  rw [receiveReqCmd_sound hown hzero hargs fun h => hop h.1, atBoundaryOf_busy (by rwa [stepBusy_mirror])]

/-- A CANCEL that has to wait is noted in its request. -/
theorem receiveReqCmd_cancelWaits (hop : u8 q.data 0 = 2) (hfirst : (s.req (u16 q.data 2)).cancelReq = false)
    (hlive : (s.req (u16 q.data 2)).live = true) :
    let r := s.req (u16 q.data 2)
    let s1 := (mirror s 2 (u16 q.data 2) 64 [] q.data).setReq (u16 q.data 2) { r with cancelReq := true }
    receiveReqCmd q s = { s1 with svc := { s1.svc with waiting := s1.svc.waiting ++ [(r.slot, q)] } } := by
  intro r s1
  have hbusy1 : stepBusy s1 r.slot = true := (stepBusy_mirror s ..).trans hbusy
  rw [← atBoundaryOf_busy hbusy1]
  simp only [receiveReqCmd, hown, hzero, hargs, hop, hbusy, hfirst, hlive, Bool.not_true, Bool.false_eq_true, ne_eq, not_true_eq_false,
    and_self, if_false, if_true, s1, r]

end waits

end change

/-- RELEASE frees an ended request (R429). -/
theorem releaseCmd_ended (hended : (s.req (u16 q.data 2)).ended = true) :
    releaseCmd q s = answer (freeReq (mirror s 2 (u16 q.data 2) 64 [] q.data) (u16 q.data 2)) q 0 (u16 q.data 2) 0 0 := by
  simp only [releaseCmd, hown, hzero, hended, Bool.not_true, Bool.false_eq_true, if_false, if_true]

/-- QUERY copies an entry to an aligned destination that the tenant may write. -/
theorem queryCmd_copies (haligned : u64 q.data 8 % 64 = 0) (hreach : mayReach s q.origin.tenant false true (u64 q.data 8) 128 = true) :
    let r := s.req (u16 q.data 2)
    let w := storeBytes s 16 q.origin.tenant (u64 q.data 8) r.image
    queryCmd q s = answer w.next q w.status (u16 q.data 2) r.state.code 0 := by
  simp only [queryCmd, hown, hzero, haligned, hreach, Bool.not_true, Bool.false_eq_true, Bool.true_eq_false, ne_eq, not_true_eq_false,
    if_false]

end request

/-! ### SUBMIT, PIN and UNPIN (R455, R456) -/

/-- A SUBMIT whose checks pass is admitted to the lowest FREE entry. -/
theorem submitCmd_admits {s1 : State} {e : Nat} (hzero : unnamedZero q.data = true) (hdev : s.dev = .service)
    (hreach : mayReach s q.origin.tenant false false (u64 q.data 8) 64 = true) :
    let t := q.origin.tenant
    let l := loadBytes s 16 t (u64 q.data 8) 64
    let x := reqOfBytes l.bytes
    let p := loadBytes (seeSubmit l.next x) 16 t x.prompt (4 * x.plen)
    l.status = 0 → l.poisoned = false → submitStatus l.next t l.bytes = (0, 0) → p.status = 0 → p.poisoned = false →
    reserveRing p.next t x.outring = some s1 → lowestFree p.next = some e →
    submitCmd q s = admitReq q s1 e l.bytes ((List.range x.plen).map (fun i => u32 p.bytes (4 * i))) := by
  intro t l x p hread hclean hchecks hprompt hpromptClean hring hfree
  simp only [submitCmd, hzero, hdev, hreach, Bool.not_true, Bool.false_eq_true, Bool.true_eq_false, ne_eq, not_true_eq_false, if_false]
  rw [if_neg (not_not.2 hread), if_neg (Bool.eq_false_iff.1 hclean), hchecks]
  simp only [not_true_eq_false, true_or, if_false, if_true]
  rw [if_neg (not_not.2 hprompt), if_neg (Bool.eq_false_iff.1 hpromptClean), hring, hfree]

/-- PIN and UNPIN, with their OP codes and the mark that each sets. -/
def pinCommands : List (Instr × Nat × Bool) := [(.pin, 0xA, true), (.unpin, 0xB, false)]

theorem exec_pinCommand {c : Instr} {op : Nat} {on : Bool} (h : (c, op, on) ∈ pinCommands) (s : State) :
    exec c s = withServe s op (pinCmd on) := by
  simp only [pinCommands, List.mem_cons, List.not_mem_nil, Prod.mk.injEq, or_false] at h
  rcases h with ⟨rfl, rfl, rfl⟩ | ⟨rfl, rfl, rfl⟩
  all_goals rfl

/-- PIN and UNPIN mark the nodes that hold the prompt's blocks. -/
theorem pinCmd_marks (on : Bool) (hzero : unnamedZero q.data = true) (hslot : u8 q.data 8 < 16)
    (hcut : u16 q.data 10 < 32768 ∨ u16 q.data 10 = 0xFFFF)
    (hallowed : bitOf (dget s (0x5110 + u8 q.data 8) 5) q.origin.tenant = true)
    (hreach : mayReach s q.origin.tenant false false (u64 q.data 16) (4 * u32 q.data 24) = true) :
    let t := q.origin.tenant
    let d := q.data
    let n := u32 d 24 / 64
    let l := loadBytes s 16 t (u64 d 16) (256 * n)
    let cut := u16 d 10
    let term := if cut = 0xFFFF then 0xFFFF else mapGet 0 s.svc.cgen cut * 65536 + cut
    let keys := blockKeys (keySalt t (u8 d 8) term) 0 ((List.range (64 * n)).map (fun i => u32 l.bytes (4 * i))) n
    let ids := matchNodes l.next t keys
    l.status = 0 → l.poisoned = false →
    pinCmd on q s = answer (mirror (ids.foldl (fun s id => updNode s id (fun x => { x with pinned := on })) l.next) 7 0 (16 * ids.length)
      (boolNat on :: keys.take ids.length) []) q 0 0 0 ids.length := by
  intro t d n l cut term keys ids hread hclean
  have hfields : ¬ ((!unnamedZero q.data) = true ∨ 16 ≤ u8 q.data 8 ∨ 32768 ≤ u16 q.data 10 ∧ u16 q.data 10 ≠ 0xFFFF) := by
    rw [hzero]
    rintro (hnot | hlarge | ⟨hlarge, hnamed⟩)
    · cases hnot
    · omega
    · omega
  simp only [pinCmd, if_neg hfields, hallowed, hreach, Bool.true_eq_false, or_self, if_false]
  rw [if_neg (not_not.2 hread), if_neg (Bool.eq_false_iff.1 hclean)]

/-! ### Cutter operations (R442, R443, R446) -/

/-- A field that lies in the first of two lists of bytes is read from it. -/
theorem field_append_left {d : List Byte} {o n : Nat} (h : o + n ≤ d.length) (bytes : List Byte) : field (d ++ bytes) o n = field d o n := by
  rw [field, List.drop_append_of_le_length (by omega), List.take_append_of_le_length (by rw [List.length_drop]; omega), field]

/-- A sound write stamps the contents with a new generation, counts, and is mirrored. -/
theorem applyWaited_cutterWrite {n : Nat} {d : List Byte} (hop : u8 q.data 0 = 0x10) (hnumber : u16 q.data 8 = n) (hdata : cutterData q = d)
    (hrows : cutterRows s q.origin.tenant n (u8 d 2) = 0) (hsound : cutterSound s (u8 d 2) d = true)
    (hquota : dget s 0x5201 (q.origin.tenant + 1) = 0) :
    let t := q.origin.tenant
    let gen := mapGet 0 s.svc.cgen n + 1
    applyWaited s q [] = (mirrorCutter (bump (placeCutter s n t (u8 d 2) gen d) 0x5200 3 1) n gen t d, reply q 0 0 0 0) := by
  simp only [applyWaited, hop, true_or, if_true, applyCutter, hnumber, hdata, hrows, hsound, hquota, ne_eq, not_true_eq_false, Bool.not_true,
    Bool.false_eq_true, false_and, if_false]

/-- A sound clear makes the cutter EMPTY and is mirrored. -/
theorem applyWaited_cutterClear {slot : Nat} (hop : u8 q.data 0 = 0x11) (hcutter : cutterOf s (u16 q.data 8) = some (q.origin.tenant, slot))
    (hrows : cutterRows s q.origin.tenant (u16 q.data 8) slot = 0) :
    let n := u16 q.data 8
    let s1 := emptyCutter s n
    applyWaited s q [] = (mirrorCutter s1 n (mapGet 0 s1.svc.cgen n) q.origin.tenant [], reply q 0 0 0 0) := by
  have hclear : ¬ (0x11 = 0x10) := by decide
  simp only [applyWaited, hop, or_true, if_true, applyCutter, if_neg hclear, hcutter, hrows, ne_eq, not_true_eq_false, if_false, cgen_emptyCutter]

section cutter
variable (hzero : unnamedZero q.data = true) (hn : u16 q.data 8 < 32768) (hbase : dget s 0x5200 1 ≠ 0)
include hzero hn hbase

/-- A CUTTER_WRITE whose source can be read takes effect with its contents at the boundary of the slot they name. -/
theorem cutterWriteCmd_reads {s1 : State} {bytes : List Byte} (hlen : q.data.length = 64)
    (hsource : readCutterSource s q.origin.tenant (u64 q.data 16) = (s1, 0, bytes)) :
    cutterWriteCmd q s = atBoundaryOf s1 (u8 bytes 2) { q with data := q.data ++ bytes } := by
  simp only [cutterWriteCmd, hzero, Nat.not_le.2 hn, hbase, hsource, List.take_of_length_le hlen.le, Bool.not_true, Bool.false_eq_true,
    or_self, ne_eq, not_true_eq_false, if_false]

/-- A CUTTER_CLEAR of a VALID cutter takes effect at the boundary of its slot. -/
theorem cutterClearCmd_valid {t slot : Nat} (hcutter : cutterOf s (u16 q.data 8) = some (t, slot)) :
    cutterClearCmd q s = atBoundaryOf s slot q := by
  simp only [cutterClearCmd, hzero, Nat.not_le.2 hn, hbase, hcutter, Bool.not_true, Bool.false_eq_true, or_self, if_false]

/-- A sound CUTTER_WRITE to a slot without a step in progress is carried out at once. -/
theorem cutterWriteCmd_idle {s1 : State} {bytes : List Byte} (hop : u8 q.data 0 = 0x10) (hlen : q.data.length = 64)
    (hsource : readCutterSource s q.origin.tenant (u64 q.data 16) = (s1, 0, bytes)) (hidle : stepBusy s1 (u8 bytes 2) = false)
    (hrows : cutterRows s1 q.origin.tenant (u16 q.data 8) (u8 bytes 2) = 0) (hsound : cutterSound s1 (u8 bytes 2) bytes = true)
    (hquota : dget s1 0x5201 (q.origin.tenant + 1) = 0) :
    let t := q.origin.tenant
    let n := u16 q.data 8
    let gen := mapGet 0 s1.svc.cgen n + 1
    cutterWriteCmd q s =
      sendReply (withEnds s1 (mirrorCutter (bump (placeCutter s1 n t (u8 bytes 2) gen bytes) 0x5200 3 1) n gen t bytes))
        (reply { q with data := q.data ++ bytes } 0 0 0 0) := by
  have hop1 : u8 (q.data ++ bytes) 0 = 0x10 := (field_append_left (by omega) bytes).trans hop
  have hnumber : u16 (q.data ++ bytes) 8 = u16 q.data 8 := field_append_left (by omega) bytes
  have hdata : cutterData { q with data := q.data ++ bytes } = bytes := List.drop_left' hlen
  rw [cutterWriteCmd_reads hzero hn hbase hlen hsource, atBoundaryOf_idle hidle,
    applyWaited_cutterWrite hop1 hnumber hdata hrows hsound hquota]

/-- A sound CUTTER_CLEAR of a slot without a step in progress is carried out at once. -/
theorem cutterClearCmd_idle {slot : Nat} (hop : u8 q.data 0 = 0x11)
    (hcutter : cutterOf s (u16 q.data 8) = some (q.origin.tenant, slot)) (hidle : stepBusy s slot = false)
    (hrows : cutterRows s q.origin.tenant (u16 q.data 8) slot = 0) :
    let n := u16 q.data 8
    let s1 := emptyCutter s n
    cutterClearCmd q s =
      sendReply (withEnds s (mirrorCutter s1 n (mapGet 0 s1.svc.cgen n) q.origin.tenant [])) (reply q 0 0 0 0) := by
  rw [cutterClearCmd_valid hzero hn hbase hcutter, atBoundaryOf_idle hidle, applyWaited_cutterClear hop hcutter hrows]

end cutter

/-! ### The statement -/

/-- Settles O21: each command by what it answers for the oldest entry, once that is taken from the queue. -/
theorem servingCommandsComplete : Obligations.ServingCommandsComplete := by
  intro s q rest hqueue
  have received {op : Nat} (hop : u8 q.data 0 = op) (act : QEntry → State → State) := withServe_head hqueue hop act
  refine ⟨fun c op hc hop hown hzero hargs hlegal => ?request,
    fun hop hown hzero hended => (received hop _).trans (congrArg _ (releaseCmd_ended hown hzero hended)),
    fun hop hown hzero haligned hreach => (received hop _).trans (congrArg _ (queryCmd_copies hown hzero haligned hreach)),
    fun s1 e hop hzero hdev hreach hread hclean hchecks hprompt hpromptClean hring hfree => (received hop _).trans
      (congrArg _ (submitCmd_admits hzero hdev hreach hread hclean hchecks hprompt hpromptClean hring hfree)),
    fun c op on hc hop hzero hslot hcut hallowed hreach hread hclean => (exec_pinCommand hc s).trans
      ((received hop _).trans (congrArg _ (pinCmd_marks on hzero hslot hcut hallowed hreach hread hclean))),
    fun s1 bytes hop hlen hzero hn hbase hsource hidle hrows hsound hquota => (received hop _).trans
      (congrArg _ (cutterWriteCmd_idle hzero hn hbase hop hlen hsource hidle hrows hsound hquota)),
    fun slot hop hzero hn hbase hcutter hidle hrows => (received hop _).trans
      (congrArg _ (cutterClearCmd_idle hzero hn hbase hop hcutter hidle hrows))⟩
  obtain ⟨hexec, hnot⟩ := exec_requestCommand hc
  subst hop
  rw [hexec, received rfl]
  refine ⟨fun hidle => congrArg _ (receiveReqCmd_idle hown hzero hargs hnot hlegal hidle),
    fun hbusy hop => congrArg _ (receiveReqCmd_waits hown hzero hargs hbusy hop),
    fun hbusy hop hfirst => congrArg _ (receiveReqCmd_cancelWaits hown hzero hargs hbusy hop hfirst ?live)⟩
  case live => rwa [hop, legalIn_cancel] at hlegal

end Sys2Proof.Laws
end

section
/-! Steps of the model slots (R432 to R441, R449, R453, R533): what each command answers for the step it is meant for. -/

namespace Sys2Proof.Laws

open Sys2Proof Sys2Proof.Machine

section slot
variable {s : State} {m : Nat} (hm : m < 16)
include hm

/-- In SERVICE, a RESIDENT slot that may start a step starts one at its boundary (R431 to R433). -/
theorem execStepStart_next (hidle : stepBusy s m = false) (hdev : s.dev = .service) :
    let s1 := boundaryRest (observeCommands s m) m []
    (s1.slot m).state = .resident → mayStart s1 m = true → s1.tandem.withdraw = false → s1.dev = .service →
    execStepStart m s = .next (startBatch s1 m) := by
  intro s1 hresident hstart hstays hdev1
  have hserves : ¬ (stepBusy s m = true ∨ (s.dev != .service && !(s.dev == .fenced && s.tandem.promote.contains m)) = true) := by
    rw [hidle, hdev]
    simp
  have hstarts : ¬ ((s1.slot m).state ≠ .resident ∨ mayStart s1 m = false ∨ s1.tandem.withdraw = true ∨ s1.dev ≠ .service) := by
    rw [hresident, hstart, hstays, hdev1]
    decide
  rw [execStepStart, if_neg (Nat.not_le.2 hm), if_neg hserves, if_neg hstarts]

section step
variable (hbatch : (stepAt s m).batch ≠ [])
include hbatch

/-- A draft phase ends once every drafting request has its vectors, those with a poisoned logit apart (R438). -/
theorem execDraftPhaseDone_next {logits : List (Nat × List (List Nat))} {poisoned : List Nat} (hphase : (stepAt s m).phase = .draft)
    (hvectors : ∀ b ∈ (stepAt s m).batch, 2 ≤ b.w → poisoned.contains b.req = true ∨ vectorsFit logits b.req b.w = true) :
    execDraftPhaseDone m logits poisoned s =
      .next (setStep s m { stepAt s m with phase := .main, batch := (stepAt s m).batch.map (pickDrafts s logits poisoned) }) := by
  have hnoneMissing : (stepAt s m).batch.any
      (fun b => decide (2 ≤ b.w) && !(poisoned.contains b.req) && !(vectorsFit logits b.req b.w)) = false := by
    rw [List.any_eq_false]
    intro b hb
    by_cases hw : 2 ≤ b.w
    · rcases hvectors b hb hw with hpoisoned | hfit
      · simp only [hpoisoned, Bool.not_true, Bool.and_false, Bool.false_and, Bool.false_eq_true, not_false_eq_true]
      · simp only [hfit, Bool.not_true, Bool.and_false, Bool.false_eq_true, not_false_eq_true]
    · simp only [hw, decide_false, Bool.false_and, Bool.false_eq_true, not_false_eq_true]
  simp only [execDraftPhaseDone, if_neg (Nat.not_le.2 hm), hbatch, hphase, hnoneMissing, ne_eq, not_true_eq_false, or_self, Bool.false_eq_true,
    if_false]

/-- A step whose work has ended commits once every request has its vectors or has failed; what follows waits for the twin where it has
to (R435, R533). -/
theorem execStepCommit_next {outs : List (Nat × List (List Nat))} {poisoned : List Nat} (hphase : (stepAt s m).phase = .main)
    (hkept : (stepAt s m).discard = false) (hended : stepWorkLeft s m = false)
    (hvectors : ∀ b ∈ (stepAt s m).batch,
      poisoned.contains b.req = true ∨ b.failed ≠ 0 ∨ vectorsFit outs b.req (vectorsDue s b) = true) :
    let s1 := commitStep (countStep s m) m outs poisoned
    execStepCommit m outs poisoned s = .next (if waitsForTwin s1 m then s1 else finishCommit s1 m) := by
  have hnoneMissing : (stepAt s m).batch.any
      (fun b => !(poisoned.contains b.req) && b.failed == 0 && !(vectorsFit outs b.req (vectorsDue s b))) = false := by
    rw [List.any_eq_false]
    intro b hb
    rcases hvectors b hb with hpoisoned | hfailed | hfit
    · simp only [hpoisoned, Bool.not_true, Bool.false_and, Bool.false_eq_true, not_false_eq_true]
    · simp only [beq_eq_false_iff_ne.2 hfailed, Bool.and_false, Bool.false_and, Bool.false_eq_true, not_false_eq_true]
    · simp only [hfit, Bool.not_true, Bool.and_false, Bool.false_eq_true, not_false_eq_true]
  simp only [execStepCommit, if_neg (Nat.not_le.2 hm), hbatch, hphase, hkept, hended, hnoneMissing, ne_eq, not_true_eq_false, or_self,
    Bool.false_eq_true, if_false]

/-- A step marked for discard is discarded when its work has ended (R434). -/
theorem execStepDiscard_next (hphase : (stepAt s m).phase ≠ .acking) (hmarked : (stepAt s m).discard = true)
    (hended : stepWorkLeft s m = false) : execStepDiscard m s = .next (discardStep (countStep s m) m) := by
  simp only [execStepDiscard, if_neg (Nat.not_le.2 hm), hbatch, hphase, hmarked, hended, Bool.true_eq_false, Bool.false_eq_true, or_self,
    if_false]

end step

end slot

/-- Settles O22: each command by what it answers for the slot or the step it is meant for. -/
theorem stepCommandsComplete : Obligations.StepCommandsComplete :=
  ⟨fun _ _ hm hidle hdev hresident hstart hstays hdev1 => execStepStart_next hm hidle hdev hresident hstart hstays hdev1,
    fun _ _ _ _ hm hbatch hphase hvectors => execDraftPhaseDone_next hm hbatch hphase hvectors,
    fun _ _ _ _ hm hbatch hphase hkept hended hvectors => execStepCommit_next hm hbatch hphase hkept hended hvectors,
    fun _ _ hm hbatch hphase hmarked hended => execStepDiscard_next hm hbatch hphase hmarked hended⟩

end Sys2Proof.Laws
end

section
/-! The cadence, the schedule and time: what their commands leave alone (R485 to R502). -/

namespace Sys2Proof.Laws

open Sys2Proof Sys2Proof.Machine

/-- The state apart from what these commands may change: time and the cadence with its entries and their subscriptions, the switch asked for,
interrupts and what leaves the device. -/
def outsideCadence (s : State) : State :=
  { s with
    ptp := 0, dict := [], subs := [], free := 0, faults := {}, irq := {}, ctx := {}, cad := {}, clock := {}, flash := {}, sec := {}, out := [] }

/-- `s` with all that these commands may change taken from `t`. -/
def withCadenceOf (t s : State) : State :=
  { s with
    ptp := t.ptp, dict := t.dict, subs := t.subs, free := t.free, faults := t.faults, irq := t.irq, ctx := t.ctx, cad := t.cad, clock := t.clock
    flash := t.flash, sec := t.sec, out := t.out }

theorem eq_withCadenceOf {s t : State} (h : outsideCadence t = outsideCadence s) : t = withCadenceOf t s :=
  (congrArg (withCadenceOf t) h :)

variable (s : State)

/-! ### The fields these commands may change -/

theorem outsideCadence_fields (ptp : Nat) (dict : Map Nat) (subs : List Subscription) (free : Nat) (faults : Faults) (irq : Irq) (ctx : Contexts)
    (cad : Cadence) (clock : Clock) (flash : Flash) (sec : Security) (out : List Out) :
    outsideCadence { s with
      ptp := ptp, dict := dict, subs := subs, free := free, faults := faults, irq := irq, ctx := ctx, cad := cad, clock := clock
      flash := flash, sec := sec, out := out } = outsideCadence s := rfl

@[simp] theorem outsideCadence_emit (o : Out) : outsideCadence (emit s o) = outsideCadence s := rfl
@[simp] theorem outsideCadence_passEntry : outsideCadence (passEntry s) = outsideCadence s := rfl
@[simp] theorem outsideCadence_freeValue : outsideCadence (freeValue s).2 = outsideCadence s := rfl
@[simp] theorem outsideCadence_dictAnswer (abort : Nat) : outsideCadence (dictAnswer s abort) = outsideCadence s := rfl
@[simp] theorem outsideCadence_timeFrame (kind : Nat) (fields : List Nat) : outsideCadence (timeFrame s kind fields) = outsideCadence s := rfl

@[simp] theorem outsideCadence_noteChange (key : Nat) : outsideCadence (noteChange s key) = outsideCadence s := by
  unfold noteChange; split <;> rfl

@[simp] theorem outsideCadence_dset (i j v : Nat) : outsideCadence (dset s i j v) = outsideCadence s := outsideCadence_noteChange ..
@[simp] theorem outsideCadence_bump (i j n : Nat) : outsideCadence (bump s i j n) = outsideCadence s := outsideCadence_dset ..
@[simp] theorem outsideCadence_dsetStored (i j v : Nat) : outsideCadence (dsetStored s i j v) = outsideCadence s := outsideCadence_dset ..

/-! ### Interrupts -/

@[simp] theorem outsideCadence_sendMsix (fn vec : Nat) : outsideCadence (sendMsix s fn vec) = outsideCadence s := by
  unfold sendMsix; dsimp only; split <;> rfl

@[simp] theorem outsideCadence_raiseLocal (t j : Nat) : outsideCadence (raiseLocal s t j) = outsideCadence s := by
  unfold raiseLocal raiseSource deliverSource
  dsimp only
  repeat' split
  all_goals simp [↓outsideCadence_fields]

/-! ### Boundaries and time -/

@[simp] theorem outsideCadence_rephase (before : Nat) : outsideCadence (rephase s before) = outsideCadence s := by
  unfold rephase; split <;> simp

@[simp] theorem outsideCadence_setQuality (q : Nat) : outsideCadence (setQuality s q) = outsideCadence s := by
  unfold setQuality refreshCadence; dsimp only
  repeat' split
  all_goals simp

@[simp] theorem outsideCadence_stepTime (t : Nat) : outsideCadence (stepTime s t) = outsideCadence s := outsideCadence_rephase ..

@[simp] theorem outsideCadence_overrunEntries : outsideCadence (overrunEntries s) = outsideCadence s := by
  unfold overrunEntries; dsimp only
  repeat' split
  all_goals simp [↓outsideCadence_fields]

@[simp] theorem outsideCadence_makeBoundary (at_ : Nat) (edge : Bool) : outsideCadence (makeBoundary s at_ edge) = outsideCadence s := by
  unfold makeBoundary; dsimp only
  split <;> simp [↓outsideCadence_fields]

@[simp] theorem outsideCadence_lockedEdge (b : Nat) : outsideCadence (lockedEdge s b) = outsideCadence s := by
  unfold lockedEdge; split <;> simp [↓outsideCadence_fields]

@[simp] theorem outsideCadence_newLock (b : Nat) : outsideCadence (newLock s b) = outsideCadence s := by
  unfold newLock; dsimp only
  repeat' split
  all_goals simp [↓outsideCadence_fields]

@[simp] theorem outsideCadence_lockingEdge (b : Nat) : outsideCadence (lockingEdge s b) = outsideCadence s := by
  simp only [lockingEdge, apply_ite outsideCadence, outsideCadence_newLock, ↓outsideCadence_fields, ite_self]

@[simp] theorem outsideCadence_acceptPps (off : Int) : outsideCadence (acceptPps s off) = outsideCadence s := by
  unfold acceptPps; dsimp only
  repeat' split
  all_goals simp [↓outsideCadence_fields]

@[simp] theorem outsideCadence_writePtpTime (t : Nat) : outsideCadence (writePtpTime s t) = outsideCadence s := by
  simp [writePtpTime, ↓outsideCadence_fields]

@[simp] theorem outsideCadence_activateTable (table : Nat) : outsideCadence (activateTable s table).2 = outsideCadence s := by
  unfold activateTable
  repeat' split
  all_goals rfl

/-! ### The commands -/

/-- An answer whose state, where it is one, differs from `s` only in what these commands may change. -/
def FramesCadence (r : Res) : Prop := ∀ t, r = .next t → outsideCadence t = outsideCadence s

variable {s}

theorem framesCadence_next {t : State} (h : outsideCadence t = outsideCadence s) : FramesCadence s (.next t) := by
  rintro _ ⟨⟩
  exact h

theorem framesCadence_unchanged : FramesCadence s (.next s) := framesCadence_next rfl

theorem framesCadence_cadenceBoundary : FramesCadence s (execCadenceBoundary s) := by
  unfold execCadenceBoundary
  split
  · exact framesCadence_unchanged
  · exact framesCadence_next (outsideCadence_makeBoundary ..)

theorem framesCadence_cadenceInEdge (stamp : Nat) : FramesCadence s (execCadenceInEdge stamp s) := by
  unfold execCadenceInEdge
  split
  · exact framesCadence_next (by split <;> simp)
  · exact framesCadence_unchanged

theorem framesCadence_cadenceEdgeMissed : FramesCadence s (execCadenceEdgeMissed s) := by
  unfold execCadenceEdgeMissed
  split
  · exact framesCadence_next (by split <;> simp [↓outsideCadence_fields])
  · exact framesCadence_unchanged

theorem framesCadence_fabricCadenceTimeout : FramesCadence s (execFabricCadenceTimeout s) := by
  unfold execFabricCadenceTimeout
  split
  · exact framesCadence_next (outsideCadence_dset ..)
  · exact framesCadence_unchanged

theorem framesCadence_grandmasterAnnounce (epoch period time : Nat) : FramesCadence s (execGrandmasterAnnounce epoch period time s) :=
  framesCadence_next (by
    rw [outsideCadence_rephase]
    split
    · exact outsideCadence_dset ..
    · rfl)

theorem framesCadence_scheduleStep : FramesCadence s (execScheduleStep s) := by
  unfold execScheduleStep
  split
  · split
    · exact framesCadence_next rfl
    · exact framesCadence_unchanged
  · exact framesCadence_unchanged

theorem framesCadence_scheduleContext : FramesCadence s (execScheduleContext s) := by
  unfold execScheduleContext; dsimp only
  repeat' split
  all_goals exact framesCadence_next (by simp [↓outsideCadence_fields])

theorem framesCadence_reservationLapse : FramesCadence s (execReservationLapse s) := by
  unfold execReservationLapse; dsimp only
  split
  · exact framesCadence_unchanged
  · exact framesCadence_next (outsideCadence_bump ..)

theorem framesCadence_scheduleActivate (table : Nat) : FramesCadence s (execScheduleActivate table s) :=
  framesCadence_next (outsideCadence_activateTable s table)

theorem framesCadence_freqCorrection (temp : Nat) : FramesCadence s (execFreqCorrection temp s) := by
  unfold execFreqCorrection; dsimp only
  split <;> exact framesCadence_next (by simp)

theorem framesCadence_ppsInPulse (stamp : Nat) : FramesCadence s (execPpsInPulse stamp s) := by
  unfold execPpsInPulse; dsimp only
  repeat' split
  all_goals exact framesCadence_next (by simp [↓outsideCadence_fields])

theorem framesCadence_ppsMissing : FramesCadence s (execPpsMissing s) := by
  unfold execPpsMissing; dsimp only
  split
  · exact framesCadence_next (by split <;> simp [↓outsideCadence_fields])
  · exact framesCadence_unchanged

theorem framesCadence_ptpTimeWrite (time : Nat) : FramesCadence s (execPtpTimeWrite time s) := framesCadence_next (by simp)

theorem framesCadence_ptpSyncSend : FramesCadence s (execPtpSyncSend s) := by
  unfold execPtpSyncSend
  split
  · exact framesCadence_unchanged
  · exact framesCadence_next (by simp [↓outsideCadence_fields])

theorem framesCadence_ppsOutSecond : FramesCadence s (execPpsOutSecond s) := by
  unfold execPpsOutSecond; dsimp only
  split <;> exact framesCadence_next rfl

/-- Settles O57: each command by what its meaning leaves alone. -/
theorem cadenceCommandsFrame : Obligations.CadenceCommandsFrame := by
  intro c s t hc ht
  refine eq_withCadenceOf ?_
  cases c <;> cases hc
  case cadenceBoundary => exact framesCadence_cadenceBoundary t ht
  case cadenceInEdge => exact framesCadence_cadenceInEdge _ t ht
  case cadenceEdgeMissed => exact framesCadence_cadenceEdgeMissed t ht
  case fabricCadenceTimeout => exact framesCadence_fabricCadenceTimeout t ht
  case grandmasterAnnounce => exact framesCadence_grandmasterAnnounce _ _ _ t ht
  case scheduleStep => exact framesCadence_scheduleStep t ht
  case scheduleContext => exact framesCadence_scheduleContext t ht
  case reservationLapse => exact framesCadence_reservationLapse t ht
  case scheduleActivate => exact framesCadence_scheduleActivate _ t ht
  case freqCorrection => exact framesCadence_freqCorrection _ t ht
  case ppsInPulse => exact framesCadence_ppsInPulse _ t ht
  case ppsMissing => exact framesCadence_ppsMissing t ht
  case ptpTimeWrite => exact framesCadence_ptpTimeWrite _ t ht
  case ptpSyncSend => exact framesCadence_ptpSyncSend t ht
  case ptpDelayReq => exact framesCadence_next (outsideCadence_timeFrame ..) t ht
  case ppsOutSecond => exact framesCadence_ppsOutSecond t ht

end Sys2Proof.Laws
end

section
/-! Tenant commands: what each answers in the states in which it acts (R463 to R468). -/

namespace Sys2Proof.Laws

open Sys2Proof Sys2Proof.Machine

variable {s : State}

/-- A command that is legal takes effect and is answered without an abort (R602). -/
theorem legalOr_legal {ok : Bool} (hok : ok = true) (code : Nat) (act : State) : legalOr s ok code act = dictAnswer act 0 := if_pos hok

variable {t : Nat}

/-- RESET and UNASSIGN act on an ACTIVE, a QUIESCING and a FAULTED tenant (R463). -/
theorem resettable_iff : resettable s t = true ↔
    (s.tenant t).state = .active ∨ (s.tenant t).state = .quiescing ∨ (s.tenant t).state = .faulted := by
  simp only [resettable, Bool.or_eq_true, beq_iff_eq, or_assoc]

/-- In the recovery window of its own domain, an ACTIVE tenant is reset or left FAULTED (R463, R669). -/
theorem faultReset_active {w : Window} (hwindow : s.faults.window = some w) (hkind : w.kind = kindTenant) (hindex : w.index = t)
    (hcls : w.cls = clsTenant) (hactive : (s.tenant t).state = .active) :
    faultReset s t = if t = 0 ∨ dbool s (0x4000 + 0x40 * t) 7 then beginReset s t 3 false else faultTenant s t := by
  simp only [faultReset, hwindow]
  exact if_pos ⟨hkind, hindex, hcls, .inl hactive⟩

section tenant
variable (ht : t < 64)
include ht

theorem withTenant_eq (s' : State) : withTenant t s s' = .next s' := congrArg _ (if_pos ht)

theorem execAssign_next (hmay : mayAssign s t = true) : execAssign t s = .next (dictAnswer (setTenantState s t .active) 0) := by
  rw [execAssign, withTenant_eq ht, assignTenant, legalOr_legal hmay]

theorem execQuiesce_next (hactive : (s.tenant t).state = .active) :
    execQuiesce t s = .next (dictAnswer (setTenantState s t .quiescing) 0) := by
  rw [execQuiesce, withTenant_eq ht, quiesceTenant, legalOr_legal (beq_iff_eq.2 hactive)]

/-- RESUME, on which the held doorbells are processed (R465), except that in RECOVERY they stay held (R670). -/
theorem execTenantResume_next (hquiescing : (s.tenant t).state = .quiescing) :
    execTenantResume t s = .next
      (dictAnswer (if s.dev = .recovery then setTenantState s t .active else releaseDoorbells (setTenantState s t .active) t) 0) := by
  rw [execTenantResume, withTenant_eq ht, resumeTenant, legalOr_legal (beq_iff_eq.2 hquiescing)]

theorem execTenantReset_command (hstate : resettable s t = true) :
    execTenantReset t false s = .next (dictAnswer (beginReset s t 1 false) 0) := by
  rw [execTenantReset, withTenant_eq ht, if_neg Bool.false_ne_true, resetTenant, legalOr_legal hstate]

theorem execTenantReset_fault : execTenantReset t true s = .next (faultReset s t) := withTenant_eq ht _

/-- UNASSIGN of any tenant but 0 (R468). -/
theorem execUnassign_next (hstate : resettable s t = true) (hother : t ≠ 0) :
    execUnassign t s = .next (dictAnswer (beginReset s t 4 true) 0) := by
  rw [execUnassign, withTenant_eq ht, unassignCmd, legalOr_legal (Bool.and_eq_true_iff.2 ⟨hstate, bne_iff_ne.2 hother⟩)]

/-- A reset whose every step has completed ends: ACTIVE after a reset, UNASSIGNED after an UNASSIGN (R467, R468). -/
theorem execTenantResetDone_next (hresetting : (s.tenant t).state = .resetting) (hcomplete : resetComplete s t = true) :
    execTenantResetDone t s = .next (if (s.tenant t).toUnassigned then
        setTenantState ((unassignTenant s t).updTenant t (fun x => { x with toUnassigned := false })) t .unassigned
      else setTenantState s t .active) := by
  rw [execTenantResetDone, if_pos ht, if_pos ⟨hresetting, hcomplete⟩]

end tenant

/-- Settles O23: each command by what it answers for the state of the tenant. -/
theorem tenantCommandsComplete : Obligations.TenantCommandsComplete := by
  intro s t ht
  refine ⟨fun hmay => execAssign_next ht hmay, fun hactive => execQuiesce_next ht hactive,
    fun hquiescing => execTenantResume_next ht hquiescing, fun hstate => ?reset, fun w hwindow hkind hindex hcls hactive => ?fault,
    fun hresetting hcomplete => ?done⟩
  case reset =>
    have hmay := resettable_iff.2 hstate
    exact ⟨execTenantReset_command ht hmay, fun hother => execUnassign_next ht hmay hother⟩
  case fault =>
    rw [← faultReset_active hwindow hkind hindex hcls hactive]
    exact execTenantReset_fault ht
  case done =>
    have hnext := execTenantResetDone_next ht hresetting hcomplete
    exact ⟨fun hstays => hnext.trans (congrArg _ (if_neg (Bool.eq_false_iff.1 hstays))), fun haway => hnext.trans (congrArg _ (if_pos haway))⟩

end Sys2Proof.Laws
end

section
/-! Model slots and contexts: what each command answers for the slot or the switch it is meant for (R472 to R487, R678). -/

namespace Sys2Proof.Laws

open Sys2Proof Sys2Proof.Machine

variable {s : State} {m : Nat}

/-! ### Loads (R474 to R476) -/

section slot
variable (hm : m < 16)
include hm

/-- LOAD of an EMPTY or OFFLINE slot whose header, signature and regions pass, makes it LOADING with the header's fields. -/
theorem execSlotLoad_next {head : List Byte} (hstate : (s.slot m).state = .empty ∨ (s.slot m).state = .offline)
    (hdev : s.dev = .ready ∨ s.dev = .service ∨ s.dev = .recovery) :
    let p := loadHead (dictAnswer (slotState s m .loading) 0) m head
    let h := imageHead p.2
    checkHead p.1 m p.2 = 0 →
    execSlotLoad m head s = .next (p.1.updSlot m (fun x => { x with
      regions := imageRegions p.2, layers := h.nlayer, endTok := h.endTok, imageBytes := h.bytes, progOff := h.progOff
      progLen := h.progLen, metaLen := h.metaLen, digest := h.digest, checks := [], programs := [], restore := [] })) := by
  intro p h hpasses
  have hdevOk : (s.dev == .ready || s.dev == .service || s.dev == .recovery) = true := by
    simpa only [Bool.or_eq_true, beq_iff_eq, or_assoc] using hdev
  have hcode : ¬ checkHead p.1 m p.2 ≠ 0 := not_not.2 hpasses
  rw [execSlotLoad, if_pos hm, if_pos ⟨hstate, hdevOk⟩]
  exact if_neg hcode

/-- A load whose copies ended well and whose image passes the last checks copies the regions and ends with the slot RESIDENT. It waits for
the serving context, whose banks receive the programs. -/
theorem execSlotLoadDone_next {s0 : State} {status : Nat} {given image : List Byte} (hloading : (s.slot m).state = .loading)
    (hserving : s.ctx.current = 0) (hidle : s.ctx.switch = none) (hread : loadImage s m status given = (s0, 0, image))
    (hlength : image.length = (s.slot m).imageBytes) :
    let x := s.slot m
    let prog := (image.drop x.progOff).take x.progLen
    let progs := (List.range 9).map (sectionImage prog)
    sectionSound prog = true → programsFit s0 m progs = true → Config.sha512 (image.drop 256) = x.digest →
    execSlotLoadDone m status given s = .next (finishLoad (x.regions.foldl (copyRegion image m) s0) m progs) := by
  intro x prog progs hsound hfit hdigest
  have hmay : ¬ ((s.slot m).state ≠ .loading ∨ s.ctx.current ≠ 0 ∨ s.ctx.switch.isSome = true) := by
    rw [hloading, hserving, hidle]
    decide
  have hbad : ¬ (!sectionSound prog) = true := by rw [hsound]; decide
  have hlarge : ¬ (!programsFit s0 m progs) = true := by rw [hfit]; decide
  rw [execSlotLoadDone, if_pos hm, hread]
  dsimp only
  rw [if_neg hmay, if_neg (not_not.2 rfl), if_neg (not_not.2 hlength), if_neg hbad, if_neg hlarge, if_neg (not_not.2 hdigest)]

/-- UNLOAD of a RESIDENT or OFFLINE slot that no request names empties it, and the programs of the others are placed afresh. -/
theorem execSlotUnload_next (hstate : (s.slot m).state = .resident ∨ (s.slot m).state = .offline) (hunnamed : slotNamed s m = false) :
    execSlotUnload m s = .next
      (dictAnswer (placeSoon (measure (noteChange (s.setSlot m {}) (dk (0x5110 + m) 1)) (17 + m) zeroBlock)) 0) := by
  have hlegal : (((s.slot m).state == .resident || (s.slot m).state == .offline) && !slotNamed s m) = true := by
    simpa only [hunnamed, Bool.not_false, Bool.and_true, Bool.or_eq_true, beq_iff_eq] using hstate
  rw [execSlotUnload, if_pos hm]
  exact congrArg _ (legalOr_legal hlegal _ _)

/-! ### Restores (R480, R678) -/

section restore
variable (hrestoring : restoring s m = true)
include hrestoring

section frame
variable {data : List Byte} (hidle : stepBusy s m = false)
include hidle

/-- A restore with no frame left to fetch ends. -/
theorem execRestoreFrameDone_ended (hnone : (s.slot m).restore = []) :
    execRestoreFrameDone m data false s = .next (endRestore s m) := by
  simp only [execRestoreFrameDone, hm, hrestoring, hidle, hnone, if_true, Bool.true_eq_false, Bool.false_eq_true, or_self, if_false]

/-- The next frame arrives whole and agrees with its check: it is written and counted, and the last one ends the restore. -/
theorem execRestoreFrameDone_frame {f : Nat} {rest : List Nat} (hnext : (s.slot m).restore = f :: rest) (hlength : data.length = frameBytes)
    (hcheck : (Config.sha512 data).take 8 = mapGet [] (s.slot m).checks f) :
    let s2 := bump ((storeBytes s 16 0 f data).next.updSlot m (fun x => { x with restore := rest, restoreSince := s.now })) 0x5100 5 1
    execRestoreFrameDone m data false s = .next (if rest = [] then endRestore s2 m else s2) := by
  simp only [execRestoreFrameDone, hm, hrestoring, hidle, hnext, hlength, hcheck, ne_eq, not_true_eq_false, if_true, Bool.true_eq_false,
    Bool.false_eq_true, or_self, if_false]

end frame

/-- A frame that has not come within RestoreTimeout fails the restore. -/
theorem execRestoreTimeout_next (hleft : (s.slot m).restore ≠ []) (hlate : (s.slot m).restoreSince + 1000 * dget s 0x5100 4 < s.now) :
    execRestoreTimeout m s = .next (failRestore s m) := by
  rw [execRestoreTimeout, if_pos hm, if_pos ⟨hrestoring, hleft, hlate⟩]

end restore

end slot

/-! ### Context switches (R485 to R487) -/

/-- A switch to another context, asked for while none is under way, begins. -/
theorem execContextSwitch_next {c : Nat} (hasked : s.ctx.next = some c) (hnone : s.ctx.switch = none) (hother : c ≠ s.ctx.current) :
    execContextSwitch s = .next { s with ctx := { s.ctx with switch := some { target := c, since := s.now }, next := none } } := by
  simp only [execContextSwitch, hasked, hnone, if_neg hother]

/-- A switch ends at once where it does not save, and otherwise once the outgoing context has drained and the time of R486 has passed. -/
theorem execContextSwitchDone_next {w : CtxSwitch} (hswitch : s.ctx.switch = some w)
    (hready : w.save = true → contextDrained s = true ∧ w.since + switchTime s w ≤ s.now) :
    execContextSwitchDone s = .next (finishSwitch s w) := by
  have hgoesOn : ¬ (w.save = true ∧ (contextDrained s = false ∨ s.now < w.since + switchTime s w)) := by
    rintro ⟨hsave, hundrained | hearly⟩
    · exact Bool.eq_false_iff.1 hundrained (hready hsave).1
    · exact Nat.not_lt.2 (hready hsave).2 hearly
  simp only [execContextSwitchDone, hswitch, if_neg hgoesOn]

/-- Settles O24: each command by what it answers for the slot or the switch it is meant for. -/
theorem slotCommandsComplete : Obligations.SlotCommandsComplete := by
  refine ⟨fun s m head hm hstate hdev => execSlotLoad_next hm hstate hdev,
    fun s s0 m status given image hm hloading hserving hidle hread hlength =>
      execSlotLoadDone_next hm hloading hserving hidle hread hlength,
    fun s m hm hstate hunnamed => execSlotUnload_next hm hstate hunnamed, fun s m data hm hrestoring hidle => ?restore,
    fun s m hm hrestoring hleft hlate => execRestoreTimeout_next hm hrestoring hleft hlate,
    fun s c hasked hnone hother => execContextSwitch_next hasked hnone hother,
    fun s w hswitch hready => execContextSwitchDone_next hswitch hready⟩
  case restore =>
    exact ⟨fun hnone => execRestoreFrameDone_ended hm hrestoring hidle hnone,
      fun f rest hnext hlength hcheck => execRestoreFrameDone_frame hm hrestoring hidle hnext hlength hcheck⟩

end Sys2Proof.Laws
end

section
/-! The cadence and its schedule: what each event answers for the source and the state of the cadence (R488 to R504). -/

namespace Sys2Proof.Laws

open Sys2Proof Sys2Proof.Machine

variable {s : State}

/-! ### Boundaries that the device makes (R489, R490) -/

/-- The predicted boundary is made when its time has come, unless edges make the boundaries. -/
theorem execCadenceBoundary_next (hself : cadSource s ≠ 1 ∨ dget s 0x1200 7 ≠ 0) (hdue : predicted s ≤ s.ptp) :
    execCadenceBoundary s = .next (makeBoundary s (predicted s) false) := by
  have hmakes : ¬ ((cadSource s = 1 ∧ dget s 0x1200 7 = 0) ∨ s.ptp < predicted s) := by
    rintro (⟨hedges, hlocked⟩ | hearly)
    · exact hself.elim (· hedges) (· hlocked)
    · exact Nat.not_lt.2 hdue hearly
  exact if_neg hmakes

/-! ### Edges under EXTERNAL (R489 to R491) -/

section edge
variable (hexternal : cadSource s = 1)
include hexternal

/-- An edge stands for its time stamp less ExtEdgeOffset, a signed word. -/
theorem execCadenceInEdge_next (stamp : Nat) :
    let b := ((stamp : Int) - (BitVec.ofNat 32 (dget s 0x1200 0xD)).toInt).toNat
    execCadenceInEdge stamp s = .next (if dget s 0x1200 7 = 0 then lockedEdge s b else lockingEdge s b) := by
  rw [execCadenceInEdge, if_pos hexternal, ofI32, signExt_eq_toInt (by decide)]

/-- With no edge by the prediction plus the tolerance, the device makes the boundary and counts the miss; MaxMissed of them lead to HOLDOVER. -/
theorem execCadenceEdgeMissed_next (hlocked : dget s 0x1200 7 = 0) (hlate : predicted s + dget s 0x1200 4 < s.ptp) :
    let s1 := bump (makeBoundary s (predicted s) false) 0x1200 0xB 1
    let s2 : State := { s1 with cad := { s1.cad with misses := s.cad.misses + 1, hits := 0 } }
    execCadenceEdgeMissed s = .next (if dget s 0x1200 6 ≤ s.cad.misses + 1 then dset s2 0x1200 7 2 else s2) :=
  if_pos ⟨hexternal, hlocked, hlate⟩

end edge

/-- While LOCKED, an edge near the prediction makes the boundary. -/
theorem lockedEdge_near {b : Nat} (hnear : nearPrediction s (predicted s) b = true) :
    lockedEdge s b = makeBoundary { s with cad := { s.cad with lastEdge := some b, misses := 0 } } b true := if_pos hnear

/-- While LOCKED, any other edge is ignored and counted. -/
theorem lockedEdge_away {b : Nat} (haway : nearPrediction s (predicted s) b = false) :
    lockedEdge s b = { s with cad := { s.cad with ignored := s.cad.ignored + 1 } } := if_neg (Bool.eq_false_iff.1 haway)

/-! ### Announcements under FABRIC (R490) -/

/-- Four silent periods lead to HOLDOVER. -/
theorem execFabricCadenceTimeout_next (hfabric : cadSource s = 2) (hsilent : s.cad.lastAnnounce + 4 * cadPeriod s < s.now) :
    execFabricCadenceTimeout s = .next (dset s 0x1200 7 2) := if_pos ⟨hfabric, hsilent⟩

/-! ### The schedule (R500 to R504) -/

section entry
variable {e : SchedEntry} (hdue : dueEntry s = some e)
include hdue

/-- A STEP entry that is due opens its reservation until PHASE + WINDOW. -/
theorem execScheduleStep_next (hstep : e.kind = 1) :
    execScheduleStep s = .next { passEntry s with
      cad := { (passEntry s).cad with open_ := s.cad.open_ ++ [(e.slot, phaseInstant s (e.phase + e.window))] } } := by
  simp only [execScheduleStep, hdue, if_pos hstep]
  rfl

/-- A CONTEXT entry that is due asks for its switch, or is counted as skipped where its context is not ready. -/
theorem execScheduleContext_next (hcontext : e.kind = 2) :
    execScheduleContext s = .next (
      if e.ctx = nextContext s then passEntry s
      else if contextReady s e.ctx then { passEntry s with ctx := { s.ctx with next := some e.ctx } }
      else bump (passEntry s) 0x1210 6 1) := by
  simp only [execScheduleContext, hdue, if_pos hcontext, apply_ite Host.Outcome.next]
  rfl

end entry

/-- Reservations past their windows lapse and are counted. -/
theorem execReservationLapse_next (hgone : s.cad.open_.filter (fun e => decide (e.2 ≤ s.ptp)) ≠ []) :
    execReservationLapse s = .next
      (bump { s with cad := { s.cad with open_ := s.cad.open_.filter (fun e => decide (s.ptp < e.2)) } } 0x1210 5
        (s.cad.open_.filter (fun e => decide (e.2 ≤ s.ptp))).length) := if_neg hgone

/-- A sound table is taken for the next boundary (R501). -/
theorem execScheduleActivate_next {table : Nat} (htable : table ≤ 1) (hsound : tableSound (bget s 0x1210 (1 + table)) = true) :
    execScheduleActivate table s = .next (dictAnswer { s with cad := { s.cad with activate := some table } } 0) := by
  rw [execScheduleActivate, activateTable, if_neg (Nat.not_lt.2 htable), if_pos hsound]

/-- Settles O25: each event by what it answers for the source and the state of the cadence. -/
theorem cadenceEventsComplete : Obligations.CadenceEventsComplete := by
  intro s
  -- An announcement is taken in every state: its clause is the meaning itself.
  refine ⟨fun hself hdue => execCadenceBoundary_next hself hdue, fun stamp hexternal => ?edge,
    fun hexternal hlocked hlate => execCadenceEdgeMissed_next hexternal hlocked hlate,
    fun hfabric hsilent => execFabricCadenceTimeout_next hfabric hsilent, fun _ _ _ => rfl,
    fun e hdue => ⟨fun hstep => execScheduleStep_next hdue hstep, fun hcontext => execScheduleContext_next hdue hcontext⟩,
    fun hgone => execReservationLapse_next hgone, fun table htable hsound => execScheduleActivate_next htable hsound⟩
  case edge =>
    have hnext := execCadenceInEdge_next hexternal stamp
    exact ⟨fun hlocked hnear => hnext.trans (congrArg _ ((if_pos hlocked).trans (lockedEdge_near hnear))),
      fun hlocked haway => hnext.trans (congrArg _ ((if_pos hlocked).trans (lockedEdge_away haway))),
      fun hunlocked => hnext.trans (congrArg _ (if_neg hunlocked))⟩

end Sys2Proof.Laws
end

section
/-! Time: how it is corrected, steered by pulses, and announced (R494 to R499). -/

namespace Sys2Proof.Laws

open Sys2Proof Sys2Proof.Machine

variable {s : State}

/-- A correction that is a finite number is rounded to the nearest ppb (R496). -/
theorem execFreqCorrection_finite {temp : Nat} {neg : Bool} {m : Nat} {e : Int} :
    let dt := (ofFp32 (BitVec.ofNat 32 temp)).add (intNum (-25))
    let c (k : Nat) : Machine.Num := ofFp32 (BitVec.ofNat 32 (dget s 0x1202 (k + 1)))
    (c 0).add (((c 1).mul dt).add (((c 2).mul (dt.mul dt)).add ((c 3).mul (dt.mul (dt.mul dt))))) = .fin neg m e →
    execFreqCorrection temp s = .next (dset (dset s 0x1201 0xB temp) 0x1201 0xA (convFinInt 32 neg m 1 e).code) := by
  intro dt c hfinite
  simp only [execFreqCorrection]
  rw [hfinite]

/-! ### Pulses (R497) -/

section pps
variable (hsteered : dbool s 0x1201 7 = true)
include hsteered

/-- A pulse within 500 µs of a second is accepted. -/
theorem execPpsInPulse_accepted {stamp : Nat} (hnear : (ppsOffset stamp).natAbs ≤ 500000) :
    execPpsInPulse stamp s = .next (acceptPps { s with clock := { s.clock with lastPps := some stamp } } (ppsOffset stamp)) := by
  rw [execPpsInPulse, if_pos hsteered]
  exact if_pos hnear

/-- Any other pulse is an outlier, and breaks the run of accepted ones. -/
theorem execPpsInPulse_outlier {stamp : Nat} (haway : 500000 < (ppsOffset stamp).natAbs) :
    execPpsInPulse stamp s = .next (bump { s with clock := { s.clock with ppsGood := 0 } } 0x1201 0xD 1) := by
  rw [execPpsInPulse, if_pos hsteered]
  exact if_neg (Nat.not_le.2 haway)

/-- The third missing pulse in a row makes a locked time base hold over. -/
theorem execPpsMissing_next :
    let s1 : State := { s with clock := { s.clock with ppsMissing := s.clock.ppsMissing + 1, ppsGood := 0 } }
    execPpsMissing s = .next (if 2 ≤ s.clock.ppsMissing ∧ dget s 0x1201 1 = 0 then setQuality s1 1 else s1) := by
  have hthird : 3 ≤ s.clock.ppsMissing + 1 ↔ 2 ≤ s.clock.ppsMissing := Nat.succ_le_succ_iff
  simp only [execPpsMissing, if_pos hsteered, hthird]

end pps

/-! ### Messages and the second (R493 to R495, R499) -/

/-- The grandmaster that has not fallen silent sends Sync, its Follow_Up and Announce, and its role is noted. -/
theorem execPtpSyncSend_next (hspeaks : s.clock.silent = false) :
    let n := (s.clock.syncSeq + 1) % 65536
    let s1 := timeFrame (timeFrame (timeFrame s 1 [n]) 2 [n, s.ptp]) 3 [n, priority1 s, clockClass s]
    execPtpSyncSend s =
      .next (dset { s1 with clock := { s1.clock with syncSeq := n, announceSeq := n } } 0x1201 6 (if dget s 0x6100 5 = 2 then 2 else 1)) :=
  if_neg (Bool.eq_false_iff.1 hspeaks)

/-- PPS_OUT rises for 100 ms at each whole second of PTP time. -/
theorem execPpsOutSecond_next (hsecond : s.ptp / 1000000000 ≠ s.clock.lastSecond) :
    execPpsOutSecond s =
      .next (emit { s with clock := { s.clock with lastSecond := s.ptp / 1000000000 } } (.pulse pinPpsOut 100000000)) := if_neg hsecond

/-- Settles O26: each event by what it answers for the state of the time base. -/
theorem timeEventsComplete : Obligations.TimeEventsComplete := by
  intro s
  -- A write of PtpTime and a delay request are taken in every state: their clauses are the meanings themselves.
  exact ⟨fun _ _ _ _ hfinite => execFreqCorrection_finite hfinite,
    fun _ hsteered => ⟨fun hnear => execPpsInPulse_accepted hsteered hnear, fun haway => execPpsInPulse_outlier hsteered haway⟩,
    fun hsteered => execPpsMissing_next hsteered, fun _ => rfl, fun hspeaks => execPtpSyncSend_next hspeaks, fun _ _ => rfl,
    fun hsecond => execPpsOutSecond_next hsecond⟩

end Sys2Proof.Laws
end

section
/-! Fabric ports: what each event answers for the state of the port (R509 to R514, R517, R521). -/

namespace Sys2Proof.Laws

open Sys2Proof Sys2Proof.Machine

variable {s : State} {p : Nat}

section port
variable (hport : isPort p = true)
include hport

/-! ### Flits and their replay (R511, R512) -/

section up
variable (hup : portState s p = portUp)
include hup

section flit
variable {ftype vc seq ackseq cvc credits op dst src tenant : Nat} {priv : Bool} {ord addfmt fidx fcnt tag wmask addr : Nat} {words : List Nat}

/-- A flit with a wrong CRC is counted and asked for again. -/
theorem execFlitReceive_badCrc :
    execFlitReceive p false ftype vc seq ackseq cvc credits op dst src tenant priv ord addfmt fidx fcnt tag wmask addr words s =
      .next (emit (bump s (portIdx p) 7 1) (.link p 1 (s.port p).rxSeq)) := by
  rw [execFlitReceive, if_neg (ne_false_of_eq_true hport), if_neg (not_not_intro hup), if_pos rfl]

/-- A DATA flit in sequence on a fabric port is acknowledged and credited, and joins its packet. -/
theorem execFlitReceive_data (hfabric : p < 6) (hdata : ftype = 1) (hseq : seq = ((s.port p).rxSeq + 1) % 4096) :
    let s0 := drainPort ((ackReplay s p ackseq).updPort p (fun x => { x with credits := mapUpd 64 x.credits cvc (fun c => min 64 (c + credits)) })) p
    let s1 := emit (emit (bump (s0.updPort p (fun x => { x with rxSeq := seq })) (portIdx p) 5 1) (.link p 0 seq)) (.link p 3 vc)
    execFlitReceive p true ftype vc seq ackseq cvc credits op dst src tenant priv ord addfmt fidx fcnt tag wmask addr words s =
      .next (joinFlit s1 p vc fidx wmask
        { op := op, dst := dst, src := src, tenant := tenant, priv := priv, ord := ord, addfmt := addfmt,
          fcnt := fcnt, tag := tag, addr := addr, words := words }) := by
  subst hdata
  rw [execFlitReceive, if_neg (ne_false_of_eq_true hport), if_neg (not_not_intro hup), if_neg (ne_false_of_eq_true rfl)]
  exact (if_neg (by decide)).trans <| (if_neg (not_not_intro rfl)).trans <| (if_neg (not_not_intro hseq)).trans (if_pos hfabric)

end flit

/-- A NAK replays every flit that it does not acknowledge, and each is counted. -/
theorem execNakReceive_next (ackseq : Nat) :
    let s1 := ackReplay s p ackseq
    let fs := (s1.port p).replay
    execNakReceive p ackseq s = .next (fs.foldl (fun s f => emit s (.link p 2 f.seq))
      (bump (s1.updPort p (fun x => { x with replay := x.replay.map (fun f => { f with replays := f.replays + 1 }) })) (portIdx p) 6 fs.length)) := by
  rw [execNakReceive, if_neg (ne_false_of_eq_true hport), if_neg (not_not_intro hup)]

/-- A flit replayed 8 times retrains the port; the third retrain within a second takes it DOWN. -/
theorem execPortRetrain_next (hreplayed : (s.port p).replay.any (fun f => decide (8 ≤ f.replays)) = true) :
    let times := (s.port p).retrains.filter (fun t => decide (s.now < t + 1000000000)) ++ [s.now]
    let third := decide (3 ≤ times.length)
    execPortRetrain p s = .next (tandemPortFault (setPortState ((bump s (portIdx p) 9 1).updPort p (fun x =>
      { x with
        replay := x.replay.map (fun f => { f with replays := 0 }), retrains := if third then [] else times,
        downSince := if third then some s.now else x.downSince })) p (if third then portDown else portTraining)) p) := by
  rw [execPortRetrain, if_neg (ne_false_of_eq_true hport), if_pos ⟨hup, hreplayed⟩]

end up

/-! ### Training (R512, R514, R528) -/

section trained
variable {node dx dy dz : Nat} {serial : List Byte}
  (hstate : portState s p = portDown ∨ portState s p = portTraining) (hsince : (s.port p).downSince = none)
include hstate hsince

/-- Training of a port that is not held DOWN ends by what the other end said: on a tandem port by its serial number, on a fabric
port whose dimension is in use by its node and extents. -/
theorem execPortTrained_ends (names : Bool) :
    execPortTrained p node dx dy dz serial names s =
      if p < 6 then
        if (extents s).getD (p / 2) 1 = 1 then .next s
        else
          let s1 : State := dset { s with fabric := { s.fabric with node := dget s 0x6000 1 } } (portIdx p) 3 node
          if rightlyWired s1 p node [dx, dy, dz] then .next (resumePort (setPortState s1 p portUp) p)
          else .next (setPortState s1 p portMiswired)
      else if serial = bget s 0x6100 3 ∧ names = true then .next (resumePort (tandemPortBack (setPortState s p portUp) p) p)
      else .next (setPortState s p portMiswired) := by
  have hready : ¬ ((portState s p ≠ portDown ∧ portState s p ≠ portTraining) ∨ (s.port p).downSince.isSome = true) := by
    rw [hsince]
    rintro (⟨hdown, htraining⟩ | hsome)
    · exact hstate.elim hdown htraining
    · exact Bool.false_ne_true hsome
  rw [execPortTrained, if_neg (ne_false_of_eq_true hport)]
  exact if_neg hready

/-- A tandem port that reaches its partner, which names this device in return, comes UP. -/
theorem execPortTrained_tandem (htandem : 6 ≤ p) (hpartner : serial = bget s 0x6100 3) :
    execPortTrained p node dx dy dz serial true s = .next (resumePort (tandemPortBack (setPortState s p portUp) p) p) :=
  (execPortTrained_ends hport hstate hsince true).trans ((if_neg (Nat.not_lt.2 htandem)).trans (if_pos ⟨hpartner, rfl⟩))

/-- A fabric port whose dimension is in use comes UP at the right neighbour with equal extents, and is MISWIRED at any other. -/
theorem execPortTrained_fabric (hfabric : p < 6) (hused : (extents s).getD (p / 2) 1 ≠ 1) (names : Bool) :
    let s1 : State := dset { s with fabric := { s.fabric with node := dget s 0x6000 1 } } (portIdx p) 3 node
    execPortTrained p node dx dy dz serial names s = .next (if rightlyWired s1 p node [dx, dy, dz]
      then resumePort (setPortState s1 p portUp) p else setPortState s1 p portMiswired) := by
  rw [execPortTrained_ends hport hstate hsince, if_pos hfabric, if_neg hused]
  exact (apply_ite Host.Outcome.next _ _ _).symm

end trained

/-- A second after the third retrain the port trains again. -/
theorem execPortDownExpire_next {t : Nat} (hsince : (s.port p).downSince = some t) (hsecond : t + 1000000000 ≤ s.now) :
    execPortDownExpire p s = .next (setPortState (s.updPort p (fun x => { x with downSince := none })) p portTraining) := by
  rw [execPortDownExpire, if_neg (ne_false_of_eq_true hport), hsince]
  exact if_pos hsecond

/-- Loss of signal takes a port that is UP or TRAINING DOWN. -/
theorem execPortLossOfSignal_next (hstate : portState s p = portUp ∨ portState s p = portTraining) :
    execPortLossOfSignal p s = .next (tandemPortFault (setPortState s p portDown) p) := by
  rw [execPortLossOfSignal, if_neg (ne_false_of_eq_true hport), if_pos hstate]

/-- Release ends a quarantine (R521). -/
theorem execQuarantineRelease_next (hquarantined : portState s p = portQuarantined) :
    execQuarantineRelease p true s = .next (emit (setPortState s p portTraining) (.dictAnswer 0 [])) := by
  have hends : (true && portState s p == portQuarantined) = true := beq_iff_eq.2 hquarantined
  rw [execQuarantineRelease, if_neg (ne_false_of_eq_true hport), if_pos hends]

end port

/-- A newer LINKSTATE of another node is applied and flooded on (R517). -/
theorem execLinkstate_newer {node version mask : Nat} {down : Bool} (hfabric : isFabricPort p = true)
    (hnewer : mapGet 0 s.fabric.versions node < version) (hother : node ≠ s.fabric.node) :
    execLinkstate p node version mask down s =
      .next (floodLinkState (putLinks s node version (mask % 64) down) p node version (mask % 64) down) := by
  rw [execLinkstate, if_neg (ne_false_of_eq_true hfabric), if_pos ⟨hnewer, hother⟩]

/-- Settles O27: each event by what it answers for the state of the port that it names. -/
theorem portEventsComplete : Obligations.PortEventsComplete := by
  intro s p hport
  refine ⟨?flit, fun ackseq hup => execNakReceive_next hport hup ackseq, fun hup hreplayed => execPortRetrain_next hport hup hreplayed, ?trained,
    fun t hsince hsecond => execPortDownExpire_next hport hsince hsecond, fun hstate => execPortLossOfSignal_next hport hstate,
    fun hquarantined => execQuarantineRelease_next hport hquarantined,
    fun node version mask down hfabric hnewer hother => execLinkstate_newer hfabric hnewer hother⟩
  case flit =>
    intro ftype vc seq ackseq cvc credits op dst src tenant priv ord addfmt fidx fcnt tag wmask addr words hup
    exact ⟨execFlitReceive_badCrc hport hup, fun hfabric hdata hseq => execFlitReceive_data hport hup hfabric hdata hseq⟩
  case trained =>
    intro node dx dy dz serial names hstate hsince
    exact ⟨fun htandem hpartner => execPortTrained_tandem hport hstate hsince htandem hpartner,
      fun hfabric hused => execPortTrained_fabric hport hstate hsince hfabric hused names⟩

end Sys2Proof.Laws
end

section
/-! Remote accesses and collectives: what each command answers for the packet, the operation or the run that it meets (R517 to R520,
R522 to R527). -/

namespace Sys2Proof.Laws

open Sys2Proof Sys2Proof.Machine

variable {s : State}

/-! ### Packets addressed to this device (R518, R519) -/

section packet
variable {k : Packet} {rest : List Packet} (hinbox : s.fabric.inbox = k :: rest)
include hinbox

/-- The oldest packet is handled once it is taken from the inbox. -/
theorem withPacket_head {op : Nat} (hop : k.op = op) (f : Packet → State → State) :
    withPacket s op f = .next (f k { s with fabric := { s.fabric with inbox := rest } }) := by
  simp only [withPacket, hinbox, if_pos hop]

/-- A request whose row nothing holds and whose SCOPE is not reserved is handled. -/
theorem withRequest_head {op : Nat} (hop : k.op = op) (hfree : nothingHeld s [(k.addr / 2048 * 2048, 2048)] = true ∧ ordScope k.ord ≤ 4)
    (f : Packet → State → State) : withRequest s op f = .next (f k { s with fabric := { s.fabric with inbox := rest } }) := by
  obtain ⟨hheld, hscope⟩ := hfree
  simp only [withRequest, hinbox, whenFree_of_nothingHeld hheld, withPacket_head hinbox hop, if_neg (Nat.not_lt.2 hscope)]

end packet

section serve
variable {k : Packet}

/-- A WRITE within reach that no word refuses is performed and acknowledged. -/
theorem serveFabricWrite_performed (hreach : packetReach s k true (k.marked.map (·.1)) = true) (hstored : (storeMarked s k.marked).status = 0) :
    serveFabricWrite k s = respond (storeMarked s k.marked).next k 5 0 [] :=
  (if_neg (ne_false_of_eq_true hreach)).trans (if_neg (not_not_intro hstored))

/-- A READ within reach is answered with the codewords as stored. -/
theorem serveFabricRead_performed (hreach : packetReach s k false (readAddrs k) = true) (hread : (readCodes s (readAddrs k)).1 = 0) :
    serveFabricRead k s = respond (readCodes s (readAddrs k)).2.2 k 3 k.fcnt (readCodes s (readAddrs k)).2.1 :=
  (if_neg (ne_false_of_eq_true hreach)).trans (if_neg (not_not_intro hread))

/-- An ADD within reach that no adder refuses is performed and acknowledged. -/
theorem serveFabricAdd_performed (hreach : packetReach s k true (k.marked.map (·.1)) = true)
    (hadded : (addMarked s k ((k.marked.map (·.1)).filter (fun a => a % 64 == 0))).status = 0) :
    serveFabricAdd k s = respond (addMarked s k ((k.marked.map (·.1)).filter (fun a => a % 64 == 0))).next k 5 0 [] :=
  (if_neg (ne_false_of_eq_true hreach)).trans (if_neg (not_not_intro hadded))

/-- An ACK settles the WRITE or ADD that it answers. -/
theorem serveAck_settles {o : RemoteOp} (hop : opOf s k = some o) (hwrites : o.op ≠ 2) : serveAck k s = dropOp s o := by
  simp only [serveAck, hop, if_neg hwrites]

end serve

/-- An operation that nothing answered within RequestTimeout fails (R520). -/
theorem execFabricRequestTimeout_fails {tag : Nat} {o : RemoteOp} (hop : s.fabric.ops.find? (fun o => o.tag == tag) = some o)
    (hlate : o.since + 1000 * dget s 0x6000 5 ≤ s.now) : execFabricRequestTimeout tag s = .next (failOp s o 0x502 true) := by
  simp only [execFabricRequestTimeout, hop, if_pos hlate]

/-! ### Collectives (R522 to R527) -/

/-- The four commands of the collective queue. -/
def collectives : List (Instr × Nat) :=
  [(.allreduce, opAllreduce), (.allgather, opAllgather), (.reducescatter, opReducescatter), (.broadcast, opBroadcast)]

/-- Each collective starts the same way, by its OP. -/
theorem exec_collective {c : Instr} {op : Nat} (h : (c, op) ∈ collectives) (s : State) : exec c s = startColl op s := by
  simp only [collectives, List.mem_cons, List.not_mem_nil, Prod.mk.injEq, or_false] at h
  obtain ⟨rfl, rfl⟩ | ⟨rfl, rfl⟩ | ⟨rfl, rfl⟩ | ⟨rfl, rfl⟩ := h <;> rfl

/-- With none running, the next sound descriptor is taken and its collective begins. -/
theorem startColl_begins {q : QEntry} {rest : List QEntry} {op : Nat} (hidle : s.fabric.coll = none) (hqueue : s.fabric.collQueue = q :: rest)
    (hop : (collDesc q.data).op = op) (hsound : checkColl s q.origin q.data = 0) :
    startColl op s = .next (beginColl { s with fabric := { s.fabric with collQueue := rest, collTaken := sat64 s.fabric.collTaken 1 } } q) := by
  have hother : ¬ ((collDesc q.data).op ≠ op ∧ (collDesc q.data).op ≠ 0 ∧ (collDesc q.data).op ≤ 4) := fun h => h.1 hop
  simp only [startColl, hidle, hqueue]
  rw [if_neg hother, if_neg (not_not_intro hsound)]

/-- A whole burst is posted to the collective queue. -/
theorem execCollPost_burst {poster tenant : Nat} {priv : Bool} {data : List Byte} (hlen : data.length = 64) :
    execCollPost poster tenant priv data s =
      .next (postBurst s (poster * 64) { poster := poster, tenant := tenant, priv := priv } (ecsBase + 0x1210800) data).2 :=
  congrArg Host.Outcome.next (if_pos hlen)

section message
variable {rank : Nat} {desc data : List Byte} {isData : Bool} {bad : List Nat}

/-- A message of the collective that runs is heard. -/
theorem execCollMessage_heard {r : CollRun} (hruns : s.fabric.coll = some r) (hcid : sameCid desc r.data = true) :
    execCollMessage rank desc isData data bad s =
      .next (putColl (collHear s r { rank := rank, desc := desc, isData := isData, data := data, bad := bad })) := by
  simp only [execCollMessage, hruns, if_pos hcid]

/-- With none running, a message is kept for the start of its collective. -/
theorem execCollMessage_kept (hidle : s.fabric.coll = none) :
    execCollMessage rank desc isData data bad s = .next { s with fabric := { s.fabric with
      collEarly := s.fabric.collEarly ++ [{ rank := rank, desc := desc, isData := isData, data := data, bad := bad }] } } := by
  simp only [execCollMessage, hidle]

end message

section run
variable {r : CollRun} (hruns : s.fabric.coll = some r)
include hruns

/-- A collective whose members agree and whose contributions are here stores its result and completes. -/
theorem execCollComplete_ready (hagree : r.mismatch = false) (hready : collReady s (collDesc r.data) r = true) :
    let d := collDesc r.data
    let ws := collResult d r ((collRank s d).getD 0)
    let w := storeResult s d.dst ws
    execCollComplete s = .next (completeColl w.next r.data r.origin
      (firstStatus (if ws.any (·.2) then (if d.reduces then 0x312 else 0x320) else 0) w.status) false) := by
  intro d ws w
  simp only [execCollComplete, hruns, hagree, hready, Bool.false_eq_true, if_false, if_true]
  rfl

/-- A collective that waited beyond CollTimeout for a member ends, its destination undefined (R525). -/
theorem execCollTimeout_late (hlate : r.since + 1000 * dget s 0x6000 6 ≤ s.now) :
    execCollTimeout s = .next (completeColl (freeWords s (collDesc r.data).dst ((collDesc r.data).dstBytes / 32)) r.data r.origin 0x509 false) := by
  simp only [execCollTimeout, hruns]
  exact if_pos (.inr hlate)

end run

/-- Settles O28: each command by what it answers for the packet, the operation or the collective that it meets. -/
theorem fabricTrafficCompletes : Obligations.FabricTrafficCompletes := by
  refine ⟨?packets, fun s tag o hop hlate => execFabricRequestTimeout_fails hop hlate,
    fun s poster tenant priv data hlen => execCollPost_burst hlen, ?start, ?message, ?run⟩
  case packets =>
    intro s k rest hinbox s0 free
    refine ⟨fun hop hfree hreach hstored => ?write, fun hop hfree hreach hread => ?read, fun hop hfree hreach => ?add,
      fun hop => withPacket_head hinbox hop _, fun o hanswers hwrites hop => ?ack, fun hop => withPacket_head hinbox hop _⟩
    case write => exact (withRequest_head hinbox hop hfree _).trans (congrArg _ (serveFabricWrite_performed hreach hstored))
    case read => exact (withRequest_head hinbox hop hfree _).trans (congrArg _ (serveFabricRead_performed hreach hread))
    case add =>
      intro r hadded
      exact (withRequest_head hinbox hop hfree _).trans (congrArg _ (serveFabricAdd_performed hreach hadded))
    case ack => exact (withPacket_head hinbox hop _).trans (congrArg _ (serveAck_settles hanswers hwrites))
  case start =>
    intro s q rest c op hc hidle hqueue hop hsound
    exact (exec_collective hc s).trans (startColl_begins hidle hqueue hop hsound)
  case message =>
    intro s rank desc data isData bad m
    exact ⟨fun r hruns hcid => execCollMessage_heard hruns hcid, fun hidle => execCollMessage_kept hidle⟩
  case run =>
    intro s r hruns d
    exact ⟨fun hagree hready => execCollComplete_ready hruns hagree hready, fun hlate => execCollTimeout_late hruns hlate⟩

end Sys2Proof.Laws
end

section
/-! The tandem pair: what each event answers for the state of the pair and of its links (R528 to R539, R639). -/

namespace Sys2Proof.Laws

open Sys2Proof Sys2Proof.Machine

variable {s : State}

/-! ### Heartbeats (R530, R535) -/

section heart
variable {port seq partner priority applied vmin vmax : Nat}
  (hport : port < 2) (hup : portState s (6 + port) = portUp) (hnew : s.tandem.partnerHeart < seq)
include hport hup hnew

/-- A heartbeat that is no copy of an earlier one is noted, and acts by the state of the pair. -/
theorem execHeart_noted :
    let s1 := noteHeart s seq priority applied
    execHeart port seq partner priority applied vmin vmax s =
      if pairState s = pairSeeking ∨ pairState s = pairSolo then .next (countHeart s1 (seq == s.tandem.partnerHeart + 1) partner vmin vmax)
      else if pairState s = pairFenced ∧ dget s 0x6100 5 = 2 then
        .next (dset (enterSyncing { s1 with dev := s.tandem.left }) 0x6100 0xF (min s.tandem.ownMax vmax))
      else .next (settleActive s1) := by
  have hfirst : ¬ (seq ≤ s.tandem.partnerHeart ∧ s.tandem.partnerHeart ≠ 0 ∧ s.now < s.tandem.lastBeat + 30000) :=
    fun hcopy => Nat.not_le.2 hnew hcopy.1
  rw [execHeart, if_neg (Nat.not_le.2 hport), if_neg (not_not_intro hup), if_neg hfirst]

/-- In SEEKING and SOLO it counts towards SYNCING. -/
theorem execHeart_counted (hpair : pairState s = pairSeeking ∨ pairState s = pairSolo) :
    execHeart port seq partner priority applied vmin vmax s =
      .next (countHeart (noteHeart s seq priority applied) (seq == s.tandem.partnerHeart + 1) partner vmin vmax) :=
  (execHeart_noted hport hup hnew).trans (if_pos hpair)

/-- A FENCED backup enters SYNCING. -/
theorem execHeart_fenced (hpair : pairState s = pairFenced) (hbackup : dget s 0x6100 5 = 2) :
    execHeart port seq partner priority applied vmin vmax s =
      .next (dset (enterSyncing { noteHeart s seq priority applied with dev := s.tandem.left }) 0x6100 0xF (min s.tandem.ownMax vmax)) := by
  have hseeks : ¬ (pairState s = pairSeeking ∨ pairState s = pairSolo) := by
    rw [hpair]
    decide
  exact (execHeart_noted hport hup hnew).trans ((if_neg hseeks).trans (if_pos ⟨hpair, hbackup⟩))

/-- In ACTIVE and SYNCING nothing else follows than that SYNCING may end. -/
theorem execHeart_paired (hpair : pairState s = pairActive ∨ pairState s = pairSyncing) :
    execHeart port seq partner priority applied vmin vmax s = .next (settleActive (noteHeart s seq priority applied)) := by
  have hseeks : ¬ (pairState s = pairSeeking ∨ pairState s = pairSolo) := by
    obtain hactive | hsyncing := hpair
    · rw [hactive]; decide
    · rw [hsyncing]; decide
  have hfenced : ¬ (pairState s = pairFenced ∧ dget s 0x6100 5 = 2) := by
    rintro ⟨hfence, -⟩
    rw [hfence] at hpair
    exact absurd hpair (by decide)
  exact (execHeart_noted hport hup hnew).trans ((if_neg hseeks).trans (if_neg hfenced))

end heart

/-! ### Loss, fencing and withdrawal (R535, R536, R539) -/

section silence
variable (hpair : mirroring s = true) (hsilent : s.tandem.lastBeat + 30000 ≤ s.now)
include hpair hsilent

/-- Silence takes both tandem links down. -/
theorem execHeartbeatTimeout_next (hlink : portState s 6 = portUp ∨ portState s 7 = portUp) :
    execHeartbeatTimeout s =
      .next (tandemPortFault (bump (setPortState (setPortState s 6 portDown) 7 portDown) 0x6100 8 1) 6) := if_pos ⟨hpair, hsilent, hlink⟩

/-- With no presence frame either, the partner is lost. -/
theorem execTandemLost_next (hdown : tandemLinksDown s = true) (hgone : s.tandem.lastPresence + 60000 ≤ s.now) :
    execTandemLost s = .next (losePartner s) := if_pos ⟨hpair, hdown, hsilent, hgone⟩

/-- With a presence frame since the last heartbeat, the pair is fenced. -/
theorem execTandemFenced_next (hdown : tandemLinksDown s = true) (hpresent : s.tandem.lastBeat < s.tandem.lastPresence) :
    execTandemFenced s = .next (fence s) := if_pos ⟨hpair, hdown, hsilent, hpresent⟩

end silence

/-- WITHDRAW begins in SYNCING and ACTIVE, where none is under way. -/
theorem execWithdraw_next (hpair : mirroring s = true) (hnone : s.tandem.withdraw = false) :
    execWithdraw s = .next (dictAnswer (startWithdraw s) 0) := by
  rw [execWithdraw, legalOr_legal (by rw [hpair, hnone]; rfl)]

/-- REJOIN leaves HELD for SEEKING. -/
theorem execRejoin_next (hheld : pairState s = pairHeld) : execRejoin s = .next (dictAnswer (enterSeeking s) 0) := by
  rw [execRejoin, legalOr_legal (beq_iff_eq.2 hheld)]

/-! ### The mirror stream (R531 to R533) -/

/-- The next message of the stream is applied, and may end SYNCING. -/
theorem withMirror_next {seq : Nat} (hpair : mirroring s = true ∨ pairState s = pairFenced ∨ s.tandem.promote ≠ [])
    (hseq : seq = s.tandem.rxSeq + 1) (f : State → State) :
    withMirror s seq f = .next (settleActive (f { s with tandem := { s.tandem with rxSeq := seq } })) := if_pos ⟨hpair, hseq⟩

/-- An acknowledgment of what was sent marks its requests and settles what waited for it. -/
theorem execMirrorAck_next {seq : Nat} (hpair : mirroring s = true) (hsent : seq ≤ s.tandem.txSeq) (marks : List (Nat × Bool))
    (mapped : List (Nat × Nat)) :
    execMirrorAck seq marks mapped s = .next (settleActive (endMirror (endWaits (takeMarks s marks mapped) seq) seq)) :=
  if_neg (not_or_intro (ne_false_of_eq_true hpair) (Nat.not_lt.2 hsent))

/-! ### The pair key (R598, R639) -/

section pairKey
variable {share signature partnerKey : List Byte}

/-- A share whose signature fails is not taken. -/
theorem execPairKeyAgree_badSignature (hsigned : Config.ed25519Verify partnerKey share signature = false) :
    execPairKeyAgree share signature partnerKey true s = .next s := if_pos (.inr (.inr hsigned))

/-- A signed share, in SEEKING or once the key was discarded, agrees the key, and this device's own signed share is sent. -/
theorem execPairKeyAgree_signed (hneeded : pairState s = pairSeeking ∨ (mirroring s = true ∧ s.tandem.pairKey = []))
    (hsigned : Config.ed25519Verify partnerKey share signature ≠ false) :
    let priv := Config.random s.free 32
    let pub := Config.x25519Public priv
    let ids := if ranksFirst s then bget s 0x1000 5 ++ bget s 0x6100 3 else bget s 0x6100 3 ++ bget s 0x1000 5
    execPairKeyAgree share signature partnerKey true s = .next (emit { s with free := s.free + 1, tandem := { s.tandem with
        pairKey := (Config.sha512 (Config.x25519 priv share ++ ids)).take 32, presenceSeq := 0, partnerPresence := 0 } }
      (.frame 20 [] (pub ++ Config.ed25519Sign Config.identityPrivate pub))) := by
  have htaken : ¬ ((pairState s ≠ pairSeeking ∧ ¬ (mirroring s = true ∧ s.tandem.pairKey = [])) ∨ true = false ∨
      Config.ed25519Verify partnerKey share signature = false) := by
    rintro (⟨hseeking, hkept⟩ | hcertificate | hfails)
    · exact hneeded.elim hseeking hkept
    · cases hcertificate
    · exact hsigned hfails
  exact if_neg htaken

end pairKey

/-- Settles O29: each event by what it answers for the state of the pair. -/
theorem tandemEventsComplete : Obligations.TandemEventsComplete := by
  -- A heartbeat is sent in every state: its clause is the meaning itself.
  refine ⟨fun _ => rfl, ?heart, fun s hpair hsilent => ?silence, ?commands, ?stream, ?ack, ?pairKey⟩
  case heart =>
    intro s port seq partner priority applied vmin vmax hport hup hnew s1
    exact ⟨fun hpair => execHeart_counted hport hup hnew hpair, fun hpair hbackup => execHeart_fenced hport hup hnew hpair hbackup,
      fun hpair => execHeart_paired hport hup hnew hpair⟩
  case silence =>
    exact ⟨fun hlink => execHeartbeatTimeout_next hpair hsilent hlink, fun hdown hgone => execTandemLost_next hpair hsilent hdown hgone,
      fun hdown hpresent => execTandemFenced_next hpair hsilent hdown hpresent⟩
  case commands => exact fun s => ⟨fun hpair hnone => execWithdraw_next hpair hnone, fun hheld => execRejoin_next hheld⟩
  case stream =>
    intro s seq hpair hseq took
    -- Each kind of message is `withMirror` of its effect.
    have htook : ∀ f : State → State, withMirror s seq f = took f := withMirror_next hpair hseq
    exact ⟨fun _ _ _ _ _ => htook _, fun _ _ _ => htook _, fun _ _ _ _ _ _ _ => ⟨htook _, htook _⟩, fun _ _ _ => htook _,
      fun _ _ _ _ _ => htook _, fun _ _ _ _ _ => htook _, fun _ _ _ _ _ => htook _, fun _ => htook _, fun _ _ _ _ => htook _⟩
  case ack => exact fun s seq marks mapped hpair hsent => execMirrorAck_next hpair hsent marks mapped
  case pairKey =>
    intro s share signature partnerKey hneeded priv pub ids
    by_cases hsigned : Config.ed25519Verify partnerKey share signature = false
    · exact (execPairKeyAgree_badSignature hsigned).trans (congrArg _ (if_pos hsigned).symm)
    · exact (execPairKeyAgree_signed hneeded hsigned).trans (congrArg _ (if_neg hsigned).symm)

end Sys2Proof.Laws
end

section
/-! Every command answers: no branch of any command's meaning ends in a fault or a refusal (R548, R602). -/

namespace Sys2Proof.Laws

open Sys2Proof Sys2Proof.Machine

/-- The outcome is a next state. -/
def Answers (r : Res) : Prop := ∃ t, r = .next t

variable {s : State}

theorem answers_next (t : State) : Answers (.next t) := ⟨t, rfl⟩

theorem answers_ite {c : Prop} [Decidable c] {a b : Res} (ha : Answers a) (hb : Answers b) : Answers (if c then a else b) := by
  split
  · exact ha
  · exact hb

/-! ### What the commands share: a wrapper answers where what it wraps does -/

theorem answers_whenFree {ranges : List (Nat × Nat)} {r : Res} (h : Answers r) : Answers (whenFree s ranges r) :=
  answers_ite h (answers_next s)

theorem answers_withMover {m : Nat} {f : Mover → Res} (h : ∀ x, Answers (f x)) : Answers (withMover s m f) :=
  answers_ite (h _) (answers_next s)

theorem answers_withSeq {eng : Nat} {f : Engine → Res} (h : ∀ e, Answers (f e)) : Answers (withSeq s eng f) :=
  answers_ite (h _) (answers_next s)

theorem answers_withEngine {eng : Nat} {f : Engine → Res} (h : ∀ e, Answers (f e)) : Answers (withEngine s eng f) :=
  answers_ite (h _) (answers_next s)

theorem answers_withCtrl {eng v : Nat} {t : State} : Answers (withCtrl s eng v t) :=
  answers_withSeq fun _ => answers_ite (answers_next t) (answers_next s)

theorem answers_ladleOperation {op st slot : Nat} {run : LadleSlot → LSlot → LRun → List BankWork × LRun} :
    Answers (ladleOperation op st slot run s) := by
  fun_cases ladleOperation <;> exact answers_next _

theorem answers_runSweep {slot stalled : Nat} : Answers (runSweep slot stalled s) := by
  fun_cases runSweep
  case case1 | case3 => exact answers_next s
  case case2 => exact answers_whenFree (answers_next _)

theorem answers_rawTestWrite {agent tenant st : Nat} {mk : Stack → Code288 → Code288} : Answers (rawTestWrite agent tenant st mk s) := by
  fun_cases rawTestWrite <;> exact answers_next _

theorem answers_rawTestRead {agent tenant st : Nat} {decoded : Bool} : Answers (rawTestRead agent tenant st decoded s) := by
  fun_cases rawTestRead <;> exact answers_next _

theorem answers_walkerOp {n t : Nat} {op : WalkOp} {f : Nat → Thread → State → Option State} : Answers (walkerOp s n t op f) := by
  fun_cases walkerOp <;> exact answers_next _

theorem answers_aluOp {n t : Nat} {op : WalkOp} {f : Nat → Nat → Nat} : Answers (aluOp s n t op f) := answers_walkerOp

theorem answers_immOp {n t : Nat} {op : WalkOp} {f : Nat → Nat → Nat} : Answers (immOp s n t op f) := answers_walkerOp

theorem answers_branchOp {n t : Nat} {op : WalkOp} {p : Nat → Nat → Bool} : Answers (branchOp s n t op p) := answers_walkerOp

theorem answers_amoOp {n t : Nat} {op : WalkOp} {len : Nat} : Answers (amoOp s n t op len) := answers_walkerOp

theorem answers_withServe {op : Nat} {act : QEntry → State → State} : Answers (withServe s op act) := by
  fun_cases withServe <;> exact answers_next _

theorem answers_withPacket {op : Nat} {f : Packet → State → State} : Answers (withPacket s op f) := by
  fun_cases withPacket <;> exact answers_next _

theorem answers_withRequest {op : Nat} {f : Packet → State → State} : Answers (withRequest s op f) := by
  fun_cases withRequest
  · exact answers_whenFree answers_withPacket
  · exact answers_next s

theorem answers_startColl {op : Nat} : Answers (startColl op s) := by
  fun_cases startColl <;> exact answers_next _

theorem answers_withMirror {seq : Nat} {f : State → State} : Answers (withMirror s seq f) := answers_ite (answers_next _) (answers_next s)

theorem answers_withSpdm {fn : Nat} {f : State → State} : Answers (withSpdm fn s f) :=
  answers_ite (answers_next s) (answers_ite (answers_next _) (answers_next s))

theorem answers_served {act : State → State} : Answers (served s act) := by
  fun_cases served <;> exact answers_next _

theorem answers_writeDirect {index sub : Nat} {v : List Byte} : Answers (writeDirect s index sub v) := answers_served

theorem answers_beginBox {fn : Nat} {f : State → State} : Answers (beginBox fn s f) := by
  fun_cases beginBox <;> exact answers_next _

theorem answers_withPldm {f : State → State} : Answers (withPldm s f) := answers_ite (answers_next _) (answers_next s)

theorem answers_withTap {f : State → State} : Answers (withTap s f) := answers_ite (answers_next s) (answers_next _)

theorem answers_boundaryOp {ir : Nat} {drive : Bool} : Answers (boundaryOp s ir drive) := answers_withTap

/-! ### Commands that wrap more than one outcome -/

theorem answers_execWload {slot : Nat} : Answers (execWload slot s) := by
  fun_cases execWload
  case case1 | case3 => exact answers_next s
  case case2 => exact answers_whenFree (answers_next _)

theorem answers_execMm {slot stalled : Nat} : Answers (execMm slot stalled s) := answers_runSweep

theorem answers_execSegModeChange {st value : Nat} {high : Bool} : Answers (execSegModeChange st high value s) :=
  answers_ite (answers_next s) answers_served

theorem answers_execApertureWrite {tenant n value : Nat} : Answers (execApertureWrite tenant n value s) :=
  answers_ite (answers_next s) answers_served

theorem answers_execMoveCopy {m : Nat} {remote : List Byte} {poisoned : List Nat} : Answers (execMoveCopy m remote poisoned s) :=
  answers_withMover fun _ => by
    split
    · exact answers_whenFree (answers_next _)
    · exact answers_next s

theorem answers_execMoveAdd {m : Nat} {remote : List Byte} {poisoned : List Nat} : Answers (execMoveAdd m remote poisoned s) :=
  answers_withMover fun _ => by
    split
    · exact answers_whenFree (answers_next _)
    · exact answers_next s

theorem answers_execMoveDiscard {m : Nat} : Answers (execMoveDiscard m s) :=
  answers_withMover fun _ => by
    split
    · exact answers_ite (answers_next s) (answers_whenFree (answers_next _))
    · exact answers_next s

theorem answers_execMoverDescStart {m : Nat} : Answers (execMoverDescStart m s) :=
  answers_withMover fun _ => by
    split
    · refine answers_ite (answers_next s) (answers_ite (answers_next _) ?_)
      split
      · exact answers_ite (answers_next _) (answers_next _)
      · exact answers_next _
    · exact answers_next s

theorem answers_execMoverDescComplete {m : Nat} : Answers (execMoverDescComplete m s) :=
  answers_withMover fun _ => by
    split
    · exact answers_ite (answers_whenFree (answers_next _)) (answers_next s)
    · exact answers_next s

theorem answers_execMoverHostError {m done : Nat} {remote : List Byte} {poisoned : List Nat} :
    Answers (execMoverHostError m done remote poisoned s) :=
  answers_withMover fun _ => by
    split
    · exact answers_ite (answers_next _) (answers_next s)
    · exact answers_next s

theorem answers_execDiscardApplied {m : Nat} : Answers (execDiscardApplied m s) :=
  answers_withMover fun _ => by
    split
    · exact answers_ite (answers_next _) (answers_next s)
    · exact answers_next s

theorem answers_execQentryStep {eng : Nat} : Answers (execQentryStep eng s) :=
  answers_withSeq fun _ => by
    split
    · exact answers_ite (answers_ite (answers_next _) (answers_next _)) (answers_next s)
    · exact answers_next s

theorem answers_execQentryCall {eng : Nat} : Answers (execQentryCall eng s) :=
  answers_withSeq fun _ => by
    split
    · exact answers_ite (answers_ite (answers_next _) (answers_next _)) (answers_next s)
    · exact answers_next s

theorem answers_execQentryFlip {eng : Nat} : Answers (execQentryFlip eng s) :=
  answers_withSeq fun _ => by
    split
    · exact answers_ite (answers_ite (answers_next _) (answers_next _)) (answers_next s)
    · exact answers_next s

theorem answers_execStepWordIssue {eng : Nat} : Answers (execStepWordIssue eng s) :=
  answers_withSeq fun _ => by
    refine answers_ite (answers_next s) ?_
    split
    · exact answers_whenFree (answers_ite (answers_next _) (answers_ite (answers_next _) (answers_next s)))
    · refine answers_ite (answers_next s) ?_
      split
      · exact answers_next _
      · exact answers_ite (answers_next s) (answers_whenFree (answers_next _))

theorem answers_execSyncWaitEnd {eng : Nat} : Answers (execSyncWaitEnd eng s) :=
  answers_withSeq fun _ => by
    split
    · exact answers_ite (answers_whenFree (answers_next _)) (answers_next s)
    · exact answers_next s

theorem answers_execSyncMemPoll {eng : Nat} : Answers (execSyncMemPoll eng s) :=
  answers_withSeq fun _ => by
    split
    · exact answers_ite (answers_whenFree (answers_next _)) (answers_next s)
    · exact answers_next s

theorem answers_execMovePost {eng : Nat} : Answers (execMovePost eng s) :=
  answers_withSeq fun _ => by
    split
    · dsimp only
      split
      · exact answers_ite (answers_ite (answers_whenFree (answers_next _)) (answers_next s)) (answers_next s)
      · exact answers_next s
    · exact answers_next s

theorem answers_execNest {eng : Nat} : Answers (execNest eng s) :=
  answers_withSeq fun _ => by
    refine answers_ite ?_ (answers_next s)
    split
    · exact answers_next _
    · exact answers_ite (answers_next s) (answers_ite (answers_next _) (answers_ite (answers_next _) (answers_next _)))

theorem answers_execEntryComplete {eng : Nat} : Answers (execEntryComplete eng s) :=
  answers_withSeq fun _ => by
    split
    · exact answers_whenFree (answers_next _)
    · exact answers_next s

theorem answers_execEngineDrainEnd {eng : Nat} : Answers (execEngineDrainEnd eng s) :=
  answers_withEngine fun _ => by
    split
    · exact answers_ite (answers_next _) (answers_next s)
    · exact answers_next s

theorem answers_execEngineWatchdog {eng : Nat} : Answers (execEngineWatchdog eng s) :=
  answers_withSeq fun _ => by
    split
    · exact answers_ite (answers_next _) (answers_next s)
    · exact answers_next s

theorem answers_execBar2Access {fn offset len : Nat} {data : Option (List Byte)} {ep : Bool} :
    Answers (execBar2Access fn offset len data ep s) := by
  refine answers_ite (answers_next s) ?_
  split
  · exact answers_whenFree (answers_next _)
  · exact answers_whenFree (answers_next _)
  · exact answers_next _
  · exact answers_next _

theorem answers_execPmbusPoll {rails : List (Nat × Nat × Nat × Nat)} : Answers (execPmbusPoll rails s) :=
  answers_ite (answers_next s) (answers_ite (answers_next _) (answers_next _))

theorem answers_execRetentionProbe {st : Nat} : Answers (execRetentionProbe st s) := by
  refine answers_ite (answers_next s) (answers_ite (answers_next s) ?_)
  rcases probeFrame s st with _ | f
  · exact answers_next _
  · exact answers_ite (answers_next _) (answers_next _)

theorem answers_execRecoveryStatusRequest : Answers (execRecoveryStatusRequest s) :=
  answers_ite (answers_next s) (answers_ite (answers_next s) (answers_next _))

/-- Every command by the branches of its meaning: each ends in a next state. -/
theorem answers_exec (c : Instr) : Answers (exec c s) := by
  cases c with
  -- Commands that answer one state, whatever they meet.
  | loadcol | loadrow | fillcol | fillrow | setout | gridOpStart | stackAccess | addBurstRequest | assign | quiesce | tenantResume | tenantReset |
    unassign | scheduleActivate | ptpTimeWrite | ptpDelayReq | collPost | heartSend | withdraw | rejoin | hello | prove | nirnarRead | nirnarWrite |
    subscribe | unsubscribe | notifyAck | nirnarAbort | close | keepalive | presence | presenceSend | arpRequest | neighbourSolicitation | icmpEcho |
    perstNRelease | grandmasterAnnounce => exact answers_next _
  -- Commands of one shared operation.
  | rowcopy | rowinit | rowlogic | gemv4 | score | axpy | ewise | normstat | normapply | rope | quant | cutapply | merge =>
    exact answers_ladleOperation
  | rdraw | rddec => exact answers_rawTestRead
  | seta | adda | setc | maddc | jump | loop | jcz | call | ret | bankflip | ctrlHalt | ctrlStop => exact answers_withCtrl
  | commit | select | startService | startNest | engHalt | engResume | engStop | clearq => exact answers_withEngine fun _ => answers_next _
  | submit | cancel | pause | reqResume | release | setprio | setdeadline | setspec | query | pin | unpin | cutterWrite | cutterClear =>
    exact answers_withServe
  | rdata | ack | nack => exact answers_withPacket
  | fabricWrite | fabricRead | fabricAdd => exact answers_withRequest
  | allreduce | allgather | reducescatter | broadcast => exact answers_startColl
  | mirrorAdmit | mirrorCommand | mirrorAppend | mirrorCommit | mirrorCutter | mirrorDict | mirrorPrefix |
    mirrorTime | mirrorCatchup | mirrorHandover =>
    exact answers_withMirror
  | wrdata => rw [exec_wrdata]; exact answers_rawTestWrite
  | wrchk => rw [exec_wrchk]; exact answers_rawTestWrite
  | wrboth => rw [exec_wrboth]; exact answers_rawTestWrite
  | aluAdd => rw [exec_aluAdd]; exact answers_aluOp
  | aluSub => rw [exec_aluSub]; exact answers_aluOp
  | aluAnd => rw [exec_aluAnd]; exact answers_aluOp
  | aluOr => rw [exec_aluOr]; exact answers_aluOp
  | aluXor => rw [exec_aluXor]; exact answers_aluOp
  | shl => rw [exec_shl]; exact answers_aluOp
  | shr => rw [exec_shr]; exact answers_aluOp
  | sar => rw [exec_sar]; exact answers_aluOp
  | mul => rw [exec_mul]; exact answers_aluOp
  | mulhu => rw [exec_mulhu]; exact answers_aluOp
  | minu => rw [exec_minu]; exact answers_aluOp
  | maxu => rw [exec_maxu]; exact answers_aluOp
  | mins => rw [exec_mins]; exact answers_aluOp
  | maxs => rw [exec_maxs]; exact answers_aluOp
  | sltu => rw [exec_sltu]; exact answers_aluOp
  | slt => rw [exec_slt]; exact answers_aluOp
  | ford => rw [exec_ford]; exact answers_aluOp
  | popc => rw [exec_popc]; exact answers_aluOp
  | clz => rw [exec_clz]; exact answers_aluOp
  | hash => rw [exec_hash]; exact answers_aluOp
  | addi => rw [exec_addi]; exact answers_immOp
  | andi => rw [exec_andi]; exact answers_immOp
  | ori => rw [exec_ori]; exact answers_immOp
  | xori => rw [exec_xori]; exact answers_immOp
  | shli => rw [exec_shli]; exact answers_immOp
  | shri => rw [exec_shri]; exact answers_immOp
  | sari => rw [exec_sari]; exact answers_immOp
  | movk => rw [exec_movk]; exact answers_walkerOp
  | ld => rw [exec_ld]; exact answers_walkerOp
  | st => rw [exec_st]; exact answers_walkerOp
  | ldb => rw [exec_ldb]; exact answers_walkerOp
  | stb => rw [exec_stb]; exact answers_walkerOp
  | ldch => rw [exec_ldch]; exact answers_walkerOp
  | wadd => rw [exec_wadd]; exact answers_walkerOp
  | post => rw [exec_post]; exact answers_walkerOp
  | jal => rw [exec_jal]; exact answers_walkerOp
  | jalr => rw [exec_jalr]; exact answers_walkerOp
  | mfs => rw [exec_mfs]; exact answers_walkerOp
  | texit => rw [exec_texit]; exact answers_walkerOp
  | ldacq => rw [exec_ldacq]; exact answers_walkerOp
  | strel => rw [exec_strel]; exact answers_walkerOp
  | fence => rw [exec_fence]; exact answers_walkerOp
  | beq => rw [exec_beq]; exact answers_branchOp
  | bne => rw [exec_bne]; exact answers_branchOp
  | blt => rw [exec_blt]; exact answers_branchOp
  | bge => rw [exec_bge]; exact answers_branchOp
  | bltu => rw [exec_bltu]; exact answers_branchOp
  | bgeu => rw [exec_bgeu]; exact answers_branchOp
  | amo64 => rw [exec_amo64]; exact answers_amoOp
  | amo32 => rw [exec_amo32]; exact answers_amoOp
  | tandemEnableWrite => rw [exec_tandemEnableWrite]; exact answers_writeDirect
  | dictWrite => rw [exec_dictWrite]; exact answers_writeDirect
  | slotSigningKeyWrite => rw [exec_slotSigningKeyWrite]; exact answers_writeDirect
  | dictCmdRead => rw [exec_dictCmdRead]; exact answers_beginBox
  | dictCmdWrite => rw [exec_dictCmdWrite]; exact answers_beginBox
  | faultSummaryWrite => rw [exec_faultSummaryWrite]; exact answers_served
  | ringClear => rw [exec_ringClear]; exact answers_served
  | rebaseLinks => rw [exec_rebaseLinks]; exact answers_served
  | stageManifest => rw [exec_stageManifest]; exact answers_served
  | chunk => rw [exec_chunk]; exact answers_served
  | activate => rw [exec_activate]; exact answers_served
  | updateCancel => rw [exec_updateCancel]; exact answers_served
  | confirm => rw [exec_confirm]; exact answers_served
  | getVersion => rw [exec_getVersion]; exact answers_withSpdm
  | getCapabilities => rw [exec_getCapabilities]; exact answers_withSpdm
  | negotiateAlgorithms => rw [exec_negotiateAlgorithms]; exact answers_withSpdm
  | getDigests => rw [exec_getDigests]; exact answers_withSpdm
  | getCertificate => rw [exec_getCertificate]; exact answers_withSpdm
  | spdmChallenge => rw [exec_spdmChallenge]; exact answers_withSpdm
  | getMeasurements => rw [exec_getMeasurements]; exact answers_withSpdm
  | keyExchange => rw [exec_keyExchange]; exact answers_withSpdm
  | finish => rw [exec_finish]; exact answers_withSpdm
  | keyUpdate => rw [exec_keyUpdate]; exact answers_withSpdm
  | spdmHeartbeat => rw [exec_spdmHeartbeat]; exact answers_withSpdm
  | endSession => rw [exec_endSession]; exact answers_withSpdm
  | vendorDefined => rw [exec_vendorDefined]; exact answers_withSpdm
  | pldmBaseDiscovery => rw [exec_pldmBaseDiscovery]; exact answers_withPldm
  | pldmSensorRead => rw [exec_pldmSensorRead]; exact answers_withPldm
  | pldmFruRead => rw [exec_pldmFruRead]; exact answers_withPldm
  | bypass => rw [exec_bypass]; exact answers_withTap
  | idcode => rw [exec_idcode]; exact answers_withTap
  | samplePreload => rw [exec_samplePreload]; exact answers_withTap
  | extest => rw [exec_extest]; exact answers_boundaryOp
  | clamp => rw [exec_clamp]; exact answers_boundaryOp
  | highz => rw [exec_highz]; exact answers_boundaryOp
  | extestPulse => rw [exec_extestPulse]; exact answers_boundaryOp
  | extestTrain => rw [exec_extestTrain]; exact answers_boundaryOp
  -- Commands that wrap more than one outcome.
  | mm => rw [exec_mm]; exact answers_execMm
  | wload => rw [exec_wload]; exact answers_execWload
  | segModeChange => rw [exec_segModeChange]; exact answers_execSegModeChange
  | moveCopy => rw [exec_moveCopy]; exact answers_execMoveCopy
  | moveAdd => rw [exec_moveAdd]; exact answers_execMoveAdd
  | moveDiscard => rw [exec_moveDiscard]; exact answers_execMoveDiscard
  | moverDescStart => rw [exec_moverDescStart]; exact answers_execMoverDescStart
  | moverDescComplete => rw [exec_moverDescComplete]; exact answers_execMoverDescComplete
  | moverHostError => rw [exec_moverHostError]; exact answers_execMoverHostError
  | discardApplied => rw [exec_discardApplied]; exact answers_execDiscardApplied
  | qentryStep => rw [exec_qentryStep]; exact answers_execQentryStep
  | qentryCall => rw [exec_qentryCall]; exact answers_execQentryCall
  | qentryFlip => rw [exec_qentryFlip]; exact answers_execQentryFlip
  | stepWordIssue => rw [exec_stepWordIssue]; exact answers_execStepWordIssue
  | syncWaitEnd => rw [exec_syncWaitEnd]; exact answers_execSyncWaitEnd
  | syncMemPoll => rw [exec_syncMemPoll]; exact answers_execSyncMemPoll
  | movePost => rw [exec_movePost]; exact answers_execMovePost
  | nest => rw [exec_nest]; exact answers_execNest
  | entryComplete => rw [exec_entryComplete]; exact answers_execEntryComplete
  | engineDrainEnd => rw [exec_engineDrainEnd]; exact answers_execEngineDrainEnd
  | engineWatchdog => rw [exec_engineWatchdog]; exact answers_execEngineWatchdog
  | apertureWrite => rw [exec_apertureWrite]; exact answers_execApertureWrite
  | bar2Access => rw [exec_bar2Access]; exact answers_execBar2Access
  | pmbusPoll => rw [exec_pmbusPoll]; exact answers_execPmbusPoll
  | retentionProbe => rw [exec_retentionProbe]; exact answers_execRetentionProbe
  | recoveryStatusRequest => rw [exec_recoveryStatusRequest]; exact answers_execRecoveryStatusRequest
  -- Commands with branches of their own.
  | scaleSlotComplete => rw [exec_scaleSlotComplete]; fun_cases execScaleSlotComplete <;> exact answers_next _
  | wloadComplete => rw [exec_wloadComplete]; fun_cases execWloadComplete <;> exact answers_next _
  | mmComplete => rw [exec_mmComplete]; fun_cases execMmComplete <;> exact answers_next _
  | rerunComplete => rw [exec_rerunComplete]; fun_cases execRerunComplete <;> exact answers_next _
  | refresh => rw [exec_refresh]; fun_cases execRefresh <;> exact answers_next _
  | segModeChangeDone => rw [exec_segModeChangeDone]; fun_cases execSegModeChangeDone <;> exact answers_next _
  | stkRprDataWrite => rw [exec_stkRprDataWrite]; fun_cases execStkRprDataWrite <;> exact answers_next _
  | rowBoundary => rw [exec_rowBoundary]; fun_cases execRowBoundary <;> exact answers_next _
  | vectorSliceArrive => rw [exec_vectorSliceArrive]; fun_cases execVectorSliceArrive <;> exact answers_next _
  | ladleResume => rw [exec_ladleResume]; fun_cases execLadleResume <;> exact answers_next _
  | ladleSlotComplete => rw [exec_ladleSlotComplete]; fun_cases execLadleSlotComplete <;> exact answers_next _
  | frameRetireComplete => rw [exec_frameRetireComplete]; fun_cases execFrameRetireComplete <;> exact answers_next _
  | retirePendingDonor => rw [exec_retirePendingDonor]; fun_cases execRetirePendingDonor <;> exact answers_next _
  | fieldRepairWrite => rw [exec_fieldRepairWrite]; fun_cases execFieldRepairWrite <;> exact answers_next _
  | whiskRow => rw [exec_whiskRow]; fun_cases execWhiskRow <;> exact answers_next _
  | whiskSlow => rw [exec_whiskSlow]; fun_cases execWhiskSlow <;> exact answers_next _
  | frameEnterTest => rw [exec_frameEnterTest]; fun_cases execFrameEnterTest <;> exact answers_next _
  | frameTestEntered => rw [exec_frameTestEntered]; fun_cases execFrameTestEntered <;> exact answers_next _
  | frameLeaveTest => rw [exec_frameLeaveTest]; fun_cases execFrameLeaveTest <;> exact answers_next _
  | seqQueuePost => rw [exec_seqQueuePost]; fun_cases execSeqQueuePost <;> exact answers_next _
  | moverQueuePost => rw [exec_moverQueuePost]; fun_cases execMoverQueuePost <;> exact answers_next _
  | walkerDataReturn => rw [exec_walkerDataReturn]; fun_cases execWalkerDataReturn <;> exact answers_next _
  | walkerStoreAck => rw [exec_walkerStoreAck]; fun_cases execWalkerStoreAck <;> exact answers_next _
  | taskStart => rw [exec_taskStart]; fun_cases execTaskStart <;> exact answers_next _
  | walkerFlip => rw [exec_walkerFlip]; fun_cases execWalkerFlip <;> exact answers_next _
  | taskWatchdog => rw [exec_taskWatchdog]; fun_cases execTaskWatchdog <;> exact answers_next _
  | walkerCoreRestart => rw [exec_walkerCoreRestart]; fun_cases execWalkerCoreRestart <;> exact answers_next _
  | kvPagePrepare => rw [exec_kvPagePrepare]; fun_cases execKvPagePrepare <;> exact answers_next _
  | kvPrepareDone => rw [exec_kvPrepareDone]; fun_cases execKvPrepareDone <;> exact answers_next _
  | submitMatchDone => rw [exec_submitMatchDone]; fun_cases execSubmitMatchDone <;> exact answers_next _
  | stepStart => rw [exec_stepStart]; fun_cases execStepStart <;> exact answers_next _
  | draftPhaseDone => rw [exec_draftPhaseDone]; fun_cases execDraftPhaseDone <;> exact answers_next _
  | stepCommit => rw [exec_stepCommit]; fun_cases execStepCommit <;> exact answers_next _
  | stepDiscard => rw [exec_stepDiscard]; fun_cases execStepDiscard <;> exact answers_next _
  | tenantResetDone => rw [exec_tenantResetDone]; fun_cases execTenantResetDone <;> exact answers_next _
  | slotLoad => rw [exec_slotLoad]; fun_cases execSlotLoad <;> exact answers_next _
  | slotLoadDone => rw [exec_slotLoadDone]; fun_cases execSlotLoadDone <;> exact answers_next _
  | slotUnload => rw [exec_slotUnload]; fun_cases execSlotUnload <;> exact answers_next _
  | restoreFrameDone => rw [exec_restoreFrameDone]; fun_cases execRestoreFrameDone <;> exact answers_next _
  | restoreTimeout => rw [exec_restoreTimeout]; fun_cases execRestoreTimeout <;> exact answers_next _
  | contextSwitch => rw [exec_contextSwitch]; fun_cases execContextSwitch <;> exact answers_next _
  | contextSwitchDone => rw [exec_contextSwitchDone]; fun_cases execContextSwitchDone <;> exact answers_next _
  | cadenceBoundary => rw [exec_cadenceBoundary]; fun_cases execCadenceBoundary <;> exact answers_next _
  | cadenceInEdge => rw [exec_cadenceInEdge]; fun_cases execCadenceInEdge <;> exact answers_next _
  | cadenceEdgeMissed => rw [exec_cadenceEdgeMissed]; fun_cases execCadenceEdgeMissed <;> exact answers_next _
  | fabricCadenceTimeout => rw [exec_fabricCadenceTimeout]; fun_cases execFabricCadenceTimeout <;> exact answers_next _
  | scheduleStep => rw [exec_scheduleStep]; fun_cases execScheduleStep <;> exact answers_next _
  | reservationLapse => rw [exec_reservationLapse]; fun_cases execReservationLapse <;> exact answers_next _
  | scheduleContext => rw [exec_scheduleContext]; fun_cases execScheduleContext <;> exact answers_next _
  | freqCorrection => rw [exec_freqCorrection]; fun_cases execFreqCorrection <;> exact answers_next _
  | ppsInPulse => rw [exec_ppsInPulse]; fun_cases execPpsInPulse <;> exact answers_next _
  | ppsMissing => rw [exec_ppsMissing]; fun_cases execPpsMissing <;> exact answers_next _
  | ptpSyncSend => rw [exec_ptpSyncSend]; fun_cases execPtpSyncSend <;> exact answers_next _
  | ppsOutSecond => rw [exec_ppsOutSecond]; fun_cases execPpsOutSecond <;> exact answers_next _
  | flitReceive => rw [exec_flitReceive]; fun_cases execFlitReceive <;> exact answers_next _
  | nakReceive => rw [exec_nakReceive]; fun_cases execNakReceive <;> exact answers_next _
  | portRetrain => rw [exec_portRetrain]; fun_cases execPortRetrain <;> exact answers_next _
  | portTrained => rw [exec_portTrained]; fun_cases execPortTrained <;> exact answers_next _
  | portDownExpire => rw [exec_portDownExpire]; fun_cases execPortDownExpire <;> exact answers_next _
  | linkstate => rw [exec_linkstate]; fun_cases execLinkstate <;> exact answers_next _
  | fabricRequestTimeout => rw [exec_fabricRequestTimeout]; fun_cases execFabricRequestTimeout <;> exact answers_next _
  | quarantineRelease => rw [exec_quarantineRelease]; fun_cases execQuarantineRelease <;> exact answers_next _
  | collMessage => rw [exec_collMessage]; fun_cases execCollMessage <;> exact answers_next _
  | collComplete => rw [exec_collComplete]; fun_cases execCollComplete <;> exact answers_next _
  | collTimeout => rw [exec_collTimeout]; fun_cases execCollTimeout <;> exact answers_next _
  | heart => rw [exec_heart]; fun_cases execHeart <;> exact answers_next _
  | heartbeatTimeout => rw [exec_heartbeatTimeout]; fun_cases execHeartbeatTimeout <;> exact answers_next _
  | tandemLost => rw [exec_tandemLost]; fun_cases execTandemLost <;> exact answers_next _
  | tandemFenced => rw [exec_tandemFenced]; fun_cases execTandemFenced <;> exact answers_next _
  | mirrorAck => rw [exec_mirrorAck]; fun_cases execMirrorAck <;> exact answers_next _
  | pairKeyAgree => rw [exec_pairKeyAgree]; fun_cases execPairKeyAgree <;> exact answers_next _
  | doorbell => rw [exec_doorbell]; fun_cases execDoorbell <;> exact answers_next _
  | ringEnable => rw [exec_ringEnable]; fun_cases execRingEnable <;> exact answers_next _
  | ringDisable => rw [exec_ringDisable]; fun_cases execRingDisable <;> exact answers_next _
  | ringDisableDone => rw [exec_ringDisableDone]; fun_cases execRingDisableDone <;> exact answers_next _
  | ringEntryTake => rw [exec_ringEntryTake]; fun_cases execRingEntryTake <;> exact answers_next _
  | ringAccessFail => rw [exec_ringAccessFail]; fun_cases execRingAccessFail <;> exact answers_next _
  | ipendClear => rw [exec_ipendClear]; fun_cases execIpendClear <;> exact answers_next _
  | itargetWrite => rw [exec_itargetWrite]; fun_cases execItargetWrite <;> exact answers_next _
  | winWrite => rw [exec_winWrite]; fun_cases execWinWrite <;> exact answers_next _
  | bar0BadAccess => rw [exec_bar0BadAccess]; fun_cases execBar0BadAccess <;> exact answers_next _
  | msixUnmask => rw [exec_msixUnmask]; fun_cases execMsixUnmask <;> exact answers_next _
  | flr => rw [exec_flr]; fun_cases execFlr <;> exact answers_next _
  | hostLinkDown => rw [exec_hostLinkDown]; fun_cases execHostLinkDown <;> exact answers_next _
  | perstNAssert => rw [exec_perstNAssert]; fun_cases execPerstNAssert <;> exact answers_next _
  | l0pWidthChange => rw [exec_l0pWidthChange]; fun_cases execL0pWidthChange <;> exact answers_next _
  | gpiEdge => rw [exec_gpiEdge]; fun_cases execGpiEdge <;> exact answers_next _
  | inputGlitch => rw [exec_inputGlitch]; fun_cases execInputGlitch <;> exact answers_next _
  | handshakeExpire => rw [exec_handshakeExpire]; fun_cases execHandshakeExpire <;> exact answers_next _
  | notify => rw [exec_notify]; fun_cases execNotify <;> exact answers_next _
  | notifyResend => rw [exec_notifyResend]; fun_cases execNotifyResend <;> exact answers_next _
  | sessionIdle => rw [exec_sessionIdle]; fun_cases execSessionIdle <;> exact answers_next _
  | snapshotExpire => rw [exec_snapshotExpire]; fun_cases execSnapshotExpire <;> exact answers_next _
  | stagingExpire => rw [exec_stagingExpire]; fun_cases execStagingExpire <;> exact answers_next _
  | prpSupervisionSend => rw [exec_prpSupervisionSend]; fun_cases execPrpSupervisionSend <;> exact answers_next _
  | journalWriteDone => rw [exec_journalWriteDone]; fun_cases execJournalWriteDone <;> exact answers_next _
  | regWrite => rw [exec_regWrite]; fun_cases execRegWrite <;> exact answers_next _
  | arbiterEpoch => rw [exec_arbiterEpoch]; fun_cases execArbiterEpoch <;> exact answers_next _
  | sensorScan => rw [exec_sensorScan]; fun_cases execSensorScan <;> exact answers_next _
  | dieCapUpdate => rw [exec_dieCapUpdate]; fun_cases execDieCapUpdate <;> exact answers_next _
  | vrefCorrection => rw [exec_vrefCorrection]; fun_cases execVrefCorrection <;> exact answers_next _
  | thermalHoldEnd => rw [exec_thermalHoldEnd]; fun_cases execThermalHoldEnd <;> exact answers_next _
  | pwrgdRise => rw [exec_pwrgdRise]; fun_cases execPwrgdRise <;> exact answers_next _
  | pwrgdFall => rw [exec_pwrgdFall]; fun_cases execPwrgdFall <;> exact answers_next _
  | resetToRom => rw [exec_resetToRom]; fun_cases execResetToRom <;> exact answers_next _
  | romBootDone => rw [exec_romBootDone]; fun_cases execRomBootDone <;> exact answers_next _
  | configDone => rw [exec_configDone]; fun_cases execConfigDone <;> exact answers_next _
  | sysrefLoss => rw [exec_sysrefLoss]; fun_cases execSysrefLoss <;> exact answers_next _
  | deviceResetCmd => rw [exec_deviceResetCmd]; fun_cases execDeviceResetCmd <;> exact answers_next _
  | deviceEnterTest => rw [exec_deviceEnterTest]; fun_cases execDeviceEnterTest <;> exact answers_next _
  | leaveTest => rw [exec_leaveTest]; fun_cases execLeaveTest <;> exact answers_next _
  | deviceStartService => rw [exec_deviceStartService]; fun_cases execDeviceStartService <;> exact answers_next _
  | stopService => rw [exec_stopService]; fun_cases execStopService <;> exact answers_next _
  | selftestUnitStart => rw [exec_selftestUnitStart]; fun_cases execSelftestUnitStart <;> exact answers_next _
  | selftestUnitDone => rw [exec_selftestUnitDone]; fun_cases execSelftestUnitDone <;> exact answers_next _
  | selftestRetry => rw [exec_selftestRetry]; fun_cases execSelftestRetry <;> exact answers_next _
  | runRequest => rw [exec_runRequest]; fun_cases execRunRequest <;> exact answers_next _
  | runDone => rw [exec_runDone]; fun_cases execRunDone <;> exact answers_next _
  | coreHeartbeatCheck => rw [exec_coreHeartbeatCheck]; fun_cases execCoreHeartbeatCheck <;> exact answers_next _
  | serviceCoreRestartDone => rw [exec_serviceCoreRestartDone]; fun_cases execServiceCoreRestartDone <;> exact answers_next _
  | serviceCoresDead => rw [exec_serviceCoresDead]; fun_cases execServiceCoresDead <;> exact answers_next _
  | deviceRecovery => rw [exec_deviceRecovery]; fun_cases execDeviceRecovery <;> exact answers_next _
  | recoveryDone => rw [exec_recoveryDone]; fun_cases execRecoveryDone <;> exact answers_next _
  | recoveryTimeout => rw [exec_recoveryTimeout]; fun_cases execRecoveryTimeout <;> exact answers_next _
  | fatalReset => rw [exec_fatalReset]; fun_cases execFatalReset <;> exact answers_next _
  | recoveryWindowClose => rw [exec_recoveryWindowClose]; fun_cases execRecoveryWindowClose <;> exact answers_next _
  | healthHourly => rw [exec_healthHourly]; fun_cases execHealthHourly <;> exact answers_next _
  | eyeScan => rw [exec_eyeScan]; fun_cases execEyeScan <;> exact answers_next _
  | retentionHoldEnd => rw [exec_retentionHoldEnd]; fun_cases execRetentionHoldEnd <;> exact answers_next _
  | dailyPoint => rw [exec_dailyPoint]; fun_cases execDailyPoint <;> exact answers_next _
  | quoteNonceWrite => rw [exec_quoteNonceWrite]; fun_cases execQuoteNonceWrite <;> exact answers_next _
  | quoteRead => rw [exec_quoteRead]; fun_cases execQuoteRead <;> exact answers_next _
  | updateVerifyDone => rw [exec_updateVerifyDone]; fun_cases execUpdateVerifyDone <;> exact answers_next _
  | activationDone => rw [exec_activationDone]; fun_cases execActivationDone <;> exact answers_next _
  | activationFailed => rw [exec_activationFailed]; fun_cases execActivationFailed <;> exact answers_next _
  | recoveryData => rw [exec_recoveryData]; fun_cases execRecoveryData <;> exact answers_next _
  | recoveryDatagram => rw [exec_recoveryDatagram]; fun_cases execRecoveryDatagram <;> exact answers_next _
  | recoveryPackageCheck => rw [exec_recoveryPackageCheck]; fun_cases execRecoveryPackageCheck <;> exact answers_next _
  | entdaa => rw [exec_entdaa]; fun_cases execEntdaa <;> exact answers_next _
  | hostLinkUp => rw [exec_hostLinkUp]; fun_cases execHostLinkUp <;> exact answers_next _
  | pcieConfigWrite => rw [exec_pcieConfigWrite]; fun_cases execPcieConfigWrite <;> exact answers_next _
  | portLossOfSignal => rw [exec_portLossOfSignal]; fun_cases execPortLossOfSignal <;> exact answers_next _
  | mirrorTimeout => rw [exec_mirrorTimeout]; fun_cases execMirrorTimeout <;> exact answers_next _
  | serviceCoreFault => rw [exec_serviceCoreFault]; fun_cases execServiceCoreFault <;> exact answers_next _
  | withdrawWaitExpire => rw [exec_withdrawWaitExpire]; fun_cases execWithdrawWaitExpire <;> exact answers_next _

/-- Settles O3: a step runs a command, which answers, or lets a nanosecond pass. -/
theorem everyCommandAnswers : Obligations.EveryCommandAnswers := by
  refine ⟨fun c s => answers_exec c, fun s => ?_⟩
  unfold step
  split
  · exact answers_next _
  · exact answers_exec _

end Sys2Proof.Laws
end

section
/-! The device memory window: where an offset of BAR2 leads, and what a write of a slice leaves (R549, R550). -/

namespace Sys2Proof.Laws

open Sys2Proof Sys2Proof.Machine

variable (s : State) (fn : Nat)

/-- The window is 64 slices (R549). -/
theorem sixtyFour_mul_sliceBytes (hpf : 6 ≤ s.host.bar2Log) (hvf : 6 ≤ s.host.vfBar2Log) :
    64 * sliceBytes s fn = 2 ^ (if fn = 0 then s.host.bar2Log else s.host.vfBar2Log) := by
  have hlog : 6 ≤ if fn = 0 then s.host.bar2Log else s.host.vfBar2Log := by
    split
    · exact hpf
    · exact hvf
  rw [sliceBytes, show (64 : Nat) = 2 ^ 6 from rfl, ← pow_add, Nat.add_sub_cancel' hlog]

theorem sliceBytes_pos : 0 < sliceBytes s fn := Nat.two_pow_pos _

/-- WIN[i] of the function. -/
def winSlice (i : Nat) : WinSlice := mapGet {} s.host.win (fn * 64 + i)

/-- How far from `off` an access of `n` bytes stays in one slice. -/
def sliceRun (off n : Nat) : Nat := min n (sliceBytes s fn - off % sliceBytes s fn)

/-- An access begins with a part in the slice of its first byte, and goes on behind it. -/
theorem windowParts_succ {off n : Nat} (hn : n ≠ 0) (fuel : Nat) :
    windowParts s fn off n (fuel + 1) =
      if (winSlice s fn (off / sliceBytes s fn)).valid = true ∧ off / sliceBytes s fn < 64 then
        (windowParts s fn (off + sliceRun s fn off n) (n - sliceRun s fn off n) fuel).map (fun r =>
          ((winSlice s fn (off / sliceBytes s fn)).base + off % sliceBytes s fn, sliceRun s fn off n) :: r)
      else none :=
  if_neg hn

theorem windowParts_zero (off fuel : Nat) : windowParts s fn off 0 fuel = some [] := by cases fuel <;> rfl

variable {s fn} {off n : Nat}

/-- A part that does not end the access ends its slice. -/
theorem div_add_sliceRun (hmore : sliceRun s fn off n < n) :
    (off + sliceRun s fn off n) / sliceBytes s fn = off / sliceBytes s fn + 1 := by
  have hpos := sliceBytes_pos s fn
  have hmod := Nat.mod_lt off hpos
  have hrun : sliceRun s fn off n = sliceBytes s fn - off % sliceBytes s fn := by unfold sliceRun at hmore ⊢; omega
  have hend : off + sliceRun s fn off n = sliceBytes s fn * (off / sliceBytes s fn + 1) := by
    have := Nat.div_add_mod off (sliceBytes s fn)
    rw [hrun, Nat.mul_succ]
    omega
  rw [hend, Nat.mul_div_cancel_left _ hpos]

/-- The bytes of one part lie in the slice of its first byte. -/
theorem div_mod_of_lt_sliceRun {j : Nat} (hj : j < sliceRun s fn off n) :
    (off + j) / sliceBytes s fn = off / sliceBytes s fn ∧ (off + j) % sliceBytes s fn = off % sliceBytes s fn + j := by
  have hin : off % sliceBytes s fn + j < sliceBytes s fn := by unfold sliceRun at hj; omega
  have hmod : j % sliceBytes s fn = j := Nat.mod_eq_of_lt (by omega)
  constructor
  · rw [Nat.add_div_eq_of_add_mod_lt (by rwa [hmod]), Nat.div_eq_of_lt (show j < sliceBytes s fn by omega), Nat.add_zero]
  · rw [Nat.add_mod_of_add_mod_lt (by rwa [hmod]), hmod]

/-- An access whose slices are VALID has parts: one step of fuel for each slice of the window left. -/
theorem isSome_windowParts {fuel : Nat} (hfuel : 64 < off / sliceBytes s fn + fuel)
    (hvalid : ∀ j < n, (off + j) / sliceBytes s fn < 64 ∧ (winSlice s fn ((off + j) / sliceBytes s fn)).valid = true) :
    (windowParts s fn off n fuel).isSome = true := by
  induction fuel generalizing off n with
  | zero =>
    have hn : n = 0 := by
      by_contra hn
      have := (hvalid 0 (by omega)).1
      rw [Nat.add_zero] at this
      omega
    subst hn
    rfl
  | succ fuel ih =>
    by_cases hn : n = 0
    · rw [hn, windowParts_zero]; rfl
    · obtain ⟨hlt, hok⟩ := hvalid 0 (by omega)
      rw [windowParts_succ s fn hn, if_pos ⟨hok, hlt⟩, Option.isSome_map]
      have hle : sliceRun s fn off n ≤ n := Nat.min_le_left _ _
      rcases Nat.eq_or_lt_of_le hle with hall | hmore
      · rw [hall, Nat.sub_self, windowParts_zero]; rfl
      · refine ih (by rw [div_add_sliceRun hmore]; omega) fun j hj => ?_
        rw [Nat.add_assoc]
        exact hvalid _ (by omega)

/-- Byte `j` of an access that has parts is at its slice's base and its place in the slice. -/
theorem getElem?_windowParts {fuel : Nat} {ps : List (Nat × Nat)} (hps : windowParts s fn off n fuel = some ps) {j : Nat} (hj : j < n) :
    (ps.flatMap (fun p => (List.range p.2).map (p.1 + ·)))[j]? =
      some ((winSlice s fn ((off + j) / sliceBytes s fn)).base + (off + j) % sliceBytes s fn) := by
  induction fuel generalizing off n ps j with
  | zero => simp [windowParts, show n ≠ 0 by omega] at hps
  | succ fuel ih =>
    rw [windowParts_succ s fn (show n ≠ 0 by omega)] at hps
    split at hps
    · obtain ⟨r, hr, rfl⟩ := Option.map_eq_some_iff.1 hps
      rw [List.flatMap_cons]
      by_cases hfirst : j < sliceRun s fn off n
      · obtain ⟨hdiv, hmod⟩ := div_mod_of_lt_sliceRun hfirst
        rw [List.getElem?_append_left (by simpa using hfirst), hdiv, hmod]
        simp [hfirst, Nat.add_assoc]
      · rw [List.getElem?_append_right (by simpa using hfirst), List.length_map, List.length_range, ih hr (by omega)]
        have hback : off + sliceRun s fn off n + (j - sliceRun s fn off n) = off + j := by omega
        rw [hback]
    · cases hps

/-- WIN[i] after a write: a BASE that is no multiple of Z sets BADBASE only (R549). -/
def winWritten (s : State) (fn i v : Nat) : WinSlice :=
  if v % 2 ^ 52 % sliceBytes s fn ≠ 0 then { winSlice s fn i with badbase := true }
  else { valid := bitOf v 63, badbase := (winSlice s fn i).badbase && !(bitOf v 62), base := v % 2 ^ 52 }

theorem execWinWrite_next {i : Nat} (hfn : fn < 64) (hi : i < 64) (v : Nat) :
    execWinWrite fn i v s = .next { s with host := { s.host with win := mapSet {} s.host.win (fn * 64 + i) (winWritten s fn i v) } } :=
  if_neg (not_or.2 ⟨Nat.not_le.2 hfn, Nat.not_le.2 hi⟩)

/-- Settles O51: the parts by induction over the slices that the access crosses. -/
theorem windowSlices : Obligations.WindowSlices := by
  constructor
  · intro s fn o n _ hpf hvf z win
    exact ⟨sixtyFour_mul_sliceBytes s fn hpf hvf, isSome_windowParts (Nat.le_add_left 65 _), fun ps hps j hj => getElem?_windowParts hps hj⟩
  · intro s fn i v hfn hi w
    exact ⟨_, execWinWrite_next hfn hi v, rfl, fun k hk => mapGet_mapSet_other _ _ _ hk _, (mapGet_mapSet ..).trans (if_pos rfl)⟩

end Sys2Proof.Laws
end

section
/-! Interrupt sources: what one delivers when it becomes pending, and how pending bits are cleared (R563 to R566). -/

namespace Sys2Proof.Laws

open Sys2Proof Sys2Proof.Machine

variable {s : State} {n : Nat}

/-! ### Becoming pending -/

/-- The state in which source `n` is pending and has delivered nothing yet. -/
def markPending (s : State) (n : Nat) : State := { s with irq := { s.irq with pend := mapSet false s.irq.pend n true } }

theorem raiseSource_of_pending (hpending : mapGet false s.irq.pend n = true) : raiseSource s n = s := if_pos hpending

theorem raiseSource_of_not_pending (hidle : mapGet false s.irq.pend n = false) : raiseSource s n = deliverSource (markPending s n) n :=
  if_neg (by simp [hidle])

/-- The KIND of a source's ITARGET (R566). -/
def targetKind (s : State) (n : Nat) : Nat := mapGet 0 s.irq.target n / 2 ^ 30 % 4

theorem sendMsix_unmasked {fn vec : Nat} (hunmasked : mapGet false s.irq.msiUnmasked (fn * 2048 + vec) = true) :
    sendMsix s fn vec = emit s (.msix fn (mapGet 0 s.irq.msiAddr (fn * 2048 + vec)) (mapGet 0 s.irq.msiData (fn * 2048 + vec))) :=
  if_pos hunmasked

theorem sendMsix_masked {fn vec : Nat} (hmasked : mapGet false s.irq.msiUnmasked (fn * 2048 + vec) = false) :
    sendMsix s fn vec = { s with irq := { s.irq with pba := mapSet false s.irq.pba (fn * 2048 + vec) true } } :=
  if_neg (by simp [hmasked])

@[simp] theorem sendMsix_pend (fn vec : Nat) : (sendMsix s fn vec).irq.pend = s.irq.pend := by
  unfold sendMsix; dsimp only; split <;> rfl

/-- Delivering changes no pending bit. -/
@[simp] theorem deliverSource_pend : (deliverSource s n).irq.pend = s.irq.pend := by
  unfold deliverSource; dsimp only
  repeat' split
  all_goals simp

theorem deliverSource_nowhere (hkind : targetKind s n = 0) : deliverSource s n = s := by
  unfold targetKind at hkind
  simp only [deliverSource, hkind]

theorem deliverSource_core (hkind : targetKind s n = 2) :
    deliverSource s n = emit s (.coreMessage (mapGet 0 s.irq.target n % 65536) n) := by
  unfold targetKind at hkind
  simp only [deliverSource, hkind]

theorem deliverSource_vector {fn : Nat} (hkind : targetKind s n = 1) (howner : ownerOfSource s n = some fn)
    (hvector : mapGet 0 s.irq.target n % 65536 < msixSize fn) : deliverSource s n = sendMsix s fn (mapGet 0 s.irq.target n % 65536) := by
  unfold targetKind at hkind
  simp only [deliverSource, hkind, howner, if_pos hvector]

/-! ### Clearing pending bits -/

/-- The pending bits with the sources of a list cleared. -/
def clearPending (ns : List Nat) (m : Map Bool) : Map Bool := ns.foldl (fun m n => mapSet false m n false) m

theorem mapGet_clearPending (ns : List Nat) (m : Map Bool) (k : Nat) :
    mapGet false (clearPending ns m) k = (mapGet false m k && decide (k ∉ ns)) := by
  induction ns generalizing m with
  | nil => simp [clearPending]
  | cons n ns ih =>
    rw [clearPending, List.foldl_cons, ← clearPending, ih, mapGet_mapSet]
    by_cases hk : k = n <;> simp [hk]

/-- The bits set in a mask of 64. -/
def maskBits (mask : Nat) : List Nat := (List.range 64).filter (bitOf mask)

/-- The sources that word `index` of IPEND holds, where the mask has a 1. -/
def ipendSources (index mask : Nat) : List Nat := (maskBits mask).map (fun b => 64 * index + b)

theorem mem_ipendSources {index mask k : Nat} : k ∈ ipendSources index mask ↔ k / 64 = index ∧ bitOf mask (k % 64) = true := by
  simp only [ipendSources, maskBits, List.mem_map, List.mem_filter, List.mem_range]
  constructor
  · rintro ⟨b, ⟨hb, hset⟩, rfl⟩
    rw [show (64 * index + b) / 64 = index by omega, show (64 * index + b) % 64 = b by omega]
    exact ⟨rfl, hset⟩
  · rintro ⟨rfl, hset⟩
    exact ⟨k % 64, ⟨Nat.mod_lt _ (by decide), hset⟩, by omega⟩

/-- Written 1s of IPEND clear their sources (R564). -/
theorem execIpendClear_whole {index : Nat} (hindex : index < 32) (mask : Nat) :
    execIpendClear 0 false index mask s = .next { s with irq := { s.irq with pend := clearPending (ipendSources index mask) s.irq.pend } } := by
  simp only [execIpendClear, Bool.false_eq_true, if_false, List.filterMap_eq_map', clearPending, ipendSources, maskBits]
  exact if_neg (by omega)

/-- Settles O53: what a source that becomes pending delivers, by the KIND of its target, and what written 1s clear. -/
theorem sourcesDeliverOnce : Obligations.SourcesDeliverOnce := by
  refine ⟨fun s n => raiseSource_of_pending, fun s n hidle => ?raise, fun s index mask hindex => ?clear⟩
  case raise =>
    rw [raiseSource_of_not_pending hidle]
    refine ⟨fun k => ?_, fun hkind => ?_, fun hkind => ?_, fun fn hkind howner hvector => ?_⟩
    · rw [deliverSource_pend, markPending, mapGet_mapSet]
      by_cases hk : k = n <;> simp [hk]
    · rw [deliverSource_nowhere (s := markPending s n) hkind]; rfl
    · rw [deliverSource_core (s := markPending s n) hkind]; rfl
    · have hsent : deliverSource (markPending s n) n = sendMsix (markPending s n) fn (mapGet 0 s.irq.target n % 65536) :=
        deliverSource_vector hkind howner hvector
      rw [hsent]
      refine ⟨fun hunmasked => ?_, fun hmasked => ?_⟩
      · rw [sendMsix_unmasked (s := markPending s n) hunmasked]; rfl
      · rw [sendMsix_masked (s := markPending s n) hmasked]
        exact ⟨rfl, by simp⟩
  case clear =>
    refine ⟨_, execIpendClear_whole hindex mask, rfl, fun k => (mapGet_clearPending ..).trans ?_⟩
    rw [Bool.eq_iff_iff]
    simp [mem_ipendSources]

end Sys2Proof.Laws
end

section
/-! Doorbells, rings, the window, interrupts and the link: what their commands leave alone (R549 to R572). -/

namespace Sys2Proof.Laws

open Sys2Proof Sys2Proof.Machine

/-- The state apart from what these commands may change: rings, the host link, tenants, and what a fault or an interrupt may change. -/
def outsideHost (s : State) : State :=
  { s with
    dict := [], subs := [], faults := {}, irq := {}, slots := [], reqs := [], rings := [], host := {}, tenants := [], svc := {}, out := [] }

/-- `s` with all that these commands may change taken from `t`. -/
def withHostOf (t s : State) : State :=
  { s with
    dict := t.dict, subs := t.subs, faults := t.faults, irq := t.irq, slots := t.slots, reqs := t.reqs, rings := t.rings
    host := t.host, tenants := t.tenants, svc := t.svc, out := t.out }

theorem eq_withHostOf {s t : State} (h : outsideHost t = outsideHost s) : t = withHostOf t s :=
  (congrArg (withHostOf t) h :)

/-- What a fault leaves alone, these commands may leave alone. -/
theorem outsideHost_of_outsideFaults {s t : State} (h : outsideFaults t = outsideFaults s) : outsideHost t = outsideHost s :=
  (congrArg outsideHost h :)

variable (s : State)

/-! ### The fields these commands may change -/

theorem outsideHost_host (x : HostLink) : outsideHost { s with host := x } = outsideHost s := rfl
theorem outsideHost_irq (x : Irq) : outsideHost { s with irq := x } = outsideHost s := rfl

@[simp] theorem outsideHost_setRing (k : Nat) (x : Ring) : outsideHost (s.setRing k x) = outsideHost s := rfl
@[simp] theorem outsideHost_setTenant (k : Nat) (x : Tenant) : outsideHost (s.setTenant k x) = outsideHost s := rfl
@[simp] theorem outsideHost_emit (o : Out) : outsideHost (emit s o) = outsideHost s := rfl

@[simp] theorem outsideHost_dset (i j v : Nat) : outsideHost (dset s i j v) = outsideHost s :=
  outsideHost_of_outsideFaults (outsideFaults_noteChange ..)

@[simp] theorem outsideHost_bump (i j n : Nat) : outsideHost (bump s i j n) = outsideHost s := outsideHost_dset ..

@[simp] theorem outsideHost_hostViolation : outsideHost (hostViolation s) = outsideHost s := outsideHost_bump ..

@[simp] theorem outsideHost_sendMsix (fn vec : Nat) : outsideHost (sendMsix s fn vec) = outsideHost s :=
  outsideHost_of_outsideFaults (outsideFaults_sendMsix ..)

@[simp] theorem outsideHost_raiseLocal (t j : Nat) : outsideHost (raiseLocal s t j) = outsideHost s :=
  outsideHost_of_outsideFaults (outsideFaults_raiseLocal ..)

@[simp] theorem outsideHost_cmdState : outsideHost (cmdState s) = outsideHost s :=
  outsideHost_of_outsideFaults (outsideFaults_setSummary ..)

@[simp] theorem outsideHost_recordFault (e : FaultEntry) : outsideHost (recordFault s e) = outsideHost s :=
  outsideHost_of_outsideFaults (outsideFaults_recordFault ..)

/-! ### Doorbells and rings -/

@[simp] theorem outsideHost_dropDoorbell (t r : Nat) : outsideHost (dropDoorbell s t r) = outsideHost s := by
  unfold dropDoorbell; dsimp only; split <;> simp

@[simp] theorem outsideHost_applyDoorbell (t r v : Nat) : outsideHost (applyDoorbell s t r v) = outsideHost s := by
  unfold applyDoorbell; dsimp only
  repeat' split
  all_goals simp

@[simp] theorem outsideHost_disableRing (k : Nat) : outsideHost (disableRing s k) = outsideHost s := rfl

@[simp] theorem outsideHost_failRing (k : Nat) : outsideHost (failRing s k) = outsideHost s := by simp [failRing]

/-! ### The commands -/

/-- An answer whose state, where it is one, differs from `s` only in what these commands may change. -/
def FramesHost (r : Res) : Prop := ∀ t, r = .next t → outsideHost t = outsideHost s

variable {s}

theorem framesHost_next {t : State} (h : outsideHost t = outsideHost s) : FramesHost s (.next t) := by
  rintro _ ⟨⟩
  exact h

theorem framesHost_doorbell (tenant ring value : Nat) : FramesHost s (execDoorbell tenant ring value s) := by
  fun_cases execDoorbell
  case case3 => exact framesHost_next (by split <;> simp)
  all_goals exact framesHost_next (by simp)

theorem framesHost_ringEnable (tenant ring value : Nat) : FramesHost s (execRingEnable tenant ring value s) := by
  fun_cases execRingEnable
  case case4 => exact framesHost_next (by split <;> simp)
  case case5 =>
    refine framesHost_next ?_
    split
    · rw [apply_ite outsideHost, State.updRing, outsideHost_setRing, ite_self]
      exact outsideHost_setRing ..
    · exact outsideHost_setRing ..
  all_goals exact framesHost_next rfl

theorem framesHost_ringDisable (tenant ring : Nat) : FramesHost s (execRingDisable tenant ring s) := by
  fun_cases execRingDisable <;> exact framesHost_next (by simp)

theorem framesHost_ringDisableDone (tenant ring : Nat) : FramesHost s (execRingDisableDone tenant ring s) := by
  fun_cases execRingDisableDone <;> exact framesHost_next (by simp)

theorem framesHost_ringAccessFail (tenant ring : Nat) : FramesHost s (execRingAccessFail tenant ring s) := by
  fun_cases execRingAccessFail
  case case3 => exact framesHost_next (by split <;> simp)
  all_goals exact framesHost_next rfl

theorem framesHost_ipendClear (tenant : Nat) (view : Bool) (index mask : Nat) : FramesHost s (execIpendClear tenant view index mask s) := by
  fun_cases execIpendClear <;> exact framesHost_next rfl

theorem framesHost_itargetWrite (tenant : Nat) (view : Bool) (index value : Nat) :
    FramesHost s (execItargetWrite tenant view index value s) := by
  fun_cases execItargetWrite
  case case4 => exact framesHost_next (outsideHost_irq ..)
  all_goals exact framesHost_next rfl

theorem framesHost_msixUnmask (fn vec : Nat) : FramesHost s (execMsixUnmask fn vec s) := by
  fun_cases execMsixUnmask
  case case2 => exact framesHost_next ((outsideHost_sendMsix ..).trans rfl)
  all_goals exact framesHost_next rfl

theorem framesHost_winWrite (fn index value : Nat) : FramesHost s (execWinWrite fn index value s) := by
  fun_cases execWinWrite <;> exact framesHost_next rfl

theorem framesHost_bar0BadAccess (fn : Nat) (write : Bool) : FramesHost s (execBar0BadAccess fn write s) := by
  fun_cases execBar0BadAccess
  · exact framesHost_next rfl
  · exact framesHost_next (by split <;> simp)

theorem framesHost_l0pWidthChange (width : Nat) (low high : Bool) : FramesHost s (execL0pWidthChange width low high s) := by
  fun_cases execL0pWidthChange <;> exact framesHost_next rfl

theorem framesHost_hostLinkUp (speed width : Nat) : FramesHost s (execHostLinkUp speed width s) := by
  fun_cases execHostLinkUp
  case case3 => exact framesHost_next (by rw [outsideHost_dset, outsideHost_dset, outsideHost_host])
  all_goals exact framesHost_next rfl

theorem framesHost_gpiEdge (pin : Nat) (rise : Bool) : FramesHost s (execGpiEdge pin rise s) := by
  fun_cases execGpiEdge
  · exact framesHost_next rfl
  · refine framesHost_next ?_
    rw [apply_ite outsideHost, outsideHost_raiseLocal, ite_self]
    exact outsideHost_dset ..

theorem framesHost_inputGlitch (input : Nat) : FramesHost s (execInputGlitch input s) := by
  fun_cases execInputGlitch <;> exact framesHost_next rfl

/-- Settles O58: each command by what its meaning leaves alone. -/
theorem hostCommandsFrame : Obligations.HostCommandsFrame := by
  intro c s t hc ht
  refine eq_withHostOf ?_
  cases c <;> cases hc
  case doorbell => exact framesHost_doorbell _ _ _ t ht
  case ringEnable => exact framesHost_ringEnable _ _ _ t ht
  case ringDisable => exact framesHost_ringDisable _ _ t ht
  case ringDisableDone => exact framesHost_ringDisableDone _ _ t ht
  case ringAccessFail => exact framesHost_ringAccessFail _ _ t ht
  case ipendClear => exact framesHost_ipendClear _ _ _ _ t ht
  case itargetWrite => exact framesHost_itargetWrite _ _ _ _ t ht
  case winWrite => exact framesHost_winWrite _ _ _ t ht
  case bar0BadAccess => exact framesHost_bar0BadAccess _ _ t ht
  case msixUnmask => exact framesHost_msixUnmask _ _ t ht
  case l0pWidthChange => exact framesHost_l0pWidthChange _ _ _ t ht
  case gpiEdge => exact framesHost_gpiEdge _ _ t ht
  case inputGlitch => exact framesHost_inputGlitch _ t ht
  case hostLinkUp => exact framesHost_hostLinkUp _ _ t ht
  case perstNRelease => exact framesHost_next (outsideHost_host ..) t ht

end Sys2Proof.Laws
end

section
/-! Rings and doorbells: what each command answers for the tenant, the ring or the turn that it meets (R551 to R562, R465, R466, R670). -/

namespace Sys2Proof.Laws

open Sys2Proof Sys2Proof.Machine

variable {s : State} {t r : Nat}

theorem ctrlBarred_eq_false {x : Ring} (hbusy : x.busy = false) (hlocked : tdiLocked s t = false) : ctrlBarred s t x = false := by
  rw [ctrlBarred, hbusy, hlocked]; rfl

section named
variable (ht : t < 64) (hr : r < 1024)
include ht hr

/-- A tenant and a ring that a command may name. -/
theorem not_beyond_rings : ¬ (64 ≤ t ∨ 1024 ≤ r) := by omega

/-! ### Doorbells (R465, R556) -/

theorem execDoorbell_active (hactive : (s.tenant t).state = .active) (hdev : s.dev ≠ .recovery) (v : Nat) :
    execDoorbell t r v s = .next (applyDoorbell s t r v) := by
  simp only [execDoorbell, if_neg (not_beyond_rings ht hr), hactive, if_neg hdev]

theorem execDoorbell_quiescing (hquiescing : (s.tenant t).state = .quiescing) (v : Nat) :
    execDoorbell t r v s = .next (s.updTenant t (fun x => { x with held := x.held ++ [(r, v)] })) := by
  simp only [execDoorbell, if_neg (not_beyond_rings ht hr), hquiescing]

section ring
variable {k : Nat} (hring : ringNo s t r = some k)
include hring

/-! ### Enabling and disabling (R553, R555) -/

/-- What a write of RING_CTRL with ENABLE 1 would make of a disabled ring. -/
def enabling (s : State) (t k v : Nat) : Ring := { ctrlFields (s.ring k) v with owner := t }

/-- The state in which that ring is enabled, its indices reset. -/
def ringEnabled (s : State) (t k v : Nat) : State :=
  s.setRing k { enabling s t k v with enable := true, cfgstat := 0, qhead := 0, qtail := 0, rsv := 0, taken := 0, bound := none }

section enable
variable (hbusy : (s.ring k).busy = false) (hlocked : tdiLocked s t = false)
include hbusy hlocked

/-- An enable whose fields pass every check resets the ring, and binds the COMPL ring that a submission ring names. -/
theorem execRingEnable_passes {v : Nat} (hdisabled : (s.ring k).enable = false) (hchecks : enableStatus s t (enabling s t k v) = 0) :
    execRingEnable t r v s = .next (match ringNo (ringEnabled s t k v) t (enabling s t k v).cring with
      | some c => if isSubmission (enabling s t k v).type then
          (ringEnabled s t k v).updRing c (fun z => { z with bound := some (enabling s t k v).type }) else ringEnabled s t k v
      | none => ringEnabled s t k v) := by
  have hopen : ¬ (ctrlBarred s t (s.ring k) = true ∨ (s.ring k).enable = true) := by
    simp [ctrlBarred_eq_false hbusy hlocked, hdisabled]
  unfold enabling at hchecks
  simp only [execRingEnable, if_neg (not_beyond_rings ht hr), hring, if_neg hopen, hchecks, ne_eq, not_true_eq_false, if_false]
  rfl

/-- A disable that nothing bars begins (R555). -/
theorem execRingDisable_begins (henabled : (s.ring k).enable = true) (hunused : disableRefused s t k = false) :
    execRingDisable t r s = .next (disableRing (s.setRing k { s.ring k with cfgstat := 0 }) k) := by
  have hopen : ¬ (ctrlBarred s t (s.ring k) = true ∨ (s.ring k).enable = false) := by
    simp [ctrlBarred_eq_false hbusy hlocked, henabled]
  simp only [execRingDisable, if_neg (not_beyond_rings ht hr), hring, if_neg hopen, hunused, Bool.false_eq_true, if_false]

end enable

/-- A disable ends when every entry taken has completed (R555). -/
theorem execRingDisableDone_ends (hbusy : (s.ring k).busy = true) (hdisabled : (s.ring k).enable = false) (htaken : (s.ring k).taken = 0) :
    execRingDisableDone t r s =
      .next (s.setRing k { s.ring k with busy := false, qhead := 0, qtail := 0, bound := none, stalled := false }) := by
  simp only [execRingDisableDone, if_neg (not_beyond_rings ht hr), hring, hbusy, hdisabled, htaken, and_self, if_true]

/-- A failed access to a ring in use fails it; a read, of a submission ring, counts as a violation (R562, R568). -/
theorem execRingAccessFail_fails (hused : (s.ring k).enable = true ∨ (s.ring k).busy = true) :
    execRingAccessFail t r s = .next (failRing (if isSubmission (s.ring k).type then hostViolation s else s) k) := by
  simp only [execRingAccessFail, if_neg (not_beyond_rings ht hr), hring, if_pos hused]

end ring

end named

/-! ### Turns (R560, R670) -/

/-- The rings in turn, from the one behind the last that gave an entry. -/
def ringsInTurn (s : State) : List Nat :=
  (s.rings.map (·.1)).filter (fun k => decide (s.ringTurn < k)) ++ (s.rings.map (·.1)).filter (fun k => decide (k ≤ s.ringTurn))

theorem execRingEntryTake_served (hdev : s.dev = .service ∨ s.dev = .fenced) (host : List Byte) :
    execRingEntryTake host s = .next (serveRings host (ringsInTurn s) s) := if_pos hdev

theorem serveRings_gives {host : List Byte} {k : Nat} {ks : List Nat} {x y : State} (hoffer : offerRing s k host = (some x, y)) :
    serveRings host (k :: ks) s = x := by
  rw [serveRings, hoffer]

theorem serveRings_passes {host : List Byte} {k : Nat} {ks : List Nat} {y : State} (hoffer : offerRing s k host = (none, y)) :
    serveRings host (k :: ks) s = serveRings host ks y := by
  rw [serveRings, hoffer]

/-- Settles O31: each command by the state of the tenant, the ring or the turn that it meets. -/
theorem ringCommandsComplete : Obligations.RingCommandsComplete := by
  intro s t r ht hr
  refine ⟨fun v hactive hdev => execDoorbell_active ht hr hactive hdev v, fun v hquiescing => execDoorbell_quiescing ht hr hquiescing v,
    fun k hring => ⟨?enable, fun hbusy hlocked => execRingDisable_begins ht hr hring hbusy hlocked,
      execRingDisableDone_ends ht hr hring, execRingAccessFail_fails ht hr hring⟩, ?turn⟩
  case enable =>
    intro v hbusy hlocked hdisabled y hchecks s1
    have henabled := execRingEnable_passes ht hr hring hbusy hlocked hdisabled hchecks
    refine ⟨fun (hcompl : isSubmission (enabling s t k v).type = false) => henabled.trans ?_,
      fun c hsub (hcring : ringNo (ringEnabled s t k v) t (enabling s t k v).cring = some c) => henabled.trans ?_⟩
    · rw [hcompl]
      split <;> rfl
    · rw [hcring]
      exact congrArg _ (if_pos hsub)
  case turn =>
    intro host k ks hdev hturn
    have hserved : execRingEntryTake host s = .next (serveRings host (k :: ks) s) :=
      (execRingEntryTake_served hdev host).trans (by rw [← hturn, ringsInTurn])
    exact ⟨fun x y hoffer => hserved.trans (by rw [serveRings_gives hoffer]),
      fun y hoffer => hserved.trans (by rw [serveRings_passes hoffer])⟩

end Sys2Proof.Laws
end

section
/-! Host accesses, interrupt registers, functions, the link and external inputs: what each command answers where it acts (R544 to R550,
R564 to R571, R628). -/

namespace Sys2Proof.Laws

open Sys2Proof Sys2Proof.Machine

variable {s : State} {fn : Nat}

/-! ### Interrupt registers (R564, R566) -/

/-- Written 1s of a function's IPENDL clear the sources of its view (R564). -/
theorem execIpendClear_local {index : Nat} (hfn : fn < 64) (hindex : index < 32) (mask : Nat) :
    execIpendClear fn true index mask s = .next { s with irq := { s.irq with
      pend := clearPending ((maskBits mask).filterMap (fun b => localSource s fn (64 * index + b))) s.irq.pend } } :=
  if_neg (by simp only [Bool.true_eq_false, false_and, or_false]; omega)

/-- The source that a register of ITARGET, or of a function's ITARGETL, targets. -/
def targetedSource (s : State) (t : Nat) (view : Bool) (index : Nat) : Option Nat := if view then localSource s t index else some index

/-- A KIND that the register takes, to a vector that the source's function has where KIND is 1, is set (R566). -/
theorem execItargetWrite_sets {t index value n owner : Nat} {view : Bool} (ht : t < 64) (hindex : index < 2048) (hview : view = true ∨ t = 0)
    (hsource : targetedSource s t view index = some n) (hkind : bitsOf value 31 30 ≤ if view then 1 else 3)
    (howner : ownerOfSource s n = some owner) (hvector : bitsOf value 31 30 = 1 → value % 65536 < msixSize owner) :
    execItargetWrite t view index value s =
      .next { s with irq := { s.irq with target := mapSet 0 s.irq.target n (bitsOf value 31 30 * 2 ^ 30 + value % 65536) } } := by
  have hnamed : ¬ (64 ≤ t ∨ 2048 ≤ index ∨ (view = false ∧ t ≠ 0)) := by
    rintro (h | h | ⟨rfl, h⟩)
    · omega
    · omega
    · simp [h] at hview
  have hlocal : ¬ (view = true ∧ 2 ≤ bitsOf value 31 30) := by
    rintro ⟨rfl, h⟩
    rw [if_pos rfl] at hkind
    omega
  have hreached : (bitsOf value 31 30 == 1 && decide (msixSize owner ≤ value % 65536)) = false := by
    by_cases h1 : bitsOf value 31 30 = 1
    · simp [h1, hvector h1]
    · simp [h1]
  unfold targetedSource at hsource
  simp only [execItargetWrite, if_neg hnamed, hsource, howner, hreached, hlocal, Bool.false_eq_true, or_self, if_false]

/-- A vector unmasked sends the message that it held (R566). -/
theorem execMsixUnmask_next {vec : Nat} (hfn : fn < 64) (hvec : vec < msixSize fn) :
    let k := fn * 2048 + vec
    let s1 : State := { s with irq := { s.irq with msiUnmasked := mapSet false s.irq.msiUnmasked k true } }
    execMsixUnmask fn vec s = .next (if mapGet false s.irq.pba k
      then sendMsix { s1 with irq := { s1.irq with pba := mapSet false s1.irq.pba k false } } fn vec else s1) := by
  have hnamed : ¬ (64 ≤ fn ∨ msixSize fn ≤ vec) := by omega
  intro k s1
  rw [execMsixUnmask, if_neg hnamed]
  by_cases hheld : mapGet false s.irq.pba k = true
  · exact (if_pos hheld).trans (congrArg _ (if_pos hheld).symm)
  · exact (if_neg hheld).trans (congrArg _ (if_neg hheld).symm)

/-! ### Accesses (R548 to R550, R568) -/

section window
variable {offset : Nat} {ps : List (Nat × Nat)} (hfn : fn < 64) (hserved : bar2Served s.dev = true) (hfree : nothingHeld s ps = true)
include hfn hserved hfree

/-- A read over the window of rows that nothing holds reads its parts. -/
theorem execBar2Access_read {n : Nat} (hn : n ≠ 0) (hparts : windowAccess s fn offset n false = some ps)
    (hread : (readParts s fn ps).status = 0) (ep : Bool) :
    execBar2Access fn offset n none ep s =
      .next (emit (readParts s fn ps).next (.hostCompletion fn 0 (readParts s fn ps).bytes (readParts s fn ps).poisoned)) := by
  have hnamed : ¬ (64 ≤ fn ∨ n = 0) := by omega
  simp only [execBar2Access, if_neg hnamed, if_pos hserved, Option.isSome_none, hparts, whenFree_of_nothingHeld hfree, hread, ne_eq,
    not_true_eq_false, if_false]

/-- A write over the window of rows that nothing holds writes its parts. -/
theorem execBar2Access_write {d : List Byte} (hd : d ≠ []) (hparts : windowAccess s fn offset d.length true = some ps) (n : Nat) (ep : Bool) :
    execBar2Access fn offset n (some d) ep s = .next (writeParts s fn ep ps d) := by
  have hnamed : ¬ (64 ≤ fn ∨ d.length = 0) := by simp [hd, hfn]
  simp only [execBar2Access, if_neg hnamed, if_pos hserved, Option.isSome_some, hparts, whenFree_of_nothingHeld hfree]

end window

/-! ### The link (R544, R569 to R571) -/

/-- A link lost outside a withdrawal and a wait for one is counted and recorded, and the steps of R571 follow. -/
theorem execHostLinkDown_lost (hup : s.host.up = true) (hwait : s.tandem.resetWait = none) (hwithdraw : s.tandem.withdraw = false)
    (halone : dbool s 0x2050 8 = false ∨ mirroring s = false) :
    execHostLinkDown s = .next (linkLoss (recordFault
      (dset (dset (bump { s with host := { s.host with up := false } } 0x2050 3 1) 0x2050 1 0) 0x2050 2 0)
      (faultOf 0x254 clsTenant kindPort 8 0xFF 0))) := by
  have hnot : ¬ (dbool s 0x2050 8 = true ∧ mirroring s = true) := by
    rintro ⟨hasks, hpair⟩
    simp [hasks, hpair] at halone
  simp only [execHostLinkDown, hup, hwait, hwithdraw, if_neg hnot, Option.isSome_none, Bool.true_eq_false, Bool.false_eq_true, if_false]

/-- Training ends at a speed and a width that the controller has (R569). -/
theorem execHostLinkUp_trained {speed width : Nat} (hspeed : 1 ≤ speed ∧ speed ≤ 7) (hwidth : width ∈ [1, 2, 4, 8, 16])
    (hperst : s.host.perst = false) (hoff : s.dev ≠ .off) (hreset : s.dev ≠ .reset) :
    execHostLinkUp speed width s =
      .next (dset (dset { s with host := { s.host with up := true, l0p := 0 } } 0x2050 1 speed) 0x2050 2 width) := by
  have hcoded : ¬ (speed = 0 ∨ 7 < speed ∨ ¬ (width = 1 ∨ width = 2 ∨ width = 4 ∨ width = 8 ∨ width = 16)) := by
    simp only [List.mem_cons, List.not_mem_nil, or_false] at hwidth
    omega
  have hlive : ¬ (s.host.perst = true ∨ s.dev = .off ∨ s.dev = .reset) := by simp [hperst, hoff, hreset]
  rw [execHostLinkUp, if_neg hcoded, if_neg hlive]

/-- A configuration write that no locked TDI bars takes effect (R545). -/
theorem execPcieConfigWrite_allowed {field value : Nat} (hok : configOk field fn value = true)
    (hopen : ∀ t < 64, goneVf s field value t = true ∨ (field = 3 ∧ 1 ≤ t) → tdiLocked s t = false) :
    execPcieConfigWrite field fn value s = .next (writeFunction s field fn value) := by
  have hbarred : ¬ (List.range 64).any (fun t => (goneVf s field value t || (field == 3 && decide (1 ≤ t))) && tdiLocked s t) = true := by
    simp only [List.any_eq_true, List.mem_range, Bool.and_eq_true, Bool.or_eq_true, beq_iff_eq, decide_eq_true_eq, not_exists, not_and]
    intro t ht hgone
    simp [hopen t ht hgone]
  rw [execPcieConfigWrite, if_neg (by simp [hok]), if_neg hbarred]

section width
variable (hup : s.host.up = true) (width : Nat)
include hup

/-- Traffic asks for the full width again (R544). -/
theorem execL0pWidthChange_full : execL0pWidthChange width false true s = .next { s with host := { s.host with l0p := 0 } } := by
  simp only [execL0pWidthChange, hup, Bool.true_eq_false, if_false, if_true]

/-- Low traffic asks for a narrower width where L0p is enabled (R544). -/
theorem execL0pWidthChange_narrow (hwidth : width ∈ [1, 2, 4, 8])
    (hless : width < if s.host.l0p = 0 then dget s 0x2050 2 else s.host.l0p) (henabled : dbool s 0x2050 9 = true) :
    execL0pWidthChange width true false s = .next { s with host := { s.host with l0p := width } } := by
  have hcoded : [1, 2, 4, 8].contains width = true := List.contains_iff_mem.2 hwidth
  simp only [execL0pWidthChange, hup, hless, hcoded, henabled, Bool.true_eq_false, Bool.false_eq_true, and_self, if_false, if_true]

end width

/-! ### External inputs (R567) -/

/-- An edge sets the level of its input, and its source where the entries select it. -/
theorem execGpiEdge_next {pin : Nat} (hpin : pin < 8) (rise : Bool) :
    let l := dget s 0x2051 0xB
    let s1 := dset s 0x2051 0xB (if rise then l ||| 2 ^ pin else clearBit l pin)
    execGpiEdge pin rise s = .next (if bitOf (dget s 0x2051 (if rise then 0xC else 0xD)) pin then raiseLocal s1 0 (8 + pin) else s1) :=
  if_neg (Nat.not_le.2 hpin)

/-- Settles O32: each command by what it answers where it acts. -/
theorem hostEventsComplete : Obligations.HostEventsComplete := by
  intro s
  refine ⟨fun t index mask ht hindex => execIpendClear_local ht hindex mask, fun index mask hindex => execIpendClear_whole hindex mask,
    fun index value n fn t view ht hindex hview hsource hkind howner hvector =>
      execItargetWrite_sets ht hindex hview hsource hkind howner hvector,
    fun fn vec hfn hvec => execMsixUnmask_next hfn hvec, fun fn index value hfn hindex => execWinWrite_next hfn hindex value,
    fun fn offset n ps ep hfn hserved => ⟨fun hn hparts hfree hread => execBar2Access_read hfn hserved hfree hn hparts hread ep,
      fun d hd hparts hfree => execBar2Access_write hfn hserved hfree hd hparts n ep⟩,
    fun fn write hfn => ⟨if_neg (Nat.not_le.2 hfn), if_neg (Nat.not_le.2 hfn)⟩,
    fun hup hwait hwithdraw halone => execHostLinkDown_lost hup hwait hwithdraw halone,
    fun speed width hlow hhigh hwidth hperst hoff hreset => execHostLinkUp_trained ⟨hlow, hhigh⟩ hwidth hperst hoff hreset,
    rfl, fun field fn value hok hopen => execPcieConfigWrite_allowed hok hopen,
    fun width hup => ⟨execL0pWidthChange_full hup width, execL0pWidthChange_narrow hup width⟩,
    fun pin rise hpin => execGpiEdge_next hpin rise, fun input hinput => if_neg (Nat.not_le.2 hinput)⟩

end Sys2Proof.Laws
end

section
/-! Register writes: BAR0 of a function, engine control space, and the end of a SUBMIT's match (R9, R412, R423, R545 to R549, R572,
R573). -/

namespace Sys2Proof.Laws

open Sys2Proof Sys2Proof.Machine

variable {s : State}

section write
variable {fn offset : Nat} {data : List Byte} (hfn : fn < 64) (hdata : 1 ≤ data.length) (host : List Byte) (ep ok : Bool)
include hfn hdata

/-- A write that names a function and holds a byte. -/
theorem not_emptyWrite : ¬ (64 ≤ fn ∨ data.length = 0) := by omega

/-- A write within a function's page has the effect of the registers it covers. -/
theorem execRegWrite_page (agent : Nat) (hpage : offset + data.length ≤ bar0Size fn) :
    execRegWrite false agent fn offset data ep host ok s = .next (writeBar0 s fn offset data ep host ok) := by
  rw [execRegWrite, if_neg (not_emptyWrite hfn hdata), if_neg Bool.false_ne_true, if_neg (Nat.not_lt.2 hpage)]

/-- A write of engine control space by an agent that may has the effect of the registers it covers; a poisoned one is a violation. -/
theorem execRegWrite_ecs {agent : Nat} (hmay : writesEcs agent fn = true) (hend : offset + data.length ≤ 2 ^ 32) (hlen : data.length ≤ 64) :
    execRegWrite true agent fn offset data ep host ok s = .next (if ep then hostViolation s else regWrite s agent fn offset data) := by
  have htaken : ¬ (writesEcs agent fn = false ∨ 2 ^ 32 < offset + data.length ∨ 64 < data.length) := by
    simp only [hmay, Bool.true_eq_false, false_or]
    omega
  rw [execRegWrite, if_neg (not_emptyWrite hfn hdata), if_pos rfl, if_neg htaken]
  cases ep <;> rfl

end write

theorem writesEcs_of_mem {agent : Nat} (h : agent ∈ [0xF0, 0xF2, 0xF3, 16]) : writesEcs agent 0 = true := by
  simpa [writesEcs, or_assoc] using h

/-- The match of a queued SUBMIT ends: what it found is taken, the request mirrored and settled (R412, R423). -/
theorem execSubmitMatchDone_queued {req : Nat} (hmatching : (s.req req).matching = true) (hqueued : (s.req req).state = .queued)
    (groupMin : Option Nat) : execSubmitMatchDone req groupMin s = .next (settleSubmit (mirrorAdmit (takePrefix s req groupMin) req) req) :=
  if_pos ⟨hmatching, hqueued⟩

/-- Settles O44: writes of each space, and the end of a match. -/
theorem registerWritesComplete : Obligations.RegisterWritesComplete :=
  ⟨fun _ _ _ _ host ep ok hfn hdata => ⟨fun hpage => execRegWrite_page hfn hdata host ep ok 0xF0 hpage,
      fun _ hagent hend hlen => execRegWrite_ecs (by decide) hdata host ep ok (writesEcs_of_mem hagent) hend hlen⟩,
    fun _ _ groupMin hmatching hqueued => execSubmitMatchDone_queued hmatching hqueued groupMin⟩

end Sys2Proof.Laws
end

section
/-! One step, the state after reset, and the fault ring (R593, R624, R666). -/

namespace Sys2Proof.Laws

open Sys2Proof Sys2Proof.Machine

/-! ### One step -/

theorem step_cons {s : State} {c : Instr} {rest : List Instr} (h : s.pending = c :: rest) : step s = exec c (s.withPending rest) := by
  rw [step, h]

theorem step_nil {s : State} (h : s.pending = []) : step s = .next { s with now := s.now + 1, ptp := s.ptp + 1 } := by
  unfold step
  split
  · rfl
  · next hcons => simp [h] at hcons

/-- Settles O1: by whether a command waits. -/
theorem frontCommandRuns : Obligations.FrontCommandRuns :=
  ⟨fun _ _ _ h => step_cons h, fun _ h => step_nil h⟩

/-! ### After reset -/

theorem dget_reset (index sub : Nat) : dget State.reset index sub = dictDefault (dk index sub) := rfl

theorem wf_reset : Memory.wf State.reset = true := rfl

/-- Settles O2: each field is its own reset value, and no entry of the dictionary is listed. -/
theorem resetState : Obligations.ResetState :=
  ⟨rfl, rfl, rfl, rfl, rfl, rfl, rfl, rfl, rfl, rfl, rfl, rfl, rfl, rfl, rfl, rfl, rfl, rfl, rfl, wf_reset, dget_reset⟩

/-! ### The fault ring (R666) -/

section ring

variable (s : State)

@[simp] theorem sendMsix_faults (fn vec : Nat) : (sendMsix s fn vec).faults = s.faults := by
  unfold sendMsix; dsimp only; split <;> rfl

@[simp] theorem deliverSource_faults (n : Nat) : (deliverSource s n).faults = s.faults := by
  unfold deliverSource; dsimp only
  repeat' split
  all_goals simp

@[simp] theorem raiseSource_faults (n : Nat) : (raiseSource s n).faults = s.faults := by
  unfold raiseSource; split <;> simp

@[simp] theorem raiseLocal_faults (t j : Nat) : (raiseLocal s t j).faults = s.faults := by
  unfold raiseLocal; split <;> simp

/-- Setting bits of the summary changes nothing else of the fault record. -/
@[simp] theorem setSummary_faults (bits : Nat) : (setSummary s bits).faults = { s.faults with summary := s.faults.summary ||| bits } := by
  unfold setSummary; dsimp only
  split
  · next h => simp [h]
  · simp

@[simp] theorem setTenantFault_summary (t bits : Nat) : (setTenantFault s t bits).faults.summary = s.faults.summary := by
  unfold setTenantFault; dsimp only
  repeat' split
  all_goals simp

@[simp] theorem setTenantFault_ring (t bits : Nat) : (setTenantFault s t bits).faults.ring = s.faults.ring := by
  unfold setTenantFault; dsimp only
  repeat' split
  all_goals simp

@[simp] theorem setTenantFault_seq (t bits : Nat) : (setTenantFault s t bits).faults.seq = s.faults.seq := by
  unfold setTenantFault; dsimp only
  repeat' split
  all_goals simp

theorem ringPush_room {e : FaultEntry} (hroom : s.faults.ring.length < 512) :
    (ringPush s e).faults = { s.faults with ring := s.faults.ring ++ [e] } := by
  simp only [ringPush, if_pos hroom]

/-- A full ring gives up its oldest entry; RING_LOST is set where that one was unread. -/
theorem ringPush_full {e o : FaultEntry} {rest : List FaultEntry} (hring : s.faults.ring = o :: rest) (hfull : s.faults.ring.length = 512) :
    (ringPush s e).faults = { s.faults with
      ring := rest ++ [e], summary := s.faults.summary ||| (if s.faults.readUpTo < o.seq then 2 ^ 19 else 0) } := by
  rw [ringPush, if_neg hfull.not_lt]
  simp only [hring, List.drop_one, List.tail_cons]
  split <;> simp

/-- The fault record with the next SEQ given, and an entry as it is recorded. -/
def nextSeq (s : State) : State := { s with faults := { s.faults with seq := s.faults.seq + 1 } }
def stamped (s : State) (e : FaultEntry) : FaultEntry := { e with seq := s.faults.seq + 1, time := s.ptp }

theorem entryBits_stamped (e : FaultEntry) : entryBits (stamped s e) = entryBits e := rfl

theorem ringPush_seq (e : FaultEntry) : (ringPush s e).faults.seq = s.faults.seq := by
  unfold ringPush; dsimp only
  repeat' split
  all_goals simp

theorem recordEntry_seq (e : FaultEntry) : (recordEntry s e).faults.seq = s.faults.seq + 1 := by
  simp [recordEntry, ringPush_seq]

theorem recordEntry_ring (e : FaultEntry) : (recordEntry s e).faults.ring = (ringPush (nextSeq s) (stamped s e)).faults.ring := by
  simp [recordEntry, nextSeq, stamped]

theorem recordEntry_summary (e : FaultEntry) :
    (recordEntry s e).faults.summary = (ringPush (nextSeq s) (stamped s e)).faults.summary ||| entryBits e := by
  simp [recordEntry, nextSeq, stamped]

/-- With room the ring grows by the entry. -/
theorem recordEntry_room (e : FaultEntry) (hroom : s.faults.ring.length < 512) :
    (recordEntry s e).faults.ring = s.faults.ring ++ [stamped s e] ∧
      (recordEntry s e).faults.summary = s.faults.summary ||| entryBits (stamped s e) := by
  rw [recordEntry_ring, recordEntry_summary, ringPush_room (nextSeq s) hroom]
  exact ⟨rfl, rfl⟩

/-- A full ring loses its oldest entry for it. -/
theorem recordEntry_full (e : FaultEntry) {o : FaultEntry} {rest : List FaultEntry} (hring : s.faults.ring = o :: rest)
    (hfull : s.faults.ring.length = 512) :
    (recordEntry s e).faults.ring = rest ++ [stamped s e] ∧
      (recordEntry s e).faults.summary =
        s.faults.summary ||| (if s.faults.readUpTo < o.seq then 2 ^ 19 else 0) ||| entryBits (stamped s e) := by
  rw [recordEntry_ring, recordEntry_summary, ringPush_full (nextSeq s) hring hfull]
  exact ⟨rfl, rfl⟩

theorem length_recordEntry_ring (e : FaultEntry) (hbound : s.faults.ring.length ≤ 512) : (recordEntry s e).faults.ring.length ≤ 512 := by
  rcases Nat.lt_or_eq_of_le hbound with hroom | hfull
  · rw [(recordEntry_room s e hroom).1, List.length_append]
    exact hroom
  · obtain ⟨o, rest, hring⟩ := List.exists_cons_of_length_pos (show 0 < s.faults.ring.length by omega)
    rw [(recordEntry_full s e hring hfull).1, List.length_append]
    rw [hring] at hfull
    exact hfull.le

/-- RingClear empties the ring and changes nothing else of the fault record. -/
theorem execRingClear_true (hready : notReady s = none) :
    ∃ t, execRingClear true s = .next t ∧ t.faults = { s.faults with ring := [] } :=
  ⟨clearRing s true, served_ready _ hready, by simp [clearRing, dictAnswer]⟩

end ring

/-- Settles O54: by whether the ring is full. -/
theorem faultRingKeepsLatest : Obligations.FaultRingKeepsLatest := by
  refine ⟨fun s e hbound => ⟨recordEntry_seq s e, length_recordEntry_ring s e hbound, recordEntry_room s e,
    fun _ _ hring hfull => recordEntry_full s e hring hfull⟩, fun s _ hready => ?clear⟩
  case clear =>
    obtain ⟨t, hexec, hfaults⟩ := execRingClear_true s hready
    exact ⟨t, hexec, by rw [hfaults], by rw [hfaults]⟩

end Sys2Proof.Laws
end

section
/-! Writes of dictionary entries: the check, the journal, the twin and the effect (R591 to R594). -/

namespace Sys2Proof.Laws

open Sys2Proof Sys2Proof.Machine

variable {s : State}

theorem dk_div {index sub : Nat} (hsub : sub < 256) : dk index sub / 256 = index := by unfold dk; omega

theorem dk_mod {index sub : Nat} (hsub : sub < 256) : dk index sub % 256 = sub := by unfold dk; omega

/-! ### The front of the queue -/

/-- A write begun: the time it takes its stamp from, and its value without reserved bits. -/
def begunJob (s : State) (j : DictJob) : DictJob :=
  { j with stamp := s.ptp, since := s.now, value := clearReserved (j.key / 256) j.value }

/-- A write that passes its check goes to the journal where the entry is STORED, and takes effect where it is not (R594 steps 1 and 2). -/
theorem startJob_passes {j : DictJob} {r : DictRow} (hrow : dictRow (j.key / 256) (j.key % 256) = some r) (hwritable : r.wr ≠ 0)
    (hreset : j.key ≠ dk 0x2000 1) (hnonce : j.key / 256 ≠ 0x9020) (hvalue : isCommand r (j.key / 256) (j.key % 256) = false)
    (hcheck : writeAbort s r (j.key / 256) (j.key % 256) (clearReserved (j.key / 256) j.value) = 0) :
    startJob s j = if r.stored then setHead s { begunJob s j with stage := .journal } else effectJob s (begunJob s j) 0 := by
  simp only [startJob, hrow, hwritable, hreset, hnonce, hvalue, hcheck, begunJob, false_and, if_false, ne_eq, not_true_eq_false,
    Bool.false_eq_true]

/-- A write submitted with none in progress begins at once. -/
theorem submitWrite_alone {j : DictJob} (hjobs : s.nirnar.jobs = []) (hqueued : j.stage = .queued) :
    submitWrite s j = startJob { s with nirnar := { s.nirnar with jobs := [j] } } j := by
  simp only [submitWrite, hjobs, List.nil_append, List.length_nil, pumpJobs, hqueued, if_true]

/-- The write of an entry as a command of its own. -/
def directJob (index sub : Nat) (v : List Byte) : DictJob := { asker := .direct, key := dk index sub, value := v }

/-- A direct write with none in progress, of a writable entry without behaviour of its own. -/
theorem writeDirect_passes {index sub : Nat} {v : List Byte} {r : DictRow} (hsub : sub < 256) (hjobs : s.nirnar.jobs = [])
    (hready : notReady s = none) (hrow : dictRow index sub = some r) (hvalue : isCommand r index sub = false) (hnonce : index ≠ 0x9020)
    (hreset : dk index sub ≠ dk 0x2000 1) (hwritable : r.wr ≠ 0)
    (hcheck : writeAbort { s with nirnar := { s.nirnar with jobs := [directJob index sub v] } } r index sub (clearReserved index v) = 0) :
    let s1 : State := { s with nirnar := { s.nirnar with jobs := [directJob index sub v] } }
    let j1 : DictJob := { directJob index sub v with stamp := s.ptp, since := s.now, value := clearReserved index v }
    writeDirect s index sub v = .next (if r.stored then setHead s1 { j1 with stage := .journal } else effectJob s1 j1 0) := by
  have hkey : (directJob index sub v).key / 256 = index := dk_div hsub
  have hmod : (directJob index sub v).key % 256 = sub := dk_mod hsub
  intro s1 j1
  have hbegun : begunJob s1 (directJob index sub v) = j1 := by rw [begunJob, hkey]; rfl
  rw [writeDirect, served_ready _ hready, ← directJob, submitWrite_alone hjobs rfl,
    startJob_passes (by rwa [hkey, hmod]) hwritable hreset (by rwa [hkey]) (by rwa [hkey, hmod]) (by rw [hkey, hmod]; exact hcheck), hbegun]

/-! ### The end of a journal write (R594 steps 2 and 3) -/

section journal

variable {j : DictJob} {rest : List DictJob} (hjobs : s.nirnar.jobs = j :: rest)
include hjobs

/-- A failed append leaves the old value. -/
theorem execJournalWriteDone_failed (hstage : j.stage = .journal) :
    execJournalWriteDone false s = .next (nextJob (finishJob s j 0x03010000)) := by
  simp only [execJournalWriteDone, hjobs, hstage, ne_eq, not_true_eq_false, if_false, Bool.not_false, if_true]

variable {r : DictRow} (hrow : dictRow (j.key / 256) (j.key % 256) = some r)
include hrow

/-- An entry that nothing mirrors takes effect. -/
theorem execJournalWriteDone_effect (hstage : j.stage = .journal) (halone : isMirrored (j.key / 256) = false ∨ mirroring s = false) :
    execJournalWriteDone true s = .next (nextJob (effectJob (journalValue s r (j.key / 256) (j.key % 256) j.value) j 0)) := by
  have hnot : ¬ (isMirrored (j.key / 256) = true ∧ mirroring s = true) := by
    rintro ⟨hmirrored, hpair⟩
    simp [hmirrored, hpair] at halone
  simp only [execJournalWriteDone, hjobs, hrow, hstage, hnot, ne_eq, not_true_eq_false, Bool.not_true, Bool.false_eq_true, if_false]

/-- A mirrored entry goes to the twin first (R531). -/
theorem execJournalWriteDone_mirrored (hstage : j.stage = .journal) (hmirrored : isMirrored (j.key / 256) = true) (hpair : mirroring s = true) :
    let s1 := journalValue s r (j.key / 256) (j.key % 256) j.value
    let s2 := mirror { s1 with tandem := { s1.tandem with stamps := mapSet 0 s1.tandem.stamps j.key j.stamp } } 6 0 (j.value.length + 32)
      [j.key / 256, j.key % 256, j.stamp] (j.value ++ padTo 16 (bget s 0x1000 5))
    execJournalWriteDone true s = .next (setHead s2 { j with stage := .mirror, mirrorSeq := s2.tandem.txSeq, since := s.now }) := by
  simp only [execJournalWriteDone, hjobs, hrow, hstage, hmirrored, hpair, ne_eq, not_true_eq_false, Bool.not_true, Bool.false_eq_true,
    if_false, and_self, if_true]

end journal

/-- Without an acknowledgment for 10 ms the value takes effect here (R594 step 3). -/
theorem execMirrorTimeout_next {j : DictJob} {rest : List DictJob} (hjobs : s.nirnar.jobs = j :: rest) (hstage : j.stage = .mirror)
    (hlate : j.since + 10000000 ≤ s.now) : execMirrorTimeout s = .next (nextJob (effectJob s j 0x03020000)) := by
  simp only [execMirrorTimeout, hjobs, hstage, hlate, and_self, if_true]

/-- Settles O30: the check of a write, the end of its journal write, and the wait for the twin. -/
theorem dictionaryWritesComplete : Obligations.DictionaryWritesComplete := by
  refine ⟨fun s index sub v r hjobs _ hready hrow hvalue hnonce hreset => ?write, fun s j rest hjobs hstage => ?journal,
    fun s j rest hjobs hstage hlate => execMirrorTimeout_next hjobs hstage hlate⟩
  case write =>
    intro j s1 v1 j1 written hwritable hcheck
    have hwritten (hsub : sub < 256) : writeDirect s index sub v = .next written :=
      writeDirect_passes hsub hjobs hready hrow hvalue hnonce hreset hwritable hcheck
    refine ⟨fun hindex hsub => ?entry, fun t n a ht hn hn' hi hsub hv => ?aperture, fun x hi hsub hv => ?tandem, fun n hn hn' hi hsub => ?key⟩
    case entry =>
      rw [exec_dictWrite, execDictWrite, Nat.mod_eq_of_lt hindex, Nat.mod_eq_of_lt hsub]
      exact hwritten hsub
    case aperture =>
      rw [exec_apertureWrite, execApertureWrite, if_neg (Nat.not_le.2 ht), Nat.mod_eq_of_lt (by omega), ← hi, ← hsub, ← hv]
      exact hwritten (by omega)
    case tandem =>
      subst hi hsub hv
      rw [exec_tandemEnableWrite, execTandemEnableWrite]
      exact hwritten (by omega)
    case key =>
      rw [exec_slotSigningKeyWrite, execSlotSigningKeyWrite, Nat.mod_eq_of_lt (by omega), ← hi, ← hsub]
      exact hwritten (by omega)
  case journal =>
    exact ⟨execJournalWriteDone_failed hjobs hstage, fun r hrow => ⟨execJournalWriteDone_effect hjobs hrow hstage,
      execJournalWriteDone_mirrored hjobs hrow hstage⟩⟩

end Sys2Proof.Laws
end

section
/-! Datagrams on the service ports: frames of a session by their opcode, handshakes and the twin's presence (R577, R579 to R590, R598). -/

namespace Sys2Proof.Laws

open Sys2Proof Sys2Proof.Machine

variable {s s1 : State} {vlan net : Nat} {prp : Option (Nat × Nat)} {d : List Byte}

/-! ### What reaches the device -/

theorem onLan_accepted (haccept : lanAccept s vlan prp = (true, s1)) (f : State → State) : onLan s vlan prp f = .next (f s1) := by
  simp only [onLan, haccept, if_true]

theorem frameRow_accepted (haccept : lanAccept s vlan prp = (true, s1)) (host : List Byte) (ok : Bool) :
    frameRow s vlan prp net host ok d = .next (frameIn s1 net host ok d) := onLan_accepted haccept _

/-- A datagram that is no frame, or that came to an address which the device has not, is dropped. -/
theorem isFrame_and_hasAddress (hframe : isFrame d = true) (haddr : hasAddress s1 net = true) :
    ¬ ((!isFrame d) = true ∨ (!hasAddress s1 net) = true) := by simp [hframe, haddr]

/-! ### Frames of a session (R581 to R584) -/

section session

variable {x : Session} {f : FrameParts} (host : List Byte) (ok : Bool)

/-- A frame of a session in being, which is no PROVE, is judged in that session. -/
theorem frameIn_session (hframe : isFrame d = true) (haddr : hasAddress s1 net = true) (hprove : (frameParts d).op ≠ 3)
    (hzero : (frameParts d).session ≠ 0) (htwin : (frameParts d).session ≠ 0xFFFFFFFF) (hsession : sessionOf s1 (frameParts d).session = some x)
    (hlive : s1.now ≤ x.lastHeard + 1000000 * x.idle) : frameIn s1 net host ok d = sessionIn s1 x host ok (frameParts d) := by
  have hnone : s1.nirnar.handshakes.find? (fun h => h.number == (frameParts d).session && (frameParts d).op == 3) = none := by
    simp [hprove]
  simp only [frameIn, if_neg (isFrame_and_hasAddress hframe haddr), htwin, hzero, false_and, if_false, hnone, hsession,
    if_neg (Nat.not_lt.2 hlive)]

/-- A sound frame with a fresh sequence number is acted on where its tag is good, and counted where it is not. -/
theorem sessionIn_sound (htagged : f.tagged = true) (hfresh : x.rxSeq < f.seq) (hlen : f.blen = f.body.length)
    (hmin : minBody f.op ≤ f.body.length) (hop : clientOps.contains f.op = true) (hreserved : reservedSet f = false) :
    sessionIn s1 x host ok f =
      let y : Session := { x with rxSeq := f.seq, lastHeard := s1.now }
      if tagGood x.rxKey f then act (updNirnar s1 x.number (fun _ => y)) y host ok f else bump s1 0x1100 0x12 1 := by
  have hlens : ¬ (f.blen ≠ f.body.length ∨ f.body.length < minBody f.op) := by omega
  cases htag : tagGood x.rxKey f <;>
    simp only [sessionIn, htagged, htag, hop, hreserved, hlens, Nat.not_le.2 hfresh, Bool.not_true, Bool.not_false, Bool.false_eq_true,
      if_false, if_true]

/-- What an opcode asks for, where its transaction is new (R581). -/
def requestIn (s : State) (x : Session) (host : List Byte) (ok : Bool) (f : FrameParts) : State :=
  if f.op = 0x10 then readIn s x f
  else if f.op = 0x12 then writeIn s x host ok f
  else if f.op = 0x18 then subscribeIn s x f
  else if f.op = 0x19 then unsubscribeIn s x f
  else if f.op = 0x1B then notifyAckIn s x f
  else if f.op = 0x21 then endSession s x.number
  else if f.op = 0x30 then sendFrame s x 0x30 f.trans []
  else s

theorem act_new (hkept : x.kept.find? (fun k => k.1 == f.trans) = none) (hopen : x.open_.contains f.trans = false) :
    act s1 x host ok f = requestIn s1 x host ok f := by
  simp only [act, hkept, hopen, Bool.false_eq_true, and_false, if_false, requestIn]

end session

/-! ### Handshakes and presence (R585, R586, R598) -/

section handshake

variable (hframe : isFrame d = true) (haddr : hasAddress s1 net = true) (host : List Byte) (ok : Bool)
include hframe haddr

theorem frameIn_hello (hop : (frameParts d).op = 1) (hsession : (frameParts d).session = 0) :
    frameIn s1 net host ok d = helloIn s1 net (frameParts d) := by
  rw [frameIn, if_neg (isFrame_and_hasAddress hframe haddr), if_neg (by simp [hop]), if_pos ⟨hsession, hop⟩]

theorem frameIn_prove {h : Handshake} (hop : (frameParts d).op = 3)
    (hfound : s1.nirnar.handshakes.find? (fun h => h.number == (frameParts d).session && (frameParts d).op == 3) = some h) :
    frameIn s1 net host ok d = proveIn s1 h (frameParts d) := by
  rw [frameIn, if_neg (isFrame_and_hasAddress hframe haddr), if_neg (by simp [hop]), if_neg (by simp [hop]), hfound]

theorem frameIn_presence (hop : (frameParts d).op = 0x40) (hsession : (frameParts d).session = 0xFFFFFFFF) :
    frameIn s1 net host ok d = presenceIn s1 (frameParts d) := by
  rw [frameIn, if_neg (isFrame_and_hasAddress hframe haddr), if_pos ⟨hsession, hop⟩]

end handshake

/-- A HELLO of a known key, with an authority that it has and with room, begins a handshake. -/
theorem helloIn_known {f : FrameParts} {k : List Byte} (hidentity : s1.sec.identity = true) (hlen : f.blen = f.body.length)
    (hmin : 36 ≤ f.body.length) (hreserved : reservedSet f = false) (hkey : keyOf s1 (u16 f.body 0) = some k) (hsome : 1 ≤ u8 f.body 2)
    (hauth : u8 f.body 2 ≤ keyAuthority k)
    (hfew : (s1.nirnar.handshakes.filter (fun h => decide (s1.now ≤ h.since + 1000000000))).length < 4)
    (hroom : s1.nirnar.sessions.length < dget s1 0x1100 0xA) : helloIn s1 net f = challenge s1 net f := by
  have hlens : ¬ (f.blen ≠ f.body.length ∨ f.body.length < 36) := by omega
  have hmay : ¬ (u8 f.body 2 = 0 ∨ keyAuthority k < u8 f.body 2) := by omega
  have hplace : ¬ (4 ≤ (s1.nirnar.handshakes.filter (fun h => decide (s1.now ≤ h.since + 1000000000))).length ∨
      dget s1 0x1100 0xA ≤ s1.nirnar.sessions.length) := by omega
  simp only [helloIn, hidentity, hreserved, hkey, if_neg hlens, if_neg hmay, if_neg hplace, Bool.true_eq_false, Bool.false_eq_true, if_false]

/-- A PROVE of a known key in time, with room, ends its handshake: by the key's signature. -/
theorem proveIn_known {f : FrameParts} {h : Handshake} {k : List Byte} (hlen : f.blen = f.body.length) (hmin : 96 ≤ f.body.length)
    (hreserved : reservedSet f = false) (hkey : keyOf s1 h.keyId = some k) (htime : s1.now ≤ h.since + 1000000000)
    (hroom : s1.nirnar.sessions.length < dget s1 0x1100 0xA) :
    proveIn s1 h f = if Config.ed25519Verify (k.take 32) (Config.sha512 (h.h1 ++ f.body.take 32)) ((f.body.drop 32).take 64) then
      acceptSession s1 h f else untaggedAbort (dropHandshake s1 h.number) h.number f.trans 0x06040000 := by
  have hlens : ¬ (f.blen ≠ f.body.length ∨ f.body.length < 96) := by omega
  have hlate : ¬ h.since + 1000000000 < s1.now := by omega
  cases hsig : Config.ed25519Verify (k.take 32) (Config.sha512 (h.h1 ++ f.body.take 32)) ((f.body.drop 32).take 64) <;>
    simp only [proveIn, if_neg hlens, hreserved, hkey, hlate, hsig, Nat.not_le.2 hroom, Bool.true_eq_false, Bool.false_eq_true, or_true,
      or_self, if_true, if_false]

/-- A presence frame of the partner is noted where its tag is good, and counted where it is not. -/
theorem presenceIn_sound {f : FrameParts} (hkey : s1.tandem.pairKey ≠ []) (htagged : f.tagged = true)
    (hfresh : s1.tandem.partnerPresence < f.seq) (hlen : f.body.length = 40) (hserial : f.body.take 16 = padTo 16 (bget s1 0x6100 3)) :
    let s2 : State := { s1 with tandem := { s1.tandem with partnerPresence := f.seq, lastPresence := s1.now } }
    presenceIn s1 f = if tagGood s1.tandem.pairKey f = false then bump s1 0x1100 0x12 1
      else if (u8 f.body 16 = 1 ∨ u8 f.body 16 = 2) ∧ mirroring s2 = true then losePartner s2 else s2 := by
  cases htag : tagGood s1.tandem.pairKey f <;>
    simp only [presenceIn, bne_iff_ne.2 hkey, htagged, htag, hfresh, hlen, hserial, decide_true, beq_self_eq_true, Bool.and_true,
      Bool.and_false, Bool.not_true, Bool.not_false, Bool.true_eq_false, Bool.false_eq_true, if_true, if_false]

/-- Settles O33: a frame of a session by its opcode, and the frames of no session by theirs. -/
theorem nirnarFramesActed : Obligations.NirnarFramesActed := by
  intro s s1 vlan net prp d haccept hframe haddr f
  refine ⟨fun x c op f1 host ok hrow hop hzero htwin hsession htagged hfresh hlen hmin hreserved hkept hopen hlive => ?session,
    fun k hop hsession hidentity hlen hmin hreserved hkey hsome hauth hfew hroom => ?hello,
    fun h k hop _ hfound hlen hmin hreserved hkey htime hroom => ?prove,
    fun hop hsession hkey htagged hfresh hlen hserial => ?presence⟩
  case hello =>
    rw [exec_hello, execHello, frameRow_accepted haccept, frameIn_hello hframe haddr _ _ hop hsession,
      helloIn_known hidentity hlen hmin hreserved hkey hsome hauth hfew hroom]
  case prove =>
    rw [exec_prove, execProve, frameRow_accepted haccept, frameIn_prove hframe haddr _ _ hop hfound,
      proveIn_known hlen hmin hreserved hkey htime hroom]
  case presence =>
    rw [exec_presence, execPresence, frameRow_accepted haccept, frameIn_presence hframe haddr _ _ hop hsession]
    exact congrArg _ (presenceIn_sound hkey htagged hfresh hlen hserial)
  case session =>
    intro y
    have hacted (hclient : clientOps.contains f.op = true) (hprove : f.op ≠ 3) (host : List Byte) (ok : Bool) :
        frameRow s vlan prp net host ok d =
          .next (if tagGood x.rxKey f then requestIn (updNirnar s1 x.number (fun _ => y)) y host ok f else bump s1 0x1100 0x12 1) := by
      rw [frameRow_accepted haccept, frameIn_session host ok hframe haddr hprove hzero htwin hsession hlive,
        sessionIn_sound host ok htagged hfresh hlen (hop ▸ hmin) hclient hreserved]
      exact congrArg _ (if_congr Iff.rfl (act_new host ok hkept hopen) rfl)
    simp only [List.mem_cons, Prod.mk.injEq, List.not_mem_nil, or_false] at hrow
    rcases hrow with ⟨rfl, rfl, rfl⟩ | ⟨rfl, rfl, rfl⟩ | ⟨rfl, rfl, rfl⟩ | ⟨rfl, rfl, rfl⟩ | ⟨rfl, rfl, rfl⟩ | ⟨rfl, rfl, rfl⟩ |
      ⟨rfl, rfl, rfl⟩ | ⟨rfl, rfl, rfl⟩
    all_goals
      refine (hacted (by rw [hop]; decide) (by rw [hop]; decide) _ _).trans ?_
      simp only [requestIn, hop, Nat.reduceEqDiff, if_false, if_true]

end Sys2Proof.Laws
end

section
/-! The service ports' other events, the mailboxes, the board management port and the test access port (R576 to R578, R585 to R590, R596 to
R601, R741, R743 to R747). -/

namespace Sys2Proof.Laws

open Sys2Proof Sys2Proof.Machine

variable {s : State}

/-! ### Datagrams of the standards (R576) -/

section lan

variable {s1 : State} {vlan : Nat} {prp : Option (Nat × Nat)} (haccept : lanAccept s vlan prp = (true, s1))
include haccept

theorem execArpRequest_own (port sender : Nat) (mac : List Byte) (hset : dget s1 0x1100 3 ≠ 0) :
    execArpRequest port vlan prp (dget s1 0x1100 3) sender mac s =
      .next (emit s1 (.frame 12 [port % 2, dget s1 0x1100 3, sender] (bget s1 0x1100 (1 + port % 2) ++ mac))) :=
  (onLan_accepted haccept _).trans (congrArg _ (if_pos ⟨hset, rfl⟩))

theorem execNeighbourSolicitation_linkLocal (port : Nat) (source : List Byte) :
    execNeighbourSolicitation port vlan prp (linkLocal s1 port) source s =
      .next (emit s1 (.frame 13 [port % 2] (linkLocal s1 port ++ bget s1 0x1100 (1 + port % 2) ++ source))) :=
  (onLan_accepted haccept _).trans (congrArg _ (if_pos (.inl rfl)))

theorem execIcmpEcho_own {net : Nat} (haddr : hasAddress s1 net = true) (ident seq : Nat) (data : List Byte) :
    execIcmpEcho vlan prp net false ident seq data s = .next (emit s1 (.frame 14 [net, ident, seq] data)) :=
  (onLan_accepted haccept _).trans (congrArg _ (if_pos (by simp [haddr])))

end lan

/-! ### Sessions (R585, R587, R596, R597) -/

theorem execHandshakeExpire_late {n : Nat} {h : Handshake} (hfound : s.nirnar.handshakes.find? (fun h => h.number == n) = some h)
    (hlate : h.since + 1000000000 < s.now) : execHandshakeExpire n s = .next (dropHandshake s n) := by
  simp only [execHandshakeExpire, hfound, if_pos hlate]

section session

variable {n : Nat} {x : Session} (hsession : sessionOf s n = some x)
include hsession

theorem execSessionIdle_late (hlate : x.lastHeard + 1000000 * x.idle < s.now) : execSessionIdle n s = .next (endSession s n) := by
  simp only [execSessionIdle, hsession, if_pos hlate]

/-- A changed entry is notified once MININT has passed and fewer than 4 wait for their acknowledgment. -/
theorem execNotify_changed {index sub : Nat} {u : Subscription}
    (hsub : s.subs.find? (fun u => u.session == n && u.key == dk index sub) = some u) (hchanged : u.changes ≠ 0)
    (hdue : u.lastNotify + 1000 * u.minInt ≤ s.now) (hfew : x.unacked.length < 4) :
    execNotify n index sub s = .next (sendNotify s x u 0 false) := by
  simp only [execNotify, hsession, hsub, hchanged, false_and, Nat.not_lt.2 hdue, Nat.not_le.2 hfew, or_self, if_false]

/-- A notice not acknowledged for 100 ms is sent again. -/
theorem execNotifyResend_again {nseq : Nat} {m : Unacked} {y : Session} (hfound : x.unacked.find? (fun n => n.nseq == nseq) = some m)
    (hlate : m.since + 100000000 ≤ s.now) (hfew : m.sends < 5)
    (hstill : sessionOf (updNirnar s n (fun x => { x with
      unacked := x.unacked.map (fun m => if m.nseq = nseq then { m with since := s.now, sends := m.sends + 1 } else m) })) n = some y) :
    execNotifyResend n nseq s = .next (sendFrame (updNirnar s n (fun x => { x with
      unacked := x.unacked.map (fun m => if m.nseq = nseq then { m with since := s.now, sends := m.sends + 1 } else m) })) y 0x1A 0 m.body) := by
  simp only [execNotifyResend, hsession, hfound, Nat.not_lt.2 hlate, Nat.not_le.2 hfew, if_false, hstill]

end session

/-! ### Mailboxes (R599 to R601) -/

/-- A command that a mailbox serves, with none in progress, begins. -/
theorem beginBox_served {fn : Nat} (hfn : fn < 64) (hserved : boxServed s fn = true) (hidle : (mapGet {} s.host.boxes fn).busy = false)
    (f : State → State) : beginBox fn s f = .next (f (updBox s fn (fun b => { b with busy := true, done := false }))) := by
  simp only [beginBox, if_neg (Nat.not_le.2 hfn), hserved, hidle, Bool.true_eq_false, Bool.false_eq_true, if_false]

/-- What a mailbox read does once it has begun, outside recovery mode, with a LEN that the buffer holds. -/
theorem execDictCmdRead_served {fn index sub offset : Nat} (hfn : fn < 64) (hserved : boxServed s fn = true)
    (hidle : (mapGet {} s.host.boxes fn).busy = false) :
    let s1 := updBox s fn (fun b => { b with busy := true, done := false })
    let b := mapGet {} s1.host.boxes fn
    let r := readSegment s1 (boxAccessor s1 fn) b.snapshot index sub offset b.len
    inRecoveryMode s1 = false → b.len ≤ 65536 →
    execDictCmdRead fn index sub offset s = .next (finishBox
      (updBox s1 fn (fun b => { b with snapshot := r.snapshot, buffer := mapSetRun 0 b.buffer 0 r.bytes })) fn (typeOf index sub) r.abort r.total) := by
  intro s1 b r hmode hlen
  rw [execDictCmdRead, beginBox_served hfn hserved hidle]
  have hordinary : ¬ (inRecoveryMode s1 && fn == 0 && index == 0x9003 && sub == 2) = true := by simp [hmode]
  exact congrArg _ ((if_neg (Nat.not_lt.2 hlen)).trans (if_neg hordinary))

/-- A segment that makes a mailbox write whole submits it. -/
theorem execDictCmdWrite_whole {fn index sub offset : Nat} {final : Bool} {v : List Byte} (hfn : fn < 64) (hserved : boxServed s fn = true)
    (hidle : (mapGet {} s.host.boxes fn).busy = false) (host : List Byte) (ok : Bool) :
    let s1 := updBox s fn (fun b => { b with busy := true, done := false })
    let b := mapGet {} s1.host.boxes fn
    inRecoveryMode s1 = false → b.len ≤ 65536 → gateAbort s1 true index = 0 → accessAbort s1 (boxAccessor s1 fn) true index sub = 0 →
    stageSegment s1 b.staging (dk index sub) (typeOf index sub) final offset (mapGetRun 0 b.buffer 0 b.len) = .whole v →
    execDictCmdWrite fn final index sub offset host ok s = .next (submitWrite (updBox s1 fn (fun b => { b with staging := none }))
      { asker := .mailbox fn, key := dk index sub, value := v, host := host, ok := ok }) := by
  intro s1 b hmode hlen hgate haccess hwhole
  rw [execDictCmdWrite, beginBox_served hfn hserved hidle]
  have hordinary : ¬ (inRecoveryMode s1 && fn == 0 && index == 0x9003 && sub == 1) = true := by simp [hmode]
  refine congrArg _ ((if_neg (Nat.not_lt.2 hlen)).trans ((if_neg hordinary).trans ((if_neg (not_not.2 hgate)).trans
    ((if_neg (not_not.2 haccess)).trans ?_))))
  change (match stageSegment s1 b.staging (dk index sub) (typeOf index sub) final offset (mapGetRun 0 b.buffer 0 b.len) with
    | .refused a => _ | .held x => _ | .whole v => _) = _
  rw [hwhole]

/-- Settles O34: each event where it acts. -/
theorem servicePortEventsComplete : Obligations.ServicePortEventsComplete := by
  refine ⟨fun s s1 vlan prp haccept => ⟨?arp, fun port source => execNeighbourSolicitation_linkLocal haccept port source,
      fun net ident seq data haddr => execIcmpEcho_own haccept haddr ident seq data⟩,
    fun s hup => ⟨if_pos hup, congrArg _ (if_pos hup)⟩, fun s n h hfound hlate => execHandshakeExpire_late hfound hlate,
    fun s n x hsession => ⟨execSessionIdle_late hsession,
      fun index sub u hsub hchanged hdue hfew => execNotify_changed hsession hsub hchanged hdue hfew,
      fun nseq m y hfound hlate hfew hstill => execNotifyResend_again hsession hfound hlate hfew hstill⟩,
    fun s who => ⟨rfl, rfl, rfl, rfl⟩, fun s fn index sub offset hfn hserved hidle => ?box⟩
  case arp =>
    rintro port _ sender mac hset rfl
    exact execArpRequest_own haccept port sender mac hset
  case box =>
    intro s1 b hmode hlen
    exact ⟨execDictCmdRead_served hfn hserved hidle hmode hlen, fun final ok host v hgate haccess hwhole =>
      execDictCmdWrite_whole hfn hserved hidle host ok hmode hlen hgate haccess hwhole⟩

/-! ### The board management port (R741, R743 to R745) -/

theorem execEntdaa_takes {a : Nat} (ha : a < 128) (hup : i3cAnswers s = true) (hnone : s.pkg.i3cAddr = none) :
    execEntdaa a s = .next (emit { s with pkg := { s.pkg with i3cAddr := some a } } (.mgmt 2 [a] [])) := by
  simp only [execEntdaa, if_neg (Nat.not_le.2 ha), hup, hnone, Option.isNone_none, and_self, if_true]

theorem withPldm_answers {a : Nat} (hup : i3cAnswers s = true) (haddr : s.pkg.i3cAddr = some a) (f : State → State) :
    withPldm s f = .next (f s) := if_pos ⟨hup, by rw [haddr]; rfl⟩

section pldm

variable {a : Nat} (hup : i3cAnswers s = true) (haddr : s.pkg.i3cAddr = some a)
include hup haddr

/-- A base command that the target has, answered from its own arm. -/
theorem execPldmBaseDiscovery_unsupported {ty command : Nat} (hother : ty ≠ 0 ∨ command ∉ [2, 3, 4, 5]) (arg : Nat) :
    execPldmBaseDiscovery ty command arg s = .next (pldmError s ty 5) := by
  rw [execPldmBaseDiscovery, withPldm_answers hup haddr]
  by_cases hty : ty = 0
  · have hcommand : command ∉ [2, 3, 4, 5] := hother.resolve_left (not_not.2 hty)
    simp only [List.mem_cons, List.not_mem_nil, or_false, not_or] at hcommand
    obtain ⟨h2, h3, h4, h5⟩ := hcommand
    rw [if_neg (not_not.2 hty), hty]
    split
    · exact absurd rfl h2
    · exact absurd rfl h3
    · exact absurd rfl h4
    · exact absurd rfl h5
    · rfl
  · rw [if_pos hty]

theorem execPldmBaseDiscovery_version {arg : Nat} (harg : arg ∈ [0, 2, 4]) :
    execPldmBaseDiscovery 0 3 arg s = .next (pldmAnswer s 0 0 [arg, 1] []) := by
  have hknown : arg = 0 ∨ arg = 2 ∨ arg = 4 := by simpa using harg
  exact (withPldm_answers hup haddr _).trans (congrArg _ (if_pos hknown))

/-- A sensor is read by the command of its kind; one whose value is not known is unavailable. -/
theorem execPldmSensorRead_known {n command : Nat} (hlow : 1 ≤ n) (hhigh : n ≤ 26) (hcommand : command = if n ≤ 12 then 0x11 else 0x21) :
    execPldmSensorRead command n s = .next (pldmAnswer s 2 0 (match sensorValue s n with
      | some v => [n, 0, v]
      | none => [n, 2]) []) := by
  have hkind : ¬ (command ≠ 0x11 ∧ command ≠ 0x21) := by
    rw [hcommand]
    split <;> decide
  have hrange : ¬ (n = 0 ∨ 26 < n ∨ (command = 0x11) ≠ (n ≤ 12)) := by
    rw [hcommand]
    split <;> simp <;> omega
  rw [execPldmSensorRead, withPldm_answers hup haddr]
  simp only [if_neg hkind, if_neg hrange]
  cases sensorValue s n <;> rfl

theorem execPldmFruRead_unsupported {command : Nat} (hother : command ∉ [1, 2]) : execPldmFruRead command s = .next (pldmError s 4 5) := by
  simp only [List.mem_cons, List.not_mem_nil, or_false, not_or] at hother
  obtain ⟨h1, h2⟩ := hother
  rw [execPldmFruRead, withPldm_answers hup haddr]
  split
  · exact absurd rfl h1
  · exact absurd rfl h2
  · rfl

end pldm

/-! ### The test access port (R747) -/

theorem withTap_powered (hon : s.dev ≠ .off) (f : State → State) : withTap s f = .next (f s) := if_neg hon

/-- Settles O35: each command of the two ports where it is answered. -/
theorem packagePortsAnswer : Obligations.PackagePortsAnswer := by
  refine ⟨fun s a ha hup hnone => execEntdaa_takes ha hup hnone, fun s a hup haddr => ?pldm, fun s hon => ?tap⟩
  case pldm =>
    refine ⟨fun arg => ⟨?tid, ?types⟩, fun arg harg => execPldmBaseDiscovery_version hup haddr harg, fun e he => ?commands,
      fun ty command arg hother => execPldmBaseDiscovery_unsupported hup haddr hother arg,
      fun n command hlow hhigh hcommand => execPldmSensorRead_known hup haddr hlow hhigh hcommand, ?metadata, ?table,
      fun command hother => execPldmFruRead_unsupported hup haddr hother⟩
    case tid | types => rw [exec_pldmBaseDiscovery, execPldmBaseDiscovery, withPldm_answers hup haddr]; rfl
    case metadata | table => rw [exec_pldmFruRead, execPldmFruRead, withPldm_answers hup haddr]; rfl
    case commands =>
      simp only [List.mem_cons, List.not_mem_nil, or_false] at he
      rw [exec_pldmBaseDiscovery, execPldmBaseDiscovery, withPldm_answers hup haddr]
      rcases he with rfl | rfl | rfl <;> rfl
  case tap =>
    refine ⟨?bypass, ?idcode, fun levels pattern => ?sample, fun c ir drive hrow => ?boundary⟩
    case bypass => rw [exec_bypass, execBypass, withTap_powered hon]; rfl
    case idcode => rw [exec_idcode, execIdcode, withTap_powered hon]; rfl
    case sample => rw [exec_samplePreload, execSamplePreload, withTap_powered hon]; rfl
    case boundary =>
      have hop : exec c s = boundaryOp s ir drive := by
        simp only [List.mem_cons, Prod.mk.injEq, List.not_mem_nil, or_false] at hrow
        rcases hrow with ⟨rfl, rfl, rfl⟩ | ⟨rfl, rfl, rfl⟩ | ⟨rfl, rfl, rfl⟩ | ⟨rfl, rfl, rfl⟩ | ⟨rfl, rfl, rfl⟩ <;> rfl
      rw [hop, boundaryOp, withTap_powered hon]
      rfl

end Sys2Proof.Laws
end

section
/-! Resets as later proofs need them; temperatures, arbitration and the regulators (R605 to R623). -/

namespace Sys2Proof.Laws

open Sys2Proof Sys2Proof.Machine

/-! ### Entry into RESET and OFF (R8, R625, R627) -/

section reset

variable (s : State) (cause : Nat)

/-- Releasing the pins changes the pins and what leaves the device alone. -/
theorem releasePins_fields : ∃ pkg out, releasePins s = { s with pkg := pkg, out := out } ∧ pkg.tripLow = false ∧
    pkg.pwrgd = s.pkg.pwrgd ∧ pkg.pwrgdSince = s.pkg.pwrgdSince := by
  unfold releasePins
  split <;> split
  · exact ⟨_, _, rfl, rfl, rfl, rfl⟩
  · next h => exact ⟨_, _, rfl, by simpa using h, rfl, rfl⟩
  · exact ⟨_, _, rfl, rfl, rfl, rfl⟩
  · next h => exact ⟨_, _, rfl, by simpa using h, rfl, rfl⟩

@[simp] theorem enterReset_dev : (enterReset s cause).dev = .reset := by simp [enterReset, carried, State.reset]

@[simp] theorem dget_enterReset_cause : dget (enterReset s cause) 0x2000 5 = cause := dget_dset_self _ _ _ _

@[simp] theorem enterReset_flash : (enterReset s cause).flash = s.flash := by
  obtain ⟨pkg, out, hpins, -⟩ := releasePins_fields s
  simp [enterReset, carried, hpins]

@[simp] theorem enterReset_tripLow : (enterReset s cause).pkg.tripLow = false := by
  obtain ⟨pkg, out, hpins, htrip, -⟩ := releasePins_fields s
  simp [enterReset, carried, hpins, htrip]

@[simp] theorem enterReset_pwrgd : (enterReset s cause).pkg.pwrgd = s.pkg.pwrgd := by
  obtain ⟨pkg, out, hpins, -, hpwrgd, -⟩ := releasePins_fields s
  simp [enterReset, carried, hpins, hpwrgd]

@[simp] theorem enterReset_pwrgdSince : (enterReset s cause).pkg.pwrgdSince = s.pkg.pwrgdSince := by
  obtain ⟨pkg, out, hpins, -, -, hsince⟩ := releasePins_fields s
  simp [enterReset, carried, hpins, hsince]

@[simp] theorem enterReset_trip : (enterReset s cause).power.trip = s.power.trip := by
  obtain ⟨pkg, out, hpins, -⟩ := releasePins_fields s
  simp [enterReset, carried, hpins]

@[simp] theorem enterReset_ring : (enterReset s cause).faults.ring = [] := by simp [enterReset, carried, State.reset]

@[simp] theorem enterOff_flash : (enterOff s).flash = s.flash := by
  obtain ⟨pkg, out, hpins, -⟩ := releasePins_fields s
  simp [enterOff, carried, hpins]

end reset

variable {s : State}

/-! ### Temperatures (R614, R619, R620) -/

/-- The state of a scan once every reading is taken. -/
def scanned (s : State) (readings : List (Option Int)) : State :=
  let r := readSensors s 0 ((readings ++ List.replicate sensorCount none).take sensorCount)
  { r with power := { r.power with scans := r.power.scans + 1 } }

section scan

variable (hon : s.dev ≠ .off) {readings : List (Option Int)}
include hon

theorem execSensorScan_hold (hdev : s.dev = .thermalHold) : execSensorScan readings s = .next { scanned s readings with
    power := { (scanned s readings).power with
      coolSince := if allCool (scanned s readings) then some ((scanned s readings).power.coolSince.getD s.now) else none } } := by
  unfold scanned
  rw [execSensorScan, if_neg hon, if_pos hdev]

theorem execSensorScan_trip {i : Nat} (hdev : s.dev ≠ .thermalHold) (hconfirmed : confirmed s (scanned s readings) = some i) :
    execSensorScan readings s = .next (thermalTrip (scanned s readings) i) := by
  unfold scanned at hconfirmed ⊢
  rw [execSensorScan, if_neg hon, if_neg hdev, hconfirmed]

theorem execSensorScan_quiet (hdev : s.dev ≠ .thermalHold) (hquiet : confirmed s (scanned s readings) = none) :
    execSensorScan readings s = .next (if (hotRefresh (scanned s readings)).power.scans % 100 = 0
      then publishTemps (hotRefresh (scanned s readings)) else hotRefresh (scanned s readings)) := by
  unfold scanned at hquiet ⊢
  rw [execSensorScan, if_neg hon, if_neg hdev, hquiet]

end scan

theorem thermalTrip_out (i : Nat) : (thermalTrip s i).out.getLast? = some (.pin pinThermtripN false) := by
  simp [thermalTrip]

theorem execThermalHoldEnd_cool {since : Nat} (hdev : s.dev = .thermalHold) (hcool : s.power.coolSince = some since)
    (hlong : since + 30000000000 ≤ s.now) : execThermalHoldEnd s = .next (enterReset { s with power := { s.power with trip := { s.power.trip with
      holdMs := min ((s.now - s.power.holdSince) / 1000000) (2 ^ 32 - 1) } } } 4) := by
  unfold execThermalHoldEnd
  simp only [hdev, hcool, if_pos hlong]

/-! ### The regulators and the references (R607 to R609, R618) -/

theorem execPmbusPoll_none (hup : firmwareUp s = true) (hnamed : railsNamed s = []) (rails : List (Nat × Nat × Nat × Nat)) :
    execPmbusPoll rails s = .next (dset { s with power := { s.power with c := none, costSum := 0, costEpochs := 0, ran := false } }
      0x3000 7 (dget s 0x3001 8)) := by
  simp [execPmbusPoll, hup, hnamed]

/-- One die's references at its temperature. -/
def vrefStep (s : State) (d : Nat) : State :=
  match dieTemp s d with
  | some t => { s with power := { s.power with vref := mapSet 0 s.power.vref d (Config.vrefPolynomial (configCopy s) d t) } }
  | none => s

theorem vrefStep_eq (d : Nat) : ∃ v, vrefStep s d = { s with power := { s.power with vref := v } } := by
  unfold vrefStep
  split <;> exact ⟨_, rfl⟩

theorem dieTemp_withVref (v : Map Nat) (d : Nat) : dieTemp { s with power := { s.power with vref := v } } d = dieTemp s d := rfl

theorem mapGet_vrefStep (d k : Nat) : mapGet 0 (vrefStep s d).power.vref k = if k = d then
      (match dieTemp s d with
        | some c => Config.vrefPolynomial (configCopy s) d c
        | none => mapGet 0 s.power.vref d)
    else mapGet 0 s.power.vref k := by
  unfold vrefStep
  split
  · exact mapGet_mapSet 0 _ _ _ _
  · split
    · next h => rw [h]
    · rfl

/-- After the dies of a list without repetition, each of them has followed its temperature. -/
theorem mapGet_foldl_vrefStep : ∀ (ds : List Nat) (s : State) (k : Nat), ds.Nodup → mapGet 0 (ds.foldl vrefStep s).power.vref k =
    if k ∈ ds then
      (match dieTemp s k with
        | some c => Config.vrefPolynomial (configCopy s) k c
        | none => mapGet 0 s.power.vref k)
    else mapGet 0 s.power.vref k
  | [], _, _, _ => by simp
  | d :: ds, s, k, hnodup => by
    obtain ⟨hnot, hrest⟩ := List.nodup_cons.1 hnodup
    obtain ⟨v, hv⟩ := vrefStep_eq (s := s) d
    have htemp : dieTemp (vrefStep s d) k = dieTemp s k := by rw [hv]; rfl
    have hcopy : configCopy (vrefStep s d) = configCopy s := by rw [hv]; rfl
    rw [List.foldl_cons, mapGet_foldl_vrefStep ds _ k hrest, htemp, hcopy, mapGet_vrefStep]
    by_cases hk : k = d
    · subst hk
      simp [hnot]
    · simp [hk]

theorem execVrefCorrection_eq (hup : firmwareUp s = true) : execVrefCorrection s = .next ((List.range 138).foldl vrefStep s) :=
  if_neg (by simp [hup])

/-- Settles O36: each event where it acts. -/
theorem powerEventsComplete : Obligations.PowerEventsComplete := by
  refine ⟨fun s readings hon => ?scan,
    fun s since hdev hcool hlong => ⟨_, execThermalHoldEnd_cool hdev hcool hlong, enterReset_dev _ _, dget_enterReset_cause _ _,
      enterReset_tripLow _ _, enterReset_trip _ _⟩,
    fun s hup => ?epoch, fun s hup => ?caps,
    fun s rails hup => ⟨fun hnone => execPmbusPoll_none hup hnone rails, fun hsome => ?rails⟩,
    fun s hup _ => ⟨_, execVrefCorrection_eq hup, fun d hd => ?vref⟩⟩
  case scan =>
    intro r s2
    have hs2 : s2 = scanned s readings := rfl
    clear_value s2
    subst hs2
    rw [exec_sensorScan]
    exact ⟨fun hhold => execSensorScan_hold hon hhold,
      fun hdev i hconfirmed => ⟨_, execSensorScan_trip hon hdev hconfirmed, rfl, rfl, rfl, rfl, rfl, thermalTrip_out i⟩,
      fun hdev hquiet => execSensorScan_quiet hon hdev hquiet⟩
  case epoch =>
    rw [exec_arbiterEpoch, execArbiterEpoch, if_neg (by simp [hup])]
  case caps =>
    rw [exec_dieCapUpdate, execDieCapUpdate, if_neg (by simp [hup])]
  case rails =>
    intro s1 power s2 s3 s4 exceeded
    rw [exec_pmbusPoll, execPmbusPoll, if_neg (by simp [hup]), if_neg hsome]
    simp only [Bool.or_eq_true, Bool.and_eq_true, Bool.not_eq_true', List.all_eq_true, beq_iff_eq, decide_eq_true_eq]
    rfl
  case vref =>
    rw [mapGet_foldl_vrefStep _ _ _ (List.nodup_range), if_pos (List.mem_range.2 hd)] <;> rfl

end Sys2Proof.Laws
end

section
/-! Power, the boot ROM, CONFIG and the device commands (R624 to R635, R643, R644). -/

namespace Sys2Proof.Laws

open Sys2Proof Sys2Proof.Machine

variable {s : State}

/-! ### Power and ROM (R625, R629, R711) -/

theorem execPwrgdRise_off (hdev : s.dev = .off) (hlow : s.pkg.pwrgd = false) : execPwrgdRise s = .next { enterReset s 0 with
    pkg := { (enterReset s 0).pkg with pwrgd := true, pwrgdSince := s.now }
    health := { (enterReset s 0).health with hourSince := s.now } } := if_pos ⟨hdev, hlow⟩

theorem execResetToRom_cool (hdev : s.dev = .reset) (hcool : ∀ i < 656, (s.sensor i).hot = false ∨ (s.sensor i).failed = true) :
    execResetToRom s = .next (emit (noteChange { s with dev := .rom } (dk 0x1000 0xF)) (.pulse pinXspiResetN 10000)) := by
  have hall : (List.range sensorCount).all (fun i => !(s.sensor i).hot || (s.sensor i).failed) = true := by
    simp only [List.all_eq_true, List.mem_range, Bool.or_eq_true, Bool.not_eq_true']
    exact hcool
  exact if_pos ⟨hdev, hall⟩

/-- What a boot rests on: the cores agree, the boot record names the manifest, and the manifest and the set are sound. -/
theorem ite_boots (agree unnamed sets : Bool) (digest named : List Byte) (status : Nat) (boots recovers : State) :
    (if (agree && (unnamed || digest == named) && status == 0 && sets) = true then Host.Outcome.next boots else .next recovers : Res) =
      .next (if agree = true ∧ (unnamed = true ∨ digest = named) ∧ status = 0 ∧ sets = true then boots else recovers) := by
  simp only [Bool.and_eq_true, Bool.or_eq_true, beq_iff_eq, and_assoc]
  split <;> rfl

section rom

variable (hdev : s.dev = .rom) (hmode : s.sec.recoveryMode = false) (agree : Bool) (trained : List Nat)
include hdev hmode

theorem execRomBootDone_noCopy (hnone : chooseCopy s.flash.cfgA s.flash.cfgB = none) :
    execRomBootDone agree trained s = .next (enterRecoveryMode s true) := by
  rw [execRomBootDone, if_neg (by simp [hdev, hmode]), hnone]

theorem execRomBootDone_copy {c : Nat} (hsome : chooseCopy s.flash.cfgA s.flash.cfgB = some c) :
    let s1 := loadIdentity (endTrial { s with sec := { s.sec with identity := true, cfgCopy := c } })
    let b := bootRecord s1
    let m := manifestOf s1 b.run
    execRomBootDone agree trained s = .next (
      if agree = true ∧ (noBoot s1 = true ∨ Config.sha512 m = b.digest) ∧ manStatus m b.floor = 0 ∧ setOk s1 b.run = true
      then enterConfig { s1 with sec := { s1.sec with runSet := b.run } } trained else enterRecoveryMode s1 false) := by
  intro s1 b m
  rw [execRomBootDone, if_neg (by simp [hdev, hmode]), hsome]
  exact ite_boots agree (noBoot s1) (setOk s1 b.run) (Config.sha512 m) b.digest (manStatus m b.floor) _ _

end rom

/-! ### CONFIG ends (R634) -/

/-- READY or SERVICE follows where nothing speaks for TEST. -/
theorem ite_test_or_ready {α : Type} (ok held asked : Bool) (test ready : α) :
    (if (!ok || held || asked) = true then test else ready) = if ok = true ∧ held = false ∧ asked = false then ready else test := by
  cases ok <;> cases held <;> cases asked <;> rfl

theorem execConfigDone_ended (hdev : s.dev = .config) (hwaiting : s.test.waiting = []) (hrunning : s.test.running = [])
    (hdeferred : s.test.deferred = []) :
    let s1 := countSpares ((List.range 8).foldl openStack s)
    let s2 := loadEngines (deriveFigures { s1 with pots := [], locals := [], buffers := [], merges := [] })
    let s3 := dset s2 0x7100 0xA (sumNat ((List.range 8).map (fun st => 32 - chanCount (s2.stack st))))
    let s4 := if anyRetired s3 then dset s3 0x1000 0x10 1 else s3
    let s5 := if minimumMet s4 then s4 else startEvent s4 0x262 kindDevice 0
    execConfigDone s = .next (if minimumMet s4 = true ∧ dbool s5 0x2000 3 = false ∧ s5.test.enterTest = false then readyThenService s5
      else enterTest s5) := by
  intro s1 s2 s3 s4 s5
  have hended : ¬ (s.dev ≠ .config ∨ s.test.waiting ≠ [] ∨ s.test.running ≠ [] ∨ s.test.deferred ≠ []) := by
    simp [hdev, hwaiting, hrunning, hdeferred]
  rw [execConfigDone, if_neg hended]
  exact congrArg _ (ite_test_or_ready (minimumMet s4) (dbool s5 0x2000 3) s5.test.enterTest _ _)

/-! ### Device commands (R626) -/

section commands

variable (hon : s.dev ≠ .off)
include hon

theorem execDeviceEnterTest_ready (hdev : s.dev = .ready) : execDeviceEnterTest s = .next (
    if (pairState s = pairDisabled ∨ pairState s = pairSeeking ∨ pairState s = pairHeld) ∧ noRequests s = true
    then dictAnswer (enterTest s) 0 else dictAnswer s 0x04060201) := by
  rw [execDeviceEnterTest, if_neg hon, if_neg (by simp [hdev]), if_neg (not_not.2 hdev)]
  split <;> rfl

theorem execDeviceEnterTest_elsewhere (hconfig : s.dev ≠ .config) (hready : s.dev ≠ .ready) :
    execDeviceEnterTest s = .next (refuseInState s) := by
  rw [execDeviceEnterTest, if_neg hon, if_neg hconfig, if_pos hready]

theorem execLeaveTest_eq : execLeaveTest s = if s.dev ≠ .test then .next (refuseInState s)
    else if minimumMet s then .next (dictAnswer (readyThenService (leaveTest s)) 0) else .next (dictAnswer s 0x04060201) := by
  rw [execLeaveTest, if_neg hon]
  cases minimumMet s <;> rfl

theorem execStopService_eq : execStopService s = if s.dev ≠ .service then .next (refuseInState s)
    else if (List.range 63).all (fun t => (s.tenant (t + 1)).state == .unassigned) = true ∧ noRequests s = true ∧
        (pairState s = pairDisabled ∨ pairState s = pairSeeking ∨ pairState s = pairSolo ∨ pairState s = pairHeld)
    then .next (dictAnswer (disableRings (enterReady s) 0) 0) else .next (dictAnswer s 0x04060201) := by
  rw [execStopService, if_neg hon]
  simp only [Bool.and_eq_true, Bool.or_eq_true, beq_iff_eq, and_assoc, or_assoc]

end commands

/-- Settles O37: each event and command where it acts. -/
theorem startUpEventsComplete : Obligations.StartUpEventsComplete := by
  refine ⟨fun s => ⟨fun hdev hlow => ?rise, fun hhigh => ?fall, fun hhigh hon => ?sysref⟩, fun s hdev hcool => ?rom,
    fun s agree trained hdev hmode => ⟨fun hnone => execRomBootDone_noCopy hdev hmode agree trained hnone,
      fun c hsome => execRomBootDone_copy hdev hmode agree trained hsome⟩,
    fun s hdev hwaiting hrunning hdeferred => execConfigDone_ended hdev hwaiting hrunning hdeferred,
    fun s hon => ⟨if_neg hon, fun hdev => (if_neg hon).trans (if_pos hdev), fun hdev => execDeviceEnterTest_ready hon hdev,
      fun hconfig hready => execDeviceEnterTest_elsewhere hon hconfig hready, execLeaveTest_eq hon, if_neg hon, execStopService_eq hon⟩,
    fun s => ⟨fun hdark => if_pos hdark, fun hon hhot => ?perst⟩, fun s cause since hwaits hdue => ?withdraw⟩
  case rise => exact ⟨_, execPwrgdRise_off hdev hlow, enterReset_dev s 0, rfl, rfl, enterReset_flash s 0, dget_enterReset_cause s 0⟩
  case fall => exact ⟨_, if_pos hhigh, rfl, rfl, enterOff_flash _, rfl, rfl⟩
  case sysref => exact ⟨_, if_pos ⟨hhigh, hon⟩, rfl, enterOff_flash _, rfl, rfl⟩
  case rom => exact ⟨_, execResetToRom_cool hdev hcool, by simp, by simp⟩
  case perst =>
    have hlit : ¬ (s.dev = .off ∨ s.dev = .thermalHold) := by simp [hon, hhot]
    intro s2
    rw [exec_perstNAssert, execPerstNAssert, if_neg hlit, apply_ite Host.Outcome.next, apply_ite Host.Outcome.next]
  case withdraw =>
    rw [exec_withdrawWaitExpire, execWithdrawWaitExpire, hwaits]
    exact if_pos hdue

end Sys2Proof.Laws
end

section
/-! Self-test units and in-field runs (R636 to R651). -/

namespace Sys2Proof.Laws

open Sys2Proof Sys2Proof.Machine

variable {s : State}

/-! ### SELFTEST_UNIT_START (R638, R640, R647) -/

section start

variable {u : TestUnit} {rest : List TestRange} (mv khz : Nat)

/-- The state once the voltage is asked for and, in the field, the unit's engine takes no more entries. -/
def preparedUnit (s : State) (u : TestUnit) : State :=
  match unitEngine u with
  | some e => if inField s ∧ s.test.stopped.contains e = false
      then { askVoltage s u with test := { (askVoltage s u).test with stopped := e :: (askVoltage s u).test.stopped } } else askVoltage s u
  | none => askVoltage s u

theorem preparedUnit_startUp (hfield : inField s = false) : preparedUnit s u = askVoltage s u := by
  unfold preparedUnit
  split
  · exact if_neg (by simp [hfield])
  · rfl

variable (hnext : nextUnit s.test.waiting = some (u, rest))
include hnext

/-- A unit that finds no grant, or whose engine is at work, waits. -/
theorem execSelftestUnitStart_waits (hwait : unitRoom s u = false ∨ (inField s = true ∧ unitIdle s u = false)) :
    execSelftestUnitStart mv khz s = .next (preparedUnit s u) := by
  rw [execSelftestUnitStart, hnext]
  exact if_pos hwait

/-- A unit that may start begins in its window. -/
theorem execSelftestUnitStart_begins (hroom : unitRoom s u = true) (hidle : inField s = true → unitIdle s u = true)
    (hwindow : isLogic u.kind = false ∨ windowMet mv khz = true) : execSelftestUnitStart mv khz s =
      .next (beginUnit { preparedUnit s u with test := { (preparedUnit s u).test with waiting := rest } } u) := by
  have hgo : ¬ (unitRoom s u = false ∨ (inField s = true ∧ unitIdle s u = false)) := by
    simp only [hroom, Bool.true_eq_false, false_or, not_and, Bool.not_eq_false]
    exact hidle
  rw [execSelftestUnitStart, hnext]
  exact (if_neg hgo).trans (if_pos hwindow)

/-- Outside its window a unit is told of: deferred at start-up, ended in the field. -/
theorem execSelftestUnitStart_window (hroom : unitRoom s u = true) (hidle : inField s = true → unitIdle s u = true)
    (hlogic : isLogic u.kind = true) (hwindow : windowMet mv khz = false) :
    let s3 := testEvent { preparedUnit s u with test := { (preparedUnit s u).test with waiting := rest } } u 0x260
    execSelftestUnitStart mv khz s = .next (if inField s then afterScan (resumeEngine s3 u) u true
      else { s3 with test := { s3.test with deferred := s3.test.deferred ++ [(u, s.now)] } }) := by
  have hgo : ¬ (unitRoom s u = false ∨ (inField s = true ∧ unitIdle s u = false)) := by
    simp only [hroom, Bool.true_eq_false, false_or, not_and, Bool.not_eq_false]
    exact hidle
  have houtside : ¬ (isLogic u.kind = false ∨ windowMet mv khz = true) := by simp [hlogic, hwindow]
  intro s3
  rw [execSelftestUnitStart, hnext, apply_ite Host.Outcome.next]
  exact (if_neg hgo).trans (if_neg houtside)

end start

/-! ### The other events -/

theorem execSelftestRetry_oldest {u : TestUnit} {since : Nat} {rest : List (TestUnit × Nat)} (holdest : s.test.deferred = (u, since) :: rest)
    (mv khz : Nat) :
    let s1 : State := { s with test := { s.test with deferred := rest } }
    execSelftestRetry mv khz s = .next (if windowMet mv khz = true ∧ unitRoom s u = true then beginUnit s1 u
      else if since + 2000000000 ≤ s.now then afterScan (bump s1 0x7100 5 1) u true
      else { s1 with test := { s1.test with deferred := rest ++ [(u, since)] } }) := by
  intro s1
  rw [execSelftestRetry, holdest, apply_ite Host.Outcome.next, apply_ite Host.Outcome.next]

section run

variable {data : List Byte} (hon : s.dev ≠ .off)
include hon

theorem execRunRequest_starts :
    let s0 := if s.health.probes = [] then s else abandonProbes s
    runAbort s0 data = 0 → execRunRequest data s = .next (dictAnswer (startRun s0 data) 0) := by
  intro s0 hsound
  have hstate : ¬ runAbort s0 data / 65536 = 0x0201 := by simp [hsound]
  exact (if_neg hon).trans ((if_neg hstate).trans (if_neg (not_not.2 hsound)))

theorem execRunRequest_refused :
    let s0 := if s.health.probes = [] then s else abandonProbes s
    runAbort s0 data ≠ 0 → execRunRequest data s =
      .next (dictAnswer (if runAbort s0 data / 65536 = 0x0201 then cmdState s else s) (runAbort s0 data)) := by
  intro s0 hrefused
  refine (if_neg hon).trans ?_
  by_cases hstate : runAbort s0 data / 65536 = 0x0201
  · exact (if_pos hstate).trans (by rw [if_pos hstate])
  · exact (if_neg hstate).trans ((if_pos hrefused).trans (by rw [if_neg hstate]))

end run

/-- Settles O38: each event where it acts. -/
theorem selfTestEventsComplete : Obligations.SelfTestEventsComplete := by
  refine ⟨fun s mv khz u rest hnext hfield => ?startUp, fun s mv khz u rest hnext hfield => ?field,
    fun s mv khz since u rest holdest => execSelftestRetry_oldest holdest mv khz,
    fun s u signature pass identityOk badRows hruns => if_pos (List.contains_iff_mem.2 hruns),
    fun s data hon => ⟨execRunRequest_starts hon, execRunRequest_refused hon⟩, fun s r hrun hwaiting hrunning => ?done⟩
  case startUp =>
    have hnever : inField s = true → unitIdle s u = true := fun h => absurd h (by simp [hfield])
    rw [exec_selftestUnitStart, ← preparedUnit_startUp hfield]
    refine ⟨fun hroom => execSelftestUnitStart_waits mv khz hnext (.inl hroom), fun hroom =>
      ⟨execSelftestUnitStart_begins mv khz hnext hroom hnever, fun hlogic hwindow => ?_⟩⟩
    rw [execSelftestUnitStart_window mv khz hnext hroom hnever hlogic hwindow]
    exact congrArg _ (if_neg (by simp [hfield]))
  case field =>
    have hprepared : preparedUnit s u = (match unitEngine u with
      | some e => if s.test.stopped.contains e = false
          then { askVoltage s u with test := { (askVoltage s u).test with stopped := e :: (askVoltage s u).test.stopped } } else askVoltage s u
      | none => askVoltage s u) := by
      unfold preparedUnit
      simp only [hfield, true_and]
    rw [exec_selftestUnitStart]
    intro s0 s1
    have hs1 : s1 = preparedUnit s u := hprepared.symm
    clear_value s1
    subst hs1
    refine ⟨fun hwait => execSelftestUnitStart_waits mv khz hnext (hwait.imp_right fun h => ⟨hfield, h⟩), fun hroom hidle => ?_⟩
    intro s2
    by_cases hwindow : isLogic u.kind = false ∨ windowMet mv khz = true
    · rw [if_pos hwindow]
      exact execSelftestUnitStart_begins mv khz hnext hroom (fun _ => hidle) hwindow
    · obtain ⟨hlogic, hmissed⟩ := not_or.1 hwindow
      rw [if_neg hwindow, execSelftestUnitStart_window mv khz hnext hroom (fun _ => hidle) (by simpa using hlogic) (by simpa using hmissed)]
      exact congrArg _ (if_pos hfield)
  case done =>
    rw [exec_runDone, execRunDone, hrun]
    exact if_pos ⟨hwaiting, hrunning⟩

end Sys2Proof.Laws
end

section
/-! The service cores, device recovery and the fault record's commands (R658 to R675). -/

namespace Sys2Proof.Laws

open Sys2Proof Sys2Proof.Machine

variable {s : State}

/-! ### Service cores (R658 to R661) -/

/-- What a core becomes, and that the other one stays. -/
theorem coreOf_updCore (s : State) {core : Nat} (hcore : core ≤ 1) (f : ServiceCore → ServiceCore) :
    coreOf (updCore s core f) core = f (coreOf s core) ∧ coreOf (updCore s core f) (1 - core) = coreOf s (1 - core) := by
  rcases Nat.le_one_iff_eq_zero_or_eq_one.1 hcore with rfl | rfl <;> exact ⟨rfl, rfl⟩

section heartbeat

variable {checker : Nat} (hchecker : checker ≤ 1) (hup : firmwareUp s = true) (hself : (coreOf s checker).up = true)
  (hother : (coreOf s (1 - checker)).up = true)
include hchecker hup hself hother

/-- A check by a core that runs, of one that runs. -/
theorem execCoreHeartbeatCheck_runs (changed : Bool) : execCoreHeartbeatCheck checker changed s =
    if changed then .next (updCore s (1 - checker) (fun c => { c with missed := 0, lastBeat := s.now }))
    else .next (if 3 ≤ (coreOf s (1 - checker)).missed + 1
      then loseCore (updCore s (1 - checker) (fun c => { c with missed := c.missed + 1 })) (1 - checker)
      else updCore s (1 - checker) (fun c => { c with missed := c.missed + 1 })) := by
  have hruns : ¬ (coresRun s = false ∨ (coreOf s checker).up = false ∨ (coreOf s (1 - checker)).up = false) := by
    simp [coresRun, hup, hself, hother]
  rw [execCoreHeartbeatCheck, if_neg (Nat.not_lt.2 hchecker), if_neg hruns]

theorem execCoreHeartbeatCheck_missed (hfew : (coreOf s (1 - checker)).missed < 2) : execCoreHeartbeatCheck checker false s =
    .next (updCore s (1 - checker) (fun c => { c with missed := c.missed + 1 })) :=
  (execCoreHeartbeatCheck_runs hchecker hup hself hother false).trans
    (congrArg Host.Outcome.next (if_neg (Nat.not_le.2 (Nat.succ_lt_succ hfew))))

theorem execCoreHeartbeatCheck_third (hmany : 2 ≤ (coreOf s (1 - checker)).missed) : execCoreHeartbeatCheck checker false s =
    .next (loseCore (updCore s (1 - checker) (fun c => { c with missed := c.missed + 1 })) (1 - checker)) :=
  (execCoreHeartbeatCheck_runs hchecker hup hself hother false).trans (congrArg Host.Outcome.next (if_pos (Nat.succ_le_succ hmany)))

end heartbeat

theorem execServiceCoreRestartDone_restarting {core : Nat} (hcore : core ≤ 1) (hrestart : (coreOf s core).restarting = true) :
    execServiceCoreRestartDone core s =
      .next (updCore s core (fun c => { c with up := true, restarting := false, missed := 0, lastBeat := s.now })) :=
  (if_neg (Nat.not_lt.2 hcore)).trans (if_pos hrestart)

theorem execServiceCoresDead_dead (hup : firmwareUp s = true) (hA : s.faults.coreA.up = false)
    (hB : s.faults.coreB.lastBeat + 1000000 ≤ s.now) : execServiceCoresDead s = .next (enterReset s 5) :=
  if_pos ⟨hup, by simp [hA], by simp [hB]⟩

/-! ### Device recovery (R670, R672) -/

theorem execRecoveryDone_inTime {w : Window} {since : Nat} (hwindow : deviceWindow s = some w) (hsince : s.faults.recoverySince = some since)
    (htime : s.now ≤ since + 1000000 * dget s 0x8002 1) (hready : recoveryReady s = true) :
    let s1 := (List.range 9).foldl (fun s e => reloadServing s e (decide (w.kind = kindEngine) && decide (w.index = e))) s
    let s2 : State := { s1 with
      dev := if s1.dev = .recovery then .service else s1.dev
      faults := { s1.faults with recoverySince := none, interrupted := s1.faults.interrupted.filter (fun v => v.kind != kindSlot) } }
    let s3 := recordEntry (noteChange s2 (dk 0x1000 0xF)) (faultOf 0x275 clsCorrected w.kind w.index 0xFF ((s.now - since) / 1000))
    execRecoveryDone s = .next (closeWindow
      ((List.range 64).foldl (fun s t => if (s.tenant t).state = .active then releaseDoorbells s t else s) s3)) := by
  intro s1 s2 s3
  have hnow : ¬ (recoveryReady s = false ∨ since + 1000000 * dget s 0x8002 1 < s.now) := by
    simp only [hready, Bool.true_eq_false, false_or, Nat.not_lt]
    exact htime
  rw [execRecoveryDone, hwindow, hsince]
  exact if_neg hnow

theorem execRecoveryTimeout_late {w : Window} {since : Nat} (hwindow : deviceWindow s = some w)
    (hsince : s.faults.recoverySince = some since) (hlate : since + 1000000 * dget s 0x8002 1 < s.now) (hfatal : s.faults.fatal = none) :
    execRecoveryTimeout s = .next (recordFault s (faultOf 0x273 clsFatal w.kind w.index 0xFF 0)) := by
  have hnow : ¬ (s.now ≤ since + 1000000 * dget s 0x8002 1 ∨ s.faults.fatal.isSome = true) := by
    simp only [hfatal, Option.isSome_none, Bool.false_eq_true, or_false, Nat.not_le]
    exact hlate
  rw [execRecoveryTimeout, hwindow, hsince]
  exact if_neg hnow

/-- A FATAL fault's entry is stored, and the device resets with cause 3. -/
theorem execFatalReset_fatal {f : FaultEntry} (hfatal : s.faults.fatal = some f) : ∃ r, execFatalReset s = .next (enterReset r 3) := by
  rw [execFatalReset, hfatal]
  exact ⟨_, rfl⟩

/-! ### The fault record (R663, R666) -/

/-- Ones clear bits of the summary, and nothing else of the fault record changes. -/
theorem clearSummary_faults (s : State) (value : Nat) :
    (clearSummary s value).faults = { s.faults with summary := s.faults.summary - (s.faults.summary &&& value) } := by
  simp only [clearSummary, dictAnswer, emit_faults]
  split
  · next hsame => simp [hsame]
  · simp

/-- Settles O41: each event and command where it acts. -/
theorem recoveryEventsComplete : Obligations.RecoveryEventsComplete := by
  refine ⟨fun s checker hchecker hup hself hother => ⟨execCoreHeartbeatCheck_runs hchecker hup hself hother true,
      execCoreHeartbeatCheck_missed hchecker hup hself hother, execCoreHeartbeatCheck_third hchecker hup hself hother⟩,
    fun s core hcore => ⟨fun hup => (if_neg (Nat.not_lt.2 hcore)).trans (if_pos hup), fun hrestart => ?restart⟩,
    fun s hup hA _ hB => ⟨_, execServiceCoresDead_dead hup hA hB, enterReset_dev _ _, dget_enterReset_cause s 5, enterReset_flash s 5⟩,
    fun s w hwindow hsince => ?recovery,
    fun s w since hwindow hsince => ⟨execRecoveryDone_inTime hwindow hsince, execRecoveryTimeout_late hwindow hsince⟩,
    fun s f hfatal => ?fatal, fun s w hwindow hrecovered => ?close,
    fun s _ hready => ⟨fun value => ?summary, ?clear, served_ready (fun s => clearRing s false) hready⟩⟩
  case restart =>
    obtain ⟨hcoreOf, hothers⟩ := coreOf_updCore s hcore (fun c => { c with up := true, restarting := false, missed := 0, lastBeat := s.now })
    exact ⟨_, execServiceCoreRestartDone_restarting hcore hrestart, by rw [hcoreOf], by rw [hcoreOf], by rw [hcoreOf], hothers⟩
  case recovery => rw [exec_deviceRecovery, execDeviceRecovery, hwindow, hsince]
  case fatal =>
    obtain ⟨r, hexec⟩ := execFatalReset_fatal hfatal
    exact ⟨_, hexec, enterReset_dev r 3, dget_enterReset_cause r 3, enterReset_ring r 3⟩
  case close =>
    rw [exec_recoveryWindowClose, execRecoveryWindowClose, hwindow]
    exact if_pos hrecovered
  case summary =>
    have hfaults := clearSummary_faults s value
    exact ⟨_, served_ready (fun s => clearSummary s value) hready, by rw [hfaults], by rw [hfaults]⟩
  case clear =>
    obtain ⟨t, hexec, hfaults⟩ := execRingClear_true s hready
    exact ⟨t, hexec, by rw [hfaults], by rw [hfaults], by rw [hfaults]⟩

end Sys2Proof.Laws
end

section
/-! Health monitors: hours, probes, eye scans and days (R685 to R698). -/

namespace Sys2Proof.Laws

open Sys2Proof Sys2Proof.Machine

variable {s : State}

/-! ### Hours (R686 to R688) -/

section hour

variable (hpower : s.pkg.pwrgd = true) (hhour : s.health.hourSince + 3600000000000 ≤ s.now) (mv : List Nat) (ro em : List (List Nat))
include hpower hhour

theorem execHealthHourly_due :
    let s1 : State := { s with
      flash := { s.flash with hours := s.flash.hours + 1 }, health := { s.health with hourSince := s.health.hourSince + 3600000000000 } }
    let s2 := dset s1 0x7000 1 (min s1.flash.hours (2 ^ 32 - 1))
    let s3 := sampleDie (sampleDie s2 0 (mv.getD 0 0) ((ro.getD 0 []).take 32) ((em.getD 0 []).take 16))
      1 (mv.getD 1 0) ((ro.getD 1 []).take 32) ((em.getD 1 []).take 16)
    execHealthHourly mv ro em s = if firmwareUp s = false then .next s1 else .next ((List.range 8).foldl sampleStack s3) :=
  if_neg (by simp [hpower, hhour])

end hour

/-! ### The retention probe (R689, R690) -/

section probe

/-- A stack's probe on its way into a frame, where nothing speaks against it. -/
def probeInto (s : State) (st f : Nat) : State :=
  let s1 : State := { s with health := { s.health with lastProbe := mapInsert s.health.lastProbe st s.now } }
  let s2 := fillChecker (s1.updStack st (fun x => { zeroFrame x f with testFrames := x.testFrames ++ [f] })) st f
  { s2 with health := { s2.health with probes := mapInsert s2.health.probes st { frame := f, since := s.now } } }

/-- A stack's probe that is skipped, and counted. -/
def probeSkipped (s : State) (st : Nat) : State :=
  bump { s with health := { s.health with lastProbe := mapInsert s.health.lastProbe st s.now } } 0x7000 0xB 1

/-- What a probe that is due comes to. -/
def probeOutcome (s : State) (st : Nat) : State :=
  match probeFrame s st with
  | some f =>
    if 8 ≤ (s.stack st).testFrames.length + (s.stack st).testEntering.length ∨ s.test.run.isSome = true ∨
        (stackMax s st).any (fun t => decide (degrees 85 < t)) = true then probeSkipped s st
    else probeInto s st f
  | none => probeSkipped s st

variable {st : Nat} (hst : st < 8) (hup : firmwareUp s = true) (henabled : dbool s 0x7000 8 = true)
  (hidle : s.health.probes.any (fun e => e.1 == st) = false)
  (hday : ∀ t, (st, t) ∈ s.health.lastProbe → t + 86400000000000 ≤ s.now)
include hst hup henabled hidle hday

theorem execRetentionProbe_due : execRetentionProbe st s = .next (probeOutcome s st) := by
  rw [execRetentionProbe, if_neg (Nat.not_le.2 hst)]
  refine (if_neg ?gate).trans ?outcome
  case gate =>
    rintro (hdown | hoff | hearly | hbusy)
    · simp [hup] at hdown
    · simp [henabled] at hoff
    · revert hearly
      split
      · next k t hfound =>
        have hkey : k = st := by simpa using List.find?_some hfound
        subst hkey
        simpa using hday t (List.mem_of_find?_eq_some hfound)
      · simp
    · simp [hidle] at hbusy
  case outcome =>
    unfold probeOutcome probeInto probeSkipped
    cases probeFrame s st with
    | none => rfl
    | some f =>
      dsimp only
      rw [apply_ite Host.Outcome.next]
      cases stackMax s st <;> dsimp only [Option.any]

end probe

/-! ### Eye scans and days (R691 to R694) -/

theorem execRebaseLinks_ready (hready : notReady s = none) (v : Nat) : execRebaseLinks v s = .next (rebaseLinks s v) :=
  served_ready (fun s => rebaseLinks s v) hready

/-- Settles O43: each event where it acts. -/
theorem healthEventsComplete : Obligations.HealthEventsComplete := by
  refine ⟨fun s mv ro em hpower hhour => ?hour, fun s st hst hup henabled hidle hday => ?probe,
    fun s st p hst hfound hlong => ?hold, fun s lanes hup => ?scan, fun s hup hdays => ?day, fun s v hon hready => ?rebase⟩
  case hour =>
    have hdue := execHealthHourly_due hpower hhour mv ro em
    exact ⟨fun hdown => hdue.trans (if_pos hdown), fun hup => hdue.trans (if_neg (by simp [hup]))⟩
  case probe =>
    have hdue := execRetentionProbe_due hst hup henabled hidle hday
    rw [exec_retentionProbe, hdue, probeOutcome]
    refine ⟨fun hnone => by rw [hnone]; rfl, fun f hframe hroom hrun => ?_⟩
    rw [hframe]
    simp only [Nat.not_le.2 hroom, hrun, Option.isSome_none, Bool.false_eq_true, false_or, apply_ite Host.Outcome.next, probeSkipped, probeInto]
  case hold =>
    rw [exec_retentionHoldEnd, exec_retentionHoldEnd, execRetentionHoldEnd, execRetentionHoldEnd, if_neg (Nat.not_le.2 hst),
      if_neg (Nat.not_le.2 hst), hfound]
    exact ⟨if_neg (Nat.not_lt.2 hlong), by rw [apply_ite Host.Outcome.next]; exact if_neg (Nat.not_lt.2 hlong)⟩
  case scan => exact if_neg (by simp [hup])
  case day =>
    have hgo : ¬ (firmwareUp s = false ∨ s.flash.hours / 24 ≤ s.flash.days) := by simp [hup, hdays]
    exact if_neg hgo
  case rebase =>
    rw [exec_rebaseLinks, execRebaseLinks_ready hready, rebaseLinks]
    intro s1
    by_cases hlink : v = 10 ∨ v = 11
    · exact (congrArg Host.Outcome.next (if_neg (by omega))).trans (if_pos hlink).symm
    · exact (congrArg Host.Outcome.next (if_pos (not_or.1 hlink))).trans (if_neg hlink).symm

end Sys2Proof.Laws
end

section
/-! The SPDM responder and quotes (R699 to R705). -/

namespace Sys2Proof.Laws

open Sys2Proof Sys2Proof.Machine

variable {s : State} {fn : Nat}

/-! ### Where a message is answered (R704) -/

section served

variable (hfn : fn < 64) (hserved : doeServed s = true)
include hfn hserved

theorem withSpdm_served (f : State → State) : withSpdm fn s f = .next (f s) :=
  (if_neg (Nat.not_le.2 hfn)).trans (if_pos hserved)

theorem withSpdm_negotiated (halgorithms : (s.spdm fn).algorithms = true) (f : State → State) :
    withSpdm fn s (negotiated fn f) = .next (f s) := by
  rw [withSpdm_served hfn hserved, negotiated, if_pos halgorithms]

theorem withSpdm_unnegotiated (halgorithms : (s.spdm fn).algorithms = false) (f : State → State) :
    withSpdm fn s (negotiated fn f) = .next (spdmError s fn spdmUnexpected) := by
  rw [withSpdm_served hfn hserved, negotiated, if_neg (by simp [halgorithms])]

theorem withSpdm_inSession {id : Nat} {x : SpdmSession} (hsession : spdmSession s fn id = some x) (hestablished : x.established = true)
    (f : State → State) : withSpdm fn s (inSession fn id f) = .next (f (updSession s id (fun y => { y with lastHeard := s.now }))) := by
  rw [withSpdm_served hfn hserved, inSession, hsession, Option.any_some, if_pos hestablished]

/-! ### The connection (R704) -/

theorem execGetVersion_served : ∃ t, execGetVersion fn s = .next t ∧ (∀ x ∈ t.sec.spdmSessions, x.fn ≠ fn) ∧
    t.out = s.out ++ [.mgmt 1 [fn, 0x04, 0x13] []] := by
  refine ⟨_, withSpdm_served hfn hserved _, fun x hx => ?_, rfl⟩
  have hkept : x ∈ s.sec.spdmSessions.filter (fun x => x.fn != fn) := hx
  simpa using (List.mem_filter.1 hkept).2

theorem execGetCapabilities_served (request : List Byte) : execGetCapabilities fn request s =
    if (s.spdm fn).version = false then .next (spdmError s fn spdmUnexpected)
    else .next (spdmAnswer (noteSpdm (setSpdm s fn { s.spdm fn with capabilities := true }) fn (request ++ [0x61])) fn 0x61 [] []) := by
  rw [execGetCapabilities, withSpdm_served hfn hserved, apply_ite Host.Outcome.next]

theorem execNegotiateAlgorithms_served (asym hash dhe aead : Nat) (request : List Byte) :
    execNegotiateAlgorithms fn asym hash dhe aead request s =
      if (s.spdm fn).capabilities = false then .next (spdmError s fn spdmUnexpected)
      else if bitOf asym 9 = false ∨ bitOf hash 2 = false then .next (spdmError s fn spdmInvalid)
      else .next (spdmAnswer (noteSpdm (setSpdm s fn { s.spdm fn with algorithms := true }) fn (request ++ [0x63])) fn 0x63
        [512, 4, if bitOf dhe 4 then 16 else 0, if bitOf aead 1 then 2 else 0] []) := by
  have hmasks : ((!(bitOf asym 9 && bitOf hash 2)) = true) = (bitOf asym 9 = false ∨ bitOf hash 2 = false) := by
    simp [← Bool.not_eq_true]
  have hdhe : boolNat (bitOf dhe 4) * 2 ^ 4 = if bitOf dhe 4 then 16 else 0 := by cases bitOf dhe 4 <;> rfl
  have haead : boolNat (bitOf aead 1) * 2 ^ 1 = if bitOf aead 1 then 2 else 0 := by cases bitOf aead 1 <;> rfl
  rw [execNegotiateAlgorithms, withSpdm_served hfn hserved]
  simp only [apply_ite Host.Outcome.next, hmasks, hdhe, haead] <;> rfl

/-! ### Certificates, challenges and measurements (R699 to R702) -/

section negotiated

variable (halgorithms : (s.spdm fn).algorithms = true)
include halgorithms

theorem execGetCertificate_negotiated (slot offset length : Nat) :
    let c := certChain s
    execGetCertificate fn slot offset length s = if slot = 0 ∧ offset < c.length then
        let d := cut c offset length
        .next (spdmAnswer (noteSpdm s fn (0x82 :: 0x02 :: d)) fn 0x02 [slot, d.length, c.length - offset - d.length] d)
      else .next (spdmError s fn spdmInvalid) := by
  intro c
  rw [execGetCertificate, withSpdm_negotiated hfn hserved halgorithms]
  by_cases hhas : slot = 0 ∧ offset < c.length
  · have hrefused : ¬ (slot ≠ 0 ∨ c.length ≤ offset) := by omega
    rw [if_pos hhas]
    exact congrArg Host.Outcome.next (if_neg hrefused)
  · have hrefused : slot ≠ 0 ∨ c.length ≤ offset := by omega
    rw [if_neg hhas]
    exact congrArg Host.Outcome.next (if_pos hrefused)

theorem execSpdmChallenge_negotiated (slot : Nat) (nonce : List Byte) :
    let body := Config.sha512 (certChain s) ++ Config.random s.free 32
    let t := (s.spdm fn).transcript ++ nonce ++ body
    execSpdmChallenge fn slot nonce s = if slot ≠ 0 then .next (spdmError (authFailure s) fn spdmInvalid)
      else if s.sec.identity = false then .next (spdmError s fn spdmBusy)
      else .next (spdmAnswer { setSpdm s fn { s.spdm fn with transcript := [] } with free := s.free + 1 } fn 0x03 [0]
        (body ++ Config.ed25519Sign Config.identityPrivate (natLE 1 1 ++ Config.sha512 t))) := by
  intro body t
  rw [execSpdmChallenge, withSpdm_negotiated hfn hserved halgorithms]
  by_cases hslot : slot = 0
  · subst hslot
    cases hidentity : s.sec.identity <;> simp [signSpdm, hidentity, body, t]
  · simp [hslot]

/-- What GET_MEASUREMENTS asks for: the blocks, how many, and their values. -/
theorem execGetMeasurements_negotiated {operation : Nat} (nonce : List Byte) (hblocks : operation ≤ 34 ∨ operation = 0xFF) :
    let blocks := if operation = 0 then [] else if operation = 0xFF then (List.range 34).map (· + 1) else [operation]
    let count := if operation = 0 then 34 else blocks.length
    let v := blocks.flatMap (fun i => natLE 1 i ++ blockValue s i)
    let own := Config.random s.free 32
    execGetMeasurements fn operation false nonce s = .next (spdmAnswer (noteSpdm s fn (nonce ++ v)) fn 0x60 [count] v) ∧
    execGetMeasurements fn operation true nonce s = if s.sec.identity = false then .next (spdmError s fn spdmBusy)
      else .next (spdmAnswer { s with free := s.free + 1 } fn 0x60 [count] (v ++ own ++
        Config.ed25519Sign Config.identityPrivate (natLE 1 2 ++ Config.sha512 ((s.spdm fn).transcript ++ nonce ++ v ++ own)))) := by
  intro blocks count v own
  have hsound : ¬ (34 < operation ∧ operation ≠ 0xFF) := by omega
  rw [execGetMeasurements, execGetMeasurements, withSpdm_negotiated hfn hserved halgorithms, withSpdm_negotiated hfn hserved halgorithms,
    if_neg hsound, if_neg hsound]
  refine ⟨rfl, ?_⟩
  cases hidentity : s.sec.identity <;> simp [signSpdm, hidentity, blocks, count, v, own]

/-! ### Secure sessions -/

theorem execKeyExchange_busy {share : List Byte} (hbusy : 4 ≤ s.sec.spdmSessions.length ∨ s.sec.identity = false) :
    execKeyExchange fn 0 share s = .next (spdmError s fn spdmBusy) := by
  rw [execKeyExchange, withSpdm_negotiated hfn hserved halgorithms, if_neg (not_not.2 rfl)]
  by_cases hfull : 4 ≤ s.sec.spdmSessions.length
  · rw [if_pos hfull]
  · rw [if_neg hfull]
    simp [signSpdm, hbusy.resolve_left hfull]

theorem execKeyExchange_room {share : List Byte} (hroom : s.sec.spdmSessions.length < 4) (hidentity : s.sec.identity = true) :
    ∃ t key answer, execKeyExchange fn 0 share s = .next t ∧
      t.sec.spdmSessions = s.sec.spdmSessions ++ [{ fn := fn, id := s.sec.nextSpdm, key := key, lastHeard := s.now }] ∧
      t.sec.nextSpdm = s.sec.nextSpdm + 1 ∧ t.out = s.out ++ [.mgmt 1 [fn, 0x64, s.sec.nextSpdm] answer] := by
  rw [execKeyExchange, withSpdm_negotiated hfn hserved halgorithms, if_neg (not_not.2 rfl), if_neg (Nat.not_le.2 hroom)]
  simp only [signSpdm, hidentity, if_true]
  exact ⟨_, _, _, rfl, rfl, rfl, rfl⟩

end negotiated

theorem execFinish_session {id : Nat} {x : SpdmSession} (hsession : spdmSession s fn id = some x) (hopen : x.established = false)
    (verify : List Byte) : execFinish fn id verify s = .next (
      if verify = Config.hmacSha512 x.key (Config.sha512 (s.spdm fn).transcript)
      then spdmAnswer (updSession s id (fun y => { y with established := true, lastHeard := s.now })) fn 0x65 [id] []
      else spdmError (dropSession (authFailure s) id) fn spdmDecrypt) := by
  rw [execFinish, withSpdm_served hfn hserved]
  simp only [hsession, hopen, Bool.false_eq_true, if_false]

theorem execKeyUpdate_session {id operation : Nat} {x : SpdmSession} (hsession : spdmSession s fn id = some x)
    (hestablished : x.established = true) (hlow : 1 ≤ operation) (hhigh : operation ≤ 3) :
    let s1 := updSession s id (fun y => { y with lastHeard := s.now })
    execKeyUpdate fn id operation s = .next (spdmAnswer
      (if operation = 3 then s1 else updSession s1 id (fun y => { y with updates := y.updates + operation })) fn 0x69 [id, operation] []) := by
  intro s1
  have hsound : ¬ (operation = 0 ∨ 3 < operation) := by omega
  rw [execKeyUpdate, withSpdm_inSession hfn hserved hsession hestablished, if_neg hsound]

end served

/-! ### Quotes (R705) -/

section quotes

variable {mailbox : Bool} {who : Nat} (hon : s.dev ≠ .off)
include hon

theorem execQuoteNonceWrite_kept {nonce : List Byte} (hmay : quoteAbort s mailbox who = 0) (hlen : nonce.length = 32) :
    execQuoteNonceWrite mailbox who nonce s =
      .next (dictAnswer { s with sec := { s.sec with nonces := mapSet [] s.sec.nonces (quotePlace s mailbox who).2 nonce } } 0) :=
  (if_neg hon).trans ((if_neg (not_not.2 hmay)).trans (if_neg (not_not.2 hlen)))

theorem execQuoteRead_quoted (hmay : quoteAbort s mailbox who = 0)
    (hnonce : mapGet [] s.sec.nonces (quotePlace s mailbox who).2 ≠ []) (hidentity : s.sec.identity = true) :
    execQuoteRead mailbox who s = .next (emit s (.dictAnswer 0 (quoteOf s (mapGet [] s.sec.nonces (quotePlace s mailbox who).2)))) :=
  (if_neg hon).trans ((if_neg (not_not.2 hmay)).trans (if_neg (by simp [hnonce, hidentity])))

end quotes

/-- Settles O39: each message where it is answered. -/
theorem attestationCommandsComplete : Obligations.AttestationCommandsComplete := by
  refine ⟨fun s fn hfn hserved => ⟨execGetVersion_served hfn hserved, execGetCapabilities_served hfn hserved,
      execNegotiateAlgorithms_served hfn hserved, fun hnot => ?unnegotiated, fun halgorithms => ?negotiated⟩,
    fun s fn id x hfn hserved hsession => ⟨execFinish_session hfn hserved hsession, fun hestablished => ?session⟩,
    fun s mailbox who hon => ⟨fun hrefused nonce => ?refused, fun hmay => ?quotes⟩⟩
  case unnegotiated =>
    have hunexpected := withSpdm_unnegotiated hfn hserved hnot
    rw [exec_getDigests, execGetDigests, hunexpected]
    refine ⟨rfl, fun slot offset length operation sign nonce => ?_⟩
    rw [exec_getCertificate, exec_spdmChallenge, exec_getMeasurements, exec_keyExchange, execGetCertificate, execSpdmChallenge,
      execGetMeasurements, execKeyExchange, hunexpected, hunexpected, hunexpected, hunexpected]
    exact ⟨rfl, rfl, rfl, rfl⟩
  case negotiated =>
    refine ⟨?digests, execGetCertificate_negotiated hfn hserved halgorithms, execSpdmChallenge_negotiated hfn hserved halgorithms,
      fun operation nonce hblocks => execGetMeasurements_negotiated hfn hserved halgorithms nonce hblocks,
      fun share => ⟨execKeyExchange_busy hfn hserved halgorithms, execKeyExchange_room hfn hserved halgorithms⟩⟩
    rw [exec_getDigests, execGetDigests, withSpdm_negotiated hfn hserved halgorithms]
  case session =>
    have hin := withSpdm_inSession hfn hserved hsession hestablished
    refine ⟨fun operation hlow hhigh => execKeyUpdate_session hfn hserved hsession hestablished hlow hhigh, ?beat, ?ends,
      fun op arg key => ⟨?ide, ?tdisp⟩⟩
    case beat => rw [exec_spdmHeartbeat, execSpdmHeartbeat, hin]
    case ends => rw [exec_endSession, execEndSession, hin]
    case ide => rw [exec_vendorDefined, execVendorDefined, hin]; rfl
    case tdisp => rw [exec_vendorDefined, execVendorDefined, hin]; rfl
  case refused => exact ⟨(if_neg hon).trans (if_pos hrefused), (if_neg hon).trans (if_pos hrefused)⟩
  case quotes =>
    exact ⟨fun nonce hlen => execQuoteNonceWrite_kept hon hmay hlen, execQuoteRead_quoted hon hmay,
      fun hnone => (if_neg hon).trans ((if_neg (not_not.2 hmay)).trans (if_pos hnone))⟩

end Sys2Proof.Laws
end

section
/-! Firmware update: download, verification, activation and confirmation (R710 to R720). -/

namespace Sys2Proof.Laws

open Sys2Proof Sys2Proof.Machine

variable {s : State}

/-! ### Download (R712 to R714) -/

section download

variable (hready : notReady s = none)
include hready

theorem execStageManifest_served {m : List Byte} (hlen : m.length ≤ 65536) :
    let bad := manStatus m (bootRecord s).floor
    let st := updateState s
    execStageManifest m s = if bad ≠ 0 then .next (refuseCode s bad)
      else if st = updDownloading ∧ sameManifest s m = true then .next (dictAnswer s 0)
      else if st = updDownloading ∨ ((st = updIdle ∨ st = updStaged) ∧ sameManifest s m = false) then
        .next (dictAnswer (setUpdate (showTarget (setTargetManifest { s with flash := { s.flash with bitmap := [] } } m)) updDownloading) 0)
      else .next (refuseUpdate s) := by
  intro bad st
  rw [execStageManifest, served_ready _ hready, stageManifest, if_neg (Nat.not_lt.2 hlen)]
  simp only [apply_ite Host.Outcome.next] <;> rfl

theorem execChunk_refused {d : List Byte} (hlen : d.length = 4104) (hstate : updateState s ≠ updDownloading) (ok : Bool) :
    execChunk d ok s = .next (refuseUpdate s) := by
  rw [execChunk, served_ready _ hready, writeChunk, if_neg (not_not.2 hlen), if_pos hstate]

theorem execChunk_downloading {d : List Byte} (hlen : d.length = 4104) (hstate : updateState s = updDownloading)
    (hchunk : u32 d 0 < chunksTotal (manifestOf s (targetSet s)))
    (hzero : zeroBytes d (8 + (manPayload (manifestOf s (targetSet s)) - 4096 * u32 d 0))
      (4096 - (manPayload (manifestOf s (targetSet s)) - 4096 * u32 d 0)) = true) (ok : Bool) :
    execChunk d ok s = .next (if mapGet false s.flash.bitmap (u32 d 0) = true then dictAnswer s 0
      else if ok then dictAnswer (programChunk s (u32 d 0) (d.drop 8)) 0 else dictAnswer s 0x03010000) := by
  rw [execChunk, served_ready _ hready, writeChunk, if_neg (not_not.2 hlen), if_neg (not_not.2 hstate), if_neg (Nat.not_le.2 hchunk),
    if_neg (by simp [hzero])]
  cases ok <;> rfl

theorem execActivate_served : execActivate s = if updateState s ≠ updStaged then .next (refuseUpdate s)
    else if mayActivate s then .next (dictAnswer (setUpdate (bump { s with
      sec := { s.sec with activation := some { since := s.now, old := s.faults.activeCore, seq := s.faults.seq } } } 0x9000 0xB 1)
        updActivating) 0)
    else .next (refuseCode s 0x604) := by
  rw [execActivate, served_ready _ hready, activate]
  simp only [apply_ite Host.Outcome.next]

end download

/-! ### Verification (R714) -/

theorem execUpdateVerifyDone_verifying (hstate : updateState s = updVerifying) (hup : firmwareUp s = true) :
    let bad := (manParts (manifestOf s (targetSet s))).filter (fun p => !(partOkIn s (targetSet s) p))
    let s1 := bad.foldl (fun s p => clearPart (updateCode (recordEntry s (faultOf 0x602 clsCorrected kindDevice 0 0xFF 0)) 0x602) p) s
    execUpdateVerifyDone s = .next (if bad = [] then setUpdate s updStaged
      else setUpdate (dset s1 0x9000 7 (chunksHeld s1 (manifestOf s (targetSet s)))) updDownloading) := by
  have hgo : ¬ (updateState s ≠ updVerifying ∨ firmwareUp s = false) := by simp [hstate, hup]
  rw [execUpdateVerifyDone, if_neg hgo]
  dsimp only
  generalize (manParts (manifestOf s (targetSet s))).filter (fun p => !(partOkIn s (targetSet s) p)) = bad
  cases bad with
  | nil => rfl
  | cons p ps => rfl

/-! ### Activation (R715 to R719) -/

/-- A measurement changes neither the activation under way nor the set that runs. -/
theorem measureSet_sec (s : State) (set : Nat) :
    (measureSet s set).sec.activation = s.sec.activation ∧ (measureSet s set).sec.runSet = s.sec.runSet := by
  have hmeasure : ∀ (t : State) block value, (Machine.measure t block value).sec.activation = t.sec.activation ∧
      (Machine.measure t block value).sec.runSet = t.sec.runSet := by
    intro t block value
    unfold Machine.measure
    dsimp only
    split <;> exact ⟨rfl, rfl⟩
  unfold measureSet
  refine foldl_keeps (p := fun t : State => t.sec.activation = s.sec.activation ∧ t.sec.runSet = s.sec.runSet) _ _ (hmeasure _ _ _) ?_
  intro t i ht
  dsimp only
  split
  · exact ⟨(hmeasure _ _ _).1.trans ht.1, (hmeasure _ _ _).2.trans ht.2⟩
  · exact ht

/-- An activation that holds, with room for every FLIP entry, ends in the trial of the target. -/
theorem execActivationDone_holds {a : Activation} (hactivation : s.sec.activation = some a) (hholds : activationHolds s a = true)
    (hroom : flipRoom s = true) : ∃ t, execActivationDone s = .next (restartCore t a.old) ∧
      t.sec.activation = none ∧ t.sec.runSet = targetSet s ∧ t.faults.activeCore = 1 - a.old := by
  rw [execActivationDone, hactivation]
  refine ⟨_, (if_neg (by simp [hholds])).trans (if_neg (by simp [hroom])), ?_, ?_, rfl⟩
  · simp [setUpdate, (measureSet_sec _ _).1]
  · simp [setUpdate, (measureSet_sec _ _).2]

/-- Settles O40: each command where it acts. -/
theorem updateCommandsComplete : Obligations.UpdateCommandsComplete := by
  refine ⟨fun s hon hready => ⟨fun m hlen => execStageManifest_served hready hlen,
      fun d ok hlen => ⟨fun hstate => execChunk_refused hready hlen hstate ok,
        fun hstate hchunk hzero => execChunk_downloading hready hlen hstate hchunk hzero ok⟩,
      fun hdown hstaged => ?cancelRefused, fun hstate => ?cancel, execActivate_served hready, fun hstate v => ?confirmRefused,
      fun hstate => ⟨?confirmFalse, ?confirmTrue⟩⟩,
    fun s hstate hup => execUpdateVerifyDone_verifying hstate hup,
    fun s a hactivation => ⟨fun started => if_pos (by simp [hactivation]), fun hfails => ?fails, fun hholds hroom => ?holds⟩⟩
  case cancelRefused =>
    rw [exec_updateCancel, execUpdateCancel, served_ready _ hready, cancelUpdate, if_neg (not_or.2 ⟨hdown, hstaged⟩)]
  case cancel => rw [exec_updateCancel, execUpdateCancel, served_ready _ hready, cancelUpdate, if_pos hstate]
  case confirmRefused => rw [exec_confirm, execConfirm, served_ready _ hready, confirmSet, if_pos hstate]
  case confirmFalse =>
    rw [exec_confirm, execConfirm, served_ready _ hready, confirmSet, if_neg (not_not.2 hstate)]
    rfl
  case confirmTrue =>
    rw [exec_confirm, execConfirm, served_ready _ hready, confirmSet, if_neg (not_not.2 hstate)]
    rfl
  case fails =>
    rw [exec_activationDone, execActivationDone, hactivation]
    exact if_pos hfails
  case holds =>
    obtain ⟨t, hexec, hnone, hset, hactive⟩ := execActivationDone_holds hactivation hholds hroom
    refine ⟨_, hexec, hnone, hset, ?_, ?_⟩
    · unfold restartCore
      split <;> exact hactive
    · unfold restartCore
      split <;> rfl

end Sys2Proof.Laws
end

section
/-! Recovery mode: segments and datagrams of a package, its status and its check (R590, R721 to R723). -/

namespace Sys2Proof.Laws

open Sys2Proof Sys2Proof.Machine

variable {s : State}

/-! ### Little-endian fields (R7) -/

theorem leNat_natLE (n v : Nat) : leNat (natLE n v) = v % 256 ^ n := by
  induction n generalizing v with
  | zero => simp [natLE, leNat, Nat.mod_one]
  | succ n ih =>
    rw [natLE, leNat, ih, BitVec.toNat_ofNat, pow_succ' 256 n, Nat.mod_mul]

/-- A field between the bytes before and after it. -/
theorem field_between {before bytes after : List Byte} {o n : Nat} (hbefore : before.length = o) (hbytes : bytes.length = n) :
    field (before ++ (bytes ++ after)) o n = leNat bytes := by
  rw [field, ← hbefore, List.drop_left, ← hbytes, List.take_left]

/-- A datagram of a package (R722). -/
def datagramOf (total off : Nat) (d : List Byte) : List Byte :=
  [0x52, 0x58, 1, 0] ++ natLE 4 total ++ natLE 4 off ++ natLE 2 d.length ++ [0, 0] ++ d

section datagram

variable {total off : Nat} {d : List Byte}

theorem length_datagramOf : (datagramOf total off d).length = 16 + d.length := by
  simp [datagramOf, length_natLE]
  omega

theorem drop_datagramOf : (datagramOf total off d).drop 16 = d :=
  List.drop_left' (by simp [length_natLE])

theorem total_datagramOf (htotal : total < 2 ^ 32) : u32 (datagramOf total off d) 4 = total := by
  have hsplit : datagramOf total off d =
      [0x52, 0x58, 1, 0] ++ (natLE 4 total ++ (natLE 4 off ++ natLE 2 d.length ++ [0, 0] ++ d)) := by simp [datagramOf]
  rw [u32, hsplit, field_between (by simp) (length_natLE 4 _), leNat_natLE, Nat.mod_eq_of_lt (by omega)]

theorem off_datagramOf (hoff : off < 2 ^ 32) : u32 (datagramOf total off d) 8 = off := by
  have hsplit : datagramOf total off d =
      ([0x52, 0x58, 1, 0] ++ natLE 4 total) ++ (natLE 4 off ++ (natLE 2 d.length ++ [0, 0] ++ d)) := by simp [datagramOf]
  rw [u32, hsplit, field_between (by simp [length_natLE]) (length_natLE 4 _), leNat_natLE, Nat.mod_eq_of_lt (by omega)]

theorem len_datagramOf (hlen : d.length < 2 ^ 16) : u16 (datagramOf total off d) 12 = d.length := by
  have hsplit : datagramOf total off d =
      ([0x52, 0x58, 1, 0] ++ natLE 4 total ++ natLE 4 off) ++ (natLE 2 d.length ++ ([0, 0] ++ d)) := by simp [datagramOf]
  rw [u16, hsplit, field_between (by simp [length_natLE]) (length_natLE 2 _), leNat_natLE, Nat.mod_eq_of_lt (by omega)]

theorem mark_datagramOf : u16 (datagramOf total off d) 0 = 0x5852 ∧ u8 (datagramOf total off d) 2 = 1 := by
  simp [u16, u8, field, datagramOf, leNat]

end datagram

/-! ### The package arrives (R721, R722) -/

section arrives

variable (hmode : inRecoveryMode s = true)
include hmode

theorem dev_ne_off_of_inRecoveryMode : s.dev ≠ .off := by
  intro hoff
  simp [inRecoveryMode, hoff] at hmode

/-- The package's first segment begins it anew. -/
theorem execRecoveryData_first (hstate : s.sec.recovery.state = 0) (data : List Byte) (final : Bool) :
    execRecoveryData 0 data final s = .next (dictAnswer (addPackage
      { s with sec := { s.sec with recovery := { s.sec.recovery with total := none, bytes := [], held := [] } } }
      (if final then some data.length else none) 0 data) 0) := by
  have hnext : ¬ (receivedBytes { s with sec := { s.sec with recovery := { s.sec.recovery with total := none, bytes := [], held := [] } } } ≠ 0 ∨
      s.sec.recovery.state = 1) := by
    rw [hstate, not_or]
    exact ⟨not_not.2 rfl, by decide⟩
  rw [execRecoveryData, if_neg (dev_ne_off_of_inRecoveryMode hmode), if_neg (by simp [hmode]), if_pos rfl]
  refine (if_neg hnext).trans ?_
  rw [Nat.zero_add]

/-- A segment that follows those held goes on with the package. -/
theorem execRecoveryData_follows (hstate : s.sec.recovery.state = 0) (hsome : receivedBytes s ≠ 0) (data : List Byte) (final : Bool) :
    execRecoveryData (receivedBytes s) data final s = .next (dictAnswer (addPackage s
      (if final then some (receivedBytes s + data.length) else none) (receivedBytes s) data) 0) := by
  have hnext : ¬ (receivedBytes s ≠ receivedBytes s ∨ s.sec.recovery.state = 1) := by simp [hstate]
  rw [execRecoveryData, if_neg (dev_ne_off_of_inRecoveryMode hmode), if_neg (by simp [hmode]), if_neg hsome]
  exact if_neg hnext

theorem execRecoveryDatagram_sound {total off : Nat} {d : List Byte} (hstate : s.sec.recovery.state ≠ 1) (hlen : d.length ≤ 1024)
    (hinside : off + d.length ≤ total) (htotal : total < 2 ^ 32) :
    let s1 : State := if s.sec.recovery.total = some total then s
      else { s with sec := { s.sec with recovery := { s.sec.recovery with total := some total, bytes := [], held := [] } } }
    execRecoveryDatagram (datagramOf total off d) s = .next (addPackage s1 (some total) off d) := by
  intro s1
  obtain ⟨hmark, hversion⟩ := mark_datagramOf (total := total) (off := off) (d := d)
  rw [execRecoveryDatagram, total_datagramOf htotal, off_datagramOf (by omega), len_datagramOf (by omega), drop_datagramOf, hmark, hversion,
    length_datagramOf]
  have hsound : ¬ (inRecoveryMode s = false ∨ 16 + d.length ≠ 16 + d.length ∨ 1024 < d.length ∨ 0x5852 ≠ 0x5852 ∨ 1 ≠ 1 ∨
      total < off + d.length ∨ s.sec.recovery.state = 1) := by
    simp only [hmode, hstate, Nat.not_lt.2 hlen, Nat.not_lt.2 hinside, Bool.true_eq_false, ne_eq, not_true_eq_false, or_self, not_false_eq_true]
  exact if_neg hsound

/-! ### Its status and its check (R723) -/

theorem execRecoveryStatusRequest_answered (hrate : s.sec.recovery.answersSince + 1000000000 ≤ s.now ∨ s.sec.recovery.answers < 100) :
    ∃ t, execRecoveryStatusRequest s = .next t ∧
      t.out = s.out ++ [.frame 10 [0x5852, 3, 0, s.sec.recovery.total.getD 0, 0, 16, 0] (recoveryStatus s)] := by
  rw [execRecoveryStatusRequest, if_neg (by simp [hmode])]
  by_cases hsecond : s.sec.recovery.answersSince + 1000000000 ≤ s.now
  · simp only [if_pos hsecond]
    exact ⟨_, if_neg (by decide), rfl⟩
  · simp only [if_neg hsecond]
    exact ⟨_, if_neg (Nat.not_le.2 (hrate.resolve_left hsecond)), rfl⟩

theorem execRecoveryPackageCheck_complete (hstate : s.sec.recovery.state = 1) :
    execRecoveryPackageCheck s = .next (if packageCheck s ≠ 0 then
        { s with sec := { s.sec with recovery := { s.sec.recovery with
          state := 3, code := 0x609, detail := packageCheck s, total := none, bytes := [], held := [] } } }
      else
        let p := packageParts s
        let s1 := if p.hasCfg then writeConfig s p.cfg else s
        enterReset (if p.hasSet then writeSet s1 p else s1) 1) := by
  rw [execRecoveryPackageCheck, if_neg (by simp [hmode, hstate]), apply_ite Host.Outcome.next]

end arrives

/-- Settles O42: each event of recovery mode. -/
theorem recoveryModeCompletes : Obligations.RecoveryModeCompletes :=
  ⟨fun _ data final hmode hstate => ⟨execRecoveryData_first hmode hstate data final,
      fun hsome => execRecoveryData_follows hmode hstate hsome data final⟩,
    fun _ _ _ _ hmode hstate hlen hinside htotal => execRecoveryDatagram_sound hmode hstate hlen hinside htotal,
    fun _ hmode => execRecoveryStatusRequest_answered hmode, fun _ hmode hstate => execRecoveryPackageCheck_complete hmode hstate⟩

end Sys2Proof.Laws
end

section
/-! What attestation, security and package commands leave unchanged (R699 to R710, R731 to R747). -/

namespace Sys2Proof.Laws

open Sys2Proof Sys2Proof.Machine

/-- The state apart from what these commands may change: the security state, the package ports, the host link, and what a recorded entry
may change. -/
def outsideSecurity (s : State) : State :=
  { s with dict := [], subs := [], free := 0, faults := {}, irq := {}, host := {}, sec := {}, pkg := {}, out := [] }

/-- `s` with all that these commands may change taken from `t`. -/
def withSecurityOf (t s : State) : State :=
  { s with
    dict := t.dict, subs := t.subs, free := t.free, faults := t.faults, irq := t.irq, host := t.host, sec := t.sec, pkg := t.pkg, out := t.out }

theorem eq_withSecurityOf {s t : State} (h : outsideSecurity t = outsideSecurity s) : t = withSecurityOf t s :=
  (congrArg (withSecurityOf t) h :)

variable (s : State)

/-! ### The fields these commands may change -/

theorem outsideSecurity_fields (dict : Map Nat) (subs : List Subscription) (free : Nat) (faults : Faults) (irq : Irq) (host : HostLink)
    (sec : Security) (pkg : Package) (out : List Out) :
    outsideSecurity { s with
      dict := dict, subs := subs, free := free, faults := faults, irq := irq, host := host, sec := sec, pkg := pkg, out := out } =
        outsideSecurity s := rfl

@[simp] theorem outsideSecurity_emit (o : Out) : outsideSecurity (emit s o) = outsideSecurity s := rfl
@[simp] theorem outsideSecurity_dictAnswer (abort : Nat) : outsideSecurity (dictAnswer s abort) = outsideSecurity s := rfl

@[simp] theorem outsideSecurity_noteChange (key : Nat) : outsideSecurity (noteChange s key) = outsideSecurity s := by
  unfold noteChange; split <;> rfl

@[simp] theorem outsideSecurity_dset (i j v : Nat) : outsideSecurity (dset s i j v) = outsideSecurity s := outsideSecurity_noteChange ..
@[simp] theorem outsideSecurity_bump (i j n : Nat) : outsideSecurity (bump s i j n) = outsideSecurity s := outsideSecurity_dset ..
@[simp] theorem outsideSecurity_hostViolation : outsideSecurity (hostViolation s) = outsideSecurity s := outsideSecurity_bump ..
@[simp] theorem outsideSecurity_updateCode (code : Nat) : outsideSecurity (updateCode s code) = outsideSecurity s := outsideSecurity_dset ..

/-! ### A recorded entry -/

@[simp] theorem outsideSecurity_sendMsix (fn vec : Nat) : outsideSecurity (sendMsix s fn vec) = outsideSecurity s := by
  unfold sendMsix; dsimp only; split <;> rfl

@[simp] theorem outsideSecurity_raiseLocal (t j : Nat) : outsideSecurity (raiseLocal s t j) = outsideSecurity s := by
  unfold raiseLocal raiseSource deliverSource
  dsimp only
  repeat' split
  all_goals simp [↓outsideSecurity_fields]

@[simp] theorem outsideSecurity_setSummary (bits : Nat) : outsideSecurity (setSummary s bits) = outsideSecurity s := by
  unfold setSummary; dsimp only; split <;> simp [↓outsideSecurity_fields]

@[simp] theorem outsideSecurity_setTenantFault (t bits : Nat) : outsideSecurity (setTenantFault s t bits) = outsideSecurity s := by
  unfold setTenantFault; dsimp only
  repeat' split
  all_goals simp [↓outsideSecurity_fields]

@[simp] theorem outsideSecurity_ringPush (e : FaultEntry) : outsideSecurity (ringPush s e) = outsideSecurity s := by
  unfold ringPush; dsimp only
  repeat' split
  all_goals simp [↓outsideSecurity_fields]

@[simp] theorem outsideSecurity_recordEntry (e : FaultEntry) : outsideSecurity (recordEntry s e) = outsideSecurity s := by
  simp [recordEntry, ↓outsideSecurity_fields]

/-! ### The SPDM responder -/

@[simp] theorem outsideSecurity_spdmAnswer (fn code : Nat) (fields : List Nat) (data : List Byte) :
    outsideSecurity (spdmAnswer s fn code fields data) = outsideSecurity s := rfl
@[simp] theorem outsideSecurity_spdmError (fn err : Nat) : outsideSecurity (spdmError s fn err) = outsideSecurity s := rfl
@[simp] theorem outsideSecurity_setSpdm (fn : Nat) (x : Spdm) : outsideSecurity (setSpdm s fn x) = outsideSecurity s := rfl
@[simp] theorem outsideSecurity_noteSpdm (fn : Nat) (bytes : List Byte) : outsideSecurity (noteSpdm s fn bytes) = outsideSecurity s := rfl
@[simp] theorem outsideSecurity_updSession (id : Nat) (f : SpdmSession → SpdmSession) :
    outsideSecurity (updSession s id f) = outsideSecurity s := rfl
@[simp] theorem outsideSecurity_dropSession (id : Nat) : outsideSecurity (dropSession s id) = outsideSecurity s := rfl
@[simp] theorem outsideSecurity_authFailure : outsideSecurity (authFailure s) = outsideSecurity s := by simp [authFailure]

@[simp] theorem outsideSecurity_ideMessage (fn op stream : Nat) (key : List Byte) :
    outsideSecurity (ideMessage s fn op stream key) = outsideSecurity s := by
  unfold ideMessage
  repeat' split
  all_goals rfl

@[simp] theorem outsideSecurity_tdispMessage (fn op tdi : Nat) : outsideSecurity (tdispMessage s fn op tdi) = outsideSecurity s := by
  unfold tdispMessage; dsimp only
  repeat' split
  all_goals rfl

/-! ### The package ports -/

@[simp] theorem outsideSecurity_pldmAnswer (ty code : Nat) (fields : List Nat) (data : List Byte) :
    outsideSecurity (pldmAnswer s ty code fields data) = outsideSecurity s := rfl

@[simp] theorem outsideSecurity_pldmError (ty code : Nat) : outsideSecurity (pldmError s ty code) = outsideSecurity s := by simp [pldmError]

@[simp] theorem outsideSecurity_tapTake (ir : Nat) (fields : List Nat) : outsideSecurity (tapTake s ir fields) = outsideSecurity s := rfl

/-! ### Answers that frame -/

/-- An answer whose state, where it is one, differs from `s` only in what these commands may change. -/
def FramesSecurity (r : Res) : Prop := ∀ t, r = .next t → outsideSecurity t = outsideSecurity s

variable {s}

theorem framesSecurity_next {t : State} (h : outsideSecurity t = outsideSecurity s) : FramesSecurity s (.next t) := by
  rintro _ ⟨⟩
  exact h

theorem framesSecurity_withSpdm {fn : Nat} {f : State → State} (hf : ∀ u, outsideSecurity (f u) = outsideSecurity u) :
    FramesSecurity s (withSpdm fn s f) := by
  unfold withSpdm
  repeat' split
  · exact framesSecurity_next rfl
  · exact framesSecurity_next (hf s)
  · exact framesSecurity_next rfl

theorem framesSecurity_negotiated {fn : Nat} {f : State → State} (hf : ∀ u, outsideSecurity (f u) = outsideSecurity u) :
    FramesSecurity s (withSpdm fn s (negotiated fn f)) :=
  framesSecurity_withSpdm fun u => by
    unfold negotiated
    split
    · exact hf u
    · rfl

theorem framesSecurity_inSession {fn session : Nat} {f : State → State} (hf : ∀ u, outsideSecurity (f u) = outsideSecurity u) :
    FramesSecurity s (withSpdm fn s (inSession fn session f)) :=
  framesSecurity_withSpdm fun u => by
    unfold inSession
    split
    · exact (hf _).trans (outsideSecurity_updSession ..)
    · rfl

theorem framesSecurity_withPldm {f : State → State} (hf : ∀ u, outsideSecurity (f u) = outsideSecurity u) :
    FramesSecurity s (withPldm s f) := by
  unfold withPldm
  split
  · exact framesSecurity_next (hf s)
  · exact framesSecurity_next rfl

theorem framesSecurity_withTap {f : State → State} (hf : ∀ u, outsideSecurity (f u) = outsideSecurity u) :
    FramesSecurity s (withTap s f) := by
  unfold withTap
  split
  · exact framesSecurity_next rfl
  · exact framesSecurity_next (hf s)

/-! ### The commands -/

theorem framesSecurity_getVersion (fn : Nat) : FramesSecurity s (execGetVersion fn s) := framesSecurity_withSpdm fun _ => rfl

theorem framesSecurity_getDigests (fn : Nat) : FramesSecurity s (execGetDigests fn s) := framesSecurity_negotiated fun _ => rfl

theorem framesSecurity_spdmHeartbeat (fn session : Nat) : FramesSecurity s (execSpdmHeartbeat fn session s) :=
  framesSecurity_inSession fun _ => rfl

theorem framesSecurity_endSession (fn session : Nat) : FramesSecurity s (execEndSession fn session s) :=
  framesSecurity_inSession fun _ => rfl

theorem framesSecurity_bypass : FramesSecurity s (execBypass s) := framesSecurity_withTap fun _ => rfl

theorem framesSecurity_idcode : FramesSecurity s (execIdcode s) := framesSecurity_withTap fun _ => rfl

theorem framesSecurity_samplePreload (levels pattern : List Bool) : FramesSecurity s (execSamplePreload levels pattern s) :=
  framesSecurity_withTap fun _ => rfl

theorem framesSecurity_getCapabilities (fn : Nat) (request : List Byte) : FramesSecurity s (execGetCapabilities fn request s) :=
  framesSecurity_withSpdm fun u => by split <;> simp

theorem framesSecurity_negotiateAlgorithms (fn asym hash dhe aead : Nat) (request : List Byte) :
    FramesSecurity s (execNegotiateAlgorithms fn asym hash dhe aead request s) :=
  framesSecurity_withSpdm fun u => by
    repeat' split
    all_goals simp

theorem framesSecurity_getCertificate (fn slot offset length : Nat) : FramesSecurity s (execGetCertificate fn slot offset length s) :=
  framesSecurity_negotiated fun u => by dsimp only; split <;> rfl

theorem framesSecurity_spdmChallenge (fn slot : Nat) (nonce : List Byte) : FramesSecurity s (execSpdmChallenge fn slot nonce s) :=
  framesSecurity_negotiated fun u => by
    dsimp only
    repeat' split
    · simp
    · rfl
    · rfl

theorem framesSecurity_getMeasurements (fn operation : Nat) (sign : Bool) (nonce : List Byte) :
    FramesSecurity s (execGetMeasurements fn operation sign nonce s) :=
  framesSecurity_negotiated fun u => by
    dsimp only
    split
    · rfl
    · cases sign
      · rfl
      · cases signSpdm u 2 _ <;> rfl

theorem framesSecurity_keyExchange (fn slot : Nat) (share : List Byte) : FramesSecurity s (execKeyExchange fn slot share s) :=
  framesSecurity_negotiated fun u => by
    dsimp only
    repeat' split
    all_goals rfl

theorem framesSecurity_finish (fn session : Nat) (verify : List Byte) : FramesSecurity s (execFinish fn session verify s) :=
  framesSecurity_withSpdm fun u => by
    repeat' split
    all_goals simp

theorem framesSecurity_keyUpdate (fn session operation : Nat) : FramesSecurity s (execKeyUpdate fn session operation s) :=
  framesSecurity_inSession fun u => by
    dsimp only
    repeat' split
    all_goals rfl

theorem framesSecurity_vendorDefined (fn session protocol op arg : Nat) (key : List Byte) :
    FramesSecurity s (execVendorDefined fn session protocol op arg key s) :=
  framesSecurity_inSession fun u => by split <;> simp

theorem framesSecurity_quoteNonceWrite (mailbox : Bool) (who : Nat) (nonce : List Byte) :
    FramesSecurity s (execQuoteNonceWrite mailbox who nonce s) := by
  fun_cases execQuoteNonceWrite <;> exact framesSecurity_next rfl

theorem framesSecurity_quoteRead (mailbox : Bool) (who : Nat) : FramesSecurity s (execQuoteRead mailbox who s) := by
  fun_cases execQuoteRead <;> exact framesSecurity_next rfl

theorem framesSecurity_entdaa (address : Nat) : FramesSecurity s (execEntdaa address s) := by
  fun_cases execEntdaa <;> exact framesSecurity_next rfl

theorem framesSecurity_pldmBaseDiscovery (ty command arg : Nat) : FramesSecurity s (execPldmBaseDiscovery ty command arg s) :=
  framesSecurity_withPldm fun u => by
    repeat' split
    all_goals simp

theorem framesSecurity_pldmSensorRead (command sensor : Nat) : FramesSecurity s (execPldmSensorRead command sensor s) :=
  framesSecurity_withPldm fun u => by
    repeat' split
    all_goals simp

theorem framesSecurity_pldmFruRead (command : Nat) : FramesSecurity s (execPldmFruRead command s) :=
  framesSecurity_withPldm fun u => by split <;> simp

theorem framesSecurity_boundaryOp (ir : Nat) (drive : Bool) : FramesSecurity s (boundaryOp s ir drive) :=
  framesSecurity_withTap fun u => by split <;> rfl

/-- Settles O59: each command by what its meaning leaves alone. -/
theorem securityPackageFrame : Obligations.SecurityPackageFrame := by
  intro c s t hc ht
  refine eq_withSecurityOf ?_
  cases c <;> cases hc
  case getVersion => exact framesSecurity_getVersion _ t ht
  case getCapabilities => exact framesSecurity_getCapabilities _ _ t ht
  case negotiateAlgorithms => exact framesSecurity_negotiateAlgorithms _ _ _ _ _ _ t ht
  case getDigests => exact framesSecurity_getDigests _ t ht
  case getCertificate => exact framesSecurity_getCertificate _ _ _ _ t ht
  case spdmChallenge => exact framesSecurity_spdmChallenge _ _ _ t ht
  case getMeasurements => exact framesSecurity_getMeasurements _ _ _ _ t ht
  case keyExchange => exact framesSecurity_keyExchange _ _ _ t ht
  case finish => exact framesSecurity_finish _ _ _ t ht
  case keyUpdate => exact framesSecurity_keyUpdate _ _ _ t ht
  case spdmHeartbeat => exact framesSecurity_spdmHeartbeat _ _ t ht
  case endSession => exact framesSecurity_endSession _ _ t ht
  case vendorDefined => exact framesSecurity_vendorDefined _ _ _ _ _ _ t ht
  case quoteNonceWrite => exact framesSecurity_quoteNonceWrite _ _ _ t ht
  case quoteRead => exact framesSecurity_quoteRead _ _ t ht
  case entdaa => exact framesSecurity_entdaa _ t ht
  case pldmBaseDiscovery => exact framesSecurity_pldmBaseDiscovery _ _ _ t ht
  case pldmSensorRead => exact framesSecurity_pldmSensorRead _ _ t ht
  case pldmFruRead => exact framesSecurity_pldmFruRead _ t ht
  case bypass => exact framesSecurity_bypass t ht
  case idcode => exact framesSecurity_idcode t ht
  case samplePreload => exact framesSecurity_samplePreload _ _ t ht
  case extest => exact framesSecurity_boundaryOp _ _ t ht
  case clamp => exact framesSecurity_boundaryOp _ _ t ht
  case highz => exact framesSecurity_boundaryOp _ _ t ht
  case extestPulse => exact framesSecurity_boundaryOp _ _ t ht
  case extestTrain => exact framesSecurity_boundaryOp _ _ t ht

end Sys2Proof.Laws
end

section
/-!
The stacks and stockpots leave the queue alone (O4): each operation's queue is the queue it was given.
-/

namespace Sys2Proof.Laws

open Sys2Proof Sys2Proof.Machine

/-- The answer's state, where it is one, has the queue `q`. -/
def Queued (q : List Instr) : Res → Prop
  | .next t => t.pending = q
  | _ => True

variable {q : List Instr}

@[simp] theorem queued_next {t : State} : Queued q (.next t) ↔ t.pending = q := Iff.rfl
@[simp] theorem queued_fault (f : Fault) : Queued q (.fault f) := trivial
@[simp] theorem queued_refused (r : Refusal) : Queued q (.refused r) := trivial

@[simp] theorem queued_ite {c : Prop} [Decidable c] {a b : Res} : Queued q (if c then a else b) ↔ if c then Queued q a else Queued q b := by
  split <;> rfl

@[simp] theorem ite_pending {c : Prop} [Decidable c] (a b : State) : (if c then a else b).pending = if c then a.pending else b.pending :=
  apply_ite State.pending c a b

/-- What every step of a fold keeps, the fold keeps. -/
theorem foldl_view {α β γ : Type} (v : α → γ) (f : α → β → α) (l : List β) (a : α) (hf : ∀ a b, v (f a b) = v a) : v (l.foldl f a) = v a :=
  foldl_keeps (p := fun t => v t = v a) f l rfl fun t b h => (hf t b).trans h

@[simp] theorem foldl_pending {β : Type} (f : State → β → State) (l : List β) (s : State) (hf : ∀ t b, (f t b).pending = t.pending) :
    (l.foldl f s).pending = s.pending :=
  foldl_view State.pending f l s hf

@[simp] theorem foldl_fst_pending {β γ : Type} (f : State × γ → β → State × γ) (l : List β) (p : State × γ)
    (hf : ∀ t b, (f t b).1.pending = t.1.pending) : (l.foldl f p).1.pending = p.1.pending :=
  foldl_view (fun r => r.1.pending) f l p hf

@[simp] theorem foldl_snd_pending {β γ : Type} (f : γ × State → β → γ × State) (l : List β) (p : γ × State)
    (hf : ∀ t b, (f t b).2.pending = t.2.pending) : (l.foldl f p).2.pending = p.2.pending :=
  foldl_view (fun r => r.2.pending) f l p hf

@[simp] theorem foldl_lRun_pending {β : Type} (f : LRun → β → LRun) (l : List β) (r : LRun) (hf : ∀ t b, (f t b).next.pending = t.next.pending) :
    (l.foldl f r).next.pending = r.next.pending :=
  foldl_view (fun r => r.next.pending) f l r hf

@[simp] theorem foldl_loadBytes_pending {β : Type} (f : LoadBytes → β → LoadBytes) (l : List β) (r : LoadBytes)
    (hf : ∀ t b, (f t b).next.pending = t.next.pending) :
    (l.foldl f r).next.pending = r.next.pending :=
  foldl_view (fun r => r.next.pending) f l r hf

@[simp] theorem foldl_store_pending {β : Type} (f : Store → β → Store) (l : List β) (r : Store) (hf : ∀ t b, (f t b).next.pending = t.next.pending) :
    (l.foldl f r).next.pending = r.next.pending :=
  foldl_view (fun r => r.next.pending) f l r hf

@[simp] theorem foldl_setLoad_pending {β : Type} (f : SetLoad → β → SetLoad) (l : List β) (r : SetLoad)
    (hf : ∀ t b, (f t b).next.pending = t.next.pending) :
    (l.foldl f r).next.pending = r.next.pending :=
  foldl_view (fun r => r.next.pending) f l r hf

@[simp] theorem foldl_sweepRun_pending {β : Type} (f : SweepRun → β → SweepRun) (l : List β) (r : SweepRun)
    (hf : ∀ t b, (f t b).next.pending = t.next.pending) :
    (l.foldl f r).next.pending = r.next.pending :=
  foldl_view (fun r => r.next.pending) f l r hf

@[simp] theorem foldl_moveAcc_pending {β : Type} (f : MoveAcc → β → MoveAcc) (l : List β) (r : MoveAcc)
    (hf : ∀ t b, (f t b).next.pending = t.next.pending) :
    (l.foldl f r).next.pending = r.next.pending :=
  foldl_view (fun r => r.next.pending) f l r hf

@[simp] theorem foldl_sent_pending {β : Type} (f : Sent → β → Sent) (l : List β) (r : Sent) (hf : ∀ t b, (f t b).next.pending = t.next.pending) :
    (l.foldl f r).next.pending = r.next.pending :=
  foldl_view (fun r => r.next.pending) f l r hf

@[simp] theorem foldl_snd_lRun_pending {β γ : Type} (f : γ × LRun → β → γ × LRun) (l : List β) (r : γ × LRun)
    (hf : ∀ t b, (f t b).2.next.pending = t.2.next.pending) : (l.foldl f r).2.next.pending = r.2.next.pending :=
  foldl_view (fun r => r.2.next.pending) f l r hf

@[simp] theorem foldl_snd_snd_lRun_pending {β γ δ : Type} (f : γ × δ × LRun → β → γ × δ × LRun) (l : List β) (r : γ × δ × LRun)
    (hf : ∀ t b, (f t b).2.2.next.pending = t.2.2.next.pending) : (l.foldl f r).2.2.next.pending = r.2.2.next.pending :=
  foldl_view (fun r => r.2.2.next.pending) f l r hf

@[simp] theorem ite_lRun_pending {c : Prop} [Decidable c] (a b : LRun) :
    (if c then a else b).next.pending = if c then a.next.pending else b.next.pending :=
  apply_ite (fun r : LRun => r.next.pending) c a b

theorem snd_pending {γ : Type} {p : γ × State} {c : γ} {t : State} (h : p = (c, t)) : t.pending = p.2.pending := by rw [h]

theorem fst_pending {γ : Type} {p : State × γ} {c : γ} {t : State} (h : p = (t, c)) : t.pending = p.1.pending := by rw [h]

theorem queued_of_eq {t : State} {r : Res} (h : t.pending = q) (hr : Queued t.pending r) : Queued q r := h ▸ hr

theorem foldl_emit_pending {β : Type} (o : β → Out) (l : List β) (s : State) : (l.foldl (fun s w => emit s (o w)) s).pending = s.pending :=
  foldl_pending _ l s fun _ _ => rfl

@[simp] theorem afterRes_pending (s r) (h : Queued s.pending r) : (afterRes s r).pending = s.pending := by
  unfold afterRes; split; exacts [h, rfl]

theorem pending_ite {c : Prop} [Decidable c] {a b : State} {p : List Instr} (ha : a.pending = p) (hb : b.pending = p) :
    (if c then a else b).pending = p := by split <;> assumption

@[simp] theorem discardSteps_pending (s m) : (discardSteps s m).pending = s.pending := by simp [discardSteps]

@[simp] theorem markStalled_pending (s) : (markStalled s).pending = s.pending := by simp [markStalled]

@[simp] theorem freeValue_pending (s) : (freeValue s).2.pending = s.pending := by simp [freeValue]

@[simp] theorem measure_pending (s block value) : (Machine.measure s block value).pending = s.pending := by simp [Machine.measure]

@[simp] theorem sendMsix_pending (s fn vec) : (sendMsix s fn vec).pending = s.pending := by simp [sendMsix]

@[simp] theorem updEngine_pending (s : State) (k f) : (s.updEngine k f).pending = s.pending := by simp [State.updEngine]

@[simp] theorem updSlot_pending (s : State) (k f) : (s.updSlot k f).pending = s.pending := by simp [State.updSlot]

@[simp] theorem dsetStored_pending (s index sub v) : (dsetStored s index sub v).pending = s.pending := by simp [dsetStored]

@[simp] theorem bsetStored_pending (s index sub v) : (bsetStored s index sub v).pending = s.pending := by simp [bsetStored]

@[simp] theorem deliverSource_pending (s n) : (deliverSource s n).pending = s.pending := by
  unfold deliverSource
  dsimp only
  repeat' split
  all_goals simp

@[simp] theorem raiseSource_pending (s n) : (raiseSource s n).pending = s.pending := by simp [raiseSource]

@[simp] theorem raiseLocal_pending (s t j) : (raiseLocal s t j).pending = s.pending := by simp [raiseLocal]

@[simp] theorem setTenantFault_pending (s t bits) : (setTenantFault s t bits).pending = s.pending := by simp [setTenantFault]

@[simp] theorem setSummary_pending (s bits) : (setSummary s bits).pending = s.pending := by simp [setSummary]

@[simp] theorem slotTenantFault_pending (s m) : (slotTenantFault s m).pending = s.pending := by simp [slotTenantFault]

@[simp] theorem ringPush_pending (s e) : (ringPush s e).pending = s.pending := by
  unfold ringPush
  dsimp only
  repeat' split
  all_goals simp

@[simp] theorem cmdState_pending (s) : (cmdState s).pending = s.pending := by simp [cmdState]

@[simp] theorem slotRestoring_pending (s m) : (slotRestoring s m).pending = s.pending := by simp [slotRestoring]

@[simp] theorem slotOffline_pending (s m) : (slotOffline s m).pending = s.pending := by simp [slotOffline]

@[simp] theorem recordEntry_pending (s e) : (recordEntry s e).pending = s.pending := by simp [recordEntry]

@[simp] theorem beginRecovery_pending (s e cls) : (beginRecovery s e cls).pending = s.pending := by simp [beginRecovery]

@[simp] theorem windowFault_pending (s e) : (windowFault s e).pending = s.pending := by
  unfold windowFault
  split <;> simp

@[simp] theorem recoveryPathFault_pending (s kind index) : (recoveryPathFault s kind index).pending = s.pending := by simp [recoveryPathFault]

@[simp] theorem recordFault_pending (s e) : (recordFault s e).pending = s.pending := by simp [recordFault]

@[simp] theorem setPot_pending (s i c) : (setPot s i c).pending = s.pending := by simp [setPot]

@[simp] theorem setBuffer_pending (s i c) : (setBuffer s i c).pending = s.pending := by simp [setBuffer]

@[simp] theorem setLocal_pending (s i c) : (setLocal s i c).pending = s.pending := by simp [setLocal]

@[simp] theorem queueRepair_pending (s e) : (queueRepair s e).pending = s.pending := by simp [queueRepair]

@[simp] theorem markEarly_pending (s p) : (markEarly s p).pending = s.pending := by simp [markEarly]

@[simp] theorem touchCell_pending (s st p) : (touchCell s st p).pending = s.pending := by simp [touchCell]

@[simp] theorem beginMigration_pending (s st F D) : (beginMigration s st F D).pending = s.pending := by simp [beginMigration]

@[simp] theorem discardRows_pending (s a x2) : (discardRows s a x2).pending = s.pending := by
  induction x2 generalizing s a with
  | zero => rfl
  | succ n ih => rw [discardRows, ih]; split <;> simp

@[simp] theorem setImem_pending (s e i c) : (setImem s e i c).pending = s.pending := by simp [setImem]

@[simp] theorem storeCell_pending (s st p row w c) : (storeCell s st p row w c).pending = s.pending := by simp [storeCell]

@[simp] theorem discardRange_pending (s a n) : (discardRange s a n).next.pending = s.pending := by
  unfold discardRange
  dsimp only
  repeat' split
  all_goals simp

@[simp] theorem holeAccess_pending (s st) : (holeAccess s st).pending = s.pending := by simp [holeAccess]

@[simp] theorem storeCodePart_pending (s a c) : (storeCodePart s a c).next.pending = s.pending := by
  unfold storeCodePart
  split <;> simp

@[simp] theorem countHoles_pending (s a n) : (countHoles s a n).pending = s.pending := by
  unfold countHoles
  split
  · exact foldl_pending _ _ _ fun t i => by split <;> simp
  · rfl

@[simp] theorem storedCode_pending (s a) : (storedCode s a).2.2.pending = s.pending := by
  unfold storedCode
  split <;> simp

@[simp] theorem storeCode_pending (s a c) : (storeCode s a c).next.pending = s.pending := by simp [storeCode]

@[simp] theorem recordStack_pending (s code st reader addr) : (recordStack s code st reader addr).pending = s.pending := by simp [recordStack]

@[simp] theorem poisonCell_pending (s st p row w reader addr tenant) : (poisonCell s st p row w reader addr tenant).pending = s.pending := by
  simp [poisonCell]

@[simp] theorem weightFault_pending (s m st p row w again reader addr) : (weightFault s m st p row w again reader addr).pending = s.pending := by
  simp [weightFault]

@[simp] theorem loadSram_pending (s c put reader addr tenant) (hput : ∀ u x, (put u x).pending = u.pending) :
    (loadSram s c put reader addr tenant).next.pending = s.pending := by
  unfold loadSram; dsimp only; split <;> simp [hput]

@[simp] theorem poisonRow_pending (s st p row reader) : (poisonRow s st p row reader).pending = s.pending := by simp [poisonRow]

@[simp] theorem startRetire_pending (s st F) : (startRetire s st F).pending = s.pending := by
  unfold startRetire
  split <;> simp

@[simp] theorem spareColumn_pending (s src st p row sym g reader addr) :
    (spareColumn s src st p row sym g reader addr).pending = s.pending := by
  simp [spareColumn]

@[simp] theorem exhaustSpares_pending (s st p row reader) : (exhaustSpares s st p row reader).pending = s.pending := by
  unfold exhaustSpares
  dsimp only
  split <;> simp

@[simp] theorem spareRow_pending (s src st p row reader addr) : (spareRow s src st p row reader addr).pending = s.pending := by
  unfold spareRow; dsimp only; split <;> simp

@[simp] theorem hardFault_pending (s st p row sym reader addr) : (hardFault s st p row sym reader addr).pending = s.pending := by
  unfold hardFault
  dsimp only
  repeat' split
  all_goals simp

@[simp] theorem loadCellSeen_pending (s st p row w seen reader addr tenant) :
    (loadCellSeen s st p row w seen reader addr tenant).next.pending = s.pending := by
  unfold loadCellSeen
  dsimp only
  repeat' split
  all_goals simp

@[simp] theorem loadCell_pending (s st p row w reader addr tenant) : (loadCell s st p row w reader addr tenant).next.pending = s.pending := by
  simp [loadCell]

@[simp] theorem loadPart_pending (s reader tenant a) : (loadPart s reader tenant a).next.pending = s.pending := by
  unfold loadPart
  dsimp only
  split <;> simp

@[simp] theorem storePart_pending (s reader tenant a bs) : (storePart s reader tenant a bs).next.pending = s.pending := by
  unfold storePart
  dsimp only
  repeat' split
  all_goals simp

@[simp] theorem loadWords_pending (s reader tenant a x4) : (loadWords s reader tenant a x4).next.pending = s.pending := by
  induction x4 generalizing s a with
  | zero => rfl
  | succ n ih => simp [loadWords, ih]

@[simp] theorem loadWord_pending (s reader tenant a) : (loadWord s reader tenant a).next.pending = s.pending := by simp [loadWord]

@[simp] theorem storeAux_pending (s reader tenant a bs x5) : (storeAux s reader tenant a bs x5).next.pending = s.pending := by
  induction x5 generalizing s a bs with
  | zero => rfl
  | succ n ih => simp only [storeAux]; split <;> simp [ih]

@[simp] theorem loadBytes_pending (s reader tenant a n) : (loadBytes s reader tenant a n).next.pending = s.pending := by
  unfold loadBytes
  split <;> simp

@[simp] theorem storeBytes_pending (s reader tenant a bs) : (storeBytes s reader tenant a bs).next.pending = s.pending := by
  unfold storeBytes
  split <;> simp

@[simp] theorem applyEdit_pending (s reader tenant w e) : (applyEdit s reader tenant w e).next.pending = s.pending := by
  unfold applyEdit
  dsimp only
  repeat' split
  all_goals simp

@[simp] theorem readBits_pending (s reader tenant bit n) : (readBits s reader tenant bit n).next.pending = s.pending := by simp [readBits]

@[simp] theorem applyEdits_pending (s reader tenant x3) : (applyEdits s reader tenant x3).next.pending = s.pending := by
  induction x3 generalizing s with
  | nil => rfl
  | cons e rest ih => simp [applyEdits, ih]

@[simp] theorem readRunBits_pending (s reader tenant bit n x5) : (readRunBits s reader tenant bit n x5).2.pending = s.pending := by
  induction x5 generalizing s bit with
  | zero => rfl
  | succ n ih => simp [readRunBits, ih]

@[simp] theorem readScale_pending (s reader tenant t x) : (readScale s reader tenant t x).next.pending = s.pending := by
  unfold readScale
  split <;> simp

@[simp] theorem readElem_pending (s reader tenant t x) : (readElem s reader tenant t x).next.pending = s.pending := by simp [readElem]

@[simp] theorem readLine_pending (s reader tenant t f x0 x1 x7) : (readLine s reader tenant t f x0 x1 x7).2.pending = s.pending := by
  induction x7 generalizing s x0 with
  | zero => rfl
  | succ n ih => simp [readLine, ih]

@[simp] theorem slotDone_pending (s eng no status) : (slotDone s eng no status).pending = s.pending := by simp [slotDone]

@[simp] theorem countLadle_pending (s step layer sats nonf) : (countLadle s step layer sats nonf).pending = s.pending := by
  unfold countLadle
  split <;> simp

@[simp] theorem countGrid_pending (s step layer sats nonf) : (countGrid s step layer sats nonf).pending = s.pending := by
  unfold countGrid
  split <;> simp

@[simp] theorem recordNumeric_pending (s code step eng tenant layer count reason) :
    (recordNumeric s code step eng tenant layer count reason).pending = s.pending := by
  unfold recordNumeric
  split <;> simp

@[simp] theorem nonfiniteEvent_pending (s step eng tenant layer n) : (nonfiniteEvent s step eng tenant layer n).pending = s.pending := by
  simp [nonfiniteEvent]

@[simp] theorem ladleEvents_pending (s step eng tenant layer sats nonf) : (ladleEvents s step eng tenant layer sats nonf).pending = s.pending := by
  simp [ladleEvents]

@[simp] theorem overBlock_pending (rows cols f l) (hf : ∀ l k c, (f l k c).next.pending = l.next.pending) :
    (overBlock rows cols f l).next.pending = l.next.pending := by
  simp [overBlock, hf]

@[simp] theorem loadElem_pending (tenant fmt t c0 l k c) : (loadElem tenant fmt t c0 l k c).next.pending = l.next.pending := by
  unfold loadElem
  split <;> simp

@[simp] theorem loadGroupScale_pending (tenant t c0 l g c) : (loadGroupScale tenant t c0 l g c).next.pending = l.next.pending := by
  simp [loadGroupScale]

@[simp] theorem loadBasis_pending (tenant t c0 l j c) : (loadBasis tenant t c0 l j c).next.pending = l.next.pending := by simp [loadBasis]

@[simp] theorem loadShare_pending (f aw ags aaux tenant l e) : (loadShare f aw ags aaux tenant l e).next.pending = l.next.pending := by
  unfold loadShare
  dsimp only
  repeat' split
  all_goals simp

@[simp] theorem loadSet_pending (s f aw ags aaux tenant) : (loadSet s f aw ags aaux tenant).next.pending = s.pending := by simp [loadSet]

@[simp] theorem fail_pending (r code) : (LRun.fail r code).next.pending = r.next.pending := by simp [LRun.fail]

@[simp] theorem count_pending (r c) : (LRun.count r c).next.pending = r.next.pending := by simp [LRun.count]

@[simp] theorem notePartial_pending (r i vs) : (notePartial r i vs).next.pending = r.next.pending := by simp [notePartial]

@[simp] theorem noteKvPoison_pending (r frame) : (noteKvPoison r frame).next.pending = r.next.pending := by simp [noteKvPoison]

@[simp] theorem mark_pending (r bad) : (LRun.mark r bad).next.pending = r.next.pending := by simp [LRun.mark]

@[simp] theorem setRegs_pending (r p f) : (setRegs r p f).next.pending = r.next.pending := by simp [setRegs]

@[simp] theorem writeCellWord_pending (r p row w v bad) : (writeCellWord r p row w v bad).next.pending = r.next.pending := by simp [writeCellWord]

@[simp] theorem notePoison_pending (r p row w) : (notePoison r p row w).next.pending = r.next.pending := by simp [notePoison]

@[simp] theorem writeRowWords_pending (r p row ws) : (writeRowWords r p row ws).next.pending = r.next.pending := by simp [writeRowWords]

@[simp] theorem runRows_pending (f drow mk r) (hmk : ∀ r i n, (mk r i n).2.next.pending = r.next.pending) :
    (runRows f drow mk r).next.pending = r.next.pending := by
  simp [runRows, hmk]

@[simp] theorem mergeCellWord_pending (r p row w e) : (mergeCellWord r p row w e).next.pending = r.next.pending := by simp [mergeCellWord]

@[simp] theorem readCellWord_pending (r p row w) : (readCellWord r p row w).2.2.next.pending = r.next.pending := by
  unfold readCellWord
  dsimp only
  repeat' split
  all_goals simp

@[simp] theorem applyBank_pending (r p x2) : (applyBank r p x2).next.pending = r.next.pending := by
  induction x2 generalizing r with
  | nil => rfl
  | cons e rest ih => rw [applyBank, ih]; repeat' split
                      all_goals simp

@[simp] theorem readRowWords_pending (r p row w x4) : (readRowWords r p row w x4).2.next.pending = r.next.pending := by
  induction x4 generalizing r w with
  | zero => rfl
  | succ n ih => simp [readRowWords, ih]

@[simp] theorem readRows_pending (r p row x3) : (readRows r p row x3).2.next.pending = r.next.pending := by
  induction x3 generalizing r row with
  | nil => rfl
  | cons e rest ih => simp [readRows, ih]

@[simp] theorem runRowcopy_pending (f adst r) : (runRowcopy f adst r).next.pending = r.next.pending := by simp [runRowcopy]

@[simp] theorem chainPage_pending (f i bank row x0 rows r) : (chainPage f i bank row x0 rows r).2.next.pending = r.next.pending := by
  rw [chainPage, foldl_snd_lRun_pending]
  intro a j
  split
  next kw r1 e1 =>
    split
    next vw r2 e2 =>
      have h1 := readRowWords_pending a.2 bank (row + 2 * j) 0 64
      have h2 := readRowWords_pending r1 bank (row + 2 * j + 1) 0 64
      rw [e1] at h1
      rw [e2] at h2
      exact h2.trans h1

@[simp] theorem scorePage_pending (f i bank row x0 rows r) : (scorePage f i bank row x0 rows r).2.2.next.pending = r.next.pending := by
  simp [scorePage]

@[simp] theorem runRowlogic_pending (f adst aaux r) : (runRowlogic f adst aaux r).next.pending = r.next.pending := by simp [runRowlogic]

@[simp] theorem readMem_pending (r a n) : (readMem r a n).2.2.next.pending = r.next.pending := by simp [readMem]

@[simp] theorem readMarked_pending (r a n) : (readMarked r a n).2.next.pending = r.next.pending := by simp [readMarked]

@[simp] theorem gemvBank_pending (f r i vecs) : (gemvBank f r i vecs).2.2.next.pending = r.next.pending := by simp [gemvBank]

@[simp] theorem applyMem_pending (r m) : (applyMem r m).next.pending = r.next.pending := by simp [applyMem]

@[simp] theorem kvAppend_pending (f adst priv r q vs) : (kvAppend f adst priv r q vs).2.next.pending = r.next.pending := by
  unfold kvAppend
  dsimp only
  repeat' split
  all_goals simp

@[simp] theorem readVec_pending (r f a n) : (readVec r f a n).2.next.pending = r.next.pending := by simp [readVec]

@[simp] theorem runRowinit_pending (f aaux r) : (runRowinit f aaux r).next.pending = r.next.pending := by simp [runRowinit]

@[simp] theorem writeRaw_pending (r a x vs) : (writeRaw r a x vs).next.pending = r.next.pending := by simp [writeRaw]

@[simp] theorem writeOut_pending (r f a x vs) : (writeOut r f a x vs).next.pending = r.next.pending := by simp [writeOut]

@[simp] theorem sourceElems_pending (f avec r i) : (sourceElems f avec r i).2.next.pending = r.next.pending := by
  unfold sourceElems
  split <;> simp

@[simp] theorem putElems_pending (f adst r i q vs) : (putElems f adst r i q vs).next.pending = r.next.pending := by simp [putElems]

@[simp] theorem runNormstat_pending (f avec adst r) : (runNormstat f avec adst r).next.pending = r.next.pending := by simp [runNormstat]

@[simp] theorem runAxpy_pending (f avec adst r) : (runAxpy f avec adst r).next.pending = r.next.pending := by simp [runAxpy]

@[simp] theorem writeFinished_pending (r f adst a) : (writeFinished r f adst a).next.pending = r.next.pending := by simp [writeFinished]

@[simp] theorem writeRec_pending (r adst a) : (writeRec r adst a).next.pending = r.next.pending := by simp [writeRec]

@[simp] theorem writeScores_pending (f adst x0 len bank scores s) :
    (writeScores f adst x0 len bank scores s).run.next.pending = s.run.next.pending := by
  unfold writeScores
  split <;> simp

@[simp] theorem runCutapply_pending (f adst aaux r) : (runCutapply f adst aaux r).next.pending = r.next.pending := by simp [runCutapply]

@[simp] theorem finishOutputs_pending (r f adst aaux total q n0 vs) : (finishOutputs r f adst aaux total q n0 vs).next.pending = r.next.pending := by
  unfold finishOutputs
  dsimp only
  repeat' split
  all_goals simp

@[simp] theorem runElements_pending (f avec adst g r) (hg : ∀ r i e x, (g r i e x).2.next.pending = r.next.pending) :
    (runElements f avec adst g r).next.pending = r.next.pending := by
  simp [runElements, hg]

@[simp] theorem scoreEntry_pending (f i adst k entry s) : (scoreEntry f i adst k entry s).run.next.pending = s.run.next.pending := by
  unfold scoreEntry
  dsimp only
  repeat' split
  all_goals simp

@[simp] theorem runMerge_pending (f avec adst aaux r) : (runMerge f avec adst aaux r).next.pending = r.next.pending := by
  unfold runMerge
  dsimp only
  repeat' split
  all_goals simp

@[simp] theorem runGemv4_pending (f avec adst aaux r) : (runGemv4 f avec adst aaux r).next.pending = r.next.pending := by simp [runGemv4]

@[simp] theorem runAppendable_pending (f avec adst priv g r) (hg : ∀ r i e x, (g r i e x).2.next.pending = r.next.pending) :
    (runAppendable f avec adst priv g r).2.next.pending = r.next.pending := by
  unfold runAppendable; split <;> simp [hg]

@[simp] theorem runEwise_pending (f avec adst aaux r) : (runEwise f avec adst aaux r).next.pending = r.next.pending := by
  unfold runEwise
  split <;> simp

@[simp] theorem scorePages_pending (f i adst r) : (scorePages f i adst r).run.next.pending = r.next.pending := by
  refine foldl_view (fun t : ScoreRun => t.run.next.pending) _ _ _ fun t k => ?_
  dsimp only
  split <;> simp

@[simp] theorem runNormapply_pending (f avec adst aaux r) : (runNormapply f avec adst aaux r).next.pending = r.next.pending := by
  unfold runNormapply
  split <;> simp

@[simp] theorem runQuant_pending (f avec adst aaux priv r) : (runQuant f avec adst aaux priv r).2.next.pending = r.next.pending := by simp [runQuant]

@[simp] theorem runScore_pending (f avec adst aaux priv r) : (runScore f avec adst aaux priv r).2.next.pending = r.next.pending := by
  unfold runScore
  dsimp only
  repeat' split
  all_goals simp

@[simp] theorem runRope_pending (f avec adst aaux priv r) : (runRope f avec adst aaux priv r).2.next.pending = r.next.pending := by simp [runRope]

@[simp] theorem queued_whenFree (s ranges r) (h : Queued s.pending r) : Queued s.pending (whenFree s ranges r) := by
  unfold whenFree; split; exacts [h, rfl]

@[simp] theorem upsetCells_pending (s a x2) : (upsetCells s a x2).pending = s.pending := by
  induction x2 generalizing s with
  | nil => rfl
  | cons e rest ih => rw [upsetCells, ih]; split <;> simp

@[simp] theorem queued_execRefresh (st bank s) : Queued s.pending (execRefresh st bank s) := by simp [execRefresh]

@[simp] theorem queued_execStkRprDataWrite (st value s) : Queued s.pending (execStkRprDataWrite st value s) := by simp [execStkRprDataWrite]

@[simp] theorem readRun_pending (s reader tenant a glitches i x6) : (readRun s reader tenant a glitches i x6).next.pending = s.pending := by
  induction x6 generalizing s i with
  | zero => rfl
  | succ n ih => simp only [readRun, ih]; split <;> simp

@[simp] theorem addWords_pending (s reader tenant fmt n a bs x7) : (addWords s reader tenant fmt n a bs x7).next.pending = s.pending := by
  induction x7 generalizing s a bs with
  | zero => rfl
  | succ n ih => simp [addWords, ih]

@[simp] theorem addRun_pending (s reader tenant addr fmt bs) : (addRun s reader tenant addr fmt bs).next.pending = s.pending := by
  unfold addRun
  repeat' split
  all_goals simp

@[simp] theorem performAccess_pending (s h glitches) : (performAccess s h glitches).pending = s.pending := by
  unfold performAccess
  repeat' split
  all_goals simp

@[simp] theorem arriveAccess_pending (s h glitches) : (arriveAccess s h glitches).pending = s.pending := by simp [arriveAccess]

@[simp] theorem releaseHeldAux_pending (s x1) : (releaseHeldAux s x1).pending = s.pending := by fun_induction releaseHeldAux <;> simp_all

@[simp] theorem queued_execStackAccess (reader tenant addr len data hits glitches s) :
    Queued s.pending (execStackAccess reader tenant addr len data hits glitches s) := by
  simp [execStackAccess]

@[simp] theorem queued_execAddBurstRequest (issuer tenant addr fmt data fetch s) :
    Queued s.pending (execAddBurstRequest issuer tenant addr fmt data fetch s) := by
  simp [execAddBurstRequest]

@[simp] theorem releaseHeld_pending (s st) : (releaseHeld s st).pending = s.pending := by simp [releaseHeld]

@[simp] theorem applyNewModes_pending (s st) : (applyNewModes s st).pending = s.pending := by
  unfold applyNewModes
  dsimp only
  split <;> simp

@[simp] theorem fillPlaces_pending (s st) : (fillPlaces s st).pending = s.pending := by simp [fillPlaces]

@[simp] theorem performLadle_pending (s st op x run) (hrun : ∀ f x r, (run f x r).2.next.pending = r.next.pending) :
    (performLadle s st op x run).pending = s.pending := by
  simp [performLadle, hrun]

@[simp] theorem queued_execLadleResume (st bank s) : Queued s.pending (execLadleResume st bank s) := by
  unfold execLadleResume
  dsimp only
  repeat' split
  all_goals simp

@[simp] theorem countSuspend_pending (s st) : (countSuspend s st).pending = s.pending := by simp [countSuspend]

@[simp] theorem queued_execVectorSliceArrive (st bank waited s) : Queued s.pending (execVectorSliceArrive st bank waited s) := by
  unfold execVectorSliceArrive
  dsimp only
  repeat' split
  all_goals simp

@[simp] theorem queued_ladleOperation (op st slot run s) (hrun : ∀ f x r, (run f x r).2.next.pending = r.next.pending) :
    Queued s.pending (ladleOperation op st slot run s) := by
  unfold ladleOperation; repeat' split
  all_goals simp [hrun]

@[simp] theorem countSlot_pending (s st x) : (countSlot s st x).pending = s.pending := by
  unfold countSlot
  split <;> simp

@[simp] theorem queued_execRowlogic (st slot s) : Queued s.pending (execRowlogic st slot s) := by simp [execRowlogic]

@[simp] theorem queued_execRowcopy (st slot s) : Queued s.pending (execRowcopy st slot s) := by simp [execRowcopy]

@[simp] theorem queued_execRowinit (st slot s) : Queued s.pending (execRowinit st slot s) := by simp [execRowinit]

@[simp] theorem queued_execAxpy (st slot s) : Queued s.pending (execAxpy st slot s) := by simp [execAxpy]

@[simp] theorem queued_runCutapplySlot (st slot s) : Queued s.pending (runCutapplySlot st slot s) := by simp [runCutapplySlot]

@[simp] theorem queued_execNormstat (st slot s) : Queued s.pending (execNormstat st slot s) := by simp [execNormstat]

@[simp] theorem serveBank_pending (s st p) : (serveBank s st p).1.pending = s.pending := by simp [serveBank]

@[simp] theorem queued_execMerge (st slot s) : Queued s.pending (execMerge st slot s) := by simp [execMerge]

@[simp] theorem queued_execGemv4 (st slot s) : Queued s.pending (execGemv4 st slot s) := by simp [execGemv4]

@[simp] theorem queued_execEwise (st slot s) : Queued s.pending (execEwise st slot s) := by simp [execEwise]

@[simp] theorem queued_execNormapply (st slot s) : Queued s.pending (execNormapply st slot s) := by simp [execNormapply]

@[simp] theorem queued_execQuant (st slot s) : Queued s.pending (execQuant st slot s) := by simp [execQuant]

@[simp] theorem queued_execScore (st slot s) : Queued s.pending (execScore st slot s) := by simp [execScore]

@[simp] theorem queued_execRope (st slot s) : Queued s.pending (execRope st slot s) := by simp [execRope]

@[simp] theorem queued_execRowBoundary (st bank s) : Queued s.pending (execRowBoundary st bank s) := by
  unfold execRowBoundary
  repeat' split
  all_goals simp

@[simp] theorem updGrid_pending (s : State) (f) : (s.updGrid f).pending = s.pending := by simp [State.updGrid]

@[simp] theorem scaleFill_pending (op first count value put s) : (scaleFill op first count value put s).pending = s.pending := by
  unfold scaleFill
  split <;> simp

@[simp] theorem queued_execGridOpStart (waited s) : Queued s.pending (execGridOpStart waited s) := by simp [execGridOpStart]

@[simp] theorem queued_execSetout (value s) : Queued s.pending (execSetout value s) := by simp [execSetout]

@[simp] theorem queued_execFillrow (first count value s) : Queued s.pending (execFillrow first count value s) := by simp [execFillrow]

@[simp] theorem queued_execFillcol (first count value s) : Queued s.pending (execFillcol first count value s) := by simp [execFillcol]

@[simp] theorem queued_execWloadComplete (s) : Queued s.pending (execWloadComplete s) := by
  unfold execWloadComplete
  split <;> simp

@[simp] theorem finishHead_pending (s o) : (finishHead s o).pending = s.pending := by simp [finishHead]

@[simp] theorem queued_execScaleSlotComplete (s) : Queued s.pending (execScaleSlotComplete s) := by
  unfold execScaleSlotComplete
  split <;> simp

@[simp] theorem queued_execMmComplete (s) : Queued s.pending (execMmComplete s) := by
  unfold execMmComplete
  split <;> simp

@[simp] theorem readBytes_pending (s reader tenant a n) : (readBytes s reader tenant a n).2.2.pending = s.pending := by simp [readBytes]

@[simp] theorem scaleLoad_pending (op row sfmt first count src s) : (scaleLoad op row sfmt first count src s).pending = s.pending := by
  unfold scaleLoad
  split <;> simp

@[simp] theorem writeRecord_pending (s tenant a r bad) : (writeRecord s tenant a r bad).pending = s.pending := by simp [writeRecord]

@[simp] theorem streamVector_pending (s f src wide fold tenant r) : (streamVector s f src wide fold tenant r).2.pending = s.pending := by
  simp [streamVector]

@[simp] theorem queued_execLoadrow (sfmt first count src s) : Queued s.pending (execLoadrow sfmt first count src s) := by simp [execLoadrow]

@[simp] theorem rimInputs_pending (s f o r) : (rimInputs s f o r).2.pending = s.pending := by
  unfold rimInputs
  dsimp only
  repeat' split
  all_goals simp

@[simp] theorem queued_execLoadcol (sfmt first count src s) : Queued s.pending (execLoadcol sfmt first count src s) := by simp [execLoadcol]

@[simp] theorem rerunVector_pending (x f o w r) : (rerunVector x f o w r).next.pending = w.next.pending := by simp [rerunVector]

@[simp] theorem sweepVector_pending (x f o src wide w r) : (sweepVector x f o src wide w r).next.pending = w.next.pending := by
  unfold sweepVector
  dsimp only
  split <;> simp

@[simp] theorem queued_execWload (slot s) : Queued s.pending (execWload slot s) := by
  unfold execWload
  split <;> simp

@[simp] theorem reloadSet_pending (s f aw ags tenant) : (reloadSet s f aw ags tenant).2.pending = s.pending := by simp [reloadSet]

@[simp] theorem queued_runSweep (slot stalled s) : Queued s.pending (runSweep slot stalled s) := by
  unfold runSweep
  split <;> simp

@[simp] theorem queued_execRerunComplete (s) : Queued s.pending (execRerunComplete s) := by
  unfold execRerunComplete
  split <;> simp

@[simp] theorem setPort_pending (s : State) (p x) : (s.setPort p x).pending = s.pending := by simp [State.setPort]

@[simp] theorem updPort_pending (s : State) (p f) : (s.updPort p f).pending = s.pending := by simp [State.updPort]

@[simp] theorem sendFlits_pending (s p vc n) : (sendFlits s p vc n).pending = s.pending := by simp [sendFlits]

@[simp] theorem drainItems_pending (s p x2 x3) : (drainItems s p x2 x3).pending = s.pending := by
  induction x3 generalizing s x2 with
  | nil => simp [drainItems]
  | cons e rest ih => simp [drainItems, ih]

@[simp] theorem drainPort_pending (s p) : (drainPort s p).pending = s.pending := by simp [drainPort]

@[simp] theorem setPair_pending (s st) : (setPair s st).pending = s.pending := by simp [setPair]

@[simp] theorem transmit_pending (s p op vc flits fields data) : (transmit s p op vc flits fields data).pending = s.pending := by simp [transmit]

@[simp] theorem mirrorCodes_pending (s kind req len fields codes) : (mirrorCodes s kind req len fields codes).pending = s.pending := by
  simp [mirrorCodes]

@[simp] theorem sendOn_pending (s p leg dateline k) : (sendOn s p leg dateline k).pending = s.pending := by simp [sendOn]

@[simp] theorem mirror_pending (s kind req len fields item) : (mirror s kind req len fields item).pending = s.pending := by simp [mirror]

theorem sendPacket_pending (s k) : ∀ t ∈ sendPacket s k, t.pending = s.pending := by
  intro t ht
  obtain ⟨r, -, rfl⟩ := Option.map_eq_some_iff.1 ht
  simp

end Sys2Proof.Laws
end

section
/-!
The engines, slots, movers and their commands leave the queue alone (O4): each operation's queue is the queue it was given.
-/

namespace Sys2Proof.Laws

open Sys2Proof Sys2Proof.Machine

@[simp] theorem setStep_pending (s m r) : (setStep s m r).pending = s.pending := by simp [setStep]

@[simp] theorem badPostColl_pending (s) : (badPostColl s).pending = s.pending := by simp [badPostColl]

@[simp] theorem disableRing_pending (s k) : (disableRing s k).pending = s.pending := by simp [disableRing]

@[simp] theorem badPostMove_pending (s target first) : (badPostMove s target first).pending = s.pending := by
  unfold badPostMove
  dsimp only
  split <;> simp

@[simp] theorem badPost64_pending (s eng) : (badPost64 s eng).pending = s.pending := by simp [badPost64]

@[simp] theorem failRing_pending (s k) : (failRing s k).pending = s.pending := by simp [failRing]

@[simp] theorem recordOverflow_pending (s engine poster tenant tag) : (recordOverflow s engine poster tenant tag).pending = s.pending := by
  simp [recordOverflow]

@[simp] theorem enqueueMove_pending (s m q) : (enqueueMove s m q).2.pending = s.pending := by
  unfold enqueueMove
  dsimp only
  split <;> simp

@[simp] theorem enqueue64_pending (s eng q) : (enqueue64 s eng q).2.pending = s.pending := by
  unfold enqueue64
  dsimp only
  split <;> simp

@[simp] theorem postMove_pending (s target q) : (postMove s target q).2.pending = s.pending := by
  unfold postMove
  dsimp only
  repeat' split
  all_goals simp

@[simp] theorem postTask_pending (s target q) : (postTask s target q).2.pending = s.pending := by
  unfold postTask
  dsimp only
  repeat' split
  all_goals simp

@[simp] theorem postMoveBurst_pending (s target part key o burst) : (postMoveBurst s target part key o burst).2.pending = s.pending := by
  unfold postMoveBurst
  dsimp only
  repeat' split
  all_goals simp

@[simp] theorem postBurst_pending (s key o addr burst) : (postBurst s key o addr burst).2.pending = s.pending := by
  unfold postBurst
  dsimp only
  repeat' split
  all_goals simp

@[simp] theorem writeRingEntry_pending (s k data) : (writeRingEntry s k data).pending = s.pending := by
  unfold writeRingEntry
  dsimp only
  repeat' split
  all_goals simp

@[simp] theorem completeEntry_pending (s o record irq) : (completeEntry s o record irq).pending = s.pending := by
  unfold completeEntry
  split <;> simp

@[simp] theorem queued_withMover (s m f) (hf : ∀ x, Queued s.pending (f x)) : Queued s.pending (withMover s m f) := by
  unfold withMover; split; exacts [hf _, rfl]

@[simp] theorem endLoad_pending (s r) : (endLoad s r).pending = s.pending := by
  unfold endLoad
  split <;> simp

@[simp] theorem putRun_pending (s m r) : (putRun s m r).pending = s.pending := by simp [putRun]

@[simp] theorem beginLoad_pending (s e b) : (beginLoad s e b).pending = s.pending := by simp [beginLoad]

@[simp] theorem settleBank_pending (s e) : (settleBank s e).pending = s.pending := by simp [settleBank]

@[simp] theorem stopRun_pending (s m code) : (stopRun s m code).pending = s.pending := by simp [stopRun]

@[simp] theorem queued_execMoveDiscard (m s) : Queued s.pending (execMoveDiscard m s) := by
  unfold execMoveDiscard
  split <;> simp

@[simp] theorem queued_execDiscardApplied (m s) : Queued s.pending (execDiscardApplied m s) := by
  unfold execDiscardApplied
  split <;> simp

@[simp] theorem remoteOp_pending (q m o k) : (remoteOp q m o k).next.pending = q.next.pending := by
  unfold remoteOp
  dsimp only
  split
  · next t ht => exact sendPacket_pending _ _ t ht
  · rfl

@[simp] theorem sendReads_pending (s m o d) : (sendReads s m o d).next.pending = s.pending := by
  unfold sendReads
  repeat' split
  all_goals simp

@[simp] theorem refuseLoad_pending (s e m tenant tag) : (refuseLoad s e m tenant tag).pending = s.pending := by simp [refuseLoad]

@[simp] theorem queued_execMoverDescStart (m s) : Queued s.pending (execMoverDescStart m s) := by
  unfold execMoverDescStart
  refine queued_withMover _ _ _ fun _ => ?_
  dsimp only
  repeat' split
  all_goals simp

@[simp] theorem queued_execMoverQueuePost (poster tenant priv addr data s) :
    Queued s.pending (execMoverQueuePost poster tenant priv addr data s) := by
  unfold execMoverQueuePost
  split <;> simp

@[simp] theorem sourceBits_pending (s m o base src bit n) : (sourceBits s m o base src bit n).next.pending = s.pending := by
  unfold sourceBits
  repeat' split
  all_goals simp

@[simp] theorem storeEdits_pending (reader tenant edits q) : (storeEdits reader tenant edits q).next.pending = q.next.pending := by simp [storeEdits]

@[simp] theorem addBurst_pending (m o d edits q b) : (addBurst m o d edits q b).next.pending = q.next.pending := by
  unfold addBurst
  dsimp only
  repeat' split
  all_goals simp

@[simp] theorem moveElement_pending (m o d src acc k) : (moveElement m o d src acc k).next.pending = acc.next.pending := by
  unfold moveElement
  dsimp only
  repeat' split
  all_goals simp

@[simp] theorem sendEdits_pending (m r d present edits q) : (sendEdits m r d present edits q).next.pending = q.next.pending := by
  unfold sendEdits
  dsimp only
  split
  · exact foldl_emit_pending _ _ _
  · split <;> simp

@[simp] theorem addElements_pending (s m r src n) : (addElements s m r src n).1.pending = s.pending := by simp [addElements]

@[simp] theorem copyElements_pending (s m r src present n) : (copyElements s m r src present n).1.pending = s.pending := by
  unfold copyElements
  dsimp only
  split
  · refine (foldl_keeps (p := fun p : MoveAcc × Sent => p.1.next.pending = s.pending ∧ p.2.next.pending = s.pending) _ _ ⟨rfl, rfl⟩
      fun p run h => ?_).2
    simp [h.1]
  · simp

@[simp] theorem queued_execMoveAdd (m remote poisoned s) : Queued s.pending (execMoveAdd m remote poisoned s) := by
  unfold execMoveAdd
  split <;> simp

@[simp] theorem completeMove_pending (s m r) : (completeMove s m r).pending = s.pending := by
  unfold completeMove
  dsimp only
  repeat' split
  all_goals simp

@[simp] theorem queued_execMoverHostError (m done remote poisoned s) : Queued s.pending (execMoverHostError m done remote poisoned s) := by
  unfold execMoverHostError
  refine queued_withMover _ _ _ fun _ => ?_
  dsimp only
  repeat' split
  all_goals simp

@[simp] theorem queued_execMoveCopy (m remote poisoned s) : Queued s.pending (execMoveCopy m remote poisoned s) := by
  unfold execMoveCopy
  split <;> simp

@[simp] theorem queued_execMoverDescComplete (m s) : Queued s.pending (execMoverDescComplete m s) := by
  unfold execMoverDescComplete
  refine queued_withMover _ _ _ fun _ => ?_
  dsimp only
  repeat' split
  all_goals simp

@[simp] theorem newIssue_pending (s eng kind) : (newIssue s eng kind).2.pending = s.pending := by simp [newIssue]

@[simp] theorem haltNests_pending (s) : (haltNests s).pending = s.pending := by simp [haltNests]

@[simp] theorem setStage_pending (s eng n) : (setStage s eng n).pending = s.pending := by simp [setStage]

@[simp] theorem endEntry_pending (s eng) : (endEntry s eng).pending = s.pending := by simp [endEntry]

@[simp] theorem issueLadle_pending (s eng v) : (issueLadle s eng v).pending = s.pending := by simp [issueLadle]

@[simp] theorem issueScale_pending (s v) : (issueScale s v).pending = s.pending := by simp [issueScale]

@[simp] theorem issueGrid_pending (s v) : (issueGrid s v).pending = s.pending := by simp [issueGrid]

@[simp] theorem enterHalted_pending (s eng) : (enterHalted s eng).pending = s.pending := by simp [enterHalted]

@[simp] theorem finishWord_pending (s eng) : (finishWord s eng).pending = s.pending := by
  unfold finishWord
  dsimp only
  repeat' split
  all_goals simp

@[simp] theorem faultEngine_pending (s eng code pc tag) : (faultEngine s eng code pc tag).pending = s.pending := by simp [faultEngine]

@[simp] theorem fetchUnit_pending (s eng off) : (fetchUnit s eng off).2.2.pending = s.pending := by simp [fetchUnit]

@[simp] theorem rejectWord_pending (s eng code pc tag) : (rejectWord s eng code pc tag).pending = s.pending := by simp [rejectWord]

@[simp] theorem fetchUnits_pending (s eng off x3) : (fetchUnits s eng off x3).2.2.pending = s.pending := by
  induction x3 generalizing s off with
  | zero => rfl
  | succ n ih => simp [fetchUnits, ih]

@[simp] theorem memWait_pending (s eng f) : (memWait s eng f).1.pending = s.pending := by simp [memWait]

@[simp] theorem writeSignal_pending (s eng v) : (writeSignal s eng v).pending = s.pending := by
  unfold writeSignal
  dsimp only
  split <;> simp

@[simp] theorem afterMove_pending (s eng w) : (afterMove s eng w).pending = s.pending := by
  unfold afterMove
  split <;> simp

@[simp] theorem issueWord_pending (s eng w) : (issueWord s eng w).pending = s.pending := by
  unfold issueWord
  repeat' split
  all_goals simp

@[simp] theorem admitWord_pending (s eng w) : (admitWord s eng w).pending = s.pending := by
  unfold admitWord
  split <;> simp

@[simp] theorem pickReq_pending (s m ok) : (pickReq s m ok).2.pending = s.pending := by
  unfold pickReq
  dsimp only
  split <;> simp

@[simp] theorem pickBelow_pending (s n) : (pickBelow s n).2.pending = s.pending := by
  unfold pickBelow
  split <;> simp

@[simp] theorem svcSee_pending (s a n) : (svcSee s a n).pending = s.pending := by simp [svcSee]

@[simp] theorem svcWrite_pending (s a bs) : (svcWrite s a bs).pending = s.pending := by simp [svcWrite]

@[simp] theorem writeEntry_pending (s a v) : (writeEntry s a v).pending = s.pending := by simp [writeEntry]

@[simp] theorem emptyCutter_pending (s n) : (emptyCutter s n).pending = s.pending := by simp [emptyCutter]

@[simp] theorem stageRecord_pending (s st m aaux) : (stageRecord s st m aaux).pending = s.pending := by
  unfold stageRecord
  dsimp only
  repeat' split
  all_goals simp

@[simp] theorem stageSieve_pending (s m f ax2) : (stageSieve s m f ax2).pending = s.pending := by
  unfold stageSieve
  split
  · next h => simp [snd_pending h]
  · next h => simp [snd_pending h]

@[simp] theorem cutterPoisoned_pending (s m n) : (cutterPoisoned s m n).pending = s.pending := by simp [cutterPoisoned]

@[simp] theorem stageWord_pending (s eng w) : (stageWord s eng w).pending = s.pending := by
  unfold stageWord
  split <;> simp

@[simp] theorem cutterRecord_pending (s m layer b) : (cutterRecord s m layer b).2.pending = s.pending := by
  unfold cutterRecord
  dsimp only
  repeat' split
  all_goals simp

@[simp] theorem stageCutters_pending (s m layer a n) : (stageCutters s m layer a n).pending = s.pending := by
  refine foldl_pending _ _ _ fun t i => ?_
  dsimp only
  split
  · next h => simp [snd_pending h]
  · next h => simp [snd_pending h]

@[simp] theorem stageSlot_pending (s st slot) : (stageSlot s st slot).pending = s.pending := by
  unfold stageSlot
  repeat' split
  all_goals simp

@[simp] theorem stageSweep_pending (s slot) : (stageSweep s slot).pending = s.pending := by
  unfold stageSweep
  repeat' split
  all_goals simp

@[simp] theorem queued_execCutapply (st slot s) : Queued s.pending (execCutapply st slot s) :=
    queued_of_eq (stageSlot_pending s st slot) (queued_runCutapplySlot _ _ _)

@[simp] theorem queued_execMm (slot stalled s) : Queued s.pending (execMm slot stalled s) :=
    queued_of_eq (stageSweep_pending s slot) (queued_runSweep _ _ _)

@[simp] theorem queued_withSeq (s eng f) (hf : ∀ x, Queued s.pending (f x)) : Queued s.pending (withSeq s eng f) := by
  unfold withSeq; split; exacts [hf _, rfl]

@[simp] theorem queued_withCtrl (s eng v f) (hf : f.pending = s.pending) : Queued s.pending (withCtrl s eng v f) :=
    queued_withSeq _ _ _ fun _ => by split; exacts [hf, rfl]

@[simp] theorem noteQueue_pending (s eng step) : (noteQueue s eng step).pending = s.pending := by
  unfold noteQueue
  split <;> simp

@[simp] theorem beginStop_pending (s eng flip) : (beginStop s eng flip).pending = s.pending := by simp [beginStop]

@[simp] theorem takeEntry_pending (s eng q status running) : (takeEntry s eng q status running).pending = s.pending := by simp [takeEntry]

@[simp] theorem setA_pending (s eng rd v) : (setA s eng rd v).pending = s.pending := by simp [setA]

@[simp] theorem queued_execQentryStep (eng s) : Queued s.pending (execQentryStep eng s) := by
  unfold execQentryStep
  refine queued_withSeq _ _ _ fun _ => ?_
  dsimp only
  repeat' split
  all_goals simp

@[simp] theorem queued_execQentryCall (eng s) : Queued s.pending (execQentryCall eng s) := by
  unfold execQentryCall
  refine queued_withSeq _ _ _ fun _ => ?_
  dsimp only
  repeat' split
  all_goals simp

@[simp] theorem queued_execQentryFlip (eng s) : Queued s.pending (execQentryFlip eng s) := by
  unfold execQentryFlip
  refine queued_withSeq _ _ _ fun _ => ?_
  dsimp only
  repeat' split
  all_goals simp

@[simp] theorem queued_execCtrlStop (eng flip s) : Queued s.pending (execCtrlStop eng flip s) := by simp [execCtrlStop]

@[simp] theorem queued_execBankflip (eng s) : Queued s.pending (execBankflip eng s) := by simp [execBankflip]

@[simp] theorem jumpTo_pending (s eng target) : (jumpTo s eng target).pending = s.pending := by simp [jumpTo]

@[simp] theorem queued_execCtrlHalt (eng s) : Queued s.pending (execCtrlHalt eng s) := by simp [execCtrlHalt]

@[simp] theorem queued_execAdda (eng rd ra imm s) : Queued s.pending (execAdda eng rd ra imm s) := by simp [execAdda]

@[simp] theorem queued_execSeta (eng rd imm s) : Queued s.pending (execSeta eng rd imm s) := by simp [execSeta]

@[simp] theorem queued_execMaddc (eng rd ra cn imm s) : Queued s.pending (execMaddc eng rd ra cn imm s) := by simp [execMaddc]

@[simp] theorem queued_execSetc (eng cn imm s) : Queued s.pending (execSetc eng cn imm s) := by simp [execSetc]

@[simp] theorem queued_execLoop (eng cn target s) : Queued s.pending (execLoop eng cn target s) := by simp [execLoop]

@[simp] theorem queued_execJcz (eng cn target s) : Queued s.pending (execJcz eng cn target s) := by simp [execJcz]

@[simp] theorem queued_execJump (eng target s) : Queued s.pending (execJump eng target s) := by simp [execJump]

@[simp] theorem queued_execRet (eng s) : Queued s.pending (execRet eng s) := by
  unfold execRet
  dsimp only
  split <;> simp

@[simp] theorem queued_execCall (eng target s) : Queued s.pending (execCall eng target s) := by
  unfold execCall
  dsimp only
  split <;> simp

@[simp] theorem fetchWord_pending (s eng) : (fetchWord s eng).1.pending = s.pending := by
  unfold fetchWord
  dsimp only
  repeat' split
  all_goals simp

@[simp] theorem queued_execNest (eng s) : Queued s.pending (execNest eng s) := by
  refine queued_withSeq _ _ _ fun e => ?_
  split
  · split
    · next h => simp [fst_pending h]
    · next h => simp [fst_pending h]
  · simp

@[simp] theorem queued_execSeqQueuePost (poster tenant priv serving addr data s) :
    Queued s.pending (execSeqQueuePost poster tenant priv serving addr data s) := by
  unfold execSeqQueuePost
  split <;> simp

@[simp] theorem queued_execSyncMemPoll (eng s) : Queued s.pending (execSyncMemPoll eng s) := by
  unfold execSyncMemPoll
  refine queued_withSeq _ _ _ fun _ => ?_
  dsimp only
  repeat' split
  all_goals simp

@[simp] theorem completeRun_pending (s eng r) : (completeRun s eng r).pending = s.pending := by simp [completeRun]

@[simp] theorem queued_execMovePost (eng s) : Queued s.pending (execMovePost eng s) := by
  unfold execMovePost
  refine queued_withSeq _ _ _ fun _ => ?_
  dsimp only
  repeat' split
  all_goals simp

@[simp] theorem queued_execSyncWaitEnd (eng s) : Queued s.pending (execSyncWaitEnd eng s) := by
  unfold execSyncWaitEnd
  refine queued_withSeq _ _ _ fun _ => ?_
  dsimp only
  repeat' split
  all_goals simp

@[simp] theorem queued_execEntryComplete (eng s) : Queued s.pending (execEntryComplete eng s) := by
  unfold execEntryComplete
  refine queued_withSeq _ _ _ fun _ => ?_
  repeat' split
  all_goals simp

@[simp] theorem tryWord_pending (s eng h) : (tryWord s eng h).pending = s.pending := by simp [tryWord]

@[simp] theorem queued_execStepWordIssue (eng s) : Queued s.pending (execStepWordIssue eng s) := by
  refine queued_withSeq _ _ _ fun e => ?_
  split
  · simp
  split
  · split <;> simp
  split
  · simp
  split
  · next h => simp [fst_pending h]
  · next h => split <;> simp [fst_pending h]

@[simp] theorem putStack_pending (s agent tenant st o mask v) : (putStack s agent tenant st o mask v).pending = s.pending := by
  unfold putStack
  split <;> simp

theorem badPostAt_pending (s off) : ∀ t ∈ badPostAt s off, t.pending = s.pending := by
  unfold badPostAt; split <;> simp

@[simp] theorem putEng_pending (s eng o mask v) : (putEng s eng o mask v).pending = s.pending := by
  unfold putEng
  split <;> simp

@[simp] theorem putUnit_pending (s agent tenant off mask v) : (putUnit s agent tenant off mask v).pending = s.pending := by
  unfold putUnit
  repeat' split
  all_goals simp

@[simp] theorem invalidateTenant_pending (s t) : (invalidateTenant s t).pending = s.pending := by simp [invalidateTenant]

@[simp] theorem updThread_pending (s : State) (n t f) : (s.updThread n t f).pending = s.pending := by simp [State.updThread]

@[simp] theorem endTask_pending (s n t) : (endTask s n t).pending = s.pending := by
  unfold endTask
  dsimp only
  split <;> simp

@[simp] theorem settleThread_pending (s n t) : (settleThread s n t).pending = s.pending := by simp [settleThread]

@[simp] theorem stopThreadAt_pending (s n t code pc) : (stopThreadAt s n t code pc).pending = s.pending := by simp [stopThreadAt]

@[simp] theorem abandonThreads_pending (s n) : (abandonThreads s n).pending = s.pending := by simp [abandonThreads]

@[simp] theorem stopThread_pending (s n t code) : (stopThread s n t code).pending = s.pending := by simp [stopThread]

@[simp] theorem queued_withEngine (s eng f) (hf : ∀ x, Queued s.pending (f x)) : Queued s.pending (withEngine s eng f) := by
  unfold withEngine; split; exacts [hf _, rfl]

@[simp] theorem noteCmd_pending (s eng code ctag busy) : (noteCmd s eng code ctag busy).pending = s.pending := by simp [noteCmd]

@[simp] theorem endDrain_pending (s eng d) : (endDrain s eng d).pending = s.pending := by
  unfold endDrain
  split <;> simp

@[simp] theorem queued_execEngineDrainEnd (eng s) : Queued s.pending (execEngineDrainEnd eng s) := by
  unfold execEngineDrainEnd
  refine queued_withEngine _ _ _ fun _ => ?_
  repeat' split
  all_goals simp

@[simp] theorem queued_execEngineWatchdog (eng s) : Queued s.pending (execEngineWatchdog eng s) := by
  unfold execEngineWatchdog
  refine queued_withSeq _ _ _ fun _ => ?_
  repeat' split
  all_goals simp

@[simp] theorem discardEntry_pending (s eng q) : (discardEntry s eng q).pending = s.pending := by simp [discardEntry]

@[simp] theorem discardQueue_pending (s eng) : (discardQueue s eng).pending = s.pending := by simp [discardQueue]

@[simp] theorem stopEngine_pending (s eng flip) : (stopEngine s eng flip).pending = s.pending := by simp [stopEngine]

@[simp] theorem engCommand_pending (s agent tenant eng ctag code busy act) (hact : act.pending = s.pending) :
    (engCommand s agent tenant eng ctag code busy act).pending = s.pending := by
  simp [engCommand, hact]

@[simp] theorem queued_execStartService (agent tenant eng ctag s) : Queued s.pending (execStartService agent tenant eng ctag s) :=
    queued_withEngine _ _ _ fun _ => engCommand_pending _ _ _ _ _ _ _ _ (setEngine_pending _ _ _)

@[simp] theorem queued_execEngHalt (agent tenant eng ctag s) : Queued s.pending (execEngHalt agent tenant eng ctag s) := by simp [execEngHalt]

@[simp] theorem queued_execEngResume (agent tenant eng ctag s) : Queued s.pending (execEngResume agent tenant eng ctag s) :=
    queued_withEngine _ _ _ fun _ => engCommand_pending _ _ _ _ _ _ _ _ (setEngine_pending _ _ _)

@[simp] theorem queued_execSelect (agent tenant eng bank ctag s) : Queued s.pending (execSelect agent tenant eng bank ctag s) :=
    queued_withEngine _ _ _ fun _ => engCommand_pending _ _ _ _ _ _ _ _ (setEngine_pending _ _ _)

@[simp] theorem queued_execClearq (agent tenant eng ctag s) : Queued s.pending (execClearq agent tenant eng ctag s) := by simp [execClearq]

@[simp] theorem queued_execEngStop (agent tenant eng flip ctag s) : Queued s.pending (execEngStop agent tenant eng flip ctag s) := by
  simp [execEngStop]

@[simp] theorem queued_execStartNest (agent tenant eng ctag s) : Queued s.pending (execStartNest agent tenant eng ctag s) :=
    queued_withEngine _ _ _ fun _ => engCommand_pending _ _ _ _ _ _ _ _ (setEngine_pending _ _ _)

@[simp] theorem queued_execCommit (agent tenant eng bank len entry ctag s) : Queued s.pending (execCommit agent tenant eng bank len entry ctag s) :=
    queued_withEngine _ _ _ fun _ => engCommand_pending _ _ _ _ _ _ _ _ (setEngine_pending _ _ _)

@[simp] theorem writeEngCmd_pending (agent tenant eng v s) : (writeEngCmd agent tenant eng v s).pending = s.pending :=
    afterRes_pending s _ (by split <;> simp)

@[simp] theorem queued_execFrameEnterTest (agent tenant st frame s) : Queued s.pending (execFrameEnterTest agent tenant st frame s) := by
  simp [execFrameEnterTest]

@[simp] theorem queued_execFieldRepairWrite (s) : Queued s.pending (execFieldRepairWrite s) := by
  unfold execFieldRepairWrite
  split <;> simp

@[simp] theorem recordRaw_pending (s k cls pos value syn) : (recordRaw s k cls pos value syn).pending = s.pending := by simp [recordRaw]

@[simp] theorem queued_rawTestWrite (agent tenant st mk s) : Queued s.pending (rawTestWrite agent tenant st mk s) := by
  unfold rawTestWrite
  repeat' split
  all_goals simp

@[simp] theorem queued_rawTestRead (agent tenant st decoded s) : Queued s.pending (rawTestRead agent tenant st decoded s) := by
  unfold rawTestRead
  repeat' split
  all_goals simp

@[simp] theorem queued_execFrameTestEntered (st s) : Queued s.pending (execFrameTestEntered st s) := by
  unfold execFrameTestEntered
  dsimp only
  split
  · rfl
  · exact queued_next.2 (setStack_pending _ _ _)

@[simp] theorem whiskLapEnd_pending (s st) : (whiskLapEnd s st).pending = s.pending := by simp [whiskLapEnd]

@[simp] theorem queued_execRetirePendingDonor (st s) : Queued s.pending (execRetirePendingDonor st s) := by
  unfold execRetirePendingDonor
  dsimp only
  repeat' split
  all_goals simp

@[simp] theorem queued_execFrameLeaveTest (agent tenant st frame s) : Queued s.pending (execFrameLeaveTest agent tenant st frame s) := by
  simp [execFrameLeaveTest]

@[simp] theorem queued_execWrdata (agent tenant st s) : Queued s.pending (execWrdata agent tenant st s) := by simp [execWrdata]

@[simp] theorem queued_execRdraw (agent tenant st s) : Queued s.pending (execRdraw agent tenant st s) := by simp [execRdraw]

@[simp] theorem queued_execWrchk (agent tenant st s) : Queued s.pending (execWrchk agent tenant st s) := by simp [execWrchk]

@[simp] theorem queued_execRddec (agent tenant st s) : Queued s.pending (execRddec agent tenant st s) := by simp [execRddec]

@[simp] theorem queued_execWrboth (agent tenant st s) : Queued s.pending (execWrboth agent tenant st s) := by simp [execWrboth]

@[simp] theorem migrateWord_pending (s st F D o) : (migrateWord s st F D o).pending = s.pending := by simp [migrateWord]

@[simp] theorem migrateFrame_pending (s st F D) : (migrateFrame s st F D).pending = s.pending := by simp [migrateFrame]

@[simp] theorem degradeStack_pending (s st) : (degradeStack s st).pending = s.pending := by simp [degradeStack]

@[simp] theorem queued_execWhiskSlow (st s) : Queued s.pending (execWhiskSlow st s) := by simp [execWhiskSlow]

@[simp] theorem countRetired_pending (s st) : (countRetired s st).pending = s.pending := by simp [countRetired]

@[simp] theorem whiskWords_pending (s st p row x4) : (whiskWords s st p row x4).pending = s.pending := by fun_induction whiskWords <;> simp_all

@[simp] theorem whiskPot_pending (s die) : (whiskPot s die).pending = s.pending := by simp [whiskPot]

@[simp] theorem queued_execWhiskRow (st bank hits s) : Queued s.pending (execWhiskRow st bank hits s) := by simp [execWhiskRow]

@[simp] theorem retireFrame_pending (s st F D rest) : (retireFrame s st F D rest).pending = s.pending := by
  rw [retireFrame, releaseHeld_pending, recordStack_pending, queueRepair_pending, countRetired_pending, setStack_pending, migrateFrame_pending]

@[simp] theorem refuseTest_pending (s agent tenant st) : (refuseTest s agent tenant st).pending = s.pending := by simp [refuseTest]

@[simp] theorem writeTframe_pending (s agent tenant st v) : (writeTframe s agent tenant st v).pending = s.pending := by
  unfold writeTframe
  split <;> simp

@[simp] theorem writeTcmd_pending (s agent tenant st v) : (writeTcmd s agent tenant st v).pending = s.pending := by
  unfold writeTcmd
  split <;> simp

@[simp] theorem startCommand_pending (s agent tenant off v) : (startCommand s agent tenant off v).pending = s.pending := by
  unfold startCommand
  split <;> simp

@[simp] theorem writeUnit_pending (agent tenant off bs s e) : (writeUnit agent tenant off bs s e).pending = s.pending := by
  unfold writeUnit
  dsimp only
  split
  · next h =>
    have hb := badPostAt_pending _ _ _ h
    repeat' split
    all_goals simp [hb]
  · repeat' split
    all_goals simp

@[simp] theorem regWrite_pending (s agent tenant off bs) : (regWrite s agent tenant off bs).pending = s.pending := by simp [regWrite]

end Sys2Proof.Laws
end

section
/-!
The walkers and serving leave the queue alone (O4): each operation's queue is the queue it was given.
-/

namespace Sys2Proof.Laws

open Sys2Proof Sys2Proof.Machine

@[simp] theorem retireLoad_pending (s n t) : (retireLoad s n t).pending = s.pending := by simp [retireLoad]

@[simp] theorem queued_execWalkerCoreRestart (core runtime entry s) : Queued s.pending (execWalkerCoreRestart core runtime entry s) := by
  simp [execWalkerCoreRestart]

@[simp] theorem retireTo_pending (s n t pc g) : (retireTo s n t pc g).pending = s.pending := by simp [retireTo]

@[simp] theorem waitOn_pending (s n t wt a len isLoad) : (waitOn s n t wt a len isLoad).pending = s.pending := by simp [waitOn]

@[simp] theorem startThread_pending (s n t pc narg q) : (startThread s n t pc narg q).pending = s.pending := by simp [startThread]

@[simp] theorem retireNext_pending (s n t g) : (retireNext s n t g).pending = s.pending := by simp [retireNext]

@[simp] theorem endFence_pending (s n t acq) : (endFence s n t acq).pending = s.pending := by simp [endFence]

@[simp] theorem fetchInstr_pending (s eng off) : (fetchInstr s eng off).2.2.pending = s.pending := by
  unfold fetchInstr
  dsimp only
  split <;> simp

@[simp] theorem performPost_pending (s n t rd addr data) : (performPost s n t rd addr data).pending = s.pending := by simp [performPost]

@[simp] theorem walkLoad_pending (s n tenant a len l1err) : (walkLoad s n tenant a len l1err).next.pending = s.pending := by
  unfold walkLoad
  dsimp only
  repeat' split
  all_goals simp

@[simp] theorem refuseTask_pending (s n q code) : (refuseTask s n q code).pending = s.pending := by simp [refuseTask]

@[simp] theorem queued_execWalkerFlip (core s) : Queued s.pending (execWalkerFlip core s) := by
  unfold execWalkerFlip
  repeat' split
  all_goals simp

@[simp] theorem queued_execTaskStart (core s) : Queued s.pending (execTaskStart core s) := by
  unfold execTaskStart
  dsimp only
  repeat' split
  all_goals simp

@[simp] theorem finishAccess_pending (s n t g) : (finishAccess s n t g).pending = s.pending := by simp [finishAccess]

@[simp] theorem queued_execTaskWatchdog (core thread s) : Queued s.pending (execTaskWatchdog core thread s) := by simp [execTaskWatchdog]

@[simp] theorem poisonedFetch_pending (s n t) : (poisonedFetch s n t).pending = s.pending := by simp [poisonedFetch]

@[simp] theorem failAccess_pending (s n t code) : (failAccess s n t code).pending = s.pending := by simp [failAccess]

@[simp] theorem queued_walkerOp (s n t op f) (hf : ∀ w th u, ∀ t ∈ f w th u, t.pending = u.pending) : Queued s.pending (walkerOp s n t op f) := by
  unfold walkerOp
  dsimp only
  split
  · split
    · split
      · simp
      · split
        · simp
        · split
          · simp
          · split
            · split
              · next h => simp [hf _ _ _ _ h]
              · rfl
            · rfl
    · rfl
  · rfl

@[simp] theorem stopAccess_pending (s n t code a) : (stopAccess s n t code a).pending = s.pending := by simp [stopAccess]

@[simp] theorem returnAtomic_pending (s n t rd a len aop rb ord l1err) : (returnAtomic s n t rd a len aop rb ord l1err).pending = s.pending := by
  unfold returnAtomic
  dsimp only
  split <;> simp

@[simp] theorem queued_immOp (s n t op f) : Queued s.pending (immOp s n t op f) := by simp [immOp]

@[simp] theorem queued_aluOp (s n t op f) : Queued s.pending (aluOp s n t op f) := by simp [aluOp]

@[simp] theorem queued_branchOp (s n t op p) : Queued s.pending (branchOp s n t op p) := by simp [branchOp]

@[simp] theorem queued_execJalr (core thread s) : Queued s.pending (execJalr core thread s) := by simp [execJalr]

@[simp] theorem queued_execTexit (core thread s) : Queued s.pending (execTexit core thread s) := by simp [execTexit]

theorem issueLoad_pending (s n t kind write wt a len) : ∀ u ∈ issueLoad s n t kind write wt a len, u.pending = s.pending := by
  unfold issueLoad; dsimp only; repeat' split
  all_goals simp

@[simp] theorem queued_execPost (core thread s) : Queued s.pending (execPost core thread s) := by
  unfold execPost
  refine queued_walkerOp _ _ _ _ _ fun _ _ _ => ?_
  dsimp only
  repeat' split
  all_goals simp

@[simp] theorem queued_execMovk (core thread s) : Queued s.pending (execMovk core thread s) := by simp [execMovk]

@[simp] theorem returnAdd_pending (s n t rb a fmt data) : (returnAdd s n t rb a fmt data).pending = s.pending := by simp [returnAdd]

@[simp] theorem returnLoad_pending (s n t a len acq l1err g) : (returnLoad s n t a len acq l1err g).pending = s.pending := by
  unfold returnLoad
  dsimp only
  repeat' split
  all_goals simp

@[simp] theorem returnHop_pending (s n t rd p rb koff noff left l1err) : (returnHop s n t rd p rb koff noff left l1err).pending = s.pending := by
  simp [returnHop]

@[simp] theorem queued_execJal (core thread s) : Queued s.pending (execJal core thread s) := by simp [execJal]

@[simp] theorem queued_execMfs (core thread s) : Queued s.pending (execMfs core thread s) := by simp [execMfs]

@[simp] theorem queued_execShri (core thread s) : Queued s.pending (execShri core thread s) := by simp [execShri]

@[simp] theorem queued_execShli (core thread s) : Queued s.pending (execShli core thread s) := by simp [execShli]

@[simp] theorem queued_execSltu (core thread s) : Queued s.pending (execSltu core thread s) := by simp [execSltu]

@[simp] theorem queued_execClz (core thread s) : Queued s.pending (execClz core thread s) := by simp [execClz]

@[simp] theorem queued_execMinu (core thread s) : Queued s.pending (execMinu core thread s) := by simp [execMinu]

@[simp] theorem queued_execMul (core thread s) : Queued s.pending (execMul core thread s) := by simp [execMul]

@[simp] theorem queued_execAndi (core thread s) : Queued s.pending (execAndi core thread s) := by simp [execAndi]

@[simp] theorem queued_execAluAdd (core thread s) : Queued s.pending (execAluAdd core thread s) := by simp [execAluAdd]

@[simp] theorem queued_execShr (core thread s) : Queued s.pending (execShr core thread s) := by simp [execShr]

@[simp] theorem queued_execSar (core thread s) : Queued s.pending (execSar core thread s) := by simp [execSar]

@[simp] theorem queued_execBne (core thread s) : Queued s.pending (execBne core thread s) := by simp [execBne]

@[simp] theorem queued_execBge (core thread s) : Queued s.pending (execBge core thread s) := by simp [execBge]

@[simp] theorem queued_execXori (core thread s) : Queued s.pending (execXori core thread s) := by simp [execXori]

@[simp] theorem queued_execMaxs (core thread s) : Queued s.pending (execMaxs core thread s) := by simp [execMaxs]

@[simp] theorem queued_execHash (core thread s) : Queued s.pending (execHash core thread s) := by simp [execHash]

@[simp] theorem queued_amoOp (s n t op len) : Queued s.pending (amoOp s n t op len) := by
  refine queued_walkerOp _ _ _ _ _ fun w th u t ht => ?_
  obtain ⟨v, hv, rfl⟩ := Option.map_eq_some_iff.1 ht
  have hp := issueLoad_pending _ _ _ _ _ _ _ _ v hv
  split <;> simp [hp]

@[simp] theorem queued_execAluOr (core thread s) : Queued s.pending (execAluOr core thread s) := by simp [execAluOr]

@[simp] theorem queued_execWalkerDataReturn (core thread l1err stall s) : Queued s.pending (execWalkerDataReturn core thread l1err stall s) := by
  unfold execWalkerDataReturn
  dsimp only
  repeat' split
  all_goals simp

@[simp] theorem queued_execLd (core thread s) : Queued s.pending (execLd core thread s) :=
    queued_walkerOp _ _ _ _ _ fun _ _ u => issueLoad_pending u _ _ _ _ _ _ _

@[simp] theorem queued_execBlt (core thread s) : Queued s.pending (execBlt core thread s) := by simp [execBlt]

@[simp] theorem queued_execOri (core thread s) : Queued s.pending (execOri core thread s) := by simp [execOri]

@[simp] theorem queued_execShl (core thread s) : Queued s.pending (execShl core thread s) := by simp [execShl]

@[simp] theorem queued_execAddi (core thread s) : Queued s.pending (execAddi core thread s) := by simp [execAddi]

@[simp] theorem queued_execMulhu (core thread s) : Queued s.pending (execMulhu core thread s) := by simp [execMulhu]

@[simp] theorem queued_execBgeu (core thread s) : Queued s.pending (execBgeu core thread s) := by simp [execBgeu]

@[simp] theorem queued_execAluSub (core thread s) : Queued s.pending (execAluSub core thread s) := by simp [execAluSub]

@[simp] theorem queued_execPopc (core thread s) : Queued s.pending (execPopc core thread s) := by simp [execPopc]

@[simp] theorem queued_execSari (core thread s) : Queued s.pending (execSari core thread s) := by simp [execSari]

@[simp] theorem queued_execFord (core thread s) : Queued s.pending (execFord core thread s) := by simp [execFord]

@[simp] theorem queued_execLdch (core thread s) : Queued s.pending (execLdch core thread s) := by
  refine queued_walkerOp _ _ _ _ _ fun w th u t ht => ?_
  dsimp only at ht
  split at ht
  · obtain rfl := Option.mem_some_iff.1 ht
    simp
  · exact issueLoad_pending _ _ _ _ _ _ _ _ t ht

@[simp] theorem queued_execBeq (core thread s) : Queued s.pending (execBeq core thread s) := by simp [execBeq]

@[simp] theorem queued_execMaxu (core thread s) : Queued s.pending (execMaxu core thread s) := by simp [execMaxu]

@[simp] theorem queued_execMins (core thread s) : Queued s.pending (execMins core thread s) := by simp [execMins]

@[simp] theorem queued_execLdacq (core thread s) : Queued s.pending (execLdacq core thread s) :=
    queued_walkerOp _ _ _ _ _ fun _ _ u => issueLoad_pending u _ _ _ _ _ _ _

@[simp] theorem queued_execSlt (core thread s) : Queued s.pending (execSlt core thread s) := by simp [execSlt]

@[simp] theorem queued_execAluAnd (core thread s) : Queued s.pending (execAluAnd core thread s) := by simp [execAluAnd]

@[simp] theorem queued_execAluXor (core thread s) : Queued s.pending (execAluXor core thread s) := by simp [execAluXor]

@[simp] theorem queued_execLdb (core thread s) : Queued s.pending (execLdb core thread s) :=
    queued_walkerOp _ _ _ _ _ fun _ _ u => issueLoad_pending u _ _ _ _ _ _ _

@[simp] theorem queued_execBltu (core thread s) : Queued s.pending (execBltu core thread s) := by simp [execBltu]

@[simp] theorem queued_execAmo32 (core thread s) : Queued s.pending (execAmo32 core thread s) := by simp [execAmo32]

@[simp] theorem queued_execAmo64 (core thread s) : Queued s.pending (execAmo64 core thread s) := by simp [execAmo64]

@[simp] theorem stepWaiter_pending (s n t rank) : (stepWaiter s n t rank).pending = s.pending := by
  unfold stepWaiter
  split <;> simp

@[simp] theorem queued_execFence (core thread s) : Queued s.pending (execFence core thread s) := by
  unfold execFence
  refine queued_walkerOp _ _ _ _ _ fun _ _ _ => ?_
  dsimp only
  repeat' split
  all_goals simp

@[simp] theorem queued_execStrel (core thread s) : Queued s.pending (execStrel core thread s) := by
  unfold execStrel
  refine queued_walkerOp _ _ _ _ _ fun _ _ _ => ?_
  dsimp only
  repeat' split
  all_goals simp

theorem issueStore_pending (s n t kind a bs add) : ∀ u ∈ issueStore s n t kind a bs add, u.pending = s.pending := by
  unfold issueStore; dsimp only; repeat' split
  all_goals simp

@[simp] theorem performStore_pending (s n e) : (performStore s n e).1.pending = s.pending := by
  unfold performStore
  repeat' split
  all_goals simp

@[simp] theorem queued_execWadd (core thread s) : Queued s.pending (execWadd core thread s) := by
  refine queued_walkerOp _ _ _ _ _ fun w th u t ht => ?_
  dsimp only at ht
  split at ht
  · obtain rfl := Option.mem_some_iff.1 ht
    simp
  · split at ht
    · exact (issueLoad_pending _ _ _ _ _ _ _ _ t ht).trans (setWalker_pending _ _ _)
    · exact (issueStore_pending _ _ _ _ _ _ _ t ht).trans (setWalker_pending _ _ _)

@[simp] theorem queued_execStb (core thread s) : Queued s.pending (execStb core thread s) :=
    queued_walkerOp _ _ _ _ _ fun _ _ u => issueStore_pending u _ _ _ _ _ _

@[simp] theorem queued_execSt (core thread s) : Queued s.pending (execSt core thread s) :=
    queued_walkerOp _ _ _ _ _ fun _ _ u => issueStore_pending u _ _ _ _ _ _

@[simp] theorem ackStore_pending (s core entry waited stall e) : (ackStore s core entry waited stall e).pending = s.pending := by simp [ackStore]

@[simp] theorem queued_execWalkerStoreAck (core entry waited s) : Queued s.pending (execWalkerStoreAck core entry waited s) := by
  unfold execWalkerStoreAck
  dsimp only
  repeat' split
  all_goals simp

@[simp] theorem updNode_pending (s id f) : (updNode s id f).pending = s.pending := by simp [updNode]

@[simp] theorem unholdNodes_pending (s id x2) : (unholdNodes s id x2).pending = s.pending := by fun_induction unholdNodes <;> simp_all

@[simp] theorem holdNodes_pending (s ids) : (holdNodes s ids).pending = s.pending := by simp [holdNodes]

@[simp] theorem allocPage_pending (s t f) : (allocPage s t f).pending = s.pending := by simp [allocPage]

@[simp] theorem setRef_pending (s f n) : (setRef s f n).pending = s.pending := by simp [setRef]

@[simp] theorem dropFragment_pending (s id) : (dropFragment s id).pending = s.pending := by
  unfold dropFragment
  split <;> simp

@[simp] theorem removeNode_pending (s id) : (removeNode s id).pending = s.pending := by
  unfold removeNode
  split <;> simp

@[simp] theorem invalidatePage_pending (s page) : (invalidatePage s page).pending = s.pending := by simp [invalidatePage]

@[simp] theorem evictPages_pending (s x1) : (evictPages s x1).pending = s.pending := by fun_induction evictPages <;> simp_all

@[simp] theorem evictFor_pending (s t needs) : (evictFor s t needs).pending = s.pending := by simp [evictFor]

@[simp] theorem copyPage_pending (s tenant src dst x4) : (copyPage s tenant src dst x4).pending = s.pending := by
  induction x4 generalizing s src dst with
  | zero => rfl
  | succ n ih => simp [copyPage, ih]

@[simp] theorem seeWindows_pending (s r) : (seeWindows s r).pending = s.pending := by simp [seeWindows]

@[simp] theorem makeFragment_pending (s w j id) : (makeFragment s w j id).pending = s.pending := by simp [makeFragment]

@[simp] theorem publishBlocks_pending (s w tenant b parent made x6) : (publishBlocks s w tenant b parent made x6).pending = s.pending := by
  induction x6 generalizing s b parent made with
  | nil => rfl
  | cons k ks ih =>
    simp only [publishBlocks]
    split
    · rfl
    · rw [ih]
      dsimp only
      split <;> simp

@[simp] theorem noteWindow_pending (s w node publen salt) : (noteWindow s w node publen salt).pending = s.pending := by simp [noteWindow]

@[simp] theorem seeReached_pending (s r) : (seeReached s r).pending = s.pending := by simp [seeReached]

@[simp] theorem givePage_pending (s k t len e f) : (givePage s k t len e f).pending = s.pending := by simp [givePage]

@[simp] theorem releaseEntry_pending (s a) : (releaseEntry s a).pending = s.pending := by simp [releaseEntry]

@[simp] theorem publishWindow_pending (s a tenant slot cutter len publen last toks) :
    (publishWindow s a tenant slot cutter len publen last toks).pending = s.pending := by
  simp [publishWindow]

@[simp] theorem mapFragment_pending (s w j fr) : (mapFragment s w j fr).pending = s.pending := by simp [mapFragment]

@[simp] theorem queued_execKvPrepareDone (req s) : Queued s.pending (execKvPrepareDone req s) := by simp [execKvPrepareDone]

@[simp] theorem releaseBeyond_pending (s w len) : (releaseBeyond s w len).pending = s.pending := by simp [releaseBeyond]

@[simp] theorem publishReq_pending (s r) : (publishReq s r).pending = s.pending := by simp [publishReq]

@[simp] theorem mapMatched_pending (s w ids) : (mapMatched s w ids).pending = s.pending := by
  unfold mapMatched
  refine foldl_pending _ _ _ fun _ _ => ?_
  repeat' split
  all_goals simp

@[simp] theorem queued_execKvPagePrepare (req frames s) : Queued s.pending (execKvPagePrepare req frames s) := by simp [execKvPagePrepare]

@[simp] theorem endWindows_pending (s r) : (endWindows s r).pending = s.pending := by simp [endWindows]

@[simp] theorem matchPrefix_pending (s a tenant slot cutter toks most) : (matchPrefix s a tenant slot cutter toks most).1.pending = s.pending := by
  simp [matchPrefix]

@[simp] theorem emitLan_pending (s f) : (emitLan s f).pending = s.pending := by simp [emitLan]

@[simp] theorem freeReq_pending (s k) : (freeReq s k).pending = s.pending := by simp [freeReq]

@[simp] theorem presenceFrame_pending (s kind) : (presenceFrame s kind).pending = s.pending := by simp [presenceFrame]

theorem reserveRing_pending (s t r) : ∀ u ∈ reserveRing s t r, u.pending = s.pending := by
  unfold reserveRing; repeat' split
  all_goals simp

@[simp] theorem unreserveRing_pending (s t r) : (unreserveRing s t r).pending = s.pending := by
  unfold unreserveRing
  split <;> simp

@[simp] theorem timeFrame_pending (s kind fields) : (timeFrame s kind fields).pending = s.pending := by simp [timeFrame]

@[simp] theorem notice_pending (s kind) : (notice s kind).pending = s.pending := by simp [notice]

@[simp] theorem lastAnnounce_pending (s) : (lastAnnounce s).pending = s.pending := by simp [lastAnnounce]

@[simp] theorem endReq_pending (s k st status) : (endReq s k st status).pending = s.pending := by simp [endReq]

@[simp] theorem latePolicy_pending (s k) : (latePolicy s k).pending = s.pending := by simp [latePolicy]

@[simp] theorem lateWaiting_pending (s m carried) : (lateWaiting s m carried).pending = s.pending := by simp [lateWaiting]

@[simp] theorem noteStatus_pending (s status) : (noteStatus s status).pending = s.pending := by simp [noteStatus]

@[simp] theorem handOver_pending (s m) : (handOver s m).pending = s.pending := by simp [handOver]

@[simp] theorem mirrorPublish_pending (s k) : (mirrorPublish s k).pending = s.pending := by simp [mirrorPublish]

@[simp] theorem failRestore_pending (s m) : (failRestore s m).pending = s.pending := by simp [failRestore]

@[simp] theorem failTwinRestores_pending (s) : (failTwinRestores s).pending = s.pending := by simp [failTwinRestores]

@[simp] theorem storeRecords_pending (s k tail x3) : (storeRecords s k tail x3).1.pending = s.pending := by
  induction x3 generalizing s tail with
  | nil => rfl
  | cons d ds ih =>
    simp only [storeRecords]
    split
    · split <;> simp [ih]
    · exact ih _ _

@[simp] theorem writeRecords_pending (s k ds) : (writeRecords s k ds).pending = s.pending := by simp [writeRecords]

@[simp] theorem placeCutter_pending (s n t slot gen d) : (placeCutter s n t slot gen d).pending = s.pending := by simp [placeCutter]

@[simp] theorem sendReply_pending (s r) : (sendReply s r).pending = s.pending := by simp [sendReply]

@[simp] theorem writeAllRecords_pending (s rs) : (writeAllRecords s rs).pending = s.pending := by simp [writeAllRecords]

@[simp] theorem answer_pending (s q status req state detail) : (answer s q status req state detail).pending = s.pending := by simp [answer]

@[simp] theorem answerSubmit_pending (s k) : (answerSubmit s k).pending = s.pending := by
  unfold answerSubmit
  split <;> simp

@[simp] theorem answerPending_pending (s) : (answerPending s).pending = s.pending := by simp [answerPending]

@[simp] theorem dropReq_pending (s k) : (dropReq s k).pending = s.pending := by simp [dropReq]

@[simp] theorem closeReq_pending (s k) : (closeReq s k).pending = s.pending := by simp [closeReq]

@[simp] theorem settleSubmit_pending (s k) : (settleSubmit s k).pending = s.pending := by simp [settleSubmit]

@[simp] theorem endWithdraw_pending (s) : (endWithdraw s).pending = s.pending := by simp [endWithdraw]

@[simp] theorem finishReqs_pending (s ks) : (finishReqs s ks).pending = s.pending := by simp [finishReqs]

@[simp] theorem withdrawSlot_pending (s m) : (withdrawSlot s m).pending = s.pending := by simp [withdrawSlot]

@[simp] theorem withEnds_pending (s act) : (withEnds s act).pending = act.pending := by
  simp [withEnds]

@[simp] theorem mirrorPosition_pending (s kind k draft w lane pos sel) : (mirrorPosition s kind k draft w lane pos sel).pending = s.pending := by
  unfold mirrorPosition
  split <;> simp

@[simp] theorem mirrorAppends_pending (s x) : (mirrorAppends s x).pending = s.pending := by
  unfold mirrorAppends
  dsimp only
  split
  · split
    · exact foldl_pending _ _ _ fun t q => by split <;> simp
    · rfl
  · rfl

@[simp] theorem queued_execLadleSlotComplete (st s) : Queued s.pending (execLadleSlotComplete st s) := by
  unfold execLadleSlotComplete
  dsimp only
  repeat' split
  all_goals simp

@[simp] theorem admitReq_pending (q s k d toks) : (admitReq q s k d toks).pending = s.pending := by simp [admitReq]

@[simp] theorem changeReq_pending (s k d) : (changeReq s k d).pending = s.pending := by simp [changeReq]

@[simp] theorem applyReqCmd_pending (s q done) : (applyReqCmd s q done).1.pending = s.pending := by
  unfold applyReqCmd
  dsimp only
  repeat' split
  all_goals simp

@[simp] theorem mirrorCutter_pending (s n gen t d) : (mirrorCutter s n gen t d).pending = s.pending := by simp [mirrorCutter]

@[simp] theorem readCutterSource_pending (s t src) : (readCutterSource s t src).1.pending = s.pending := by
  unfold readCutterSource
  dsimp only
  repeat' split
  all_goals simp

@[simp] theorem seeSubmit_pending (s r) : (seeSubmit s r).pending = s.pending := by simp [seeSubmit]

@[simp] theorem mirrorAdmit_pending (s k) : (mirrorAdmit s k).pending = s.pending := by simp [mirrorAdmit]

@[simp] theorem applyCutter_pending (s q) : (applyCutter s q).1.pending = s.pending := by
  unfold applyCutter
  dsimp only
  repeat' split
  all_goals simp

@[simp] theorem applyWaited_pending (s q done) : (applyWaited s q done).1.pending = s.pending := by
  unfold applyWaited
  split <;> simp

@[simp] theorem submitCmd_pending (q s) : (submitCmd q s).pending = s.pending := by
  unfold submitCmd
  extract_lets t desc l r
  refine pending_ite (answer_pending _ _ _ _ _ _) (pending_ite (answer_pending _ _ _ _ _ _) (pending_ite (answer_pending _ _ _ _ _ _) ?_))
  have hl : l.next.pending = s.pending := loadBytes_pending _ _ _ _ _
  refine pending_ite ((answer_pending _ _ _ _ _ _).trans hl) (pending_ite ((answer_pending _ _ _ _ _ _).trans hl) ?_)
  split
  rename_i code detail _
  extract_lets seen p
  have hs : seen.pending = s.pending := pending_ite ((seeSubmit_pending _ _).trans hl) hl
  refine pending_ite ((answer_pending _ _ _ _ _ _).trans hs) ?_
  have hp : p.next.pending = s.pending := (loadBytes_pending _ _ _ _ _).trans hs
  refine pending_ite ((answer_pending _ _ _ _ _ _).trans hp) (pending_ite ((answer_pending _ _ _ _ _ _).trans hp) ?_)
  split
  · next h _ => exact (admitReq_pending _ _ _ _ _).trans ((reserveRing_pending _ _ _ _ h).trans hp)
  · exact (answer_pending _ _ _ _ _ _).trans hp

@[simp] theorem applyWaiting_pending (s m done) : (applyWaiting s m done).1.pending = s.pending := by simp [applyWaiting]

@[simp] theorem queryCmd_pending (q s) : (queryCmd q s).pending = s.pending := by simp [queryCmd]

@[simp] theorem pinCmd_pending (on q s) : (pinCmd on q s).pending = s.pending := by simp [pinCmd]

@[simp] theorem releaseCmd_pending (q s) : (releaseCmd q s).pending = s.pending := by simp [releaseCmd]

@[simp] theorem takePrefix_pending (s req groupMin) : (takePrefix s req groupMin).pending = s.pending := by
  unfold takePrefix
  dsimp only
  split <;> simp

@[simp] theorem queued_execSubmitMatchDone (req groupMin s) : Queued s.pending (execSubmitMatchDone req groupMin s) := by simp [execSubmitMatchDone]

@[simp] theorem queued_withServe (s op act) (hact : ∀ q u, (act q u).pending = u.pending) : Queued s.pending (withServe s op act) := by
  unfold withServe; repeat' split
  all_goals simp [hact]

@[simp] theorem queued_execSubmit (s) : Queued s.pending (execSubmit s) := by simp [execSubmit]

@[simp] theorem atBoundaryOf_pending (s m q) : (atBoundaryOf s m q).pending = s.pending := by simp [atBoundaryOf]

@[simp] theorem queued_execQuery (s) : Queued s.pending (execQuery s) := by simp [execQuery]

@[simp] theorem queued_execUnpin (s) : Queued s.pending (execUnpin s) := by simp [execUnpin]

@[simp] theorem queued_execRelease (s) : Queued s.pending (execRelease s) := by simp [execRelease]

@[simp] theorem queued_execPin (s) : Queued s.pending (execPin s) := by simp [execPin]

@[simp] theorem receiveReqCmd_pending (q s) : (receiveReqCmd q s).pending = s.pending := by simp [receiveReqCmd]

@[simp] theorem cutterClearCmd_pending (q s) : (cutterClearCmd q s).pending = s.pending := by
  unfold cutterClearCmd
  dsimp only
  repeat' split
  all_goals simp

@[simp] theorem cutterWriteCmd_pending (q s) : (cutterWriteCmd q s).pending = s.pending := by simp [cutterWriteCmd]

@[simp] theorem queued_execSetprio (s) : Queued s.pending (execSetprio s) := by simp [execSetprio]

@[simp] theorem queued_execSetdeadline (s) : Queued s.pending (execSetdeadline s) := by simp [execSetdeadline]

@[simp] theorem queued_execSetspec (s) : Queued s.pending (execSetspec s) := by simp [execSetspec]

@[simp] theorem queued_execCutterClear (s) : Queued s.pending (execCutterClear s) := by simp [execCutterClear]

@[simp] theorem queued_execPause (s) : Queued s.pending (execPause s) := by simp [execPause]

@[simp] theorem queued_execReqResume (s) : Queued s.pending (execReqResume s) := by simp [execReqResume]

@[simp] theorem queued_execCutterWrite (s) : Queued s.pending (execCutterWrite s) := by simp [execCutterWrite]

@[simp] theorem queued_execCancel (s) : Queued s.pending (execCancel s) := by simp [execCancel]

@[simp] theorem writeBank_pending (s e bank d) : (writeBank s e bank d).pending = s.pending := by simp [writeBank]

@[simp] theorem placePrograms_pending (s m progs) : (placePrograms s m progs).pending = s.pending := by simp [placePrograms]

@[simp] theorem placeSoon_pending (s) : (placeSoon s).pending = s.pending := by simp [placeSoon]

@[simp] theorem placeAtBoundary_pending (s) : (placeAtBoundary s).pending = s.pending := by simp [placeAtBoundary]

@[simp] theorem queued_execDraftPhaseDone (slot logits poisoned s) : Queued s.pending (execDraftPhaseDone slot logits poisoned s) := by
  simp [execDraftPhaseDone]

@[simp] theorem tablesApply_pending (s) : (tablesApply s).pending = s.pending := by
  unfold tablesApply
  dsimp only
  split
  · rfl
  · exact foldl_pending _ _ _ fun t st => setLadle_pending _ _ _

@[simp] theorem beginStep_pending (s m batch) : (beginStep s m batch).pending = s.pending := by
  rw [beginStep, dset_pending]
  exact (setStep_pending _ _ _).trans (foldl_pending _ _ _ fun t b => setReq_pending _ _ _)

@[simp] theorem offlineAtBoundary_pending (s m) : (offlineAtBoundary s m).pending = s.pending := by simp [offlineAtBoundary]

@[simp] theorem skipStarved_pending (s k) : (skipStarved s k).pending = s.pending := by simp [skipStarved]

@[simp] theorem lateCarried_pending (s k late) : (lateCarried s k late).pending = s.pending := by
  unfold lateCarried
  dsimp only
  repeat' split
  all_goals simp

@[simp] theorem admitBatch_pending (s m x2 x3 x4) : (admitBatch s m x2 x3 x4).1.pending = s.pending := by
  induction x2 generalizing s x3 x4 with
  | nil => rfl
  | cons k ks ih =>
    simp only [admitBatch]
    split
    · rfl
    · generalize (if (s.req k).state = .decode then 0 else min ((s.req k).plen - (s.req k).len) x3) = n
      split
      · exact ih _ _ _
      · split
        · simp [ih]
        · split
          · exact ih _ _ _
          · next h => exact (ih _ _ _).trans (reserveRing_pending _ _ _ _ h)

@[simp] theorem poisonAtBoundary_pending (s m) : (poisonAtBoundary s m).pending = s.pending := by simp [poisonAtBoundary]

@[simp] theorem fencedDone_pending (s) : (fencedDone s).pending = s.pending := by simp [fencedDone]

@[simp] theorem mirrorCommit_pending (s m parts) : (mirrorCommit s m parts).pending = s.pending := by simp [mirrorCommit]

@[simp] theorem selectAll_pending (s m r pos vs) : (selectAll s m r pos vs).1.pending = s.pending := by simp [selectAll]

@[simp] theorem commitReq_pending (s m b vs poisoned) : (commitReq s m b vs poisoned).1.pending = s.pending := by
  unfold commitReq
  dsimp only
  split <;> simp

@[simp] theorem countStep_pending (s m) : (countStep s m).pending = s.pending := by simp [countStep]

@[simp] theorem stageCutter_pending (a b) : (stageCutter a b).1.pending = a.1.pending := by
  unfold stageCutter
  dsimp only
  repeat' split
  all_goals simp

@[simp] theorem promoteReq_pending (s k) : (promoteReq s k).pending = s.pending := by
  unfold promoteReq
  extract_lets r s0 s1 s2 s3 s4
  have h3 : s3.pending = s.pending := by simp [s3, s2, s1, s0]
  have h4 : s4.pending = s.pending := by
    simp only [s4]
    split
    · next h => exact (reserveRing_pending _ _ _ _ h).trans h3
    · exact h3
  split <;> simp [h4]

@[simp] theorem promoteAtBoundary_pending (s m) : (promoteAtBoundary s m).pending = s.pending := by simp [promoteAtBoundary]

@[simp] theorem commitStep_pending (s m outs poisoned) : (commitStep s m outs poisoned).pending = s.pending := by simp [commitStep]

@[simp] theorem resetAtBoundary_pending (s m) : (resetAtBoundary s m).pending = s.pending := by simp [resetAtBoundary]

@[simp] theorem boundaryRest_pending (s m carried) : (boundaryRest s m carried).pending = s.pending := by simp [boundaryRest]

@[simp] theorem startBatch_pending (s slot) : (startBatch s slot).pending = s.pending := by simp [startBatch]

@[simp] theorem finishCommit_pending (s m) : (finishCommit s m).pending = s.pending := by simp [finishCommit]

@[simp] theorem queued_execStepCommit (slot outputs poisoned s) : Queued s.pending (execStepCommit slot outputs poisoned s) := by
  simp [execStepCommit]

@[simp] theorem observeCommands_pending (s m) : (observeCommands s m).pending = s.pending := by simp [observeCommands]

@[simp] theorem discardStep_pending (s m) : (discardStep s m).pending = s.pending := by simp [discardStep]

@[simp] theorem queued_execStepStart (slot s) : Queued s.pending (execStepStart slot s) := by simp [execStepStart]

@[simp] theorem unwindCommit_pending (s m) : (unwindCommit s m).pending = s.pending := by
  unfold unwindCommit
  dsimp only
  split
  · exact (discardStep_pending _ _).trans (foldl_pending _ _ _ fun t e => setReq_pending _ _ _)
  · rfl

@[simp] theorem queued_execStepDiscard (slot s) : Queued s.pending (execStepDiscard slot s) := by simp [execStepDiscard]

end Sys2Proof.Laws
end

section
/-!
Tenants, cadence and slots leave the queue alone (O4): each operation's queue is the queue it was given.
-/

namespace Sys2Proof.Laws

open Sys2Proof Sys2Proof.Machine

theorem foldl_discardRange_pending (l : List Region) (s : State) :
    (l.foldl (fun s r => (discardRange s r.addr r.bytes).next) s).pending = s.pending := by
  induction l generalizing s with
  | nil => rfl
  | cons r l ih => rw [List.foldl_cons, ih, discardRange_pending]

@[simp] theorem clearSources_pending (s t) : (clearSources s t).pending = s.pending := by simp [clearSources]

@[simp] theorem markBegun_pending (s t) : (markBegun s t).pending = s.pending := by simp [markBegun]

@[simp] theorem dropCommands_pending (s t) : (dropCommands s t).pending = s.pending := by simp [dropCommands]

@[simp] theorem zeroQuarters_pending (s t) : (zeroQuarters s t).pending = s.pending := by simp [zeroQuarters]

@[simp] theorem queued_withTenant (t s s') (h : s'.pending = s.pending) : Queued s.pending (withTenant t s s') := by
  unfold withTenant; simp [h]

@[simp] theorem dictAnswer_pending (s abort) : (dictAnswer s abort).pending = s.pending := by simp [dictAnswer]

@[simp] theorem resetRings_pending (s t) : (resetRings s t).pending = s.pending := by
  unfold resetRings
  refine foldl_pending _ _ _ fun _ _ => ?_
  repeat' split
  all_goals simp

@[simp] theorem clearMasks_pending (s t) : (clearMasks s t).pending = s.pending := by simp [clearMasks]

@[simp] theorem clearAllotments_pending (s t) : (clearAllotments s t).pending = s.pending := by simp [clearAllotments]

@[simp] theorem stopMoves_pending (s t) : (stopMoves s t).pending = s.pending := by
  refine foldl_pending _ _ _ fun t e => ?_
  dsimp only
  split
  · exact pending_ite ((endLoad_pending _ _).trans (setMover_pending _ _ _)) (setMover_pending _ _ _)
  · exact setMover_pending _ _ _

@[simp] theorem leaveContext_pending (s t) : (leaveContext s t).pending = s.pending := by simp [leaveContext]

@[simp] theorem discardApertures_pending (s t) : (discardApertures s t).pending = s.pending := by simp [discardApertures]

@[simp] theorem setTenantState_pending (s t st) : (setTenantState s t st).pending = s.pending := by simp [setTenantState]

@[simp] theorem removeNodes_pending (s t) : (removeNodes s t).pending = s.pending := by simp [removeNodes]

@[simp] theorem stateAbort_pending (s code) : (stateAbort s code).2.pending = s.pending := by simp [stateAbort]

@[simp] theorem legalOr_pending (s ok code act) (hact : act.pending = s.pending) : (legalOr s ok code act).pending = s.pending := by
  unfold legalOr; split <;> simp [hact]

@[simp] theorem quiesceTenant_pending (s t) : (quiesceTenant s t).pending = s.pending := by simp [quiesceTenant]

@[simp] theorem assignTenant_pending (s t) : (assignTenant s t).pending = s.pending := by simp [assignTenant]

@[simp] theorem queued_execQuiesce (tenant s) : Queued s.pending (execQuiesce tenant s) := by simp [execQuiesce]

@[simp] theorem queued_execAssign (tenant s) : Queued s.pending (execAssign tenant s) := by simp [execAssign]

@[simp] theorem dropDoorbell_pending (s t r) : (dropDoorbell s t r).pending = s.pending := by
  unfold dropDoorbell
  split <;> simp

@[simp] theorem applyDoorbell_pending (s t r v) : (applyDoorbell s t r v).pending = s.pending := by
  unfold applyDoorbell
  split <;> simp

@[simp] theorem releaseDoorbells_pending (s t) : (releaseDoorbells s t).pending = s.pending := by simp [releaseDoorbells]

@[simp] theorem resumeTenant_pending (s t) : (resumeTenant s t).pending = s.pending := by simp [resumeTenant]

@[simp] theorem queued_execTenantResume (tenant s) : Queued s.pending (execTenantResume tenant s) := by simp [execTenantResume]

@[simp] theorem emptyCutters_pending (s t) : (emptyCutters s t).pending = s.pending := by simp [emptyCutters]

@[simp] theorem unassignTenant_pending (s t) : (unassignTenant s t).pending = s.pending := by simp [unassignTenant]

@[simp] theorem stopTasks_pending (s t) : (stopTasks s t).pending = s.pending := by simp [stopTasks]

@[simp] theorem queued_execTenantResetDone (tenant s) : Queued s.pending (execTenantResetDone tenant s) := by simp [execTenantResetDone]

@[simp] theorem faultTenant_pending (s t) : (faultTenant s t).pending = s.pending := by simp [faultTenant]

@[simp] theorem resetRequests_pending (s t) : (resetRequests s t).pending = s.pending := by simp [resetRequests]

@[simp] theorem beginReset_pending (s t cause away) : (beginReset s t cause away).pending = s.pending := by simp [beginReset]

@[simp] theorem unassignCmd_pending (s t) : (unassignCmd s t).pending = s.pending := by simp [unassignCmd]

@[simp] theorem resetTenant_pending (s t) : (resetTenant s t).pending = s.pending := by simp [resetTenant]

@[simp] theorem faultReset_pending (s t) : (faultReset s t).pending = s.pending := by
  unfold faultReset
  split <;> simp

@[simp] theorem queued_execUnassign (tenant s) : Queued s.pending (execUnassign tenant s) := by simp [execUnassign]

@[simp] theorem queued_execTenantReset (tenant byFault s) : Queued s.pending (execTenantReset tenant byFault s) := by simp [execTenantReset]

@[simp] theorem queued_execContextSwitch (s) : Queued s.pending (execContextSwitch s) := by
  unfold execContextSwitch
  split <;> simp

@[simp] theorem slotState_pending (s m st) : (slotState s m st).pending = s.pending := by simp [slotState]

@[simp] theorem loadContext_pending (s c v) : (loadContext s c v).pending = s.pending := by
  unfold loadContext
  refine foldl_pending _ _ _ fun _ _ => ?_
  repeat' split
  all_goals simp

@[simp] theorem endRestore_pending (s m) : (endRestore s m).pending = s.pending := by simp [endRestore]

@[simp] theorem finishSwitch_pending (s w) : (finishSwitch s w).pending = s.pending := by simp [finishSwitch]

@[simp] theorem queued_execContextSwitchDone (s) : Queued s.pending (execContextSwitchDone s) := by
  unfold execContextSwitchDone
  split <;> simp

@[simp] theorem finishLoad_pending (s m progs) : (finishLoad s m progs).pending = s.pending := by simp [finishLoad]

@[simp] theorem queued_execSlotUnload (slot s) : Queued s.pending (execSlotUnload slot s) := by simp [execSlotUnload]

@[simp] theorem failLoad_pending (s m code written) : (failLoad s m code written).pending = s.pending := by
  have h1 : (if written then (s.slot m).regions.foldl (fun s r => (discardRange s r.addr r.bytes).next) s else s).pending = s.pending :=
    pending_ite (foldl_discardRange_pending _ _) rfl
  rw [failLoad, pending_ite (p := s.pending)]
  · rw [recordFault_pending, noteChange_pending, setSlot_pending, h1]
  · rw [noteChange_pending, setSlot_pending, h1]

@[simp] theorem queued_execRestoreTimeout (slot s) : Queued s.pending (execRestoreTimeout slot s) := by simp [execRestoreTimeout]

@[simp] theorem loadHead_pending (s m head) : (loadHead s m head).1.pending = s.pending := by
  unfold loadHead
  split <;> simp

@[simp] theorem loadImage_pending (s m status image) : (loadImage s m status image).1.pending = s.pending := by
  unfold loadImage
  split <;> simp

@[simp] theorem queued_execSlotLoad (slot head s) : Queued s.pending (execSlotLoad slot head s) := by simp [execSlotLoad]

@[simp] theorem queued_execRestoreFrameDone (slot data bad s) : Queued s.pending (execRestoreFrameDone slot data bad s) := by
  unfold execRestoreFrameDone
  repeat' split
  all_goals simp

@[simp] theorem copyRegion_pending (image m s r) : (copyRegion image m s r).pending = s.pending := by
  rw [copyRegion, updSlot_pending, storeBytes_pending]

@[simp] theorem queued_execSlotLoadDone (slot status image s) : Queued s.pending (execSlotLoadDone slot status image s) := by simp [execSlotLoadDone]

@[simp] theorem passEntry_pending (s) : (passEntry s).pending = s.pending := by simp [passEntry]

@[simp] theorem queued_execScheduleStep (s) : Queued s.pending (execScheduleStep s) := by
  unfold execScheduleStep
  split <;> simp

@[simp] theorem queued_execPpsOutSecond (s) : Queued s.pending (execPpsOutSecond s) := by simp [execPpsOutSecond]

@[simp] theorem refreshCadence_pending (s) : (refreshCadence s).pending = s.pending := by simp [refreshCadence]

@[simp] theorem queued_execFreqCorrection (temp s) : Queued s.pending (execFreqCorrection temp s) := by
  unfold execFreqCorrection
  dsimp only
  split <;> simp

@[simp] theorem rephase_pending (s before) : (rephase s before).pending = s.pending := by simp [rephase]

@[simp] theorem setQuality_pending (s q) : (setQuality s q).pending = s.pending := by simp [setQuality]

@[simp] theorem queued_execReservationLapse (s) : Queued s.pending (execReservationLapse s) := by simp [execReservationLapse]

@[simp] theorem overrunEntries_pending (s) : (overrunEntries s).pending = s.pending := by
  unfold overrunEntries
  dsimp only
  split <;> simp

@[simp] theorem queued_execScheduleContext (s) : Queued s.pending (execScheduleContext s) := by
  unfold execScheduleContext
  split <;> simp

@[simp] theorem queued_execPtpDelayReq (peer seq s) : Queued s.pending (execPtpDelayReq peer seq s) := by simp [execPtpDelayReq]

@[simp] theorem queued_execPtpSyncSend (s) : Queued s.pending (execPtpSyncSend s) := by simp [execPtpSyncSend]

@[simp] theorem stepTime_pending (s t) : (stepTime s t).pending = s.pending := by simp [stepTime]

@[simp] theorem changeSource_pending (s v) : (changeSource s v).pending = s.pending := by simp [changeSource]

@[simp] theorem queued_execGrandmasterAnnounce (epoch period time s) : Queued s.pending (execGrandmasterAnnounce epoch period time s) := by
  simp [execGrandmasterAnnounce]

@[simp] theorem queued_execPpsMissing (s) : Queued s.pending (execPpsMissing s) := by simp [execPpsMissing]

@[simp] theorem queued_execFabricCadenceTimeout (s) : Queued s.pending (execFabricCadenceTimeout s) := by simp [execFabricCadenceTimeout]

@[simp] theorem writePtpTime_pending (s t) : (writePtpTime s t).pending = s.pending := by simp [writePtpTime]

@[simp] theorem acceptPps_pending (s off) : (acceptPps s off).pending = s.pending := by simp [acceptPps]

@[simp] theorem queued_execPtpTimeWrite (time s) : Queued s.pending (execPtpTimeWrite time s) := by simp [execPtpTimeWrite]

@[simp] theorem queued_execPpsInPulse (stamp s) : Queued s.pending (execPpsInPulse stamp s) := by simp [execPpsInPulse]

@[simp] theorem activateTable_pending (s table) : (activateTable s table).2.pending = s.pending := by
  unfold activateTable
  repeat' split
  all_goals simp

@[simp] theorem makeBoundary_pending (s at_ edge) : (makeBoundary s at_ edge).pending = s.pending := by
  unfold makeBoundary
  dsimp only
  split <;> simp

@[simp] theorem queued_execScheduleActivate (table s) : Queued s.pending (execScheduleActivate table s) := by simp [execScheduleActivate]

@[simp] theorem lockedEdge_pending (s b) : (lockedEdge s b).pending = s.pending := by simp [lockedEdge]

@[simp] theorem newLock_pending (s b) : (newLock s b).pending = s.pending := by simp [newLock]

@[simp] theorem queued_execCadenceEdgeMissed (s) : Queued s.pending (execCadenceEdgeMissed s) := by simp [execCadenceEdgeMissed]

@[simp] theorem queued_execCadenceBoundary (s) : Queued s.pending (execCadenceBoundary s) := by simp [execCadenceBoundary]

@[simp] theorem lockingEdge_pending (s b) : (lockingEdge s b).pending = s.pending := by simp [lockingEdge]

@[simp] theorem queued_execCadenceInEdge (stamp s) : Queued s.pending (execCadenceInEdge stamp s) := by simp [execCadenceInEdge]

end Sys2Proof.Laws
end

section
/-!
The fabric and the tandem leave the queue alone (O4): each operation's queue is the queue it was given.
-/

namespace Sys2Proof.Laws

open Sys2Proof Sys2Proof.Machine

theorem getD_pending {o : Option State} {s : State} {p : List Instr} (ho : ∀ t ∈ o, t.pending = p) (hs : s.pending = p) : (o.getD s).pending = p := by
  cases o with
  | none => exact hs
  | some t => exact ho t rfl

@[simp] theorem sendPacket_getD_pending (s k) : ((sendPacket s k).getD s).pending = s.pending :=
  getD_pending (sendPacket_pending s k) rfl

@[simp] theorem dropOp_pending (s o) : (dropOp s o).pending = s.pending := by simp [dropOp]

@[simp] theorem queued_withPacket (s op f) (hf : ∀ k u, (f k u).pending = u.pending) : Queued s.pending (withPacket s op f) := by
  unfold withPacket; repeat' split
  all_goals simp [hf]

@[simp] theorem serveAck_pending (k s) : (serveAck k s).pending = s.pending := by
  unfold serveAck
  split <;> simp

@[simp] theorem putLinks_pending (s node version mask down) : (putLinks s node version mask down).pending = s.pending := by simp [putLinks]

@[simp] theorem ackReplay_pending (s p ackseq) : (ackReplay s p ackseq).pending = s.pending := by simp [ackReplay]

@[simp] theorem updMoveRun_pending (s m f) : (updMoveRun s m f).pending = s.pending := by simp [updMoveRun]

@[simp] theorem queued_execAck (s) : Queued s.pending (execAck s) := by simp [execAck]

@[simp] theorem queued_execNakReceive (port ackseq s) : Queued s.pending (execNakReceive port ackseq s) := by
  unfold execNakReceive
  split
  · rfl
  split
  · rfl
  · exact queued_next.2 ((foldl_emit_pending _ _ _).trans (by simp))

@[simp] theorem serveRdata_pending (k s) : (serveRdata k s).pending = s.pending := by
  unfold serveRdata
  split <;> simp

@[simp] theorem failOp_pending (s o code part) : (failOp s o code part).pending = s.pending := by simp [failOp]

@[simp] theorem queued_execRdata (s) : Queued s.pending (execRdata s) := by simp [execRdata]

@[simp] theorem queued_execFabricRequestTimeout (tag s) : Queued s.pending (execFabricRequestTimeout tag s) := by
  unfold execFabricRequestTimeout
  split <;> simp

@[simp] theorem readCodes_pending (s x1) : (readCodes s x1).2.2.pending = s.pending := by
  induction x1 generalizing s with
  | nil => rfl
  | cons a rest ih => simp only [readCodes]; split <;> simp [ih]

@[simp] theorem resumePort_pending (s p) : (resumePort s p).pending = s.pending := (drainPort_pending _ _).trans (foldl_emit_pending _ _ _)

@[simp] theorem storeMarked_pending (s x1) : (storeMarked s x1).next.pending = s.pending := by
  induction x1 generalizing s with
  | nil => rfl
  | cons e rest ih => simp only [storeMarked]; split <;> simp [ih]

@[simp] theorem sendLinkState_pending (s p node version mask down) : (sendLinkState s p node version mask down).pending = s.pending := by
  simp [sendLinkState]

@[simp] theorem floodLinkState_pending (s except node version mask down) : (floodLinkState s except node version mask down).pending = s.pending := by
  simp [floodLinkState]

@[simp] theorem changeOwnLinks_pending (s p failed) : (changeOwnLinks s p failed).pending = s.pending := by simp [changeOwnLinks]

@[simp] theorem sendNack_pending (s dst tag addr code) : (sendNack s dst tag addr code).pending = s.pending := by simp [sendNack]

@[simp] theorem respond_pending (s k op fcnt words) : (respond s k op fcnt words).pending = s.pending := by simp [respond]

@[simp] theorem serveNack_pending (k s) : (serveNack k s).pending = s.pending := by
  unfold serveNack
  dsimp only
  split
  · split
    · split
      · next h => exact sendPacket_pending _ _ _ h
      · simp
    · simp
  · rfl

@[simp] theorem queued_execLinkstate (port node version mask down s) : Queued s.pending (execLinkstate port node version mask down s) := by
  simp [execLinkstate]

@[simp] theorem setPortState_pending (s p st) : (setPortState s p st).pending = s.pending := by simp [setPortState]

@[simp] theorem queued_withRequest (s op f) (hf : ∀ k u, (f k u).pending = u.pending) : Queued s.pending (withRequest s op f) := by
  unfold withRequest; split
  · exact queued_whenFree _ _ _ (queued_withPacket _ _ _ fun k u => by split <;> simp [hf])
  · rfl

@[simp] theorem packetArrives_pending (s p vc k) : (packetArrives s p vc k).pending = s.pending := by
  unfold packetArrives
  repeat' split
  all_goals simp

@[simp] theorem serveFabricWrite_pending (k s) : (serveFabricWrite k s).pending = s.pending := by simp [serveFabricWrite]

@[simp] theorem queued_execNack (s) : Queued s.pending (execNack s) := by simp [execNack]

@[simp] theorem serveFabricRead_pending (k s) : (serveFabricRead k s).pending = s.pending := by simp [serveFabricRead]

@[simp] theorem queued_execQuarantineRelease (port value s) : Queued s.pending (execQuarantineRelease port value s) := by simp [execQuarantineRelease]

@[simp] theorem queued_execPortDownExpire (port s) : Queued s.pending (execPortDownExpire port s) := by
  unfold execPortDownExpire
  repeat' split
  all_goals simp

@[simp] theorem tandemPortBack_pending (s p) : (tandemPortBack s p).pending = s.pending := by simp [tandemPortBack]

@[simp] theorem tandemPortFault_pending (s p) : (tandemPortFault s p).pending = s.pending := by simp [tandemPortFault]

@[simp] theorem queued_execFabricWrite (s) : Queued s.pending (execFabricWrite s) := by simp [execFabricWrite]

@[simp] theorem queued_execFabricRead (s) : Queued s.pending (execFabricRead s) := by simp [execFabricRead]

@[simp] theorem queued_execPortRetrain (port s) : Queued s.pending (execPortRetrain port s) := by simp [execPortRetrain]

@[simp] theorem queued_execPortTrained (port node dx dy dz serial names s) :
    Queued s.pending (execPortTrained port node dx dy dz serial names s) := by
  simp [execPortTrained]

@[simp] theorem quarantine_pending (s p) : (quarantine s p).pending = s.pending := by simp [quarantine]

@[simp] theorem queued_execPortLossOfSignal (port s) : Queued s.pending (execPortLossOfSignal port s) := by simp [execPortLossOfSignal]

@[simp] theorem violation_pending (s p src tag addr) : (violation s p src tag addr).pending = s.pending := by simp [violation]

@[simp] theorem joinFlit_pending (s p vc fidx wmask k) : (joinFlit s p vc fidx wmask k).pending = s.pending := by simp [joinFlit]

@[simp] theorem queued_execFlitReceive (port crcOk ftype vc seq ackseq cvc credits op dst src tenant priv ord addfmt fidx fcnt tag wmask addr words s) :
    Queued s.pending (execFlitReceive port crcOk ftype vc seq ackseq cvc credits op dst src tenant priv ord addfmt fidx fcnt tag wmask addr words s) := by
  simp [execFlitReceive]

@[simp] theorem addMarked_pending (s k x2) : (addMarked s k x2).next.pending = s.pending := by
  induction x2 generalizing s with
  | nil => rfl
  | cons a rest ih =>
    simp only [addMarked]
    split
    · simp
    · rw [ih]
      split <;> split <;> simp

@[simp] theorem serveFabricAdd_pending (k s) : (serveFabricAdd k s).pending = s.pending := by simp [serveFabricAdd]

@[simp] theorem queued_execFabricAdd (s) : Queued s.pending (execFabricAdd s) := by simp [execFabricAdd]

@[simp] theorem putColl_pending (x) : (putColl x).pending = x.1.pending := by simp [putColl]

@[simp] theorem storeResult_pending (s a x2) : (storeResult s a x2).next.pending = s.pending := by
  induction x2 generalizing s a with
  | nil => rfl
  | cons e rest ih => simp [storeResult, ih]

@[simp] theorem freeWords_pending (s a x2) : (freeWords s a x2).pending = s.pending := by
  induction x2 generalizing s a with
  | zero => rfl
  | succ n ih => simp [freeWords, ih]

@[simp] theorem collSend_pending (s d words) : (collSend s d words).pending = s.pending := by
  unfold collSend
  refine foldl_pending _ _ _ fun t r => ?_
  exact pending_ite rfl (foldl_pending _ _ _ fun u ws => sendPacket_getD_pending _ _)

@[simp] theorem queued_execCollPost (poster tenant priv data s) : Queued s.pending (execCollPost poster tenant priv data s) := by simp [execCollPost]

@[simp] theorem contribute_pending (s d r) : (contribute s d r).1.pending = s.pending := by simp [contribute]

@[simp] theorem collHear_pending (s r m) : (collHear s r m).1.pending = s.pending := by
  unfold collHear
  dsimp only
  repeat' split
  all_goals simp

@[simp] theorem beginColl_pending (s q) : (beginColl s q).pending = s.pending := by simp [beginColl]

@[simp] theorem queued_execCollMessage (rank desc isData data bad s) : Queued s.pending (execCollMessage rank desc isData data bad s) := by
  unfold execCollMessage
  split <;> simp

@[simp] theorem completeColl_pending (s b o status rejected) : (completeColl s b o status rejected).pending = s.pending := by simp [completeColl]

@[simp] theorem queued_startColl (op s) : Queued s.pending (startColl op s) := by
  unfold startColl
  split <;> simp

@[simp] theorem queued_execCollTimeout (s) : Queued s.pending (execCollTimeout s) := by
  unfold execCollTimeout
  split <;> simp

@[simp] theorem queued_execCollComplete (s) : Queued s.pending (execCollComplete s) := by
  unfold execCollComplete
  split <;> simp

@[simp] theorem queued_execReducescatter (s) : Queued s.pending (execReducescatter s) := by simp [execReducescatter]

@[simp] theorem queued_execAllreduce (s) : Queued s.pending (execAllreduce s) := by simp [execAllreduce]

@[simp] theorem queued_execAllgather (s) : Queued s.pending (execAllgather s) := by simp [execAllgather]

@[simp] theorem queued_execBroadcast (s) : Queued s.pending (execBroadcast s) := by simp [execBroadcast]

@[simp] theorem startPromotion_pending (s) : (startPromotion s).pending = s.pending := by simp [startPromotion]

@[simp] theorem takeMirrorHandover_pending (slot s) : (takeMirrorHandover slot s).pending = s.pending := by simp [takeMirrorHandover]

@[simp] theorem noteHeart_pending (s seq priority applied) : (noteHeart s seq priority applied).pending = s.pending := by simp [noteHeart]

@[simp] theorem queued_execPairKeyAgree (share signature partnerKey certificateOk s) :
    Queued s.pending (execPairKeyAgree share signature partnerKey certificateOk s) := by
  simp [execPairKeyAgree]

@[simp] theorem countShadows_pending (s) : (countShadows s).pending = s.pending := by simp [countShadows]

@[simp] theorem shadowReq_pending (s e) : (shadowReq s e).pending = s.pending := by simp [shadowReq]

@[simp] theorem takeMirrorTime_pending (quality time freq period boundary s) :
    (takeMirrorTime quality time freq period boundary s).pending = s.pending := by
  simp [takeMirrorTime]

@[simp] theorem unpair_pending (s st) : (unpair s st).pending = s.pending := by simp [unpair]

@[simp] theorem settleActive_pending (s) : (settleActive s).pending = s.pending := by simp [settleActive]

@[simp] theorem ackMirror_pending (s seq fields) : (ackMirror s seq fields).pending = s.pending := by simp [ackMirror]

@[simp] theorem enterSeeking_pending (s) : (enterSeeking s).pending = s.pending := by simp [enterSeeking]

@[simp] theorem queued_withMirror (s seq f) (hf : ∀ u, (f u).pending = u.pending) : Queued s.pending (withMirror s seq f) := by
  unfold withMirror; split <;> simp [hf]

@[simp] theorem applyTandemEnable_pending (s v) : (applyTandemEnable s v).pending = s.pending := by simp [applyTandemEnable]

@[simp] theorem catchUp_pending (s k pos) : (catchUp s k pos).pending = s.pending := by
  unfold catchUp
  refine foldl_pending _ _ _ fun _ _ => ?_
  repeat' split
  all_goals simp

@[simp] theorem queued_execMirrorTime (seq quality time freq period boundary s) :
    Queued s.pending (execMirrorTime seq quality time freq period boundary s) := by
  simp [execMirrorTime]

@[simp] theorem queued_execMirrorHandover (seq slot s) : Queued s.pending (execMirrorHandover seq slot s) := by simp [execMirrorHandover]

@[simp] theorem queued_execHeartSend (s) : Queued s.pending (execHeartSend s) := by simp [execHeartSend]

@[simp] theorem queued_execRejoin (s) : Queued s.pending (execRejoin s) := by simp [execRejoin]

@[simp] theorem queued_execHeartbeatTimeout (s) : Queued s.pending (execHeartbeatTimeout s) := by simp [execHeartbeatTimeout]

@[simp] theorem moveReq_pending (s k) : (moveReq s k).pending = s.pending := by
  unfold moveReq
  split
  · next j _ =>
    extract_lets s1 s2
    have h1 : s1.pending = s.pending := (setReq_pending _ _ _).trans (setReq_pending _ _ _)
    exact pending_ite ((mirrorAdmit_pending _ _).trans h1) h1
  · rfl

theorem shadowPage_pending (s r w lane pos frame) : ∀ u ∈ shadowPage s r w lane pos frame, u.pending = s.pending := by
  unfold shadowPage; dsimp only; repeat' split
  all_goals simp

@[simp] theorem takeMirrorCutter_pending (seq cutter gen tenant stamp data s) :
    (takeMirrorCutter seq cutter gen tenant stamp data s).pending = s.pending := by
  simp [takeMirrorCutter]

@[simp] theorem fillPosition_pending (s req draft lane pos sel frame data) :
    (fillPosition s req draft lane pos sel frame data).pending = s.pending := by
  unfold fillPosition
  extract_lets r
  split
  · split
    · split
      · next s1 h =>
        have h1 := shadowPage_pending _ _ _ _ _ _ s1 h
        dsimp only
        split <;> split <;> simp [h1]
      · rfl
    · rfl
  · rfl

@[simp] theorem queued_execMirrorCutter (seq cutter gen tenant stamp data s) :
    Queued s.pending (execMirrorCutter seq cutter gen tenant stamp data s) := by
  simp [execMirrorCutter]

@[simp] theorem takeMirrorAdmit_pending (seq req entry window digest keys s) :
    (takeMirrorAdmit seq req entry window digest keys s).pending = s.pending := by
  simp [takeMirrorAdmit]

@[simp] theorem takeMirrorAppend_pending (req draft lane pos kind frame data s) :
    (takeMirrorAppend req draft lane pos kind frame data s).pending = s.pending := by
  simp [takeMirrorAppend]

@[simp] theorem takeMirrorCatchup_pending (req draft lane pos kind frame data s) :
    (takeMirrorCatchup req draft lane pos kind frame data s).pending = s.pending := by
  simp [takeMirrorCatchup]

@[simp] theorem takeMirrorCommand_pending (req tenant data s) : (takeMirrorCommand req tenant data s).pending = s.pending := by
  simp [takeMirrorCommand]

@[simp] theorem commitShadow_pending (s fields tokens) : (commitShadow s fields tokens).pending = s.pending := by simp [commitShadow]

@[simp] theorem takeMirrorPrefix_pending (what req draft tenant keys s) : (takeMirrorPrefix what req draft tenant keys s).pending = s.pending := by
  unfold takeMirrorPrefix
  dsimp only
  repeat' split
  all_goals simp

@[simp] theorem queued_execMirrorAdmit (seq req entry window digest keys s) :
    Queued s.pending (execMirrorAdmit seq req entry window digest keys s) := by
  simp [execMirrorAdmit]

@[simp] theorem queued_execMirrorAppend (seq req draft lane pos kind frame data s) :
    Queued s.pending (execMirrorAppend seq req draft lane pos kind frame data s) := by
  simp [execMirrorAppend]

@[simp] theorem queued_execMirrorCatchup (seq req draft lane pos kind frame data s) :
    Queued s.pending (execMirrorCatchup seq req draft lane pos kind frame data s) := by
  simp [execMirrorCatchup]

@[simp] theorem queued_execMirrorCommand (seq req tenant data s) : Queued s.pending (execMirrorCommand seq req tenant data s) := by
  simp [execMirrorCommand]

@[simp] theorem takeMirrorCommit_pending (seq slot step parts s) : (takeMirrorCommit seq slot step parts s).pending = s.pending := by
  simp [takeMirrorCommit]

@[simp] theorem queued_execMirrorPrefix (seq what req draft tenant keys s) :
    Queued s.pending (execMirrorPrefix seq what req draft tenant keys s) := by
  simp [execMirrorPrefix]

@[simp] theorem startWithdraw_pending (s0) : (startWithdraw s0).pending = s0.pending := by simp [startWithdraw]

@[simp] theorem queued_execMirrorCommit (seq slot step parts s) : Queued s.pending (execMirrorCommit seq slot step parts s) := by
  simp [execMirrorCommit]

@[simp] theorem queued_execWithdraw (s) : Queued s.pending (execWithdraw s) := by simp [execWithdraw]

@[simp] theorem releaseCommits_pending (s) : (releaseCommits s).pending = s.pending := by simp [releaseCommits]

@[simp] theorem losePartner_pending (s) : (losePartner s).pending = s.pending := by simp [losePartner]

@[simp] theorem dropServing_pending (s) : (dropServing s).pending = s.pending := by simp [dropServing]

@[simp] theorem enterSyncing_pending (s) : (enterSyncing s).pending = s.pending := by simp [enterSyncing]

@[simp] theorem fence_pending (s) : (fence s).pending = s.pending := by simp [fence]

@[simp] theorem countHeart_pending (s inRow partner vmin vmax) : (countHeart s inRow partner vmin vmax).pending = s.pending := by simp [countHeart]

@[simp] theorem queued_execHeart (port seq partner priority applied vmin vmax s) :
    Queued s.pending (execHeart port seq partner priority applied vmin vmax s) := by
  simp [execHeart]

end Sys2Proof.Laws
end

section
/-!
The host interface, power and self-test leave the queue alone (O4): each operation's queue is the queue it was given.
-/

namespace Sys2Proof.Laws

open Sys2Proof Sys2Proof.Machine

@[simp] theorem resetFunction_pending (s fn) : (resetFunction s fn).pending = s.pending := by simp [resetFunction]

@[simp] theorem queued_execWinWrite (fn index value s) : Queued s.pending (execWinWrite fn index value s) := by simp [execWinWrite]

@[simp] theorem queued_execItargetWrite (tenant view index value s) : Queued s.pending (execItargetWrite tenant view index value s) := by
  unfold execItargetWrite
  repeat' split
  all_goals simp

@[simp] theorem queued_execIpendClear (tenant view index mask s) : Queued s.pending (execIpendClear tenant view index mask s) := by
  simp [execIpendClear]

@[simp] theorem queued_execPerstNRelease (s) : Queued s.pending (execPerstNRelease s) := by simp [execPerstNRelease]

@[simp] theorem queued_execInputGlitch (input s) : Queued s.pending (execInputGlitch input s) := by simp [execInputGlitch]

@[simp] theorem queued_execL0pWidthChange (width low high s) : Queued s.pending (execL0pWidthChange width low high s) := by simp [execL0pWidthChange]

@[simp] theorem queued_execRingDisableDone (tenant ring s) : Queued s.pending (execRingDisableDone tenant ring s) := by
  unfold execRingDisableDone
  repeat' split
  all_goals simp

@[simp] theorem queued_execMsixUnmask (fn vec s) : Queued s.pending (execMsixUnmask fn vec s) := by simp [execMsixUnmask]

@[simp] theorem queued_execHostLinkUp (speed width s) : Queued s.pending (execHostLinkUp speed width s) := by simp [execHostLinkUp]

@[simp] theorem takeFrom_pending (s k) : (takeFrom s k).pending = s.pending := by
  unfold takeFrom
  dsimp only
  split <;> simp

@[simp] theorem failHostMoves_pending (s) : (failHostMoves s).pending = s.pending := by
  unfold failHostMoves
  refine foldl_pending _ _ _ fun _ _ => ?_
  repeat' split
  all_goals simp

@[simp] theorem hostViolation_pending (s) : (hostViolation s).pending = s.pending := by simp [hostViolation]

@[simp] theorem queued_execBar0BadAccess (fn write s) : Queued s.pending (execBar0BadAccess fn write s) := by simp [execBar0BadAccess]

@[simp] theorem queued_execGpiEdge (pin rise s) : Queued s.pending (execGpiEdge pin rise s) := by simp [execGpiEdge]

@[simp] theorem poisonRange_pending (s a n) : (poisonRange s a n).pending = s.pending := by simp [poisonRange]

@[simp] theorem queued_execRingDisable (tenant ring s) : Queued s.pending (execRingDisable tenant ring s) := by
  unfold execRingDisable
  repeat' split
  all_goals simp

@[simp] theorem queued_execRingEnable (tenant ring value s) : Queued s.pending (execRingEnable tenant ring value s) := by
  unfold execRingEnable
  dsimp only
  repeat' split
  all_goals simp

@[simp] theorem queued_execRingAccessFail (tenant ring s) : Queued s.pending (execRingAccessFail tenant ring s) := by
  unfold execRingAccessFail
  repeat' split
  all_goals simp

@[simp] theorem queued_execDoorbell (tenant ring value s) : Queued s.pending (execDoorbell tenant ring value s) := by
  unfold execDoorbell
  repeat' split
  all_goals simp

@[simp] theorem readParts_pending (s fn x2) : (readParts s fn x2).next.pending = s.pending := by
  induction x2 generalizing s with
  | nil => rfl
  | cons p ps ih =>
    simp only [readParts, ih]
    split <;> simp

@[simp] theorem readEntries_pending (s x) : (readEntries s x).next.pending = s.pending := by simp [readEntries]

@[simp] theorem refuseRetired_pending (s x q) : (refuseRetired s x q).pending = s.pending := by simp [refuseRetired]

@[simp] theorem postEntry_pending (s k x place d) : (postEntry s k x place d).pending = s.pending := by simp [postEntry]

theorem offerRing_fst_pending (s k host) : ∀ u ∈ (offerRing s k host).1, u.pending = s.pending := by
  unfold offerRing
  dsimp only
  repeat' split
  all_goals simp

@[simp] theorem offerRing_pending (s k host) : (offerRing s k host).2.pending = s.pending := by
  unfold offerRing
  dsimp only
  repeat' split
  all_goals simp

@[simp] theorem serveRings_pending (host x1 x2) : (serveRings host x1 x2).pending = x2.pending := by
  induction x1 generalizing x2 with
  | nil => rfl
  | cons k ks ih =>
    rw [serveRings]
    split
    · next h => exact offerRing_fst_pending x2 k host _ (by rw [h]; rfl)
    · next h => rw [ih, snd_pending h, offerRing_pending]

@[simp] theorem queued_execRingEntryTake (host s) : Queued s.pending (execRingEntryTake host s) := by simp [execRingEntryTake]

@[simp] theorem unassignWhere_pending (s p) : (unassignWhere s p).pending = s.pending := by simp [unassignWhere]

@[simp] theorem flr_pending (s fn) : (flr s fn).pending = s.pending := by simp [flr]

@[simp] theorem writeFunction_pending (s field fn value) : (writeFunction s field fn value).pending = s.pending := by
  unfold writeFunction
  split <;> simp

@[simp] theorem linkReset_pending (s) : (linkReset s).pending = s.pending := by simp [linkReset]

@[simp] theorem queued_execPcieConfigWrite (field fn value s) : Queued s.pending (execPcieConfigWrite field fn value s) := by
  simp [execPcieConfigWrite]

@[simp] theorem queued_execFlr (fn s) : Queued s.pending (execFlr fn s) := by simp [execFlr]

@[simp] theorem linkLoss_pending (s) : (linkLoss s).pending = s.pending := by simp [linkLoss]

@[simp] theorem queued_execHostLinkDown (s) : Queued s.pending (execHostLinkDown s) := by simp [execHostLinkDown]

@[simp] theorem writePart_pending (s fn ep p bs) : (writePart s fn ep p bs).pending = s.pending := by simp [writePart]

@[simp] theorem writeParts_pending (s fn ep x3 x4) : (writeParts s fn ep x3 x4).pending = s.pending := by fun_induction writeParts <;> simp_all

@[simp] theorem queued_execBar2Access (fn offset len data ep s) : Queued s.pending (execBar2Access fn offset len data ep s) := by
  unfold execBar2Access
  dsimp only
  repeat' split
  all_goals simp

@[simp] theorem carried_pending (s base) : (carried s base).pending = s.pending := rfl

@[simp] theorem releasePins_pending (s) : (releasePins s).pending = s.pending := by simp [releasePins]

@[simp] theorem alertPin_pending (s) : (alertPin s).pending = s.pending := by simp [alertPin]

@[simp] theorem enterReset_pending (s cause) : (enterReset s cause).pending = s.pending := by simp [enterReset]

@[simp] theorem clearAlert_pending (s bits) : (clearAlert s bits).pending = s.pending := by simp [clearAlert]

@[simp] theorem enterOff_pending (s) : (enterOff s).pending = s.pending := by simp [enterOff]

@[simp] theorem enterService_pending (s) : (enterService s).pending = s.pending := by simp [enterService]

@[simp] theorem setAlert_pending (s bits) : (setAlert s bits).pending = s.pending := by simp [setAlert]

@[simp] theorem enterReady_pending (s) : (enterReady s).pending = s.pending := by simp [enterReady]

@[simp] theorem floodDown_pending (s) : (floodDown s).pending = s.pending := by simp [floodDown]

@[simp] theorem readyThenService_pending (s) : (readyThenService s).pending = s.pending := by simp [readyThenService]

@[simp] theorem farewell_pending (s deliberate) : (farewell s deliberate).pending = s.pending := by simp [farewell]

@[simp] theorem startReset_pending (s cause deliberate) : (startReset s cause deliberate).pending = s.pending := by simp [startReset]

@[simp] theorem resetAfterWithdraw_pending (s cause) : (resetAfterWithdraw s cause).pending = s.pending := by simp [resetAfterWithdraw]

@[simp] theorem queued_execWithdrawWaitExpire (s) : Queued s.pending (execWithdrawWaitExpire s) := by
  unfold execWithdrawWaitExpire
  split <;> simp

@[simp] theorem queued_execVrefCorrection (s) : Queued s.pending (execVrefCorrection s) := by
  unfold execVrefCorrection
  split
  · rfl
  · exact queued_next.2 (foldl_pending _ _ _ fun t d => by dsimp only; split <;> rfl)

@[simp] theorem hotRefresh_pending (s) : (hotRefresh s).pending = s.pending := by
  refine foldl_pending _ _ _ fun t st => foldl_pending _ _ _ fun u d => ?_
  split
  · rfl
  · dsimp only
    exact pending_ite rfl (pending_ite (setStack_pending _ _ _) ((noteChange_pending _ _).trans (setStack_pending _ _ _)))

@[simp] theorem driveVid_pending (s base old new) : (driveVid s base old new).pending = s.pending := by simp [driveVid]

@[simp] theorem putTemp_pending (s index sub t) : (putTemp s index sub t).pending = s.pending := by
  unfold putTemp
  split <;> simp

@[simp] theorem boostGate_pending (s st t) : (boostGate s st t).pending = s.pending := by
  unfold boostGate
  dsimp only
  repeat' split
  all_goals simp

@[simp] theorem showCredit_pending (s) : (showCredit s).pending = s.pending := by simp [showCredit]

@[simp] theorem vidUpdate_pending (s) : (vidUpdate s).pending = s.pending := by simp [vidUpdate]

@[simp] theorem calibrate_pending (s power) : (calibrate s power).pending = s.pending := by simp [calibrate]

@[simp] theorem allowanceUp_pending (s st limit) : (allowanceUp s st limit).pending = s.pending := by
  unfold allowanceUp
  split <;> simp

@[simp] theorem thermalTrip_pending (s i) : (thermalTrip s i).pending = s.pending := by simp [thermalTrip]

@[simp] theorem publishTemps_pending (s) : (publishTemps s).pending = s.pending := by simp [publishTemps]

@[simp] theorem queued_execThermalHoldEnd (s) : Queued s.pending (execThermalHoldEnd s) := by
  unfold execThermalHoldEnd
  split <;> simp

@[simp] theorem applyGrants_pending (s) : (applyGrants s).pending = s.pending := by simp [applyGrants]

@[simp] theorem chargeCredit_pending (s total) : (chargeCredit s total).pending = s.pending := by
  unfold chargeCredit
  dsimp only
  repeat' split
  all_goals simp

@[simp] theorem stageAll_pending (s) : (stageAll s).pending = s.pending := by
  unfold stageAll
  extract_lets s1
  have h1 : s1.pending = s.pending := by
    refine foldl_pending _ _ _ fun t st => ?_
    split
    · rfl
    · next d _ =>
      extract_lets u x y v w
      have hv : v.pending = t.pending := (setStack_pending _ _ _).trans (boostGate_pending _ _ _)
      have hw : w.pending = t.pending := pending_ite hv ((noteChange_pending _ _).trans hv)
      exact pending_ite hw ((noteChange_pending _ _).trans hw)
  exact pending_ite ((setAlert_pending _ _).trans h1) ((clearAlert_pending _ _).trans h1)

@[simp] theorem queued_execArbiterEpoch (s) : Queued s.pending (execArbiterEpoch s) := by simp [execArbiterEpoch]

@[simp] theorem readSensor_pending (s i r) : (readSensor s i r).pending = s.pending := by simp [readSensor]

@[simp] theorem capDie_pending (s die) : (capDie s die).pending = s.pending := by simp [capDie]

@[simp] theorem pollRail_pending (s i r) : (pollRail s i r).pending = s.pending := by simp [pollRail]

@[simp] theorem readSensors_pending (x0 x1 x2) : (readSensors x0 x1 x2).pending = x0.pending := by fun_induction readSensors <;> simp_all

@[simp] theorem queued_execDieCapUpdate (s) : Queued s.pending (execDieCapUpdate s) := by simp [execDieCapUpdate]

@[simp] theorem queued_execPmbusPoll (rails s) : Queued s.pending (execPmbusPoll rails s) := by simp [execPmbusPoll]

@[simp] theorem queued_execSensorScan (readings s) : Queued s.pending (execSensorScan readings s) := by
  unfold execSensorScan
  dsimp only
  repeat' split
  all_goals simp

@[simp] theorem loadStored_pending (s) : (loadStored s).pending = s.pending := by simp [loadStored]

@[simp] theorem measureDebug_pending (s bit) : (measureDebug s bit).pending = s.pending := by simp [measureDebug]

@[simp] theorem measureKeys_pending (s) : (measureKeys s).pending = s.pending := by simp [measureKeys]

@[simp] theorem measureSet_pending (s set) : (measureSet s set).pending = s.pending := by
  refine (foldl_pending _ _ _ fun t i => ?_).trans (measure_pending _ _ _)
  dsimp only
  split
  · exact measure_pending _ _ _
  · rfl

@[simp] theorem setUpdate_pending (s st) : (setUpdate s st).pending = s.pending := by simp [setUpdate]

@[simp] theorem updateCode_pending (s code) : (updateCode s code).pending = s.pending := by simp [updateCode]

@[simp] theorem showTarget_pending (s) : (showTarget s).pending = s.pending := by simp [showTarget]

@[simp] theorem writeBoot_pending (s run trial floor digest) : (writeBoot s run trial floor digest).pending = s.pending := by simp [writeBoot]

@[simp] theorem loadRunning_pending (s) : (loadRunning s).pending = s.pending := by simp [loadRunning]

@[simp] theorem putModes_pending (s st v) : (putModes s st v).pending = s.pending := by simp [putModes]

@[simp] theorem startCode_pending (s code) : (startCode s code).pending = s.pending := by simp [startCode]

@[simp] theorem measureStart_pending (s) : (measureStart s).pending = s.pending := by simp [measureStart]

@[simp] theorem loadIdentity_pending (s) : (loadIdentity s).pending = s.pending := by simp [loadIdentity]

@[simp] theorem countSpares_pending (s) : (countSpares s).pending = s.pending := by simp [countSpares]

@[simp] theorem applyModes_pending (s st) : (applyModes s st).pending = s.pending := by simp [applyModes]

@[simp] theorem foundUpdate_pending (s) : (foundUpdate s).pending = s.pending := by simp [foundUpdate]

@[simp] theorem loadEngines_pending (s) : (loadEngines s).pending = s.pending := by
  unfold loadEngines
  extract_lets walk s1 s2
  have h2 : s2.pending = s.pending := foldl_pending _ _ s1 fun t e =>
    pending_ite (updEngine_pending _ _ _) ((updEngine_pending _ _ _).trans (writeBank_pending _ _ _ _))
  exact (foldl_pending _ _ s2 fun t n => updEngine_pending _ _ _).trans h2

@[simp] theorem startEvent_pending (s code kind index) : (startEvent s code kind index).pending = s.pending := by simp [startEvent]

@[simp] theorem copyTrip_pending (s) : (copyTrip s).pending = s.pending := by simp [copyTrip]

@[simp] theorem recordBadPages_pending (s) : (recordBadPages s).pending = s.pending := by simp [recordBadPages]

@[simp] theorem trainStack_pending (s st mask) : (trainStack s st mask).pending = s.pending := by simp [trainStack]

@[simp] theorem applyRepair_pending (s e) : (applyRepair s e).pending = s.pending := by
  unfold applyRepair
  split <;> simp

@[simp] theorem enterConfig_pending (s trained) : (enterConfig s trained).pending = s.pending := by simp [enterConfig]

@[simp] theorem leaveTest_pending (s) : (leaveTest s).pending = s.pending := by
  unfold leaveTest
  refine foldl_pending _ _ _ fun _ _ => ?_
  repeat' split
  all_goals simp

@[simp] theorem enterRecoveryMode_pending (s noConfig) : (enterRecoveryMode s noConfig).pending = s.pending := by simp [enterRecoveryMode]

@[simp] theorem queued_execResetToRom (s) : Queued s.pending (execResetToRom s) := by simp [execResetToRom]

@[simp] theorem deriveFigures_pending (s) : (deriveFigures s).pending = s.pending := by simp [deriveFigures]

@[simp] theorem disableRings_pending (s t) : (disableRings s t).pending = s.pending := by simp [disableRings]

@[simp] theorem queued_execPwrgdFall (s) : Queued s.pending (execPwrgdFall s) := by simp [execPwrgdFall]

@[simp] theorem endTrial_pending (s) : (endTrial s).pending = s.pending := by simp [endTrial]

@[simp] theorem queued_execSysrefLoss (s) : Queued s.pending (execSysrefLoss s) := by simp [execSysrefLoss]

@[simp] theorem queued_execPwrgdRise (s) : Queued s.pending (execPwrgdRise s) := by simp [execPwrgdRise]

@[simp] theorem enterTest_pending (s) : (enterTest s).pending = s.pending := by simp [enterTest]

@[simp] theorem refuseInState_pending (s) : (refuseInState s).pending = s.pending := by simp [refuseInState]

@[simp] theorem queued_execDeviceStartService (s) : Queued s.pending (execDeviceStartService s) := by simp [execDeviceStartService]

@[simp] theorem queued_execDeviceEnterTest (s) : Queued s.pending (execDeviceEnterTest s) := by simp [execDeviceEnterTest]

@[simp] theorem queued_execStopService (s) : Queued s.pending (execStopService s) := by simp [execStopService]

@[simp] theorem queued_execLeaveTest (s) : Queued s.pending (execLeaveTest s) := by simp [execLeaveTest]

@[simp] theorem openStack_pending (s st) : (openStack s st).pending = s.pending := by simp [openStack]

@[simp] theorem queued_execConfigDone (s) : Queued s.pending (execConfigDone s) := by simp [execConfigDone]

@[simp] theorem queued_execRomBootDone (agree trained s) : Queued s.pending (execRomBootDone agree trained s) := by
  unfold execRomBootDone
  repeat' split
  all_goals simp

@[simp] theorem queued_execDeviceResetCmd (s) : Queued s.pending (execDeviceResetCmd s) := by simp [execDeviceResetCmd]

@[simp] theorem queued_execPerstNAssert (s) : Queued s.pending (execPerstNAssert s) := by simp [execPerstNAssert]

@[simp] theorem endSessions_pending (s) : (endSessions s).pending = s.pending := by simp [endSessions]

@[simp] theorem askVoltage_pending (s u) : (askVoltage s u).pending = s.pending := by simp [askVoltage]

@[simp] theorem resumeEngine_pending (s u) : (resumeEngine s u).pending = s.pending := by
  unfold resumeEngine
  split <;> simp

@[simp] theorem clearChannel_pending (s u) : (clearChannel s u).pending = s.pending := by
  unfold clearChannel
  exact pending_ite (foldl_pending _ _ _ fun t b => setStack_pending _ _ _) rfl

@[simp] theorem startRun_pending (s d) : (startRun s d).pending = s.pending := by simp [startRun]

@[simp] theorem retireUnit_pending (s u) : (retireUnit s u).pending = s.pending := by
  unfold retireUnit
  split <;> simp

@[simp] theorem zeroiseVault_pending (s) : (zeroiseVault s).pending = s.pending := by simp [zeroiseVault]

@[simp] theorem abandonProbes_pending (s) : (abandonProbes s).pending = s.pending := by
  unfold abandonProbes
  exact (bump_pending _ _ _ _).trans (foldl_pending _ _ _ fun t e => setStack_pending _ _ _)

@[simp] theorem queued_execRunDone (s) : Queued s.pending (execRunDone s) := by
  unfold execRunDone
  split <;> simp

@[simp] theorem zeroUnit_pending (s u) : (zeroUnit s u).pending = s.pending := by simp [zeroUnit]

@[simp] theorem queued_execRunRequest (data s) : Queued s.pending (execRunRequest data s) := by simp [execRunRequest]

@[simp] theorem testEvent_pending (s u code) : (testEvent s u code).pending = s.pending := by simp [testEvent]

@[simp] theorem afterScan_pending (s u identityOk) : (afterScan s u identityOk).pending = s.pending := by simp [afterScan]

@[simp] theorem marchFaults_pending (s u badRows) : (marchFaults s u badRows).pending = s.pending := by simp [marchFaults]

@[simp] theorem copyKept_pending (s u restore) : (copyKept s u restore).pending = s.pending := by simp [copyKept]

@[simp] theorem beginUnit_pending (s u) : (beginUnit s u).pending = s.pending := by simp [beginUnit]

@[simp] theorem queued_execSelftestUnitStart (mv khz s) : Queued s.pending (execSelftestUnitStart mv khz s) := by
  unfold execSelftestUnitStart
  repeat' split
  all_goals simp

@[simp] theorem queued_execSelftestRetry (mv khz s) : Queued s.pending (execSelftestRetry mv khz s) := by
  unfold execSelftestRetry
  split <;> simp

@[simp] theorem refuseWaiting_pending (s u) : (refuseWaiting s u).pending = s.pending := by simp [refuseWaiting]

@[simp] theorem failUnit_pending (s u) : (failUnit s u).pending = s.pending := by simp [failUnit]

@[simp] theorem queued_execSelftestUnitDone (kind stack index signature pass badRows identityOk s) :
    Queued s.pending (execSelftestUnitDone kind stack index signature pass badRows identityOk s) := by
  simp [execSelftestUnitDone]

end Sys2Proof.Laws
end

section
/-!
Security, faults and health leave the queue alone (O4): each operation's queue is the queue it was given.
-/

namespace Sys2Proof.Laws

open Sys2Proof Sys2Proof.Machine

variable {q : List Instr}

/-- `foldl_pending` with the step's answer named: the kernel then compares no step with its own unfolding. -/
theorem foldl_pending_of_step {β : Type} (f : State → β → State) (l : List β) (s : State) (hf : ∀ t b u, u = f t b → u.pending = t.pending) :
    (l.foldl f s).pending = s.pending :=
  foldl_pending f l s fun t b => hf t b _ rfl

theorem foldl_storeFree_pending (a n : Nat) (s : State) :
    ((List.range n).foldl (fun s i => (storeCode (freeWord256 s).2 (a + 32 * i) (encode288 (freeWord256 s).1)).next) s).pending = s.pending := by
  apply foldl_pending_of_step
  rintro t i _ rfl
  rw [storeCode_pending]
  rfl

theorem queued_setHealth {s : State} {h : Health} (hs : s.pending = q) : Queued q (.next { s with health := h }) := hs

@[simp] theorem dropSession_pending (s id) : (dropSession s id).pending = s.pending := by simp [dropSession]

@[simp] theorem queued_withSpdm (fn s f) (hf : ∀ u, (f u).pending = u.pending) : Queued s.pending (withSpdm fn s f) := by
  unfold withSpdm; repeat' split
  all_goals simp [hf]

@[simp] theorem setSpdm_pending (s fn x) : (setSpdm s fn x).pending = s.pending := by simp [setSpdm]

@[simp] theorem updSession_pending (s id f) : (updSession s id f).pending = s.pending := by simp [updSession]

@[simp] theorem spdmAnswer_pending (s fn code fields data) : (spdmAnswer s fn code fields data).pending = s.pending := by simp [spdmAnswer]

@[simp] theorem noteSpdm_pending (s fn bytes) : (noteSpdm s fn bytes).pending = s.pending := by simp [noteSpdm]

@[simp] theorem queued_execQuoteRead (mailbox who s) : Queued s.pending (execQuoteRead mailbox who s) := by simp [execQuoteRead]

@[simp] theorem spdmError_pending (s fn err) : (spdmError s fn err).pending = s.pending := by simp [spdmError]

@[simp] theorem queued_execQuoteNonceWrite (mailbox who nonce s) : Queued s.pending (execQuoteNonceWrite mailbox who nonce s) := by
  simp [execQuoteNonceWrite]

@[simp] theorem queued_execGetVersion (fn s) : Queued s.pending (execGetVersion fn s) := by simp [execGetVersion]

@[simp] theorem negotiated_pending (fn f s) (hf : ∀ u, (f u).pending = u.pending) : (negotiated fn f s).pending = s.pending := by
  unfold negotiated; split <;> simp [hf]

@[simp] theorem inSession_pending (fn session f s) (hf : ∀ u, (f u).pending = u.pending) : (inSession fn session f s).pending = s.pending := by
  unfold inSession; split <;> simp [hf]

@[simp] theorem tdispMessage_pending (s fn op tdi) : (tdispMessage s fn op tdi).pending = s.pending := by
  unfold tdispMessage
  repeat' split
  all_goals simp

@[simp] theorem ideMessage_pending (s fn op stream key) : (ideMessage s fn op stream key).pending = s.pending := by
  unfold ideMessage
  split <;> simp

@[simp] theorem queued_execGetCapabilities (fn request s) : Queued s.pending (execGetCapabilities fn request s) := by simp [execGetCapabilities]

@[simp] theorem queued_execNegotiateAlgorithms (fn asym hash dhe aead request s) :
    Queued s.pending (execNegotiateAlgorithms fn asym hash dhe aead request s) := by
  simp [execNegotiateAlgorithms]

@[simp] theorem queued_execKeyExchange (fn slot share s) : Queued s.pending (execKeyExchange fn slot share s) := by
  refine queued_withSpdm _ _ _ fun u => negotiated_pending _ _ _ fun v => ?_
  split
  · simp
  split
  · simp
  · dsimp only
    split <;> simp

@[simp] theorem queued_execSpdmHeartbeat (fn session s) : Queued s.pending (execSpdmHeartbeat fn session s) := by simp [execSpdmHeartbeat]

@[simp] theorem queued_execEndSession (fn session s) : Queued s.pending (execEndSession fn session s) := by simp [execEndSession]

@[simp] theorem queued_execGetDigests (fn s) : Queued s.pending (execGetDigests fn s) := by simp [execGetDigests]

@[simp] theorem queued_execGetCertificate (fn slot offset length s) : Queued s.pending (execGetCertificate fn slot offset length s) := by
  simp [execGetCertificate]

@[simp] theorem queued_execVendorDefined (fn session protocol op arg key s) :
    Queued s.pending (execVendorDefined fn session protocol op arg key s) := by
  unfold execVendorDefined
  split <;> simp

@[simp] theorem queued_execKeyUpdate (fn session operation s) : Queued s.pending (execKeyUpdate fn session operation s) := by simp [execKeyUpdate]

@[simp] theorem queued_execGetMeasurements (fn operation sign nonce s) : Queued s.pending (execGetMeasurements fn operation sign nonce s) := by
  refine queued_withSpdm _ _ _ fun u => negotiated_pending _ _ _ fun v => ?_
  split
  · simp
  · dsimp only
    split
    · split <;> simp
    · simp

@[simp] theorem authFailure_pending (s) : (authFailure s).pending = s.pending := by simp [authFailure]

@[simp] theorem queued_execSpdmChallenge (fn slot nonce s) : Queued s.pending (execSpdmChallenge fn slot nonce s) := by
  refine queued_withSpdm _ _ _ fun u => negotiated_pending _ _ _ fun v => ?_
  split
  · simp
  · dsimp only
    split <;> simp

@[simp] theorem queued_execFinish (fn session verify s) : Queued s.pending (execFinish fn session verify s) := by
  unfold execFinish
  refine queued_withSpdm _ _ _ fun _ => ?_
  repeat' split
  all_goals simp

@[simp] theorem restartCore_pending (s core) : (restartCore s core).pending = s.pending := by simp [restartCore]

@[simp] theorem setTargetManifest_pending (s m) : (setTargetManifest s m).pending = s.pending := by simp [setTargetManifest]

@[simp] theorem eraseSector_pending (s set i) : (eraseSector s set i).pending = s.pending := by simp [eraseSector]

@[simp] theorem addPackage_pending (s total off d) : (addPackage s total off d).pending = s.pending := by simp [addPackage]

@[simp] theorem writeConfig_pending (s d) : (writeConfig s d).pending = s.pending := by simp [writeConfig]

@[simp] theorem clearPart_pending (s p) : (clearPart s p).pending = s.pending := by simp [clearPart]

@[simp] theorem queued_execRecoveryStatusRequest (s) : Queued s.pending (execRecoveryStatusRequest s) := by
  unfold execRecoveryStatusRequest
  split
  · rfl
  · extract_lets r r1
    split
    · rfl
    · exact queued_next.2 (emit_pending _ _)

@[simp] theorem queued_execRecoveryDatagram (datagram s) : Queued s.pending (execRecoveryDatagram datagram s) := by simp [execRecoveryDatagram]

@[simp] theorem refuseCode_pending (s code) : (refuseCode s code).pending = s.pending := by simp [refuseCode]

@[simp] theorem programChunk_pending (s i d) : (programChunk s i d).pending = s.pending := by simp [programChunk]

@[simp] theorem writeSet_pending (s p) : (writeSet s p).pending = s.pending := by simp [writeSet]

@[simp] theorem queued_execRecoveryPackageCheck (s) : Queued s.pending (execRecoveryPackageCheck s) := by simp [execRecoveryPackageCheck]

@[simp] theorem failActivation_pending (s started) : (failActivation s started).pending = s.pending := by simp [failActivation]

@[simp] theorem refuseUpdate_pending (s) : (refuseUpdate s).pending = s.pending := by simp [refuseUpdate]

@[simp] theorem queued_execUpdateVerifyDone (s) : Queued s.pending (execUpdateVerifyDone s) := by
  unfold execUpdateVerifyDone
  dsimp only
  repeat' split
  all_goals simp

@[simp] theorem cancelUpdate_pending (s) : (cancelUpdate s).pending = s.pending := by simp [cancelUpdate]

@[simp] theorem stageManifest_pending (s m) : (stageManifest s m).pending = s.pending := by simp [stageManifest]

@[simp] theorem activate_pending (s) : (activate s).pending = s.pending := by simp [activate]

@[simp] theorem confirmSet_pending (s value) : (confirmSet s value).pending = s.pending := by simp [confirmSet]

@[simp] theorem writeChunk_pending (s d ok) : (writeChunk s d ok).pending = s.pending := by simp [writeChunk]

@[simp] theorem queued_execRecoveryData (offset data final s) : Queued s.pending (execRecoveryData offset data final s) := by
  unfold execRecoveryData
  repeat' split
  all_goals simp

@[simp] theorem queued_execActivationFailed (started s) : Queued s.pending (execActivationFailed started s) := by simp [execActivationFailed]

@[simp] theorem newRuntime_pending (s n image) : (newRuntime s n image).pending = s.pending := by simp [newRuntime]

@[simp] theorem queued_execActivationDone (s) : Queued s.pending (execActivationDone s) := by
  unfold execActivationDone
  split <;> simp

@[simp] theorem queued_served (s act) (hact : ∀ u, (act u).pending = u.pending) : Queued s.pending (served s act) := by
  unfold served; repeat' split
  all_goals simp [hact]

@[simp] theorem queued_execChunk (data ok s) : Queued s.pending (execChunk data ok s) := by simp [execChunk]

@[simp] theorem queued_execStageManifest (manifest s) : Queued s.pending (execStageManifest manifest s) := by simp [execStageManifest]

@[simp] theorem queued_execConfirm (value s) : Queued s.pending (execConfirm value s) := by simp [execConfirm]

@[simp] theorem queued_execActivate (s) : Queued s.pending (execActivate s) := by simp [execActivate]

@[simp] theorem queued_execUpdateCancel (s) : Queued s.pending (execUpdateCancel s) := by simp [execUpdateCancel]

@[simp] theorem updCore_pending (s core f) : (updCore s core f).pending = s.pending := by simp [updCore]

@[simp] theorem dropCore_pending (s core) : (dropCore s core).pending = s.pending := by simp [dropCore]

@[simp] theorem queued_execServiceCoreRestartDone (core s) : Queued s.pending (execServiceCoreRestartDone core s) := by
  simp [execServiceCoreRestartDone]

@[simp] theorem moveService_pending (s) : (moveService s).pending = s.pending := by simp [moveService]

@[simp] theorem clearSummary_pending (s value) : (clearSummary s value).pending = s.pending := by simp [clearSummary]

@[simp] theorem clearRing_pending (s value) : (clearRing s value).pending = s.pending := by simp [clearRing]

@[simp] theorem drainForRecovery_pending (s eng) : (drainForRecovery s eng).pending = s.pending := by simp [drainForRecovery]

@[simp] theorem queued_execServiceCoresDead (s) : Queued s.pending (execServiceCoresDead s) := by simp [execServiceCoresDead]

@[simp] theorem nextRecovery_pending (x0 x1) : (nextRecovery x0 x1).pending = x1.pending := by
  induction x0 generalizing x1 with
  | zero => rfl
  | succ fuel ih =>
    rw [nextRecovery]
    split
    · rfl
    · split
      · dsimp only
        split <;> simp [ih]
      · simp [ih]
    · rfl

@[simp] theorem closeWindow_pending (s) : (closeWindow s).pending = s.pending := by simp [closeWindow]

@[simp] theorem loseCore_pending (s core) : (loseCore s core).pending = s.pending := by simp [loseCore]

@[simp] theorem queued_execFatalReset (s) : Queued s.pending (execFatalReset s) := by
  unfold execFatalReset
  split <;> simp

@[simp] theorem queued_execRecoveryWindowClose (s) : Queued s.pending (execRecoveryWindowClose s) := by
  unfold execRecoveryWindowClose
  split <;> simp

@[simp] theorem queued_execRecoveryTimeout (s) : Queued s.pending (execRecoveryTimeout s) := by
  unfold execRecoveryTimeout
  split <;> simp

@[simp] theorem queued_execServiceCoreFault (core s) : Queued s.pending (execServiceCoreFault core s) := by simp [execServiceCoreFault]

@[simp] theorem queued_execCoreHeartbeatCheck (checker changed s) : Queued s.pending (execCoreHeartbeatCheck checker changed s) := by
  simp [execCoreHeartbeatCheck]

@[simp] theorem reloadServing_pending (s eng faulted) : (reloadServing s eng faulted).pending = s.pending := by
  unfold reloadServing
  dsimp only
  repeat' split
  all_goals simp

@[simp] theorem abandonContext_pending (s) : (abandonContext s).pending = s.pending := by simp [abandonContext]

@[simp] theorem queued_execRecoveryDone (s) : Queued s.pending (execRecoveryDone s) := by
  unfold execRecoveryDone
  split <;> simp

@[simp] theorem queued_execDeviceRecovery (s) : Queued s.pending (execDeviceRecovery s) := by
  unfold execDeviceRecovery
  split <;> simp

@[simp] theorem queued_execRingClear (value s) : Queued s.pending (execRingClear value s) := by simp [execRingClear]

@[simp] theorem queued_execFaultSummaryWrite (value s) : Queued s.pending (execFaultSummaryWrite value s) := by simp [execFaultSummaryWrite]

@[simp] theorem dayMonitor_pending (s d m) : (dayMonitor s d m).pending = s.pending := by
  unfold dayMonitor
  dsimp only
  split <;> simp

@[simp] theorem quotient_pending (s a b) : (quotient s a b).2.pending = s.pending := by
  unfold quotient
  split <;> simp

@[simp] theorem largestChange_pending (s sub first loss rs) : (largestChange s sub first loss rs).2.pending = s.pending := by
  unfold largestChange
  dsimp only
  split <;> simp

@[simp] theorem showDevice_pending (s) : (showDevice s).pending = s.pending := by simp [showDevice]

@[simp] theorem putLevel_pending (s d) : (putLevel s d).pending = s.pending := by simp [putLevel]

@[simp] theorem showDomain_pending (s d) : (showDomain s d).pending = s.pending := by simp [showDomain]

@[simp] theorem scanLane_pending (s e) : (scanLane s e).pending = s.pending := by simp [scanLane]

@[simp] theorem laneWear_pending (s e) : (laneWear s e).2.pending = s.pending := by
  unfold laneWear
  repeat' split
  all_goals simp

@[simp] theorem updateFigures_pending (s d) : (updateFigures s d).pending = s.pending := by simp [updateFigures]

@[simp] theorem queued_execDailyPoint (s) : Queued s.pending (execDailyPoint s) := by simp [execDailyPoint]

@[simp] theorem rebaseLinks_pending (s value) : (rebaseLinks s value).pending = s.pending := by simp [rebaseLinks]

@[simp] theorem addSample_pending (s d m w raw) : (addSample s d m w raw).pending = s.pending := by simp [addSample]

@[simp] theorem endProbe_pending (s st p) : (endProbe s st p).pending = s.pending := by simp [endProbe]

@[simp] theorem sampleChange_pending (s die m sub per n rs) : (sampleChange s die m sub per n rs).pending = s.pending := by
  unfold sampleChange
  split
  all_goals (next h => simp [snd_pending h])

@[simp] theorem sampleStack_pending (s st) : (sampleStack s st).pending = s.pending := by simp [sampleStack]

@[simp] theorem sampleEyes_pending (s d es) : (sampleEyes s d es).pending = s.pending := by
  unfold sampleEyes
  generalize hp : List.foldl _ _ es = p
  have h : p.2.pending = s.pending := by
    rw [← hp]
    refine foldl_snd_pending _ _ _ fun a e => ?_
    split
    · next h => simp [snd_pending h]
    · next h => simp [snd_pending h]
  dsimp only
  split <;> simp [h]

@[simp] theorem fillChecker_pending (s st f) : (fillChecker s st f).pending = s.pending := by
  rw [fillChecker, foldl_storeFree_pending]

@[simp] theorem queued_execRetentionHoldEnd (st valid s) : Queued s.pending (execRetentionHoldEnd st valid s) := by
  unfold execRetentionHoldEnd
  repeat' split
  all_goals simp

@[simp] theorem sampleDie_pending (s die mv ro em) : (sampleDie s die mv ro em).pending = s.pending := by simp [sampleDie]

@[simp] theorem queued_execEyeScan (lanes s) : Queued s.pending (execEyeScan lanes s) := by simp [execEyeScan]

@[simp] theorem queued_execRetentionProbe (st s) : Queued s.pending (execRetentionProbe st s) := by
  unfold execRetentionProbe
  split
  · rfl
  · extract_lets due s1 hot
    split
    · rfl
    · split
      · split
        · exact queued_next.2 (bump_pending _ _ _ _)
        · refine queued_setHealth ?_
          rw [fillChecker_pending, updStack_eq, setStack_pending]
      · exact queued_next.2 (bump_pending _ _ _ _)

@[simp] theorem queued_execHealthHourly (mv ro em s) : Queued s.pending (execHealthHourly mv ro em s) := by simp [execHealthHourly]

@[simp] theorem queued_execFrameRetireComplete (st s) : Queued s.pending (execFrameRetireComplete st s) := by
  unfold execFrameRetireComplete
  split <;> simp

@[simp] theorem queued_execRebaseLinks (value s) : Queued s.pending (execRebaseLinks value s) := by simp [execRebaseLinks]

end Sys2Proof.Laws
end

section
/-!
The dictionary and the service ports leave the queue alone (O4): each operation's queue is the queue it was given.
-/

namespace Sys2Proof.Laws

open Sys2Proof Sys2Proof.Machine

variable {q : List Instr}

theorem queued_mem_ite {c : Prop} [Decidable c] {a b : Option Res} (ha : ∀ r ∈ a, Queued q r) (hb : ∀ r ∈ b, Queued q r) :
    ∀ r ∈ (if c then a else b), Queued q r := by split <;> assumption

@[simp] theorem updNirnar_pending (s number f) : (updNirnar s number f).pending = s.pending := by simp [updNirnar]

@[simp] theorem setHead_pending (s j) : (setHead s j).pending = s.pending := by simp [setHead]

@[simp] theorem writeNonce_pending (s j) : (writeNonce s j).2.pending = s.pending := by
  unfold writeNonce
  repeat' split
  all_goals simp

@[simp] theorem finishBox_pending (s fn type abort total) : (finishBox s fn type abort total).pending = s.pending := by simp [finishBox]

@[simp] theorem endSession_pending (s number) : (endSession s number).pending = s.pending := by simp [endSession]

@[simp] theorem journalValue_pending (s r index sub v) : (journalValue s r index sub v).pending = s.pending := by simp [journalValue]

@[simp] theorem askModes_pending (s st sub v) : (askModes s st sub v).pending = s.pending := by simp [askModes]

@[simp] theorem sendFrame_pending (s x op trans body) : (sendFrame s x op trans body).pending = s.pending := by simp [sendFrame]

@[simp] theorem takeAnswer_pending (old r) (h : Queued old.pending r) : (takeAnswer old r).2.pending = old.pending := by
  unfold takeAnswer; split; exacts [h, rfl]

@[simp] theorem writeTable_pending (s sub v) : (writeTable s sub v).pending = s.pending := by simp [writeTable]

@[simp] theorem writePeriod_pending (s v) : (writePeriod s v).pending = s.pending := by simp [writePeriod]

@[simp] theorem noteWait_pending (s ns) : (noteWait s ns).pending = s.pending := by simp [noteWait]

@[simp] theorem answerFrame_pending (s number op trans body) : (answerFrame s number op trans body).pending = s.pending := by
  unfold answerFrame
  split <;> simp

@[simp] theorem applyBytes_pending (s index sub v) : (applyBytes s index sub v).pending = s.pending := by simp [applyBytes]

@[simp] theorem enableContext_pending (s t v) : (enableContext s t v).pending = s.pending := by simp [enableContext]

@[simp] theorem answerWrite_pending (s j abort) : (answerWrite s j abort).pending = s.pending := by
  unfold answerWrite
  split <;> simp

@[simp] theorem enablePort_pending (s p v) : (enablePort s p v).pending = s.pending := by simp [enablePort]

@[simp] theorem queued_deviceCommand (s v) : ∀ r ∈ deviceCommand s v, Queued s.pending r := by
  unfold deviceCommand; repeat' split
  all_goals simp

@[simp] theorem applyScalar_pending (s index sub v) : (applyScalar s index sub v).pending = s.pending := by simp [applyScalar]

@[simp] theorem applyValue_pending (s r index sub v) : (applyValue s r index sub v).pending = s.pending := by simp [applyValue]

@[simp] theorem takeMirrorDict_pending (seq index sub stamp value s) : (takeMirrorDict seq index sub stamp value s).pending = s.pending := by
  unfold takeMirrorDict
  split <;> simp

@[simp] theorem queued_execMirrorDict (seq index sub stamp value s) : Queued s.pending (execMirrorDict seq index sub stamp value s) := by
  simp [execMirrorDict]

@[simp] theorem takeMarks_pending (s marks mapped) : (takeMarks s marks mapped).pending = s.pending := by simp [takeMarks]

@[simp] theorem queued_tenantCommand (s t v) : ∀ r ∈ tenantCommand s t v, Queued s.pending r := by
  unfold tenantCommand; repeat' split
  all_goals simp

@[simp] theorem finishJob_pending (s j abort) : (finishJob s j abort).pending = s.pending := by simp [finishJob]

@[simp] theorem endWaits_pending (s seq) : (endWaits s seq).pending = s.pending := by simp [endWaits]

theorem queued_commandOf (s index sub v bytes host ok) : ∀ r ∈ commandOf s index sub v bytes host ok, Queued s.pending r := by
  unfold commandOf
  repeat' with_reducible refine queued_mem_ite ?_ ?_
  any_goals exact queued_deviceCommand s v
  any_goals exact queued_tenantCommand s _ v
  all_goals simp

@[simp] theorem effectJob_pending (s j code) : (effectJob s j code).pending = s.pending := by
  unfold effectJob
  dsimp only
  split <;> simp

@[simp] theorem performCommand_pending (s r index sub v host ok) : (performCommand s r index sub v host ok).2.pending = s.pending := by
  unfold performCommand
  dsimp only
  split
  · rfl
  · split
    · next h => exact takeAnswer_pending _ _ (queued_commandOf _ _ _ _ _ _ _ _ h)
    · rfl

@[simp] theorem queued_execTandemLost (s) : Queued s.pending (execTandemLost s) := by simp [execTandemLost]

@[simp] theorem startJob_pending (s j0) : (startJob s j0).pending = s.pending := by
  unfold startJob
  dsimp only
  split <;> simp

@[simp] theorem pumpJobs_pending (x0 x1) : (pumpJobs x0 x1).pending = x1.pending := by fun_induction pumpJobs <;> simp_all

@[simp] theorem submitWrite_pending (s j) : (submitWrite s j).pending = s.pending := by simp [submitWrite]

@[simp] theorem nextJob_pending (s) : (nextJob s).pending = s.pending := by simp [nextJob]

@[simp] theorem endMirror_pending (s seq) : (endMirror s seq).pending = s.pending := by
  unfold endMirror
  split <;> simp

@[simp] theorem queued_execSegModeChangeDone (st s) : Queued s.pending (execSegModeChangeDone st s) := by
  unfold execSegModeChangeDone
  dsimp only
  repeat' split
  all_goals simp

@[simp] theorem queued_execMirrorTimeout (s) : Queued s.pending (execMirrorTimeout s) := by
  unfold execMirrorTimeout
  split <;> simp

@[simp] theorem queued_execJournalWriteDone (ok s) : Queued s.pending (execJournalWriteDone ok s) := by
  unfold execJournalWriteDone
  dsimp only
  repeat' split
  all_goals simp

@[simp] theorem queued_execMirrorAck (seq marks mapped s) : Queued s.pending (execMirrorAck seq marks mapped s) := by simp [execMirrorAck]

@[simp] theorem queued_writeDirect (s index sub v) : Queued s.pending (writeDirect s index sub v) := by simp [writeDirect]

@[simp] theorem queued_execApertureWrite (tenant n value s) : Queued s.pending (execApertureWrite tenant n value s) := by simp [execApertureWrite]

@[simp] theorem queued_execTandemEnableWrite (value s) : Queued s.pending (execTandemEnableWrite value s) := by simp [execTandemEnableWrite]

@[simp] theorem queued_execSegModeChange (st high value s) : Queued s.pending (execSegModeChange st high value s) := by simp [execSegModeChange]

@[simp] theorem queued_execSlotSigningKeyWrite (n key s) : Queued s.pending (execSlotSigningKeyWrite n key s) := by simp [execSlotSigningKeyWrite]

@[simp] theorem queued_execDictWrite (index sub value s) : Queued s.pending (execDictWrite index sub value s) := by simp [execDictWrite]

@[simp] theorem queued_execTandemFenced (s) : Queued s.pending (execTandemFenced s) := by simp [execTandemFenced]

@[simp] theorem updBox_pending (s fn f) : (updBox s fn f).pending = s.pending := by simp [updBox]

@[simp] theorem unsubscribeIn_pending (s x f) : (unsubscribeIn s x f).pending = s.pending := by simp [unsubscribeIn]

@[simp] theorem dropHandshake_pending (s number) : (dropHandshake s number).pending = s.pending := by simp [dropHandshake]

@[simp] theorem queued_execStagingExpire (mailbox who s) : Queued s.pending (execStagingExpire mailbox who s) := by simp [execStagingExpire]

@[simp] theorem notifyAckIn_pending (s x f) : (notifyAckIn s x f).pending = s.pending := by simp [notifyAckIn]

@[simp] theorem queued_execSnapshotExpire (mailbox who s) : Queued s.pending (execSnapshotExpire mailbox who s) := by simp [execSnapshotExpire]

@[simp] theorem queued_execHandshakeExpire (number s) : Queued s.pending (execHandshakeExpire number s) := by
  unfold execHandshakeExpire
  split <;> simp

@[simp] theorem queued_execSessionIdle (number s) : Queued s.pending (execSessionIdle number s) := by
  unfold execSessionIdle
  split <;> simp

@[simp] theorem queued_execPrpSupervisionSend (s) : Queued s.pending (execPrpSupervisionSend s) := by simp [execPrpSupervisionSend]

@[simp] theorem challenge_pending (s net f) : (challenge s net f).pending = s.pending := by simp [challenge]

@[simp] theorem untaggedAbort_pending (s session trans code) : (untaggedAbort s session trans code).pending = s.pending := by simp [untaggedAbort]

@[simp] theorem frameAbort_pending (s number trans code) : (frameAbort s number trans code).pending = s.pending := by
  unfold frameAbort
  split <;> simp

@[simp] theorem prunePrp_pending (s sender) : (prunePrp s sender).pending = s.pending := by simp [prunePrp]

@[simp] theorem acceptSession_pending (s h f) : (acceptSession s h f).pending = s.pending := by simp [acceptSession]

@[simp] theorem queued_execPresenceSend (s) : Queued s.pending (execPresenceSend s) := by simp [execPresenceSend]

@[simp] theorem helloIn_pending (s net f) : (helloIn s net f).pending = s.pending := by
  unfold helloIn
  dsimp only
  repeat' split
  all_goals simp

@[simp] theorem readIn_pending (s x f) : (readIn s x f).pending = s.pending := by simp [readIn]

@[simp] theorem lanAccept_pending (s vlan prp) : (lanAccept s vlan prp).2.pending = s.pending := by
  unfold lanAccept
  dsimp only
  repeat' split
  all_goals simp

@[simp] theorem proveIn_pending (s h f) : (proveIn s h f).pending = s.pending := by
  unfold proveIn
  extract_lets h2 s1
  have h1 : s1.pending = s.pending := dropHandshake_pending _ _
  split
  · exact untaggedAbort_pending _ _ _ _
  split
  · exact untaggedAbort_pending _ _ _ _
  split
  · exact (untaggedAbort_pending _ _ _ _).trans h1
  split
  · exact (untaggedAbort_pending _ _ _ _).trans h1
  split
  · exact (untaggedAbort_pending _ _ _ _).trans h1
  · exact acceptSession_pending _ _ _

@[simp] theorem queued_execNotifyResend (number nseq s) : Queued s.pending (execNotifyResend number nseq s) := by
  unfold execNotifyResend
  dsimp only
  repeat' split
  all_goals simp

@[simp] theorem queued_onLan (s vlan prp f) (hf : ∀ u, (f u).pending = u.pending) : Queued s.pending (onLan s vlan prp f) := by
  simp [onLan, hf]

@[simp] theorem queued_execNeighbourSolicitation (port vlan prp target source s) :
    Queued s.pending (execNeighbourSolicitation port vlan prp target source s) := by
  simp [execNeighbourSolicitation]

@[simp] theorem queued_execArpRequest (port vlan prp target sender senderMac s) :
    Queued s.pending (execArpRequest port vlan prp target sender senderMac s) := by
  simp [execArpRequest]

@[simp] theorem queued_execIcmpEcho (vlan prp net fragment ident seq data s) :
    Queued s.pending (execIcmpEcho vlan prp net fragment ident seq data s) := by
  simp [execIcmpEcho]

@[simp] theorem queued_beginBox (fn s f) (hf : ∀ u, (f u).pending = u.pending) : Queued s.pending (beginBox fn s f) := by
  unfold beginBox; repeat' split
  all_goals simp [hf]

@[simp] theorem queued_execDictCmdRead (fn index sub offset s) : Queued s.pending (execDictCmdRead fn index sub offset s) := by simp [execDictCmdRead]

@[simp] theorem sendNotify_pending (s x u trans answer) : (sendNotify s x u trans answer).pending = s.pending := by
  unfold sendNotify
  dsimp only
  repeat' split
  all_goals simp

@[simp] theorem subscribeIn_pending (s x f) : (subscribeIn s x f).pending = s.pending := by simp [subscribeIn]

@[simp] theorem queued_execNotify (number index sub s) : Queued s.pending (execNotify number index sub s) := by
  unfold execNotify
  split <;> simp

@[simp] theorem presenceIn_pending (s f) : (presenceIn s f).pending = s.pending := by simp [presenceIn]

@[simp] theorem writeIn_pending (s x host ok f) : (writeIn s x host ok f).pending = s.pending := by
  unfold writeIn
  dsimp only
  repeat' split
  all_goals simp

@[simp] theorem queued_execDictCmdWrite (fn final index sub offset host ok s) :
    Queued s.pending (execDictCmdWrite fn final index sub offset host ok s) := by
  unfold execDictCmdWrite
  refine queued_beginBox _ _ _ fun _ => ?_
  dsimp only
  repeat' split
  all_goals simp

@[simp] theorem act_pending (s x host ok f) : (act s x host ok f).pending = s.pending := by
  unfold act
  split <;> simp

@[simp] theorem sessionIn_pending (s x host ok f) : (sessionIn s x host ok f).pending = s.pending := by simp [sessionIn]

@[simp] theorem frameIn_pending (s net host ok d) : (frameIn s net host ok d).pending = s.pending := by
  unfold frameIn
  dsimp only
  repeat' split
  all_goals simp

@[simp] theorem queued_frameRow (s vlan prp net host ok d) : Queued s.pending (frameRow s vlan prp net host ok d) := by simp [frameRow]

@[simp] theorem queued_execProve (vlan prp net datagram s) : Queued s.pending (execProve vlan prp net datagram s) := by simp [execProve]

@[simp] theorem queued_execNotifyAck (vlan prp net datagram s) : Queued s.pending (execNotifyAck vlan prp net datagram s) := by simp [execNotifyAck]

@[simp] theorem queued_execUnsubscribe (vlan prp net datagram s) : Queued s.pending (execUnsubscribe vlan prp net datagram s) := by
  simp [execUnsubscribe]

@[simp] theorem queued_execPresence (vlan prp net datagram s) : Queued s.pending (execPresence vlan prp net datagram s) := by simp [execPresence]

@[simp] theorem queued_execNirnarAbort (vlan prp net datagram s) : Queued s.pending (execNirnarAbort vlan prp net datagram s) := by
  simp [execNirnarAbort]

@[simp] theorem queued_execNirnarRead (vlan prp net datagram s) : Queued s.pending (execNirnarRead vlan prp net datagram s) := by
  simp [execNirnarRead]

@[simp] theorem queued_execHello (vlan prp net datagram s) : Queued s.pending (execHello vlan prp net datagram s) := by simp [execHello]

@[simp] theorem queued_execNirnarWrite (vlan prp net datagram host ok s) : Queued s.pending (execNirnarWrite vlan prp net datagram host ok s) := by
  simp [execNirnarWrite]

@[simp] theorem queued_execKeepalive (vlan prp net datagram s) : Queued s.pending (execKeepalive vlan prp net datagram s) := by simp [execKeepalive]

@[simp] theorem queued_execClose (vlan prp net datagram s) : Queued s.pending (execClose vlan prp net datagram s) := by simp [execClose]

@[simp] theorem queued_execSubscribe (vlan prp net datagram s) : Queued s.pending (execSubscribe vlan prp net datagram s) := by simp [execSubscribe]

@[simp] theorem queued_withTap (s f) (hf : ∀ u, (f u).pending = u.pending) : Queued s.pending (withTap s f) := by
  unfold withTap; split <;> simp [hf]

@[simp] theorem queued_withPldm (s f) (hf : ∀ u, (f u).pending = u.pending) : Queued s.pending (withPldm s f) := by
  unfold withPldm; split <;> simp [hf]

@[simp] theorem tapTake_pending (s ir fields) : (tapTake s ir fields).pending = s.pending := by simp [tapTake]

@[simp] theorem pldmAnswer_pending (s ty code fields data) : (pldmAnswer s ty code fields data).pending = s.pending := by simp [pldmAnswer]

@[simp] theorem queued_execEntdaa (address s) : Queued s.pending (execEntdaa address s) := by simp [execEntdaa]

@[simp] theorem queued_execSamplePreload (levels pattern s) : Queued s.pending (execSamplePreload levels pattern s) := by simp [execSamplePreload]

@[simp] theorem queued_boundaryOp (s ir drive) : Queued s.pending (boundaryOp s ir drive) := by simp [boundaryOp]

@[simp] theorem queued_execIdcode (s) : Queued s.pending (execIdcode s) := by simp [execIdcode]

@[simp] theorem queued_execBypass (s) : Queued s.pending (execBypass s) := by simp [execBypass]

@[simp] theorem queued_execExtestTrain (s) : Queued s.pending (execExtestTrain s) := by simp [execExtestTrain]

@[simp] theorem queued_execExtest (s) : Queued s.pending (execExtest s) := by simp [execExtest]

@[simp] theorem queued_execClamp (s) : Queued s.pending (execClamp s) := by simp [execClamp]

@[simp] theorem queued_execHighz (s) : Queued s.pending (execHighz s) := by simp [execHighz]

@[simp] theorem queued_execExtestPulse (s) : Queued s.pending (execExtestPulse s) := by simp [execExtestPulse]

@[simp] theorem pldmError_pending (s ty code) : (pldmError s ty code).pending = s.pending := by simp [pldmError]

@[simp] theorem queued_execPldmSensorRead (command sensor s) : Queued s.pending (execPldmSensorRead command sensor s) := by
  unfold execPldmSensorRead
  refine queued_withPldm _ _ fun _ => ?_
  repeat' split
  all_goals simp

@[simp] theorem queued_execPldmBaseDiscovery (ty command arg s) : Queued s.pending (execPldmBaseDiscovery ty command arg s) := by
  unfold execPldmBaseDiscovery
  repeat' split
  all_goals simp

@[simp] theorem queued_execPldmFruRead (command s) : Queued s.pending (execPldmFruRead command s) := by
  unfold execPldmFruRead
  split <;> simp

@[simp] theorem writeWin_pending (s fn i o bs) : (writeWin s fn i o bs).pending = s.pending := by simp [writeWin]

@[simp] theorem writeMsix_pending (s fn o v) : (writeMsix s fn o v).pending = s.pending := by
  unfold writeMsix
  split <;> simp

@[simp] theorem writePageUnit_pending (s fn o v) : (writePageUnit s fn o v).pending = s.pending := by simp [writePageUnit]

@[simp] theorem writeRingCfg_pending (s t r o bs) : (writeRingCfg s t r o bs).pending = s.pending := by
  unfold writeRingCfg
  repeat' split
  all_goals simp

@[simp] theorem writeDictCmd_pending (s fn v host ok) : (writeDictCmd s fn v host ok).pending = s.pending := by
  unfold writeDictCmd
  split <;> simp

@[simp] theorem writeBox_pending (s fn o bs host ok) : (writeBox s fn o bs host ok).pending = s.pending := by
  unfold writeBox
  repeat' split
  all_goals simp

@[simp] theorem writeBar0_pending (s fn o bs ep host ok) : (writeBar0 s fn o bs ep host ok).pending = s.pending := by simp [writeBar0]

@[simp] theorem queued_execRegWrite (ecs agent fn offset data ep host ok s) :
    Queued s.pending (execRegWrite ecs agent fn offset data ep host ok s) := by
  simp [execRegWrite]

/-- Every command leaves the queue as it was given. -/
theorem queued_exec (c : Instr) (s : State) : Queued s.pending (exec c s) := by
  unfold exec
  split <;> simp

/-- Settles O4: each command's own lemma above says it, and `exec` only chooses among the commands. -/
theorem queueIsLeftAlone : Obligations.QueueIsLeftAlone := by
  unfold Obligations.QueueIsLeftAlone
  intro c s t h
  have hq := queued_exec c s
  rwa [h] at hq

end Sys2Proof.Laws
end
